-- ==== Sys2Proof/Word.lean ====
section
/-! DEFINITION. The register word of R8 and the byte, with their plainest arithmetic. -/

namespace Sys2Proof

/-- A register of the module: 32 bits, little-endian (R8). -/
abbrev Word := BitVec 32

/-- One byte of memory, of a packet or of an image. -/
abbrev Byte := BitVec 8

end Sys2Proof
end

