-- ==== Sys2Proof/Syntax.lean ====
section
/-! DEFINITION. The commands of the block: one constructor per row of spec/opcode_table.json, in its order.
The table gives no operands, so each constructor carries what the rule of its row says comes from outside
(log entry 2). -/

namespace Sys2Proof

/-- A command to the module. -/
inductive Instr where
  /-- R45. Mains loss is declared (line below 70 VAC for 3 ms or bulk below 360 V). PFW asserts on SVC_PWR_STAT, source 0x118 and PWRFAIL#, and the loss-of-mains sequence starts. -/
  | powerFailWarning (byLine : Bool)
  /-- R46. The line has held 80 VAC or more for 200 ms after PFW, and PFW deasserts. -/
  | pfwDeassert
  /-- R130. The internal rails leave regulation. J2 holds the DRAM in retention when present; otherwise the memory content is lost. -/
  | railsFall
  /-- R47. J2 falls below 10.5 V during retention, so the recording memory content is lost and the loss is recorded. -/
  | retentionLost
  /-- R47. J2 enters or leaves the 10.8–13.2 V range, and RET_PRESENT follows. -/
  | retentionInputChange (inRange : Bool)
  /-- R123. The line holds 80 VAC or more for 100 ms after the rails have fallen, and a COLD start begins with PFC soft start. -/
  | coldReset (retSeconds : Nat)
  /-- R123. The line stays below 70 VAC for 3 ms before power-good, so the power stage stops and the start is abandoned. -/
  | startAbandoned
  /-- R123. Power-good is reached: clocks run, Vault self-tests start and memory training or self-refresh exit starts. -/
  | powerGood (testEn : Bool)
  /-- R98. The start-up self-tests complete, LOADING becomes 1 and image checking begins. -/
  | selftestComplete (pass : Bool)
  /-- R105. The loader finishes the checks of R83 on a flash slot at start, and the HST cluster frame is applied when the slot passes. -/
  | slotCheckComplete (readOk : Bool)
  /-- R425. DDR5 initialisation and training of the sub-channels completes, and the trained values are saved to the retention domain. -/
  | trainingComplete (failed : BitVec 16) (failStep : BitVec 4)
  /-- R123. All cluster frames are applied, LOADING falls and IMAGE_OK becomes 1. -/
  | framesApplied
  /-- R123. Outputs are released: STEP_ACT follows R27, V12 outputs start under EN, ALIVE gives its first edge and source RELEASED is raised. -/
  | release (railsOk : Bool) (audOk : Bool) (hstOk : Bool)
  /-- R121. A write of DEV_RST_CTL.MODULE with the right KEY puts memory in self-refresh and resets the whole module except the power stage. -/
  | moduleReset (v : Word)
  /-- R121. NSSR written with 0x4E56_4D65 starts a MODULE reset. -/
  | nvmSubsystemReset (v : Word)
  /-- R132. PFW deasserts with the rails still up after the loss-of-mains sequence, and a BROWNOUT reset runs. -/
  | brownoutReset
  /-- R130. At 2 ms after PFW, incomplete frames close with POWER_FAIL, open segments close and head outputs, CTX, TRG and SO turn off. -/
  | lossOfMainsClose
  /-- R130. At 8 ms after PFW, self-refresh entry begins, unsigned records are written with SIG_PENDING and write queues drain. -/
  | lossOfMainsSelfRefresh
  /-- R128. A write of xxx_CL_RST with KEY 0xA5C3 resets the named unit or every unit of the cluster outside the minimum service set, unless refused. -/
  | clusterReset (cl : Fin 16) (v : Word)
  /-- R128. The reset units take their reset and active-plane values within 100 µs and their fences are released. -/
  | clusterResetComplete (cl : Fin 16)
  /-- R124. PERST# goes low, so the endpoint holds its link down and the PCIe and NVMe scope of HST resets. -/
  | perstAssert
  /-- R124. PERST# rises and the link trains within 100 ms. -/
  | perstDeassert
  /-- R30. The power supervisor evaluates STEP_PWR every 1 ms from the measured J1 input power and the power state. -/
  | powerSupervisorEvaluate (inputMw : Nat)
  /-- R30. The input has stayed above 470 W for 10 ms (then every 100 ms), so STEP_PWR becomes one step slower. -/
  | stepPwrSlower
  /-- R30. The input has stayed at or below 440 W for 1 s, so STEP_PWR becomes one step faster. -/
  | stepPwrFaster
  /-- R51. The supervisor measures every V12 output at 1 kHz and updates SVC_HPWR_MEASn. -/
  | headOutputMeasure (meas : List (Nat × Nat) × Option Bool)
  /-- R51. An output exceeds 3.0 A for 1 ms or 4.0 A at any instant and switches off with TRIP_OC, raising 0x119. -/
  | tripOc (head : Fin 4 × Nat)
  /-- R51. An output stays below 10.8 V for 1 ms after start-up and switches off with TRIP_UV. -/
  | tripUv (head : Fin 4)
  /-- R51. The sum of outputs exceeds 100 W for 10 ms, so the highest-numbered output that is on switches off with TRIP_TOTAL. -/
  | tripTotal
  /-- R50. An output whose conditions all hold switches on with a 3.0 A current limit; outputs enabled together start 20 ms apart. -/
  | headOutputStart (head : Fin 4)
  /-- R50. An output completes its rise and reaches ON, and the port starts training. -/
  | headOutputOn (head : Fin 4)
  /-- R50. PRES of a head changes, so the output switches or reports NO_HEAD. -/
  | headPresenceChange (head : Fin 4) (present : Bool)
  /-- R52. A write of the EN bits enables or disables V12 outputs and clears TRIP states written to 0. -/
  | svcHpwrCtlWrite (v : Word)
  /-- R29. A write of DEV_CLK.STEP_LIMIT changes the host demand, and the active step is re-evaluated under R27. -/
  | stepLimitWrite (v : Word)
  /-- R28. Once every frame exposed under the old cap has passed its boundary point, CLK_PX switches glitch-free and pauses for 32 cycles. -/
  | clockSwitch
  /-- R28. The 32-cycle pause ends, the step change completes, SWITCHING clears and any waiting demand is acted on. -/
  | stepChanged
  /-- R31. Every cluster on a stream's pixel path reports the path empty after a frame, and pending changes apply. -/
  | boundaryPoint (stream : Fin 64)
  /-- R309. The lead Tally unit merges partials and writes the frame's Tally record within 1,500 cycles after the boundary point. -/
  | tallyWrite (stream : Fin 64)
  /-- R88. A write to a register without a row of its own takes effect by its access type, with structural fields protected while capture runs. -/
  | registerWrite (addr : BitVec 26) (be : BitVec 8) (wide : Bool) (lo : Word) (hi : Word)
  /-- R11. A read of an RC field returns its value and clears it. -/
  | readToClear (addr : BitVec 26) (wide : Bool)
  /-- R249. A read of a _LO register captures the upper part of its quantity for the matching _HI register. -/
  | captureRead (addr : BitVec 26)
  /-- R120. DEV_VLT_CMD with OP NOP does nothing. -/
  | nop
  /-- R108. The Vault reads and decrypts the inactive slot into the Escrow plane, unless the slot is refused or the Vault is busy. -/
  | loadEscrow (arg : BitVec 24)
  /-- R108. The Escrow load finishes steps 9 to 13, ESCROW_VALID is set and source 0x006 is raised. -/
  | escrowReady (readOk : Bool)
  /-- R112. ACTIVATE swaps the planes at once when not capturing, otherwise arms an activation that seeks a swap point. -/
  | activate
  /-- R111. CANCEL disarms an activation or stops a load and discards the Escrow, or returns BUSY. -/
  | cancel
  /-- R98. The SELFTEST command repeats the Vault self-tests at run time. -/
  | selftest
  /-- R98. A SELFTEST command completes and source SELFTEST_DONE is raised. -/
  | selftestDone (pass : Bool)
  /-- R102. An officer command raises the rollback floor to the running SEC_VERSION by burning fuses. -/
  | floorAdvance (arg : BitVec 24)
  /-- R96. An officer command burns the OTP revocation bit of a public-key slot. -/
  | revoke (arg : BitVec 24)
  /-- R119. An officer command overwrites the DRBG, Escrow and buffers, disables IEK and AK, and sets ZEROIZED. -/
  | zeroize (arg : BitVec 24)
  /-- R112. Every armed stream is held, so the Vault swaps the planes, hands over state and releases the taps. -/
  | swapPoint
  /-- R113. HOLD_MAX passes without every stream held, so the taps are released and a new attempt starts, or the activation ends with SWAP_TIMEOUT. -/
  | holdTimeout
  /-- R116. The Vault completes an AK signature, which ING writes into the record, and SEGMENT_SIGNED is raised. -/
  | signatureComplete
  /-- R100. A self-test or continuous health test fails, so the Vault enters ERROR and raises source 0x00A as FATAL. -/
  | vaultError
  /-- R158. A control-channel receiver sees three idle pairs without error and is in sync. -/
  | controlChannelSync (port : Fin 4)
  /-- R158. Four invalid code groups within 16 lose sync, and the packet in progress is discarded. -/
  | controlSyncLoss (port : Fin 4)
  /-- R149. Control-channel sync does not come within 5 s of V12 ON, so the port goes DOWN and raises CTL_ERR. -/
  | ctlSyncTimeout (port : Fin 4)
  /-- R149. Signal is detected and clock recovery locks on every bonded lane, and the lanes enter ADAPT. -/
  | cdrLock (port : Fin 4)
  /-- R149. The 16-setting CTLE sweep ends and the setting with the tallest middle eye is kept. -/
  | ctleSweepDone (port : Fin 4) (heights : List (List Nat))
  /-- R149. The DFE converges, and the module sends TRAIN DATA and enters AM_HUNT. -/
  | dfeConverged (port : Fin 4) (taps : List (List Int))
  /-- R149. Three AMs are accepted at the expected spacing on every lane, and the lanes become READY. -/
  | amLock (port : Fin 4)
  /-- R149. The lanes are deskewed on AM sequence number within 150 ns, the module sends TRAIN UP and the port enters UP. -/
  | portUp (port : Fin 4) (skewNs : Nat)
  /-- R149. A training step exceeds its limit, so failed lanes go to FAULT and training restarts, or goes DOWN after three attempts. -/
  | trainingTimeout (port : Fin 4) (failedLanes : BitVec 8)
  /-- R150. A lane in UP loses signal, CDR lock or four AMs, so the port stops delivering and retrains or goes DOWN. -/
  | laneFault (port : Fin 4) (lane : Fin 8)
  /-- R162. A write of LNK_PORT_CTL.RETRAIN restarts training from TRAIN PATTERN. -/
  | retrain (port : Fin 4)
  /-- R139. A lane's RS(544,514) codeword is decoded, corrected or marked uncorrectable, and its blocks are descrambled. -/
  | codewordDecode (lane : Fin 32) (symbols : List Nat)
  /-- R146. A short or long packet is checked and delivered to ING with its marks, or discarded and counted. -/
  | packetReceive (port : Fin 4)
  /-- R151. Every 2^(MU+6) symbols the DFE taps update by sign-sign LMS unless frozen. -/
  | dfeUpdate (lane : Fin 32) (signE : Int) (signD : List Int)
  /-- R155. A write of ESCTL.START starts an eye scan on a lane in UP, or is REFUSED otherwise. -/
  | eyeScanStart (lane : Fin 32) (v : Word)
  /-- R157. A write of ESCTL.ABORT ends the scan with ABORTED. -/
  | eyeScanAbort (lane : Fin 32)
  /-- R155. A grid point's dwell ends, its result word is written and the scan moves on or ends with DONE. -/
  | eyeScanPoint (lane : Fin 32) (errors : Nat)
  /-- R162. GO with READ 0 sends a WR request of LNK_HC_DATA to the head. -/
  | headWrite (port : Fin 4)
  /-- R162. GO with READ 1 sends an RD request of 4 bytes to the head. -/
  | headRead (port : Fin 4)
  /-- R159. A WR_ACK from the head completes a write request with DONE. -/
  | wrAck (port : Fin 4) (bytes : List Byte) (k297 : Bool)
  /-- R159. An RD_DATA from the head completes a read and loads LNK_HC_DATA. -/
  | rdData (port : Fin 4) (bytes : List Byte) (k297 : Bool)
  /-- R159. A TRAIN_ACK from the head acknowledges a TRAIN command. -/
  | trainAck (port : Fin 4) (bytes : List Byte) (k297 : Bool)
  /-- R159. An EPOCH_ACK from the head acknowledges the settings epoch, which ACKED records. -/
  | epochAck (port : Fin 4) (bytes : List Byte) (k297 : Bool)
  /-- R159. An unsolicited HEVENT from the head is latched in LNK_HC_EVT and raises HEAD_EVENT. -/
  | hevent (port : Fin 4) (bytes : List Byte) (k297 : Bool)
  /-- R159. A NAK from the head ends the request with NAK and its reason. -/
  | nak (port : Fin 4) (bytes : List Byte) (k297 : Bool)
  /-- R160. No response within 100 µs, so the request is resent with the same TAG, or ends with TIMEOUT after two resends. -/
  | controlResponseTimeout (port : Fin 4)
  /-- R166. An FS packet is matched to an outstanding exposure and opens its frame, resolving skipped exposures, or is discarded as UNSOLICITED. -/
  | fsReceive (port : Fin 4)
  /-- R168. An EXP packet sets EPOCH_APP of the open frame, or is discarded as LATE_EXP. -/
  | expReceive (port : Fin 4)
  /-- R168. A line packet is checked, stored with padding and flags, and enters the ingest buffer. -/
  | lineReceive (port : Fin 4)
  /-- R174. A metadata packet is appended to the frame's metadata block, or META_TRUNC is set. -/
  | metadataReceive (port : Fin 4)
  /-- R168. A sensor status packet is held in ING_PORT_SSTAT. -/
  | sensorStatusReceive (port : Fin 4)
  /-- R170. An FE packet closes the open frame, padding missing lines. -/
  | feReceive (port : Fin 4)
  /-- R167. No FS arrives NOFS µs after the trigger edge, so the exposure is resolved as a NO_FRAME gap. -/
  | nofsTimeout (head : Fin 4)
  /-- R170. FRAME µs after its FS, the open frame closes with MISSING_FE and FRAME_TIMEOUT. -/
  | frameTimeout (stream : Fin 64)
  /-- R179. The previous boundary point has passed and enough lines have arrived, so the frame starts at the tap. -/
  | tapStart (stream : Fin 64)
  /-- R177. A write of ING_GRPg_MASK sets the requested slot mask, or is refused when invalid. -/
  | groupMaskWrite (g : Fin 2) (v : Word)
  /-- R269. An entry whose fields are final and whose predecessor is written is written once and whole, with its chain value. -/
  | ledgerEntryWrite (part : Fin 32)
  /-- R200. SCH_TBLt_ECMD.WRITE writes EDATA into a compare entry, clears its status and runs the liveness check. -/
  | entryWrite (t : Fin 8)
  /-- R226. SCH_TBLt_ECMD.READ copies an entry into EDATA and its status into ESTAT. -/
  | entryRead (t : Fin 8)
  /-- R201. The axis crosses a live entry's value in a permitted direction, so the entry fires and advances, rearms or becomes DONE. -/
  | crossing (t : Fin 8) (e : Fin 4096) (rising : Bool) (tx : Nat)
  /-- R206. 64 ns before an output edge the predicted edge is committed and no longer moved. -/
  | edgeCommit (t : Fin 8) (e : Fin 4096)
  /-- R210. An EXPOSE action is admitted under the tests of R210 and sends TRG, or becomes a gap; slot, serial and ledger index are reserved. -/
  | expose (t : Fin 8) (e : Fin 4096)
  /-- R213. The TRG falling edge ends the pulse: after 100 ns in EDGE mode, at t_s + DUR − TLAT in WIDTH mode. -/
  | triggerPulseEnd (head : Fin 4)
  /-- R218. A STROBE action makes SOn conduct, extending or cutting other pulses. -/
  | strobe (t : Fin 8) (e : Fin 4096)
  /-- R218. The strobe width expires and SOn stops conducting. -/
  | strobeEnd (so : Fin 8)
  /-- R198. A MARK action writes a marker entry, triggers windows or stops streams by CODE. -/
  | mark (t : Fin 8) (e : Fin 4096)
  /-- R208. A FIRE action fires Clearing House channel CH. -/
  | fire (t : Fin 8) (e : Fin 4096)
  /-- R215. A write of SCH_EPCOMMIT makes the NEXT set pending for each named head and records t_e. -/
  | epcommit (v : Word)
  /-- R219. SCH_STRi_CMD.ARM arms an IDLE stream and opens its segment, after the re-checks of R89 and R127. -/
  | arm (stream : Fin 64)
  /-- R219. SCH_STRi_CMD.STOP moves an armed stream to CLOSING. -/
  | stop (stream : Fin 64)
  /-- R221. SCH_STRi_CMD.TRIG triggers the stream's window, fixing the trigger entry or being ignored. -/
  | trig (stream : Fin 64)
  /-- R222. The STR_TRIG(i) task input acts as TRIG for stream i. -/
  | strTrig (stream : Fin 64)
  /-- R222. The STR_STOP(i) task input acts as STOP for stream i. -/
  | strStop (stream : Fin 64)
  /-- R222. The TBL_EN(t) task input enables table t and runs R202 on its entries. -/
  | tblEn (t : Fin 8)
  /-- R222. The TBL_DIS(t) task input disables table t. -/
  | tblDis (t : Fin 8)
  /-- R262. Once the placed entries are written, unkept entries are freed, the SEGMENT entry and record are written, and signing is requested. -/
  | segmentClose (part : Fin 32)
  /-- R192. A positive-going mains zero crossing advances A5, updates T_avg and lock state. -/
  | mainsZeroCrossing (stamp : Nat)
  /-- R193. No crossing arrives within 1.5 × T_avg, so A5 unlocks and SCH_NOTICE is raised. -/
  | a5UnlockTimeout
  /-- R194. A trigger input change that held for the filter time is accepted, stamped, counted on A6 and may raise TI_EDGEn. -/
  | triggerInputEdge (n : Fin 8) (level : Bool) (stamp : Nat)
  /-- R230. A write of SCH_A6_CFG.CLR sets the A6 count to 0. -/
  | a6Clear (v : Word)
  /-- R235. An accepted A or B change moves the count by ±1 and updates speed, direction and predictions. -/
  | quadEdge (ax : Fin 4) (a : Bool) (b : Bool) (stamp : Nat)
  /-- R238. A qualified rising Z latches the count into IDXLAT. -/
  | indexLatch (ax : Fin 4)
  /-- R240. An accepted Hall state change counts ±1 or raises HALL_SKIP or HALL_ILLEGAL. -/
  | hallSectorChange (ax : Fin 4) (u : Bool) (v : Bool) (w : Bool) (stamp : Nat)
  /-- R237. A used receiver sees less than 100 mV for 1 µs, so VALID goes to 0 and LOST to 1. -/
  | wireFault (ax : Fin 4)
  /-- R237. Every used line has been good for 1 ms, so VALID returns to 1. -/
  | wireRecovery (ax : Fin 4)
  /-- R241. A serial axis read starts at its period tick, or after the recovery time. -/
  | serialReadStart (ax : Fin 4) (stamp : Nat) (datHigh : Bool)
  /-- R242. A serial frame is checked and its Δ applied to the count, or the read is rejected. -/
  | serialReadDone (ax : Fin 4) (bits : List Bool)
  /-- R241. DAT stays low or the BiSS ack does not come in time, so the read ends with SER_TIMEOUT. -/
  | serTimeout (ax : Fin 4)
  /-- R244. STILL ms pass after the last count change, so the reported speed becomes 0. -/
  | standstill (ax : Fin 4)
  /-- R247. AnENC5V exceeds 300 mA for 100 µs and folds back to 50 mA. -/
  | supplyFoldback (ax : Fin 4) (mA : Nat)
  /-- R247. The supply stays above 4.75 V for 10 ms and returns to ON. -/
  | supplyRecovery (ax : Fin 4) (mA : Nat)
  /-- R248. A write of SET_HI loads SET_HI:SET_LO as the count and clears the speed history. -/
  | axisSet (ax : Fin 4) (v : Word)
  /-- R264. ING_PART_CMD.RELEASE frees every entry, slot and table position of one closed segment. -/
  | segmentRelease (part : Fin 32) (v : Word)
  /-- R264. ING_PART_CMD.ERASE releases every segment, resets the write pointer and zeroes the ledger range. -/
  | erase (part : Fin 32)
  /-- R304. A write of PIX_SWAP.SWAP sets SWAP_PENDING, or exchanges the banks at once when the stream is not armed. -/
  | pixSwap (pix : Fin 4) (v : Word)
  /-- R341. COR_Jj_CMD.START runs the checks and moves the job to PREPARING or ERROR. -/
  | jobStart (j : Fin 4)
  /-- R341. COR_Jj_CMD.STOP ends live queuing or post-tracking of a job. -/
  | jobStop (j : Fin 4)
  /-- R327. The reference copy and prepared records are complete, so the job enters RUNNING. -/
  | preparationDone (j : Fin 4)
  /-- R340. A tracked frame finishes, its results are written and the engine chooses the next frame. -/
  | trackedFrameEnd
  /-- R349. A gauge's last named context result is final, so its value is formed and it may fire. -/
  | gaugeEvaluate (g : Fin 64)
  /-- R364. A write of CMP_QTAIL submits descriptors to the compression queue. -/
  | qtailWrite (v : Word)
  /-- R361. An engine selects a COMPRESS job and codes frames into the lossless format. -/
  | compress (eng : Fin 8)
  /-- R363. An engine selects a DECOMPRESS job and decodes coded frames into slots. -/
  | decompress (eng : Fin 8)
  /-- R371. An engine selects a DESTRIP job and converts strip frames into PACKED slots. -/
  | destrip (eng : Fin 8)
  /-- R370. A RESUME descriptor continues a stopped job from its state record, or ends with BAD_STATE. -/
  | jobResume (eng : Fin 8)
  /-- R369. A whole block is written, and the job stops for output space, input end, preemption, PFW or swap, or continues. -/
  | blockBoundary (eng : Fin 8)
  /-- R395. VID_ENCc_CMD.START runs the checks and moves the channel to RUNNING or ERROR. -/
  | encoderStart (c : Fin 8)
  /-- R395. VID_ENCc_CMD.STOP lets the picture in coding finish and the channel go IDLE. -/
  | encoderStop (c : Fin 8)
  /-- R385. The IDR request makes the next picture an IDR. -/
  | requestIdr (c : Fin 8)
  /-- R386. The REFRESH request starts a new IDR or GDR refresh at the next picture. -/
  | requestRefresh (c : Fin 8)
  /-- R381. The HEADER request inserts the host parameter sets in the next access unit. -/
  | requestHeader (c : Fin 8)
  /-- R388. The next picture is stored in long-term slot SLOT. -/
  | markLt (c : Fin 8) (slot : Fin 4)
  /-- R388. The named long-term slots are emptied at the next picture. -/
  | clearLt (c : Fin 8) (mask : BitVec 4)
  /-- R388. The named long-term slots become usable references. -/
  | useLt (c : Fin 8) (mask : BitVec 4)
  /-- R378. A free encode core takes a ready channel, commits its RWS and requests and starts a picture. -/
  | pictureStart (core : Fin 4)
  /-- R387. A coded slice is written as an output entry with its descriptor, and ENC_DONE is raised after the last slice. -/
  | sliceOutput (c : Fin 8)
  /-- R393. A write of VID_ENCc_RDPTR frees output ring space, or is refused when it passes WRPTR. -/
  | encoderRdptrWrite (c : Fin 8) (v : Word)
  /-- R397. VID_DECd_CMD.START begins decoding, discarding until the first IRAP or recovery point. -/
  | decoderStart (d : Fin 2)
  /-- R405. VID_DECd_CMD.STOP ends decoding at the next NAL boundary and discards the DPB. -/
  | decoderStop (d : Fin 2)
  /-- R397. VID_DECd_CMD.EOS outputs every picture still in the DPB once the available bytes are decoded. -/
  | decoderEos (d : Fin 2)
  /-- R397. A write of INWR makes more input bytes available, or is refused when it overfills the ring. -/
  | inwrWrite (d : Fin 2) (v : Word)
  /-- R398. A decoded picture is output into a buffer with its descriptor, and DEC_DONE is raised. -/
  | decodedPicture (d : Fin 2)
  /-- R400. The picture watchdog expires, so the picture ends and its remaining CTUs are concealed. -/
  | decodeWatchdog (d : Fin 2)
  /-- R401. An RTP packet of a coded entry is sent on the NET port at the paced time. -/
  | rtpPacketSend (c : Fin 8)
  /-- R414. A port request reaches the memory controller and gets a status, queued by class. -/
  | portRequest (port : Fin 16) (isWrite : Bool) (addr : Nat) (len : Nat) (data : List Byte) (locked : Bool)
  /-- R417. A write's WR command issues with data and check bits, and the write retires. -/
  | writeRetire (sc : Fin 16) (bank : Fin 32)
  /-- R430. A read burst is decoded by the outer code and returned OK, corrected or POISON. -/
  | readDecode (sc : Fin 16) (local_ : Nat) (errs : List (Nat × Nat))
  /-- R423. tREFI expires and the debt of a bank index rises. -/
  | refreshDue (sc : Fin 16) (b : Fin 4)
  /-- R419. Every 1 µs each bulk purse gains REFILL/16 coins up to PURSE. -/
  | coinRefill
  /-- R422. Overdraft has lasted STARVE µs, so the controller enters the floor and raises OD_FLOOR. -/
  | floorEntry
  /-- R432. A scrub burst is read and written back corrected where needed. -/
  | scrubRead (sc : Fin 16) (errs : List (Nat × Nat))
  /-- R427. Every 128 ms the DQS oscillator is read and write DQ delays adjusted. -/
  | periodicTraining (sc : Fin 16) (drift : Int)
  /-- R433. Every present sub-channel is in self-refresh, and ALIVE stops in the loss-of-mains sequence. -/
  | srEntered
  /-- R434. The controller issues self-refresh exit and runs the non-writing training steps. -/
  | selfRefreshExit
  /-- R434. Exit completes on every sub-channel and requests are served again. -/
  | srExited
  /-- R424. A DRAM component reports above 85 °C, so HOT is set and tREFI halves. -/
  | dramHot (sc : Fin 16)
  /-- R444. A doorbell write through BAR0 or the BAR2 mirror updates a queue tail or head. -/
  | doorbellWrite (off : Nat) (v : Word)
  /-- R447. The Teller fetches commands from a submission queue on its arbitration turn. -/
  | commandFetch (q : Fin 65) (cmds : List (List Byte × List Byte))
  /-- R447. A fetched command obtains one of the 8 transfer slots and starts its data transfer. -/
  | dataTransferStart (q : Fin 65) (cid : BitVec 16)
  /-- R452. A Read command transfers blocks of a namespace to the host, or completes with an error. -/
  | nvmRead (q : Fin 65) (cid : BitVec 16)
  /-- R452. A Write command writes locked blocks into a namespace, or is refused. -/
  | nvmWrite (q : Fin 65) (cid : BitVec 16)
  /-- R455. A Flush completes once every earlier write in its queue has completed. -/
  | nvmFlush (q : Fin 65) (cid : BitVec 16)
  /-- R459. Firmware Image Download writes a piece into the inactive slot, or waits while the Vault uses the flash. -/
  | firmwareImageDownload (cid : BitVec 16)
  /-- R104. Firmware Commit CA 0b000 verifies the inactive slot with steps 1 to 8 of R83. -/
  | commitVerify (cid : BitVec 16)
  /-- R104. Firmware Commit CA 0b001 verifies the inactive slot and selects it for the next start. -/
  | commitVerifySelect (cid : BitVec 16)
  /-- R104. Firmware Commit CA 0b010 selects the named slot for the next start. -/
  | commitSelect (cid : BitVec 16)
  /-- R104. Firmware Commit CA 0b011 verifies, loads Escrow and activates, completing at the end of the activation. -/
  | commitActivate (cid : BitVec 16)
  /-- R460. Vendor command 0xC1 delivers an officer authorisation record. -/
  | officerAuth (cid : BitVec 16)
  /-- R460. Vendor command 0xC2 returns a Vault public key. -/
  | readKey (cid : BitVec 16)
  /-- R460. Vendor command 0xC6 returns the AK certificate. -/
  | readAkCert (cid : BitVec 16)
  /-- R460. Vendor command 0xCE returns the region-to-class map. -/
  | nsMap (cid : BitVec 16)
  /-- R463. Set Features Power Management enters a power state, or is refused with CAPTURE_ACTIVE or SEGMENTS_HELD. -/
  | setPowerState (cid : BitVec 16)
  /-- R447. Set Features Arbitration sets burst and class weights. -/
  | setArbitration (cid : BitVec 16)
  /-- R446. Set Features Number of Queues reports 63 in both halves. -/
  | setNumberOfQueues (cid : BitVec 16)
  /-- R464. Set Features FID 0x0C writes the APST table. -/
  | setApst (cid : BitVec 16)
  /-- R461. Set Features Asynchronous Event Configuration masks event types. -/
  | setAsyncEventConfig (cid : BitVec 16)
  /-- R443. Create I/O Completion Queue makes a queue, refusing vectors 65 and above. -/
  | createIoCompletionQueue (cid : BitVec 16)
  /-- R448. Identify Namespace returns a namespace's data, or zeros for an inactive namespace 5. -/
  | identifyNamespace (cid : BitVec 16)
  /-- R552. Get Log Page 0xC0 returns the Fault Ledger page without clearing it. -/
  | getLogFaultLedger (cid : BitVec 16)
  /-- R459. The Firmware Slot Information log reports the FR string of each slot. -/
  | getLogFirmwareSlot (cid : BitVec 16)
  /-- R461. An Asynchronous Event Request waits for the next event to post. -/
  | asynchronousEventRequest (cid : BitVec 16)
  /-- R123. CC.EN set to 1 makes CSTS.RDY follow after release. -/
  | controllerEnable (cc : Word)
  /-- R456. CC.EN from 1 to 0 aborts outstanding commands, deletes I/O queues and clears CSTS.RDY. -/
  | controllerReset
  /-- R456. CC.SHN stops command fetch while commands in progress complete. -/
  | shutdownNotification (shn : BitVec 2)
  /-- R456. Commands in progress have completed and CSTS.SHST becomes 0b10. -/
  | shutdownComplete
  /-- R464. The APST idle time expires, so the controller moves autonomously to PS3 or PS4. -/
  | apstTransition
  /-- R124. The PCIe link trains and enters UP. -/
  | pcieLinkUp (speed : Nat) (width : Nat)
  /-- R468. The PCIe link leaves UP. -/
  | pcieLinkDown
  /-- R472. MINT_CMD.SET loads the Mint from MINT_SET_SEC and MINT_SET_NS. -/
  | mintSet
  /-- R472. MINT_CMD.STEP adds the signed step to the Mint. -/
  | mintStep
  /-- R472. MINT_CMD.RATE loads RATE from MINT_RATE. -/
  | mintRate
  /-- R474. The watchdog runs WD ms without an update, so SERVO becomes HOLDOVER. -/
  | holdover
  /-- R476. A PPS_IN rising edge held 100 ns is accepted and latched, or ignored as early. -/
  | ppsInEdge (stamp : Nat)
  /-- R476. No PPS_IN edge within 1,100 ms, so PPS_MISSING counts and PPS_FAULT is raised. -/
  | ppsMissing
  /-- R477. The Mint reaches N s plus OFFSET and PPS_OUT rises. -/
  | ppsOutPulse
  /-- R477. WIDTH µs after its rise, PPS_OUT falls. -/
  | ppsOutEnd
  /-- R479. A port enters or leaves UP and LINK_CHANGE is raised. -/
  | ethernetLinkChange (port : Fin 2) (blockLock : Bool) (fecLock : Bool) (localFault : Bool) (remoteFault : Bool) (rxLos : Bool)
  /-- R479. MOD_ABS or TX_FAULT changes and CAGE is raised. -/
  | cageChange (port : Fin 2) (modAbs : Bool) (txFault : Bool) (rxLos : Bool)
  /-- R480. A received frame is stamped, filtered and written to RQ0 or RQ1, or discarded. -/
  | ethernetFrameReceive (port : Fin 2) (frame : List Byte) (stamp : Nat) (desc : List Byte)
  /-- R483. A transmit descriptor is processed by priority: the frame is sent and stamped, with one-step update, or completes with an error. -/
  | ethernetFrameTransmit (port : Fin 2) (queue : Fin 3) (desc : List Byte) (frame : List Byte) (stamp : Nat)
  /-- R482. A write of a ring TAIL hands descriptors to the port, or is refused. -/
  | ringTailWrite (port : Fin 2) (ring : Fin 5) (v : Word)
  /-- R487. MODI2C.GO starts a byte access on the cage two-wire bus. -/
  | moduleI2cAccess (port : Fin 2) (v : Word)
  /-- R487. The byte access ends with DONE or NAK. -/
  | moduleI2cDone (port : Fin 2) (ack : Bool) (data : Byte)
  /-- R493. OUT_DHd_CMD.START starts a head, placing its first frame start on the Mint seconds. -/
  | displayStart (d : Fin 3)
  /-- R501. OUT_DHd_CMD.STOP starts the head's stop sequence. -/
  | displayStop (d : Fin 3)
  /-- R498. OUT_DHd_CMD.COMMIT sets PENDING, or applies at once while IDLE. -/
  | displayCommit (d : Fin 3)
  /-- R493. A head's frame starts: layers take buffers, PSR state advances and FRAME_START is raised. -/
  | displayFrameStart (d : Fin 3) (psrAck : Bool)
  /-- R501. HPD rises after START, and DPCD reading and link training begin. -/
  | hpdHigh
  /-- R501. HPD does not rise within 200 ms, so the head enters ERROR with NO_HPD. -/
  | hpdTimeout
  /-- R501. eDP link training completes, or fails with TRAIN_FAIL. -/
  | edpLinkTrained (ok : Bool)
  /-- R502. HPD stays low more than 2 ms, so the head stops and enters ERROR with HPD_LOST. -/
  | hpdLost
  /-- R502. A short HPD low pulse makes the head read link status and retrain once if needed. -/
  | hpdPulse (lockLost : Bool)
  /-- R501. 50 ms after the main link goes off, PANEL_VCC_EN falls. -/
  | panelPowerOff
  /-- R501. 500 ms after PANEL_VCC_EN falls, the eDP head reaches IDLE. -/
  | headIdle
  /-- R499. A layer's sample is not in its FIFO, so the layer is blanked for the rest of the frame. -/
  | underrun (d : Fin 3) (layer : Fin 4)
  /-- R516. A Z preamble ends the previous receiver block and starts a new one, or discards it on a full ring. -/
  | aesBlockStart (rx : Fin 2) (stamp : Nat) (frames : List Nat) (fs : Nat)
  /-- R515. A receiver locks or unlocks and RX_LOCK is raised. -/
  | aesLockChange (rx : Fin 2) (lock : Bool) (rate : BitVec 4) (frames : List Nat)
  /-- R518. OUT_AESTX_CMD.START places the first Z preamble on the Mint seconds. -/
  | aesTxStart
  /-- R523. OUT_AESTX_CMD.STOP turns the output off after the frame in progress. -/
  | aesTxStop
  /-- R518. At each Z preamble the transmitter sends the block at HEAD, or an underrun block. -/
  | aesTxPreamble (stamp : Nat)
  /-- R519. A write of TAIL hands blocks to the transmitter, or is refused. -/
  | aesTxTailWrite (v : Word)
  /-- R532. Events reaching a channel pass the loop, merge, gate and refractory stages and are delivered to its consumer. -/
  | channelEvent (n : Fin 64)
  /-- R536. A write of SVC_CH_FIRE fires the named channels with lineage 0. -/
  | softwareFire (hi : Bool) (v : Word)
  /-- R529. The SET_LATCH(k) task sets latch k. -/
  | setLatch (k : Fin 16)
  /-- R529. The CLR_LATCH(k) task clears latch k. -/
  | clrLatch (k : Fin 16)
  /-- R529. A write of SVC_CH_LATCH_SET sets latches. -/
  | latchSetWrite (v : Word)
  /-- R527. A channel event on SOn makes the output conduct for WIDTH µs, subject to Schedule pulses. -/
  | channelStrobe (so : Fin 8)
  /-- R542. The events of a CLK_SVC cycle are classified and their reactions taken in ascending source order. -/
  | auditorEvent
  /-- R543. A source's window W runs out before N, so its counter returns to 0. -/
  | windowExpiry (x : Fin 288)
  /-- R548. A write of SVC_AUD_FENCE with the right KEY fences the named unit or cluster, or is refused. -/
  | hostFence (v : Word)
  /-- R549. 2 ms into the safe state, incomplete frames and open segments close and outputs take reset states. -/
  | safeStateClose
  /-- R549. By 40 ms, queued records are signed, CLK_PX stops and CSTS.CFS becomes 1. -/
  | safeStateClockStop
  /-- R571. A write of SVC_AUD_SRCx_CFG or _WIN closes the source's window and zeroes its counter. -/
  | sourceConfigWrite (x : Fin 288) (win : Bool) (v : Word)
  /-- R555. A write of SVC_AUD_INJ arms fault injection on the selected checker, or is refused. -/
  | injectionWrite (sel : Bool) (v : Word)
  /-- R554. Each 500 µs ALIVE toggles if the Auditor heartbeat arrived, and otherwise stops. -/
  | aliveHalfPeriod (heartbeat : Bool)
  /-- R554. The Auditor copies disagree, the heartbeat stops and the module enters the state of R37. -/
  | lockstepDisagreement
  /-- R557. Each ms the thermal unit reads 16 sensors, judges them, forms zone values and moves zone states. -/
  | thermalMeasurement (readings : List Int)
  /-- R561. GRACE ends in REQUEST with the value at throttle, so the zone enters ENFORCED and STEP_THERM slows. -/
  | graceEnd (zone : Fin 2)
  /-- R562. A measured value has been at throttle for 2 s in ENFORCED, so the zone demands one step slower. -/
  | thermalEscalation (zone : Fin 2)
  /-- R562. The value has been below throttle − 5 °C for 2 s, so the zone demands one step faster. -/
  | thermalRelease (zone : Fin 2)
  /-- R560. Every sensor of a held zone has risen slowly for 1 s, so the rise hold ends. -/
  | riseHoldEnd (zone : Fin 2)
  /-- R563. The analog comparator removes the die and DRAM rails at 125 °C junction or 75 °C module. -/
  | thermalCutoff
  /-- R54. The host reads the VPD at SMBus address 0x50. -/
  | vpdRead (off : Nat) (len : Nat)
  /-- R565. Telemetry command 0x00 returns the identity bytes. -/
  | telemetryIdentity
  /-- R565. Telemetry command 0x10 returns the zone values. -/
  | telemetryZones
  /-- R565. Telemetry command 0x11 returns the 16 sensor readings. -/
  | telemetrySensors
  /-- R565. Telemetry command 0x12 returns SVC_TH_STAT. -/
  | telemetryThermalStatus
  /-- R565. Telemetry command 0x20 returns SVC_PWR_STAT. -/
  | telemetryPowerStatus
  /-- R565. Telemetry command 0x21 returns the J1 input power. -/
  | telemetryInputPower
  /-- R565. Telemetry command 0x22 returns SVC_HPWR_STAT. -/
  | telemetryHeadPower
  /-- R565. Telemetry command 0x30 returns DEV_CLK. -/
  | telemetryClock
  /-- R565. Telemetry command 0x40 returns the first 16 bytes of log page 0xC0. -/
  | telemetryFaultSummary
  /-- R565. Telemetry command 0x41 returns the first FATAL entry. -/
  | telemetryFirstFatal
  /-- R62. The JTAG BYPASS instruction, and any instruction not accepted, selects the bypass register. -/
  | tapBypass (ir : BitVec 8)
  /-- R62. The JTAG IDCODE instruction returns 0x1C48_0A5F. -/
  | tapIdcode
  /-- R62. The JTAG SAMPLE/PRELOAD instruction samples the boundary cells. -/
  | tapSamplePreload (pins : List Bool)
  /-- R62. In boundary-scan mode the JTAG EXTEST instruction drives the boundary cells. -/
  | tapExtest (cells : List Bool)
  /-- R424. Every DRAM component again reports 85 °C or below, so MEM_STAT.HOT clears and tREFI returns to 3.9 µs. -/
  | dramHotClear (sc : Fin 16)
  /-- R104. The verification of the inactive slot by a Firmware Commit with CA 0b000 or 0b001, including any delta expansion, ends; the slot is selected where asked and the command completes. -/
  | firmwareVerifyComplete (readOk : Bool)
  /-- R446. The admin command Create I/O Submission Queue creates one of the 64 I/O submission queues with its priority class, and HST_TELLER.IOQ counts it. -/
  | createIoSubmissionQueue (cid : BitVec 16)
  /-- R445. The admin command Identify Controller returns the fixed controller values, including MN, SN and the FR string of the running image. -/
  | identifyController (cid : BitVec 16)
  /-- R462. A power-state entry or exit completes within its latency, HST_PWR.PS takes the target state and source PS_CHANGE is raised. -/
  | psChange
  /-- R499. A fetching layer's FIFO falls below OD_LOW as samples are sent, so the display port raises Overdraft, source 0x108. -/
  | displayPortOverdraft (d : Fin 3) (layer : Fin 4) (level : Nat × Bool)
  /-- R563. After a thermal cutoff, the line has stayed below 70 VAC for 100 ms, so the power stage stops holding the rails off and a later COLD start becomes possible. -/
  | mainsOffAfterCutoff
  deriving DecidableEq, Repr

end Sys2Proof
end

