-- ==== Sys2Proof/Config.lean ====
section
/-! DEFINITION. What one part of the family fixes and the values the spec leaves open. Each is an opaque constant: nothing
can be proved of its value. A numbered value (DRBG outputs, coded bits) is taken in order by a counter in State. -/

namespace Sys2Proof.Config

/-- AES-256 image key IEK of this part (R96). -/
opaque iek : BitVec 256

/-- The AK private key as a number (R96); its public key follows from it. -/
opaque akPrivate : Nat

/-- Outputs of the DRBG, in order (R95): the per-signature k. -/
opaque drbg : Nat → Nat

/-- Officer nonces, in order (R118). -/
opaque nonce : Nat → BitVec 128

/-- SHA-384 digests of VK0 to VK3 in OTP (R96), each as a 384-bit number. -/
opaque vkDigest : Nat → BitVec 384

/-- Byte `i` of the AK certificate (R117), and its length. -/
opaque akCert : Nat → Byte
opaque akCertLen : Nat

/-- Byte `i` of the VPD EEPROM (R54). -/
opaque vpd : Nat → Byte

/-- Bytes of Identify Controller, of Identify Namespace of a namespace, and of a log page past its end, that no rule
gives (R445, R448). -/
opaque identByte : Nat → Byte
opaque identNs : Nat → Nat → Byte
opaque logByte : Nat → Byte

/-- ECS error counts of the three components at a pass end, in order of readout (R431). -/
opaque ecsCount : Nat → BitVec 24

/-- Component, bank and row with the most ECS errors at a pass end, in order of readout (R431). -/
opaque ecsRow : Nat → BitVec 30

/-- The temperature range a component above 85 °C reports, in order of report (R439). -/
opaque dramTemp : Nat → BitVec 3

/-- The module serial of the VPD, 8 bytes as one little-endian number (R274). -/
opaque moduleId : BitVec 64

/-- Whether an image, by its digest, runs a stream in DECIMATE mode (R36); else in SYNC mode. -/
opaque decimate : List Byte → Nat → Bool

/-- The stream rate that an image, by its digest, declares, in frames/s (R36). -/
opaque streamRate : List Byte → Nat → Nat

/-- The AnENC5V load in mA that an image, by its digest, declares for axis A1 to A4 (0 to 3): no register holds it (R86). -/
opaque encLoad : List Byte → Nat → Nat

/-- The line time of the heads of a group in ps that an image, by its digest, declares (R180): no register holds it. -/
opaque lineTime : List Byte → Nat → Nat

/-- How many ulp, less 2, the result of a transfer formula of R296 lies above the nearest one, by MODE and input: the spec
bounds it by 2 ulp to either side and leaves it open. -/
opaque transferUlp : Nat → BitVec 32 → Fin 5

/-- What the order of the sums of an iteration moves a parameter by, in order (R332): a signed fraction of the bound. -/
opaque corDev : Nat → BitVec 16

/-- How many ulp, less 1, a ZNCC value lies above the nearest one, in order (R332: the order of the sums is open). -/
opaque corUlp : Nat → Fin 3

/-- What the correlation engine takes for the raw value of a pixel of a slot, by its address, that holds none. -/
opaque corRaw : Nat → Nat → Nat → BitVec 16

/-- Cycles that the correlation engine waits for coins on a frame, in order (R350). -/
opaque corWait : Nat → Nat

/-- Numbers, decisions and coded bytes of the HEVC channels that the spec leaves to the hardware, in order (R381). -/
opaque vidWord : Nat → Nat
opaque vidFlag : Nat → Bool
opaque vidByte : Nat → Nat → Byte

/-- Sample `i` of decoded picture `n` (ITU-T H.265, R398). -/
opaque decSample : Nat → Nat → BitVec 10

/-- Open words of OUT, in order: FS of a block that a loss of lock ended (R516); the value of a binary16 code that is no
number (R495). -/
opaque outWord : Nat → BitVec 32
opaque outHalf : BitVec 16 → BitVec 32

/-- Open decisions of OUT, in order: video restarts one frame after a panel self-refresh update (R503). -/
opaque outFlag : Nat → Bool

/-- The current of AnENC5V of axis A1 to A4 (0 to 3) in mA at a time of CLK_SVC, where no command has reported one
(R252). -/
opaque supMa : Nat → Nat → Nat

end Sys2Proof.Config
end

