-- ==== Sys2Proof/Machine/Map.lean ====
section
/-! DEFINITION. The one sparse table of the model (registers, memory bytes, per-index records): a list of keys and
values in canonical form, keys strictly rising, no entry equal to what an unlisted key reads as. Bit fields and byte
order stand here too. -/

namespace Sys2Proof.Machine

/-- A sparse table: keys strictly rising, no value equal to the default of its key (see `Map.wf`). -/
abbrev Map (α : Type) := List (Nat × α)

/-- The value at key `k`; an unlisted key reads `d k`. -/
def Map.get {α : Type} (d : Nat → α) : Map α → Nat → α
  | [], k => d k
  | (a, v) :: m, k => if a = k then v else Map.get d m k

/-- Insert in key order. -/
def Map.put {α : Type} : Map α → Nat → α → Map α
  | [], k, v => [(k, v)]
  | (a, w) :: m, k, v => if a < k then (a, w) :: Map.put m k v else (k, v) :: (a, w) :: m

/-- Remove every entry of key `k`. -/
def Map.del {α : Type} : Map α → Nat → Map α
  | [], _ => []
  | (a, w) :: m, k => if a = k then Map.del m k else (a, w) :: Map.del m k

/-- Set the value at `k`; writing the default removes the entry, so equal tables are equal lists. -/
def Map.set {α : Type} [DecidableEq α] (d : Nat → α) (m : Map α) (k : Nat) (v : α) : Map α :=
  if v = d k then Map.del m k else Map.put (Map.del m k) k v

/-- The canonical form: keys strictly rising, no entry equal to the default of its key. -/
def Map.wf {α : Type} [DecidableEq α] (d : Nat → α) : Map α → Bool
  | [] => true
  | (a, v) :: m => decide (v ≠ d a) && m.all (fun p => decide (a < p.1)) && Map.wf d m

/-- Field of `w` bits at bit `lo` of a register (R8: NAME.FIELD). -/
def fget (v : Word) (lo w : Nat) : Nat := (v.toNat >>> lo) % 2 ^ w

/-- The mask of `w` bits at bit `lo`. -/
def fmask (lo w : Nat) : Word := BitVec.ofNat 32 ((2 ^ w - 1) <<< lo)

/-- `v` with its field of `w` bits at `lo` replaced by `n` (mod 2^w). -/
def fset (v : Word) (lo w n : Nat) : Word :=
  (v &&& ~~~ fmask lo w) ||| BitVec.ofNat 32 ((n % 2 ^ w) <<< lo)

/-- Bit `i` of a register. -/
def bit (v : Word) (i : Nat) : Bool := v.getLsbD i

/-- Add `n`, saturating at 0xFFFF_FFFF (the RC counters). -/
def satAdd (v : Word) (n : Nat) : Word := BitVec.ofNat 32 (min (v.toNat + n) 0xFFFFFFFF)

/-- `n` as `k` bytes, least significant first. -/
def leBytes : Nat → Nat → List Byte
  | 0, _ => []
  | k + 1, n => BitVec.ofNat 8 n :: leBytes k (n / 256)

/-- A little-endian number from bytes. -/
def leNat : List Byte → Nat
  | [] => 0
  | b :: bs => b.toNat + 256 * leNat bs

/-- A big-endian number from bytes. -/
def beNat (bs : List Byte) : Nat := bs.foldl (fun n b => n * 256 + b.toNat) 0

/-- `n` as `k` bytes, most significant first. -/
def beBytes (k n : Nat) : List Byte := (leBytes k n).reverse

/-- The `n` bytes from index `i`, short at the end of the list. -/
def slice {α : Type} (l : List α) (i n : Nat) : List α := (l.drop i).take n

/-- Little-endian field of `n` bytes at byte offset `i` of a record. -/
def leAt (l : List Byte) (i n : Nat) : Nat := leNat (slice l i n)

/-- Two's-complement reading of the low `w` bits of `n`. -/
def sext (w n : Nat) : Int :=
  if n % 2 ^ w < 2 ^ (w - 1) then (n % 2 ^ w : Nat) else ((n % 2 ^ w : Nat) : Int) - (2 ^ w : Nat)

/-- The low `w` bits of an integer, as a natural number. -/
def toBits (w : Nat) (i : Int) : Nat := (i % ((2 ^ w : Nat) : Int)).toNat

/-- Clamp to an inclusive range. -/
def clampNat (lo hi n : Nat) : Nat := max lo (min hi n)

/-- Round up to a multiple of `m`. -/
def roundUp (n m : Nat) : Nat := (n + m - 1) / m * m

/-- Ceiling division. -/
def ceilDiv (n m : Nat) : Nat := (n + m - 1) / m

/-- Replace the element at index `i` (no change past the end). -/
def setAt {α : Type} : List α → Nat → α → List α
  | [], _, _ => []
  | _ :: l, 0, v => v :: l
  | a :: l, i + 1, v => a :: setAt l i v

/-- The indices below `n` for which `p` holds, rising. -/
def idxs (n : Nat) (p : Nat → Bool) : List Nat := (List.range n).filter p

end Sys2Proof.Machine
end

