-- ==== Sys2Proof/Machine/RegMap.lean ====
section
/-! DEFINITION. The register catalogue: every register of every unit kind with its offset, repetition, fields,
access types (R11) and reset values, and the BAR2 address of each by name (R13). A reset of "Image" stands as 0
here: what the image gives is applied from the active plane (log entry 5). -/

namespace Sys2Proof.Machine

/-- The access types of R11; `st` is an RW field that is structural (R70). -/
inductive Acc where
  | ro | rw | st | rws | rc | w1c | wo
  deriving DecidableEq, Repr

/-- A field of a register: bits [hi:lo], access type, reset value. -/
structure Fld where
  hi : Nat
  lo : Nat
  acc : Acc
  reset : Nat
  deriving DecidableEq, Repr

/-- A register, repeated `n` times at stride `st`, each of those `n2` times at stride `st2`. -/
structure RegRow where
  name : String
  off : Nat
  n : Nat
  st : Nat
  n2 : Nat
  st2 : Nat
  flds : List Fld
  deriving DecidableEq, Repr

/-- One register. -/
def reg1 (name : String) (off : Nat) (flds : List Fld) : RegRow := ⟨name, off, 1, 0, 1, 0, flds⟩

/-- A repeated register. -/
def regs1 (name : String) (off n st : Nat) (flds : List Fld) : RegRow := ⟨name, off, n, st, 1, 0, flds⟩

/-- A register repeated in blocks. -/
def regs2 (name : String) (off n st n2 st2 : Nat) (flds : List Fld) : RegRow := ⟨name, off, n, st, n2, st2, flds⟩

/-- A field of access type ro. -/
def fRo (hi lo reset : Nat) : Fld := ⟨hi, lo, .ro, reset⟩
/-- A field of access type rw. -/
def fRw (hi lo reset : Nat) : Fld := ⟨hi, lo, .rw, reset⟩
/-- A field of access type st. -/
def fSt (hi lo reset : Nat) : Fld := ⟨hi, lo, .st, reset⟩
/-- A field of access type rws. -/
def fRws (hi lo reset : Nat) : Fld := ⟨hi, lo, .rws, reset⟩
/-- A field of access type rc. -/
def fRc (hi lo reset : Nat) : Fld := ⟨hi, lo, .rc, reset⟩
/-- A field of access type w1c. -/
def fW1c (hi lo reset : Nat) : Fld := ⟨hi, lo, .w1c, reset⟩
/-- A field of access type wo. -/
def fWo (hi lo reset : Nat) : Fld := ⟨hi, lo, .wo, reset⟩

/-- A 32-bit counter, RC and saturating. -/
def cnt (name : String) (off : Nat) : RegRow := reg1 name off [fRc 31 0 0]

/-- Repeated 32-bit counters, RC and saturating. -/
def cnts (name : String) (off n st : Nat) : RegRow := regs1 name off n st [fRc 31 0 0]

/-- Registers of device control (R6, R29, R40, R90, R129, R577). -/
def devRegs : List RegRow := [
  reg1 "DEV_CAP0" 0x4 [fRo 31 24 0, fRo 23 20 0, fRo 19 16 0, fRo 15 11 0, fRo 10 7 0, fRo 6 5 0, fRo 4 4 0, fRo 3 3 0, fRo 2 2 0],
  reg1 "DEV_CAP1" 0x8 [fRo 15 0 0],
  reg1 "DEV_CLK" 0x10 [fRo 8 8 0, fRo 7 6 0, fRw 5 4 0, fRo 3 2 0, fRo 1 0 3],
  reg1 "DEV_FENCE_CL" 0x20 [fRo 15 0 0],
  reg1 "DEV_RST_CTL" 0x30 [fWo 31 16 0, fWo 0 0 0],
  reg1 "DEV_RST_CAUSE" 0x34 [fRo 15 12 0, fRo 11 11 0, fRo 10 10 0, fRo 9 9 0, fRo 8 8 0, fRo 3 0 0],
  reg1 "DEV_CFG_STAT" 0x40 [fRo 31 24 0, fRo 4 4 0, fRo 3 3 0, fRo 2 2 0, fRo 1 1 0, fRo 0 0 0],
  reg1 "DEV_CFG_ERR" 0x44 [fRo 31 24 0, fRo 23 23 0, fRo 22 19 0, fRo 18 13 0, fRo 11 0 0],
  reg1 "DEV_SV_LOG" 0x48 [fRo 25 0 0],
  reg1 "DEV_SV_CNT" 0x4c [fRc 15 0 0],
  regs1 "DEV_HEADn" 0x60 4 0x4 [fSt 31 31 0, fSt 7 0 0],
  regs1 "DEV_IMG_DIGESTk" 0x80 12 0x4 [fRo 31 0 0],
  regs1 "DEV_FENCE_Uk" 0x100 32 0x4 [fRo 31 0 0]]

/-- Registers of the Vault (R120). -/
def vaultRegs : List RegRow := [
  reg1 "DEV_VLT_CMD" 0x10 [fWo 31 8 0, fWo 7 0 0],
  reg1 "DEV_VLT_STAT" 0x14 [fRo 31 28 0, fRo 27 24 0, fRo 23 16 0, fRo 3 3 0, fRo 2 2 0, fRo 1 1 0, fRo 0 0 0],
  reg1 "DEV_VLT_POLICY" 0x18 [fRo 23 16 0, fRo 15 8 0, fRo 5 2 0, fRo 1 1 0, fRo 0 0 0],
  reg1 "DEV_VLT_SWAP_LO" 0x20 [fRw 31 0 0],
  reg1 "DEV_VLT_SWAP_HI" 0x24 [fRw 21 16 0, fRw 15 0 0],
  reg1 "DEV_VLT_HOLD" 0x28 [fRw 19 16 8, fRw 15 0 0x64],
  reg1 "DEV_VLT_DISCARD" 0x2c [fRc 15 0 0],
  regs1 "DEV_VLT_NONCEk" 0x30 4 0x4 [fRo 31 0 0],
  regs1 "DEV_VLT_ESC_DIGESTk" 0x40 12 0x4 [fRo 31 0 0],
  regs1 "DEV_VLT_FRST_Uk" 0x100 32 0x4 [fW1c 31 0 0],
  regs1 "DEV_VLT_AKPUBk" 0x200 24 0x4 [fRo 31 0 0]]

/-- Registers of cluster control units (R128, R576). -/
def clctlRegs : List RegRow := [
  reg1 "xxx_CL_SRC" 0x10 [fRo 31 0 0],
  regs1 "xxx_CL_FENCE" 0x14 2 0x4 [fRo 31 0 0],
  reg1 "xxx_CL_RST" 0x30 [fWo 31 16 0, fWo 7 7 0, fWo 5 0 0]]

/-- Registers of memory controller core (R437, R438). -/
def memCoreRegs : List RegRow := [
  reg1 "MEM_CFG" 0x10 [fSt 31 30 0, fSt 29 28 0, fSt 24 24 0],
  reg1 "MEM_STAT" 0x14 [fRo 31 28 0, fRo 27 27 0, fRo 26 26 0, fRo 25 25 0, fRo 15 0 0],
  reg1 "MEM_CE_INFO" 0x18 [fRo 19 16 0, fRo 4 0 0],
  reg1 "MEM_OD_CFG" 0x20 [fRw 31 16 0x64, fRw 11 8 4, fRw 4 0 2],
  reg1 "MEM_SCRUB" 0x24 [fRw 31 31 1, fRw 23 16 0x40, fRw 15 0 0x18],
  reg1 "MEM_SCRUB_STAT" 0x28 [fRo 27 0 0],
  regs1 "MEM_COINp_CFG" 0x40 4 0x8 [fRw 31 16 0, fRw 15 0 0],
  regs1 "MEM_COINp_STAT" 0x44 4 0x8 [fRo 15 0 0],
  cnt "MEM_REFUSED" 0x80,
  cnt "MEM_OD_FLOORS" 0x84,
  cnt "MEM_SCRUB_LATE" 0x88,
  cnt "MEM_CE_TOTAL" 0x8c,
  regs1 "MEM_RGNr_BASE" 0x100 16 0x10 [fSt 17 0 0],
  regs1 "MEM_RGNr_SIZE" 0x104 16 0x10 [fSt 18 0 0],
  regs1 "MEM_RGNr_MAP" 0x108 16 0x10 [fSt 31 16 0, fSt 11 8 0, fSt 0 0 0],
  regs1 "MEM_RGNr_LBASE" 0x10c 16 0x10 [fSt 13 0 0]]

/-- Registers of sub-channels (R439). -/
def memScRegs : List RegRow := [
  reg1 "MEM_SCn_STAT" 0x10 [fRo 31 28 0, fRo 27 24 0, fRo 18 16 0, fRo 11 0 0],
  reg1 "MEM_SCn_UEADDR_LO" 0x14 [fRo 31 0 0],
  reg1 "MEM_SCn_UEADDR_HI" 0x18 [fRo 1 0 0],
  reg1 "MEM_SCn_ECS" 0x1c [fRo 23 16 0, fRo 15 8 0, fRo 7 0 0],
  reg1 "MEM_SCn_ECSROW" 0x20 [fRo 29 28 0, fRo 26 22 0, fRo 17 0 0],
  reg1 "MEM_SCn_INJ" 0x24 [fRw 31 16 0, fRw 15 0 0],
  cnt "MEM_SC_CE_BURSTS" 0x40,
  cnt "MEM_SC_CE_SYMBOLS" 0x44,
  cnt "MEM_SC_UE" 0x48,
  cnt "MEM_SC_FORCED_REF" 0x4c,
  cnt "MEM_SC_SCRUB_FIXED" 0x50]

/-- Registers of sensor ports (R162, R163). -/
def lnkPortRegs : List RegRow := [
  reg1 "LNK_PORT_STAT" 0x10 [fRo 31 28 0, fRo 27 24 0, fRo 23 23 0, fRo 22 22 0, fRo 15 8 0, fRo 7 0 0],
  reg1 "LNK_PORT_CTL" 0x14 [fRw 1 1 0, fWo 0 0 0],
  reg1 "LNK_PORT_CFG" 0x18 [fSt 27 26 0, fSt 25 24 0, fSt 23 0 0],
  cnt "LNK_HDR_ERR" 0x20,
  cnt "LNK_CRC_ERR" 0x24,
  cnt "LNK_TRUNC" 0x28,
  cnt "LNK_BAD_DT" 0x2c,
  cnt "LNK_UNDECL_VC" 0x30,
  cnt "LNK_BLK_ERR" 0x34,
  cnt "LNK_FILLER" 0x38,
  cnt "LNK_CTL_ERR" 0x3c,
  reg1 "LNK_HC_ADDR" 0x40 [fRw 31 0 0],
  reg1 "LNK_HC_DATA" 0x44 [fRw 31 0 0],
  reg1 "LNK_HC_CMD" 0x48 [fWo 1 1 0, fWo 0 0 0],
  reg1 "LNK_HC_STAT" 0x4c [fRo 31 28 0, fRo 15 8 0, fRo 7 0 0],
  reg1 "LNK_HC_EVT" 0x50 [fRo 15 0 0]]

/-- Registers of sensor lanes (R162, R163). -/
def lnkLaneRegs : List RegRow := [
  reg1 "LNK_LANE_STAT" 0x10 [fRo 31 28 0, fRo 8 8 0, fRo 3 0 0xf],
  reg1 "LNK_LANE_EQ" 0x14 [fRw 19 16 4, fRw 8 8 0, fRo 3 0 0],
  regs1 "LNK_LANE_DFEk" 0x20 8 0x4 [fRo 31 0 0],
  cnt "LNK_FEC_COR" 0x40,
  cnt "LNK_FEC_UNC" 0x44,
  reg1 "LNK_LANE_ESCTL" 0x50 [fWo 31 31 0, fWo 30 30 0, fRw 29 28 1, fRw 21 16 0x18, fRw 3 2 0, fRw 1 0 0],
  reg1 "LNK_LANE_ESSTAT" 0x54 [fRo 31 28 0, fRo 13 0 0],
  regs1 "LNK_LANE_ESRAM" 0x8000 8192 0x4 [fRo 31 0 0]]

/-- Registers of ingest ports (R185). -/
def ingPortRegs : List RegRow := [
  reg1 "ING_PORT_OCC" 0x10 [fRo 31 16 0, fRo 15 0 0],
  reg1 "ING_PORT_THR" 0x14 [fRw 31 16 0x800, fRw 15 0 0x200],
  reg1 "ING_PORT_STAT" 0x18 [fRo 2 2 0, fRo 1 1 0, fRo 0 0 0],
  cnt "ING_OVF_LINES" 0x20,
  cnt "ING_SHED_FRAMES" 0x24,
  cnt "ING_OD_COUNT" 0x28,
  cnt "ING_STALL" 0x2c,
  regs1 "ING_PORT_SSTATk" 0x100 64 0x4 [fRo 31 0 0]]

/-- Registers of Calibration Store (R315). -/
def calRegs : List RegRow := [
  regs1 "ING_CALn_BASE" 0x10 4 0x8 [fSt 23 0 0],
  regs1 "ING_CALn_GRID" 0x14 4 0x8 [fSt 30 16 0, fSt 14 0 0],
  regs1 "ING_CAL_OFSi" 0x100 64 0x4 [fSt 30 16 0, fSt 14 0 0]]

/-- Registers of ingest streams and groups (R186, R187). -/
def ingStrRegs : List RegRow := [
  regs1 "ING_GRPg_CFG" 0x100 2 0x10 [fSt 29 16 0, fRo 13 8 0, fSt 3 0 0],
  regs1 "ING_GRPg_MASK" 0x104 2 0x10 [fRw 3 0 0],
  regs1 "ING_GRPg_STAT" 0x108 2 0x10 [fRc 31 16 0, fRo 7 4 0],
  regs1 "ING_STR_GEOM" 0x1000 64 0x40 [fSt 30 16 0, fSt 10 0 0],
  regs1 "ING_STR_FMT" 0x1004 64 0x40 [fSt 11 10 0, fSt 9 9 0, fSt 5 4 0, fSt 1 0 0],
  regs1 "ING_STR_PAD" 0x1008 64 0x40 [fRws 15 0 0],
  regs1 "ING_STR_TOUT" 0x100c 64 0x40 [fRws 31 16 0x2710, fRws 15 0 0x2710],
  regs1 "ING_STR_STAT" 0x1010 64 0x40 [fRo 31 28 0, fRo 22 16 0, fRo 14 0 0],
  cnts "ING_STR_FRAMES" 0x1020 64 0x40,
  cnts "ING_STR_ANOMALY" 0x1024 64 0x40,
  cnts "ING_STR_ORPHAN" 0x1028 64 0x40,
  cnts "ING_STR_UNSOLICITED" 0x102c 64 0x40,
  cnts "ING_STR_NO_FRAME" 0x1030 64 0x40,
  cnts "ING_STR_WRONG_DT" 0x1034 64 0x40,
  cnts "ING_STR_LATE_EXP" 0x1038 64 0x40]

/-- Registers of recording (R280, R281). -/
def ingRecRegs : List RegRow := [
  reg1 "ING_SERIAL_LO" 0x10 [fRo 31 0 0],
  reg1 "ING_SERIAL_HI" 0x14 [fRo 15 0 0],
  reg1 "ING_REC_STAT" 0x18 [fRo 15 8 0, fRo 0 0 0],
  reg1 "ING_ANNEX" 0x1c [fSt 3 0 0],
  cnt "ING_LEDGER_UE" 0x20,
  regs1 "ING_PARTp_CFG" 0x1000 32 0x40 [fSt 31 31 0, fSt 30 30 0, fSt 29 29 0, fSt 21 16 0, fSt 3 0 0],
  regs1 "ING_PARTp_BASE" 0x1004 32 0x40 [fSt 27 0 0],
  regs1 "ING_PARTp_SIZE" 0x1008 32 0x40 [fSt 27 0 0],
  regs1 "ING_PARTp_LBASE" 0x100c 32 0x40 [fSt 18 0 0],
  regs1 "ING_PARTp_LCOUNT" 0x1010 32 0x40 [fSt 19 0 0],
  regs1 "ING_PARTp_SRBASE" 0x1014 32 0x40 [fSt 23 0 0],
  regs1 "ING_PARTp_TBASE" 0x1018 32 0x40 [fSt 23 0 0],
  regs1 "ING_PARTp_IBASE" 0x101c 32 0x40 [fSt 23 0 0],
  regs1 "ING_PARTp_WPTR" 0x1020 32 0x40 [fRo 27 0 0],
  regs1 "ING_PARTp_STAT" 0x1024 32 0x40 [fRo 31 28 0, fRo 24 16 0, fRo 15 0 0],
  regs1 "ING_PARTp_CMD" 0x1028 32 0x40 [fWo 31 16 0, fWo 1 1 0, fWo 0 0 0],
  cnts "ING_PARTp_DROPPED" 0x1030 32 0x40,
  cnts "ING_PARTp_REFUSED" 0x1034 32 0x40]

/-- Registers of Schedule core (R225). -/
def schCoreRegs : List RegRow := [
  reg1 "SCH_EPCOMMIT" 0x10 [fWo 3 0 0],
  reg1 "SCH_EVT_INFO" 0x14 [fRo 31 28 0, fRo 18 16 0, fRo 11 0 0]]

/-- Registers of compare tables (R226). -/
def schTblRegs : List RegRow := [
  reg1 "SCH_TBLt_CFG" 0x10 [fRw 31 31 0, fRw 30 30 0, fSt 18 16 0, fRw 12 0 0],
  reg1 "SCH_TBLt_HYST" 0x14 [fRw 31 0 0x10000],
  reg1 "SCH_TBLt_EIDX" 0x18 [fRw 11 0 0],
  reg1 "SCH_TBLt_ECMD" 0x1c [fWo 1 1 0, fWo 0 0 0],
  reg1 "SCH_TBLt_ESTAT" 0x20 [fRo 31 31 0, fRo 30 30 0, fRo 29 29 0, fRo 28 28 0, fRo 27 0 0],
  cnt "SCH_TBL_FIRED" 0x30,
  cnt "SCH_TBL_MISSED" 0x34,
  cnt "SCH_TBL_LATE" 0x38,
  cnt "SCH_TBL_BAD_ENTRY" 0x3c,
  regs1 "SCH_TBLt_EDATAk" 0x40 8 0x4 [fRw 31 0 0]]

/-- Registers of position axes (R251, R252). -/
def schAxisRegs : List RegRow := [
  reg1 "SCH_AXn_CFG" 0x10 [fRw 28 24 0, fRw 22 16 0, fRw 7 7 0, fSt 6 6 0, fSt 5 5 0, fSt 4 4 0, fSt 2 0 0],
  reg1 "SCH_AXn_IDX" 0x14 [fRw 31 31 0, fRw 17 16 0, fRw 15 0 0],
  reg1 "SCH_AXn_IPER" 0x18 [fRw 31 0 0],
  reg1 "SCH_AXn_SER" 0x1c [fRw 28 16 0, fSt 15 15 0, fSt 14 14 0, fSt 5 0 0],
  reg1 "SCH_AXn_SERT" 0x20 [fRw 31 16 0, fRw 15 8 0, fRw 7 0 0],
  reg1 "SCH_AXn_SERL" 0x24 [fRw 31 16 0, fRw 15 0 0],
  reg1 "SCH_AXn_STILL" 0x28 [fRw 15 0 0x64],
  reg1 "SCH_AXn_STAT" 0x40 [fRo 31 31 0, fRo 30 30 0, fRo 29 29 0, fW1c 28 28 0, fW1c 27 27 0, fRo 26 26 0, fRo 25 24 0, fRo 22 20 0, fRo 15 0 0],
  reg1 "SCH_AXn_POS_LO" 0x44 [fRo 31 0 0],
  reg1 "SCH_AXn_POS_HI" 0x48 [fRo 31 0 0],
  reg1 "SCH_AXn_SPD_LO" 0x4c [fRo 31 0 0],
  reg1 "SCH_AXn_SPD_HI" 0x50 [fRo 31 0 0],
  reg1 "SCH_AXn_IDXLAT_LO" 0x54 [fRo 31 0 0],
  reg1 "SCH_AXn_IDXLAT_HI" 0x58 [fRo 15 0 0],
  reg1 "SCH_AXn_IDXDEV" 0x5c [fRo 31 0 0],
  reg1 "SCH_AXn_SET_LO" 0x60 [fWo 31 0 0],
  reg1 "SCH_AXn_SET_HI" 0x64 [fWo 15 0 0],
  reg1 "SCH_AXn_ERRINFO" 0x70 [fRo 31 28 0],
  cnt "SCH_AX_ERR_QUAD" 0x80,
  cnt "SCH_AX_ERR_HALL" 0x84,
  cnt "SCH_AX_ERR_SER" 0x88,
  cnt "SCH_AX_WIRE" 0x8c,
  cnt "SCH_AX_DIR_CHG" 0x90,
  cnt "SCH_AX_INDEX" 0x94,
  cnt "SCH_AX_DRIFT" 0x98,
  cnt "SCH_AX_SER_WARN" 0x9c]

/-- Registers of mains-phase axis (R229). -/
def schA5Regs : List RegRow := [
  reg1 "SCH_A5_CFG" 0x10 [fRw 6 0 0x10],
  reg1 "SCH_A5_STAT" 0x14 [fRo 31 31 0, fRo 19 0 0],
  reg1 "SCH_A5_CYCLE" 0x18 [fRo 31 0 0],
  reg1 "SCH_A5_PHASE" 0x1c [fRo 15 0 0],
  reg1 "SCH_A5_PERIOD" 0x20 [fRo 31 0 0]]

/-- Registers of trigger axis and inputs (R230). -/
def schA6Regs : List RegRow := [
  reg1 "SCH_A6_CFG" 0x10 [fWo 31 31 0, fSt 10 8 0, fSt 5 4 0],
  reg1 "SCH_A6_CNT_LO" 0x14 [fRo 31 0 0],
  reg1 "SCH_A6_CNT_HI" 0x18 [fRo 15 0 0],
  regs1 "SCH_TI_CFGn" 0x20 8 0x4 [fRw 15 8 0, fRw 1 0 0]]

/-- Registers of Schedule heads (R227). -/
def schHeadRegs : List RegRow := [
  reg1 "SCH_HDn_TRG" 0x10 [fSt 31 31 0],
  reg1 "SCH_HDn_TLAT" 0x14 [fSt 23 0 0],
  reg1 "SCH_HDn_MARGIN" 0x18 [fRw 31 16 0],
  reg1 "SCH_HDn_EPSEL" 0x1c [fRw 1 0 0],
  reg1 "SCH_HDn_EPSTAT" 0x20 [fRo 31 31 0, fRo 29 28 0, fRo 25 24 0, fRo 23 16 0, fRo 15 8 0],
  reg1 "SCH_HDn_TE" 0x24 [fRo 31 0 0],
  regs1 "SCH_HDn_EPk_ID" 0x40 4 0x8 [fRw 7 0 0],
  regs1 "SCH_HDn_EPk_DUR" 0x44 4 0x8 [fRw 31 0 0],
  cnt "SCH_HD_EXPOSED" 0x80,
  cnt "SCH_HD_COALESCED" 0x84,
  cnt "SCH_HD_EPSEL_LATE" 0x88]

/-- Registers of Schedule streams (R228). -/
def schStrRegs : List RegRow := [
  regs1 "SCH_STRi_CMD" 0x1000 64 0x40 [fWo 2 2 0, fWo 1 1 0, fWo 0 0 0],
  regs1 "SCH_STRi_WIN" 0x1004 64 0x40 [fRw 31 30 0, fRw 29 29 0],
  regs1 "SCH_STRi_PRE" 0x1008 64 0x40 [fRw 23 0 0],
  regs1 "SCH_STRi_POST" 0x100c 64 0x40 [fRw 23 0 0],
  regs1 "SCH_STRi_STAT" 0x1010 64 0x40 [fRo 31 28 0, fRo 23 0 0],
  regs1 "SCH_STRi_TMIN" 0x1014 64 0x40 [fRo 31 8 0, fRo 7 0 0],
  regs1 "SCH_STRi_SLACK" 0x1018 64 0x40 [fRw 31 0 0],
  regs1 "SCH_STRi_SEG" 0x101c 64 0x40 [fRo 31 0 0],
  cnts "SCH_STR_THROTTLED" 0x1020 64 0x40,
  cnts "SCH_STR_NOT_ARMED" 0x1024 64 0x40,
  cnts "SCH_STR_TRIG_IGNORED" 0x1028 64 0x40]

/-- Registers of strobe outputs (R231). -/
def schSoRegs : List RegRow := [
  reg1 "SCH_SO_STAT" 0x10 [fRo 7 0 0],
  cnts "SCH_SO_DROPn" 0x40 8 0x4,
  cnts "SCH_SO_EXTn" 0x60 8 0x4]

/-- Registers of pixel core (R312). -/
def pixCoreRegs : List RegRow := [
  reg1 "PIX_CFG" 0x10 [fSt 31 31 0, fSt 29 24 0, fSt 19 16 0, fRo 8 8 0],
  reg1 "PIX_STRIPE" 0x14 [fSt 26 16 0, fSt 10 0 0],
  reg1 "PIX_STAT" 0x18 [fRo 31 28 0, fRo 4 4 0, fRo 0 0 0],
  reg1 "PIX_SWAP" 0x1c [fWo 0 0 0],
  reg1 "PIX_SAT" 0x20 [fRws 15 0 0],
  reg1 "PIX_EPS" 0x24 [fRws 31 0 0],
  regs1 "PIX_BLACKq" 0x30 4 0x4 [fRws 31 0 0],
  regs1 "PIX_CGq" 0x40 4 0x4 [fRws 31 0 0],
  regs1 "PIX_M1_k" 0x50 12 0x4 [fRws 31 0 0],
  reg1 "PIX_TF" 0x80 [fRws 9 9 0, fRws 8 8 0, fRws 2 0 0],
  reg1 "PIX_TF_SCALE" 0x84 [fRws 31 0 0],
  reg1 "PIX_SHP_LO" 0x88 [fRws 31 0 0],
  reg1 "PIX_SHP_HI" 0x8c [fRws 31 0 0],
  reg1 "PIX_OC_LO" 0x90 [fRws 31 0 0],
  reg1 "PIX_OC_HI" 0x94 [fRws 31 0 0],
  regs1 "PIX_M2_k" 0xa0 12 0x4 [fRws 31 0 0],
  reg1 "PIX_CORR" 0xe0 [fSt 1 0 0],
  reg1 "PIX_CSCALE" 0xe4 [fRws 31 0 0],
  reg1 "PIX_COFF" 0xe8 [fRws 31 0 0],
  cnt "PIX_DEFECT_UNCORR" 0x100,
  cnt "PIX_SRAM_CE" 0x104,
  cnt "PIX_SRAM_UE" 0x108,
  cnt "PIX_FRAMES" 0x10c]

/-- Registers of Tally (R314). -/
def pixTallyRegs : List RegRow := [
  regs1 "PIX_TY_Kk" 0x10 3 0x4 [fRws 31 0 0],
  regs1 "PIX_TRGk_CFG" 0x40 4 0x20 [fRw 31 31 0, fRw 30 30 0, fRw 25 24 0, fRw 17 16 0],
  regs1 "PIX_TRGk_THR" 0x44 4 0x20 [fRw 31 0 0],
  regs2 "PIX_TRGk_ZMj" 0x48 4 0x20 4 0x4 [fRw 31 0 0],
  regs1 "PIX_TRGk_SER_LO" 0x58 4 0x20 [fRo 31 0 0],
  regs1 "PIX_TRGk_SER_HI" 0x5c 4 0x20 [fRo 15 0 0]]

/-- Registers of scaler (R313). -/
def pixSclRegs : List RegRow := [
  reg1 "PIX_PX_GEOM" 0x10 [fSt 30 16 0, fSt 10 0 0],
  reg1 "PIX_PX_FMT" 0x14 [fRw 31 16 0, fSt 3 0 0],
  reg1 "PIX_PX_HSTEP" 0x18 [fRo 31 0 0],
  reg1 "PIX_PX_VSTEP" 0x1c [fRo 31 0 0],
  regs1 "PIX_PX_QSCALEc" 0x20 3 0x8 [fRws 31 0 0],
  regs1 "PIX_PX_QOFFc" 0x24 3 0x8 [fRws 31 0 0],
  reg1 "PIX_PX_RING" 0x40 [fSt 31 28 0, fSt 27 24 0, fSt 23 0 0],
  reg1 "PIX_PX_STAT" 0x44 [fRo 31 0 0],
  cnt "PIX_PX_SKIP" 0x48]

/-- Registers of correlation core (R351). -/
def corCoreRegs : List RegRow := [
  reg1 "COR_STAT" 0x10 [fRo 31 28 0, fRo 25 24 0],
  reg1 "COR_CUR_LO" 0x14 [fRo 31 0 0],
  reg1 "COR_CUR_HI" 0x18 [fRo 15 0 0],
  cnt "COR_SRAM_CE" 0x40,
  cnt "COR_SRAM_UE" 0x44,
  cnt "COR_YIELDS" 0x48]

/-- Registers of correlation jobs (R352). -/
def corJobRegs : List RegRow := [
  regs1 "COR_Jj_CMD" 0x1000 4 0x100 [fWo 1 1 0, fWo 0 0 0],
  regs1 "COR_Jj_CFG" 0x1004 4 0x100 [fRw 31 31 0, fRw 30 30 0, fRw 29 29 0, fRw 25 24 0, fRw 21 16 0, fRw 15 8 0, fRw 4 4 0],
  regs1 "COR_Jj_CBASE" 0x1008 4 0x100 [fRw 15 0 0],
  regs1 "COR_Jj_CCOUNT" 0x100c 4 0x100 [fRw 16 0 0],
  regs1 "COR_Jj_CONV" 0x1010 4 0x100 [fRw 28 24 0, fRw 21 16 0, fRw 15 0 0],
  regs1 "COR_Jj_QUAL" 0x1014 4 0x100 [fRw 31 24 0, fRw 23 16 0, fRw 15 0 0],
  regs1 "COR_Jj_NOISE" 0x1018 4 0x100 [fRw 31 0 0],
  regs1 "COR_Jj_SKIP" 0x101c 4 0x100 [fRw 31 0 0x247fe0],
  regs1 "COR_Jj_REF_LO" 0x1020 4 0x100 [fRw 31 0 0],
  regs1 "COR_Jj_REF_HI" 0x1024 4 0x100 [fRw 15 0 0],
  regs1 "COR_Jj_START_LO" 0x1028 4 0x100 [fRw 31 0 0],
  regs1 "COR_Jj_START_HI" 0x102c 4 0x100 [fRw 15 0 0],
  regs1 "COR_Jj_END_LO" 0x1030 4 0x100 [fRw 31 0 0],
  regs1 "COR_Jj_END_HI" 0x1034 4 0x100 [fRw 15 0 0],
  regs1 "COR_Jj_XWIN" 0x1038 4 0x100 [fRw 26 16 0, fRw 10 0 0],
  regs1 "COR_Jj_PIV" 0x103c 4 0x100 [fRw 15 8 0, fRw 7 0 0],
  regs1 "COR_Jj_WORK" 0x1040 4 0x100 [fRw 31 28 0, fRw 27 0 0],
  regs1 "COR_Jj_RES" 0x1044 4 0x100 [fRw 31 28 0, fRw 27 0 0],
  regs1 "COR_Jj_RESN" 0x1048 4 0x100 [fRw 31 31 0, fRw 15 0 0],
  regs1 "COR_Jj_RDPTR" 0x104c 4 0x100 [fRw 15 0 0],
  regs1 "COR_Jj_WRPTR" 0x1050 4 0x100 [fRo 15 0 0],
  regs1 "COR_Jj_STAT" 0x1054 4 0x100 [fRo 31 28 0, fRo 27 24 0, fRo 17 16 0],
  regs1 "COR_Jj_PNX_LO" 0x1058 4 0x100 [fRo 31 0 0],
  regs1 "COR_Jj_PNX_HI" 0x105c 4 0x100 [fRo 15 0 0],
  regs2 "COR_Jj_BLACKq" 0x1060 4 0x100 4 0x4 [fRw 31 0 0],
  regs2 "COR_Jj_CGq" 0x1070 4 0x100 4 0x4 [fRw 31 0 0],
  cnts "COR_J_LIVE" 0x1080 4 0x100,
  cnts "COR_J_POSTED" 0x1084 4 0x100,
  cnts "COR_J_DEFERRED" 0x1088 4 0x100,
  cnts "COR_J_SKIPPED" 0x108c 4 0x100,
  cnts "COR_J_LOST_FRAMES" 0x1090 4 0x100,
  cnts "COR_J_PAIR_BROKEN" 0x1094 4 0x100,
  cnts "COR_J_RES_FULL" 0x1098 4 0x100,
  cnts "COR_J_OVERWRITTEN" 0x109c 4 0x100]

/-- Registers of gauges (R353). -/
def corGaugeRegs : List RegRow := [
  regs1 "COR_Gg_CFG" 0x1000 64 0x20 [fRw 31 31 0, fRw 29 28 0, fRw 27 27 0, fRw 25 24 0, fRw 22 20 0, fRw 19 16 0],
  regs1 "COR_Gg_CTX" 0x1004 64 0x20 [fRw 31 16 0, fRw 15 0 0],
  regs1 "COR_Gg_THR" 0x1008 64 0x20 [fRw 31 0 0],
  regs1 "COR_Gg_HYST" 0x100c 64 0x20 [fRw 31 0 0],
  regs1 "COR_Gg_VALUE" 0x1010 64 0x20 [fRo 31 0 0],
  regs1 "COR_Gg_SER_LO" 0x1014 64 0x20 [fRo 31 0 0],
  regs1 "COR_Gg_SER_HI" 0x1018 64 0x20 [fRo 15 0 0],
  regs1 "COR_Gg_STAT" 0x101c 64 0x20 [fRo 31 31 0, fW1c 30 30 0, fRo 15 0 0]]

/-- Registers of codec core (R403). -/
def vidCoreRegs : List RegRow := [
  regs1 "VID_UUIDk" 0x20 4 0x4 [fRo 31 0 0]]

/-- Registers of encoder channels (R404). -/
def vidEncRegs : List RegRow := [
  reg1 "VID_ENCc_CMD" 0x10 [fWo 1 1 0, fWo 0 0 0],
  reg1 "VID_ENCc_CFG" 0x14 [fRw 31 31 0, fSt 29 24 0, fRw 23 16 0, fSt 9 8 0, fRws 5 4 0, fRw 0 0 0],
  reg1 "VID_ENCc_PERIOD" 0x18 [fRws 22 16 0, fRws 15 0 0],
  reg1 "VID_ENCc_RATE" 0x1c [fRws 31 0 0],
  reg1 "VID_ENCc_BITRATE" 0x20 [fRws 31 0 0],
  reg1 "VID_ENCc_HCAP" 0x24 [fRws 31 0 0],
  reg1 "VID_ENCc_QP" 0x28 [fRws 29 24 0, fRws 21 16 0, fRws 13 8 0, fRws 5 0 0],
  reg1 "VID_ENCc_VBV" 0x2c [fRws 31 8 0, fRws 7 0 0],
  reg1 "VID_ENCc_REQ" 0x30 [fWo 31 31 0, fWo 30 30 0, fWo 29 29 0, fWo 28 28 0, fWo 25 24 0, fWo 23 20 0, fWo 19 16 0],
  reg1 "VID_ENCc_HDR" 0x34 [fRw 31 28 0, fRw 27 0 0],
  reg1 "VID_ENCc_HDRLEN" 0x38 [fRws 11 0 0],
  reg1 "VID_ENCc_PPS" 0x3c [fRw 5 0 0],
  reg1 "VID_ENCc_OUT" 0x40 [fRw 31 28 0, fRw 27 0 0],
  reg1 "VID_ENCc_OUTSZ" 0x44 [fRw 23 0 0],
  reg1 "VID_ENCc_RDPTR" 0x48 [fRw 25 0 0],
  reg1 "VID_ENCc_WRPTR" 0x4c [fRo 25 0 0],
  reg1 "VID_ENCc_HOSTQ" 0x50 [fRw 31 28 0, fRw 27 0 0],
  reg1 "VID_ENCc_HOSTN" 0x54 [fRw 3 0 0],
  reg1 "VID_ENCc_HOSTDONE" 0x58 [fRo 31 0 0],
  reg1 "VID_ENCc_STAT" 0x60 [fRo 31 28 0, fRo 27 24 0, fRo 21 16 0, fRo 3 0 0],
  reg1 "VID_ENCc_VBVLVL" 0x64 [fRo 31 0 0],
  cnt "VID_ENC_PICTURES" 0x80,
  cnt "VID_ENC_SKIP_PROXY" 0x84,
  cnt "VID_ENC_OUT_SKIP" 0x88,
  cnt "VID_ENC_STARVED" 0x8c,
  cnt "VID_ENC_FORCED" 0x90]

/-- Registers of decoder channels (R405). -/
def vidDecRegs : List RegRow := [
  reg1 "VID_DECd_CMD" 0x10 [fWo 2 2 0, fWo 1 1 0, fWo 0 0 0],
  reg1 "VID_DECd_CFG" 0x14 [fRw 31 31 0, fRw 3 0 0],
  reg1 "VID_DECd_IN" 0x18 [fRw 31 28 0, fRw 27 0 0],
  reg1 "VID_DECd_INSZ" 0x1c [fRw 23 0 0],
  reg1 "VID_DECd_INWR" 0x20 [fRw 31 0 0],
  reg1 "VID_DECd_INRD" 0x24 [fRo 31 0 0],
  reg1 "VID_DECd_OUT" 0x28 [fRw 31 28 0, fRw 27 0 0],
  reg1 "VID_DECd_MAX" 0x2c [fRw 30 16 0, fRw 13 0 0],
  reg1 "VID_DECd_WDOG" 0x30 [fRw 7 0 0xc],
  reg1 "VID_DECd_STAT" 0x34 [fRo 31 28 0],
  cnt "VID_DEC_PICTURES" 0x80,
  cnt "VID_DEC_CONCEALED" 0x84,
  cnt "VID_DEC_MISSING_REF" 0x88,
  cnt "VID_DEC_SYNTAX" 0x8c,
  cnt "VID_DEC_WDOG_CNT" 0x90,
  cnt "VID_DEC_BOUNDS" 0x94,
  cnt "VID_DEC_UNSUPPORTED" 0x98,
  cnt "VID_DEC_DISCARDED" 0x9c]

/-- Registers of RTP packetiser (R406). -/
def vidRtpRegs : List RegRow := [
  regs1 "VID_RTPc_CFG" 0x1000 8 0x100 [fRw 31 31 0, fRw 28 28 0, fRw 27 27 0, fRw 23 16 0, fRw 7 0 0],
  regs1 "VID_RTPc_MTU" 0x1004 8 0x100 [fRw 13 0 0],
  regs1 "VID_RTPc_PACE" 0x1008 8 0x100 [fRw 15 0 0],
  regs1 "VID_RTPc_SEQ" 0x100c 8 0x100 [fRw 15 0 0],
  regs1 "VID_RTPc_TSOFF" 0x1010 8 0x100 [fRw 31 0 0],
  cnts "VID_RTP_SENT" 0x1040 8 0x100,
  cnts "VID_RTP_DROPPED" 0x1044 8 0x100,
  regs2 "VID_RTPc_TPLk" 0x1080 8 0x100 32 0x4 [fRw 31 0 0]]

/-- Registers of compression core (R374). -/
def cmpCoreRegs : List RegRow := [
  reg1 "CMP_QBASE" 0x10 [fRw 31 28 0, fRw 27 0 0],
  reg1 "CMP_QCFG" 0x14 [fRw 31 31 0, fRw 3 0 0],
  reg1 "CMP_QTAIL" 0x18 [fRw 11 0 0],
  reg1 "CMP_QHEAD" 0x1c [fRo 11 0 0],
  reg1 "CMP_STAT" 0x20 [fRo 15 8 0, fRo 0 0 0],
  reg1 "CMP_CFA_LO" 0x24 [fRw 31 0 0],
  reg1 "CMP_CFA_HI" 0x28 [fRw 31 0 0],
  cnt "CMP_JOBS_DONE" 0x40,
  cnt "CMP_PREEMPTIONS" 0x44,
  cnt "CMP_OUT_FULL" 0x48,
  cnt "CMP_DAMAGED" 0x4c,
  cnt "CMP_LOST_FRAMES" 0x50,
  cnt "CMP_SKIPPED" 0x54,
  cnt "CMP_STRIP_ERR" 0x58,
  cnt "CMP_SWAP_RESUMES" 0x5c,
  cnt "CMP_SNOOP" 0x60]

/-- Registers of compression engines (R375). -/
def cmpEngRegs : List RegRow := [
  reg1 "CMP_En_STAT" 0x10 [fRo 31 28 0, fRo 26 24 0, fRo 11 0 0],
  reg1 "CMP_En_SER_LO" 0x14 [fRo 31 0 0],
  reg1 "CMP_En_SER_HI" 0x18 [fRo 15 0 0],
  cnt "CMP_En_FRAMES" 0x20,
  reg1 "CMP_En_SRAM" 0x24 [fRc 31 16 0, fRc 15 0 0]]

/-- Registers of PCIe endpoint (R466). -/
def hstPcieRegs : List RegRow := [
  reg1 "HST_LINK" 0x10 [fRo 31 28 0, fRo 19 16 0, fRo 11 8 0, fRo 0 0 0],
  cnt "HST_CORR_ERR" 0x40,
  cnt "HST_UNCORR_ERR" 0x44,
  cnt "HST_REPLAY" 0x48,
  cnt "HST_LINK_DOWN" 0x4c]

/-- Registers of NVMe controller and Teller (R467). -/
def hstNvmeRegs : List RegRow := [
  reg1 "HST_RGN_CLASS" 0x10 [fSt 31 0 0],
  reg1 "HST_NSMAP" 0x14 [fSt 3 0 0],
  reg1 "HST_TELLER" 0x18 [fRo 31 28 0, fRo 22 16 0, fRo 15 0 0],
  reg1 "HST_CSE_LAST" 0x1c [fRo 31 16 0, fRo 6 0 0],
  reg1 "HST_PWR" 0x20 [fRo 8 8 0, fRo 6 4 0, fRo 2 0 0],
  cnt "HST_COMMANDS" 0x40,
  cnt "HST_CSE" 0x44,
  cnt "HST_ABORTED" 0x48,
  cnt "HST_NOT_READY" 0x4c,
  cnt "HST_URE" 0x50,
  cnt "HST_INVALID_NS" 0x54]

/-- Registers of the Mint (R489). -/
def mintRegs : List RegRow := [
  reg1 "MINT_CMD" 0x10 [fWo 2 2 0, fWo 1 1 0, fWo 0 0 0],
  reg1 "MINT_CFG" 0x14 [fRw 0 0 0],
  reg1 "MINT_STAT" 0x18 [fRo 31 28 0],
  reg1 "MINT_WD" 0x1c [fRw 15 0 0x7d0],
  reg1 "MINT_RATE" 0x20 [fRws 31 0 0],
  reg1 "MINT_STEP_NS" 0x24 [fRws 31 0 0],
  reg1 "MINT_STEP_FRAC" 0x28 [fRws 15 0 0],
  reg1 "MINT_SET_SEC_LO" 0x2c [fRws 31 0 0],
  reg1 "MINT_SET_SEC_HI" 0x30 [fRws 15 0 0],
  reg1 "MINT_SET_NS" 0x34 [fRws 29 0 0],
  reg1 "MINT_NOW_NS" 0x40 [fRo 29 0 0],
  reg1 "MINT_NOW_FRAC" 0x44 [fRo 15 0 0],
  reg1 "MINT_NOW_SEC_LO" 0x48 [fRo 31 0 0],
  reg1 "MINT_NOW_SEC_HI" 0x4c [fRo 15 0 0],
  reg1 "MINT_SHORT" 0x50 [fRo 31 0 0],
  reg1 "MINT_PPSIN_NS" 0x60 [fRo 29 0 0],
  reg1 "MINT_PPSIN_FRAC" 0x64 [fRo 15 0 0],
  reg1 "MINT_PPSIN_SEC_LO" 0x68 [fRo 31 0 0],
  reg1 "MINT_PPSIN_SEC_HI" 0x6c [fRo 15 0 0],
  reg1 "MINT_PPSOUT" 0x70 [fRw 31 31 0, fRw 30 30 0, fRw 18 0 0x186a0],
  reg1 "MINT_PPSOFF" 0x74 [fRw 31 0 0],
  cnt "MINT_PPS_EARLY" 0x80,
  cnt "MINT_PPS_MISSING" 0x84,
  cnt "MINT_STEPS" 0x88]

/-- Registers of Ethernet ports (R490). -/
def netPortRegs : List RegRow := [
  reg1 "NET_PORTm_CFG" 0x10 [fSt 31 31 0, fSt 29 28 0, fRw 0 0 0],
  reg1 "NET_PORTm_STAT" 0x14 [fRo 31 31 0, fRo 4 4 0, fRo 3 3 0, fRo 2 2 1, fRo 1 1 0, fRo 0 0 0],
  reg1 "NET_PORTm_MAC_LO" 0x18 [fRw 31 0 0],
  reg1 "NET_PORTm_MAC_HI" 0x1c [fRw 15 0 0],
  reg1 "NET_PORTm_MHASH_LO" 0x20 [fRw 31 0 0],
  reg1 "NET_PORTm_MHASH_HI" 0x24 [fRw 31 0 0],
  reg1 "NET_PORTm_TSADJ" 0x28 [fRw 31 16 0, fRw 15 0 0],
  reg1 "NET_PORTm_MODI2C" 0x2c [fWo 31 31 0, fRw 30 30 0, fRo 29 28 0, fRw 22 16 0x50, fRw 15 8 0, fRw 7 0 0],
  cnt "NET_TX_FRAMES" 0x40,
  cnt "NET_RX_FRAMES" 0x44,
  cnt "NET_RX_FCS" 0x48,
  cnt "NET_RX_LENGTH" 0x4c,
  cnt "NET_RX_CTRL" 0x50,
  cnt "NET_RX_NOBUF" 0x54,
  cnt "NET_TX_LINKDOWN" 0x58,
  cnt "NET_FEC_UNCORR" 0x5c,
  regs1 "NET_PORTm_TXt_BASE_LO" 0x100 3 0x20 [fRw 31 0 0],
  regs1 "NET_PORTm_TXt_BASE_HI" 0x104 3 0x20 [fRw 31 0 0],
  regs1 "NET_PORTm_TXt_CFG" 0x108 3 0x20 [fRw 31 31 0, fRw 3 0 4],
  regs1 "NET_PORTm_TXt_HEAD" 0x10c 3 0x20 [fRo 11 0 0],
  regs1 "NET_PORTm_TXt_TAIL" 0x110 3 0x20 [fRw 11 0 0],
  regs1 "NET_PORTm_RXr_BASE_LO" 0x180 2 0x20 [fRw 31 0 0],
  regs1 "NET_PORTm_RXr_BASE_HI" 0x184 2 0x20 [fRw 31 0 0],
  regs1 "NET_PORTm_RXr_CFG" 0x188 2 0x20 [fRw 31 31 0, fRw 3 0 4],
  regs1 "NET_PORTm_RXr_HEAD" 0x18c 2 0x20 [fRo 11 0 0],
  regs1 "NET_PORTm_RXr_TAIL" 0x190 2 0x20 [fRw 11 0 0]]

/-- Registers of display heads (R507-R511); unit 1 is the eDP head, units 2 and 3 the SDI heads. -/
def dhRegs : List RegRow := [
  reg1 "OUT_DHd_CMD" 0x10 [fWo 2 2 0, fWo 1 1 0, fWo 0 0 0],
  reg1 "OUT_DHd_STAT" 0x14 [fRo 31 28 0, fRo 27 24 0, fRo 17 17 0, fRo 16 16 0, fRo 3 0 0],
  reg1 "OUT_DHd_CFG" 0x18 [fSt 31 31 0, fSt 30 30 0, fSt 15 0 0],
  reg1 "OUT_DHd_BG" 0x1c [fRws 29 20 0, fRws 19 10 0, fRws 9 0 0],
  reg1 "OUT_DHd_OFFSET" 0x20 [fRw 29 0 0],
  reg1 "OUT_DHd_OD" 0x24 [fRw 31 16 0x2000, fRw 15 0 0x6000],
  cnt "OUT_FRAMES" 0x80,
  cnt "OUT_COMMITS_REFUSED" 0x84,
  cnt "OUT_PSR_FAIL" 0x88,
  cnt "OUT_PSR_ABORT" 0x8c,
  regs1 "OUT_DHd_Ll_CFG" 0x100 4 0x40 [fRws 31 31 0, fRws 29 28 0, fRws 21 16 0, fRws 11 8 0, fRws 7 0 0],
  regs1 "OUT_DHd_Ll_POS" 0x104 4 0x40 [fRws 30 16 0, fRws 14 0 0],
  regs1 "OUT_DHd_Ll_ZOOM" 0x108 4 0x40 [fRws 7 4 0, fRws 3 0 0],
  regs1 "OUT_DHd_Ll_CSC" 0x10c 4 0x40 [fRws 0 0 0],
  regs1 "OUT_DHd_Ll_BUFADDR_LO" 0x110 4 0x40 [fRws 31 0 0],
  regs1 "OUT_DHd_Ll_BUFADDR_HI" 0x114 4 0x40 [fRws 5 0 0],
  regs1 "OUT_DHd_Ll_BUFGEOM" 0x118 4 0x40 [fRws 30 16 0, fRws 13 0 0],
  regs1 "OUT_DHd_Ll_PITCH" 0x11c 4 0x40 [fRws 19 0 0],
  regs1 "OUT_DHd_Ll_HELD" 0x130 4 0x40 [fRo 31 0 0],
  cnts "OUT_DHd_Ll_UNDERRUN" 0x138 4 0x40,
  cnts "OUT_DHd_Ll_MEMERR" 0x13c 4 0x40,
  regs2 "OUT_DHd_Ll_Mk" 0x200 4 0x40 12 0x4 [fRws 31 0 0]]

/-- Registers of display heads (R507-R511); unit 1 is the eDP head, units 2 and 3 the SDI heads. -/
def dhERegs : List RegRow := [
  reg1 "OUT_DH0_HTIME" 0x30 [fRw 31 16 0, fRw 15 0 0],
  reg1 "OUT_DH0_VTIME" 0x34 [fRw 31 16 0, fRw 15 0 0],
  reg1 "OUT_DH0_HSYNC" 0x38 [fRw 31 16 0, fRw 15 0 0],
  reg1 "OUT_DH0_VSYNC" 0x3c [fRw 31 16 0, fRw 15 0 0],
  reg1 "OUT_DH0_PCLK" 0x40 [fRw 31 0 0],
  reg1 "OUT_DH0_LINKCFG" 0x44 [fRw 9 8 0, fRw 4 4 0, fRw 2 0 0],
  reg1 "OUT_DH0_PSR" 0x48 [fRw 31 31 0, fRw 15 8 2, fRw 7 0 5],
  reg1 "OUT_DH0_BL" 0x4c [fRw 31 16 0, fRw 15 0 0],
  reg1 "OUT_EVT_INFO" 0x50 [fRo 1 0 0],
  reg1 "OUT_DH0_OVD" 0x90 [fRo 31 31 0]]

/-- Registers of display heads (R507-R511); unit 1 is the eDP head, units 2 and 3 the SDI heads. -/
def dhSRegs : List RegRow := [
  reg1 "OUT_DHd_SDIFMT" 0x30 [fRw 19 16 0, fRw 8 8 0],
  reg1 "OUT_DHd_PIDUSR" 0x34 [fRw 31 26 0, fRw 23 20 0, fRw 13 12 0],
  reg1 "OUT_DHd_PID" 0x38 [fRo 31 0 0]]

/-- Registers of AES3 receivers (R522). -/
def aesRxRegs : List RegRow := [
  reg1 "OUT_AESRXn_CFG" 0x10 [fRw 31 31 0, fRw 27 24 0, fRw 23 0 0],
  reg1 "OUT_AESRXn_RING" 0x14 [fRw 12 0 0],
  reg1 "OUT_AESRXn_WRPTR" 0x18 [fRo 11 0 0],
  reg1 "OUT_AESRXn_RDPTR" 0x1c [fRw 11 0 0],
  reg1 "OUT_AESRXn_STAT" 0x20 [fRo 31 31 0, fRo 19 16 0],
  cnt "OUT_AES_PARITY" 0x40,
  cnt "OUT_AES_OVERRUN" 0x44,
  cnt "OUT_AES_UNLOCKS" 0x48]

/-- Registers of AES3 transmitter (R523). -/
def aesTxRegs : List RegRow := [
  reg1 "OUT_AESTX_CMD" 0x10 [fWo 1 1 0, fWo 0 0 0],
  reg1 "OUT_AESTX_CFG" 0x14 [fRw 27 24 0, fRw 23 0 0],
  reg1 "OUT_AESTX_RING" 0x18 [fRw 12 0 0],
  reg1 "OUT_AESTX_RATE" 0x1c [fRw 3 0 0],
  reg1 "OUT_AESTX_OFFSET" 0x20 [fRw 29 0 0],
  reg1 "OUT_AESTX_HEAD" 0x24 [fRo 11 0 0],
  reg1 "OUT_AESTX_TAIL" 0x28 [fRw 11 0 0],
  reg1 "OUT_AESTX_STAT" 0x2c [fRo 31 28 0, fRo 27 24 0],
  cnt "OUT_AESTX_UNDERRUN" 0x40]

/-- Registers of Clearing House (R536-R538). -/
def chRegs : List RegRow := [
  reg1 "SVC_CH_FIRE_LO" 0x10 [fWo 31 0 0],
  reg1 "SVC_CH_FIRE_HI" 0x14 [fWo 31 0 0],
  reg1 "SVC_CH_LATCH" 0x18 [fW1c 15 0 0],
  reg1 "SVC_CH_LATCH_SET" 0x1c [fWo 15 0 0],
  reg1 "SVC_CH_LOOP_LO" 0x20 [fW1c 31 0 0],
  reg1 "SVC_CH_LOOP_HI" 0x24 [fW1c 31 0 0],
  reg1 "SVC_CH_HOSTPEND_LO" 0x28 [fW1c 31 0 0],
  reg1 "SVC_CH_HOSTPEND_HI" 0x2c [fW1c 31 0 0],
  regs1 "SVC_CHn_CFG" 0x1000 64 0x80 [fRw 31 31 0, fRw 30 30 0, fSt 29 28 0, fRw 27 16 0, fSt 11 0 0],
  regs1 "SVC_CHn_GATE" 0x1004 64 0x80 [fRw 15 0 0],
  regs1 "SVC_CHn_REFRACT" 0x1008 64 0x80 [fRw 12 0 0x10],
  regs2 "SVC_CHn_SRCk" 0x1010 64 0x80 8 0x4 [fSt 31 31 0, fSt 8 0 0],
  regs1 "SVC_CHn_LAST_LIN_LO" 0x1030 64 0x80 [fRo 31 0 0],
  regs1 "SVC_CHn_LAST_LIN_HI" 0x1034 64 0x80 [fRo 31 0 0],
  cnts "SVC_CHn_DELIVERED" 0x1040 64 0x80,
  cnts "SVC_CHn_MERGED" 0x1044 64 0x80,
  cnts "SVC_CHn_REFRACT_DROP" 0x1048 64 0x80,
  cnts "SVC_CHn_GATED" 0x104c 64 0x80,
  cnts "SVC_CHn_LOOP_DROP" 0x1050 64 0x80,
  cnts "SVC_TIN_MERGEx" 0x4000 288 0x4]

/-- Registers of Auditor (R566). -/
def audRegs : List RegRow := [
  reg1 "SVC_AUD_STAT" 0x10 [fRo 31 28 0, fRo 24 16 0, fRo 0 0 0],
  reg1 "SVC_AUD_FL_HEAD" 0x14 [fRo 31 0 0],
  cnt "SVC_AUD_FL_LOST" 0x18,
  reg1 "SVC_AUD_CLASSREACT" 0x20 [fRw 13 8 0, fRw 5 0 0],
  reg1 "SVC_AUD_FENCE" 0x24 [fWo 31 16 0, fWo 13 10 0, fWo 7 7 0, fWo 5 0 0],
  regs1 "SVC_AUD_PENDk" 0x40 9 0x4 [fW1c 31 0 0],
  reg1 "SVC_AUD_INJSEL" 0x64 [fRw 13 10 0, fRw 9 4 0, fRw 1 0 0],
  reg1 "SVC_AUD_INJ" 0x68 [fRw 31 16 0, fRw 15 0 0],
  regs1 "SVC_AUD_SRCx_CFG" 0x1000 288 0x8 [fRw 31 30 0, fRw 29 29 0, fRw 27 24 0, fRw 21 16 0, fRw 15 0 0],
  regs1 "SVC_AUD_SRCx_WIN" 0x1004 288 0x8 [fRw 31 30 0, fRw 15 0 0],
  cnts "SVC_AUD_CNTx" 0x3000 288 0x4,
  regs1 "SVC_AUD_FFk" 0x7fe0 8 0x4 [fRo 31 0 0],
  regs1 "SVC_AUD_FLk" 0x8000 8192 0x4 [fRo 31 0 0]]

/-- Registers of power supervisor (R52, R129). -/
def pwrRegs : List RegRow := [
  reg1 "SVC_PWR_STAT" 0x10 [fRo 3 3 0, fRo 2 2 0, fRo 1 1 0, fRo 0 0 0],
  reg1 "SVC_HPWR_CTL" 0x20 [fRw 3 0 0],
  reg1 "SVC_HPWR_STAT" 0x24 [fRo 15 12 0, fRo 11 8 0, fRo 7 4 0, fRo 3 0 0],
  regs1 "SVC_HPWR_MEASn" 0x30 4 0x4 [fRo 31 16 0, fRo 15 0 0],
  reg1 "SVC_RET_TIME" 0x40 [fRo 31 0 0]]

/-- Registers of thermal unit (R567). -/
def thermRegs : List RegRow := [
  reg1 "SVC_TH_ZONE" 0x10 [fRo 31 16 0, fRo 15 0 0],
  reg1 "SVC_TH_STAT" 0x14 [fRo 31 28 0, fRo 27 24 0, fRo 17 17 0, fRo 16 16 0, fRo 15 0 0],
  reg1 "SVC_TH_CFG" 0x20 [fRw 31 16 0x1f4, fRw 15 8 0x32, fRo 2 2 0, fRw 1 0 1],
  cnt "SVC_TH_REQUESTS" 0x40,
  cnt "SVC_TH_ENFORCEMENTS" 0x44,
  cnt "SVC_TH_ESCALATIONS" 0x48,
  regs1 "SVC_TH_SENSn" 0x100 16 0x4 [fRo 31 31 0, fRo 30 28 0, fRo 15 0 0]]

/-! BAR2 addresses by name: cluster * 0x400000 + unit * 0x10000 + offset (R13). -/

/-- DEV_CAP0 (R6). -/
def rDevCap0 : Nat := 0x4
/-- DEV_CAP1 (R7). -/
def rDevCap1 : Nat := 0x8
/-- DEV_CLK (R29). -/
def rDevClk : Nat := 0x10
/-- DEV_FENCE_CL (R40). -/
def rDevFenceCl : Nat := 0x20
/-- DEV_RST_CTL (R129). -/
def rDevRstCtl : Nat := 0x30
/-- DEV_RST_CAUSE (R129). -/
def rDevRstCause : Nat := 0x34
/-- DEV_CFG_STAT (R90). -/
def rDevCfgStat : Nat := 0x40
/-- DEV_CFG_ERR (R90). -/
def rDevCfgErr : Nat := 0x44
/-- DEV_SV_LOG (R90). -/
def rDevSvLog : Nat := 0x48
/-- DEV_SV_CNT (R90). -/
def rDevSvCnt : Nat := 0x4c
/-- DEV_HEADn (R577). -/
def rDevHead (i : Nat) : Nat := 0x60 + 0x4 * i
/-- DEV_IMG_DIGESTk (R90). -/
def rDevImgDigest (i : Nat) : Nat := 0x80 + 0x4 * i
/-- DEV_FENCE_Uk (R40). -/
def rDevFenceU (i : Nat) : Nat := 0x100 + 0x4 * i
/-- DEV_VLT_CMD (R120). -/
def rDevVltCmd : Nat := 0x10010
/-- DEV_VLT_STAT (R120). -/
def rDevVltStat : Nat := 0x10014
/-- DEV_VLT_POLICY (R120). -/
def rDevVltPolicy : Nat := 0x10018
/-- DEV_VLT_SWAP_LO (R120). -/
def rDevVltSwapLo : Nat := 0x10020
/-- DEV_VLT_SWAP_HI (R120). -/
def rDevVltSwapHi : Nat := 0x10024
/-- DEV_VLT_HOLD (R120). -/
def rDevVltHold : Nat := 0x10028
/-- DEV_VLT_DISCARD (R120). -/
def rDevVltDiscard : Nat := 0x1002c
/-- DEV_VLT_NONCEk (R120). -/
def rDevVltNonce (i : Nat) : Nat := 0x10030 + 0x4 * i
/-- DEV_VLT_ESC_DIGESTk (R120). -/
def rDevVltEscDigest (i : Nat) : Nat := 0x10040 + 0x4 * i
/-- DEV_VLT_FRST_Uk (R120). -/
def rDevVltFrstU (i : Nat) : Nat := 0x10100 + 0x4 * i
/-- DEV_VLT_AKPUBk (R120). -/
def rDevVltAkpub (i : Nat) : Nat := 0x10200 + 0x4 * i
/-- xxx_CL_SRC (R576). -/
def rClSrc (c : Nat) : Nat := 0x10 + 0x400000 * c
/-- xxx_CL_FENCE (R576). -/
def rClFence (c i : Nat) : Nat := 0x14 + 0x400000 * c + 0x4 * i
/-- xxx_CL_RST (R128). -/
def rClRst (c : Nat) : Nat := 0x30 + 0x400000 * c
/-- MEM_CFG (R437). -/
def rMemCfg : Nat := 0x410010
/-- MEM_STAT (R437). -/
def rMemStat : Nat := 0x410014
/-- MEM_CE_INFO (R437). -/
def rMemCeInfo : Nat := 0x410018
/-- MEM_OD_CFG (R437). -/
def rMemOdCfg : Nat := 0x410020
/-- MEM_SCRUB (R437). -/
def rMemScrub : Nat := 0x410024
/-- MEM_SCRUB_STAT (R437). -/
def rMemScrubStat : Nat := 0x410028
/-- MEM_COINp_CFG (R437). -/
def rMemCoinCfg (i : Nat) : Nat := 0x410040 + 0x8 * i
/-- MEM_COINp_STAT (R437). -/
def rMemCoinStat (i : Nat) : Nat := 0x410044 + 0x8 * i
/-- MEM_REFUSED (R437). -/
def rMemRefused : Nat := 0x410080
/-- MEM_OD_FLOORS (R437). -/
def rMemOdFloors : Nat := 0x410084
/-- MEM_SCRUB_LATE (R437). -/
def rMemScrubLate : Nat := 0x410088
/-- MEM_CE_TOTAL (R437). -/
def rMemCeTotal : Nat := 0x41008c
/-- MEM_RGNr_BASE (R438). -/
def rMemRgnBase (i : Nat) : Nat := 0x410100 + 0x10 * i
/-- MEM_RGNr_SIZE (R438). -/
def rMemRgnSize (i : Nat) : Nat := 0x410104 + 0x10 * i
/-- MEM_RGNr_MAP (R438). -/
def rMemRgnMap (i : Nat) : Nat := 0x410108 + 0x10 * i
/-- MEM_RGNr_LBASE (R438). -/
def rMemRgnLbase (i : Nat) : Nat := 0x41010c + 0x10 * i
/-- MEM_SCn_STAT (R439). -/
def rMemScStat (n : Nat) : Nat := 0x500010 + 0x10000 * n
/-- MEM_SCn_UEADDR_LO (R439). -/
def rMemScUeaddrLo (n : Nat) : Nat := 0x500014 + 0x10000 * n
/-- MEM_SCn_UEADDR_HI (R439). -/
def rMemScUeaddrHi (n : Nat) : Nat := 0x500018 + 0x10000 * n
/-- MEM_SCn_ECS (R439). -/
def rMemScEcs (n : Nat) : Nat := 0x50001c + 0x10000 * n
/-- MEM_SCn_ECSROW (R439). -/
def rMemScEcsrow (n : Nat) : Nat := 0x500020 + 0x10000 * n
/-- MEM_SCn_INJ (R439). -/
def rMemScInj (n : Nat) : Nat := 0x500024 + 0x10000 * n
/-- MEM_SC_CE_BURSTS (R439). -/
def rMemScCeBursts (n : Nat) : Nat := 0x500040 + 0x10000 * n
/-- MEM_SC_CE_SYMBOLS (R439). -/
def rMemScCeSymbols (n : Nat) : Nat := 0x500044 + 0x10000 * n
/-- MEM_SC_UE (R439). -/
def rMemScUe (n : Nat) : Nat := 0x500048 + 0x10000 * n
/-- MEM_SC_FORCED_REF (R439). -/
def rMemScForcedRef (n : Nat) : Nat := 0x50004c + 0x10000 * n
/-- MEM_SC_SCRUB_FIXED (R439). -/
def rMemScScrubFixed (n : Nat) : Nat := 0x500050 + 0x10000 * n
/-- LNK_PORT_STAT (R162). -/
def rLnkPortStat (n : Nat) : Nat := 0x810010 + 0x10000 * n
/-- LNK_PORT_CTL (R162). -/
def rLnkPortCtl (n : Nat) : Nat := 0x810014 + 0x10000 * n
/-- LNK_PORT_CFG (R162). -/
def rLnkPortCfg (n : Nat) : Nat := 0x810018 + 0x10000 * n
/-- LNK_HDR_ERR (R163). -/
def rLnkHdrErr (n : Nat) : Nat := 0x810020 + 0x10000 * n
/-- LNK_CRC_ERR (R163). -/
def rLnkCrcErr (n : Nat) : Nat := 0x810024 + 0x10000 * n
/-- LNK_TRUNC (R163). -/
def rLnkTrunc (n : Nat) : Nat := 0x810028 + 0x10000 * n
/-- LNK_BAD_DT (R163). -/
def rLnkBadDt (n : Nat) : Nat := 0x81002c + 0x10000 * n
/-- LNK_UNDECL_VC (R163). -/
def rLnkUndeclVc (n : Nat) : Nat := 0x810030 + 0x10000 * n
/-- LNK_BLK_ERR (R163). -/
def rLnkBlkErr (n : Nat) : Nat := 0x810034 + 0x10000 * n
/-- LNK_FILLER (R163). -/
def rLnkFiller (n : Nat) : Nat := 0x810038 + 0x10000 * n
/-- LNK_CTL_ERR (R163). -/
def rLnkCtlErr (n : Nat) : Nat := 0x81003c + 0x10000 * n
/-- LNK_HC_ADDR (R162). -/
def rLnkHcAddr (n : Nat) : Nat := 0x810040 + 0x10000 * n
/-- LNK_HC_DATA (R162). -/
def rLnkHcData (n : Nat) : Nat := 0x810044 + 0x10000 * n
/-- LNK_HC_CMD (R162). -/
def rLnkHcCmd (n : Nat) : Nat := 0x810048 + 0x10000 * n
/-- LNK_HC_STAT (R162). -/
def rLnkHcStat (n : Nat) : Nat := 0x81004c + 0x10000 * n
/-- LNK_HC_EVT (R162). -/
def rLnkHcEvt (n : Nat) : Nat := 0x810050 + 0x10000 * n
/-- LNK_LANE_STAT (R162). -/
def rLnkLaneStat (l : Nat) : Nat := 0x900010 + 0x10000 * l
/-- LNK_LANE_EQ (R162). -/
def rLnkLaneEq (l : Nat) : Nat := 0x900014 + 0x10000 * l
/-- LNK_LANE_DFEk (R162). -/
def rLnkLaneDfe (l i : Nat) : Nat := 0x900020 + 0x10000 * l + 0x4 * i
/-- LNK_FEC_COR (R163). -/
def rLnkFecCor (l : Nat) : Nat := 0x900040 + 0x10000 * l
/-- LNK_FEC_UNC (R163). -/
def rLnkFecUnc (l : Nat) : Nat := 0x900044 + 0x10000 * l
/-- LNK_LANE_ESCTL (R162). -/
def rLnkLaneEsctl (l : Nat) : Nat := 0x900050 + 0x10000 * l
/-- LNK_LANE_ESSTAT (R162). -/
def rLnkLaneEsstat (l : Nat) : Nat := 0x900054 + 0x10000 * l
/-- LNK_LANE_ESRAM (R156). -/
def rLnkLaneEsram (l i : Nat) : Nat := 0x908000 + 0x10000 * l + 0x4 * i
/-- ING_PORT_OCC (R185). -/
def rIngPortOcc (n : Nat) : Nat := 0xc10010 + 0x10000 * n
/-- ING_PORT_THR (R185). -/
def rIngPortThr (n : Nat) : Nat := 0xc10014 + 0x10000 * n
/-- ING_PORT_STAT (R185). -/
def rIngPortStat (n : Nat) : Nat := 0xc10018 + 0x10000 * n
/-- ING_OVF_LINES (R185). -/
def rIngOvfLines (n : Nat) : Nat := 0xc10020 + 0x10000 * n
/-- ING_SHED_FRAMES (R185). -/
def rIngShedFrames (n : Nat) : Nat := 0xc10024 + 0x10000 * n
/-- ING_OD_COUNT (R185). -/
def rIngOdCount (n : Nat) : Nat := 0xc10028 + 0x10000 * n
/-- ING_STALL (R185). -/
def rIngStall (n : Nat) : Nat := 0xc1002c + 0x10000 * n
/-- ING_PORT_SSTATk (R185). -/
def rIngPortSstat (n i : Nat) : Nat := 0xc10100 + 0x10000 * n + 0x4 * i
/-- ING_CALn_BASE (R315). -/
def rIngCalBase (i : Nat) : Nat := 0xc60010 + 0x8 * i
/-- ING_CALn_GRID (R315). -/
def rIngCalGrid (i : Nat) : Nat := 0xc60014 + 0x8 * i
/-- ING_CAL_OFSi (R315). -/
def rIngCalOfs (i : Nat) : Nat := 0xc60100 + 0x4 * i
/-- ING_GRPg_CFG (R187). -/
def rIngGrpCfg (i : Nat) : Nat := 0xc80100 + 0x10 * i
/-- ING_GRPg_MASK (R187). -/
def rIngGrpMask (i : Nat) : Nat := 0xc80104 + 0x10 * i
/-- ING_GRPg_STAT (R187). -/
def rIngGrpStat (i : Nat) : Nat := 0xc80108 + 0x10 * i
/-- ING_STR_GEOM (R186). -/
def rIngStrGeom (i : Nat) : Nat := 0xc81000 + 0x40 * i
/-- ING_STR_FMT (R186). -/
def rIngStrFmt (i : Nat) : Nat := 0xc81004 + 0x40 * i
/-- ING_STR_PAD (R186). -/
def rIngStrPad (i : Nat) : Nat := 0xc81008 + 0x40 * i
/-- ING_STR_TOUT (R186). -/
def rIngStrTout (i : Nat) : Nat := 0xc8100c + 0x40 * i
/-- ING_STR_STAT (R186). -/
def rIngStrStat (i : Nat) : Nat := 0xc81010 + 0x40 * i
/-- ING_STR_FRAMES (R186). -/
def rIngStrFrames (i : Nat) : Nat := 0xc81020 + 0x40 * i
/-- ING_STR_ANOMALY (R186). -/
def rIngStrAnomaly (i : Nat) : Nat := 0xc81024 + 0x40 * i
/-- ING_STR_ORPHAN (R186). -/
def rIngStrOrphan (i : Nat) : Nat := 0xc81028 + 0x40 * i
/-- ING_STR_UNSOLICITED (R186). -/
def rIngStrUnsolicited (i : Nat) : Nat := 0xc8102c + 0x40 * i
/-- ING_STR_NO_FRAME (R186). -/
def rIngStrNoFrame (i : Nat) : Nat := 0xc81030 + 0x40 * i
/-- ING_STR_WRONG_DT (R186). -/
def rIngStrWrongDt (i : Nat) : Nat := 0xc81034 + 0x40 * i
/-- ING_STR_LATE_EXP (R186). -/
def rIngStrLateExp (i : Nat) : Nat := 0xc81038 + 0x40 * i
/-- ING_SERIAL_LO (R280). -/
def rIngSerialLo : Nat := 0xc90010
/-- ING_SERIAL_HI (R280). -/
def rIngSerialHi : Nat := 0xc90014
/-- ING_REC_STAT (R280). -/
def rIngRecStat : Nat := 0xc90018
/-- ING_ANNEX (R280). -/
def rIngAnnex : Nat := 0xc9001c
/-- ING_LEDGER_UE (R280). -/
def rIngLedgerUe : Nat := 0xc90020
/-- ING_PARTp_CFG (R281). -/
def rIngPartCfg (i : Nat) : Nat := 0xc91000 + 0x40 * i
/-- ING_PARTp_BASE (R281). -/
def rIngPartBase (i : Nat) : Nat := 0xc91004 + 0x40 * i
/-- ING_PARTp_SIZE (R281). -/
def rIngPartSize (i : Nat) : Nat := 0xc91008 + 0x40 * i
/-- ING_PARTp_LBASE (R281). -/
def rIngPartLbase (i : Nat) : Nat := 0xc9100c + 0x40 * i
/-- ING_PARTp_LCOUNT (R281). -/
def rIngPartLcount (i : Nat) : Nat := 0xc91010 + 0x40 * i
/-- ING_PARTp_SRBASE (R281). -/
def rIngPartSrbase (i : Nat) : Nat := 0xc91014 + 0x40 * i
/-- ING_PARTp_TBASE (R281). -/
def rIngPartTbase (i : Nat) : Nat := 0xc91018 + 0x40 * i
/-- ING_PARTp_IBASE (R281). -/
def rIngPartIbase (i : Nat) : Nat := 0xc9101c + 0x40 * i
/-- ING_PARTp_WPTR (R281). -/
def rIngPartWptr (i : Nat) : Nat := 0xc91020 + 0x40 * i
/-- ING_PARTp_STAT (R281). -/
def rIngPartStat (i : Nat) : Nat := 0xc91024 + 0x40 * i
/-- ING_PARTp_CMD (R281). -/
def rIngPartCmd (i : Nat) : Nat := 0xc91028 + 0x40 * i
/-- ING_PARTp_DROPPED (R281). -/
def rIngPartDropped (i : Nat) : Nat := 0xc91030 + 0x40 * i
/-- ING_PARTp_REFUSED (R281). -/
def rIngPartRefused (i : Nat) : Nat := 0xc91034 + 0x40 * i
/-- SCH_EPCOMMIT (R225). -/
def rSchEpcommit : Nat := 0x1010010
/-- SCH_EVT_INFO (R225). -/
def rSchEvtInfo : Nat := 0x1010014
/-- SCH_TBLt_CFG (R226). -/
def rSchTblCfg (t : Nat) : Nat := 0x1020010 + 0x10000 * t
/-- SCH_TBLt_HYST (R226). -/
def rSchTblHyst (t : Nat) : Nat := 0x1020014 + 0x10000 * t
/-- SCH_TBLt_EIDX (R226). -/
def rSchTblEidx (t : Nat) : Nat := 0x1020018 + 0x10000 * t
/-- SCH_TBLt_ECMD (R226). -/
def rSchTblEcmd (t : Nat) : Nat := 0x102001c + 0x10000 * t
/-- SCH_TBLt_ESTAT (R226). -/
def rSchTblEstat (t : Nat) : Nat := 0x1020020 + 0x10000 * t
/-- SCH_TBL_FIRED (R226). -/
def rSchTblFired (t : Nat) : Nat := 0x1020030 + 0x10000 * t
/-- SCH_TBL_MISSED (R226). -/
def rSchTblMissed (t : Nat) : Nat := 0x1020034 + 0x10000 * t
/-- SCH_TBL_LATE (R226). -/
def rSchTblLate (t : Nat) : Nat := 0x1020038 + 0x10000 * t
/-- SCH_TBL_BAD_ENTRY (R226). -/
def rSchTblBadEntry (t : Nat) : Nat := 0x102003c + 0x10000 * t
/-- SCH_TBLt_EDATAk (R226). -/
def rSchTblEdata (t i : Nat) : Nat := 0x1020040 + 0x10000 * t + 0x4 * i
/-- SCH_AXn_CFG (R251). -/
def rSchAxCfg (n : Nat) : Nat := 0x10a0010 + 0x10000 * n
/-- SCH_AXn_IDX (R251). -/
def rSchAxIdx (n : Nat) : Nat := 0x10a0014 + 0x10000 * n
/-- SCH_AXn_IPER (R251). -/
def rSchAxIper (n : Nat) : Nat := 0x10a0018 + 0x10000 * n
/-- SCH_AXn_SER (R251). -/
def rSchAxSer (n : Nat) : Nat := 0x10a001c + 0x10000 * n
/-- SCH_AXn_SERT (R251). -/
def rSchAxSert (n : Nat) : Nat := 0x10a0020 + 0x10000 * n
/-- SCH_AXn_SERL (R251). -/
def rSchAxSerl (n : Nat) : Nat := 0x10a0024 + 0x10000 * n
/-- SCH_AXn_STILL (R251). -/
def rSchAxStill (n : Nat) : Nat := 0x10a0028 + 0x10000 * n
/-- SCH_AXn_STAT (R252). -/
def rSchAxStat (n : Nat) : Nat := 0x10a0040 + 0x10000 * n
/-- SCH_AXn_POS_LO (R252). -/
def rSchAxPosLo (n : Nat) : Nat := 0x10a0044 + 0x10000 * n
/-- SCH_AXn_POS_HI (R252). -/
def rSchAxPosHi (n : Nat) : Nat := 0x10a0048 + 0x10000 * n
/-- SCH_AXn_SPD_LO (R252). -/
def rSchAxSpdLo (n : Nat) : Nat := 0x10a004c + 0x10000 * n
/-- SCH_AXn_SPD_HI (R252). -/
def rSchAxSpdHi (n : Nat) : Nat := 0x10a0050 + 0x10000 * n
/-- SCH_AXn_IDXLAT_LO (R252). -/
def rSchAxIdxlatLo (n : Nat) : Nat := 0x10a0054 + 0x10000 * n
/-- SCH_AXn_IDXLAT_HI (R252). -/
def rSchAxIdxlatHi (n : Nat) : Nat := 0x10a0058 + 0x10000 * n
/-- SCH_AXn_IDXDEV (R252). -/
def rSchAxIdxdev (n : Nat) : Nat := 0x10a005c + 0x10000 * n
/-- SCH_AXn_SET_LO (R251). -/
def rSchAxSetLo (n : Nat) : Nat := 0x10a0060 + 0x10000 * n
/-- SCH_AXn_SET_HI (R251). -/
def rSchAxSetHi (n : Nat) : Nat := 0x10a0064 + 0x10000 * n
/-- SCH_AXn_ERRINFO (R252). -/
def rSchAxErrinfo (n : Nat) : Nat := 0x10a0070 + 0x10000 * n
/-- SCH_AX_ERR_QUAD (R252). -/
def rSchAxErrQuad (n : Nat) : Nat := 0x10a0080 + 0x10000 * n
/-- SCH_AX_ERR_HALL (R252). -/
def rSchAxErrHall (n : Nat) : Nat := 0x10a0084 + 0x10000 * n
/-- SCH_AX_ERR_SER (R252). -/
def rSchAxErrSer (n : Nat) : Nat := 0x10a0088 + 0x10000 * n
/-- SCH_AX_WIRE (R252). -/
def rSchAxWire (n : Nat) : Nat := 0x10a008c + 0x10000 * n
/-- SCH_AX_DIR_CHG (R252). -/
def rSchAxDirChg (n : Nat) : Nat := 0x10a0090 + 0x10000 * n
/-- SCH_AX_INDEX (R252). -/
def rSchAxIndex (n : Nat) : Nat := 0x10a0094 + 0x10000 * n
/-- SCH_AX_DRIFT (R252). -/
def rSchAxDrift (n : Nat) : Nat := 0x10a0098 + 0x10000 * n
/-- SCH_AX_SER_WARN (R252). -/
def rSchAxSerWarn (n : Nat) : Nat := 0x10a009c + 0x10000 * n
/-- SCH_A5_CFG (R229). -/
def rSchA5Cfg : Nat := 0x10e0010
/-- SCH_A5_STAT (R229). -/
def rSchA5Stat : Nat := 0x10e0014
/-- SCH_A5_CYCLE (R229). -/
def rSchA5Cycle : Nat := 0x10e0018
/-- SCH_A5_PHASE (R229). -/
def rSchA5Phase : Nat := 0x10e001c
/-- SCH_A5_PERIOD (R229). -/
def rSchA5Period : Nat := 0x10e0020
/-- SCH_A6_CFG (R230). -/
def rSchA6Cfg : Nat := 0x10f0010
/-- SCH_A6_CNT_LO (R230). -/
def rSchA6CntLo : Nat := 0x10f0014
/-- SCH_A6_CNT_HI (R230). -/
def rSchA6CntHi : Nat := 0x10f0018
/-- SCH_TI_CFGn (R230). -/
def rSchTiCfg (i : Nat) : Nat := 0x10f0020 + 0x4 * i
/-- SCH_HDn_TRG (R227). -/
def rSchHdTrg (n : Nat) : Nat := 0x1100010 + 0x10000 * n
/-- SCH_HDn_TLAT (R227). -/
def rSchHdTlat (n : Nat) : Nat := 0x1100014 + 0x10000 * n
/-- SCH_HDn_MARGIN (R227). -/
def rSchHdMargin (n : Nat) : Nat := 0x1100018 + 0x10000 * n
/-- SCH_HDn_EPSEL (R227). -/
def rSchHdEpsel (n : Nat) : Nat := 0x110001c + 0x10000 * n
/-- SCH_HDn_EPSTAT (R227). -/
def rSchHdEpstat (n : Nat) : Nat := 0x1100020 + 0x10000 * n
/-- SCH_HDn_TE (R227). -/
def rSchHdTe (n : Nat) : Nat := 0x1100024 + 0x10000 * n
/-- SCH_HDn_EPk_ID (R227). -/
def rSchHdEpId (n i : Nat) : Nat := 0x1100040 + 0x10000 * n + 0x8 * i
/-- SCH_HDn_EPk_DUR (R227). -/
def rSchHdEpDur (n i : Nat) : Nat := 0x1100044 + 0x10000 * n + 0x8 * i
/-- SCH_HD_EXPOSED (R227). -/
def rSchHdExposed (n : Nat) : Nat := 0x1100080 + 0x10000 * n
/-- SCH_HD_COALESCED (R227). -/
def rSchHdCoalesced (n : Nat) : Nat := 0x1100084 + 0x10000 * n
/-- SCH_HD_EPSEL_LATE (R227). -/
def rSchHdEpselLate (n : Nat) : Nat := 0x1100088 + 0x10000 * n
/-- SCH_STRi_CMD (R228). -/
def rSchStrCmd (i : Nat) : Nat := 0x1141000 + 0x40 * i
/-- SCH_STRi_WIN (R228). -/
def rSchStrWin (i : Nat) : Nat := 0x1141004 + 0x40 * i
/-- SCH_STRi_PRE (R228). -/
def rSchStrPre (i : Nat) : Nat := 0x1141008 + 0x40 * i
/-- SCH_STRi_POST (R228). -/
def rSchStrPost (i : Nat) : Nat := 0x114100c + 0x40 * i
/-- SCH_STRi_STAT (R228). -/
def rSchStrStat (i : Nat) : Nat := 0x1141010 + 0x40 * i
/-- SCH_STRi_TMIN (R228). -/
def rSchStrTmin (i : Nat) : Nat := 0x1141014 + 0x40 * i
/-- SCH_STRi_SLACK (R228). -/
def rSchStrSlack (i : Nat) : Nat := 0x1141018 + 0x40 * i
/-- SCH_STRi_SEG (R228). -/
def rSchStrSeg (i : Nat) : Nat := 0x114101c + 0x40 * i
/-- SCH_STR_THROTTLED (R228). -/
def rSchStrThrottled (i : Nat) : Nat := 0x1141020 + 0x40 * i
/-- SCH_STR_NOT_ARMED (R228). -/
def rSchStrNotArmed (i : Nat) : Nat := 0x1141024 + 0x40 * i
/-- SCH_STR_TRIG_IGNORED (R228). -/
def rSchStrTrigIgnored (i : Nat) : Nat := 0x1141028 + 0x40 * i
/-- SCH_SO_STAT (R231). -/
def rSchSoStat : Nat := 0x1150010
/-- SCH_SO_DROPn (R231). -/
def rSchSoDrop (i : Nat) : Nat := 0x1150040 + 0x4 * i
/-- SCH_SO_EXTn (R231). -/
def rSchSoExt (i : Nat) : Nat := 0x1150060 + 0x4 * i
/-- PIX_CFG (R312). -/
def rPixCfg (c : Nat) : Nat := 0x1410010 + 0x400000 * c
/-- PIX_STRIPE (R312). -/
def rPixStripe (c : Nat) : Nat := 0x1410014 + 0x400000 * c
/-- PIX_STAT (R312). -/
def rPixStat (c : Nat) : Nat := 0x1410018 + 0x400000 * c
/-- PIX_SWAP (R312). -/
def rPixSwap (c : Nat) : Nat := 0x141001c + 0x400000 * c
/-- PIX_SAT (R312). -/
def rPixSat (c : Nat) : Nat := 0x1410020 + 0x400000 * c
/-- PIX_EPS (R312). -/
def rPixEps (c : Nat) : Nat := 0x1410024 + 0x400000 * c
/-- PIX_BLACKq (R312). -/
def rPixBlack (c i : Nat) : Nat := 0x1410030 + 0x400000 * c + 0x4 * i
/-- PIX_CGq (R312). -/
def rPixCg (c i : Nat) : Nat := 0x1410040 + 0x400000 * c + 0x4 * i
/-- PIX_M1_k (R312). -/
def rPixM1K (c i : Nat) : Nat := 0x1410050 + 0x400000 * c + 0x4 * i
/-- PIX_TF (R312). -/
def rPixTf (c : Nat) : Nat := 0x1410080 + 0x400000 * c
/-- PIX_TF_SCALE (R312). -/
def rPixTfScale (c : Nat) : Nat := 0x1410084 + 0x400000 * c
/-- PIX_SHP_LO (R312). -/
def rPixShpLo (c : Nat) : Nat := 0x1410088 + 0x400000 * c
/-- PIX_SHP_HI (R312). -/
def rPixShpHi (c : Nat) : Nat := 0x141008c + 0x400000 * c
/-- PIX_OC_LO (R312). -/
def rPixOcLo (c : Nat) : Nat := 0x1410090 + 0x400000 * c
/-- PIX_OC_HI (R312). -/
def rPixOcHi (c : Nat) : Nat := 0x1410094 + 0x400000 * c
/-- PIX_M2_k (R312). -/
def rPixM2K (c i : Nat) : Nat := 0x14100a0 + 0x400000 * c + 0x4 * i
/-- PIX_CORR (R312). -/
def rPixCorr (c : Nat) : Nat := 0x14100e0 + 0x400000 * c
/-- PIX_CSCALE (R312). -/
def rPixCscale (c : Nat) : Nat := 0x14100e4 + 0x400000 * c
/-- PIX_COFF (R312). -/
def rPixCoff (c : Nat) : Nat := 0x14100e8 + 0x400000 * c
/-- PIX_DEFECT_UNCORR (R312). -/
def rPixDefectUncorr (c : Nat) : Nat := 0x1410100 + 0x400000 * c
/-- PIX_SRAM_CE (R312). -/
def rPixSramCe (c : Nat) : Nat := 0x1410104 + 0x400000 * c
/-- PIX_SRAM_UE (R312). -/
def rPixSramUe (c : Nat) : Nat := 0x1410108 + 0x400000 * c
/-- PIX_FRAMES (R312). -/
def rPixFrames (c : Nat) : Nat := 0x141010c + 0x400000 * c
/-- PIX_TY_Kk (R314). -/
def rPixTyK (c i : Nat) : Nat := 0x1420010 + 0x400000 * c + 0x4 * i
/-- PIX_TRGk_CFG (R314). -/
def rPixTrgCfg (c i : Nat) : Nat := 0x1420040 + 0x400000 * c + 0x20 * i
/-- PIX_TRGk_THR (R314). -/
def rPixTrgThr (c i : Nat) : Nat := 0x1420044 + 0x400000 * c + 0x20 * i
/-- PIX_TRGk_ZMj (R314). -/
def rPixTrgZm (c i k : Nat) : Nat := 0x1420048 + 0x400000 * c + 0x20 * i + 0x4 * k
/-- PIX_TRGk_SER_LO (R314). -/
def rPixTrgSerLo (c i : Nat) : Nat := 0x1420058 + 0x400000 * c + 0x20 * i
/-- PIX_TRGk_SER_HI (R314). -/
def rPixTrgSerHi (c i : Nat) : Nat := 0x142005c + 0x400000 * c + 0x20 * i
/-- PIX_PX_GEOM (R313). -/
def rPixPxGeom (c : Nat) : Nat := 0x1430010 + 0x400000 * c
/-- PIX_PX_FMT (R313). -/
def rPixPxFmt (c : Nat) : Nat := 0x1430014 + 0x400000 * c
/-- PIX_PX_HSTEP (R313). -/
def rPixPxHstep (c : Nat) : Nat := 0x1430018 + 0x400000 * c
/-- PIX_PX_VSTEP (R313). -/
def rPixPxVstep (c : Nat) : Nat := 0x143001c + 0x400000 * c
/-- PIX_PX_QSCALEc (R313). -/
def rPixPxQscale (c i : Nat) : Nat := 0x1430020 + 0x400000 * c + 0x8 * i
/-- PIX_PX_QOFFc (R313). -/
def rPixPxQoff (c i : Nat) : Nat := 0x1430024 + 0x400000 * c + 0x8 * i
/-- PIX_PX_RING (R313). -/
def rPixPxRing (c : Nat) : Nat := 0x1430040 + 0x400000 * c
/-- PIX_PX_STAT (R313). -/
def rPixPxStat (c : Nat) : Nat := 0x1430044 + 0x400000 * c
/-- PIX_PX_SKIP (R313). -/
def rPixPxSkip (c : Nat) : Nat := 0x1430048 + 0x400000 * c
/-- COR_STAT (R351). -/
def rCorStat : Nat := 0x2410010
/-- COR_CUR_LO (R351). -/
def rCorCurLo : Nat := 0x2410014
/-- COR_CUR_HI (R351). -/
def rCorCurHi : Nat := 0x2410018
/-- COR_SRAM_CE (R351). -/
def rCorSramCe : Nat := 0x2410040
/-- COR_SRAM_UE (R351). -/
def rCorSramUe : Nat := 0x2410044
/-- COR_YIELDS (R351). -/
def rCorYields : Nat := 0x2410048
/-- COR_Jj_CMD (R352). -/
def rCorJCmd (i : Nat) : Nat := 0x2421000 + 0x100 * i
/-- COR_Jj_CFG (R352). -/
def rCorJCfg (i : Nat) : Nat := 0x2421004 + 0x100 * i
/-- COR_Jj_CBASE (R352). -/
def rCorJCbase (i : Nat) : Nat := 0x2421008 + 0x100 * i
/-- COR_Jj_CCOUNT (R352). -/
def rCorJCcount (i : Nat) : Nat := 0x242100c + 0x100 * i
/-- COR_Jj_CONV (R352). -/
def rCorJConv (i : Nat) : Nat := 0x2421010 + 0x100 * i
/-- COR_Jj_QUAL (R352). -/
def rCorJQual (i : Nat) : Nat := 0x2421014 + 0x100 * i
/-- COR_Jj_NOISE (R352). -/
def rCorJNoise (i : Nat) : Nat := 0x2421018 + 0x100 * i
/-- COR_Jj_SKIP (R352). -/
def rCorJSkip (i : Nat) : Nat := 0x242101c + 0x100 * i
/-- COR_Jj_REF_LO (R352). -/
def rCorJRefLo (i : Nat) : Nat := 0x2421020 + 0x100 * i
/-- COR_Jj_REF_HI (R352). -/
def rCorJRefHi (i : Nat) : Nat := 0x2421024 + 0x100 * i
/-- COR_Jj_START_LO (R352). -/
def rCorJStartLo (i : Nat) : Nat := 0x2421028 + 0x100 * i
/-- COR_Jj_START_HI (R352). -/
def rCorJStartHi (i : Nat) : Nat := 0x242102c + 0x100 * i
/-- COR_Jj_END_LO (R352). -/
def rCorJEndLo (i : Nat) : Nat := 0x2421030 + 0x100 * i
/-- COR_Jj_END_HI (R352). -/
def rCorJEndHi (i : Nat) : Nat := 0x2421034 + 0x100 * i
/-- COR_Jj_XWIN (R352). -/
def rCorJXwin (i : Nat) : Nat := 0x2421038 + 0x100 * i
/-- COR_Jj_PIV (R352). -/
def rCorJPiv (i : Nat) : Nat := 0x242103c + 0x100 * i
/-- COR_Jj_WORK (R352). -/
def rCorJWork (i : Nat) : Nat := 0x2421040 + 0x100 * i
/-- COR_Jj_RES (R352). -/
def rCorJRes (i : Nat) : Nat := 0x2421044 + 0x100 * i
/-- COR_Jj_RESN (R352). -/
def rCorJResn (i : Nat) : Nat := 0x2421048 + 0x100 * i
/-- COR_Jj_RDPTR (R352). -/
def rCorJRdptr (i : Nat) : Nat := 0x242104c + 0x100 * i
/-- COR_Jj_WRPTR (R352). -/
def rCorJWrptr (i : Nat) : Nat := 0x2421050 + 0x100 * i
/-- COR_Jj_STAT (R352). -/
def rCorJStat (i : Nat) : Nat := 0x2421054 + 0x100 * i
/-- COR_Jj_PNX_LO (R352). -/
def rCorJPnxLo (i : Nat) : Nat := 0x2421058 + 0x100 * i
/-- COR_Jj_PNX_HI (R352). -/
def rCorJPnxHi (i : Nat) : Nat := 0x242105c + 0x100 * i
/-- COR_Jj_BLACKq (R352). -/
def rCorJBlack (i k : Nat) : Nat := 0x2421060 + 0x100 * i + 0x4 * k
/-- COR_Jj_CGq (R352). -/
def rCorJCg (i k : Nat) : Nat := 0x2421070 + 0x100 * i + 0x4 * k
/-- COR_J_LIVE (R352). -/
def rCorJLive (i : Nat) : Nat := 0x2421080 + 0x100 * i
/-- COR_J_POSTED (R352). -/
def rCorJPosted (i : Nat) : Nat := 0x2421084 + 0x100 * i
/-- COR_J_DEFERRED (R352). -/
def rCorJDeferred (i : Nat) : Nat := 0x2421088 + 0x100 * i
/-- COR_J_SKIPPED (R352). -/
def rCorJSkipped (i : Nat) : Nat := 0x242108c + 0x100 * i
/-- COR_J_LOST_FRAMES (R352). -/
def rCorJLostFrames (i : Nat) : Nat := 0x2421090 + 0x100 * i
/-- COR_J_PAIR_BROKEN (R352). -/
def rCorJPairBroken (i : Nat) : Nat := 0x2421094 + 0x100 * i
/-- COR_J_RES_FULL (R352). -/
def rCorJResFull (i : Nat) : Nat := 0x2421098 + 0x100 * i
/-- COR_J_OVERWRITTEN (R352). -/
def rCorJOverwritten (i : Nat) : Nat := 0x242109c + 0x100 * i
/-- COR_Gg_CFG (R353). -/
def rCorGCfg (i : Nat) : Nat := 0x2431000 + 0x20 * i
/-- COR_Gg_CTX (R353). -/
def rCorGCtx (i : Nat) : Nat := 0x2431004 + 0x20 * i
/-- COR_Gg_THR (R353). -/
def rCorGThr (i : Nat) : Nat := 0x2431008 + 0x20 * i
/-- COR_Gg_HYST (R353). -/
def rCorGHyst (i : Nat) : Nat := 0x243100c + 0x20 * i
/-- COR_Gg_VALUE (R353). -/
def rCorGValue (i : Nat) : Nat := 0x2431010 + 0x20 * i
/-- COR_Gg_SER_LO (R353). -/
def rCorGSerLo (i : Nat) : Nat := 0x2431014 + 0x20 * i
/-- COR_Gg_SER_HI (R353). -/
def rCorGSerHi (i : Nat) : Nat := 0x2431018 + 0x20 * i
/-- COR_Gg_STAT (R353). -/
def rCorGStat (i : Nat) : Nat := 0x243101c + 0x20 * i
/-- VID_UUIDk (R403). -/
def rVidUuid (i : Nat) : Nat := 0x2810020 + 0x4 * i
/-- VID_ENCc_CMD (R404). -/
def rVidEncCmd (c : Nat) : Nat := 0x2820010 + 0x10000 * c
/-- VID_ENCc_CFG (R404). -/
def rVidEncCfg (c : Nat) : Nat := 0x2820014 + 0x10000 * c
/-- VID_ENCc_PERIOD (R404). -/
def rVidEncPeriod (c : Nat) : Nat := 0x2820018 + 0x10000 * c
/-- VID_ENCc_RATE (R404). -/
def rVidEncRate (c : Nat) : Nat := 0x282001c + 0x10000 * c
/-- VID_ENCc_BITRATE (R404). -/
def rVidEncBitrate (c : Nat) : Nat := 0x2820020 + 0x10000 * c
/-- VID_ENCc_HCAP (R404). -/
def rVidEncHcap (c : Nat) : Nat := 0x2820024 + 0x10000 * c
/-- VID_ENCc_QP (R404). -/
def rVidEncQp (c : Nat) : Nat := 0x2820028 + 0x10000 * c
/-- VID_ENCc_VBV (R404). -/
def rVidEncVbv (c : Nat) : Nat := 0x282002c + 0x10000 * c
/-- VID_ENCc_REQ (R404). -/
def rVidEncReq (c : Nat) : Nat := 0x2820030 + 0x10000 * c
/-- VID_ENCc_HDR (R404). -/
def rVidEncHdr (c : Nat) : Nat := 0x2820034 + 0x10000 * c
/-- VID_ENCc_HDRLEN (R404). -/
def rVidEncHdrlen (c : Nat) : Nat := 0x2820038 + 0x10000 * c
/-- VID_ENCc_PPS (R404). -/
def rVidEncPps (c : Nat) : Nat := 0x282003c + 0x10000 * c
/-- VID_ENCc_OUT (R404). -/
def rVidEncOut (c : Nat) : Nat := 0x2820040 + 0x10000 * c
/-- VID_ENCc_OUTSZ (R404). -/
def rVidEncOutsz (c : Nat) : Nat := 0x2820044 + 0x10000 * c
/-- VID_ENCc_RDPTR (R404). -/
def rVidEncRdptr (c : Nat) : Nat := 0x2820048 + 0x10000 * c
/-- VID_ENCc_WRPTR (R404). -/
def rVidEncWrptr (c : Nat) : Nat := 0x282004c + 0x10000 * c
/-- VID_ENCc_HOSTQ (R404). -/
def rVidEncHostq (c : Nat) : Nat := 0x2820050 + 0x10000 * c
/-- VID_ENCc_HOSTN (R404). -/
def rVidEncHostn (c : Nat) : Nat := 0x2820054 + 0x10000 * c
/-- VID_ENCc_HOSTDONE (R404). -/
def rVidEncHostdone (c : Nat) : Nat := 0x2820058 + 0x10000 * c
/-- VID_ENCc_STAT (R404). -/
def rVidEncStat (c : Nat) : Nat := 0x2820060 + 0x10000 * c
/-- VID_ENCc_VBVLVL (R404). -/
def rVidEncVbvlvl (c : Nat) : Nat := 0x2820064 + 0x10000 * c
/-- VID_ENC_PICTURES (R404). -/
def rVidEncPictures (c : Nat) : Nat := 0x2820080 + 0x10000 * c
/-- VID_ENC_SKIP_PROXY (R404). -/
def rVidEncSkipProxy (c : Nat) : Nat := 0x2820084 + 0x10000 * c
/-- VID_ENC_OUT_SKIP (R404). -/
def rVidEncOutSkip (c : Nat) : Nat := 0x2820088 + 0x10000 * c
/-- VID_ENC_STARVED (R404). -/
def rVidEncStarved (c : Nat) : Nat := 0x282008c + 0x10000 * c
/-- VID_ENC_FORCED (R404). -/
def rVidEncForced (c : Nat) : Nat := 0x2820090 + 0x10000 * c
/-- VID_DECd_CMD (R405). -/
def rVidDecCmd (d : Nat) : Nat := 0x28a0010 + 0x10000 * d
/-- VID_DECd_CFG (R405). -/
def rVidDecCfg (d : Nat) : Nat := 0x28a0014 + 0x10000 * d
/-- VID_DECd_IN (R405). -/
def rVidDecIn (d : Nat) : Nat := 0x28a0018 + 0x10000 * d
/-- VID_DECd_INSZ (R405). -/
def rVidDecInsz (d : Nat) : Nat := 0x28a001c + 0x10000 * d
/-- VID_DECd_INWR (R405). -/
def rVidDecInwr (d : Nat) : Nat := 0x28a0020 + 0x10000 * d
/-- VID_DECd_INRD (R405). -/
def rVidDecInrd (d : Nat) : Nat := 0x28a0024 + 0x10000 * d
/-- VID_DECd_OUT (R405). -/
def rVidDecOut (d : Nat) : Nat := 0x28a0028 + 0x10000 * d
/-- VID_DECd_MAX (R405). -/
def rVidDecMax (d : Nat) : Nat := 0x28a002c + 0x10000 * d
/-- VID_DECd_WDOG (R405). -/
def rVidDecWdog (d : Nat) : Nat := 0x28a0030 + 0x10000 * d
/-- VID_DECd_STAT (R405). -/
def rVidDecStat (d : Nat) : Nat := 0x28a0034 + 0x10000 * d
/-- VID_DEC_PICTURES (R405). -/
def rVidDecPictures (d : Nat) : Nat := 0x28a0080 + 0x10000 * d
/-- VID_DEC_CONCEALED (R405). -/
def rVidDecConcealed (d : Nat) : Nat := 0x28a0084 + 0x10000 * d
/-- VID_DEC_MISSING_REF (R405). -/
def rVidDecMissingRef (d : Nat) : Nat := 0x28a0088 + 0x10000 * d
/-- VID_DEC_SYNTAX (R405). -/
def rVidDecSyntax (d : Nat) : Nat := 0x28a008c + 0x10000 * d
/-- VID_DEC_WDOG_CNT (R405). -/
def rVidDecWdogCnt (d : Nat) : Nat := 0x28a0090 + 0x10000 * d
/-- VID_DEC_BOUNDS (R405). -/
def rVidDecBounds (d : Nat) : Nat := 0x28a0094 + 0x10000 * d
/-- VID_DEC_UNSUPPORTED (R405). -/
def rVidDecUnsupported (d : Nat) : Nat := 0x28a0098 + 0x10000 * d
/-- VID_DEC_DISCARDED (R405). -/
def rVidDecDiscarded (d : Nat) : Nat := 0x28a009c + 0x10000 * d
/-- VID_RTPc_CFG (R406). -/
def rVidRtpCfg (i : Nat) : Nat := 0x28c1000 + 0x100 * i
/-- VID_RTPc_MTU (R406). -/
def rVidRtpMtu (i : Nat) : Nat := 0x28c1004 + 0x100 * i
/-- VID_RTPc_PACE (R406). -/
def rVidRtpPace (i : Nat) : Nat := 0x28c1008 + 0x100 * i
/-- VID_RTPc_SEQ (R406). -/
def rVidRtpSeq (i : Nat) : Nat := 0x28c100c + 0x100 * i
/-- VID_RTPc_TSOFF (R406). -/
def rVidRtpTsoff (i : Nat) : Nat := 0x28c1010 + 0x100 * i
/-- VID_RTP_SENT (R406). -/
def rVidRtpSent (i : Nat) : Nat := 0x28c1040 + 0x100 * i
/-- VID_RTP_DROPPED (R406). -/
def rVidRtpDropped (i : Nat) : Nat := 0x28c1044 + 0x100 * i
/-- VID_RTPc_TPLk (R406). -/
def rVidRtpTpl (i k : Nat) : Nat := 0x28c1080 + 0x100 * i + 0x4 * k
/-- CMP_QBASE (R374). -/
def rCmpQbase : Nat := 0x2c10010
/-- CMP_QCFG (R374). -/
def rCmpQcfg : Nat := 0x2c10014
/-- CMP_QTAIL (R374). -/
def rCmpQtail : Nat := 0x2c10018
/-- CMP_QHEAD (R374). -/
def rCmpQhead : Nat := 0x2c1001c
/-- CMP_STAT (R374). -/
def rCmpStat : Nat := 0x2c10020
/-- CMP_CFA_LO (R374). -/
def rCmpCfaLo : Nat := 0x2c10024
/-- CMP_CFA_HI (R374). -/
def rCmpCfaHi : Nat := 0x2c10028
/-- CMP_JOBS_DONE (R374). -/
def rCmpJobsDone : Nat := 0x2c10040
/-- CMP_PREEMPTIONS (R374). -/
def rCmpPreemptions : Nat := 0x2c10044
/-- CMP_OUT_FULL (R374). -/
def rCmpOutFull : Nat := 0x2c10048
/-- CMP_DAMAGED (R374). -/
def rCmpDamaged : Nat := 0x2c1004c
/-- CMP_LOST_FRAMES (R374). -/
def rCmpLostFrames : Nat := 0x2c10050
/-- CMP_SKIPPED (R374). -/
def rCmpSkipped : Nat := 0x2c10054
/-- CMP_STRIP_ERR (R374). -/
def rCmpStripErr : Nat := 0x2c10058
/-- CMP_SWAP_RESUMES (R374). -/
def rCmpSwapResumes : Nat := 0x2c1005c
/-- CMP_SNOOP (R374). -/
def rCmpSnoop : Nat := 0x2c10060
/-- CMP_En_STAT (R375). -/
def rCmpEStat (e : Nat) : Nat := 0x2c20010 + 0x10000 * e
/-- CMP_En_SER_LO (R375). -/
def rCmpESerLo (e : Nat) : Nat := 0x2c20014 + 0x10000 * e
/-- CMP_En_SER_HI (R375). -/
def rCmpESerHi (e : Nat) : Nat := 0x2c20018 + 0x10000 * e
/-- CMP_En_FRAMES (R375). -/
def rCmpEFrames (e : Nat) : Nat := 0x2c20020 + 0x10000 * e
/-- CMP_En_SRAM (R375). -/
def rCmpESram (e : Nat) : Nat := 0x2c20024 + 0x10000 * e
/-- HST_LINK (R466). -/
def rHstLink : Nat := 0x3010010
/-- HST_CORR_ERR (R466). -/
def rHstCorrErr : Nat := 0x3010040
/-- HST_UNCORR_ERR (R466). -/
def rHstUncorrErr : Nat := 0x3010044
/-- HST_REPLAY (R466). -/
def rHstReplay : Nat := 0x3010048
/-- HST_LINK_DOWN (R466). -/
def rHstLinkDown : Nat := 0x301004c
/-- HST_RGN_CLASS (R467). -/
def rHstRgnClass : Nat := 0x3020010
/-- HST_NSMAP (R467). -/
def rHstNsmap : Nat := 0x3020014
/-- HST_TELLER (R467). -/
def rHstTeller : Nat := 0x3020018
/-- HST_CSE_LAST (R467). -/
def rHstCseLast : Nat := 0x302001c
/-- HST_PWR (R467). -/
def rHstPwr : Nat := 0x3020020
/-- HST_COMMANDS (R467). -/
def rHstCommands : Nat := 0x3020040
/-- HST_CSE (R467). -/
def rHstCse : Nat := 0x3020044
/-- HST_ABORTED (R467). -/
def rHstAborted : Nat := 0x3020048
/-- HST_NOT_READY (R467). -/
def rHstNotReady : Nat := 0x302004c
/-- HST_URE (R467). -/
def rHstUre : Nat := 0x3020050
/-- HST_INVALID_NS (R467). -/
def rHstInvalidNs : Nat := 0x3020054
/-- MINT_CMD (R489). -/
def rMintCmd : Nat := 0x3410010
/-- MINT_CFG (R489). -/
def rMintCfg : Nat := 0x3410014
/-- MINT_STAT (R489). -/
def rMintStat : Nat := 0x3410018
/-- MINT_WD (R489). -/
def rMintWd : Nat := 0x341001c
/-- MINT_RATE (R489). -/
def rMintRate : Nat := 0x3410020
/-- MINT_STEP_NS (R489). -/
def rMintStepNs : Nat := 0x3410024
/-- MINT_STEP_FRAC (R489). -/
def rMintStepFrac : Nat := 0x3410028
/-- MINT_SET_SEC_LO (R489). -/
def rMintSetSecLo : Nat := 0x341002c
/-- MINT_SET_SEC_HI (R489). -/
def rMintSetSecHi : Nat := 0x3410030
/-- MINT_SET_NS (R489). -/
def rMintSetNs : Nat := 0x3410034
/-- MINT_NOW_NS (R489). -/
def rMintNowNs : Nat := 0x3410040
/-- MINT_NOW_FRAC (R489). -/
def rMintNowFrac : Nat := 0x3410044
/-- MINT_NOW_SEC_LO (R489). -/
def rMintNowSecLo : Nat := 0x3410048
/-- MINT_NOW_SEC_HI (R489). -/
def rMintNowSecHi : Nat := 0x341004c
/-- MINT_SHORT (R489). -/
def rMintShort : Nat := 0x3410050
/-- MINT_PPSIN_NS (R489). -/
def rMintPpsinNs : Nat := 0x3410060
/-- MINT_PPSIN_FRAC (R489). -/
def rMintPpsinFrac : Nat := 0x3410064
/-- MINT_PPSIN_SEC_LO (R489). -/
def rMintPpsinSecLo : Nat := 0x3410068
/-- MINT_PPSIN_SEC_HI (R489). -/
def rMintPpsinSecHi : Nat := 0x341006c
/-- MINT_PPSOUT (R489). -/
def rMintPpsout : Nat := 0x3410070
/-- MINT_PPSOFF (R489). -/
def rMintPpsoff : Nat := 0x3410074
/-- MINT_PPS_EARLY (R489). -/
def rMintPpsEarly : Nat := 0x3410080
/-- MINT_PPS_MISSING (R489). -/
def rMintPpsMissing : Nat := 0x3410084
/-- MINT_STEPS (R489). -/
def rMintSteps : Nat := 0x3410088
/-- NET_PORTm_CFG (R490). -/
def rNetPortCfg (m : Nat) : Nat := 0x3420010 + 0x10000 * m
/-- NET_PORTm_STAT (R490). -/
def rNetPortStat (m : Nat) : Nat := 0x3420014 + 0x10000 * m
/-- NET_PORTm_MAC_LO (R490). -/
def rNetPortMacLo (m : Nat) : Nat := 0x3420018 + 0x10000 * m
/-- NET_PORTm_MAC_HI (R490). -/
def rNetPortMacHi (m : Nat) : Nat := 0x342001c + 0x10000 * m
/-- NET_PORTm_MHASH_LO (R490). -/
def rNetPortMhashLo (m : Nat) : Nat := 0x3420020 + 0x10000 * m
/-- NET_PORTm_MHASH_HI (R490). -/
def rNetPortMhashHi (m : Nat) : Nat := 0x3420024 + 0x10000 * m
/-- NET_PORTm_TSADJ (R490). -/
def rNetPortTsadj (m : Nat) : Nat := 0x3420028 + 0x10000 * m
/-- NET_PORTm_MODI2C (R490). -/
def rNetPortModi2c (m : Nat) : Nat := 0x342002c + 0x10000 * m
/-- NET_TX_FRAMES (R490). -/
def rNetTxFrames (m : Nat) : Nat := 0x3420040 + 0x10000 * m
/-- NET_RX_FRAMES (R490). -/
def rNetRxFrames (m : Nat) : Nat := 0x3420044 + 0x10000 * m
/-- NET_RX_FCS (R490). -/
def rNetRxFcs (m : Nat) : Nat := 0x3420048 + 0x10000 * m
/-- NET_RX_LENGTH (R490). -/
def rNetRxLength (m : Nat) : Nat := 0x342004c + 0x10000 * m
/-- NET_RX_CTRL (R490). -/
def rNetRxCtrl (m : Nat) : Nat := 0x3420050 + 0x10000 * m
/-- NET_RX_NOBUF (R490). -/
def rNetRxNobuf (m : Nat) : Nat := 0x3420054 + 0x10000 * m
/-- NET_TX_LINKDOWN (R490). -/
def rNetTxLinkdown (m : Nat) : Nat := 0x3420058 + 0x10000 * m
/-- NET_FEC_UNCORR (R490). -/
def rNetFecUncorr (m : Nat) : Nat := 0x342005c + 0x10000 * m
/-- NET_PORTm_TXt_BASE_LO (R490). -/
def rNetPortTxBaseLo (m i : Nat) : Nat := 0x3420100 + 0x10000 * m + 0x20 * i
/-- NET_PORTm_TXt_BASE_HI (R490). -/
def rNetPortTxBaseHi (m i : Nat) : Nat := 0x3420104 + 0x10000 * m + 0x20 * i
/-- NET_PORTm_TXt_CFG (R490). -/
def rNetPortTxCfg (m i : Nat) : Nat := 0x3420108 + 0x10000 * m + 0x20 * i
/-- NET_PORTm_TXt_HEAD (R490). -/
def rNetPortTxHead (m i : Nat) : Nat := 0x342010c + 0x10000 * m + 0x20 * i
/-- NET_PORTm_TXt_TAIL (R490). -/
def rNetPortTxTail (m i : Nat) : Nat := 0x3420110 + 0x10000 * m + 0x20 * i
/-- NET_PORTm_RXr_BASE_LO (R490). -/
def rNetPortRxBaseLo (m i : Nat) : Nat := 0x3420180 + 0x10000 * m + 0x20 * i
/-- NET_PORTm_RXr_BASE_HI (R490). -/
def rNetPortRxBaseHi (m i : Nat) : Nat := 0x3420184 + 0x10000 * m + 0x20 * i
/-- NET_PORTm_RXr_CFG (R490). -/
def rNetPortRxCfg (m i : Nat) : Nat := 0x3420188 + 0x10000 * m + 0x20 * i
/-- NET_PORTm_RXr_HEAD (R490). -/
def rNetPortRxHead (m i : Nat) : Nat := 0x342018c + 0x10000 * m + 0x20 * i
/-- NET_PORTm_RXr_TAIL (R490). -/
def rNetPortRxTail (m i : Nat) : Nat := 0x3420190 + 0x10000 * m + 0x20 * i
/-- OUT_DHd_CMD (R507). -/
def rOutDhCmd (d : Nat) : Nat := 0x3810010 + 0x10000 * d
/-- OUT_DHd_STAT (R507). -/
def rOutDhStat (d : Nat) : Nat := 0x3810014 + 0x10000 * d
/-- OUT_DHd_CFG (R507). -/
def rOutDhCfg (d : Nat) : Nat := 0x3810018 + 0x10000 * d
/-- OUT_DHd_BG (R507). -/
def rOutDhBg (d : Nat) : Nat := 0x381001c + 0x10000 * d
/-- OUT_DHd_OFFSET (R507). -/
def rOutDhOffset (d : Nat) : Nat := 0x3810020 + 0x10000 * d
/-- OUT_DHd_OD (R507). -/
def rOutDhOd (d : Nat) : Nat := 0x3810024 + 0x10000 * d
/-- OUT_DH0_HTIME (R508). -/
def rOutDh0Htime (d : Nat) : Nat := 0x3810030 + 0x10000 * d
/-- OUT_DHd_SDIFMT (R509). -/
def rOutDhSdifmt (d : Nat) : Nat := 0x3810030 + 0x10000 * d
/-- OUT_DH0_VTIME (R508). -/
def rOutDh0Vtime (d : Nat) : Nat := 0x3810034 + 0x10000 * d
/-- OUT_DHd_PIDUSR (R509). -/
def rOutDhPidusr (d : Nat) : Nat := 0x3810034 + 0x10000 * d
/-- OUT_DH0_HSYNC (R508). -/
def rOutDh0Hsync (d : Nat) : Nat := 0x3810038 + 0x10000 * d
/-- OUT_DHd_PID (R509). -/
def rOutDhPid (d : Nat) : Nat := 0x3810038 + 0x10000 * d
/-- OUT_DH0_VSYNC (R508). -/
def rOutDh0Vsync (d : Nat) : Nat := 0x381003c + 0x10000 * d
/-- OUT_DH0_PCLK (R508). -/
def rOutDh0Pclk (d : Nat) : Nat := 0x3810040 + 0x10000 * d
/-- OUT_DH0_LINKCFG (R508). -/
def rOutDh0Linkcfg (d : Nat) : Nat := 0x3810044 + 0x10000 * d
/-- OUT_DH0_PSR (R508). -/
def rOutDh0Psr (d : Nat) : Nat := 0x3810048 + 0x10000 * d
/-- OUT_DH0_BL (R508). -/
def rOutDh0Bl (d : Nat) : Nat := 0x381004c + 0x10000 * d
/-- OUT_EVT_INFO (R511). -/
def rOutEvtInfo (d : Nat) : Nat := 0x3810050 + 0x10000 * d
/-- OUT_FRAMES (R507). -/
def rOutFrames (d : Nat) : Nat := 0x3810080 + 0x10000 * d
/-- OUT_COMMITS_REFUSED (R507). -/
def rOutCommitsRefused (d : Nat) : Nat := 0x3810084 + 0x10000 * d
/-- OUT_PSR_FAIL (R507). -/
def rOutPsrFail (d : Nat) : Nat := 0x3810088 + 0x10000 * d
/-- OUT_PSR_ABORT (R507). -/
def rOutPsrAbort (d : Nat) : Nat := 0x381008c + 0x10000 * d
/-- OUT_DH0_OVD (R507). -/
def rOutDh0Ovd (d : Nat) : Nat := 0x3810090 + 0x10000 * d
/-- OUT_DHd_Ll_CFG (R510). -/
def rOutDhLCfg (d i : Nat) : Nat := 0x3810100 + 0x10000 * d + 0x40 * i
/-- OUT_DHd_Ll_POS (R510). -/
def rOutDhLPos (d i : Nat) : Nat := 0x3810104 + 0x10000 * d + 0x40 * i
/-- OUT_DHd_Ll_ZOOM (R510). -/
def rOutDhLZoom (d i : Nat) : Nat := 0x3810108 + 0x10000 * d + 0x40 * i
/-- OUT_DHd_Ll_CSC (R510). -/
def rOutDhLCsc (d i : Nat) : Nat := 0x381010c + 0x10000 * d + 0x40 * i
/-- OUT_DHd_Ll_BUFADDR_LO (R510). -/
def rOutDhLBufaddrLo (d i : Nat) : Nat := 0x3810110 + 0x10000 * d + 0x40 * i
/-- OUT_DHd_Ll_BUFADDR_HI (R510). -/
def rOutDhLBufaddrHi (d i : Nat) : Nat := 0x3810114 + 0x10000 * d + 0x40 * i
/-- OUT_DHd_Ll_BUFGEOM (R510). -/
def rOutDhLBufgeom (d i : Nat) : Nat := 0x3810118 + 0x10000 * d + 0x40 * i
/-- OUT_DHd_Ll_PITCH (R510). -/
def rOutDhLPitch (d i : Nat) : Nat := 0x381011c + 0x10000 * d + 0x40 * i
/-- OUT_DHd_Ll_HELD (R510). -/
def rOutDhLHeld (d i : Nat) : Nat := 0x3810130 + 0x10000 * d + 0x40 * i
/-- OUT_DHd_Ll_UNDERRUN (R510). -/
def rOutDhLUnderrun (d i : Nat) : Nat := 0x3810138 + 0x10000 * d + 0x40 * i
/-- OUT_DHd_Ll_MEMERR (R510). -/
def rOutDhLMemerr (d i : Nat) : Nat := 0x381013c + 0x10000 * d + 0x40 * i
/-- OUT_DHd_Ll_Mk (R510). -/
def rOutDhLM (d i k : Nat) : Nat := 0x3810200 + 0x10000 * d + 0x40 * i + 0x4 * k
/-- OUT_AESRXn_CFG (R522). -/
def rOutAesrxCfg (n : Nat) : Nat := 0x3840010 + 0x10000 * n
/-- OUT_AESRXn_RING (R522). -/
def rOutAesrxRing (n : Nat) : Nat := 0x3840014 + 0x10000 * n
/-- OUT_AESRXn_WRPTR (R522). -/
def rOutAesrxWrptr (n : Nat) : Nat := 0x3840018 + 0x10000 * n
/-- OUT_AESRXn_RDPTR (R522). -/
def rOutAesrxRdptr (n : Nat) : Nat := 0x384001c + 0x10000 * n
/-- OUT_AESRXn_STAT (R522). -/
def rOutAesrxStat (n : Nat) : Nat := 0x3840020 + 0x10000 * n
/-- OUT_AES_PARITY (R522). -/
def rOutAesParity (n : Nat) : Nat := 0x3840040 + 0x10000 * n
/-- OUT_AES_OVERRUN (R522). -/
def rOutAesOverrun (n : Nat) : Nat := 0x3840044 + 0x10000 * n
/-- OUT_AES_UNLOCKS (R522). -/
def rOutAesUnlocks (n : Nat) : Nat := 0x3840048 + 0x10000 * n
/-- OUT_AESTX_CMD (R523). -/
def rOutAestxCmd : Nat := 0x3860010
/-- OUT_AESTX_CFG (R523). -/
def rOutAestxCfg : Nat := 0x3860014
/-- OUT_AESTX_RING (R523). -/
def rOutAestxRing : Nat := 0x3860018
/-- OUT_AESTX_RATE (R523). -/
def rOutAestxRate : Nat := 0x386001c
/-- OUT_AESTX_OFFSET (R523). -/
def rOutAestxOffset : Nat := 0x3860020
/-- OUT_AESTX_HEAD (R523). -/
def rOutAestxHead : Nat := 0x3860024
/-- OUT_AESTX_TAIL (R523). -/
def rOutAestxTail : Nat := 0x3860028
/-- OUT_AESTX_STAT (R523). -/
def rOutAestxStat : Nat := 0x386002c
/-- OUT_AESTX_UNDERRUN (R523). -/
def rOutAestxUnderrun : Nat := 0x3860040
/-- SVC_CH_FIRE_LO (R536). -/
def rSvcChFireLo : Nat := 0x3c10010
/-- SVC_CH_FIRE_HI (R536). -/
def rSvcChFireHi : Nat := 0x3c10014
/-- SVC_CH_LATCH (R536). -/
def rSvcChLatch : Nat := 0x3c10018
/-- SVC_CH_LATCH_SET (R536). -/
def rSvcChLatchSet : Nat := 0x3c1001c
/-- SVC_CH_LOOP_LO (R536). -/
def rSvcChLoopLo : Nat := 0x3c10020
/-- SVC_CH_LOOP_HI (R536). -/
def rSvcChLoopHi : Nat := 0x3c10024
/-- SVC_CH_HOSTPEND_LO (R536). -/
def rSvcChHostpendLo : Nat := 0x3c10028
/-- SVC_CH_HOSTPEND_HI (R536). -/
def rSvcChHostpendHi : Nat := 0x3c1002c
/-- SVC_CHn_CFG (R537). -/
def rSvcChCfg (i : Nat) : Nat := 0x3c11000 + 0x80 * i
/-- SVC_CHn_GATE (R537). -/
def rSvcChGate (i : Nat) : Nat := 0x3c11004 + 0x80 * i
/-- SVC_CHn_REFRACT (R537). -/
def rSvcChRefract (i : Nat) : Nat := 0x3c11008 + 0x80 * i
/-- SVC_CHn_SRCk (R537). -/
def rSvcChSrc (i k : Nat) : Nat := 0x3c11010 + 0x80 * i + 0x4 * k
/-- SVC_CHn_LAST_LIN_LO (R537). -/
def rSvcChLastLinLo (i : Nat) : Nat := 0x3c11030 + 0x80 * i
/-- SVC_CHn_LAST_LIN_HI (R537). -/
def rSvcChLastLinHi (i : Nat) : Nat := 0x3c11034 + 0x80 * i
/-- SVC_CHn_DELIVERED (R537). -/
def rSvcChDelivered (i : Nat) : Nat := 0x3c11040 + 0x80 * i
/-- SVC_CHn_MERGED (R537). -/
def rSvcChMerged (i : Nat) : Nat := 0x3c11044 + 0x80 * i
/-- SVC_CHn_REFRACT_DROP (R537). -/
def rSvcChRefractDrop (i : Nat) : Nat := 0x3c11048 + 0x80 * i
/-- SVC_CHn_GATED (R537). -/
def rSvcChGated (i : Nat) : Nat := 0x3c1104c + 0x80 * i
/-- SVC_CHn_LOOP_DROP (R537). -/
def rSvcChLoopDrop (i : Nat) : Nat := 0x3c11050 + 0x80 * i
/-- SVC_TIN_MERGEx (R538). -/
def rSvcTinMerge (i : Nat) : Nat := 0x3c14000 + 0x4 * i
/-- SVC_AUD_STAT (R566). -/
def rSvcAudStat : Nat := 0x3c20010
/-- SVC_AUD_FL_HEAD (R566). -/
def rSvcAudFlHead : Nat := 0x3c20014
/-- SVC_AUD_FL_LOST (R566). -/
def rSvcAudFlLost : Nat := 0x3c20018
/-- SVC_AUD_CLASSREACT (R566). -/
def rSvcAudClassreact : Nat := 0x3c20020
/-- SVC_AUD_FENCE (R566). -/
def rSvcAudFence : Nat := 0x3c20024
/-- SVC_AUD_PENDk (R566). -/
def rSvcAudPend (i : Nat) : Nat := 0x3c20040 + 0x4 * i
/-- SVC_AUD_INJSEL (R566). -/
def rSvcAudInjsel : Nat := 0x3c20064
/-- SVC_AUD_INJ (R566). -/
def rSvcAudInj : Nat := 0x3c20068
/-- SVC_AUD_SRCx_CFG (R566). -/
def rSvcAudSrcCfg (i : Nat) : Nat := 0x3c21000 + 0x8 * i
/-- SVC_AUD_SRCx_WIN (R566). -/
def rSvcAudSrcWin (i : Nat) : Nat := 0x3c21004 + 0x8 * i
/-- SVC_AUD_CNTx (R566). -/
def rSvcAudCnt (i : Nat) : Nat := 0x3c23000 + 0x4 * i
/-- SVC_AUD_FFk (R550). -/
def rSvcAudFf (i : Nat) : Nat := 0x3c27fe0 + 0x4 * i
/-- SVC_AUD_FLk (R550). -/
def rSvcAudFl (i : Nat) : Nat := 0x3c28000 + 0x4 * i
/-- SVC_PWR_STAT (R52). -/
def rSvcPwrStat : Nat := 0x3c30010
/-- SVC_HPWR_CTL (R52). -/
def rSvcHpwrCtl : Nat := 0x3c30020
/-- SVC_HPWR_STAT (R52). -/
def rSvcHpwrStat : Nat := 0x3c30024
/-- SVC_HPWR_MEASn (R52). -/
def rSvcHpwrMeas (i : Nat) : Nat := 0x3c30030 + 0x4 * i
/-- SVC_RET_TIME (R129). -/
def rSvcRetTime : Nat := 0x3c30040
/-- SVC_TH_ZONE (R567). -/
def rSvcThZone : Nat := 0x3c40010
/-- SVC_TH_STAT (R567). -/
def rSvcThStat : Nat := 0x3c40014
/-- SVC_TH_CFG (R567). -/
def rSvcThCfg : Nat := 0x3c40020
/-- SVC_TH_REQUESTS (R567). -/
def rSvcThRequests : Nat := 0x3c40040
/-- SVC_TH_ENFORCEMENTS (R567). -/
def rSvcThEnforcements : Nat := 0x3c40044
/-- SVC_TH_ESCALATIONS (R567). -/
def rSvcThEscalations : Nat := 0x3c40048
/-- SVC_TH_SENSn (R567). -/
def rSvcThSens (i : Nat) : Nat := 0x3c40100 + 0x4 * i

end Sys2Proof.Machine
end

