-- ==== Sys2Proof/Machine/Units.lean ====
section
/-! DEFINITION. Variants, clusters and units (R1, R14-R16, R574-R576): which unit stands where, which units a variant
has, identity and capability words, and the register default of every BAR2 address. -/

namespace Sys2Proof.Machine

/-- The three variants of R1. -/
inductive Variant where
  | rlm4200 | rlm4600 | rlm4800
  deriving DecidableEq, Repr

/-- The unit kinds of R575. -/
inductive Kind where
  | clctl | dev | vault | memCore | memSc | lnkPort | lnkLane | ingPort | cal | ingStr | ingRec | attest
  | schCore | schTbl | schAxis | schA5 | schA6 | schHead | schStr | schSo | pixCore | pixTally | pixScl
  | corCore | corJob | corGauge | vidCore | vidEnc | vidDec | vidRtp | cmpCore | cmpEng | hstPcie | hstNvme
  | mint | netPort | edp | sdi | aesRx | aesTx | ch | aud | pwr | therm
  deriving DecidableEq, Repr

/-- The cluster of a BAR2 address (R13). -/
def clusterOf (a : Nat) : Nat := a / 0x400000

/-- The unit of a BAR2 address within its cluster (R13). -/
def unitOf (a : Nat) : Nat := a / 0x10000 % 64

/-- The offset of a BAR2 address within its unit (R13). -/
def offOf (a : Nat) : Nat := a % 0x10000

/-- The BAR2 address of a unit's window (R13). -/
def unitBase (c u : Nat) : Nat := c * 0x400000 + u * 0x10000

/-- The kind of unit `u` of cluster `c` with its instance number (R574, R575); none where the cluster lists no such
unit (R15). -/
def kindOf (c u : Nat) : Option (Kind × Nat) :=
  if u = 0 then (if c = 0 then some (.dev, 0) else if c < 16 then some (.clctl, c - 1) else none)
  else match c with
  | 0 => if u = 1 then some (.vault, 0) else none
  | 1 => if u = 1 then some (.memCore, 0) else if 16 ≤ u ∧ u < 32 then some (.memSc, u - 16) else none
  | 2 => if u < 5 then some (.lnkPort, u - 1) else if 16 ≤ u ∧ u < 48 then some (.lnkLane, u - 16) else none
  | 3 => if u < 5 then some (.ingPort, u - 1) else if u = 6 then some (.cal, 0) else if u = 8 then some (.ingStr, 0)
         else if u = 9 then some (.ingRec, 0) else if u = 10 then some (.attest, 0) else none
  | 4 => if u = 1 then some (.schCore, 0) else if u < 10 then some (.schTbl, u - 2)
         else if u < 14 then some (.schAxis, u - 10) else if u = 14 then some (.schA5, 0)
         else if u = 15 then some (.schA6, 0) else if u < 20 then some (.schHead, u - 16)
         else if u = 20 then some (.schStr, 0) else if u = 21 then some (.schSo, 0) else none
  | 5 => pix u 0
  | 6 => pix u 1
  | 7 => pix u 2
  | 8 => pix u 3
  | 9 => if u = 1 then some (.corCore, 0) else if u = 2 then some (.corJob, 0)
         else if u = 3 then some (.corGauge, 0) else none
  | 10 => if u = 1 then some (.vidCore, 0) else if u < 10 then some (.vidEnc, u - 2)
          else if u < 12 then some (.vidDec, u - 10) else if u = 12 then some (.vidRtp, 0) else none
  | 11 => if u = 1 then some (.cmpCore, 0) else if u < 10 then some (.cmpEng, u - 2) else none
  | 12 => if u = 1 then some (.hstPcie, 0) else if u = 2 then some (.hstNvme, 0) else none
  | 13 => if u = 1 then some (.mint, 0) else if u < 4 then some (.netPort, u - 2) else none
  | 14 => if u = 1 then some (.edp, 0) else if u < 4 then some (.sdi, u - 2)
          else if u < 6 then some (.aesRx, u - 4) else if u = 6 then some (.aesTx, 0) else none
  | 15 => if u = 1 then some (.ch, 0) else if u = 2 then some (.aud, 0) else if u = 3 then some (.pwr, 0)
          else if u = 4 then some (.therm, 0) else none
  | _ => none
where
  /-- The units of pixel cluster `n`. -/
  pix (u n : Nat) : Option (Kind × Nat) :=
    if u = 1 then some (.pixCore, n) else if u = 2 then some (.pixTally, n) else if u = 3 then some (.pixScl, n)
    else none

/-- Whether the variant has unit `u` of cluster `c` (R1, R162, R185, R224, R311, R377, R436, R492, R512). -/
def present (v : Variant) (c u : Nat) : Bool :=
  (kindOf c u).isSome &&
  match v with
  | .rlm4800 => true
  | .rlm4600 => !(c == 9) && !(c == 10 && (6 ≤ u && u < 12))
  | .rlm4200 => !(c == 9) && !(c == 7 || c == 8) && !(c == 1 && 24 ≤ u) &&
      !(c == 2 && (u == 3 || u == 4 || (32 ≤ u && u < 48))) && !(c == 3 && (u == 3 || u == 4)) &&
      !(c == 4 && (u == 18 || u == 19)) && !(c == 14 && (3 ≤ u && u < 7))

/-- Whether the variant has any unit of cluster `c` (R7). -/
def clusterPresent (v : Variant) (c : Nat) : Bool := present v c 0

/-- The TYPE code of R575. -/
def Kind.code : Kind → Nat
  | .clctl => 0x0001 | .dev => 0x0002 | .vault => 0x0010 | .memCore => 0x0100 | .memSc => 0x0101
  | .lnkPort => 0x0200 | .lnkLane => 0x0201 | .ingPort => 0x0300 | .cal => 0x0301 | .ingStr => 0x0302
  | .ingRec => 0x0303 | .attest => 0x0304 | .schCore => 0x0400 | .schTbl => 0x0401 | .schAxis => 0x0402
  | .schA5 => 0x0403 | .schA6 => 0x0404 | .schHead => 0x0405 | .schStr => 0x0406 | .schSo => 0x0407
  | .pixCore => 0x0500 | .pixTally => 0x0501 | .pixScl => 0x0502 | .corCore => 0x0900 | .corJob => 0x0901
  | .corGauge => 0x0902 | .vidCore => 0x0A00 | .vidEnc => 0x0A01 | .vidDec => 0x0A02 | .vidRtp => 0x0A03
  | .cmpCore => 0x0B00 | .cmpEng => 0x0B01 | .hstPcie => 0x0C00 | .hstNvme => 0x0C01 | .mint => 0x0D00
  | .netPort => 0x0D01 | .edp => 0x0E00 | .sdi => 0x0E01 | .aesRx => 0x0E02 | .aesTx => 0x0E03
  | .ch => 0x0F00 | .aud => 0x0F01 | .pwr => 0x0F02 | .therm => 0x0F03

/-- The identity word of a present unit: TYPE, VERSION 0x01, INSTANCE (R13, R574). -/
def identWord (k : Kind) (inst : Nat) : Word := BitVec.ofNat 32 (k.code * 0x10000 + 0x0100 + inst)

/-- The capability word of a cluster control unit (R576). -/
def clctlCap (c : Nat) : Nat :=
  match c with
  | 1 => 0x201F | 2 => 0x202F | 3 => 0x200A | 4 => 0x2015 | 5 => 0x0803 | 6 => 0x0803 | 7 => 0x0803 | 8 => 0x0803
  | 9 => 0x1003 | 10 => 0x100C | 11 => 0x1009 | 12 => 0x1002 | 13 => 0x1003 | 14 => 0x1006 | 15 => 0x1004 | _ => 0

/-- DEV_CAP0 of R7. -/
def devCap0 : Variant → Word
  | .rlm4200 => 0x42224428#32 | .rlm4600 => 0x46448244#32 | .rlm4800 => 0x4844845C#32

/-- DEV_CAP1 of R7. -/
def devCap1 : Variant → Word
  | .rlm4200 => 0x0000FC7F#32 | .rlm4600 => 0x0000FDFF#32 | .rlm4800 => 0x0000FFFF#32

/-- The capability word of a present unit (R575, R576, R403). -/
def capWord (v : Variant) (c : Nat) (k : Kind) (inst : Nat) : Word :=
  match k with
  | .dev => devCap0 v
  | .clctl => BitVec.ofNat 32 (0x01010000 + clctlCap c)
  | k => BitVec.ofNat 32 (0x01010000 + low k)
where
  /-- Bits [15:0] of the word. -/
  low : Kind → Nat
    | .vault => 0x0402 | .memCore => (match v with | .rlm4200 => 0x1008 | _ => 0x1010) | .memSc => 0x1020 | .lnkPort => 0x0810 | .lnkLane => 0x0803
    | .ingPort => 0x0800 | .cal => 0x0100 | .ingStr => 0x4002 | .ingRec => 0x2000 | .attest => 0x4000
    | .schCore => 0x0807 | .schTbl => 0x1000 | .schAxis => 0x281F | .schA5 => 0x0040 | .schA6 => 0x0800
    | .schHead => 0x0440 | .schStr => 0x4000 | .schSo => 0x0800 | .pixCore => 0x0C08 | .pixTally => 0x0480
    | .pixScl => 0x0840 | .corCore => 0x5004 | .corJob => 0x0400 | .corGauge => 0x4000
    | .vidCore => (match v with | .rlm4600 => 0x0404 | _ => 0x0408)
    | .vidEnc => if inst = 6 ∨ inst = 7 then 0x0401 else 0x0400
    | .vidDec => 0x0F00 | .vidRtp => 0x0800 | .cmpCore => 0x2008 | .cmpEng => 0x2000 | .hstPcie => 0x0805
    | .hstNvme => 0x4005 | .mint => 0x2C01 | .netPort => 0x0302 | .edp => 0x0401 | .sdi => 0x0402
    | .aesRx => 0x0203 | .aesTx => 0x0204 | .ch => 0x4008 | .aud => 0x1006 | .pwr => 0x0400 | .therm => 0x0C04
    | .dev => 0 | .clctl => 0

/-- The registers of a unit kind. -/
def Kind.regRows : Kind → List RegRow
  | .clctl => clctlRegs | .dev => devRegs | .vault => vaultRegs | .memCore => memCoreRegs | .memSc => memScRegs
  | .lnkPort => lnkPortRegs | .lnkLane => lnkLaneRegs | .ingPort => ingPortRegs | .cal => calRegs
  | .ingStr => ingStrRegs | .ingRec => ingRecRegs | .attest => [] | .schCore => schCoreRegs | .schTbl => schTblRegs
  | .schAxis => schAxisRegs | .schA5 => schA5Regs | .schA6 => schA6Regs | .schHead => schHeadRegs
  | .schStr => schStrRegs | .schSo => schSoRegs | .pixCore => pixCoreRegs | .pixTally => pixTallyRegs
  | .pixScl => pixSclRegs | .corCore => corCoreRegs | .corJob => corJobRegs | .corGauge => corGaugeRegs
  | .vidCore => vidCoreRegs | .vidEnc => vidEncRegs | .vidDec => vidDecRegs | .vidRtp => vidRtpRegs
  | .cmpCore => cmpCoreRegs | .cmpEng => cmpEngRegs | .hstPcie => hstPcieRegs | .hstNvme => hstNvmeRegs
  | .mint => mintRegs | .netPort => netPortRegs | .edp => dhRegs ++ dhERegs | .sdi => dhRegs ++ dhSRegs
  | .aesRx => aesRxRegs | .aesTx => aesTxRegs | .ch => chRegs | .aud => audRegs | .pwr => pwrRegs
  | .therm => thermRegs

/-- Whether a row of the catalogue covers offset `o`. -/
def RegRow.covers (r : RegRow) (o : Nat) : Bool :=
  if o < r.off then false
  else
    let d := o - r.off
    if r.n * r.n2 = 1 then d == 0
    else if r.n2 = 1 then d % r.st == 0 && decide (d / r.st < r.n)
    else decide (d / r.st < r.n) && d % r.st % r.st2 == 0 && decide (d % r.st / r.st2 < r.n2)

/-- The row of the catalogue for a BAR2 address. -/
def rowAt (a : Nat) : Option RegRow :=
  match kindOf (clusterOf a) (unitOf a) with
  | none => none
  | some (k, _) => k.regRows.find? (fun r => r.covers (offOf a))

/-- The bits of a register whose fields have access type `x`. -/
def RegRow.mask (r : RegRow) (x : Acc) : Word :=
  r.flds.foldl (fun m f => if f.acc = x then m ||| fmask f.lo (f.hi + 1 - f.lo) else m) 0#32

/-- The reset word of a register. -/
def RegRow.reset (r : RegRow) : Word :=
  r.flds.foldl (fun m f => m ||| BitVec.ofNat 32 (f.reset <<< f.lo)) 0#32

/-- R70: a register that holds at least one structural field. -/
def RegRow.structural (r : RegRow) : Bool := r.flds.any (fun f => f.acc == .st)

end Sys2Proof.Machine
end

