-- ==== Sys2Proof/Machine/Sources.lean ====
section
/-! DEFINITION. The catalogue of the 288 event sources (R569, R570, R572, R573): class, window and DETAIL register of
each, and the default value of every register. -/

namespace Sys2Proof.Machine

/-- The cluster of an event source (R16). -/
def srcCluster (x : Nat) : Nat :=
  if x < 0x010 then 0 else if x < 0x030 then 1 else if x < 0x050 then 2 else if x < 0x070 then 3
  else if x < 0x090 then 4 else if x < 0x0B0 then 5 + (x - 0x090) / 8 else if x < 0x0C0 then 9
  else if x < 0x0D0 then 10 else if x < 0x0E0 then 11 else if x < 0x0F0 then 12 else if x < 0x100 then 13
  else if x < 0x110 then 14 else 15

/-- The first event source of a cluster (R16). -/
def srcFirst (c : Nat) : Nat :=
  match c with
  | 0 => 0x000 | 1 => 0x010 | 2 => 0x030 | 3 => 0x050 | 4 => 0x070 | 5 => 0x090 | 6 => 0x098 | 7 => 0x0A0
  | 8 => 0x0A8 | 9 => 0x0B0 | 10 => 0x0C0 | 11 => 0x0D0 | 12 => 0x0E0 | 13 => 0x0F0 | 14 => 0x100 | _ => 0x110

/-- How many event sources a cluster has (R16). -/
def srcCount (c : Nat) : Nat :=
  match c with
  | 1 => 32 | 2 => 32 | 3 => 32 | 4 => 32 | 5 => 8 | 6 => 8 | 7 => 8 | 8 => 8 | _ => 16

/-- The reserved sources, which never assert (R572). -/
def srcReserved (x : Nat) : Bool :=
  (0x00B ≤ x && x ≤ 0x00F) || (0x029 ≤ x && x ≤ 0x02F) || (0x066 ≤ x && x ≤ 0x06F) ||
  (0x0D8 ≤ x && x ≤ 0x0DF) || (0x0ED ≤ x && x ≤ 0x0EF) || 0x11C ≤ x

/-- The class a source takes at reset: 0 INFO, 1 CORRECTED, 2 SEVERE, 3 FATAL (R573). -/
def srcClass (x : Nat) : Nat :=
  if x = 0x002 ∨ x = 0x009 then 2
  else if x = 0x00A then 3
  else if 0x010 ≤ x ∧ x ≤ 0x01F then 2
  else if x = 0x020 ∨ x = 0x027 then 1
  else if x = 0x023 ∨ x = 0x028 then 2
  else if 0x030 ≤ x ∧ x ≤ 0x04F then
    (match x % 8 with | 2 => 2 | 3 => 1 | 4 => 1 | 5 => 1 | 6 => 1 | _ => 0)
  else if 0x050 ≤ x ∧ x ≤ 0x05F then (match x % 4 with | 0 => 0 | 1 => 2 | _ => 1)
  else if x = 0x063 ∨ x = 0x064 then 2
  else if x = 0x073 then 1
  else if 0x080 ≤ x ∧ x ≤ 0x08F then (match x % 4 with | 0 => 1 | 3 => 1 | _ => 0)
  else if 0x090 ≤ x ∧ x ≤ 0x0AF then (match x % 8 with | 6 => 1 | 7 => 2 | _ => 0)
  else if x = 0x0BE ∨ x = 0x0CE ∨ x = 0x0D6 ∨ x = 0x0EB then 1
  else if x = 0x0BF ∨ x = 0x0CF ∨ x = 0x0D7 ∨ x = 0x0EC then 2
  else if x = 0x0E2 ∨ x = 0x0E8 then 1
  else if x = 0x0E3 ∨ x = 0x0E6 then 2
  else if x = 0x0F3 then 1
  else if x = 0x105 ∨ x = 0x10C ∨ x = 0x10F ∨ x = 0x110 then 1
  else if x = 0x107 then 2
  else if 0x115 ≤ x ∧ x ≤ 0x119 then 2
  else if x = 0x11A then 3
  else 0

/-- N, W and UNIT (0 µs, 1 ms, 2 s) that a source takes at reset (R569, R573). -/
def srcWindow (x : Nat) : Nat × Nat × Nat :=
  if x = 0x020 then (1000, 1, 2)
  else if x = 0x027 then (64, 1, 2)
  else if 0x030 ≤ x ∧ x ≤ 0x04F then
    (match x % 8 with
     | 3 => (16, 1, 2) | 4 => (64, 1, 2) | 5 => (64, 1, 2) | 6 => (16, 1, 2) | _ => (65535, 1, 0))
  else if 0x050 ≤ x ∧ x ≤ 0x05F then
    (match x % 4 with | 2 => (64, 1, 2) | 3 => (64, 1, 2) | _ => (65535, 1, 0))
  else if x = 0x073 then (16, 1, 2)
  else if 0x080 ≤ x ∧ x ≤ 0x08F then
    (match x % 4 with | 0 => (16, 10, 1) | 3 => (4, 1, 2) | _ => (65535, 1, 0))
  else if 0x090 ≤ x ∧ x ≤ 0x0AF then (if x % 8 = 6 then (64, 1, 2) else (65535, 1, 0))
  else if x = 0x0BE ∨ x = 0x0CE ∨ x = 0x0D6 ∨ x = 0x0EB ∨ x = 0x0E2 then (64, 1, 2)
  else if x = 0x0E8 then (16, 1, 2)
  else if x = 0x0F3 then (4, 60, 2)
  else if x = 0x105 then (60, 1, 2)
  else if x = 0x10C ∨ x = 0x10F ∨ x = 0x110 then (16, 1, 2)
  else (65535, 1, 0)

/-- SVC_AUD_SRCx_CFG at reset (R569): CLASS, MASK 0, VEC the cluster, REACT LOG and IRQ, N. -/
def srcCfgReset (x : Nat) : Word :=
  BitVec.ofNat 32 (srcClass x * 2 ^ 30 + min (srcCluster x) 14 * 2 ^ 24 + 3 * 2 ^ 16 + (srcWindow x).1)

/-- SVC_AUD_SRCx_WIN at reset (R569). -/
def srcWinReset (x : Nat) : Word :=
  BitVec.ofNat 32 ((srcWindow x).2.2 * 2 ^ 30 + (srcWindow x).2.1)

/-- The register a source captures into DETAIL, for the unit `u` of its cluster that raised it (R570, R573). -/
def srcDetail (x u : Nat) : Option Nat :=
  if x = 0x000 then some rDevCfgStat
  else if x = 0x001 then some rDevClk
  else if x = 0x002 ∨ x = 0x005 then some rDevCfgErr
  else if x = 0x004 then some rDevSvLog
  else if x = 0x007 then none
  else if x < 0x00B then some rDevVltStat
  else if x < 0x010 then none
  else if x < 0x020 then some (rMemScUeaddrLo (x - 0x010))
  else if x = 0x020 then some rMemCeInfo
  else if x < 0x028 then some rMemStat
  else if x < 0x030 then none
  else if x < 0x050 then
    let n := (x - 0x030) / 8
    (match x % 8 with
     | 6 => some (rLnkHcStat n) | 7 => some (rLnkHcEvt n) | _ => some (rLnkPortStat n))
  else if x < 0x060 then
    let n := (x - 0x050) / 4
    if x % 4 < 2 then some (rIngPortOcc n) else some (rIngPortStat n)
  else if x < 0x066 then some rIngRecStat
  else if x < 0x070 then none
  else if x < 0x078 then some rSchEvtInfo
  else if x < 0x080 then some rSchA6CntLo
  else if x < 0x090 then
    let n := (x - 0x080) / 4
    (match x % 4 with
     | 0 => some (rSchAxErrinfo n) | 1 => some (rSchAxStat n) | 2 => some (rSchAxIdxlatLo n)
     | _ => some (rSchAxIdxdev n))
  else if x < 0x0B0 then some (rPixStat ((x - 0x090) / 8))
  else if x < 0x0C0 then some rCorStat
  else if x < 0x0D0 then none
  else if x < 0x0D8 then some rCmpStat
  else if x < 0x0E0 then none
  else if x < 0x0E4 then some rHstLink
  else if x < 0x0E7 ∨ x = 0x0E8 then some rHstTeller
  else if x = 0x0E7 then some rHstCseLast
  else if x < 0x0EB then some rHstPwr
  else if x < 0x0F0 then none
  else if x < 0x0F4 then some rMintStat
  else if x < 0x0FA then some (rNetPortStat 0)
  else if x < 0x100 then some (rNetPortStat 1)
  else if x < 0x106 ∨ x = 0x109 then some (rOutEvtInfo 0)
  else if x < 0x108 then some (rOutDhStat 0)
  else if x = 0x108 then some (rOutDh0Ovd 0)
  else if x < 0x10D then some (rOutAesrxStat (u - 4))
  else if x < 0x110 then some rOutAestxStat
  else if x = 0x110 then some rSvcChLoopLo
  else if x = 0x111 then some rSvcChHostpendLo
  else if x = 0x112 then some rSvcAudStat
  else if x = 0x113 then some rSvcAudFlHead
  else if x = 0x114 ∨ x = 0x11A then some rSvcThZone
  else if x < 0x118 then some rSvcThStat
  else if x = 0x118 then some rSvcPwrStat
  else if x = 0x119 then some rSvcHpwrStat
  else if x = 0x11B then some rSvcAudInjsel
  else none

/-- What an unlisted register reads: the reset value of its chapter, and for the Auditor's source registers that of
the catalogue (R569). Image defaults stand as 0 (log entry 5). -/
def regDefault (a : Nat) : Word :=
  if rSvcAudSrcCfg 0 ≤ a ∧ a < rSvcAudSrcCfg 288 then
    (if a % 8 = 0 then srcCfgReset ((a - rSvcAudSrcCfg 0) / 8) else srcWinReset ((a - rSvcAudSrcCfg 0) / 8))
  else match rowAt a with
  | some r => r.reset
  | none => 0#32

end Sys2Proof.Machine
end

