-- ==== Sys2Proof/Machine/State.lean ====
section
/-! DEFINITION. The state of the module as plain data, the reasons a step can stop, and the state after reset.
Registers live in `regs` by BAR2 address (R13), the shadows of RWS fields in `shadow` (R11), the live value behind a
_LO/_HI pair in `live`; what has no register stands in one structure per subsystem. -/

namespace Sys2Proof.Machine

open Sys2Proof

/-! ### The configuration image (03) and the Vault (04) -/

/-- A body item of a unit record (R81): KIND, OFFSET and the values. -/
structure Item where
  struct : Bool
  off : Nat
  vals : List Word
  deriving DecidableEq, Repr

/-- A compatibility entry (R80). -/
structure Compat where
  cluster : Nat
  unit : Nat
  type : Nat
  minF : Nat
  maxF : Nat
  deriving DecidableEq, Repr

/-- A unit record (R79). -/
structure UnitRec where
  unit : Nat
  type : Nat
  format : Nat
  minHw : Nat
  compat : List Compat
  items : List Item
  deriving DecidableEq, Repr

/-- A cluster frame (R76, R78): the UNIT_ENABLE mask and the records. -/
structure ClFrame where
  cluster : Nat
  enable : Nat
  recs : List UnitRec
  deriving DecidableEq, Repr

/-- A configuration plane: a decoded image (R72-R82) with its digest and header values. -/
structure Plane where
  digest : List Byte
  secVersion : Nat
  buildId : Nat
  lwVersion : Nat
  dev : List Item
  frames : List ClFrame
  deriving DecidableEq, Repr

/-- The one-time-programmable fields of the Vault (R96, R101, R102, R119). -/
structure Otp where
  policy : BitVec 2
  floor : Nat
  revoked : BitVec 4
  zeroized : Bool
  deriving DecidableEq, Repr

/-- A digest waiting for an AK signature (R116): the partition, the annex address of the record, the digest. -/
structure SigReq where
  part : Nat
  segment : Nat
  addr : Nat
  digest : List Byte
  deriving DecidableEq, Repr

/-- What the Vault is doing beside its STATE field (R104-R120). -/
structure Vault where
  /-- 0 none, 1 a LOAD_ESCROW runs, 2 the load of a Firmware Commit with CA 0b011 runs. -/
  load : Nat
  /-- A Firmware Commit verification in progress: 0 none, 1 CA 0b000, 2 CA 0b001; its command identifier,
none once a controller reset has aborted the command. -/
  verify : Nat
  verifyCid : Option (BitVec 16)
  /-- The command identifier of a Firmware Commit with CA 0b011 whose activation runs. -/
  commitCid : Option (BitVec 16)
  /-- A repeated self-test runs (R98). -/
  testing : Bool
  /-- The search of R112 has started. -/
  search : Bool
  /-- Streams held at the tap (bit i). -/
  held : BitVec 64
  /-- Failed attempts of the present activation (R113). -/
  tries : Nat
  /-- A unit was fenced while the activation was armed (R111). -/
  recheck : Bool
  /-- The signing queue, oldest first (R116). -/
  sigq : List SigReq
  /-- Index of the next DRBG output and of the nonce in force. -/
  drbg : Nat
  nonce : Nat
  /-- The officer authorisation record last delivered (R118). -/
  auth : Option (List Byte)
  deriving DecidableEq, Repr

/-! ### Power, start-up and the CLK_PX step (01, 02, 05) -/

/-- Where the module is in the sequences of R123 and R130. -/
inductive Phase where
  /-- Rails down. -/
  | off
  /-- Start threshold held, PFC soft start. -/
  | starting
  /-- Power-good reached, Vault self-tests run. -/
  | good
  /-- Self-tests passed, the loader checks slots and applies frames. -/
  | checking
  /-- Every cluster frame applied, release still to come. -/
  | applied
  /-- Outputs released. -/
  | released
  /-- The state of R37. -/
  | noService
  /-- Boundary-scan mode (R62). -/
  | bscan
  deriving DecidableEq, Repr

/-- The power supervisor and the start sequence beside their registers. -/
structure Pwr where
  phase : Phase
  /-- KIND of the start in progress or of the last start (R129). -/
  kind : Nat
  /-- Loss-of-mains sequence (R130): 0 none, 1 from PFW, 2 closed at 2 ms, 3 self-refresh entry begun, 4 reached. -/
  loss : Nat
  /-- The loss-of-mains sequence before this start reached self-refresh (SEQ_DONE). -/
  seqDone : Bool
  /-- J2 fell below 10.5 V during retention (RET_LOST). -/
  retLost : Bool
  /-- Recording memory content survived to this start (RETAINED). -/
  retained : Bool
  /-- The thermal cutoff of R563 holds the rails off. -/
  cutoff : Bool
  /-- TEST_EN at power-good (R62). -/
  testEn : Bool
  /-- Slots tried at this start: 0 the active one next, 1 the other next, 2 both tried. -/
  tried : Nat
  /-- A slot has passed its checks at this start. -/
  slotOk : Bool
  /-- PRES of each head (R49). -/
  pres : BitVec 4
  /-- Outputs waiting for their turn of 20 ms (R50), in head order. -/
  startQ : List Nat
  /-- J1 input power at the last evaluation, mW (R30). -/
  inputMw : Nat
  /-- The step value that the input rules move while PS1 holds STEP_PWR at 0b11 (R30). -/
  stepOwn : Nat
  /-- The member that failed during the present run, as the Auditor recorded it (R129, R554). -/
  mssRun : Nat
  /-- Segment records were pending at this start and all were signed (SIG_DONE). -/
  sigDone : Bool
  /-- PERST# is low; the HST cluster frame has been applied (R123, R124). -/
  perst : Bool
  hstFrame : Bool
  /-- Units in a CLUSTER reset that has not completed (R128), as (cluster, unit). -/
  rst : List (Nat × Nat)
  /-- PWRFAIL# of J5 is driven low (R45, R53). -/
  pwrfail : Bool
  /-- Per head: consecutive measurements above 3.0 A, and below 10.8 V while ON; those with the sum above 100 W (R51). -/
  oc : List Nat
  uv : List Nat
  tot : Nat
  deriving DecidableEq, Repr

/-- A step change of CLK_PX (R27, R28). -/
structure Clk where
  /-- 0 none, 1 waiting for the frames exposed under the old cap, 2 in the 32-cycle pause. -/
  stage : Nat
  target : Nat
  /-- The step whose frame-rate cap the Schedule applies (R211). -/
  cap : Nat
  /-- Serials of the exposures placed under the old cap whose frames have not passed their boundary point. -/
  drain : List Nat
  deriving DecidableEq, Repr

/-! ### Clearing House, Auditor, thermal unit (20, 21) -/

/-- An event that waits for the Auditor: source, raising unit, DETAIL as captured (R570), injection flag (R556). -/
structure EvRec where
  src : Nat
  unit : Nat
  detail : Word
  injected : Bool
  /-- The CLK_SVC cycle of 5 ns in which it reached the Auditor (R542). -/
  cyc : Nat
  deriving DecidableEq, Repr

/-- The Auditor beside its registers. -/
structure Aud where
  q : List EvRec
  /-- Counter of each source's open window (R543); 0 where no window is open. -/
  win : List (Nat × Nat)
  /-- Totals of log page 0xC0 (R552). -/
  lost : Nat
  severe : Nat
  fatal : Nat
  /-- The copy of the first FATAL entry is armed (R550). -/
  ffArmed : Bool
  /-- The safe state (R549): 0 not, 1 decided, 2 closed, 3 clock stopped. -/
  safe : Nat
  /-- ALIVE conducts; the two copies of the core agree (R554). -/
  level : Bool
  lockstep : Bool
  /-- MSI-X messages sent, oldest first (R553). -/
  msix : List Nat
  /-- Per unit (cluster * 64 + unit), the uptime in ns up to which its events are flagged INJECTED (R556). -/
  inj : List (Nat × Nat)
  deriving DecidableEq, Repr

/-- An event delivered to a task input (R533): the input x of R538, its lineage, the strobe width. -/
structure Task where
  input : Nat
  lin : BitVec 64
  width : Nat
  /-- The cycle of the consumer's clock in which it arrived: CLK_MT, or CLK_PX for a latch. -/
  cyc : Nat
  /-- The channels that delivered it. -/
  chans : List Nat
  deriving DecidableEq, Repr

/-- An event that has reached a channel (R525, R531): the channel, the CLK_PX cycle, the lineage. -/
structure ChEv where
  ch : Nat
  cyc : Nat
  lin : BitVec 64
  deriving DecidableEq, Repr

/-- The Clearing House beside its registers. -/
structure ChSt where
  /-- Events that have reached each channel, oldest first. -/
  q : List ChEv
  /-- Events delivered to task inputs and not yet taken. -/
  tasks : List Task
  /-- Per channel, the CLK_PX time (tenths of a cycle) of the last delivered event plus one (R532 stage 5). -/
  last : List (Nat × Nat)
  /-- Per latch, the CLK_PX cycle of the SET_LATCH task or host write that last set it, plus one (R529). -/
  set : List (Nat × Nat)
  /-- Latches that AUTOCLR clears at the start of the next CLK_PX cycle (R530). -/
  clr : Word
  /-- The latches as they stood at the start of this CLK_PX cycle, on which gates are evaluated (R530). -/
  gate : Word
  deriving DecidableEq, Repr

/-- One millisecond of thermal history: the 16 readings, and for each sensor the median of the other valid sensors of
its zone (R558). -/
structure ThSample where
  temps : List Int
  meds : List (Option Int)
  deriving DecidableEq, Repr

/-- The thermal unit beside its registers. -/
structure Therm where
  /-- Newest first, at most 10,001 samples. -/
  hist : List ThSample
  /-- Per zone (0 junction, 1 cold plate): held by R560, grace spent in REQUEST, step demanded. -/
  rise : List Bool
  spent : List Bool
  dem : List Nat
  deriving DecidableEq, Repr

/-! ### Time -/

/-- The Mint (R469, R470): seconds, nanoseconds, and the fraction in units of 2^-44 ns. -/
structure Mint where
  sec : Nat
  ns : Nat
  fr : Nat
  deriving DecidableEq, Repr

/-- The test access port of J11 (R62). -/
structure Tap where
  /-- The register between TDI and TDO: 0 BYPASS, 1 IDCODE, 2 the boundary cells sampled, 3 the cells driven. -/
  sel : Nat
  /-- The boundary cells: pins as sampled, or the values that EXTEST drives. -/
  cells : List Bool
  deriving DecidableEq, Repr

/-! ### Sensor Link (06) -/

/-- A packet delivered to ING (R141, R146): its header fields, payload and marks. -/
structure Pkt where
  dt : Nat
  vc : Nat
  test : Bool
  wc : Nat
  line : Nat
  fcnt : Nat
  payload : List Byte
  crcErr : Bool
  trunc : Bool
  fec : Bool
  deriving DecidableEq, Repr

/-- A 257-bit block after descrambling (R137), with the mark FEC_UNCORR (R139). -/
structure Blk where
  h : Bool
  bytes : List Byte
  unc : Bool
  deriving DecidableEq, Repr

/-- A control request (R159): CMD, TAG, ADDR, DATA. -/
structure CtlReq where
  cmd : Nat
  tag : Nat
  addr : Nat
  data : List Byte
  /-- LEN of an RD, which carries no DATA. -/
  len : Nat
  deriving DecidableEq, Repr

/-- A lane beside its registers. -/
structure Lane where
  /-- Blocks waiting to be merged, oldest first. -/
  fifo : List Blk
  /-- The last 58 scrambled bits, the newest in bit 0 (R138). -/
  scr : BitVec 58
  /-- Codewords since the last alignment marker, once aligned (R140). -/
  cw : Option Nat
  /-- Consecutive alignment markers that failed (R150). -/
  miss : Nat
  /-- The previous decided PAM4 symbol (R136). -/
  prev : Nat
  /-- The place of the next block in the lane's block stream, counted from the alignment marker of sequence number 0
  (R140, R149). -/
  pos : Option Nat
  /-- Blocks still to be dropped so that the lanes of the port begin with the same one (R149). -/
  lag : Nat
  deriving DecidableEq, Repr

/-- A port beside its registers. -/
structure LnkPort where
  /-- The control-channel receiver is in sync (R158). -/
  sync : Bool
  /-- The control channel has been in sync since the training began: its limits run (R149). -/
  run : Bool
  /-- The CTLE sweep of this attempt has ended (R149). -/
  ctle : Bool
  /-- Failed attempts of this training (R149). -/
  tries : Nat
  /-- Precoding decided at the end of DFE convergence (R153). -/
  pre : Bool
  /-- The outstanding request and how often it was sent again (R160). -/
  cur : Option (CtlReq × Nat)
  /-- Requests that are ready: EPOCH_SEL, TRAIN (operand, precoding), host (read). -/
  rdyEpoch : Option Nat
  rdyTrain : List (Nat × Bool)
  rdyHost : Option Bool
  /-- TAG of the last request. -/
  tag : Nat
  /-- Control packets sent, oldest first. -/
  tx : List (List Byte)
  /-- The logical lane whose block comes next in the port stream (R133). -/
  rot : Nat
  /-- The long packet in progress: header bytes, payload and CRC bytes so far, mark FEC_UNCORR. -/
  long : Option (List Byte × List Byte × Bool)
  /-- Blocks are discarded up to the next control block (R146). -/
  skip : Bool
  /-- Short packets of a SHORT block not yet looked at, with its mark FEC_UNCORR. -/
  slots : List (List Byte × Bool)
  /-- Packets delivered to ING and not yet taken, oldest first. -/
  inbox : List Pkt
  deriving DecidableEq, Repr

/-- LNK beside its registers. -/
structure Lnk where
  ports : Map LnkPort
  lanes : Map Lane
  deriving DecidableEq, Repr


/-! ### Frame ingest, recording and the Frame Ledger (07, 10) -/

/-- A Frame Ledger entry that ING holds (R265), with what the module keeps about it until it is freed. -/
structure Entry where
  serial : Nat
  /-- 0 an outstanding exposure, else KIND: 1 FRAME, 2 GAP, 3 MARKER, 4 SEGMENT. -/
  kind : Nat
  head : Nat
  stream : Nat
  part : Nat
  /-- Offset in the ledger range of the partition. -/
  idx : Nat
  seg : Nat
  epochReq : Nat
  epochApp : Nat
  valid : Nat
  flags : BitVec 32
  addr : Nat
  length : Nat
  tdur : Nat
  texpo : List Byte
  tallyRef : Option Nat
  ax : List (BitVec 64)
  mains : BitVec 64
  trig : Nat
  fe : Nat
  /-- The head's 24-bit count of the exposure (R165) and its exposure start or action time in time units. -/
  count : Nat
  ts : Int
  /-- Every field but the Tally reference is final; a Tally record is owed; written; freed before it was written. -/
  final : Bool
  owed : Bool
  written : Bool
  freed : Bool
  chain : List Byte
  deriving DecidableEq, Repr

/-- An open segment (R259, R272-R275). -/
structure Seg where
  num : Nat
  tOpen : List Byte
  /-- The chain value reached, and CHAIN_START (R273). -/
  chain : List Byte
  start : List Byte
  trigSerial : Option Nat
  /-- Serial of the first kept entry, fixed by the trigger (R261). -/
  first : Option Nat
  status : Nat
  deriving DecidableEq, Repr

/-- A partition beside its registers. -/
structure Part where
  /-- Ledger offset of the next entry. -/
  next : Nat
  segNext : Nat
  seg : Option Seg
  entries : List Entry
  /-- Closed segments not released, oldest first. -/
  closed : List Nat
  /-- Serials of FRAME entries freed while a correlation or compression job may still walk to them (R339, R368). -/
  gone : List Nat
  deriving DecidableEq, Repr

/-- A frame from its FS to its boundary point. -/
structure Frame where
  /-- The stream of the head that sends it and the logical stream it belongs to (R175). -/
  src : Nat
  stream : Nat
  serial : Nat
  part : Nat
  count : Nat
  /-- The next expected line. -/
  e : Nat
  epoch : Option Nat
  flags : BitVec 32
  /-- The metadata block so far; no further payload fits. -/
  md : List Byte
  mdFull : Bool
  fe : Nat
  /-- Packed bytes of the lines held for the tap, by line. -/
  lines : Map (List Byte)
  open_ : Bool
  /-- 0 waits for the tap, 1 started, 2 over (no tap, shed or left unprocessed), 3 boundary point passed. -/
  tap : Nat
  /-- A line was lost under R184. -/
  ovf : Bool
  /-- The clusters that serve the frame, from its tap start. -/
  srv : List Nat
  /-- Units of those clusters fenced while the frame was in progress: cluster and unit (R39). -/
  cut : List (Nat × Nat)
  /-- The pad value in force at its FS (R186). -/
  pad : Nat
  deriving DecidableEq, Repr

/-- A line in an ingest buffer (R181). -/
structure BufLine where
  port : Nat
  serial : Nat
  line : Nat
  /-- Where it is written, and how many bytes; none where ING does not write it. -/
  addr : Nat
  len : Nat
  /-- Bytes received. -/
  bytes : Nat
  /-- The tap has taken it, or never will. -/
  taken : Bool
  deriving DecidableEq, Repr

/-- ING beside its registers. -/
structure Ing where
  serial : Nat
  parts : Map Part
  frames : List Frame
  buf : List BufLine
  /-- Per group: heads of the present rotation still to come (R176). -/
  rot : List (List Nat)
  /-- Calibration Store words by store address (R289, R290). -/
  cal : Map Word
  /-- Link streams whose packets are discarded up to their next FS (R166). -/
  unsol : BitVec 64
  /-- Frames that have closed and that COR has not looked at: partition and serial (R337). -/
  fresh : List (Nat × Nat)
  /-- What has passed the write port into the slot of a serial whose entry is not yet written: offset and bytes (R271). -/
  port : Map (List (Nat × List Byte))
  deriving DecidableEq, Repr


/-! ### Capture Schedule and position axes (08, 09) -/

/-- A compare entry (R196) and its status. -/
structure CmpEnt where
  value : BitVec 64
  incr : Nat
  rep : Nat
  ctrl : Word
  offset : Word
  param : Word
  missed : Bool
  done : Bool
  late : Bool
  fired : Nat
  /-- Occurrences counted for REPEAT (R202, R203). -/
  occ : Nat
  /-- The entry waits to rearm (R203): the side on which it crossed, true for rising. -/
  rearm : Option Bool
  deriving DecidableEq, Repr

/-- An action planned by a crossing (R201-R208). -/
structure Act where
  t : Nat
  e : Nat
  kind : Nat
  /-- Action time in time units. -/
  ta : Int
  /-- The compare value and OFFSET it was planned from (R206). -/
  x : BitVec 64
  off : Word
  late : Bool
  committed : Bool
  /-- The direction of the crossing, true rising; the axis has stopped or turned back before it (R206). -/
  up : Bool
  wait : Bool
  /-- Heads for EXPOSE and MARK still to act. -/
  heads : Nat
  eps : Nat
  ch : Nat
  param : Word
  deriving DecidableEq, Repr

/-- A head unit beside its registers. -/
structure SchHead where
  /-- Trigger edges sent, 24 bits (R165). -/
  count : Nat
  /-- The TRG pulse in progress: falling edge. -/
  pulse : Option Int
  /-- The last falling edge. -/
  fall : Option Int
  /-- Mint time in ns from which the pending set applies (R215). -/
  te : Nat
  /-- Its latest TRG rising edges, newest first; some EPOCH_SEL has been sent. -/
  rises : List Int
  sent : Bool
  /-- The last EPOCH_SEL has been acknowledged; the epoch of the latest rising edge (R216). -/
  ack : Bool
  edge : Option Nat
  deriving DecidableEq, Repr

/-- A stream of the Schedule beside its registers. -/
structure SchStr where
  /-- V of R211 in ninths of a time unit; none is minus infinity. -/
  v : Option Int
  /-- t_s of the last admitted exposure. -/
  last : Option Int
  /-- T_min in force, in ninths of a time unit; 0 where test 9 does not apply. -/
  tmin : Nat
  /-- A trigger accepted whose trigger entry is still to come: t_trig in time units. -/
  trig : Option Int
  /-- Frames counted for DECIMATE (R36), and m in force. -/
  dec : Nat
  m : Nat
  /-- Lineage of the STR_STOP event that closes the segment (R531). -/
  lin : BitVec 64
  /-- The segment closes after POST in TRIGGERED_MULTI: a new one opens (R220). -/
  reopen : Bool
  /-- The cycle of the last trigger (R221). -/
  trigAt : Option Nat
  /-- Armed while the Mint was fenced: T_EXPO comes from CLK_SVC up to a boundary point after it returns (R475). -/
  noMint : Bool
  deriving DecidableEq, Repr

/-- A strobe output (R218): the ends of the Schedule pulse and of the channel pulse. -/
structure Strobe where
  sch : Option Int
  chan : Option Int
  deriving DecidableEq, Repr

/-- A position axis beside its registers (09). -/
structure Axis where
  count : BitVec 48
  /-- Accepted (A, B) pair or (U, V, W) levels; none before the first. -/
  pair : Option (Bool × Bool)
  sector : Option Nat
  illegal : Bool
  /-- Stamps and counts since the history was cleared, newest first (R244). -/
  hist : List (Int × Int)
  /-- Average speed, counts/s in 32.16. -/
  v : Int
  /-- Stamp of the latest edge or good read, and of the last read that changed the count. -/
  tk : Int
  tc : Int
  /-- Sign of the last count change: true falling. -/
  dir : Option Bool
  latch : Option (BitVec 48)
  latchDir : Bool
  /-- A direction change since the last latch. -/
  turned : Bool
  /-- The raw position of the last read (R243); none before the first good read. -/
  raw : Option Nat
  bad : Nat
  good : Nat
  /-- A read in progress, by its stamp. -/
  reading : Option Int
  /-- The read that is due waits for DAT to go high (R241). -/
  waiting : Bool
  /-- A wire fault holds (R237). -/
  wire : Bool
  /-- A foldback of the supply holds VALID at 0. -/
  fold : Bool
  /-- The cycle of the last direction change, and whether another lay between it and the last latch (R249). -/
  turnAt : Option Nat
  turned0 : Bool
  /-- The axis value before the events of a cycle, with that cycle (R249). -/
  was : Option (Nat × BitVec 64)
  deriving DecidableEq, Repr

/-- The mains-phase axis beside its registers (R192, R193). -/
structure A5 where
  cycle : Nat
  /-- Stamps of the latest crossings, newest first. -/
  zc : List Int
  /-- Stamp of the last crossing before a loss of lock. -/
  last : Option Int
  deriving DecidableEq, Repr

/-- SCH beside its registers. -/
structure Sch where
  tbl : Map CmpEnt
  acts : List Act
  heads : Map SchHead
  strs : Map SchStr
  so : Map Strobe
  axes : Map Axis
  a5 : A5
  /-- Accepted levels of the trigger inputs. -/
  ti : BitVec 8
  /-- Stamp of the latest edge that A6 counted (R194). -/
  a6t : Int
  /-- Per table the Mint time in ns of its last TBL_DIS, plus 1 (R222). -/
  dis : Map Nat
  /-- Lineage of TBL_EN per table, carried by the actions of its entries (R222). -/
  lin : Map (BitVec 64)
  deriving DecidableEq, Repr


/-! ### Pixel clusters (11) -/

/-- A Tally record that waits to be written (R309), with the exact sums of its zones (R306). -/
structure PendTally where
  serial : Nat
  part : Nat
  idx : Nat
  bytes : List Byte
  /-- Per zone: sums of R, G, B in units of 2^-24 and the pixel count. -/
  zones : List (Int × Int × Int × Nat)
  deriving DecidableEq, Repr

/-- What the clusters hold for a stream beside their registers. -/
structure PixStr where
  /-- The two table banks (R303): words by table * 2^20 + index. -/
  bank0 : Map Word
  bank1 : Map Word
  /-- Proxy buffers held by readers: buffer and reader (R301). -/
  held : List (Nat × Nat)
  /-- SEQ of the proxy in each buffer, and the buffer written last plus one. -/
  seqs : Map Nat
  nextBuf : Nat
  /-- Processed frames counted for EVERY since ARM. -/
  every : Nat
  /-- A cluster of the stream has been fenced or reset: its stripes are split anew at the next boundary point (R284). -/
  split : Bool
  /-- Metric of the previous record and whether the condition held, per image trigger (R310). -/
  prev : List (Option Word)
  cond : List Bool
  tally : List PendTally
  deriving DecidableEq, Repr


/-! ### Correlation engine (12) -/

/-- A result record of a tracked frame (R347). -/
structure CorRec where
  ctx : Nat
  p : List Word
  zncc : Word
  sigmaU : BitVec 16
  sigmaV : BitVec 16
  status : Nat
  iter : Nat
  seed : Nat
  deriving DecidableEq, Repr

/-- The tracked frame in progress (R340): job, serials, its records, the gauges still to be evaluated on it. -/
structure CorFrame where
  job : Nat
  serial : Nat
  ref : Nat
  live : Bool
  epoch : Nat
  recs : List CorRec
  cycles : Nat
  unc : Bool
  gauges : List Nat
  deriving DecidableEq, Repr

/-- A job beside its registers (R318). -/
structure CorJob where
  /-- Live-queued frames: serial, and for a pair the serial of frame A. -/
  queue : List (Nat × Nat)
  /-- Eligible frames, or pairs, since RUNNING. -/
  cnt : Nat
  /-- Live pairs: the next serial to examine, and a frame A that waits for its frame B (R343). -/
  pairNext : Option Nat
  frameA : Option Nat
  /-- A frame A of the walk. -/
  walkA : Option Nat
  /-- The head and the layout of the reference frame, of which the work area holds a copy (R326). -/
  refHead : Nat
  refLay : Nat
  /-- Contexts that preparation found EDGE or SINGULAR (R325, R327). -/
  prep : List (Nat × Nat)
  stop : Bool
  seq : Nat
  /-- The newest live-tracked serial, and the latest tracked serials with their ring positions are in the index. -/
  newest : Option Nat
  /-- POST_NEXT has been set; a frame has been post-tracked since START. -/
  walking : Bool
  tracked : Bool
  deriving DecidableEq, Repr

/-- COR beside its registers. -/
structure Cor where
  /-- The context store: bytes by context * 128 + offset (R319). -/
  ctx : List Host.Cell
  /-- Column models and nonlinearity classes per job slot (R321): job * 2^24 + table * 2^20 + index. -/
  tbl : Map Word
  jobs : Map CorJob
  cur : Option CorFrame
  /-- CMP claims the tile cache (R372). -/
  claim : Bool
  /-- Index of the next free value (model's own field, log entry 21). -/
  free : Nat
  deriving DecidableEq, Repr


/-! ### Lossless compression (13) -/

/-- The frame that an engine has in progress: geometry (R356, R357), source and output of its slot. -/
structure CmpGeom where
  w : Nat
  h : Nat
  b : Nat
  cfa : Bool
  /-- 0 PACKED, 1 UNPACKED16. -/
  layout : Nat
  metaLen : Nat
  /-- FLAGS of the header, stream id, first byte of the source slot. -/
  flags : Nat
  stream : Nat
  src : Nat
  deriving DecidableEq, Repr

/-- An engine beside its registers (R367 to R370). -/
structure CmpEng where
  busy : Bool
  /-- Ring index of the descriptor. -/
  slot : Nat
  /-- NEXT_BLOCK; none where a frame header is next. -/
  pos : Option Nat
  /-- A and N of the 32 contexts (R361). -/
  ctx : List (Nat × Nat)
  geom : CmpGeom
  serial : Nat
  /-- LEDGER: the next serial to visit, and FRAME entries visited. -/
  next : Nat
  seen : Nat
  frames : Nat
  inTotal : Nat
  outTotal : Nat
  inNext : Nat
  outNext : Nat
  inFrame : Nat
  outFrame : Nat
  /-- The entry was freed while the frame was being coded (R368). -/
  lost : Bool
  /-- Damaged frames, and the frame in progress is one (R363). -/
  damaged : Nat
  dmgNow : Bool
  /-- First failing strip of the last failing frame, and the frame in progress has failed (R371). -/
  strip : Option Nat
  stripNow : Bool
  deriving DecidableEq, Repr

/-- CMP beside its registers. -/
structure Cmp where
  eng : Map CmpEng
  /-- Slots held whole in the tile cache, by serial; the first serial that can be whole (R372). -/
  cache : List (Nat × List Byte)
  cacheFrom : Nat
  deriving DecidableEq, Repr


/-! ### HEVC encoding and decoding (14) -/

/-- A picture in coding (R381, R386 to R391). -/
structure VPic where
  core : Nat
  host : Bool
  buf : Nat
  seq : Nat
  serial : Nat
  epoch : Nat
  texpo : List Byte
  poc : Nat
  idr : Bool
  /-- The first picture of a refresh cycle, with G; the columns coded as intra, the last excluded. -/
  cycle : Option Nat
  cols : Option (Nat × Nat)
  /-- The host's header buffer goes in front of the first slice. -/
  header : List Byte
  passed : Bool
  marked : Bool
  /-- The slice header's references: the previous coded picture, and each listed long-term picture with its used flag. -/
  shortRef : Option Nat
  longRefs : List (Nat × Bool)
  qp : Nat
  target : Nat
  /-- Target bits per picture t (R390), the hard cap. -/
  rate : Nat
  hcap : Nat
  /-- CTUs in a row, CTU rows, rows of a slice, slices, the next slice, access unit bytes so far. -/
  ctuW : Nat
  ctuH : Nat
  rows : Nat
  slices : Nat
  slice : Nat
  bytes : Nat
  starved : Bool
  forced : Bool
  /-- RTP timestamp without TSOFF (R402). -/
  stamp : Nat
  deriving DecidableEq, Repr

/-- An encoder channel beside its registers. -/
structure VEnc where
  /-- SRC and stream since START. -/
  host : Bool
  stream : Nat
  /-- The accumulated request (R389). -/
  req : Word
  /-- SEQ last coded, and SEQ last not coded for want of room (R393). -/
  last : Option Nat
  skip : Option Nat
  /-- Pictures since START; the next is an IDR or starts a cycle after a swap; pictures since the last IDR or cycle. -/
  count : Nat
  redo : Bool
  since : Nat
  /-- Index of the next picture in its refresh cycle, and G. -/
  cyc : Option (Nat × Nat)
  /-- PicOrderCnt of the next picture, of the previous one, of the long-term slots. -/
  poc : Nat
  prev : Option Nat
  lt : List (Option Nat)
  /-- qp_last, and bits_last with target_last, of pictures with and without the intra target (R390). -/
  qpI : Nat
  qpP : Nat
  lastI : Option (Nat × Nat)
  lastP : Option (Nat × Nat)
  pic : Option VPic
  /-- RTP packets to send: payload, M, timestamp; the next IPv4 identification. -/
  pkts : List (List Byte × Bool × Nat)
  ident : Nat
  deriving DecidableEq, Repr

/-- What a sequence parameter set says (R398). -/
structure VSps where
  id : Nat
  usable : Bool
  fmt : Nat
  /-- 8-bit samples. -/
  eight : Bool
  w : Nat
  h : Nat
  pocBits : Nat
  planes : Bool
  reorder : Nat
  latency : Nat
  /-- Pictures that the buffering of the stream may hold, the one in decoding among them. -/
  buffers : Nat
  /-- Its short-term reference picture sets: PicOrderCnt differences with the used flag, before and after the picture. -/
  sets : List (List (Int × Bool) × List (Int × Bool))
  /-- Its long-term candidates, where slices name long-term pictures: least significant bits with the used flag. -/
  longs : Option (List (Nat × Bool))
  deriving DecidableEq, Repr

/-- A picture marked as used for reference: buffer, PicOrderCnt, marked long-term, generated in the place of a missing one. -/
structure VRef where
  buf : Nat
  poc : Int
  long : Bool
  made : Bool
  deriving DecidableEq, Repr

/-- A decoded picture, or the one being decoded. -/
structure VOut where
  buf : Nat
  poc : Int
  sps : VSps
  serial : Nat
  epoch : Nat
  flags : Nat
  output : Bool
  /-- Pictures that followed it in decoding order while it waited. -/
  wait : Nat
  /-- Reference pictures that it uses (R379). -/
  uses : Nat
  deriving DecidableEq, Repr

/-- A decoder channel beside its registers. -/
structure VDec where
  sps : List VSps
  /-- Picture parameter sets: id, SPS id, output_flag_present_flag, num_extra_slice_header_bits. -/
  pps : List (Nat × Nat × Bool × Nat)
  /-- From SEI of the access unit to come: serial with epoch, recovery_poc_cnt. -/
  seiSerial : Option (Nat × Nat)
  seiRec : Option Int
  /-- The recovery POC while pictures carry NOT_RECOVERED. -/
  recover : Option Int
  /-- The next picture follows START or an end of sequence; RASL pictures are left out. -/
  first : Bool
  noRasl : Bool
  /-- PicOrderCnt of the previous picture with TemporalId 0. -/
  prevPoc : Int
  cur : Option VOut
  /-- Decoded and waiting for output, and bumped in output order. -/
  dpb : List VOut
  ready : List VOut
  /-- Used for reference. -/
  refs : List VRef
  /-- NAL units are discarded up to the first picture that starts decoding (R397). -/
  seek : Bool
  /-- Pictures are left out up to the next IRAP with a usable sequence parameter set (R398). -/
  blocked : Bool
  /-- Buffers held by display layers: buffer and layer; SEQ of the picture output into each buffer; the last SEQ. -/
  held : List (Nat × Nat)
  seqs : Map Nat
  seq : Nat
  deriving DecidableEq, Repr

/-- VID beside its registers. -/
structure Vid where
  enc : Map VEnc
  dec : Map VDec
  /-- The channel of 0 to 5 served last (R378). -/
  rr : Nat
  /-- Index of the next free value (model's own field, log entry 22). -/
  free : Nat
  deriving DecidableEq, Repr


/-! ### Recording memory controller (15) -/

/-- What a port request receives (R414). -/
inductive MStat where
  | ok | poison | range | fenced | notReady
  deriving DecidableEq, Repr

/-- One burst that waits in a bank queue (R416). -/
structure Burst where
  /-- The port: 0 COR, 1 CMP, 2 HST, 3 VID (R419); 4 and up real-time. -/
  port : Nat
  write : Bool
  sc : Nat
  loc : Nat
  /-- The data of a write; for a read, the data of the last write that arrived before it (R417). -/
  data : List Byte
  /-- Parity symbols inverted in the burst that a read will return (R435). -/
  flip : Nat
  /-- A coin has been taken for it, or it needs none (R420). -/
  granted : Bool
  /-- The locked write it belongs to (a write) or waits for (a read) (R418); 0 none. -/
  lock : Nat
  /-- Arrival time in ns. -/
  time : Nat
  deriving DecidableEq, Repr

/-- The answer to one burst of a port request. -/
structure Resp where
  port : Nat
  status : MStat
  data : List Byte
  deriving DecidableEq, Repr

/-- The memory controller beside its registers. -/
structure Mem where
  /-- The array: data bytes by sub-channel * 2^34 + local byte address; an unlisted byte reads 0 (log entry 3). -/
  dram : List Host.Cell
  /-- Bursts whose parity symbols are stored inverted, by sub-channel * 2^28 + burst number (R435). -/
  flip : Map Nat
  /-- The bank queues, oldest first. -/
  q : List Burst
  /-- Number of the last locked write. -/
  lockN : Nat
  /-- Answers returned to the ports, oldest first. -/
  resp : List Resp
  /-- The row last used in each bank, by sub-channel * 32 + bank, plus one. -/
  open_ : Map Nat
  /-- The real-time port in Overdraft that each sub-channel served last (R416). -/
  odLast : Map Nat
  /-- Purses of the bulk ports in 1/16 coin (R419). -/
  purse : List Nat
  /-- Bursts per bulk port that an engine or a host read has moved and no coin has paid for yet (log entry 106). -/
  owe : List Nat
  /-- Real-time ports in Overdraft (bit p) and the STARVE taken when it asserted (R421, R422). -/
  od : BitVec 16
  starve : Nat
  /-- Sub-channels with a component above 85 °C (R424). -/
  hot : BitVec 16
  /-- Next burst of the scrub pass per sub-channel, and the time the pass began in ns (R432). -/
  scrub : Map Nat
  scrubT : Nat
  /-- Millisecond, plus one, in which MEM_CE was last raised (R430). -/
  ceMs : Nat
  /-- Write DQ delay of each sub-channel in 1/256 UI (R427). -/
  dq : Map Int
  /-- Index of the next ECS readout and temperature range (model's own field: free values, log entry 13). -/
  free : Nat
  deriving DecidableEq, Repr


/-! ### Host interface (16) -/

/-- A fetched NVMe command that has not completed (R447). -/
structure NCmd where
  /-- Submission queue, 0 for admin. -/
  q : Nat
  cid : BitVec 16
  /-- The 64-byte submission queue entry, and the bytes the command takes from the host. -/
  sqe : List Byte
  data : List Byte
  /-- 0 fetched, 1 in data transfer, 2 blocks written and still to retire, 3 held until an event ends it. -/
  st : Nat
  /-- Its data transfer began before self-refresh entry (R131). -/
  early : Bool
  /-- Lock numbers of its block writes (R455). -/
  locks : List Nat
  /-- What the data phase reached at a swap, under the old plane's mapping (R457): status, DW0, data for the host. -/
  res : Option (Nat × Nat × List Byte)
  deriving DecidableEq, Repr

/-- A completion posted: queue of the command, identifier, SQHD, status (SCT * 256 + SC), DNR, DW0, phase. -/
structure Cpl where
  q : Nat
  cid : BitVec 16
  sqhd : Nat
  status : Nat
  dnr : Bool
  dw0 : Word
  phase : Bool
  deriving DecidableEq, Repr

/-- A submission queue (R446): entries, completion queue, priority class, head and tail. -/
structure Sq where
  size : Nat
  cq : Nat
  prio : Nat
  head : Nat
  tail : Nat
  deriving DecidableEq, Repr

/-- A completion queue: entries, vector, interrupts enabled, tail, head, phase. -/
structure Cq where
  size : Nat
  vec : Nat
  ien : Bool
  tail : Nat
  head : Nat
  phase : Bool
  deriving DecidableEq, Repr

/-- HST beside its registers. -/
structure Hst where
  /-- CC, CSTS, INTMS, AQA, ASQ, ACQ of NVMe. -/
  cc : Word
  csts : Word
  intm : Word
  aqa : Word
  asq : BitVec 64
  acq : BitVec 64
  sqs : Map (Option Sq)
  cqs : Map (Option Cq)
  cmds : List NCmd
  cpl : List Cpl
  /-- Data delivered to the host: queue, identifier, bytes. -/
  dma : List (Nat × BitVec 16 × List Byte)
  /-- Events that wait for an Asynchronous Event Request (R461): DW0. -/
  aer : List Nat
  /-- Set Features values: Arbitration, Asynchronous Event Configuration, APST enable and table. -/
  arb : Word
  aec : Word
  apstEn : Bool
  apst : List Byte
  /-- Pieces of the download since offset 0: offset and length (R459). -/
  dl : List (Nat × Nat)
  /-- FR strings of the flash slots; empty where a slot holds no verified image. -/
  fr0 : List Byte
  fr1 : List Byte
  /-- The last operational power state, and whether the entry in progress is autonomous. -/
  opPs : Nat
  auto : Bool
  /-- The queue served last: of all (round robin), urgent, high, medium, low; turns left of the weighted classes (R447). -/
  rr : List Nat
  credit : List Nat
  /-- The MSI-X table, by word (four words a vector), and the vectors whose pending bit is set (R443, R553). -/
  mxTab : Map Word
  mxPend : List Nat
  deriving DecidableEq, Repr


/-! ### Ethernet and the Mint (17) -/

/-- An Ethernet port beside its registers. -/
structure NetPort where
  /-- Block lock and FEC lock. -/
  blk : Bool
  fecLock : Bool
  /-- Frames sent with their FCS, oldest first: the transmit queue (3 is TQ3) and the bytes. -/
  sent : List (Nat × List Byte)
  /-- Millisecond, plus one, in which RX_DROP was last raised; microsecond, plus one, of the last RX_PTP and RX_DATA. -/
  dropMs : Nat
  ptpUs : Nat
  dataUs : Nat
  deriving DecidableEq, Repr

/-- NET beside its registers. -/
structure Net where
  ports : Map NetPort
  /-- Bytes written to host memory as a bus master, oldest first: host address and bytes. -/
  host : List (Nat × List Byte)
  /-- The last accepted PPS_IN edge (R476), and PPS_MISSING counted since. -/
  ppsIn : Option Mint
  ppsGone : Bool
  /-- The level of PPS_OUT; the second, plus one, of the last pulse (R477). -/
  ppsOut : Bool
  ppsSec : Nat
  /-- The Mint's last change was the increment of R470, no step. -/
  inc : Bool
  deriving DecidableEq, Repr


/-! ### Display heads and audio ports (18, 19) -/

/-- The picture that a layer shows in a frame: address of plane 0, format, size, pitches, address of plane 1. -/
structure LayerPic where
  addr : Nat
  fmt : Nat
  w : Nat
  h : Nat
  pitch0 : Nat
  pitch1 : Nat
  addr1 : Nat
  deriving DecidableEq, Repr

/-- A display head beside its registers. -/
structure DHead where
  /-- The output is ready and its first frame start is placed: total ns of Mint time; none where a group's phase holds. -/
  ready : Bool
  at_ : Option Nat
  /-- The eDP pins: PANEL_VCC_EN, HPD, main link on, BL_EN. -/
  vcc : Bool
  hpd : Bool
  link : Bool
  bl : Bool
  /-- Frames of video since it started; frames still to send while STOPPING; the error entered behind the sequence. -/
  frames : Nat
  left : Nat
  err : Nat
  /-- A retraining is due or runs (R502). -/
  retrain : Bool
  /-- Panel self-refresh: COMMIT written since the last frame start, frames without update, frames of the entry or exit,
  consecutive failures. -/
  update : Bool
  quiet : Nat
  count : Nat
  fails : Nat
  /-- UNDERRUN was raised in this frame. -/
  under : Bool
  /-- What each layer shows in this frame. -/
  pics : List (Option LayerPic)
  /-- The SEQ that each layer took at the last frame start with video (R503). -/
  seen : List Nat
  deriving DecidableEq, Repr

/-- An AES3 receiver beside its registers. -/
structure AesRx where
  /-- The open block: Mint time of its Z preamble, and whether it is discarded; none between blocks. -/
  cur : Option (Mint × Bool)
  /-- Frames discarded since the last block, SEQ of the last block. -/
  lost : Nat
  seq : Nat
  /-- The on-die FIFO: addresses of its 64-byte bursts that are not yet written; its Overdraft (R517). -/
  fifo : List Nat
  od : Bool
  deriving DecidableEq, Repr

/-- The AES3 transmitter beside its registers. -/
structure AesTx where
  /-- Mint time in ns of the first Z preamble. -/
  at_ : Nat
  seq : Nat
  /-- Subframe words of the block being sent, and the last sample of each subframe. -/
  sent : List Word
  last : Word × Word
  deriving DecidableEq, Repr

/-- OUT beside its registers. -/
structure Out where
  heads : Map DHead
  /-- FIFO levels of fetching layers below their clear threshold, by head * 4 + layer (R499). -/
  fifo : List (Nat × Nat)
  rx : Map AesRx
  tx : AesTx
  /-- Index of the next free value (model's own field, log entry 23). -/
  free : Nat
  deriving DecidableEq, Repr


/-- The state of the module. -/
structure State where
  /-- The variant of the module (R1). -/
  variant : Variant
  /-- Nanoseconds of CLK_SVC since power-good (R41, R551). -/
  now : Nat
  /-- CLK_PX time in tenths of a cycle, stopped and paused cycles left out (R532). -/
  px : Nat
  /-- The Mint (R469, R470). -/
  mint : Mint
  /-- Registers by BAR2 address; an unlisted register reads `regDefault`. -/
  regs : Map Word
  /-- Shadows of RWS registers (R11); unlisted: equal to `regDefault`. -/
  shadow : Map Word
  /-- The live quantity behind a _LO/_HI pair, by the address of its _LO register. -/
  live : Map (BitVec 64)
  /-- The configuration flash (R103); an unlisted byte reads 0 (log entry 4). -/
  flash : List Host.Cell
  /-- The Vault's one-time-programmable fields. -/
  otp : Otp
  /-- The active plane (R108); none until an image has passed at a start. -/
  plane : Option Plane
  /-- The Escrow plane (R108). -/
  escrow : Option Plane
  /-- The Vault. -/
  vlt : Vault
  /-- Power supervisor and start sequence. -/
  pwr : Pwr
  /-- The CLK_PX step change. -/
  clk : Clk
  /-- The Auditor. -/
  aud : Aud
  /-- The Clearing House. -/
  ch : ChSt
  /-- The thermal unit. -/
  th : Therm
  /-- The sensor ports and lanes. -/
  lnk : Lnk
  /-- Frame ingest and recording. -/
  ing : Ing
  /-- The Capture Schedule. -/
  sch : Sch
  /-- The pixel clusters' tables and products, by stream. -/
  pix : Map PixStr
  /-- The correlation engine. -/
  cor : Cor
  /-- The compression cluster. -/
  cmp : Cmp
  /-- HEVC encoding and decoding. -/
  vid : Vid
  /-- The memory controller. -/
  mem : Mem
  /-- The host interface. -/
  hst : Hst
  /-- Ethernet and the Mint's pins. -/
  net : Net
  /-- Display heads and audio ports. -/
  out : Out
  /-- The test access port (R62). -/
  tap : Tap
  /-- The result of the last bus read, telemetry word or similar read (a 64-bit read: lower word first). -/
  rdata : BitVec 64
  /-- The bytes of the last VPD, telemetry block or JTAG read. -/
  rbytes : List Byte
  /-- The commands that wait, first in, first out. -/
  pending : List Instr
  deriving DecidableEq, Repr

/-- Why a step stops with a fault: no command of this block does (every command has an effect the rules give, or none
and then leaves the state as it is). -/
inductive Fault where
  deriving DecidableEq, Repr

/-- Why a step is refused. -/
inductive Refusal where
  /-- Raised by Dispatch for a command whose meaning is not written yet; safe (nothing is claimed of it). -/
  | notModelled (mnemonic : String)
  deriving DecidableEq, Repr

/-- The module right after reset: a COLD_RESET has just begun (R121, R123), PFC soft start, no image loaded, nothing in
memory. Values the spec does not give are those of log entries 3 to 12. -/
def State.reset : State where
  variant := .rlm4800
  now := 0
  px := 0
  mint := ⟨0, 0, 0⟩
  regs := []
  shadow := []
  live := []
  flash := []
  otp := ⟨0, 0, 0, false⟩
  plane := none
  escrow := none
  vlt := ⟨0, 0, none, none, false, false, 0, 0, false, [], 0, 0, none⟩
  pwr := ⟨.starting, 1, 0, false, false, false, false, false, 0, false, 0, [], 0, 0, 0, false, false, false, [], false, [0, 0, 0, 0], [0, 0, 0, 0], 0⟩
  clk := ⟨0, 3, 3, []⟩
  aud := ⟨[], [], 0, 0, 0, true, 0, false, true, [], []⟩
  ch := ⟨[], [], [], [], 0, 0⟩
  th := ⟨[], [false, false], [false, false], [0, 0]⟩
  lnk := ⟨[], []⟩
  ing := ⟨0, [], [], [], [[], []], [], 0, [], []⟩
  sch := ⟨[], [], [], [], [], [], ⟨0, [], none⟩, 0, 0, [], []⟩
  pix := []
  cor := ⟨[], [], [], none, false, 0⟩
  cmp := ⟨[], [], 0⟩
  vid := ⟨[], [], 5, 0⟩
  mem := ⟨[], [], [], 0, [], [], [], [0, 0, 0, 0], [0, 0, 0, 0], 0, 0, 0, [], 0, 0, [], 0⟩
  hst := ⟨0#32, 0#32, 0#32, 0#32, 0#64, 0#64, [], [], [], [], [], [], 0#32, 0#32, false, [], [], [], [], 0, false, [0, 0, 0, 0, 0], [0, 0, 0], [], []⟩
  net := ⟨[], [], none, false, false, 0, true⟩
  out := ⟨[], [], [], ⟨0, 0, [], 0#32, 0#32⟩, 0⟩
  tap := ⟨0, []⟩
  rdata := 0
  rbytes := []
  pending := []

end Sys2Proof.Machine
end

