-- ==== Sys2Proof/Machine/Ops.lean ====
section
/-! DEFINITION. The shared operations over State: registers and their fields, units and their condition, events on the
source wires, the Mint's value, the step of CLK_PX. -/

namespace Sys2Proof.Machine

open Sys2Proof

/-! ### Registers -/

/-- The value a register holds (without the effects of a bus read). -/
def State.rd (s : State) (a : Nat) : Word := Map.get regDefault s.regs a

/-- Put a value into a register. -/
def State.wr (s : State) (a : Nat) (v : Word) : State := { s with regs := Map.set regDefault s.regs a v }

/-- A field of a register. -/
def State.fld (s : State) (a lo w : Nat) : Nat := fget (s.rd a) lo w

/-- Put `n` into a field of a register. -/
def State.setFld (s : State) (a lo w n : Nat) : State := s.wr a (fset (s.rd a) lo w n)

/-- One bit of a register. -/
def State.bit (s : State) (a i : Nat) : Bool := (s.rd a).getLsbD i

/-- Put one bit of a register. -/
def State.setBit (s : State) (a i : Nat) (b : Bool) : State := s.setFld a i 1 b.toNat

/-- Add `n` to a counter register, saturating at 0xFFFF_FFFF. -/
def State.countN (s : State) (a n : Nat) : State := s.wr a (satAdd (s.rd a) n)

/-- Add 1 to a counter register, saturating. -/
def State.count (s : State) (a : Nat) : State := s.countN a 1

/-- The shadow of an RWS register (R11). -/
def State.shd (s : State) (a : Nat) : Word := Map.get regDefault s.shadow a

/-- Put a value into a shadow. -/
def State.setShd (s : State) (a : Nat) (v : Word) : State := { s with shadow := Map.set regDefault s.shadow a v }

/-- The live quantity behind a _LO/_HI pair, by the address of _LO. -/
def State.liveAt (s : State) (a : Nat) : BitVec 64 := Map.get (fun _ => 0#64) s.live a

/-- Set a live quantity; the _LO register shows its lower word at once, the _HI register only at a capture. -/
def State.setLive (s : State) (a : Nat) (v : BitVec 64) : State :=
  { s with live := Map.set (fun _ => 0#64) s.live a v }

/-- Commit one RWS register: the shadow moves to the active copy in its RWS bits (R11). -/
def State.commit (s : State) (a : Nat) : State :=
  match rowAt a with
  | none => s
  | some r => s.wr a ((s.rd a &&& ~~~ r.mask .rws) ||| (s.shd a &&& r.mask .rws))

/-! ### Units -/

/-- The members of the minimum service set (R37, R128). -/
def inMss (c u : Nat) : Bool :=
  (c == 1 && (u == 16 || u == 17)) || (c == 0 && u == 1) || (c == 15 && (u == 2 || u == 3)) || c == 12

/-- The UNIT_ENABLE mask of a cluster in a plane (R78); an empty frame disables every unit (R75). -/
def Plane.enable (p : Plane) (c : Nat) : Nat :=
  match p.frames.find? (fun f => f.cluster == c) with
  | some f => f.enable
  | none => 0

/-- Whether the running image enables a unit (R71): its bit of UNIT_ENABLE, 0 for every unit of a cluster with an empty
frame, unit 0 among them (R75, R78). The device's own registers are always there; before an image is applied the control
units and the minimum service set are enabled (log entry 9). -/
def State.enabled (s : State) (c u : Nat) : Bool :=
  match s.plane with
  | none => u == 0 || inMss c u
  | some p => (c == 0 && u == 0) || (p.enable c).testBit u

/-- Whether a unit is fenced (R40). -/
def State.fenced (s : State) (c u : Nat) : Bool := s.bit (rDevFenceU (2 * c + u / 32)) (u % 32)

/-- Present, enabled and not fenced: its sources assert, its registers act (R2, R38, R71). -/
def State.unitLive (s : State) (c u : Nat) : Bool :=
  present s.variant c u && s.enabled c u && !s.fenced c u

/-- DEV_FENCE_CL follows DEV_FENCE_Uk (R40). -/
def State.syncFence (s : State) (c : Nat) : State :=
  s.setBit rDevFenceCl c (s.rd (rDevFenceU (2 * c)) != 0#32 || s.rd (rDevFenceU (2 * c + 1)) != 0#32)

/-- Set or clear the fence bit of a unit. -/
def State.setFence (s : State) (c u : Nat) (b : Bool) : State :=
  (s.setBit (rDevFenceU (2 * c + u / 32)) (u % 32) b).syncFence c

/-- Head `n` is declared (R577). -/
def State.declared (s : State) (n : Nat) : Bool :=
  s.bit (rDevHead n) 31 && !(s.variant == .rlm4200 && 2 ≤ n)

/-- The outputs are released (R123) and the state of R37 does not hold. -/
def State.released (s : State) : Bool := s.pwr.phase == .released

/-- Inputs are sampled and outputs act: released, and the safe state has not taken the connectors to their reset states
(R68, R549). -/
def State.serving (s : State) : Bool := s.released && decide (s.aud.safe < 2)

/-- A BAR2 access reaches cluster `c`: cluster 0 once the die is powered, the others from release on (R123), in the safe
state only 0 and 15 (R549), and so in the state of R37 of a run that had been released. -/
def State.reaches (s : State) (c : Nat) : Bool :=
  match s.pwr.phase with
  | .off => false
  | .starting => false
  | .released => c == 0 || c == 15 || s.aud.safe == 0
  | .noService => c == 0 || (c == 15 && s.pwr.mssRun != 0)
  | _ => c == 0

/-- Capture runs (R87). -/
def State.capture (s : State) : Bool := s.bit rDevCfgStat 3

/-! ### Events -/

/-- The 64-bit lineage mask with bit `n` set (R531). -/
def linBit (n : Nat) : BitVec 64 := BitVec.ofNat 64 (2 ^ n)

/-- The channels whose SRC slots name source `x` (R525), from the listed registers. -/
def State.chansOf (s : State) (x : Nat) : List Nat :=
  (s.regs.filterMap fun p =>
    if rSvcChCfg 0 ≤ p.1 ∧ p.1 < rSvcChCfg 64 ∧ 0x10 ≤ p.1 % 0x80 ∧ p.1 % 0x80 < 0x30 ∧
       p.2.getLsbD 31 = true ∧ fget p.2 0 9 = x
    then some ((p.1 - rSvcChCfg 0) / 0x80) else none).eraseDups

/-- The CLK_PX cycle. -/
def State.pxCycle (s : State) : Nat := s.px / 10

/-- An event reaches channel `n` with a lineage (R525); a fenced Clearing House routes nothing (R41). -/
def State.toChannel (s : State) (n : Nat) (lin : BitVec 64) : State :=
  if s.unitLive 15 1 then { s with ch := { s.ch with q := s.ch.q ++ [⟨n, s.pxCycle, lin⟩] } } else s

/-- The DETAIL word captured for a source, without side effect (R570): a _LO register shows the live quantity. -/
def State.detailOf (s : State) (x u : Nat) : Word :=
  match srcDetail x u with
  | none => 0#32
  | some a =>
    let v := s.rd a
    if a = rSvcChLoopLo ∨ a = rSvcChHostpendLo then v
    else v ||| (s.liveAt a).setWidth 32

/-- Whether source events of a unit are flagged INJECTED now (R556). -/
def State.injNow (s : State) (c u : Nat) : Bool :=
  decide (s.now < Map.get (fun _ => 0) s.aud.inj (c * 64 + u))

/-- Source `x` asserts, raised by unit `u` of its cluster, with a lineage (R21, R531): the Auditor receives it, and
the Clearing House on every channel that names it. Sources of an absent, disabled or fenced unit and reserved sources
never assert (R3, R38, R71, R572). -/
def State.raiseLin (s : State) (x u : Nat) (lin : BitVec 64) : State :=
  if srcReserved x || !s.unitLive (srcCluster x) u then s
  else
    let e : EvRec := ⟨x, u, s.detailOf x u, s.injNow (srcCluster x) u, s.now / 5⟩
    let s1 : State := { s with aud := { s.aud with q := s.aud.q ++ [e] } }
    (s.chansOf x).foldl (fun t n => t.toChannel n lin) s1

/-- Source `x` asserts with lineage 0. -/
def State.raise (s : State) (x u : Nat) : State := s.raiseLin x u 0#64

/-- STATE_VIOLATION of a write at BAR2 address `a` (R88, R90): source 0x004, the count, and the address of the first
since the count was last read. -/
def State.violation (s : State) (a : Nat) : State :=
  let n := s.fld rDevSvCnt 0 16
  let s1 := if n = 0 then s.setFld rDevSvLog 0 26 a else s
  (s1.setFld rDevSvCnt 0 16 (min (n + 1) 0xFFFF)).raise 0x004 0

/-- LOAD_ERROR: DEV_CFG_ERR takes the failure and source 0x005 is raised (R90, R91). -/
def State.loadError (s : State) (err : Word) : State := (s.wr rDevCfgErr err).raise 0x005 0

/-! ### Time -/

/-- Nanoseconds per second. -/
def nsPerSec : Nat := 1000000000

/-- Total nanoseconds of a Mint value (R469). -/
def Mint.total (m : Mint) : Nat := m.sec * nsPerSec + m.ns

/-- A Mint time as the 12 bytes of T_EXPO (R265): fraction, nanoseconds, seconds. -/
def Mint.bytes (m : Mint) : List Byte :=
  leBytes 2 (m.fr / 2 ^ 28) ++ leBytes 4 m.ns ++ leBytes 6 m.sec

/-- Time units per nanosecond: 20 ps is 32,768 of them, 2^-16 ns is 25 (log entry 10). -/
def tuPerNs : Nat := 1638400

/-- A Mint value in time units. -/
def Mint.tu (m : Mint) : Nat := m.total * tuPerNs + m.fr / 2 ^ 28 * 25

/-- The Mint value of a stamp in time units, its fraction to 2^-16 ns. -/
def mintOfTu (t : Nat) : Mint :=
  let n := t / tuPerNs
  ⟨n / nsPerSec, n % nsPerSec, t % tuPerNs / 25 * 2 ^ 28⟩

/-- Whether the Mint can be used: unit 1 of NET is not fenced (R41). -/
def State.mintUp (s : State) : Bool := !s.fenced 13 1

/-- The time the Auditor puts into an entry, with its NO_MINT flag (R551, R41). -/
def State.audTime (s : State) : List Byte × Bool :=
  if s.mintUp then (s.mint.bytes, false)
  else ((Mint.mk (s.now / nsPerSec) (s.now % nsPerSec) 0).bytes, true)

/-! ### The step of CLK_PX -/

/-- CLK_PX in tenths of a cycle per nanosecond at a step (R26). -/
def pxPerNs (step : Nat) : Nat := match step with | 0 => 30 | 1 => 24 | 2 => 18 | _ => 12

/-- CLK_PX in hertz at a step (R26). -/
def pxHz (step : Nat) : Nat := pxPerNs step * 100000000

/-- The active step (R29). -/
def State.stepAct (s : State) : Nat := s.fld rDevClk 0 2

/-- The slowest of the three demands (R27). -/
def State.stepDemand (s : State) : Nat :=
  max (s.fld rDevClk 4 2) (max (s.fld rDevClk 2 2) (s.fld rDevClk 6 2))

/-- The die is powered: from power-good until the rails fall. -/
def State.powered (s : State) : Bool := s.pwr.phase != .off && s.pwr.phase != .starting

/-- The clocks of the CLK_PX clusters stand: PS2 to PS4 (R462), the safe state's last row (R549), before power-good. -/
def State.pxStopped (s : State) : Bool :=
  decide (2 ≤ s.fld rHstPwr 0 3) || s.aud.safe == 3 || s.pwr.phase == .off || s.pwr.phase == .starting

/-- Total of a per-key count list. -/
def total (l : List (Nat × Nat)) : Nat := l.foldl (fun n p => n + p.2) 0

/-- Add to a per-key count. -/
def addAt (l : List (Nat × Nat)) (k n : Nat) : List (Nat × Nat) :=
  Map.set (fun _ => 0) l k (Map.get (fun _ => 0) l k + n)

/-- Take one from a per-key count. -/
def subAt (l : List (Nat × Nat)) (k : Nat) : List (Nat × Nat) :=
  Map.set (fun _ => 0) l k (Map.get (fun _ => 0) l k - 1)

/-! ### Bytes of a sparse memory -/

/-- What an unlisted byte reads as (log entries 3 and 4). -/
def byteDefault : Nat → Byte := fun _ => 0#8

/-- `n` bytes of a sparse memory from address `a`. -/
def bytesAt (m : List Host.Cell) (a : Nat) : Nat → List Byte
  | 0 => []
  | n + 1 => Map.get byteDefault m a :: bytesAt m (a + 1) n

/-- Write bytes into a sparse memory from address `a`. -/
def putBytes (m : List Host.Cell) (a : Nat) : List Byte → List Host.Cell
  | [] => m
  | b :: bs => putBytes (Map.set byteDefault m a b) (a + 1) bs

/-- Apply `f` over a list from the left. -/
def State.forEach {α : Type} (s : State) (l : List α) (f : State → α → State) : State := l.foldl f s

end Sys2Proof.Machine
end

