-- ==== Sys2Proof/Machine/HostBase.lean ====
section
/-! DEFINITION. What other units need of the host interface (16): posting completions, Command Sequence Errors and
asynchronous events. -/

namespace Sys2Proof.Machine

open Sys2Proof

/-- Replace HST. -/
def State.setHst (s : State) (h : Hst) : State := { s with hst := h }

/-- What a word of the MSI-X table holds until it is written: every vector is masked (log entry 34). -/
def mxDefault (k : Nat) : Word := if k % 4 = 3 then 1#32 else 0#32

/-- A vector is masked. -/
def State.mxMasked (s : State) (v : Nat) : Bool := (Map.get mxDefault s.hst.mxTab (4 * v + 3)).getLsbD 0

/-- An MSI-X message leaves the endpoint (R443, R553); one of a masked vector becomes pending. -/
def State.msix (s : State) (v : Nat) : State :=
  if s.mxMasked v then
    if s.hst.mxPend.contains v then s else s.setHst { s.hst with mxPend := s.hst.mxPend ++ [v] }
  else { s with aud := { s.aud with msix := s.aud.msix ++ [v] } }

/-- A write of a word of the MSI-X table; a vector that is unmasked sends what it holds pending. -/
def State.mxWrite (s : State) (k : Nat) (w : Word) : State :=
  let x := if k % 4 = 3 then w &&& 1#32 else if k % 4 = 0 then w &&& 0xFFFFFFFC#32 else w
  let s1 := s.setHst { s.hst with mxTab := Map.set mxDefault s.hst.mxTab k x }
  if s.hst.mxPend.contains (k / 4) && !s1.mxMasked (k / 4) then
    (s1.setHst { s1.hst with mxPend := s1.hst.mxPend.filter (· != k / 4) }).msix (k / 4)
  else s1

/-- The submission queue `q`; none where it does not exist. -/
def State.sq (s : State) (q : Nat) : Option Sq := Map.get (fun _ => none) s.hst.sqs q

/-- The completion queue `q`. -/
def State.cq (s : State) (q : Nat) : Option Cq := Map.get (fun _ => none) s.hst.cqs q

/-- Put a submission queue. -/
def State.setSq (s : State) (q : Nat) (v : Option Sq) : State :=
  s.setHst { s.hst with sqs := Map.set (fun _ => none) s.hst.sqs q v }

/-- Put a completion queue. -/
def State.setCq (s : State) (q : Nat) (v : Option Cq) : State :=
  s.setHst { s.hst with cqs := Map.set (fun _ => none) s.hst.cqs q v }

/-- HST_TELLER.OUTSTANDING: commands started and not completed (R467). -/
def State.syncTeller (s : State) : State :=
  s.setFld rHstTeller 0 16 (min 0xFFFF (s.hst.cmds.countP (fun c => c.st != 0)))

/-- Put HST_TELLER.STATE: 0 DISABLED, 1 RUNNING, 2 PAUSED, 3 SHUTDOWN, 4 FATAL (R467). -/
def State.setTeller (s : State) (n : Nat) : State := s.setFld rHstTeller 28 4 n

/-- The Teller pauses for an activation, or runs on (R457). -/
def State.pauseTeller (s : State) : State :=
  if s.fld rHstTeller 28 4 = 1 then (s.setTeller 2).raise 0x0EA 2 else s
def State.resumeTeller (s : State) : State := if s.fld rHstTeller 28 4 = 2 then s.setTeller 1 else s

/-- The outstanding command of a queue and identifier. -/
def State.ncmd (s : State) (q : Nat) (cid : BitVec 16) : Option NCmd :=
  s.hst.cmds.find? (fun c => c.q == q && c.cid == cid)

/-- Change it. -/
def State.modNcmd (s : State) (q : Nat) (cid : BitVec 16) (f : NCmd → NCmd) : State :=
  (s.setHst { s.hst with cmds := s.hst.cmds.map (fun c => if c.q = q ∧ c.cid = cid then f c else c) }).syncTeller

/-- Status values: status code type * 256 + status code. -/
def stOk : Nat := 0x000
def stOpcode : Nat := 0x001
def stField : Nat := 0x002
def stTransfer : Nat := 0x004
def stPowerLoss : Nat := 0x005
def stNamespace : Nat := 0x00B
def stSequence : Nat := 0x00C
def stNotReady : Nat := 0x082
def stLba : Nat := 0x080
def stCqInvalid : Nat := 0x100
def stQueueId : Nat := 0x101
def stQueueSize : Nat := 0x102
def stAerLimit : Nat := 0x105
def stFwSlot : Nat := 0x106
def stFwImage : Nat := 0x107
def stVector : Nat := 0x108
def stLogPage : Nat := 0x109
def stFwProhibited : Nat := 0x113
def stOverlap : Nat := 0x114
def stReadOnly : Nat := 0x282
def stUnrecovered : Nat := 0x281

/-- A command ends: its completion goes to the completion queue of its submission queue, and the queue's vector is
signalled (R443). -/
def State.complete (s : State) (q : Nat) (cid : BitVec 16) (status : Nat) (dnr : Bool) (dw0 : Word) : State :=
  match s.ncmd q cid, s.sq q with
  | some _, some sq =>
    let s1 := (s.setHst { s.hst with cmds := s.hst.cmds.filter (fun c => !(c.q == q && c.cid == cid)) }).syncTeller
    match s1.cq sq.cq with
    | none => s1
    | some c =>
      let e : Cpl := ⟨q, cid, sq.head, status, dnr, dw0, c.phase⟩
      let wrap := decide (c.size ≤ c.tail + 1)
      let c1 := { c with tail := if wrap then 0 else c.tail + 1, phase := if wrap then !c.phase else c.phase }
      let s2 := (s1.setHst { s1.hst with cpl := s1.hst.cpl ++ [e] }).setCq sq.cq (some c1)
      if c.ien then s2.msix c.vec else s2
  | _, _ => s

/-- Completion with success. -/
def State.completeOk (s : State) (q : Nat) (cid : BitVec 16) : State := s.complete q cid stOk false 0#32

/-- Command Sequence Error with a detail code (R458). -/
def State.seqError (s : State) (q : Nat) (cid : BitVec 16) (detail : Nat) : State :=
  let s1 := s.wr rHstCseLast (BitVec.ofNat 32 (detail * 2 ^ 16 + q))
  ((s1.count rHstCse).raise 0x0E7 2).complete q cid stSequence true (BitVec.ofNat 32 detail)

/-- Data for the host. -/
def State.toHost (s : State) (q : Nat) (cid : BitVec 16) (d : List Byte) : State :=
  s.setHst { s.hst with dma := s.hst.dma ++ [(q, cid, d)] }

/-- An outstanding Asynchronous Event Request. -/
def State.aerCmd (s : State) : Option NCmd :=
  s.hst.cmds.find? (fun c => c.q == 0 && c.st == 3 && c.sqe.getD 0 0#8 == 0x0C#8)

/-- An asynchronous event is posted, or waits for a request (R461). -/
def State.postAer (s : State) (dw0 : Nat) : State :=
  match s.aerCmd with
  | some c => s.complete 0 c.cid stOk false (BitVec.ofNat 32 dw0)
  | none => s.setHst { s.hst with aer := s.hst.aer ++ [dw0] }

/-- R461: the events of the controller, under the mask of Set Features Asynchronous Event Configuration. Temperature
threshold: SMART / Health, log page 0x02. -/
def State.aerTemp (s : State) : State := if s.hst.aec.getLsbD 1 then s.postAer 0x020101 else s

/-- Namespace Attribute Changed, log page 0x04. -/
def State.aerNs (s : State) : State := if s.hst.aec.getLsbD 8 then s.postAer 0x040002 else s

/-- Firmware Activation Starting. -/
def State.aerFw (s : State) : State := if s.hst.aec.getLsbD 9 then s.postAer 0x000102 else s

/-- A SEVERE or FATAL fault was logged: log page 0xC0. -/
def State.aerFault (s : State) : State := s.postAer 0xC00007

end Sys2Proof.Machine
end

