-- ==== Sys2Proof/Machine/Float.lean ====
section
/-! DEFINITION. The arithmetic of the pixel clusters (R287): IEEE 754 binary32 rounded to nearest even, subnormals as zero,
a NaN result as +0.0, an infinite result as the largest finite value. Conversions to integers, fixed point, binary16 and
binary64 precision stand here too. A result is tested for being subnormal after rounding (DEDUCED, log entry 19). -/

namespace Sys2Proof.Machine

/-- A decoded number: finite (m * 2^e with a sign), infinite, or not a number. -/
inductive Fp where
  | fin (neg : Bool) (m : Nat) (e : Int)
  | inf (neg : Bool)
  | nan
  deriving DecidableEq, Repr

/-- Decode a binary32; subnormals read as zero. -/
def fdec (w : Word) : Fp :=
  let neg := w.getLsbD 31
  let x := fget w 23 8
  let f := fget w 0 23
  if x = 0 then .fin neg 0 0
  else if x = 255 then (if f = 0 then .inf neg else .nan)
  else .fin neg (2 ^ 23 + f) ((x : Int) - 150)

/-- Number of bits of a natural number. -/
def bitLen (n : Nat) : Nat := if n = 0 then 0 else Nat.log2 n + 1

/-- Round m * 2^e (with `sticky` for a positive rest below it) to `p` bits, ties to even. -/
def roundTo (p m : Nat) (e : Int) (sticky : Bool) : Nat × Int :=
  let l := bitLen m
  if l ≤ p then (m, e)
  else
    let d := l - p
    let q := m / 2 ^ d
    let r := m % 2 ^ d
    let h := 2 ^ (d - 1)
    let up := h < r ∨ (r = h ∧ (sticky ∨ q % 2 = 1))
    (if up then q + 1 else q, e + d)

/-- Encode a rounded value as binary32. -/
def fenc (neg : Bool) (m : Nat) (e : Int) (sticky : Bool) : Word :=
  let s : Nat := if neg then 2 ^ 31 else 0
  if m = 0 then BitVec.ofNat 32 s
  else
    let r := roundTo 24 m e sticky
    let l := bitLen r.1
    let x := r.2 + l - 1 + 127
    let frac := if l ≤ 24 then r.1 * 2 ^ (24 - l) else r.1 / 2 ^ (l - 24)
    if 255 ≤ x then BitVec.ofNat 32 (s + 0x7F7FFFFF)
    else if x ≤ 0 then BitVec.ofNat 32 s
    else BitVec.ofNat 32 (s + x.toNat * 2 ^ 23 + (frac - 2 ^ 23))

/-- A result that is infinite or not a number (R287). -/
def finf (neg : Bool) : Word := if neg then 0xFF7FFFFF#32 else 0x7F7FFFFF#32

/-- The exact sum of two finite numbers, as an integer at the lower exponent. -/
def fsumInt (n1 : Bool) (m1 : Nat) (e1 : Int) (n2 : Bool) (m2 : Nat) (e2 : Int) : Int × Int :=
  let e := min e1 e2
  let a : Int := (m1 * 2 ^ (e1 - e).toNat : Nat)
  let b : Int := (m2 * 2 ^ (e2 - e).toNat : Nat)
  ((if n1 then -a else a) + (if n2 then -b else b), e)

/-- Addition. -/
def fadd (a b : Word) : Word :=
  match fdec a, fdec b with
  | .nan, _ => 0#32
  | _, .nan => 0#32
  | .inf x, .inf y => if x = y then finf x else 0#32
  | .inf x, _ => finf x
  | _, .inf y => finf y
  | .fin n1 m1 e1, .fin n2 m2 e2 =>
    if m1 = 0 ∧ m2 = 0 then (if n1 && n2 then 0x80000000#32 else 0#32)
    else
      let r := fsumInt n1 m1 e1 n2 m2 e2
      fenc (decide (r.1 < 0)) r.1.natAbs r.2 false

/-- The negated value. -/
def fneg (a : Word) : Word := a ^^^ 0x80000000#32

/-- Subtraction. -/
def fsub (a b : Word) : Word := fadd a (fneg b)

/-- The absolute value. -/
def fabs (a : Word) : Word := a &&& 0x7FFFFFFF#32

/-- Multiplication. -/
def fmul (a b : Word) : Word :=
  match fdec a, fdec b with
  | .nan, _ => 0#32
  | _, .nan => 0#32
  | .inf x, .inf y => finf (x != y)
  | .inf x, .fin y m _ => if m = 0 then 0#32 else finf (x != y)
  | .fin x m _, .inf y => if m = 0 then 0#32 else finf (x != y)
  | .fin x m1 e1, .fin y m2 e2 => fenc (x != y) (m1 * m2) (e1 + e2) false

/-- A quotient of natural numbers times 2^e as binary32. -/
def fratio (neg : Bool) (n d : Nat) (e : Int) : Word :=
  let k := bitLen d + 27
  fenc neg (n * 2 ^ k / d) (e - k) (n * 2 ^ k % d != 0)

/-- Division. -/
def fdiv (a b : Word) : Word :=
  match fdec a, fdec b with
  | .nan, _ => 0#32
  | _, .nan => 0#32
  | .inf _, .inf _ => 0#32
  | .inf x, .fin y _ _ => finf (x != y)
  | .fin x _ _, .inf y => if x != y then 0x80000000#32 else 0#32
  | .fin x m1 e1, .fin y m2 e2 =>
    if m2 = 0 then (if m1 = 0 then 0#32 else finf (x != y))
    else fratio (x != y) m1 m2 (e1 - e2)

/-- A natural number below 2^24 as binary32 (others are rounded). -/
def fnat (n : Nat) : Word := fenc false n 0 false

/-- An integer times 2^e as binary32. -/
def fint (i : Int) (e : Int) : Word := fenc (decide (i < 0)) i.natAbs e false

/-- Less than; false where either is not a number. -/
def flt (a b : Word) : Bool :=
  match fdec a, fdec b with
  | .nan, _ => false
  | _, .nan => false
  | .inf x, .inf y => x && !y
  | .inf x, _ => x
  | _, .inf y => !y
  | .fin n1 m1 e1, .fin n2 m2 e2 => decide ((fsumInt n1 m1 e1 (!n2) m2 e2).1 < 0)

/-- Less than or equal. -/
def fle (a b : Word) : Bool :=
  match fdec a, fdec b with
  | .nan, _ => false
  | _, .nan => false
  | _, _ => !flt b a

/-- Clamp to a range. -/
def fclamp (v lo hi : Word) : Word := if flt v lo then lo else if flt hi v then hi else v

/-- 1.0. -/
def fone : Word := 0x3F800000#32
/-- 2.0. -/
def ftwo : Word := 0x40000000#32
/-- 4.0. -/
def ffour : Word := 0x40800000#32

/-- The largest integer not above a finite value (0 for an infinite or undefined one). -/
def ffloor (a : Word) : Int :=
  match fdec a with
  | .fin n m e =>
    let v : Int := if n then -(m : Int) else m
    if 0 ≤ e then v * 2 ^ e.toNat else v / 2 ^ (-e).toNat
  | _ => 0

/-- The exact value in units of 2^-`k`, rounded to nearest, ties to even; an infinite value as its sign times 2^(k+64). -/
def ffix (a : Word) (k : Nat) : Int :=
  match fdec a with
  | .fin n m e =>
    let x := e + k
    let q : Nat :=
      if 0 ≤ x then m * 2 ^ x.toNat
      else
        let d := 2 ^ (-x).toNat
        let q := m / d
        if d < 2 * (m % d) ∨ (2 * (m % d) = d ∧ q % 2 = 1) then q + 1 else q
    if n then -(q : Int) else q
  | .inf n => if n then -(2 ^ (k + 64)) else 2 ^ (k + 64)
  | .nan => 0

/-- Rounded to an integer, ties to even. -/
def fround (a : Word) : Int := ffix a 0

/-- A positive finite binary32 (R294). -/
def fposFinite (a : Word) : Bool :=
  match fdec a with
  | .fin n m _ => !n && decide (0 < m)
  | _ => false

/-- binary16 of a binary32, rounded to nearest even, overflow to ±65,504 (R300, R302). -/
def toHalf (a : Word) : BitVec 16 :=
  let s : Nat := if a.getLsbD 31 then 0x8000 else 0
  match fdec a with
  | .nan => 0#16
  | .inf _ => BitVec.ofNat 16 (s + 0x7BFF)
  | .fin _ m e =>
    if m = 0 then BitVec.ofNat 16 s
    else
      let r := roundTo 11 m e false
      let x := r.2 + bitLen r.1 - 1
      if 16 ≤ x then BitVec.ofNat 16 (s + 0x7BFF)
      else if -14 ≤ x then
        let l := bitLen r.1
        let f := if l ≤ 11 then r.1 * 2 ^ (11 - l) else r.1 / 2 ^ (l - 11)
        BitVec.ofNat 16 (s + (x + 15).toNat * 1024 + (f - 1024))
      else BitVec.ofNat 16 (s + (ffix (fabs a) 24).toNat)

/-! ### Fixed point with 160 fraction bits, for the transfer formulas (R296) -/

/-- 1.0. -/
def fxOne : Int := 2 ^ 160

/-- A quotient of integers. -/
def fxRat (a b : Int) : Int := a * fxOne / b

/-- A significand and exponent; bits below the unit are dropped. -/
def fxOf (m : Nat) (e : Int) : Int :=
  if 0 ≤ e + 160 then m * 2 ^ (e + 160).toNat else (m / 2 ^ (-(e + 160)).toNat : Nat)

/-- Product and quotient. -/
def fxMul (a b : Int) : Int := a * b / fxOne
def fxDiv (a b : Int) : Int := a * fxOne / b

/-- 2 artanh(z) for |z| ≤ 1/3: 2 (z + z³/3 + z⁵/5 + …). -/
def fxArtanh2 (z : Int) : Int :=
  let zz := fxMul z z
  ((List.range 56).foldl (fun (a : Int × Int) k => (fxMul a.1 zz, a.2 + 2 * a.1 / (2 * k + 1))) (z, 0)).2

/-- ln 2. -/
def fxLn2 : Int := fxArtanh2 (fxOne / 3)

/-- ln(m × 2^e) for m above 0: the significand brought into [1, 2). -/
def fxLn (m : Nat) (e : Int) : Int :=
  let l : Int := (bitLen m : Int) - 1
  let y := fxOf m (-l)
  fxArtanh2 (fxDiv (y - fxOne) (y + fxOne)) + (e + l) * fxLn2

/-- exp(x): x = n ln 2 + r, and the series of exp(r). -/
def fxExp (x : Int) : Int :=
  let n := x / fxLn2
  let r := x - n * fxLn2
  let v := ((List.range 48).foldl (fun (a : Int × Int) k => (fxMul a.1 r / (k + 1), a.2 + a.1)) (fxOne, 0)).2
  if 0 ≤ n then v * 2 ^ n.toNat else v / 2 ^ (-n).toNat

/-- (m × 2^e)^p for m above 0. -/
def fxPow (m : Nat) (e : Int) (p : Int) : Int := if m = 0 then 0 else fxExp (fxMul p (fxLn m e))

/-- A value that is not negative, moved by `d` − 2 ulp; subnormals are zero. -/
def fmoved (w : Word) (d : Fin 5) : Word :=
  let v := w.toNat + d.val - 2
  if w.getLsbD 31 || v < 0x00800000 then 0#32 else BitVec.ofNat 32 (min v 0x7F7FFFFF)

/-! ### binary64 precision, for metrics formed once from exact sums (R310) -/

/-- A number rounded to 53 bits: sign, significand, exponent. -/
abbrev Dbl := Bool × Nat × Int

/-- Round to binary64 precision. -/
def dround (neg : Bool) (m : Nat) (e : Int) (sticky : Bool) : Dbl :=
  let r := roundTo 53 m e sticky
  (neg, r.1, r.2)

/-- An exact integer times 2^e in binary64. -/
def dint (i : Int) (e : Int) : Dbl := dround (decide (i < 0)) i.natAbs e false

/-- A binary32 in binary64. -/
def dofF (a : Word) : Dbl :=
  match fdec a with
  | .fin n m e => (n, m, e)
  | .inf n => (n, 2 ^ 24 - 1, 104)
  | .nan => (false, 0, 0)

/-- Product in binary64. -/
def dmul (a b : Dbl) : Dbl := dround (a.1 != b.1) (a.2.1 * b.2.1) (a.2.2 + b.2.2) false

/-- Sum in binary64. -/
def dadd (a b : Dbl) : Dbl :=
  let r := fsumInt a.1 a.2.1 a.2.2 b.1 b.2.1 b.2.2
  dround (decide (r.1 < 0)) r.1.natAbs r.2 false

/-- Quotient by a natural number in binary64. -/
def ddivN (a : Dbl) (n : Nat) : Dbl :=
  if n = 0 then (false, 0, 0)
  else
    let k := bitLen n + 56
    dround a.1 (a.2.1 * 2 ^ k / n) (a.2.2 - k) (a.2.1 * 2 ^ k % n != 0)

/-- Rounded once to binary32. -/
def dtoF (a : Dbl) : Word := fenc a.1 a.2.1 a.2.2 false

end Sys2Proof.Machine
end

