-- ==== Sys2Proof/Machine/Crypto.lean ====
section
/-! DEFINITION. The cryptographic functions of the Vault and of attestation (R95): SHA-384, AES-256-GCM and ECDSA on
P-384, as FIPS 180-4, FIPS 197, SP 800-38D and FIPS 186-5 define them (PRESUMED, log entry 16). -/

namespace Sys2Proof.Machine

open Sys2Proof

/-! ### SHA-384 -/

/-- Round constants 0 to 7. -/
def sha384K0 : List (BitVec 64) := [
  0x428a2f98d728ae22#64, 0x7137449123ef65cd#64, 0xb5c0fbcfec4d3b2f#64, 0xe9b5dba58189dbbc#64,
  0x3956c25bf348b538#64, 0x59f111f1b605d019#64, 0x923f82a4af194f9b#64, 0xab1c5ed5da6d8118#64]

/-- Round constants 8 to 15. -/
def sha384K1 : List (BitVec 64) := [
  0xd807aa98a3030242#64, 0x12835b0145706fbe#64, 0x243185be4ee4b28c#64, 0x550c7dc3d5ffb4e2#64,
  0x72be5d74f27b896f#64, 0x80deb1fe3b1696b1#64, 0x9bdc06a725c71235#64, 0xc19bf174cf692694#64]

/-- Round constants 16 to 23. -/
def sha384K2 : List (BitVec 64) := [
  0xe49b69c19ef14ad2#64, 0xefbe4786384f25e3#64, 0x0fc19dc68b8cd5b5#64, 0x240ca1cc77ac9c65#64,
  0x2de92c6f592b0275#64, 0x4a7484aa6ea6e483#64, 0x5cb0a9dcbd41fbd4#64, 0x76f988da831153b5#64]

/-- Round constants 24 to 31. -/
def sha384K3 : List (BitVec 64) := [
  0x983e5152ee66dfab#64, 0xa831c66d2db43210#64, 0xb00327c898fb213f#64, 0xbf597fc7beef0ee4#64,
  0xc6e00bf33da88fc2#64, 0xd5a79147930aa725#64, 0x06ca6351e003826f#64, 0x142929670a0e6e70#64]

/-- Round constants 32 to 39. -/
def sha384K4 : List (BitVec 64) := [
  0x27b70a8546d22ffc#64, 0x2e1b21385c26c926#64, 0x4d2c6dfc5ac42aed#64, 0x53380d139d95b3df#64,
  0x650a73548baf63de#64, 0x766a0abb3c77b2a8#64, 0x81c2c92e47edaee6#64, 0x92722c851482353b#64]

/-- Round constants 40 to 47. -/
def sha384K5 : List (BitVec 64) := [
  0xa2bfe8a14cf10364#64, 0xa81a664bbc423001#64, 0xc24b8b70d0f89791#64, 0xc76c51a30654be30#64,
  0xd192e819d6ef5218#64, 0xd69906245565a910#64, 0xf40e35855771202a#64, 0x106aa07032bbd1b8#64]

/-- Round constants 48 to 55. -/
def sha384K6 : List (BitVec 64) := [
  0x19a4c116b8d2d0c8#64, 0x1e376c085141ab53#64, 0x2748774cdf8eeb99#64, 0x34b0bcb5e19b48a8#64,
  0x391c0cb3c5c95a63#64, 0x4ed8aa4ae3418acb#64, 0x5b9cca4f7763e373#64, 0x682e6ff3d6b2b8a3#64]

/-- Round constants 56 to 63. -/
def sha384K7 : List (BitVec 64) := [
  0x748f82ee5defb2fc#64, 0x78a5636f43172f60#64, 0x84c87814a1f0ab72#64, 0x8cc702081a6439ec#64,
  0x90befffa23631e28#64, 0xa4506cebde82bde9#64, 0xbef9a3f7b2c67915#64, 0xc67178f2e372532b#64]

/-- Round constants 64 to 71. -/
def sha384K8 : List (BitVec 64) := [
  0xca273eceea26619c#64, 0xd186b8c721c0c207#64, 0xeada7dd6cde0eb1e#64, 0xf57d4f7fee6ed178#64,
  0x06f067aa72176fba#64, 0x0a637dc5a2c898a6#64, 0x113f9804bef90dae#64, 0x1b710b35131c471b#64]

/-- Round constants 72 to 79. -/
def sha384K9 : List (BitVec 64) := [
  0x28db77f523047d84#64, 0x32caab7b40c72493#64, 0x3c9ebe0a15c9bebc#64, 0x431d67c49c100d4c#64,
  0x4cc5d4becb3e42b6#64, 0x597f299cfc657e2a#64, 0x5fcb6fab3ad6faec#64, 0x6c44198c4a475817#64]

/-- The 80 round constants. -/
def sha384K : List (BitVec 64) :=
  sha384K0 ++ sha384K1 ++ sha384K2 ++ sha384K3 ++ sha384K4 ++ sha384K5 ++ sha384K6 ++ sha384K7 ++ sha384K8 ++ sha384K9

/-- The initial hash value. -/
def sha384Iv : List (BitVec 64) := [
  0xcbbb9d5dc1059ed8#64, 0x629a292a367cd507#64, 0x9159015a3070dd17#64, 0x152fecd8f70e5939#64,
  0x67332667ffc00b31#64, 0x8eb44a8768581511#64, 0xdb0c2e0d64f98fa7#64, 0x47b5481dbefa4fa4#64]

/-- The message padded to a multiple of 128 bytes. -/
def sha384Pad (m : List Byte) : List Byte :=
  let z := (239 - m.length % 128) % 128
  m ++ 0x80#8 :: List.replicate z 0#8 ++ beBytes 16 (8 * m.length)

/-- The next word of the message schedule, from the last sixteen (newest first). -/
def sha384Next (w : List (BitVec 64)) : BitVec 64 :=
  let a := w.getD 1 0#64
  let b := w.getD 14 0#64
  let s1 := a.rotateRight 19 ^^^ a.rotateRight 61 ^^^ (a >>> 6)
  let s0 := b.rotateRight 1 ^^^ b.rotateRight 8 ^^^ (b >>> 7)
  s1 + w.getD 6 0#64 + s0 + w.getD 15 0#64

/-- The working variables. -/
structure ShaVars where
  a : BitVec 64
  b : BitVec 64
  c : BitVec 64
  d : BitVec 64
  e : BitVec 64
  f : BitVec 64
  g : BitVec 64
  h : BitVec 64
  deriving DecidableEq, Repr

/-- One round. -/
def shaRound (v : ShaVars) (k w : BitVec 64) : ShaVars :=
  let s1 := v.e.rotateRight 14 ^^^ v.e.rotateRight 18 ^^^ v.e.rotateRight 41
  let ch := (v.e &&& v.f) ^^^ (~~~ v.e &&& v.g)
  let t1 := v.h + s1 + ch + k + w
  let s0 := v.a.rotateRight 28 ^^^ v.a.rotateRight 34 ^^^ v.a.rotateRight 39
  let maj := (v.a &&& v.b) ^^^ (v.a &&& v.c) ^^^ (v.b &&& v.c)
  ⟨t1 + (s0 + maj), v.a, v.b, v.c, v.d + t1, v.e, v.f, v.g⟩

/-- One block of 128 bytes. -/
def shaBlock (h : List (BitVec 64)) (blk : List Byte) : List (BitVec 64) :=
  let w0 := (List.range 16).map (fun i => BitVec.ofNat 64 (beNat (slice blk (8 * i) 8)))
  let ws := ((List.range 64).foldl (fun (w : List (BitVec 64)) _ => sha384Next w :: w) w0.reverse).reverse
  let v0 : ShaVars := ⟨h.getD 0 0, h.getD 1 0, h.getD 2 0, h.getD 3 0, h.getD 4 0, h.getD 5 0, h.getD 6 0, h.getD 7 0⟩
  let v := (sha384K.zip ws).foldl (fun v p => shaRound v p.1 p.2) v0
  [h.getD 0 0 + v.a, h.getD 1 0 + v.b, h.getD 2 0 + v.c, h.getD 3 0 + v.d,
   h.getD 4 0 + v.e, h.getD 5 0 + v.f, h.getD 6 0 + v.g, h.getD 7 0 + v.h]

/-- Blocks of a padded message, in order. -/
def shaBlocks (h : List (BitVec 64)) (m : List Byte) : Nat → List (BitVec 64)
  | 0 => h
  | n + 1 => shaBlocks (shaBlock h (m.take 128)) (m.drop 128) n

/-- SHA-384: 48 bytes. -/
def sha384 (m : List Byte) : List Byte :=
  let p := sha384Pad m
  ((shaBlocks sha384Iv p (p.length / 128)).take 6).flatMap (fun w => beBytes 8 w.toNat)

/-! ### AES-256 -/

/-- Product in GF(2^8) with x^8 + x^4 + x^3 + x + 1. -/
def aesMul (a b : Nat) : Nat :=
  ((List.range 8).foldl (fun (r : Nat × Nat) i =>
    (if b.testBit i then r.1 ^^^ r.2 else r.1,
     if 128 ≤ r.2 then (r.2 * 2 % 256) ^^^ 0x1B else r.2 * 2)) (0, a)).1

/-- The S-box: inverse, then the affine map. -/
def aesSbox (b : Byte) : Byte :=
  let n := b.toNat
  let inv := ((List.range 7).foldl (fun (r : Nat × Nat) _ =>
    let sq := aesMul r.2 r.2
    (aesMul r.1 sq, sq)) (1, n)).1
  let v := BitVec.ofNat 8 (if n = 0 then 0 else inv)
  v ^^^ v.rotateLeft 1 ^^^ v.rotateLeft 2 ^^^ v.rotateLeft 3 ^^^ v.rotateLeft 4 ^^^ 0x63#8

/-- Byte-wise exclusive or. -/
def xorBytes (a b : List Byte) : List Byte := List.zipWith (· ^^^ ·) a b

/-- The 60 words of the AES-256 key schedule, oldest first. -/
def aesKeyWords (key : List Byte) : List (List Byte) :=
  let w0 := (List.range 8).map (fun i => slice key (4 * i) 4)
  (List.range 52).foldl (fun (w : List (List Byte)) k =>
    let i := k + 8
    let t := w.getD (i - 1) []
    let t' :=
      if i % 8 = 0 then
        xorBytes ((t.drop 1 ++ t.take 1).map aesSbox) [BitVec.ofNat 8 (2 ^ (i / 8 - 1)), 0#8, 0#8, 0#8]
      else if i % 8 = 4 then t.map aesSbox else t
    w ++ [xorBytes (w.getD (i - 8) []) t']) w0

/-- ShiftRows on a block in column order. -/
def aesShift (b : List Byte) : List Byte :=
  (List.range 16).map (fun i => b.getD ((i + 4 * (i % 4)) % 16) 0#8)

/-- MixColumns. -/
def aesMix (b : List Byte) : List Byte :=
  (List.range 16).map fun i =>
    let c := i / 4 * 4
    let at_ := fun k => (b.getD (c + (i + k) % 4) 0#8).toNat
    BitVec.ofNat 8 (aesMul (at_ 0) 2 ^^^ aesMul (at_ 1) 3 ^^^ at_ 2 ^^^ at_ 3)

/-- AES-256 encryption of one block. -/
def aesBlock (key blk : List Byte) : List Byte :=
  let w := aesKeyWords key
  let rk := fun r => (slice w (4 * r) 4).flatten
  let b := (List.range 13).foldl (fun b r => xorBytes (aesMix (aesShift (b.map aesSbox))) (rk (r + 1)))
    (xorBytes blk (rk 0))
  xorBytes (aesShift (b.map aesSbox)) (rk 14)

/-! ### GCM -/

/-- Product in GF(2^128) with GCM's bit order (bit 127 of the number is the leftmost bit). -/
def gcmMul (x y : BitVec 128) : BitVec 128 :=
  ((List.range 128).foldl (fun (r : BitVec 128 × BitVec 128) i =>
    (if x.getLsbD (127 - i) then r.1 ^^^ r.2 else r.1,
     if r.2.getLsbD 0 then (r.2 >>> 1) ^^^ (0xE1#128 <<< 120) else r.2 >>> 1)) (0#128, y)).1

/-- Zero bytes up to a multiple of 16. -/
def pad16 (b : List Byte) : List Byte := b ++ List.replicate ((16 - b.length % 16) % 16) 0#8

/-- GHASH over whole blocks. -/
def ghash (h : BitVec 128) (b : List Byte) : BitVec 128 :=
  (List.range (b.length / 16)).foldl
    (fun y i => gcmMul (y ^^^ BitVec.ofNat 128 (beNat (slice b (16 * i) 16))) h) 0#128

/-- The key stream XORed over data, counter starting at 2, for a 96-bit nonce. -/
def gcmCtr (key iv data : List Byte) : List Byte :=
  (List.range (ceilDiv data.length 16)).flatMap fun i =>
    xorBytes (slice data (16 * i) 16) (aesBlock key (iv ++ beBytes 4 (i + 2)))

/-- The tag over additional data and ciphertext. -/
def gcmTag (key iv aad ct : List Byte) : List Byte :=
  let h := BitVec.ofNat 128 (beNat (aesBlock key (List.replicate 16 0#8)))
  let s := ghash h (pad16 aad ++ pad16 ct ++ beBytes 8 (8 * aad.length) ++ beBytes 8 (8 * ct.length))
  xorBytes (beBytes 16 s.toNat) (aesBlock key (iv ++ beBytes 4 1))

/-- AES-256-GCM decryption: the plaintext, or none where the tag differs. -/
def gcmOpen (key iv aad ct tag : List Byte) : Option (List Byte) :=
  if gcmTag key iv aad ct = tag then some (gcmCtr key iv ct) else none

/-! ### ECDSA on P-384 -/

/-- The field prime. -/
def p384 : Nat := 2 ^ 384 - 2 ^ 128 - 2 ^ 96 + 2 ^ 32 - 1
/-- The coefficient b; a is -3. -/
def p384B : Nat := 0xb3312fa7e23ee7e4988e056be3f82d19181d9c6efe8141120314088f5013875ac656398d8a2ed19d2a85c8edd3ec2aef
/-- The base point. -/
def p384Gx : Nat := 0xaa87ca22be8b05378eb1c71ef320ad746e1d3b628ba79b9859f741e082542a385502f25dbf55296c3a545e3872760ab7
/-- The base point. -/
def p384Gy : Nat := 0x3617de4a96262c6f5d9e98bf9292dc29f8f41dbd289a147ce9da3113b5f0b8c00a60b1ce1d7e819d7a431d7c90ea0e5f
/-- The order of the base point. -/
def p384N : Nat := 0xffffffffffffffffffffffffffffffffffffffffffffffffc7634d81f4372ddf581a0db248b0a77aecec196accc52973

/-- A power modulo `m` of an exponent below 2^384, by squaring. -/
def powMod (m a e : Nat) : Nat :=
  ((List.range 384).foldl (fun (r : Nat × Nat) i =>
    (if e.testBit i then r.1 * r.2 % m else r.1, r.2 * r.2 % m)) (1 % m, a % m)).1

/-- The inverse modulo a prime. -/
def invMod (m a : Nat) : Nat := powMod m a (m - 2)

/-- A point; none is the point at infinity. -/
abbrev EcPt := Option (Nat × Nat)

/-- Point addition on P-384. -/
def ecAdd (p q : EcPt) : EcPt :=
  match p, q with
  | none, q => q
  | p, none => p
  | some (x1, y1), some (x2, y2) =>
    if x1 = x2 ∧ (y1 + y2) % p384 = 0 then none
    else
      let l := if x1 = x2 then (3 * x1 * x1 + (p384 - 3)) * invMod p384 (2 * y1) % p384
        else (y2 + (p384 - y1)) * invMod p384 (x2 + (p384 - x1)) % p384
      let x3 := (l * l + (p384 - x1) + (p384 - x2)) % p384
      some (x3, (l * (x1 + (p384 - x3)) + (p384 - y1)) % p384)

/-- A multiple of a point. -/
def ecMul (k : Nat) (p : EcPt) : EcPt :=
  ((List.range 384).foldl (fun (r : EcPt × EcPt) i =>
    (if k.testBit i then ecAdd r.1 r.2 else r.1, ecAdd r.2 r.2)) (none, p)).1

/-- A point lies on the curve. -/
def ecValid (x y : Nat) : Bool :=
  decide (x < p384) && decide (y < p384) && (y * y % p384 == (x * x * x + (p384 - 3) * x + p384B) % p384)

/-- Verify an ECDSA signature (r, s) over a SHA-384 digest with the public key (x, y). -/
def ecdsaVerify (x y : Nat) (digest : List Byte) (r s : Nat) : Bool :=
  if r = 0 ∨ p384N ≤ r ∨ s = 0 ∨ p384N ≤ s ∨ ecValid x y = false then false
  else
    let e := beNat digest
    let w := invMod p384N s
    match ecAdd (ecMul (e * w % p384N) (some (p384Gx, p384Gy))) (ecMul (r * w % p384N) (some (x, y))) with
    | none => false
    | some (px, _) => px % p384N == r

/-- Sign a SHA-384 digest with the private key `d` and the per-signature number `k`: r and s. -/
def ecdsaSign (d : Nat) (digest : List Byte) (k : Nat) : Nat × Nat :=
  let e := beNat digest
  match ecMul (k % p384N) (some (p384Gx, p384Gy)) with
  | none => (0, 0)
  | some (px, _) =>
    let r := px % p384N
    (r, invMod p384N (k % p384N) * (e + r * d) % p384N)

/-- A key or a per-signature number in 1 to n - 1. -/
def ecScalar (k : Nat) : Nat := 1 + k % (p384N - 1)

/-- The public part of AK: the point of its private part (R96), X and Y; the private part is a number from 1 to n - 1. -/
def akPoint : Nat × Nat := (ecMul (ecScalar Config.akPrivate) (some (p384Gx, p384Gy))).getD (0, 0)

/-- X followed by Y, 96 bytes big-endian (R117). -/
def akPublic : List Byte := beBytes 48 akPoint.1 ++ beBytes 48 akPoint.2

/-- A digest signed with AK under output `k` of the DRBG (R95, R116). -/
def akSign (digest : List Byte) (k : Nat) : Nat × Nat :=
  ecdsaSign (ecScalar Config.akPrivate) digest (ecScalar (Config.drbg k))

/-- The pairwise consistency test of a signature (R99). -/
def pairwise (digest : List Byte) (sg : Nat × Nat) : Bool := ecdsaVerify akPoint.1 akPoint.2 digest sg.1 sg.2

/-! ### Check values -/

/-- A bit-serial CRC, most significant bit first, over bytes, of width `w`. -/
def crcMsb (w poly init : Nat) (bs : List Byte) : Nat :=
  bs.foldl (fun c b =>
    (List.range 8).foldl (fun (c : Nat) i =>
      let t := c.testBit (w - 1) != b.getLsbD (7 - i)
      let c2 := c * 2 % 2 ^ w
      if t then c2 ^^^ poly else c2) c) init

/-- CRC-8 with polynomial 0x07 from 0. -/
def crc8 (bs : List Byte) : Nat := crcMsb 8 0x07 0 bs

/-- A reflected 32-bit CRC with initial value and final complement of all ones. -/
def crc32r (poly : Nat) (bs : List Byte) : Nat :=
  (bs.foldl (fun c b =>
    (List.range 8).foldl (fun (c : Nat) i =>
      let t := c.testBit 0 != b.getLsbD i
      if t then (c / 2) ^^^ poly else c / 2) c) 0xFFFFFFFF) ^^^ 0xFFFFFFFF

/-- CRC-32C (Castagnoli). -/
def crc32c (bs : List Byte) : Nat := crc32r 0x82F63B78 bs

/-- CRC-32 of IEEE 802.3. -/
def crc32 (bs : List Byte) : Nat := crc32r 0xEDB88320 bs

end Sys2Proof.Machine
end

