-- ==== Sys2Proof/Machine/Rs.lean ====
section
/-! DEFINITION. Reed-Solomon decoding over GF(2^m): the outer code of the recording memory (R428) and the code of the
sensor lanes (06) are this one decoder with their own field, length and number of parity symbols. -/

namespace Sys2Proof.Machine

/-- A field GF(2^m) generated by the polynomial `poly` (with its x^m term). -/
structure Gf where
  m : Nat
  poly : Nat
  deriving DecidableEq, Repr

/-- The product of two field elements. -/
def Gf.mul (f : Gf) (a b : Nat) : Nat :=
  ((List.range f.m).foldl (fun (r : Nat × Nat) i =>
    (if b.testBit i then r.1 ^^^ r.2 else r.1,
     if (r.2 * 2).testBit f.m then (r.2 * 2) ^^^ f.poly else r.2 * 2)) (0, a)).1

/-- A power of a field element. -/
def Gf.pow (f : Gf) (a : Nat) : Nat → Nat
  | 0 => 1
  | n + 1 => f.mul a (f.pow a n)

/-- The inverse of a nonzero element: a^(2^m - 2), by squaring (0 for 0). -/
def Gf.inv (f : Gf) (a : Nat) : Nat :=
  ((List.range (f.m - 1)).foldl (fun (r : Nat × Nat) _ =>
    let sq := f.mul r.2 r.2
    (f.mul r.1 sq, sq)) (1, a)).1

/-- A power of α; negative powers by `n` mod 2^m - 1. -/
def Gf.alpha (f : Gf) (n : Nat) : Nat := f.pow 2 (n % (2 ^ f.m - 1))

/-- The value of a polynomial, lowest coefficient first. -/
def Gf.eval (f : Gf) (p : List Nat) (x : Nat) : Nat := p.foldr (fun c r => c ^^^ f.mul r x) 0

/-- The value of a word at α^j, the first symbol being the highest coefficient. -/
def Gf.syndrome (f : Gf) (w : List Nat) (j : Nat) : Nat :=
  let x := f.alpha j
  w.foldl (fun r c => f.mul r x ^^^ c) 0

/-- The state of the Berlekamp-Massey recursion. -/
structure Bm where
  c : List Nat
  b : List Nat
  l : Nat
  m : Nat
  d : Nat
  deriving DecidableEq, Repr

/-- Coefficient-wise sum of polynomials. -/
def polyAdd : List Nat → List Nat → List Nat
  | [], q => q
  | p, [] => p
  | a :: p, b :: q => (a ^^^ b) :: polyAdd p q

/-- One turn of Berlekamp-Massey at index `k` of the syndromes. -/
def Gf.bmStep (f : Gf) (syn : List Nat) (s : Bm) (k : Nat) : Bm :=
  let d := (List.range (min (k + 1) s.c.length)).foldl
    (fun r i => r ^^^ f.mul (s.c.getD i 0) (syn.getD (k - i) 0)) 0
  if d = 0 then { s with m := s.m + 1 }
  else
    let q := f.mul d (f.inv s.d)
    let c := polyAdd s.c (List.replicate s.m 0 ++ s.b.map (f.mul q))
    if 2 * s.l ≤ k then ⟨c, s.c, k + 1 - s.l, 1, d⟩ else { s with c := c, m := s.m + 1 }

/-- Bounded-distance decoding: the word with at most `t` symbols corrected and how many were, or none where no
codeword lies within `t`. -/
def Gf.decode (f : Gf) (nsyn t : Nat) (w : List Nat) : Option (List Nat × Nat) :=
  let n := w.length
  let ord := 2 ^ f.m - 1
  let syn := (List.range nsyn).map (f.syndrome w)
  if syn.all (· == 0) then some (w, 0)
  else
    let bm := (List.range nsyn).foldl (f.bmStep syn) ⟨[1], [1], 0, 1, 1⟩
    if t < bm.l then none
    else
      let pos := idxs n (fun i => f.eval bm.c (f.alpha (ord - (n - 1 - i) % ord)) == 0)
      if pos.length = bm.l then
        let omega := (List.range nsyn).map fun k =>
          (List.range (k + 1)).foldl (fun r i => r ^^^ f.mul (bm.c.getD i 0) (syn.getD (k - i) 0)) 0
        let out := pos.foldl (fun (r : List Nat) i =>
          let e := n - 1 - i
          let xi := f.alpha (ord - e % ord)
          let den := (List.range bm.c.length).foldl (fun r k =>
            if k % 2 = 1 then r ^^^ f.mul (bm.c.getD k 0) (f.pow xi (k - 1)) else r) 0
          let v := f.mul (f.alpha e) (f.mul (f.eval omega xi) (f.inv den))
          setAt r i (r.getD i 0 ^^^ v)) w
        if (List.range nsyn).all (fun j => f.syndrome out j == 0) then some (out, pos.length) else none
      else none

/-- The field of the memory's outer code: x^8 + x^4 + x^3 + x^2 + 1 (R428). -/
def gfMem : Gf := ⟨8, 0x11D⟩

/-- The field of the lane code RS(544,514): x^10 + x^3 + 1 (PRESUMED, log entry 14). -/
def gfLink : Gf := ⟨10, 0x409⟩

end Sys2Proof.Machine
end

