-- ==== Sys2Proof/Machine/Memory.lean ====
section
/-! DEFINITION. The recording memory controller (15): regions and mapping, port requests, queues and coins, Overdraft,
refresh, the outer code, scrub and self-refresh. -/

namespace Sys2Proof.Machine

open Sys2Proof

/-! ### Regions and mapping -/

/-- Region `r` is used. -/
def State.rgnEn (s : State) (r : Nat) : Bool := s.bit (rMemRgnMap r) 0

/-- The region that holds a module address (R411). -/
def State.regionOf (s : State) (a : Nat) : Option Nat :=
  (List.range 16).find? fun r =>
    s.rgnEn r && decide (s.fld (rMemRgnBase r) 0 18 ≤ a / 2 ^ 20) &&
      decide (a / 2 ^ 20 < s.fld (rMemRgnBase r) 0 18 + s.fld (rMemRgnSize r) 0 19)

/-- The set bits of a 16-bit mask, rising. -/
def maskBits (m : Nat) : List Nat := idxs 16 (fun i => m.testBit i)

/-- R412: a module address of region `r` as sub-channel and local byte address. -/
def State.mapIn (s : State) (r a : Nat) : Nat × Nat :=
  let scs := maskBits (s.fld (rMemRgnMap r) 16 16)
  let g := 2 ^ (s.fld (rMemRgnMap r) 8 4 + 8)
  let n := max scs.length 1
  let o := a - s.fld (rMemRgnBase r) 0 18 * 2 ^ 20
  let j := o / g
  (scs.getD (j % n) 0, s.fld (rMemRgnLbase r) 0 14 * 2 ^ 20 + j / n * g + o % g)

/-- A module address as sub-channel and local byte address; none in no region. -/
def State.mapAddr (s : State) (a : Nat) : Option (Nat × Nat) := (s.regionOf a).map (s.mapIn · a)

/-- R415: bank K' and row of a local byte address. -/
def State.bankRow (s : State) (loc : Nat) : Nat × Nat :=
  let l := loc / 64
  let k := l / 32 % 32
  let row := l / 1024 % 2 ^ 18
  if s.bit rMemCfg 24 then
    (k ^^^ (row % 32) ^^^ (row / 32 % 32) ^^^ (row / 1024 % 32) ^^^ (row / 2 ^ 15 % 8), row)
  else (k, row)

/-- The unit number of a sub-channel in cluster MEM (R436). -/
def scUnit (sc : Nat) : Nat := 16 + sc

/-- A sub-channel of the variant that is not fenced. -/
def State.scUp (s : State) (sc : Nat) : Bool := present s.variant 1 (scUnit sc) && !s.fenced 1 (scUnit sc)

/-- The present sub-channels. -/
def State.scs (s : State) : List Nat := idxs 16 (fun n => present s.variant 1 (scUnit n))

/-- MEM_STAT.STATE (R437). -/
def State.memState (s : State) : Nat := s.fld rMemStat 28 4

/-- The status of a request for one burst, before any decoding (R414). `early` marks a request of an NVMe command that
began data transfer before self-refresh entry (R131), which is served during entry. Before training has ended no
request is served (log entry 15). -/
def State.burstStat (s : State) (early : Bool) (a : Nat) : MStat :=
  if !(s.memState == 2 || (early && s.memState == 3)) then .notReady
  else
    match s.mapAddr a with
    | none => .range
    | some (sc, _) => if s.scUp sc then .ok else .fenced

/-- The key of a byte of the array. -/
def dramKey (sc loc : Nat) : Nat := sc * 2 ^ 34 + loc

/-- The key of a burst. -/
def flipKey (sc loc : Nat) : Nat := sc * 2 ^ 28 + loc / 64

/-- Refused bursts of one request: the count, and one event however many they are (R414). -/
def State.refuse (s : State) (n : Nat) : State :=
  if n = 0 then s else (s.countN rMemRefused n).raise 0x027 1

/-! ### Writing a burst -/

/-- SVC_AUD_INJSEL selects the checker of sub-channel `sc`, index 0 (R555). -/
def State.injSel (s : State) (sc : Nat) : Bool :=
  s.fld rSvcAudInjsel 10 4 == 1 && s.fld rSvcAudInjsel 4 6 == scUnit sc && s.fld rSvcAudInjsel 0 2 == 0

/-- The injection count of a sub-channel (R435, R555): events of the unit are flagged INJECTED while it is not 0 and for
1 ms after (R556); INJ_DONE follows the write that ends it where the Auditor selects this checker. -/
def State.setInj (s : State) (sc n : Nat) : State :=
  if n = 0 ∧ s.fld (rMemScInj sc) 16 16 = 0 then s
  else
  let till := if n = 0 then s.now + 1000000 else 2 ^ 63
  let s1 := s.setFld (rMemScInj sc) 16 16 n
  { s1 with aud := { s1.aud with inj := Map.set (fun _ => 0) s1.aud.inj (64 + scUnit sc) till } }

/-- A burst written to the array: its bytes, and its parity as R435 has it. -/
def State.putBurst (s : State) (sc loc : Nat) (bytes : List Byte) : State :=
  let inj := s.fld (rMemScInj sc) 16 16
  let f := if inj = 0 then 0 else s.fld (rMemScInj sc) 0 16
  let s0 := if inj = 0 then s else s.setInj sc (inj - 1)
  let s1 := if inj = 1 && s.injSel sc then s0.raise 0x11B 2 else s0
  { s1 with mem := { s1.mem with
      dram := putBytes s1.mem.dram (dramKey sc loc) bytes
      flip := Map.set (fun _ => 0) s1.mem.flip (flipKey sc loc) f } }

/-- Two bursts are the same burst. -/
def sameBurst (b : Burst) (sc loc : Nat) : Bool := b.sc == sc && b.loc / 64 == loc / 64

/-- Retire every queued write to one burst, oldest first: what a unit's own access to the burst finds done (R417). -/
def State.settle (s : State) (sc loc : Nat) : State :=
  let ws := s.mem.q.filter (fun b => b.write && sameBurst b sc loc)
  let s1 : State := { s with mem := { s.mem with q := s.mem.q.filter (fun b => !(b.write && sameBurst b sc loc)) } }
  ws.foldl (fun t b => t.putBurst b.sc b.loc b.data) s1

/-- Bytes `[a, a + n)` cut at burst edges: address and length of each piece. -/
def pieces (a n : Nat) : List (Nat × Nat) :=
  if n = 0 then []
  else (List.range ((a + n - 1) / 64 + 1 - a / 64)).map fun i =>
    let lo := max a ((a / 64 + i) * 64)
    (lo, min (a + n) ((a / 64 + i + 1) * 64) - lo)

/-- The worst of the statuses of a request, in the order of their listing from the last. -/
def worst (l : List MStat) : MStat :=
  if l.contains .notReady then .notReady else if l.contains .range then .range
  else if l.contains .fenced then .fenced else if l.contains .poison then .poison else .ok

/-- A unit writes bytes at a module address; the request completes (R414, R417). -/
def State.memWrite (s : State) (a : Nat) (bytes : List Byte) : State × MStat :=
  let r := (pieces a bytes.length).foldl (fun (t : State × List MStat) p =>
    match t.1.burstStat false p.1, t.1.mapAddr p.1 with
    | .ok, some (sc, loc) =>
      ((t.1.settle sc loc).putBurst sc loc (slice bytes (p.1 - a) p.2), t.2 ++ [.ok])
    | st, _ => (t.1, t.2 ++ [st])) (s, [])
  (r.1.refuse (r.2.countP (fun x => x == .range || x == .notReady)), worst r.2)

/-! ### The outer code -/

/-- Symbols that the decoding mode corrects (R429). -/
def State.eccT (s : State) : Nat := if s.fld rMemCfg 28 2 = 1 then 6 else 8

/-- The error word of a burst: the given symbol errors and the inverted parity symbols (R428, R435). -/
def errWord (errs : List (Nat × Nat)) (flip : Nat) : List Nat :=
  errs.foldl (fun r e => if e.1 < 80 then setAt r e.1 (r.getD e.1 0 ^^^ (e.2 % 256)) else r)
    ((List.range 80).map (fun i => if 64 ≤ i ∧ flip.testBit (i - 64) then 0xFF else 0))

/-- The bytes of a burst with symbol errors applied (R428): symbol 2p + h holds pin p in beats 8h to 8h + 7. -/
def applyErr (data : List Byte) (e : List Nat) : List Byte :=
  data.mapIdx fun i b =>
    let t := i / 4
    (List.range 8).foldl (fun (b : Byte) k =>
      let p := 8 * (i % 4) + k
      if (e.getD (2 * p + t / 8) 0).testBit (t % 8) then b ^^^ BitVec.ofNat 8 (2 ^ k) else b) b

/-- R430: a read burst is decoded. Answers the data, its status and whether symbols were corrected; `count` is the
effect on counters and events. Every code word differs from the stored one by the error word, so the decoder runs on
the error word alone. -/
def State.decodeBurst (s : State) (sc loc : Nat) (data : List Byte) (e : List Nat) :
    State × MStat × List Byte × Nat :=
  match gfMem.decode 16 s.eccT e with
  | some (_, 0) => (s, .ok, data, 0)
  | some (w, n) =>
    let s1 := ((s.count (rMemScCeBursts sc)).countN (rMemScCeSymbols sc) n).count rMemCeTotal
    let s2 := (s1.setFld rMemCeInfo 16 4 sc).setFld rMemCeInfo 0 5 n
    let ms := s.now / 1000000 + 1
    let s3 := if s.mem.ceMs = ms then s2
      else ({ s2 with mem := { s2.mem with ceMs := ms } } : State).raise 0x020 1
    (s3, .ok, applyErr data w, n)
  | none =>
    let s1 := if s.rd (rMemScUe sc) = 0#32 then
        (s.setLive (rMemScUeaddrLo sc) (BitVec.ofNat 64 loc)) else s
    (((s1.count (rMemScUe sc)).raise (0x010 + sc) (scUnit sc)), .poison, applyErr data e, 0)

/-- The `n` bytes of the array from a local address. -/
def State.arrayBytes (s : State) (sc loc n : Nat) : List Byte := bytesAt s.mem.dram (dramKey sc loc) n

/-- The parity inversion stored with a burst. -/
def State.flipAt (s : State) (sc loc : Nat) : Nat := Map.get (fun _ => 0) s.mem.flip (flipKey sc loc)

/-- A unit reads `n` bytes at a module address: the data and the worst status (R414, R430). -/
def State.memReadAs (s : State) (early : Bool) (a n : Nat) : State × MStat × List Byte :=
  let r := (pieces a n).foldl (fun (t : State × List MStat × List Byte) p =>
    match t.1.burstStat early p.1, t.1.mapAddr p.1 with
    | .ok, some (sc, loc) =>
      let s1 := t.1.settle sc loc
      let base := loc / 64 * 64
      let f := s1.flipAt sc base
      let bytes := s1.arrayBytes sc base 64
      let d := if f = 0 then (s1, .ok, bytes, 0) else s1.decodeBurst sc base bytes (errWord [] f)
      (d.1, t.2.1 ++ [d.2.1], t.2.2 ++ slice d.2.2.1 (loc - base) p.2)
    | st, _ => (t.1, t.2.1 ++ [st], t.2.2 ++ List.replicate p.2 0#8)) (s, [], [])
  (r.1.refuse (r.2.1.countP (fun x => x == .range || x == .notReady)), worst r.2.1, r.2.2)

/-- A read of any other unit. -/
def State.memRead (s : State) (a n : Nat) : State × MStat × List Byte := s.memReadAs false a n

/-- The bytes a read would give, with no effect on the state: what stands at module addresses (zeros where no
request is served). -/
def State.peek (s : State) (a n : Nat) : List Byte := (s.memRead a n).2.2

/-! ### Overdraft, coins and the bank queues -/

/-- MEM_STAT.OVERDRAFT. -/
def State.overdraft (s : State) : Bool := s.bit rMemStat 27

/-- The purse of a bulk port, in 1/16 coin. -/
def State.purse (s : State) (p : Nat) : Nat := s.mem.purse.getD p 0

/-- PURSE_p, 0 taken as 1 (R437). -/
def State.purseMax (s : State) (p : Nat) : Nat := max 1 (s.fld (rMemCoinCfg p) 0 16)

/-- Put a purse, with its status register. -/
def State.setPurse (s : State) (p n : Nat) : State :=
  ({ s with mem := { s.mem with purse := setAt s.mem.purse p n } } : State).setFld (rMemCoinStat p) 0 16 (n / 16)

/-- A bulk port (R419). -/
def bulkPort (p : Nat) : Bool := p < 4

/-- Bursts that a bulk port has moved without a coin. -/
def State.owed (s : State) (p : Nat) : Nat := s.mem.owe.getD p 0

/-- The bulk port that R420 serves next: a waiting burst, a whole coin, the fullest purse, the lower number. -/
def State.bulkNext (s : State) : Option Nat :=
  if s.overdraft && !s.bit rMemStat 26 then none
  else
    ((List.range 4).filter (fun p => decide (16 ≤ s.purse p) &&
        (s.owed p != 0 || s.mem.q.any (fun b => b.port == p && !b.granted)))).foldl
      (fun (best : Option Nat) p =>
        match best with
        | none => some p
        | some q => if s.purse q * s.purseMax p < s.purse p * s.purseMax q then some p else some q) none

/-- Grant the oldest burst of port `p` that waits for a coin. -/
def grantFirst (p : Nat) : List Burst → List Burst
  | [] => []
  | b :: bs => if b.port == p && !b.granted then { b with granted := true } :: bs else b :: grantFirst p bs

/-- A coin of port `p` pays for a burst moved before, else for the oldest that waits. -/
def State.takeCoin (s : State) (p : Nat) : State :=
  let s1 := s.setPurse p (s.purse p - 16)
  { s1 with mem := if s1.owed p = 0 then { s1.mem with q := grantFirst p s1.mem.q }
    else { s1.mem with owe := setAt s1.mem.owe p (s1.owed p - 1) } }

/-- Serve waiting bulk bursts with coins, at most `fuel` of them (R420). -/
def State.serveBulk (s : State) : Nat → State
  | 0 => s
  | fuel + 1 =>
    match s.bulkNext with
    | none => s
    | some p => State.serveBulk (s.takeCoin p) fuel

/-- Serve as far as the purses go. -/
def State.serve (s : State) : State := s.serveBulk (s.mem.q.length + s.mem.owe.foldl (· + ·) 0)

/-- The bursts of `[a, a + n)` that a request for them moves. -/
def State.moved (s : State) (a n : Nat) : Nat := (pieces a n).countP (fun p => s.burstStat false p.1 == .ok)

/-- Port `p` pays for `n` bursts that its unit has read or written (R23, R419): with the coins it has, else with the next. -/
def State.spend (s : State) (p n : Nat) : State :=
  if n = 0 then s else ({ s with mem := { s.mem with owe := setAt s.mem.owe p (s.owed p + n) } } : State).serve

/-- A unit's write through its bulk port. -/
def State.bulkWrite (s : State) (p a : Nat) (bytes : List Byte) : State :=
  ((s.memWrite a bytes).1).spend p (s.moved a bytes.length)

/-- A unit's read of `n` bytes through its bulk port: what decoding counts, and its cost; the bytes are those of `peek`. -/
def State.bulkRead (s : State) (p a n : Nat) : State := ((s.memRead a n).1).spend p (s.moved a n)

/-- Port `p` is not served: a burst is still to be paid for, or Overdraft holds outside the floor (R420 to R422), or the clocks
of its cluster stand (R462). The unit's next transfer waits. -/
def State.bulkWaits (s : State) (p : Nat) : Bool :=
  s.owed p != 0 || (s.overdraft && !s.bit rMemStat 26) || (p != 2 && s.pxStopped)

/-- A transfer of a unit on port `p`, which waits while the port is not served. -/
def State.paced (s : State) (p : Nat) (f : State → State) : State := if s.bulkWaits p then s else f s

/-- Banks of index `b` hold no queued request (R423). -/
def State.bankIdle (s : State) (sc b : Nat) : Bool :=
  !s.mem.q.any (fun x => x.sc == sc && (s.bankRow x.loc).1 / 8 == b)

/-- The debt of a bank index (R423). -/
def State.debt (s : State) (sc b : Nat) : Nat := s.fld (rMemScStat sc) (3 * b) 3

/-- The limit of the debt (R423). -/
def State.debtLimit (s : State) : Nat := if s.overdraft then clampNat 1 4 (s.fld rMemOdCfg 8 4) else 2

/-- REFsb as far as R423 lets them: forced at the limit, all of the debt in idle banks without Overdraft. -/
def State.refreshBank (s : State) (sc b : Nat) : State :=
  let d := s.debt sc b
  let lim := s.debtLimit
  let s1 := if lim ≤ d then
      (((s.setFld (rMemScStat sc) (3 * b) 3 (lim - 1)).countN (rMemScForcedRef sc) (d - lim + 1))).raise 0x022 1
    else s
  if !s1.overdraft && s1.bankIdle sc b then s1.setFld (rMemScStat sc) (3 * b) 3 0 else s1

/-- Refresh over every sub-channel and bank index. -/
def State.refreshAll (s : State) : State :=
  s.forEach (s.scs.filter (fun n => s.fld (rMemScStat n) 28 4 == 2)) fun t n =>
    t.forEach [0, 1, 2, 3] (fun t b => t.refreshBank n b)

/-- A port raises or clears Overdraft (R421); the floor ends when it clears (R422). -/
def State.setOd (s : State) (port : Nat) (on : Bool) : State :=
  let od := if on then s.mem.od ||| BitVec.ofNat 16 (2 ^ port) else s.mem.od &&& ~~~ BitVec.ofNat 16 (2 ^ port)
  let starve := if s.mem.od = 0 ∧ od ≠ 0 then max 1 (s.fld rMemOdCfg 16 16) else s.mem.starve
  let s1 : State := { s with mem := { s.mem with od := od, starve := starve } }
  let s2 := s1.setBit rMemStat 27 (od != 0)
  if od = 0 ∧ s.mem.od ≠ 0 then ((s2.setBit rMemStat 26 false).serve).refreshAll else s2

/-- The burst entry of a request at a burst address, seen from the queue: a read takes the data of the last write to
its burst that arrived before it (R417, R418). -/
def State.mkBurst (s : State) (port : Nat) (write : Bool) (sc loc : Nat) (data : List Byte) (lock : Nat) : Burst :=
  if write then ⟨port, true, sc, loc, data, 0, !bulkPort port, lock, s.now⟩
  else
    let ws := s.mem.q.filter (fun b => b.write && sameBurst b sc loc)
    match ws.getLast? with
    | some w => ⟨port, false, sc, loc, w.data, 0, !bulkPort port, w.lock, s.now⟩
    | none => ⟨port, false, sc, loc, s.arrayBytes sc loc 64, s.flipAt sc loc, !bulkPort port, 0, s.now⟩

/-- R414: a port request of whole bursts reaches the controller. -/
def State.request (s : State) (port : Nat) (write : Bool) (a len : Nat) (data : List Byte) (locked : Bool)
    (early : Bool) : State :=
  let lock := if write && locked && decide (len ≤ 4096) then s.mem.lockN + 1 else 0
  let s0 : State := { s with mem := { s.mem with lockN := if lock = 0 then s.mem.lockN else lock } }
  let n := ceilDiv len 64
  let r := (List.range n).foldl (fun (t : State × Nat) i =>
    let ai := a / 64 * 64 + 64 * i
    let d := slice (data ++ List.replicate (len + 64) 0#8) (64 * i) 64
    match t.1.burstStat early ai, t.1.mapAddr ai with
    | .ok, some (sc, loc) =>
      ({ t.1 with mem := { t.1.mem with q := t.1.mem.q ++ [t.1.mkBurst port write sc loc d lock] } }, t.2)
    | st, _ =>
      ({ t.1 with mem := { t.1.mem with
          resp := t.1.mem.resp ++ [⟨port, st, if write then [] else List.replicate 64 0#8⟩] } },
       if st == .range || st == .notReady then t.2 + 1 else t.2)) (s0, 0)
  (r.1.refuse r.2).serve

/-- PORT_REQUEST (R414, R416, R419). A request of the host port is one of R131 while a command is in data transfer. -/
def State.hostTransfer (s : State) : Bool := s.hst.cmds.any (·.early)

def execPortRequest (port : Fin 16) (isWrite : Bool) (addr len : Nat) (data : List Byte) (locked : Bool) (s : State) :
    Host.Outcome State Fault Refusal :=
  .next (s.request port isWrite addr len data locked (port.val == 2 && s.hostTransfer))

/-! ### Retiring and decoding -/

/-- A read in the bank that matches the row of an older write: the bank queue runs in order (R417). -/
def inOrder (rows : List (Burst × Nat)) : Bool :=
  rows.zipIdx.any fun p => !p.1.1.write &&
    (rows.take p.2).any (fun w => w.1.write && w.2 == p.1.2)

/-- A request of a real-time port in Overdraft. -/
def State.inOd (s : State) (b : Burst) : Bool := !bulkPort b.port && s.mem.od.getLsbD b.port

/-- The rank of a write among those a bank may serve (R416): class, the turn of its port among those in Overdraft, then age
above 2 µs, row hits, arrival. -/
def State.writeRank (s : State) (b : Burst) (hit : Bool) : Nat :=
  let turn := (b.port + 15 - Map.get (fun _ => 15) s.mem.odLast b.sc) % 16
  let cls := if s.inOd b then turn else if bulkPort b.port then 17 else 16
  cls * 3 + (if b.time + 2000 < s.now then 0 else if hit then 1 else 2)

/-- A bank in in-order mode serves the burst that arrived first (R417). -/
def State.bankHead (s : State) (sc bank : Nat) : Option (Burst × Nat) :=
  s.mem.q.zipIdx.find? (fun p => p.1.sc == sc && (s.bankRow p.1.loc).1 == bank)

/-- The requests of a bank with their rows, in order of arrival. -/
def State.bankRows (s : State) (sc bank : Nat) : List (Burst × Nat) :=
  (s.mem.q.filter (fun b => b.sc == sc && (s.bankRow b.loc).1 == bank)).map (fun b => (b, (s.bankRow b.loc).2))

/-- The index in the bank queue of the write that retires next. -/
def State.pickWrite (s : State) (sc bank : Nat) : Option Nat :=
  let hitRow := Map.get (fun _ => 0) s.mem.open_ (sc * 32 + bank)
  let all := s.mem.q.zipIdx
  let mine := all.filter (fun p => p.1.sc == sc && (s.bankRow p.1.loc).1 == bank && p.1.write && p.1.granted &&
    !(s.mem.q.take p.2).any (fun w => w.write && sameBurst w p.1.sc p.1.loc))
  if inOrder (s.bankRows sc bank) then
    match s.bankHead sc bank with
    | some p => if p.1.write && p.1.granted then some p.2 else none
    | none => none
  else
    (mine.foldl (fun (best : Option (Nat × Nat)) p =>
      let k := s.writeRank p.1 (hitRow == (s.bankRow p.1.loc).2 + 1)
      match best with
      | none => some (k, p.2)
      | some q => if k < q.1 then some (k, p.2) else some q) none).map (·.2)

/-- WRITE_RETIRE (R417): the next write of a bank queue is in the array, with its check bits. -/
def State.retire (s : State) (sc bank : Nat) : State :=
  match s.pickWrite sc bank with
  | none => s
  | some i =>
    match s.mem.q[i]? with
    | none => s
    | some b =>
      let s1 : State := { s with mem := { s.mem with
          q := s.mem.q.eraseIdx i
          open_ := Map.set (fun _ => 0) s.mem.open_ (sc * 32 + bank) ((s.bankRow b.loc).2 + 1)
          odLast := if s.inOd b then Map.set (fun _ => 15) s.mem.odLast sc b.port else s.mem.odLast
          resp := s.mem.resp ++ [⟨b.port, .ok, []⟩] } }
      (s1.putBurst b.sc b.loc b.data).refreshBank sc (bank / 8)

/-- The index of the read of a burst that can be served: granted, the first of its bank where that is in in-order mode, every
older write of its row retired, and no burst of the locked write it waits for left (R417, R418). -/
def State.pickRead (s : State) (sc loc : Nat) : Option Nat :=
  let bank := (s.bankRow loc).1
  let first := if inOrder (s.bankRows sc bank) then (s.bankHead sc bank).map (·.2) else none
  (s.mem.q.zipIdx.find? fun p => (first.isNone || first == some p.2) && !p.1.write && p.1.granted && sameBurst p.1 sc loc &&
    !(s.mem.q.take p.2).any (fun w => w.write && w.sc == sc && s.bankRow w.loc == s.bankRow loc) &&
    !(p.1.lock != 0 && s.mem.q.any (fun w => w.write && w.lock == p.1.lock))).map (·.2)

/-- READ_DECODE (R430): a read burst comes back from the array with the given symbol errors. -/
def State.readDecode (s : State) (sc loc : Nat) (errs : List (Nat × Nat)) : State :=
  match s.pickRead sc loc with
  | none => s
  | some i =>
    match s.mem.q[i]? with
    | none => s
    | some b =>
      let d := s.decodeBurst sc b.loc b.data (errWord errs b.flip)
      let bk := s.bankRow b.loc
      let s1 : State := { d.1 with mem := { d.1.mem with
          q := d.1.mem.q.eraseIdx i
          open_ := Map.set (fun _ => 0) d.1.mem.open_ (sc * 32 + bk.1) (bk.2 + 1)
          resp := d.1.mem.resp ++ [⟨b.port, d.2.1, d.2.2.1⟩] } }
      s1.refreshBank sc (bk.1 / 8)

/-- READ_DECODE. -/
def execReadDecode (sc : Fin 16) (local_ : Nat) (errs : List (Nat × Nat)) (s : State) :
    Host.Outcome State Fault Refusal :=
  .next (s.readDecode sc local_ errs)

/-- REFRESH_DUE (R423): tREFI has expired for a bank index of a sub-channel. -/
def execRefreshDue (sc : Fin 16) (b : Fin 4) (s : State) : Host.Outcome State Fault Refusal :=
  .next (if s.fld (rMemScStat sc) 28 4 = 2 then
      (s.setFld (rMemScStat sc) (3 * b) 3 (min 7 (s.debt sc b + 1))).refreshBank sc b
    else s)

/-- COIN_REFILL (R419): every purse gains REFILL / 16 coins, refill beyond PURSE is lost. -/
def execCoinRefill (s : State) : Host.Outcome State Fault Refusal :=
  .next (s.forEach [0, 1, 2, 3] (fun t p =>
    t.setPurse p (min (t.purseMax p * 16) (t.purse p + t.fld (rMemCoinCfg p) 16 16)))).serve

/-- FLOOR_ENTRY (R422): Overdraft has lasted STARVE µs. A FLOOR of 0 disables the floor. -/
def execFloorEntry (s : State) : Host.Outcome State Fault Refusal :=
  .next (if s.overdraft && !s.bit rMemStat 26 && s.fld rMemOdCfg 0 5 != 0 then
      (((s.setBit rMemStat 26 true).count rMemOdFloors).raise 0x021 1).serve
    else s)

/-! ### Scrub -/

/-- Next burst of the pass in a sub-channel (R432). -/
def State.scrubPos (s : State) (sc : Nat) : Nat := Map.get (fun _ => 0) s.mem.scrub sc

/-- The sub-channels that a pass covers. -/
def State.scrubScs (s : State) : List Nat := s.scs.filter (fun n => s.scUp n)

/-- MEM_SCRUB_STAT.NEXT: the burst that every sub-channel has reached. -/
def State.scrubNext (s : State) : Nat :=
  match s.scrubScs.map s.scrubPos with
  | [] => 0
  | a :: l => l.foldl min a

/-- PERIOD in nanoseconds, 0 hours taken as 1 (R437). -/
def State.scrubPeriod (s : State) : Nat := max 1 (s.fld rMemScrub 0 16) * 3600 * nsPerSec

/-- The component with the highest of three counts, the lower number first. -/
def worstComp (c : BitVec 24) : Nat :=
  let n := c.toNat
  let c0 := n % 256; let c1 := n / 256 % 256; let c2 := n / 65536
  if c1 ≤ c0 ∧ c2 ≤ c0 then 0 else if c2 ≤ c1 then 1 else 2

/-- The readout of the inner code at a pass end (R431): counts and rows are free values. -/
def State.ecsRead (s : State) (sc : Nat) : State :=
  let i := s.mem.free
  let c := Config.ecsCount i
  let thr := s.fld rMemScrub 16 8
  let s1 : State := { s with mem := { s.mem with free := i + 1 } }
  let s2 := (s1.setFld (rMemScEcs sc) 0 24 c.toNat).setFld (rMemScEcsrow sc) 0 30 (Config.ecsRow i).toNat
  let s3 := ((s2.setFld (rMemScEcsrow sc) 28 2 (worstComp c)).setFld (rMemScEcsrow sc) 18 4 0).setFld (rMemScEcsrow sc) 27 1 0
  if decide (thr < c.toNat % 256) || decide (thr < c.toNat / 256 % 256) || decide (thr < c.toNat / 65536) then
    s3.raise 0x028 1
  else s3

/-- The end of a pass (R431, R432): readout, SCRUB_DONE, and SCRUB_LATE where the period has ended before. -/
def State.scrubEnd (s : State) : State :=
  let s1 := s.forEach s.scrubScs (fun t n => t.ecsRead n)
  let late := decide (s.mem.scrubT + s.scrubPeriod < s.now)
  let s2 := if late then s1.count rMemScrubLate else s1
  let s3 : State := { s2 with mem := { s2.mem with
      scrub := [], scrubT := if late then s.now else s.mem.scrubT + s.scrubPeriod } }
  (s3.setFld rMemScrubStat 0 28 0).raise 0x024 1

/-- SCRUB_READ (R432): the next burst of the pass in a sub-channel, with the symbol errors the array returns. It waits
while Overdraft is asserted and until the period of the pass has begun. -/
def State.scrubRead (s : State) (sc : Nat) (errs : List (Nat × Nat)) : State :=
  let pos := s.scrubPos sc
  if !s.bit rMemScrub 31 || !s.scrubScs.contains sc || s.memState != 2 || s.overdraft ||
      decide (s.now < s.mem.scrubT) then s
  else if 2 ^ 28 ≤ pos then (if s.scrubScs.all (fun n => s.scrubPos n == 2 ^ 28) then s.scrubEnd else s)
  else
    let loc := pos * 64
    let d := s.decodeBurst sc loc (s.arrayBytes sc loc 64) (errWord errs (s.flipAt sc loc))
    let busy := s.mem.q.any (fun b => b.write && sameBurst b sc loc)
    let s1 : State := if d.2.2.2 != 0 && !busy then
        let t := d.1.count (rMemScScrubFixed sc)
        { t with mem := { t.mem with
            dram := putBytes t.mem.dram (dramKey sc loc) d.2.2.1
            flip := Map.set (fun _ => 0) t.mem.flip (flipKey sc loc) 0 } }
      else d.1
    let s2 : State := { s1 with mem := { s1.mem with scrub := Map.set (fun _ => 0) s1.mem.scrub sc (pos + 1) } }
    if s2.scrubScs.all (fun n => s2.scrubPos n == 2 ^ 28) then s2.scrubEnd
    else s2.setFld rMemScrubStat 0 28 s2.scrubNext

/-- SCRUB_READ. -/
def execScrubRead (sc : Fin 16) (errs : List (Nat × Nat)) (s : State) : Host.Outcome State Fault Refusal :=
  .next (s.scrubRead sc errs)

/-- PERIODIC_TRAINING (R427): the drift in 1/256 UI; above 1/16 UI the write DQ delays follow it. -/
def execPeriodicTraining (sc : Fin 16) (drift : Int) (s : State) : Host.Outcome State Fault Refusal :=
  .next (if s.fld (rMemScStat sc) 28 4 = 2 ∧ 16 < drift.natAbs then
      { s with mem := { s.mem with
          dq := Map.set (fun _ => 0) s.mem.dq sc (Map.get (fun _ => 0) s.mem.dq sc + drift) } }
    else s)

/-! ### Training and self-refresh -/

/-- READY of MEM_STAT from the states of the sub-channels (R437). -/
def State.memReady (s : State) : State :=
  s.setFld rMemStat 0 16 ((List.range 16).foldl (fun m n =>
    if s.fld (rMemScStat n) 28 4 == 2 && s.scUp n then m + 2 ^ n else m) 0)

/-- Give every present, unfenced sub-channel a state and a training step. -/
def State.scAll (s : State) (st step : Nat) : State :=
  s.forEach (s.scs.filter (fun n => s.scUp n && s.fld (rMemScStat n) 28 4 != 4)) fun t n =>
    (t.setFld (rMemScStat n) 28 4 st).setFld (rMemScStat n) 24 4 step

/-- Self-refresh entry begins (R433): requests are refused from now on. -/
def State.srBegin (s : State) : State := if s.memState = 2 then s.setFld rMemStat 28 4 3 else s

/-- Every accepted write is in the array. -/
def State.drainQueues (s : State) : State :=
  let ws := s.mem.q.filter (·.write)
  let s1 := ws.foldl (fun t b =>
    let u := t.putBurst b.sc b.loc b.data
    ({ u with mem := { u.mem with resp := u.mem.resp ++ [⟨b.port, .ok, []⟩] } } : State)) s
  let rs := s.mem.q.filter (fun b => !b.write)
  let s2 := rs.foldl (fun t b =>
    let d := t.decodeBurst b.sc b.loc b.data (errWord [] b.flip)
    { d.1 with mem := { d.1.mem with resp := d.1.mem.resp ++ [⟨b.port, d.2.1, d.2.2.1⟩] } }) s1
  { s2 with mem := { s2.mem with q := [] } }

/-- Every sub-channel has entered self-refresh (R433): queues served, debt paid, CK stopped. -/
def State.srEntered (s : State) : State :=
  let s1 := s.drainQueues
  let s2 := s1.forEach (s1.scs.filter (fun n => s1.scUp n && s1.fld (rMemScStat n) 28 4 == 2)) fun t n =>
    (t.setFld (rMemScStat n) 28 4 3).setFld (rMemScStat n) 0 12 0
  ((s2.setFld rMemStat 28 4 4).memReady).raise 0x025 1

/-- SELF_REFRESH_EXIT (R434): the exit command, then steps 1 to 4 of training on each sub-channel; not while a loss of
mains or PS3 keeps the memory in self-refresh. -/
def State.srExit (s : State) : State :=
  if s.memState = 4 ∧ s.pwr.loss = 0 ∧ s.fld rHstPwr 4 3 < 3 then
    let s1 := s.setFld rMemStat 28 4 5
    s1.forEach (s1.scs.filter (fun n => s1.fld (rMemScStat n) 28 4 == 3)) fun t n =>
      (t.setFld (rMemScStat n) 28 4 1).setFld (rMemScStat n) 24 4 4
  else s

/-- SELF_REFRESH_EXIT. -/
def execSelfRefreshExit (s : State) : Host.Outcome State Fault Refusal := .next s.srExit

/-- Exit complete on every sub-channel (R434): debt paid, requests served again. -/
def State.srExited (s : State) : State :=
  if s.memState = 5 then
    let s1 := s.forEach (s.scs.filter (fun n => s.fld (rMemScStat n) 28 4 == 1)) fun t n =>
      (t.setFld (rMemScStat n) 28 4 2).setFld (rMemScStat n) 0 12 0
    ((s1.setFld rMemStat 28 4 2).memReady).raise 0x026 1
  else s

/-- SR_EXITED. -/
def execSrExited (s : State) : Host.Outcome State Fault Refusal := .next s.srExited

/-- DRAM_HOT (R424): a component of a sub-channel reports above 85 °C; the range it reports is a free value. -/
def execDramHot (sc : Fin 16) (s : State) : Host.Outcome State Fault Refusal :=
  let s1 : State := { s with mem := { s.mem with
    hot := s.mem.hot ||| BitVec.ofNat 16 (2 ^ sc.val), free := s.mem.free + 1 } }
  .next (((s1.setFld (rMemScStat sc) 16 3 (Config.dramTemp s.mem.free).toNat).setBit rMemStat 25 true).raise 0x023 1)

/-- DRAM_HOT_CLEAR (R424): the components of a sub-channel report 85 °C or below; HOT clears with the last. -/
def execDramHotClear (sc : Fin 16) (s : State) : Host.Outcome State Fault Refusal :=
  let hot := s.mem.hot &&& ~~~ BitVec.ofNat 16 (2 ^ sc.val)
  let s1 : State := { s with mem := { s.mem with hot := hot, free := s.mem.free + 1 } }
  .next ((s1.setFld (rMemScStat sc) 16 3 (Config.dramTemp s.mem.free).toNat).setBit rMemStat 25 (hot != 0))

/-- The content of the array is lost (R47, R121). -/
def State.memLost (s : State) : State := { s with mem := { s.mem with dram := [], flip := [], q := [] } }

end Sys2Proof.Machine
end

