-- ==== Sys2Proof/Machine/Capture.lean ====
section
/-! DEFINITION. What capture rests on: axis values (R189-R193, R244-R246), stream geometry (R172-R175), the clusters that
serve a stream and its frame-rate cap (R35, R36, R283), and the addresses of partitions, ledger and annex. -/

namespace Sys2Proof.Machine

open Sys2Proof

/-! ### Axis values -/

/-- Time units per second. -/
def tuPerSec : Nat := nsPerSec * tuPerNs

/-- An axis before its first edge. -/
def Axis.init : Axis :=
  ⟨0, none, none, false, [], 0, 0, 0, none, none, false, false, none, 0, 0, none, false, false, false, none,
    false, none⟩

/-- Axis `n` (0 to 3 for A1 to A4). -/
def State.axis (s : State) (n : Nat) : Axis := Map.get (fun _ => Axis.init) s.sch.axes n

/-- Put an axis. -/
def State.setAxis (s : State) (n : Nat) (a : Axis) : State :=
  { s with sch := { s.sch with axes := Map.set (fun _ => Axis.init) s.sch.axes n a } }

/-- MODE of an axis (R233). -/
def State.axMode (s : State) (n : Nat) : Nat := s.fld (rSchAxCfg n) 0 3

/-- The value of an axis counts (R237, R209). -/
def State.axValid (s : State) (n : Nat) : Bool := s.bit (rSchAxStat n) 31 && s.unitLive 4 (10 + n)

/-- STILL in time units (R244). -/
def State.axStill (s : State) (n : Nat) : Nat := max 1 (s.fld (rSchAxStill n) 0 16) * 1000000 * tuPerNs

/-- The reported speed of an axis at a Mint time, counts/s in 32.16 (R244). -/
def State.axSpeed (s : State) (n : Nat) (t : Int) : Int :=
  let a := s.axis n
  if !s.bit (rSchAxStat n) 31 then 0
  else if s.axMode n = 1 ∨ s.axMode n = 2 then
    let dt := t - a.tk
    if (s.axStill n : Int) ≤ dt then 0
    else if dt ≤ 0 then a.v
    else
      let lim := (65536 * (tuPerSec : Int) + dt / 2) / dt
      if a.v < 0 then -(min (-a.v) lim) else min a.v lim
  else if (s.axStill n : Int) ≤ t - a.tc then 0 else a.v

/-- The value of A1 to A4 at a Mint time, in 48.16 (R246). -/
def State.axValue (s : State) (n : Nat) (t : Int) : BitVec 64 :=
  let a := s.axis n
  let base := a.count.toInt * 65536
  let v := s.axSpeed n t
  if v = 0 then BitVec.ofInt 64 base
  else
    let dt := max 0 (t - a.tk)
    if s.axMode n = 1 ∨ s.axMode n = 2 then
      let f := min 0xFFFF (v.natAbs * dt.toNat / tuPerSec)
      BitVec.ofInt 64 (if v < 0 then base - f else base + f)
    else
      let lim : Int := 2 * (max 1 (s.fld (rSchAxSert n) 16 16) : Nat) * 100 * tuPerNs
      BitVec.ofInt 64 (base + v * min dt lim / (tuPerSec : Int))

/-- A5 is locked and not fenced (R193). -/
def State.a5Lock (s : State) : Bool := s.bit rSchA5Stat 31 && s.unitLive 4 14

/-- AVG of A5 (R229). -/
def State.a5Avg (s : State) : Nat := clampNat 1 64 (s.fld rSchA5Cfg 0 7)

/-- T_avg of A5 over the crossings on record, in time units; 0 with fewer than two (R192). -/
def State.a5Tavg (s : State) : Nat :=
  let z := s.sch.a5.zc
  let m := min s.a5Avg (z.length - 1)
  if m = 0 then 0 else ((z.getD 0 0 - z.getD m 0) / (m : Int)).toNat

/-- The phase of A5 at a Mint time (R192); held while unlocked. -/
def State.a5Phase (s : State) (t : Int) : Nat :=
  if s.bit rSchA5Stat 31 then
    if s.a5Tavg = 0 then 0
    else min 0xFFFF (65536 * (max 0 (t - s.sch.a5.zc.getD 0 0)).toNat / s.a5Tavg)
  else s.fld rSchA5Phase 0 16

/-- The value of axis A0 to A6 at a Mint time in time units (R189). -/
def State.axisAt (s : State) (ax : Nat) (t : Int) : BitVec 64 :=
  match ax with
  | 0 => BitVec.ofInt 64 (t / 25)
  | 5 => BitVec.ofNat 64 (s.sch.a5.cycle * 65536 + s.a5Phase t)
  | 6 => (s.liveAt rSchA6CntLo) <<< 16
  | n => s.axValue (n - 1) t

/-- The axis values latched for a ledger entry: VALID bits, A1 to A4, A5, A6 (R209, R265). An axis whose VALID bit is
0 holds 0. -/
def State.axSnap (s : State) (t : Int) : Nat × List (BitVec 64) × BitVec 64 × Nat :=
  let vs := (List.range 4).map (fun n => s.axValid n)
  let ok5 := s.a5Lock
  let ok6 := s.unitLive 4 15
  ((List.range 4).foldl (fun m n => m + (vs.getD n false).toNat * 2 ^ n) 0 + ok5.toNat * 16 + ok6.toNat * 32,
   (List.range 4).map (fun n => if vs.getD n false then s.axValue n t else 0#64),
   if ok5 then s.axisAt 5 t else 0#64,
   if ok6 then (s.liveAt rSchA6CntLo).toNat % 2 ^ 48 else 0)

/-- The Mint now, in time units. -/
def State.nowTu (s : State) : Int := s.mint.tu

/-- T_EXPO of a Mint time, and the NO_MINT flag: without the Mint it holds ns of CLK_SVC (R41, R268). -/
def State.texpo (s : State) (t : Int) : List Byte × BitVec 32 :=
  if s.mintUp then ((mintOfTu t.toNat).bytes, 0#32)
  else ((Mint.mk (s.now / nsPerSec) (s.now % nsPerSec) 0).bytes, 0x100000#32)

/-! ### Stream geometry -/

/-- Width in pixels. -/
def State.strW (s : State) (i : Nat) : Nat := s.fld (rIngStrGeom i) 0 11 * 16

/-- Height in lines. -/
def State.strH (s : State) (i : Nat) : Nat := s.fld (rIngStrGeom i) 16 15

/-- Bits per pixel (R186). -/
def State.strBits (s : State) (i : Nat) : Nat := 10 + 2 * s.fld (rIngStrFmt i) 0 2

/-- LAYOUT (R172). -/
def State.strLayout (s : State) (i : Nat) : Nat := s.fld (rIngStrFmt i) 4 2

/-- Bytes of the metadata block (R174). -/
def State.strMeta (s : State) (i : Nat) : Nat :=
  match s.fld (rIngStrFmt i) 10 2 with | 1 => 4096 | 2 => 8192 | _ => 0

/-- Whether the image declares stream `i`: a declared geometry has at least 8 lines (R186). -/
def State.strDecl (s : State) (i : Nat) : Bool := decide (0 < s.strH i)

/-- Bytes of a line on the link (R144). -/
def State.lineBytes (s : State) (i : Nat) : Nat := s.strW i * s.strBits i / 8

/-- The first stream that head `n` declares: the stream of the head's exposures (R165 names no other where it declares
several; DESIGN CHOICE, log entry 110). -/
def State.headStr (s : State) (n : Nat) : Option Nat := (List.range 16).map (n * 16 + ·) |>.find? s.strDecl

/-- MEMBERS of a group (R187). -/
def State.grpMembers (s : State) (g : Nat) : List Nat :=
  idxs 4 (fun n => (s.fld (rIngGrpCfg g) 0 4).testBit n)

/-- The group a head belongs to (R175). -/
def State.grpOf (s : State) (n : Nat) : Option Nat := [0, 1].find? (fun g => (s.grpMembers g).contains n)

/-- The stream id of the merged stream of a group: that of its lowest member head (R175). -/
def State.grpStr (s : State) (g : Nat) : Option Nat := (s.grpMembers g).head?.bind s.headStr

/-- The logical stream that a head's stream belongs to (R175). -/
def State.logical (s : State) (x : Nat) : Nat :=
  match s.grpOf (x / 16) with
  | some g => (s.grpStr g).getD x
  | none => x

/-- The group of a merged stream. -/
def State.grpOfStr (s : State) (i : Nat) : Option Nat :=
  [0, 1].find? (fun g => !(s.grpMembers g).isEmpty && s.grpStr g == some i)

/-! ### Pixel clusters that serve a stream -/

/-- Core unit of cluster PIXc serves stream `i` and is not fenced (R41, R312). -/
def State.pixServes (s : State) (c i : Nat) : Bool :=
  s.bit (rPixCfg c) 31 && s.fld (rPixCfg c) 24 6 == i && s.unitLive (5 + c) 1

/-- The clusters that serve a stream, rising (R283). -/
def State.servers (s : State) (i : Nat) : List Nat := idxs 4 (fun c => s.pixServes c i)

/-- The lead cluster of a stream (R286). -/
def State.lead (s : State) (i : Nat) : Option Nat := (s.servers i).head?

/-- The core of the stripe of a cluster, in pixels (R283). -/
def State.core (s : State) (c : Nat) : Nat × Nat :=
  (s.fld (rPixStripe c) 16 11 * 16, s.fld (rPixStripe c) 0 11 * 16)

/-- Width of the stripe of cluster `c` of stream `i`: its core plus 8 pixels beside each neighbour (R283). -/
def State.stripeW (s : State) (i c : Nat) : Nat :=
  let k := s.core c
  (k.2 - k.1) + (if k.1 = 0 then 0 else 8) + (if s.strW i ≤ k.2 then 0 else 8)

/-- The widest stripe of a stream (R35). -/
def State.widest (s : State) (i : Nat) : Nat := (s.servers i).foldl (fun m c => max m (s.stripeW i c)) 0

/-- The even split over `k` clusters: the cores in units of 16 pixels (R284). -/
def evenSplit (w k : Nat) : List (Nat × Nat) :=
  let c := w / (16 * k)
  let extra := w / 16 - k * c
  let order := (List.range k).map (fun j => if j % 2 = 0 then j / 2 else k - 1 - j / 2)
  let widths := (List.range k).map (fun j => c + ((order.take extra).contains j).toNat)
  (List.range k).map (fun j => ((widths.take j).foldl (· + ·) 0, (widths.take (j + 1)).foldl (· + ·) 0))

/-- CLK_PX cycles of a frame (R35). -/
def State.frameCycles (s : State) (i : Nat) : Nat := ceilDiv (s.widest i) 12 * s.strH i + 320

/-- The digest of the running image; empty before one is applied. -/
def State.imgDigest (s : State) : List Byte := match s.plane with | some p => p.digest | none => []

/-- Stream `i` runs in DECIMATE mode (R36); which mode an image sets is a free value (log entry 17). -/
def State.decimates (s : State) (i : Nat) : Bool := Config.decimate s.imgDigest i

/-- T_min of R211 in ninths of a time unit: 1 / f_cap at a step, not below 1 µs (R35). -/
def State.tminAt (s : State) (i step : Nat) : Nat :=
  max (9000 * tuPerNs) (s.frameCycles i * (90 * tuPerNs) / pxPerNs step)

/-- T_min in force: 0 where test 9 does not apply (R211). -/
def State.tminNow (s : State) (i step : Nat) : Nat :=
  if (s.servers i).isEmpty || s.decimates i then 0 else s.tminAt i step

/-- m of DECIMATE mode at a step (R36): the smallest m with stream rate / m at most f_cap. -/
def State.decM (s : State) (i step : Nat) : Nat :=
  max 1 (ceilDiv (Config.streamRate s.imgDigest i * s.tminAt i step) (9 * tuPerSec))

/-! ### Slots and addresses -/

/-- Bytes per pixel of a CORRECTED frame (R302). -/
def State.corrBytes (s : State) (i : Nat) : Nat :=
  match s.lead i with
  | some c => if s.fld (rPixCorr c) 0 2 = 2 then 4 else 2
  | none => 2

/-- Line pitch of a slot (R174, R302). -/
def State.pitch (s : State) (i : Nat) : Nat :=
  match s.strLayout i with
  | 0 => roundUp (s.lineBytes i) 64
  | 3 => roundUp (s.strW i * s.corrBytes i) 64
  | _ => roundUp (s.strW i * 2) 64

/-- LENGTH of a slot (R174, R278, R302). -/
def State.slotLen (s : State) (i : Nat) : Nat :=
  if s.strLayout i = 2 then roundUp (s.strH i / 16 * (32 + 24 * s.strW i)) 4096
  else roundUp (s.pitch i * s.strH i) 4096 + s.strMeta i

/-- The partition that a stream writes (R254). -/
def State.partOf (s : State) (i : Nat) : Option Nat :=
  (List.range 32).find? (fun p => s.bit (rIngPartCfg p) 31 && s.fld (rIngPartCfg p) 16 6 == i)

/-- Module address of a region's base. -/
def State.rgnAddr (s : State) (r : Nat) : Nat := s.fld (rMemRgnBase r) 0 18 * 2 ^ 20

/-- Module address of the first byte of a partition's region. -/
def State.partRgn (s : State) (p : Nat) : Nat := s.rgnAddr (s.fld (rIngPartCfg p) 0 4)

/-- LCOUNT, at least 1. -/
def State.lcount (s : State) (p : Nat) : Nat := max 1 (s.fld (rIngPartLcount p) 0 20)

/-- The ledger region (R450). -/
def State.ledgerRgn (s : State) : Nat := s.fld rHstNsmap 0 4

/-- Address of the ledger entry at offset `k` of a partition's range (R254, R450). -/
def State.ledgerAddr (s : State) (p k : Nat) : Nat :=
  s.rgnAddr s.ledgerRgn + (s.fld (rIngPartLbase p) 0 19 + k) * 128

/-- Base of the ledger annex (R280). -/
def State.annexAddr (s : State) : Nat := s.rgnAddr (s.fld rIngAnnex 0 4)

/-- Address of a segment record (R255). -/
def State.recAddr (s : State) (p seg : Nat) : Nat :=
  s.annexAddr + s.fld (rIngPartSrbase p) 0 24 * 4096 + seg % 256 * 512

/-- Address of the Tally record of the entry at ledger offset `k` (R255). -/
def State.tallyAddr (s : State) (p k : Nat) : Nat :=
  s.annexAddr + s.fld (rIngPartTbase p) 0 24 * 4096 + k * 4096

/-- Attestation runs for a partition (R92, R271). -/
def State.attested (s : State) (p : Nat) : Bool :=
  s.bit (rIngPartCfg p) 30 && s.strLayout (s.fld (rIngPartCfg p) 16 6) != 2

/-- A partition's region names a sub-channel that is fenced or failed (R127, R263). -/
def State.degraded (s : State) (p : Nat) : Bool :=
  (maskBits (s.fld (rMemRgnMap (s.fld (rIngPartCfg p) 0 4)) 16 16)).any
    (fun n => !s.scUp n || s.fld (rMemScStat n) 28 4 == 4)

/-! ### The state of streams -/

/-- STATE of a stream's window: 0 IDLE, 1 ARMED, 2 POST, 3 CLOSING (R228). -/
def State.winState (s : State) (i : Nat) : Nat := s.fld (rSchStrStat i) 28 4

/-- A stream is armed: its window is ARMED or POST (R219). -/
def State.armed (s : State) (i : Nat) : Bool := s.winState i == 1 || s.winState i == 2

/-- A stream has an open segment: armed, or CLOSING until the segment has closed (R87). -/
def State.capturing (s : State) (i : Nat) : Bool := s.winState i != 0

/-- The armed streams. -/
def State.armedStrs (s : State) : List Nat := idxs 64 s.armed

/-- The streams with an open segment. -/
def State.captureStrs (s : State) : List Nat := idxs 64 s.capturing

/-- DEV_CFG_STAT.CAPTURE: from the arming of any stream until the last segment has closed (R87). -/
def State.syncCapture (s : State) : State := s.setBit rDevCfgStat 3 (!s.captureStrs.isEmpty)

/-- A stream's window as its state register has it. -/
def State.setWin (s : State) (i st : Nat) : State :=
  ((if st = 2 then s else s.setFld (rSchStrStat i) 0 24 0).setFld (rSchStrStat i) 28 4 st).syncCapture

/-- An empty partition. -/
def Part.init : Part := ⟨0, 0, none, [], [], []⟩

/-- Partition `p`. -/
def State.part (s : State) (p : Nat) : Part := Map.get (fun _ => Part.init) s.ing.parts p

/-- Put a partition. -/
def State.setPart (s : State) (p : Nat) (v : Part) : State :=
  { s with ing := { s.ing with parts := Map.set (fun _ => Part.init) s.ing.parts p v } }

/-- Put the frames. -/
def State.setFrames (s : State) (l : List Frame) : State := { s with ing := { s.ing with frames := l } }

/-- A stream of the Schedule before it is armed. -/
def SchStr.init : SchStr := ⟨none, none, 0, none, 0, 1, 0#64, false, none, false⟩

/-- What the Schedule holds of stream `i`. -/
def State.schStr (s : State) (i : Nat) : SchStr := Map.get (fun _ => SchStr.init) s.sch.strs i

/-- Put it. -/
def State.setSchStr (s : State) (i : Nat) (v : SchStr) : State :=
  { s with sch := { s.sch with strs := Map.set (fun _ => SchStr.init) s.sch.strs i v } }

/-- SCH_STRi_TMIN: T_min in ns and 1/256 ns, rounded up (R228). -/
def tminWord (n : Nat) : Word := BitVec.ofNat 32 (ceilDiv (n * 256) (9 * tuPerNs))

/-- T_EXPO of an exposure of stream `i` and its NO_MINT flag (R475). -/
def State.texpoStr (s : State) (i : Nat) (t : Int) : List Byte × BitVec 32 :=
  if (s.schStr i).noMint then ((Mint.mk (s.now / nsPerSec) (s.now % nsPerSec) 0).bytes, 0x100000#32) else s.texpo t

/-- T_min and m of a stream at a step come into force (R36, R211). -/
def State.applyCap (s : State) (i step : Nat) : State :=
  let t := s.tminNow i step
  (s.setSchStr i { s.schStr i with tmin := t, m := s.decM i step }).wr (rSchStrTmin i) (tminWord t)

end Sys2Proof.Machine
end

