-- ==== Sys2Proof/Machine/Recording.lean ====
section
/-! DEFINITION. Recording and the Frame Ledger (10): serials, ledger entries, space in partitions, segments, attestation,
release, and recovery after retention. -/

namespace Sys2Proof.Machine

open Sys2Proof

/-! ### Serials -/

/-- The modulus of serial comparison (R267). -/
def serialMod : Nat := 2 ^ 48 - 1

/-- Serial `b` is later than serial `a` (R267). -/
def serialLater (a b : Nat) : Bool :=
  let d := (b + serialMod - a % serialMod) % serialMod
  decide (1 ≤ d) && decide (d ≤ 2 ^ 47 - 1)

/-- The serial after `n`: 0xFFFF_FFFF_FFFF names no entry (R267). -/
def serialNext (n : Nat) : Nat := (n + 1) % serialMod

/-- Take the next serial (R266). -/
def State.takeSerial (s : State) : State :=
  let n := serialNext s.ing.serial
  ({ s with ing := { s.ing with serial := n } } : State).setLive rIngSerialLo (BitVec.ofNat 64 n)

/-! ### Entries -/

/-- An entry with nothing in it. -/
def Entry.blank : Entry :=
  ⟨0, 0, 0, 0, 0, 0, 0, 0, 0, 0, 0#32, 0, 0, 0, List.replicate 12 0#8, none, List.replicate 4 0#64, 0#64, 0, 0, 0, 0,
   false, false, false, false, List.replicate 32 0#8⟩

/-- R265: the 128 bytes of an entry, with a chain value. A gap's ADDR and LENGTH are 0 (R266). -/
def Entry.bytes (e : Entry) (chain : List Byte) : List Byte :=
  leBytes 6 e.serial ++ leBytes 1 e.kind ++ leBytes 1 (e.head * 64 + e.stream) ++ leBytes 1 e.part ++
  leBytes 1 e.epochReq ++ leBytes 1 e.epochApp ++ leBytes 1 e.valid ++ leBytes 4 e.flags.toNat ++
  leBytes 6 (if e.kind = 2 then 0 else e.addr) ++ leBytes 2 e.seg ++ leBytes 4 (if e.kind = 2 then 0 else e.length) ++
  leBytes 4 e.tdur ++ e.texpo ++
  leBytes 4 (e.tallyRef.getD 0xFFFFFFFF) ++ e.ax.flatMap (fun v => leBytes 8 v.toNat) ++ leBytes 8 e.mains.toNat ++
  leBytes 6 e.trig ++ leBytes 2 e.fe ++ chain

/-- An entry read back from its 128 bytes (R276), at offset `k` of the range of partition `p`. -/
def Entry.ofBytes (p k : Nat) (b : List Byte) : Entry :=
  { Entry.blank with
    serial := leAt b 0 6, kind := leAt b 6 1, head := leAt b 7 1 / 64, stream := leAt b 7 1 % 64, part := p, idx := k,
    epochReq := leAt b 9 1, epochApp := leAt b 10 1, valid := leAt b 11 1, flags := BitVec.ofNat 32 (leAt b 12 4),
    addr := leAt b 16 6, seg := leAt b 22 2, length := leAt b 24 4, tdur := leAt b 28 4, texpo := slice b 32 12,
    tallyRef := if leAt b 44 4 = 0xFFFFFFFF then none else some (leAt b 44 4),
    ax := (List.range 4).map (fun i => BitVec.ofNat 64 (leAt b (48 + 8 * i) 8)),
    mains := BitVec.ofNat 64 (leAt b 80 8), trig := leAt b 88 6, fe := leAt b 94 2, final := true, written := true,
    chain := slice b 96 32 }

/-- Replace the entry of a serial. -/
def updEntry (l : List Entry) (serial : Nat) (f : Entry → Entry) : List Entry :=
  l.map (fun e => if e.serial = serial then f e else e)

/-- Change the entry of a serial in partition `p`. -/
def State.modEntry (s : State) (p serial : Nat) (f : Entry → Entry) : State :=
  s.setPart p { s.part p with entries := updEntry (s.part p).entries serial f }

/-- The entry of a serial in partition `p`. -/
def State.entry (s : State) (p serial : Nat) : Option Entry := (s.part p).entries.find? (fun e => e.serial == serial)

/-- Outstanding exposures of a head, over every partition, in order of their counts (R165). -/
def State.outstanding (s : State) (n : Nat) : List Entry :=
  s.ing.parts.flatMap (fun q => q.2.entries.filter (fun e => e.kind == 0 && e.head == n))

/-! ### Space -/

/-- An entry holds a slot that overlaps `[a, a + len)` (R259). A gap that was an admitted exposure holds its slot as long
as its entry is held (R256). -/
def Entry.overlaps (e : Entry) (a len : Nat) : Bool :=
  decide (e.kind ≤ 2) && !e.freed && decide (0 < e.length) && decide (e.addr < a + len) && decide (a < e.addr + e.length)

/-- The first held entry that stands in the way of ledger offset `i` or of a slot. -/
def Part.blocker (q : Part) (idxs : List Nat) (a len : Nat) : Option Entry :=
  q.entries.find? (fun e => (!e.freed && idxs.contains e.idx) || e.overlaps a len)

/-- Where a slot of `len` bytes would start: the write pointer, or the base where it would pass the end (R256). -/
def State.slotAt (s : State) (p len : Nat) : Nat :=
  let w := s.fld (rIngPartWptr p) 0 28 * 4096
  let e := (s.fld (rIngPartBase p) 0 28 + s.fld (rIngPartSize p) 0 28) * 4096
  s.partRgn p + (if w + len ≤ e then w else s.fld (rIngPartBase p) 0 28 * 4096)

/-- CHAIN_START follows the entries freed before a trigger (R273). -/
def Seg.follow (g : Seg) (e : Entry) : Seg :=
  if g.first.isNone && e.written then { g with start := e.chain } else g

/-- Free one entry of a partition with its slot, counted in DROPPED (R260, R262). An entry not yet written stays in the
list, holding no space, until its chain value is known. -/
def State.freeEntry (s : State) (p : Nat) (e : Entry) : State :=
  let q := s.part p
  let es := if e.written then q.entries.filter (fun x => x.serial != e.serial)
    else updEntry q.entries e.serial (fun x => { x with freed := true })
  (s.setPart p { q with
    entries := es, seg := q.seg.map (fun g => g.follow e), gone := if e.kind = 1 then q.gone ++ [e.serial] else q.gone }).count
    (rIngPartDropped p)

/-- Entries of the open segment that hold space, oldest first. -/
def Part.held (q : Part) : List Entry :=
  match q.seg with
  | none => []
  | some g => q.entries.filter (fun e => e.seg == g.num && !e.freed)

/-- An entry is kept under R261, once the first kept entry is fixed. -/
def Seg.keeps (g : Seg) (e : Entry) : Bool :=
  match g.first with
  | none => true
  | some f => e.serial == f || serialLater f e.serial

/-- The open segment of stream `i` begins to close, for the reasons in `bits` of STATUS (R262). -/
def State.beginClose (s : State) (i bits : Nat) : State :=
  match s.partOf i with
  | none => s
  | some p =>
    let q := s.part p
    if s.winState i = 0 then s
    else
      (((s.setPart p { q with seg := q.seg.map (fun g => { g with status := g.status ||| bits }) }).setWin i 3).setFld
        (rIngPartStat p) 28 4 3)

/-- An entry of the open segment of stream `i` is kept (R261). From an accepted trigger until the trigger entry is placed
the PRE entries before it are those held last. -/
def State.kept (s : State) (i : Nat) (q : Part) (g : Seg) (e : Entry) : Bool :=
  if g.first.isNone && (s.schStr i).trig.isSome then
    (q.held.drop (q.held.length - s.fld (rSchStrPre i) 0 24)).any (fun x => x.serial == e.serial)
  else g.keeps e

/-- R260: make space for a slot of `len` bytes and for ledger offsets; none where the segment closes with FULL. -/
def State.makeSpace (s : State) (i p len : Nat) (idxs : List Nat) : Nat → State × Bool
  | 0 => (s, false)
  | fuel + 1 =>
    let q := s.part p
    match q.blocker idxs (s.slotAt p len) len, q.seg with
    | none, _ => (s, true)
    | some _, none => (s, false)
    | some e, some g =>
      let cont := s.fld (rSchStrWin i) 30 2 == 0
      let full := e.seg != g.num || (s.winState i == 2 && s.kept i q g e) || (cont && !s.bit (rIngPartCfg p) 29)
      if full then (((s.beginClose i 0x10).raise 0x063 9), false)
      else
        match q.held.head? with
        | none => (s, false)
        | some o => State.makeSpace (s.freeEntry p o) i p len idxs fuel

/-- Ledger offsets that an entry needs free: its own, and the one kept for the SEGMENT entry (R258). -/
def State.needIdx (s : State) (p : Nat) (isSeg : Bool) : List Nat :=
  let n := (s.part p).next
  if isSeg then [n] else [n, (n + 1) % s.lcount p]

/-- Put an entry into its partition: it takes the next serial and ledger offset, and a slot where `len` is not 0
(R256, R258, R266). The space has been made. -/
def State.putEntry (s : State) (p len : Nat) (e : Entry) : State :=
  let q := s.part p
  let a := s.slotAt p len
  let e1 : Entry := { e with
    serial := s.ing.serial, part := p, idx := q.next, seg := (match q.seg with | some g => g.num | none => e.seg)
    addr := if len = 0 then e.addr else a, length := if len = 0 then e.length else len }
  let s1 := s.setPart p { q with entries := q.entries ++ [e1], next := (q.next + 1) % s.lcount p }
  let s2 := if len = 0 then s1 else s1.setFld (rIngPartWptr p) 0 28 ((a + len - s.partRgn p) / 4096)
  s2.takeSerial

/-- Place an entry of stream `i`; the answer is its serial, or none where no space was found (R260). -/
def State.place (s : State) (i len : Nat) (e : Entry) : State × Option Nat :=
  match s.partOf i with
  | none => (s, none)
  | some p =>
    let r := s.makeSpace i p len (s.needIdx p false) ((s.part p).entries.length + 1)
    if r.2 then (r.1.putEntry p len e, some r.1.ing.serial) else (r.1, none)

/-! ### Flags (R268) -/

/-- A FLAGS bit. -/
def flag (n : Nat) : BitVec 32 := BitVec.ofNat 32 (2 ^ n)

/-- The flags that count as an anomaly (R171): SHORT_LINE, LONG_LINE, LINE_GAP, LINE_ORDER, SHORT_FRAME, LONG_FRAME,
MISSING_FE, LINK_ERR, OVERFLOW. -/
def anomalyMask : BitVec 32 := 0x5FE0#32

/-- The flags of a partition's layout: UNATTESTED and STRIP (R92, R268, R277). -/
def State.layoutFlags (s : State) (p : Nat) : BitVec 32 :=
  (if s.attested p then 0#32 else flag 25) |||
  (if s.strLayout (s.fld (rIngPartCfg p) 16 6) = 2 then flag 24 else 0#32)

/-- An exposure that yields no frame becomes a gap; its slot is free together with the gap entry (R166, R167, R256). -/
def State.toGap (s : State) (p serial : Nat) (fl : BitVec 32) : State :=
  s.modEntry p serial (fun e => { e with
    kind := 2, epochApp := 0, tallyRef := none, flags := e.flags ||| fl, final := true,
    owed := false })

/-! ### Attestation (R271, R272) -/

/-- The nodes of one level joined in pairs; an odd last node moves up. -/
def pairUp : List (List Byte) → List (List Byte)
  | a :: b :: l => sha384 (0x01#8 :: (a ++ b)) :: pairUp l
  | l => l

/-- The root over hashed leaves, in at most `fuel` levels. -/
def treeRoot : Nat → List (List Byte) → List Byte
  | 0, l => l.head?.getD []
  | fuel + 1, l => if l.length ≤ 1 then l.head?.getD [] else treeRoot fuel (pairUp l)

/-- The frame digest D over the bytes of a slot. -/
def frameDigest (m : List Byte) : List Byte :=
  let n := ceilDiv m.length 65536
  let leaves := (List.range n).map (fun j => sha384 (0x00#8 :: slice m (65536 * j) 65536))
  sha384 (0x02#8 :: (leBytes 8 m.length ++ treeRoot n leaves))

/-- The seed c_0 of a segment's chain. -/
def chainSeed (p i seg : Nat) (tOpen digest : List Byte) : List Byte :=
  (sha384 (leBytes 8 Config.moduleId.toNat ++ leBytes 1 p ++ leBytes 1 i ++ leBytes 2 seg ++ tOpen ++ digest)).take 32

/-- The chain value after an entry, with the digest of its frame or zeros. -/
def chainNext (c : List Byte) (e : Entry) (d : List Byte) : List Byte :=
  (sha384 (c ++ e.bytes (List.replicate 32 0#8) ++ d)).take 32

/-- Bytes pass the write port into the slot of `serial`, at an offset (R271). -/
def State.portPut (s : State) (serial off : Nat) (b : List Byte) : State :=
  { s with ing := { s.ing with
    port := Map.set (fun _ => []) s.ing.port serial (Map.get (fun _ => []) s.ing.port serial ++ [(off, b)]) } }

/-- The slot address of a frame's entry. -/
def State.slotOf (s : State) (f : Frame) : Nat :=
  match s.entry f.part f.serial with | some e => e.addr | none => 0

/-- Bytes of a frame are written at `a` in its slot: they pass the write port into recording memory. -/
def State.slotWrite (s : State) (f : Frame) (a : Nat) (b : List Byte) : State :=
  ((s.memWrite a b).1).portPut f.serial (a - s.slotOf f) b

/-- What has passed the write port into the slot of `serial`, of `len` bytes. -/
def State.portBytes (s : State) (serial len : Nat) : List Byte :=
  ((Map.get (fun _ => []) s.ing.port serial).foldl (fun m p => m.take p.1 ++ p.2 ++ m.drop (p.1 + p.2.length))
    (List.replicate len 0#8)).take len

/-- The write port forgets a serial. -/
def State.portDrop (s : State) (serial : Nat) : State :=
  { s with ing := { s.ing with port := Map.set (fun _ => []) s.ing.port serial [] } }

/-! ### Strip headers and the legacy index (R278, R279) -/

/-- Total nanoseconds of a T_EXPO. -/
def texpoNs (t : List Byte) : Nat := leAt t 6 6 * nsPerSec + leAt t 2 4

/-- The header of strip `k` of a frame. -/
def stripHeader (e : Entry) (w strips k : Nat) (crc : Nat) : List Byte :=
  leBytes 4 0x4E445354 ++ leBytes 2 k ++ leBytes 2 strips ++ leBytes 4 e.serial ++ leBytes 2 w ++ leBytes 2 (16 * k) ++
  leBytes 4 e.flags.toNat ++ leBytes 4 (texpoNs e.texpo) ++ leBytes 4 crc ++ leBytes 4 0

/-- Bytes of a strip slot at `addr`, of `len` bytes, go to the port of head `n`: lines and headers share bursts, so the
bursts carry what has passed the write port so far. -/
def State.stripPut (s : State) (n serial addr len off : Nat) (b : List Byte) : State :=
  let t := s.portPut serial off b
  let lo := off / 64 * 64
  let hi := roundUp (off + b.length) 64
  t.request (4 + n) true (addr + lo) (hi - lo) (slice (t.portBytes serial len) lo (hi - lo)) false false

/-- Write the headers of a strip frame whose lines have passed the write port. -/
def State.writeStrips (s : State) (i : Nat) (e : Entry) : State :=
  let w := s.strW i
  let n := s.strH i / 16
  let m := s.portBytes e.serial e.length
  s.forEach (List.range n) fun t k =>
    let o := k * (32 + 24 * w)
    t.stripPut e.head e.serial e.addr e.length o (stripHeader e w n k (crc32c (slice m (o + 32) (24 * w))))

/-- The legacy index entry of a FRAME or GAP entry. -/
def legacyEntry (e : Entry) (w h : Nat) : List Byte :=
  let gap := e.kind == 2
  let st := (if e.flags &&& anomalyMask = 0#32 then 0 else 1) + (if gap then 2 else 0)
  let b := leBytes 4 e.serial ++ leBytes 4 (if gap then 0 else e.addr / 4096) ++ leBytes 4 (if gap then 0 else e.length) ++
    leBytes 4 (texpoNs e.texpo) ++ leBytes 4 (texpoNs e.texpo / 2 ^ 32) ++ leBytes 2 w ++ leBytes 2 h ++ leBytes 4 st
  b ++ leBytes 4 (crc32c b)

/-! ### Writing an entry (R269) -/

/-- The entry that is written next in a partition: the first not written, once every field is final and its Tally
record is written or not owed. -/
def Part.ready (q : Part) : Option Entry :=
  match q.entries.find? (fun e => !e.written) with
  | some e => if e.final && !e.owed then some e else none
  | none => none

/-- The chain value of an entry of a segment, over the slot's bytes as they passed the write port (R271): zeros in an
unattested partition. -/
def State.chainOf (s : State) (p : Nat) (g : Seg) (e : Entry) : List Byte :=
  if s.attested p then
    chainNext g.chain e (if e.kind = 1 then frameDigest (s.portBytes e.serial e.length) else List.replicate 48 0#8)
  else List.replicate 32 0#8

/-- The segment after an entry of chain value `c` has been written: the chain runs on, and CHAIN_START takes the value
before the first kept entry (R273). -/
def Seg.advance (g : Seg) (e : Entry) (c : List Byte) : Seg :=
  let g1 := { g with chain := c }
  if e.freed && g.first.isNone then { g1 with start := c }
  else match g.first with
    | some f => if serialLater e.serial f then { g1 with start := c } else g1
    | none => g1

/-- Write one entry whole: chain value, ledger bytes, strip headers and legacy index. -/
def State.writeEntry (s : State) (p : Nat) (e0 : Entry) : State :=
  let q := s.part p
  let i := s.fld (rIngPartCfg p) 16 6
  let e := { e0 with flags := e0.flags ||| s.layoutFlags p }
  let strip := s.strLayout i == 2
  let s1 := if strip && e.kind == 1 && !e.freed then s.writeStrips i e else s
  match q.seg with
  | none => s
  | some g =>
    let c := s1.chainOf p g e
    let es := if e.freed then q.entries.filter (fun x => x.serial != e.serial)
      else updEntry q.entries e.serial (fun _ => { e with written := true, chain := c })
    let s2 := (s1.setPart p { q with entries := es, seg := some (g.advance e c) }).portDrop e.serial
    if e.freed then s2
    else
      let s3 := (s2.memWrite (s.ledgerAddr p e.idx) (e.bytes c)).1
      if strip && (e.kind == 1 || e.kind == 2) then
        (s3.memWrite (s.annexAddr + s.fld (rIngPartIbase p) 0 24 * 4096 + 32 * e.idx) (legacyEntry e (s.strW i) (s.strH i))).1
      else s3

/-- LEDGER_ENTRY_WRITE (R269). A fenced recording unit writes nothing (R38). -/
def execLedgerEntryWrite (part : Fin 32) (s : State) : Host.Outcome State Fault Refusal :=
  .next (match s.unitLive 3 9, (s.part part).ready with
    | true, some e => s.writeEntry part e
    | _, _ => s)

/-! ### Segments -/

/-- Open a segment in the partition of stream `i` (R259, R263): the new state, and whether it opened. -/
def State.openSeg (s : State) (i : Nat) : State × Bool :=
  match s.partOf i with
  | none => (s, false)
  | some p =>
    let q := s.part p
    let heldPos := q.closed.any (fun n => n % 256 == q.segNext % 256)
    let heldSpace := (q.blocker [q.next] (s.slotAt p (s.slotLen i)) (s.slotLen i)).isSome
    if heldPos || heldSpace || s.degraded p then
      (((s.count (rIngPartRefused p)).raise 0x063 9), false)
    else
      let t := (s.texpo s.nowTu).1
      let c := chainSeed p i q.segNext t s.imgDigest
      let att := s.attested p
      let z := List.replicate 32 0#8
      let st := (s.bit rDevCfgStat 4).toNat + (if att then 0 else 8)
      let g : Seg := ⟨q.segNext, t, if att then c else z, if att then c else z, none, none, st⟩
      let s1 := s.setPart p { q with seg := some g, segNext := (q.segNext + 1) % 65536 }
      (((s1.setFld (rIngPartStat p) 28 4 2).setFld (rIngPartStat p) 0 16 g.num).raise 0x060 9, true)

/-- R274: the 288 bytes of a segment record. -/
def segRecord (p i : Nat) (g : Seg) (kept : List Entry) (last : Entry) (tClose chainEnd digest : List Byte)
    (status : Nat) : List Byte :=
  let all := kept ++ [last]
  let first := all.head?.getD last
  leBytes 4 0x44534547 ++ leBytes 1 1 ++ leBytes 1 p ++ leBytes 1 i ++ leBytes 1 0 ++ leBytes 2 g.num ++
  leBytes 2 status ++ leBytes 4 all.length ++ leBytes 8 first.serial ++ leBytes 8 last.serial ++
  leBytes 8 (g.trigSerial.getD 0xFFFFFFFFFFFF) ++ leBytes 4 first.idx ++
  leBytes 4 (kept.countP (fun e => e.kind == 1)) ++ g.tOpen ++ tClose ++ leBytes 8 Config.moduleId.toNat ++
  (digest ++ List.replicate (48 - digest.length) 0#8) ++ g.start ++ chainEnd ++ List.replicate 96 0#8

/-- The signing queue is full: 32 digests, with the one being signed (R116). -/
def State.sigFull (s : State) : Bool := decide (32 ≤ s.vlt.sigq.length)

/-- ING_REC_STAT.SIGQ follows the queue (R280). -/
def State.syncSigq (s : State) : State := s.setFld rIngRecStat 8 8 s.vlt.sigq.length

/-- Steps 2 to 5 of R262 for the partition of a closing stream whose entries are all written. FIRST_INDEX is the ledger
index, LBASE included. -/
def State.closeSeg (s : State) (p : Nat) : State :=
  let q := s.part p
  match q.seg with
  | none => s
  | some g =>
    let i := s.fld (rIngPartCfg p) 16 6
    let drop := q.entries.filter (fun e => e.seg == g.num && !g.keeps e)
    let s1 := drop.foldl (fun t e => t.freeEntry p e) s
    let tc := (s.texpo s.nowTu).1
    let e : Entry := { Entry.blank with
      kind := 4, head := i / 16, stream := i, part := p, seg := g.num, texpo := tc, addr := s.recAddr p g.num, length := 288,
      flags := (s.texpo s.nowTu).2, final := true }
    let s2 := s1.putEntry p 0 e
    let e1 := (s2.part p).entries.getLast?.getD e
    let s3 := s2.writeEntry p e1
    let g3 := (s3.part p).seg.getD g
    let kept := (s3.part p).entries.filter (fun x => x.seg == g.num && x.kind != 4 && g.keeps x)
    let lb := s.fld (rIngPartLbase p) 0 19
    let withIdx := fun (x : Entry) => { x with idx := lb + x.idx }
    let att := s.attested p
    let st := g.status + (if s.otp.zeroized then 4 else 0)
    let digest := s.imgDigest
    let rec0 := segRecord p i g3 (kept.map withIdx) (withIdx e1) tc g3.chain digest st
    let s4 := (s3.memWrite (s.recAddr p g.num) (rec0 ++ List.replicate 224 0#8)).1
    let q4 := s4.part p
    let s5 := s4.setPart p { q4 with seg := none, closed := q4.closed ++ [g.num] }
    let s6 := ((s5.setFld (rIngPartStat p) 28 4 1).setFld (rIngPartStat p) 16 9 q4.closed.length.succ).setFld
      (rIngPartStat p) 0 16 g.num
    let s7 := if att && !s.otp.zeroized then
        ({ s6 with vlt := { s6.vlt with
            sigq := s6.vlt.sigq ++ [⟨p, g.num, s.recAddr p g.num, sha384 (rec0.take 0xC0)⟩] } } : State).syncSigq
      else s6
    s7.raise 0x061 9

/-- The signature of the oldest digest is written into its record (R116, R262). -/
def State.signRecord (s : State) (r : SigReq) (k : Nat) : State :=
  let sg := akSign r.digest k
  ((s.memWrite (r.addr + 0xC0) (beBytes 48 sg.1 ++ beBytes 48 sg.2)).1).raise 0x062 9

/-! ### Release and erase (R264) -/

/-- RELEASE of one closed segment: its entries, slots and table position are free. -/
def State.releaseSeg (s : State) (p seg : Nat) : State :=
  let q := s.part p
  let out := fun (e : Entry) => e.seg == seg && !q.seg.any (fun g => g.num == seg)
  let s1 := s.setPart p { q with
    entries := q.entries.filter (fun e => !out e)
    gone := q.gone ++ ((q.entries.filter (fun e => out e && e.kind == 1)).map (·.serial)),
    closed := q.closed.filter (· != seg) }
  s1.setFld (rIngPartStat p) 16 9 (q.closed.filter (· != seg)).length

/-- SEGMENT_RELEASE: a write of ING_PARTp_CMD. ERASE acts alone when both bits are set (R281); a segment that is still
closing keeps its entries and ledger offsets (DESIGN CHOICE, log entry 111). -/
def State.partCmd (s : State) (p : Nat) (v : Word) : State :=
  let q := s.part p
  let seg := fget v 16 16
  if !s.unitLive 3 9 then s
  else if v.getLsbD 1 then
    if s.armed (s.fld (rIngPartCfg p) 16 6) then s.violation (rIngPartCmd p)
    else
      let n := s.lcount p
      let open_ := fun (e : Entry) => q.seg.any (fun g => g.num == e.seg)
      let out := q.entries.filter (fun e => !open_ e)
      let s1 := (s.memWrite (s.ledgerAddr p 0) (List.replicate (128 * n) 0#8)).1
      let s2 := s1.setPart p { q with
        entries := q.entries.filter open_, closed := [], next := if q.seg.isSome then q.next else 0,
        gone := q.gone ++ ((out.filter (·.kind == 1)).map (·.serial)) }
      (s2.setFld (rIngPartStat p) 16 9 0).setFld (rIngPartWptr p) 0 28 (s.fld (rIngPartBase p) 0 28)
  else if v.getLsbD 0 then
    if q.seg.any (fun g => g.num == seg) then s.violation (rIngPartCmd p)
    else if q.closed.contains seg then s.releaseSeg p seg
    else s
  else s

/-- SEGMENT_RELEASE (R264). -/
def execSegmentRelease (part : Fin 32) (v : Word) (s : State) : Host.Outcome State Fault Refusal :=
  if !s.reaches 3 then .next s else
  .next (s.partCmd part v)

/-- ERASE (R264): a write of ING_PARTp_CMD with ERASE set. -/
def execErase (part : Fin 32) (s : State) : Host.Outcome State Fault Refusal :=
  if !s.reaches 3 then .next s else
  .next (s.partCmd part 2#32)

/-! ### Recovery after retention (R276) -/

/-- One ledger slot of the scan, from the 128 bytes read: an uncorrectable read counts and is free. -/
def scanSlot (p k : Nat) (es : List Entry) (d : State × MStat × List Byte) : State × List Entry :=
  if d.2.1 = .poison then (((d.1.count rIngLedgerUe).raise 0x064 9), es)
  else if 1 ≤ (Entry.ofBytes p k d.2.2).kind ∧ (Entry.ofBytes p k d.2.2).kind ≤ 4 ∧ d.2.1 = .ok then
    (d.1, es ++ [Entry.ofBytes p k d.2.2])
  else (d.1, es)

/-- The scan's step at slot k. -/
def State.scanStep (s : State) (p : Nat) (r : State × List Entry) (k : Nat) : State × List Entry :=
  scanSlot p k r.2 (r.1.memRead (s.ledgerAddr p k) 128)

/-- The entries found in the ledger range of a partition. -/
def State.scanRange (s : State) (p : Nat) : State × List Entry := (List.range (s.lcount p)).foldl (s.scanStep p) (s, [])

/-- The latest entry by serial. -/
def latest (l : List Entry) : Option Entry :=
  l.foldl (fun (b : Option Entry) e => match b with
    | none => some e
    | some x => if serialLater x.serial e.serial then some e else some x) none

/-- Entries in ascending serial order: rotate the ring so that it starts after the latest. -/
def ringOrder (l : List Entry) : List Entry :=
  match latest l with
  | none => []
  | some m => (l.filter (fun e => m.idx < e.idx)) ++ (l.filter (fun e => e.idx ≤ m.idx))

/-- A segment that R130 closed (R275): its record in the segment table is that of partition `p` and segment `n`, with
POWER_FAIL. -/
def State.pfClosed (s : State) (p n : Nat) : Bool :=
  let b := s.peek (s.recAddr p n) 12
  leAt b 0 4 == 0x44534547 && leAt b 5 1 == p && leAt b 8 2 == n && (leAt b 10 2).testBit 5

/-- The entries that the record of a segment keeps: from FIRST_SERIAL on. -/
def State.recKeeps (s : State) (p : Nat) (e : Entry) : Bool :=
  let f := leAt (s.peek (s.recAddr p e.seg + 0x10) 8) 0 8
  e.serial == f || serialLater f e.serial

/-- One partition recovered from its ledger range: its write pointer, and as closed the segments that R130 closed, with
the entries their records keep. The next segment number is one above that of the latest entry (DESIGN CHOICE, log
entry 18). -/
def State.recoverPart (s : State) (p : Nat) : State :=
  let r := s.scanRange p
  let es := ringOrder r.2
  match latest es with
  | none => r.1
  | some m =>
    let segs := ((es.map (·.seg)).eraseDups).filter (s.pfClosed p)
    let held := es.filter (fun e => segs.contains e.seg && s.recKeeps p e)
    let s1 := r.1.setPart p ⟨(m.idx + 1) % s.lcount p, (m.seg + 1) % 65536, none, held, segs, []⟩
    let s2 := ((s1.setFld (rIngPartStat p) 28 4 1).setFld (rIngPartStat p) 16 9 segs.length).setFld (rIngPartStat p) 0 16 m.seg
    match latest (es.filter (fun e => e.kind == 1)) with
    | none => s2
    | some f => s2.setFld (rIngPartWptr p) 0 28 ((f.addr + f.length - s.partRgn p) / 4096)

/-- The used partitions. -/
def State.usedParts (s : State) : List Nat := idxs 32 (fun p => s.bit (rIngPartCfg p) 31)

/-- ING recovers its state before release when content was retained (R125, R276); without content every range is empty,
every write pointer at its base and the serial counter at 0. -/
def State.recoverLedger (s : State) : State :=
  let s0 := s.forEach s.usedParts (fun t p =>
    (t.setFld (rIngPartWptr p) 0 28 (t.fld (rIngPartBase p) 0 28)).setFld (rIngPartStat p) 28 4 1)
  if s.pwr.retained then
    let s1 := s0.forEach s0.usedParts (fun t p => t.recoverPart p)
    let all := s0.usedParts.flatMap (fun p => (s0.scanRange p).2)
    let n := match latest all with | none => 0 | some m => serialNext m.serial
    (({ s1 with ing := { s1.ing with serial := n } } : State).setLive rIngSerialLo (BitVec.ofNat 64 n)).setBit rIngRecStat 0 true
  else
    ({ s0 with ing := { s0.ing with serial := 0, parts := [] } } : State).setLive rIngSerialLo 0

/-- The records left pending (R125): in the segment tables of the used partitions, those with SIG_PENDING whose SIG_R and
SIG_S still read 0 (R274, R275): partition, segment, address. -/
def State.pendingRecs (s : State) : List (Nat × Nat × Nat) :=
  s.usedParts.flatMap fun p => (List.range 256).filterMap fun k =>
    let a := s.recAddr p k
    let b := s.peek a 12
    if leAt b 0 4 = 0x44534547 ∧ leAt b 5 1 = p ∧ (leAt b 10 2).testBit 1 = true ∧
        (s.peek (a + 0xC0) 96).all (· == 0#8) = true then some (p, leAt b 8 2, a) else none

/-- The pairwise test of every signature that signPending makes (R99). -/
def State.pendingOk (s : State) : Bool :=
  s.otp.zeroized || s.pendingRecs.zipIdx.all (fun r =>
    let d := sha384 (s.peek r.1.2.2 0xC0)
    pairwise d (akSign d (s.vlt.drbg + r.2)))

/-- Every pending record is signed before release (R125); ZEROIZED leaves them unsigned. -/
def State.signPending (s : State) : State :=
  if s.otp.zeroized then s
  else
    let l := s.pendingRecs
    let s1 := s.forEach l fun t r =>
      let d := sha384 (t.peek r.2.2 0xC0)
      let t1 := t.signRecord ⟨r.1, r.2.1, r.2.2, d⟩ t.vlt.drbg
      { t1 with vlt := { t1.vlt with drbg := t1.vlt.drbg + 1 } }
    { s1 with pwr := { s1.pwr with sigDone := !l.isEmpty } }

/-- Records not yet signed are written with SIG_PENDING, and the queue ends (R130, R549). -/
def State.markPending (s : State) : State :=
  let s1 := s.forEach s.vlt.sigq fun t r =>
    let b := t.peek (r.addr + 10) 2
    (t.memWrite (r.addr + 10) (leBytes 2 (leNat b ||| 2))).1
  ({ s1 with vlt := { s1.vlt with sigq := [] } } : State).syncSigq

end Sys2Proof.Machine
end

