-- ==== Sys2Proof/Machine/Pixel.lean ====
section
/-! DEFINITION. The pixel clusters (11): tables, the stages S1 to S10 on a frame, corrected frames, proxies, the Tally and
the image triggers. -/

namespace Sys2Proof.Machine

open Sys2Proof

/-! ### Tables (R303, R304) -/

/-- Table kinds: 0 column model, 1 nonlinearity classes, 2 shaper curves, 3 LUT, 4 output curves, 5 scaler banks. -/
def tblKey (k i : Nat) : Nat := k * 2 ^ 20 + i

/-- What an entry never written holds (R303): COLGAIN 1.0, scaler taps 3 and 4, zeros. -/
def tblDefault (key : Nat) : Word :=
  let k := key / 2 ^ 20
  let i := key % 2 ^ 20
  if k = 0 then (if i % 2 = 1 then fone else 0#32)
  else if k = 5 then
    let phi := i / 8 % 64
    if i % 8 = 3 then fdiv (fnat (64 - phi)) (fnat 64)
    else if i % 8 = 4 then fdiv (fnat phi) (fnat 64) else 0#32
  else 0#32

/-- Nothing held for a stream. -/
def PixStr.init : PixStr := ⟨[], [], [], [], 0, 0, false, [none, none, none, none], [false, false, false, false], []⟩

/-- What the clusters hold for stream `i`. -/
def State.pixStr (s : State) (i : Nat) : PixStr := Map.get (fun _ => PixStr.init) s.pix i

/-- Put it. -/
def State.setPixStr (s : State) (i : Nat) (v : PixStr) : State :=
  { s with pix := Map.set (fun _ => PixStr.init) s.pix i v }

/-- An entry of the active bank of a stream. -/
def State.tbl (s : State) (i k n : Nat) : Word :=
  let p := s.pixStr i
  let b := match s.lead i with | some c => s.bit (rPixStat c) 4 | none => false
  Map.get tblDefault (if b then p.bank1 else p.bank0) (tblKey k n)

/-- Write an entry of the inactive bank (R303). -/
def State.setTbl (s : State) (i k n : Nat) (v : Word) : State :=
  let p := s.pixStr i
  let b := match s.lead i with | some c => s.bit (rPixStat c) 4 | none => false
  s.setPixStr i (if b then { p with bank0 := Map.set tblDefault p.bank0 (tblKey k n) v }
    else { p with bank1 := Map.set tblDefault p.bank1 (tblKey k n) v })

/-- The banks of a stream exchange in every serving cluster, each of which raises LUT_SWAPPED (R304, R316). -/
def State.exchange (s : State) (i : Nat) : State :=
  s.forEach (s.servers i) fun t c =>
    (((t.setBit (rPixStat c) 4 (!t.bit (rPixStat c) 4)).setBit (rPixStat c) 0 false).raise (0x094 + 8 * c) 1)

/-- PIX_SWAP: a write of PIX_SWAP.SWAP at cluster `c` (R286, R304). -/
def State.pixSwap (s : State) (c : Nat) (v : Word) : State :=
  if !s.unitLive (5 + c) 1 || !v.getLsbD 0 then s
  else
    let i := s.fld (rPixCfg c) 24 6
    if !s.bit (rPixCfg c) 31 then s
    else if s.lead i != some c then s.violation (rPixSwap c)
    else if s.armed i then s.forEach (s.servers i) (fun t d => t.setBit (rPixStat d) 0 true)
    else s.exchange i

/-- PIX_SWAP. -/
def execPixSwap (pix : Fin 4) (v : Word) (s : State) : Host.Outcome State Fault Refusal :=
  if !s.reaches 5 then .next s else .next (s.pixSwap pix v)

/-! ### Stages -/

/-- A position reflected into `[0, n)` (R285). -/
def reflect (x : Int) (n : Nat) : Nat :=
  if x < 0 then (-x).toNat else if (n : Int) ≤ x then (2 * ((n : Int) - 1) - x).toNat else x.toNat

/-- What the stages read of a frame: geometry, raw pixels, calibration words. -/
structure PixIn where
  w : Nat
  h : Nat
  b : Nat
  i : Nat
  /-- The stream of the head that sent the frame: a member of a staggered group has a share and window of its own. -/
  src : Nat
  c : Nat
  /-- Packed bytes of the lines. -/
  lines : Map (List Byte)
  uncal : Bool

/-- Raw value of a pixel (R144). -/
def PixIn.raw (p : PixIn) (x y : Nat) : Nat :=
  let l := Map.get (fun _ => []) p.lines y
  leNat (slice l (p.b * x / 8) 4) / 2 ^ (p.b * x % 8) % 2 ^ p.b

/-- The word of the Calibration Store for a pixel of stream `src` of a head (R290). -/
def State.storeWord (s : State) (src x y : Nat) : Word :=
  let n := src / 16
  let ofs := s.rd (rIngCalOfs src)
  let a := s.fld (rIngCalBase n) 0 24 + (fget ofs 16 15 + y) * s.fld (rIngCalGrid n) 0 15 + (fget ofs 0 15 + x)
  Map.get (fun _ => 0#32) s.ing.cal a

/-- The default word (R289). -/
def calDefault : Word := 0x08000000#32

/-- What S1 and S2 read: the raw pixels of a frame, their calibration words, black levels, gains and tables, and whether
the pixels have colours (R291, R293; for COR, R321). -/
structure Mosaic where
  w : Nat
  h : Nat
  b : Nat
  raw : Nat → Nat → Nat
  word : Nat → Nat → Word
  black : Nat → Word
  cg : Nat → Word
  tbl : Nat → Nat → Word
  cfa : Bool

/-- CFA position (R291). -/
def cfaPos (x y : Nat) : Nat := 2 * (y % 2) + x % 2

/-- 2^n as binary32. -/
def fpow2 (n : Int) : Word := fenc false 1 n false

/-- delta(nlc, d) of R291. -/
def Mosaic.nlDelta (m : Mosaic) (c : Nat) (d : Word) : Word :=
  if c = 0 then 0#32
  else
    let u := fclamp (fdiv (fmul d (fnat 256)) (fpow2 m.b)) 0#32 (fnat 256)
    let i := min (ffloor u).toNat 255
    let f := fsub u (fnat i)
    let a := m.tbl 1 ((c - 1) * 257 + i)
    fadd a (fmul f (fsub (m.tbl 1 ((c - 1) * 257 + i + 1)) a))

/-- S1: calibration (R291). -/
def Mosaic.s1 (m : Mosaic) (x y : Nat) : Word :=
  let w := m.word x y
  let q := cfaPos x y
  let dark := fint (sext 16 (fget w 0 16)) (-4)
  let d := fsub (fsub (fsub (fnat (m.raw x y)) (m.black q)) (m.tbl 0 (2 * x))) dark
  let n := fadd d (m.nlDelta (fget w 28 3) d)
  let gain := fint (2048 + fget w 16 12 : Nat) (-12)
  fmul (fmul (fmul n gain) (m.tbl 0 (2 * x + 1))) (m.cg q)

/-- The DEFECT bit of a pixel. -/
def Mosaic.defect (m : Mosaic) (x y : Nat) : Bool := (m.word x y).getLsbD 31

/-- The mean of the S1 values of the neighbours that are not defective, summed in order; none where all are. -/
def Mosaic.neighMean (m : Mosaic) (x y : Nat) (l : List (Int × Int)) : Option Word :=
  let ok := (l.map (fun d => (reflect (x + d.1) m.w, reflect (y + d.2) m.h))).filter (fun q => !m.defect q.1 q.2)
  match ok with
  | [] => none
  | q :: qs => some (fdiv (qs.foldl (fun a r => fadd a (m.s1 r.1 r.2)) (m.s1 q.1 q.2)) (fnat ok.length))

/-- S2: defect correction (R293): the value, and whether the defect stayed. -/
def Mosaic.s2full (m : Mosaic) (x y : Nat) : Word × Bool :=
  if !m.defect x y then (m.s1 x y, false)
  else
    let k : Int := if m.cfa then 2 else 1
    match m.neighMean x y [(-k, 0), (k, 0), (0, -k), (0, k)] with
    | some v => (v, false)
    | none =>
      match m.neighMean x y [(-k, -k), (k, -k), (-k, k), (k, k)] with
      | some v => (v, false)
      | none => (m.s1 x y, true)

/-- S2. -/
def Mosaic.s2 (m : Mosaic) (x y : Nat) : Word := (m.s2full x y).1

/-- CFA of the stream: 0 is MONO (R312). -/
def State.cfa (s : State) (p : PixIn) : Nat := s.fld (rPixCfg p.c) 16 4

/-- The mosaic of a frame in the pixel clusters; a frame without calibration has default words (R292). -/
def State.mosaic (s : State) (p : PixIn) : Mosaic :=
  ⟨p.w, p.h, p.b, p.raw, fun x y => if p.uncal then calDefault else s.storeWord p.src x y, fun q => s.rd (rPixBlack p.c q),
   fun q => s.rd (rPixCg p.c q), fun k n => s.tbl p.i k n, s.cfa p != 0⟩

/-- The DEFECT bit of a pixel. -/
def State.defect (s : State) (p : PixIn) (x y : Nat) : Bool := (s.mosaic p).defect x y

/-- S2: the value, and whether the defect stayed. -/
def State.s2full (s : State) (p : PixIn) (x y : Nat) : Word × Bool := (s.mosaic p).s2full x y

/-- S2. -/
def State.s2 (s : State) (p : PixIn) (x y : Nat) : Word := (s.mosaic p).s2 x y

/-- S2 at an offset from a pixel. -/
def State.s2at (s : State) (p : PixIn) (x y : Nat) (i j : Int) : Word :=
  s.s2 p (reflect (x + i) p.w) (reflect (y + j) p.h)

/-- Half the sum of two neighbours plus a quarter of the second difference of the own colour (R294). -/
def greenEst (c n1 n2 f1 f2 : Word) : Word :=
  fadd (fdiv (fadd n1 n2) ftwo) (fdiv (fsub (fsub (fmul ftwo c) f1) f2) ffour)

/-- The gradient across a direction (R294). -/
def gradEst (c n1 n2 f1 f2 : Word) : Word :=
  fadd (fabs (fsub n1 n2)) (fabs (fsub (fsub (fmul ftwo c) f1) f2))

/-- Two estimates weighted by the gradients across each other (R294). -/
def blend (eps da a db b sum : Word) : Word :=
  fdiv (fadd (fmul (fadd db eps) a) (fmul (fadd da eps) b)) (fadd sum (fmul ftwo eps))

/-- The colour at a CFA position: 0 red, 1 green, 2 blue (R294). -/
def cfaColour (cfa q : Nat) : Nat :=
  let pat := match cfa with
    | 1 => [0, 1, 1, 2] | 2 => [1, 0, 2, 1] | 3 => [1, 2, 0, 1] | _ => [2, 1, 1, 0]
  pat.getD q 1

/-- S3: demosaic (R294). -/
def State.s3 (s : State) (p : PixIn) (x y : Nat) : Word × Word × Word :=
  let at_ := s.s2at p x y
  let c := at_ 0 0
  let cfa := s.cfa p
  if cfa = 0 then (c, c, c)
  else
    let eps := s.rd (rPixEps p.c)
    let gh := greenEst c (at_ (-1) 0) (at_ 1 0) (at_ (-2) 0) (at_ 2 0)
    let gv := greenEst c (at_ 0 (-1)) (at_ 0 1) (at_ 0 (-2)) (at_ 0 2)
    let own := cfaColour cfa (cfaPos x y)
    if own = 1 then
      let row := cfaColour cfa (cfaPos (x + 1) y)
      if row = 0 then (gh, c, gv) else (gv, c, gh)
    else
      let dh := gradEst c (at_ (-1) 0) (at_ 1 0) (at_ (-2) 0) (at_ 2 0)
      let dv := gradEst c (at_ 0 (-1)) (at_ 0 1) (at_ 0 (-2)) (at_ 0 2)
      let green := blend eps dh gh dv gv (fadd dh dv)
      let k1 := greenEst c (at_ (-1) (-1)) (at_ 1 1) (at_ (-2) (-2)) (at_ 2 2)
      let k2 := greenEst c (at_ 1 (-1)) (at_ (-1) 1) (at_ 2 (-2)) (at_ (-2) 2)
      let d1 := gradEst c (at_ (-1) (-1)) (at_ 1 1) (at_ (-2) (-2)) (at_ 2 2)
      let d2 := gradEst c (at_ 1 (-1)) (at_ (-1) 1) (at_ 2 (-2)) (at_ (-2) 2)
      let other := blend eps d1 k1 d2 k2 (fadd d1 d2)
      if own = 0 then (c, green, other) else (other, green, c)

/-- A 3 × 4 matrix, its word `k` given by `m` (R295). -/
def matrix (m : Nat → Word) (v : Word × Word × Word) : Word × Word × Word :=
  let row := fun i => fadd (fadd (fadd (fmul (m (4 * i)) v.1) (fmul (m (4 * i + 1)) v.2.1)) (fmul (m (4 * i + 2)) v.2.2))
    (m (4 * i + 3))
  (row 0, row 1, row 2)

/-- S4: camera matrix. -/
def State.s4 (s : State) (p : PixIn) (x y : Nat) : Word × Word × Word :=
  matrix (fun k => s.rd (rPixM1K p.c k)) (s.s3 p x y)

/-- A curve of R297, table `k`, channel `ch`. -/
def State.curve (s : State) (p : PixIn) (k ch : Nat) (lo hi v : Word) : Word :=
  let u := fclamp (fmul (fdiv (fsub v lo) (fsub hi lo)) (fnat 4095)) 0#32 (fnat 4095)
  let i := min (ffloor u).toNat 4094
  let f := fsub u (fnat i)
  let a := s.tbl p.i k (ch * 4096 + i)
  fadd a (fmul f (fsub (s.tbl p.i k (ch * 4096 + i + 1)) a))

/-- Apply a function of the channel number to each channel. -/
def chans (f : Nat → Word → Word) (v : Word × Word × Word) : Word × Word × Word := (f 0 v.1, f 1 v.2.1, f 2 v.2.2)

/-- The formulas of R296 for an input in [0, 1], in units of 2^-160 and with an error far below an ulp. -/
def transferFx (mode : Nat) (x : Word) : Int :=
  match fdec x with
  | .fin false m e =>
    let q := fxOf m e
    match mode with
    | 1 => if 1000 * q < 18 * fxOne then 9 * q / 2 else 1099 * fxPow m e (fxRat 45 100) / 1000 - fxRat 99 1000
    | 2 =>
      let t := if m = 0 then 0 else fxPow m e (fxRat 1593017578125 10000000000000)
      let b := fxDiv (fxRat 8359375 10000000 + fxMul (fxRat 188515625 10000000) t)
        (fxOne + fxMul (fxRat 186875 10000) t)
      fxPow b.toNat (-160) (fxRat 7884375 100000)
    | _ =>
      if 12 * q ≤ fxOne then (if m = 0 then 0 else fxPow (3 * m) e (fxRat 1 2))
      else fxMul (fxRat 17883277 100000000) (fxLn (12 * q - fxRat 28466892 100000000).toNat (-160)) +
        fxRat 55991073 100000000
  | _ => 0

/-- A transfer formula of R296: the exact value rounded to binary32, moved by at most 2 ulp as the hardware leaves open
(R287, log entry 20). -/
def transfer (mode : Nat) (x : Word) : Word := fmoved (fint (transferFx mode x) (-160)) (Config.transferUlp mode x)

/-- S5: transfer function (R296). -/
def State.s5 (s : State) (p : PixIn) (v : Word × Word × Word) : Word × Word × Word :=
  match s.fld (rPixTf p.c) 0 3 with
  | 0 => v
  | 4 => chans (fun ch x => s.curve p 2 ch (s.rd (rPixShpLo p.c)) (s.rd (rPixShpHi p.c)) x) v
  | m => chans (fun _ x => transfer m (fclamp (fmul x (s.rd (rPixTfScale p.c))) 0#32 fone)) v

/-- A LUT entry of a stream, one channel (R298). -/
def State.lutAt (s : State) (p : PixIn) (ch r g b : Nat) : Word := s.tbl p.i 3 (3 * (r + 65 * g + 4225 * b) + ch)

/-- S6: tetrahedral interpolation (R298). -/
def State.s6 (s : State) (p : PixIn) (v : Word × Word × Word) : Word × Word × Word :=
  if !s.bit (rPixTf p.c) 8 then v
  else
    let u := fun x => fmul (fclamp x 0#32 fone) (fnat 64)
    let ix := fun x => min (ffloor (u x)).toNat 63
    let fr := fun x => fsub (u x) (fnat (ix x))
    let r := fr v.1; let g := fr v.2.1; let b := fr v.2.2
    let c := fun ch (d : Nat × Nat × Nat) => s.lutAt p ch (ix v.1 + d.1) (ix v.2.1 + d.2.1) (ix v.2.2 + d.2.2)
    let mix := fun (f1 f2 f3 : Word) (d1 d2 : Nat × Nat × Nat) ch =>
      fadd (fadd (fadd (fmul (fsub fone f1) (c ch (0, 0, 0))) (fmul (fsub f1 f2) (c ch d1)))
        (fmul (fsub f2 f3) (c ch d2))) (fmul f3 (c ch (1, 1, 1)))
    let out :=
      if fle g r && fle b g then mix r g b (1, 0, 0) (1, 1, 0)
      else if fle b r && fle g b then mix r b g (1, 0, 0) (1, 0, 1)
      else if fle r b && fle g r then mix b r g (0, 0, 1) (1, 0, 1)
      else if fle r g && fle b r then mix g r b (0, 1, 0) (1, 1, 0)
      else if fle b g && fle r b then mix g b r (0, 1, 0) (0, 1, 1)
      else mix b g r (0, 0, 1) (0, 1, 1)
    (out 0, out 1, out 2)

/-- S7: output curves. -/
def State.s7 (s : State) (p : PixIn) (v : Word × Word × Word) : Word × Word × Word :=
  if s.bit (rPixTf p.c) 9 then
    chans (fun ch x => s.curve p 4 ch (s.rd (rPixOcLo p.c)) (s.rd (rPixOcHi p.c)) x) v
  else v

/-- Proxy format (R300). -/
def State.pxFmt (s : State) (c : Nat) : Nat := s.fld (rPixPxFmt c) 0 4

/-- S5 to S8 of a pixel: the output matrix is the identity for RGB formats (R288). -/
def State.s8 (s : State) (p : PixIn) (x y : Nat) : Word × Word × Word :=
  let v := s.s7 p (s.s6 p (s.s5 p (s.s4 p x y)))
  let f := s.pxFmt p.c
  if f = 4 ∨ f = 5 then v else matrix (fun k => s.rd (rPixM2K p.c k)) v

/-! ### Scaler (R299) -/

/-- A channel of a triple. -/
def chan (v : Word × Word × Word) (ch : Nat) : Word := if ch = 0 then v.1 else if ch = 1 then v.2.1 else v.2.2

/-- A step rounded to unsigned 4.28. -/
def scaleStep (n d : Nat) : Nat := if d = 0 then 0 else (n * 2 ^ 29 / d + 1) / 2

/-- Integer position and phase of a position in units of 2^-29. -/
def tapPos (pos : Int) : Int × Nat :=
  let i := pos / 2 ^ 29
  let f := (pos - i * 2 ^ 29).toNat
  let phi := (64 * f + 2 ^ 28) / 2 ^ 29
  if phi = 64 then (i + 1, 0) else (i, phi)

/-- The horizontal sum of a source line in ascending tap order; bank 0 luma, 1 chroma. -/
def State.hSum (s : State) (p : PixIn) (ch bank y : Nat) (pos : Int) : Word :=
  let q := tapPos pos
  let term := fun k => fmul (s.tbl p.i 5 (bank * 512 + q.2 * 8 + k))
    (chan (s.s8 p (reflect (q.1 - 3 + k) p.w) y) ch)
  [1, 2, 3, 4, 5, 6, 7].foldl (fun a k => fadd a (term k)) (term 0)

/-- The taps of a vertical position in the order the source lines pass: line, direct before reflected. -/
def vOrder (i : Int) (h : Nat) : List (Nat × Nat) :=
  let all : List (Nat × Nat × Bool) := (List.range 8).map (fun (k : Nat) =>
    let y : Int := i - 3 + (k : Int)
    (k, reflect y h, decide (y < 0 ∨ (h : Int) ≤ y)))
  let le := fun (a b : Nat × Nat × Bool) => decide (a.2.1 < b.2.1) || (a.2.1 == b.2.1 && (!a.2.2 || b.2.2))
  (all.mergeSort le).map (fun t => (t.1, t.2.1))

/-- A proxy sample: the vertical sum of horizontal sums. -/
def State.scaled (s : State) (p : PixIn) (ch : Nat) (chroma : Bool) (px py : Int) : Word :=
  let q := tapPos py
  let hb := if chroma then 1 else 0
  let vb := if chroma then 3 else 2
  match vOrder q.1 p.h with
  | [] => 0#32
  | t :: ts =>
    let term := fun (t : Nat × Nat) => fmul (s.tbl p.i 5 (vb * 512 + q.2 * 8 + t.1)) (s.hSum p ch hb t.2 px)
    ts.foldl (fun a t => fadd a (term t)) (term t)

/-- A quantised code of `n` bits (R300). -/
def State.quant (s : State) (p : PixIn) (ch n : Nat) (v : Word) : Nat :=
  let r := fround (fadd (fmul v (s.rd (rPixPxQscale p.c ch))) (s.rd (rPixPxQoff p.c ch)))
  (max 0 (min r (2 ^ n - 1))).toNat

/-- Position of output column or line `j` in units of 2^-29 (R299): luma. -/
def lumaPos (j step : Nat) : Int := ((2 * j + 1) * step : Nat) - 2 ^ 28

/-- Position of a chroma column, co-sited with even luma columns. -/
def chromaCol (j step : Nat) : Int := ((4 * j + 1) * step : Nat) - 2 ^ 28

/-- Position of a 4:2:0 chroma line. -/
def chromaLine (l step : Nat) : Int := ((4 * l + 2) * step : Nat) - 2 ^ 28

/-- The clusters of a frame's serving list whose pixel path has stayed up all through the frame (R39). -/
def State.alive (s : State) (f : Frame) : List Nat :=
  f.srv.filter (fun c => !f.cut.contains (c, 1) && s.pixServes c f.stream)

/-- A unit of the cluster runs and has not been fenced while the frame was in progress. -/
def State.unitHeld (s : State) (f : Frame) (c u : Nat) : Bool := s.unitLive (5 + c) u && !f.cut.contains (c, u)

/-- The clusters that scale a frame: pixel path and scaler live (R38, R39). -/
def State.scalers (s : State) (f : Frame) : List Nat := (s.alive f).filter (fun c => s.unitHeld f c 3)

/-- Columns of the source that one of the clusters covers. -/
def State.inCores (s : State) (cs : List Nat) (x : Nat) : Bool :=
  cs.any (fun c => decide ((s.core c).1 ≤ x) && decide (x < (s.core c).2))

/-- Line bytes of plane 0 and plane 1, and the lines of plane 1 (R300). -/
def proxyGeom (fmt pw ph : Nat) : Nat × Nat × Nat :=
  match fmt with
  | 0 => (pw, 0, 0) | 1 => (pw, pw, ph / 2) | 2 => (2 * pw, 2 * pw, ph / 2) | 3 => (2 * pw, 2 * pw, ph)
  | 4 => (4 * pw, 0, 0) | _ => (8 * pw, 0, 0)

/-- Bytes of a sample of a plane in a format: one code of 8 bits, or 10 bits in the upper bits of a word. -/
def codeBytes (fmt code : Nat) : List Byte := if fmt ≤ 1 then leBytes 1 code else leBytes 2 (code * 64)

/-- Code width of the Y'CbCr formats. -/
def codeBits (fmt : Nat) : Nat := if fmt ≤ 1 then 8 else 10

/-- One line of plane 0. -/
def State.plane0Line (s : State) (p : PixIn) (pw l hs vs : Nat) : List Byte :=
  let fmt := s.pxFmt p.c
  (List.range pw).flatMap fun j =>
    let v := fun ch => s.scaled p ch false (lumaPos j hs) (lumaPos l vs)
    if fmt = 4 then
      leBytes 4 (s.quant p 0 10 (v 0) * 2 ^ 20 + s.quant p 1 10 (v 1) * 2 ^ 10 + s.quant p 2 10 (v 2))
    else if fmt = 5 then
      leBytes 2 (toHalf (v 0)).toNat ++ leBytes 2 (toHalf (v 1)).toNat ++ leBytes 2 (toHalf (v 2)).toNat ++ leBytes 2 0x3C00
    else codeBytes fmt (s.quant p 0 (codeBits fmt) (v 0))

/-- One line of plane 1: Cb, Cr pairs. -/
def State.plane1Line (s : State) (p : PixIn) (pw l hs vs : Nat) : List Byte :=
  let fmt := s.pxFmt p.c
  let y := if fmt = 3 then lumaPos l vs else chromaLine l vs
  (List.range (pw / 2)).flatMap fun j =>
    let v := fun ch => s.scaled p ch true (chromaCol j hs) y
    codeBytes fmt (s.quant p 1 (codeBits fmt) (v 1)) ++ codeBytes fmt (s.quant p 2 (codeBits fmt) (v 2))

/-! ### Products of a frame -/

/-- The input of the stages for a frame. -/
def State.pixIn (s : State) (f : Frame) : PixIn :=
  let i := f.stream
  let n := f.src / 16
  let share0 := s.fld (rIngCalGrid n) 0 15 == 0 && s.fld (rIngCalGrid n) 16 15 == 0
  ⟨s.strW i, s.strH i, s.strBits i, i, f.src, f.srv.head?.getD 0, f.lines, share0 || s.fenced 3 6⟩

/-- A pixel in CORRECTED format (R302). -/
def State.corrPixel (s : State) (p : PixIn) (x y : Nat) : List Byte :=
  let v := s.s2 p x y
  match s.fld (rPixCorr p.c) 0 2 with
  | 0 => leBytes 2 (max 0 (min (fround (fadd (fmul v (s.rd (rPixCscale p.c))) (s.rd (rPixCoff p.c)))) 65535)).toNat
  | 1 => leBytes 2 (toHalf v).toNat
  | _ => leBytes 4 v.toNat

/-- Write a CORRECTED frame into its slot: the columns of live clusters, and the pad bytes (R257, R302). -/
def State.writeCorrected (s : State) (f : Frame) (p : PixIn) (e : Entry) : State :=
  let pitch := s.pitch f.stream
  let bpp := s.corrBytes f.stream
  s.forEach (List.range p.h) fun t y =>
    let t1 := t.forEach (t.alive f) fun u c =>
      let k := u.core c
      u.slotWrite f (e.addr + y * pitch + k.1 * bpp)
        ((List.range (min k.2 p.w - k.1)).flatMap (fun d => s.corrPixel p (k.1 + d) y))
    t1.slotWrite f (e.addr + y * pitch + p.w * bpp) (List.replicate (pitch - p.w * bpp) 0#8)

/-- Proxy geometry of a lead cluster: PW, PH; 0 columns where no proxy is declared. -/
def State.pxGeom (s : State) (c : Nat) : Nat × Nat := (s.fld (rPixPxGeom c) 0 11 * 16, s.fld (rPixPxGeom c) 16 15)

/-- Size of a proxy buffer (R301). -/
def State.pxBufSize (s : State) (c : Nat) : Nat :=
  let g := s.pxGeom c
  let q := proxyGeom (s.pxFmt c) g.1 g.2
  roundUp (roundUp (4096 + roundUp q.1 64 * g.2) 4096 + roundUp q.2.1 64 * q.2.2) 4096

/-- Address of proxy buffer `k`. -/
def State.pxBufAddr (s : State) (c k : Nat) : Nat :=
  s.rgnAddr (s.fld (rPixPxRing c) 24 4) + s.fld (rPixPxRing c) 0 24 * 4096 + k * s.pxBufSize c

/-- NBUF. -/
def State.pxNbuf (s : State) (c : Nat) : Nat := s.fld (rPixPxRing c) 28 4

/-- The next buffer in ring order that no reader holds (R301). -/
def State.pxFree (s : State) (i c : Nat) : Option Nat :=
  let p := s.pixStr i
  let n := s.pxNbuf c
  ((List.range n).map (fun j => (p.nextBuf + j) % max n 1)).find? (fun k => !p.held.any (fun h => h.1 == k))

/-- The descriptor of a proxy (R301). -/
def proxyDesc (fmt epoch pw ph pitch0 pitch1 serial seq : Nat) : List Byte :=
  leBytes 4 0x5850524F ++ leBytes 1 fmt ++ leBytes 1 epoch ++ leBytes 2 pw ++ leBytes 2 ph ++ leBytes 2 pitch0 ++
  leBytes 4 pitch1 ++ leBytes 8 serial ++ leBytes 4 seq ++ List.replicate 4068 0#8

/-- Write the columns of a plane that live clusters cover; a fenced cluster's columns stay as they were (R39). -/
def State.writeProxy (s : State) (f : Frame) (p : PixIn) (buf : Nat) (epoch : Nat) : State :=
  let g := s.pxGeom p.c
  let fmt := s.pxFmt p.c
  let cs := s.scalers f
  let q := proxyGeom fmt g.1 g.2
  let p0 := roundUp q.1 64
  let p1 := roundUp q.2.1 64
  let a := s.pxBufAddr p.c buf
  let hs := s.rd (rPixPxHstep p.c) |>.toNat
  let vs := s.rd (rPixPxVstep p.c) |>.toNat
  let bpp := if g.1 = 0 then 0 else q.1 / g.1
  let t1 := s.forEach (List.range g.2) fun t l =>
    let line := s.plane0Line p g.1 l hs vs
    t.forEach (List.range g.1) fun u j =>
      if s.inCores cs ((lumaPos j hs / 2 ^ 29).toNat) then
        (u.memWrite (a + 4096 + l * p0 + j * bpp) (slice line (j * bpp) bpp)).1 else u
  let b1 := roundUp (4096 + p0 * g.2) 4096
  let pb := if fmt = 1 then 2 else 4
  let t2 := t1.forEach (List.range q.2.2) fun t l =>
    let line := s.plane1Line p g.1 l hs vs
    t.forEach (List.range (g.1 / 2)) fun u j =>
      if s.inCores cs ((lumaPos (2 * j) hs / 2 ^ 29).toNat) then
        (u.memWrite (a + b1 + l * p1 + j * pb) (slice line (j * pb) pb)).1 else u
  let seq := (s.rd (rPixPxStat p.c)).toNat + 1
  let t3 := (t2.memWrite a (proxyDesc fmt epoch g.1 g.2 p0 p1 f.serial seq)).1
  let ps := t3.pixStr f.stream
  let t4 := t3.setPixStr f.stream { ps with
    seqs := Map.set (fun _ => 0) ps.seqs buf seq, nextBuf := (buf + 1) % max 1 (s.pxNbuf p.c) }
  t4.forEach (t4.servers f.stream) (fun u c => u.wr (rPixPxStat c) (BitVec.ofNat 32 seq))

/-- EVERY of a stream. -/
def State.pxEvery (s : State) (c : Nat) : Nat := max 1 (s.fld (rPixPxFmt c) 16 16)

/-- The frame is the EVERY-th processed one since ARM or since the last such frame (R301). -/
def State.proxyDue (s : State) (f : Frame) (p : PixIn) : Bool :=
  s.fld (rPixPxGeom p.c) 0 11 != 0 && ((s.pixStr f.stream).every + 1) % s.pxEvery p.c == 0

/-- The proxy of a processed frame, every EVERY-th of them (R301). Without the scaler of the lead, which writes the
descriptor, or without any cluster that scales there is none (R38, log entry 115). -/
def State.proxy (s : State) (f : Frame) (p : PixIn) (epoch : Nat) : State :=
  if s.fld (rPixPxGeom p.c) 0 11 = 0 then s
  else
    let ps := s.pixStr f.stream
    let s1 := s.setPixStr f.stream { ps with every := (ps.every + 1) % s.pxEvery p.c }
    if !s.proxyDue f p || !s.unitHeld f p.c 3 || (s.scalers f).isEmpty then s1
    else
      match s1.pxFree f.stream p.c with
      | none => s1.count (rPixPxSkip p.c)
      | some b => s1.writeProxy f p b epoch

/-- The readable buffer with the highest SEQ (R301). -/
def State.pxLatest (s : State) (i : Nat) : Option (Nat × Nat) :=
  (s.pixStr i).seqs.foldl (fun (b : Option (Nat × Nat)) q => match b with
    | none => some q
    | some x => if x.2 < q.2 then some q else some x) none

/-- A reader takes the newest proxy of a stream and releases the buffer it held. -/
def State.pxHold (s : State) (i reader : Nat) : State × Option (Nat × Nat) :=
  let ps := s.pixStr i
  let rest := ps.held.filter (fun h => h.2 != reader)
  match s.pxLatest i with
  | none => (s, none)
  | some b => (s.setPixStr i { ps with held := rest ++ [(b.1, reader)] }, some b)

/-- A reader releases what it holds. -/
def State.pxRelease (s : State) (i reader : Nat) : State :=
  let ps := s.pixStr i
  s.setPixStr i { ps with held := ps.held.filter (fun h => h.2 != reader) }

/-! ### Tally (R306 to R310) -/

/-- A channel value in units of 2^-24, clamped to ±2^15, and whether it was clamped. -/
def tallyFix (v : Word) : Int × Bool :=
  let x := ffix v 24
  if x < -(2 ^ 39) then (-(2 ^ 39), true) else if 2 ^ 39 < x then (2 ^ 39, true) else (x, false)

/-- floor(k × (log2(v) + 14)) for v above 2^-14: exact, on the value raised to the k-th power (R308). -/
def logBin (v : Word) (k top : Nat) : Nat :=
  match fdec v with
  | .fin false m e =>
    if m = 0 then 0
    else
      let x := (bitLen (m ^ k) : Int) - 1 + k * (e + 14)
      if x < 0 then 0 else min top x.toNat
  | .inf false => top
  | _ => 0

/-- Sums over a list of pixels: count, channels, luma, saturated pixels, clamps. -/
structure TallyAcc where
  n : Nat
  r : Int
  g : Int
  b : Int
  y : Int
  sat : Nat
  clip : Nat
  deriving DecidableEq, Repr

/-- Luma of a working-RGB value (R306). -/
def State.luma (s : State) (p : PixIn) (v : Word × Word × Word) : Word :=
  fadd (fadd (fmul (s.rd (rPixTyK p.c 0)) v.1) (fmul (s.rd (rPixTyK p.c 1)) v.2.1)) (fmul (s.rd (rPixTyK p.c 2)) v.2.2)

/-- Every pixel position of a frame with its zone. -/
def PixIn.pixels (p : PixIn) : List (Nat × Nat) := (List.range p.h).flatMap (fun y => (List.range p.w).map (fun x => (x, y)))

/-- Accumulate the pixels. Luma is converted and summed as the channels are (R306, log entry 114). -/
def State.tallySum (s : State) (p : PixIn) (l : List (Nat × Nat)) : TallyAcc :=
  l.foldl (fun a q =>
    let v := s.s4 p q.1 q.2
    let r := tallyFix v.1; let g := tallyFix v.2.1; let b := tallyFix v.2.2
    let l := tallyFix (s.luma p v)
    ⟨a.n + 1, a.r + r.1, a.g + g.1, a.b + b.1, a.y + l.1, a.sat + (decide (s.fld (rPixSat p.c) 0 16 ≤ p.raw q.1 q.2)).toNat,
     a.clip + r.2.toNat + g.2.toNat + b.2.toNat + l.2.toNat⟩) ⟨0, 0, 0, 0, 0, 0, 0⟩

/-- A mean: the exact sum over the count, rounded to binary32. -/
def meanF (sum : Int) (n : Nat) : Word := if n = 0 then 0#32 else fratio (decide (sum < 0)) sum.natAbs n (-24)

/-- The weighted sum of three exact sums in binary64 (R310). -/
def State.lumaSum (s : State) (c : Nat) (r g b : Int) : Dbl :=
  dadd (dadd (dmul (dofF (s.rd (rPixTyK c 0))) (dint r (-24))) (dmul (dofF (s.rd (rPixTyK c 1))) (dint g (-24))))
    (dmul (dofF (s.rd (rPixTyK c 2))) (dint b (-24)))

/-- The least or greatest channel value of the pixels. -/
def extreme (less : Bool) (l : List Word) : Word :=
  match l with
  | [] => 0#32
  | v :: vs => vs.foldl (fun a x => if less then (if flt x a then x else a) else if flt a x then x else a) v

/-- A histogram of bin numbers. -/
def histo (n : Nat) (bins : List Nat) : List Byte := (List.range n).flatMap (fun k => leBytes 4 (bins.countP (· == k)))

/-- The Tally record of a frame and its zone sums (R306 to R308). -/
def State.tallyRecord (s : State) (f : Frame) (p : PixIn) (epoch : Nat) : List Byte × List (Int × Int × Int × Nat) :=
  let px := p.pixels
  let vs := px.map (fun q => s.s4 p q.1 q.2)
  let all := s.tallySum p px
  let zone := fun (q : Nat × Nat) => 16 * (8 * q.2 / max 1 p.h) + 16 * q.1 / max 1 p.w
  let zs := (List.range 128).map (fun z => s.tallySum p (px.filter (fun q => zone q == z)))
  let mask := f.srv.foldl (fun m c => m + 2 ^ c) 0
  let hdr := leBytes 4 0x594C4154 ++ leBytes 1 1 ++ leBytes 1 f.stream ++ leBytes 1 mask ++ leBytes 1 epoch ++
    leBytes 6 f.serial ++ leBytes 2 p.uncal.toNat ++ leBytes 4 (p.w * p.h) ++ leBytes 4 all.sat ++
    leBytes 4 (px.countP (fun q => s.defect p q.1 q.2 && !(s.s2full p q.1 q.2).2)) ++ leBytes 4 all.clip ++
    leBytes 2 p.w ++ leBytes 2 p.h ++ List.replicate 28 0#8
  let g := [extreme true (vs.map (·.1)), extreme true (vs.map (·.2.1)), extreme true (vs.map (·.2.2)),
    extreme false (vs.map (·.1)), extreme false (vs.map (·.2.1)), extreme false (vs.map (·.2.2)),
    meanF all.r all.n, meanF all.g all.n, meanF all.b all.n, meanF all.y all.n]
  (hdr ++ histo 256 (vs.map (fun v => logBin (s.luma p v) 16 255)) ++
    histo 64 (vs.map (fun v => logBin v.1 4 63)) ++ histo 64 (vs.map (fun v => logBin v.2.1 4 63)) ++
    histo 64 (vs.map (fun v => logBin v.2.2 4 63)) ++ g.flatMap (fun w => leBytes 4 w.toNat) ++
    List.replicate 152 0#8 ++
    zs.flatMap (fun a => leBytes 4 (meanF a.r a.n).toNat ++ leBytes 4 (meanF a.g a.n).toNat ++
      leBytes 4 (meanF a.b a.n).toNat ++ leBytes 4 a.sat),
   zs.map (fun a => (a.r, a.g, a.b, a.n)))

/-- The metric of image trigger `k` on a record, and whether its zone mask is not empty (R310). -/
def State.metric (s : State) (c k : Nat) (t : PendTally) : Word × Bool :=
  let inMask := fun z => (s.rd (rPixTrgZm c k (z / 32))).getLsbD (z % 32)
  let zs := (List.range 128).filter inMask
  let sum := zs.foldl (fun (a : Int × Int × Int × Nat) z =>
    let q := t.zones.getD z (0, 0, 0, 0)
    (a.1 + q.1, a.2.1 + q.2.1, a.2.2.1 + q.2.2.1, a.2.2.2 + q.2.2.2)) (0, 0, 0, 0)
  let v := match s.fld (rPixTrgCfg c k) 16 2 with
    | 0 => s.lumaSum c sum.1 sum.2.1 sum.2.2.1
    | 1 => dint sum.1 (-24)
    | 2 => dint sum.2.1 (-24)
    | _ => dint sum.2.2.1 (-24)
  (dtoF (ddivN v sum.2.2.2), !zs.isEmpty)

/-- The condition of an image trigger (R310). -/
def State.trigCond (s : State) (c k : Nat) (m : Word) (prev : Option Word) : Bool :=
  let thr := s.rd (rPixTrgThr c k)
  match s.fld (rPixTrgCfg c k) 24 2, prev with
  | 0, _ => flt thr m
  | 1, _ => flt m thr
  | 2, some q => flt thr (fsub m q)
  | 3, some q => flt thr (fsub q m)
  | _, none => false
  | _, some _ => false

/-- One image trigger on a record: metric kept, firing raised and latched; answers whether it fired. -/
def State.imgTrig (s : State) (i c k : Nat) (t : PendTally) : State × Bool :=
  let ps := s.pixStr i
  let m := s.metric c k t
  let cond := m.2 && s.trigCond c k m.1 (ps.prev.getD k none)
  let fire := cond && s.bit (rPixTrgCfg c k) 31 && (!s.bit (rPixTrgCfg c k) 30 || !ps.cond.getD k false)
  let s1 := s.setPixStr i { ps with prev := setAt ps.prev k (some m.1), cond := setAt ps.cond k cond }
  if fire then ((s1.setLive (rPixTrgSerLo c k) (BitVec.ofNat 64 t.serial)).raise (0x090 + 8 * c + k) 2, true)
  else (s1, false)

/-- TALLY_WRITE (R309, R310): the lead Tally unit writes the oldest record of a stream, and the entry no longer waits
for it. With the Tally unit fenced or the lead changed nothing is written and nothing is owed. -/
def State.tallyWrite (s : State) (i : Nat) : State :=
  let ps := s.pixStr i
  match ps.tally with
  | [] => s
  | t :: rest =>
    let s1 := s.setPixStr i { ps with tally := rest }
    match s1.lead i with
    | none => s1.modEntry t.part t.serial (fun e => { e with owed := false })
    | some c =>
      if !s1.unitLive (5 + c) 2 then
        s1.modEntry t.part t.serial (fun e => { e with owed := false, flags := e.flags ||| flag 3 })
      else
        let r := (List.range 4).foldl (fun (a : State × Nat) k =>
          let x := a.1.imgTrig i c k t
          (x.1, a.2 + x.2.toNat * 2 ^ (k + 2))) (s1, 0)
        let fl := leAt t.bytes 14 2 ||| r.2
        let b := t.bytes.take 14 ++ leBytes 2 fl ++ t.bytes.drop 16
        let s2 := (r.1.memWrite (r.1.tallyAddr t.part t.idx) b).1
        let lb := s2.fld (rIngPartLbase t.part) 0 19
        s2.modEntry t.part t.serial (fun e => { e with owed := false, tallyRef := some (lb + t.idx) })

/-- TALLY_WRITE. -/
def execTallyWrite (stream : Fin 64) (s : State) : Host.Outcome State Fault Refusal := .next (s.tallyWrite stream)

/-- What the clusters write for a frame whose last pixel has left the tap: CORRECTED pixels, proxy, Tally partials. A
unit fenced meanwhile leaves its products missing and the entry flagged FENCED (R39, R309). -/
def State.finishFrame (s : State) (f : Frame) : State :=
  let p := s.pixIn f
  let ok := s.alive f
  let whole := f.srv.all ok.contains && !f.cut.contains (p.c, 2)
  let hurt := !whole || (s.proxyDue f p && f.cut.any (fun x => x.2 == 3))
  match s.entry f.part f.serial with
  | none => s
  | some e =>
    let s1 := if s.strLayout f.stream = 3 then s.writeCorrected f p e else s
    let s2 := s1.proxy f p e.epochApp
    let uncorr := p.pixels.countP (fun q => (s.s2full p q.1 q.2).2)
    let s3 := if uncorr = 0 || ok.isEmpty then s2 else (s2.countN (rPixDefectUncorr p.c) uncorr).raise (0x095 + 8 * p.c) 1
    let s4 := (s3.forEach ok (fun t c => t.count (rPixFrames c))).forEach f.srv (fun t c => t.setFld (rPixStat c) 28 4 0)
    let s5 := s4.modEntry f.part f.serial (fun e => { e with
      flags := e.flags ||| (if p.uncal then flag 19 else 0#32) |||
        (if s.strLayout f.stream = 3 then flag 23 else 0#32) ||| (if hurt then flag 3 else 0#32)
      owed := whole })
    if whole then
      let rec_ := s.tallyRecord f p e.epochApp
      let ps := s5.pixStr f.stream
      s5.setPixStr f.stream { ps with tally := ps.tally ++ [⟨f.serial, f.part, e.idx, rec_.1, rec_.2⟩] }
    else s5

/-- PIX_CFG.LEAD reads 1 in the lead cluster of each stream (R286). -/
def State.syncLeads (s : State) : State :=
  s.forEach (List.range 4) fun t c => t.setBit (rPixCfg c) 8 (t.bit (rPixCfg c) 31 && t.lead (t.fld (rPixCfg c) 24 6) == some c)

/-- A cluster of stream `i` has been fenced or reset. -/
def State.markSplit (s : State) (i : Nat) : State := s.setPixStr i { s.pixStr i with split := true }

/-- The stripes of a stream follow its serving clusters: after a fence or a unit reset the even split applies where the
cores no longer join (R284), and the lead bits follow (R286). -/
def State.resplit (s0 : State) (i : Nat) : State :=
  let due := (s0.pixStr i).split
  let s := if due then s0.setPixStr i { s0.pixStr i with split := false } else s0
  let cs := s.servers i
  let cover := cs.foldl (fun (a : Option Nat) c => match a with
    | none => none
    | some x => if (s.core c).1 = x then some (s.core c).2 else none) (some 0)
  let s1 := if !due || cs.isEmpty || cover == some (s.strW i) then s
    else (cs.zip (evenSplit (s.strW i) cs.length)).foldl (fun t q =>
      t.wr (rPixStripe q.1) (BitVec.ofNat 32 (q.2.1 * 2 ^ 16 + q.2.2))) s
  s1.syncLeads

end Sys2Proof.Machine
end

