-- ==== Sys2Proof/Machine/Ingest.lean ====
section
/-! DEFINITION. Frame ingest (07): ingest buffers, frame assembly, closing frames, lost exposures, staggered groups. The
boundary point of a stream that no cluster serves follows the close of its frame (R31); the file Boundary runs it. -/

namespace Sys2Proof.Machine

open Sys2Proof

/-! ### The link ports' delivery -/

/-- A port before any training. -/
def LnkPort.init : LnkPort := ⟨false, false, false, 0, false, none, none, [], none, 0, [], 0, none, false, [], []⟩

/-- Port `n` of LNK. -/
def State.lport (s : State) (n : Nat) : LnkPort := Map.get (fun _ => LnkPort.init) s.lnk.ports n

/-- Put it. -/
def State.setLport (s : State) (n : Nat) (v : LnkPort) : State :=
  { s with lnk := { s.lnk with ports := Map.set (fun _ => LnkPort.init) s.lnk.ports n v } }

/-- The packet that waits first at port `n`, taken, where its data type satisfies `ok`. A fenced ING takes none. -/
def State.takePkt (s : State) (n : Nat) (ok : Nat → Bool) : Option (Pkt × State) :=
  if s.unitLive 3 (1 + n) && s.unitLive 3 8 then
    match (s.lport n).inbox with
    | p :: rest => if ok p.dt then some (p, s.setLport n { s.lport n with inbox := rest }) else none
    | [] => none
  else none

/-! ### The hold of a configuration activation (R113) -/

/-- An attempt to hold every stream fails: the taps are released; after TRIES of them the activation ends with
SWAP_TIMEOUT, and a Firmware Commit that waits for it completes (R113, R459). -/
def State.failAttempt (s : State) : State :=
  let n := s.vlt.tries + 1
  let s1 := ({ s with vlt := { s.vlt with held := 0, tries := n } } : State).setFld rDevVltStat 24 4 (min n 15)
  if max 1 (s.fld rDevVltHold 16 4) ≤ n then
    let s2 := ((s1.setFld rDevVltStat 28 4 3).setFld rDevVltStat 16 8 4).raise 0x009 1
    let s3 : State := { s2 with vlt := { s2.vlt with search := false, recheck := false, commitCid := none } }
    match s.vlt.commitCid with
    | some cid => s3.complete 0 cid stFwProhibited true (s3.rd rDevVltStat)
    | none => s3
  else s1

/-! ### Ingest buffers (R180 to R184) -/

/-- The ports that share the buffer of port `n` (R180). -/
def State.pool (s : State) (n : Nat) : List Nat :=
  match s.grpOf n with
  | some g => s.grpMembers g
  | none => [n]

/-- Bytes of a slot from `p.1` on still wait to be written to recording memory by port `n`. -/
def State.pieceQueued (s : State) (n : Nat) (p : Nat × Nat) : Bool :=
  match s.mapAddr p.1 with
  | some (sc, loc) => s.mem.q.any (fun x => x.write && x.port == 4 + n && sameBurst x sc loc)
  | none => false

/-- A line of a buffer still waits, whole or in part, to be written to recording memory. -/
def State.lineQueued (s : State) (b : BufLine) : Bool := (pieces b.addr b.len).any (s.pieceQueued b.port)

/-- Bytes of a received line that are not yet written: its share of the bursts that wait. -/
def State.lineOwes (s : State) (b : BufLine) : Nat :=
  let n := ((pieces b.addr b.len).filter (s.pieceQueued b.port)).foldl (fun a p => a + p.2) 0
  if b.len = 0 then 0 else ceilDiv (b.bytes * n) b.len

/-- The backlog of a port: bytes received and not yet written (R181). -/
def State.backlog (s : State) (n : Nat) : Nat :=
  (s.ing.buf.filter (fun b => b.port == n)).foldl (fun a b => a + s.lineOwes b) 0

/-- Bytes in the buffers of the ports. -/
def State.occupancy (s : State) (ps : List Nat) : Nat :=
  (s.ing.buf.filter (fun b => ps.contains b.port)).foldl (fun a b => a + b.bytes) 0

/-- Capacity of the buffers of the ports. -/
def capacity (ps : List Nat) : Nat := ps.length * 0x800000

/-- Lines that are written and taken leave the buffers (R181). -/
def State.releaseLines (s : State) : State :=
  { s with ing := { s.ing with buf := s.ing.buf.filter (fun b => !b.taken || s.lineQueued b) } }

/-- A stream held at the tap has port `n` behind it. -/
def State.heldOver (s : State) (n : Nat) : Bool :=
  (List.range 64).any (fun i => s.vlt.held.getLsbD i && (s.pool (i / 16)).contains n)

/-- Overdraft of port `n` follows its backlog (R182); while an activation seeks its swap point, it fails the attempt of a
held stream (R113). -/
def State.syncOd (s : State) (n : Nat) : State :=
  let b := s.backlog n
  let on := s.bit (rIngPortStat n) 0
  if !on && decide (s.fld (rIngPortThr n) 16 16 * 1024 < b) then
    let s1 := (((s.setBit (rIngPortStat n) 0 true).count (rIngOdCount n)).raise (0x050 + 4 * n) (1 + n)).setOd (4 + n) true
    if s1.fld rDevVltStat 28 4 == 4 && s1.heldOver n then s1.failAttempt else s1
  else if on && decide (b < s.fld (rIngPortThr n) 0 16 * 1024) then
    (s.setBit (rIngPortStat n) 0 false).setOd (4 + n) false
  else s

/-- OCC and BACKLOG of port `n`. -/
def State.syncOcc (s : State) (n : Nat) : State :=
  (s.setFld (rIngPortOcc n) 16 16 (min 0xFFFF (s.occupancy [n] / 1024))).setFld (rIngPortOcc n) 0 16
    (min 0xFFFF (s.backlog n / 1024))

/-! ### Frames -/

/-- Replace the frame of a serial in its partition. -/
def State.putFrame (s : State) (f : Frame) : State :=
  s.setFrames (s.ing.frames.map (fun g => if g.serial = f.serial ∧ g.part = f.part then f else g))

/-- Remove it. -/
def State.dropFrame (s : State) (f : Frame) : State :=
  s.setFrames (s.ing.frames.filter (fun g => !(g.serial == f.serial && g.part == f.part)))

/-- The open frame of a head's stream (R168). -/
def State.openFrame (s : State) (src : Nat) : Option Frame := s.ing.frames.find? (fun f => f.open_ && f.src == src)

/-- The frame as it stands now. -/
def State.frameNow (s : State) (f : Frame) : Frame :=
  (s.ing.frames.find? (fun g => g.serial == f.serial && g.part == f.part)).getD f

/-- ING_STRi_STAT (R186). DESIGN CHOICE (log entry 120): in a merged stream PENDING and WAIT_FS show the outstanding exposures
of the lowest member's head, NEXT_LINE the first open frame's e, and the blocks of the other members stay. -/
def State.syncStr (s : State) (i : Nat) : State :=
  let fr := s.ing.frames.find? (fun f => f.open_ && f.stream == i)
  let n := (s.outstanding (i / 16)).length
  let st := if !s.strDecl i then 0 else if fr.isSome then 3 else if n != 0 then 2 else 1
  ((s.setFld (rIngStrStat i) 28 4 st).setFld (rIngStrStat i) 16 7 n).setFld (rIngStrStat i) 0 15
    (match fr with | some f => f.e | none => 0)

/-- The layout in which ING writes a frame: CORRECTED frames that pass over the tap are UNPACKED16 (R302). -/
def State.wrLayout (s : State) (f : Frame) : Nat :=
  let l := s.strLayout f.stream
  if l = 3 ∧ f.tap = 2 then 1 else l

/-- The pitch of a frame in its slot. -/
def State.wrPitch (s : State) (f : Frame) : Nat :=
  if s.wrLayout f = 1 then roundUp (s.strW f.stream * 2) 64 else s.pitch f.stream

/-- The line of `n` received pixels and PAD beyond, packed in link order (R144, R171). -/
def packLine (payload : List Byte) (w b n pad : Nat) : List Byte :=
  let body := leNat payload % 2 ^ (b * n)
  leBytes (w * b / 8) ((List.range (w - n)).foldl (fun a k => a + (pad % 2 ^ b) * 2 ^ (b * (n + k))) body)

/-- A packed line as one little-endian word per pixel (R172). -/
def unpackLine (w b : Nat) (line : List Byte) : List Byte :=
  (List.range w).flatMap (fun x => leBytes 2 (leNat (slice line (b * x / 8) 4) / 2 ^ (b * x % 8) % 2 ^ b))

/-- Where a line stands in its slot (R174, R278), and how many bytes ING writes there. -/
def State.linePlace (s : State) (f : Frame) (a y : Nat) : Nat × Nat :=
  let w := s.strW f.stream
  if s.wrLayout f = 2 then (a + y / 16 * (32 + 24 * w) + 32 + y % 16 * (3 * w / 2), 3 * w / 2)
  else (a + y * s.wrPitch f, s.wrPitch f)

/-- The bytes of a line as ING writes them, padded to the pitch with 0x00 (R257). -/
def State.lineOut (s : State) (f : Frame) (line : List Byte) : List Byte :=
  let d := if s.wrLayout f = 1 then unpackLine (s.strW f.stream) (s.strBits f.stream) line else line
  if s.wrLayout f = 2 then d else d ++ List.replicate (s.wrPitch f - d.length) 0#8

/-- A line that ING fills itself is written at once (pad lines, R171). -/
def State.writeLine (s : State) (f : Frame) (y : Nat) (line : List Byte) : State :=
  let a := (s.linePlace f (s.slotOf f) y).1
  match s.wrLayout f with
  | 3 => s
  | 2 => s.stripPut (f.src / 16) f.serial (s.slotOf f) (s.slotLen f.stream) (a - s.slotOf f) (s.lineOut f line)
  | _ => s.slotWrite f a (s.lineOut f line)

/-- The pad line of a frame (R171). -/
def State.padLine (s : State) (f : Frame) : List Byte := packLine [] (s.strW f.stream) (s.strBits f.stream) 0 f.pad

/-- Keep a line for the tap. -/
def Frame.keep (f : Frame) (y : Nat) (line : List Byte) : Frame :=
  if f.tap = 2 then f else { f with lines := Map.set (fun _ => []) f.lines y line }

/-- Lines `e` to `upTo - 1` become pad lines (R168, R170). -/
def State.padTo (s : State) (f : Frame) (upTo : Nat) : State × Frame :=
  let line := s.padLine f
  (List.range (upTo - f.e)).foldl (fun (t : State × Frame) k =>
    (t.1.writeLine t.2 (f.e + k) line, t.2.keep (f.e + k) line)) (s, f)

/-- What follows the lines in a slot: 0x00 up to the metadata block, the block, 0x00 to the end (R174, R257). A strip slot
has no metadata block (R278): metadata received for it is dropped, unflagged (DESIGN CHOICE, log entry 113). -/
def State.writeTail (s : State) (f : Frame) : State :=
  let h := s.strH f.stream
  let len := s.slotLen f.stream
  let a := s.slotOf f
  if s.wrLayout f = 2 then
    let n := h / 16 * (32 + 24 * s.strW f.stream)
    s.slotWrite f (a + n) (List.replicate (len - n) 0#8)
  else
    let n := s.wrPitch f * h
    let m := roundUp n 4096
    let tail := List.replicate (m - n) 0#8 ++ f.md
    s.slotWrite f (a + n) (tail ++ List.replicate (len - n - tail.length) 0#8)

/-- A frame passes over the tap without processing: flagged UNPROCESSED, no product owed, its lines free of the tap; a
CORRECTED frame is written as UNPACKED16 (R36, R183, R302). -/
def State.untap (s : State) (f : Frame) : State :=
  let f1 := { f with tap := 2, srv := [] }
  let s1 := s.modEntry f.part f.serial (fun e => { e with flags := e.flags ||| flag 4, owed := false })
  let s2 : State := { s1 with ing := { s1.ing with
    buf := s1.ing.buf.map (fun b => if b.serial = f.serial then { b with taken := true } else b) } }
  let s3 := if s.strLayout f.stream = 3 then
      let t := f.lines.foldl (fun t p => t.writeLine f1 p.1 p.2) s2
      if f.open_ then t else t.writeTail f1
    else s2
  if f.open_ then s3.putFrame { f1 with lines := [] } else s3.dropFrame f

/-- Frames not yet started at the tap are shed while SHEDDING holds (R183). -/
def State.shed (s : State) (ps : List Nat) : State :=
  s.forEach (s.ing.frames.filter (fun f => f.tap == 0 && ps.contains (f.src / 16))) fun t f =>
    (t.untap f).count (rIngShedFrames (f.src / 16))

/-- SHEDDING of a pool (R183). -/
def State.syncShed (s : State) (ps : List Nat) : State :=
  let on := ps.any (fun n => s.bit (rIngPortStat n) 1)
  let cap := capacity ps
  let start := on || decide (cap - 0x100000 < s.occupancy ps)
  if start then
    let s1 := (s.shed ps).releaseLines
    let stay := decide (cap - 0x200000 ≤ s1.occupancy ps)
    s1.forEach ps (fun t n => t.setBit (rIngPortStat n) 1 stay)
  else s

/-- PEAK of the group that owns a pool (R187). -/
def State.syncPeak (s : State) (n : Nat) : State :=
  match s.grpOf n with
  | none => s
  | some g => s.setFld (rIngGrpStat g) 16 16 (max (s.fld (rIngGrpStat g) 16 16) (min 0xFFFF (s.occupancy (s.pool n) / 1024)))

/-- Everything that follows the content of the buffer of port `n`. -/
def State.syncPort (s : State) (n : Nat) : State :=
  let ps := s.pool n
  let s1 := ((s.releaseLines.syncPeak n).syncShed ps)
  s1.forEach ps (fun t m => (t.syncOd m).syncOcc m)

/-- ING_PORT_STAT.POOLED: the port's buffer belongs to the pool of a group (R185). -/
def State.syncPooled (s : State) (n : Nat) : State := s.setBit (rIngPortStat n) 2 (s.grpOf n).isSome

/-- Raise the flags of the open frame. -/
def Frame.mark (f : Frame) (fl : BitVec 32) : Frame := { f with flags := f.flags ||| fl }

/-- A line received whole or in part enters the buffer and the slot, or gives way to a pad line where the buffer is
full (R168, R171, R184). -/
def State.storeLine (s : State) (f : Frame) (y : Nat) (payload : List Byte) : State :=
  let n := f.src / 16
  let w := s.strW f.stream
  let b := s.strBits f.stream
  let ps := s.pool n
  let bytes := s.lineBytes f.stream
  if decide (capacity ps < s.occupancy ps + bytes) then
    let f1 := ((f.keep y (s.padLine f)).mark (flag 5))
    let s1 := (s.writeLine f y (s.padLine f)).count (rIngOvfLines n)
    let s2 := if f.ovf then s1 else s1.raise (0x051 + 4 * n) (1 + n)
    s2.putFrame { f1 with e := y + 1, ovf := true }
  else
    let line := packLine payload w b (min w (payload.length * 8 / b)) f.pad
    let pl := s.linePlace f (s.slotOf f) y
    let lay := s.wrLayout f
    let s1 := if lay = 3 then s
      else if lay = 2 then s.writeLine f y line
      else (s.request (4 + n) true pl.1 pl.2 (s.lineOut f line) false false).portPut f.serial (pl.1 - s.slotOf f) (s.lineOut f line)
    let e : BufLine := ⟨n, f.serial, y, pl.1, if lay = 3 then 0 else pl.2, bytes, f.tap != 0⟩
    let s2 : State := { s1 with ing := { s1.ing with buf := s1.ing.buf ++ [e] } }
    (s2.putFrame { f.keep y line with e := y + 1 })

/-- A frame without EXP records EPOCH_APP 0x00, NO_EXP and EPOCH_MISMATCH (R169). -/
def Frame.noExp (f : Frame) : Frame :=
  match f.epoch with
  | some _ => f
  | none => { f with epoch := some 0, flags := f.flags ||| flag 17 ||| flag 16 }

/-- A frame closes (R170, R171). -/
def State.closeFrame (s : State) (f0 : Frame) (fl : BitVec 32) : State :=
  let h := s.strH f0.stream
  let f := (f0.noExp).mark (fl ||| (if f0.e < h then flag 10 else 0#32))
  let n := f.src / 16
  let r := s.padTo f h
  let s1 := r.1.writeTail r.2
  let s2 := s1.modEntry f.part f.serial (fun e => { e with
    flags := e.flags ||| f.flags, epochApp := f.epoch.getD 0, fe := f.fe, final := true })
  let s3 := s2.count (rIngStrFrames f.stream)
  let s4 := if f.flags &&& anomalyMask = 0#32 then s3
    else (s3.count (rIngStrAnomaly f.stream)).raise (0x052 + 4 * n) (1 + n)
  let f2 := { r.2 with e := h, open_ := false }
  let s4 : State := { s4 with ing := { s4.ing with fresh := s4.ing.fresh ++ [(f.part, f.serial)] } }
  let s5 := if f.tap = 3 ∨ (f.tap = 2 ∧ !(s.servers f.stream).isEmpty) then s4.dropFrame f2 else s4.putFrame f2
  (s5.syncStr f.stream).syncPort n

/-- An exposure yields no frame (R166, R167): a gap, counted and raised. -/
def State.noFrame (s : State) (e : Entry) : State :=
  (((s.toGap e.part e.serial (flag 2)).count (rIngStrNoFrame e.stream)).raise (0x053 + 4 * e.head) (1 + e.head)).syncStr
    e.stream

/-- Count `c` is lower than `c'` (R166). -/
def countLower (c c' : Nat) : Bool :=
  let d := (c' + 2 ^ 24 - c % 2 ^ 24) % 2 ^ 24
  decide (1 ≤ d) && decide (d ≤ 2 ^ 23 - 1)

/-- A packet of a link stream is discarded up to its next FS, and counted (R166). -/
def State.unsolicited (s : State) (src : Nat) : State := s.count (rIngStrUnsolicited (s.logical src))

/-- Open the frame of an exposure. -/
def State.startFrame (s : State) (src : Nat) (e : Entry) (test : Bool) : State :=
  let i := e.stream
  let served := !(s.servers i).isEmpty
  let pad := s.fld (rIngStrPad i) 0 16
  let f : Frame := ⟨src, i, e.serial, e.part, e.count, 0, none, if test then flag 21 else 0#32, [], false, 0, [], true,
    if served then 0 else 2, false, [], [], pad⟩
  let s1 := s.modEntry e.part e.serial (fun x => { x with kind := 1, owed := served })
  ((s1.setFrames (s1.ing.frames ++ [f])).syncStr i).syncPort (src / 16)

/-- A packet that changes no frame: LS, LE and a filler that the link delivered (R142, R146). -/
def Pkt.passive (p : Pkt) : Bool := p.dt == 0x0A || p.dt == 0x0B || p.dt == 0x7F

/-- Packets that change no frame are taken as they come to the front; after an FS that matched nothing they count in
UNSOLICITED (R166). -/
def State.takePassive (s : State) (n : Nat) : Nat → State
  | 0 => s
  | fuel + 1 =>
    match s.takePkt n (fun dt => dt == 0x0A || dt == 0x0B || dt == 0x7F) with
    | none => s
    | some (p, s1) =>
      let src := n * 16 + p.vc
      State.takePassive (if s1.ing.unsol.getLsbD src then s1.unsolicited src else s1) n fuel

/-- What waits behind a packet that has been taken. -/
def State.nextPkt (s : State) (n : Nat) : State := s.takePassive n (s.lport n).inbox.length

/-- FS_RECEIVE (R166, R170): an open frame of the stream closes first. -/
def State.fsReceive (s : State) (n : Nat) : State :=
  match s.takePkt n (· == 0x08) with
  | none => s
  | some (p, s0) =>
    let src := n * 16 + p.vc
    let s1 := match s0.openFrame src with
      | some f => s0.closeFrame f (flag 12)
      | none => s0
    let c := (p.wc * 256 + p.fcnt) % 2 ^ 24
    let s2 : State := { s1 with ing := { s1.ing with unsol := s1.ing.unsol &&& ~~~ BitVec.ofNat 64 (2 ^ src) } }
    match (s2.outstanding n).find? (fun e => e.count == c) with
    | some e =>
      let low := (s2.outstanding n).filter (fun x => countLower x.count c)
      ((s2.forEach low (fun t x => t.noFrame x)).startFrame src e p.test).nextPkt n
    | none =>
      (({ s2 with ing := { s2.ing with unsol := s2.ing.unsol ||| BitVec.ofNat 64 (2 ^ src) } } :
        State).unsolicited src).nextPkt n

/-- A packet of the stream of `vc` at port `n` other than FS: discarded as UNSOLICITED, or given to `f`. -/
def State.packet (s : State) (n : Nat) (ok : Nat → Bool) (f : State → Pkt → Nat → State) : State :=
  match s.takePkt n ok with
  | none => s
  | some (p, s1) =>
    let src := n * 16 + p.vc
    (if s1.ing.unsol.getLsbD src then s1.unsolicited src else f s1 p src).nextPkt n

/-- EXP_RECEIVE (R168). -/
def State.expReceive (s : State) (n : Nat) : State :=
  s.packet n (· == 0x0C) fun s1 p src =>
    match s1.openFrame src with
    | some f =>
      if f.epoch.isNone then
        let app := p.wc % 256
        let req := match s1.entry f.part f.serial with | some e => e.epochReq | none => 0
        s1.putFrame { f with epoch := some app, flags := if app = req then f.flags else f.flags ||| flag 16 }
      else s1.count (rIngStrLateExp (s1.logical src))
    | none => s1.count (rIngStrLateExp (s1.logical src))

/-- LINE_RECEIVE (R168): the line table, in order. -/
def State.lineReceive (s : State) (n : Nat) : State :=
  s.packet n (fun d => decide (0x40 ≤ d) && decide (d ≤ 0x43)) fun s1 p src =>
    match s1.openFrame src with
    | none => s1.count (rIngStrOrphan (s1.logical src))
    | some f0 =>
      if p.fcnt != f0.count % 256 then s1.count (rIngStrOrphan (s1.logical src))
      else
        let f := f0.noExp
        let s2 := s1.putFrame f
        if p.dt != 0x40 + s1.fld (rIngStrFmt f.stream) 0 2 then s2.count (rIngStrWrongDt f.stream)
        else if s1.strH f.stream ≤ p.line then s2.putFrame (f.mark (flag 11))
        else if p.line < f.e then s2.putFrame (f.mark (flag 9))
        else
          let gap := if f.e < p.line then flag 8 else 0#32
          let full := s1.lineBytes f.stream
          let len := if p.payload.length < full ∨ p.trunc then flag 6
            else if full < p.payload.length then flag 7 else 0#32
          let err := if p.crcErr || p.fec || p.trunc then flag 14 else 0#32
          let r := s2.padTo (f.mark (gap ||| len ||| err)) p.line
          ((r.1.storeLine r.2 p.line p.payload).syncStr f.stream).syncPort n

/-- METADATA_RECEIVE (R174). -/
def State.metadataReceive (s : State) (n : Nat) : State :=
  s.packet n (· == 0x50) fun s1 p src =>
    match s1.openFrame src with
    | none => s1.count (rIngStrOrphan (s1.logical src))
    | some f =>
      let len := p.payload.length
      let item := leBytes 4 (p.dt + len % 2 ^ 16 * 2 ^ 16) ++ p.payload ++ List.replicate (roundUp len 4 - len) 0#8
      if f.mdFull || decide (s1.strMeta f.stream < f.md.length + item.length) then
        s1.putFrame { f.mark (flag 15) with mdFull := true }
      else s1.putFrame { f with md := f.md ++ item }

/-- SENSOR_STATUS_RECEIVE (R168): the last payload, 256 bytes. DESIGN CHOICE (R185, log entry 119): the bytes that a
shorter payload does not hold read 0. -/
def State.sensorStatusReceive (s : State) (n : Nat) : State :=
  match s.takePkt n (· == 0x51) with
  | none => s
  | some (p, s1) =>
    (s1.forEach (List.range 64) fun t k =>
      t.wr (rIngPortSstat n k) (BitVec.ofNat 32 (leAt p.payload (4 * k) 4))).nextPkt n

/-- FE_RECEIVE (R170). -/
def State.feReceive (s : State) (n : Nat) : State :=
  s.packet n (· == 0x09) fun s1 p src =>
    match s1.openFrame src with
    | none => s1.count (rIngStrOrphan (s1.logical src))
    | some f => s1.closeFrame { f with fe := p.wc % 2 ^ 16 } 0#32

/-- NOFS_TIMEOUT (R167): the oldest outstanding exposure of a head. -/
def State.nofsTimeout (s : State) (n : Nat) : State :=
  match s.outstanding n with
  | e :: _ => s.noFrame e
  | [] => s

/-- FRAME_TIMEOUT (R170) of the open frame of a logical stream. -/
def State.frameTimeout (s : State) (i : Nat) : State :=
  match s.ing.frames.find? (fun f => f.open_ && f.stream == i) with
  | some f => s.closeFrame f (flag 12 ||| flag 13)
  | none => s

/-- Every packet that port `n` has delivered is taken, oldest first. -/
def State.ingestAll (s : State) (n : Nat) : Nat → State
  | 0 => s
  | fuel + 1 =>
    match (s.lport n).inbox with
    | [] => s
    | p :: rest =>
      let t := if p.passive then s.takePassive n 1 else if p.dt = 0x08 then s.fsReceive n else if p.dt = 0x09 then s.feReceive n
        else if p.dt = 0x0C then s.expReceive n else if p.dt = 0x50 then s.metadataReceive n
        else if p.dt = 0x51 then s.sensorStatusReceive n
        else if 0x40 ≤ p.dt ∧ p.dt ≤ 0x43 then s.lineReceive n else s
      State.ingestAll (if (t.lport n).inbox.length = rest.length + 1 then t.setLport n { t.lport n with inbox := rest } else t) n fuel

/-- The port of head `n` leaves UP, or is fenced (R167, R39): every outstanding exposure becomes a gap, an open frame
closes. -/
def State.portLost (s : State) (n : Nat) (fenced : Bool) : State :=
  let s0 := if fenced then s else s.ingestAll n (s.lport n).inbox.length
  let s1 := s0.forEach (s0.outstanding n) fun t e =>
    if fenced then (t.toGap e.part e.serial (flag 3)).syncStr e.stream else t.noFrame e
  let s2 := s1.forEach (s1.ing.frames.filter (fun f => f.open_ && f.src / 16 == n)) fun t f =>
    t.closeFrame (t.frameNow f) (flag 12 ||| flag 14 ||| (if fenced then flag 3 else 0#32))
  let m : Nat := 0xFFFF * 2 ^ (16 * n)
  ({ s2 with ing := { s2.ing with unsol := s2.ing.unsol &&& ~~~ BitVec.ofNat 64 m } } : State).setLport n
    { s2.lport n with inbox := [] }

/-- Every open frame closes for loss of mains or the safe state, and exposures whose FS has not come become gaps
(R130, R170, R549). -/
def State.closeAll (s : State) (fl : BitVec 32) : State :=
  let s1 := s.forEach (s.ing.frames.filter (·.open_)) fun t f => t.closeFrame (t.frameNow f) (flag 12 ||| flag 13 ||| fl)
  s1.forEach (List.range 4) fun t n => t.forEach (t.outstanding n) (fun u e => u.noFrame e)

/-! ### The tap (R179) -/

/-- TAP_LEAD of a stream at the active step; a stream of no group starts with its first line. -/
def State.tapLead (s : State) (i : Nat) : Nat :=
  match s.grpOfStr i with
  | some g => min (s.strH i) (s.fld (rIngGrpCfg g) 16 14 * 3000000000 / pxHz s.stepAct)
  | none => s.strH i

/-- The frame that stands first at the tap of a stream, where it can start: the boundary point before it has passed, no
exposure of a lower serial is unresolved, and enough of its lines are there. -/
def State.tapNext (s : State) (i : Nat) : Option Frame :=
  let fs := s.ing.frames.filter (fun f => f.stream == i && f.tap == 0)
  let first := fs.foldl (fun (b : Option Frame) f => match b with
    | none => some f
    | some g => if serialLater f.serial g.serial then some f else some g) none
  match first with
  | none => none
  | some f =>
    let busy := s.ing.frames.any (fun g => g.stream == i && g.tap == 1)
    let waits := (s.part f.part).entries.any (fun e => e.kind == 0 && serialLater e.serial f.serial)
    let lines := !f.open_ || decide (s.strH i ≤ f.e + s.tapLead i)
    if busy || waits || !lines || s.vlt.held.getLsbD i || (s.servers i).isEmpty then none else some f

/-- TAP_START (R179, R36): the frame starts, or passes unprocessed in DECIMATE mode. -/
def State.tapStart (s : State) (i : Nat) : State :=
  match s.tapNext i with
  | none => s
  | some f =>
    let sc := s.schStr i
    let skip := s.decimates i && sc.dec % max 1 sc.m != 0
    let s1 := if s.decimates i then s.setSchStr i { sc with dec := (sc.dec + 1) % max 1 sc.m } else s
    if skip then (s1.untap f).syncPort (f.src / 16)
    else
      let s2 : State := { s1 with ing := { s1.ing with
        buf := s1.ing.buf.map (fun b => if b.serial = f.serial then { b with taken := true } else b) } }
      let s3 := s2.forEach (s.servers i) (fun t c => t.setFld (rPixStat c) 28 4 1)
      (s3.putFrame { f with tap := 1, srv := s.servers i, cut := [] }).syncPort (f.src / 16)

/-! ### Staggered groups (R176, R177) -/

/-- GROUP_MASK_WRITE: the requested slot mask (R177, R92). -/
def State.groupMask (s : State) (g : Nat) (v : Word) : State :=
  let m := fget v 0 4
  let mem := s.fld (rIngGrpCfg g) 0 4
  let strip := match s.grpStr g with | some i => s.strLayout i == 2 | none => false
  if !s.unitLive 3 8 then s
  else if m == 0 || (m &&& mem) != m || (strip && decide (1 < (idxs 4 m.testBit).length)) then s.violation (rIngGrpMask g)
  else s.setFld (rIngGrpMask g) 0 4 m

/-- GROUP_MASK_WRITE. -/
def execGroupMaskWrite (g : Fin 2) (v : Word) (s : State) : Host.Outcome State Fault Refusal :=
  if !s.reaches 3 then .next s else .next (s.groupMask g v)

/-- The head of the next slot of a merged stream (R176), or the head of a plain stream. -/
def State.slotHead (s : State) (i : Nat) : Nat :=
  match s.grpOfStr i with
  | none => i / 16
  | some g =>
    match s.ing.rot.getD g [] with
    | n :: _ => n
    | [] => (idxs 4 (fun n => (s.fld (rIngGrpStat g) 4 4).testBit n)).headD (i / 16)

/-- The slot has been used: at the end of the rotation the requested mask becomes active (R177). DESIGN CHOICE (log entry
118): a mask written while no rotation is in progress becomes active at the end of the next whole rotation. -/
def State.useSlot (s : State) (i : Nat) : State :=
  match s.grpOfStr i with
  | none => s
  | some g =>
    let cur := match s.ing.rot.getD g [] with
      | [] => idxs 4 (fun n => (s.fld (rIngGrpStat g) 4 4).testBit n)
      | l => l
    let rest := cur.drop 1
    let s1 : State := { s with ing := { s.ing with rot := setAt s.ing.rot g rest } }
    if rest.isEmpty then s1.setFld (rIngGrpStat g) 4 4 (s.fld (rIngGrpMask g) 0 4) else s1

end Sys2Proof.Machine
end

