-- ==== Sys2Proof/Machine/Link.lean ====
section
/-! DEFINITION. Sensor Link (06): PAM4 and the RS code of the lanes, blocks and packets, training, eye scan, the head control
channel. -/

namespace Sys2Proof.Machine

open Sys2Proof

/-! ### Ports and lanes -/

/-- A lane before training. -/
def Lane.init : Lane := ⟨[], 0#58, none, 0, 0, none, 0⟩

/-- Physical lane `l`. -/
def State.lane (s : State) (l : Nat) : Lane := Map.get (fun _ => Lane.init) s.lnk.lanes l

/-- Put it. -/
def State.setLane (s : State) (l : Nat) (v : Lane) : State :=
  { s with lnk := { s.lnk with lanes := Map.set (fun _ => Lane.init) s.lnk.lanes l v } }

/-- Bonded lanes of port `n` (R133, R162). -/
def State.lanes (s : State) (n : Nat) : Nat := 2 ^ s.fld (rLnkPortCfg n) 24 2

/-- The physical lane of logical lane `k` of port `n`. -/
def State.physLane (s : State) (n k : Nat) : Nat := 8 * n + s.fld (rLnkPortCfg n) (3 * k) 3

/-- The physical lanes bonded to head `n`, by logical lane. -/
def State.bonded (s : State) (n : Nat) : List Nat := (List.range (s.lanes n)).map (s.physLane n)

/-- LNK_PORT_STAT.STATE: 0 DOWN, 1 TRAIN, 2 DESKEW, 3 UP, 4 RETRAIN. -/
def State.portState (s : State) (n : Nat) : Nat := s.fld (rLnkPortStat n) 28 4

/-- The port of head `n` is UP and not fenced. -/
def State.portUp (s : State) (n : Nat) : Bool := s.portState n == 3 && s.unitLive 2 (1 + n)

/-- LNK_LANE_STAT.STATE (R148). -/
def State.laneState (s : State) (l : Nat) : Nat := s.fld (rLnkLaneStat l) 28 4

/-- Give every bonded lane of a port a state. -/
def State.setLanes (s : State) (n st : Nat) : State :=
  s.forEach (s.bonded n) (fun t l => t.setFld (rLnkLaneStat l) 28 4 st)

/-- Every bonded lane of a port is in a state. -/
def State.allLanes (s : State) (n st : Nat) : Bool := (s.bonded n).all (fun l => s.laneState l == st)

/-- The port is in training (R149). -/
def State.inTraining (s : State) (n : Nat) : Bool :=
  s.unitLive 2 (1 + n) && (s.portState n == 1 || s.portState n == 4 || s.portState n == 2)

/-- The port is in a training that the control channel lets proceed (R149). -/
def State.training (s : State) (n : Nat) : Bool := s.inTraining n && (s.lport n).sync

/-- The V12 output of head `n` is ON (R52). -/
def State.v12On (s : State) (n : Nat) : Bool := s.fld rSvcHpwrStat (4 * n) 4 == 2

/-- LNK_PORT_STAT.LANES and the logical lane of every lane follow the image (R133, R148). -/
def State.lnkConfig (s : State) (n : Nat) : State :=
  let b := s.bonded n
  let s1 := s.setFld (rLnkPortStat n) 24 4 (s.lanes n)
  s1.forEach ((List.range 8).map (8 * n + ·)) fun t l =>
    match b.findIdx? (· == l) with
    | some k => t.setFld (rLnkLaneStat l) 0 4 k
    | none => (t.setFld (rLnkLaneStat l) 0 4 0xF).setFld (rLnkLaneStat l) 28 4 0

/-! ### Head control channel (R158 to R160) -/

/-- CRC-16 with polynomial 0x1021 from 0xFFFF. -/
def crc16 (bs : List Byte) : Nat := crcMsb 16 0x1021 0xFFFF bs

/-- R159: the bytes of a control packet. -/
def CtlReq.bytes (r : CtlReq) : List Byte :=
  let b := leBytes 1 r.cmd ++ leBytes 1 r.tag ++ leBytes 2 r.len ++ leBytes 4 r.addr ++ r.data
  b ++ leBytes 2 (crc16 b)

/-- A head of the Schedule before its first trigger. -/
def SchHead.init : SchHead := ⟨0, none, none, 0, [], false, false, none⟩

/-- Head `n` of the Schedule. -/
def State.schHead (s : State) (n : Nat) : SchHead := Map.get (fun _ => SchHead.init) s.sch.heads n

/-- Put it. -/
def State.setSchHead (s : State) (n : Nat) (v : SchHead) : State :=
  { s with sch := { s.sch with heads := Map.set (fun _ => SchHead.init) s.sch.heads n v } }

/-- Send a request: it takes the next TAG (R160). -/
def State.sendReq (s : State) (n : Nat) (cmd addr : Nat) (data : List Byte) (len : Nat) : State :=
  let p := s.lport n
  let r : CtlReq := ⟨cmd, (p.tag + 1) % 256, addr, data, len⟩
  (s.setLport n { p with tag := r.tag, cur := some (r, 0), tx := p.tx ++ [r.bytes] }).setFld (rLnkHcStat n) 0 8 r.tag

/-- The next ready request goes out: EPOCH_SEL, then TRAIN, then the host's (R160). -/
def State.sendNext (s : State) (n : Nat) : State :=
  let p := s.lport n
  if !p.sync || p.cur.isSome then s
  else
    match p.rdyEpoch, p.rdyTrain, p.rdyHost with
    | some e, _, _ =>
      let s1 := (s.setLport n { p with rdyEpoch := none }).setFld (rSchHdEpstat n) 8 8 e
      (s1.setSchHead n { s1.schHead n with ack := false }).sendReq n 0x11 0 (leBytes 4 (e % 256)) 4
    | none, (op, pre) :: rest, _ =>
      (s.setLport n { p with rdyTrain := rest }).sendReq n 0x10 op (leBytes 4 pre.toNat) 4
    | none, [], some read =>
      let s1 := s.setLport n { p with rdyHost := none }
      let a := (s.rd (rLnkHcAddr n)).toNat
      if read then s1.sendReq n 0x02 a [] 4 else s1.sendReq n 0x01 a (leBytes 4 (s.rd (rLnkHcData n)).toNat) 4
    | none, [], none => s

/-- TRAIN becomes ready: 0 PATTERN, 1 DATA, 2 UP, 3 STOP. -/
def State.reqTrain (s : State) (n op : Nat) (pre : Bool) : State :=
  let p := s.lport n
  (s.setLport n { p with rdyTrain := p.rdyTrain ++ [(op, pre)] }).sendNext n

/-- EPOCH_SEL becomes ready (R216). -/
def State.reqEpoch (s : State) (n e : Nat) : State :=
  (s.setLport n { s.lport n with rdyEpoch := some e }).sendNext n

/-- HEAD_WRITE and HEAD_READ: a write of LNK_HC_CMD with GO (R162). -/
def State.headGo (s : State) (n : Nat) (read : Bool) : State :=
  if !s.unitLive 2 (1 + n) then s
  else if s.fld (rLnkHcStat n) 28 4 = 1 then s.violation (rLnkHcCmd n)
  else if !(s.lport n).sync then s.setFld (rLnkHcStat n) 28 4 5
  else ((s.setFld (rLnkHcStat n) 28 4 1).setLport n { s.lport n with rdyHost := some read }).sendNext n

/-- CTL_ERR counts (R163, R164). -/
def State.ctlErr (s : State) (n : Nat) : State := (s.count (rLnkCtlErr n)).raise (0x036 + 8 * n) (1 + n)

/-- The outstanding request ends; the host's ends with a state and reason of LNK_HC_STAT. -/
def State.endReq (s : State) (n st reason : Nat) : State :=
  let p := s.lport n
  match p.cur with
  | none => s
  | some (r, _) =>
    let s1 := s.setLport n { p with cur := none }
    let s2 := if r.cmd = 1 ∨ r.cmd = 2 then (s1.setFld (rLnkHcStat n) 28 4 st).setFld (rLnkHcStat n) 8 8 reason else s1
    s2.sendNext n

/-- R159: a packet whose CRC, LEN or K29.7 is wrong. -/
def ctlBad (b : List Byte) (k297 : Bool) : Bool :=
  let len := leAt b 2 2
  !k297 || decide (256 < len) || len % 4 != 0 || b.length != len + 10 ||
    leAt b (len + 8) 2 != crc16 (b.take (len + 8))

/-- The outstanding request of port `n` that a response with TAG `tag` answers, where its command is one of `reqs`. -/
def State.answered (s : State) (n tag : Nat) (reqs : List Nat) : Option CtlReq :=
  match (s.lport n).cur with
  | some (r, _) => if r.tag = tag ∧ reqs.contains r.cmd then some r else none
  | none => none

/-- A response of command `cmd` carries the LEN that R159 gives it: the data asked for after RD, one byte or more of
reason after NAK. -/
def ctlLenOk (cmd len : Nat) (r : Option CtlReq) : Bool :=
  match cmd with
  | 0x81 => len == 0
  | 0x82 => match r with | some r => len == r.len | none => true
  | 0x91 => len == 4
  | 0xEE => decide (4 ≤ len)
  | _ => true

/-- A control packet of command `cmd` from the head of port `n` (R159). A response belongs to the outstanding request
whose TAG it copies, and answers commands `reqs`; `f` is its effect. A NAK that arrives raises CTL_ERR (R164). -/
def State.ctlReceive (s : State) (n cmd : Nat) (b : List Byte) (k297 : Bool) (reqs : List Nat)
    (f : State → State) : State :=
  if !s.unitLive 2 (1 + n) || !(s.lport n).sync then s
  else if ctlBad b k297 then s.ctlErr n
  else if leAt b 0 1 != cmd then s
  else
    let r := s.answered n (leAt b 1 1) reqs
    if !ctlLenOk cmd (leAt b 2 2) r then s.ctlErr n
    else
      let s1 := if cmd = 0xEE then s.raise (0x036 + 8 * n) (1 + n) else s
      if r.isSome then f s1 else s1

/-- DATA of a control packet. -/
def ctlData (b : List Byte) : List Byte := slice b 8 (leAt b 2 2)

/-- WR_ACK. -/
def State.wrAck (s : State) (n : Nat) (b : List Byte) (k : Bool) : State :=
  s.ctlReceive n 0x81 b k [0x01] (fun t => t.endReq n 2 0)

/-- RD_DATA. -/
def State.rdDataRx (s : State) (n : Nat) (b : List Byte) (k : Bool) : State :=
  s.ctlReceive n 0x82 b k [0x02] fun t =>
    (t.wr (rLnkHcData n) (BitVec.ofNat 32 (leAt (ctlData b) 0 4))).endReq n 2 0

/-- TRAIN_ACK. That of PATTERN says that the head transmits: lanes in SIGNAL_WAIT have a signal and lock their clock
(R148, R149). -/
def State.trainAck (s : State) (n : Nat) (b : List Byte) (k : Bool) : State :=
  s.ctlReceive n 0x90 b k [0x10] fun t =>
    let t1 := if leAt b 4 4 = 0 then
        t.forEach (t.bonded n) (fun u l => if u.laneState l = 1 then u.setFld (rLnkLaneStat l) 28 4 2 else u)
      else t
    t1.endReq n 2 0

/-- EPOCH_ACK: ACKED holds the epoch (R227). -/
def State.epochAck (s : State) (n : Nat) (b : List Byte) (k : Bool) : State :=
  s.ctlReceive n 0x91 b k [0x11] fun t =>
    let e := leAt (ctlData b) 0 1
    let t1 := t.setFld (rSchHdEpstat n) 16 8 e
    (t1.setSchHead n { t1.schHead n with ack := e == t1.fld (rSchHdEpstat n) 8 8 }).endReq n 2 0

/-- NAK (R159, R164). -/
def State.nakRx (s : State) (n : Nat) (b : List Byte) (k : Bool) : State :=
  s.ctlReceive n 0xEE b k [0x01, 0x02, 0x10, 0x11] (fun t => t.endReq n 3 (leAt (ctlData b) 0 1))

/-- HEVENT: unsolicited (R159, R162); LEN is at most 16. -/
def State.hevent (s : State) (n : Nat) (b : List Byte) (k : Bool) : State :=
  if !s.unitLive 2 (1 + n) || !(s.lport n).sync then s
  else if ctlBad b k then s.ctlErr n
  else if leAt b 0 1 != 0xC0 then s
  else if 16 < leAt b 2 2 then s.ctlErr n
  else (s.wr (rLnkHcEvt n) (BitVec.ofNat 32 (leAt b 4 2))).raise (0x037 + 8 * n) (1 + n)

/-- CONTROL_RESPONSE_TIMEOUT (R160): sent again with the same TAG, at most twice, then TIMEOUT. -/
def State.ctlTimeout (s : State) (n : Nat) : State :=
  let p := s.lport n
  match p.cur with
  | none => s
  | some (r, k) =>
    if k < 2 then s.setLport n { p with cur := some (r, k + 1), tx := p.tx ++ [r.bytes] }
    else (s.ctlErr n).endReq n 4 0

/-! ### Training (R149, R150) -/

/-- Packet assembly of a port starts anew. -/
def State.clearAsm (s : State) (n : Nat) : State :=
  s.setLport n { s.lport n with rot := 0, long := none, skip := false, slots := [] }

/-- The port stops delivering while its lanes keep their lock: blocks that wait are dropped, the state of precoder and
descrambler runs on (R136, R150). -/
def State.flushStream (s : State) (n : Nat) : State :=
  (s.forEach (s.bonded n) fun t l => t.setLane l { t.lane l with fifo := [], lag := 0 }).clearAsm n

/-- Lanes and packet assembly of a port start anew, with precoding off (R149, R153). -/
def State.clearStream (s : State) (n : Nat) : State :=
  let s1 := s.forEach (s.bonded n) fun t l => (t.setLane l Lane.init).setBit (rLnkLaneStat l) 8 false
  let s2 := (s1.clearAsm n).setBit (rLnkPortStat n) 23 false
  s2.setLport n { s2.lport n with ctle := false, pre := false }

/-- An attempt begins with TRAIN PATTERN, once the control channel is in sync (R149). -/
def State.startAttempt (s : State) (n : Nat) : State :=
  let s1 := (s.clearStream n).setLanes n 1
  if (s1.lport n).sync then s1.reqTrain n 0 false else s1

/-- A running eye scan of a lane ends with ABORTED (R157). -/
def State.scanAbort (s : State) (l : Nat) : State :=
  if s.fld (rLnkLaneEsstat l) 28 4 = 1 then s.setFld (rLnkLaneEsstat l) 28 4 3 else s

/-- The long packet in progress is delivered with TRUNC (R146, R150). -/
def State.truncate (s : State) (n : Nat) : State :=
  let p := s.lport n
  match p.long with
  | none => s
  | some (h, d, unc) =>
    let q : Pkt := ⟨leAt h 1 1, leAt h 0 1 / 16, (h.getD 0 0#8).getLsbD 3, leAt h 2 2, leAt h 4 2, leAt h 6 1,
      d.take (leAt h 2 2), false, true, unc⟩
    (((s.setLport n { p with long := none, inbox := p.inbox ++ [q] }).nextPkt n).count (rLnkTrunc n)).raise
      (0x035 + 8 * n) (1 + n)

/-- The port leaves UP for state `st` (R150, R164, R167). -/
def State.leaveUp (s : State) (n st : Nat) (fenced : Bool) : State :=
  let s1 := (s.bonded n).foldl (fun t l => t.scanAbort l) (s.truncate n)
  let s2 := (s1.setFld (rLnkPortStat n) 28 4 st).setFld (rLnkPortStat n) 0 8 0
  let s3 := s2.setSchHead n { s2.schHead n with pulse := none }
  (s3.raise (0x031 + 8 * n) (1 + n)).portLost n fenced

/-- A port goes to a state; leaving UP has its own effects. -/
def State.setPortState (s : State) (n st : Nat) : State :=
  if s.portState n = 3 then s.leaveUp n st (s.fenced 2 (1 + n)) else s.setFld (rLnkPortStat n) 28 4 st

/-- V12 of head `n` is ON: the port starts training (R149). -/
def State.portStart (s : State) (n : Nat) : State :=
  if !s.unitLive 2 (1 + n) then s
  else
    let s1 := (s.lnkConfig n).setPortState n 1
    (s1.setLport n { s1.lport n with tries := 0, run := (s1.lport n).sync }).startAttempt n

/-- V12 of head `n` is off: the port is DOWN, its lanes OFF, the control channel idle (R148, R158). -/
def State.portStop (s : State) (n : Nat) : State :=
  let s1 := (s.setPortState n 0).clearStream n
  let s2 := (s1.setLanes n 0).setBit (rLnkPortStat n) 22 false
  let busy := s2.fld (rLnkHcStat n) 28 4 == 1
  let s3 := s2.setLport n { s2.lport n with sync := false, run := false, cur := none, rdyEpoch := none, rdyTrain := [], rdyHost := none }
  if busy then s3.setFld (rLnkHcStat n) 28 4 5 else s3

/-- CONTROL_CHANNEL_SYNC (R158, R149). -/
def State.ctlSync (s : State) (n : Nat) : State :=
  if !s.unitLive 2 (1 + n) || !s.v12On n || (s.lport n).sync then s
  else
    let s1 := (s.setLport n { s.lport n with sync := true, run := true }).setBit (rLnkPortStat n) 22 true
    if (s1.portState n == 1 || s1.portState n == 4) && s1.allLanes n 1 then s1.reqTrain n 0 false else s1.sendNext n

/-- CONTROL_SYNC_LOSS (R158). -/
def State.ctlSyncLoss (s : State) (n : Nat) : State :=
  (s.setLport n { s.lport n with sync := false }).setBit (rLnkPortStat n) 22 false

/-- CTL_SYNC_TIMEOUT (R149). -/
def State.ctlSyncTimeout (s : State) (n : Nat) : State :=
  if s.unitLive 2 (1 + n) && s.portState n == 1 && !(s.lport n).sync then
    (s.setPortState n 0).raise (0x036 + 8 * n) (1 + n)
  else s

/-- CDR_LOCK (R149). -/
def State.cdrLock (s : State) (n : Nat) : State :=
  if s.training n && (s.bonded n).all (fun l => s.laneState l == 1 || s.laneState l == 2) then s.setLanes n 3 else s

/-- The index of the greatest value; the lowest such index. -/
def argMax (l : List Nat) : Nat :=
  (l.zipIdx.foldl (fun (b : Nat × Nat) p => if b.1 < p.1 then p else b) (0, 0)).2

/-- CTLE_SWEEP_DONE (R149): per logical lane the heights of the middle eye at the 16 settings. -/
def State.ctleSweep (s : State) (n : Nat) (heights : List (List Nat)) : State :=
  if s.training n && s.allLanes n 3 then
    let s1 := ((s.bonded n).zip heights).foldl (fun t p => t.setFld (rLnkLaneEq p.1) 0 4 (argMax (p.2.take 16))) s
    s1.setLport n { s1.lport n with ctle := true }
  else s

/-- A tap in its register, sign-extended (R162). -/
def tapWord (c : Int) : Word := BitVec.ofInt 32 (max (-127) (min 127 c))

/-- DFE_CONVERGED (R149, R153): taps per logical lane. -/
def State.dfeConverged (s : State) (n : Nat) (taps : List (List Int)) : State :=
  if s.training n && s.allLanes n 3 && (s.lport n).ctle then
    let s1 := ((s.bonded n).zip taps).foldl (fun t p =>
      (List.range 8).foldl (fun t k => t.wr (rLnkLaneDfe p.1 k) (tapWord (p.2.getD k 0))) t) s
    let pre := match s.fld (rLnkPortCfg n) 26 2 with
      | 0 => false
      | 1 => true
      | _ => (s.bonded n).any (fun l => decide ((102 : Int) ≤ (s1.rd (rLnkLaneDfe l 0)).toInt))
    let s2 := (s1.setLport n { s1.lport n with pre := pre }).setBit (rLnkPortStat n) 23 pre
    let s3 := s2.forEach (s2.bonded n) (fun t l => t.setBit (rLnkLaneStat l) 8 pre)
    (s3.setLanes n 4).reqTrain n 1 pre
  else s

/-- AM_LOCK (R149). -/
def State.amLock (s : State) (n : Nat) : State :=
  if s.training n && s.allLanes n 4 then (s.setLanes n 5).setFld (rLnkPortStat n) 28 4 2 else s

/-- The lanes of a port begin with the same block of their block streams: the furthest of them, as the sequence numbers
of their alignment markers say (R149). Sequence numbers wrap. -/
def State.align (s : State) (n : Nat) : State :=
  let m := 0x10000 * 20479
  let at_ := fun l => (s.lane l).pos
  match (s.bonded n).findSome? at_ with
  | none => s
  | some p0 =>
    let rel := fun l => match at_ l with | some p => (p + m + m / 2 - p0) % m | none => m / 2
    let far := (s.bonded n).foldl (fun a l => max a (rel l)) 0
    s.forEach (s.bonded n) (fun t l =>
      t.setLane l { t.lane l with lag := if (at_ l).isSome then far - rel l else 0 })

/-- An attempt fails (R149): the failed lanes go to FAULT; the third attempt ends in DOWN with TRAIN STOP. -/
def State.attemptFailed (s : State) (n : Nat) (failed : BitVec 8) : State :=
  let bad := (s.bonded n).zipIdx.filter (fun p => failed.getLsbD p.2)
  let s1 := bad.foldl (fun t p => t.setFld (rLnkLaneStat p.1) 28 4 7) s
  let tries := (s.lport n).tries + 1
  let s2 := (s1.setLport n { s1.lport n with tries := tries }).setFld (rLnkPortStat n) 0 8
    (min 255 (s.fld (rLnkPortStat n) 0 8 + 1))
  let s3 := if !bad.isEmpty || 3 ≤ tries then s2.raise (0x032 + 8 * n) (1 + n) else s2
  if 3 ≤ tries then (s3.setFld (rLnkPortStat n) 28 4 0).reqTrain n 3 false
  else
    let s4 := if s3.portState n = 2 then s3.setFld (rLnkPortStat n) 28 4 1 else s3
    s4.startAttempt n

/-- TRAINING_TIMEOUT (R149): bit k of `failed` names logical lane k. The limits run from control-channel sync on, also
where sync has been lost since. -/
def State.trainingTimeout (s : State) (n : Nat) (failed : BitVec 8) : State :=
  if s.inTraining n && (s.lport n).run then s.attemptFailed n failed else s

/-- PORT_UP (R149, R165): lanes aligned within 150 ns. A larger skew fails the attempt, and every bonded lane has failed
that step (DESIGN CHOICE, log entry 108). -/
def State.portUpEvent (s : State) (n skew : Nat) : State :=
  if s.training n && s.allLanes n 5 then
    if 150 < skew then s.attemptFailed n 0xFF#8
    else
      let s1 := (((s.align n).setLanes n 6).setFld (rLnkPortStat n) 28 4 3).setFld (rLnkPortStat n) 8 8 skew
      let s2 := s1.setSchHead n { s1.schHead n with count := 0 }
      ((s2.setLport n { s2.lport n with tries := 0 }).reqTrain n 2 false).raise (0x030 + 8 * n) (1 + n)
  else s

/-- LANE_FAULT (R150): the port stops delivering, and retrains or goes DOWN. The other lanes keep their AM lock. -/
def State.laneFault (s : State) (n l : Nat) : State :=
  if s.unitLive 2 (1 + n) && s.portState n == 3 && (s.bonded n).contains l then
    let s1 := ((s.setLanes n 5).setFld (rLnkLaneStat l) 28 4 7).raise (0x032 + 8 * n) (1 + n)
    if s1.bit (rLnkPortCtl n) 1 then
      let s2 := s1.leaveUp n 4 false
      (s2.setLport n { s2.lport n with tries := 0 }).startAttempt n
    else (s1.leaveUp n 0 false).flushStream n
  else s

/-- RETRAIN: a write of LNK_PORT_CTL.RETRAIN (R162). -/
def State.retrain (s : State) (n : Nat) : State :=
  if s.unitLive 2 (1 + n) && s.v12On n then
    let s1 := s.setPortState n 1
    (s1.setLport n { s1.lport n with tries := 0 }).startAttempt n
  else s

/-- DFE_UPDATE (R151): one step of sign-sign LMS on a lane in UP. -/
def State.dfeUpdate (s : State) (l : Nat) (signE : Int) (signD : List Int) : State :=
  if s.laneState l = 6 ∧ !s.bit (rLnkLaneEq l) 8 then
    (List.range 8).foldl (fun t k =>
      t.wr (rLnkLaneDfe l k) (tapWord ((s.rd (rLnkLaneDfe l k)).toInt + signE.sign * (signD.getD k 0).sign))) s
  else s

/-! ### Eye scan (R154 to R157) -/

/-- EYE, DWELL and the strides of LNK_LANE_ESCTL as a write gives them (R162). -/
def State.scanConfig (s : State) (l : Nat) (v : Word) : State :=
  let eye := fget v 28 2
  s.wr (rLnkLaneEsctl l)
    (fset (fset (v &&& 0x303F000F#32) 28 2 (if eye = 3 then 1 else eye)) 16 6 (clampNat 16 40 (fget v 16 6)))

/-- EYE_SCAN_START: a write of LNK_LANE_ESCTL with START. DESIGN CHOICE (R155, R157): a START that is refused leaves the
result RAM as it is, and of a write with ABORT while a scan runs only ABORT takes effect (log entry 109). -/
def State.scanStart (s : State) (l : Nat) (v : Word) : State :=
  if !s.unitLive 2 (16 + l) then s
  else if s.fld (rLnkLaneEsstat l) 28 4 = 1 then
    if v.getLsbD 30 then s.scanAbort l else s.violation (rLnkLaneEsctl l)
  else
    let s1 := s.scanConfig l v
    if s.laneState l = 6 then
      let s2 : State := { s1 with regs := s1.regs.filter (fun p =>
        !(decide (rLnkLaneEsram l 0 ≤ p.1) && decide (p.1 < rLnkLaneEsram l 8192))) }
      s2.wr (rLnkLaneEsstat l) 0x10000000#32
    else s1.setFld (rLnkLaneEsstat l) 28 4 4

/-- EYE_SCAN_POINT (R155, R156): the dwell of the next point ends. -/
def State.scanPoint (s : State) (l errors : Nat) : State :=
  if s.fld (rLnkLaneEsstat l) 28 4 = 1 then
    let pt := s.fld (rLnkLaneEsstat l) 0 14
    let s1 := s.wr (rLnkLaneEsram l pt)
      (BitVec.ofNat 32 (min 0xFFFFFF errors * 256 + s.fld (rLnkLaneEsctl l) 16 6))
    let p := pt % 128 + 2 ^ s.fld (rLnkLaneEsctl l) 0 2
    let v := if p < 128 then pt / 128 else pt / 128 + 2 ^ s.fld (rLnkLaneEsctl l) 2 2
    if p < 128 then s1.setFld (rLnkLaneEsstat l) 0 14 (128 * v + p)
    else if v < 64 then s1.setFld (rLnkLaneEsstat l) 0 14 (128 * v)
    else (s1.setFld (rLnkLaneEsstat l) 0 14 8192).setFld (rLnkLaneEsstat l) 28 4 2
  else s

/-! ### Codewords (R135 to R140) -/

/-- The Gray values of decided PAM4 symbols, with precoding inverted where it is active (R136). -/
def grayOf (pre : Bool) : Nat → List Nat → List Nat
  | _, [] => []
  | q, p :: ps => (if pre then (p % 4 + q) % 4 else p % 4) :: grayOf pre (p % 4) ps

/-- The bit pair of a Gray value, the earlier bit first (R135). -/
def grayBits (g : Nat) : List Bool :=
  match g with | 0 => [false, false] | 1 => [false, true] | 2 => [true, true] | _ => [true, false]

/-- Bits, first bit least significant. -/
def bitsNat : List Bool → Nat
  | [] => 0
  | b :: bs => b.toNat + 2 * bitsNat bs

/-- A list cut into pieces of `n`. -/
def chunks {α : Type} (n : Nat) (l : List α) (k : Nat) : List (List α) := (List.range k).map (fun i => slice l (n * i) n)

/-- The `w` low bits of a number, first bit least significant. -/
def natBits (w n : Nat) : List Bool := (List.range w).map n.testBit

/-- R138: the descrambler over the bits of a block. -/
def descramble : BitVec 58 → List Bool → BitVec 58 × List Bool
  | st, [] => (st, [])
  | st, b :: bs =>
    let r := descramble ((st <<< 1) ||| BitVec.ofNat 58 b.toNat) bs
    (r.1, (b != (st.getLsbD 38 != st.getLsbD 57)) :: r.2)

/-- The bytes of a block's 256 bits (R137). -/
def blockBytes (bits : List Bool) : List Byte := (chunks 8 bits 32).map (fun c => BitVec.ofNat 8 (bitsNat c))

/-- The expected bytes 0 and 8 to 31 of an AM block (R137). -/
def amBytes : List Byte :=
  let m : List Byte := [0x9A#8, 0x4E#8, 0x2D#8, 0xB3#8, 0x65#8, 0xB1#8, 0xD2#8, 0x4C#8]
  0x4B#8 :: (m ++ m ++ m)

/-- Bits set in a byte. -/
def popByte (b : Byte) : Nat := (List.range 8).countP (fun i => b.getLsbD i)

/-- R140: an AM is accepted with at most 8 wrong bits. -/
def amOk (b : List Byte) : Bool :=
  let got := b.take 1 ++ slice b 8 24
  decide ((List.zipWith (fun x y => popByte (x ^^^ y)) got amBytes).foldl (· + ·) 0 ≤ 8)

/-- CODEWORD_DECODE (R139, R140): 2,720 decided PAM4 symbols of a lane are one codeword. Blocks are kept for the merge
while the lane is UP. -/
def State.codeword (s : State) (l : Nat) (symbols : List Nat) : State :=
  let n := l / 8
  let st := s.laneState l
  if !s.unitLive 2 (16 + l) || !(decide (4 ≤ st) && decide (st ≤ 6)) || symbols.length != 2720 then s
  else
    let ln := s.lane l
    let bits := (grayOf (s.bit (rLnkLaneStat l) 8) ln.prev symbols).flatMap grayBits
    let w := (chunks 10 bits 544).map bitsNat
    let dec := gfLink.decode 30 15 w
    let unc := dec.isNone
    let s1 := match dec with
      | some (_, k) => s.countN (rLnkFecCor l) k
      | none => (s.count (rLnkFecUnc l)).raise (0x033 + 8 * n) (1 + n)
    let msg := ((match dec with | some (c, _) => c | none => w).take 514).flatMap (natBits 10)
    let blks := chunks 257 msg 20
    let am := match ln.cw with | none => true | some k => k == 1023
    let hit := am && amOk (blockBytes ((blks.headD []).drop 1))
    let drop := hit || (am && ln.cw.isSome)
    let r := (if drop then blks.drop 1 else blks).foldl (fun (a : BitVec 58 × List Blk) b =>
      let d := descramble a.1 (b.drop 1)
      (d.1, a.2 ++ [⟨b.headD false, blockBytes d.2, unc⟩])) (ln.scr, [])
    let cw := if hit then some 0 else match ln.cw with
      | none => none
      | some k => some (if k = 1023 then 0 else k + 1)
    let miss := if hit then 0 else if am && ln.cw.isSome then ln.miss + 1 else ln.miss
    let first := if hit && st != 6 then some (leAt (blockBytes ((blks.headD []).drop 1)) 2 2 * 20479) else ln.pos
    let s2 := s1.setLane l ⟨if st = 6 then ln.fifo ++ r.2.drop ln.lag else [], r.1, cw, miss, symbols.getLast?.getD 0 % 4,
      first.map (fun p => (p + r.2.length) % (0x10000 * 20479)), if st = 6 then ln.lag - r.2.length else ln.lag⟩
    if 4 ≤ miss && st == 6 then s2.laneFault n l else s2

/-! ### Packets (R141 to R146) -/

/-- Count a discarded packet under its rule, with source HDR_ERR where the counter has it. -/
def State.hdrErr (s : State) (n reg : Nat) : State := (s.count reg).raise (0x034 + 8 * n) (1 + n)

/-- The checks of a header in the order of R146: the state with its counter and whether the packet goes on. -/
def State.checkHdr (s : State) (n : Nat) (h : List Byte) (short unc : Bool) : State × Bool :=
  let dt := leAt h 1 1
  let okDt := if short then decide (0x08 ≤ dt) && decide (dt ≤ 0x0C)
    else (decide (0x40 ≤ dt) && decide (dt ≤ 0x43)) || dt == 0x50 || dt == 0x51 || dt == 0x7F
  if crc8 (h.take 7) != leAt h 7 1 then (s.hdrErr n (rLnkHdrErr n), false)
  else if !okDt then (s.hdrErr n (rLnkBadDt n), false)
  else if !s.strDecl (n * 16 + leAt h 0 1 / 16) then (s.count (rLnkUndeclVc n), false)
  else if unc then (s, false)
  else (s, true)

/-- Deliver a packet to ING with its marks; a filler without a mark is discarded (R142, R146: the first row that applies
decides). -/
def State.deliver (s : State) (n : Nat) (h d : List Byte) (crcErr unc : Bool) : State :=
  let dt := leAt h 1 1
  if dt = 0x7F ∧ !crcErr ∧ !unc then s.count (rLnkFiller n)
  else
    let p := s.lport n
    let q : Pkt := ⟨dt, leAt h 0 1 / 16, (h.getD 0 0#8).getLsbD 3, leAt h 2 2, leAt h 4 2, leAt h 6 1, d, crcErr, false, unc⟩
    (s.setLport n { p with inbox := p.inbox ++ [q] }).nextPkt n

/-- A long packet of which `d` has arrived: complete, or still in progress. The answer says whether it is done. -/
def State.longStep (s : State) (n : Nat) (h d : List Byte) (unc : Bool) : State × Bool :=
  let wc := leAt h 2 2
  let p := s.lport n
  if d.length < wc + 4 then (s.setLport n { p with long := some (h, d, unc) }, false)
  else
    let bad := crc32c (d.take wc) != leAt d wc 4
    let s1 := s.setLport n { p with long := none }
    let s2 := if bad then (s1.count (rLnkCrcErr n)).raise (0x035 + 8 * n) (1 + n) else s1
    (s2.deliver n h (d.take wc) bad unc, true)

/-- The next block of the port stream, taken (R133). -/
def State.takeBlock (s : State) (n : Nat) : Option (Blk × State) :=
  let p := s.lport n
  let l := s.physLane n (p.rot % s.lanes n)
  match (s.lane l).fifo with
  | [] => none
  | b :: rest => some (b, (s.setLane l { s.lane l with fifo := rest }).setLport n { p with rot := (p.rot + 1) % s.lanes n })

/-- One block of the port stream: the state, and whether a packet has been delivered or discarded by it. -/
def State.blockStep (s : State) (n : Nat) (b : Blk) : State × Bool :=
  let p := s.lport n
  if b.h then
    match p.long with
    | some (h, d, unc) => s.longStep n h (d ++ b.bytes) (unc || b.unc)
    | none => if p.skip then (s, false) else (s.hdrErr n (rLnkBlkErr n), false)
  else
    let s1 := s.setLport n { p with skip := false }
    match (b.bytes.getD 0 0#8).toNat with
    | 0x1E => (s1, false)
    | 0x4B => (s1, false)
    | 0x33 => (s1.setLport n { s1.lport n with slots := (chunks 8 (b.bytes.drop 8) 3).map (·, b.unc) }, false)
    | 0x78 =>
      let h := slice b.bytes 8 8
      let c := s1.checkHdr n h false b.unc
      if c.2 then c.1.longStep n h (slice b.bytes 16 16) false
      else (c.1.setLport n { c.1.lport n with skip := true }, true)
    | _ => (s1.hdrErr n (rLnkBlkErr n), false)

/-- PACKET_RECEIVE (R146): the port stream is taken up to the end of its next packet. -/
def State.packetReceive (s : State) (n : Nat) : Nat → State
  | 0 => s
  | fuel + 1 =>
    let p := s.lport n
    match p.slots with
    | (h, unc) :: rest =>
      let s1 := s.setLport n { p with slots := rest }
      if h.all (· == 0#8) then State.packetReceive s1 n fuel
      else
        let c := s1.checkHdr n h true unc
        if c.2 then c.1.deliver n h [] false unc else c.1
    | [] =>
      match s.takeBlock n with
      | none => s
      | some (b, s1) =>
        if !b.h && p.long.isSome then s.truncate n
        else
          let r := s1.blockStep n b
          if r.2 then r.1 else State.packetReceive r.1 n fuel

/-- Blocks that wait in the lanes of a port, and slots: a bound on the work of one packet. -/
def State.rxWork (s : State) (n : Nat) : Nat :=
  (s.lport n).slots.length + 4 * (s.bonded n).foldl (fun a l => a + (s.lane l).fifo.length) 0 + 1

/-- PACKET_RECEIVE on a port that is UP. -/
def State.packetRx (s : State) (n : Nat) : State := if s.portUp n then s.packetReceive n (s.rxWork n) else s

end Sys2Proof.Machine
end

