-- ==== Sys2Proof/Machine/Schedule.lean ====
section
/-! DEFINITION. The Capture Schedule (08): compare entries, crossings and actions, admission of exposures, settings epochs,
strobe outputs, recording windows, the mains-phase and trigger-count axes. -/

namespace Sys2Proof.Machine

open Sys2Proof

/-! ### Compare entries (R195 to R200) -/

/-- An entry never written. -/
def CmpEnt.init : CmpEnt := ⟨0#64, 0, 0, 0#32, 0#32, 0#32, false, false, false, 0, 0, none⟩

/-- Entry `e` of table `t`. -/
def State.cmpEnt (s : State) (t e : Nat) : CmpEnt := Map.get (fun _ => CmpEnt.init) s.sch.tbl (t * 4096 + e)

/-- Put it. -/
def State.setCmp (s : State) (t e : Nat) (v : CmpEnt) : State :=
  { s with sch := { s.sch with tbl := Map.set (fun _ => CmpEnt.init) s.sch.tbl (t * 4096 + e) v } }

/-- The written entries of a table. -/
def State.tblEntries (s : State) (t : Nat) : List Nat :=
  s.sch.tbl.filterMap (fun p => if p.1 / 4096 = t then some (p.1 % 4096) else none)

/-- ACTION, DIR, EPS, CH, HEADS of CTRL (R197). -/
def CmpEnt.action (c : CmpEnt) : Nat := fget c.ctrl 0 4
def CmpEnt.dir (c : CmpEnt) : Nat := fget c.ctrl 29 2
def CmpEnt.eps (c : CmpEnt) : Nat := fget c.ctrl 24 3
def CmpEnt.chan (c : CmpEnt) : Nat := fget c.ctrl 16 6
def CmpEnt.heads (c : CmpEnt) : Nat := fget c.ctrl 8 4

/-- The axis that owns a table. -/
def State.tblAxis (s : State) (t : Nat) : Nat := s.fld (rSchTblCfg t) 16 3

/-- R199: an enabled entry is bad. -/
def State.entBad (s : State) (t : Nat) (c : CmpEnt) : Bool :=
  let ax := s.tblAxis t
  let a := c.action
  c.ctrl.getLsbD 31 &&
  (decide (4 < a) || c.dir == 3 || (decide (1 ≤ c.eps) && decide (c.eps ≤ 3)) ||
   ((ax == 0 || ax == 5 || ax == 6) && c.dir != 0) || (c.dir == 2 && c.incr != 0) ||
   (a == 2 && decide (7 < c.chan)) || (a == 3 && decide (2 < fget c.param 0 8)) ||
   ((a == 1 || a == 3) && c.heads == 0) || (idxs 4 c.heads.testBit).any (fun n => !s.declared n))

/-- The axis of a table is there: not fenced and, for A5, locked (R202). -/
def State.axUp (s : State) (ax : Nat) : Bool :=
  match ax with
  | 0 => s.mintUp
  | 5 => s.a5Lock
  | 6 => s.unitLive 4 15
  | 7 => false
  | n => s.unitLive 4 (9 + n)

/-- LENGTH of a table (R226). -/
def State.tblLen (s : State) (t : Nat) : Nat := clampNat 1 4096 (s.fld (rSchTblCfg t) 0 13)

/-- R202: an entry is live. -/
def State.entLive (s : State) (t e : Nat) : Bool :=
  let c := s.cmpEnt t e
  s.unitLive 4 1 && s.unitLive 4 (2 + t) && s.bit (rSchTblCfg t) 31 && decide (e < s.tblLen t) &&
  c.ctrl.getLsbD 31 && c.action != 0 && !s.entBad t c && !c.done && s.axUp (s.tblAxis t)

/-- SCH_EVT_INFO names an entry (R225). -/
def State.schInfo (s : State) (t e : Nat) : State := (s.setFld rSchEvtInfo 16 3 t).setFld rSchEvtInfo 0 12 e

/-- SCH_NOTICE with its cause. -/
def State.notice (s : State) (cause : Nat) : State := (s.setFld rSchEvtInfo 28 4 cause).raise 0x077 1

/-- Occurrences are MISSED: counted, each raised; one cycle carries at most 255 assertions (R542). -/
def State.missed (s : State) (t e n : Nat) : State :=
  ((s.countN (rSchTblMissed t) n).schInfo t e).forEach (List.range (min n 255)) (fun u _ => u.raise 0x070 1)

/-- An action is LATE: counted and raised. -/
def State.lateAct (s : State) (t e : Nat) : State := ((s.count (rSchTblLate t)).schInfo t e).raise 0x071 1

/-! ### Where an axis stands and when it crosses (R191, R201, R206) -/

/-- The direction in which an axis moves: true rising (R191). -/
def State.axDir (s : State) (ax : Nat) : Option Bool :=
  match ax with
  | 0 => some true
  | 5 => if s.a5Lock then some true else none
  | 6 => none
  | n => let v := s.axSpeed (n - 1) s.nowTu
         if v = 0 then none else some (decide (0 < v))

/-- x - a as R190 compares them. -/
def axDiff (x a : BitVec 64) : Int := (x - a).toInt

/-- The reference of the prediction of R206: the axis value there and its Mint time. -/
def State.axRef (s : State) (ax : Nat) : BitVec 64 × Int :=
  match ax with
  | 0 => (s.axisAt 0 s.nowTu, s.nowTu / 25 * 25)
  | 5 => (BitVec.ofNat 64 (s.sch.a5.cycle * 65536), s.sch.a5.zc.getD 0 0)
  | 6 => (s.axisAt 6 s.nowTu, s.sch.a6t)
  | n => (BitVec.ofInt 64 ((s.axis (n - 1)).count.toInt * 65536), (s.axis (n - 1)).tk)

/-- The Mint time at which an axis stands `d` past its reference, from its speed; none where it does not move. -/
def State.timeOf (s : State) (ax : Nat) (d : Int) : Option Int :=
  let t := (s.axRef ax).2
  match ax with
  | 0 => some (t + d * 25)
  | 5 => if s.a5Lock then some (t + d * s.a5Tavg / 65536) else none
  | 6 => none
  | n => let v := s.axSpeed (n - 1) s.nowTu
         if v = 0 ∨ (s.axis (n - 1)).v = 0 then none else some (t + d * (tuPerSec : Int) / (s.axis (n - 1)).v)

/-- OFFSET in time units (R196). -/
def offTu (w : Word) : Int := w.toInt * 32768

/-- The lead of an output edge: TLAT for EXPOSE, the nominal delay of R59 for STROBE (R208). -/
def State.leadOf (s : State) (action heads : Nat) : Int :=
  if action = 1 then
    (((idxs 4 heads.testBit).foldl (fun m n => max m (s.fld (rSchHdTlat n) 0 24)) 0 : Nat) : Int) * 32768
  else if action = 2 then 350 * tuPerNs else 0

/-- 64 ns. -/
def commitTu : Int := 64 * tuPerNs

/-- DIR permits a crossing. -/
def CmpEnt.permits (c : CmpEnt) (rising : Bool) : Bool := c.dir == 2 || (if rising then c.dir == 0 else c.dir == 1)

/-- R202: an entry whose VALUE is moved on by `k` axis units along its direction is behind. -/
def State.behindAt (s : State) (t : Nat) (c : CmpEnt) (k : Nat) : Bool :=
  let ax := s.tblAxis t
  let step : Int := if c.dir = 1 then -(k : Int) else k
  let d := axDiff c.value (s.axisAt ax s.nowTu) + step
  if ax = 6 then decide (d ≤ 0)
  else
    match s.axDir ax with
    | none => false
    | some up =>
      if !c.permits up then false
      else if (if up then decide (d ≤ 0) else decide (0 ≤ d)) then true
      else
        match s.timeOf ax (axDiff c.value (s.axRef ax).1 + step) with
        | none => false
        | some tx => decide (tx + offTu c.offset - s.leadOf c.action c.heads < s.nowTu + commitTu)

/-- The least n in `[lo, hi)` from which `p` fails, where `p` holds up to some point; `hi` where it never fails. -/
def leastFail (p : Nat → Bool) : Nat → Nat → Nat → Nat
  | 0, lo, _ => lo
  | fuel + 1, lo, hi =>
    if hi ≤ lo then lo
    else
      let m := (lo + hi) / 2
      if p m then leastFail p fuel (m + 1) hi else leastFail p fuel lo m

/-! ### Firing (R203 to R208) -/

/-- The CLK_MT cycle of an action. -/
def Act.cycle (a : Act) : Int := a.ta / (tuPerNs : Int)

/-- The order in which the actions of one cycle are issued (R205): by table, then by entry. -/
def Act.before (a b : Act) : Bool := decide (a.t < b.t) || (a.t == b.t && decide (a.e < b.e))

/-- Of the actions of a cycle that are not committed, the last in the order of issue that comes after `a`. -/
def lastAfter (a : Act) (l : List Act) : Option Act :=
  l.foldl (fun b x =>
    if x.committed || x.wait || !a.before x then b
    else match b with | none => some x | some y => some (if y.before x then x else y)) none

/-- R205: an action joins its cycle. Where that holds eight, the last in the order of issue moves to the next cycle and
is late. The answer holds the actions and the entries whose action became late so. -/
def joinCycle : Nat → List Act → Act → List (Nat × Nat) → List Act × List (Nat × Nat)
  | 0, l, a, m => (l ++ [a], m)
  | fuel + 1, l, a, m =>
    let here := l.filter (fun b => b.cycle == a.cycle && !b.wait)
    if here.length < 8 then (l ++ [a], m)
    else
      let out := (lastAfter a here).getD a
      let l1 := if out == a then l else l.erase out ++ [a]
      joinCycle fuel l1 { out with ta := out.ta + tuPerNs, late := true }
        (if out.late then m else m ++ [(out.t, out.e)])

/-- The firing of an entry is LATE: its status, count and source. -/
def State.setLate (s : State) (t e : Nat) : State := (s.setCmp t e { s.cmpEnt t e with late := true }).lateAct t e

/-- Put an action into its cycle (R205). -/
def State.putAct (s : State) (a : Act) : State :=
  let r := joinCycle (s.sch.acts.length + 1) s.sch.acts a []
  ({ s with sch := { s.sch with acts := r.1 } } : State).forEach r.2 (fun u p => u.setLate p.1 p.2)

/-- Place an action: at its time, or at the earliest edge where that is too late (R204). -/
def State.planAct (s : State) (t e : Nat) (c : CmpEnt) (ta : Int) (up late : Bool) : State :=
  let lead := s.leadOf c.action c.heads
  let tooLate := late || decide (ta - lead < s.nowTu + commitTu)
  let ta1 := if tooLate then s.nowTu + commitTu + lead else ta
  let a : Act := ⟨t, e, c.action, ta1, c.value, c.offset, tooLate, false, up, false, c.heads, c.eps, c.chan, c.param⟩
  let c0 := s.cmpEnt t e
  let c1 := { c0 with
    fired := min (c0.fired + 1) (2 ^ 28 - 1), late := false, missed := if c.incr = 0 then false else c0.missed }
  let s1 := (s.setCmp t e c1).count (rSchTblFired t)
  (if tooLate then s1.setLate t e else s1).putAct a

/-- VALUE moved on by `k` occurrences (R203). -/
def CmpEnt.skip (c : CmpEnt) (k : Nat) : CmpEnt :=
  { c with value := if c.dir = 1 then c.value - BitVec.ofNat 64 (k * c.incr) else c.value + BitVec.ofNat 64 (k * c.incr) }

/-- `k` occurrences count in REPEAT (R202, R203). -/
def CmpEnt.occur (c : CmpEnt) (k : Nat) : CmpEnt :=
  let n := c.occ + k
  { c with occ := n, done := c.rep != 0 && decide (c.rep ≤ n) }

/-- R202: the check of an entry that has become live or has advanced. -/
def State.recheck (s : State) (t e : Nat) : State :=
  let c := s.cmpEnt t e
  if !s.entLive t e || c.rearm.isSome || !s.behindAt t c 0 then s
  else
    let ax := s.tblAxis t
    let fire := s.bit (rSchTblCfg t) 30
    let dir := (s.axDir ax).getD true
    if c.incr = 0 then
      if fire then
        let s1 := s.planAct t e c 0 dir true
        let c1 := (s1.cmpEnt t e).occur 1
        s1.setCmp t e (if c1.done then c1 else { c1 with rearm := some dir })
      else
        let passed := let d := axDiff c.value (s.axisAt ax s.nowTu)
          if dir then decide (d ≤ 0) else decide (0 ≤ d)
        (s.setCmp t e { c with missed := true, rearm := if passed then none else some dir }).missed t e 1
    else
      let left := if c.rep = 0 then 2 ^ 66 else c.rep - c.occ
      let n := min left (leastFail (fun k => s.behindAt t c (k * c.incr)) 70 1 (2 ^ 65 / c.incr + 1))
      if fire then
        let s1 := if n = 1 then s else s.missed t e (n - 1)
        let s2 := (s1.setCmp t e (c.skip (n - 1))).planAct t e (c.skip (n - 1)) 0 dir true
        s2.setCmp t e (((s2.cmpEnt t e).skip 1).occur n)
      else (s.setCmp t e ((c.skip n).occur n)).missed t e n

/-- After a firing the entry is DONE, advances or waits to rearm (R203). -/
def State.afterFire (s : State) (t e : Nat) (rising : Bool) : State :=
  let c := (s.cmpEnt t e).occur 1
  if c.done then s.setCmp t e c
  else if c.incr != 0 then (s.setCmp t e (c.skip 1)).recheck t e
  else s.setCmp t e { c with rearm := some rising }

/-- A crossing of an entry fires it (R201, R203). -/
def State.fireEntry (s : State) (t e : Nat) (rising : Bool) (tx : Int) (late : Bool) : State :=
  let c := s.cmpEnt t e
  (s.planAct t e c (tx + offTu c.offset) rising late).afterFire t e rising

/-- R206: the action times of an axis are computed again at each new edge, read or crossing, until they are committed. An
action whose axis has stopped, or has turned back before the crossing, waits. -/
def State.predictAct (s : State) (ax : Nat) (a : Act) : Act :=
  let d := axDiff a.x (s.axRef ax).1
  let passed := if a.up then decide (d ≤ 0) else decide (0 ≤ d)
  if a.committed || a.late || s.tblAxis a.t != ax then a
  else if s.axDir ax = some a.up then
    match s.timeOf ax d with
    | some tx => { a with ta := tx + offTu a.off, wait := false }
    | none => { a with wait := !passed }
  else { a with wait := !passed }

/-- R206 for every action of an axis. -/
def State.repredict (s : State) (ax : Nat) : State :=
  { s with sch := { s.sch with acts := s.sch.acts.map (s.predictAct ax) } }

/-- An entry that fired may fire again once its axis has moved HYST away (R203). -/
def State.rearmAxis (s : State) (ax : Nat) : State :=
  s.forEach (List.range 8) fun u t =>
    if u.tblAxis t != ax then u
    else
      let a := u.axisAt ax u.nowTu
      let h : Int := (u.rd (rSchTblHyst t)).toNat
      u.forEach (u.tblEntries t) fun w e =>
        let c := w.cmpEnt t e
        let d := axDiff c.value a
        match c.rearm with
        | none => w
        | some up =>
          let away := if c.dir = 2 then decide (h ≤ d) || decide (d ≤ -h) else if up then decide (h ≤ d) else decide (d ≤ -h)
          if away then w.setCmp t e { c with rearm := none } else w

/-- Uncommitted actions of a table are withdrawn (R206, R222). -/
def State.withdraw (s : State) (t : Nat) : State :=
  { s with sch := { s.sch with acts := s.sch.acts.filter (fun a => a.t != t || a.committed) } }

/-- Uncommitted actions of the tables of an axis are withdrawn (R193, R223). -/
def State.withdrawAxis (s : State) (ax : Nat) : State :=
  s.forEach (List.range 8) (fun u t => if u.tblAxis t == ax then u.withdraw t else u)

/-! ### Streams, heads and epochs (R212, R214 to R216) -/

/-- The streams of which an EXPOSE makes exposures, with the head of a stream of no group, lowest first; a group counts
once. An exposure of a head is one record (R165), of the head's first declared stream (DESIGN CHOICE, log entry 110). -/
def State.namedStrs (s : State) (heads : Nat) : List (Nat × Nat) :=
  (idxs 4 heads.testBit).foldl (fun l n =>
    let i := match s.grpOf n with | some g => s.grpStr g | none => s.headStr n
    match i with
    | some i => if l.any (fun p => p.1 == i) then l else l ++ [(i, n)]
    | none => l) []

/-- The settings set of an exposure of head `n` at `ts`, and whether it makes the pending set current (R214, R215). -/
def State.epochSet (s : State) (n eps : Nat) (ts : Int) : Nat × Bool :=
  if 4 ≤ eps then (eps % 4, false)
  else if s.bit (rSchHdEpstat n) 31 && decide (((s.schHead n).te * tuPerNs : Int) ≤ ts) then
    (s.fld (rSchHdEpstat n) 28 2, true)
  else (s.fld (rSchHdEpstat n) 24 2, false)

/-- EPOCH and DUR of set `k` of head `n`. -/
def State.epochId (s : State) (n k : Nat) : Nat := s.fld (rSchHdEpId n k) 0 8
def State.epochDur (s : State) (n k : Nat) : Nat := (s.rd (rSchHdEpDur n k)).toNat

/-- The pending set of head `n` becomes current (R215). -/
def State.applyPending (s : State) (n k : Nat) : State :=
  ((s.setBit (rSchHdEpstat n) 31 false).setFld (rSchHdEpstat n) 24 2 k).raise 0x074 1

/-- HEADS names head `n` or a member of its group. -/
def State.namesHead (s : State) (heads n : Nat) : Bool :=
  heads.testBit n || match s.grpOf n with
    | some g => (s.grpMembers g).any heads.testBit
    | none => false

/-- The earliest predicted exposure of head `n`: its time and EPS (R216). -/
def State.nextExpose (s : State) (n : Nat) : Option (Int × Nat) :=
  let early := fun (b : Option (Int × Nat)) (t : Int) (eps : Nat) => match b with
    | none => some (t, eps)
    | some (u, k) => if t < u then some (t, eps) else some (u, k)
  let a := s.sch.acts.foldl
    (fun b a => if a.kind = 1 ∧ !a.wait ∧ s.namesHead a.heads n = true then early b a.ta a.eps else b) none
  s.sch.tbl.foldl (fun b p =>
    let t := p.1 / 4096
    let c := p.2
    if c.action = 1 && s.namesHead c.heads n && c.rearm.isNone && s.entLive t (p.1 % 4096) && !s.behindAt t c 0 then
      match s.axDir (s.tblAxis t), s.timeOf (s.tblAxis t) (axDiff c.value (s.axRef (s.tblAxis t)).1) with
      | some up, some tx => if c.permits up then early b (tx + offTu c.offset) c.eps else b
      | _, _ => b
    else b) a

/-- EPOCH_SEL for the next expected exposure of head `n`, where its epoch differs from the last one sent (R216). -/
def State.expect (s : State) (n : Nat) : State :=
  if !s.unitLive 4 (16 + n) || !(s.lport n).sync then s
  else
    match s.nextExpose n with
    | none => s
    | some (ts, eps) =>
      let e := s.epochId n (s.epochSet n eps ts).1
      let last : Option Nat := match (s.lport n).rdyEpoch with
        | some r => some r
        | none => if (s.schHead n).sent then some (s.fld (rSchHdEpstat n) 8 8) else none
      if last = some e then s else (s.setSchHead n { s.schHead n with sent := true }).reqEpoch n e

/-- The live entries of a table. -/
def State.liveNow (s : State) (t : Nat) : List Nat := (s.tblEntries t).filter (s.entLive t)

/-- Heads with no placed exposure ahead look at their first expected exposure (R216). -/
def State.expectIdle (s : State) : State :=
  s.forEach (idxs 4 s.declared) fun t n =>
    if t.sch.acts.any (fun a => a.kind == 1 && t.namesHead a.heads n) then t else t.expect n

/-- R202 over the entries of a table. -/
def State.recheckTbl (s : State) (t : Nat) : State :=
  (s.forEach (s.tblEntries t) (fun u e => u.recheck t e)).expectIdle

/-- R202 over the tables of an axis. -/
def State.recheckAxis (s : State) (ax : Nat) : State :=
  s.forEach (List.range 8) (fun u t => if u.tblAxis t == ax then u.recheckTbl t else u)

/-- R202 over the entries that have become live since `old`, by table (R223). -/
def State.recheckNew (s : State) (old : List (List Nat)) : State :=
  (s.forEach (List.range 8) fun u t =>
    u.forEach ((u.liveNow t).filter (fun e => !(old.getD t []).contains e)) (fun w e => w.recheck t e)).expectIdle

/-- The live entries by table. -/
def State.liveAll (s : State) : List (List Nat) := (List.range 8).map s.liveNow

/-! ### Commands on entries -/

/-- An entry is written whole (R200): bad entries are counted, the status word is cleared, R202 runs. DESIGN CHOICE (log entry
121): actions of the entry that are planned and not committed are withdrawn. -/
def State.writeCmp (s : State) (t e : Nat) (b : List Byte) : State :=
  let c : CmpEnt := { CmpEnt.init with
    value := BitVec.ofNat 64 (leAt b 0 8), incr := leAt b 8 6, rep := leAt b 16 4, ctrl := BitVec.ofNat 32 (leAt b 20 4),
    offset := BitVec.ofNat 32 (leAt b 24 4), param := BitVec.ofNat 32 (leAt b 28 4) }
  let s0 : State := { s with sch := { s.sch with
    acts := s.sch.acts.filter (fun a => a.t != t || a.e != e || a.committed) } }
  let s1 := s0.setCmp t e c
  if s1.entBad t c then ((s1.count (rSchTblBadEntry t)).schInfo t e).notice 1
  else (s1.recheck t e).expectIdle

/-- The 32 bytes of an entry (R196). -/
def CmpEnt.bytes (c : CmpEnt) : List Byte :=
  leBytes 8 c.value.toNat ++ leBytes 6 c.incr ++ leBytes 2 0 ++ leBytes 4 c.rep ++ leBytes 4 c.ctrl.toNat ++
  leBytes 4 c.offset.toNat ++ leBytes 4 c.param.toNat

/-- ENTRY_WRITE: ECMD.WRITE of table `t` (R200, R226). -/
def State.entryWrite (s : State) (t : Nat) : State :=
  if !s.unitLive 4 (2 + t) then s
  else s.writeCmp t (s.fld (rSchTblEidx t) 0 12)
    ((List.range 8).flatMap (fun k => leBytes 4 (s.rd (rSchTblEdata t k)).toNat))

/-- ENTRY_READ: ECMD.READ of table `t` (R226). -/
def State.entryRead (s : State) (t : Nat) : State :=
  if !s.unitLive 4 (2 + t) then s
  else
    let e := s.fld (rSchTblEidx t) 0 12
    let c := s.cmpEnt t e
    let b := c.bytes
    let s1 := s.forEach (List.range 8) (fun u k => u.wr (rSchTblEdata t k) (BitVec.ofNat 32 (leAt b (4 * k) 4)))
    s1.wr (rSchTblEstat t) (BitVec.ofNat 32 ((s.entLive t e).toNat * 2 ^ 31 + c.missed.toNat * 2 ^ 30 +
      c.done.toNat * 2 ^ 29 + c.late.toNat * 2 ^ 28 + c.fired))

/-- ENTRY_WRITE. -/
def execEntryWrite (t : Fin 8) (s : State) : Host.Outcome State Fault Refusal :=
  if !s.reaches 4 then .next s else .next (s.entryWrite t)

/-- ENTRY_READ. -/
def execEntryRead (t : Fin 8) (s : State) : Host.Outcome State Fault Refusal :=
  if !s.reaches 4 then .next s else .next (s.entryRead t)

/-- CROSSING (R201 to R208): a live entry that does not wait to rearm is crossed in a permitted direction, with the
axis moving that way. The crossing time follows R189; the operand `tx` gives it where the axis has no prediction. -/
def State.crossing (s : State) (t e : Nat) (rising : Bool) (tx : Nat) : State :=
  let c := s.cmpEnt t e
  let ax := s.tblAxis t
  let d := axDiff c.value (s.axisAt ax s.nowTu)
  let agrees := match s.axDir ax with | some up => up == rising | none => true
  let just := ax != 6 || (decide (d ≤ 0) && decide (-65536 < d))
  if !s.entLive t e || c.rearm.isSome || !c.permits rising || !agrees || !just then s
  else
    let at_ := if ax = 6 then s.sch.a6t else (s.timeOf ax (axDiff c.value (s.axRef ax).1)).getD tx
    (s.fireEntry t e rising at_ false).expectIdle

/-- CROSSING. -/
def execCrossing (t : Fin 8) (e : Fin 4096) (rising : Bool) (tx : Nat) (s : State) : Host.Outcome State Fault Refusal :=
  .next (s.crossing t e rising tx)

/-- Replace the first action of an entry that satisfies `p`. -/
def updAct (p : Act → Bool) (f : Act → Option Act) : List Act → List Act
  | [] => []
  | a :: l => if p a then (match f a with | some b => b :: l | none => l) else a :: updAct p f l

/-- EDGE_COMMIT (R206, R204): the crossing time is recomputed a last time, and the edge is fixed; an edge that would lie
less than 64 ns ahead goes to the earliest one. -/
def State.edgeCommit (s : State) (t e : Nat) : State :=
  let s0 := s.repredict (s.tblAxis t)
  let p := fun (a : Act) => a.t == t && a.e == e && !a.committed && !a.wait
  match s0.sch.acts.find? p with
  | none => s
  | some a =>
    let lead := s.leadOf a.kind a.heads
    let late := !a.late && decide (a.ta - lead < s.nowTu + commitTu)
    let a1 := { a with ta := if late then s.nowTu + commitTu + lead else a.ta, late := a.late || late, committed := true }
    let s1 : State := { s0 with sch := { s0.sch with acts := updAct p (fun _ => none) s0.sch.acts } }
    (if late then s1.setLate t e else s1).putAct a1

/-- EDGE_COMMIT. -/
def execEdgeCommit (t : Fin 8) (e : Fin 4096) (s : State) : Host.Outcome State Fault Refusal := .next (s.edgeCommit t e)

/-- The oldest action of an entry of a kind, taken; not before the actions of its cycle that are issued ahead of it
(R205). A fenced core or table places nothing (R223). -/
def State.takeAct (s : State) (t e kind : Nat) : Option (Act × State) :=
  let p := fun (a : Act) => a.t == t && a.e == e && a.kind == kind && !a.wait
  if s.unitLive 4 1 && s.unitLive 4 (2 + t) then
    match s.sch.acts.find? p with
    | none => none
    | some a =>
      if s.sch.acts.any (fun b => b.cycle == a.cycle && !b.wait && b.before a && s.unitLive 4 (2 + b.t)) then none
      else some (a, { s with sch := { s.sch with acts := updAct p (fun _ => none) s.sch.acts } })
  else none

/-! ### Recording windows (R219 to R221) -/

/-- The segment of stream `i` keeps PRE entries before the first trigger entry, of serial `k` (R221, R261, R273). The trigger
entry is flagged; an entry already written stays as it is, for it is written once (R269; DEDUCED, log entry 112). -/
def State.fixKept (s : State) (i p k : Nat) : State :=
  let q := s.part p
  match q.seg with
  | none => s
  | some g =>
    if g.first.isSome then s.modEntry p k (fun e => if e.written then e else { e with flags := e.flags ||| flag 22 })
    else
      let before := q.held.filter (fun e => serialLater e.serial k)
      let pre := s.fld (rSchStrPre i) 0 24
      let kept := before.drop (before.length - pre)
      let first := match kept.head? with | some e => e.serial | none => k
      let prev := (q.entries.filter (fun e => e.seg == g.num && serialLater e.serial first)).getLast?
      let start := match prev with | some e => if e.written then e.chain else g.start | none => g.start
      let g1 : Seg := { g with trigSerial := some k, first := some first, start := start, status := g.status ||| 0x80 }
      (s.setPart p { q with seg := some g1 }).modEntry p k
        (fun e => if e.written then e else { e with flags := e.flags ||| flag 22 })

/-- The end of POST (R220): the segment closes, and in TRIGGERED_MULTI another follows. -/
def State.endPost (s : State) (i : Nat) : State :=
  (s.setSchStr i { s.schStr i with reopen := s.fld (rSchStrWin i) 30 2 == 2 }).beginClose i 0

/-- `k` entries count in POST (R221). -/
def State.countPost (s : State) (i k : Nat) : State :=
  let n := s.fld (rSchStrStat i) 0 24 - k
  let s1 := s.setFld (rSchStrStat i) 0 24 n
  if n = 0 then s1.endPost i else s1

/-- POST of a stream, at least 1. -/
def State.postOf (s : State) (i : Nat) : Nat := max 1 (s.fld (rSchStrPost i) 0 24)

/-- An entry has been placed for stream `i`: it may be the trigger entry, and counts in POST. A marker only counts. -/
def State.placed (s : State) (i p serial : Nat) (ts : Int) (cand : Bool) : State :=
  let c := s.schStr i
  let hit := cand && match c.trig with | some t => decide (t ≤ ts) | none => false
  let s1 := if hit then (s.setSchStr i { c with trig := none }).fixKept i p serial else s
  if s1.winState i = 2 ∧ (s1.schStr i).trig = none then s1.countPost i 1 else s1

/-- A trigger reaches the window of stream `i` (R221). One cycle holds one trigger. -/
def State.trigger (s : State) (i : Nat) (t : Int) (lin : BitVec 64) : State :=
  let c := s.schStr i
  if c.trigAt = some s.now then s
  else
    let s0 := s.setSchStr i { c with trigAt := some s.now }
    let w := s.winState i
    if w = 1 ∧ s.fld (rSchStrWin i) 30 2 = 0 then s0
    else if !(w == 1 || (w == 2 && s.bit (rSchStrWin i) 29)) then s0.count (rSchStrTrigIgnored i)
    else
      let s1 := (((s0.setWin i 2).setFld (rSchStrStat i) 0 24 (s.postOf i)).setSchStr i
        { s0.schStr i with trig := some t }).raiseLin 0x075 1 lin
      match s1.partOf i with
      | none => s1
      | some p =>
        let q := s1.part p
        let l : List Entry := match q.seg with
          | none => []
          | some g => q.entries.filter (fun e => e.seg == g.num && !e.freed)
        match l.findIdx? (fun e => decide (e.kind ≤ 2) && decide (t ≤ e.ts)) with
        | none => s1
        | some k =>
          let e := l.getD k Entry.blank
          ((s1.setSchStr i { s1.schStr i with trig := none }).fixKept i p e.serial).countPost i (l.length - k)

/-- STOP (R219): an armed stream goes to CLOSING; a stream that closes to open again does not. -/
def State.stop (s : State) (i : Nat) (lin : BitVec 64) : State :=
  if s.armed i then (s.setSchStr i { s.schStr i with lin := lin, reopen := false, trig := none }).beginClose i 0
  else s.setSchStr i { s.schStr i with reopen := false }

/-- Every armed stream receives STOP (R545). -/
def State.stopAll (s : State) : State := s.forEach s.armedStrs (fun t i => t.stop i 0#64)

/-- ARM of an IDLE stream (R219, R211, R259), after the checks of R89 and R127. -/
def State.armStr (s : State) (i : Nat) : State :=
  let r := s.openSeg i
  if r.2 then
    let t := r.1
    let c := t.schStr i
    let t1 := t.setSchStr i { SchStr.init with last := c.last, trigAt := c.trigAt, noMint := !t.mintUp }
    let t2 := ((t1.wr (rSchStrSeg i) 0#32).setWin i 1).setPixStr i { t1.pixStr i with
      every := 0, seqs := [], prev := PixStr.init.prev, cond := PixStr.init.cond }
    (t2.forEach (t2.servers i) (fun u c => u.wr (rPixPxStat c) 0#32)).applyCap i t2.clk.cap
  else r.1

/-- TRIG: a write of SCH_STRi_CMD.TRIG (R221). -/
def execTrig (stream : Fin 64) (s : State) : Host.Outcome State Fault Refusal :=
  if !s.reaches 4 then .next s else
  .next (if s.unitLive 4 20 then s.trigger stream s.nowTu 0#64 else s)

/-- STOP: a write of SCH_STRi_CMD.STOP (R219). -/
def execStop (stream : Fin 64) (s : State) : Host.Outcome State Fault Refusal :=
  if !s.reaches 4 then .next s else
  .next (if s.unitLive 4 20 then s.stop stream 0#64 else s)

/-- After a change of a table the entries that have become live are checked (R202), and the actions of entries that a
lower LENGTH leaves out, or a disabled table, are withdrawn. -/
def State.tblChanged (s : State) (t : Nat) (old : List Nat) : State :=
  let len := if s.bit (rSchTblCfg t) 31 then s.tblLen t else 0
  let s1 : State := { s with sch := { s.sch with acts := s.sch.acts.filter (fun a => a.t != t || a.committed || decide (a.e < len)) } }
  (s1.forEach ((s1.liveNow t).filter (fun e => !old.contains e)) (fun u e => u.recheck t e)).expectIdle

/-- The event that waits at a task input, taken: its lineage, 0 where none waits (R533). -/
def State.takeTask (s : State) (x : Nat) : State × Option Task :=
  match s.ch.tasks.find? (fun k => k.input == x) with
  | none => (s, none)
  | some k => ({ s with ch := { s.ch with tasks := s.ch.tasks.eraseP (fun j => j.input == x) } }, some k)

/-- The CLK_MT cycle in which a task reached its input: now, where the command stands for the task alone. -/
def State.taskCyc (s : State) (k : Option Task) : Nat := match k with | some t => t.cyc | none => s.now

/-- Lineage of a task. -/
def lineageOf (k : Option Task) : BitVec 64 := match k with | some t => t.lin | none => 0#64

/-- STR_TRIG (R222). -/
def execStrTrig (stream : Fin 64) (s : State) : Host.Outcome State Fault Refusal :=
  let r := s.takeTask stream
  .next (if s.unitLive 4 20 then r.1.trigger stream s.nowTu (lineageOf r.2) else r.1)

/-- STR_STOP (R222). -/
def execStrStop (stream : Fin 64) (s : State) : Host.Outcome State Fault Refusal :=
  let r := s.takeTask (0x040 + stream)
  .next (if s.unitLive 4 20 then r.1.stop stream (lineageOf r.2) else r.1)

/-- The lineage of a table's actions (R531). -/
def State.tblLin (s : State) (t : Nat) : BitVec 64 := Map.get (fun _ => 0#64) s.sch.lin t

/-- Set it. -/
def State.setTblLin (s : State) (t : Nat) (v : BitVec 64) : State :=
  { s with sch := { s.sch with lin := Map.set (fun _ => 0#64) s.sch.lin t v } }

/-- The CLK_MT cycle of the last TBL_DIS of a table, plus 1; 0 where there was none. -/
def State.tblDis (s : State) (t : Nat) : Nat := Map.get (fun _ => 0) s.sch.dis t

/-- TBL_EN (R222): every entry of the table runs R202. A TBL_DIS of the same cycle, waiting or done, overrides it. -/
def execTblEn (t : Fin 8) (s : State) : Host.Outcome State Fault Refusal :=
  let r := s.takeTask (0x080 + t)
  .next (if !s.unitLive 4 (2 + t) || s.ch.tasks.any (fun k => k.input == 0x088 + t.val && k.cyc == s.taskCyc r.2) ||
      s.tblDis t == s.taskCyc r.2 + 1 then r.1
    else ((r.1.setBit (rSchTblCfg t) 31 true).setTblLin t (lineageOf r.2)).recheckTbl t)

/-- TBL_DIS (R222). -/
def execTblDis (t : Fin 8) (s : State) : Host.Outcome State Fault Refusal :=
  let r := s.takeTask (0x088 + t)
  .next (if !s.unitLive 4 (2 + t) then r.1
    else
      let s1 := ((r.1.setBit (rSchTblCfg t) 31 false).setTblLin t 0#64).withdraw t
      { s1 with sch := { s1.sch with dis := Map.set (fun _ => 0) s1.sch.dis t (s.taskCyc r.2 + 1) } })

/-- SEGMENT_CLOSE (R262, R219, R220): the closing stream of a partition, once every entry placed for it is written. A
full signing queue holds it. The answer says whether the segment closed. -/
def State.segmentClose (s : State) (p : Nat) : State × Bool :=
  let i := s.fld (rIngPartCfg p) 16 6
  let q := s.part p
  match q.seg with
  | none => (s, false)
  | some g =>
    if s.winState i != 3 || s.partOf i != some p || !s.unitLive 3 9 ||
        q.entries.any (fun e => e.seg == g.num && !e.written) then (s, false)
    else if s.attested p && !s.otp.zeroized && s.sigFull then (s.raise 0x065 9, false)
    else
      let c := s.schStr i
      let s1 := ((s.closeSeg p).wr (rSchStrSeg i) (satAdd (s.rd (rSchStrSeg i)) 1)).raiseLin 0x076 1 c.lin
      let s2 := s1.setSchStr i { c with lin := 0#64, reopen := false, trig := none }
      if c.reopen then
        let r := s2.openSeg i
        if r.2 then ((r.1.setSchStr i { r.1.schStr i with v := none }).setWin i 1, true) else (r.1.setWin i 0, true)
      else (s2.setWin i 0, true)

/-! ### Admission of exposures (R210 to R213) -/

/-- An exposure that is not made becomes a gap with flags `fl` (R210); without space it is not placed (R260). -/
def State.gapEntry (s : State) (i n eps : Nat) (ts : Int) (late : Bool) (fl : BitVec 32) : State :=
  let k := s.epochSet n eps ts
  let x := s.axSnap ts
  let te := s.texpoStr i ts
  let e : Entry := { Entry.blank with
    kind := 2, head := n, stream := i, epochReq := s.epochId n k.1, valid := x.1, tdur := s.epochDur n k.1, texpo := te.1,
    ax := x.2.1, mains := x.2.2.1, trig := x.2.2.2, ts := ts, final := true,
    flags := fl ||| te.2 ||| (if late then flag 0 else 0#32) }
  let r := s.place i 0 e
  match r.2 with
  | none => r.1.count (rSchStrNotArmed i)
  | some serial =>
    let s1 := if k.2 then r.1.applyPending n k.1 else r.1
    let s2 := if fl = flag 1 then (s1.count (rSchStrThrottled i)).raise 0x072 1
      else if fl = flag 2 then (s1.count (rIngStrNoFrame i)).raise (0x053 + 4 * n) (1 + n) else s1
    s2.placed i ((s.partOf i).getD 0) serial ts true

/-- TRG edges of an exposure of head `n`: the rising edge, and the falling edge for a DUR (R213). -/
def State.trgEdges (s : State) (n dur : Nat) (ts : Int) : Int × Int :=
  let lat : Int := (s.fld (rSchHdTlat n) 0 24 : Nat) * 32768
  (ts - lat, if s.bit (rSchHdTrg n) 31 then ts + max (10 * tuPerNs) (dur * 32768) - lat else ts - lat + 100 * tuPerNs)

/-- An admitted exposure is placed: serial, slot and ledger index, the TRG pulse, and what follows it (R210 to R216). -/
def State.placeExpose (s : State) (i n eps : Nat) (ts : Int) (late : Bool) : State :=
  let k := s.epochSet n eps ts
  let ep := s.epochId n k.1
  let dur := s.epochDur n k.1
  let edges := s.trgEdges n dur ts
  let x := s.axSnap ts
  let te := s.texpoStr i ts
  let h := s.schHead n
  let cnt := (h.count + 1) % 2 ^ 24
  let e : Entry := { Entry.blank with
    kind := 0, head := n, stream := i, epochReq := ep, valid := x.1, tdur := dur, texpo := te.1, ax := x.2.1,
    mains := x.2.2.1, trig := x.2.2.2, ts := ts, count := cnt,
    flags := te.2 ||| (if late then flag 0 else 0#32) }
  let r := s.place i (s.slotLen i) e
  match r.2 with
  | none => r.1.count (rSchStrNotArmed i)
  | some serial =>
    let s1 := if k.2 then r.1.applyPending n k.1 else r.1
    let c := s1.schStr i
    let v := max (c.v.getD (9 * ts)) (9 * ts) + c.tmin
    let s2 := s1.setSchStr i { c with v := some v, last := some ts }
    let s3 := s2.setSchHead n { s2.schHead n with
      count := cnt, pulse := some edges.2, fall := some edges.2, rises := (edges.1 :: h.rises).take 8, edge := some ep }
    let s4 := (s3.count (rSchHdExposed n)).syncStr i
    let late := (s2.schHead n).edge != some ep &&
      !((s2.schHead n).ack && s2.fld (rSchHdEpstat n) 8 8 == ep)
    let s5 := if late then (s4.count (rSchHdEpselLate n)).raise 0x073 1 else s4
    (s5.placed i ((s.partOf i).getD 0) serial ts true).expect n

/-- R210: the tests in their order, for one stream named by an EXPOSE action. -/
def State.exposeOne (s : State) (i n0 eps : Nat) (ts : Int) (late : Bool) : State :=
  if !s.unitLive 4 20 then s
  else if !s.armed i || s.fld rHstPwr 0 3 == 1 then s.count (rSchStrNotArmed i)
  else if s.pwr.loss != 0 || s.aud.safe != 0 || !s.released then s
  else
    let n := if (s.grpOfStr i).isSome then s.slotHead i else n0
    let s0 := s.useSlot i
    let rise := (s.trgEdges n 0 ts).1
    let h := s.schHead n
    let c := s.schStr i
    if !s.unitLive 4 (16 + n) then s0
    else if s.fenced 2 (1 + n) || s.fenced 3 (1 + n) then s0.gapEntry i n eps ts late (flag 3)
    else if !s.portUp n then s0.gapEntry i n eps ts late (flag 2)
    else if h.rises.any (fun r => decide ((r - rise).natAbs < 200 * tuPerNs)) then s0.count (rSchHdCoalesced n)
    else if (s.bit (rSchHdTrg n) 31 && (match h.fall with | some f => decide (rise < f + 10 * tuPerNs) | none => false)) ||
        decide (64 ≤ (s.outstanding n).length) ||
        (match c.last with | some l => decide (ts - l < 500 * tuPerNs) | none => false) ||
        (c.tmin != 0 && match c.v with
          | some v => decide (9 * (ts + (s.rd (rSchStrSlack i)).toNat * tuPerNs) < v)
          | none => false) then
      s0.gapEntry i n eps ts late (flag 1)
    else s0.placeExpose i n eps ts late

/-- EXPOSE (R210): the action acts once for every stream it names. -/
def State.expose (s : State) (t e : Nat) : State :=
  match s.takeAct t e 1 with
  | none => s
  | some (a, s1) => s1.forEach (s1.namedStrs a.heads) (fun u p => u.exposeOne p.1 p.2 a.eps a.ta a.late)

/-- EXPOSE. -/
def execExpose (t : Fin 8) (e : Fin 4096) (s : State) : Host.Outcome State Fault Refusal := .next (s.expose t e)

/-- TRIGGER_PULSE_END (R213). -/
def execTriggerPulseEnd (head : Fin 4) (s : State) : Host.Outcome State Fault Refusal :=
  .next (s.setSchHead head { s.schHead head with pulse := none })

/-! ### Strobe outputs, markers, channels (R198, R208, R218) -/

/-- Strobe output `n` with nothing on it. -/
def State.strobe (s : State) (n : Nat) : Strobe := Map.get (fun _ => ⟨none, none⟩) s.sch.so n

/-- Put a strobe output, with its bit of SCH_SO_STAT. -/
def State.setStrobe (s : State) (n : Nat) (v : Strobe) : State :=
  ({ s with sch := { s.sch with so := Map.set (fun _ => ⟨none, none⟩) s.sch.so n v } } : State).setBit rSchSoStat n
    (v.sch.isSome || v.chan.isSome)

/-- The strobe outputs act: released, not switched off by loss of mains or the safe state (R130, R223, R549). -/
def State.strobesOn (s : State) : Bool :=
  s.unitLive 4 21 && s.released && decide (s.pwr.loss < 2) && s.aud.safe == 0

/-- A dropped or cut channel pulse (R218). -/
def State.strobeDrop (s : State) (n : Nat) : State := (s.count (rSchSoDrop n)).notice 2

/-- A Schedule pulse on output `n` from `start` to `stop` (R218). -/
def State.schPulse (s : State) (n : Nat) (stop : Int) : State :=
  if !s.strobesOn then s
  else
    let v := s.strobe n
    match v.sch, v.chan with
    | some e, _ => (s.setStrobe n ⟨some (max e stop), v.chan⟩).count (rSchSoExt n)
    | none, some _ => (s.setStrobe n ⟨some stop, none⟩).strobeDrop n
    | none, none => s.setStrobe n ⟨some stop, none⟩

/-- A channel pulse on output `n` (R218, R527). -/
def State.chanPulse (s : State) (n : Nat) (stop : Int) : State :=
  if !s.strobesOn then s
  else
    let v := s.strobe n
    match v.sch, v.chan with
    | some _, _ => s.strobeDrop n
    | none, some e => (s.setStrobe n ⟨none, some (max e stop)⟩).count (rSchSoExt n)
    | none, none => s.setStrobe n ⟨none, some stop⟩

/-- STROBE (R218): PARAM holds the width in ns, at least 1,000. -/
def execStrobe (t : Fin 8) (e : Fin 4096) (s : State) : Host.Outcome State Fault Refusal :=
  .next (match s.takeAct t e 2 with
    | none => s
    | some (a, s1) => s1.schPulse (a.ch % 8) (a.ta + (max 1000 (fget a.param 0 24) : Nat) * tuPerNs))

/-- STROBE_END (R218, R527): the width of the pulse on an output has expired. -/
def execStrobeEnd (so : Fin 8) (s : State) : Host.Outcome State Fault Refusal := .next (s.setStrobe so ⟨none, none⟩)

/-- A marker entry in the ledger of stream `i`, where it has an open segment that takes entries (R198, R266). -/
def State.marker (s : State) (i n : Nat) (ta : Int) (v : Nat) : State :=
  if !s.armed i then s
  else
    let x := s.axSnap ta
    let te := s.texpoStr i ta
    let e : Entry := { Entry.blank with
      kind := 3, head := n, stream := i, valid := x.1, texpo := te.1, ax := x.2.1, mains := x.2.2.1, trig := x.2.2.2,
      length := v, ts := ta, final := true, flags := te.2 }
    let r := s.place i 0 e
    match r.2 with
    | none => r.1
    | some serial => r.1.placed i ((s.partOf i).getD 0) serial ta false

/-- The streams whose heads a MARK names (R198): a merged stream, or every stream declared on a head of no group. -/
def State.markStrs (s : State) (heads : Nat) : List (Nat × Nat) :=
  (idxs 4 heads.testBit).foldl (fun l n =>
    let is := match s.grpOf n with
      | some g => (s.grpStr g).toList
      | none => ((List.range 16).map (16 * n + ·)).filter s.strDecl
    l ++ (is.filter (fun i => !l.any (fun p => p.1 == i))).map (fun i => (i, n))) []

/-- MARK by its CODE (R198). -/
def State.markOne (s : State) (a : Act) (i n : Nat) : State :=
  match fget a.param 0 8 with
  | 0 => s.marker i n a.ta (fget a.param 8 24)
  | 1 => s.trigger i a.ta (s.tblLin a.t)
  | _ => s.stop i (s.tblLin a.t)

/-- MARK. -/
def execMark (t : Fin 8) (e : Fin 4096) (s : State) : Host.Outcome State Fault Refusal :=
  .next (match s.takeAct t e 3 with
    | none => s
    | some (a, s1) => s1.forEach (s1.markStrs a.heads) (fun u p => u.markOne a p.1 p.2))

/-- FIRE (R208): the channel fires with the lineage of the table. -/
def execFire (t : Fin 8) (e : Fin 4096) (s : State) : Host.Outcome State Fault Refusal :=
  .next (match s.takeAct t e 4 with
    | none => s
    | some (a, s1) => s1.toChannel a.ch (s1.tblLin t))

/-- EPCOMMIT (R215). -/
def State.epCommit (s : State) (v : Word) : State :=
  let hs := idxs 4 (fun n => v.getLsbD n && s.unitLive 4 (16 + n))
  if !s.unitLive 4 1 then s
  else if hs.any (fun n => s.bit (rSchHdEpstat n) 31) then s.violation rSchEpcommit
  else s.forEach hs fun t n =>
    let te := t.mint.total + max 1 (t.fld (rSchHdMargin n) 16 16) * 1000
    (((t.setBit (rSchHdEpstat n) 31 true).setFld (rSchHdEpstat n) 28 2 (t.fld (rSchHdEpsel n) 0 2)).setSchHead n
      { t.schHead n with te := te }).wr (rSchHdTe n) (BitVec.ofNat 32 te)

/-- EPCOMMIT. -/
def execEpcommit (v : Word) (s : State) : Host.Outcome State Fault Refusal :=
  if !s.reaches 4 then .next s else .next (s.epCommit v)

/-! ### A5 and A6 (R192 to R194) -/

/-- Put A5. -/
def State.setA5 (s : State) (a : A5) : State := { s with sch := { s.sch with a5 := a } }

/-- A mains period within 45 to 65 Hz. -/
def periodOk (p : Int) : Bool := decide ((tuPerSec : Int) ≤ 65 * p) && decide (45 * p ≤ (tuPerSec : Int))

/-- The latest `n` periods of a list of stamps. -/
def periods (n : Nat) (z : List Int) : List Int := (List.range n).map (fun k => z.getD k 0 - z.getD (k + 1) 0)

/-- FREQ and T_AVG of the A5 registers follow T_avg (R192, R229). -/
def State.syncA5 (s : State) : State :=
  let t := s.a5Tavg
  if t = 0 then s
  else (s.setFld rSchA5Stat 0 20 (min 0xFFFFF (1000 * tuPerSec / t))).wr rSchA5Period (BitVec.ofNat 32 (t / tuPerNs))

/-- A5 loses its lock (R193): its value is held, its entries no longer fire. -/
def State.a5Unlock (s : State) : State :=
  let ph := s.a5Phase s.nowTu
  let a := s.sch.a5
  let s1 := (s.setFld rSchA5Phase 0 16 ph).setBit rSchA5Stat 31 false
  ((s1.setA5 { a with last := a.zc.head?, zc := [] }).withdrawAxis 5).notice 3

/-- MAINS_ZERO_CROSSING (R192, R193). -/
def State.zeroCrossing (s : State) (stamp : Int) : State :=
  let a := s.sch.a5
  if !s.unitLive 4 14 then s
  else if s.bit rSchA5Stat 31 then
    if periodOk (stamp - a.zc.getD 0 0) then
      ((s.setA5 { a with cycle := (a.cycle + 1) % 2 ^ 48, zc := (stamp :: a.zc).take 65 }).syncA5).repredict 5
    else
      let s1 := s.a5Unlock
      s1.setA5 { s1.sch.a5 with zc := [stamp] }
  else
    let z := (stamp :: a.zc).take 65
    let n := s.a5Avg
    let ps := periods n z
    let sum := ps.foldl (· + ·) 0
    let ok := decide (n < z.length) && ps.all periodOk && ps.all (fun p => decide (50 * (p * n - sum).natAbs ≤ sum.natAbs))
    let s1 := (s.setA5 { a with zc := z }).syncA5
    if !ok then s1
    else
      let tavg := max 1 s1.a5Tavg
      let gone : Nat := match a.last with
        | some l => (2 * (stamp - l).natAbs + tavg) / (2 * tavg)
        | none => 1
      let s2 := (s1.setA5 { s1.sch.a5 with cycle := (a.cycle + gone) % 2 ^ 48 }).setBit rSchA5Stat 31 true
      ((s2.syncA5).notice 4).recheckAxis 5

/-- MAINS_ZERO_CROSSING. -/
def execMainsZeroCrossing (stamp : Nat) (s : State) : Host.Outcome State Fault Refusal := .next (s.zeroCrossing stamp)

/-- A5_UNLOCK_TIMEOUT (R193). -/
def execA5UnlockTimeout (s : State) : Host.Outcome State Fault Refusal :=
  .next (if s.unitLive 4 14 && s.bit rSchA5Stat 31 then s.a5Unlock else s)

/-- A change is one that a two-bit selection names: bit 0 rising, bit 1 falling. -/
def edgeSel (sel : Nat) (level : Bool) : Bool := if level then sel.testBit 0 else sel.testBit 1

/-- EDGE of A6: 0 rising, 1 falling, 2 both (R230). -/
def a6Edge (sel : Nat) (level : Bool) : Bool := match sel with | 0 => level | 1 => !level | 2 => true | _ => false

/-- TRIGGER_INPUT_EDGE (R194): an accepted change of TIn, whose first transition was seen at `stamp`; the nominal delay of
R59 is removed from it. No input is sampled before the outputs are released or in no service (R68). -/
def State.triggerInput (s : State) (n : Nat) (level : Bool) (stamp : Int) : State :=
  if !s.unitLive 4 15 || !s.serving || s.sch.ti.getLsbD n == level then s
  else
    let s1 : State := { s with sch := { s.sch with ti := s.sch.ti ^^^ BitVec.ofNat 8 (2 ^ n) } }
    let s2 := if s.fld rSchA6Cfg 8 3 = n ∧ a6Edge (s.fld rSchA6Cfg 4 2) level = true then
        let s2 := s1.setLive rSchA6CntLo (BitVec.ofNat 64 (((s.liveAt rSchA6CntLo).toNat + 1) % 2 ^ 48))
        { s2 with sch := { s2.sch with a6t := stamp - 400 * tuPerNs } }
      else s1
    if edgeSel (s.fld (rSchTiCfg n) 0 2) level then s2.raise (0x078 + n) 15 else s2

/-- TRIGGER_INPUT_EDGE. -/
def execTriggerInputEdge (n : Fin 8) (level : Bool) (stamp : Nat) (s : State) : Host.Outcome State Fault Refusal :=
  .next (s.triggerInput n level stamp)

/-- A write of SCH_A6_CFG.CLR (R230): the count becomes 0; while capture runs R88 applies. -/
def State.a6Clear (s : State) (v : Word) : State :=
  if !s.unitLive 4 15 || !v.getLsbD 31 then s
  else if s.capture then s.violation rSchA6Cfg
  else (s.setLive rSchA6CntLo 0#64).rearmAxis 6

/-- A6_CLEAR. -/
def execA6Clear (v : Word) (s : State) : Host.Outcome State Fault Refusal :=
  if !s.reaches 4 then .next s else .next (s.a6Clear v)

end Sys2Proof.Machine
end

