-- ==== Sys2Proof/Machine/Axes.lean ====
section
/-! DEFINITION. The position axes A1 to A4 (09): quadrature, index, Hall sectors, serial encoders, speed and supply. -/

namespace Sys2Proof.Machine

open Sys2Proof

/-- The unit of axis `n` in SCH. -/
def axUnit (n : Nat) : Nat := 10 + n

/-- AX_ERR with its cause (R252, R253). -/
def State.axErr (s : State) (n cause : Nat) : State :=
  (s.setFld (rSchAxErrinfo n) 28 4 cause).raise (0x080 + 4 * n) (axUnit n)

/-- VALID of an axis; when it falls, the speed history ends; the first index after it rises is compared with nothing (R237,
R239). -/
def State.setValid (s : State) (n : Nat) (b : Bool) : State :=
  let s1 := s.setBit (rSchAxStat n) 31 b
  if b then (if s.bit (rSchAxStat n) 31 then s1 else s1.setAxis n { s1.axis n with latch := none, turned := false })
  else (s1.setAxis n { s1.axis n with hist := [], v := 0, latch := none, turned := false }).setBit (rSchAxStat n) 30 false

/-- INVERT (R233). -/
def State.axSign (s : State) (n : Nat) (d : Int) : Int := if s.bit (rSchAxCfg n) 4 then -d else d

/-- AVG (R251). -/
def State.axAvg (s : State) (n : Nat) : Nat := clampNat 1 64 (s.fld (rSchAxCfg n) 16 7)

/-- A quotient rounded to nearest. -/
def divNear (a b : Int) : Int := (2 * a + b) / (2 * b)

/-- The speed over the latest intervals, counts/s in 32.16 (R244); none before one interval has been timed. -/
def speedOf (avg : Nat) (h : List (Int × Int)) : Option Int :=
  let m := min avg (h.length - 1)
  let a := h.getD 0 (0, 0)
  let b := h.getD m (0, 0)
  if m = 0 ∨ a.1 ≤ b.1 then none else some (divNear ((a.2 - b.2) * 65536 * (tuPerSec : Int)) (a.1 - b.1))

/-- The first event of a cycle keeps the axis value before it (R249). -/
def State.keepWas (s : State) (n : Nat) : State :=
  match (s.axis n).was with
  | some w => if w.1 = s.now then s else s.setAxis n { s.axis n with was := some (s.now, s.axValue n s.nowTu) }
  | none => s.setAxis n { s.axis n with was := some (s.now, s.axValue n s.nowTu) }

/-- A count change of `d` at `stamp`: direction, speed history and speed (R244, R245). A read may change nothing. The
history holds counts that do not wrap. -/
def State.countChange (s0 : State) (n : Nat) (d stamp : Int) : State :=
  let s := s0.keepWas n
  let a := s.axis n
  let down := decide (d < 0)
  let turn := d != 0 && (match a.dir with | some f => f != down | none => false)
  let c := a.count + BitVec.ofInt 48 d
  let at_ : Int := match a.hist with | p :: _ => p.2 + d | [] => c.toInt
  let h := ((stamp, at_) :: (if turn then [] else a.hist)).take 65
  let v := (speedOf (s.axAvg n) h).getD (if turn then 0 else a.v)
  let a1 := { a with
    count := c, hist := h, v := v, tk := stamp, tc := if d = 0 then a.tc else stamp,
    dir := if d = 0 then a.dir else some down, turned := a.turned || turn,
    turnAt := if turn then some s.now else a.turnAt, turned0 := if turn then a.turned else a.turned0 }
  let s1 := ((s.setAxis n a1).setBit (rSchAxStat n) 30 (v != 0 && s.bit (rSchAxStat n) 31)).setBit (rSchAxStat n) 29 (a1.dir.getD false)
  let s2 := if turn then ((s1.setBit (rSchAxStat n) 28 true).count (rSchAxDirChg n)).raise (0x081 + 4 * n) (axUnit n) else s1
  ((s2.rearmAxis (n + 1)).repredict (n + 1)).expectIdle

/-- The speed history is cleared, the speed kept (R244). -/
def State.clearHist (s : State) (n : Nat) : State := s.setAxis n { s.axis n with hist := [] }

/-- The lines of an axis are good as far as the module knows: no wire fault, no foldback. -/
def State.linesGood (s : State) (n : Nat) : Bool := !(s.axis n).wire && !(s.axis n).fold

/-! ### Quadrature and index (R234 to R239) -/

/-- R235: the sign of a change of one line. -/
def quadStep (p q : Bool × Bool) : Int :=
  match p, q with
  | (false, false), (true, false) => 1
  | (true, false), (true, true) => 1
  | (true, true), (false, true) => 1
  | (false, true), (false, false) => 1
  | _, _ => -1

/-- The outputs are released and the axis unit serves: its inputs are sampled (R68). -/
def State.axLive (s : State) (n : Nat) : Bool := s.serving && s.unitLive 4 (axUnit n)

/-- QUAD_EDGE: the accepted levels of A and B change (R235, R236). -/
def State.quadEdge (s : State) (n : Nat) (q : Bool × Bool) (stamp : Int) : State :=
  let a := s.axis n
  if !s.axLive n || s.axMode n != 1 || a.pair == some q then s
  else
    let s1 := s.setAxis n { a with pair := some q }
    match a.pair with
    | none => if s.linesGood n then s1.setValid n true else s1
    | some p =>
      if p.1 != q.1 && p.2 != q.2 then (((s1.keepWas n).clearHist n).count (rSchAxErrQuad n)).axErr n 1
      else if !s.bit (rSchAxStat n) 31 then s1
      else s1.countChange n (s.axSign n (quadStep p q)) stamp

/-- QUAD_EDGE. -/
def execQuadEdge (ax : Fin 4) (a b : Bool) (stamp : Nat) (s : State) : Host.Outcome State Fault Refusal :=
  .next (s.quadEdge ax (a, b) stamp)

/-- The pair that qualifies an index (R238). -/
def gateOk (gate : Nat) (p : Option (Bool × Bool)) : Bool :=
  match gate, p with
  | 1, some (a, b) => a && b
  | 2, some (a, b) => !a && !b
  | 1, none => false
  | 2, none => false
  | _, _ => true

/-- The receiver of AnZ is connected: contacts 29 and 30 serve AES3 input 2 where the image gives it them (R60). -/
def State.zOn (s : State) (n : Nat) : Bool := n != 2 || !(present s.variant 14 5 && s.enabled 14 5)

/-- INDEX_LATCH: an accepted rising level of Z (R238, R239). A direction change of the same cycle comes after the latch
(R249). -/
def State.indexLatch (s : State) (n : Nat) : State :=
  let a := s.axis n
  if !s.axLive n || !s.zOn n || s.axMode n != 1 || !s.bit (rSchAxIdx n) 31 || !gateOk (s.fld (rSchAxIdx n) 16 2) a.pair then s
  else
    let fresh := a.turnAt == some s.now
    let down := if fresh then !a.dir.getD false else a.dir.getD false
    let turned := if fresh then a.turned0 else a.turned
    let s1 := s.setAxis n { a with latch := some a.count, latchDir := down, turned := fresh, turned0 := false }
    let s2 := ((s1.setLive (rSchAxIdxlatLo n) (BitVec.ofNat 64 a.count.toNat)).setBit (rSchAxStat n) 26 true).count
      (rSchAxIndex n)
    let s3 := match a.latch with
      | some l =>
        if turned || a.latchDir != down then s2
        else
          let dev : Int := (a.count - l).toInt.natAbs - (s.rd (rSchAxIper n)).toNat
          let t := s2.wr (rSchAxIdxdev n) (BitVec.ofInt 32 dev)
          if s.fld (rSchAxIdx n) 0 16 < dev.natAbs then (t.count (rSchAxDrift n)).raise (0x083 + 4 * n) (axUnit n) else t
      | none => s2
    s3.raise (0x082 + 4 * n) (axUnit n)

/-- INDEX_LATCH. -/
def execIndexLatch (ax : Fin 4) (s : State) : Host.Outcome State Fault Refusal := .next (s.indexLatch ax)

/-! ### Hall sectors (R240) -/

/-- The sector of (U, V, W); none for the two illegal states. -/
def hallSector : Bool × Bool × Bool → Option Nat
  | (false, false, true) => some 0
  | (false, true, true) => some 1
  | (false, true, false) => some 2
  | (true, true, false) => some 3
  | (true, false, false) => some 4
  | (true, false, true) => some 5
  | _ => none

/-- HALL_SECTOR_CHANGE: the accepted levels of U, V and W change. -/
def State.hallChange (s : State) (n : Nat) (u v w : Bool) (stamp : Int) : State :=
  let a := s.axis n
  if !s.axLive n || s.axMode n != 2 then s
  else
    let s1 := s.setFld (rSchAxStat n) 20 3 (u.toNat * 4 + v.toNat * 2 + w.toNat)
    match hallSector (u, v, w) with
    | none =>
      if a.illegal then s1
      else ((s1.setAxis n { a with illegal := true, sector := none }).count (rSchAxErrHall n)).axErr n 2
    | some k =>
      let s2 := s1.setAxis n { a with illegal := false, sector := some k }
      match a.sector with
      | none => if s.linesGood n then s2.setValid n true else s2
      | some j =>
        if j = k then s2
        else
          let up := (j + 1) % 6 == k
          if up || (k + 1) % 6 == j then
            if s.bit (rSchAxStat n) 31 then s2.countChange n (s.axSign n (if up then 1 else -1)) stamp else s2
          else (((s2.keepWas n).clearHist n).count (rSchAxErrHall n)).axErr n 3

/-- HALL_SECTOR_CHANGE. -/
def execHallSectorChange (ax : Fin 4) (u v w : Bool) (stamp : Nat) (s : State) : Host.Outcome State Fault Refusal :=
  .next (s.hallChange ax u v w stamp)

/-! ### Wire faults (R237) -/

/-- WIRE_FAULT on a receiver that the mode uses. -/
def State.wireFault (s : State) (n : Nat) : State :=
  if !s.axLive n || s.axMode n == 0 || (s.axis n).wire then s
  else
    let s1 := s.setAxis n { s.axis n with wire := true, raw := none, reading := none, waiting := false }
    (((s1.setValid n false).setBit (rSchAxStat n) 27 true).count (rSchAxWire n)).axErr n 4

/-- WIRE_FAULT. -/
def execWireFault (ax : Fin 4) (s : State) : Host.Outcome State Fault Refusal := .next (s.wireFault ax)

/-- WIRE_RECOVERY: every used line has been good for 1 ms. -/
def State.wireRecovery (s : State) (n : Nat) : State :=
  if !s.unitLive 4 (axUnit n) || s.axMode n == 0 || !(s.axis n).wire then s
  else
    let s1 := s.setAxis n { s.axis n with wire := false }
    if (s.axis n).fold then s1 else s1.setValid n true

/-- WIRE_RECOVERY. -/
def execWireRecovery (ax : Fin 4) (s : State) : Host.Outcome State Fault Refusal := .next (s.wireRecovery ax)

/-! ### SSI and BiSS-C (R241 to R243) -/

/-- SERIAL_READ_START: a read is due; with DAT low it waits. -/
def State.serialStart (s : State) (n : Nat) (stamp : Int) (datHigh : Bool) : State :=
  let a := s.axis n
  if !s.axLive n || !(s.axMode n == 3 || s.axMode n == 4) || a.wire || (a.reading.isSome && !a.waiting) then s
  else s.setAxis n { a with reading := some stamp, waiting := !datHigh }

/-- SERIAL_READ_START. -/
def execSerialReadStart (ax : Fin 4) (stamp : Nat) (datHigh : Bool) (s : State) : Host.Outcome State Fault Refusal :=
  .next (s.serialStart ax stamp datHigh)

/-- CRC-6 of R242 over bits, most significant first. -/
def crc6 (bits : List Bool) : Nat :=
  bits.foldl (fun c b => let f := (c.testBit 5) != b
                         ((c * 2) % 64) ^^^ (if f then 3 else 0)) 0

/-- Bits as a number, the first most significant. -/
def bitsMsb (l : List Bool) : Nat := l.foldl (fun n b => 2 * n + b.toNat) 0

/-- Gray to binary over `w` bits (R242). -/
def unGray (w g : Nat) : Nat := (List.range w).foldl (fun b k => b ^^^ (g >>> k)) 0

/-- BITS, taken within 8 to 40. -/
def State.serBits (s : State) (n : Nat) : Nat := clampNat 8 40 (s.fld (rSchAxSer n) 0 6)

/-- R242: the position of a frame, or the cause that rejects it; and whether nW warns. The bits start with the first
position bit. -/
def State.serialFrame (s : State) (n : Nat) (bits : List Bool) : Option Nat × Nat × Bool :=
  let w := s.serBits n
  let pos := (List.range w).map (fun i => bits.getD i false)
  let p := bitsMsb pos
  let p1 := if s.bit (rSchAxSer n) 15 then unGray w p else p
  if s.axMode n = 3 then
    let odd := (pos.countP id + (bits.getD w false).toNat) % 2 == 1
    if s.bit (rSchAxSer n) 14 && odd then (none, 9, false) else (some p1, 0, false)
  else
    let crc := (List.range 6).map (fun i => bits.getD (w + 2 + i) false)
    let body := (List.range (w + 2)).map (fun i => bits.getD i false)
    if bitsMsb crc != 63 - crc6 body then (none, 5, false)
    else if !bits.getD w false then (none, 6, false)
    else (some p1, 0, !bits.getD (w + 1) false)

/-- A rejected read (R243). -/
def State.rejectRead (s : State) (n cause : Nat) : State :=
  let a := s.axis n
  let s1 := (s.setAxis n { a with reading := none, waiting := false, bad := min 3 (a.bad + 1), good := 0 }).count (rSchAxErrSer n)
  let s2 := if 2 ≤ a.bad then (s1.setValid n false).setBit (rSchAxStat n) 27 true else s1
  s2.axErr n cause

/-- SERIAL_READ_DONE (R242, R243). -/
def State.serialDone (s : State) (n : Nat) (bits : List Bool) : State :=
  let a := s.axis n
  match a.reading with
  | none => s
  | some t0 =>
    if !s.unitLive 4 (axUnit n) || !(s.axMode n == 3 || s.axMode n == 4) || a.waiting then s
    else
      let r := s.serialFrame n bits
      let stamp := t0 + (s.fld (rSchAxSerl n) 16 16 * tuPerNs : Nat)
      match r.1 with
      | none => s.rejectRead n r.2.1
      | some raw =>
        let w := s.serBits n
        let valid := s.bit (rSchAxStat n) 31
        let d : Int := match a.raw with | some p => sext w ((raw + 2 ^ w - p) % 2 ^ w) | none => 0
        let jmax := s.fld (rSchAxSerl n) 0 16
        let checked := a.raw.isSome && (valid || a.good != 0)
        if checked && jmax != 0 && decide (jmax < d.natAbs) then s.rejectRead n 8
        else
          let a1 := { a with reading := none, raw := some raw, bad := 0, good := min 3 (a.good + 1) }
          let s1 := if r.2.2 then s.count (rSchAxSerWarn n) else s
          match a.raw with
          | none =>
            let s2 := (s1.keepWas n).setAxis n { a1 with
              was := ((s1.keepWas n).axis n).was,
              count := BitVec.ofNat 48 raw, hist := [(stamp, (raw : Int))], v := 0, tk := stamp, tc := stamp }
            let s3 := if s.linesGood n then s2.setBit (rSchAxStat n) 31 true else s2
            ((s3.rearmAxis (n + 1)).repredict (n + 1)).expectIdle
          | some _ =>
            let s2 := (s1.setAxis n a1).countChange n (s.axSign n d) stamp
            if !valid && 3 ≤ a1.good && s.linesGood n then s2.setBit (rSchAxStat n) 31 true else s2

/-- SERIAL_READ_DONE. -/
def execSerialReadDone (ax : Fin 4) (bits : List Bool) (s : State) : Host.Outcome State Fault Refusal :=
  .next (s.serialDone ax bits)

/-- SER_TIMEOUT: DAT stays low when a read is due, or the ack does not come (R241, R242). -/
def execSerTimeout (ax : Fin 4) (s : State) : Host.Outcome State Fault Refusal :=
  .next (if s.unitLive 4 (axUnit ax) && (s.axis ax).reading.isSome then s.rejectRead ax 7 else s)

/-- STANDSTILL: STILL ms without a count change; the speed is 0 (R244). -/
def execStandstill (ax : Fin 4) (s : State) : Host.Outcome State Fault Refusal :=
  .next (if s.unitLive 4 (axUnit ax) then
      ((s.setAxis ax { s.axis ax with v := 0 }).setBit (rSchAxStat ax) 30 false).repredict (ax + 1)
    else s)

/-! ### Supply and SET (R247, R248) -/

/-- The sensor of an axis changes: its lines and reads are seen anew, and VALID waits for them (R233, R248). -/
def State.axRestart (s : State) (n : Nat) : State :=
  (s.setValid n false).setAxis n { (s.setValid n false).axis n with
    pair := none, sector := none, illegal := false, raw := none, bad := 0, good := 0, reading := none, waiting := false,
    wire := false, fold := false }

/-- The supply is ON: VALID returns under R237 after a foldback, or under R243 on a serial axis. -/
def State.foldEnd (s : State) (n : Nat) : State :=
  let s1 := s.setAxis n { s.axis n with fold := false }
  if (s.axis n).fold && (s.axMode n == 1 || s.axMode n == 2) && !(s.axis n).wire then s1.setValid n true else s1

/-- AnENC5V follows ENC_EN, MODE and the release of the outputs. -/
def State.syncSup (s : State) (n : Nat) : State :=
  let on := s.bit (rSchAxCfg n) 7 && s.axMode n != 0 && s.serving && s.unitLive 4 (axUnit n)
  if !on then (s.setFld (rSchAxStat n) 24 2 0).setFld (rSchAxStat n) 0 16 0
  else if s.fld (rSchAxStat n) 24 2 = 0 then
    (s.setFld (rSchAxStat n) 24 2 1).foldEnd n
  else s

/-- SUPPLY_FOLDBACK. -/
def State.foldback (s : State) (n mA : Nat) : State :=
  if !s.unitLive 4 (axUnit n) || s.fld (rSchAxStat n) 24 2 != 1 then s
  else
    let s1 := (s.setAxis n { s.axis n with fold := true, good := 0 }).setFld (rSchAxStat n) 24 2 2
    ((s1.setFld (rSchAxStat n) 0 16 (min 0xFFFF mA)).setValid n false).axErr n 10

/-- SUPPLY_FOLDBACK. -/
def execSupplyFoldback (ax : Fin 4) (mA : Nat) (s : State) : Host.Outcome State Fault Refusal := .next (s.foldback ax mA)

/-- SUPPLY_RECOVERY: the supply is ON again; VALID returns under R237, or under R243 on a serial axis. -/
def State.supRecovery (s : State) (n mA : Nat) : State :=
  if !s.unitLive 4 (axUnit n) || s.fld (rSchAxStat n) 24 2 != 2 then s
  else
    ((s.setFld (rSchAxStat n) 24 2 1).setFld (rSchAxStat n) 0 16 (min 0xFFFF mA)).foldEnd n

/-- SUPPLY_RECOVERY. -/
def execSupplyRecovery (ax : Fin 4) (mA : Nat) (s : State) : Host.Outcome State Fault Refusal :=
  .next (s.supRecovery ax mA)

/-- AXIS_SET: a write of SET_HI loads SET_HI:SET_LO (R248); while capture runs R88 applies. -/
def State.axisSet (s : State) (n : Nat) (v : Word) : State :=
  if !s.unitLive 4 (axUnit n) then s
  else if s.capture then s.violation (rSchAxSetHi n)
  else
    let c := BitVec.ofNat 48 (fget v 0 16 * 2 ^ 32 + (s.rd (rSchAxSetLo n)).toNat)
    let s0 := s.keepWas n
    let s1 := (s0.setAxis n { s0.axis n with count := c, hist := [], v := 0 }).setBit (rSchAxStat n) 30 false
    (s1.rearmAxis (n + 1)).repredict (n + 1)

/-- AXIS_SET. -/
def execAxisSet (ax : Fin 4) (v : Word) (s : State) : Host.Outcome State Fault Refusal :=
  if !s.reaches 4 then .next s else .next (s.axisSet ax v)

end Sys2Proof.Machine
end

