-- ==== Sys2Proof/Machine/CorMath.lean ====
section
/-! DEFINITION. The arithmetic of the correlation engine (12): binary64 numbers and matrices, the B-spline surface, the
preparation of a subset, the warps, the search and one iteration. What each position gives is a binary32; a sum over the
positions is formed exactly and rounded once to binary64, because R332 fixes no order (log entry 21). -/

namespace Sys2Proof.Machine

open Sys2Proof

/-! ### binary64 -/

/-- 0 and 1. -/
def dzero : Dbl := (false, 0, 0)
def dunit : Dbl := (false, 1, 0)

/-- Negation. -/
def dneg (a : Dbl) : Dbl := (!a.1, a.2.1, a.2.2)

/-- The magnitude. -/
def dabs (a : Dbl) : Dbl := (false, a.2.1, a.2.2)

/-- The difference. -/
def dsub (a b : Dbl) : Dbl := dadd a (dneg b)

/-- Less than, on the exact values. -/
def dlt (a b : Dbl) : Bool := decide ((fsumInt a.1 a.2.1 a.2.2 (!b.1) b.2.1 b.2.2).1 < 0)

/-- The quotient; 0 for a divisor of 0, which no caller passes. -/
def ddiv (a b : Dbl) : Dbl :=
  if b.2.1 = 0 then dzero
  else
    let k := bitLen b.2.1 + 56
    dround (a.1 != b.1) (a.2.1 * 2 ^ k / b.2.1) (a.2.2 - b.2.2 - k) (a.2.1 * 2 ^ k % b.2.1 != 0)

/-- The integer square root. -/
def isqrt (m : Nat) : Nat :=
  ((List.range (bitLen m / 2 + 1)).reverse).foldl (fun r k => if (r + 2 ^ k) * (r + 2 ^ k) ≤ m then r + 2 ^ k else r) 0

/-- The square root of a number that is not negative, rounded. -/
def dsqrt (a : Dbl) : Dbl :=
  if a.2.1 = 0 then a
  else
    let k : Nat := 2 * 60 + (if a.2.2 % 2 = 0 then 0 else 1)
    let m := a.2.1 * 2 ^ k
    let r := isqrt m
    dround false r ((a.2.2 - (k : Int)) / 2) (r * r != m)

/-- Rounded to binary32; none where the value lies outside its range. -/
def dword (a : Dbl) : Option Word :=
  let r := roundTo 24 a.2.1 a.2.2 false
  if a.2.1 != 0 && decide (128 < r.2 + bitLen r.1) then none else some (dtoF a)

/-- A binary32 as an exact multiple of 2^-149; none for an infinity or NaN. -/
def fexact (w : Word) : Option Int :=
  match fdec w with
  | .fin n m e => let v : Nat := m * 2 ^ (e + 149).toNat
                  some (if n then -(v : Int) else v)
  | _ => none

/-- The same, for a result of the arithmetic, which is finite. -/
def fexact0 (w : Word) : Int := (fexact w).getD 0

/-- The sum of binary32 values. -/
def sumOf (l : List Word) : Dbl := dint (l.foldl (fun a w => a + fexact0 w) 0) (-149)

/-- The sum of products of binary32 values. -/
def sumProd (l : List (Word × Word)) : Dbl := dint (l.foldl (fun a p => a + fexact0 p.1 * fexact0 p.2) 0) (-298)

/-! ### Matrices in binary64 -/

/-- An element of a list, 0 beyond it. -/
def dget (l : List Dbl) (k : Nat) : Dbl := l.getD k dzero

/-- An element of a matrix, given by rows. -/
def mget (m : List (List Dbl)) (i k : Nat) : Dbl := dget (m.getD i []) k

/-- A matrix from its elements. -/
def mofn (n : Nat) (f : Nat → Nat → Dbl) : List (List Dbl) := (List.range n).map (fun i => (List.range n).map (f i))

/-- The sum of `f k` over a list of indices, in order. -/
def dsumOver (l : List Nat) (f : Nat → Dbl) : Dbl := l.foldl (fun a k => dadd a (f k)) dzero

/-- Product of `n` × `n` matrices. -/
def mmul (n : Nat) (a b : List (List Dbl)) : List (List Dbl) :=
  mofn n (fun i k => dsumOver (List.range n) (fun m => dmul (mget a i m) (mget b m k)))

/-- Row `k` of an elimination: divided by its pivot and taken off every other row. -/
def elimStep (k : Nat) (m : List (List Dbl)) : Option (List (List Dbl)) :=
  let p := mget m k k
  if p.2.1 = 0 then none
  else
    let row := (m.getD k []).map (fun x => ddiv x p)
    some ((List.range m.length).map (fun i =>
      if i = k then row
      else (m.getD i []).zipWith (fun x y => dsub x (dmul (mget m i k) y)) row))

/-- The inverse of an `n` × `n` matrix by elimination; none where a pivot is 0. -/
def minv (n : Nat) (a : List (List Dbl)) : Option (List (List Dbl)) :=
  let aug := (List.range n).map (fun i => a.getD i [] ++ (List.range n).map (fun k => if k = i then dunit else dzero))
  ((List.range n).foldl (fun (o : Option (List (List Dbl))) k => o.bind (elimStep k)) (some aug)).map
    (fun m => m.map (List.drop n))

/-- Element `j` of row `i` of the Cholesky factor, behind the rows above and the elements before it. -/
def cholElem (hm rows : List (List Dbl)) (i : Nat) (row : List Dbl) (j : Nat) : Option (List Dbl) :=
  let other := if j = i then row else rows.getD j []
  let s := dsub (mget hm i j) (dsumOver (List.range j) (fun k => dmul (dget row k) (dget other k)))
  if j = i then (if dlt dzero s then some (row ++ [dsqrt s]) else none) else some (row ++ [ddiv s (dget other j)])

/-- The Cholesky factor by rows; none where the matrix is not positive definite. -/
def chol (n : Nat) (hm : List (List Dbl)) : Option (List (List Dbl)) :=
  (List.range n).foldl (fun (o : Option (List (List Dbl))) i => o.bind fun rows =>
    ((List.range (i + 1)).foldl (fun (r : Option (List Dbl)) j => r.bind (fun row => cholElem hm rows i row j)) (some [])).map
      (fun row => rows ++ [row])) (some [])

/-- The inverse of a lower triangular factor, by rows. -/
def triInv (n : Nat) (l : List (List Dbl)) : List (List Dbl) :=
  (List.range n).foldl (fun rows i =>
    rows ++ [(List.range (i + 1)).map (fun j =>
      if j = i then ddiv dunit (mget l i i)
      else ddiv (dneg (dsumOver ((List.range i).filter (fun k => decide (j ≤ k))) (fun k => dmul (mget l i k) (mget rows k j))))
        (mget l i i))]) []

/-- The inverse from the factor's inverse: the sum of products of its columns. -/
def cholInv (n : Nat) (l : List (List Dbl)) : List (List Dbl) :=
  let v := triInv n l
  mofn n (fun i j => dsumOver ((List.range n).filter (fun k => decide (max i j ≤ k))) (fun k => dmul (mget v k i) (mget v k j)))

/-! ### The plane and its B-spline surface (R321 to R323, R331) -/

/-- A value of the plane (R322): the S2 value of the pixel, or the sum of a quad in order. -/
def planeVal (m : Mosaic) (quad : Bool) (x y : Nat) : Word :=
  if quad then
    fadd (fadd (fadd (m.s2 (2 * x) (2 * y)) (m.s2 (2 * x + 1) (2 * y))) (m.s2 (2 * x) (2 * y + 1))) (m.s2 (2 * x + 1) (2 * y + 1))
  else m.s2 x y

/-- A plane: its size, and a value at each position of it. -/
structure Surf where
  w : Nat
  h : Nat
  val : Nat → Nat → Word

/-- The plane at any position, reflected (R285). -/
def Surf.at_ (p : Surf) (x y : Int) : Word := p.val (reflect x p.w) (reflect y p.h)

/-- sqrt(3) in units of 2^-160. -/
def fxSqrt3 : Int := fxPow 3 0 (fxRat 1 2)

/-- h[k] for k = 0 to 12: sqrt(3) z^k rounded to binary32, with z = sqrt(3) - 2 (R323). -/
def splineTaps : List Word :=
  ((List.range 13).foldl (fun (a : List Word × Int) _ => (a.1 ++ [fint a.2 (-160)], fxMul a.2 (fxSqrt3 - 2 * fxOne)))
    ([], fxSqrt3)).1

/-- The 25 taps in ascending order with their distances -12 to 12. -/
def splineRow : List (Int × Word) :=
  (List.range 25).map (fun (i : Nat) => let k : Int := i - 12; (k, splineTaps.getD k.natAbs 0#32))

/-- A sum over the taps in ascending order. -/
def tapSum (f : Int → Word) : Word :=
  match splineRow with
  | [] => 0#32
  | t :: ts => ts.foldl (fun a u => fadd a (fmul u.2 (f u.1))) (fmul t.2 (f t.1))

/-- c_line: the prefilter along a line. -/
def Surf.lineCoef (p : Surf) (x y : Int) : Word := tapSum (fun k => p.at_ (x + k) y)

/-- c: the prefilter along a column of c_line. -/
def Surf.coef (p : Surf) (x y : Int) : Word := tapSum (fun k => p.lineCoef x (y + k))

/-- The weights w(-1) to w(2) at a fraction (R331). -/
def splineW (t : Word) : List Word :=
  let u := fsub fone t
  let t2 := fmul t t
  let t3 := fmul t2 t
  let six := fnat 6
  let three := fnat 3
  [fdiv (fmul (fmul u u) u) six,
   fdiv (fadd (fsub ffour (fmul six t2)) (fmul three t3)) six,
   fdiv (fsub (fadd (fadd fone (fmul three t)) (fmul three t2)) (fmul three t3)) six,
   fdiv t3 six]

/-- The four terms of a weighted sum in order. -/
def weigh (w : List Word) (f : Int → Word) : Word :=
  let t := fun (k : Nat) => fmul (w.getD k 0#32) (f ((k : Int) - 1))
  fadd (fadd (fadd (t 0) (t 1)) (t 2)) (t 3)

/-- Integer part of a position in units of 2^-150, and its fraction as binary32. -/
def splitPos (q : Int) : Int × Word :=
  let i := q / 2 ^ 150
  (i, fint (q - i * 2 ^ 150) (-150))

/-- g: the surface at a position in units of 2^-150 (R331). -/
def Surf.interp (p : Surf) (q : Int × Int) : Word :=
  let x := splitPos q.1
  let y := splitPos q.2
  let wx := splineW x.2
  weigh (splineW y.2) (fun n => weigh wx (fun m => p.coef (x.1 + m) (y.1 + n)))

/-- Half the difference of the neighbours: the derivative of the surface at an integer position, across the weights of the
other direction. -/
def slope (f : Int → Int → Word) : Word :=
  weigh (splineW 0#32) (fun n => fdiv (fsub (f 1 n) (f (-1) n)) ftwo)

/-- f, fx and fy at an integer position (R327). -/
def Surf.grad (p : Surf) (x y : Int) : Word × Word × Word :=
  (p.interp (x * 2 ^ 150, y * 2 ^ 150), slope (fun m n => p.coef (x + m) (y + n)), slope (fun n m => p.coef (x + m) (y + n)))

/-! ### Subsets and their preparation (R327, R330) -/

/-- The offsets of a subset. -/
def subset (h : Nat) : List (Int × Int) :=
  (List.range (2 * h + 1)).flatMap (fun (v : Nat) => (List.range (2 * h + 1)).map (fun (u : Nat) => ((u : Int) - h, (v : Int) - h)))

/-- The parameters that a shape uses, by their place in P. -/
def shapeIdx (shape : Nat) : List Nat :=
  if shape = 2 then [0, 6] else if shape = 6 then [0, 1, 2, 6, 7, 8] else List.range 12

/-- What parameter `k` of u (or of v) multiplies at an offset: 1, dx, dy, dx²/2, dx dy, dy²/2. -/
def shapeTerm (k : Nat) (d : Int × Int) : Word :=
  match k % 6 with
  | 0 => fone
  | 1 => fint d.1 0
  | 2 => fint d.2 0
  | 3 => fint (d.1 * d.1) (-1)
  | 4 => fint (d.1 * d.2) 0
  | _ => fint (d.2 * d.2) (-1)

/-- The Jacobian row at an offset: (fx, fy) · ∂W/∂p at p = 0. -/
def jacRow (shape : Nat) (g : Word × Word × Word) (d : Int × Int) : List Word :=
  (shapeIdx shape).map (fun k => fmul (if k < 6 then g.2.1 else g.2.2) (shapeTerm k d))

/-- One position of a reference subset: offset, f, Jacobian row. -/
abbrev RefPos := (Int × Int) × Word × List Word

/-- The positions of a reference subset around (x, y). -/
def Surf.refPos (p : Surf) (shape x y h : Nat) : List RefPos :=
  (subset h).map (fun d => let g := p.grad (x + d.1) (y + d.2); (d, g.1, jacRow shape g d))

/-- A prepared record (R327): binary32 values; the upper triangle of H⁻¹ row by row. -/
structure Prep where
  fbar : Word
  df : Word
  a : List Word
  b : List Word
  hinv : List Word
  deriving DecidableEq, Repr

/-- The pairs (i, j), i ≤ j, of the upper triangle of an `n` × `n` matrix, row by row. -/
def triIdx (n : Nat) : List (Nat × Nat) :=
  (List.range n).flatMap (fun i => ((List.range n).filter (fun j => decide (i ≤ j))).map (fun j => (i, j)))

/-- The preparation of a subset; none for SINGULAR. -/
def prepare (shape : Nat) (ps : List RefPos) : Option Prep :=
  let n := (shapeIdx shape).length
  let fbar := dtoF (ddivN (sumOf (ps.map (·.2.1))) ps.length)
  let dev := ps.map (fun q => (fsub q.2.1 fbar, q.2.2))
  let df := dsqrt (sumProd (dev.map (fun q => (q.1, q.1))))
  let col := fun i (r : List Word) => r.getD i 0#32
  let hm := mofn n (fun i j => sumProd (dev.map (fun q => (col i q.2, col j q.2))))
  if df.2.1 = 0 then none
  else
    (chol n hm).map fun l =>
      let hi := cholInv n l
      ⟨fbar, dtoF df, (List.range n).map (fun i => dtoF (sumProd (dev.map (fun q => (col i q.2, q.1))))),
        (List.range n).map (fun i => dtoF (sumOf (dev.map (fun q => col i q.2)))),
        (triIdx n).map (fun q => dtoF (mget hi q.1 q.2))⟩

/-- The words of a prepared record in order. -/
def Prep.words (p : Prep) : List Word := [p.fbar, p.df] ++ p.a ++ p.b ++ p.hinv

/-- A prepared record read back from its words. -/
def Prep.ofWords (n : Nat) (w : List Word) : Prep :=
  ⟨w.getD 0 0#32, w.getD 1 0#32, slice w 2 n, slice w (2 + n) n, slice w (2 + 2 * n) (n * (n + 1) / 2)⟩

/-- An element of H⁻¹. -/
def Prep.hinvAt (p : Prep) (n i j : Nat) : Dbl :=
  dofF (p.hinv.getD ((triIdx n).findIdx (· == (min i j, max i j))) 0#32)

/-- σ of R335: NOISE × sqrt(2 [H⁻¹]ii) as binary16. -/
def Prep.sigma (p : Prep) (n i : Nat) (noise : Word) : BitVec 16 :=
  toHalf (dtoF (dmul (dofF noise) (dsqrt (dmul (dint 2 0) (dabs (p.hinvAt n i i))))))

/-! ### Warps (R330) -/

/-- The warp of a sample offset, in units of 2^-150. -/
def warp (x y : Nat) (dx dy : Int) (p : List Word) : Int × Int :=
  let a := fun k => fexact0 (p.getD k 0#32)
  let ax := fun k => 2 * a k + 2 * a (k + 1) * dx + 2 * a (k + 2) * dy + a (k + 3) * dx * dx + 2 * a (k + 4) * dx * dy + a (k + 5) * dy * dy
  ((x + dx) * 2 ^ 150 + ax 0, (y + dy) * 2 ^ 150 + ax 6)

/-- M(p) of shapes 2 and 6. -/
def warp3 (p : Nat → Dbl) : List (List Dbl) :=
  [[dadd dunit (p 1), p 2, p 0], [p 7, dadd dunit (p 8), p 6], [dzero, dzero, dunit]]

/-- The product of two polynomials over dx², dx·dy, dy², dx, dy, 1 without the terms above second order. -/
def polyMul (a b : List Dbl) : List Dbl :=
  let t := fun i k => dmul (dget a i) (dget b k)
  [dadd (dadd (t 0 5) (t 5 0)) (t 3 3), dadd (dadd (t 1 5) (t 5 1)) (dadd (t 3 4) (t 4 3)), dadd (dadd (t 2 5) (t 5 2)) (t 4 4),
   dadd (t 3 5) (t 5 3), dadd (t 4 5) (t 5 4), t 5 5]

/-- The 6 × 6 matrix of shape 12. -/
def warp6 (p : Nat → Dbl) : List (List Dbl) :=
  let half := fun x => dmul x (false, 1, -1)
  let xs := [half (p 3), p 4, half (p 5), dadd dunit (p 1), p 2, p 0]
  let ys := [half (p 9), p 10, half (p 11), p 7, dadd dunit (p 8), p 6]
  [polyMul xs xs, polyMul xs ys, polyMul ys ys, xs, ys, [dzero, dzero, dzero, dzero, dzero, dunit]]

/-- The parameters in the rows of a composed matrix. -/
def warpParams (shape : Nat) (m : List (List Dbl)) : List Dbl :=
  if shape = 12 then
    let r := fun i k => mget m (3 + i) k
    let two := dint 2 0
    [r 0 5, dsub (r 0 3) dunit, r 0 4, dmul two (r 0 0), r 0 1, dmul two (r 0 2),
     r 1 5, r 1 3, dsub (r 1 4) dunit, dmul two (r 1 0), r 1 1, dmul two (r 1 2)]
  else
    [mget m 0 2, dsub (mget m 0 0) dunit, mget m 0 1, dzero, dzero, dzero,
     mget m 1 2, mget m 1 0, dsub (mget m 1 1) dunit, dzero, dzero, dzero]

/-- W(p) ∘ W(dp)⁻¹; none where the matrix has no inverse. -/
def compose (shape : Nat) (p dp : Nat → Dbl) : Option (List Dbl) :=
  let n := if shape = 12 then 6 else 3
  let m := if shape = 12 then warp6 else warp3
  (minv n (m dp)).map (fun inv => warpParams shape (mmul n (m p) inv))

/-! ### Search and iteration (R329, R332, R333) -/

/-- zncc of plane values `g` against the reference values, for the search; none where the values are all equal. -/
def znccOf (r : Prep) (fs gs : List Word) : Option Dbl :=
  let n := gs.length
  let gbar := ddivN (sumOf gs) n
  let v := dsub (sumProd (gs.map (fun g => (g, g)))) (dmul (dint n 0) (dmul gbar gbar))
  if dlt dzero v then
    some (ddiv (sumProd (fs.zipWith (fun f g => (fsub f r.fbar, g)) gs)) (dmul (dofF r.df) (dsqrt v)))
  else none

/-- The sums of one pass over the subset. -/
structure Pass where
  /-- The variance sum sgg - N gbar², of which dg is the root. -/
  var : Dbl
  sfg : Dbl
  sjg : List Dbl
  gbar : Dbl
  deriving DecidableEq, Repr

/-- One pass over the positions (R332). -/
def passOf (n : Nat) (r : Prep) (ps : List RefPos) (gs : List Word) : Pass :=
  let k := ps.length
  let gbar := ddivN (sumOf gs) k
  ⟨dsub (sumProd (gs.map (fun g => (g, g)))) (dmul (dint k 0) (dmul gbar gbar)),
   sumProd (ps.zipWith (fun q g => (fsub q.2.1 r.fbar, g)) gs),
   (List.range n).map (fun i => sumProd (ps.zipWith (fun q g => (q.2.2.getD i 0#32, g)) gs)),
   gbar⟩

/-- dp = -H⁻¹ grad, in the order of the shape's parameters, for dg above 0. -/
def Pass.update (a : Pass) (n : Nat) (r : Prep) : List Dbl :=
  let s := ddiv (dofF r.df) (dsqrt a.var)
  let g := (List.range n).map (fun i =>
    dsub (dofF (r.a.getD i 0#32)) (dmul s (dsub (dget a.sjg i) (dmul a.gbar (dofF (r.b.getD i 0#32))))))
  (List.range n).map (fun i => dneg (dsumOver (List.range n) (fun k => dmul (r.hinvAt n i k) (dget g k))))

/-- zncc of the pass. -/
def Pass.zncc (a : Pass) (r : Prep) : Dbl := ddiv a.sfg (dmul (dofF r.df) (dsqrt a.var))

/-- Updates of a shape in their places of P. -/
def spread (shape : Nat) (d : List Dbl) (k : Nat) : Dbl :=
  let i := (shapeIdx shape).findIdx (· == k)
  if i < d.length then dget d i else dzero

/-- conv of R333 over the updates. -/
def convOf (h : Nat) (d : Nat → Dbl) : Dbl :=
  let a := fun l => dsumOver l (fun k => dabs (d k))
  dadd (dadd (a [0, 6]) (dmul (dint h 0) (a [1, 2, 7, 8]))) (dmul (dint (h * h : Nat) (-1)) (a [3, 4, 5, 9, 10, 11]))

/-- What the order of the sums may move a parameter by (R332): a fraction in [-1, 1) of 10⁻⁵ pixel of displacement at the
edge of the subset. -/
def devOf (h k : Nat) (f : BitVec 16) : Dbl :=
  let den := match k % 6 with | 0 => 200000 | 1 => 200000 * h | 2 => 200000 * h | _ => 100000 * h * h
  ddivN (dint f.toInt (-14)) den

end Sys2Proof.Machine
end

