-- ==== Sys2Proof/Machine/Cor.lean ====
section
/-! DEFINITION. The correlation engine (12): jobs, contexts, planes, seeding, the iteration's decisions, results and gauges.
What the open order of the sums (R332) may move a result by is a free value, taken in order (log entry 21). -/

namespace Sys2Proof.Machine

open Sys2Proof

/-! ### State of the engine -/

/-- Put COR. -/
def State.setCor (s : State) (c : Cor) : State := { s with cor := c }

/-- A job that has never started. -/
def CorJob.init : CorJob := ⟨[], 0, none, none, none, 0, 0, [], false, 0, none, false, false⟩

/-- Job `j` beside its registers. -/
def State.corJob (s : State) (j : Nat) : CorJob := Map.get (fun _ => CorJob.init) s.cor.jobs j

/-- Put it; LIVEQ follows its queue (R352). -/
def State.setCorJob (s : State) (j : Nat) (v : CorJob) : State :=
  (s.setCor { s.cor with jobs := Map.set (fun _ => CorJob.init) s.cor.jobs j v }).setFld (rCorJStat j) 16 2 v.queue.length

/-- STATE of a job: 0 IDLE, 1 PREPARING, 2 RUNNING, 3 POSTING, 4 ERROR (R341). -/
def State.corState (s : State) (j : Nat) : Nat := s.fld (rCorJStat j) 28 4

/-- COR works: present, its units neither disabled nor fenced (R342). -/
def State.corUp (s : State) : Bool := s.unitLive 9 1 && s.unitLive 9 2

/-- CFG fields of a job. -/
def State.corPiv (s : State) (j : Nat) : Bool := s.bit (rCorJCfg j) 31
def State.corPost (s : State) (j : Nat) : Bool := s.bit (rCorJCfg j) 30
def State.corFill (s : State) (j : Nat) : Bool := s.bit (rCorJCfg j) 29
def State.corStream (s : State) (j : Nat) : Nat := s.fld (rCorJCfg j) 16 6
def State.corQuad (s : State) (j : Nat) : Bool := s.bit (rCorJCfg j) 4

/-- Parameters of the warp: 2, 6 or 12 (R330). -/
def State.corShape (s : State) (j : Nat) : Nat := match s.fld (rCorJCfg j) 24 2 with | 0 => 2 | 1 => 6 | _ => 12

/-- First context and number of contexts. -/
def State.corBase (s : State) (j : Nat) : Nat := s.fld (rCorJCbase j) 0 16
def State.corCount (s : State) (j : Nat) : Nat := s.fld (rCorJCcount j) 0 17

/-- The plane of a job (R322). -/
def State.corPlane (s : State) (j : Nat) : Nat × Nat :=
  let i := s.corStream j
  if s.corQuad j then (s.strW i / 2, s.strH i / 2) else (s.strW i, s.strH i)

/-- The column window (R324). -/
def State.corWin (s : State) (j : Nat) : Nat × Nat := (s.fld (rCorJXwin j) 16 11 * 16, s.fld (rCorJXwin j) 0 11 * 16)

/-- A 48-bit serial from a register pair. -/
def State.serialReg (s : State) (lo hi : Nat) : Nat := (s.rd lo).toNat + s.fld hi 0 16 * 2 ^ 32

/-- POST_NEXT. -/
def State.postNext (s : State) (j : Nat) : Nat := s.serialReg (rCorJPnxLo j) (rCorJPnxHi j)

/-- Set POST_NEXT. -/
def State.setPostNext (s : State) (j n : Nat) : State :=
  (s.wr (rCorJPnxLo j) (BitVec.ofNat 32 n)).wr (rCorJPnxHi j) (BitVec.ofNat 32 (n / 2 ^ 32))

/-- The parameters after an iteration: the computed ones, moved within the bound of R332, as binary32; none where one lies
outside the range of binary32. -/
def Cor.params (c : Cor) (shape h : Nat) (p : List Dbl) : Option (List Word) × Cor :=
  ((List.range 12).mapM (fun k =>
      if (shapeIdx shape).contains k then dword (dadd (dget p k) (devOf h k (Config.corDev (c.free + k)))) else some 0#32),
    { c with free := c.free + 12 })

/-- A ZNCC value as binary32: at most one ulp from the nearest, as the order of the sums decides (R332, log entry 21). -/
def Cor.znccWord (c : Cor) (z : Dbl) : Word × Cor :=
  let w := dtoF z
  (if w = 0#32 then w else w + BitVec.ofNat 32 (Config.corUlp c.free).val - 1#32, { c with free := c.free + 1 })

/-! ### Contexts (R319, R320) -/

/-- The 128 bytes of context `k`. -/
def Cor.ctxBytes (c : Cor) (k : Nat) : List Byte := bytesAt c.ctx (128 * k) 128

/-- Write bytes of the context store. -/
def Cor.putCtx (c : Cor) (k off : Nat) (b : List Byte) : Cor := { c with ctx := putBytes c.ctx (128 * k + off) b }

/-- A field of a context. -/
def ctxAt (b : List Byte) (i n : Nat) : Nat := leAt b i n

/-- A job that is not IDLE whose range holds context `k` (R320). -/
def State.ctxBusy (s : State) (k : Nat) : Bool :=
  (List.range 4).any fun j => s.corState j != 0 && decide (s.corBase j ≤ k) && decide (k < s.corBase j + s.corCount j)

/-! ### Work area and results (R328, R345) -/

/-- Module address of a register that holds REGION and BASE in 4 KiB units. -/
def State.regionAddr (s : State) (a : Nat) : Nat := s.rgnAddr (s.fld a 28 4) + s.fld a 0 28 * 4096

/-- Bytes from a REGION, BASE register lie in their region. -/
def State.regionFits (s : State) (a len : Nat) : Bool :=
  s.rgnEn (s.fld a 28 4) && decide (s.fld a 0 28 * 4096 + len ≤ s.fld (rMemRgnSize (s.fld a 28 4)) 0 19 * 2 ^ 20)

/-- PSIZE (R327). -/
def State.psize (s : State) (j : Nat) : Nat := match s.corShape j with | 2 => 64 | 6 => 256 | _ => 512

/-- Length of the reference copy. -/
def State.refLen (s : State) (j : Nat) : Nat := if s.corPiv j then 0 else roundUp (s.slotLen (s.corStream j)) 4096

/-- The partition of a job's stream. -/
def State.corPart (s : State) (j : Nat) : Nat := (s.partOf (s.corStream j)).getD 0

/-- Offset of the result index in the work area, and the whole length. -/
def State.indexOff (s : State) (j : Nat) : Nat := s.refLen j + roundUp (s.corCount j * s.psize j) 4096
def State.workLen (s : State) (j : Nat) : Nat := s.indexOff j + 8 * s.lcount (s.corPart j)

/-- Bytes of a result set, and N of the ring. -/
def State.setLen (s : State) (j : Nat) : Nat := 4096 + roundUp (64 * s.corCount j) 4096
def State.ringN (s : State) (j : Nat) : Nat := max 2 (s.fld (rCorJResn j) 0 16)

/-- The ring is full (R346). -/
def State.ringFull (s : State) (j : Nat) : Bool :=
  (s.fld (rCorJWrptr j) 0 16 + 1) % s.ringN j == s.fld (rCorJRdptr j) 0 16

/-- The ring position that the result index gives for an entry; none where it does not hold the entry's serial. -/
def State.indexOf (s : State) (j : Nat) (e : Entry) : Option Nat :=
  let b := s.peek (s.regionAddr (rCorJWork j) + s.indexOff j + 8 * e.idx) 8
  if leAt b 0 6 = e.serial then some (leAt b 6 2) else none

/-! ### Starting a job (R341, R352) -/

/-- A gauge of job `j` that names a context outside the job's range, or KIND 0b11. -/
def State.gaugeBad (s : State) (j : Nat) : Bool :=
  let inR := fun k => decide (s.corBase j ≤ k) && decide (k < s.corBase j + s.corCount j)
  (List.range 64).any fun g =>
    s.bit (rCorGCfg g) 31 && s.fld (rCorGCfg g) 24 2 == j &&
      (s.fld (rCorGCfg g) 28 2 == 3 || !inR (s.fld (rCorGCtx g) 0 16) ||
        (s.fld (rCorGCfg g) 28 2 != 0 && !inR (s.fld (rCorGCtx g) 16 16)))

/-- The reference entry of a DIC job: held in the ledger of the stream. -/
def State.refEntry (s : State) (j : Nat) : Option Entry :=
  (s.part (s.corPart j)).entries.find? fun e =>
    e.kind == 1 && !e.freed && e.written && e.serial == s.serialReg (rCorJRefLo j) (rCorJRefHi j)

/-- SKIP of a job against the flags of an entry (R337). -/
def State.eligible (s : State) (j : Nat) (e : Entry) : Bool := e.flags &&& s.rd (rCorJSkip j) == 0#32

/-- The checks of START: the lowest error code that applies, 0 where none does. -/
def State.startErr (s : State) (j : Nat) : Nat :=
  let i := s.corStream j
  let b := s.corBase j
  let n := s.corCount j
  let w := s.corWin j
  let overlap := decide (65536 < b + n) || (List.range 4).any (fun k => k != j && s.corState k != 0 &&
    decide (b < s.corBase k + s.corCount k) && decide (s.corBase k < b + n))
  let ref := s.refEntry j
  if overlap then 1
  else if !s.strDecl i || (s.partOf i).isNone then 2
  else if !s.corPiv j && ref.isNone then 3
  else if !s.corPiv j && !ref.all (s.eligible j) then 4
  else if w.2 ≤ w.1 ∨ 6400 < w.2 - w.1 ∨ (s.corPlane j).1 < w.2 then 5
  else if !s.regionFits (rCorJWork j) (s.workLen j) then 6
  else if !s.regionFits (rCorJRes j) (s.ringN j * s.setLen j) then 7
  else if s.gaugeBad j then 8
  else if s.fld (rCorJCfg j) 24 2 = 3 then 9
  else if s.corPost j && serialLater (s.serialReg (rCorJEndLo j) (rCorJEndHi j)) (s.serialReg (rCorJStartLo j) (rCorJStartHi j))
    then 12
  else 0

/-- A job goes to ERROR (R341). -/
def State.corError (s : State) (j err : Nat) : State :=
  let s1 := if s.cor.cur.any (fun f => f.job == j) then s.setCor { s.cor with cur := none } else s
  (((s1.setCorJob j { CorJob.init with seq := (s.corJob j).seq }).setFld (rCorJStat j) 28 4 4).setFld (rCorJStat j) 24 4 err).raise
    0x0B9 2

/-- A job goes to IDLE; from RUNNING or POSTING that raises JOB_DONE. -/
def State.corIdle (s : State) (j : Nat) : State :=
  let st := s.corState j
  let s1 := (s.setCorJob j { CorJob.init with seq := (s.corJob j).seq }).setFld (rCorJStat j) 28 4 0
  if st = 2 ∨ st = 3 then s1.raise 0x0B8 2 else s1

/-- COR_STAT and COR_CUR follow the frame in progress (R351). -/
def State.syncCor (s : State) : State :=
  let prep := (List.range 4).find? (fun j => s.corState j == 1)
  let held := s.bit rCmpStat 0
  let st := match s.cor.cur with | some _ => 2 | none => if held then 3 else if prep.isSome then 1 else 0
  let j := match s.cor.cur with | some f => f.job | none => prep.getD (s.fld rCorStat 24 2)
  let s1 := (s.setFld rCorStat 28 4 st).setFld rCorStat 24 2 j
  match s.cor.cur with
  | some f => s1.setLive rCorCurLo (BitVec.ofNat 64 f.serial)
  | none => s1

/-! ### Planes (R321, R322) -/

/-- How the pixels of a frame stand in its slot: the stream's layout; a CORRECTED frame left unprocessed is UNPACKED16
(R302). -/
def State.slotLay (s : State) (i : Nat) (flags : Word) : Nat :=
  if s.strLayout i = 3 ∧ flags.getLsbD 4 = true then 1 else s.strLayout i

/-- The raw value of a pixel of a slot at `a`; of a slot without raw values the spec states none (log entry 116). -/
def State.slotPixel (s : State) (i lay a x y : Nat) : Nat :=
  let b := s.strBits i
  match lay with
  | 0 => leNat (s.peek (a + y * roundUp (s.lineBytes i) 64 + b * x / 8) 4) / 2 ^ (b * x % 8) % 2 ^ b
  | 1 => leNat (s.peek (a + y * roundUp (2 * s.strW i) 64 + 2 * x) 2) % 2 ^ b
  | _ => (Config.corRaw a x y).toNat % 2 ^ b

/-- The stream of head `n` whose frames belong to stream `i` (R175). -/
def State.srcOf (s : State) (i n : Nat) : Nat := if n = i / 16 then i else (s.headStr n).getD i

/-- Frames of head `n` have default words (R292). -/
def State.headUncal (s : State) (n : Nat) : Bool :=
  (s.fld (rIngCalGrid n) 0 15 == 0 && s.fld (rIngCalGrid n) 16 15 == 0) || s.fenced 3 6

/-- What a word of a job's column model and nonlinearity classes holds before it is written: as R303 has it for a stream. -/
def jobDefault (key : Nat) : Word := tblDefault (key % 2 ^ 24)

/-- Key of a word of a job's tables. -/
def jobKey (j k n : Nat) : Nat := j * 2 ^ 24 + k * 2 ^ 20 + n

/-- The mosaic of a frame of head `n` in a slot at `a`, for job `j` (R321). A QUAD plane has colours, a MONO plane none
(log entry 116). -/
def State.corMosaic (s : State) (j a n lay : Nat) : Mosaic :=
  let i := s.corStream j
  ⟨s.strW i, s.strH i, s.strBits i, s.slotPixel i lay a,
   fun x y => if s.headUncal n then calDefault else s.storeWord (s.srcOf i n) x y, fun q => s.rd (rCorJBlack j q),
   fun q => s.rd (rCorJCg j q), fun k m => Map.get jobDefault s.cor.tbl (jobKey j k m), s.corQuad j⟩

/-- The plane of that frame (R322). -/
def State.corSurf (s : State) (j a n lay : Nat) : Surf :=
  ⟨(s.corPlane j).1, (s.corPlane j).2, planeVal (s.corMosaic j a n lay) (s.corQuad j)⟩

/-- The plane of the frame of a serial, from its slot. -/
def State.frameSurf (s : State) (j serial : Nat) : Surf :=
  match s.entry (s.corPart j) serial with
  | some e => s.corSurf j e.addr e.head (s.slotLay (s.corStream j) e.flags)
  | none => ⟨(s.corPlane j).1, (s.corPlane j).2, fun _ _ => 0#32⟩

/-- The reference plane of a tracked frame: frame A of a pair in its slot, else the copy in the work area (R326). -/
def State.refSurf (s : State) (j ref : Nat) : Surf :=
  if s.corPiv j then s.frameSurf j ref
  else s.corSurf j (s.regionAddr (rCorJWork j)) (s.corJob j).refHead (s.corJob j).refLay

/-- START after its checks: the reference copy is made and the result index filled (R326, R328), gauges are armed. -/
def State.corBegin (s : State) (j : Nat) : State :=
  let w := s.regionAddr (rCorJWork j)
  let s1 := match s.corPiv j, s.refEntry j with
    | false, some e => (s.bulkRead 0 e.addr e.length).bulkWrite 0 w (s.peek e.addr e.length)
    | _, _ => s
  let s2 := s1.bulkWrite 0 (w + s.indexOff j) (List.replicate (8 * s.lcount (s.corPart j)) 0xFF#8)
  let s3 := s2.forEach ((List.range 64).filter (fun g => s.bit (rCorGCfg g) 31 && s.fld (rCorGCfg g) 24 2 == j))
    (fun t g => (t.setBit (rCorGStat g) 31 true).setFld (rCorGStat g) 0 16 0)
  let q := match s.corPiv j, s.refEntry j with
    | false, some e => { CorJob.init with refHead := e.head, refLay := s.slotLay (s.corStream j) e.flags }
    | _, _ => CorJob.init
  ((s3.setCorJob j q).setFld (rCorJStat j) 28 4 1).setFld (rCorJStat j) 24 4 0

/-- JOB_START: COR_Jj_CMD.START (R341). -/
def State.jobStart (s : State) (j : Nat) : State :=
  if !s.corUp then s
  else if s.corState j != 0 && s.corState j != 4 then s.violation (rCorJCmd j)
  else
    let s0 := s.setFld (rCorJStat j) 28 4 0
    let e := s0.startErr j
    (if e != 0 then s0.corError j e else s0.corBegin j).syncCor

/-! ### Preparation (R325 to R327) -/

/-- HALF of a context in its range (R319). -/
def halfOk (h : Nat) : Bool := decide (3 ≤ h) && decide (h ≤ 31)

/-- The reference subset lies inside the frame and the window (R325). -/
def State.subsetOk (s : State) (j : Nat) (b : List Byte) : Bool :=
  let x := ctxAt b 0 2; let y := ctxAt b 2 2; let h := ctxAt b 4 1
  let w := s.corWin j; let p := s.corPlane j
  halfOk h && decide (max w.1 0 + h ≤ x) && decide (x + h < min w.2 p.1) && decide (h ≤ y) && decide (y + h < p.2)

/-- Whether a context is enabled (R319). -/
def State.ctxOn (s : State) (k : Nat) : Bool := ((s.cor.ctxBytes k).getD 5 0#8).getLsbD 7

/-- The positions of a context's reference subset on the plane `ref`. -/
def State.ctxPos (s : State) (j k : Nat) (ref : Surf) : List RefPos :=
  let b := s.cor.ctxBytes k
  ref.refPos (s.corShape j) (ctxAt b 0 2) (ctxAt b 2 2) (ctxAt b 4 1)

/-- Preparation of an enabled context: its record, or the status that ends it, EDGE or SINGULAR (R325, R327). -/
def State.prepOne (s : State) (j k : Nat) (ref : Surf) : Nat ⊕ Prep :=
  if !s.subsetOk j (s.cor.ctxBytes k) then .inl 8
  else match prepare (s.corShape j) (s.ctxPos j k ref) with
    | some r => .inr r
    | none => .inl 7

/-- Where the prepared record of a context stands. -/
def State.prepAddr (s : State) (j k : Nat) : Nat :=
  s.regionAddr (rCorJWork j) + s.refLen j + (k - s.corBase j) * s.psize j

/-- Preparation of a context of a DIC job: the record written, padded to PSIZE, or the status kept for the whole job. -/
def State.prepCtx (s : State) (j k : Nat) (ref : Surf) : State :=
  if !s.ctxOn k then s
  else match s.prepOne j k ref with
    | .inl st => s.setCorJob j { s.corJob j with prep := (s.corJob j).prep ++ [(k, st)] }
    | .inr r =>
      let d := r.words.flatMap (fun w => leBytes 4 w.toNat)
      s.bulkWrite 0 (s.prepAddr j k) (d ++ List.replicate (s.psize j - d.length) 0#8)

/-- The prepared record of a context for a tracked frame: of a pair formed now, else read from the work area; or the status
that ends the context. -/
def State.prepOf (s : State) (j k : Nat) (ref : Surf) : Nat ⊕ Prep :=
  if s.corPiv j then s.prepOne j k ref
  else match (s.corJob j).prep.find? (fun p => p.1 == k) with
    | some (_, st) => .inl st
    | none =>
      let n := (shapeIdx (s.corShape j)).length
      let b := s.peek (s.prepAddr j k) (s.psize j)
      .inr (Prep.ofWords n ((List.range (s.psize j / 4)).map (fun i => BitVec.ofNat 32 (leAt b (4 * i) 4))))

/-- Contexts of a job. -/
def State.corCtxs (s : State) (j : Nat) : List Nat := (List.range (s.corCount j)).map (s.corBase j + ·)

/-! ### Seeding and iteration (R329 to R334) -/

/-- The deformed band and the window (R324, R325): columns from and to, lines from and to. -/
def State.bandOf (s : State) (j y : Nat) : (Nat × Nat) × (Nat × Nat) :=
  let r := y / 64
  (s.corWin j, ((r - 3) * 64, min ((r + 4) * 64) (s.corPlane j).2))

/-- A position lies in the band and the window, in units of 1 / `u`. -/
def inBand (b : (Nat × Nat) × (Nat × Nat)) (u : Nat) (q : Int × Int) : Bool :=
  decide ((b.1.1 * u : Nat) ≤ q.1) && decide (q.1 < (b.1.2 * u : Nat)) &&
  decide ((b.2.1 * u : Nat) ≤ q.2) && decide (q.2 < (b.2.2 * u : Nat))

/-- R325: a sample position of the warped subset lies outside the deformed band or the window. -/
def State.outOfCache (s : State) (j : Nat) (b : List Byte) (p : List Word) : Bool :=
  let x := ctxAt b 0 2; let y := ctxAt b 2 2
  (subset (ctxAt b 4 1)).any fun d => !inBand (s.bandOf j y) (2 ^ 150) (warp x y d.1 d.2 p)

/-- A binary32 is at least n / 2^16. -/
def atLeast16 (w : Word) (n : Nat) : Bool := match fexact w with | some v => decide ((n * 2 ^ 133 : Nat) ≤ v) | none => false

/-- A parameter in binary64. -/
def paramD (p : List Word) (k : Nat) : Dbl := dofF (p.getD k 0#32)

/-- The iterations of one context on the plane `g` being tracked, from the parameters `p`, with the last ZNCC `z` and `n`
iterations made: the pass and update of R332 and the decisions of R333 in their order. A subset whose positions leave the
band has no values g, and with dg = 0 there is no s: each ends the context there (log entry 116). Answers status,
parameters, ZNCC and iterations. -/
def State.iterate (s : State) (j : Nat) (b : List Byte) (r : Prep) (ps : List RefPos) (g : Surf) (c : Cor) (p : List Word)
    (z : Word) (n : Nat) : Nat → (Nat × List Word × Word × Nat) × Cor
  | 0 => ((2, p, z, n), c)
  | fuel + 1 =>
    let shape := s.corShape j
    let h := ctxAt b 4 1
    let m := (shapeIdx shape).length
    if p.any (fun w => (fexact w).isNone) then ((4, p, z, n + 1), c)
    else if s.outOfCache j b p then ((6, p, z, n + 1), c)
    else
      let gs := ps.map (fun q => g.interp (warp (ctxAt b 0 2) (ctxAt b 2 2) q.1.1 q.1.2 p))
      let a := passOf m r ps gs
      if !dlt dzero a.var then ((5, p, z, n + 1), c)
      else
        let dp := spread shape (a.update m r)
        let zw := c.znccWord (a.zncc r)
        let np := match compose shape (paramD p) dp with
          | some q => zw.2.params shape h q
          | none => (none, zw.2)
        let conv := convOf h dp
        match np.1 with
        | none => ((4, p, zw.1, n + 1), np.2)
        | some q =>
          if dlt (dint h 0) conv then ((4, p, zw.1, n + 1), np.2)
          else if !dlt (dint (max 1 (s.fld (rCorJConv j) 0 16) : Nat) (-16)) conv then
            ((if atLeast16 zw.1 (s.fld (rCorJQual j) 0 16) then 1 else 3, q, zw.1, n + 1), np.2)
          else if fuel = 0 then ((2, q, zw.1, n + 1), np.2)
          else s.iterate j b r ps g np.2 q zw.1 (n + 1) fuel

/-- SEARCH (R329): the translation of the highest ZNCC on plane values, ties to the lowest j, then the lowest i; none where
no translation keeps the subset in the band (`false`) or none of those in it has a ZNCC (`true`; log entry 116). -/
def State.search (s : State) (j : Nat) (b : List Byte) (r : Prep) (ps : List RefPos) (g : Surf) (sr : Nat) :
    Option (Dbl × Int × Int) × Bool :=
  let x := ctxAt b 0 2; let y := ctxAt b 2 2
  let u0 := fround (BitVec.ofNat 32 (ctxAt b 8 4))
  let v0 := fround (BitVec.ofNat 32 (ctxAt b 12 4))
  let step := fun (k : Nat) => (k : Int) - sr
  let all := (List.range (2 * sr + 1)).flatMap (fun jj => (List.range (2 * sr + 1)).map (fun ii => (u0 + step ii, v0 + step jj)))
  let ok := all.filter (fun t => ps.all (fun q => inBand (s.bandOf j y) 1 (x + q.1.1 + t.1, y + q.1.2 + t.2)))
  (ok.foldl (fun (best : Option (Dbl × Int × Int)) t =>
    match znccOf r (ps.map (·.2.1)) (ps.map (fun q => g.at_ (x + q.1.1 + t.1) (y + q.1.2 + t.2))), best with
    | none, _ => best
    | some z, none => some (z, t)
    | some z, some w => if dlt w.1 z then some (z, t) else best) none, !ok.isEmpty)

/-- The record of the most recent earlier tracked frame for a context, where it is CONVERGED (R339). -/
def State.earlier (s : State) (j serial k : Nat) : Option (List Word) :=
  let es := ((s.part (s.corPart j)).entries.filter (fun e => e.kind == 1 && serialLater e.serial serial)).reverse
  match es.findSome? (s.indexOf j) with
  | none => none
  | some pos =>
    let a := s.regionAddr (rCorJRes j) + pos * s.setLen j + 4096 + 64 * (k - s.corBase j)
    let b := s.peek a 64
    if leAt b 0x38 1 = 1 then some ((List.range 12).map (fun i => BitVec.ofNat 32 (leAt b (4 * i) 4))) else none

/-- The start warp of a context (R329, R339): its SEED code and parameters; SEARCH is answered as none. -/
def State.startWarp (s : State) (j serial k : Nat) (live : Bool) (b : List Byte) (recs : List CorRec) :
    Nat × Option (List Word) :=
  let seed := fget (BitVec.ofNat 32 (ctxAt b 5 1)) 0 2
  let pv := (b.getD 0x40 0#8).getLsbD 0
  let own := (List.range 12).map (fun i => BitVec.ofNat 32 (leAt b (0x10 + 4 * i) 4))
  let init := (List.range 12).map (fun i =>
    if i = 0 then BitVec.ofNat 32 (leAt b 8 4) else if i = 6 then BitVec.ofNat 32 (leAt b 12 4) else 0#32)
  let nbr : Option (List Word) :=
    let m := ctxAt b 6 2
    if k ≤ m then none
    else (recs.find? (fun r => r.ctx == m && r.status == 1)).map fun r =>
      let c := s.cor.ctxBytes m
      let dx := fint ((ctxAt b 0 2 : Int) - ctxAt c 0 2) 0
      let dy := fint ((ctxAt b 2 2 : Int) - ctxAt c 2 2) 0
      let ex := fun (i : Nat) => fadd (fadd (r.p.getD i 0#32) (fmul (r.p.getD (i + 1) 0#32) dx)) (fmul (r.p.getD (i + 2) 0#32) dy)
      (List.range 12).map (fun i => if i = 0 ∨ i = 6 then ex i else r.p.getD i 0#32)
  let fallback : Nat × Option (List Word) := match seed with
    | 3 => (3, some init)
    | 1 => (match nbr with | some p => (1, some p) | none => (2, none))
    | _ => (2, none)
  let useP := pv && (seed == 0 || seed == 1) && (live || (s.corPost j && !(s.corJob j).tracked))
  match (if live then none else s.earlier j serial k) with
  | some p => (4, some p)
  | none => if useP then (0, some own) else fallback

/-- Warp parameters of a translation. -/
def shiftParams (u v : Int) : List Word :=
  (List.range 12).map (fun i => if i = 0 then fint u 0 else if i = 6 then fint v 0 else 0#32)

/-- Track one context (R325, R329 to R335) on the planes `ref` and `g`. `prev` is the tile row of the preceding enabled
context. Answers the record, the tile row, the slots of R350 and the engine. -/
def State.track (s : State) (j serial k : Nat) (live : Bool) (ref g : Surf) (prev : Option Nat) (recs : List CorRec) (c : Cor) :
    CorRec × Option Nat × Nat × Cor :=
  let b := s.cor.ctxBytes k
  let zeros := List.replicate 12 (0#32 : Word)
  let none_ := fun st => CorRec.mk k zeros 0#32 0#16 0#16 st 0 0
  if !s.ctxOn k then (none_ 0, prev, 0, c)
  else
    let tr := ctxAt b 2 2 / 64
    let lower := match prev with | some q => decide (tr < q) | none => false
    match s.prepOf j k ref with
    | .inl st => (none_ st, some tr, 0, c)
    | .inr r =>
      if lower then (none_ 9, some tr, 0, c)
      else
        let n := (2 * ctxAt b 4 1 + 1) * (2 * ctxAt b 4 1 + 1)
        let shape := s.corShape j
        let m := (shapeIdx shape).length
        let noise := s.rd (rCorJNoise j)
        let out := fun (p : List Word) (z : Word) (st it seed : Nat) =>
          CorRec.mk k p z (r.sigma m 0 noise) (r.sigma m (m / 2) noise) st it seed
        let wit := if shape = 12 then 2 else 1
        let wprep := if shape = 2 then 2 else if shape = 6 then 3 else 6
        let prep := if s.corPiv j then wprep else 0
        let sr := s.fld (rCorJConv j) 16 6 % 32
        let start := s.startWarp j serial k live b recs
        let maxit := max 1 (s.fld (rCorJConv j) 24 5)
        let ps := s.ctxPos j k ref
        let go := fun (p : List Word) (search : Nat) =>
          let it := s.iterate j b r ps g c p 0#32 0 maxit
          (out it.1.2.1 it.1.2.2.1 it.1.1 it.1.2.2.2 start.1, some tr, n * (wit * it.1.2.2.2 + prep + search), it.2)
        match start.2 with
        | some p => go p 0
        | none =>
          let sp := (2 * sr + 1) * (2 * sr + 1)
          match s.search j b r ps g sr with
          | (some (z, t), _) =>
            let zw := dtoF z
            if atLeast16 zw (s.fld (rCorJQual j) 0 16) then go (shiftParams t.1 t.2) sp
            else (out (shiftParams t.1 t.2) zw 3 0 start.1, some tr, n * (prep + sp), c)
          | (none, inside) => (out zeros 0#32 (if inside then 3 else 6) 0 start.1, some tr, n * (prep + sp), c)

/-- Plane pixels loaded for a frame (R324, R350): every tile row of the two bands once, 28 lines beside it. -/
def State.corLoads (s : State) (j : Nat) : Nat :=
  let ys := (s.corCtxs j).filterMap (fun k =>
    let b := s.cor.ctxBytes k
    if (b.getD 5 0#8).getLsbD 7 then some (ctxAt b 2 2 / 64) else none)
  let last := ((s.corPlane j).2 - 1) / 64
  let lo := ys.foldl min last
  let hi := ys.foldl max 0
  let rows := fun (d : Nat) => if ys.isEmpty then 0 else min last (hi + d) + 1 - (lo - d)
  let w := s.corWin j
  let cols := (w.2 - w.1) + min 14 w.1 + min 14 ((s.corPlane j).1 - w.2)
  (rows 1 + rows 3) * 92 * cols

/-- Bursts that the engine reads for a frame (R350): band lines, of which DIC takes the reference from the copy, prepared
records, and seed records in post-tracking. -/
def State.corBursts (s : State) (j : Nat) (live : Bool) : Nat :=
  let raw := s.corLoads j * (if s.corQuad j then 4 else 1) * s.strBits (s.corStream j) / 8
  let recs := if s.corPiv j then 0 else s.corCount j * s.psize j
  ceilDiv (raw + recs + (if live then 0 else 64 * s.corCount j)) 64

/-- The engine takes a frame: every context is tracked in ascending order (R325). -/
def State.beginFrame (s : State) (j serial ref : Nat) (live : Bool) : State :=
  let s0 := s.spend 0 (s.corBursts j live)
  let rs := s0.refSurf j ref
  let gs := s0.frameSurf j serial
  let r := (s0.corCtxs j).foldl (fun (a : List CorRec × Option Nat × Nat × Cor) k =>
    let x := s0.track j serial k live rs gs a.2.1 a.1 a.2.2.2
    (a.1 ++ [x.1], x.2.1, a.2.2.1 + x.2.2.1, x.2.2.2)) (([] : List CorRec), none, 0, s0.cor)
  let cycles := max (ceilDiv r.2.2.1 80) (ceilDiv (s0.corLoads j) 16) + 2048 + Config.corWait r.2.2.2.free
  let ep := match s0.entry (s0.corPart j) serial with | some e => e.epochApp | none => 0
  let gg := if live then (List.range 64).filter (fun g => s0.bit (rCorGCfg g) 31 && s0.fld (rCorGCfg g) 24 2 == j) else []
  let head := match s0.entry (s0.corPart j) serial with | some e => e.head | none => 0
  s0.setCor { r.2.2.2 with free := r.2.2.2.free + 1,
                           cur := some ⟨j, serial, ref, live, ep, r.1, cycles, s0.headUncal head, gg⟩ }

/-! ### Choosing the next frame (R337 to R340, R343) -/

/-- A frame of job `j` no longer has an entry (R338, R339). -/
def State.frameGone (s : State) (j serial : Nat) : Bool :=
  match s.entry (s.corPart j) serial with | some e => e.freed || e.kind != 1 | none => true

/-- A lost frame (R338, R339). -/
def State.corLost (s : State) (j : Nat) : State := (s.count (rCorJLostFrames j)).raise 0x0BC 2

/-- A frame, or a pair, is live-due (R338). -/
def State.liveDue (s : State) (j serial ref : Nat) : State :=
  let q := s.corJob j
  let dec := max 1 (s.fld (rCorJCfg j) 8 8)
  let s1 := s.setCorJob j { q with cnt := q.cnt + 1 }
  if q.cnt % dec != 0 then s1
  else if 2 ≤ q.queue.length ∨ s.bit rCmpStat 0 = true then (s1.count (rCorJDeferred j)).raise 0x0BA 2
  else s1.setCorJob j { (s1.corJob j) with queue := q.queue ++ [(serial, ref)] }

/-- The epoch that a role of a pair needs (R343). -/
def State.pairRole (s : State) (j lo : Nat) (e : Entry) : Bool :=
  e.kind == 1 && s.eligible j e && e.epochApp == s.fld (rCorJPiv j) lo 8

/-- One entry of the ledger seen as part of a pair (R343): the frame A kept, a pair found, and whether a pair broke. -/
def State.pairStep (s : State) (j : Nat) (a : Option Nat) (e : Entry) : Option Nat × Option (Nat × Nat) × Bool :=
  let asA := if s.pairRole j 0 e then some e.serial else none
  match a with
  | none => (asA, none, false)
  | some x => if s.pairRole j 8 e then (none, some (e.serial, x), false) else (asA, none, true)

/-- The next entry of the job's stream at or after a serial that is not a MARKER. -/
def State.entryFrom (s : State) (j n : Nat) : Option Entry :=
  (s.part (s.corPart j)).entries.find? (fun e => e.kind != 3 && !e.freed && (e.serial == n || serialLater n e.serial))

/-- Live pairs: entries that are final are examined in order. -/
def State.livePairs (s : State) (j : Nat) : Nat → State
  | 0 => s
  | fuel + 1 =>
    let q := s.corJob j
    match q.pairNext.bind (s.entryFrom j) with
    | none => s
    | some e =>
      if !e.final then s
      else
        let r := s.pairStep j q.frameA e
        let s1 := s.setCorJob j { q with pairNext := some (serialNext e.serial), frameA := r.1 }
        let s2 := if r.2.2 then s1.count (rCorJPairBroken j) else s1
        let s3 := if e.kind = 1 ∧ s.eligible j e = false then s2.count (rCorJSkipped j) else s2
        State.livePairs (match r.2.1 with | some p => s3.liveDue j p.1 p.2 | none => s3) j fuel

/-- A live job looks at a frame that ING has closed (R337). -/
def State.liveFrame (s : State) (j p serial : Nat) : State :=
  if s.corState j != 2 || s.corPost j || s.partOf (s.corStream j) != some p || (s.corJob j).stop then s
  else
    match s.entry p serial with
    | none => s
    | some e =>
      let q := s.corJob j
      let s0 := if q.walking then s else (s.setPostNext j serial).setCorJob j { q with walking := true }
      if s.corPiv j then
        let q0 := s0.corJob j
        (s0.setCorJob j { q0 with pairNext := some (q0.pairNext.getD serial) }).livePairs j ((s.part p).entries.length + 1)
      else if !s.eligible j e then s0.count (rCorJSkipped j)
      else s0.liveDue j serial 0

/-- The next frame of the walk of job `j` (R339): the state after what it passes over, and the frame with its frame A. -/
def State.walk (s : State) (j : Nat) : Nat → State × Option (Nat × Nat)
  | 0 => (s, none)
  | fuel + 1 =>
    let q := s.corJob j
    let n := s.postNext j
    let p := s.corPart j
    let endS := s.serialReg (rCorJEndLo j) (rCorJEndHi j)
    let past := fun (m : Nat) => if s.corPost j then serialLater endS m else match q.newest with
      | some w => serialLater w m
      | none => true
    let lost := (s.part p).gone.filter (fun m => (m == n || serialLater n m) && !past m)
    match s.entryFrom j n with
    | none => (s, none)
    | some e =>
      let first := lost.filter (fun m => serialLater m e.serial)
      if past e.serial then (s, none)
      else if !first.isEmpty then
        let s1 := s.setPart p { s.part p with gone := (s.part p).gone.filter (fun m => !first.contains m) }
        State.walk (s1.forEach first (fun t _ => t.corLost j)) j fuel
      else if !e.written then (s, none)
      else
        let s1 := s.setPostNext j (serialNext e.serial)
        if s.corPiv j then
          let r := s.pairStep j q.walkA e
          let s2 := s1.setCorJob j { q with walkA := r.1 }
          let s3 := if r.2.2 then s2.count (rCorJPairBroken j) else s2
          match r.2.1 with
          | some pr => if (s.indexOf j e).isSome then State.walk s3 j fuel else (s3, some pr)
          | none => State.walk s3 j fuel
        else if e.kind != 1 then State.walk s1 j fuel
        else if !s.eligible j e then State.walk (s1.count (rCorJSkipped j)) j fuel
        else if (s.indexOf j e).isSome then State.walk s1 j fuel
        else (s1, some (e.serial, 0))

/-- The walk of a job has reached its end: nothing before it is left to come (R339). -/
def State.walkEnd (s : State) (j : Nat) : Bool :=
  let n := s.postNext j
  let lim := if s.corPost j then some (s.serialReg (rCorJEndLo j) (rCorJEndHi j)) else (s.corJob j).newest
  match lim with
  | none => true
  | some m => serialLater m n ||
      ((s.entryFrom j n).all (fun e => serialLater m e.serial) && (s.corPost j == false || serialLater m s.ing.serial))

/-- States of the jobs that no frame holds (R341). -/
def State.corSettle (s : State) : State :=
  s.forEach (List.range 4) fun t j =>
    let q := t.corJob j
    let busy := t.cor.cur.any (fun f => f.job == j)
    if busy then t
    else if t.corState j = 2 then
      if t.corPost j then (if q.stop || t.walkEnd j then t.corIdle j else t)
      else if q.stop && q.queue.isEmpty then
        (if t.corFill j then (t.setCorJob j { q with stop := false }).setFld (rCorJStat j) 28 4 3 else t.corIdle j)
      else t
    else if t.corState j = 3 then (if q.stop || t.walkEnd j then t.corIdle j else t)
    else t

/-- The live-queued frame of the lowest serial (R340). -/
def State.nextLive (s : State) : Option (Nat × Nat × Nat) :=
  (List.range 4).foldl (fun b j =>
    match (s.corJob j).queue with
    | [] => b
    | (n, r) :: _ => match b with
      | none => some (j, n, r)
      | some (k, m, q) => if serialLater n m then some (j, n, r) else some (k, m, q)) none

/-- The job walk of one ready job, when no earlier job gave a frame. -/
def walkJob (a : State × Option (Nat × Nat × Nat)) (j : Nat) : State × Option (Nat × Nat × Nat) :=
  match a.2 with
  | some _ => a
  | none =>
    let w := a.1.walk j ((a.1.part (a.1.corPart j)).entries.length + 2)
    (w.1, w.2.map (fun p => (j, p.1, p.2)))

/-- A job is ready to walk: tracking or post, room in its ring, no stop pending. -/
def State.corReady (s : State) (j : Nat) : Bool :=
  (s.corState j == 3 || (s.corState j == 2 && (s.corPost j || s.corFill j))) && !(s.ringFull j && !s.bit (rCorJResn j) 31) &&
    !(s.corJob j).stop

/-- The frame the walk found begins. -/
def walkFound (r : State × Option (Nat × Nat × Nat)) : State :=
  match r.2 with
  | some (j, n, ref) => r.1.beginFrame j n ref false
  | none => r.1

/-- The next frame is chosen when none is in progress (R340); CMP receives the cache first when it claims it. -/
def State.corNext (s : State) : Nat → State
  | 0 => s
  | fuel + 1 =>
    if s.cor.cur.isSome || !s.corUp then s
    else
      let held := s.bit rCmpStat 0
      if s.cor.claim && !held then (s.setBit rCmpStat 0 true).count rCorYields
      else if held then s
      else
        match s.nextLive with
        | some (j, n, r) =>
          let q := s.corJob j
          let s1 := s.setCorJob j { q with queue := q.queue.drop 1 }
          if s1.frameGone j n then State.corNext (s1.corLost j) fuel else s1.beginFrame j n r true
        | none => walkFound (((List.range 4).filter s.corReady).foldl walkJob (s, none))

/-- Job states, then the next frame, then the registers. -/
def State.corRun (s : State) : State := ((s.corSettle.corNext 8).corSettle).syncCor

/-- Frames that ING has closed reach the live jobs (R337). -/
def State.corIntake (s : State) : State :=
  if s.ing.fresh.isEmpty then s
  else
    let l := s.ing.fresh
    let s0 : State := { s with ing := { s.ing with fresh := [] } }
    if !s.corUp then s0
    else (s0.forEach l (fun t p => t.forEach (List.range 4) (fun u j => u.liveFrame j p.1 p.2))).corRun

/-- JOB_START. -/
def execJobStart (j : Fin 4) (s : State) : Host.Outcome State Fault Refusal :=
  if !s.reaches 9 then .next s else .next (s.jobStart j)

/-- JOB_STOP (R341). -/
def State.jobStop (s : State) (j : Nat) : State :=
  if !s.corUp then s
  else
    let st := s.corState j
    if st = 4 then (s.corIdle j).syncCor
    else if st = 0 then s
    else (s.setCorJob j { s.corJob j with stop := true }).corRun

/-- JOB_STOP. -/
def execJobStop (j : Fin 4) (s : State) : Host.Outcome State Fault Refusal :=
  if !s.reaches 9 then .next s else .next (s.jobStop j)

/-- PREPARATION_DONE (R326, R327, R341), behind the copy and the index on port 0. A PIV job prepares with each pair. -/
def State.prepDone (s : State) (j : Nat) : State :=
  if !s.corUp || s.corState j != 1 || s.bulkWaits 0 then s
  else
    let s1 := if s.corPiv j then s else s.forEach (s.corCtxs j) (fun t k => t.prepCtx j k (s.refSurf j 0))
    let s2 := s1.setFld (rCorJStat j) 28 4 2
    let s3 := if s.corPost j then
        (s2.setPostNext j (s.serialReg (rCorJStartLo j) (rCorJStartHi j))).setCorJob j { s2.corJob j with walking := true }
      else s2
    s3.corRun

/-- PREPARATION_DONE. -/
def execPreparationDone (j : Fin 4) (s : State) : Host.Outcome State Fault Refusal := .next (s.prepDone j)

/-! ### The end of a tracked frame (R334, R345 to R347) -/

/-- The 64 bytes of a result record. -/
def CorRec.bytes (r : CorRec) : List Byte :=
  (List.range 12).flatMap (fun i => leBytes 4 (r.p.getD i 0#32).toNat) ++ leBytes 4 r.zncc.toNat ++
  leBytes 2 r.sigmaU.toNat ++ leBytes 2 r.sigmaV.toNat ++ leBytes 1 r.status ++ leBytes 1 r.iter ++ leBytes 1 r.seed ++
  List.replicate 5 0#8

/-- A context after a tracked frame (R319, R334). -/
def State.updCtx (s : State) (j : Nat) (live : Bool) (c : Cor) (r : CorRec) : Cor :=
  let b := c.ctxBytes r.ctx
  let c1 := c.putCtx r.ctx 0x42 (leBytes 1 r.status ++ leBytes 1 r.iter ++ leBytes 4 r.zncc.toNat)
  if !live then c1
  else if r.status = 1 then
    (c1.putCtx r.ctx 0x10 ((List.range 12).flatMap (fun i => leBytes 4 (r.p.getD i 0#32).toNat))).putCtx r.ctx 0x40 [1#8, 0#8]
  else
    let n := min 255 (ctxAt b 0x41 1 + 1)
    let pv := if max 1 (s.fld (rCorJQual j) 16 8) ≤ n then 0#8 else b.getD 0x40 0#8
    c1.putCtx r.ctx 0x40 [pv, BitVec.ofNat 8 n]

/-- The header page (R346). -/
def State.corHeader (s : State) (f : CorFrame) (seq : Nat) : List Byte :=
  let j := f.job
  let conv := f.recs.countP (fun r => r.status == 1)
  let dis := f.recs.countP (fun r => r.status == 0)
  let kind := (if s.corPiv j then 3 else 1) + (if f.live then 0 else 1)
  let fl := f.unc.toNat + 2 * (s.corQuad j).toNat
  leBytes 4 0x52524F43 ++ leBytes 1 1 ++ leBytes 1 j ++ leBytes 1 (s.corStream j) ++ leBytes 1 kind ++ leBytes 6 f.serial ++
  leBytes 1 (s.corShape j) ++ leBytes 1 fl ++ leBytes 6 f.ref ++ leBytes 1 f.epoch ++ leBytes 1 0 ++ leBytes 4 (s.corBase j) ++
  leBytes 4 (s.corCount j) ++ leBytes 4 conv ++ leBytes 4 (f.recs.length - conv - dis) ++ leBytes 4 f.cycles ++ leBytes 4 seq ++
  List.replicate (4096 - 0x30) 0#8

/-- The result set of a frame is written: records, header, result index, then WRPTR (R345). -/
def State.writeSet (s : State) (f : CorFrame) : State :=
  let j := f.job
  let n := s.ringN j
  let w := s.fld (rCorJWrptr j) 0 16 % n
  let s0 := if s.ringFull j then (s.setFld (rCorJRdptr j) 0 16 ((s.fld (rCorJRdptr j) 0 16 + 1) % n)).count (rCorJOverwritten j) else s
  let q := s0.corJob j
  let a := s.regionAddr (rCorJRes j) + w * s.setLen j
  let s1 := s0.bulkWrite 0 (a + 4096) (f.recs.flatMap CorRec.bytes)
  let s2 := s1.bulkWrite 0 a (s1.corHeader f (q.seq + 1))
  let s3 := match s.entry (s.corPart j) f.serial with
    | some e => s2.bulkWrite 0 (s.regionAddr (rCorJWork j) + s.indexOff j + 8 * e.idx) (leBytes 6 f.serial ++ leBytes 2 w)
    | none => s2
  (s3.setFld (rCorJWrptr j) 0 16 ((w + 1) % n)).setCorJob j { q with
    seq := q.seq + 1, newest := if f.live then some f.serial else q.newest, tracked := true }

/-- TRACKED_FRAME_END (R340, R345 to R347). The engine waits while port 0 has bursts to pay for (R350). -/
def State.frameEnd (s : State) : State :=
  match s.cor.cur with
  | none => s
  | some f =>
    let j := f.job
    if s.corUp && s.bulkWaits 0 then s else
    let s0 := s.setCor { s.cor with cur := none }
    if !s.corUp then s0
    else if f.live && s.frameGone j f.serial then (s0.corLost j).corRun
    else if s.ringFull j && !s.bit (rCorJResn j) 31 then ((s0.count (rCorJResFull j)).raise 0x0BD 2).corRun
    else
      let s1 := s0.setCor (f.recs.foldl (fun c r => s0.updCtx j f.live c r) s0.cor)
      let s2 := (s1.writeSet f).count (if f.live then rCorJLive j else rCorJPosted j)
      let dis := f.recs.countP (fun r => r.status == 0)
      let failed := f.recs.countP (fun r => r.status != 0 && r.status != 1)
      let loss := (f.live || s.corPiv j) && decide (dis < f.recs.length) &&
        decide (s.fld (rCorJQual j) 24 8 * (f.recs.length - dis) ≤ failed * 256)
      (if loss then s2.raise 0x0BB 2 else s2).corRun

/-- TRACKED_FRAME_END. -/
def execTrackedFrameEnd (s : State) : Host.Outcome State Fault Refusal := .next s.frameEnd

/-- A live frame in progress whose entry has been freed is abandoned (R338). -/
def State.corAbandon (s : State) : State :=
  match s.cor.cur with
  | some f =>
    if f.live && s.corUp && s.frameGone f.job f.serial then ((s.setCor { s.cor with cur := none }).corLost f.job).corRun else s
  | none => s

/-! ### Virtual gauges (R348, R349) -/

/-- The value of a gauge on the records of a frame; none where it is invalid (R348). -/
def State.gaugeValue (s : State) (g : Nat) (recs : List CorRec) : Option Word :=
  let cfg := rCorGCfg g
  let fl := s.fld cfg 16 4
  let field := if 12 ≤ fl then 0 else fl
  let a := s.fld (rCorGCtx g) 0 16
  let b := s.fld (rCorGCtx g) 16 16
  let conv := fun k => recs.find? (fun r => r.ctx == k && r.status == 1)
  match s.fld cfg 28 2 with
  | 0 => (conv a).map (fun r => r.p.getD field 0#32)
  | 1 =>
    match conv a, conv b with
    | some ra, some rb =>
      let xy := fun k o => dint (ctxAt (s.cor.ctxBytes k) o 2 : Nat) 0
      let len := fun (dx dy : Dbl) => dsqrt (dadd (dmul dx dx) (dmul dy dy))
      let l0 := len (dsub (xy b 0) (xy a 0)) (dsub (xy b 2) (xy a 2))
      let d := fun o k => dsub (dsub (dadd (xy b o) (dofF (rb.p.getD k 0#32))) (xy a o)) (dofF (ra.p.getD k 0#32))
      some (dtoF (dsub (ddiv (len (d 0 0) (d 2 6)) l0) (dint 1 0)))
    | _, _ => none
  | _ =>
    let rs := recs.filter (fun r => decide (a ≤ r.ctx) && decide (r.ctx ≤ b) && r.status != 0)
    let ok := rs.filter (fun r => r.status == 1)
    if ok.isEmpty ∨ 2 * ok.length < rs.length then none
    else some (dtoF (ddivN (ok.foldl (fun x r => dadd x (dofF (r.p.getD field 0#32))) (false, 0, 0)) ok.length))

/-- GAUGE_EVALUATE (R349): a gauge of the live frame in progress, once on that frame. -/
def State.gaugeEval (s : State) (g : Nat) : State :=
  match s.cor.cur with
  | none => s
  | some f =>
    if !f.gauges.contains g || !s.corUp || !s.unitLive 9 3 then s
    else
      let s0 := s.setCor { s.cor with cur := some { f with gauges := f.gauges.filter (· != g) } }
      match s.gaugeValue g f.recs with
      | none => s0.setFld (rCorGStat g) 0 16 (min 0xFFFF (s.fld (rCorGStat g) 0 16 + 1))
      | some v =>
        let s1 := s0.wr (rCorGValue g) v
        let thr := s.rd (rCorGThr g)
        let hyst := s.rd (rCorGHyst g)
        let below := s.bit (rCorGCfg g) 27
        if s.bit (rCorGStat g) 31 then
          if (if below then flt v thr else flt thr v) then
            let s2 := (s1.setBit (rCorGStat g) 31 false).setBit (rCorGStat g) 30 true
            (s2.setLive (rCorGSerLo g) (BitVec.ofNat 64 f.serial)).raise (0x0B0 + s.fld (rCorGCfg g) 20 3) 3
          else s1
        else s1.setBit (rCorGStat g) 31 (if below then fle (fadd thr hyst) v else fle v (fsub thr hyst))

/-- GAUGE_EVALUATE. -/
def execGaugeEvaluate (g : Fin 64) (s : State) : Host.Outcome State Fault Refusal := .next (s.gaugeEval g)

/-! ### Interruptions (R342) -/

/-- Every job that is not IDLE goes to ERROR, the frame in progress is discarded: POWER or SWAPPED. -/
def State.corAbort (s : State) (err : Nat) : State :=
  ((s.setCor { s.cor with cur := none }).forEach (List.range 4) fun t j => if t.corState j = 0 then t else t.corError j err).syncCor

/-- Reset of unit 1 or 2: every job IDLE, every context without a seed. -/
def State.corReset (s : State) : State :=
  let c : Cor := { s.cor with cur := none, jobs := [], ctx := s.cor.ctx.filter (fun p => p.1 % 128 != 0x40) }
  ((s.setCor c).forEach (List.range 4) (fun t j => (t.setFld (rCorJStat j) 28 4 0).setFld (rCorJStat j) 16 2 0)).syncCor

end Sys2Proof.Machine
end

