-- ==== Sys2Proof/Machine/Compress.lean ====
section
/-! DEFINITION. Lossless compression (13): the coded frame, prediction and Rice coding, the job queue, stopping and resuming,
destrip jobs and the tile cache. -/

namespace Sys2Proof.Machine

open Sys2Proof

/-! ### Prediction and coding (R359 to R361) -/

/-- The neighbours a, b, c, d of pixel `x` of a line of width `w`: `up` is the line `s` above, `rev` the pixels of the line
already known, the latest first (R359). -/
def cmpNbrs (bits s w x : Nat) (up : Option (List Nat)) (rev : List Nat) : Nat × Nat × Nat × Nat :=
  let half := 2 ^ (bits - 1)
  match up with
  | none =>
    if x < s then (half, half, half, half)
    else
      let a := rev.getD (s - 1) 0
      (a, a, a, a)
  | some u =>
    let b := u.getD x 0
    (if s ≤ x then rev.getD (s - 1) 0 else b, b, if s ≤ x then u.getD (x - s) 0 else b, if x + s < w then u.getD (x + s) 0 else b)

/-- The predictor (R359). -/
def cmpPred (n : Nat × Nat × Nat × Nat) : Nat :=
  let a := n.1; let b := n.2.1; let c := n.2.2.1
  if max a b ≤ c then min a b else if c ≤ min a b then max a b else a + b - c

/-- The distance of two numbers. -/
def dist (a b : Nat) : Nat := if a ≤ b then b - a else a - b

/-- The context (R360). -/
def cmpCtx (bits : Nat) (cfa : Bool) (x y : Nat) (n : Nat × Nat × Nat × Nat) : Nat :=
  let a := n.1; let b := n.2.1; let c := n.2.2.1; let d := n.2.2.2
  let ph := if cfa then 2 * (y % 2) + x % 2 else 0
  8 * ph + min 7 (bitLen ((dist d b + dist b c + dist c a) / 2 ^ (bits - 8)))

/-- The Rice parameter of a context (R361). -/
def riceK (bits a n : Nat) : Nat → Nat → Nat
  | 0, k => k
  | fuel + 1, k => if n * 2 ^ k < a ∧ k < bits then riceK bits a n fuel (k + 1) else k

/-- A context after a pixel of mapped error `m` (R361). -/
def ctxNext (a n m : Nat) : Nat × Nat :=
  let a1 := a + m
  let n1 := n + 1
  if n1 = 64 then (a1 / 2, n1 / 2) else (a1, n1)

/-- The 32 contexts at the start of a frame (R361). -/
def ctxReset (bits : Nat) : List (Nat × Nat) := List.replicate 32 (max 2 ((2 ^ bits + 32) / 64), 1)

/-- The `w` low bits of `m`, highest first. -/
def bitsHigh (w m : Nat) : List Bool := (List.range w).map (fun i => m.testBit (w - 1 - i))

/-- The mapped error of a pixel (R361). -/
def mapErr (bits raw pred : Nat) : Nat :=
  let e := (raw + 2 ^ bits - pred) % 2 ^ bits
  if 2 ^ (bits - 1) ≤ e then 2 * (2 ^ bits - e) - 1 else 2 * e

/-- The pixel of a mapped error. -/
def unmapErr (bits m pred : Nat) : Nat :=
  if m % 2 = 0 then (pred + m / 2) % 2 ^ bits else (pred + 2 ^ bits - (m + 1) / 2) % 2 ^ bits

/-- The bits of a mapped error (R361). -/
def riceBits (bits k m : Nat) : List Bool :=
  let q := m / 2 ^ k
  if q < 32 then List.replicate q false ++ true :: bitsHigh k m else List.replicate 32 false ++ bitsHigh bits m

/-- One line coded: its bits (newest group last) and the contexts; `x` counts the pixels. -/
def encLine (bits : Nat) (cfa : Bool) (w y : Nat) (up : Option (List Nat)) :
    List Nat → Nat → List Nat → List (Nat × Nat) → List (List Bool) → List (List Bool) × List (Nat × Nat)
  | [], _, _, cx, out => (out, cx)
  | p :: ps, x, rev, cx, out =>
    let n := cmpNbrs bits (if cfa then 2 else 1) w x up rev
    let c := cmpCtx bits cfa x y n
    let an := cx.getD c (2, 1)
    let m := mapErr bits p (cmpPred n)
    let k := riceK bits an.1 an.2 (bits + 1) 0
    encLine bits cfa w y up ps (x + 1) (p :: rev) (setAt cx c (ctxNext an.1 an.2 m)) (riceBits bits k m :: out)

/-- Lines coded from line `y0`; `prev` holds the lines above, the nearest first. -/
def encLines (bits : Nat) (cfa : Bool) (w : Nat) :
    List (List Nat) → Nat → List (List Nat) → List (Nat × Nat) → List (List Bool) → List (List Bool) × List (Nat × Nat)
  | [], _, _, cx, out => (out, cx)
  | l :: ls, y, prev, cx, out =>
    let s := if cfa then 2 else 1
    let r := encLine bits cfa w y (prev[s - 1]?) l 0 [] cx out
    encLines bits cfa w ls (y + 1) (l :: prev) r.2 r.1

/-- A bit string as bytes, the first bit highest, padded with 0 bits and bytes to a multiple of 4 (R358). -/
def packBits (l : List Bool) : List Byte :=
  let n := roundUp l.length 32 / 8
  (List.range n).map (fun i => BitVec.ofNat 8 (bitsMsb ((List.range 8).map (fun k => l.getD (8 * i + k) false))))

/-- The raw payload of lines (R358). -/
def rawPayload (bits w : Nat) (ls : List (List Nat)) : List Byte :=
  leBytes (ls.length * w * bits / 8) (ls.flatten.foldr (fun p n => p % 2 ^ bits + 2 ^ bits * n) 0)

/-- A block: header and payload in the shorter form (R358, R362), and the contexts after it. -/
def encBlock (bits : Nat) (cfa : Bool) (w y0 : Nat) (prev ls : List (List Nat)) (cx : List (Nat × Nat)) :
    List Byte × List (Nat × Nat) :=
  let r := encLines bits cfa w ls y0 prev cx []
  let coded := packBits r.1.reverse.flatten
  let raw := rawPayload bits w ls
  let useRaw := decide (raw.length ≤ coded.length)
  let p := if useRaw then raw else coded
  (leBytes 4 (useRaw.toNat * 2 ^ 31 + p.length / 4 * 256 + crc8 p) ++ p, r.2)

/-- A block of zeros in RAW form, for a frame whose entry was freed (R368). -/
def zeroBlock (bits w n : Nat) : List Byte :=
  let p := List.replicate (n * w * bits / 8) 0#8
  leBytes 4 (2 ^ 31 + p.length / 4 * 256 + crc8 p) ++ p

/-! ### Decoding (R361, R363) -/

/-- Take `n` bits as a number, the first highest; none where they run out. -/
def takeBits (n : Nat) (l : List Bool) : Option (Nat × List Bool) :=
  if l.length < n then none else some (bitsMsb (l.take n), l.drop n)

/-- One mapped error from the bit string. -/
def riceTake (bits k : Nat) (l : List Bool) : Option (Nat × List Bool) :=
  let z := (l.takeWhile (· == false)).length
  if 32 ≤ z then takeBits bits (l.drop 32)
  else
    match l.drop z with
    | [] => none
    | _ :: rest => (takeBits k rest).map (fun r => (z * 2 ^ k + r.1, r.2))

/-- One line decoded: pixels still to come, pixels known (latest first), bits, contexts. -/
def decLine (bits : Nat) (cfa : Bool) (w y : Nat) (up : Option (List Nat)) :
    Nat → List Nat → List Bool → List (Nat × Nat) → Option (List Nat × List Bool × List (Nat × Nat))
  | 0, rev, l, cx => some (rev.reverse, l, cx)
  | left + 1, rev, l, cx =>
    let x := w - (left + 1)
    let n := cmpNbrs bits (if cfa then 2 else 1) w x up rev
    let c := cmpCtx bits cfa x y n
    let an := cx.getD c (2, 1)
    match riceTake bits (riceK bits an.1 an.2 (bits + 1) 0) l with
    | none => none
    | some (m, rest) =>
      decLine bits cfa w y up left (unmapErr bits m (cmpPred n) :: rev) rest (setAt cx c (ctxNext an.1 an.2 m))

/-- Lines decoded from line `y`: their pixels, the rest of the bits, the contexts. -/
def decLines (bits : Nat) (cfa : Bool) (w : Nat) :
    Nat → Nat → List (List Nat) → List (List Nat) → List Bool → List (Nat × Nat) →
      Option (List (List Nat) × List Bool × List (Nat × Nat))
  | 0, _, _, out, l, cx => some (out.reverse, l, cx)
  | n + 1, y, prev, out, l, cx =>
    match decLine bits cfa w y (prev[(if cfa then 2 else 1) - 1]?) w [] l cx with
    | none => none
    | some (row, rest, cx1) => decLines bits cfa w n (y + 1) (row :: prev) (row :: out) rest cx1

/-- The bits of bytes, each byte's bit 7 first. -/
def bytesBits (b : List Byte) : List Bool := b.flatMap (fun x => bitsHigh 8 x.toNat)

/-- The pixels of `n` lines in a raw payload. -/
def rawLines (bits w n : Nat) (p : List Byte) : List (List Nat) :=
  let v := leNat p
  (List.range n).map (fun y => (List.range w).map (fun x => v / 2 ^ (bits * (y * w + x)) % 2 ^ bits))

/-- A block decoded (R358, R363): none for a fault. -/
def decBlock (bits : Nat) (cfa : Bool) (w y0 n : Nat) (prev : List (List Nat)) (cx : List (Nat × Nat)) (hdr : Nat)
    (p : List Byte) : Option (List (List Nat) × List (Nat × Nat)) :=
  if crc8 p != hdr % 256 then none
  else if hdr.testBit 31 then
    if p.length * 8 != n * w * bits then none
    else
      let ls := rawLines bits w n p
      some (ls, (encLines bits cfa w ls y0 prev cx []).2)
  else
    match decLines bits cfa w n y0 prev [] (bytesBits p) cx with
    | none => none
    | some (ls, rest, cx1) => if rest.any id then none else some (ls, cx1)

/-! ### Frames in memory (R355 to R357) -/

/-- Line pitch of a slot, the offset of its metadata, its length, its blocks. -/
def CmpGeom.pitch (g : CmpGeom) : Nat := if g.layout = 0 then roundUp (g.w * g.b / 8) 64 else roundUp (2 * g.w) 64
def CmpGeom.metaOff (g : CmpGeom) : Nat := roundUp (g.pitch * g.h) 4096
def CmpGeom.slotLen (g : CmpGeom) : Nat := g.metaOff + g.metaLen
def CmpGeom.blocks (g : CmpGeom) : Nat := ceilDiv g.h 32

/-- Lines of block `k`. -/
def CmpGeom.lines (g : CmpGeom) (k : Nat) : Nat := min 32 (g.h - 32 * k)

/-- The pixels of a line as it stands in a slot. -/
def CmpGeom.unpack (g : CmpGeom) (line : List Byte) : List Nat :=
  (List.range g.w).map fun x =>
    if g.layout = 0 then leNat (slice line (g.b * x / 8) 4) / 2 ^ (g.b * x % 8) % 2 ^ g.b
    else leAt line (2 * x) 2 % 2 ^ g.b

/-- A line of a slot, padded to the pitch. -/
def CmpGeom.pack (g : CmpGeom) (px : List Nat) : List Byte :=
  let d := if g.layout = 0 then rawPayload g.b g.w [px] else px.flatMap (fun p => leBytes 2 p)
  d ++ List.replicate (g.pitch - d.length) 0#8

/-- Lines `y` to `y + n - 1` of a slot whose bytes `rd` reads, by offset and length. -/
def slotLines (rd : Nat → Nat → List Byte) (g : CmpGeom) (y n : Nat) : List (List Nat) :=
  (List.range n).map (fun k => g.unpack (rd ((y + k) * g.pitch) g.pitch))

/-- The two lines above line `y`, the nearest first. -/
def linesAbove (rd : Nat → Nat → List Byte) (g : CmpGeom) (y : Nat) : List (List Nat) :=
  (slotLines rd g (y - 2) (min y 2)).reverse

/-- A slot at `a` in recording memory. -/
def State.slotAtMem (s : State) (a o n : Nat) : List Byte := s.peek (a + o) n

/-- Whether the tile cache holds the slot of a serial whole (R372). -/
def State.cached (s : State) (serial : Nat) : Bool := s.cmp.cache.any (fun c => c.1 == serial)

/-- The slot of a job's frame: from the tile cache where it is held there whole, otherwise from memory (R372). -/
def State.slotSrc (s : State) (serial a o n : Nat) : List Byte :=
  match s.cmp.cache.find? (fun c => c.1 == serial) with
  | some c => slice c.2 o n
  | none => s.peek (a + o) n

/-- The frame header (R356). -/
def CmpGeom.header (g : CmpGeom) (serial : Nat) : List Byte :=
  let b := leBytes 4 0x46524352 ++ leBytes 1 1 ++ leBytes 1 g.b ++ leBytes 1 g.cfa.toNat ++ leBytes 1 g.layout ++ leBytes 2 g.w ++
    leBytes 2 g.h ++ leBytes 2 g.blocks ++ leBytes 1 g.stream ++ leBytes 1 0 ++ leBytes 6 serial ++ leBytes 2 0 ++
    leBytes 4 g.slotLen ++ leBytes 4 g.metaLen ++ leBytes 4 g.flags ++ List.replicate 24 0#8
  b ++ leBytes 4 (crc32c b)

/-- A frame header read and checked (R363). -/
def readHeader (b : List Byte) : Option (CmpGeom × Nat) :=
  let g : CmpGeom := ⟨leAt b 8 2, leAt b 10 2, leAt b 5 1, leAt b 6 1 == 1, leAt b 7 1, leAt b 0x1C 4, leAt b 0x20 4, leAt b 14 1, 0⟩
  let ok := leAt b 0 4 == 0x46524352 && leAt b 4 1 == 1 && leAt b 0x3C 4 == crc32c (b.take 0x3C) &&
    (g.b == 10 || g.b == 12 || g.b == 14 || g.b == 16) && decide (leAt b 6 1 ≤ 1) && decide (g.layout ≤ 1) &&
    g.w % 16 == 0 && decide (64 ≤ g.w) && decide (g.w ≤ 16384) && decide (8 ≤ g.h) && decide (g.h ≤ 16384) &&
    (g.metaLen == 0 || g.metaLen == 4096 || g.metaLen == 8192) && leAt b 12 2 == g.blocks && leAt b 0x18 4 == g.slotLen
  if ok then some (g, leAt b 0x10 6) else none

/-! ### Descriptors and the queue (R364 to R367) -/

/-- An idle engine. -/
def CmpEng.init : CmpEng :=
  ⟨false, 0, none, [], ⟨0, 0, 0, false, 0, 0, 0, 0, 0⟩, 0, 0, 0, 0, 0, 0, 0, 0, 0, 0, false, 0, false, none, false⟩

/-- Engine `e`. -/
def State.cmpEng (s : State) (e : Nat) : CmpEng := Map.get (fun _ => CmpEng.init) s.cmp.eng e

/-- The ring: entries, address of a descriptor, its bytes. -/
def State.cmpSize (s : State) : Nat := let n := s.fld rCmpQcfg 0 4; if 4 ≤ n ∧ n ≤ 12 then 2 ^ n else 4096
def State.cmpAddr (s : State) (k : Nat) : Nat := s.regionAddr rCmpQbase + 64 * k
def State.cmpDesc (s : State) (k : Nat) : List Byte := s.peek (s.cmpAddr k) 64

/-- Ring indices from HEAD to TAIL, in submission order. -/
def State.cmpQueue (s : State) : List Nat :=
  let h := s.fld rCmpQhead 0 12
  let n := s.cmpSize
  (List.range ((s.fld rCmpQtail 0 12 + n - h % n) % n)).map (fun i => (h + i) % n)

/-- STATUS of a descriptor, and whether it is final (R366). -/
def State.cmpStatus (s : State) (k : Nat) : Nat := leAt (s.cmpDesc k) 0x3C 1
def cmpFinal (st : Nat) : Bool := !(st == 0 || st == 1 || st == 4)

/-- Put an engine, with its registers (R374, R375). `wait` is WAITING. -/
def State.setCmpEng (s : State) (e : Nat) (v : CmpEng) (wait : Bool) : State :=
  let s1 : State := { s with cmp := { s.cmp with eng := Map.set (fun _ => CmpEng.init) s.cmp.eng e v } }
  let s2 := s1.setBit rCmpStat (8 + e) v.busy
  let prio := leAt (s.cmpDesc v.slot) 2 1 % 8
  let s3 := if v.busy then
      ((s2.setFld (rCmpEStat e) 28 4 (if wait then 2 else 1)).setFld (rCmpEStat e) 24 3 prio).setFld (rCmpEStat e) 0 12 v.slot
    else s2.setFld (rCmpEStat e) 28 4 0
  s3.setLive (rCmpESerLo e) (BitVec.ofNat 64 v.serial)

/-- A SNOOP job waits or runs (R372). -/
def State.snooping (s : State) : List Nat :=
  s.cmpQueue.filter fun k =>
    let d := s.cmpDesc k
    leAt d 0 1 == 1 && (d.getD 1 0#8).getLsbD 1 && (d.getD 1 0#8).getLsbD 2 && !cmpFinal (leAt d 0x3C 1)

/-- The claim on the tile cache follows the SNOOP jobs; COR chooses anew (R92, R340, R372). -/
def State.syncSnoop (s : State) : State :=
  let want := s.corUp && !s.snooping.isEmpty
  let s1 := s.setCor { s.cor with claim := want }
  let s2 := if want then s1 else s1.setBit rCmpStat 0 false
  let s3 := s2.corRun
  if s3.bit rCmpStat 0 && !s.bit rCmpStat 0 then { s3 with cmp := { s3.cmp with cache := [], cacheFrom := s.ing.serial } }
  else s3

/-- QHEAD passes final descriptors; QUEUE_EMPTY where it reaches QTAIL (R364, R376). -/
def State.cmpHead (s : State) : Nat → State
  | 0 => s
  | fuel + 1 =>
    match s.cmpQueue with
    | [] => s
    | k :: rest =>
      if cmpFinal (s.cmpStatus k) then
        let s1 := s.setFld rCmpQhead 0 12 ((k + 1) % s.cmpSize)
        if rest.isEmpty then s1.raise 0x0D5 1 else s1.cmpHead fuel
      else s

/-- Engines that run a job. -/
def State.cmpRunning (s : State) : List Nat := (List.range 8).filter (fun e => (s.cmpEng e).busy)

/-- Jobs that wait: QUEUED or PREEMPTED, in submission order. -/
def State.cmpWaiting (s : State) : List Nat :=
  s.cmpQueue.filter fun k => let st := s.cmpStatus k; st == 0 || st == 4

/-- PRIO of a descriptor. -/
def State.cmpPrio (s : State) (k : Nat) : Nat := leAt (s.cmpDesc k) 2 1 % 8

/-- The job that a free engine selects: the highest PRIO, the earliest among equals (R367). -/
def State.cmpSelect (s : State) : Option Nat :=
  s.cmpWaiting.foldl (fun b k => match b with
    | none => some k
    | some j => if s.cmpPrio j < s.cmpPrio k then some k else some j) none

/-- An engine's job is the one a waiting job of higher PRIO preempts (R369). -/
def State.cmpPreempted (s : State) (e : Nat) : Bool :=
  let run := s.cmpRunning
  let order := fun (k : Nat) => (s.cmpQueue.findIdx? (· == k)).getD 0
  let mine := s.cmpEng e
  let free := (List.range 8).any (fun x => !(s.cmpEng x).busy && s.unitLive 11 (2 + x))
  s.bit rCmpQcfg 31 && !free &&
    (match s.cmpSelect with | some k => decide (s.cmpPrio mine.slot < s.cmpPrio k) | none => false) &&
    run.all (fun x => x == e || decide (s.cmpPrio mine.slot < s.cmpPrio (s.cmpEng x).slot) ||
      (s.cmpPrio mine.slot == s.cmpPrio (s.cmpEng x).slot && decide (order (s.cmpEng x).slot < order mine.slot)))

/-! ### Stopping (R366, R369, R370) -/

/-- The state record of an engine's job. -/
def CmpEng.record (v : CmpEng) (op reason : Nat) : List Byte :=
  let head := leBytes 4 0x54534D43 ++ leBytes 1 1 ++ leBytes 1 op ++ leBytes 1 v.geom.cfa.toNat ++ leBytes 1 reason ++
    leBytes 6 (if v.pos.isSome then v.serial else v.next) ++ leBytes 2 0 ++ leBytes 4 v.frames ++
    leBytes 4 (v.pos.getD 0xFFFFFFFF) ++ leBytes 8 v.inTotal ++ leBytes 8 v.outTotal ++ leBytes 8 v.inNext ++
    leBytes 8 v.outNext ++ leBytes 4 v.inFrame
  let cx := (List.range 32).flatMap (fun i => let c := v.ctx.getD i (0, 0); leBytes 4 c.1 ++ leBytes 2 c.2)
  head ++ leBytes 4 (crc32c (head ++ cx)) ++ cx

/-- Write STATUS and the other written fields of a descriptor. -/
def State.cmpPut (s : State) (k : Nat) (v : CmpEng) (st detail : Nat) : State :=
  s.bulkWrite 1 (s.cmpAddr k + 0x30)
    (leBytes 4 v.inFrame ++ leBytes 4 v.outFrame ++ leBytes 4 v.frames ++ leBytes 1 st ++ leBytes 1 detail)

/-- The event of a status (R376). -/
def cmpEvent (st : Nat) : Option Nat :=
  if st = 2 ∨ st = 6 ∨ st = 0xD then some 0x0D0 else if st = 3 ∨ st = 8 ∨ st = 5 then some 0x0D1
  else if st = 4 then none else some 0x0D2

/-- A job leaves its engine with a status; `reason` of a state record, 0 where none is written. -/
def State.cmpStop (s : State) (e : Nat) (v : CmpEng) (st detail reason : Nat) : State :=
  let d := s.cmpDesc v.slot
  let s1 := if reason = 0 then s else s.bulkWrite 1 (leAt d 0x28 8) (v.record (leAt d 0 1) reason)
  let s2 := s1.cmpPut v.slot v st detail
  let s3 := s2.setCmpEng e { v with busy := false } false
  let s4 := if st = 3 then s3.count rCmpOutFull else if st = 4 then s3.count rCmpPreemptions
    else if st = 2 ∨ st = 6 ∨ st = 0xD then s3.count rCmpJobsDone else s3
  let s5 := match cmpEvent st with | some x => s4.raise x 1 | none => s4
  (s5.cmpHead s5.cmpQueue.length).syncSnoop

/-- Engines whose job has a cause to stop show STOPPING until its block boundary; a waiting job is preempted at once (R368,
R369, R375). -/
def State.cmpUrge (s : State) : State :=
  s.forEach s.cmpRunning fun t e =>
    if t.fld (rCmpEStat e) 28 4 = 2 ∧ t.cmpPreempted e = true then t.cmpStop e (t.cmpEng e) 4 0 2
    else if t.pwr.loss != 0 || t.cmpPreempted e then t.setFld (rCmpEStat e) 28 4 3
    else t

/-- QTAIL_WRITE (R364). -/
def State.qtailWrite (s : State) (v : Word) : State :=
  if !s.unitLive 11 1 then s
  else
    let n := s.cmpSize
    let t := s.fld rCmpQtail 0 12 % n
    let new := fget v 0 12 % n
    if n ≤ s.cmpQueue.length + (new + n - t) % n then s.violation rCmpQtail
    else ((s.setFld rCmpQtail 0 12 new).syncSnoop).cmpUrge

/-- QTAIL_WRITE. -/
def execQtailWrite (v : Word) (s : State) : Host.Outcome State Fault Refusal :=
  if !s.reaches 11 then .next s else .next (s.qtailWrite v)

/-- The status of a job that has ended (R363, R366, R371). -/
def State.cmpDone (s : State) (e : Nat) (v : CmpEng) : State :=
  if v.damaged != 0 then s.cmpStop e v 6 (min 255 v.damaged) 0
  else match v.strip with
    | some k => s.cmpStop e v 0xD (min 255 k) 0
    | none => s.cmpStop e v 2 0 0

/-! ### Selecting a job -/

/-- Bytes at a module address lie in memory that is present. -/
def State.memPresent (s : State) (a n : Nat) : Bool := (s.mapAddr a).isSome && (s.mapAddr (a + n - 1)).isSome

/-- A LEDGER source. -/
def descLedger (d : List Byte) : Bool := (d.getD 1 0#8).getLsbD 1

/-- The geometry of a buffer source (R365). -/
def descGeom (d : List Byte) : CmpGeom :=
  let g := BitVec.ofNat 32 (leAt d 0x1C 4)
  ⟨fget g 0 11 * 16, fget g 16 15, 10 + 2 * fget g 12 2, g.getLsbD 31, fget g 14 2, 0, 0, 0xFF, leAt d 8 8⟩

/-- BAD_DESC (R366). -/
def State.descBad (s : State) (d : List Byte) : Bool :=
  let op := leAt d 0 1
  let g := descGeom d
  let led := descLedger d
  let geomBad := !led && op != 2 && (decide (g.w < 64) || decide (16384 < g.w) || decide (g.h < 8) || decide (16384 < g.h) ||
    decide (1 < g.layout) || (op == 3 && (g.b != 12 || g.w % 256 != 0 || g.h % 16 != 0)))
  let srcLen := if led then 0 else if op = 2 then leAt d 0x1C 4 else if op = 3 then g.h / 16 * (32 + 24 * g.w) else g.slotLen
  decide (op = 0) || decide (3 < op) || decide (8 ≤ leAt d 1 1) || decide (8 ≤ leAt d 2 1) || (op == 2 && led) || geomBad ||
    leAt d 0x28 8 % 256 != 0 || !s.memPresent (leAt d 0x28 8) 256 || leAt d 0x10 8 % 4 != 0 ||
    (leAt d 0x18 4 != 0 && !s.memPresent (leAt d 0x10 8) (leAt d 0x18 4)) ||
    (!led && srcLen != 0 && !s.memPresent (leAt d 8 8) srcLen)

/-- An engine with a new job. -/
def startEng (k : Nat) (d : List Byte) : CmpEng :=
  let led := descLedger d
  { CmpEng.init with
    busy := true, slot := k, next := if led then leAt d 8 6 else leAt d 0x20 6, inNext := if led then 0 else leAt d 8 8,
    outNext := leAt d 0x10 8, geom := descGeom d }

/-- An engine that continues the job of a state record (R370): none for BAD_STATE. `own` marks the module's own resume. -/
def State.resumeEng (s : State) (k : Nat) (d : List Byte) (own : Bool) : Option CmpEng :=
  let r := s.peek (leAt d 0x28 8) 256
  let op := leAt d 0 1
  let reason := leAt r 7 1
  let crc := crc32c (r.take 0x3C ++ r.drop 0x40)
  let nb := leAt r 0x14 4
  let pos := if nb = 0xFFFFFFFF then none else some nb
  let out := leAt r 0x30 8
  let dst := leAt d 0x10 8
  let inside := decide (dst ≤ out) && decide (out < dst + leAt d 0x18 4)
  let bad := leAt r 0 4 != 0x54534D43 || leAt r 4 1 != 1 || leAt r 5 1 != op || leAt r 0x3C 4 != crc ||
    (!own && (reason == 2 || reason == 4)) || (op == 2 && pos.isSome && !inside)
  if bad then none
  else
    let src := leAt d 8 8
    let inN := leAt r 0x28 8
    let moved := reason == 5 && !(decide (src ≤ inN) && decide (inN < src + leAt d 0x1C 4))
    let e0 := startEng k d
    let hdrAt := inN - leAt r 0x38 4
    let geom := if op = 2 then (match readHeader (s.peek hdrAt 64) with | some (g, _) => g | none => e0.geom) else e0.geom
    let outF := match op, pos with
      | 2, some n => min (geom.h) (32 * n) * geom.pitch
      | 1, some _ => if own then leAt d 0x34 4 else 0
      | _, _ => 0
    some { e0 with
      pos := pos, serial := leAt r 8 6, next := leAt r 8 6, frames := leAt r 0x10 4, seen := leAt r 0x10 4,
      inTotal := leAt r 0x18 8, outTotal := leAt r 0x20 8, inNext := if moved then src else inN,
      outNext := if inside then out else dst, inFrame := leAt r 0x38 4, outFrame := outF, geom := geom,
      ctx := (List.range 32).map (fun i => (leAt r (0x40 + 6 * i) 4, leAt r (0x44 + 6 * i) 2)) }

/-- Geometry of a ledger entry's frame as CMP reads it (R368). -/
def State.entryGeom (s : State) (e : Entry) : CmpGeom :=
  let i := e.stream
  let cfa := (if i < 32 then s.rd rCmpCfaLo else s.rd rCmpCfaHi).getLsbD (i % 32)
  ⟨s.strW i, s.strH i, s.strBits i, cfa, if s.strLayout i = 3 then 1 else s.strLayout i % 2, s.strMeta i, e.flags.toNat, i, e.addr⟩

/-- The engine of a job that begins, goes on where its head stopped, or is continued; none where its state record is bad. -/
def State.cmpBegin (s : State) (k : Nat) (d : List Byte) (own isRes : Bool) : Option CmpEng :=
  if isRes || own then s.resumeEng k d own else some (startEng k d)

/-- The output of a DESTRIP job within the frame in progress, when it is continued (R371). -/
def CmpEng.stripOut (v : CmpEng) (op : Nat) : CmpEng :=
  match op, v.pos with
  | 3, some n => { v with outFrame := min v.geom.h (32 * n) * (3 * v.geom.w / 2) }
  | _, _ => v

/-- A job continued in ledger mode takes the geometry of the entry it stands at; the frame is lost where the entry is gone. -/
def State.cmpGeomNow (s : State) (d : List Byte) (v : CmpEng) : CmpEng :=
  (match descLedger d, v.pos with
  | true, some _ =>
    match (s.partOf (leAt d 3 1 % 64)).bind (fun p => s.entry p v.serial) with
    | some x => { v with geom := s.entryGeom x, lost := x.freed }
    | none => { v with lost := true }
  | _, _ => v).stripOut (leAt d 0 1)

/-- Engine `e` runs the job of slot `k`, or the job ends with its status: a strip source (0xB), a bad state record (0xA). -/
def State.cmpRunJob (s : State) (e k : Nat) (d : List Byte) (own isRes : Bool) : State :=
  if descLedger d && leAt d 0 1 == 1 && s.strLayout (leAt d 3 1 % 64) == 2 then s.cmpStop e (startEng k d) 0xB 0 0
  else
    match s.cmpBegin k d own isRes with
    | none => s.cmpStop e (startEng k d) 0xA 0 0
    | some v => ((s.cmpPut k (s.cmpGeomNow d v) 1 0).setCmpEng e (s.cmpGeomNow d v) false).syncSnoop

/-- The job selected at slot `k`: a bad descriptor ends with status 9; a job of another kind than `op` and `res` stays. -/
def State.cmpJob (s : State) (e k op : Nat) (res : Bool) (d : List Byte) : State :=
  let own := leAt d 0x3C 1 == 4
  let isRes := (d.getD 1 0#8).getLsbD 0 && !own
  if s.descBad d then s.cmpStop e (startEng k d) 9 0 0
  else if isRes != res || (!res && leAt d 0 1 != op) then s
  else s.cmpRunJob e k d own isRes

/-- Select a job on an engine where the job that is next has OP `op`; `res` marks RESUME descriptors. A bad descriptor
ends at once whatever its OP. -/
def State.cmpTake (s : State) (e op : Nat) (res : Bool) : State :=
  if !s.unitLive 11 1 || !s.unitLive 11 (2 + e) || (s.cmpEng e).busy || !s.bit rCmpQcfg 31 || s.pwr.loss != 0 || s.pxStopped then s
  else
    match s.cmpSelect with
    | none => s
    | some k => s.cmpJob e k op res (s.cmpDesc k)

/-- COMPRESS: an engine selects a COMPRESS job. -/
def execCompress (eng : Fin 8) (s : State) : Host.Outcome State Fault Refusal := .next (s.cmpTake eng 1 false)

/-- DECOMPRESS: an engine selects a DECOMPRESS job. -/
def execDecompress (eng : Fin 8) (s : State) : Host.Outcome State Fault Refusal := .next (s.cmpTake eng 2 false)

/-- DESTRIP: an engine selects a DESTRIP job. -/
def execDestrip (eng : Fin 8) (s : State) : Host.Outcome State Fault Refusal := .next (s.cmpTake eng 3 false)

/-- JOB_RESUME: an engine selects a RESUME descriptor (R370). -/
def execJobResume (eng : Fin 8) (s : State) : Host.Outcome State Fault Refusal := .next (s.cmpTake eng 0 true)

/-! ### Block boundaries (R368, R369) -/

/-- What an engine did at a boundary: it wrote a unit, waits, has finished the job, or stops. -/
inductive CmpMove where
  | wrote (v : CmpEng)
  | waits (v : CmpEng)
  | done (v : CmpEng)
  | stop (v : CmpEng) (status reason : Nat)
  deriving DecidableEq, Repr

/-- Output bytes left for a job. -/
def CmpEng.left (v : CmpEng) (d : List Byte) : Nat := leAt d 0x10 8 + leAt d 0x18 4 - v.outNext

/-- A frame of a job is complete. -/
def CmpEng.frameDone (v : CmpEng) : CmpEng :=
  { v with pos := none, frames := v.frames + 1, inFrame := 0, outFrame := 0, next := serialNext v.serial, lost := false,
           dmgNow := false, stripNow := false }

/-- The next FRAME entry that a LEDGER job visits: lost frames are counted, CORRECTED ones skipped. The answer is the entry
to code, or none where the job waits; `seen` counts. -/
def State.cmpVisit (s : State) (d : List Byte) (v : CmpEng) : Nat → State × CmpEng × Option Entry
  | 0 => (s, v, none)
  | fuel + 1 =>
    let count := max 1 (leAt d 4 4)
    match s.partOf (leAt d 3 1 % 64) with
    | none => (s, v, none)
    | some p =>
      if count ≤ v.seen then (s, v, none)
      else
        let from_ := fun n => n == v.next || serialLater v.next n
        let ent := (s.part p).entries.find? (fun e => (e.kind == 0 || e.kind == 1) && !e.freed && from_ e.serial)
        let gone := (s.part p).gone.find? (fun n => from_ n && (match ent with | some e => serialLater n e.serial | none => true))
        match gone, ent with
        | some n, _ => ((s.count rCmpLostFrames).raise 0x0D4 1).cmpVisit d { v with next := serialNext n, seen := v.seen + 1 } fuel
        | none, none => (s, v, none)
        | none, some e =>
          if !e.written then (s, v, none)
          else
            let v1 := { v with next := serialNext e.serial, seen := v.seen + 1, serial := e.serial }
            if e.flags &&& flag 23 != 0#32 then (s.count rCmpSkipped).cmpVisit d v1 fuel else (s, v1, some e)

/-- The frame of a LEDGER job loses its entry (R368). -/
def State.cmpLost (s : State) (d : List Byte) (v : CmpEng) : State × CmpEng :=
  if v.lost || !descLedger d || v.pos.isNone then (s, v)
  else
    let gone := match (s.partOf (leAt d 3 1 % 64)).bind (fun p => s.entry p v.serial) with
      | some e => e.freed
      | none => true
    if gone then ((s.count rCmpLostFrames).raise 0x0D4 1, { v with lost := true }) else (s, v)

/-- A frame coded: its bytes leave the tile cache (R372). -/
def State.cmpUncache (s : State) (v : CmpEng) : State :=
  match s.cmp.cache.find? (fun c => c.1 == v.serial) with
  | none => s
  | some c =>
    ({ s with cmp := { s.cmp with cache := s.cmp.cache.filter (fun x => x.1 != v.serial) } } : State).countN rCmpSnoop
      (ceilDiv c.2.length 1024)

/-- Write `out` at the engine's output through the bulk port of CMP, having consumed `inp` source bytes through it; reads
from the tile cache do not count (R22, R23, R372). -/
def State.cmpWrite (s : State) (v : CmpEng) (out : List Byte) (inp : Nat) : State × CmpEng :=
  (((if s.cached v.serial then s else s.bulkRead 1 v.inNext inp).bulkWrite 1 v.outNext out),
   { v with outNext := v.outNext + out.length, outTotal := v.outTotal + out.length, outFrame := v.outFrame + out.length,
            inNext := v.inNext + inp, inTotal := v.inTotal + inp, inFrame := v.inFrame + inp })

/-- COMPRESS: the next header, block or metadata (R355, R358, R362). -/
def State.compressUnit (s : State) (d : List Byte) (v0 : CmpEng) : State × CmpMove :=
  let r := s.cmpLost d v0
  let s := r.1
  let v := r.2
  match v.pos with
  | none =>
    let led := descLedger d
    if (if led then decide (max 1 (leAt d 4 4) ≤ v.seen) else decide (1 ≤ v.frames)) then (s, .done v)
    else
      let x : State × CmpEng × Option CmpGeom := if led then
          let y := s.cmpVisit d v ((s.usedParts.foldl (fun n p => n + (s.part p).entries.length + (s.part p).gone.length) 0) + 2)
          (y.1, y.2.1, y.2.2.map s.entryGeom)
        else (s, { v with serial := leAt d 0x20 6 }, some { descGeom d with src := leAt d 8 8 })
      match x.2.2 with
      | none => if decide (max 1 (leAt d 4 4) ≤ x.2.1.seen) && led then (x.1, .done x.2.1) else (x.1, .waits x.2.1)
      | some g =>
        if v.left d < 64 then (s, .stop { v with next := x.2.1.serial } 3 1)
        else
          let w := x.1.cmpWrite { x.2.1 with inNext := g.src } (g.header x.2.1.serial) 0
          (w.1, .wrote { w.2 with pos := some 0, geom := g, ctx := ctxReset g.b, next := x.2.1.serial })
  | some k =>
    let g := v.geom
    if k < g.blocks then
      let n := g.lines k
      let e := if v.lost then (zeroBlock g.b g.w n, v.ctx)
        else encBlock g.b g.cfa g.w (32 * k) (linesAbove (s.slotSrc v.serial g.src) g (32 * k))
          (slotLines (s.slotSrc v.serial g.src) g (32 * k) n) v.ctx
      if v.left d < e.1.length then (s, .stop v 3 1)
      else
        let w := s.cmpWrite v e.1 (n * g.pitch)
        let v1 := { w.2 with pos := some (k + 1), ctx := e.2 }
        if k + 1 = g.blocks ∧ g.metaLen = 0 then
          (w.1.cmpUncache v1, .wrote ({ v1 with inTotal := v1.inTotal + (g.slotLen - v1.inFrame) } : CmpEng).frameDone)
        else (w.1, .wrote v1)
    else if v.left d < g.metaLen then (s, .stop v 3 1)
    else
      let m := if v.lost then List.replicate g.metaLen 0#8 else s.slotSrc v.serial g.src g.metaOff g.metaLen
      let w := s.cmpWrite v m (g.slotLen - v.inFrame)
      (w.1.cmpUncache v, .wrote w.2.frameDone)

/-- DECOMPRESS: the next header, block or metadata (R363). -/
def State.decompressUnit (s : State) (d : List Byte) (v : CmpEng) : State × CmpMove :=
  let inLeft := leAt d 8 8 + leAt d 0x1C 4 - v.inNext
  match v.pos with
  | none =>
    if inLeft = 0 then (s, .done v)
    else if inLeft < 64 then (s, .stop v 8 5)
    else
      match readHeader (s.peek v.inNext 64) with
      | none => (s, .stop v 7 0)
      | some (g, serial) =>
        if v.left d < g.slotLen then (s, .stop v 3 1)
        else (s.bulkRead 1 v.inNext 64, .wrote { v with
          pos := some 0, geom := g, serial := serial, ctx := ctxReset g.b, inNext := v.inNext + 64, inTotal := v.inTotal + 64,
          inFrame := 64, outFrame := 0 })
  | some k =>
    let g := v.geom
    let base := v.outNext - v.outFrame
    if k < g.blocks then
      let hdr := leNat (s.peek v.inNext 4)
      let len := hdr / 256 % 2 ^ 19 * 4
      if inLeft < 4 + len ∨ inLeft < 4 then (s, .stop v 8 5)
      else
        let n := g.lines k
        let dec := if v.dmgNow then none
          else decBlock g.b g.cfa g.w (32 * k) n (linesAbove (s.slotAtMem base) g (32 * k)) v.ctx hdr (s.peek (v.inNext + 4) len)
        let out := match dec with
          | some (ls, _) => ls.flatMap g.pack
          | none => List.replicate (n * g.pitch) 0#8
        let w := s.cmpWrite v out (4 + len)
        let newBad := dec.isNone && !v.dmgNow
        let s1 := if newBad then (w.1.count rCmpDamaged).raise 0x0D3 1 else w.1
        let v1 := { w.2 with
          pos := some (k + 1), ctx := (match dec with | some (_, cx) => cx | none => v.ctx), dmgNow := v.dmgNow || newBad,
          damaged := v.damaged + newBad.toNat }
        if k + 1 = g.blocks then
          let t := s1.cmpWrite v1 (List.replicate (g.metaOff - g.h * g.pitch) 0#8) 0
          if g.metaLen = 0 then (t.1, .wrote t.2.frameDone) else (t.1, .wrote t.2)
        else (s1, .wrote v1)
    else if inLeft < g.metaLen then (s, .stop v 8 5)
    else
      let w := s.cmpWrite v (s.peek v.inNext g.metaLen) g.metaLen
      (w.1, .wrote w.2.frameDone)

/-- One strip copied and checked (R371): whether it is sound. -/
def State.stripOk (s : State) (g : CmpGeom) (a k : Nat) : Bool :=
  let b := s.peek a (32 + 24 * g.w)
  leAt b 0 4 == 0x4E445354 && leAt b 4 2 == k && leAt b 6 2 == g.h / 16 && leAt b 12 2 == g.w &&
    leAt b 0x18 4 == crc32c (b.drop 32)

/-- DESTRIP: the next frame, or the next 32 lines (R371). -/
def State.destripUnit (s : State) (d : List Byte) (v : CmpEng) : State × CmpMove :=
  match v.pos with
  | none =>
    let led := descLedger d
    if (if led then decide (max 1 (leAt d 4 4) ≤ v.seen) else decide (1 ≤ v.frames)) then (s, .done v)
    else
      let x : State × CmpEng × Option CmpGeom := if led then
          let y := s.cmpVisit d v ((s.usedParts.foldl (fun n p => n + (s.part p).entries.length + (s.part p).gone.length) 0) + 2)
          (y.1, y.2.1, y.2.2.map (fun e => { s.entryGeom e with layout := 0, metaLen := 0, b := 12 }))
        else (s, { v with serial := leAt d 0x20 6 }, some { descGeom d with src := leAt d 8 8, layout := 0 })
      match x.2.2 with
      | none => if decide (max 1 (leAt d 4 4) ≤ x.2.1.seen) && led then (x.1, .done x.2.1) else (x.1, .waits x.2.1)
      | some g =>
        let gap := roundUp v.outNext 4096 - v.outNext
        let len := roundUp (3 * g.w / 2 * g.h) 4096
        if v.left d < gap + len then (s, .stop { v with next := x.2.1.serial } 3 1)
        else (x.1, .wrote { x.2.1 with pos := some 0, geom := g, outNext := v.outNext + gap, inNext := g.src, next := x.2.1.serial })
  | some k =>
    let g := v.geom
    let n := g.lines k
    let strips := (List.range (n / 16)).map (2 * k + ·)
    let at_ := fun q => g.src + q * (32 + 24 * g.w)
    let bad := strips.filter (fun q => !s.stripOk g (at_ q) q)
    let w := s.cmpWrite v (strips.flatMap (fun q => s.peek (at_ q + 32) (24 * g.w))) (strips.length * (32 + 24 * g.w))
    let s1 := w.1.countN rCmpStripErr bad.length
    let v1 := { w.2 with
      pos := some (k + 1), stripNow := v.stripNow || !bad.isEmpty,
      strip := if v.stripNow then v.strip else match bad with | q :: _ => some q | [] => v.strip }
    if g.blocks ≤ k + 1 then
      let t := s1.cmpWrite v1 (List.replicate (roundUp (3 * g.w / 2 * g.h) 4096 - v1.outFrame) 0#8) 0
      (t.1, .wrote t.2.frameDone)
    else (s1, .wrote v1)

/-- The next unit of a job, by its operation. -/
def State.cmpUnit (s : State) (d : List Byte) (v : CmpEng) : State × CmpMove :=
  match leAt d 0 1 with
  | 1 => s.compressUnit d v
  | 2 => s.decompressUnit d v
  | _ => s.destripUnit d v

/-- The causes to stop after a unit, in the state the unit left (R368). -/
def State.cmpStops (s : State) (e : Nat) (v : CmpEng) (waits : Bool) : State :=
  if s.pwr.loss != 0 then s.cmpStop e v 5 0 3
  else if s.cmpPreempted e then s.cmpStop e v 4 0 2
  else s.setCmpEng e v waits

/-- What follows a unit of engine e, whose job was v before it. -/
def cmpAfter (e : Nat) (v : CmpEng) (r : State × CmpMove) : State :=
  match r.2 with
  | .done v1 => r.1.cmpDone e v1
  | .stop v1 st reason => r.1.cmpStop e v1 st 0 reason
  | .waits v1 => r.1.cmpStops e v1 true
  | .wrote v1 => (if v.frames < v1.frames then r.1.count (rCmpEFrames e) else r.1).cmpStops e v1 false

/-- BLOCK_BOUNDARY (R367 to R371): the next unit of the engine's job, then the causes to stop. While the bulk port of CMP is
not served the unit waits (R420, R421). -/
def State.blockBoundary (s : State) (e : Nat) : State :=
  let v := s.cmpEng e
  if !v.busy || !s.unitLive 11 1 || !s.unitLive 11 (2 + e) then s
  else if s.bulkWaits 1 then (if s.pwr.loss != 0 || s.cmpPreempted e then s.cmpStops e v false else s)
  else cmpAfter e v (s.cmpUnit (s.cmpDesc v.slot) v)

/-- BLOCK_BOUNDARY. -/
def execBlockBoundary (eng : Fin 8) (s : State) : Host.Outcome State Fault Refusal := .next (s.blockBoundary eng)

/-- Fence or reset of CMP: the job of every engine that has stopped ends with ABORTED, without a state record (R369). -/
def State.cmpAbort (s : State) (engs : List Nat) : State :=
  s.forEach engs fun t e =>
    let v := t.cmpEng e
    if v.busy then t.cmpStop e v 0xC 0 0 else t

/-- A plane swap stops every running job at its block boundary and resumes it on its engine (R114, R369). -/
def State.cmpSwap (s : State) : State :=
  s.forEach s.cmpRunning fun t e =>
    let v := t.cmpEng e
    let d := t.cmpDesc v.slot
    (t.bulkWrite 1 (leAt d 0x28 8) (v.record (leAt d 0 1) 4)).count rCmpSwapResumes

/-- Frames that close while the tile cache is held are kept in it whole, up to 16 MiB (R372). -/
def State.cmpIntake (s : State) : State :=
  if !s.bit rCmpStat 0 then s
  else
    let strs := s.snooping.map (fun k => leAt (s.cmpDesc k) 3 1 % 64)
    let l := s.ing.fresh.filterMap (fun p => (s.entry p.1 p.2).bind (fun e =>
      if strs.contains e.stream && (e.serial == s.cmp.cacheFrom || serialLater s.cmp.cacheFrom e.serial) then
        some (e.serial, s.portBytes e.serial e.length)
      else none))
    l.foldl (fun t c =>
      if t.cmp.cache.foldl (fun a x => a + x.2.length) 0 + c.2.length ≤ 0x1000000 then { t with cmp := { t.cmp with cache := t.cmp.cache ++ [c] } } else t) s

/-- Freed serials are forgotten once no job walks a ledger. -/
def State.pruneGone (s : State) : State :=
  if s.cmpQueue.isEmpty && (List.range 4).all (fun j => s.corState j == 0 || s.corState j == 4) &&
      s.ing.parts.any (fun p => !p.2.gone.isEmpty) then
    { s with ing := { s.ing with parts := s.ing.parts.map (fun p => (p.1, { p.2 with gone := [] })) } }
  else s

end Sys2Proof.Machine
end

