-- ==== Sys2Proof/Machine/Time.lean ====
section
/-! DEFINITION. The passage of time: the Mint's increment, CLK_SVC and CLK_PX. -/

namespace Sys2Proof.Machine

open Sys2Proof

/-- The Mint in units of 2^-44 ns. -/
def Mint.fine (m : Mint) : Nat := m.total * 2 ^ 44 + m.fr

/-- A Mint from units of 2^-44 ns; the seconds keep 48 bits (R469). -/
def mintOfFine (n : Nat) : Mint :=
  ⟨n / 2 ^ 44 / nsPerSec % 2 ^ 48, n / 2 ^ 44 % nsPerSec, n % 2 ^ 44⟩

/-- The active RATE, signed (R470). -/
def State.mintRate (s : State) : Int := (s.rd rMintRate).toInt

/-- R470: one CLK_MT cycle adds 1 ns + RATE × 2^-44 ns, with the carry into the seconds. -/
def Mint.advance (m : Mint) (rate : Int) : Mint := mintOfFine ((m.fine : Int) + 2 ^ 44 + rate).toNat

/-- A CLK_PX cycle of the Clearing House begins: AUTOCLR clears act, and gates see the latches as they stand (R529, R530). -/
def State.latchCycle (s : State) : State :=
  let s1 := if s.ch.clr = 0#32 then s else s.wr rSvcChLatch (s.rd rSvcChLatch &&& ~~~ s.ch.clr)
  { s1 with ch := { s1.ch with clr := 0#32, gate := s1.rd rSvcChLatch } }

/-- The clocks over one nanosecond: CLK_SVC counts, the Mint advances, CLK_PX counts its cycles unless it stands or pauses
(R28). -/
def State.clocksRun (s : State) : State :=
  { s with
    now := s.now + 1
    mint := if s.mintUp then s.mint.advance s.mintRate else s.mint
    net := { s.net with inc := true }
    px := if s.pxStopped || s.clk.stage == 2 then s.px else s.px + pxPerNs s.stepAct }

/-- One nanosecond passes (log entry 7): the clocks run, and a CLK_PX cycle that begins acts on the latches. Before power-good
no clock runs. -/
def State.tick (s : State) : State :=
  match s.pwr.phase with
  | .off => s
  | .starting => s
  | _ =>
    let t := s.clocksRun
    if t.pxCycle = s.pxCycle then t else t.latchCycle

end Sys2Proof.Machine
end

