-- ==== Sys2Proof/Machine/Network.lean ====
section
/-! DEFINITION. Ethernet and the Mint (17): servo updates, holdover, PPS, the ports' state, receive and transmit queues,
one-step stamps, the cage's two-wire bus. -/

namespace Sys2Proof.Machine

open Sys2Proof

/-- Replace NET. -/
def State.setNet (s : State) (n : Net) : State := { s with net := n }

/-! ### Servo updates (R472 to R474) -/

/-- An entry of an axis-A0 table that a forward step from `old` to `new` passes (R191). -/
def State.stepPasses (s : State) (t e : Nat) (old new : BitVec 64) : Bool :=
  let c := s.cmpEnt t e
  s.entLive t e && c.rearm.isNone && c.permits true && decide (0 < axDiff c.value old) && decide (axDiff c.value new ≤ 0)

/-- The Mint jumps to a value: a forward step crosses the A0 entries that it passes, late (R191, R473). -/
def State.mintJump (s : State) (m : Mint) : State :=
  let old := s.axisAt 0 s.nowTu
  let s1 : State := { s with mint := m, net := { s.net with inc := false } }
  let new := s1.axisAt 0 s1.nowTu
  let s2 := if m.fine ≤ s.mint.fine then s1
    else s1.forEach (List.range 8) fun u t =>
      if u.tblAxis t != 0 then u
      else u.forEach (u.tblEntries t) fun w e =>
        if w.stepPasses t e old new then w.fireEntry t e true (s1.nowTu) true else w
  (((s2.rearmAxis 0).count rMintSteps).raise 0x0F0 1).expectIdle

/-- SERVO. -/
def State.servo (s : State) : Nat := s.fld rMintStat 28 4

/-- A change of SERVO; entering and leaving HOLDOVER raise HOLDOVER (R474). -/
def State.setServo (s : State) (v : Nat) : State :=
  let s1 := s.setFld rMintStat 28 4 v
  if (s.servo == 2) != (v == 2) then s1.raise 0x0F1 1 else s1

/-- The SET of a MINT_CMD write: whether it acts (R472). -/
def State.mintSet (s : State) : State × Bool :=
  let s1 := ((s.commit rMintSetSecLo).commit rMintSetSecHi).commit rMintSetNs
  let ns := s1.fld rMintSetNs 0 30
  if nsPerSec ≤ ns then (s1.violation rMintCmd, false)
  else (s1.mintJump ⟨(s1.rd rMintSetSecLo).toNat + s1.fld rMintSetSecHi 0 16 * 2 ^ 32, ns, 0⟩, true)

/-- The STEP of a MINT_CMD write. -/
def State.mintStep (s : State) : State × Bool :=
  let s1 := (s.commit rMintStepNs).commit rMintStepFrac
  let d : Int := (s1.rd rMintStepNs).toInt * (2 ^ 44 : Nat) + (s1.fld rMintStepFrac 0 16 * 2 ^ 28 : Nat)
  let v : Int := (s1.mint.fine : Int) + d
  if v < 0 then (s1.violation rMintCmd, false) else (s1.mintJump (mintOfFine v.toNat), true)

/-- A write of MINT_CMD: SET, STEP and RATE in that order (R472, R473), then the watchdog restarts (R474). -/
def State.mintCmd (s : State) (v : Word) : State :=
  let a := if v.getLsbD 0 then s.mintSet else (s, false)
  let b := if v.getLsbD 1 then a.1.mintStep else (a.1, false)
  let c := if v.getLsbD 2 then b.1.commit rMintRate else b.1
  if a.2 || b.2 || v.getLsbD 2 then c.setServo 1 else c

/-- MINT_SET. -/
def execMintSet (s : State) : Host.Outcome State Fault Refusal :=
  if !s.reaches 13 then .next s else .next (if s.unitLive 13 1 then s.mintCmd 1#32 else s)

/-- MINT_STEP. -/
def execMintStep (s : State) : Host.Outcome State Fault Refusal :=
  if !s.reaches 13 then .next s else .next (if s.unitLive 13 1 then s.mintCmd 2#32 else s)

/-- MINT_RATE. -/
def execMintRate (s : State) : Host.Outcome State Fault Refusal :=
  if !s.reaches 13 then .next s else .next (if s.unitLive 13 1 then s.mintCmd 4#32 else s)

/-- HOLDOVER: the watchdog ran WD ms without an update (R474). -/
def execHoldover (s : State) : Host.Outcome State Fault Refusal :=
  .next (if s.servo = 1 && s.unitLive 13 1 then s.setServo 2 else s)

/-! ### PPS (R476, R477) -/

/-- An accepted PPS_IN edge, or one that comes too early (R476). The stamp is the Mint time of its first transition. -/
def State.ppsEdge (s : State) (stamp : Nat) : State :=
  if !s.unitLive 13 1 || !s.serving then s
  else
    let early := match s.net.ppsIn with
      | none => false
      | some m => decide (m.tu ≤ stamp) && decide (stamp < m.tu + 900000000 * tuPerNs)
    if early then (s.count rMintPpsEarly).raise 0x0F3 1
    else
      let m := mintOfTu stamp
      ((s.setNet { s.net with ppsIn := some m, ppsGone := false }).wr rMintPpsinNs (BitVec.ofNat 32 m.ns)).raise 0x0F2 1

/-- PPS_IN_EDGE. -/
def execPpsInEdge (stamp : Nat) (s : State) : Host.Outcome State Fault Refusal := .next (s.ppsEdge stamp)

/-- PPS_MISSING: 1,100 ms without an edge after the last accepted one; once until the next. -/
def execPpsMissing (s : State) : Host.Outcome State Fault Refusal :=
  .next (if s.net.ppsIn.isSome && !s.net.ppsGone && s.unitLive 13 1 then
    ((s.setNet { s.net with ppsGone := true }).count rMintPpsMissing).raise 0x0F3 1 else s)

/-- OFFSET of PPS_OUT, clamped (R489). -/
def State.ppsOff (s : State) : Int := max (-500000000) (min 500000000 (s.rd rMintPpsoff).toInt)

/-- The second whose pulse is due: the Mint has just reached N × 10^9 ns + OFFSET by its increment, and no pulse was sent for
N or a later second (R477). -/
def State.ppsDue (s : State) : Option Nat :=
  let d := (s.mint.total : Int) - s.ppsOff
  let n := d / (nsPerSec : Int)
  if s.net.inc && decide (d % (nsPerSec : Int) ≤ 1) && decide ((s.net.ppsSec : Int) ≤ n) then some n.toNat else none

/-- PPS_OUT may pulse: EN, outputs act, not muted in HOLDOVER. -/
def State.ppsOn (s : State) : Bool :=
  s.bit rMintPpsout 31 && s.serving && s.unitLive 13 1 && !(s.servo == 2 && s.bit rMintPpsout 30)

/-- PPS_OUT_PULSE. -/
def execPpsOutPulse (s : State) : Host.Outcome State Fault Refusal :=
  .next (match s.ppsDue with
    | some n => if s.ppsOn && !s.net.ppsOut then s.setNet { s.net with ppsOut := true, ppsSec := n + 1 } else s
    | none => s)

/-- PPS_OUT_END: the pulse has been high for WIDTH µs. -/
def execPpsOutEnd (s : State) : Host.Outcome State Fault Refusal := .next (s.setNet { s.net with ppsOut := false })

/-! ### Ports (R479) -/

/-- The ports' own state at reset. -/
def NetPort.init : NetPort := ⟨false, false, [], 0, 0, 0⟩

/-- Port `m` beside its registers. -/
def State.nport (s : State) (m : Nat) : NetPort := Map.get (fun _ => NetPort.init) s.net.ports m

/-- Put port `m`. -/
def State.setNport (s : State) (m : Nat) (v : NetPort) : State :=
  s.setNet { s.net with ports := Map.set (fun _ => NetPort.init) s.net.ports m v }

/-- Port `m` is UP. -/
def State.netUp (s : State) (m : Nat) : Bool := s.bit (rNetPortStat m) 31 && s.unitLive 13 (2 + m)

/-- TX_DISABLE of port `m` is high (R479). -/
def State.txDisable (s : State) (m : Nat) : Bool :=
  !(s.bit (rNetPortCfg m) 31 && s.serving && !s.bit (rNetPortStat m) 2)

/-- UP follows its conditions; a change raises LINK_CHANGE (R479). -/
def State.syncUp (s : State) (m : Nat) : State :=
  let p := s.nport m
  let up := s.bit (rNetPortCfg m) 31 && s.unitLive 13 (2 + m) && s.fld (rNetPortStat m) 0 5 == 0 && p.blk &&
    (s.fld (rNetPortCfg m) 28 2 == 0 || p.fecLock)
  if up == s.bit (rNetPortStat m) 31 then s else (s.setBit (rNetPortStat m) 31 up).raise (0x0F4 + 6 * m) (2 + m)

/-- ETHERNET_LINK_CHANGE: locks, faults and RX_LOS as they now are. -/
def execEthernetLinkChange (port : Fin 2) (blockLock fecLock localFault remoteFault rxLos : Bool) (s : State) :
    Host.Outcome State Fault Refusal :=
  .next ((((((s.setNport port { s.nport port with blk := blockLock, fecLock := fecLock }).setBit (rNetPortStat port) 3
    localFault).setBit (rNetPortStat port) 4 remoteFault).setBit (rNetPortStat port) 0 rxLos)).syncUp port)

/-- CAGE_CHANGE: the cage's pins; a change of MOD_ABS or TX_FAULT raises CAGE (R479). -/
def execCageChange (port : Fin 2) (modAbs txFault rxLos : Bool) (s : State) : Host.Outcome State Fault Refusal :=
  let changed := s.bit (rNetPortStat port) 2 != modAbs || s.bit (rNetPortStat port) 1 != txFault
  let s1 := ((s.setBit (rNetPortStat port) 2 modAbs).setBit (rNetPortStat port) 1 txFault).setBit (rNetPortStat port) 0 rxLos
  .next ((if changed then s1.raise (0x0F9 + 6 * port) (2 + port) else s1).syncUp port)

/-! ### Rings (R482) -/

/-- The block of a ring: transmit queues 0 to 2, receive queues as 3 and 4. -/
def ringBase (m r : Nat) : Nat := if r < 3 then rNetPortTxBaseLo m r else rNetPortRxBaseLo m (r - 3)

/-- SIZE, HEAD, TAIL and EN of a ring. -/
def State.ringSize (s : State) (m r : Nat) : Nat := 2 ^ clampNat 4 12 (s.fld (ringBase m r + 8) 0 4)
def State.ringHead (s : State) (m r : Nat) : Nat := s.fld (ringBase m r + 12) 0 12
def State.ringTail (s : State) (m r : Nat) : Nat := s.fld (ringBase m r + 16) 0 12
def State.ringEn (s : State) (m r : Nat) : Bool := s.bit (ringBase m r + 8) 31

/-- An enabled ring holds a descriptor to process. -/
def State.ringReady (s : State) (m r : Nat) : Bool := s.ringEn m r && s.ringHead m r != s.ringTail m r

/-- Host address of the descriptor at HEAD. -/
def State.ringDesc (s : State) (m r : Nat) : Nat :=
  (s.rd (ringBase m r)).toNat / 4096 * 4096 + (s.rd (ringBase m r + 4)).toNat * 2 ^ 32 + s.ringHead m r % s.ringSize m r * 32

/-- Bytes written to host memory through the endpoint. -/
def State.netDma (s : State) (a : Nat) (d : List Byte) : State := s.setNet { s.net with host := s.net.host ++ [(a, d)] }

/-- The endpoint's link is up and the endpoint is live: NET can reach host memory. -/
def State.hostUp (s : State) : Bool := s.fld rHstLink 28 4 == 2 && s.unitLive 12 1

/-- HEAD advances. -/
def State.ringNext (s : State) (m r : Nat) : State := s.setFld (ringBase m r + 12) 0 12 (s.ringHead m r + 1)

/-- RING_TAIL_WRITE (R482): HEAD and TAIL count modulo 2^12, and the ring's index is their remainder by SIZE. -/
def State.ringTailWrite (s : State) (m r : Nat) (v : Word) : State :=
  if !s.unitLive 13 (2 + m) then s
  else if s.ringSize m r ≤ (fget v 0 12 + 4096 - s.ringHead m r) % 4096 then s.violation (ringBase m r + 16)
  else s.wr (ringBase m r + 16) (v &&& 0xFFF#32)

/-- RING_TAIL_WRITE. -/
def execRingTailWrite (port : Fin 2) (ring : Fin 5) (v : Word) (s : State) : Host.Outcome State Fault Refusal :=
  if !s.reaches 13 then .next s else
  .next (s.ringTailWrite port ring v)

/-! ### Frames (R480, R481) -/

/-- The offset behind the MAC addresses and up to two VLAN tags, and the EtherType there. -/
def etherType (f : List Byte) : Nat × Nat :=
  let tag := fun o => beNat (slice f o 2) == 0x8100 || beNat (slice f o 2) == 0x88A8
  let o := if tag 12 then (if tag 16 then 20 else 16) else 12
  (o + 2, beNat (slice f o 2))

/-- Where the UDP header of a frame starts, and the sum of its pseudo-header; none where the frame is no UDP datagram. -/
def udpAt (f : List Byte) : Option Nat :=
  let e := etherType f
  if e.2 = 0x0800 ∧ f.getD (e.1 + 9) 0#8 = 17#8 then some (e.1 + 4 * (f.getD e.1 0#8 &&& 0xF#8).toNat)
  else if e.2 = 0x86DD ∧ f.getD (e.1 + 6) 0#8 = 17#8 then some (e.1 + 40)
  else none

/-- A PTP frame (R481). -/
def isPtp (f : List Byte) : Bool :=
  (etherType f).2 == 0x88F7 ||
  match udpAt f with
  | some u => beNat (slice f (u + 2) 2) == 319 || beNat (slice f (u + 2) 2) == 320
  | none => false

/-- The 16-bit words of bytes, an odd last byte padded. -/
def words16 (b : List Byte) : Nat := (List.range (ceilDiv b.length 2)).foldl (fun n k =>
  n + (b.getD (2 * k) 0#8).toNat * 256 + (b.getD (2 * k + 1) 0#8).toNat) 0

/-- The ones' complement of a ones'-complement sum. -/
def onesSum (n : Nat) : Nat :=
  let fold := fun x => x % 65536 + x / 65536
  65535 - fold (fold (fold n))

/-- Bytes `d` put at offset `i` of a frame. -/
def putAt (f : List Byte) (i : Nat) (d : List Byte) : List Byte := f.take i ++ d ++ f.drop (i + d.length)

/-- The UDP checksum over the pseudo-header of an IP header at `ip`, the UDP header at `u` and the payload. -/
def udpSum (f : List Byte) (ip u : Nat) (v6 : Bool) : Nat :=
  let len := beNat (slice f (u + 4) 2)
  let pseudo := (if v6 then words16 (slice f (ip + 8) 32) else words16 (slice f (ip + 12) 8)) + 17 + len
  let c := onesSum (pseudo + words16 (putAt (slice f u len) 6 [0#8, 0#8]))
  if c = 0 then 65535 else c

/-- CSUM: the UDP checksum recomputed (R486). -/
def udpFix (f : List Byte) : List Byte :=
  match udpAt f with
  | none => f
  | some u => putAt f (u + 6) (beBytes 2 (udpSum f (etherType f).1 u ((etherType f).2 == 0x86DD)))

/-- The destination address passes the filter (R480). -/
def State.macPass (s : State) (m : Nat) (f : List Byte) : Bool :=
  let d := f.take 6
  let own := leBytes 2 (s.fld (rNetPortMacHi m) 0 16) ++ leBytes 4 (s.rd (rNetPortMacLo m)).toNat
  let h := crc32 d / 2 ^ 26
  let multi := (d.getD 0 0#8).getLsbD 0 &&
    (if h < 32 then s.bit (rNetPortMhashLo m) h else s.bit (rNetPortMhashHi m) (h - 32))
  s.bit (rNetPortCfg m) 0 || d == own || d == List.replicate 6 0xFF#8 || multi

/-- A stamp with a signed adjustment in 1/16 ns, as a Mint value (R485). -/
def adjusted (stamp : Nat) (adj : Int) : Mint := mintOfTu ((stamp : Int) + adj * (tuPerNs / 16 : Nat)).toNat

/-- A short stamp with its fraction, 6 bytes (R471). -/
def Mint.short (m : Mint) : List Byte := leBytes 2 (m.fr / 2 ^ 28) ++ leBytes 4 m.total

/-- The number of a short stamp in 2^-16 ns. -/
def Mint.shortNat (m : Mint) : Nat := m.total % 2 ^ 32 * 65536 + m.fr / 2 ^ 28

/-- A frame without a free receive descriptor: RX_DROP at most once per ms (R481). -/
def State.rxNoBuf (s : State) (m : Nat) : State :=
  let s1 := s.count (rNetRxNobuf m)
  if (s.nport m).dropMs = s.now / 1000000 + 1 then s1
  else (s1.setNport m { s1.nport m with dropMs := s.now / 1000000 + 1 }).raise (0x0F8 + 6 * m) (2 + m)

/-- RX_PTP or RX_DATA, at most once per µs for each queue (R484). -/
def State.rxRaise (s : State) (m : Nat) (ptp : Bool) : State :=
  let p := s.nport m
  let us := s.now / 1000 + 1
  if (if ptp then p.ptpUs else p.dataUs) = us then s
  else (s.setNport m (if ptp then { p with ptpUs := us } else { p with dataUs := us })).raise
    ((if ptp then 0x0F6 else 0x0F7) + 6 * m) (2 + m)

/-- ETHERNET_FRAME_RECEIVE (R480, R481, R484): `frame` with its FCS, `stamp` at the J6 contact before RX_ADJ, `desc` the
32 bytes of host memory at the queue's HEAD. -/
def State.frameReceive (s : State) (m : Nat) (frame : List Byte) (stamp : Nat) (desc : List Byte) : State :=
  let n := frame.length
  if !s.netUp m || !s.serving then s
  else if n < 64 ∨ 9600 < n then s.count (rNetRxLength m)
  else if crc32 (frame.take (n - 4)) != leNat (frame.drop (n - 4)) then s.count (rNetRxFcs m)
  else if beNat (slice frame 12 2) = 0x8808 then s.count (rNetRxCtrl m)
  else if !s.macPass m frame then s
  else
    let ptp := isPtp frame
    let r := if ptp then 3 else 4
    let s1 := s.count (rNetRxFrames m)
    if !s.ringReady m r || !s.hostUp then s1.rxNoBuf m
    else
      let buf := leAt desc 8 2
      let t := adjusted stamp (sext 16 (s.fld (rNetPortTsadj m) 0 16))
      let a := s.ringDesc m r
      let s2 := s1.netDma (leAt desc 0 8) (frame.take buf)
      let s3 := s2.netDma (a + 0x10) (leBytes 2 n ++ leBytes 1 (decide (buf < n)).toNat)
      let s4 := (s3.netDma (a + 0x18) t.short).netDma (a + 0x1F) [1#8]
      (s4.ringNext m r).rxRaise m ptp

/-- ETHERNET_FRAME_RECEIVE. -/
def execEthernetFrameReceive (port : Fin 2) (frame : List Byte) (stamp : Nat) (desc : List Byte) (s : State) :
    Host.Outcome State Fault Refusal := .next (s.frameReceive port frame stamp desc)

/-! ### Transmission (R481, R483, R486) -/

/-- ONE_STEP on the PTP header at `o` (R486). -/
def oneStep (f : List Byte) (o : Nat) (ingress : List Byte) (t : Mint) : List Byte :=
  let cf := beNat (slice f (o + 8) 8)
  match (f.getD o 0#8 &&& 0xF#8).toNat with
  | 0 =>
    let f1 := putAt f (o + 8) (beBytes 8 (cf + t.fr / 2 ^ 28))
    putAt f1 (o + 34) (beBytes 6 t.sec ++ beBytes 4 t.ns)
  | 3 =>
    let i := leAt ingress 2 4 * 65536 + leAt ingress 0 2
    putAt f (o + 8) (beBytes 8 (cf + (t.shortNat + 2 ^ 48 - i) % 2 ^ 48))
  | _ => f

/-- A frame as sent: padded to 60 bytes, with its FCS (R480). -/
def withFcs (f : List Byte) : List Byte :=
  let p := f ++ List.replicate (60 - f.length) 0#8
  p ++ leBytes 4 (crc32 p)

/-- A frame leaves a port. -/
def State.netSend (s : State) (m q : Nat) (f : List Byte) : State :=
  (s.setNport m { s.nport m with sent := (s.nport m).sent ++ [(q, withFcs f)] }).count (rNetTxFrames m)

/-- A descriptor completes: STAMP, STATUS, DONE, HEAD, TX_DONE (R482, R483). -/
def State.txDone (s : State) (m q : Nat) (desc stamp : List Byte) (status : Nat) : State :=
  let a := s.ringDesc m q
  let s1 := ((s.netDma (a + 0x18) stamp).netDma (a + 0x1E) (leBytes 1 status ++ [1#8])).ringNext m q
  if (leAt desc 0x0A 2).testBit 2 then s1.raise (0x0F5 + 6 * m) (2 + m) else s1

/-- A queue of higher priority than `q` has a frame (R481): TQ0, then the packetiser's TQ3, then TQ1, then TQ2. -/
def State.txBusy (s : State) (m q : Nat) (rtp : Bool) : Bool :=
  match q with
  | 0 => false
  | 3 => s.ringReady m 0
  | 1 => s.ringReady m 0 || rtp
  | _ => s.ringReady m 0 || rtp || s.ringReady m 1

/-- ETHERNET_FRAME_TRANSMIT: the descriptor `desc` at HEAD of host queue `q`, the `frame` that host memory holds for it, its
egress `stamp` before TX_ADJ. A frame shorter than LEN is a host access that failed. -/
def State.frameTransmit (s : State) (m q : Nat) (desc frame : List Byte) (stamp : Nat) (rtp : Bool) : State :=
  let len := leAt desc 8 2
  let fl := leAt desc 0x0A 2
  if !s.unitLive 13 (2 + m) || !s.ringReady m q || !s.hostUp || !s.serving then s
  else if len < 14 ∨ 9596 < len then s.txDone m q desc (List.replicate 6 0#8) 1
  else if !s.netUp m then (s.count (rNetTxLinkdown m)).txDone m q desc (List.replicate 6 0#8) 2
  else if s.txBusy m q rtp then s
  else if frame.length < len then s.txDone m q desc (List.replicate 6 0#8) 3
  else
    let t := adjusted stamp (sext 16 (s.fld (rNetPortTsadj m) 16 16))
    let f0 := frame.take len
    let f1 := if fl.testBit 1 then oneStep f0 (leAt desc 0x0C 2) (slice desc 0x10 6) t else f0
    let f2 := if fl.testBit 3 then udpFix f1 else f1
    (s.netSend m q f2).txDone m q desc (if fl.testBit 0 || fl.testBit 1 then t.short else List.replicate 6 0#8) 0

/-! ### The cage's two-wire bus (R487) -/

/-- A write of NET_PORTm_MODI2C (R487, R490). -/
def State.modI2c (s : State) (m : Nat) (v : Word) : State :=
  let a := rNetPortModi2c m
  if !s.unitLive 13 (2 + m) then s
  else if s.fld a 28 2 = 1 then s.violation a
  else
    let st := if v.getLsbD 31 then 1 else s.fld a 28 2
    s.wr a (fset (v &&& 0x407FFFFF#32) 28 2 st)

/-- MODULE_I2C_ACCESS. -/
def execModuleI2cAccess (port : Fin 2) (v : Word) (s : State) : Host.Outcome State Fault Refusal :=
  if !s.reaches 13 then .next s else .next (s.modI2c port v)

/-- MODULE_I2C_DONE: the byte was acknowledged or not; a read takes the module's byte. -/
def execModuleI2cDone (port : Fin 2) (ack : Bool) (data : Byte) (s : State) : Host.Outcome State Fault Refusal :=
  let a := rNetPortModi2c port
  .next (if s.fld a 28 2 != 1 then s
    else
      let s1 := s.setFld a 28 2 (if ack then 2 else 3)
      if ack && s.bit a 30 then s1.setFld a 0 8 data.toNat else s1)

end Sys2Proof.Machine
end

