-- ==== Sys2Proof/Machine/Video.lean ====
section
/-! DEFINITION. HEVC encoding (14): channels, requests, refresh, rate control, the output ring, RTP. Coded bits, slice sizes
within the hard cap and the points where a picture starves are the hardware's own and stand as free values. -/

namespace Sys2Proof.Machine

open Sys2Proof

/-- Replace VID. -/
def State.setVid (s : State) (v : Vid) : State := { s with vid := v }

/-- An encoder channel at reset. -/
def VEnc.init : VEnc :=
  ⟨false, 0, 0#32, none, none, 0, false, 0, none, 0, none, [none, none, none, none], 0, 0, none, none, none, [], 0⟩

/-- Encoder channel `c`. -/
def State.enc (s : State) (c : Nat) : VEnc := Map.get (fun _ => VEnc.init) s.vid.enc c

/-- Put it. -/
def State.setEnc (s : State) (c : Nat) (v : VEnc) : State :=
  s.setVid { s.vid with enc := Map.set (fun _ => VEnc.init) s.vid.enc c v }

/-- The next free number below `n`; 0 where `n` is 0. -/
def State.vidPick (s : State) (n : Nat) : Nat × State :=
  (if n = 0 then 0 else Config.vidWord s.vid.free % n, s.setVid { s.vid with free := s.vid.free + 1 })

/-- The next free decision. -/
def State.vidChoose (s : State) : Bool × State :=
  (Config.vidFlag s.vid.free, s.setVid { s.vid with free := s.vid.free + 1 })

/-- STATE of encoder channel `c`: 0 IDLE, 1 RUNNING, 2 STOPPING, 3 ERROR. -/
def State.encState (s : State) (c : Nat) : Nat := s.fld (rVidEncStat c) 28 4

/-- Set it. -/
def State.setEncState (s : State) (c st : Nat) : State := s.setFld (rVidEncStat c) 28 4 st

/-- A channel enters ERROR (R395, R404, R407). -/
def State.encError (s : State) (c err : Nat) : State :=
  ((s.setEncState c 3).setFld (rVidEncStat c) 24 4 err).raise 0x0CD (2 + c)

/-! ### Sources (R383, R384) -/

/-- Bytes of a proxy buffer of a format and size (R301). -/
def bufBytes (fmt w h : Nat) : Nat :=
  let q := proxyGeom fmt w h
  roundUp (roundUp (4096 + roundUp q.1 64 * h) 4096 + roundUp q.2.1 64 * q.2.2) 4096

/-- The descriptor of a proxy buffer at `a`. -/
def State.bufDesc (s : State) (a : Nat) : List Byte := s.peek a 64

/-- Format, width and height in a descriptor. -/
def descFmt (d : List Byte) : Nat × Nat × Nat := (leAt d 4 1, leAt d 6 2, leAt d 8 2)

/-- Address of host buffer `k` of a channel: buffers of the size that buffer 0 describes, back to back from HOSTQ. -/
def State.hostBuf (s : State) (c k : Nat) : Nat :=
  let a := s.regionAddr (rVidEncHostq c)
  let g := descFmt (s.bufDesc a)
  a + k * bufBytes g.1 g.2.1 g.2.2

/-- Format, width and height of the pictures of a channel as they stand now. -/
def State.encGeom (s : State) (c : Nat) (host : Bool) (stream : Nat) : Nat × Nat × Nat :=
  if host then descFmt (s.bufDesc (s.hostBuf c 0))
  else match s.lead stream with
    | some p => (s.pxFmt p, s.pxGeom p)
    | none => (0, 0, 0)

/-- The reader number of an encoder channel at a proxy ring (R301). -/
def encReader (c : Nat) : Nat := 32 + c

/-- The picture that channel `c` would code next: buffer, SEQ, and the proxies passed over. -/
def State.encNext (s : State) (c : Nat) : Option (Nat × Nat × Nat) :=
  let v := s.enc c
  if v.host then
    let seq := (match v.last with | some n => n | none => 0) + 1
    let k := (seq - 1) % max 1 (s.fld (rVidEncHostn c) 0 4)
    let d := s.bufDesc (s.hostBuf c k)
    if leAt d 0 4 == 0x5850524F && leAt d 0x18 4 == seq then some (k, seq, 0) else none
  else
    match s.pxLatest v.stream with
    | none => none
    | some (k, seq) =>
      let after := fun (o : Option Nat) => match o with | some n => decide (n < seq) | none => true
      if after v.last && after v.skip then
        let from_ := match v.last, v.skip with
          | some a, some b => max a b
          | some a, none => a
          | none, some b => b
          | none, none => seq - 1
        some (k, seq, seq - from_ - 1)
      else none

/-! ### Slices and the output ring (R387, R392, R393) -/

/-- CTUs in a row and CTU rows of a picture; the height is coded in multiples of 8 (R380). -/
def ctuGrid (w h : Nat) : Nat × Nat := (ceilDiv w 32, ceilDiv (roundUp h 8) 32)

/-- SLICE_ROWS in force: channels 6 and 7 code one slice. -/
def State.sliceRows (s : State) (c rows : Nat) : Nat :=
  if 6 ≤ c then max 1 rows else max 1 (s.fld (rVidEncCfg c) 16 8)

/-- Slices of a picture of `rows` CTU rows. -/
def State.sliceCount (s : State) (c rows : Nat) : Nat := if 6 ≤ c then 1 else ceilDiv rows (s.sliceRows c rows)

/-- Bytes of the output ring, of its used part and of its free part. -/
def State.outSize (s : State) (c : Nat) : Nat := s.fld (rVidEncOutsz c) 0 24 * 4096
def State.outUsed (s : State) (c : Nat) : Nat :=
  let n := s.outSize c
  (s.fld (rVidEncWrptr c) 0 26 * 64 + n - s.fld (rVidEncRdptr c) 0 26 * 64 % max 1 n) % max 1 n
def State.outFree (s : State) (c : Nat) : Nat := s.outSize c - s.outUsed c

/-- The room that a picture needs (R393). -/
def State.outNeed (s : State) (c slices : Nat) : Nat := (s.shd (rVidEncHcap c)).toNat + 64 * (slices + 2)

/-- ENCODER_RDPTR_WRITE (R392, R393). -/
def State.encRdptr (s : State) (c : Nat) (v : Word) : State :=
  if !s.unitLive 10 (2 + c) then s
  else
    let n := s.outSize c / 64
    let r := fget v 0 26
    if n ≤ r ∨ s.outUsed c / 64 < (r + n - s.fld (rVidEncRdptr c) 0 26 % max 1 n) % max 1 n then
      s.violation (rVidEncRdptr c)
    else s.wr (rVidEncRdptr c) (BitVec.ofNat 32 r)

/-- ENCODER_RDPTR_WRITE. -/
def execEncoderRdptrWrite (c : Fin 8) (v : Word) (s : State) : Host.Outcome State Fault Refusal :=
  if !s.reaches 10 then .next s else .next (s.encRdptr c v)

/-! ### Start and stop (R391, R395, R404) -/

/-- The RTP template of channel `c` (R401). -/
def State.rtpTpl (s : State) (c : Nat) : List Byte :=
  ((List.range 32).flatMap (fun k => leBytes 4 (s.rd (rVidRtpTpl c k)).toNat)).take (s.fld (rVidRtpCfg c) 16 8)

/-- Offsets of the UDP and RTP headers in a template. -/
def State.rtpOff (s : State) (c : Nat) : Nat × Nat :=
  let ip := s.fld (rVidRtpCfg c) 0 8
  let u := ip + (if s.bit (rVidRtpCfg c) 27 then 40 else 4 * ((s.rtpTpl c).getD ip 0x45#8 &&& 0xF#8).toNat)
  (u, u + 8)

/-- RTP is enabled for channel `c`. -/
def State.rtpEn (s : State) (c : Nat) : Bool := s.bit (rVidRtpCfg c) 31

/-- The RTP header of the template has version 2, CC 0 and X 0 (R402). -/
def State.rtpOk (s : State) (c : Nat) : Bool := (s.rtpTpl c).getD (s.rtpOff c).2 0#8 &&& 0xDF#8 == 0x80#8

/-- The checks of START, in the order of the ERR table: the first error, 0 where all pass. -/
def State.encCheck (s : State) (c : Nat) (host : Bool) (stream : Nat) : Nat :=
  let g := s.encGeom c host stream
  let q := ctuGrid g.2.1 g.2.2
  let n := s.sliceCount c q.2
  let hcap := (s.shd (rVidEncHcap c)).toNat
  if hcap < fget (s.shd (rVidEncHdrlen c)) 0 12 + 64 + 136 * n + 8 * (q.1 * q.2) then 2
  else if s.outSize c < 2 * (hcap + 64 * (n + 2)) ∨ s.regionFits (rVidEncOut c) (s.outSize c) = false then 3
  else if s.rtpEn c && !s.rtpOk c then 4
  else 0

/-- VBV in bits (R404), of the shadow. -/
def State.vbvBits (s : State) (c : Nat) : Nat := fget (s.shd (rVidEncVbv c)) 8 24 * 1000

/-- ENCODER_START. -/
def State.encStart (s : State) (c : Nat) : State :=
  if !s.unitLive 10 (2 + c) then s
  else
    let host := s.bit (rVidEncCfg c) 31
    let st := s.encState c
    if st = 1 ∨ st = 2 then
      if st = 1 && !(s.enc c).host && host then s.setFld (rVidEncStat c) 24 4 1 else s.violation (rVidEncCmd c)
    else
      let stream := s.fld (rVidEncCfg c) 24 6
      match s.encCheck c host stream with
      | 0 =>
        let qp := s.shd (rVidEncQp c)
        let id := s.vidPick 65536
        let v : VEnc := { VEnc.init with
          host := host, stream := stream, req := (s.enc c).req, qpI := fget qp 0 6, qpP := fget qp 8 6, ident := id.1,
          pkts := (s.enc c).pkts }
        ((((id.2.setEnc c v).setEncState c 1).setFld (rVidEncStat c) 24 4 0).setFld (rVidEncStat c) 0 4 0).wr (rVidEncVbvlvl c)
          (BitVec.ofNat 32 (s.vbvBits c / 2))
      | e => s.encError c e

/-- ENCODER_START. -/
def execEncoderStart (c : Fin 8) (s : State) : Host.Outcome State Fault Refusal :=
  if !s.reaches 10 then .next s else .next (s.encStart c)

/-- A channel has come to its end: IDLE, its references and rate-control state gone; it releases its proxy. -/
def State.encIdle (s : State) (c : Nat) : State :=
  let v := s.enc c
  let s1 := if v.host then s else s.pxRelease v.stream (encReader c)
  ((s1.setEnc c { VEnc.init with req := v.req, pkts := v.pkts, ident := v.ident }).setEncState c 0).setFld (rVidEncStat c) 0 4 0

/-- ENCODER_STOP: the picture in coding completes first (R395). -/
def State.encStop (s : State) (c : Nat) : State :=
  if !s.unitLive 10 (2 + c) || s.encState c != 1 then s
  else if (s.enc c).pic.isSome then s.setEncState c 2 else s.encIdle c

/-- ENCODER_STOP. -/
def execEncoderStop (c : Fin 8) (s : State) : Host.Outcome State Fault Refusal :=
  if !s.reaches 10 then .next s else .next (s.encStop c)

/-! ### Requests (R389) -/

/-- A write of VID_ENCc_REQ: bits are ORed, for SLOT and the USE_LT mask the last write counts. -/
def State.encReq (s : State) (c : Nat) (v : Word) : State :=
  if !s.unitLive 10 (2 + c) then s
  else
    let e := s.enc c
    s.setEnc c { e with req := ((e.req ||| v) &&& 0xF0F00000#32) ||| (v &&& 0x030F0000#32) }

/-- REQUEST_IDR. -/
def execRequestIdr (c : Fin 8) (s : State) : Host.Outcome State Fault Refusal :=
  if !s.reaches 10 then .next s else .next (s.encReq c 0x80000000#32)

/-- REQUEST_REFRESH. -/
def execRequestRefresh (c : Fin 8) (s : State) : Host.Outcome State Fault Refusal :=
  if !s.reaches 10 then .next s else .next (s.encReq c 0x40000000#32)

/-- REQUEST_HEADER. -/
def execRequestHeader (c : Fin 8) (s : State) : Host.Outcome State Fault Refusal :=
  if !s.reaches 10 then .next s else .next (s.encReq c 0x20000000#32)

/-- MARK_LT. -/
def execMarkLt (c : Fin 8) (slot : Fin 4) (s : State) : Host.Outcome State Fault Refusal :=
  if !s.reaches 10 then .next s else
  .next (s.encReq c (BitVec.ofNat 32 (0x10000000 + slot.val * 2 ^ 24)))

/-- CLEAR_LT. -/
def execClearLt (c : Fin 8) (mask : BitVec 4) (s : State) : Host.Outcome State Fault Refusal :=
  if !s.reaches 10 then .next s else
  .next (s.encReq c (BitVec.ofNat 32 (mask.toNat * 2 ^ 20)))

/-- USE_LT. -/
def execUseLt (c : Fin 8) (mask : BitVec 4) (s : State) : Host.Outcome State Fault Refusal :=
  if !s.reaches 10 then .next s else
  .next (s.encReq c (BitVec.ofNat 32 (mask.toNat * 2 ^ 16)))

/-! ### Rate control (R390) -/

/-- round(6 × log2(n / d)); no tie exists, since no rational number has a twelfth power 2^(odd). -/
def sixLog2 (n d : Nat) : Int :=
  let a := n ^ 12
  let b := d ^ 12
  let l : Int := if b ≤ a then Nat.log2 (a / b) else -(Nat.log2 ((b + a - 1) / a - 1) : Int) - 1
  (l + 1) / 2

/-- t: target bits per picture; a RATE of 0 leaves it open. -/
def State.encTarget (s : State) (c : Nat) : Nat × State :=
  let r := (s.rd (rVidEncRate c)).toNat
  if r = 0 then s.vidPick (2 ^ 32) else ((s.rd (rVidEncBitrate c)).toNat * 1000 * 65536 / r, s)

/-- The target of a picture. -/
def State.picTarget (s : State) (c t : Nat) (intra : Bool) : Nat :=
  let ir := s.fld (rVidEncVbv c) 0 8
  let t0 := if intra then t * (if ir = 0 then 4 else ir) / 4 else t
  let v := (s.rd (rVidEncVbvlvl c)).toNat
  let vbv := s.fld (rVidEncVbv c) 8 24 * 1000
  match s.fld (rVidEncCfg c) 4 2 with
  | 0 => t0
  | 2 => min t0 (vbv - v)
  | _ => (max ((t0 / 4 : Nat) : Int) (min ((2 * t0 : Nat) : Int) ((t0 : Int) - ((v : Int) - (vbv / 2 : Nat)) / 8))).toNat

/-- qp_pic. -/
def State.picQp (s : State) (c : Nat) (v : VEnc) (intra : Bool) : Nat :=
  let q := s.rd (rVidEncQp c)
  let lo := fget q 16 6
  let hi := fget q 24 6
  if s.fld (rVidEncCfg c) 4 2 = 0 then fget q (if intra then 0 else 8) 6
  else
    let last := if intra then v.qpI else v.qpP
    match (if intra then v.lastI else v.lastP) with
    | none => clampNat lo hi last
    | some (b, t) =>
      if t = 0 then hi else if b = 0 then lo else clampNat lo hi ((last : Int) + sixLog2 b t).toNat

/-- V after a picture of `bits`. -/
def State.vbvAfter (s : State) (c t bits : Nat) : State :=
  let v := (s.rd (rVidEncVbvlvl c)).toNat
  match s.fld (rVidEncCfg c) 4 2 with
  | 0 => s
  | 2 => s.wr (rVidEncVbvlvl c) (BitVec.ofNat 32 (v + bits - t))
  | _ => s.wr (rVidEncVbvlvl c) (BitVec.ofNat 32 (min (v + bits - t) (s.fld (rVidEncVbv c) 8 24 * 1000)))

/-! ### A picture starts (R378, R385, R386, R388) -/

/-- The RWS registers of a channel commit at its next picture (R389). -/
def State.encCommit (s : State) (c : Nat) : State :=
  s.forEach [rVidEncCfg c, rVidEncPeriod c, rVidEncRate c, rVidEncBitrate c, rVidEncHcap c, rVidEncQp c, rVidEncVbv c,
    rVidEncHdrlen c] State.commit

/-- The kind of the next picture: an IDR, or the first of a refresh cycle of G pictures. -/
def State.encKind (s : State) (c : Nat) : Bool × Option Nat :=
  let v := s.enc c
  let gdr := s.fld (rVidEncCfg c) 8 2 == 1 && decide (6 ≤ c)
  let p := s.fld (rVidEncPeriod c) 0 16
  let g := clampNat 2 64 (s.fld (rVidEncPeriod c) 16 7)
  let idrReq := v.req.getLsbD 31
  let refReq := v.req.getLsbD 30
  if gdr then
    if v.count = 0 ∨ idrReq = true then (true, none)
    else (false, if refReq || v.redo || (p != 0 && decide (max p g ≤ v.since)) then some g else none)
  else (v.count == 0 || v.redo || idrReq || refReq || (p != 0 && v.count % p == 0), none)

/-- T_EXPO of a frame, from its ledger entry; zeros where the module holds none. -/
def State.frameTexpo (s : State) (i serial : Nat) : List Byte :=
  match (s.partOf i).bind (fun p => s.entry p serial) with
  | some e => e.texpo
  | none => List.replicate 12 0#8

/-- A core takes channel `c` for the picture in buffer `k` with SEQ `seq`, `passed` proxies passed over. -/
def State.encTake (s0 : State) (core c k seq passed : Nat) : State :=
  let s1 := s0.encCommit c
  let v := s1.enc c
  let kind := s1.encKind c
  let idr := kind.1
  let lead := s1.lead v.stream
  let a := if v.host then s1.hostBuf c k else match lead with | some p => s1.pxBufAddr p k | none => 0
  let d := s1.bufDesc a
  let g := descFmt d
  let q := ctuGrid g.2.1 g.2.2
  let intra := idr || kind.2.isSome
  let t := s1.encTarget c
  let s2 := t.2
  let target := s2.picTarget c t.1 intra
  let cyc := if idr then none else match kind.2 with
    | some n => some (0, n)
    | none => match v.cyc with
      | some (i, n) => if i < n then some (i, n) else none
      | none => none
  let clear := fget v.req 20 4
  let lt0 := (List.range 4).map (fun i => if idr || clear.testBit i then none else v.lt.getD i none)
  let poc := if idr then 0 else v.poc
  let use := fget v.req 16 4
  let prev := if idr then none else v.prev
  let longs := (List.range 4).filterMap (fun i => match lt0.getD i none with
    | some n => if prev == some n then none else some (n, use.testBit i)
    | none => none)
  let mark := v.req.getLsbD 28
  let lt1 := if mark then setAt lt0 (fget v.req 24 2) (some poc) else lt0
  let hdr := if intra || v.req.getLsbD 29 then s2.peek (s2.regionAddr (rVidEncHdr c)) (s2.fld (rVidEncHdrlen c) 0 12) else []
  let serial := leAt d 0x10 6
  let pic : VPic := {
    core := core, host := v.host, buf := k, seq := seq, serial := serial, epoch := leAt d 5 1,
    texpo := if v.host then List.replicate 12 0#8 else s2.frameTexpo v.stream serial,
    poc := poc, idr := idr, cycle := kind.2,
    cols := cyc.map (fun x => (x.1 * q.1 / x.2, (x.1 + 1) * q.1 / x.2)),
    header := hdr, passed := decide (0 < passed), marked := mark, shortRef := prev, longRefs := longs,
    qp := s2.picQp c v intra, target := target, rate := t.1, hcap := (s2.rd (rVidEncHcap c)).toNat,
    ctuW := q.1, ctuH := q.2, rows := s2.sliceRows c q.2, slices := max 1 (s2.sliceCount c q.2), slice := 0, bytes := 0,
    starved := false, forced := false,
    stamp := if v.host then s2.mint.total * 9 / 100000 else texpoNs (s2.frameTexpo v.stream serial) * 9 / 100000 }
  let s3 := if v.host then s2 else (s2.pxHold v.stream (encReader c)).1
  let s4 := s3.setEnc c { v with
    req := 0#32, last := some seq, count := v.count + 1, redo := false, since := if intra then 1 else v.since + 1,
    cyc := cyc.map (fun x => (x.1 + 1, x.2)), poc := poc + 1, prev := some poc, lt := lt1, pic := some pic }
  let s5 := s4.setFld (rVidEncStat c) 0 4 ((List.range 4).foldl (fun n i => n + (lt1.getD i none).isSome.toNat * 2 ^ i) 0)
  let s6 := s5.countN (rVidEncSkipProxy c) passed
  if c < 6 then s6.setVid { s6.vid with rr := c } else s6

/-- A picture for which the output ring has no room is not coded (R393). -/
def State.encSkip (s : State) (c seq : Nat) : State :=
  let v := s.enc c
  let s1 := (s.count (rVidEncOutSkip c)).raise 0x0C8 (2 + c)
  if v.host then (s1.setEnc c { v with last := some seq }).wr (rVidEncHostdone c) (BitVec.ofNat 32 seq)
  else s1.setEnc c { v with skip := some seq }

/-- The first ready channel of a list is taken; channels without room lose their picture. -/
def State.encTry (s : State) (core : Nat) : List Nat → State
  | [] => s
  | c :: l =>
    if s.encState c != 1 || (s.enc c).pic.isSome || !s.unitLive 10 (2 + c) then s.encTry core l
    else
      match s.encNext c with
      | none => s.encTry core l
      | some (k, seq, passed) =>
        let g := s.encGeom c (s.enc c).host (s.enc c).stream
        if s.outNeed c (s.sliceCount c (ctuGrid g.2.1 g.2.2).2) ≤ s.outFree c then s.encTake core c k seq passed
        else (s.encSkip c seq).encTry core l

/-- PICTURE_START (R378): channels 6 and 7 first, then 0 to 5 in round robin after the one served last. -/
def State.pictureStart (s : State) (core : Nat) : State :=
  let busy := (List.range 8).any (fun c => match (s.enc c).pic with | some p => p.core == core | none => false)
  if !s.unitLive 10 1 || busy || s.pxStopped then s
  else s.encTry core ([6, 7] ++ (List.range 6).map (fun i => (s.vid.rr + 1 + i) % 6))

/-- PICTURE_START. -/
def execPictureStart (core : Fin 4) (s : State) : Host.Outcome State Fault Refusal := .next (s.pictureStart core)

/-! ### NAL units (R381, R382) -/

/-- A start code. -/
def startCode : List Byte := [0#8, 0#8, 0#8, 1#8]

/-- Emulation prevention (ITU-T H.265): a byte 3 in front of a byte below 4 after two zero bytes. -/
def emulate : Nat → List Byte → List Byte
  | _, [] => []
  | z, b :: l =>
    if 2 ≤ z ∧ b.toNat < 4 then 3#8 :: b :: emulate (if b = 0#8 then 1 else 0) l
    else b :: emulate (if b = 0#8 then z + 1 else 0) l

/-- A prefix SEI NAL unit of one message, with its start code. -/
def seiNal (type : Nat) (payload : List Byte) : List Byte :=
  startCode ++ [0x4E#8, 0x01#8] ++ emulate 0 (leBytes 1 type ++ leBytes 1 payload.length ++ payload ++ [0x80#8])

/-- The UUID of the serial SEI (R382), each word most significant byte first. -/
def vidUuid : List Byte := beBytes 4 0x53554E44 ++ beBytes 4 0x464C4E42 ++ beBytes 4 0x53455249 ++ beBytes 4 0x414C0001

/-- Exp-Golomb code of a number. -/
def ueBits (n : Nat) : List Bool :=
  let w := bitLen (n + 1)
  List.replicate (w - 1) false ++ bitsHigh w (n + 1)

/-- The recovery point SEI of a cycle of G pictures: recovery_poc_cnt, exact_match_flag 1, broken_link_flag 0 (R386). -/
def recoverySei (g : Nat) : List Byte :=
  let b := ueBits (if g ≤ 1 then 0 else 2 * (g - 1) - 1) ++ [true, false]
  let r := if b.length % 8 = 0 then b else b ++ true :: List.replicate (7 - b.length % 8) false
  seiNal 6 ((List.range (r.length / 8)).map (fun i => BitVec.ofNat 8 (bitsMsb (slice r (8 * i) 8))))

/-- What stands in front of the first slice (R381). -/
def State.picPrefix (s : State) (c : Nat) (p : VPic) : List Byte :=
  p.header ++ (match p.cycle with | some g => recoverySei g | none => []) ++
  (if s.bit (rVidEncCfg c) 0 then seiNal 5 (vidUuid ++ beBytes 6 p.serial ++ beBytes 1 p.epoch) else [])

/-! ### Slices (R387, R391, R392, R394) -/

/-- The picture descriptor (R394). -/
def VPic.desc (p : VPic) (c qp len flags : Nat) : List Byte :=
  leBytes 4 0x43495056 ++ leBytes 1 1 ++ leBytes 1 c ++ leBytes 1 p.slice ++ leBytes 1 p.slices ++ leBytes 6 p.serial ++
  leBytes 1 p.epoch ++ leBytes 1 qp ++ p.texpo ++ leBytes 4 p.poc ++ leBytes 4 len ++ leBytes 4 flags ++ leBytes 4 p.target ++
  leBytes 4 p.seq ++ leBytes 4 p.bytes ++ List.replicate 12 0#8

/-- FLAGS of an entry. -/
def VPic.flagBits (p : VPic) : Nat :=
  p.idr.toNat + p.cycle.isSome.toNat * 2 + (decide (p.slice + 1 = p.slices)).toNat * 4 + p.starved.toNat * 8 + p.forced.toNat * 16 +
  (p.slice == 0 && !p.header.isEmpty).toNat * 32 + p.passed.toNat * 64 + p.marked.toNat * 128 + p.host.toNat * 512

/-- An entry goes to the output ring; one that does not fit before its end starts over at the ring start (R392). -/
def State.encEntry (s : State) (c : Nat) (desc data : List Byte) : State :=
  let n := s.outSize c
  let a := s.regionAddr (rVidEncOut c)
  let w := s.fld (rVidEncWrptr c) 0 26 * 64
  let len := 64 + roundUp data.length 64
  let wrap := decide (n < w + len)
  let s1 := if wrap && decide (w + 64 ≤ n) then
      s.bulkWrite 3 (a + w) (leBytes 4 0x43495056 ++ leBytes 1 1 ++ leBytes 1 c ++ List.replicate 30 0#8 ++ leBytes 4 0x100 ++
        List.replicate 24 0#8)
    else s
  let at_ := if wrap then 0 else w
  let s2 := s1.bulkWrite 3 (a + at_ + 64) (data ++ List.replicate (roundUp data.length 64 - data.length) 0#8)
  let s3 := s2.bulkWrite 3 (a + at_) desc
  s3.setFld (rVidEncWrptr c) 0 26 ((at_ + len) % max 1 n / 64)

/-- RTP payloads of a NAL unit: whole, or fragmentation units (R401). -/
def rtpPayloads (mtu : Nat) (nal : List Byte) : List (List Byte) :=
  if nal.length ≤ mtu - 12 then [nal]
  else
    let h := (nal.getD 0 0#8).toNat
    let body := nal.drop 2
    let m := max 1 (mtu - 15)
    let n := ceilDiv body.length m
    (List.range n).map fun i =>
      leBytes 1 (h % 2 + 49 * 2 + h / 128 * 128) ++ [nal.getD 1 0#8] ++
      leBytes 1 ((decide (i = 0)).toNat * 128 + (decide (i + 1 = n)).toNat * 64 + h / 2 % 64) ++ slice body (m * i) m

/-- The NAL units of an Annex B byte string, without start codes. -/
def splitNals (d : List Byte) : List (List Byte) :=
  let r := d.foldl (fun (st : List Byte × List (List Byte)) b =>
    if b = 1#8 ∧ st.1.take 2 = [0#8, 0#8] then ([], (st.1.dropWhile (· == 0#8)).reverse :: st.2) else (b :: st.1, st.2)) ([], [])
  (r.1.reverse :: r.2).reverse

/-- The packets of an entry join the channel's queue. -/
def State.rtpQueue (s : State) (c : Nat) (p : VPic) (data : List Byte) (last : Bool) : State :=
  if !s.rtpEn c || !s.unitLive 10 12 then s
  else
    let mtu := clampNat 256 9000 (s.fld (rVidRtpMtu c) 0 14)
    let ps := ((splitNals data).filter (fun n => !n.isEmpty)).flatMap (rtpPayloads mtu)
    let v := s.enc c
    s.setEnc c { v with pkts := v.pkts ++ (List.range ps.length).map (fun i =>
      (ps.getD i [], last && decide (i + 1 = ps.length), p.stamp)) }

/-- The end of a picture: counters, rate control, the source buffer, a channel that was stopping. -/
def State.encEnd (s : State) (c : Nat) (p : VPic) : State :=
  let v := s.enc c
  let intra := p.idr || p.cycle.isSome
  let bits := p.bytes * 8
  let v1 := { v with
    pic := none, qpI := if intra then p.qp else v.qpI, qpP := if intra then v.qpP else p.qp,
    lastI := if intra then some (bits, p.target) else v.lastI, lastP := if intra then v.lastP else some (bits, p.target) }
  let s1 := ((s.setEnc c v1).vbvAfter c p.rate bits).setFld (rVidEncStat c) 16 6 p.qp
  let s2 := if p.host then s1.wr (rVidEncHostdone c) (BitVec.ofNat 32 p.seq) else s1.pxRelease v.stream (encReader c)
  let s3 := (s2.count (rVidEncPictures c)).raise (0x0C0 + c) (2 + c)
  if s3.encState c = 2 then s3.encIdle c else s3

/-- Six times the bytes per pixel that a proxy of a format takes to read, and a reference to write or read (R379). -/
def codecBytes6 (fmt : Nat) : Nat × Nat :=
  match fmt with | 1 => (9, 9) | 2 => (18, 12) | _ => (24, 16)

/-- Bytes that a core moves for the current slice beside its output: proxy read, reference write, and a read of each
reference that the picture uses (R379). -/
def State.sliceBytes (s : State) (c : Nat) (p : VPic) : Nat :=
  let g := s.encGeom c p.host (s.enc c).stream
  let px := g.2.1 * (min g.2.2 (32 * p.rows * (p.slice + 1)) - 32 * p.rows * p.slice)
  let refs := p.shortRef.isSome.toNat + p.longRefs.countP (·.2)
  let k := codecBytes6 g.1
  ceilDiv (px * (k.1 + k.2 * (1 + refs))) 6

/-- Lines `[y0, y1)` of a picture are read, of both its planes (R414, R430). -/
def State.picRead (s : State) (p : LayerPic) (y0 y1 : Nat) : State :=
  let q := proxyGeom p.fmt p.w p.h
  let sub := if p.fmt = 1 ∨ p.fmt = 2 then 2 else 1
  let s1 := s.forEach (List.range (y1 - y0)) fun t k => (t.memRead (p.addr + (y0 + k) * p.pitch0) q.1).1
  if q.2.2 = 0 then s1
  else s1.forEach (List.range (y1 / sub - y0 / sub)) fun t k => (t.memRead (p.addr1 + (y0 / sub + k) * p.pitch1) q.2.1).1

/-- The picture that a proxy-buffer descriptor at `a` announces; none where TAG or FORMAT is not valid (R494). -/
def State.descPic (s : State) (a : Nat) : Option LayerPic :=
  let d := s.bufDesc a
  if leAt d 0 4 != 0x5850524F || decide (5 < leAt d 4 1) then none
  else
    let h := leAt d 8 2
    let p0 := leAt d 0x0A 2
    some ⟨a + 4096, leAt d 4 1, leAt d 6 2, h, p0, leAt d 0x0C 4, roundUp (a + 4096 + p0 * h) 4096⟩

/-- The core reads the source lines of the current slice. -/
def State.sliceRead (s : State) (c : Nat) (p : VPic) : State :=
  let a := if p.host then some (s.hostBuf c p.buf) else (s.lead (s.enc c).stream).map (fun k => s.pxBufAddr k p.buf)
  match a.bind s.descPic with
  | some q => s.picRead q (min q.h (32 * p.rows * p.slice)) (min q.h (32 * p.rows * (p.slice + 1)))
  | none => s

/-- SLICE_OUTPUT: the next slice of the picture in coding, while port 3 is served (R379). Its size is free within the hard cap (R391), and so are the points
where the picture becomes STARVED and FORCED, its mean QP where rate control or the cap moves it, and its bytes. -/
def State.sliceOutput (s : State) (c : Nat) : State :=
  match (s.enc c).pic with
  | none => s
  | some p =>
    if s.bulkWaits 3 then s else
    let pre := if p.slice = 0 then s.picPrefix c p else []
    let after := p.slices - p.slice - 1
    let ctusAfter := (p.ctuH - min p.ctuH ((p.slice + 1) * p.rows)) * p.ctuW
    let cap := p.hcap - 136 * after - (if p.idr then 8 else 3) * ctusAfter - p.bytes - pre.length
    let st := s.vidChoose
    let fo := st.2.vidChoose
    let starved := p.starved || st.1
    let forced := p.forced || (starved && fo.1)
    let len := fo.2.vidPick (cap - 8 + 1)
    let n := 8 + len.1
    let lo := if starved then 0 else len.2.fld (rVidEncQp c) 16 6
    let q := len.2.vidPick (52 - lo)
    let qp := if len.2.fld (rVidEncCfg c) 4 2 = 0 ∧ starved = false then p.qp else lo + q.1
    let id := q.2.vid.free
    let nal := startCode ++ [if p.idr then 0x26#8 else 0x02#8, 0x01#8] ++ (List.range (n - 6)).map (Config.vidByte id)
    let data := pre ++ nal
    let p1 := { p with bytes := p.bytes + data.length, starved := starved, forced := forced }
    let s1 := ((q.2.sliceRead c p).setVid { q.2.vid with free := id + 1 }).spend 3 (ceilDiv (s.sliceBytes c p) 64)
    let s2 := if starved && !p.starved then (s1.count (rVidEncStarved c)).raise 0x0C9 (2 + c) else s1
    let s3 := if forced && !p.forced then s2.count (rVidEncForced c) else s2
    let s4 := (s3.encEntry c (p1.desc c qp data.length p1.flagBits) data).rtpQueue c p1 data (decide (after = 0))
    if after = 0 then s4.encEnd c p1
    else s4.setEnc c { s4.enc c with pic := some { p1 with slice := p1.slice + 1 } }

/-- SLICE_OUTPUT. -/
def execSliceOutput (c : Fin 8) (s : State) : Host.Outcome State Fault Refusal :=
  .next (if s.unitLive 10 (2 + c) && s.unitLive 10 1 then s.sliceOutput c else s)

/-! ### RTP (R401, R402) -/

/-- A packet: the template with its computed fields, and the payload. -/
def State.rtpPacket (s : State) (c : Nat) (v : VEnc) (payload : List Byte) (m : Bool) (stamp : Nat) : List Byte :=
  let t := s.rtpTpl c
  let ip := s.fld (rVidRtpCfg c) 0 8
  let v6 := s.bit (rVidRtpCfg c) 27
  let u := (s.rtpOff c).1
  let r := (s.rtpOff c).2
  let ulen := 8 + 12 + payload.length
  let b1 := (t.getD (r + 1) 0#8 &&& 0x7F#8) ||| (if m then 0x80#8 else 0#8)
  let t1 := putAt t (r + 1) ([b1] ++ beBytes 2 (s.fld (rVidRtpSeq c) 0 16) ++ beBytes 4 (stamp + (s.rd (rVidRtpTsoff c)).toNat))
  let t2 := putAt t1 (u + 4) (beBytes 2 ulen)
  let t3 := if v6 then putAt t2 (ip + 4) (beBytes 2 ulen)
    else
      let x := putAt (putAt (putAt t2 (ip + 2) (beBytes 2 (u - ip + ulen))) (ip + 4) (beBytes 2 v.ident)) (ip + 10) [0#8, 0#8]
      putAt x (ip + 10) (beBytes 2 (onesSum (words16 (slice x ip (u - ip)))))
  let f := t3 ++ payload
  putAt f (u + 6) (beBytes 2 (udpSum f ip u v6))

/-- RTP packets wait for port `m`. -/
def State.rtpWaiting (s : State) (m : Nat) : Bool :=
  (List.range 8).any (fun c => !(s.enc c).pkts.isEmpty && s.fld (rVidRtpCfg c) 28 1 == m)

/-- RTP_PACKET_SEND: the next packet of channel `c` goes to TQ3 of its port, after TQ0 (R481); a port that is down or fenced
drops it. -/
def State.rtpSend (s : State) (c : Nat) : State :=
  let v := s.enc c
  let m := s.fld (rVidRtpCfg c) 28 1
  match v.pkts with
  | [] => s
  | (payload, m1, stamp) :: rest =>
    if !s.unitLive 10 12 || s.pxStopped || !s.serving then s
    else
      let s1 := (s.setEnc c { v with pkts := rest, ident := (v.ident + 1) % 65536 }).setFld (rVidRtpSeq c) 0 16
        (s.fld (rVidRtpSeq c) 0 16 + 1)
      if !s.netUp m then (s1.count (rVidRtpDropped c)).raise 0x0CC 12
      else if s.txBusy m 3 false then s
      else (s1.netSend m 3 (s.rtpPacket c v payload m1 stamp)).count (rVidRtpSent c)

/-- RTP_PACKET_SEND. -/
def execRtpPacketSend (c : Fin 8) (s : State) : Host.Outcome State Fault Refusal := .next (s.rtpSend c)

/-- ETHERNET_FRAME_TRANSMIT (R481, R483). -/
def execEthernetFrameTransmit (port : Fin 2) (queue : Fin 3) (desc frame : List Byte) (stamp : Nat) (s : State) :
    Host.Outcome State Fault Refusal := .next (s.frameTransmit port queue desc frame stamp (s.rtpWaiting port))

/-! ### Interruptions (R396) -/

/-- PFW: pictures in coding are abandoned, channels that run go to ERROR with POWER. -/
def State.encPower (s : State) : State :=
  s.forEach (idxs 8 (fun c => s.encState c == 1 || s.encState c == 2)) fun t c =>
    ((t.encIdle c).encError c 5)

/-- VID fenced: every channel stops at once. -/
def State.encFence (s : State) (chs : List Nat) : State :=
  s.forEach (chs.filter (fun c => s.encState c == 1 || s.encState c == 2)) fun t c => t.encIdle c

/-- At ARM of a stream its proxies count SEQ from 1 again (R301). -/
def State.encArm (s : State) (i : Nat) : State :=
  s.forEach (List.range 8) fun t c =>
    let v := t.enc c
    if v.stream = i ∧ v.host = false then t.setEnc c { v with last := none, skip := none } else t

end Sys2Proof.Machine
end

