-- ==== Sys2Proof/Machine/Decoder.lean ====
section
/-! DEFINITION. HEVC decoding (14): the input ring, NAL units, parameter sets, output order by ITU-T H.265 C.5.2, output
buffers and robustness. Sample values and the places where damaged input fails are free values. -/

namespace Sys2Proof.Machine

open Sys2Proof

/-- A decoder channel at reset. -/
def VDec.init : VDec := ⟨[], [], none, none, none, true, false, 0, none, [], [], [], true, false, [], [], 0⟩

/-- Decoder channel `d`. -/
def State.dec (s : State) (d : Nat) : VDec := Map.get (fun _ => VDec.init) s.vid.dec d

/-- Put it. -/
def State.setDec (s : State) (d : Nat) (v : VDec) : State :=
  s.setVid { s.vid with dec := Map.set (fun _ => VDec.init) s.vid.dec d v }

/-- STATE of decoder `d`: 0 IDLE, 1 SEEK, 2 DECODING, 3 DRAINING. -/
def State.decState (s : State) (d : Nat) : Nat := s.fld (rVidDecStat d) 28 4

/-- NBUF, MAXW, MAXH. -/
def State.decNbuf (s : State) (d : Nat) : Nat := s.fld (rVidDecCfg d) 0 4
def State.decMax (s : State) (d : Nat) : Nat × Nat := (s.fld (rVidDecMax d) 0 14, s.fld (rVidDecMax d) 16 15)

/-! ### Syntax (ITU-T H.265) -/

/-- An Exp-Golomb code. -/
def ueTake (l : List Bool) : Option (Nat × List Bool) :=
  let z := (l.takeWhile (· == false)).length
  if 32 < z then none
  else
    match l.drop z with
    | [] => none
    | _ :: r => (takeBits z r).map (fun x => (2 ^ z - 1 + x.1, x.2))

/-- Emulation prevention bytes removed. -/
def unescape : Nat → List Byte → List Byte
  | _, [] => []
  | z, b :: l =>
    if 2 ≤ z ∧ b = 3#8 then unescape 0 l else b :: unescape (if b = 0#8 then z + 1 else 0) l

/-- The payload bits of a NAL unit, up to `n` bytes. -/
def rbsp (n : Nat) (nal : List Byte) : List Bool := bytesBits ((unescape 0 (nal.take n)).drop 2)

/-- `n` Exp-Golomb codes. -/
def ueSkip : Nat → List Bool → Option (List Bool)
  | 0, l => some l
  | n + 1, l => (ueTake l).bind (fun x => ueSkip n x.2)

/-- The last of the sub-layer ordering triples: max_dec_pic_buffering_minus1, num_reorder, latency_increase_plus1. -/
def ordering : Nat → List Bool → Option ((Nat × Nat × Nat) × List Bool)
  | 0, _ => none
  | n + 1, l => do
    let a ← ueTake l
    let b ← ueTake a.2
    let c ← ueTake b.2
    if n = 0 then some ((a.1, b.1, c.1), c.2) else ordering n c.2

/-- A signed Exp-Golomb value. -/
def seVal (k : Nat) : Int := if k % 2 = 1 then ((k + 1) / 2 : Nat) else -((k / 2 : Nat) : Int)

/-- One matrix of scaling list data, of size `z`, skipped. -/
def scalingMatrix (z : Nat) (l0 : List Bool) : Option (List Bool) := do
  let (mode, l) ← takeBits 1 l0
  if mode = 0 then (ueTake l).map (·.2) else ueSkip ((if 1 < z then 1 else 0) + min 64 (2 ^ (4 + 2 * z))) l

/-- Scaling list data skipped. -/
def scalingData (l : List Bool) : Option (List Bool) :=
  (List.replicate 6 0 ++ List.replicate 6 1 ++ List.replicate 6 2 ++ [3, 3]).foldl (fun r z => r.bind (scalingMatrix z)) (some l)

/-- `n` flags of a predicted reference picture set: used_by_curr_pic_flag and use_delta_flag. -/
def deltaFlags : Nat → List Bool → Option (List (Bool × Bool) × List Bool)
  | 0, l => some ([], l)
  | n + 1, l0 => do
    let (used, l) ← takeBits 1 l0
    let (use, l) ← (if used = 1 then some (1, l) else takeBits 1 l)
    let (r, l) ← deltaFlags n l
    some ((used == 1, use == 1) :: r, l)

/-- `n` entries of a reference picture set, each `sign` times one more than its code away from the last at `at_`. -/
def deltaPocs (sign : Int) : Nat → Int → List Bool → Option (List (Int × Bool) × List Bool)
  | 0, _, l => some ([], l)
  | n + 1, at_, l0 => do
    let (k, l) ← ueTake l0
    let (used, l) ← takeBits 1 l
    let p := at_ + sign * ((k : Int) + 1)
    let (r, l) ← deltaPocs sign n p l
    some ((p, used == 1) :: r, l)

/-- A short-term reference picture set (H.265 7.3.7, 7.4.8), number `idx` after the sets `sets`; `slice` where a slice header
holds it. -/
def parseSet (sets : List (List (Int × Bool) × List (Int × Bool))) (slice : Bool) (l0 : List Bool) :
    Option ((List (Int × Bool) × List (Int × Bool)) × List Bool) := do
  let idx := sets.length
  let (inter, l) ← (if idx = 0 then some (0, l0) else takeBits 1 l0)
  if inter = 1 then
    let (back, l) ← (if slice then ueTake l else some (0, l))
    let (sign, l) ← takeBits 1 l
    let (mag, l) ← ueTake l
    let ref ← (if back + 1 ≤ idx then sets[idx - (back + 1)]? else none)
    let delta : Int := if sign = 1 then -((mag : Int) + 1) else (mag : Int) + 1
    let n := ref.1.length
    let m := ref.2.length
    let (f, l) ← deltaFlags (n + m + 1) l
    let pick := fun (j : Nat) (p : Int) => match f[j]? with
      | some (used, use) => if use then [(p, used)] else []
      | none => []
    let neg := (List.range n).map fun j => pick j ((ref.1.getD j (0, false)).1 + delta)
    let pos := (List.range m).map fun j => pick (n + j) ((ref.2.getD j (0, false)).1 + delta)
    let own := pick (n + m) delta
    let below := fun (x : List (Int × Bool)) => x.filter (fun e => decide (e.1 < 0))
    let above := fun (x : List (Int × Bool)) => x.filter (fun e => decide (0 < e.1))
    some ((below (pos.reverse.flatten ++ own ++ neg.flatten), above (neg.reverse.flatten ++ own ++ pos.flatten)), l)
  else
    let (n, l) ← ueTake l
    let (m, l) ← ueTake l
    if 16 < n ∨ 16 < m then none
    else
      let (neg, l) ← deltaPocs (-1) n 0 l
      let (pos, l) ← deltaPocs 1 m 0 l
      some ((neg, pos), l)

/-- `n` further sets of a sequence parameter set. -/
def parseSets : Nat → List (List (Int × Bool) × List (Int × Bool)) → List Bool →
    Option (List (List (Int × Bool) × List (Int × Bool)) × List Bool)
  | 0, sets, l => some (sets, l)
  | n + 1, sets, l => (parseSet sets false l).bind (fun r => parseSets n (sets ++ [r.1]) r.2)

/-- `n` long-term candidates of a sequence parameter set. -/
def parseLongs (bits : Nat) : Nat → List Bool → Option (List (Nat × Bool) × List Bool)
  | 0, l => some ([], l)
  | n + 1, l0 => do
    let (lsb, l) ← takeBits bits l0
    let (used, l) ← takeBits 1 l
    let (r, l) ← parseLongs bits n l
    some ((lsb, used == 1) :: r, l)

/-- What a sequence parameter set says of references, from the coding block sizes on: its sets and long-term candidates. -/
def parseRefs (pocBits : Nat) (l0 : List Bool) :
    Option (List (List (Int × Bool) × List (Int × Bool)) × Option (List (Nat × Bool))) := do
  let l ← ueSkip 6 l0
  let (scaling, l) ← takeBits 1 l
  let (data, l) ← (if scaling = 1 then takeBits 1 l else some (0, l))
  let l ← (if data = 1 then scalingData l else some l)
  let (_, l) ← takeBits 2 l
  let (pcm, l) ← takeBits 1 l
  let l ← (if pcm = 1 then (takeBits 8 l).bind (fun x => (ueSkip 2 x.2).bind (fun y => (takeBits 1 y).map (·.2))) else some l)
  let (n, l) ← ueTake l
  if 64 < n then none
  else
    let (sets, l) ← parseSets n [] l
    let (long, l) ← takeBits 1 l
    if long = 0 then some (sets, none)
    else
      let (k, l) ← ueTake l
      if 32 < k then none else (parseLongs pocBits k l).map (fun r => (sets, some r.1))

/-- A sequence parameter set, up to the fields that R398 and R400 need: usable where profile, tier, level, size, format and buffering
lie within its limits. -/
def parseSps (nbuf maxW maxH : Nat) (l0 : List Bool) : Option VSps := do
  let (_, l) ← takeBits 4 l0
  let (sub, l) ← takeBits 3 l
  let (_, l) ← takeBits 3 l
  let (tier, l) ← takeBits 1 l
  let (prof, l) ← takeBits 5 l
  let (_, l) ← takeBits 80 l
  let (level, l) ← takeBits 8 l
  let (subs, l) ← (if sub = 0 then some (0, l) else takeBits 16 l)
  let np := (List.range sub).countP (fun i => subs.testBit (15 - 2 * i))
  let nl := (List.range sub).countP (fun i => subs.testBit (14 - 2 * i))
  let (_, l) ← takeBits (88 * np + 8 * nl) l
  let (id, l) ← ueTake l
  let (chroma, l) ← ueTake l
  let (planes, l) ← (if chroma = 3 then takeBits 1 l else some (0, l))
  let (w, l) ← ueTake l
  let (h, l) ← ueTake l
  let (win, l) ← takeBits 1 l
  let (x0, l) ← (if win = 1 then ueTake l else some (0, l))
  let (x1, l) ← (if win = 1 then ueTake l else some (0, l))
  let (y0, l) ← (if win = 1 then ueTake l else some (0, l))
  let (y1, l) ← (if win = 1 then ueTake l else some (0, l))
  let (bl, l) ← ueTake l
  let (bc, l) ← ueTake l
  let (pb, l) ← ueTake l
  let (ord, l) ← takeBits 1 l
  let ((buf, reorder, lat), l) ← ordering (if ord = 1 then sub + 1 else 1) l
  let (sets, longs) ← parseRefs (pb + 4) l
  let sx := if chroma = 1 ∨ chroma = 2 then 2 else 1
  let sy := if chroma = 1 then 2 else 1
  let ok := (prof == 1 || prof == 2 || prof == 4) && tier == 0 && decide (level ≤ 186) && decide (w ≤ maxW) && decide (h ≤ maxH) &&
    decide (buf + 1 < nbuf) && (chroma == 1 || (chroma == 2 && prof == 4)) && (bl == bc) && (bl == 0 || (bl == 2 && prof != 1)) &&
    decide (pb ≤ 12)
  some ⟨id, ok, if chroma = 2 then 3 else if bl = 0 then 1 else 2, bl == 0, w - sx * (x0 + x1), h - sy * (y0 + y1), pb + 4,
    planes == 1, reorder, if lat = 0 then 0 else reorder + lat - 1, buf + 1, sets, longs⟩

/-- A picture parameter set: id, SPS id, output_flag_present_flag, num_extra_slice_header_bits. -/
def parsePps (l0 : List Bool) : Option (Nat × Nat × Bool × Nat) := do
  let (id, l) ← ueTake l0
  let (sps, l) ← ueTake l
  let (_, l) ← takeBits 1 l
  let (out, l) ← takeBits 1 l
  let (extra, _) ← takeBits 3 l
  some (id, sps, out == 1, extra)

/-- What the first slice of a picture says: its sequence parameter set, no_output_of_prior_pics_flag, pic_output_flag,
PicOrderCnt least significant bits, and its reference picture set: PicOrderCnt differences of short-term pictures, and
long-term pictures with their difference of the most significant bits where given, each with its used flag. -/
structure VHead where
  sps : VSps
  noPrior : Bool
  output : Bool
  lsb : Nat
  shorts : List (Int × Bool)
  longs : List (Nat × Option Nat × Bool)
  deriving DecidableEq, Repr

/-- The long-term entries of a slice header (H.265 7.3.6.1): `k` from the candidates `cand`, then `n` of its own; the
differences of the most significant bits add up within each part. -/
def headLongs (bits : Nat) (cand : List (Nat × Bool)) : Nat → Nat → Nat → List Bool → Option (List (Nat × Option Nat × Bool) × List Bool)
  | 0, _, _, l => some ([], l)
  | n + 1, k, sum, l0 => do
    let w := bitLen (cand.length - 1)
    let (lsb, used, l) ← (if 0 < k then (takeBits w l0).map (fun x => let c := cand.getD x.1 (0, false); (c.1, c.2, x.2))
      else (takeBits bits l0).bind (fun x => (takeBits 1 x.2).map (fun y => (x.1, y.1 == 1, y.2))))
    let (msb, l) ← takeBits 1 l
    let (d, l) ← (if msb = 1 then ueTake l else some (0, l))
    let (r, l) ← headLongs bits cand n (k - 1) (if k = 1 then 0 else sum + d) l
    some ((lsb, if msb = 1 then some (sum + d) else none, used) :: r, l)

/-- The header of a first slice of NAL type `t`. -/
def parseHead (v : VDec) (t : Nat) (l0 : List Bool) : Option VHead := do
  let (_, l) ← takeBits 1 l0
  let (prior, l) ← (if 16 ≤ t then takeBits 1 l else some (0, l))
  let (id, l) ← ueTake l
  let pps ← v.pps.find? (fun p => p.1 == id)
  let sps ← v.sps.find? (fun p => p.id == pps.2.1)
  let (_, l) ← takeBits pps.2.2.2 l
  let (_, l) ← ueTake l
  let (out, l) ← (if pps.2.2.1 then takeBits 1 l else some (1, l))
  let (_, l) ← (if sps.planes then takeBits 2 l else some (0, l))
  if t = 19 ∨ t = 20 then some ⟨sps, prior == 1, out == 1, 0, [], []⟩
  else
    let (lsb, l) ← takeBits sps.pocBits l
    let (listed, l) ← takeBits 1 l
    let (set, l) ← (if listed = 0 then parseSet sps.sets true l
      else (takeBits (bitLen (sps.sets.length - 1)) l).bind (fun x => (sps.sets[x.1]?).map (fun r => (r, x.2))))
    let (longs, _) ← (match sps.longs with
      | none => some ([], l)
      | some cand => do
        let (k, l) ← (if cand.isEmpty then some (0, l) else ueTake l)
        let (n, l) ← ueTake l
        if 32 < k + n then none else headLongs sps.pocBits cand (k + n) k 0 l)
    some ⟨sps, prior == 1, out == 1, lsb, set.1 ++ set.2, longs⟩

/-- The messages of an SEI payload: type and bytes. -/
def seiMessages : Nat → List Byte → List (Nat × List Byte)
  | 0, _ => []
  | fuel + 1, b =>
    let t := (b.takeWhile (· == 0xFF#8)).length
    let b1 := b.drop t
    let ty := 255 * t + (b1.getD 0 0#8).toNat
    let b2 := b1.drop 1
    let n := (b2.takeWhile (· == 0xFF#8)).length
    let size := 255 * n + (b2.getD n 0#8).toNat
    let b3 := b2.drop (n + 1)
    if b3.length ≤ size then [] else (ty, b3.take size) :: seiMessages fuel (b3.drop size)

/-- A serial SEI and a recovery point SEI are kept for the access unit to come (R386, R399). -/
def VDec.sei (v : VDec) (nal : List Byte) : VDec :=
  (seiMessages 16 ((unescape 0 nal).drop 2)).foldl (fun w m =>
    if m.1 = 5 ∧ m.2.take 16 = vidUuid then { w with seiSerial := some (beNat (slice m.2 16 6), beNat (slice m.2 22 1)) }
    else if m.1 = 6 then
      match ueTake (bytesBits m.2) with
      | some (k, _) => { w with seiRec := some (seVal k) }
      | none => w
    else w) v

/-! ### Pictures (R398 to R400) -/

/-- An event of R400: its counter, its flag bits, and DEC_ERROR once per picture for that flag. -/
def State.decErr (s : State) (d reg bits : Nat) : State :=
  let v := s.dec d
  let s1 := s.count reg
  match v.cur with
  | none => s1.raise 0x0CB (10 + d)
  | some p =>
    let s2 := s1.setDec d { v with cur := some { p with flags := p.flags ||| bits } }
    if p.flags &&& bits = bits then s2 else s2.raise 0x0CB (10 + d)

/-- What a slice of the picture in progress meets: a syntax error, an address out of bounds, or nothing. -/
def State.decSlice (s : State) (d : Nat) : State :=
  let a := s.vidChoose
  let c := a.2.vidChoose
  let s1 := if a.1 then c.2.decErr d (rVidDecSyntax d) 1 else c.2
  if c.1 then s1.decErr d (rVidDecBounds d) 9 else s1

/-- Address of output buffer `k`; every buffer is sized for MAXW × MAXH in the largest format (R399). -/
def State.decBuf (s : State) (d k : Nat) : Nat :=
  s.regionAddr (rVidDecOut d) + k * bufBytes 3 (s.decMax d).1 (s.decMax d).2

/-- The samples of a picture as they stand in its buffer. -/
def decPlane (n fmt : Nat) (eight : Bool) (first count : Nat) : List Byte :=
  (List.range count).flatMap fun i =>
    let v := (Config.decSample n (first + i)).toNat
    codeBytes fmt (if eight then (if fmt = 3 then v % 256 * 4 else v % 256) else v)

/-- Write the planes of a picture of `sps` into buffer `k` through port 3; `line` gives the bytes of one line from the number
of its first sample. -/
def State.writePlanes (s : State) (d k : Nat) (sps : VSps) (line : Nat → List Byte) : State :=
  let q := proxyGeom sps.fmt sps.w sps.h
  let a := s.decBuf d k
  let p0 := roundUp q.1 64
  let p1 := roundUp q.2.1 64
  let b := roundUp (4096 + p0 * sps.h) 4096
  let s1 := s.forEach (List.range sps.h) fun t l => t.bulkWrite 3 (a + 4096 + l * p0) (line (l * sps.w))
  s1.forEach (List.range q.2.2) fun t l => t.bulkWrite 3 (a + b + l * p1) (line (sps.h * sps.w + l * sps.w))

/-- Write a decoded picture; each reference that it uses is read once (R379). -/
def State.writeDecoded (s : State) (d : Nat) (p : VOut) : State :=
  let n := s.vid.free
  let q := proxyGeom p.sps.fmt p.sps.w p.sps.h
  ((s.setVid { s.vid with free := n + 1 }).spend 3 (ceilDiv (p.uses * (q.1 * p.sps.h + q.2.1 * q.2.2)) 64)).writePlanes d p.buf p.sps
    fun first => decPlane n p.sps.fmt p.sps.eight first p.sps.w

/-- A generated picture has every sample at half the range (R400). -/
def State.writeGrey (s : State) (d k : Nat) (sps : VSps) : State :=
  s.writePlanes d k sps fun _ => (List.replicate sps.w (codeBytes sps.fmt (if sps.fmt ≤ 1 then 128 else 512))).flatten

/-- The picture with the lowest PicOrderCnt of a list. -/
def lowestPoc : List VOut → Option VOut
  | [] => none
  | p :: l => match lowestPoc l with
    | some q => if q.poc < p.poc then some q else some p
    | none => some p

/-- Pictures in the decoded picture buffer: those to be output and those used for reference. -/
def VDec.fullness (v : VDec) : Nat := v.dpb.length + v.refs.countP (fun r => !v.dpb.any (fun p => p.buf == r.buf))

/-- Bumping (C.5.2.4): the lowest PicOrderCnt is output first, until the limits of `sps` hold; `mode` 0 after a picture, 1 before
one, where the buffer must also have room for it, 2 for all of them. -/
def VDec.bump (v : VDec) (sps : VSps) (mode : Nat) : Nat → VDec
  | 0 => v
  | fuel + 1 =>
    let full := mode == 2 || (mode == 1 && decide (sps.buffers ≤ v.fullness)) || decide (sps.reorder < v.dpb.length) || (sps.latency != 0 && v.dpb.any (fun p => decide (sps.latency ≤ p.wait)))
    match lowestPoc v.dpb with
    | none => v
    | some p => if full then ({ v with dpb := v.dpb.erase p, ready := v.ready ++ [p] } : VDec).bump sps mode fuel else v

/-- The picture in progress ends: CTUs not covered are concealed, and it joins the decoded picture buffer (R400, C.5.2.3). -/
def State.decFinish (s0 : State) (d : Nat) : State :=
  match (s0.dec d).cur with
  | none => s0
  | some p0 =>
    let u := s0.vidChoose
    let s := if u.1 && p0.flags % 2 == 0 then (u.2.setDec d { u.2.dec d with cur := some { p0 with flags := p0.flags ||| 1 } }).raise 0x0CB (10 + d)
      else u.2
    let p := ((s.dec d).cur).getD p0
    let s1 := if p.flags % 2 = 1 then s.count (rVidDecConcealed d) else s
    let s2 := s1.writeDecoded d p
    let v := s2.dec d
    let old := if p.output then v.dpb.map (fun q => if p.poc < q.poc then { q with wait := q.wait + 1 } else q) else v.dpb
    let v1 := { v with cur := none, dpb := if p.output then old ++ [p] else old, refs := v.refs ++ [(⟨p.buf, p.poc, false, false⟩ : VRef)] }
    s2.setDec d (v1.bump p.sps 0 (v1.dpb.length + 1))

/-- Buffers that hold no picture still to be output or used for reference and that no display layer holds (R399). -/
def State.decFree (s : State) (d : Nat) : List Nat :=
  let v := s.dec d
  let used := (match v.cur with | some p => [p.buf] | none => []) ++ (v.dpb ++ v.ready).map (·.buf) ++ v.refs.map (·.buf) ++ v.held.map (·.1)
  idxs (s.decNbuf d) (fun k => !used.contains k)

/-- STAT follows seeking. -/
def State.setSeek (s : State) (d : Nat) (b : Bool) : State :=
  let s1 := s.setDec d { s.dec d with seek := b }
  if s.decState d = 3 then s1 else s1.setFld (rVidDecStat d) 28 4 (if b then 1 else 2)

/-- Pictures are left out up to the next usable IRAP. -/
def State.setBlocked (s : State) (d : Nat) (b : Bool) : State :=
  let s1 := s.setSeek d b
  s1.setDec d { s1.dec d with blocked := b, first := b || (s1.dec d).first }

/-- A slice that cannot be read. -/
def State.decBad (s : State) (d : Nat) : State := (s.count (rVidDecSyntax d)).raise 0x0CB (10 + d)

/-- PicOrderCnt from its least significant bits (H.265 8.3.1). -/
def pocOf (prev : Int) (bits lsb : Nat) : Int :=
  let m : Int := (2 ^ bits : Nat)
  let pl := prev % m
  let msb := prev - pl
  if (lsb : Int) < pl ∧ m / 2 ≤ pl - lsb then msb + m + lsb
  else if pl < (lsb : Int) ∧ m / 2 < (lsb : Int) - pl then msb - m + lsb
  else msb + lsb

/-- A reference that a picture names: its PicOrderCnt, long-term, used by the picture, and the picture where it stands. -/
structure VName where
  poc : Int
  long : Bool
  used : Bool
  found : Option VRef
  deriving DecidableEq, Repr

/-- The references that the first slice of the picture `poc` names (H.265 8.3.2); long-term pictures are named by PicOrderCnt
or by its least significant bits. -/
def VHead.names (h : VHead) (poc : Int) (refs : List VRef) : List VName :=
  let m : Int := (2 ^ h.sps.pocBits : Nat)
  (h.longs.map fun (lsb, msb, used) =>
    match msb with
    | some c =>
      let p := poc - c * m - poc % m + lsb
      ⟨p, true, used, refs.find? (fun r => r.poc == p)⟩
    | none => ⟨lsb, true, used, refs.find? (fun r => r.poc % m == (lsb : Int))⟩) ++
  h.shorts.map fun (dp, used) => ⟨poc + dp, false, used, refs.find? (fun r => r.poc == poc + dp && !r.long)⟩

/-- The first slice of a picture of NAL type `t` and temporal id `tid`; false where the decoder waits for a buffer. References
that it does not name are given up, those missing are generated, but for the picture that begins a sequence (R398, R400). -/
def State.decNew (s : State) (d t tid : Nat) (nal : List Byte) : State × Bool :=
  let v := s.dec d
  match parseHead v t (rbsp 400 nal) with
  | none => (s.decBad d, true)
  | some h =>
    let irap := decide (16 ≤ t) && decide (t ≤ 23)
    let fresh := irap && (decide (t ≤ 20) || v.first)
    if h.sps.usable = false then ((s.count (rVidDecUnsupported d)).setBlocked d true, true)
    else if (t == 8 || t == 9) && v.noRasl then (s, true)
    else
      let poc := if fresh || v.first then (h.lsb : Int) else pocOf v.prevPoc h.sps.pocBits h.lsb
      let names := if fresh then [] else h.names poc v.refs
      let kept := { v with refs := names.filterMap (fun (n : VName) => n.found.map (fun (r : VRef) => { r with long := n.long })) }
      let v1 := if fresh && (t == 21 || h.noPrior) then { kept with dpb := [] }
        else kept.bump h.sps (if fresh then 2 else 1) (v.dpb.length + 1)
      let miss := names.filter (fun (n : VName) => n.found.isNone)
      let s1 := s.setDec d v1
      let cand := s1.decFree d
      if cand.length ≤ miss.length then (s1, false)
      else
        let k := s1.vidPick (cand.length - miss.length)
        let buf := cand.getD k.1 0
        let made := ((cand.erase buf).zip miss).map (fun (b, n) => (⟨b, n.poc, n.long, true⟩ : VRef))
        let rec_ := if irap then none
          else if v.first then v.seiRec.map (poc + ·) else v.recover
        let rec1 := match rec_ with | some r => if poc < r then some r else none | none => none
        let keep := tid == 0 && !(6 ≤ t && t ≤ 9) && !(t ≤ 14 && t % 2 == 0)
        let ser := v.seiSerial.getD (2 ^ 48 - 1, 0)
        let grey := names.any (fun (n : VName) => n.used && match n.found with | some r => r.made | none => true)
        let p : VOut := ⟨buf, poc, h.sps, ser.1, ser.2, (if rec1.isSome then 16 else 0) + (if grey then 2 else 0), h.output, 0,
          names.countP (fun (n : VName) => n.used)⟩
        let s2 := (k.2.forEach made (fun u r => u.writeGrey d r.buf h.sps)).countN (rVidDecMissingRef d) miss.length
        let s3 := if miss.isEmpty then s2 else s2.raise 0x0CB (10 + d)
        ((s3.setDec d { s3.dec d with
          cur := some p, refs := v1.refs ++ made, seqs := v.seqs.filter (fun q => q.1 != buf && made.all (fun r => r.buf != q.1)),
          seiSerial := none, seiRec := none, recover := rec1, first := false, seek := false, blocked := false,
          noRasl := if irap then fresh else v.noRasl, prevPoc := if keep then poc else v.prevPoc }).decSlice d, true)

/-- A parameter set or SEI NAL unit of type `t`: 32 VPS, 33 SPS, 34 PPS, 39 and 40 SEI. -/
def State.decSet (s : State) (d t : Nat) (nal : List Byte) : State :=
  let v := s.dec d
  if t = 33 then
    match parseSps (s.decNbuf d) (s.decMax d).1 (s.decMax d).2 (rbsp nal.length nal) with
    | some p => s.setDec d { v with sps := p :: v.sps.filter (fun q => q.id != p.id) }
    | none => s.decBad d
  else if t = 34 then
    match parsePps (rbsp nal.length nal) with
    | some p => s.setDec d { v with pps := p :: v.pps.filter (fun q => q.1 != p.1) }
    | none => s.decBad d
  else if t = 32 then s
  else s.setDec d (v.sei nal)

/-- A NAL unit while the channel waits for a usable sequence: `head` where it begins a picture, outside an IRAP. -/
def State.decBlocked (s : State) (d t : Nat) (head : Bool) (nal : List Byte) : State :=
  let v := s.dec d
  if t = 36 ∨ t = 37 then s.setDec d { v with first := true }
  else if head && t < 10 then
    match parseHead v t (rbsp 400 nal) with
    | some h => if h.sps.usable then s else s.count (rVidDecUnsupported d)
    | none => s
  else s

/-- A further slice of the picture in progress. -/
def State.decMore (s : State) (d t : Nat) : State :=
  let v := s.dec d
  if (t == 8 || t == 9) && v.noRasl then s
  else match v.cur with
    | none => s.decBad d
    | some p => if p.flags.testBit 2 then s else s.decSlice d

/-- A slice or end NAL unit of type `t`; `head` where it begins a picture. The flag says whether the unit was taken. -/
def State.decVcl (s : State) (d t tid : Nat) (head : Bool) (nal : List Byte) : State × Bool :=
  let v := s.dec d
  let irap := 16 ≤ t && t ≤ 21
  let starts := head && (irap || (s.bit (rVidDecCfg d) 31 && v.seiRec.isSome))
  if v.blocked && !(head && irap) then (s.decBlocked d t head nal, true)
  else if v.seek && !starts then (s.count (rVidDecDiscarded d), true)
  else if t = 36 ∨ t = 37 then (s.setDec d { v with first := true }, true)
  else if 22 ≤ t ∨ (10 ≤ t ∧ t < 16) then (s, true)
  else if head then (if v.seek then s.setSeek d false else s).decNew d t tid nal
  else (s.decMore d t, true)

/-- One NAL unit (R397, R398, R400); false where the decoder waits for a buffer. -/
def State.decNal (s0 : State) (d : Nat) (nal : List Byte) : State × Bool :=
  let t := (nal.getD 0 0#8).toNat / 2 % 64
  let tid := (nal.getD 1 1#8).toNat % 8 - 1
  let head := decide (t < 32) && (nal.getD 2 0#8).getLsbD 7
  let s := if head || (32 ≤ t && t ≤ 37) || t == 39 || (41 ≤ t && t ≤ 44) || 48 ≤ t then s0.decFinish d else s0
  if (32 ≤ t && t ≤ 34) || t == 39 || t == 40 then (s.decSet d t nal, true) else s.decVcl d t tid head nal

/-- Bytes of the input ring, and how many are available: INWR and INRD count bytes modulo 2^32, and the ring's offset is
their remainder by its size. -/
def State.inSize (s : State) (d : Nat) : Nat := s.fld (rVidDecInsz d) 0 24 * 4096
def State.inAvail (s : State) (d : Nat) : Nat := (s.rd (rVidDecInwr d) - s.rd (rVidDecInrd d)).toNat

/-- The available bytes. -/
def State.inBytes (s : State) (d : Nat) : List Byte :=
  let n := s.inSize d
  let a := s.regionAddr (rVidDecIn d)
  let r := (s.rd (rVidDecInrd d)).toNat % max 1 n
  let k := s.inAvail d
  s.peek (a + r) (min k (n - r)) ++ s.peek a (k - (n - r))

/-- The NAL units of the available bytes, each with the offset at which it ends; the last only where input has ended. -/
def annexB (drain : Bool) (b : List Byte) : List (List Byte × Nat) :=
  let r := b.foldl (fun (st : Nat × Bool × List Byte × List (List Byte × Nat)) x =>
    if x = 1#8 ∧ st.2.2.1.take 2 = [0#8, 0#8] then
      (st.1 + 1, true, [], if st.2.1 then ((st.2.2.1.dropWhile (· == 0#8)).reverse, st.1 - 2) :: st.2.2.2 else st.2.2.2)
    else (st.1 + 1, st.2.1, x :: st.2.2.1, st.2.2.2)) (0, false, [], [])
  let l := if drain && r.2.1 then ((r.2.2.1.dropWhile (· == 0#8)).reverse, b.length) :: r.2.2.2 else r.2.2.2
  l.reverse

/-- Decode NAL units in order while buffers last; the answer tells how many bytes were consumed and whether all were. -/
def State.decAll (s : State) (d : Nat) : List (List Byte × Nat) → Nat → State × Nat × Bool
  | [], n => (s, n, true)
  | x :: l, n =>
    match s.decNal d x.1 with
    | (t, true) => t.decAll d l x.2
    | (t, false) => (t, n, false)

/-- The decoder works on what is available, while port 3 is served (R379); while draining, the DPB is bumped empty behind it
(R397). -/
def State.decAdvance (s : State) (d : Nat) : State :=
  let st := s.decState d
  if st = 0 ∨ s.unitLive 10 (10 + d) = false ∨ s.bulkWaits 3 = true then s
  else
    let r := s.decAll d (annexB (decide (st = 3)) (s.inBytes d)) 0
    let s1 := r.1.wr (rVidDecInrd d) (s.rd (rVidDecInrd d) + BitVec.ofNat 32 r.2.1)
    if st = 3 ∧ r.2.2 = true then
      let s2 := s1.decFinish d
      let v := s2.dec d
      let v1 := match v.dpb with | p :: _ => v.bump p.sps 2 (v.dpb.length + 1) | [] => v
      let s3 := s2.setDec d v1
      if v1.ready.isEmpty then s3.setFld (rVidDecStat d) 28 4 (if v1.seek then 1 else 2) else s3
    else s1

/-- DECODER_START (R397, R405): NBUF outside 8 to 15 is refused. -/
def State.decStart (s : State) (d : Nat) : State :=
  if !s.unitLive 10 (10 + d) then s
  else if s.decState d != 0 then s.violation (rVidDecCmd d)
  else if s.decNbuf d < 8 then s
  else ((s.setDec d { VDec.init with held := (s.dec d).held }).setFld (rVidDecStat d) 28 4 1).decAdvance d

/-- DECODER_START. -/
def execDecoderStart (d : Fin 2) (s : State) : Host.Outcome State Fault Refusal :=
  if !s.reaches 10 then .next s else .next (s.decStart d)

/-- DECODER_STOP: the DPB is discarded. -/
def State.decStop (s : State) (d : Nat) : State :=
  if s.decState d = 0 then s
  else (s.setDec d { VDec.init with held := (s.dec d).held, seqs := (s.dec d).seqs }).setFld (rVidDecStat d) 28 4 0

/-- DECODER_STOP. -/
def execDecoderStop (d : Fin 2) (s : State) : Host.Outcome State Fault Refusal :=
  if !s.reaches 10 then .next s else
  .next (if s.unitLive 10 (10 + d) then s.decStop d else s)

/-- DECODER_EOS. -/
def State.decEos (s : State) (d : Nat) : State :=
  if s.decState d = 0 || !s.unitLive 10 (10 + d) then s else (s.setFld (rVidDecStat d) 28 4 3).decAdvance d

/-- DECODER_EOS. -/
def execDecoderEos (d : Fin 2) (s : State) : Host.Outcome State Fault Refusal :=
  if !s.reaches 10 then .next s else .next (s.decEos d)

/-- INWR_WRITE (R397): refused where more than INSZ × 4,096 − 1 bytes would be available. -/
def State.inwrWrite (s : State) (d : Nat) (v : Word) : State :=
  if !s.unitLive 10 (10 + d) then s
  else if s.inSize d ≤ (v - s.rd (rVidDecInrd d)).toNat then s.violation (rVidDecInwr d)
  else (s.wr (rVidDecInwr d) v).decAdvance d

/-- INWR_WRITE. -/
def execInwrWrite (d : Fin 2) (v : Word) (s : State) : Host.Outcome State Fault Refusal :=
  if !s.reaches 10 then .next s else .next (s.inwrWrite d v)

/-- DECODED_PICTURE: the next picture in output order gets its descriptor (R398, R399). -/
def State.decodedPicture (s0 : State) (d : Nat) : State :=
  let s := s0.decAdvance d
  let v := s.dec d
  match v.ready with
  | [] => s
  | p :: rest =>
    if !s.unitLive 10 (10 + d) || s.bulkWaits 3 then s
    else
      let q := proxyGeom p.sps.fmt p.sps.w p.sps.h
      let seq := v.seq + 1
      let desc := (proxyDesc p.sps.fmt p.epoch p.sps.w p.sps.h (roundUp q.1 64) (roundUp q.2.1 64) p.serial seq).take 28 ++
        leBytes 4 p.flags ++ List.replicate 4064 0#8
      let s1 := s.bulkWrite 3 (s.decBuf d p.buf) desc
      let s2 := s1.setDec d { s1.dec d with ready := rest, seqs := Map.set (fun _ => 0) v.seqs p.buf seq, seq := seq }
      let s3 := (s2.count (rVidDecPictures d)).raise 0x0CA (10 + d)
      if s3.decState d = 3 then s3.decAdvance d else s3

/-- DECODED_PICTURE. -/
def execDecodedPicture (d : Fin 2) (s : State) : Host.Outcome State Fault Refusal := .next (s.decodedPicture d)

/-- DECODE_WATCHDOG: the picture in progress ends there (R400). -/
def execDecodeWatchdog (d : Fin 2) (s : State) : Host.Outcome State Fault Refusal :=
  .next (match (s.dec d).cur with
    | some p => if p.flags.testBit 2 || !s.unitLive 10 (10 + d) then s else s.decErr d (rVidDecWdogCnt d) 4
    | none => s)

/-- A display layer takes the newest picture of a decoder ring, and releases what it held. -/
def State.decHold (s : State) (d reader : Nat) : State × Option (Nat × Nat) :=
  let v := s.dec d
  let best := v.seqs.foldl (fun (b : Option (Nat × Nat)) q => match b with
    | none => some q
    | some x => if x.2 < q.2 then some q else some x) none
  match best with
  | none => (s, none)
  | some b => (s.setDec d { v with held := v.held.filter (fun h => h.2 != reader) ++ [(b.1, reader)] }, some b)

/-- A display layer releases what it holds. -/
def State.decRelease (s : State) (d reader : Nat) : State :=
  let v := s.dec d
  s.setDec d { v with held := v.held.filter (fun h => h.2 != reader) }

end Sys2Proof.Machine
end

