-- ==== Sys2Proof/Machine/Display.lean ====
section
/-! DEFINITION. Display heads (18): layers and composition, commits, underrun, the eDP sequences and panel self-refresh, SDI. -/

namespace Sys2Proof.Machine

open Sys2Proof

/-- Replace OUT. -/
def State.setOut (s : State) (o : Out) : State := { s with out := o }

/-- A head at reset. -/
def DHead.init : DHead :=
  ⟨false, none, false, false, false, false, 0, 0, 0, false, false, 0, 0, 0, false, [none, none, none, none], [0, 0, 0, 0]⟩

/-- Head `d`. -/
def State.dh (s : State) (d : Nat) : DHead := Map.get (fun _ => DHead.init) s.out.heads d

/-- Put it. -/
def State.setDh (s : State) (d : Nat) (v : DHead) : State :=
  s.setOut { s.out with heads := Map.set (fun _ => DHead.init) s.out.heads d v }

/-- STATE of head `d`: 0 IDLE, 1 STARTING, 2 RUNNING, 3 PSR_ENTRY, 4 PSR_ACTIVE, 5 PSR_EXIT, 6 STOPPING, 7 ERROR. -/
def State.dhState (s : State) (d : Nat) : Nat := s.fld (rOutDhStat d) 28 4

/-- Set it. -/
def State.setDhState (s : State) (d st : Nat) : State := s.setFld (rOutDhStat d) 28 4 st

/-- A head enters ERROR (R507, R511). -/
def State.dhError (s : State) (d err : Nat) : State :=
  let s1 := (s.setDhState d 7).setFld (rOutDhStat d) 24 4 err
  let s2 := if err = 2 ∨ err = 3 ∨ err = 4 then s1.raise 0x107 (1 + d) else s1
  s2.raise 0x109 (1 + d)

/-! ### Frame rates and demand (R497, R500, R504) -/

/-- An SDI rate code as frames and seconds: the rate is the quotient. -/
def sdiRate (code : Nat) : Option (Nat × Nat) :=
  match code with
  | 4 => some (48000, 1001) | 8 => some (48, 1) | 9 => some (50, 1) | 10 => some (60000, 1001) | 11 => some (60, 1) | _ => none

/-- A head is a member of the aligned group (R500). -/
def State.dhMember (s : State) (d : Nat) : Bool :=
  present s.variant 14 (1 + d) && s.bit (rOutDhCfg d) 31 && s.bit (rOutDhCfg d) 30

/-- The format of the group's SDI head. -/
def State.groupRate (s : State) : Option (Nat × Nat) :=
  ([1, 2].find? s.dhMember).bind (fun d => sdiRate (s.fld (rOutDhSdifmt d) 16 4))

/-- HTOTAL × VTOTAL of the eDP head. -/
def State.edpTotal (s : State) : Nat := s.fld (rOutDh0Htime 0) 16 16 * s.fld (rOutDh0Vtime 0) 16 16

/-- Frame rate of a head; none where its format has none. -/
def State.dhRate (s : State) (d : Nat) : Option (Nat × Nat) :=
  if d = 0 then
    match (if s.dhMember 0 then s.groupRate else none) with
    | some r => some r
    | none => if s.edpTotal = 0 then none else some ((s.rd (rOutDh0Pclk 0)).toNat * 1000, s.edpTotal)
  else sdiRate (s.fld (rOutDhSdifmt d) 16 4)

/-- Bytes that a layer fetches in a frame, from its CFG, BUFGEOM and PITCH values (R497). -/
def State.layerBytes (s : State) (cfg geom pitch : Word) : Nat :=
  let lines1 := fun (fmt h : Nat) => if fmt = 1 ∨ fmt = 2 then h / 2 else if fmt = 3 then h else 0
  if !cfg.getLsbD 31 then 0
  else match fget cfg 28 2 with
    | 0 => match s.lead (fget cfg 16 6) with
      | none => 0
      | some c =>
        let g := s.pxGeom c
        let q := proxyGeom (s.pxFmt c) g.1 g.2
        g.2 * roundUp q.1 64 + q.2.2 * roundUp q.2.1 64
    | 1 => let m := s.decMax (fget cfg 16 1); m.1 * m.2 * 4
    | 2 => (fget geom 16 15 + lines1 (fget cfg 8 4) (fget geom 16 15)) * fget pitch 0 20
    | _ => 0

/-- Bytes of a frame of head `d` with its layers as their active registers say, or as their shadows say. -/
def State.dhBytes (s : State) (d : Nat) (shadow : Bool) : Nat :=
  let r := fun a => if shadow then s.shd a else s.rd a
  (List.range 4).foldl (fun n l => n + s.layerBytes (r (rOutDhLCfg d l)) (r (rOutDhLBufgeom d l)) (r (rOutDhLPitch d l))) 0

/-- The demand lies within BWMAX. -/
def State.dhFits (s : State) (d : Nat) (shadow : Bool) : Bool :=
  match s.dhRate d with
  | none => false
  | some (n, m) => decide (n * s.dhBytes d shadow ≤ s.fld (rOutDhCfg d) 0 16 * 1000000 * m)

/-! ### Commit (R498) -/

/-- The RWS registers of a head. -/
def dhShadows (d : Nat) : List Nat :=
  rOutDhBg d :: (List.range 4).flatMap (fun l =>
    [rOutDhLCfg d l, rOutDhLPos d l, rOutDhLZoom d l, rOutDhLCsc d l, rOutDhLBufaddrLo d l, rOutDhLBufaddrHi d l,
     rOutDhLBufgeom d l, rOutDhLPitch d l] ++ (List.range 12).map (rOutDhLM d l))

/-- COMMIT_DONE or COMMIT_REFUSED of head `d`, named in OUT_EVT_INFO. -/
def State.dhEvt (s : State) (d x : Nat) : State := (s.setFld (rOutEvtInfo 0) 0 2 d).raise x (1 + d)

/-- Every shadow of the head moves to its active copy. -/
def State.dhApply (s : State) (d : Nat) : State := (s.forEach (dhShadows d) State.commit).dhEvt d 0x103

/-- PENDING of head `d`. -/
def State.dhPending (s : State) (d : Nat) : Bool := s.bit (rOutDhStat d) 16

/-- The commit of a frame start: applied, or refused whole where the demand does not fit. -/
def State.dhCommitNow (s : State) (d : Nat) : State :=
  let s1 := s.setBit (rOutDhStat d) 16 false
  if s.dhFits d true then s1.dhApply d else (s1.count (rOutCommitsRefused d)).dhEvt d 0x104

/-- A change of PSR state (R503). -/
def State.psrGo (s : State) (st : Nat) : State := (s.setDhState 0 st).raise 0x106 1

/-- DISPLAY_COMMIT: at once while IDLE, else at the next frame start; an update for panel self-refresh. -/
def State.dhCommit (s : State) (d : Nat) : State :=
  if !s.unitLive 14 (1 + d) || s.dhPending d then s
  else if s.dhState d = 0 then s.dhApply d
  else
    let s1 := (s.setBit (rOutDhStat d) 16 true).setDh d { s.dh d with update := true }
    if d = 0 ∧ s.dhState 0 = 4 then (s1.setDh 0 { s1.dh 0 with link := true, count := 0 }).psrGo 5 else s1

/-- DISPLAY_COMMIT. -/
def execDisplayCommit (d : Fin 3) (s : State) : Host.Outcome State Fault Refusal :=
  if !s.reaches 14 then .next s else .next (s.dhCommit d)

/-! ### Start and stop (R493, R500, R501, R504, R505) -/

/-- The first whole second whose frame start lies at least 1 ms ahead, in ns of Mint time. -/
def State.dhPlace (s : State) (offset : Nat) : Nat :=
  let t := s.mint.total + 1000000
  ceilDiv (t - offset) nsPerSec * nsPerSec + offset

/-- Another member of the aligned group has its video running. -/
def State.groupRuns (s : State) (d : Nat) : Bool :=
  s.dhMember d && (List.range 3).any (fun k => k != d && s.dhMember k && decide (2 ≤ s.dhState k) && decide (s.dhState k ≤ 5))

/-- The output is ready: the first frame start is placed, or joins the group's (R493, R500). -/
def State.dhReady (s : State) (d : Nat) : State :=
  s.setDh d { s.dh d with
    ready := true, at_ := if s.groupRuns d then none else some (s.dhPlace (s.fld (rOutDhOffset d) 0 30)) }

/-- Lanes and bit rate of the eDP link. -/
def State.edpLanes (s : State) : Nat := match s.fld (rOutDh0Linkcfg 0) 0 3 with | 1 => 1 | 2 => 2 | _ => 4
def State.edpRate (s : State) : Nat :=
  match s.fld (rOutDh0Linkcfg 0) 8 2 with | 0 => 1620000000 | 1 => 2700000000 | 2 => 5400000000 | _ => 8100000000

/-- PCLK × bpp ≤ 0.776 × lanes × rate (R501). -/
def State.edpFits (s : State) : Bool :=
  match s.dhRate 0 with
  | none => true
  | some (n, m) =>
    decide (n * s.edpTotal * (if s.bit (rOutDh0Linkcfg 0) 4 then 30 else 24) * 1000 ≤ 776 * s.edpLanes * s.edpRate * m)

/-- The errors of START, in the order of ERR. -/
def State.dhCheck (s : State) (d : Nat) : Nat :=
  if d = 0 && !s.edpFits then 1
  else if !s.dhFits d false then 5
  else if s.dhMember d && s.dhMember 1 && s.dhMember 2 &&
      s.rd (rOutDhSdifmt 1) &&& 0x000F0100#32 != s.rd (rOutDhSdifmt 2) &&& 0x000F0100#32 then 6
  else 0

/-- The ST 352 payload identifier (R505). -/
def State.sdiPid (s : State) (d : Nat) : Word :=
  let u := s.rd (rOutDhPidusr d)
  BitVec.ofNat 32 (0xCE + (0xC0 + fget u 12 2 * 16 + s.fld (rOutDhSdifmt d) 16 4) * 2 ^ 8 + fget u 20 4 * 16 * 2 ^ 16 +
    (fget u 26 6 * 4 + 1) * 2 ^ 24)

/-- DISPLAY_START. -/
def State.dhStart (s : State) (d : Nat) : State :=
  if !s.unitLive 14 (1 + d) || !s.bit (rOutDhCfg d) 31 then s
  else if s.dhState d != 0 && s.dhState d != 7 then s.violation (rOutDhCmd d)
  else
    match s.dhCheck d with
    | 0 =>
      let s1 := ((s.setDhState d 1).setFld (rOutDhStat d) 24 4 0).setFld (rOutDhStat d) 0 4 0
      let s2 := s1.setDh d { DHead.init with vcc := decide (d = 0) }
      if d = 0 then s2 else (s2.wr (rOutDhPid d) (s.sdiPid d)).dhReady d
    | e => s.dhError d e

/-- DISPLAY_START. -/
def execDisplayStart (d : Fin 3) (s : State) : Host.Outcome State Fault Refusal :=
  if !s.reaches 14 then .next s else .next (s.dhStart d)

/-- The reader number of a layer at a proxy ring or decoder ring. -/
def layerReader (d l : Nat) : Nat := 4 * d + l

/-- A layer releases whatever it holds. -/
def State.layerDrop (s : State) (d l : Nat) : State :=
  let r := layerReader d l
  let s1 := s.pix.foldl (fun t p => if p.2.held.any (fun h => h.2 == r) then t.pxRelease p.1 r else t) s
  let s2 := s1.forEach [0, 1] (fun t k => if (t.dec k).held.any (fun h => h.2 == r) then t.decRelease k r else t)
  (s2.wr (rOutDhLHeld d l) 0#32).setDh d { s2.dh d with pics := setAt (s2.dh d).pics l none }

/-- Every layer of a head releases its buffer and fetches nothing. -/
def State.dhDrop (s : State) (d : Nat) : State :=
  let s1 := s.forEach (List.range 4) (fun t l => t.layerDrop d l)
  s1.setOut { s1.out with fifo := s1.out.fifo.filter (fun f => f.1 / 4 != d) }

/-! ### The display and audio port (R22, R499, R517) -/

/-- A receiver at reset. -/
def AesRx.init : AesRx := ⟨none, 0, 0, [], false⟩

/-- Receiver `n`. -/
def State.aesRx (s : State) (n : Nat) : AesRx := Map.get (fun _ => AesRx.init) s.out.rx n

/-- Put it. -/
def State.setAesRx (s : State) (n : Nat) (v : AesRx) : State :=
  s.setOut { s.out with rx := Map.set (fun _ => AesRx.init) s.out.rx n v }

/-- Port 8 is in Overdraft while a head or a receiver raises it (R421). -/
def State.portOd (s : State) : State :=
  let on := s.bit (rOutDh0Ovd 0) 31 || (s.aesRx 0).od || (s.aesRx 1).od
  if s.mem.od.getLsbD 8 == on then s else s.setOd 8 on

/-- The display port's Overdraft (R499): raised by a FIFO below OD_LOW, cleared once every FIFO holds OD_HIGH. -/
def State.syncDisplayOd (s : State) : State :=
  let on := s.bit (rOutDh0Ovd 0) 31
  let low := s.out.fifo.any (fun f => decide (f.2 < s.fld (rOutDhOd (f.1 / 4)) 16 16))
  let high := s.out.fifo.all (fun f => decide (s.fld (rOutDhOd (f.1 / 4)) 0 16 ≤ f.2))
  if !on && low then ((s.setBit (rOutDh0Ovd 0) 31 true).portOd).raise 0x108 1
  else if on && high then (s.setBit (rOutDh0Ovd 0) 31 false).portOd
  else s

/-- The end of video: the main link goes off. An SDI head is then IDLE, or in the error that stopped it. -/
def State.dhVideoOff (s : State) (d : Nat) : State :=
  let s1 := (s.dhDrop d).syncDisplayOd
  let h := s1.dh d
  let s2 := s1.setDh d { h with link := false, ready := false, at_ := none }
  if d = 0 then s2 else s2.setDhState d 0

/-- The STOP sequence (R501): BL_EN drops at once, the video stops after 2 frames, or at once where none is sent; `err` waits
behind it. -/
def State.dhStopSeq (s : State) (d err : Nat) : State :=
  let st := s.dhState d
  let h := { s.dh d with bl := false, err := err, left := 2, fails := 0 }
  let s1 := (((s.setDh d h).setDhState d 6).setBit (rOutDhStat d) 17 false)
  let s2 := if d = 0 ∧ 3 ≤ st ∧ st ≤ 5 then s1.raise 0x106 1 else s1
  if st = 1 ∨ st = 4 ∨ st = 5 then s2.dhVideoOff d else s2

/-- DISPLAY_STOP. -/
def State.dhStop (s : State) (d : Nat) : State :=
  if !s.unitLive 14 (1 + d) || s.dhState d == 0 || decide (6 ≤ s.dhState d) then s else s.dhStopSeq d 0

/-- DISPLAY_STOP. -/
def execDisplayStop (d : Fin 3) (s : State) : Host.Outcome State Fault Refusal :=
  if !s.reaches 14 then .next s else .next (s.dhStop d)

/-! ### The eDP sequences (R501, R502) -/

/-- HPD_HIGH: link training begins. -/
def execHpdHigh (s : State) : Host.Outcome State Fault Refusal :=
  .next (if s.dhState 0 = 1 && (s.dh 0).vcc && !(s.dh 0).hpd then s.setDh 0 { s.dh 0 with hpd := true, link := true } else s)

/-- HPD_TIMEOUT. -/
def execHpdTimeout (s : State) : Host.Outcome State Fault Refusal :=
  .next (if s.dhState 0 = 1 && !(s.dh 0).hpd then (s.setDh 0 { s.dh 0 with vcc := false }).dhError 0 2 else s)

/-- EDP_LINK_TRAINED, of the start or of a retraining. -/
def State.linkTrained (s : State) (ok : Bool) : State :=
  let h := s.dh 0
  if s.dhState 0 = 1 ∧ h.hpd = true ∧ h.ready = false then
    if ok then s.dhReady 0 else (s.setDh 0 { h with link := false }).dhError 0 3
  else if h.retrain = true ∧ 2 ≤ s.dhState 0 ∧ s.dhState 0 ≤ 5 then
    if ok then s.setDh 0 { h with retrain := false }
    else ((s.dhDrop 0).setDh 0 { DHead.init with vcc := h.vcc, hpd := h.hpd }).dhError 0 3
  else s

/-- EDP_LINK_TRAINED. -/
def execEdpLinkTrained (ok : Bool) (s : State) : Host.Outcome State Fault Refusal := .next (s.linkTrained ok)

/-- HPD_LOST: low for more than 2 ms while the head runs. -/
def execHpdLost (s : State) : Host.Outcome State Fault Refusal :=
  .next (if 2 ≤ s.dhState 0 ∧ s.dhState 0 ≤ 5 then (s.setDh 0 { s.dh 0 with hpd := false }).dhStopSeq 0 4 else s)

/-- HPD_PULSE: a shorter low pulse; a link that has lost lock is retrained at the next frame start. -/
def execHpdPulse (lockLost : Bool) (s : State) : Host.Outcome State Fault Refusal :=
  .next (if 2 ≤ s.dhState 0 ∧ s.dhState 0 ≤ 5 ∧ lockLost = true then s.setDh 0 { s.dh 0 with retrain := true } else s)

/-- PANEL_POWER_OFF: PANEL_VCC_EN falls 50 ms after the main link goes off. -/
def execPanelPowerOff (s : State) : Host.Outcome State Fault Refusal :=
  .next (if s.dhState 0 = 6 && !(s.dh 0).link && !(s.dh 0).ready then s.setDh 0 { s.dh 0 with vcc := false } else s)

/-- HEAD_IDLE: 500 ms later the head is IDLE, or in the error that stopped it. -/
def execHeadIdle (s : State) : Host.Outcome State Fault Refusal :=
  .next (if s.dhState 0 = 6 && !(s.dh 0).vcc then
    (match (s.dh 0).err with
     | 0 => (s.setDh 0 DHead.init).setDhState 0 0
     | e => (s.setDh 0 DHead.init).dhError 0 e) else s)

/-! ### Layers (R494 to R496) -/

/-- The picture of a BUFFER layer. -/
def State.bufPic (s : State) (d l : Nat) : LayerPic :=
  let a := ((s.rd (rOutDhLBufaddrLo d l)).toNat + s.fld (rOutDhLBufaddrHi d l) 0 6 * 2 ^ 32) / 4096 * 4096
  let g := s.rd (rOutDhLBufgeom d l)
  let p := s.fld (rOutDhLPitch d l) 0 20
  let f := s.fld (rOutDhLCfg d l) 8 4
  ⟨a, f, fget g 0 14, fget g 16 15, p, if 1 ≤ f ∧ f ≤ 3 then p else 0, roundUp (a + p * fget g 16 15) 4096⟩

/-- The source of a layer: EN and SRC, 3 where it shows nothing. -/
def State.layerSrc (s : State) (d l : Nat) : Nat :=
  let c := s.rd (rOutDhLCfg d l)
  if c.getLsbD 31 then fget c 28 2 else 3

/-- The SEQ that a layer would find now; none for other sources. -/
def State.layerFinds (s : State) (d l : Nat) : Option Nat :=
  match s.layerSrc d l with
  | 0 => (s.pxLatest (s.fld (rOutDhLCfg d l) 16 6)).map (·.2)
  | 1 => (s.decHold (s.fld (rOutDhLCfg d l) 16 1) 0).2.map (·.2)
  | _ => none

/-- Bursts of a picture that return POISON, FENCED or RANGE (R499). -/
def State.badBursts (s : State) (p : LayerPic) : Nat :=
  let bad := fun a n => (pieces a n).countP (fun b =>
    let st := (s.memRead b.1 b.2).2.1
    st == .poison || st == .fenced || st == .range)
  let q := proxyGeom p.fmt p.w p.h
  (List.range p.h).foldl (fun n l => n + bad (p.addr + l * p.pitch0) q.1) 0 +
  (List.range q.2.2).foldl (fun n l => n + bad (p.addr1 + l * p.pitch1) q.2.1) 0

/-- A layer shows a picture, with the number it holds (R494). -/
def State.layerShow (t : State) (d l seq : Nat) (p : Option LayerPic) : State :=
  let t1 := (t.wr (rOutDhLHeld d l) (BitVec.ofNat 32 seq)).setDh d { t.dh d with pics := setAt (t.dh d).pics l p }
  match p with
  | some x => (t1.countN (rOutDhLMemerr d l) (t.badBursts x)).picRead x 0 x.h
  | none => t1

/-- A layer fed from a proxy ring, after the hold. -/
def layerProxy (d l : Nat) (h : State × Option (Nat × Nat)) (lead : Option Nat) : State :=
  match h.2, lead with
  | some (k, seq), some c => h.1.layerShow d l seq (h.1.descPic (h.1.pxBufAddr c k))
  | _, _ => h.1

/-- A layer fed from decoder k, after the hold. -/
def layerDecoded (d l k : Nat) (h : State × Option (Nat × Nat)) : State :=
  match h.2 with
  | some (b, seq) => h.1.layerShow d l seq (h.1.descPic (h.1.decBuf k b))
  | none => h.1

/-- A layer takes its picture at a frame start, and releases the one before (R494). -/
def State.layerTake (s : State) (d l : Nat) : State :=
  let i := s.fld (rOutDhLCfg d l) 16 6
  let k := s.fld (rOutDhLCfg d l) 16 1
  match s.layerSrc d l with
  | 0 => layerProxy d l ((s.layerDrop d l).pxHold i (layerReader d l)) (s.lead i)
  | 1 => layerDecoded d l k ((s.layerDrop d l).decHold k (layerReader d l))
  | 2 => (s.layerDrop d l).layerShow d l 0 (some ((s.layerDrop d l).bufPic d l))
  | _ => s.layerDrop d l

/-- The value of a binary16 code. -/
def fromHalf (h : BitVec 16) : Word :=
  let e := h.toNat / 1024 % 32
  let m := h.toNat % 1024
  if e = 31 then Config.outHalf h
  else if e = 0 then fenc (h.getLsbD 15) m (-24) false
  else fenc (h.getLsbD 15) (1024 + m) (e - 25 : Int) false

/-- The components of a source pixel as binary32 values (R495). -/
def State.srcPixel (s : State) (p : LayerPic) (x y : Nat) : Word × Word × Word :=
  let b := fun a n => leNat (s.peek a n)
  let row := p.addr + y * p.pitch0
  let ch := p.addr1 + (if p.fmt = 3 then y else y / 2) * p.pitch1
  match p.fmt with
  | 0 => (fnat (4 * b (row + x) 1), fnat 512, fnat 512)
  | 1 => (fnat (4 * b (row + x) 1), fnat (4 * b (ch + x / 2 * 2) 1), fnat (4 * b (ch + x / 2 * 2 + 1) 1))
  | 2 => (fnat (b (row + 2 * x) 2 / 64), fnat (b (ch + x / 2 * 4) 2 / 64), fnat (b (ch + x / 2 * 4 + 2) 2 / 64))
  | 3 => (fnat (b (row + 2 * x) 2 / 64), fnat (b (ch + x / 2 * 4) 2 / 64), fnat (b (ch + x / 2 * 4 + 2) 2 / 64))
  | 4 => let w := b (row + 4 * x) 4; (fnat (w / 2 ^ 20 % 1024), fnat (w / 2 ^ 10 % 1024), fnat (w % 1024))
  | _ =>
    let f := fun i => fmul (fromHalf (BitVec.ofNat 16 (b (row + 8 * x + 2 * i) 2))) (fnat 1023)
    (f 0, f 1, f 2)

/-- A component as a 10-bit code. -/
def code10 (v : Word) : Nat := (max 0 (min 1023 (fround v))).toNat

/-- A source pixel after the layer's CSC, in 10-bit codes. -/
def State.layerCodes (s : State) (d l : Nat) (p : LayerPic) (x y : Nat) : Nat × Nat × Nat :=
  let v := s.srcPixel p x y
  let w := if s.bit (rOutDhLCsc d l) 0 then matrix (fun k => s.rd (rOutDhLM d l k)) v else v
  (code10 w.1, code10 w.2.1, code10 w.2.2)

/-- ZX or ZY. -/
def zoomOf (n : Nat) : Nat := clampNat 1 8 n

/-- The active area of a head. -/
def State.dhActive (s : State) (d : Nat) : Nat × Nat :=
  if d = 0 then (s.fld (rOutDh0Htime 0) 0 16, s.fld (rOutDh0Vtime 0) 0 16)
  else (if s.bit (rOutDhSdifmt d) 8 then 4096 else 3840, 2160)

/-- One component composed under a layer. -/
def overlay (alpha c out : Nat) : Nat := (alpha * c + (255 - alpha) * out + 127) / 255

/-- The composed pixel (x, y) of head `d` in 10-bit codes (R496). -/
def State.composed (s : State) (d x y : Nat) : Nat × Nat × Nat :=
  let bg := s.rd (rOutDhBg d)
  (List.range 4).foldl (fun (o : Nat × Nat × Nat) l =>
    match (s.dh d).pics.getD l none with
    | none => o
    | some p =>
      let zx := zoomOf (s.fld (rOutDhLZoom d l) 0 4)
      let zy := zoomOf (s.fld (rOutDhLZoom d l) 4 4)
      let x0 := s.fld (rOutDhLPos d l) 0 15
      let y0 := s.fld (rOutDhLPos d l) 16 15
      if s.bit (rOutDhStat d) l || s.layerSrc d l == 3 || decide (x < x0) || decide (x0 + zx * p.w ≤ x) || decide (y < y0) ||
          decide (y0 + zy * p.h ≤ y) then o
      else
        let c := s.layerCodes d l p ((x - x0) / zx) ((y - y0) / zy)
        let a := s.fld (rOutDhLCfg d l) 0 8
        (overlay a c.1 o.1, overlay a c.2.1 o.2.1, overlay a c.2.2 o.2.2)) (fget bg 20 10, fget bg 10 10, fget bg 0 10)

/-- The pixel as sent: 24 or 30 bits per pixel on eDP; on SDI clamped, with the chroma of the even column (R496). -/
def State.sentPixel (s : State) (d x y : Nat) : Nat × Nat × Nat :=
  let v := s.composed d x y
  if d = 0 then
    let q := fun c => if s.bit (rOutDh0Linkcfg 0) 4 then c else min 255 ((c + 2) / 4)
    (q v.1, q v.2.1, q v.2.2)
  else
    let e := s.composed d (x / 2 * 2) y
    (clampNat 4 1019 v.1, clampNat 4 1019 e.2.1, clampNat 4 1019 e.2.2)

/-! ### Frame starts (R493, R498, R501, R503) -/

/-- An enabled layer finds another picture than the one it took last (R503). -/
def State.dhFinds (s : State) (d : Nat) : Bool :=
  (List.range 4).any (fun l => match s.layerFinds d l with
    | some q => (s.dh d).seen.getD l 0 != q
    | none => false)

/-- The layers take their pictures and nothing is blanked. -/
def State.dhFetch (s : State) (d : Nat) : State :=
  let t := s.forEach (List.range 4) (fun t l => t.layerTake d l)
  (t.setFld (rOutDhStat d) 0 4 0).setDh d
    { t.dh d with under := false, seen := (List.range 4).map (fun l => (t.rd (rOutDhLHeld d l)).toNat) }

/-- PSR of DH0 while RUNNING or in PSR_ENTRY: `upd` an update of this frame, `commit` a COMMIT written in the frame that
ended, `ack` the panel's acknowledgement in it (R503). -/
def State.psrStep (s : State) (upd commit ack : Bool) : State :=
  let h := s.dh 0
  let c := s.rd (rOutDh0Psr 0)
  if s.dhState 0 = 2 then
    let n := if upd then 0 else h.quiet + 1
    if c.getLsbD 31 && !s.bit (rOutDhStat 0) 17 && decide (max 2 (fget c 8 8) ≤ n) then
      (s.setDh 0 { h with quiet := 0, count := 0 }).psrGo 3
    else s.setDh 0 { h with quiet := n }
  else if commit || (upd && !ack) then ((s.setDh 0 { h with quiet := 0 }).count (rOutPsrAbort 0)).psrGo 2
  else if ack then
    let s1 := ((s.dhDrop 0).setDh 0 { (s.dhDrop 0).dh 0 with link := false, fails := 0, count := 0 }).psrGo 4
    if upd then (s1.setDh 0 { s1.dh 0 with link := true }).psrGo 5 else s1
  else if max 1 (fget c 0 8) ≤ h.count + 1 then
    let s1 := ((s.setDh 0 { h with quiet := 0, count := 0, fails := h.fails + 1 }).count (rOutPsrFail 0)).psrGo 2
    if h.fails + 1 = 3 then s1.setBit (rOutDhStat 0) 17 true else s1
  else s.setDh 0 { h with count := h.count + 1 }

/-- Video runs in this frame: an SDI head sends its payload identifier (R505), the commit acts, the layers take pictures, the backlight comes on with the fourth frame. -/
def State.dhVideo (s : State) (d : Nat) : State :=
  let s0 := if d = 0 then s else s.wr (rOutDhPid d) (s.sdiPid d)
  let s1 := if s0.dhPending d then s0.dhCommitNow d else s0
  let s2 := s1.dhFetch d
  let h := s2.dh d
  (s2.setDh d { h with frames := h.frames + 1, bl := if d = 0 then decide (3 ≤ h.frames) && s.dhState d != 6 else false, update := false })

/-- DISPLAY_FRAME_START. -/
def State.dhFrame (s : State) (d : Nat) (ack : Bool) : State :=
  let h := s.dh d
  let st := s.dhState d
  let count := fun (t : State) => (t.count (rOutFrames d)).raise (0x100 + d) (1 + d)
  if !s.unitLive 14 (1 + d) then s
  else if st = 1 then
    let due := h.ready && (match h.at_ with | some t => decide (t ≤ s.mint.total) | none => true)
    if due then count (((s.setDhState d 2).setDh d { h with link := true, at_ := none }).dhVideo d) else s
  else if st = 6 then
    if !h.ready then s
    else if h.left = 0 then s.dhVideoOff d
    else count ((s.setDh d { h with left := h.left - 1 }).dhVideo d)
  else if st = 2 ∨ st = 3 then
    let commit := h.update
    let upd := commit || s.dhPending d || s.dhFinds d
    let s1 := if d = 0 then s.psrStep upd commit ack else s
    if d = 0 ∧ 4 ≤ s1.dhState 0 then count s1 else count (s1.dhVideo d)
  else if st = 4 then
    if s.dhFinds 0 || !s.bit (rOutDh0Psr 0) 31 then count ((s.setDh 0 { h with link := true, count := 0 }).psrGo 5) else count s
  else if st = 5 then
    let f := Config.outFlag s.out.free || decide (1 ≤ h.count)
    let s1 := s.setOut { s.out with free := s.out.free + 1 }
    if f then count ((s1.psrGo 2).dhVideo 0) else count (s1.setDh 0 { h with count := h.count + 1 })
  else s

/-- DISPLAY_FRAME_START. -/
def execDisplayFrameStart (d : Fin 3) (psrAck : Bool) (s : State) : Host.Outcome State Fault Refusal := .next (s.dhFrame d psrAck)

/-! ### Underrun and Overdraft (R499) -/

/-- A layer that fetches in this frame. -/
def State.fetching (s : State) (d l : Nat) : Bool :=
  ((s.dh d).pics.getD l none).isSome && !s.bit (rOutDhStat d) l && s.unitLive 14 (1 + d)

/-- UNDERRUN: the layer is blanked to the end of the frame. -/
def State.dhUnderrun (s : State) (d l : Nat) : State :=
  if !s.fetching d l then s
  else
    let s1 := (s.setBit (rOutDhStat d) l true).count (rOutDhLUnderrun d l)
    let s2 := s1.setOut { s1.out with fifo := s1.out.fifo.filter (fun f => f.1 != 4 * d + l) }
    let s3 := if (s2.dh d).under then s2 else (s2.setDh d { s2.dh d with under := true }).raise 0x105 (1 + d)
    s3.syncDisplayOd

/-- UNDERRUN. -/
def execUnderrun (d : Fin 3) (layer : Fin 4) (s : State) : Host.Outcome State Fault Refusal := .next (s.dhUnderrun d layer)

/-- DISPLAY_PORT_OVERDRAFT: the FIFO of a fetching layer holds `level` bytes, or the layer has fetched its `whole` picture. -/
def State.dhFifo (s : State) (d l level : Nat) (whole : Bool) : State :=
  let rest := s.out.fifo.filter (fun f => f.1 != 4 * d + l)
  if s.fetching d l then
    (s.setOut { s.out with fifo := if whole then rest else Map.put rest (4 * d + l) level }).syncDisplayOd
  else s

/-- DISPLAY_PORT_OVERDRAFT. -/
def execDisplayPortOverdraft (d : Fin 3) (layer : Fin 4) (level : Nat × Bool) (s : State) :
    Host.Outcome State Fault Refusal := .next (s.dhFifo d layer level.1 level.2)

/-! ### Interruptions (R506) -/

/-- PFW: every head stops at once and enters ERROR with POWER. -/
def State.dhPower (s : State) : State :=
  (s.forEach ((List.range 3).filter (fun d => present s.variant 14 (1 + d))) (fun t d =>
    ((t.dhDrop d).setDh d { DHead.init with vcc := (t.dh d).vcc }).dhError d 7)).syncDisplayOd

/-- A fence: the heads stop at once and their connectors take their reset state. -/
def State.dhFence (s : State) (ds : List Nat) : State :=
  (s.forEach ds (fun t d =>
    (((t.dhDrop d).setDh d DHead.init).setDhState d 0).setBit (rOutDhStat d) 16 false)).syncDisplayOd

end Sys2Proof.Machine
end

