-- ==== Sys2Proof/Machine/Audio.lean ====
section
/-! DEFINITION. AES3 audio ports (19): receivers, their blocks and overruns, the transmitter. -/

namespace Sys2Proof.Machine

open Sys2Proof

/-! ### Receivers (R514 to R517) -/

/-- NBLK of a ring register. -/
def State.aesBlocks (s : State) (a : Nat) : Nat := clampNat 4 4096 (s.fld a 0 13)

/-- Address of block `k` of the ring that CFG register `a` places. -/
def State.aesAddr (s : State) (a k : Nat) : Nat := s.rgnAddr (s.fld a 24 4) + s.fld a 0 24 * 4096 + 2048 * k

/-- A receiver runs, behind the release of the contacts (R68). -/
def State.aesOn (s : State) (n : Nat) : Bool := s.serving && s.bit (rOutAesrxCfg n) 31 && s.unitLive 14 (4 + n)

/-- The bursts of a receiver's FIFO that still wait to be written, and the bytes it holds (R517). -/
def State.aesWaits (s : State) (n : Nat) : List Nat := (s.aesRx n).fifo.filter (fun a => s.pieceQueued 4 (a, 64))
def State.aesLevel (s : State) (n : Nat) : Nat := 64 * (s.aesWaits n).length

/-- A receiver's Overdraft: raised at 2 KiB in its FIFO, cleared below 1 KiB (R517). -/
def State.syncAesOd (s : State) (n : Nat) : State :=
  let v := s.aesRx n
  let l := s.aesLevel n
  (s.setAesRx n { v with fifo := s.aesWaits n, od := decide (2048 ≤ l) || (v.od && decide (1024 ≤ l)) }).portOd

/-- Frames of a block of `k` that find room in the FIFO beside its header: all of them unless it fills (R517). -/
def State.aesRoom (s : State) (n k : Nat) : Nat :=
  let room := 4096 - s.aesLevel n
  if 2048 ≤ room then k else min k ((room - 64) / 8)

/-- A block (R514): the header and the subframe words, padded to 2,048 bytes. -/
def aesBlockBytes (rate frames seq lost : Nat) (t : Mint) (fs : Word) (flags : Nat) (words : List Nat) : List Byte :=
  let b := leBytes 4 0x4F494441 ++ leBytes 1 1 ++ leBytes 1 rate ++ leBytes 2 frames ++ leBytes 4 seq ++ leBytes 4 lost ++ t.bytes ++
    leBytes 4 fs.toNat ++ leBytes 4 flags ++ List.replicate 28 0#8 ++ words.flatMap (fun w => leBytes 4 w)
  b ++ List.replicate (2048 - b.length) 0#8

/-- The ring is full: (WRPTR + 1) mod NBLK equals RDPTR (R516). -/
def State.aesFull (s : State) (n : Nat) : Bool :=
  (s.fld (rOutAesrxWrptr n) 0 12 + 1) % s.aesBlocks (rOutAesrxRing n) == s.fld (rOutAesrxRdptr n) 0 12

/-- A block of `k` frames is lost: counted in OVERRUN, and in LOST of the next one. -/
def State.aesLose (s : State) (n k : Nat) : State :=
  let v := s.aesRx n
  (s.countN (rOutAesOverrun n) k).setAesRx n { v with cur := none, lost := v.lost + k }

/-- The open block ends with its subframe words (two a frame; bits [7:2] read 0): sent to memory through the FIFO, or
discarded and counted; frames that the full FIFO does not take are lost, and the block carries GAP (R517). A loss of lock or
power sets UNLOCK. -/
def State.aesEnd (s : State) (n : Nat) (frames : List Nat) (fs : Word) (unlock : Bool) : State :=
  let v := s.aesRx n
  let words := (frames.take 384).map (fun w => w % 2 ^ 32 / 256 * 256 + w % 4)
  let k := words.length / 2
  let bad := words.countP (fun w => w % 2 == 1)
  let par := fun (t : State) =>
    if bad = 0 then t else (t.countN (rOutAesParity n) bad).raise 0x10D (4 + n)
  match v.cur with
  | none => s
  | some (t, true) =>
    let _ := t
    (par s).aesLose n k
  | some (t, false) =>
    let kf := s.aesRoom n k
    if kf = 0 ∧ 0 < k then ((par s).aesLose n k).raise 0x10C (4 + n)
    else
      let flags := unlock.toNat + (decide (0 < bad)).toNat * 2 + (decide (0 < v.lost ∨ kf < k)).toNat * 4
      let w := s.fld (rOutAesrxWrptr n) 0 12
      let a := s.aesAddr (rOutAesrxCfg n) w
      let b := aesBlockBytes (s.fld (rOutAesrxStat n) 16 4) kf (v.seq + 1) v.lost t fs flags (words.take (2 * kf))
      let s1 := ((par s).request 8 true a 2048 b false false).setFld (rOutAesrxWrptr n) 0 12
        ((w + 1) % s.aesBlocks (rOutAesrxRing n))
      let len := if kf < k then ceilDiv (64 + 8 * kf) 64 else 32
      let s2 := (s1.countN (rOutAesOverrun n) (k - kf)).setAesRx n { v with
        cur := none, lost := k - kf, seq := v.seq + 1, fifo := v.fifo ++ (List.range len).map (fun i => a + 64 * i) }
      let s3 := if kf < k then s2.raise 0x10C (4 + n) else s2
      (s3.syncAesOd n).raise 0x10B (4 + n)

/-- A block starts at a Z preamble of `stamp`; on a full ring it will be discarded (R516). -/
def State.aesOpen (s : State) (n stamp : Nat) : State :=
  let full := s.aesFull n
  let s1 := s.setAesRx n { s.aesRx n with cur := some (mintOfTu stamp, full) }
  if full then s1.raise 0x10C (4 + n) else s1

/-- AES_BLOCK_START. -/
def execAesBlockStart (rx : Fin 2) (stamp : Nat) (frames : List Nat) (fs : Nat) (s : State) :
    Host.Outcome State Fault Refusal :=
  .next (if s.aesOn rx && s.bit (rOutAesrxStat rx) 31 then
    (s.aesEnd rx frames (BitVec.ofNat 32 fs) false).aesOpen rx stamp else s)

/-- A loss of lock: the open block is written with the frames it holds; its FS is not stated (log entry 23). -/
def State.aesUnlock (s : State) (n : Nat) (frames : List Nat) : State :=
  let fs := Config.outWord s.out.free
  ((s.setOut { s.out with free := s.out.free + 1 }).aesEnd n frames fs true).setBit (rOutAesrxStat n) 31 false

/-- AES_LOCK_CHANGE. -/
def execAesLockChange (rx : Fin 2) (lock : Bool) (rate : BitVec 4) (frames : List Nat) (s : State) :
    Host.Outcome State Fault Refusal :=
  .next (if !s.aesOn rx || s.bit (rOutAesrxStat rx) 31 == lock then s
    else if lock then
      ((s.setBit (rOutAesrxStat rx) 31 true).setFld (rOutAesrxStat rx) 16 4 rate.toNat).raise 0x10A (4 + rx)
    else ((s.aesUnlock rx frames).count (rOutAesUnlocks rx)).raise 0x10A (4 + rx))

/-- A write of OUT_AESRXn_CFG or RING: ignored while EN is 1 (R522); setting EN starts SEQ from 1. -/
def State.aesRxCfg (s : State) (n a : Nat) (v : Word) : State :=
  if s.bit (rOutAesrxCfg n) 31 then s.violation a
  else if a = rOutAesrxCfg n then
    let s1 := s.wr a (v &&& 0x8FFFFFFF#32)
    if v.getLsbD 31 then s1.setAesRx n AesRx.init else s1
  else s.wr a (v &&& 0x1FFF#32)

/-! ### The transmitter (R518 to R520, R523) -/

/-- STATE of TX: 0 IDLE, 1 STARTING, 2 RUNNING, 3 ERROR. -/
def State.txState (s : State) : Nat := s.fld rOutAestxStat 28 4

/-- AES_TX_START: the first Z preamble is placed on the Mint seconds; reserved rates are refused. -/
def State.aesTxStart (s : State) : State :=
  if !s.unitLive 14 6 || s.txState == 1 || s.txState == 2 then s
  else if 7 ≤ s.fld rOutAestxRate 0 4 then (s.setFld rOutAestxStat 28 4 3).setFld rOutAestxStat 24 4 1
  else
    ((s.setFld rOutAestxStat 28 4 1).setFld rOutAestxStat 24 4 0).setOut
      { s.out with tx := ⟨s.dhPlace (s.fld rOutAestxOffset 0 30), 0, [], 0#32, 0#32⟩ }

/-- AES_TX_START. -/
def execAesTxStart (s : State) : Host.Outcome State Fault Refusal :=
  if !s.reaches 14 then .next s else .next s.aesTxStart

/-- Output off after the frame in progress (R523). -/
def State.aesTxStop (s : State) : State :=
  if s.txState = 1 ∨ s.txState = 2 then
    (s.setFld rOutAestxStat 28 4 0).setOut { s.out with tx := { s.out.tx with sent := [] } }
  else s

/-- AES_TX_STOP. -/
def execAesTxStop (s : State) : Host.Outcome State Fault Refusal :=
  if !s.reaches 14 then .next s else .next (if s.unitLive 14 6 then s.aesTxStop else s)

/-- The CRCC of channel status (AES3): polynomial 0x1D from all ones, each byte's bit 0 first. -/
def crcc (bs : List Byte) : Byte :=
  let c := bs.foldl (fun c b => (List.range 8).foldl (fun (c : Nat) i =>
    let t := c.testBit 7 != b.getLsbD i
    let d := c * 2 % 256
    if t then d ^^^ 0x1D else d) c) 0xFF
  BitVec.ofNat 8 ((List.range 8).foldl (fun n i => n + (c.testBit (7 - i)).toNat * 2 ^ i) 0)

/-- The channel status that TX sends (R520). -/
def aesStatus : List Byte :=
  let b := [0x05#8, 0x00#8, 0x2C#8] ++ List.replicate 20 0#8
  b ++ [crcc b]

/-- What TX sends for a subframe word: the audio slot, validity 0, user bit 0 (R520). -/
def aesSlot (w : Nat) : Word := BitVec.ofNat 32 (w % 2 ^ 32 / 256 * 256)

/-- AES_TX_PREAMBLE: the block at HEAD is sent where it is valid, else 192 frames repeat the last samples. -/
def State.aesPreamble (s : State) (stamp : Nat) : State :=
  let st := s.txState
  let x := s.out.tx
  if !s.unitLive 14 6 || !(st == 2 || (st == 1 && decide (x.at_ * tuPerNs ≤ stamp))) then s
  else
    let s0 := s.setFld rOutAestxStat 28 4 2
    let n := s.aesBlocks rOutAestxRing
    let h := s.fld rOutAestxHead 0 12
    let a := s.aesAddr rOutAestxCfg (h % n)
    let full := h != s.fld rOutAestxTail 0 12
    let m := if full then s0.memRead a 2048 else (s0, .ok, [])
    let s0 := m.1
    let b := m.2.2
    if full && leAt b 0 4 == 0x4F494441 && leAt b 4 1 == 1 && leAt b 6 2 == 192 then
      let words := (List.range 384).map (fun i => aesSlot (leAt b (0x40 + 4 * i) 4))
      let s1 := (s0.memWrite (a + 0x10) (mintOfTu stamp).bytes).1
      let s2 := (s1.memWrite (a + 8) (leBytes 4 (x.seq + 1))).1
      let s3 := s2.setOut { s2.out with tx :=
        { x with seq := x.seq + 1, sent := words, last := (words.getD 382 0#32, words.getD 383 0#32) } }
      (s3.setFld rOutAestxHead 0 12 ((h + 1) % n)).raise 0x10E 6
    else
      let s1 := s0.setOut { s0.out with tx := { x with sent := (List.range 192).flatMap (fun _ => [x.last.1, x.last.2]) } }
      (s1.countN rOutAestxUnderrun 192).raise 0x10F 6

/-- AES_TX_PREAMBLE. -/
def execAesTxPreamble (stamp : Nat) (s : State) : Host.Outcome State Fault Refusal := .next (s.aesPreamble stamp)

/-- A write of TAIL (R519): positions count modulo NBLK; a write that would reach HEAD + NBLK is ignored. -/
def State.aesTail (s : State) (v : Word) : State :=
  if !s.unitLive 14 6 then s
  else
    let n := s.aesBlocks rOutAestxRing
    let h := s.fld rOutAestxHead 0 12
    let t := s.fld rOutAestxTail 0 12
    let w := fget v 0 12
    let fill := (t + n - h % n) % n
    let adv := (w + n - t % n) % n
    if n ≤ w ∨ n ≤ fill + adv then s.violation rOutAestxTail else s.wr rOutAestxTail (BitVec.ofNat 32 w)

/-- AES_TX_TAIL_WRITE. -/
def execAesTxTailWrite (v : Word) (s : State) : Host.Outcome State Fault Refusal :=
  if !s.reaches 14 then .next s else .next (s.aesTail v)

/-! ### Interruptions (R521) -/

/-- The frames that an open block holds at this moment: the receiver's own, so free values (log entry 23). -/
def State.aesHeld (s : State) : State × List Nat :=
  let i := s.out.free
  let k := (Config.outWord i).toNat % 192
  (s.setOut { s.out with free := i + 1 + 2 * k }, (List.range (2 * k)).map (fun j => (Config.outWord (i + 1 + j)).toNat))

/-- PFW: open receiver blocks end with UNLOCK, AESOUT goes off with POWER. -/
def State.aesPower (s : State) : State :=
  let s1 := s.forEach [0, 1] (fun t n =>
    if (t.aesRx n).cur.isSome && t.aesOn n then t.aesHeld.1.aesUnlock n t.aesHeld.2 else t)
  if s.txState = 1 ∨ s.txState = 2 then (s1.aesTxStop.setFld rOutAestxStat 28 4 3).setFld rOutAestxStat 24 4 2 else s1

/-- A fence of OUT: receivers lose lock and what they hold, TX is off. -/
def State.aesFence (s : State) (us : List Nat) : State :=
  s.forEach us fun t u =>
    if u = 6 then t.aesTxStop else ((t.setAesRx (u - 4) AesRx.init).setBit (rOutAesrxStat (u - 4)) 31 false).portOd

end Sys2Proof.Machine
end

