-- ==== Sys2Proof/Machine/Clearing.lean ====
section
/-! DEFINITION. The Clearing House (20): channels, latches, tasks, strobes. -/

namespace Sys2Proof.Machine

open Sys2Proof

/-- Replace the Clearing House. -/
def State.setCh (s : State) (c : ChSt) : State := { s with ch := c }

/-- REFRACT of channel `n` (R537). -/
def State.refract (s : State) (n : Nat) : Nat := clampNat 1 4096 (s.fld (rSvcChRefract n) 0 13)

/-- WIDTH of channel `n`, µs. -/
def State.chWidth (s : State) (n : Nat) : Nat := max 1 (s.fld (rSvcChCfg n) 16 12)

/-- An event of channel `n` for task input `x`: it merges with one that reached the input in the same cycle of the
consumer's clock (R533). -/
def State.toTask (s : State) (n x : Nat) (lin : BitVec 64) (width : Nat) : State :=
  let c := if 0x098 ≤ x then s.pxCycle else s.now
  if s.ch.tasks.any (fun k => k.input == x && k.cyc == c) then
    (s.setCh { s.ch with tasks := s.ch.tasks.map (fun k =>
      if k.input = x ∧ k.cyc = c then { k with lin := k.lin ||| lin, width := max k.width width, chans := n :: k.chans }
      else k) }).count (rSvcTinMerge x)
  else s.setCh { s.ch with tasks := s.ch.tasks ++ [⟨x, lin, width, c, [n]⟩] }

/-- Delivery to the consumer of channel `n` (R526, R528). -/
def State.chDeliver (s : State) (n : Nat) (lin : BitVec 64) : State :=
  let task := s.fld (rSvcChCfg n) 0 12
  match s.fld (rSvcChCfg n) 28 2 with
  | 0 => s.toTask n task lin 0
  | 1 => s.toTask n (0x090 + task % 8) lin (s.chWidth n)
  | 2 => s.toTask n (0x098 + task) lin 0
  | _ =>
    let a := if n < 32 then rSvcChHostpendLo else rSvcChHostpendHi
    (s.setBit a (n % 32) true).raiseLin 0x111 1 lin

/-- Stage 2: events that have passed channel `n` already are dropped (R532). -/
def State.chLoop (s : State) (n k : Nat) : State :=
  if k = 0 then s
  else
    let a := if n < 32 then rSvcChLoopLo else rSvcChLoopHi
    ((s.countN (rSvcChLoopDrop n) k).setBit a (n % 32) true).raise 0x110 1

/-- The gate of channel `n` is open, on the latches at the start of the cycle (R530). -/
def State.gateOpen (s : State) (n : Nat) : Bool :=
  let m := s.rd (rSvcChGate n) &&& 0xFFFF#32
  s.ch.gate &&& m == m

/-- An event was delivered in the last REFRACT − 1 cycles. -/
def State.refractory (s : State) (n : Nat) : Bool :=
  match Map.get (fun _ => 0) s.ch.last n with
  | 0 => false
  | t + 1 => decide (1 < s.refract n) && decide (s.pxCycle < t + s.refract n)

/-- The events that reached channel `n` in the oldest cycle not yet taken pass its stages (R530 to R532). AUTOCLR clears the
latches of the gate in the next cycle. -/
def State.channelEvent (s : State) (n : Nat) : State :=
  let c := ((s.ch.q.find? (fun e => e.ch == n)).map (·.cyc)).getD 0
  let evs := (s.ch.q.filter (fun e => e.ch == n && e.cyc == c)).map (·.lin)
  let s0 := s.setCh { s.ch with q := s.ch.q.filter (fun e => !(e.ch == n && e.cyc == c)) }
  if evs.isEmpty || !s.unitLive 15 1 || !s.bit (rSvcChCfg n) 31 then s0
  else
    let rest := evs.filter (fun l => !l.getLsbD n)
    let s1 := s0.chLoop n (evs.length - rest.length)
    if rest.isEmpty then s1
    else
      let s2 := s1.countN (rSvcChMerged n) (rest.length - 1)
      if !s2.gateOpen n then s2.count (rSvcChGated n)
      else if s2.refractory n then s2.count (rSvcChRefractDrop n)
      else
        let lin := rest.foldl (· ||| ·) (linBit n)
        let s3 := ((s2.count (rSvcChDelivered n)).setLive (rSvcChLastLinLo n) lin).setCh
          { s2.ch with last := Map.set (fun _ => 0) s2.ch.last n (s2.pxCycle + 1) }
        let s4 := s3.chDeliver n lin
        if s.bit (rSvcChCfg n) 30 then s4.setCh { s4.ch with clr := s4.ch.clr ||| (s.rd (rSvcChGate n) &&& 0xFFFF#32) }
        else s4

/-- CHANNEL_EVENT. -/
def execChannelEvent (n : Fin 64) (s : State) : Host.Outcome State Fault Refusal := .next (s.channelEvent n)

/-- SOFTWARE_FIRE: a write of SVC_CH_FIRE_LO or _HI; each channel named gets an event with lineage 0 (R534, R536). -/
def State.softFire (s : State) (hi : Bool) (v : Word) : State :=
  s.forEach (idxs 32 v.getLsbD) (fun t n => t.toChannel (if hi then 32 + n else n) 0#64)

/-- SOFTWARE_FIRE. -/
def execSoftwareFire (hi : Bool) (v : Word) (s : State) : Host.Outcome State Fault Refusal :=
  if !s.reaches 15 then .next s else .next (s.softFire hi v)

/-- SET_LATCH: the task sets latch `k` (R529). -/
def execSetLatch (k : Fin 16) (s : State) : Host.Outcome State Fault Refusal :=
  .next (if !s.unitLive 15 1 then s
    else
      let r := s.takeTask (0x098 + k)
      let s1 := r.1.setBit rSvcChLatch k true
      match r.2 with
      | none => s1
      | some t => s1.setCh { s1.ch with set := Map.set (fun _ => 0) s1.ch.set k (t.cyc + 1) })

/-- CLR_LATCH: the task clears latch `k`; one of the cycle in which a task set the latch acts before it (R529). -/
def execClrLatch (k : Fin 16) (s : State) : Host.Outcome State Fault Refusal :=
  .next (if !s.unitLive 15 1 then s
    else
      let r := s.takeTask (0x0A8 + k)
      match r.2 with
      | none => r.1.setBit rSvcChLatch k false
      | some t => if Map.get (fun _ => 0) s.ch.set k = t.cyc + 1 then r.1 else r.1.setBit rSvcChLatch k false)

/-- A write of SVC_CH_LATCH_SET; a clear of the same cycle acts before it (R529). -/
def State.latchSet (s : State) (v : Word) : State :=
  (s.wr rSvcChLatch (s.rd rSvcChLatch ||| (v &&& 0xFFFF#32))).setCh { s.ch with
    set := (idxs 16 v.getLsbD).foldl (fun m k => Map.set (fun _ => 0) m k (s.pxCycle + 1)) s.ch.set }

/-- LATCH_SET_WRITE. -/
def execLatchSetWrite (v : Word) (s : State) : Host.Outcome State Fault Refusal :=
  if !s.reaches 15 then .next s else
  .next (if s.unitLive 15 1 then s.latchSet v else s)

/-- CHANNEL_STROBE: the event that waits for SOn makes the output conduct for its WIDTH, subject to Schedule pulses (R218,
R527). -/
def execChannelStrobe (so : Fin 8) (s : State) : Host.Outcome State Fault Refusal :=
  let r := s.takeTask (0x090 + so)
  .next (match r.2 with
    | none => s
    | some k => r.1.chanPulse so (s.nowTu + (max 1 k.width * 1000 * tuPerNs : Nat)))

/-- The Clearing House is fenced: events in flight and waiting tasks are gone (R38, R535). -/
def State.chFence (s : State) : State := s.setCh { s.ch with q := [], tasks := [] }

end Sys2Proof.Machine
end

