-- ==== Sys2Proof/Machine/Boundary.lean ====
section
/-! DEFINITION. Boundary points (R31 to R33): what a stream's empty pixel path lets happen, the holds of an activation, and
the completion of a step change. -/

namespace Sys2Proof.Machine

open Sys2Proof

/-- Offsets of the registers of a catalogue row. -/
def RegRow.offs (r : RegRow) : List Nat :=
  (List.range r.n).flatMap fun i => (List.range r.n2).map fun j => r.off + i * r.st + j * r.st2

/-- The addresses of the registers of a unit whose row satisfies `p`. -/
def unitAddrs (c u : Nat) (p : RegRow → Bool) : List Nat :=
  match kindOf c u with
  | none => []
  | some (k, _) => ((k.regRows.filter p).flatMap RegRow.offs).map (unitBase c u + ·)

/-- The fields of a register that an image sets: RW and RWS (R81). -/
def RegRow.imgMask (r : RegRow) : Word := r.mask .rw ||| r.mask .st ||| r.mask .rws

/-- The RWS registers of a unit. -/
def rwsAddrs (c u : Nat) : List Nat := unitAddrs c u (fun r => r.mask .rws != 0#32)

/-! ### A cluster that joins a stream (R305) -/

/-- Registers of stream `i` in unit `u` of cluster `d`, as another cluster of the stream takes them (R305): every writable
field but those that place the cluster itself, and with them the bank in force, the exchange that waits and SEQ. -/
def State.copyLead (s : State) (d c u : Nat) : State :=
  let own := [rPixCfg c, rPixStripe c]
  let show_ := [rPixStat c, rPixPxStat c]
  (unitAddrs (5 + c) u (fun r => r.imgMask != 0#32 || show_.any (fun a => rowAt a == some r))).foldl (fun t a =>
    if own.contains a then t
    else
      let b := a - c * 0x400000 + d * 0x400000
      let m := if a = rPixStat c then 0x11#32 else if a = rPixPxStat c then 0xFFFFFFFF#32
        else match rowAt a with | some r => r.imgMask | none => 0#32
      (t.wr a ((t.rd a &&& ~~~ m) ||| (t.rd b &&& m))).setShd a (t.shd b)) s

/-- A cluster takes banks and stream registers from another cluster of its stream, outside the units `us` (R305). -/
def State.joinStream (s : State) (us : List (Nat × Nat)) (k u : Nat) : State :=
  let i := s.fld (rPixCfg k) 24 6
  if u = 0 || 3 < u || !s.bit (rPixCfg k) 31 then s
  else match (s.servers i).find? (fun d => d != k && !us.contains (5 + d, u)) with
    | some d => s.copyLead d k u
    | none => s

/-! ### The Vault at a boundary point (R112) -/

/-- DEV_VLT_STAT.STATE. -/
def State.vltState (s : State) : Nat := s.fld rDevVltStat 28 4

/-- Set it. -/
def State.setVltState (s : State) (n : Nat) : State := s.setFld rDevVltStat 28 4 n

/-- SWAP_SERIAL. -/
def State.swapSerial (s : State) : Nat := (s.rd rDevVltSwapLo).toNat + s.fld rDevVltSwapHi 0 16 * 2 ^ 32

/-- The boundary point of stream `i` after the frame of `serial` starts the search of an armed activation. -/
def State.startsSearch (s : State) (i serial : Nat) : Bool :=
  let ref := s.fld rDevVltSwapHi 16 6
  if s.capturing ref then i == ref && (serial == s.swapSerial || serialLater s.swapSerial serial) else s.capturing i

/-- Every stream with an open segment is held: the swap point has arrived. -/
def State.allHeld (s : State) : Bool := s.captureStrs.all (fun i => s.vlt.held.getLsbD i)

/-- Step 2 of R112: while an activation seeks its swap point, the stream's tap is held; the last hold is the swap point. -/
def State.holdAt (s : State) (i serial : Nat) : State :=
  if s.vltState != 4 || !(s.vlt.search || s.startsSearch i serial) then s
  else
    let v := s.vlt
    let held := if s.capturing i then v.held ||| linBit i else v.held
    let s1 : State := { s with vlt := { v with search := true, held := held } }
    if s1.allHeld then (s1.setVltState 5).pauseTeller else s1

/-! ### Changes at a boundary point -/

/-- Step 1 of R33: the RWS registers on the pixel path of stream `i` commit (R186, R304). -/
def State.commitStream (s : State) (i : Nat) : State :=
  let pixRegs := (s.servers i).flatMap (fun c => [1, 2, 3].flatMap (rwsAddrs (5 + c)))
  s.forEach (pixRegs ++ [rIngStrPad i, rIngStrTout i]) State.commit

/-- Step 3 of R33: the banks exchange where SWAP_PENDING is 1 (R304). -/
def State.lutSwap (s : State) (i : Nat) : State :=
  match s.lead i with
  | some c => if s.bit (rPixStat c) 0 then s.exchange i else s
  | none => s

/-- The cap of a stream follows the step, the fences and the unit resets (R36, R211): T_min at the step whose cap the
Schedule applies, m at the active step. -/
def State.capNow (s : State) (i : Nat) : State :=
  let t := s.tminNow i s.clk.cap
  (s.setSchStr i { s.schStr i with tmin := t, m := s.decM i s.stepAct }).wr (rSchStrTmin i) (tminWord t)

/-- The boundary point of stream `i` behind the frame of `serial` (R31 to R33): commits, the activation's hold, LUT swap
unless held, stripes and cap; T_EXPO returns to the Mint (R475). Settings epochs change at placement (R215). -/
def State.boundaryAt (s : State) (i serial : Nat) : State :=
  let s1 := (s.commitStream i).holdAt i serial
  let s2 := if s1.vlt.held.getLsbD i then s1 else s1.lutSwap i
  let s3 := (s2.resplit i).capNow i
  if s3.mintUp then s3.setSchStr i { s3.schStr i with noMint := false } else s3

/-- The boundary points of streams that no pixel cluster serves: the cycle in which each of their frames has closed (R31). -/
def State.runBoundaries (s : State) : State :=
  s.forEach (s.ing.frames.filter (fun f => f.tap == 2 && !f.open_)) fun t f =>
    (if (t.servers f.stream).isEmpty then t.boundaryAt f.stream f.serial else t).dropFrame f

/-- What follows every command that can close frames or pass boundary points: boundary points of untapped streams, and the
frames that CMP and COR take up. -/
def State.follow (s : State) : State := ((((s.runBoundaries).cmpIntake).corIntake).corAbandon).pruneGone

/-- BOUNDARY_POINT of stream `i` (R31): the frame that has left the tap is processed and the path empty. -/
def State.boundaryPoint (s : State) (i : Nat) : State :=
  match s.ing.frames.find? (fun f => f.stream == i && f.tap == 1 && !f.open_) with
  | none => s
  | some f => (((s.finishFrame f).dropFrame f).boundaryAt i f.serial).follow

/-- BOUNDARY_POINT. -/
def execBoundaryPoint (stream : Fin 64) (s : State) : Host.Outcome State Fault Refusal := .next (s.boundaryPoint stream)

/-- TAP_START. -/
def execTapStart (stream : Fin 64) (s : State) : Host.Outcome State Fault Refusal := .next (s.tapStart stream).follow

/-! ### The step of CLK_PX (R27, R28) -/

/-- Show that a step change is in progress. -/
def State.setSwitching (s : State) (b : Bool) : State := s.setBit rDevClk 8 b

/-- Put the step change. -/
def State.setClk (s : State) (c : Clk) : State := { s with clk := c }

/-- Serials of the exposures placed and not yet past their boundary point in the pixel clusters; nothing waits for a stream
that no cluster serves (R28, R31). -/
def State.exposed (s : State) : List Nat :=
  ((List.range 32).flatMap (fun p =>
      (s.part p).entries.filter (fun e => e.kind == 0 && !(s.servers e.stream).isEmpty))).map (·.serial) ++
    (s.ing.frames.filter (fun f => f.tap != 2)).map (·.serial)

/-- A demand is acted on: with the clock stopped the step changes at once (R27); otherwise a slower step first applies its
cap, a faster one switches first (R28). STEP_ACT follows the demands only while the outputs are released (R27). -/
def State.stepEval (s : State) : State :=
  let d := s.stepDemand
  if !s.released || s.clk.stage != 0 || d == s.stepAct then s
  else if s.pxStopped then
    let s1 := (s.setFld rDevClk 0 2 d).setClk ⟨0, d, d, []⟩
    (s1.forEach s1.captureStrs (fun t i => t.capNow i)).raise 0x001 0
  else if s.stepAct < d then
    let s1 := (s.setClk ⟨1, d, d, s.exposed⟩).setSwitching true
    s1.forEach s1.captureStrs fun t i =>
      let m := t.tminNow i d
      (t.setSchStr i { t.schStr i with tmin := m }).wr (rSchStrTmin i) (tminWord m)
  else (s.setClk ⟨1, d, s.clk.cap, []⟩).setSwitching true

/-- Every frame exposed under the old cap has passed its boundary point. -/
def State.drained (s : State) : Bool := s.clk.drain.all (fun k => !s.exposed.contains k)

/-- CLOCK_SWITCH (R28): the clock switches and pauses for 32 cycles. -/
def State.clockSwitch (s : State) : State :=
  if s.clk.stage == 1 && s.drained then (s.setFld rDevClk 0 2 s.clk.target).setClk { s.clk with stage := 2, drain := [] } else s

/-- The change is complete: the cap follows, SWITCHING clears, a waiting demand is acted on (R28). -/
def State.stepDone (s : State) : State :=
  (((s.setClk ⟨0, s.clk.target, s.clk.target, []⟩).setSwitching false).raise 0x001 0).stepEval

/-- CLOCK_SWITCH. -/
def execClockSwitch (s : State) : Host.Outcome State Fault Refusal := .next s.clockSwitch

/-- STEP_CHANGED. -/
def execStepChanged (s : State) : Host.Outcome State Fault Refusal := .next (if s.clk.stage == 2 then s.stepDone else s)

/-- CLK_PX or the clocks of its clusters stop: a step change in progress completes in that cycle (R27). -/
def State.pxStop (s : State) : State :=
  if s.clk.stage == 0 then s
  else
    ((s.setFld rDevClk 0 2 s.clk.target).setClk ⟨0, s.clk.target, s.clk.target, []⟩).setSwitching false |>.raise 0x001 0

end Sys2Proof.Machine
end

