-- ==== Sys2Proof/Machine/Receive.lean ====
section
/-! DEFINITION. The commands of LNK and ING (06, 07), each with what follows the frames it closes. -/

namespace Sys2Proof.Machine

open Sys2Proof

/-- CONTROL_CHANNEL_SYNC (R158). -/
def execControlChannelSync (port : Fin 4) (s : State) : Host.Outcome State Fault Refusal :=
  .next (s.ctlSync port).follow

/-- CONTROL_SYNC_LOSS (R158). -/
def execControlSyncLoss (port : Fin 4) (s : State) : Host.Outcome State Fault Refusal :=
  .next (s.ctlSyncLoss port).follow

/-- CTL_SYNC_TIMEOUT (R149). -/
def execCtlSyncTimeout (port : Fin 4) (s : State) : Host.Outcome State Fault Refusal :=
  .next (s.ctlSyncTimeout port).follow

/-- CDR_LOCK (R149). -/
def execCdrLock (port : Fin 4) (s : State) : Host.Outcome State Fault Refusal :=
  .next (s.cdrLock port)

/-- CTLE_SWEEP_DONE (R149). -/
def execCtleSweepDone (port : Fin 4) (heights : List (List Nat)) (s : State) : Host.Outcome State Fault Refusal :=
  .next (s.ctleSweep port heights)

/-- DFE_CONVERGED (R149). -/
def execDfeConverged (port : Fin 4) (taps : List (List Int)) (s : State) : Host.Outcome State Fault Refusal :=
  .next (s.dfeConverged port taps)

/-- AM_LOCK (R149). -/
def execAmLock (port : Fin 4) (s : State) : Host.Outcome State Fault Refusal :=
  .next (s.amLock port).follow

/-- PORT_UP (R149). -/
def execPortUp (port : Fin 4) (skewNs : Nat) (s : State) : Host.Outcome State Fault Refusal :=
  .next (s.portUpEvent port skewNs).follow

/-- TRAINING_TIMEOUT (R149). -/
def execTrainingTimeout (port : Fin 4) (failedLanes : BitVec 8) (s : State) : Host.Outcome State Fault Refusal :=
  .next (s.trainingTimeout port failedLanes).follow

/-- LANE_FAULT (R150). -/
def execLaneFault (port : Fin 4) (lane : Fin 8) (s : State) : Host.Outcome State Fault Refusal :=
  .next (s.laneFault port (8 * port + lane)).follow

/-- RETRAIN (R162). -/
def execRetrain (port : Fin 4) (s : State) : Host.Outcome State Fault Refusal :=
  if !s.reaches 2 then .next s else
  .next (s.retrain port).follow

/-- CODEWORD_DECODE (R139). -/
def execCodewordDecode (lane : Fin 32) (symbols : List Nat) (s : State) : Host.Outcome State Fault Refusal :=
  .next (s.codeword lane symbols).follow

/-- PACKET_RECEIVE (R146). -/
def execPacketReceive (port : Fin 4) (s : State) : Host.Outcome State Fault Refusal :=
  .next (s.packetRx port).follow

/-- DFE_UPDATE (R151). -/
def execDfeUpdate (lane : Fin 32) (signE : Int) (signD : List Int) (s : State) : Host.Outcome State Fault Refusal :=
  .next (if s.unitLive 2 (16 + lane) then s.dfeUpdate lane signE signD else s)

/-- EYE_SCAN_START (R155). -/
def execEyeScanStart (lane : Fin 32) (v : Word) (s : State) : Host.Outcome State Fault Refusal :=
  if !s.reaches 2 then .next s else
  .next (if s.unitLive 2 (16 + lane) then s.scanStart lane v else s)

/-- EYE_SCAN_ABORT (R157). -/
def execEyeScanAbort (lane : Fin 32) (s : State) : Host.Outcome State Fault Refusal :=
  if !s.reaches 2 then .next s else
  .next (if s.unitLive 2 (16 + lane) then s.scanAbort lane else s)

/-- EYE_SCAN_POINT (R155). -/
def execEyeScanPoint (lane : Fin 32) (errors : Nat) (s : State) : Host.Outcome State Fault Refusal :=
  .next (if s.unitLive 2 (16 + lane) then s.scanPoint lane errors else s)

/-- HEAD_WRITE (R162). -/
def execHeadWrite (port : Fin 4) (s : State) : Host.Outcome State Fault Refusal :=
  if !s.reaches 2 then .next s else
  .next (s.headGo port false).follow

/-- HEAD_READ (R162). -/
def execHeadRead (port : Fin 4) (s : State) : Host.Outcome State Fault Refusal :=
  if !s.reaches 2 then .next s else
  .next (s.headGo port true).follow

/-- WR_ACK (R159). -/
def execWrAck (port : Fin 4) (bytes : List Byte) (k297 : Bool) (s : State) : Host.Outcome State Fault Refusal :=
  .next (s.wrAck port bytes k297).follow

/-- RD_DATA (R159). -/
def execRdData (port : Fin 4) (bytes : List Byte) (k297 : Bool) (s : State) : Host.Outcome State Fault Refusal :=
  .next (s.rdDataRx port bytes k297).follow

/-- TRAIN_ACK (R159). -/
def execTrainAck (port : Fin 4) (bytes : List Byte) (k297 : Bool) (s : State) : Host.Outcome State Fault Refusal :=
  .next (s.trainAck port bytes k297).follow

/-- EPOCH_ACK (R159). -/
def execEpochAck (port : Fin 4) (bytes : List Byte) (k297 : Bool) (s : State) : Host.Outcome State Fault Refusal :=
  .next (s.epochAck port bytes k297).follow

/-- HEVENT (R159). -/
def execHevent (port : Fin 4) (bytes : List Byte) (k297 : Bool) (s : State) : Host.Outcome State Fault Refusal :=
  .next (s.hevent port bytes k297).follow

/-- NAK (R159). -/
def execNak (port : Fin 4) (bytes : List Byte) (k297 : Bool) (s : State) : Host.Outcome State Fault Refusal :=
  .next (s.nakRx port bytes k297).follow

/-- CONTROL_RESPONSE_TIMEOUT (R160). -/
def execControlResponseTimeout (port : Fin 4) (s : State) : Host.Outcome State Fault Refusal :=
  .next (s.ctlTimeout port).follow

/-- FS_RECEIVE (R166). -/
def execFsReceive (port : Fin 4) (s : State) : Host.Outcome State Fault Refusal :=
  .next (s.fsReceive port).follow

/-- EXP_RECEIVE (R168). -/
def execExpReceive (port : Fin 4) (s : State) : Host.Outcome State Fault Refusal :=
  .next (s.expReceive port).follow

/-- LINE_RECEIVE (R168). -/
def execLineReceive (port : Fin 4) (s : State) : Host.Outcome State Fault Refusal :=
  .next (s.lineReceive port).follow

/-- METADATA_RECEIVE (R174). -/
def execMetadataReceive (port : Fin 4) (s : State) : Host.Outcome State Fault Refusal :=
  .next (s.metadataReceive port).follow

/-- SENSOR_STATUS_RECEIVE (R168). -/
def execSensorStatusReceive (port : Fin 4) (s : State) : Host.Outcome State Fault Refusal :=
  .next (s.sensorStatusReceive port).follow

/-- FE_RECEIVE (R170). -/
def execFeReceive (port : Fin 4) (s : State) : Host.Outcome State Fault Refusal :=
  .next (s.feReceive port).follow

/-- NOFS_TIMEOUT (R167). -/
def execNofsTimeout (head : Fin 4) (s : State) : Host.Outcome State Fault Refusal :=
  .next (if s.unitLive 3 (1 + head) then s.nofsTimeout head else s).follow

/-- FRAME_TIMEOUT (R170). -/
def execFrameTimeout (stream : Fin 64) (s : State) : Host.Outcome State Fault Refusal :=
  .next (if s.unitLive 3 8 then s.frameTimeout stream else s).follow

end Sys2Proof.Machine
end

