-- ==== Sys2Proof/Machine/Fence.lean ====
section
/-! DEFINITION. Fences (R38 to R41): a unit stops at once, what it owed is missing, and the rest of the module goes on. -/

namespace Sys2Proof.Machine

open Sys2Proof

/-- A sub-channel is fenced: what it had queued is gone, and partitions whose region interleaves over it close their open
segment (R41, R262). -/
def State.fenceSc (s : State) (n : Nat) : State :=
  let s1 : State := { s with mem := { s.mem with
    q := s.mem.q.filter (fun b => b.sc != n)
    resp := s.mem.resp ++ (s.mem.q.filter (fun b => b.sc == n)).map
      (fun b => ⟨b.port, .fenced, if b.write then [] else List.replicate 64 0#8⟩) } }
  let s2 := s1.memReady
  s2.forEach s2.armedStrs fun t i =>
    match t.partOf i with
    | some p =>
      if (maskBits (t.fld (rMemRgnMap (t.fld (rIngPartCfg p) 0 4)) 16 16)).contains n then
        (t.setSchStr i { t.schStr i with reopen := false }).beginClose i 0x40
      else t
    | none => t

/-- Frames that wait for a tap that no cluster serves any more pass without products, flagged FENCED (R39). -/
def State.fenceTap (s : State) (i : Nat) : State :=
  if (s.servers i).isEmpty then
    s.forEach (s.ing.frames.filter (fun f => f.stream == i && f.tap == 0)) fun t f =>
      let u := (t.untap f).modEntry f.part f.serial (fun e => { e with flags := (e.flags ||| flag 3) &&& ~~~ flag 4 })
      u.syncPort (f.src / 16)
  else s

/-- The Tally unit that owes records of a stream is fenced: its entries no longer wait for them (R39, R309). -/
def State.fenceTally (s : State) (i : Nat) : State :=
  let ps := s.pixStr i
  (s.forEach ps.tally (fun t r => t.modEntry r.part r.serial (fun e =>
    { e with owed := false, flags := e.flags ||| flag 3 }))).setPixStr i { ps with tally := [] }

/-- Unit `u` of cluster `c` is gone for the frame of stream `i` that is in progress there (R39). -/
def State.cutFrames (s : State) (i c u : Nat) : State :=
  { s with ing := { s.ing with frames := s.ing.frames.map (fun f =>
      if f.stream == i && f.tap == 1 && f.srv.contains c then { f with cut := (c, u) :: f.cut } else f) } }

/-- Pixel cluster `c`: its stripe is gone from now on (R41). -/
def State.fencePix (s : State) (c u : Nat) : State :=
  if s.bit (rPixCfg c) 31 then
    let i := s.fld (rPixCfg c) 24 6
    let lead := s.bit (rPixCfg c) 8
    let s0 := if u = 1 then (s.cutFrames i c u).markSplit i else s.cutFrames i c u
    let s1 := if (u == 1 || u == 2) && lead then s0.fenceTally i else s0
    if u ≠ 1 then s1 else if s1.capturing i then s1.fenceTap i else (s1.fenceTap i).resplit i
  else s

/-- COR: every job stops with no further result (R342). -/
def State.corFence (s : State) : State :=
  ((s.setCor { s.cor with cur := none, jobs := [] }).forEach (List.range 4) fun t j =>
    (t.setFld (rCorJStat j) 28 4 0).setFld (rCorJStat j) 16 2 0).syncCor

/-- The strobe outputs stop. -/
def State.fenceSo (s : State) : State := s.forEach (List.range 8) (fun t n => t.setStrobe n ⟨none, none⟩)

/-- What stops with unit `u` of cluster `c`, whose fence bit is set (R41). -/
def State.fenceEffect (s : State) (c u : Nat) : State :=
  match c with
  | 1 => if 16 ≤ u ∧ u < 32 then s.fenceSc (u - 16) else s
  | 2 =>
    if 1 ≤ u ∧ u < 5 then
      let n := u - 1
      let s1 := if s.portState n = 3 then s.leaveUp n 0 true else s.portLost n true
      s1.clearStream n
    else if 16 ≤ u ∧ u < 48 then s.laneFault ((u - 16) / 8) (u - 16)
    else s
  | 3 =>
    if 1 ≤ u ∧ u < 5 then s.portLost (u - 1) true
    else if u = 8 then s.closeAll (flag 3)
    else s
  | 4 =>
    if u = 1 then s.forEach (List.range 8) (fun t k => t.withdraw k)
    else if 2 ≤ u ∧ u < 10 then s.withdraw (u - 2)
    else if 10 ≤ u ∧ u < 16 then s.withdrawAxis (u - 9)
    else if 16 ≤ u ∧ u < 20 then s.setSchHead (u - 16) { s.schHead (u - 16) with pulse := none }
    else if u = 21 then s.fenceSo
    else s
  | 5 => s.fencePix 0 u
  | 6 => s.fencePix 1 u
  | 7 => s.fencePix 2 u
  | 8 => s.fencePix 3 u
  | 9 => if u = 1 ∨ u = 2 then s.corFence else s
  | 10 =>
    if u = 1 then [0, 1].foldl (fun t d => t.decStop d) (s.encFence (List.range 8))
    else if 2 ≤ u ∧ u < 10 then s.encFence [u - 2]
    else if 10 ≤ u ∧ u < 12 then s.decStop (u - 10)
    else s
  | 11 =>
    if u = 1 then s.cmpAbort (List.range 8) else if 2 ≤ u ∧ u < 10 then s.cmpAbort [u - 2] else s
  | 13 =>
    if u = 1 then (s.withdrawAxis 0).forEach s.captureStrs (fun t i => t.setSchStr i { t.schStr i with noMint := true })
    else if 2 ≤ u ∧ u < 4 then s.syncUp (u - 2)
    else s
  | 14 =>
    if 1 ≤ u ∧ u < 4 then s.dhFence [u - 1] else if 4 ≤ u ∧ u < 7 then s.aesFence [u] else s
  | 15 =>
    if u = 1 then s.chFence
    else if u = 4 then
      (s.setFld rDevClk 2 2 (max (s.fld rDevClk 2 2) (s.fld rSvcThCfg 0 2))).stepEval
    else s
  | _ => s

/-- Fence units of one cluster: every bit is set before anything follows, so none of them asserts a source again (R38). An
armed activation runs its checks again (R111). -/
def State.fenceUnits (s : State) (c : Nat) (us : List Nat) : State :=
  let new := us.filter (fun u => present s.variant c u && !inMss c u && !s.fenced c u)
  let s1 := s.forEach new (fun t u => t.setFence c u true)
  let s2 := (s1.forEach new (fun t u => t.fenceEffect c u)).follow
  if new.isEmpty || s2.vltState != 4 then s2 else { s2 with vlt := { s2.vlt with recheck := true } }

/-- Fence one unit. -/
def State.fenceUnit (s : State) (c u : Nat) : State := s.fenceUnits c [u]

/-- The units of a cluster that the variant has. -/
def clusterUnits (v : Variant) (c : Nat) : List Nat := idxs 64 (present v c)

/-- Fence every unit of a cluster outside the minimum service set. -/
def State.fenceCluster (s : State) (c : Nat) : State := s.fenceUnits c (clusterUnits s.variant c)

end Sys2Proof.Machine
end

