-- ==== Sys2Proof/Machine/HeadPower.lean ====
section
/-! DEFINITION. The V12 outputs of the sensor heads (R50 to R52) and the outputs' reset states (R68). -/

namespace Sys2Proof.Machine

open Sys2Proof

/-- State of the V12 output of head `n`: 0 OFF, 1 STARTING, 2 ON, 3 NO_HEAD, 4 TRIP_OC, 5 TRIP_TOTAL, 6 TRIP_UV (R52). -/
def State.hpwr (s : State) (n : Nat) : Nat := s.fld rSvcHpwrStat (4 * n) 4

/-- The output carries current: STARTING or ON. -/
def State.v12Runs (s : State) (n : Nat) : Bool := s.hpwr n == 1 || s.hpwr n == 2

/-- The output is tripped. -/
def State.tripped (s : State) (n : Nat) : Bool := decide (4 ≤ s.hpwr n)

/-- Set the state of an output: it no longer waits for its turn, its trip windows start anew; off, it reads no measurement;
leaving ON stops the port (R148). -/
def State.setHpwr (s : State) (n st : Nat) : State :=
  let s0 : State := { s with pwr := { s.pwr with
    startQ := s.pwr.startQ.filter (· != n), oc := setAt s.pwr.oc n 0, uv := setAt s.pwr.uv n 0 } }
  if s.hpwr n = st then s0
  else
    let s2 := s0.setFld rSvcHpwrStat (4 * n) 4 st
    let s3 := if st = 1 ∨ st = 2 then s2 else s2.wr (rSvcHpwrMeas n) 0#32
    if s.hpwr n = 2 then s3.portStop n else s3

/-- The first three conditions of R50: released, PS0 or PS1, neither loss of mains nor safe state. -/
def State.v12May (s : State) : Bool :=
  s.released && decide (s.fld rHstPwr 0 3 ≤ 1) && s.pwr.loss == 0 && s.aud.safe == 0

/-- The EN bit of a head, and its declaration. -/
def State.v12En (s : State) (n : Nat) : Bool := s.bit rSvcHpwrCtl n && s.declared n

/-- The output of head `n` follows its conditions (R50). Loss of mains and the safe state leave an output that is on until
their step at 2 ms (R130, R549). A tripped output keeps its state while EN is 1 (R51). An output that waits for its turn
is off (log entry 100). -/
def State.syncV12 (s : State) (n : Nat) : State :=
  let on := s.v12Runs n
  if s.tripped n && s.bit rSvcHpwrCtl n then s
  else if !s.v12En n then s.setHpwr n 0
  else if !s.v12May then
    if on && s.released && decide (s.fld rHstPwr 0 3 ≤ 1) && decide (s.pwr.loss < 2) && decide (s.aud.safe < 2) then s
    else s.setHpwr n 0
  else if !s.pwr.pres.getLsbD n then s.setHpwr n 3
  else if on || s.pwr.startQ.contains n then s
  else
    let s1 := s.setHpwr n 0
    { s1 with pwr := { s1.pwr with startQ := s1.pwr.startQ ++ [n] } }

/-- Every output follows its conditions, in head order. -/
def State.syncV12All (s : State) : State := s.forEach (List.range 4) (fun t n => t.syncV12 n)

/-- HEAD_OUTPUT_START (R50): the output whose turn it is switches on, where all six conditions hold. -/
def execHeadOutputStart (head : Fin 4) (s : State) : Host.Outcome State Fault Refusal :=
  .next (if s.pwr.startQ.head? = some head.val ∧ s.v12May = true ∧ s.v12En head = true ∧ s.pwr.pres.getLsbD head = true
    then s.setHpwr head 1 else s)

/-- HEAD_OUTPUT_ON (R50): the rise is complete, the port starts training (R149). -/
def execHeadOutputOn (head : Fin 4) (s : State) : Host.Outcome State Fault Refusal :=
  .next (if s.hpwr head = 1 then (s.setHpwr head 2).portStart head else s)

/-- HEAD_PRESENCE_CHANGE (R50). -/
def execHeadPresenceChange (head : Fin 4) (present : Bool) (s : State) : Host.Outcome State Fault Refusal :=
  let m := BitVec.ofNat 4 (2 ^ head.val)
  let p := if present then s.pwr.pres ||| m else s.pwr.pres &&& ~~~ m
  .next (({ s with pwr := { s.pwr with pres := p } } : State).syncV12 head).follow

/-- A trip: the output switches off with a state, and 0x119 is raised (R51). -/
def State.trip (s : State) (n st : Nat) : State := ((s.setHpwr n st).raise 0x119 3).follow

/-- The sum of all outputs in µW, by the last measurement (R51). -/
def State.v12Sum (s : State) : Nat :=
  (List.range 4).foldl (fun a n => a + s.fld (rSvcHpwrMeas n) 16 16 * s.fld (rSvcHpwrMeas n) 0 16) 0

/-- The sum exceeds 100 W. -/
def State.v12Over (s : State) : Bool := decide (100000000 < s.v12Sum)

/-- TRIP_OC (R51), the output and its current in mA at this instant: more than 3.0 A for 1 ms by the measurements, or above
4.0 A now. -/
def execTripOc (head : Fin 4 × Nat) (s : State) : Host.Outcome State Fault Refusal :=
  .next (if s.v12Runs head.1 && (decide (4000 < head.2) || s.pwr.oc.getD head.1 0 != 0) then s.trip head.1 4 else s)

/-- TRIP_UV (R51): an output that has completed its start has been below 10.8 V for 1 ms. -/
def execTripUv (head : Fin 4) (s : State) : Host.Outcome State Fault Refusal :=
  .next (if s.hpwr head == 2 && s.pwr.uv.getD head 0 != 0 then s.trip head 6 else s)

/-- TRIP_TOTAL (R51): the sum has exceeded 100 W for 10 ms and, without the outputs that have tripped meanwhile, still
does: the highest-numbered output that is on trips, and the window restarts. -/
def State.tripTotal (s : State) : State :=
  if decide (s.pwr.tot < 10) || !s.v12Over then s
  else match [3, 2, 1, 0].find? (fun n => s.hpwr n == 2) with
  | some n => ({ s with pwr := { s.pwr with tot := 0 } } : State).trip n 5
  | none => s

/-- TRIP_TOTAL. -/
def execTripTotal (s : State) : Host.Outcome State Fault Refusal := .next s.tripTotal

/-- One output's measurement of this millisecond: its register, and its trip windows (R51, R52). -/
def State.measureOne (s : State) (n : Nat) (m : Nat × Nat) : State :=
  let on := s.v12Runs n
  let s1 := s.wr (rSvcHpwrMeas n) (if on then BitVec.ofNat 32 (min m.1 0xFFFF * 2 ^ 16 + min m.2 0xFFFF) else 0#32)
  let p := s1.pwr
  { s1 with pwr := { p with
    oc := setAt p.oc n (if on && decide (3000 < m.1) then p.oc.getD n 0 + 1 else 0)
    uv := setAt p.uv n (if s.hpwr n == 2 && decide (m.2 < 10800) then p.uv.getD n 0 + 1 else 0) } }

/-- The supervisor's measurement at 1 kHz (R51, R52): every output, then the window of their sum. `line` says that the line
has held 80 VAC for 100 ms, or that it has stayed below 70 VAC for 3 ms: MAINS_OK follows. -/
def State.measure (s : State) (meas : List (Nat × Nat)) (line : Option Bool) : State :=
  let s1 := s.forEach (List.range 4) (fun t n => t.measureOne n (meas.getD n (0, 0)))
  let s2 : State := { s1 with pwr := { s1.pwr with tot := if s1.v12Over then s1.pwr.tot + 1 else 0 } }
  match line with
  | some b => if s.powered then s2.setBit rSvcPwrStat 0 b else s2
  | none => s2

/-- HEAD_OUTPUT_MEASURE: current in mA and voltage in mV of each output, by head, and the line's condition (R51, R52). -/
def execHeadOutputMeasure (meas : List (Nat × Nat) × Option Bool) (s : State) : Host.Outcome State Fault Refusal :=
  .next (s.measure meas.1 meas.2)

/-- A write of SVC_HPWR_CTL (R52): EN of a head that is not declared reads 0; writing 0 ends a trip (R51). -/
def State.hpwrCtl (s : State) (v : Word) : State :=
  let en := (idxs 4 (fun n => v.getLsbD n && s.declared n)).foldl (fun m n => m + 2 ^ n) 0
  ((s.wr rSvcHpwrCtl (BitVec.ofNat 32 en)).syncV12All).follow

/-- SVC_HPWR_CTL_WRITE. -/
def execSvcHpwrCtlWrite (v : Word) (s : State) : Host.Outcome State Fault Refusal :=
  if !s.reaches 15 then .next s else .next (s.hpwrCtl v)

/-- Head outputs and control channels off, TRG pulled down, SO high-impedance (R130, R549, R68). A tripped output keeps
its state. -/
def State.headsOff (s : State) : State :=
  let s1 := s.forEach (List.range 4) fun t n =>
    let t1 := if t.tripped n then t else t.setHpwr n 0
    t1.setSchHead n { t1.schHead n with pulse := none }
  ({ s1 with pwr := { s1.pwr with startQ := [] } } : State).fenceSo

/-- The panel, SDI and AES outputs take their reset states (R68). -/
def State.panelsOff (s : State) : State := (s.dhFence [0, 1, 2]).aesFence [6]

/-- The encoder supplies follow the release of the outputs. -/
def State.syncSupAll (s : State) : State := s.forEach (List.range 4) (fun t n => t.syncSup n)

/-- Every output takes its reset state (R68). -/
def State.outputsOff (s : State) : State :=
  let s1 := (s.headsOff).panelsOff
  ({ s1 with net := { s1.net with ppsOut := false } } : State).syncSupAll

end Sys2Proof.Machine
end

