-- ==== Sys2Proof/Machine/Auditor.lean ====
section
/-! DEFINITION. The Auditor (21): events, windows, reactions, the Fault Ledger, the safe state, ALIVE, fault injection. -/

namespace Sys2Proof.Machine

open Sys2Proof

/-- Replace the Auditor. -/
def State.setAud (s : State) (a : Aud) : State := { s with aud := a }

/-- CSTS.CFS becomes 1, HST_TELLER reads FATAL, and CTRL_FATAL is raised (R467, R468). -/
def State.fatalStatus (s : State) : State :=
  if s.hst.csts.getLsbD 1 then s
  else ((s.setHst { s.hst with csts := s.hst.csts ||| 2#32 }).setTeller 4).raise 0x0E6 2

/-! ### ALIVE, the safe state and the state of R37 -/

/-- ALIVE stops (R554). -/
def State.aliveOff (s : State) : State := (s.setBit rSvcAudStat 0 false).setAud { s.aud with level := false }

/-- TRG and strobe pulses are cut (R549). -/
def State.cutPulses (s : State) : State :=
  (s.forEach (List.range 4) (fun t n => t.setSchHead n { t.schHead n with pulse := none })).fenceSo

/-- The code of R129 of a member of the minimum service set; 0 for another unit. -/
def mssCode (c u : Nat) : Nat :=
  match c with
  | 0 => if u = 1 then 3 else 0
  | 1 => if u = 16 then 5 else if u = 17 then 6 else 0
  | 12 => 7
  | 15 => if u = 3 then 1 else if u = 2 then 2 else 0
  | _ => 0

/-- The safe state is decided for source `x`, raised by unit `u` (R549). Before release a member of the minimum service set
leads to the state of R37 at release instead (R126); after release a FATAL event of a member is recorded for the next
start (R100, R129). -/
def State.enterSafe (s : State) (x u : Nat) : State :=
  if s.aud.safe != 0 || s.pwr.phase == .noService || (!s.released && inMss (srcCluster x) u) then s
  else
    let s1 := (s.setFld rSvcAudStat 28 4 1).setFld rSvcAudStat 16 9 x
    let m := if s.released && s.fld (rSvcAudSrcCfg x) 30 2 == 3 then mssCode (srcCluster x) u else 0
    let s2 : State := if m = 0 then s1 else { s1 with pwr := { s1.pwr with mssRun := m } }
    ((s2.setAud { s2.aud with safe := 1 }).aliveOff).cutPulses

/-- SAFE_STATE_CLOSE, 2 ms into the safe state: open frames and segments close, head outputs and OUT take their reset
states; units that have not started are skipped (R549). -/
def State.safeClose (s : State) : State :=
  if s.aud.safe != 1 then s
  else
    let s1 := s.setAud { s.aud with safe := 2 }
    if !s1.released then s1
    else
      let s2 := s1.closeAll 0#32
      let s3 := s2.forEach s2.armedStrs (fun t i => (t.setSchStr i { t.schStr i with reopen := false }).beginClose i 0x100)
      s3.outputsOff.follow

/-- SAFE_STATE_CLOSE. -/
def execSafeStateClose (s : State) : Host.Outcome State Fault Refusal := .next s.safeClose

/-- SAFE_STATE_CLOCK_STOP, by 40 ms: records still unsigned keep SIG_PENDING, CLK_PX stops, CSTS.CFS becomes 1 (R549). -/
def execSafeStateClockStop (s : State) : Host.Outcome State Fault Refusal :=
  .next (if s.aud.safe != 2 then s
    else
      let s1 := if s.released then s.markPending else s
      ((s1.setAud { s1.aud with safe := 3 }).pxStop).stepEval.fatalStatus)

/-- The state of R37, for the member of code `m` of R129: no ALIVE, fatal status, every output in its reset state. -/
def State.noService (s : State) (m : Nat) : State :=
  let s1 : State := { s with pwr := { s.pwr with phase := .noService, mssRun := m } }
  (((s1.setFld rSvcAudStat 28 4 2).aliveOff).outputsOff).fatalStatus.follow

/-- LOCKSTEP_DISAGREEMENT (R554). -/
def execLockstepDisagreement (s : State) : Host.Outcome State Fault Refusal :=
  .next (if s.pwr.phase == .off || s.pwr.phase == .starting || s.pwr.phase == .noService then s
    else if s.released then (s.setAud { s.aud with lockstep := false }).noService 2
    else s.setAud { s.aud with lockstep := false })

/-- ALIVE_HALF_PERIOD (R554): with a heartbeat ALIVE toggles, without one it stops. -/
def execAliveHalfPeriod (heartbeat : Bool) (s : State) : Host.Outcome State Fault Refusal :=
  .next (if !s.bit rSvcAudStat 0 then s
    else if heartbeat && s.aud.lockstep then s.setAud { s.aud with level := !s.aud.level } else s.aliveOff)

/-! ### The Fault Ledger (R550, R551) -/

/-- The 32 bytes of an entry. -/
def faultEntry (seq x cls react m : Nat) (time : List Byte × Bool) (detail : Word) (inj blocked : Bool) : List Byte :=
  leBytes 4 seq ++ leBytes 2 x ++ leBytes 1 cls ++ leBytes 1 react ++ leBytes 1 m ++ leBytes 3 0 ++ time.1 ++
    leBytes 4 detail.toNat ++ leBytes 2 (time.2.toNat + 2 * inj.toNat + 4 * blocked.toNat) ++ leBytes 2 0

/-- Put 32 bytes into eight registers from address `a`. -/
def State.putWords (s : State) (a : Nat) (b : List Byte) : State :=
  s.forEach (List.range 8) (fun t k => t.wr (a + 4 * k) (BitVec.ofNat 32 (leAt b (4 * k) 4)))

/-- Write an entry; past 1,024 the oldest is overwritten. The first FATAL entry since the copy was armed is copied. -/
def State.logFault (s : State) (x cls react m : Nat) (detail : Word) (inj blocked : Bool) : State :=
  let seq := (s.rd rSvcAudFlHead).toNat
  let full := decide (s.aud.lost != 0) || decide (1024 ≤ seq)
  let e := faultEntry seq x cls react m s.audTime detail inj blocked
  let s1 := (s.putWords (rSvcAudFl (8 * (seq % 1024))) e).wr rSvcAudFlHead (BitVec.ofNat 32 (seq + 1))
  let s2 := if full then
      let t := (s1.count rSvcAudFlLost).setAud { s1.aud with lost := min (s1.aud.lost + 1) 0xFFFFFFFF }
      if seq % 1024 = 0 then t.raise 0x113 2 else t
    else s1
  if cls % 4 = 3 ∧ s2.aud.ffArmed then (s2.putWords (rSvcAudFf 0) e).setAud { s2.aud with ffArmed := false } else s2

/-- The reaction IRQ (R545, R553): the pending bit, its message on a change from 0 to 1, and for SEVERE and FATAL the vendor
event of R461. -/
def State.irq (s : State) (x : Nat) (severe : Bool) : State :=
  let a := rSvcAudPend (x / 32)
  let s1 := if s.bit a (x % 32) then s else (s.setBit a (x % 32) true).msix (65 + min 14 (s.fld (rSvcAudSrcCfg x) 24 4))
  if severe then s1.aerFault else s1

/-! ### Events and reactions (R542 to R547) -/

/-- The reactions of `react` to an event, in the order LOG, FENCE_U, FENCE_CL, STOP, SAFE, IRQ; each fence raises AUD_FENCE
(R545 to R547). The entry says whether a member of the minimum service set was passed over. -/
def State.reactTo (s : State) (e : EvRec) (m cls react : Nat) : State :=
  let c := srcCluster e.src
  let fu := react.testBit 2
  let fc := react.testBit 3
  let want := (if fu then [e.unit] else []) ++ (if fc then clusterUnits s.variant c else [])
  let blocked := want.any (inMss c)
  let new := (want.eraseDups).filter (fun u => present s.variant c u && !inMss c u && !s.fenced c u)
  let s1 := if react.testBit 0 then s.logFault e.src cls react m e.detail e.injected blocked else s
  let s2 := (s1.fenceUnits c new).forEach new (fun t _ => t.raise 0x112 2)
  let s3 := if react.testBit 4 then s2.stopAll else s2
  let s4 := if react.testBit 5 then s3.enterSafe e.src e.unit else s3
  if react.testBit 1 then s4.irq e.src (decide (2 ≤ cls % 4)) else s4

/-- One event of source `x` with multiplicity `m` (R543 to R546). -/
def State.audit (s : State) (e : EvRec) (m : Nat) : State :=
  let x := e.src
  let cfg := s.rd (rSvcAudSrcCfg x)
  let s1 := s.countN (rSvcAudCnt x) m
  let info := s.fld rSvcAudClassreact 0 6
  if cfg.getLsbD 29 then s1
  else if x = 0x112 then s1.reactTo e m 0 info
  else
    let cls := fget cfg 30 2
    if cls = 3 then (s1.setAud { s1.aud with fatal := min (s1.aud.fatal + 1) 0xFFFFFFFF }).reactTo e m 3 0x23
    else
      let n := Map.get (fun _ => 0) s.aud.win x + m
      let esc := decide (cls < 2) && decide (max 1 (fget cfg 0 16) ≤ n)
      if cls = 2 ∨ esc then
        let s2 := s1.setAud { s1.aud with
          severe := min (s1.aud.severe + 1) 0xFFFFFFFF
          win := Map.set (fun _ => 0) s1.aud.win x 0 }
        s2.reactTo e m (if esc then 0x82 else 2) (fget cfg 16 6)
      else
        (s1.setAud { s1.aud with win := Map.set (fun _ => 0) s1.aud.win x n }).reactTo e m cls
          (if cls = 0 then info else s.fld rSvcAudClassreact 8 6)

/-- AUDITOR_EVENT: the events that reached the Auditor in the oldest CLK_SVC cycle not yet handled; each source forms one
event, taken in ascending order (R542, R547). The entry shows the capture of the source's last assertion. -/
def State.auditCycle (s : State) : State :=
  let c := (s.aud.q.head?.map (·.cyc)).getD 0
  let q := s.aud.q.filter (fun e => e.cyc == c)
  let xs := idxs 288 (fun x => q.any (fun e => e.src == x))
  (s.setAud { s.aud with q := s.aud.q.filter (fun e => e.cyc != c) }).forEach xs fun t x =>
    let es := q.filter (fun e => e.src == x)
    match es.getLast? with
    | some e => t.audit { e with injected := es.any (·.injected) } (min es.length 255)
    | none => t

/-- AUDITOR_EVENT. -/
def execAuditorEvent (s : State) : Host.Outcome State Fault Refusal := .next s.auditCycle

/-- WINDOW_EXPIRY (R543): the window of source `x` closes without action. -/
def execWindowExpiry (x : Fin 288) (s : State) : Host.Outcome State Fault Refusal :=
  .next (s.setAud { s.aud with win := Map.set (fun _ => 0) s.aud.win x 0 })

/-- A write of SVC_AUD_FENCE (R548): one SEVERE event of source 0x112, logged even when masked, with its fence and IRQ. -/
def State.hostFence (s : State) (v : Word) : State :=
  let c := fget v 10 4
  let u := fget v 0 6
  let all := v.getLsbD 7
  let bad := if all then !clusterPresent s.variant c else inMss c u || !present s.variant c u
  if fget v 16 16 ≠ 0xA5C3 ∨ bad then s.violation rSvcAudFence
  else
    let s1 := if all then s.fenceCluster c else s.fenceUnit c u
    let react := if all then 0xB else 7
    let detail := s1.detailOf 0x112 2
    let s2 := (s1.countN (rSvcAudCnt 0x112) 1).setAud { s1.aud with severe := min (s1.aud.severe + 1) 0xFFFFFFFF }
    let s3 := (s2.logFault 0x112 2 react 1 detail false false).irq 0x112 true
    (s3.chansOf 0x112).foldl (fun t n => t.toChannel n 0#64) s3

/-- HOST_FENCE. -/
def execHostFence (v : Word) (s : State) : Host.Outcome State Fault Refusal :=
  if !s.reaches 15 then .next s else .next (s.hostFence v)

/-- A write of SVC_AUD_SRCx_CFG or _WIN (R571): the window closes. Lowering the class of a source catalogued FATAL, or
masking it, is ignored (R541). -/
def State.srcWrite (s : State) (x : Nat) (win : Bool) (v : Word) : State :=
  if win then
    (s.wr (rSvcAudSrcWin x) (v &&& 0xC000FFFF#32)).setAud { s.aud with win := Map.set (fun _ => 0) s.aud.win x 0 }
  else if srcClass x = 3 ∧ (fget v 30 2 ≠ 3 ∨ v.getLsbD 29) then s.violation (rSvcAudSrcCfg x)
  else (s.wr (rSvcAudSrcCfg x) (v &&& 0xEF3FFFFF#32)).setAud { s.aud with win := Map.set (fun _ => 0) s.aud.win x 0 }

/-- SOURCE_CONFIG_WRITE. -/
def execSourceConfigWrite (x : Fin 288) (win : Bool) (v : Word) (s : State) : Host.Outcome State Fault Refusal :=
  if !s.reaches 15 then .next s else
  .next (s.srcWrite x win v)

/-! ### Fault injection (R555) -/

/-- The sub-channel that SVC_AUD_INJSEL selects; the chapters list a checker for sub-channels alone (R435). -/
def State.injSc (s : State) (w : Word) : Option Nat :=
  let u := fget w 4 6
  if fget w 10 4 = 1 ∧ 16 ≤ u ∧ u < 32 ∧ fget w 0 2 = 0 ∧ present s.variant 1 u then some (u - 16) else none

/-- SVC_AUD_INJ as it reads: the injection of the selected checker. -/
def State.injWord (s : State) : Word :=
  match s.injSc (s.rd rSvcAudInjsel) with
  | some n => s.rd (rMemScInj n)
  | none => 0#32

/-- A write of SVC_AUD_INJSEL or SVC_AUD_INJ. -/
def State.injWrite (s : State) (sel : Bool) (v : Word) : State :=
  let busy := fget s.injWord 16 16 != 0
  if sel then
    if busy || (s.injSc v).isNone then s.violation rSvcAudInjsel else s.wr rSvcAudInjsel (v &&& 0x3FF3#32)
  else
    let n := fget v 16 16
    match s.injSc (s.rd rSvcAudInjsel) with
    | none => if n = 0 then s else s.violation rSvcAudInj
    | some sc =>
      let bits := (idxs 16 v.getLsbD).length
      if (busy && n != 0) || (sc < 2 && decide (1 < bits)) then s.violation rSvcAudInj
      else (s.setFld (rMemScInj sc) 0 16 (fget v 0 16)).setInj sc n

/-- INJECTION_WRITE. -/
def execInjectionWrite (sel : Bool) (v : Word) (s : State) : Host.Outcome State Fault Refusal :=
  if !s.reaches 15 then .next s else .next (s.injWrite sel v)

/-! ### Log page 0xC0 (R552) -/

/-- The bytes of `n` registers from address `a`. -/
def State.regBytes (s : State) (a n : Nat) : List Byte := (List.range n).flatMap (fun k => leBytes 4 (s.rd (a + 4 * k)).toNat)

/-- The first 32 bytes of the page. -/
def State.faultHead (s : State) : List Byte :=
  let seq := (s.rd rSvcAudFlHead).toNat
  let valid := if s.aud.lost = 0 then min 1024 seq else 1024
  leBytes 4 seq ++ leBytes 4 s.aud.lost ++ leBytes 2 valid ++ leBytes 1 (s.fld rSvcAudStat 28 4) ++ leBytes 1 0 ++
    leBytes 4 s.aud.severe ++ leBytes 4 s.aud.fatal ++ leBytes 12 0

/-- The page: header, entries oldest first, the first FATAL entry. -/
def State.faultPage (s : State) : List Byte :=
  let seq := (s.rd rSvcAudFlHead).toNat
  let valid := if s.aud.lost = 0 then min 1024 seq else 1024
  s.faultHead ++
    (List.range valid).flatMap (fun k => s.regBytes (rSvcAudFl (8 * ((seq + 2 ^ 32 - valid + k) % 1024))) 8) ++
    List.replicate ((1024 - valid) * 32) 0#8 ++ s.regBytes (rSvcAudFf 0) 8

end Sys2Proof.Machine
end

