-- ==== Sys2Proof/Machine/Image.lean ====
section
/-! DEFINITION. Reading a configuration image: flash slots and slot-select records (R103), the layout of R72 to R82, steps
1 to 8 of R83, and the expansion of a delta (R106, R107). -/

namespace Sys2Proof.Machine

open Sys2Proof

/-! ### Errors of the loader (R90, R91) -/

/-- A DEV_CFG_ERR word that names a unit. -/
def errAt (code c u detail : Nat) : Word := BitVec.ofNat 32 (code * 2 ^ 24 + c % 16 * 2 ^ 19 + u % 64 * 2 ^ 13 + detail)

/-- One that names the header, the signature block or the device frame. -/
def errDev (code detail : Nat) : Word := BitVec.ofNat 32 (code * 2 ^ 24 + 2 ^ 23 + detail)

/-- Codes of R91. -/
def eMagic : Nat := 0x01
def eHeader : Nat := 0x02
def eVariant : Nat := 0x03
def eAuth : Nat := 0x04
def eDecrypt : Nat := 0x05
def ePolicy : Nat := 0x06
def eRollback : Nat := 0x07
def eDeltaBase : Nat := 0x08
def eDeltaTarget : Nat := 0x09
def eFrame : Nat := 0x10
def eRecord : Nat := 0x11
def eAbsent : Nat := 0x12
def eFenced : Nat := 0x13
def eType : Nat := 0x14
def eHw : Nat := 0x15
def eCompat : Nat := 0x16
def eConflict : Nat := 0x20
def eMemBw : Nat := 0x21
def eCapacity : Nat := 0x22
def eRule : Nat := 0x23
def eFlash : Nat := 0x30
def eBusy : Nat := 0x31

/-- A check: nothing where `ok`, else the error. -/
def need (ok : Bool) (e : Word) : Except Word Unit := if ok then .ok () else .error e

/-- The checks of a list, the first failure first. -/
def allOk {α : Type} : List α → (α → Except Word Unit) → Except Word Unit
  | [], _ => .ok ()
  | a :: l, f => match f a with
    | .ok _ => allOk l f
    | .error e => .error e

/-- The first error that `f` finds in a list. -/
def noneBad {α : Type} (l : List α) (f : α → Option Word) : Except Word Unit :=
  match l.findSome? f with
  | some e => .error e
  | none => .ok ()

/-- All bytes are zero. -/
def zeros (b : List Byte) : Bool := b.all (· == 0#8)

/-! ### The flash (R103) -/

/-- First flash address of a slot. -/
def slotBase (n : Nat) : Nat := n * 0x1800000

/-- Bytes of a slot. -/
def slotSize : Nat := 0x1800000

/-- First byte of the key area, of the slot-select records and of the delta staging area. -/
def keyArea : Nat := 0x3000000
def selArea : Nat := 0x3010000
def stageArea : Nat := 0x3012000

/-- Bytes of the staging area. -/
def stageSize : Nat := 16703488

/-- Slot-select record `n`: sequence number and slot; none without a valid CRC. Layout of the 12 bytes: sequence number,
slot, CRC-32C over both (log entry 24). -/
def State.selRec (s : State) (n : Nat) : Option (Nat × Nat) :=
  let b := bytesAt s.flash (selArea + n * 0x1000) 12
  if crc32c (b.take 8) = leAt b 8 4 then some (leAt b 0 4, leAt b 4 4) else none

/-- The record in force and the active slot (R103): 0 and slot 0 where neither record is valid. -/
def State.selNow (s : State) : Nat × Nat × Nat :=
  match s.selRec 0, s.selRec 1 with
  | some (a, x), some (b, y) => if b ≤ a then (0, a, x % 2) else (1, b, y % 2)
  | some (a, x), none => (0, a, x % 2)
  | none, some (b, y) => (1, b, y % 2)
  | none, none => (0, 0, 0)

/-- The active slot: the one the record in force names. -/
def State.activeSlot (s : State) : Nat := s.selNow.2.2

/-- The inactive slot. -/
def State.inactive (s : State) : Nat := 1 - s.activeSlot

/-- Select a slot for the next start (R103): the other record is written with the next sequence number. Where neither record
is valid the rule's 'record not in force' names none: the second is written, with sequence number 1. DESIGN CHOICE (log
entry 104). -/
def State.selectSlot (s : State) (slot : Nat) : State :=
  let (cur, seq, _) := s.selNow
  let body := leBytes 4 (seq + 1) ++ leBytes 4 slot
  { s with flash := putBytes s.flash (selArea + (1 - cur) * 0x1000) (body ++ leBytes 4 (crc32c body)) }

/-- Public key `n` of the flash key area: X and Y, 96 bytes (place: log entry 25). -/
def State.vkBytes (s : State) (n : Nat) : List Byte := bytesAt s.flash (keyArea + 96 * n) 96

/-- A public key that is neither absent nor revoked (R96). -/
def State.vkOk (s : State) (n : Nat) : Bool :=
  decide (n < 4) && !s.otp.revoked.getLsbD n &&
    decide (beNat (sha384 (s.vkBytes n)) = (Config.vkDigest n).toNat)

/-- A signature of key slot `n` over a digest verifies (R95, R96). -/
def State.vkVerify (s : State) (n : Nat) (digest : List Byte) (r q : List Byte) : Bool :=
  let k := s.vkBytes n
  s.vkOk n && ecdsaVerify (beNat (k.take 48)) (beNat (k.drop 48)) digest (beNat r) (beNat q)

/-! ### Step 1 to 5 of R83 -/

/-- The header of R73. -/
structure Hdr where
  flags : Nat
  length : Nat
  variants : Nat
  sec : Nat
  clTable : Nat
  devFrame : Nat
  sig : Nat
  lw : Nat
  build : Nat
  deriving DecidableEq, Repr

/-- Read a header. -/
def readHdr (b : List Byte) : Hdr :=
  ⟨leAt b 6 2, leAt b 8 4, leAt b 12 1, leAt b 13 1, leAt b 16 4, leAt b 20 4, leAt b 24 4, leAt b 28 4, leAt b 32 8⟩

/-- FLAGS bits. -/
def Hdr.delta (h : Hdr) : Bool := h.flags.testBit 0
def Hdr.enc (h : Hdr) : Bool := h.flags.testBit 1

/-- Step 1: MAGIC, then version, length, offsets and zero fields (R72, R73, R82, R106). -/
def headerOf (b : List Byte) : Except Word Hdr :=
  let h := readHdr b
  let offsOk :=
    if h.delta then h.devFrame == 0 && decide (64 ≤ h.clTable) && decide (h.clTable + 112 ≤ h.sig)
    else decide (64 ≤ h.clTable) && decide (h.clTable + 256 ≤ h.devFrame) && decide (h.devFrame + 32 ≤ h.sig)
  if leAt b 0 4 ≠ 0x464E4249 then .error (errDev eMagic 0)
  else if leAt b 4 2 = 1 ∧ h.flags < 4 ∧ h.variants < 8 ∧ leAt b 14 2 = 0 ∧ zeros (slice b 48 16) = true ∧
      h.length ≤ slotSize ∧ h.sig + 160 = h.length ∧ h.clTable % 8 = 0 ∧ h.devFrame % 8 = 0 ∧ h.sig % 8 = 0 ∧
      offsOk = true then .ok h
  else .error (errDev eHeader 0)

/-- The bit of VARIANTS of a variant. -/
def variantBit : Variant → Nat
  | .rlm4200 => 0 | .rlm4600 => 1 | .rlm4800 => 2

/-- The image digest (R74). -/
def digestOf (img : List Byte) (h : Hdr) : List Byte := sha384 (img.take h.sig)

/-- Step 3: the signature block of R82 and its signature. -/
def State.sigOk (s : State) (img : List Byte) (h : Hdr) : Bool :=
  let b := slice img h.sig 160
  let d := digestOf img h
  leAt b 0 4 == 0x5349474E && leAt b 5 1 == 1 && leAt b 6 2 == 0 && zeros (slice b 152 8) &&
    slice b 8 48 == d && s.vkVerify (leAt b 4 1) d (slice b 56 48) (slice b 104 48)

/-- Steps 1 to 4. -/
def State.checkHead (s : State) (img : List Byte) : Except Word Hdr := do
  let h ← headerOf (img.take 64)
  need (h.variants.testBit (variantBit s.variant)) (errDev eVariant 0)
  need (s.sigOk img h) (errDev eAuth 0)
  need (h.enc || !s.otp.policy.getLsbD 0) (errDev ePolicy 0)
  need (!s.otp.policy.getLsbD 1 || decide (s.otp.floor ≤ h.sec)) (errDev eRollback 0)
  return h

/-! ### Frames (R75, R76) -/

/-- An entry of the cluster table, or the device frame's place. -/
structure FrameAt where
  /-- 16 for the device frame. -/
  id : Nat
  off : Nat
  len : Nat
  fmt : Nat
  rest : List Byte
  deriving DecidableEq, Repr

/-- Where a frame stands: the table's entry. -/
def frameEntry (img : List Byte) (h : Hdr) (c : Nat) : FrameAt :=
  let e := slice img (h.clTable + 16 * c) 16
  ⟨c, leAt e 0 4, leAt e 4 4, leAt e 8 1, e.drop 9⟩

/-- The bytes of a frame's header. -/
def FrameAt.hdr (f : FrameAt) (img : List Byte) : List Byte := slice img f.off 32

/-- The device frame: its length is its own. -/
def devEntry (img : List Byte) (h : Hdr) : FrameAt :=
  let b := slice img h.devFrame 32
  ⟨16, h.devFrame, leAt b 4 4 + (if (leAt b 1 1).testBit 0 then 16 else 0), 1, List.replicate 7 0#8⟩

/-- FRAME_FLAGS bit 0 and FRAME_LENGTH. -/
def FrameAt.enc (f : FrameAt) (img : List Byte) : Bool := (leAt (f.hdr img) 1 1).testBit 0
def FrameAt.flen (f : FrameAt) (img : List Byte) : Nat := leAt (f.hdr img) 4 4

/-- Bytes of the tag. -/
def FrameAt.tagLen (f : FrameAt) (img : List Byte) : Nat := if f.enc img then 16 else 0

/-- The entry places the frame, its header and its tag wholly inside the image, wherever it lies there (step 6 of R83). -/
def FrameAt.inside (f : FrameAt) (img : List Byte) (h : Hdr) : Bool :=
  decide (f.off + 32 ≤ h.length) && decide (f.off + f.len ≤ h.length) && decide (32 ≤ f.flen img) &&
    decide (f.off + f.flen img + f.tagLen img ≤ h.length)

/-- The entry places the frame between the header and the signature block (step 7). -/
def FrameAt.placed (f : FrameAt) (img : List Byte) (h : Hdr) : Bool :=
  decide (64 ≤ f.off) && decide (f.off + 32 ≤ h.sig) && decide (32 ≤ f.flen img) &&
    decide (f.off + f.len ≤ h.sig) && decide (f.flen img + f.tagLen img ≤ f.len)

/-- An error of a frame. -/
def FrameAt.err (f : FrameAt) (code : Nat) : Word := if f.id = 16 then errDev code 0 else errAt code f.id 0 0

/-- The plaintext of a frame's body; none where the tag fails (R76, R119). -/
def State.frameBody (s : State) (f : FrameAt) (img : List Byte) : Option (List Byte) :=
  let b := slice img (f.off + 32) (f.flen img - 32)
  if !f.enc img then some b
  else if s.otp.zeroized then none
  else gcmOpen (beBytes 32 Config.iek.toNat) (slice (f.hdr img) 8 12) (f.hdr img) b (slice img (f.off + f.flen img) 16)

/-- The frames of an image: the device frame, then the table in ascending cluster number. -/
def allFrames (img : List Byte) (h : Hdr) : List FrameAt := devEntry img h :: (List.range 16).map (frameEntry img h)

/-- Step 6: tags of the encrypted frames that the table places. -/
def State.checkTags (s : State) (img : List Byte) (h : Hdr) : Except Word Unit :=
  noneBad (allFrames img h) fun f =>
    if (f.id = 16 ∨ f.off ≠ 0) ∧ f.inside img h = true ∧ f.enc img = true ∧ (s.frameBody f img).isNone = true then
      some (f.err eDecrypt) else none

/-- The units of the minimum service set that a cluster's mask must enable (R75). -/
def mssMask (c : Nat) : Nat :=
  match c with
  | 0 => 0b10
  | 1 => 0x30000
  | 12 => 0b111
  | 15 => 0b1100
  | _ => 0

/-- A frame that cannot be empty (R75). -/
def neverEmpty (c : Nat) : Bool := [0, 1, 3, 12, 15].contains c

/-- One frame of step 7, `prev` the end of the part before: its header, its place, the zero bytes before it, the mask. -/
def State.checkFrame (s : State) (img : List Byte) (h : Hdr) (prev : Nat) (f : FrameAt) : Except Word Nat :=
  let hd := f.hdr img
  let hdrOk := leAt hd 0 1 == (if f.id = 16 then 0xFF else f.id) && decide (leAt hd 1 1 < 2) && (f.enc img == h.enc) &&
    zeros (hd.drop 20) && (f.enc img || zeros (slice hd 8 12)) && (f.id != 16 || leAt hd 2 2 == 0) &&
    f.len == f.flen img + f.tagLen img && f.off % 8 == 0 && decide (prev ≤ f.off) && f.fmt == 1
  let mask := leAt ((s.frameBody f img).getD []) 0 8
  let bodyOk := f.id == 16 || (decide (40 ≤ f.flen img) && mask &&& mssMask f.id == mssMask f.id)
  if f.id ≠ 16 ∧ f.off = 0 then
    if f.len = 0 ∧ neverEmpty f.id = false ∧ zeros f.rest = true then .ok prev else .error (f.err eFrame)
  else if !f.placed img h || !zeros f.rest || !hdrOk || !bodyOk then .error (f.err eFrame)
  else if !zeros (slice img prev (f.off - prev)) then .error (errDev eFrame 0)
  else .ok (f.off + f.len)

/-- Step 7 over the frames in order. -/
def State.checkFrames (s : State) (img : List Byte) (h : Hdr) : Nat → List FrameAt → Except Word Nat
  | prev, [] => .ok prev
  | prev, f :: fs =>
    match s.checkFrame img h prev f with
    | .ok e => s.checkFrames img h e fs
    | .error e => .error e

/-- Step 7: the table, the frames and every gap. -/
def State.checkTable (s : State) (img : List Byte) (h : Hdr) : Except Word Unit := do
  need (zeros (slice img 64 (h.clTable - 64))) (errDev eFrame 0)
  let e ← s.checkFrames img h (h.clTable + 256) (allFrames img h)
  need (zeros (slice img e (h.sig - e))) (errDev eFrame 0)

/-! ### Records (R77 to R81) -/

/-- The class of the register at an offset of a unit: structural or not (R70, R81). An offset without a register counts
as PARAM (log entry 26). -/
def isStruct (c u off : Nat) : Bool :=
  match rowAt (unitBase c u + off) with
  | some r => r.structural
  | none => false

/-- The values of an item, with `n` words left. -/
def readVals (b : List Byte) : Nat → List Word
  | 0 => []
  | n + 1 => BitVec.ofNat 32 (leAt b 0 4) :: readVals (b.drop 4) n

/-- Body items up to the end of a record, at most `fuel` of them; `last` is the end of the item before (R79, R81). In a
record four zero bytes may end the list. -/
def readItems (c u : Nat) (dev : Bool) : Nat → Nat → List Byte → Option (List Item)
  | _, _, [] => some []
  | 0, _, _ :: _ => none
  | fuel + 1, last, b =>
    let w := leAt b 0 4
    let kind := w / 2 ^ 28
    let n := w / 2 ^ 16 % 4096
    let off := w % 65536
    let offs := (List.range n).map (off + 4 * ·)
    if !dev && b.length == 4 && zeros b then some []
    else if 4 ≤ b.length ∧ kind < 2 ∧ n ≠ 0 ∧ off % 4 = 0 ∧ last ≤ off ∧ off + 4 * n ≤ 0x10000 ∧
        4 + 4 * n ≤ b.length ∧ ((kindOf c u).isNone || offs.all (fun o => isStruct c u o == (kind == 0))) = true then
      match readItems c u dev fuel (off + 4 * n) (b.drop (4 + 4 * n)) with
      | some l => some (⟨kind == 0, off, readVals (b.drop 4) n⟩ :: l)
      | none => none
    else none

/-- A compatibility entry (R80). -/
def readCompat (b : List Byte) : Option Compat :=
  if leAt b 0 1 < 16 ∧ leAt b 1 1 < 64 ∧ leAt b 6 2 = 0 then
    some ⟨leAt b 0 1, leAt b 1 1, leAt b 2 2, leAt b 4 1, leAt b 5 1⟩ else none

/-- All entries, or none where one is bad. -/
def readCompats (b : List Byte) : Nat → Option (List Compat)
  | 0 => some []
  | n + 1 =>
    match readCompat b, readCompats (b.drop 8) n with
    | some c, some l => some (c :: l)
    | _, _ => none

/-- The record of unit `u` at the front of a body: the record and the rest (R79). -/
def readRec (c u : Nat) (b : List Byte) : Option (UnitRec × List Byte) :=
  let len := leAt b 4 4
  let nc := leAt b 10 1
  if 16 ≤ b.length ∧ leAt b 0 1 = u ∧ leAt b 1 1 = 0 ∧ zeros (slice b 11 5) = true ∧ nc ≤ 32 ∧ len % 8 = 0 ∧
      16 + 8 * nc ≤ len ∧ len ≤ b.length then
    match readCompats (slice b 16 (8 * nc)) nc, readItems c u false len 8 (slice b (16 + 8 * nc) (len - 16 - 8 * nc)) with
    | some cs, some it => some (⟨u, leAt b 2 2, leAt b 8 1, leAt b 9 1, cs, it⟩, b.drop len)
    | _, _ => none
  else none

/-- The records of the enabled units in order; an error names the unit. -/
def readRecs (c : Nat) : List Nat → List Byte → Except Word (List UnitRec)
  | [], b => if b.isEmpty then .ok [] else .error (errAt eRecord c 0 0)
  | u :: us, b =>
    match readRec c u b with
    | none => .error (errAt eRecord c u 0)
    | some (r, rest) =>
      match readRecs c us rest with
      | .ok l => .ok (r :: l)
      | .error e => .error e

/-- Step 8 on a cluster frame: the mask, the record count and the records (R78). -/
def State.readFrame (s : State) (img : List Byte) (f : FrameAt) : Except Word ClFrame :=
  if f.off = 0 then .ok ⟨f.id, 0, []⟩
  else
    let b := (s.frameBody f img).getD []
    let mask := leAt b 0 8
    let us := idxs 64 mask.testBit
    if mask.testBit 0 && leAt (f.hdr img) 2 2 == us.length then
      match readRecs f.id us (b.drop 8) with
      | .ok l => .ok ⟨f.id, mask, l⟩
      | .error e => .error e
    else .error (errAt eRecord f.id 0 0)

/-- Step 8 on all of them. -/
def State.readFrames (s : State) (img : List Byte) : List FrameAt → Except Word (List ClFrame)
  | [] => .ok []
  | f :: fs =>
    match s.readFrame img f with
    | .error e => .error e
    | .ok x =>
      match s.readFrames img fs with
      | .ok l => .ok (x :: l)
      | .error e => .error e

/-- Steps 6 to 8 on an image whose header has passed. -/
def State.checkBody (s : State) (img : List Byte) (h : Hdr) : Except Word Plane := do
  s.checkTags img h
  s.checkTable img h
  let db := (s.frameBody (devEntry img h) img).getD []
  let dev ← match readItems 0 0 true db.length 8 db with
    | some l => Except.ok l
    | none => Except.error (errDev eRecord 0)
  let fr ← s.readFrames img ((List.range 16).map (frameEntry img h))
  return ⟨digestOf img h, h.sec, h.build, h.lw, dev, fr⟩

/-- The image bytes of a flash slot, to the length its header gives, at most the slot. -/
def State.slotBytes (s : State) (n : Nat) : List Byte :=
  bytesAt s.flash (slotBase n) (max 64 (min slotSize (leNat (bytesAt s.flash (slotBase n + 8) 4))))

/-- Steps 1 to 8 on a full image. A delta has no base at a start or a load: it fails step 5 (log entry 27). -/
def State.checkImage (s : State) (img : List Byte) : Except Word Plane := do
  let h ← s.checkHead img
  need (!h.delta) (errDev eDeltaBase 0)
  s.checkBody img h

/-! ### Delta images (R106, R107) -/

/-- An operation of a delta: its target offset, and the bytes it writes. -/
structure DeltaOp where
  copy : Bool
  src : Nat
  dst : Nat
  len : Nat
  lit : List Byte
  deriving DecidableEq, Repr

/-- Read `n` operations; none where one is malformed or bytes are left over. -/
def readOps : Nat → List Byte → Option (List DeltaOp)
  | 0, b => if zeros b then some [] else none
  | n + 1, b =>
    let kind := leAt b 0 1
    let len := leAt b 12 4
    let body := if kind = 2 then roundUp len 8 else 0
    if 16 + body ≤ b.length ∧ (kind = 1 ∨ kind = 2) ∧ leAt b 1 3 = 0 ∧ (kind = 1 ∨ leAt b 4 4 = 0) ∧ len ≠ 0 ∧
        zeros (slice b (16 + (if kind = 2 then len else 0)) (body - (if kind = 2 then len else 0))) = true then
      match readOps n (b.drop (16 + body)) with
      | some l => some (⟨kind == 1, leAt b 4 4, leAt b 8 4, len, slice b 16 (if kind = 2 then len else 0)⟩ :: l)
      | none => none
    else none

/-- The operations cover the target from 0 to its length without gap or overlap. -/
def opsCover (len : Nat) : Nat → List DeltaOp → Bool
  | at_, [] => at_ == len
  | at_, o :: os => o.dst == at_ && opsCover len (at_ + o.len) os

/-- Steps 2 to 5 of R107: the target's bytes. BAD_HEADER is the answer to a KIND of other values and to an over-long delta
(R106, R107); that operations which overlap, leave a gap or read beyond the base, an OP_COUNT of 0 and a reserved field that
is not 0 get it as well is a DESIGN CHOICE (log entry 105). -/
def State.expandDelta (s : State) (img : List Byte) (h : Hdr) : Except Word (List Byte) := do
  let d := slice img h.clTable 112
  let base := s.slotBytes s.activeSlot
  let bh := readHdr base
  let baseOk := match headerOf (base.take 64) with
    | .ok _ => slice d 0 48 == digestOf base bh
    | .error _ => false
  need baseOk (errDev eDeltaBase 0)
  need (decide (h.length ≤ stageSize)) (errDev eHeader 0)
  let tl := leAt d 96 4
  let ops ← match readOps (leAt d 100 2) (slice img (h.clTable + 112) (h.sig - h.clTable - 112)) with
    | some l => Except.ok l
    | none => Except.error (errDev eHeader 0)
  need (leAt d 100 2 != 0 && zeros (slice d 102 10) && decide (tl ≤ slotSize) && opsCover tl 0 ops &&
    zeros (slice img 64 (h.clTable - 64)) && ops.all (fun o => !o.copy || decide (o.src + o.len ≤ base.length)))
    (errDev eHeader 0)
  return ops.flatMap (fun o => if o.copy then slice base o.src o.len else o.lit)

/-- The target of an expansion: digest and security version (step 5 and the last paragraph of R107), then steps 1 to 8. -/
def State.checkTarget (s : State) (img : List Byte) (h : Hdr) (tgt : List Byte) : Except Word Plane := do
  let th := readHdr tgt
  need (slice img (h.clTable + 48) 48 == digestOf tgt th && th.sec == h.sec) (errDev eDeltaTarget 0)
  s.checkImage tgt

/-- Erase a slot (log entry 28: erased bytes read 0). -/
def State.eraseSlot (s : State) (n : Nat) : State :=
  { s with flash := s.flash.filter (fun p => !(decide (slotBase n ≤ p.1) && decide (p.1 < slotBase n + slotSize))) }

/-- The content of slot `n` replaced by an image. -/
def State.putSlot (s : State) (n : Nat) (img : List Byte) : State :=
  let t := s.eraseSlot n
  { t with flash := putBytes t.flash (slotBase n) img }

/-- Verification of the inactive slot for a Firmware Commit (R104, R107): the state, whose slot a delta rewrites, and
the plane or the error. A failed expansion leaves the slot invalid. -/
def State.verifySlot (s : State) : State × Except Word Plane :=
  let n := s.inactive
  let img := s.slotBytes n
  match s.checkHead img with
  | .error e => (s, .error e)
  | .ok h =>
    if !h.delta then (s, s.checkBody img h)
    else
      match s.expandDelta img h with
      | .error e => (s.eraseSlot n, .error e)
      | .ok tgt =>
        let t : State := { s with flash := putBytes s.flash stageArea img }
        match s.checkTarget img h tgt with
        | .error e => (t.eraseSlot n, .error e)
        | .ok p => (t.putSlot n tgt, .ok p)

/-- A hexadecimal digit, upper case. -/
def hexDigit (n : Nat) : Byte := BitVec.ofNat 8 (if n % 16 < 10 then 48 + n % 16 else 55 + n % 16)

/-- FR of an image (R445): 'S', SEC_VERSION, '-', bytes 0 and 1 of the digest. -/
def frString (p : Plane) : List Byte :=
  let b := p.digest
  let d0 := leAt b 0 1
  let d1 := leAt b 1 1
  [0x53#8, hexDigit (p.secVersion / 16), hexDigit p.secVersion, 0x2D#8, hexDigit (d0 / 16), hexDigit d0,
    hexDigit (d1 / 16), hexDigit d1]

/-- Set the FR string of a slot; the empty string marks it invalid (R459). -/
def State.setFr (s : State) (n : Nat) (b : List Byte) : State :=
  if n = 0 then s.setHst { s.hst with fr0 := b } else s.setHst { s.hst with fr1 := b }

end Sys2Proof.Machine
end

