-- ==== Sys2Proof/Machine/Rules.lean ====
section
/-! DEFINITION. Steps 9 to 13 of R83. A plane is judged through the registers it would leave (`State.under`), so that the
same rules run over an image and over the live structural registers (R89, R127). -/

namespace Sys2Proof.Machine

open Sys2Proof

/-- Addresses and values of an item. -/
def Item.words (it : Item) (base : Nat) : List (Nat × Word) :=
  (List.range it.vals.length).map (fun k => (base + it.off + 4 * k, it.vals.getD k 0#32))

/-- Formats below 0x01 lie under the accepted range of every unit: such a record's items are ignored (R84, R115, R575). -/
def UnitRec.live (r : UnitRec) : Bool := r.format != 0

/-- Every register value that a plane gives: device frame, then the records in order. -/
def Plane.words (p : Plane) : List (Nat × Word) :=
  p.dev.flatMap (fun it => it.words (unitBase 0 0)) ++
    p.frames.flatMap (fun f => (f.recs.filter (·.live)).flatMap
      (fun r => r.items.flatMap (fun it => it.words (unitBase f.cluster r.unit))))

/-- Put an image's value into the register at `a`: its RW and RWS fields, an RWS field into both copies (R81). -/
def State.putItem (s : State) (a : Nat) (v : Word) : State :=
  match rowAt a with
  | none => s
  | some r =>
    let s1 := s.wr a ((s.rd a &&& ~~~ r.imgMask) ||| (v &&& r.imgMask))
    if r.mask .rws == 0#32 then s1 else s1.setShd a ((s1.shd a &&& ~~~ r.imgMask) ||| (v &&& r.imgMask))

/-- The structure as it would stand under a plane: reset values, the plane's items, the present fences. -/
def State.under (s : State) (p : Plane) : State :=
  let fences := s.regs.filter (fun x => rDevFenceU 0 ≤ x.1 && decide (x.1 < rDevFenceU 32))
  let t : State := { s with regs := fences, shadow := [], live := [], plane := some p }
  p.words.foldl (fun u x => u.putItem x.1 x.2) t

/-! ### Steps 9 to 11 -/

/-- The clusters and units of a plane's frames that it enables, ascending. -/
def Plane.units (p : Plane) : List (Nat × Nat) :=
  (List.range 16).flatMap (fun c => (idxs 64 (p.enable c).testBit).map (fun u => (c, u)))

/-- The record of a unit. -/
def Plane.unitRec (p : Plane) (c u : Nat) : Option UnitRec :=
  match p.frames.find? (fun f => f.cluster == c) with
  | some f => f.recs.find? (fun r => r.unit == u)
  | none => none

/-- Heads that an image declares by its own bits, before the variant has its say (R577). -/
def Plane.declares (p : Plane) (n : Nat) : Bool :=
  p.words.any (fun x => x.1 == rDevHead n && x.2.getLsbD 31)

/-- Step 9: every enabled unit is present and not fenced. -/
def State.step9 (s : State) (p : Plane) : Except Word Unit := do
  noneBad p.units fun x =>
    if !present s.variant x.1 x.2 then some (errAt eAbsent x.1 x.2 0)
    else if s.fenced x.1 x.2 then some (errAt eFenced x.1 x.2 0)
    else none
  noneBad [2, 3] fun n =>
    if s.variant == .rlm4200 && p.declares n then some (errAt eAbsent 2 (1 + n) 0) else none

/-- TYPE of a unit's identity word. -/
def typeOf (c u : Nat) : Nat := match kindOf c u with | some (k, _) => k.code | none => 0

/-- Step 10: TYPE, VERSION 0x01 against MIN_HW, FORMAT at most 0x01 (R574, R575). -/
def Plane.step10 (p : Plane) : Except Word Unit :=
  noneBad p.units fun x =>
    match p.unitRec x.1 x.2 with
    | none => none
    | some r =>
      if r.type ≠ typeOf x.1 x.2 then some (errAt eType x.1 x.2 0)
      else if 1 < r.minHw ∨ 1 < r.format then some (errAt eHw x.1 x.2 0)
      else none

/-- A compatibility entry is met (R85). -/
def Plane.meets (p : Plane) (e : Compat) : Bool :=
  if !(p.enable e.cluster).testBit e.unit then true
  else match p.unitRec e.cluster e.unit with
    | none => false
    | some r => e.type == typeOf e.cluster e.unit && decide (e.minF ≤ r.format) && decide (r.format ≤ e.maxF)

/-- Step 11. -/
def Plane.step11 (p : Plane) : Except Word Unit :=
  noneBad p.units fun x =>
    match p.unitRec x.1 x.2 with
    | some r => if r.compat.all p.meets then none else some (errAt eCompat x.1 x.2 0)
    | none => none

/-! ### Step 12: the table of R86, in its order (log entry 29) -/

/-- Whether a unit is part of the structure: present and enabled, fenced or not. -/
def State.inPlane (t : State) (c u : Nat) : Bool := present t.variant c u && t.enabled c u

/-- Two ranges overlap. -/
def clash (a b : Nat × Nat) : Bool := decide (a.1 < b.1 + b.2) && decide (b.1 < a.1 + a.2) && a.2 != 0 && b.2 != 0

/-- Every pair of a list satisfies `f`. -/
def pairsOk {α : Type} (f : α → α → Bool) : List α → Bool
  | [] => true
  | a :: l => l.all (f a) && pairsOk f l

/-- R60: contacts 29 and 30 serve A3Z or AES3 input 2, whose receiver is unit 5 of OUT. -/
def State.ruleContacts (t : State) : Except Word Unit :=
  let a3z := t.axMode 2 == 2 || (t.axMode 2 == 1 && t.bit (rSchAxIdx 2) 31)
  need (!(a3z && t.inPlane 14 5)) (errAt eConflict 4 12 0xA1D)

/-- Words of head `n`'s share of the Calibration Store. -/
def State.calShare (t : State) (n : Nat) : Nat := t.fld (rIngCalGrid n) 0 15 * t.fld (rIngCalGrid n) 16 15

/-- Declared streams, the members of groups among them. -/
def State.declStrs (t : State) : List Nat := idxs 64 t.strDecl

/-- Declared streams that stand by themselves: members of a group count as their merged stream (R175, R254). -/
def State.ownStrs (t : State) : List Nat := t.declStrs.filter (fun i => t.logical i == i)

/-- R86, R290: the sums of the shares, each against its windows. -/
def State.ruleCal (t : State) : Except Word Unit := do
  need (decide ((List.range 4).foldl (fun n h => n + t.calShare h) 0 ≤ 16777216)) (errAt eCapacity 3 6 0xC01)
  let used := t.declStrs.filter (fun i => t.calShare (i / 16) != 0)
  need (used.all (fun i => decide (t.strW i * t.strH i ≤ t.calShare (i / 16)))) (errAt eCapacity 3 6 0xC01)
  need (used.all (fun i =>
    decide (t.fld (rIngCalOfs i) 0 15 + t.strW i ≤ t.fld (rIngCalGrid (i / 16)) 0 15) &&
    decide (t.fld (rIngCalOfs i) 16 15 + t.strH i ≤ t.fld (rIngCalGrid (i / 16)) 16 15))) (errAt eRule 3 6 0xC01)

/-- SCMASK, SIZE and LBASE of a region. -/
def State.rgnScs (t : State) (r : Nat) : List Nat := maskBits (t.fld (rMemRgnMap r) 16 16)
def State.rgnSize (t : State) (r : Nat) : Nat := t.fld (rMemRgnSize r) 0 19
def State.rgnLocal (t : State) (r : Nat) : Nat × Nat :=
  (t.fld (rMemRgnLbase r) 0 14, t.rgnSize r / (t.rgnScs r).length)

/-- The used regions. -/
def State.rgns (t : State) : List Nat := idxs 16 t.rgnEn

/-- A region lies on SC0 and SC1 only. -/
def State.rgnLow (t : State) (r : Nat) : Bool := t.rgnEn r && (t.rgnScs r).all (fun n => decide (n < 2))

/-- R86, R255: the ledger region and the annex. -/
def State.ruleLedger (t : State) : Except Word Unit :=
  let l := t.ledgerRgn
  let a := t.fld rIngAnnex 0 4
  need (t.rgnLow l && t.rgnSize l == 64 && t.rgnLow a && a != l) (errAt eRule 1 1 0xC02)

/-- R86, R413: the memory regions; `live` counts fenced sub-channels as present (R89, R127). -/
def State.ruleRegions (t : State) (live : Bool) : Except Word Unit :=
  let scOk := fun n => present t.variant 1 (scUnit n) && (live || !t.fenced 1 (scUnit n))
  let one := fun r =>
    let n := (t.rgnScs r).length
    let l := t.rgnLocal r
    [1, 2, 4, 8, 16].contains n && (t.rgnScs r).all scOk && t.rgnSize r % n == 0 && decide (l.1 + l.2 ≤ 16384) &&
      decide (t.fld (rMemRgnMap r) 8 4 ≤ 8)
  let two := fun r q =>
    !clash (t.fld (rMemRgnBase r) 0 18, t.rgnSize r) (t.fld (rMemRgnBase q) 0 18, t.rgnSize q) &&
      !((t.rgnScs r).any (t.rgnScs q).contains && clash (t.rgnLocal r) (t.rgnLocal q))
  need (t.rgns.all one && pairsOk two t.rgns) (errAt eConflict 1 1 0xC03)

/-- R86, R162, R577: lanes and declared heads. -/
def State.ruleHeads (t : State) : Except Word Unit := do
  noneBad (List.range 4) fun n =>
    let lanes := (List.range (2 ^ t.fld (rLnkPortCfg n) 24 2)).map (fun l => t.fld (rLnkPortCfg n) (3 * l) 3)
    if t.inPlane 2 (1 + n) && !(t.declared n && pairsOk (fun a b => a != b) lanes) then some (errAt eConflict 2 (1 + n) 0xC04)
    else none
  need (t.declStrs.all (fun i => t.declared (i / 16)) &&
    [0, 1].all (fun g => (t.grpMembers g).all t.declared)) (errAt eConflict 3 8 0xC04)
  need ((List.range 4).all (fun n => t.calShare n == 0 || t.declared n)) (errAt eConflict 3 6 0xC04)

/-- The used partitions. -/
def State.parts (t : State) : List Nat := idxs 32 (fun p => t.bit (rIngPartCfg p) 31)

/-- R86, R254, R255: each stream writes exactly one partition. -/
def State.ruleStreams (t : State) : Except Word Unit :=
  need (t.ownStrs.all (fun i => t.parts.countP (fun p => t.fld (rIngPartCfg p) 16 6 == i) == 1)) (errAt eConflict 3 9 0xC05)

/-- The cores of a stream's clusters, in order from `at_`, reach `w` (R283, R284). -/
def State.coresFrom (t : State) (at_ w : Nat) : List Nat → Bool
  | [] => at_ == w
  | c :: cs => (t.core c).1 == at_ && decide ((t.core c).1 + 16 ≤ (t.core c).2) && t.coresFrom (t.core c).2 w cs

/-- R86, R284: the stripes cover the width. -/
def State.rulePix (t : State) : Except Word Unit :=
  noneBad (List.range 64) fun i =>
    match t.servers i with
    | [] => none
    | c :: cs => if t.strDecl i && t.coresFrom 0 (t.strW i) (c :: cs) then none else some (errAt eConflict (5 + c) 1 0xC06)

/-- R86: gradual refresh on channels 6 and 7 alone. -/
def State.ruleEnc (t : State) : Except Word Unit :=
  noneBad (List.range 6) fun c =>
    if t.fld (rVidEncCfg c) 8 2 == 1 then some (errAt eConflict 10 (2 + c) 0xC0A) else none

/-- Declared load of a head, in 0.25 W. -/
def State.headLoad (t : State) (n : Nat) : Nat := if t.declared n then t.fld (rDevHead n) 0 8 else 0

/-- R86: head power and encoder supply. -/
def State.ruleSupply (t : State) : Except Word Unit := do
  need ((List.range 4).all (fun n => decide (t.headLoad n ≤ 120)) &&
    decide ((List.range 4).foldl (fun k n => k + t.headLoad n) 0 ≤ 400)) (errDev eCapacity 0xC0B)
  let load := Config.encLoad t.imgDigest
  need ((List.range 4).all (fun n => decide (load n ≤ 250)) &&
    decide ((List.range 4).foldl (fun k n => k + load n) 0 ≤ 1000)) (errAt eCapacity 4 10 0xC0C)

/-- Base, size and end of a partition within its region, in 4 KiB units. -/
def State.partSpan (t : State) (p : Nat) : Nat × Nat := (t.fld (rIngPartBase p) 0 28, t.fld (rIngPartSize p) 0 28)

/-- The partitions in STRIP layout. -/
def State.strips (t : State) : List Nat := t.parts.filter (fun p => t.strLayout (t.fld (rIngPartCfg p) 16 6) == 2)

/-- R277. -/
def State.ruleStrip (t : State) : Except Word Unit :=
  need (decide (t.strips.length ≤ 1) && t.strips.all fun p =>
    let i := t.fld (rIngPartCfg p) 16 6
    let x := t.partSpan p
    t.fld (rIngStrFmt i) 0 2 == 1 && t.strW i % 256 == 0 && decide (t.strW i ≤ 4096) && t.strH i % 16 == 0 &&
      decide (t.partRgn p + (x.1 + x.2) * 4096 ≤ 2 ^ 36) && t.fld (rMemRgnMap (t.fld (rIngPartCfg p) 0 4)) 8 4 == 4)
    (errAt eRule 3 9 0xC0D)

/-! ### Step 12: the rules of the chapters -/

/-- Annex tables of a partition, in 4 KiB units: segment table, Tally ring, legacy index (R255, R279). -/
def State.annexTabs (t : State) (p : Nat) : List (Nat × Nat) :=
  let n := t.fld (rIngPartLcount p) 0 20
  [(t.fld (rIngPartSrbase p) 0 24, 32), (t.fld (rIngPartTbase p) 0 24, n)] ++
    (if t.strips.contains p then [(t.fld (rIngPartIbase p) 0 24, ceilDiv (n * 32) 4096)] else [])

/-- R255: partitions, ledger ranges, annex tables. -/
def State.ruleParts (t : State) : Except Word Unit := do
  let rgn := fun p => t.fld (rIngPartCfg p) 0 4
  need (t.parts.all (fun p =>
      let x := t.partSpan p
      t.rgnEn (rgn p) && decide (x.1 + x.2 ≤ t.rgnSize (rgn p) * 256) &&
        decide (t.slotLen (t.fld (rIngPartCfg p) 16 6) ≤ x.2 * 4096)) &&
    pairsOk (fun p q => !(rgn p == rgn q && clash (t.partSpan p) (t.partSpan q))) t.parts) (errAt eConflict 3 9 0xC12)
  let lr := fun p => (t.fld (rIngPartLbase p) 0 19, t.fld (rIngPartLcount p) 0 20)
  need (t.parts.all (fun p => decide (16 ≤ (lr p).2) && decide ((lr p).1 + (lr p).2 ≤ 524288)) &&
    pairsOk (fun p q => !clash (lr p) (lr q)) t.parts) (errAt eCapacity 3 9 0xC13)
  let tabs := t.parts.flatMap t.annexTabs
  need (tabs.all (fun x => decide (x.1 + x.2 ≤ t.rgnSize (t.fld rIngAnnex 0 4) * 256)) &&
    pairsOk (fun a b => !clash a b) tabs) (errAt eConflict 3 9 0xC14)

/-- Streams that the head `n` declares. -/
def State.headStrs (t : State) (n : Nat) : List Nat := t.declStrs.filter (fun i => i / 16 == n)

/-- R175: staggered groups. -/
def State.ruleGroups (t : State) : Except Word Unit :=
  let geo := fun i => (t.strW i, t.strH i, t.fld (rIngStrFmt i) 0 2, t.strLayout i)
  let ok := fun g =>
    let ms := t.grpMembers g
    let ss := ms.flatMap t.headStrs
    decide (2 ≤ ms.length) && ms.all (fun n => (t.headStrs n).length == 1) && pairsOk (fun a b => geo a == geo b) ss
  need ([0, 1].all (fun g => (t.grpMembers g).isEmpty || ok g) &&
    !(t.grpMembers 0).any (t.grpMembers 1).contains) (errAt eConflict 3 8 0xC10)

/-- Start and end of each frame of a merged stream at the tap (R179), in ps: frames of `h` lines come every `per`, their
lines every `tl`; the tap starts when at most `l` lines are still to arrive and takes a line in `tt`, a frame in `gap` more. -/
def tapTimes (h l per tl tt gap n : Nat) : List (Nat × Nat) :=
  (List.range n).foldl (fun a k =>
    let free := match a.getLast? with | some p => p.2 | none => 0
    let start := max free (k * per + tl * (h - l))
    a ++ [(start, max (start + h * tt) (k * per + tl * h + tt) + gap)]) []

/-- Lines of every frame that have arrived at `t` and that the tap has not taken. -/
def poolLines (h per tl tt : Nat) (taps : List (Nat × Nat)) (t : Nat) : Nat :=
  taps.zipIdx.foldl (fun a p =>
    let arrived := if t < p.2 * per then 0 else min h ((t - p.2 * per) / tl)
    let taken := if p.1.2 ≤ t then arrived else if t < p.1.1 then 0 else min arrived ((t - p.1.1) / tt)
    a + (arrived - taken)) 0

/-- The largest pool occupancy of a group in bytes, at its declared maximum rate and line time with the tap at 3.0 GHz
(R180): the greatest at the instants at which a frame starts or ends at the tap or has arrived. -/
def State.poolPeak (t : State) (g : Nat) : Nat :=
  match t.grpStr g with
  | none => 0
  | some i =>
    if (t.servers i).isEmpty then 0
    else
      let h := t.strH i
      let per := 10 ^ 12 / max 1 (Config.streamRate t.imgDigest i)
      let tl := max 1 (Config.lineTime t.imgDigest g)
      let tt := max 1 (ceilDiv (ceilDiv (t.widest i) 12 * 1000) 3)
      let taps := tapTimes h (min h (t.fld (rIngGrpCfg g) 16 14)) per tl tt 106667 (4 * (t.grpMembers g).length + 8)
      let at_ := taps.zipIdx.flatMap (fun p => [p.1.1, p.1.2 - 1, p.2 * per + tl * h])
      at_.foldl (fun m x => max m (poolLines h per tl tt taps x)) 0 * t.lineBytes i

/-- R180: the pool of a group. -/
def State.rulePool (t : State) : Except Word Unit :=
  need ([0, 1].all fun g =>
    let n := (t.grpMembers g).length
    n == 0 || decide (t.poolPeak g ≤ n * 0x800000 - 0x100000)) (errAt eCapacity 3 8 0xC11)

/-- A proxy is declared for stream `i`: its lead's scaler gives a geometry. -/
def State.proxyLead (t : State) (i : Nat) : Option Nat :=
  match t.lead i with
  | some c => if t.inPlane (5 + c) 3 && (t.pxGeom c).1 != 0 then some c else none
  | none => none

/-- The ratio n / m lies within 1 to 4. -/
def ratioOk (n m : Nat) : Bool := decide (m ≤ n) && decide (n ≤ 4 * m)

/-- R299 to R301: proxies. -/
def State.ruleProxy (t : State) : Except Word Unit :=
  noneBad t.ownStrs fun i =>
    match t.proxyLead i with
    | none => none
    | some c =>
      let g := t.pxGeom c
      if !(ratioOk (t.strW i) g.1 && ratioOk (t.strH i) g.2) then some (errAt eRule (5 + c) 3 0xC15)
      else if 5 < t.pxFmt c ∨ t.pxNbuf c < 2 ∨ (t.pxFmt c = 1 ∨ t.pxFmt c = 2) ∧ g.2 % 2 = 1 then some (errAt eRule (5 + c) 3 0)
      else none

/-- R383: the proxy of a channel's live stream. -/
def State.ruleEncProxy (t : State) : Except Word Unit :=
  noneBad (List.range 8) fun e =>
    if !t.inPlane 10 (2 + e) || t.bit (rVidEncCfg e) 31 then none
    else match t.proxyLead (t.fld (rVidEncCfg e) 24 6) with
      | none => none
      | some c =>
        let g := t.pxGeom c
        if 1 ≤ t.pxFmt c ∧ t.pxFmt c ≤ 3 ∧ 64 ≤ g.1 ∧ g.1 ≤ 8192 ∧ 64 ≤ g.2 ∧ g.2 ≤ 4352 then none
        else some (errAt eRule 10 (2 + e) 0xC16)

/-- R449: the ledger region and the annex carry class NONE. -/
def State.ruleClass (t : State) : Except Word Unit :=
  need (t.fld rHstRgnClass (2 * t.ledgerRgn) 2 == 0 && t.fld rHstRgnClass (2 * t.fld rIngAnnex 0 4) 2 == 0)
    (errAt eConflict 12 2 0xC18)

/-- The consumer of a channel exists (R526, R222). -/
def State.chanOk (t : State) (n : Nat) : Bool :=
  let task := t.fld (rSvcChCfg n) 0 12
  match t.fld (rSvcChCfg n) 28 2 with
  | 0 => (decide (task < 0x80) && t.ownStrs.contains (task % 64)) ||
      (decide (0x80 ≤ task) && decide (task < 0x90) && t.inPlane 4 (2 + task % 8))
  | 1 => decide (task < 8) && t.inPlane 4 21
  | 2 => decide (task < 0x20)
  | _ => true

/-- The slots of a channel in use. -/
def State.chanSrcs (t : State) (n : Nat) : List Nat :=
  ((List.range 8).filter (fun k => t.bit (rSvcChSrc n k) 31)).map (fun k => t.fld (rSvcChSrc n k) 0 9)

/-- R526, R537: channels that are enabled or have a slot in use. -/
def State.ruleChannels (t : State) : Except Word Unit :=
  need ((List.range 64).all fun n =>
    (!t.bit (rSvcChCfg n) 31 && (t.chanSrcs n).isEmpty) ||
      (t.chanOk n && (t.chanSrcs n).all (fun x => decide (x < 288)))) (errAt eRule 15 1 0xC1A)

/-- A field whose value fails step 12 with RULE: unit, address, place, and the values that pass. -/
structure FieldRule where
  cluster : Nat
  unit : Nat
  addr : Nat
  lo : Nat
  w : Nat
  ok : List Nat
  deriving DecidableEq, Repr

/-- R162, R186, R220, R226, R230, R233, R296, R302, R312, R409, R429, R490. -/
def fieldRules : List FieldRule :=
  [⟨1, 1, rMemCfg, 30, 2, [0, 1, 2]⟩, ⟨1, 1, rMemCfg, 28, 2, [0, 1]⟩] ++
  (List.range 4).map (fun n => ⟨2, 1 + n, rLnkPortCfg n, 26, 2, [0, 1, 2]⟩) ++
  (List.range 64).map (fun i => ⟨3, 8, rIngStrFmt i, 10, 2, [0, 1, 2]⟩) ++
  (List.range 8).map (fun t => ⟨4, 2 + t, rSchTblCfg t, 16, 3, List.range 7⟩) ++
  (List.range 4).map (fun n => ⟨4, 10 + n, rSchAxCfg n, 0, 3, List.range 5⟩) ++
  [⟨4, 15, rSchA6Cfg, 4, 2, [0, 1, 2]⟩] ++
  (List.range 64).map (fun i => ⟨4, 20, rSchStrWin i, 30, 2, [0, 1, 2]⟩) ++
  (List.range 4).flatMap (fun c => [⟨5 + c, 1, rPixCfg c, 16, 4, List.range 5⟩, ⟨5 + c, 1, rPixTf c, 0, 3, List.range 5⟩,
    ⟨5 + c, 1, rPixCorr c, 0, 2, [0, 1, 2]⟩]) ++
  [⟨13, 2, rNetPortCfg 0, 28, 2, [0, 1, 2]⟩, ⟨13, 3, rNetPortCfg 1, 28, 2, [0, 1, 2]⟩]

/-- An item of the structure's plane covers a register (R81). -/
def State.covered (t : State) (c u a : Nat) : Bool :=
  match t.plane with
  | some p => (match p.unitRec c u with
    | some r => r.live && r.items.any (fun it => (it.words (unitBase c u)).any (fun x => x.1 == a))
    | none => false)
  | none => false

/-- Those fields, and BITS of the axes (R251): of every axis whose image gives BITS, and of every serial axis. -/
def State.ruleFields (t : State) : Except Word Unit := do
  noneBad fieldRules fun f =>
    if t.inPlane f.cluster f.unit && !f.ok.contains (t.fld f.addr f.lo f.w) then some (errAt eRule f.cluster f.unit 0) else none
  noneBad (List.range 4) fun n =>
    let b := t.fld (rSchAxSer n) 0 6
    let given := t.inPlane 4 (10 + n) && t.covered 4 (10 + n) (rSchAxSer n)
    if (t.axMode n = 3 ∨ t.axMode n = 4 ∨ given) ∧ ¬(8 ≤ b ∧ b ≤ 40) then some (errAt eRule 4 (10 + n) 0) else none

/-- Step 12 over a structure. -/
def State.step12 (t : State) (live : Bool) : Except Word Unit := do
  t.ruleContacts
  t.ruleCal
  t.ruleLedger
  t.ruleRegions live
  t.ruleHeads
  t.ruleStreams
  t.rulePix
  t.ruleEnc
  t.ruleSupply
  t.ruleStrip
  t.ruleGroups
  t.rulePool
  t.ruleParts
  t.ruleProxy
  t.ruleEncProxy
  t.ruleClass
  t.ruleChannels
  t.ruleFields

/-! ### Step 13 (R24, R409) -/

/-- Usable bandwidth of a sub-channel in bytes/s: 0.8887 of the pin rate. -/
def usablePerSc (speed : Nat) : Nat :=
  match speed with
  | 0 => 17063040000 | 1 => 19906880000 | 2 => 22750720000 | _ => 0

/-- Usable bandwidth over the trained sub-channels that are not fenced. -/
def State.usable (t : State) : Nat := (t.scs.countP t.scUp) * usablePerSc (t.fld rMemCfg 30 2)

/-- Worst-case real-time demand in bytes/s: slots, ledger entries, Tally records and proxies of the streams at their
declared rates, and BWMAX of the heads (log entry 30). -/
def State.memDemand (t : State) : Nat :=
  let str := fun i =>
    let rate := Config.streamRate t.imgDigest i
    let tally := if (t.servers i).isEmpty then 0 else 4096
    let proxy := match t.proxyLead i with
      | some c => ceilDiv (rate * t.pxBufSize c) (max 1 (t.fld (rPixPxFmt c) 16 16))
      | none => 0
    rate * (t.slotLen i + 128 + tally) + proxy
  t.ownStrs.foldl (fun n i => n + str i) 0 +
    (List.range 3).foldl (fun n d => n + (if t.bit (rOutDhCfg d) 31 && !t.fenced 14 (1 + d) then t.fld (rOutDhCfg d) 0 16 * 1000000 else 0)) 0

/-- Step 13. -/
def State.step13 (t : State) : Except Word Unit := need (decide (t.memDemand ≤ t.usable)) (errAt eMemBw 1 1 0)

/-- Steps 9 to 13 on a plane, at a start or a load. -/
def State.checkPlane (s : State) (p : Plane) : Except Word Unit := do
  s.step9 p
  p.step10
  p.step11
  (s.under p).step12 false
  (s.under p).step13

/-! ### Rules of an activation -/

/-- The heads that a stream's frames come from (R175). -/
def State.strHeads (s : State) (i : Nat) : List Nat :=
  match s.grpOfStr i with | some g => s.grpMembers g | none => [i / 16]

/-- The used partitions of a stream. -/
def State.strParts (s : State) (i : Nat) : List Nat := s.parts.filter (fun p => s.fld (rIngPartCfg p) 16 6 == i)

/-- Registers that hold the heads, lanes, geometry, pixel format, partition and memory region of a stream (R110). -/
def State.strRegs (s : State) (i : Nat) : List Nat :=
  (s.strHeads i).flatMap (fun n => [rDevHead n, rLnkPortCfg n] ++
      (s.headStrs n).flatMap (fun x => [rIngStrGeom x, rIngStrFmt x])) ++
    (s.strParts i).flatMap (fun p => (List.range 8).map (fun k => rIngPartCfg p + 4 * k) ++
      (List.range 4).map (fun k => rMemRgnBase (s.fld (rIngPartCfg p) 0 4) + 4 * k))

/-- Two structures differ in what an image sets in the register at `a`; of LNK_PORT_CFG the lanes and their order count. -/
def State.imgDiff (s t : State) (a : Nat) : Bool :=
  let m := match rowAt a with | some r => r.imgMask | none => 0#32
  let lanes := if (List.range 4).any (fun n => a == rLnkPortCfg n) then 0x03FFFFFF#32 else 0xFFFFFFFF#32
  (s.rd a ^^^ t.rd a) &&& m &&& lanes != 0#32

/-- Units that an armed stream uses (R110, R128). -/
def State.strUnits (s : State) (i : Nat) : List (Nat × Nat) :=
  let parts := s.strParts i
  let cal := (s.strHeads i).any (fun n => s.calShare n != 0)
  [(1, 1), (3, 8), (3, 9), (4, 1), (4, 20), (13, 1)] ++ (if cal then [(3, 6)] else []) ++
    (if parts.any s.attested then [(3, 10)] else []) ++
    (s.strHeads i).flatMap (fun n => [(2, 1 + n), (3, 1 + n), (4, 16 + n)] ++
      (List.range (2 ^ s.fld (rLnkPortCfg n) 24 2)).map (fun l => (2, 16 + 8 * n + s.fld (rLnkPortCfg n) (3 * l) 3))) ++
    (s.servers i).flatMap (fun c => [(5 + c, 1), (5 + c, 2), (5 + c, 3)]) ++
    parts.flatMap (fun p => (s.rgnScs (s.fld (rIngPartCfg p) 0 4)).map (fun n => (1, 16 + n)))

/-- Differences that R110 refuses, as (cluster, unit). -/
def State.armedDiffs (s t : State) : List (Nat × Nat) :=
  s.captureStrs.flatMap fun i =>
    ((s.strRegs i).filter (s.imgDiff t)).map (fun a => (clusterOf a, unitOf a)) ++
      (if s.strHeads i == t.strHeads i then [] else [(3, 8)]) ++
      (s.strUnits i).filter (fun x => s.inPlane x.1 x.2 && !t.inPlane x.1 x.2)

/-- Registers of a head that a swap cannot change while it runs (R506). -/
def dhFixed (d : Nat) : List Nat :=
  rOutDhCfg d :: (if d = 0 then [rOutDh0Htime 0, rOutDh0Vtime 0, rOutDh0Hsync 0, rOutDh0Vsync 0, rOutDh0Pclk 0,
    rOutDh0Linkcfg 0] else [rOutDhSdifmt d])

/-- The rules of step 12 that compare the new structure `t` with the running one (R110, R410, R506). -/
def State.stepActivate (s t : State) : Except Word Unit := do
  need ((s.rd rMemCfg &&& 0xF1000000#32) == (t.rd rMemCfg &&& 0xF1000000#32)) (errAt eRule 1 1 0xC17)
  let diffs := s.armedDiffs t
  need (!(s.capture && diffs.contains (0, 0))) (errDev eRule 0xC0E)
  noneBad (if s.capture then (List.range 16).flatMap (fun c => (List.range 64).map (fun u => (c, u))) else [])
    fun x => if diffs.contains x then some (errAt eRule x.1 x.2 0xC0E) else none
  noneBad (List.range 3) fun d =>
    if s.dhState d != 0 && (dhFixed d).any (fun a => s.rd a != t.rd a) then some (errAt eRule 14 (1 + d) 0xC19) else none

/-- Steps 9 to 13 at an activation. -/
def State.checkActivate (s : State) (p : Plane) : Except Word Unit := do
  s.step9 p
  p.step10
  p.step11
  (s.under p).step12 false
  s.stepActivate (s.under p)
  (s.under p).step13

/-- The checks of an ARM (R89, R127): step 12 over the live structure where it is ALTERED, then R24. -/
def State.checkArm (s : State) : Except Word Unit := do
  if s.bit rDevCfgStat 4 then s.step12 true else .ok ()
  s.step13

end Sys2Proof.Machine
end

