-- ==== Sys2Proof/Machine/Nvm.lean ====
section
/-! DEFINITION. The Teller and the NVMe data path (16): doorbells, arbitration, namespaces, Read, Write and Flush. -/

namespace Sys2Proof.Machine

open Sys2Proof

/-! ### Commands -/

/-- Doubleword `k` of a submission queue entry; opcode, namespace. -/
def NCmd.dw (c : NCmd) (k : Nat) : Nat := leAt c.sqe (4 * k) 4
def NCmd.op (c : NCmd) : Nat := leAt c.sqe 0 1
def NCmd.ns (c : NCmd) : Nat := c.dw 1

/-- First block and number of blocks of a Read or Write. -/
def NCmd.slba (c : NCmd) : Nat := c.dw 10 + c.dw 11 * 2 ^ 32
def NCmd.nlb (c : NCmd) : Nat := c.dw 12 % 65536 + 1

/-- CSTS.RDY, CSTS.CFS and CSTS.SHST. -/
def State.ctlRdy (s : State) : Bool := s.hst.csts.getLsbD 0
def State.ctlCfs (s : State) : Bool := s.hst.csts.getLsbD 1
def State.shst (s : State) : Nat := fget s.hst.csts 2 2

/-- The Teller fetches: enabled, ready, no shutdown notified, the link up. -/
def State.fetches (s : State) : Bool := s.ctlRdy && !s.ctlCfs && s.shst == 0 && s.hostUp

/-- A command ends with a status: counters, events and the completion (R414, R452, R457, R458). `dw0` of a Command
Sequence Error is its detail. -/
def State.finish (s : State) (q : Nat) (cid : BitVec 16) (status dw0 : Nat) : State :=
  if status = stSequence then s.seqError q cid dw0
  else if status = stUnrecovered then ((s.count rHstUre).raise 0x0E8 2).complete q cid status true 0#32
  else if status = stNotReady then (s.count rHstNotReady).complete q cid status false 0#32
  else if status = stNamespace then (s.count rHstInvalidNs).complete q cid status true 0#32
  else s.complete q cid status (status != stOk) (BitVec.ofNat 32 dw0)

/-! ### Arbitration (R447) -/

/-- A queue with commands to fetch. -/
def State.waiting (s : State) (q : Nat) : Bool :=
  match s.sq q with
  | some v => v.head != v.tail
  | none => false

/-- The class of a queue: 0 admin, 1 urgent, 2 high, 3 medium, 4 low. -/
def State.sqClass (s : State) (q : Nat) : Nat :=
  if q = 0 then 0 else match s.sq q with | some v => v.prio + 1 | none => 4

/-- The queues of a class with commands to fetch. -/
def State.classQs (s : State) (k : Nat) : List Nat := idxs 65 (fun q => s.waiting q && s.sqClass q == k)

/-- The next of a rising list after `last`, cyclically. -/
def nextAfter (last : Nat) (l : List Nat) : Option Nat :=
  match l.find? (fun q => decide (last < q)) with
  | some q => some q
  | none => l.head?

/-- Turns that a weighted class gets in a round: HPW + 1, MPW + 1, LPW + 1. -/
def State.weights (s : State) : List Nat := [fget s.hst.arb 24 8 + 1, fget s.hst.arb 16 8 + 1, fget s.hst.arb 8 8 + 1]

/-- The queue whose turn it is, the place of its round-robin pointer, and the turns left of the weighted classes. -/
def State.turn (s : State) : Option (Nat × Nat × List Nat) :=
  if fget s.hst.cc 11 3 = 0 then
    (nextAfter (s.hst.rr.getD 0 0) (idxs 65 s.waiting)).map (fun q => (q, 0, s.hst.credit))
  else if s.waiting 0 then some (0, 0, s.hst.credit)
  else if !(s.classQs 1).isEmpty then (nextAfter (s.hst.rr.getD 1 0) (s.classQs 1)).map (fun q => (q, 1, s.hst.credit))
  else
    let busy := [2, 3, 4].filter (fun k => !(s.classQs k).isEmpty)
    let pick := fun (cr : List Nat) => busy.find? (fun k => cr.getD (k - 2) 0 != 0)
    let cr := if (pick s.hst.credit).isSome then s.hst.credit else s.weights
    match pick cr with
    | none => none
    | some k => (nextAfter (s.hst.rr.getD k 0) (s.classQs k)).map
        (fun q => (q, k, setAt cr (k - 2) (cr.getD (k - 2) 0 - 1)))

/-- The number of commands that a turn fetches at most: 2^AB, or all. -/
def State.burst (s : State) : Nat := if fget s.hst.arb 0 3 = 7 then 4096 else 2 ^ fget s.hst.arb 0 3

/-- Opcodes that the controller does not know (R445, R460). -/
def badOpcode (q op : Nat) : Bool :=
  if q = 0 then decide (0xC0 ≤ op) && !([0xC1, 0xC2, 0xC6, 0xCE].contains op) else decide (2 < op)

/-- Every I/O command that has not begun its data transfer completes with Namespace Not Ready from 8 ms on (R131). -/
def State.refuseIo (s : State) : State :=
  if s.pwr.loss < 3 then s
  else s.forEach (s.hst.cmds.filter (fun c => c.q != 0 && c.st == 0)) (fun t c => t.finish c.q c.cid stNotReady 0)

/-- One command arrives at the Teller: an unknown opcode, or a Firmware Commit with CA 0b100 to 0b111, completes at once. -/
def State.takeCmd (s : State) (q : Nat) (sqe data : List Byte) : State :=
  let c : NCmd := ⟨q, BitVec.ofNat 16 (leAt sqe 2 2), slice (sqe ++ List.replicate 64 0#8) 0 64, data, 0, false, [], none⟩
  let s1 := (s.setHst { s.hst with cmds := s.hst.cmds ++ [c] }).count rHstCommands
  if badOpcode q c.op && (q == 0 || s.pwr.loss < 3) then s1.finish q c.cid stOpcode 0
  else if q = 0 ∧ c.op = 0x10 ∧ 4 ≤ c.dw 10 / 8 % 8 then s1.finish q c.cid stField 0
  else s1

/-- COMMAND_FETCH (R447): a turn of queue `q`, which must be the one that arbitration serves. -/
def State.commandFetch (s : State) (q : Nat) (cmds : List (List Byte × List Byte)) : State :=
  match s.turn, s.sq q with
  | some (t, k, cr), some v =>
    if t ≠ q ∨ s.fetches = false then s
    else
      let n := (v.tail + v.size - v.head) % max 1 v.size
      let l := cmds.take (min n s.burst)
      let s1 := (s.setHst { s.hst with rr := setAt s.hst.rr k q, credit := cr }).setSq q
        (some { v with head := (v.head + l.length) % max 1 v.size })
      (l.foldl (fun u x => u.takeCmd q x.1 x.2) s1).refuseIo
  | _, _ => s

/-- COMMAND_FETCH. -/
def execCommandFetch (q : Fin 65) (cmds : List (List Byte × List Byte)) (s : State) : Host.Outcome State Fault Refusal :=
  .next (s.commandFetch q cmds)

/-- A change of power state begins (R462, R463): on the way to PS3 the memory enters self-refresh, on the way out of PS4 it
is trained. -/
def State.toPs (s : State) (n : Nat) : State :=
  let s1 := s.setFld rHstPwr 4 3 n
  if s.fld rHstPwr 0 3 = 4 ∧ n ≠ 4 then (s1.setFld rMemStat 28 4 1).scAll 1 1
  else if n = 3 then s1.srBegin
  else s1

/-- The controller returns to its last operational state (R462). -/
def State.wake (s : State) : State :=
  if 3 ≤ s.fld rHstPwr 0 3 && s.fld rHstPwr 4 3 == s.fld rHstPwr 0 3 then s.toPs s.hst.opPs else s

/-- DOORBELL_WRITE at a BAR0 offset (R444): an even doorbell is a submission queue's tail, an odd one a completion
queue's head. Values outside the queue, or for no queue, change nothing (log entry 31). -/
def State.doorbell (s : State) (off : Nat) (v : Word) : State :=
  let k := (off - 0x1000) / 4
  let n := v.toNat % 65536
  if off < 0x1000 ∨ off % 4 ≠ 0 ∨ 130 ≤ k then s
  else if k % 2 = 0 then
    match s.sq (k / 2) with
    | some q => if n < q.size then
        let t := s.setSq (k / 2) (some { q with tail := n })
        if k = 0 then t else t.wake
      else s
    | none => s
  else
    match s.cq (k / 2) with
    | some q => if n < q.size then s.setCq (k / 2) (some { q with head := n }) else s
    | none => s

/-- DOORBELL_WRITE. -/
def execDoorbellWrite (off : Nat) (v : Word) (s : State) : Host.Outcome State Fault Refusal := .next (s.doorbell off v)

/-! ### Namespaces (R448 to R450) -/

/-- The class of a region. -/
def State.rgnClass (s : State) (r : Nat) : Nat := s.fld rHstRgnClass (2 * r) 2

/-- The class that namespaces 1, 3 and 5 map. -/
def nsClass (ns : Nat) : Nat := match ns with | 1 => 1 | 3 => 2 | _ => 3

/-- Blocks in the regions of a class. -/
def State.classBlocks (s : State) (k : Nat) : Nat :=
  (idxs 16 (fun r => s.rgnEn r && s.rgnClass r == k)).foldl (fun n r => n + s.rgnSize r * 256) 0

/-- A namespace is active. -/
def State.nsActive (s : State) (ns : Nat) : Bool :=
  (decide (1 ≤ ns) && decide (ns ≤ 4)) || (ns == 5 && (idxs 16 (fun r => s.rgnEn r && s.rgnClass r == 3)) != [])

/-- Blocks of the annex. -/
def State.annexBlocks (s : State) : Nat := s.rgnSize (s.fld rIngAnnex 0 4) * 256

/-- NSZE and NUSE. -/
def State.nsze (s : State) (ns : Nat) : Nat :=
  match ns with | 2 => 16384 + s.annexBlocks | 4 => 84480 | _ => 67108864
def State.nuse (s : State) (ns : Nat) : Nat :=
  match ns with | 2 => s.nsze 2 | 4 => 84480 | _ => s.classBlocks (nsClass ns)

/-- What the Namespace Attribute Changed notice watches (R457). -/
def State.nsMarks (s : State) : List (Nat × Nat) :=
  [(1, s.nuse 1), (3, s.nuse 3), (5, if s.nsActive 5 then s.nuse 5 + 1 else 0)]

/-- Module address of a block of namespaces 1, 2, 3 and 5; none where the block reads as zeros. -/
def State.nsAddr (s : State) (ns b : Nat) : Option Nat :=
  if ns = 2 then
    some (if b < 16384 then s.rgnAddr s.ledgerRgn + b * 4096 else s.annexAddr + (b - 16384) * 4096)
  else
    match s.regionOf (b * 4096) with
    | some r => if s.rgnClass r = nsClass ns then some (b * 4096) else none
    | none => none

/-- The partition that holds a module address. -/
def State.partAt (s : State) (a : Nat) : Option Nat :=
  s.parts.find? fun p =>
    let x := s.partSpan p
    decide (s.partRgn p + x.1 * 4096 ≤ a) && decide (a < s.partRgn p + (x.1 + x.2) * 4096)

/-! ### The Tables namespace (R451) -/

/-- What a block of namespace 4 addresses: the table and the first word of the block in it. -/
inductive TabWin where
  | cal (n : Nat)
  | cmp (t n : Nat)
  | ctx (n : Nat)
  | job (j k n : Nat)
  | str (i k n : Nat)
  deriving DecidableEq, Repr

/-- Block offset of a stream's tables: kind and first block. -/
def strTab (o : Nat) : Nat × Nat :=
  if o < 32 then (0, 0) else if o < 48 then (1, 32) else if o < 64 then (2, 48) else if o < 872 then (3, 64)
  else if o < 888 then (4, 872) else (5, 888)

/-- The window of a block. -/
def tabWin (b : Nat) : TabWin :=
  if b < 0x4000 then .cal (b * 1024)
  else if b < 0x4100 then .cmp ((b - 0x4000) / 32) ((b - 0x4000) % 32 * 1024)
  else if b < 0x4900 then .ctx ((b - 0x4100) * 4096)
  else if b < 0x4A00 then
    let o := (b - 0x4900) % 64
    .job ((b - 0x4900) / 64) (if o < 32 then 0 else 1) (o % 32 * 1024)
  else
    let o := (b - 0x4A00) % 1024
    .str ((b - 0x4A00) / 1024) (strTab o).1 ((o - (strTab o).2) * 1024)

/-- Words of a stream's table of kind `k` for a width (R303). -/
def tabWords (k w : Nat) : Nat :=
  match k with | 0 => 2 * w | 1 => 1799 | 2 => 12288 | 3 => 823875 | 4 => 12288 | _ => 2048

/-- The unit of a window is there to hold it. -/
def State.tabUp (s : State) (w : TabWin) : Bool :=
  match w with
  | .cal _ => s.unitLive 3 6
  | .cmp t _ => s.unitLive 4 (2 + t)
  | .ctx _ => s.unitLive 9 1
  | .job _ _ _ => s.unitLive 9 2
  | .str i _ _ => !(s.servers i).isEmpty

/-- A word of the inactive bank of a stream's table. -/
def State.tblOther (s : State) (i k n : Nat) : Word :=
  let p := s.pixStr i
  let b := match s.lead i with | some c => s.bit (rPixStat c) 4 | none => false
  Map.get tblDefault (if b then p.bank0 else p.bank1) (tblKey k n)

/-- The 4,096 bytes of a block of namespace 4. -/
def State.readTab (s : State) (w : TabWin) : List Byte :=
  let words := fun (ext n : Nat) (f : Nat → Word) => (List.range 1024).flatMap
    (fun j => leBytes 4 (if n + j < ext then (f (n + j)).toNat else 0))
  if !s.tabUp w then List.replicate 4096 0#8
  else match w with
    | .cal n => words 16777216 n (Map.get (fun _ => 0#32) s.ing.cal)
    | .cmp t n => (List.range 128).flatMap (fun e => (s.cmpEnt t (n / 8 + e)).bytes)
    | .ctx n => bytesAt s.cor.ctx n 4096
    | .job j k n => words (tabWords k (s.strW (s.corStream j))) n (fun m => Map.get jobDefault s.cor.tbl (jobKey j k m))
    | .str i k n => words (tabWords k (s.strW i)) n (s.tblOther i k)

/-- The shares of armed heads that words `[n, n + 1024)` of the store touch (R92). -/
def State.calArmed (s : State) (n : Nat) : Bool :=
  (List.range 4).any fun h =>
    let base := s.fld (rIngCalBase h) 0 24
    s.calShare h != 0 && decide (n < base + s.calShare h) && decide (base < n + 1024) && (s.headStrs h).any (fun i => s.armed (s.logical i))

/-- The detail of the Command Sequence Error that refuses a write (R452, R458); 0 where none. -/
def State.tabErr (s : State) (w : TabWin) : Nat :=
  match w with
  | .cal n => if s.calArmed n then 1 else 0
  | .cmp _ _ => 0
  | .ctx n => if (List.range 32).any (fun k => s.ctxBusy (n / 128 + k)) then 3 else 0
  | .job j _ _ => if s.corState j != 0 then 3 else 0
  | .str i _ _ => match s.lead i with | some c => if s.bit (rPixStat c) 0 then 2 else 0 | none => 0

/-- Write a block of namespace 4. -/
def State.writeTab (s : State) (w : TabWin) (d : List Byte) : State :=
  let wd := fun j => BitVec.ofNat 32 (leAt d (4 * j) 4)
  let inExt := fun (ext n : Nat) => (List.range 1024).filter (fun j => decide (n + j < ext))
  match w with
  | .cal n => s.forEach (inExt 16777216 n) (fun t j =>
      { t with ing := { t.ing with cal := Map.set (fun _ => 0#32) t.ing.cal (n + j) (wd j) } })
  | .cmp t n => s.forEach (List.range 128) (fun u e => u.writeCmp t (n / 8 + e) (slice d (32 * e) 32))
  | .ctx n => s.setCor { s.cor with ctx := putBytes s.cor.ctx n (slice (d ++ List.replicate 4096 0#8) 0 4096) }
  | .job j k n => s.forEach (inExt (tabWords k (s.strW (s.corStream j))) n) (fun t m =>
      t.setCor { t.cor with tbl := Map.set jobDefault t.cor.tbl (jobKey j k (n + m)) (wd m) })
  | .str i k n => s.forEach (inExt (tabWords k (s.strW i)) n) (fun t j => t.setTbl i k (n + j) (wd j))

/-! ### The data phase of a command -/

/-- What a data phase gives: status, DW0, data for the host, lock numbers of the block writes. -/
structure DataRes where
  status : Nat
  dw0 : Nat
  data : List Byte
  locks : List Nat
  deriving DecidableEq, Repr

/-- A status alone. -/
def DataRes.err (st dw0 : Nat) : DataRes := ⟨st, dw0, [], []⟩

/-- The range checks of a Read or Write: namespace, MDTS of 256 blocks, size. -/
def State.rangeErr (s : State) (c : NCmd) : Nat :=
  if !s.nsActive c.ns then stNamespace
  else if 256 < c.nlb then stField
  else if s.nsze c.ns < c.slba + c.nlb then stLba
  else stOk

/-- One block of a Read: the status so far is kept where it is worse. -/
def State.readBlock (s : State) (c : NCmd) (b : Nat) (r : DataRes) : State × DataRes :=
  if c.ns = 4 then (s, { r with data := r.data ++ s.readTab (tabWin b) })
  else match s.nsAddr c.ns b with
    | none => (s, { r with data := r.data ++ List.replicate 4096 0#8 })
    | some a =>
      let m := (fun (x : State × MStat × List Byte) => (x.1.spend 2 (s.moved a 4096), x.2)) (s.memReadAs c.early a 4096)
      match m.2.1 with
      | .ok => (m.1, { r with data := r.data ++ m.2.2 })
      | .range => (m.1, { r with data := r.data ++ m.2.2 })
      | .notReady => (m.1, { r with status := stNotReady })
      | _ => (m.1, { r with status := if r.status = stOk then stUnrecovered else r.status,
                            data := r.data ++ List.replicate 4096 0#8 })

/-- The data phase of a Read. -/
def State.readPhase (s : State) (c : NCmd) : State × DataRes :=
  let e := s.rangeErr c
  if e ≠ stOk then (s, .err e 0)
  else (List.range c.nlb).foldl (fun x k => x.1.readBlock c (c.slba + k) x.2) (s, ⟨stOk, 0, [], []⟩)

/-- Why a Write is refused (R449, R451, R452): status and DW0. -/
def State.writeErr (s : State) (c : NCmd) : Nat × Nat :=
  let bs := (List.range c.nlb).map (c.slba + ·)
  if c.ns = 2 ∨ c.ns = 3 then (stReadOnly, 0)
  else if c.ns = 4 then
    match bs.find? (fun b => s.tabErr (tabWin b) != 0) with
    | some b => (stSequence, s.tabErr (tabWin b))
    | none => if bs.all (fun b => s.tabUp (tabWin b)) then (stOk, 0) else (stReadOnly, 0)
  else
    let ps := bs.filterMap (fun b => s.partAt (b * 4096))
    if ps.any s.attested then (stReadOnly, 0)
    else if ps.any (fun p => s.armed (s.fld (rIngPartCfg p) 16 6)) then (stSequence, 4)
    else if bs.all (fun b => (s.nsAddr c.ns b).isSome) then (stOk, 0)
    else (stReadOnly, 0)

/-- One block of a Write: a table block at once, a memory block as one locked write of the host port (R418, R454). -/
def State.writeBlock (s : State) (c : NCmd) (k : Nat) (r : DataRes) : State × DataRes :=
  let d := slice (c.data ++ List.replicate (4096 * (k + 1)) 0#8) (4096 * k) 4096
  if c.ns = 4 then (s.writeTab (tabWin (c.slba + k)) d, r)
  else
    let st := s.burstStat c.early ((c.slba + k) * 4096)
    let t := s.request 2 true ((c.slba + k) * 4096) 4096 d true c.early
    (t, { r with status := if st = .notReady then stNotReady else r.status, locks := r.locks ++ [t.mem.lockN] })

/-- The data phase of a Write. -/
def State.writePhase (s : State) (c : NCmd) : State × DataRes :=
  let e := s.rangeErr c
  let w := s.writeErr c
  if e ≠ stOk then (s, .err e 0)
  else if w.1 ≠ stOk then (s, .err w.1 w.2)
  else (List.range c.nlb).foldl (fun x k => x.1.writeBlock c k x.2) (s, ⟨stOk, 0, [], []⟩)

/-- Writes whose blocks have all retired complete (R455). -/
def State.finishWrites (s : State) : State :=
  s.forEach (s.hst.cmds.filter (fun c => c.st == 2 && !c.locks.any (fun l => s.mem.q.any (fun b => b.write && b.lock == l))))
    (fun t c => t.finish c.q c.cid stOk 0)

/-- What a data phase leads to: the completion, or the wait for the blocks to retire. -/
def State.endPhase (s : State) (c : NCmd) (r : DataRes) : State :=
  let s1 := if r.data.isEmpty then s else s.toHost c.q c.cid r.data
  if r.locks.isEmpty || r.status != stOk then s1.finish c.q c.cid r.status r.dw0
  else (s1.modNcmd c.q c.cid (fun d => { d with st := 2, early := false, locks := r.locks })).finishWrites

/-- The command's result: reached at a swap under the old plane (R457), or reached now. -/
def State.runPhase (s : State) (c : NCmd) (f : State → NCmd → State × DataRes) : State :=
  match c.res with
  | some x => s.endPhase c ⟨x.1, x.2.1, x.2.2, c.locks⟩
  | none => (fun y => y.1.endPhase c y.2) (f s c)

/-- A command's range overlaps that of an earlier command in its queue and namespace (R453). -/
def State.overlapped (s : State) (c : NCmd) : Bool :=
  (s.hst.cmds.takeWhile (fun d => !(d.q == c.q && d.cid == c.cid))).any fun d =>
    d.q == c.q && (d.op == 1 || d.op == 2) && d.ns == c.ns && clash (d.slba, d.nlb) (c.slba, c.nlb)

/-- The Teller starts commands: it runs, or a shutdown lets those it has fetched complete (R456, R457). -/
def State.starts (s : State) : Bool := s.fld rHstTeller 28 4 == 1 || s.fld rHstTeller 28 4 == 3

/-- DATA_TRANSFER_START (R447): a free one of the 8 slots, no earlier overlapping command, the Teller at work; from
8 ms of a loss of mains on the command ends instead (R131). In PS3 and PS4 it waits for the memory (R462). -/
def State.transferStart (s : State) (q : Nat) (cid : BitVec 16) : State :=
  match s.ncmd q cid with
  | none => s
  | some c =>
    if c.st ≠ 0 ∨ q = 0 ∨ ¬(c.op = 1 ∨ c.op = 2) then s
    else if 3 ≤ s.pwr.loss then s.finish q cid stNotReady 0
    else if s.starts = false ∨ 8 ≤ s.hst.cmds.countP (fun d => d.st == 1) ∨ s.overlapped c = true ∨
        3 ≤ s.fld rHstPwr 0 3 ∨ s.hostUp = false then s
    else s.modNcmd q cid (fun d => { d with st := 1, early := true })

/-- DATA_TRANSFER_START. -/
def execDataTransferStart (q : Fin 65) (cid : BitVec 16) (s : State) : Host.Outcome State Fault Refusal :=
  .next (s.transferStart q cid)

/-- NVM_READ (R452): the last data of a Read in transfer; it waits while the host port is not served, but for the transfers
that self-refresh entry waits for (R131). -/
def State.nvmRead (s : State) (q : Nat) (cid : BitVec 16) : State :=
  match s.ncmd q cid with
  | some c =>
    if c.st = 1 ∧ c.op = 2 ∧ (s.memState ≠ 2 ∨ s.bulkWaits 2 = false) then s.runPhase c State.readPhase else s
  | none => s

/-- NVM_WRITE (R452). -/
def State.nvmWrite (s : State) (q : Nat) (cid : BitVec 16) : State :=
  match s.ncmd q cid with
  | some c => if c.st = 1 ∧ c.op = 1 then s.runPhase c State.writePhase else s
  | none => s

/-- NVM_FLUSH (R455): it completes once no earlier write of its queue is outstanding. -/
def State.nvmFlush (s : State) (q : Nat) (cid : BitVec 16) : State :=
  match s.ncmd q cid with
  | none => s
  | some c =>
    let before := (s.hst.cmds.takeWhile (fun d => !(d.q == q && d.cid == cid))).any (fun d => d.q == q && d.op == 1)
    if c.op ≠ 0 ∨ q = 0 ∨ c.st ≠ 0 ∨ s.starts = false then s
    else if 3 ≤ s.pwr.loss then s.finish q cid stNotReady 0
    else if c.ns ≠ 0xFFFFFFFF ∧ s.nsActive c.ns = false then s.finish q cid stNamespace 0
    else if before then s
    else s.finish q cid stOk 0

/-- NVM_READ. -/
def execNvmRead (q : Fin 65) (cid : BitVec 16) (s : State) : Host.Outcome State Fault Refusal := .next (s.nvmRead q cid)

/-- NVM_WRITE. -/
def execNvmWrite (q : Fin 65) (cid : BitVec 16) (s : State) : Host.Outcome State Fault Refusal := .next (s.nvmWrite q cid)

/-- NVM_FLUSH. -/
def execNvmFlush (q : Fin 65) (cid : BitVec 16) (s : State) : Host.Outcome State Fault Refusal := .next (s.nvmFlush q cid)

/-- Before a swap every command in transfer reaches its result under the old plane (R457). -/
def State.settleCmds (s : State) : State :=
  s.forEach (s.hst.cmds.filter (fun c => c.st == 1 && c.res.isNone)) fun t c =>
    let y := if c.op = 2 then t.readPhase c else t.writePhase c
    y.1.modNcmd c.q c.cid (fun d => { d with res := some (y.2.status, y.2.dw0, y.2.data), locks := y.2.locks })

/-- WRITE_RETIRE (R417): the buffers of ING, the audio FIFOs and the host's writes follow. -/
def execWriteRetire (sc : Fin 16) (bank : Fin 32) (s : State) : Host.Outcome State Fault Refusal :=
  .next (((s.retire sc bank).forEach [0, 1, 2, 3] (fun t n => t.syncPort n)).forEach [0, 1] (fun t n => t.syncAesOd n)).finishWrites

end Sys2Proof.Machine
end

