-- ==== Sys2Proof/Machine/Thermal.lean ====
section
/-! DEFINITION. The thermal unit (21): sensors, zones, throttling; telemetry and the VPD. -/

namespace Sys2Proof.Machine

open Sys2Proof

/-- Replace the thermal unit. -/
def State.setTh (s : State) (t : Therm) : State := { s with th := t }

/-- The sensors of a zone: 0 junction, 1 cold plate (R557). -/
def zoneSensors (z : Nat) : List Nat := if z = 0 then List.range 12 else [12, 13, 14, 15]

/-- The zone of a sensor. -/
def sensorZone (n : Nat) : Nat := if n < 12 then 0 else 1

/-- The neighbours of a sensor (R557). -/
def sensorNear (n : Nat) : List Nat :=
  if n < 12 then
    (if 4 ≤ n then [n - 4] else []) ++ (if n < 8 then [n + 4] else []) ++
      (if n % 4 = 0 then [] else [n - 1]) ++ (if n % 4 = 3 then [] else [n + 1])
  else (zoneSensors 1).filter (· != n)

/-- Warn, throttle and shutdown of a zone in 1/8 °C (R559). -/
def zoneWarn (z : Nat) : Int := if z = 0 then 760 else 440
/-- Throttle. -/
def zoneThrottle (z : Nat) : Int := if z = 0 then 840 else 480
/-- Shutdown. -/
def zoneShutdown (z : Nat) : Int := if z = 0 then 920 else 560

/-- Sensor `n` is broken. -/
def State.broken (s : State) (n : Nat) : Bool := s.bit rSvcThStat n

/-- Insert into a rising list. -/
def insertSorted (x : Int) : List Int → List Int
  | [] => [x]
  | y :: l => if x ≤ y then x :: y :: l else y :: insertSorted x l

/-- Twice the median of a list: of an even number, the mean of the middle two (R558). -/
def median2 (l : List Int) : Option Int :=
  let q := l.foldr insertSorted []
  let n := q.length
  if n = 0 then none
  else if n % 2 = 1 then some (2 * q.getD (n / 2) 0)
  else some (q.getD (n / 2 - 1) 0 + q.getD (n / 2) 0)

/-- GRACE in ms, RISE in 0.1 °C/s, THR_STEP, clamped (R567). -/
def State.thRise (s : State) : Nat := clampNat 5 200 (s.fld rSvcThCfg 8 8)
/-- THR_STEP. -/
def State.thrStep (s : State) : Nat := s.fld rSvcThCfg 0 2

/-- Samples of a history over the last `n` ms with the present one. -/
def lastMs (h : List ThSample) (n : Nat) : Option (List ThSample) := if n < h.length then some (h.take (n + 1)) else none

/-- STUCK (R558): ten seconds without change while the median of the zone's other valid sensors spans 2 °C. -/
def stuckAt (h : List ThSample) (n : Nat) : Bool :=
  match lastMs h 10000 with
  | none => false
  | some w =>
    let t := w.map (fun x => x.temps.getD n 0)
    let m := w.filterMap (fun x => (x.meds.getD n none))
    match m with
    | [] => false
    | m0 :: _ => t.all (· == t.headD 0) && decide (32 ≤ m.foldl max m0 - m.foldl min m0)

/-- The cause for which a sensor breaks, 0 none (R558). -/
def breakCause (h : List ThSample) (valid : Nat → Bool) (t : List Int) (n : Nat) : Nat :=
  let r := t.getD n 0
  if r < -320 ∨ 1200 < r then 1
  else if stuckAt h n then 2
  else match median2 (((sensorNear n).filter valid).map (fun k => t.getD k 0)) with
    | some m => if 160 < (2 * r - m).natAbs then 3 else 0
    | none => 0

/-- The sample of a measurement: medians over the zone's other sensors valid at its start, doubled. -/
def sampleOf (valid : Nat → Bool) (t : List Int) : ThSample :=
  ⟨t, (List.range 16).map (fun n =>
    median2 (((zoneSensors (sensorZone n)).filter (fun k => k != n && valid k)).map (fun k => t.getD k 0)))⟩

/-- The rise of a sensor over the last 200 ms, in 1/8 °C; none before 200 ms of history. -/
def riseOf (h : List ThSample) (n : Nat) : Option Int :=
  (lastMs h 200).map (fun w => ((w.headD ⟨[], []⟩).temps.getD n 0) - ((w.getLastD ⟨[], []⟩).temps.getD n 0))

/-- A valid sensor of zone `z` rises faster than `k` / 1250 of RISE per 200 ms, in 1/8 °C: 200 for RISE × 0.2 s. -/
def State.fastRise (s : State) (z k : Nat) : Bool :=
  ((zoneSensors z).filter (fun n => !s.broken n)).any fun n =>
    match riseOf s.th.hist n with
    | some d => decide ((s.thRise * k : Nat) < 1250 * d)
    | none => false

/-- The highest valid reading of a zone. -/
def State.zoneRead (s : State) (z : Nat) : Option Int :=
  let t := (s.th.hist.headD ⟨[], []⟩).temps
  ((zoneSensors z).filter (fun n => !s.broken n)).foldl (fun m n => match m with
    | none => some (t.getD n 0)
    | some v => some (max v (t.getD n 0))) none

/-- The zone holds at its throttle level: a broken sensor, or the rise hold (R559, R560). -/
def State.zoneHolds (s : State) (z : Nat) : Bool := (zoneSensors z).any s.broken || s.th.rise.getD z false

/-- Zone value, and whether it comes from a hold (R559). -/
def State.zoneValue (s : State) (z : Nat) : Int × Bool :=
  match s.zoneRead z with
  | none => (zoneThrottle z, true)
  | some v => if s.zoneHolds z ∧ v < zoneThrottle z then (zoneThrottle z, true) else (v, false)

/-- SVC_TH_ZONE, the held bits and TH_RISE follow the zones. -/
def State.syncZones (s : State) : State :=
  let j := s.zoneValue 0
  let c := s.zoneValue 1
  let s1 := s.wr rSvcThZone (BitVec.ofNat 32 (toBits 16 c.1 * 2 ^ 16 + toBits 16 j.1))
  ((s1.setBit rSvcThStat 16 j.2).setBit rSvcThStat 17 c.2).setBit rSvcThCfg 2 (s.th.rise.any id)

/-- State of a zone: 0 NORMAL, 1 WARN, 2 REQUEST, 3 ENFORCED, 4 SHUTDOWN (R567). -/
def State.zoneState (s : State) (z : Nat) : Nat := s.fld rSvcThStat (28 - 4 * z) 4

/-- Set it. -/
def State.setZone (s : State) (z st : Nat) : State := s.setFld rSvcThStat (28 - 4 * z) 4 st

/-- STEP_THERM is the slowest step that either zone demands (R561); a demand acts under R27. -/
def State.syncTherm (s : State) : State := (s.setFld rDevClk 2 2 (s.th.dem.foldl max 0)).stepEval

/-- A zone demands a step. -/
def State.demand (s : State) (z n : Nat) : State := (s.setTh { s.th with dem := setAt s.th.dem z n }).syncTherm

/-- The grace of a zone is spent, or not. -/
def State.setSpent (s : State) (z : Nat) (b : Bool) : State := s.setTh { s.th with spent := setAt s.th.spent z b }

/-- A zone enters ENFORCED (R561). -/
def State.enforce (s : State) (z : Nat) : State :=
  let s1 := ((s.setZone z 3).count rSvcThEnforcements).raise 0x116 4
  s1.demand z (max (s.fld rDevClk 2 2) s.thrStep)

/-- One transition of a zone (R561): the next state, or none where it stays. -/
def State.zoneStep (s : State) (z : Nat) : Option State :=
  let v := s.zoneValue z
  let low := v.1 < zoneThrottle z - 40
  match s.zoneState z with
  | 4 => none
  | st =>
    if !v.2 && decide (zoneShutdown z ≤ v.1) then some ((s.setZone z 4).raise 0x11A 4)
    else match st with
    | 0 => if zoneWarn z ≤ v.1 then some ((s.setZone z 1).raise 0x114 4) else none
    | 1 =>
      if zoneThrottle z ≤ v.1 then
        some (((((s.setZone z 2).setSpent z false).count rSvcThRequests).raise 0x115 4).aerTemp)
      else if v.1 < zoneWarn z - 16 then some (s.setZone z 0)
      else none
    | 2 =>
      if low then some (s.setZone z (if v.1 < zoneWarn z - 16 then 0 else 1))
      else if s.th.spent.getD z false && decide (zoneThrottle z ≤ v.1) then some (s.enforce z)
      else none
    | _ => none

/-- A zone moves through its states in one evaluation, at most `fuel` of them. -/
def State.zoneEval (s : State) (z : Nat) : Nat → State
  | 0 => s
  | fuel + 1 => match s.zoneStep z with
    | none => s
    | some t => t.zoneEval z fuel

/-- THERMAL_MEASUREMENT (R557 to R561): readings in 1/8 °C of D0 to D11 and M0 to M3. -/
def State.thermal (s : State) (readings : List Int) : State :=
  if !s.unitLive 15 4 || readings.length != 16 then s
  else
    let valid := fun n => !s.broken n
    let h := (sampleOf valid readings :: s.th.hist).take 10001
    let s1 := s.setTh { s.th with hist := h }
    let s2 := s1.forEach (List.range 16) fun t n =>
      let cause := if valid n then breakCause h valid readings n else 0
      let t1 := t.setFld (rSvcThSens n) 0 16 (toBits 16 (readings.getD n 0))
      if cause = 0 then t1
      else (((t1.setBit (rSvcThSens n) 31 true).setFld (rSvcThSens n) 28 3 cause).setBit rSvcThStat n true).raise 0x117 4
    let s3 := s2.setTh { s2.th with rise := [0, 1].map (fun z => s2.th.rise.getD z false || s2.fastRise z 200) }
    ((s3.syncZones).zoneEval 0 5).zoneEval 1 5

/-- THERMAL_MEASUREMENT. -/
def execThermalMeasurement (readings : List Int) (s : State) : Host.Outcome State Fault Refusal := .next (s.thermal readings)

/-- GRACE_END (R561): GRACE ms after a zone entered REQUEST. -/
def execGraceEnd (zone : Fin 2) (s : State) : Host.Outcome State Fault Refusal :=
  .next (if !s.unitLive 15 4 || s.zoneState zone != 2 then s
    else if zoneThrottle zone ≤ (s.zoneValue zone).1 then s.enforce zone else s.setSpent zone true)

/-- THERMAL_ESCALATION (R562): 2 s at throttle, measured; the cold plate from 65 °C only. -/
def execThermalEscalation (zone : Fin 2) (s : State) : Host.Outcome State Fault Refusal :=
  let v := s.zoneValue zone
  let d := s.th.dem.getD zone 0
  .next (if !s.unitLive 15 4 || s.zoneState zone != 3 || v.2 || decide (v.1 < zoneThrottle zone) ||
        (zone.val == 1 && decide (v.1 < 520)) || decide (3 ≤ d) then s
    else ((s.count rSvcThEscalations).raise 0x116 4).demand zone (d + 1))

/-- THERMAL_RELEASE (R562): 2 s below throttle less 5 °C; at 0b00 the zone leaves ENFORCED. -/
def execThermalRelease (zone : Fin 2) (s : State) : Host.Outcome State Fault Refusal :=
  let v := (s.zoneValue zone).1
  let d := s.th.dem.getD zone 0
  .next (if !s.unitLive 15 4 || s.zoneState zone != 3 || decide (zoneThrottle zone - 40 ≤ v) then s
    else
      let s1 := s.demand zone (d - 1)
      if d ≤ 1 then s1.setZone zone (if v < zoneWarn zone - 16 then 0 else 1) else s1)

/-- RISE_HOLD_END (R560): a second of slow rise on every sensor of a held zone. -/
def execRiseHoldEnd (zone : Fin 2) (s : State) : Host.Outcome State Fault Refusal :=
  .next (if !s.unitLive 15 4 || s.fastRise zone 100 then s
    else (s.setTh { s.th with rise := setAt s.th.rise zone false }).syncZones)

/-- The check at release (R564): at shutdown 0x11A, at throttle ENFORCED without grace. -/
def State.thermalRelease (s : State) : State :=
  if !s.unitLive 15 4 then s
  else
    let down := [0, 1].filter (fun z => !(s.zoneValue z).2 && decide (zoneShutdown z ≤ (s.zoneValue z).1))
    if s.th.hist.isEmpty then s
    else if !down.isEmpty then
      s.forEach down (fun t z => if t.zoneState z == 4 then t else (t.setZone z 4).raise 0x11A 4)
    else
      s.forEach [0, 1] fun t z =>
        if zoneThrottle z ≤ (t.zoneValue z).1 && t.zoneState z != 3 then t.enforce z else t

/-! ### Telemetry and VPD (R54, R565) -/

/-- A block read of the telemetry responder; unpowered, it does not acknowledge. -/
def State.telemetry (s : State) (b : List Byte) : State := { s with rbytes := if s.powered then b else [] }

/-- The value of a register as its unit shows it: 0 while fenced or disabled (R38, R71). -/
def State.shown (s : State) (c u a : Nat) : Word := if s.unitLive c u then s.rd a else 0#32

/-- TELEMETRY_IDENTITY: command 0x00. -/
def execTelemetryIdentity (s : State) : Host.Outcome State Fault Refusal :=
  .next (s.telemetry (leBytes 1 1 ++ leBytes 1 (fget (devCap0 s.variant) 24 8) ++ leBytes 2 0))

/-- TELEMETRY_ZONES: command 0x10. -/
def execTelemetryZones (s : State) : Host.Outcome State Fault Refusal :=
  .next (s.telemetry (leBytes 4 (s.shown 15 4 rSvcThZone).toNat))

/-- TELEMETRY_SENSORS: command 0x11. -/
def execTelemetrySensors (s : State) : Host.Outcome State Fault Refusal :=
  .next (s.telemetry ((List.range 16).flatMap (fun n => leBytes 2 (s.shown 15 4 (rSvcThSens n)).toNat)))

/-- TELEMETRY_THERMAL_STATUS: command 0x12. -/
def execTelemetryThermalStatus (s : State) : Host.Outcome State Fault Refusal :=
  .next (s.telemetry (leBytes 4 (s.shown 15 4 rSvcThStat).toNat))

/-- TELEMETRY_POWER_STATUS: command 0x20. -/
def execTelemetryPowerStatus (s : State) : Host.Outcome State Fault Refusal :=
  .next (s.telemetry (leBytes 4 (s.rd rSvcPwrStat).toNat))

/-- TELEMETRY_INPUT_POWER: command 0x21. -/
def execTelemetryInputPower (s : State) : Host.Outcome State Fault Refusal := .next (s.telemetry (leBytes 4 s.pwr.inputMw))

/-- TELEMETRY_HEAD_POWER: command 0x22. -/
def execTelemetryHeadPower (s : State) : Host.Outcome State Fault Refusal :=
  .next (s.telemetry (leBytes 4 (s.rd rSvcHpwrStat).toNat))

/-- TELEMETRY_CLOCK: command 0x30. -/
def execTelemetryClock (s : State) : Host.Outcome State Fault Refusal := .next (s.telemetry (leBytes 4 (s.rd rDevClk).toNat))

/-- TELEMETRY_FAULT_SUMMARY: command 0x40. -/
def execTelemetryFaultSummary (s : State) : Host.Outcome State Fault Refusal := .next (s.telemetry (s.faultHead.take 16))

/-- TELEMETRY_FIRST_FATAL: command 0x41. -/
def execTelemetryFirstFatal (s : State) : Host.Outcome State Fault Refusal := .next (s.telemetry (s.regBytes (rSvcAudFf 0) 8))

/-- VPD_READ: the EEPROM at 0x50 answers whenever 3V3_AUX is present, also unpowered (R54). -/
def execVpdRead (off len : Nat) (s : State) : Host.Outcome State Fault Refusal :=
  .next { s with rbytes := (List.range len).map (fun k => Config.vpd (off + k)) }

end Sys2Proof.Machine
end

