-- ==== Sys2Proof/Machine/Plane.lean ====
section
/-! DEFINITION. Configuration planes in force: reset values and image values of a unit (R81, R115, R128), the units that
an activation replaces (R109), and the handover at a swap (R114). -/

namespace Sys2Proof.Machine

open Sys2Proof

/-! ### Registers of a unit -/

/-- A BAR2 address lies in the window of unit `u` of cluster `c`. -/
def inUnit (c u a : Nat) : Bool := clusterOf a == c && unitOf a == u

/-- Every register of a unit takes its reset value (R128). -/
def State.dropRegs (s : State) (c u : Nat) : State :=
  { s with regs := s.regs.filter (fun x => !inUnit c u x.1), shadow := s.shadow.filter (fun x => !inUnit c u x.1),
           live := s.live.filter (fun x => !inUnit c u x.1) }

/-- Whether the register at offset `o` of a replaced unit belongs to state that passes to the new plane (R114): the Mint,
the axes, frame serials and segments with the windows of their streams, gauge values and the error of an aborted job
(R342), running encoder channels, a queue with jobs, the Auditor, running display heads, and the minimum service set. What
shows the condition of the recording memory stands with the array itself. -/
def State.keptAt (s : State) (c u o : Nat) : Bool :=
  u == 0 || inMss c u ||
  match c with
  | 1 => if u = 1 then o == 0x14 else o == 0x10
  | 3 => u == 9
  | 4 => (10 ≤ u && u < 16) || (u == 20 && 0x1000 ≤ o && [0x10, 0x14, 0x1C].contains (o % 0x40))
  | 9 => (u == 2 && 0x1000 ≤ o && o % 0x100 == 0x54) || u == 3
  | 10 => (2 ≤ u && u < 10) && s.encState (u - 2) != 0 && [0x4C, 0x58, 0x60, 0x64].contains o
  | 11 => !s.cmpQueue.isEmpty && (if u = 1 then o == 0x1C || o == 0x20 else [0x10, 0x14, 0x18].contains o)
  | 13 => u == 1
  | 14 => (1 ≤ u && u < 4) && s.dhState (u - 1) != 0 && (rowAt (unitBase c u + o)).any (fun r => r.mask .ro != 0#32)
  | 15 => u == 2
  | _ => false

/-- The bits of a register of a replaced unit that stay across a swap. -/
def State.keptMask (s : State) (a : Nat) : Word :=
  match rowAt a with
  | none => 0#32
  | some r => if s.keptAt (clusterOf a) (unitOf a) (offOf a) then ~~~ r.imgMask else 0#32

/-- The registers of a replaced unit at a swap: reset values but for the state that R114 keeps. -/
def State.swapRegs (s : State) (c u : Nat) : State :=
  let mine := s.regs.filter (fun x => inUnit c u x.1)
  let s1 : State := { s with
    shadow := s.shadow.filter (fun x => !inUnit c u x.1)
    live := s.live.filter (fun x => !inUnit c u x.1 || s.keptMask x.1 != 0#32) }
  mine.foldl (fun t x =>
    let k := s.keptMask x.1
    t.wr x.1 ((regDefault x.1 &&& ~~~ k) ||| (x.2 &&& k))) s1

/-- The items of a plane that write a unit. -/
def Plane.unitItems (p : Plane) (c u : Nat) : List Item :=
  (if c = 0 ∧ u = 0 then p.dev else []) ++
    (match p.unitRec c u with | some r => if r.live then r.items else [] | none => [])

/-- The image values of a unit go into its registers (R81). -/
def State.loadUnit (s : State) (p : Plane) (c u : Nat) : State :=
  (p.unitItems c u).foldl (fun t it => (it.words (unitBase c u)).foldl (fun w x => w.putItem x.1 x.2) t) s

/-- A plane's record of a unit lies under the unit's format range (R115). -/
def Plane.tooOld (p : Plane) (c u : Nat) : Bool := match p.unitRec c u with | some r => !r.live | none => false

/-- R115: a record older than the unit's format range sets the unit's FORMAT_RESET bit and raises the event. -/
def State.formatReset (s : State) (p : Plane) (c u : Nat) : State :=
  if p.tooOld c u then (s.setBit (rDevVltFrstU (2 * c + u / 32)) (u % 32) true).raise 0x007 1 else s

/-- Every unit of the module. -/
def allUnits : List (Nat × Nat) := (List.range 16).flatMap (fun c => (List.range 64).map (fun u => (c, u)))

/-! ### What follows a load -/

/-- HSTEP and VSTEP of cluster `c` from the geometry of its stream (R299). -/
def State.setSteps (s : State) (c : Nat) : State :=
  let i := s.fld (rPixCfg c) 24 6
  let g := s.pxGeom c
  (s.wr (rPixPxHstep c) (BitVec.ofNat 32 (scaleStep (s.strW i) g.1))).wr (rPixPxVstep c)
    (BitVec.ofNat 32 (scaleStep (s.strH i) g.2))

/-- The slot mask of group `g` starts from its image value; a strip stream rotates over one head (R92). -/
def State.loadMask (s : State) (g : Nat) : State :=
  let m := s.fld (rIngGrpMask g) 0 4 &&& s.fld (rIngGrpCfg g) 0 4
  let strip := match s.grpStr g with | some i => s.strLayout i == 2 | none => false
  let n := match idxs 4 m.testBit with
    | [] => 0
    | h :: _ => if strip then 2 ^ h else m
  ((s.setFld (rIngGrpMask g) 0 4 n).setFld (rIngGrpStat g) 4 4 n).setFld (rIngGrpCfg g) 8 6 ((s.grpStr g).getD 0)

/-- A used partition that holds nothing is IDLE at its base; a write pointer outside its partition starts at the base
(R259, R280). -/
def State.loadPart (s : State) (p : Nat) : State :=
  if !s.bit (rIngPartCfg p) 31 then s.setFld (rIngPartStat p) 28 4 0
  else
    let b := s.fld (rIngPartBase p) 0 28
    let w := s.fld (rIngPartWptr p) 0 28
    let s1 := if s.fld (rIngPartStat p) 28 4 = 0 then s.setFld (rIngPartStat p) 28 4 1 else s
    if b ≤ w ∧ w ≤ b + s.fld (rIngPartSize p) 0 28 then s1 else s1.setFld (rIngPartWptr p) 0 28 b

/-- Registers that show or follow the structure, after the units `us` have been loaded. The slot masks start from the image
where unit 8 of ING is among them; a stream with an open segment is split anew only at its boundary point (R284). -/
def State.settleImage (s : State) (us : List (Nat × Nat)) : State :=
  let s1 := if us.contains (3, 8) then s.forEach [0, 1] State.loadMask else s
  let s2 := if us.contains (3, 9) then s1.forEach (List.range 32) State.loadPart else s1
  let s3 := s2.forEach (List.range 4) (fun t n => if t.portState n = 0 then t.lnkConfig n else t)
  let s4 := s3.forEach (List.range 4) State.setSteps
  let s5 := (s4.forEach (List.range 64) (fun t i => if t.capturing i then t else t.resplit i)).syncLeads
  let s6 := s5.forEach (List.range 4) (fun t n => (t.syncPooled n).syncPort n)
  let s7 := s6.forEach (List.range 64) State.syncStr
  s7.forEach [0, 1] State.syncUp

/-! ### State of a unit -/

/-- The rows of a table whose key does not satisfy `p`. -/
def Map.without {α : Type} (m : Map α) (p : Nat → Bool) : Map α := m.filter (fun x => !p x.1)

/-- A sensor port loses its training and its control channel (R148); it trains again when the load is over. -/
def State.lnkClear (s : State) (n : Nat) : State :=
  let s1 := s.portStop n
  { s1 with lnk := { s1.lnk with ports := s1.lnk.ports.without (· == n) } }

/-- A compare table is cleared, its actions withdrawn. -/
def State.tblClear (s : State) (t : Nat) : State :=
  let s1 := s.withdraw t
  { s1 with sch := { s1.sch with tbl := s1.sch.tbl.without (fun k => k / 4096 == t), lin := s1.sch.lin.without (· == t) } }

/-- The tables of unit `u` of the clusters that serve stream `i` start from their reset contents (R303): the banks of the
core, the records of the Tally, the buffers of the scaler. -/
def State.pixClear (s : State) (i u : Nat) : State :=
  let p := s.pixStr i
  match u with
  | 1 => s.setPixStr i { p with bank0 := [], bank1 := [] }
  | 2 =>
    let s1 := s.fenceTally i
    s1.setPixStr i { s1.pixStr i with prev := PixStr.init.prev, cond := PixStr.init.cond }
  | _ => s.setPixStr i { p with held := [], seqs := [], nextBuf := 0, every := 0 }

/-- A cluster that serves a stream with others gives up only its own share: the others keep tables and products. -/
def State.pixUnit (s : State) (c u : Nat) (gone : Nat → Bool) : State :=
  if !s.bit (rPixCfg c) 31 then s
  else
    let i := s.fld (rPixCfg c) 24 6
    if (s.servers i).all gone then s.pixClear i u else s

/-- The state of a unit that a CLUSTER reset returns to its reset values (R128), beside its registers. -/
def State.resetState (s : State) (c u : Nat) : State :=
  match c with
  | 1 =>
    if u = 1 then
      { s with mem := { s.mem with purse := [0, 0, 0, 0], owe := [0, 0, 0, 0], scrub := [], scrubT := s.now, ceMs := 0 } }
    else
      let n := u - 16
      { s with mem := { s.mem with q := s.mem.q.filter (fun b => b.sc != n), dq := s.mem.dq.without (· == n),
                                   scrub := s.mem.scrub.without (· == n) } }
  | 2 => if u < 16 then s.lnkClear (u - 1) else s.lnkClear ((u - 16) / 8)
  | 3 =>
    match u with
    | 6 => { s with ing := { s.ing with cal := [] } }
    | 8 => { s with ing := { s.ing with frames := [], rot := [[], []], unsol := 0#64, fresh := [] } }
    | 9 => { s with ing := { s.ing with serial := 0, parts := [], fresh := [] } }
    | 10 => s
    | n => { s with ing := { s.ing with buf := s.ing.buf.filter (fun b => b.port + 1 != n) } }
  | 4 =>
    if u = 1 then s.forEach (List.range 8) (fun t k => t.withdraw k)
    else if u < 10 then s.tblClear (u - 2)
    else if u < 14 then (s.withdrawAxis (u - 9)).setAxis (u - 10) Axis.init
    else if u = 14 then (s.withdrawAxis 5).setA5 ⟨0, [], none⟩
    else if u = 15 then { s.withdrawAxis 6 with sch := { (s.withdrawAxis 6).sch with a6t := 0 } }
    else if u < 20 then s.setSchHead (u - 16) SchHead.init
    else if u = 20 then { s with sch := { s.sch with strs := [] } }
    else s.fenceSo
  | 5 => s.pixUnit 0 u (fun k => k == 0)
  | 6 => s.pixUnit 1 u (fun k => k == 1)
  | 7 => s.pixUnit 2 u (fun k => k == 2)
  | 8 => s.pixUnit 3 u (fun k => k == 3)
  | 9 => if u = 3 then s else s.corReset
  | 10 =>
    if u = 1 then [0, 1].foldl (fun t d => t.decStop d) (s.encFence (List.range 8))
    else if u < 10 then (s.encFence [u - 2]).setEnc (u - 2) VEnc.init
    else if u < 12 then (s.decStop (u - 10)).setDec (u - 10) VDec.init
    else s.forEach (List.range 8) (fun t k => t.setEnc k { t.enc k with pkts := [] })
  | 11 => if u = 1 then s.cmpAbort (List.range 8) else s.cmpAbort [u - 2]
  | 13 =>
    if u = 1 then
      let s1 := (s.withdrawAxis 0).mintJump ⟨0, 0, 0⟩
      s1.setNet { s1.net with ppsIn := none, ppsGone := false, ppsOut := false, ppsSec := 0, inc := true }
    else s.setNport (u - 2) { s.nport (u - 2) with dropMs := 0, ptpUs := 0, dataUs := 0 }
  | 14 =>
    if u < 4 then (s.dhVideoOff (u - 1)).dhFence [u - 1] else s.aesFence [u]
  | 15 =>
    if u = 1 then s.setCh ⟨[], [], [], [], 0#32, 0#32⟩
    else if u = 4 then { s with th := ⟨[], [false, false], [false, false], [0, 0]⟩ }
    else s
  | _ => s

/-! ### The units that an activation replaces (R109) -/

/-- The value that a plane's device frame gives a register of device control. -/
def Plane.devWord (p : Plane) (o : Nat) : Option Word :=
  ((p.dev.flatMap (fun it => it.words 0)).find? (fun x => x.1 == o)).map (·.2)

/-- Units that the differences of the device frames name: those of a head whose DEV_HEADn differs. -/
def namedUnits (p q : Plane) : List (Nat × Nat) :=
  (List.range 4).flatMap fun n =>
    if p.devWord (rDevHead n) = q.devWord (rDevHead n) then [] else [(2, 1 + n), (3, 1 + n), (4, 16 + n)]

/-- The replaced units: record, enable bit or naming items differ. Device control is reloaded where the device frame
differs. -/
def replacedUnits (p q : Plane) : List (Nat × Nat) :=
  let named := namedUnits p q
  allUnits.filter fun x =>
    p.unitRec x.1 x.2 != q.unitRec x.1 x.2 || (p.enable x.1).testBit x.2 != (q.enable x.1).testBit x.2 ||
      named.contains x || (x == (0, 0) && p.dev != q.dev)

/-! ### Handover (R114) -/

/-- A change that was pending on a replaced unit is discarded and counted (R33). -/
def State.discard (s : State) (n : Nat) : State :=
  s.setFld rDevVltDiscard 0 16 (min 0xFFFF (s.fld rDevVltDiscard 0 16 + n))

/-- Mint settings of the host that a swap keeps (R475): TAI_VALID, MINT_WD and both copies of the RWS registers. -/
def State.keepMint (s old : State) : State :=
  let s1 := (s.wr rMintCfg (old.rd rMintCfg)).wr rMintWd (old.rd rMintWd)
  (rwsAddrs 13 1).foldl (fun t a => (t.wr a (old.rd a)).setShd a (old.shd a)) s1

/-- A channel is changed: its slots, TARGET or TASK differ (R535). -/
def State.chanChanged (s old : State) (n : Nat) : Bool :=
  let key := fun (t : State) => (t.rd (rSvcChCfg n) &&& 0x30000FFF#32, (List.range 8).map (fun k => t.rd (rSvcChSrc n k)))
  key s != key old

/-- Events in flight on changed channels are discarded and counted; latches stay, LOOP bits and refractory windows stay on
unchanged channels. -/
def State.swapChannels (s old : State) : State :=
  let ch := (List.range 64).filter (s.chanChanged old)
  let lost := (s.ch.q.map (·.ch) ++ s.ch.tasks.flatMap (·.chans)).filter ch.contains
  let keep := (s.ch.tasks.map (fun k => { k with chans := k.chans.filter (!ch.contains ·) })).filter (!·.chans.isEmpty)
  let loop := (idxs 64 (fun n => ch.contains n)).foldl (fun (m : BitVec 64) n => m &&& ~~~ linBit n)
    ((old.rd rSvcChLoopHi) ++ (old.rd rSvcChLoopLo))
  let s1 := (s.wr rSvcChLatch (old.rd rSvcChLatch)).wr rSvcChLoopLo (loop.setWidth 32)
  let s2 := s1.wr rSvcChLoopHi ((loop >>> 32).setWidth 32)
  (s2.setCh { s2.ch with q := s2.ch.q.filter (fun x => !ch.contains x.ch), tasks := keep, last := s2.ch.last.filter (fun x => !ch.contains x.1) }).discard lost.length

/-- What makes up the context layout of the jobs (R114): first context, count and shape of each. -/
def State.corLayout (s : State) : List (Nat × Nat × Nat) := (List.range 4).map (fun j => (s.corBase j, s.corCount j, s.corShape j))

/-- COR replaced: jobs that are not IDLE go to ERROR with SWAPPED; contexts start without a seed where the layout differs. -/
def State.swapCor (s old : State) : State :=
  let s1 := s.corAbort 11
  if s1.corLayout = old.corLayout then s1
  else s1.setCor { s1.cor with ctx := s1.cor.ctx.filter (fun p => p.1 % 128 != 0x40) }

/-- A running encoder channel whose stream or format the swap changes starts anew with its next picture (R396). -/
def State.swapEnc (s old : State) (c : Nat) : State :=
  let v := s.enc c
  let host := s.bit (rVidEncCfg c) 31
  let i := s.fld (rVidEncCfg c) 24 6
  if s.encState c = 0 ∨ (v.host = host ∧ v.stream = i ∧ s.encGeom c host i = old.encGeom c v.host v.stream) then s
  else s.setEnc c { v with host := host, stream := i, redo := true }

/-- A display head that runs keeps its active values until its next frame start: the new defaults wait in the shadows. -/
def State.swapHead (s old : State) (d : Nat) : State :=
  if old.dhState d = 0 then s
  else ((dhShadows d).foldl (fun t a =>
    let m := match rowAt a with | some r => r.mask .rws | none => 0#32
    t.wr a ((t.rd a &&& ~~~ m) ||| (old.rd a &&& m))) s).setBit (rOutDhStat d) 16 true

/-- An encoder channel that runs on keeps its read pointer beside its write pointer. -/
def State.keepRing (s old : State) (c : Nat) : State :=
  if old.encState c = 0 then s else s.wr (rVidEncRdptr c) (old.rd (rVidEncRdptr c))

/-- A queue with jobs keeps its registers (R114). -/
def State.keepQueue (s old : State) : State :=
  if old.cmpQueue.isEmpty then s else [rCmpQbase, rCmpQcfg, rCmpQtail].foldl (fun t a => t.wr a (old.rd a)) s

/-- What stops at a replaced unit before its registers change. -/
def State.swapStop (s : State) (gone : List (Nat × Nat)) (c u : Nat) : State :=
  match c with
  | 1 => if u = 1 then { s with mem := { s.mem with purse := [0, 0, 0, 0] } } else s
  | 2 => if u = 0 then s else if u < 16 then s.lnkClear (u - 1) else s.lnkClear ((u - 16) / 8)
  | 3 =>
    if 1 ≤ u ∧ u < 5 then s.setOd (3 + u) false
    else if u = 6 then { s with ing := { s.ing with cal := [] } }
    else if u = 8 then { s with ing := { s.ing with rot := [[], []] } }
    else s
  | 4 =>
    if 16 ≤ u ∧ u < 20 then
      let s1 := if s.bit (rSchHdEpstat (u - 16)) 31 then s.discard 1 else s
      s1.setSchHead (u - 16) { s1.schHead (u - 16) with te := 0 }
    else if u = 21 then s.fenceSo
    else s
  | 10 => if 10 ≤ u ∧ u < 12 then (s.decStop (u - 10)).setDec (u - 10) VDec.init else s
  | 14 => if 4 ≤ u then s.aesFence [u] else s
  | 15 => if u = 4 then { s with th := ⟨[], [false, false], [false, false], [0, 0]⟩ } else s
  | _ =>
    if 5 ≤ c ∧ c < 9 ∧ u ≠ 0 then
      let k := c - 5
      let s1 := if u = 1 ∧ s.bit (rPixCfg k) 8 ∧ s.bit (rPixStat k) 0 then s.discard 1 else s
      s1.pixUnit k u (fun q => gone.contains (5 + q, u))
    else s

/-- What a replaced unit takes up after its registers have changed; `old` is the state before the swap, `gone` the replaced
units. -/
def State.swapGo (s old : State) (gone : List (Nat × Nat)) (c u : Nat) : State :=
  match c with
  | 5 => s.joinStream gone 0 u
  | 6 => s.joinStream gone 1 u
  | 7 => s.joinStream gone 2 u
  | 8 => s.joinStream gone 3 u
  | 4 =>
    if 2 ≤ u ∧ u < 10 then (if s.tblAxis (u - 2) = old.tblAxis (u - 2) then s else s.tblClear (u - 2))
    else if 10 ≤ u ∧ u < 14 then (if s.axMode (u - 10) = old.axMode (u - 10) then s else s.axRestart (u - 10))
    else s
  | 10 => if 2 ≤ u ∧ u < 10 then s.keepRing old (u - 2) else s
  | 11 => if u = 1 then s.keepQueue old else s
  | 13 => if u = 1 then s.keepMint old else s
  | 14 => if 1 ≤ u ∧ u < 4 then s.swapHead old (u - 1) else s
  | 15 =>
    if u = 1 then s.swapChannels old
    else if u = 3 then (s.setFld rSvcHpwrCtl 0 4 ((idxs 4 (fun n => s.bit rSvcHpwrCtl n && s.declared n)).foldl
      (fun m n => m + 2 ^ n) 0))
    else if u = 4 then s.syncTherm
    else s
  | _ => s

/-- Ports that lost their training at a load train again where their head's output is on. -/
def State.portsGo (s : State) : State :=
  s.forEach (List.range 4) fun t n => if t.portState n = 0 ∧ t.v12On n = true then t.portStart n else t

/-- One replaced unit at a swap: reset and image values with the state of R114; a record that R115 ignores hands over
nothing. -/
def State.swapUnit (s : State) (q : Plane) (c u : Nat) : State :=
  if q.tooOld c u then (s.resetState c u).dropRegs c u else (s.swapRegs c u).loadUnit q c u

/-- The planes swap: replaced units take reset and image values with the state of R114, every other unit runs on. -/
def State.swapPlanes (s : State) (p q : Plane) : State :=
  let gone := replacedUnits p q
  let here := gone.filter (fun x => present s.variant x.1 x.2)
  let s1 := if here.any (fun x => x.1 == 11) then s.cmpSwap else s
  let s2 := here.foldl (fun t x => t.swapStop gone x.1 x.2) s1
  let s3 := here.foldl (fun t x => t.swapUnit q x.1 x.2) s2
  let s4 : State := { s3 with plane := some q }
  let s5 := here.foldl (fun t x =>
    (if q.tooOld x.1 x.2 then t else t.swapGo s2 here x.1 x.2).formatReset q x.1 x.2) s4
  let s6 := if here.any (fun x => x.1 == 9 && x.2 != 0) then s5.swapCor s2 else s5
  let s7 := s6.forEach (List.range 8) (fun t c => t.swapEnc s2 c)
  (((s7.settleImage here).syncV12All).portsGo.syncSupAll).recheckNew s.liveAll

/-! ### CLUSTER reset (R128) -/

/-- One unit takes its reset and active-plane values; its fence is released. `us` are the units in reset with it. -/
def State.unitReset (s : State) (us : List (Nat × Nat)) (c u : Nat) : State :=
  let s2 := (s.resetState c u).dropRegs c u
  let s3 := match s2.plane with | some p => s2.loadUnit p c u | none => s2
  let s4 := s3.setFence c u false
  let s5 := match c, u with
    | 1, _ => (s4.setBit rMemStat 27 (s4.mem.od != 0)).memReady
    | 3, 9 => s4.setLive rIngSerialLo 0
    | 15, 4 => s4.syncTherm
    | 4, 20 => s4.syncCapture
    | _, _ => s4
  if 5 ≤ c ∧ c < 9 then
    let s6 := s5.joinStream us (c - 5) u
    if u = 1 then s6.markSplit (s6.fld (rPixCfg (c - 5)) 24 6) else s6
  else s5

/-- Units that a request names: ALL the units of the cluster outside the minimum service set, or one (R128). -/
def State.rstUnits (s : State) (c : Nat) (v : Word) : List Nat :=
  if v.getLsbD 7 then idxs 64 (fun u => present s.variant c u && !inMss c u) else [fget v 0 6]

/-- Why a CLUSTER reset is refused. -/
def State.rstRefused (s : State) (c : Nat) (v : Word) : Bool :=
  let us := s.rstUnits c v
  let used := s.captureStrs.flatMap s.strUnits
  fget v 16 16 != 0xA5C3 || c == 12 || us.any (fun u => inMss c u || (used.contains (c, u) && !s.fenced c u))

/-- CLUSTER_RESET: a write of xxx_CL_RST. The named units reset; what this gives is reached within 100 µs. -/
def State.clusterReset (s : State) (c : Nat) (v : Word) : State :=
  if !s.reaches c || !clusterPresent s.variant c || c == 0 || s.fenced c 0 then s
  else if s.rstRefused c v then s.violation (unitBase c 0 + 0x30)
  else
    let us := (s.rstUnits c v).filter (present s.variant c)
    { s with pwr := { s.pwr with rst := (s.pwr.rst ++ us.map (fun u => (c, u))).eraseDups } }

/-- CLUSTER_RESET_COMPLETE: the units of cluster `c` that are in reset have taken their values. -/
def State.clusterResetDone (s : State) (c : Nat) : State :=
  let us := s.pwr.rst.filter (fun x => x.1 == c)
  if us.isEmpty then s
  else
    let s1 : State := { s with pwr := { s.pwr with rst := s.pwr.rst.filter (fun x => x.1 != c) } }
    let s2 := us.foldl (fun t x => t.unitReset us x.1 x.2) s1
    ((((s2.settleImage us).syncV12All).portsGo.syncSupAll).recheckNew s.liveAll).follow

/-- CLUSTER_RESET. -/
def execClusterReset (cl : Fin 16) (v : Word) (s : State) : Host.Outcome State Fault Refusal := .next (s.clusterReset cl v)

/-- CLUSTER_RESET_COMPLETE. -/
def execClusterResetComplete (cl : Fin 16) (s : State) : Host.Outcome State Fault Refusal := .next (s.clusterResetDone cl)

end Sys2Proof.Machine
end

