-- ==== Sys2Proof/Machine/Vault.lean ====
section
/-! DEFINITION. The Vault (04): its commands, loads into the Escrow plane, activations and the swap point, officer
services, signing, the error state; and the arming of streams and the closing of segments, which an activation watches. -/

namespace Sys2Proof.Machine

open Sys2Proof

/-- RESULT codes (R120). -/
def resOk : Nat := 0
def resBusy : Nat := 1
def resNoEscrow : Nat := 2
def resLoadFailed : Nat := 3
def resTimeout : Nat := 4
def resCancelled : Nat := 5
def resDropped : Nat := 6
def resAuth : Nat := 7
def resFloor : Nat := 8
def resZeroized : Nat := 9
def resPfw : Nat := 10
def resBadSlot : Nat := 11

/-- Put the Vault. -/
def State.setVlt (s : State) (v : Vault) : State := { s with vlt := v }

/-- RESULT of the last command. -/
def State.setRes (s : State) (r : Nat) : State := s.setFld rDevVltStat 16 8 r

/-- DEV_CFG_STAT.LOADING. -/
def State.loading (s : State) : Bool := s.bit rDevCfgStat 1
def State.setLoading (s : State) (b : Bool) : State := s.setBit rDevCfgStat 1 b

/-- Twelve digest registers from address `a` (R90). -/
def State.setDigest (s : State) (a : Nat → Nat) (d : List Byte) : State :=
  (List.range 12).foldl (fun t k => t.wr (a k) (BitVec.ofNat 32 (leAt d (4 * k) 4))) s

/-- The Escrow plane with its digest registers and ESCROW_VALID (R90, R120). -/
def State.setEscrow (s : State) (p : Option Plane) : State :=
  (({ s with escrow := p } : State).setDigest rDevVltEscDigest (match p with | some q => q.digest | none => [])).setBit
    rDevCfgStat 2 p.isSome

/-- STATE when nothing runs: ESCROW_VALID while an image waits, else READY; a running self-test shows SELFTEST. Only a reset
leaves the ERROR state (R100). -/
def State.vltRest (s : State) : State :=
  if s.vltState = 6 then s else s.setVltState (if s.vlt.testing then 0 else if s.escrow.isSome then 3 else 1)

/-- The Vault takes commands: powered, and not in its ERROR state (R100). -/
def State.vltUp (s : State) : Bool := s.reaches 0 && s.vltState != 6

/-- A Firmware Commit with CA 0b011 that waits for the activation completes (R459). -/
def State.endCommit (s : State) (status dw0 : Nat) : State :=
  match s.vlt.commitCid with
  | some cid => (s.setVlt { s.vlt with commitCid := none }).finish 0 cid status dw0
  | none => s

/-- It completes with Firmware Activation Prohibited and DEV_VLT_STAT. -/
def State.prohibitCommit (s : State) : State := s.endCommit stFwProhibited (s.rd rDevVltStat).toNat

/-- The activation no longer seeks a swap point; the taps are released (R112, R113). -/
def State.disarm (s : State) : State := s.setVlt { s.vlt with search := false, held := 0, recheck := false }

/-- A load fails (R91, R108): DEV_CFG_ERR, LOAD_ERROR, and FLASH_ERROR where the flash returned an error. -/
def State.loadFailed (s : State) (err : Word) : State :=
  let s1 := if fget err 24 8 = eFlash then (s.wr rDevCfgErr err).raise 0x002 0 else s
  (s1.loadError err).setRes resLoadFailed

/-! ### The swap (R112, R114) -/

/-- Header values of the running image (R90). -/
def State.showImage (s : State) (p : Plane) : State :=
  (((s.setDigest rDevImgDigest p.digest).setFld rDevCfgStat 24 8 p.secVersion).setBit rDevCfgStat 4 false).setBit rDevCfgStat 0 true

/-- Namespaces whose attributes the swap has changed are noticed (R457, R461). -/
def State.noticeNs (s : State) (old : List (Nat × Nat)) : State :=
  if s.nsMarks == old then s else s.aerNs

/-- The planes swap, state is handed over, steps 3 and 4 of R33 run on the held streams, the taps are released; the slot of
the new image is selected for the next start (R108, R112, R114). -/
def State.swap (s : State) : State :=
  match s.escrow, s.plane with
  | some q, some p =>
    let s1 := if s.vlt.commitCid.isSome then s.aerFw else s
    let s2 := (s1.setVltState 5).pauseTeller.settleCmds
    let marks := s2.nsMarks
    let held := idxs 64 s2.vlt.held.getLsbD
    let slot := s2.inactive
    let s3 := (s2.swapPlanes p q).setEscrow none
    let s4 := s3.forEach held (fun t i => ((t.lutSwap i).resplit i).capNow i)
    let s5 := ((s4.disarm).showImage q).selectSlot slot
    let s6 := ((s5.setFld rDevVltStat 0 1 slot).setFld rDevVltStat 24 4 (min 15 s5.vlt.tries)).setRes resOk
    let s7 := (s6.vltRest).raise 0x008 1
    (((s7.noticeNs marks).resumeTeller).endCommit stOk 0).follow
  | _, _ => s

/-- The swap point has arrived (R111, R112): after a fence the checks run again, and their failure cancels the swap. -/
def State.swapPoint (s : State) : State :=
  match s.escrow with
  | none => s
  | some q =>
    if !s.vlt.recheck then s.swap
    else match s.checkActivate q with
      | .ok () => s.swap
      | .error e =>
        ((((s.disarm).vltRest).loadFailed e).resumeTeller).endCommit stFwImage e.toNat |>.follow

/-- An armed activation looks at a stream that has left the set of armed streams (R112 step 3). -/
def State.swapLook (s : State) : State :=
  if s.vltState != 4 then s
  else if s.captureStrs.isEmpty then s.swapPoint
  else if s.vlt.search && s.allHeld then (s.setVltState 5).pauseTeller
  else s

/-- ACTIVATE after the rows of R111: the checks, then the swap at once or an armed activation (R112). -/
def State.activateNow (s : State) : State :=
  match s.escrow with
  | none => s
  | some q =>
    match s.checkActivate q with
    | .error e => (s.loadFailed e).endCommit stFwImage e.toNat
    | .ok () =>
      let s1 := (s.disarm).setVlt { s.disarm.vlt with tries := 0 }
      if s.capture then s1.setVltState 4 else s1.swap

/-- SWAP_POINT (R112). -/
def execSwapPoint (s : State) : Host.Outcome State Fault Refusal := .next (if s.vltState = 5 then s.swapPoint else s)

/-- HOLD_TIMEOUT (R113): HOLD_MAX has passed since the first hold of the attempt. -/
def execHoldTimeout (s : State) : Host.Outcome State Fault Refusal :=
  .next (if s.vltState = 4 ∧ s.vlt.held ≠ 0 then s.failAttempt else s)

/-! ### Commands (R108, R111) -/

/-- NOP (R120). -/
def execNop (s : State) : Host.Outcome State Fault Refusal := .next s

/-- A load begins: a waiting Escrow is discarded (R111). -/
def State.beginLoad (s : State) (k : Nat) : State :=
  ((s.setEscrow none).setVlt { s.vlt with load := k }).setVltState 2 |>.setLoading true

/-- The Vault is loading, testing, armed or swapping. -/
def State.vltBusy (s : State) : Bool := s.loading || s.vlt.testing || s.vltState == 0 || s.vltState == 4 || s.vltState == 5

/-- A load or activation that is requested while LOADING is 1 is a failure of R91: code 0x31 and LOAD_ERROR. -/
def State.busyLoad (s : State) : State := if s.loading then s.loadError (errDev eBusy 0) else s

/-- BUSY (R111). -/
def State.busy (s : State) : State := s.busyLoad.setRes resBusy

/-- LOAD_ESCROW (R108, R111): BAD_SLOT comes first. In boundary-scan mode the Vault loads no image (R62). -/
def State.loadEscrow (s : State) (arg : Nat) : State :=
  if !s.vltUp || s.pwr.phase == .bscan then s
  else if 1 < arg ∨ arg = s.activeSlot then s.setRes resBadSlot
  else if s.vltBusy then s.busy
  else s.beginLoad 1

/-- LOAD_ESCROW. -/
def execLoadEscrow (arg : BitVec 24) (s : State) : Host.Outcome State Fault Refusal := .next (s.loadEscrow arg.toNat)

/-- The load and verification of the inactive slot: steps 1 to 8, a delta expanded for a Firmware Commit; then steps 9
to 13. -/
def State.loadPlane (s : State) : State × Except Word Plane :=
  let r := if s.vlt.load = 2 then s.verifySlot else (s, s.checkImage (s.slotBytes s.inactive))
  match r.2 with
  | .error e => (r.1, .error e)
  | .ok p =>
    match r.1.checkPlane p with
    | .error e => (r.1, .error e)
    | .ok () => (r.1, .ok p)

/-- ESCROW_READY (R108): the load has read the slot; `readOk` says that the flash returned no error. -/
def State.escrowReady (s : State) (readOk : Bool) : State :=
  if s.vlt.load = 0 ∨ s.vltState ≠ 2 then s
  else
    let r := if readOk then s.loadPlane else (s, .error (errDev eFlash 0))
    let s1 := (r.1.setVlt { r.1.vlt with load := 0 }).setLoading false
    match r.2 with
    | .error e => ((s1.vltRest).loadFailed e).endCommit stFwImage e.toNat
    | .ok p =>
      let s3 := ((((s1.setFr s1.inactive (frString p)).setEscrow (some p)).vltRest).setRes resOk).raise 0x006 1
      if s.vlt.load = 2 then s3.activateNow else s3

/-- ESCROW_READY. -/
def execEscrowReady (readOk : Bool) (s : State) : Host.Outcome State Fault Refusal := .next (s.escrowReady readOk)

/-- ACTIVATE (R111, R112). -/
def State.activate (s : State) : State :=
  if !s.vltUp then s
  else if s.vltBusy then s.busy
  else if s.escrow.isNone then s.setRes resNoEscrow
  else s.activateNow

/-- ACTIVATE. -/
def execActivate (s : State) : Host.Outcome State Fault Refusal := .next s.activate

/-- CANCEL (R111). -/
def State.cancel (s : State) : State :=
  if !s.vltUp then s
  else if s.vltState = 5 ∨ s.vlt.verify ≠ 0 then s.setRes resBusy
  else
    let s1 := s.setRes resCancelled
    if s1.vltState = 4 then (((s1.disarm).setEscrow none).vltRest).prohibitCommit
    else if s1.vlt.load ≠ 0 then
      ((((s1.setVlt { s1.vlt with load := 0 }).setEscrow none).setLoading false).vltRest).prohibitCommit
    else if s1.escrow.isSome then (s1.setEscrow none).vltRest
    else s1

/-- CANCEL. -/
def execCancel (s : State) : Host.Outcome State Fault Refusal := .next s.cancel

/-- A write that changes the structure discards a waiting Escrow (R89, R111). -/
def State.dropEscrow (s : State) : State :=
  if s.escrow.isSome && s.vltState != 4 && s.vltState != 5 then ((s.setEscrow none).setRes resDropped).vltRest else s

/-- SELFTEST (R98, R111). -/
def State.selftest (s : State) : State :=
  if !s.vltUp then s
  else if s.vltBusy then s.setRes resBusy
  else (s.setVlt { s.vlt with testing := true }).setVltState 0

/-- SELFTEST. -/
def execSelftest (s : State) : Host.Outcome State Fault Refusal := .next s.selftest

/-- VAULT_ERROR (R100): the ERROR state performs no service. -/
def State.vaultError (s : State) : State :=
  let s0 := if s.vltState = 5 then s.resumeTeller else s
  let s1 := ((s0.disarm).setVlt { s0.disarm.vlt with testing := false, load := 0, verify := 0 }).setLoading false
  ((s1.setVltState 6).setFld rDevVltStat 1 1 0).raise 0x00A 1

/-- VAULT_ERROR: a health test or the consistency test of a signature fails. -/
def execVaultError (s : State) : Host.Outcome State Fault Refusal :=
  .next (if s.powered && s.vltState != 6 then s.vaultError else s)

/-- SELFTEST_DONE (R98): a repeated self-test has passed or failed. -/
def execSelftestDone (pass : Bool) (s : State) : Host.Outcome State Fault Refusal :=
  .next (if !s.vlt.testing then s
    else
      let s1 := ((s.setVlt { s.vlt with testing := false }).setRes resOk).vltRest.raise 0x003 1
      if pass then s1 else s1.vaultError)

/-! ### Officer services (R96, R102, R118, R119) -/

/-- The nonce in force as 16 bytes, byte 0 in bits [7:0] of DEV_VLT_NONCE0. -/
def State.nonceBytes (s : State) : List Byte := leBytes 16 (Config.nonce s.vlt.nonce).toNat

/-- The delivered record permits an operation with an operand (R118). -/
def State.authOk (s : State) (op arg : Nat) : Bool :=
  match s.vlt.auth with
  | none => false
  | some b =>
    b.length == 128 && leAt b 0 1 == op && decide (leAt b 1 1 < 4) && leAt b 2 2 == 0 && leAt b 4 4 == arg &&
      slice b 8 16 == s.nonceBytes && leAt b 0x18 8 == Config.moduleId.toNat &&
      s.vkVerify (leAt b 1 1) (sha384 (b.take 0x20)) (slice b 0x20 48) (slice b 0x50 48)

/-- The record is used up and the nonce renewed, whether the command succeeded or failed. -/
def State.renewNonce (s : State) : State := s.setVlt { s.vlt with auth := none, nonce := s.vlt.nonce + 1 }

/-- An officer command: without a valid record it ends with AUTH_REQUIRED. -/
def State.officer (s : State) (op arg : Nat) (f : State → State) : State :=
  if !s.vltUp then s
  else (if s.authOk op arg then f s else s.setRes resAuth).renewNonce

/-- FLOOR_ADVANCE (R102): one fuse for each step up to the running SEC_VERSION. -/
def State.floorAdvance (s : State) : State :=
  let n := min 255 (match s.plane with | some p => p.secVersion | none => 0)
  if n ≤ s.otp.floor then s.setRes resFloor
  else ({ s with otp := { s.otp with floor := n } } : State).setRes resOk

/-- FLOOR_ADVANCE. -/
def execFloorAdvance (arg : BitVec 24) (s : State) : Host.Outcome State Fault Refusal :=
  .next (s.officer 0x10 arg.toNat State.floorAdvance)

/-- REVOKE (R96): the slot's revocation bit is burnt; an operand that names no slot is not permitted by any record. -/
def State.revoke (s : State) (slot : Nat) : State :=
  if 3 < slot then s.setRes resAuth
  else ({ s with otp := { s.otp with revoked := s.otp.revoked ||| BitVec.ofNat 4 (2 ^ slot) } } : State).setRes resOk

/-- REVOKE. -/
def execRevoke (arg : BitVec 24) (s : State) : Host.Outcome State Fault Refusal :=
  .next (s.officer 0x11 arg.toNat (fun t => t.revoke arg.toNat))

/-- ZEROIZE (R119): the DRBG state, Escrow and buffers are overwritten, IEK and AK disabled; records in the queue stay
unsigned. -/
def State.zeroize (s : State) : State :=
  if s.otp.zeroized then s.setRes resZeroized
  else
    let s1 := ({ s with otp := { s.otp with zeroized := true } } : State).setFld rDevVltStat 3 1 1
    let s2 := if s1.vltState = 4 ∨ s1.vltState = 5 then (s1.disarm).resumeTeller else s1
    let s3 := (s2.setVlt { s2.vlt with drbg := s2.vlt.drbg + 1, load := 0 }).setEscrow none
    let s4 := if s3.vlt.verify = 0 ∧ s3.released = true then s3.setLoading false else s3
    let s5 := if s4.vlt.verify = 0 ∧ s4.released = true then s4.vltRest else s4
    ((s5.setRes resOk).markPending).prohibitCommit

/-- ZEROIZE. -/
def execZeroize (arg : BitVec 24) (s : State) : Host.Outcome State Fault Refusal :=
  .next (s.officer 0x12 arg.toNat State.zeroize)

/-! ### Signing (R116) -/

/-- SIGNATURE_COMPLETE: the oldest digest is signed, the Vault verifies the signature under AK before it releases it (R99),
and ING writes r and s into the record; signing waits while the self-tests run. -/
def State.signNext (s : State) : State :=
  match s.vlt.sigq with
  | [] => s
  | r :: l =>
    if s.vlt.testing || s.vltState == 6 || s.vltState == 0 || s.otp.zeroized then s
    else if !pairwise r.digest (akSign r.digest s.vlt.drbg) then s.vaultError
    else
      let s1 := s.signRecord r s.vlt.drbg
      (s1.setVlt { s1.vlt with sigq := l, drbg := s1.vlt.drbg + 1 }).syncSigq

/-- SIGNATURE_COMPLETE. -/
def execSignatureComplete (s : State) : Host.Outcome State Fault Refusal := .next s.signNext

/-! ### Arming and closing (R89, R127, R219, R262) -/

/-- ARM: a write of SCH_STRi_CMD.ARM. A stream that is not IDLE follows R88; a structure that fails its checks refuses. -/
def State.arm (s : State) (i : Nat) : State :=
  if !s.reaches 4 || !s.unitLive 4 20 then s
  else if s.winState i != 0 then s.violation (rSchStrCmd i)
  else
    match s.checkArm with
    | .error e => s.loadError e
    | .ok () => if (s.armStr i).winState i = 0 then s.armStr i else (s.armStr i).encArm i

/-- ARM. -/
def execArm (stream : Fin 64) (s : State) : Host.Outcome State Fault Refusal := .next (s.arm stream)

/-- SEGMENT_CLOSE; changes that wait on the path of a stream that is no longer armed take effect (R32), and an armed
activation looks at the streams that are left. -/
def execSegmentClose (part : Fin 32) (s : State) : Host.Outcome State Fault Refusal :=
  let r := s.segmentClose part
  let i := s.fld (rIngPartCfg part) 16 6
  .next (if r.2 then (if r.1.winState i = 0 then (r.1.commitStream i).lutSwap i else r.1).swapLook else r.1)

end Sys2Proof.Machine
end

