-- ==== Sys2Proof/Machine/Admin.lean ====
section
/-! DEFINITION. The NVMe controller (16): admin commands, enable, reset, shutdown and power states. An admin command row
names the command identifier of a fetched command of that opcode; without one, or where its fields name another row, the
state stays (log entry 6). -/

namespace Sys2Proof.Machine

open Sys2Proof

/-- An outstanding admin command of an opcode that acts now, with a check of its fields. -/
def State.admin (s : State) (op : Nat) (cid : BitVec 16) (ok : NCmd → Bool) (f : State → NCmd → State) : State :=
  match s.ncmd 0 cid with
  | some c => if c.op == op && c.st == 0 && ok c && s.ctlRdy && s.hostUp then f s c else s
  | none => s

/-- `len` bytes that a command brings, short data filled with zeros. -/
def NCmd.bring (c : NCmd) (len : Nat) : List Byte := (c.data ++ List.replicate len 0#8).take len

/-- Data for the host and success. -/
def State.answer (s : State) (cid : BitVec 16) (d : List Byte) : State := (s.toHost 0 cid d).completeOk 0 cid

/-! ### Firmware (R104, R459) -/

/-- The Vault uses the flash: a verification or a load (R92). -/
def State.flashUsed (s : State) : Bool := s.loading || s.vlt.load != 0 || s.vlt.verify != 0

/-- Firmware Image Download: byte offset CDW11, length CDW10 + 1, both in doublewords. -/
def State.download (s : State) (c : NCmd) : State :=
  let len := (c.dw 10 + 1) * 4
  let ofs := c.dw 11 * 4
  let n := s.inactive
  let first := s.hst.cmds.find? (fun d => d.q == 0 && d.op == 0x11 && d.st == 0)
  if s.flashUsed || first.any (fun d => d.cid != c.cid) then s
  else if slotSize < ofs + len ∨ 2 ^ 20 < len then s.finish 0 c.cid stField 0
  else if ofs ≠ 0 ∧ s.hst.dl.any (fun p => decide (p.1 < ofs + len) && decide (ofs < p.1 + p.2)) = true then
    s.finish 0 c.cid stOverlap 0
  else
    let s1 := if ofs = 0 then s.eraseSlot n else s
    let s2 : State := { s1 with flash := putBytes s1.flash (slotBase n + ofs) (c.bring len) }
    let dl := if ofs = 0 then [(0, len)] else s.hst.dl ++ [(ofs, len)]
    ((s2.setHst { s2.hst with dl := dl }).setFr n []).completeOk 0 c.cid

/-- FIRMWARE_IMAGE_DOWNLOAD (R459). -/
def execFirmwareImageDownload (cid : BitVec 16) (s : State) : Host.Outcome State Fault Refusal :=
  .next (s.admin 0x11 cid (fun _ => true) State.download)

/-- Slot and action of a Firmware Commit. -/
def NCmd.fs (c : NCmd) : Nat := c.dw 10 % 8
def NCmd.ca (c : NCmd) : Nat := c.dw 10 / 8 % 8

/-- A Firmware Commit (R459): the slot test comes first (log entry 32), then VAULT_BUSY. -/
def State.commitFw (s : State) (c : NCmd) : State :=
  let ok := if c.ca = 2 then (c.fs == 1 || c.fs == 2) && c.fs != s.activeSlot + 1 else c.fs == 0 || c.fs == s.inactive + 1
  if s.vltState = 6 then s
  else if !ok then s.finish 0 c.cid stFwSlot 0
  else if s.vltBusy then (if c.ca = 3 then s.busyLoad else s).seqError 0 c.cid 5
  else if c.ca = 2 then (s.selectSlot (c.fs - 1)).completeOk 0 c.cid
  else if c.ca = 3 then (s.setVlt { s.vlt with commitCid := some c.cid }).beginLoad 2
  else ((s.setVlt { s.vlt with verify := c.ca + 1, verifyCid := some c.cid }).setVltState 2).setLoading true
    |>.modNcmd 0 c.cid (fun d => { d with st := 3 })

/-- COMMIT_VERIFY: CA 0b000. -/
def execCommitVerify (cid : BitVec 16) (s : State) : Host.Outcome State Fault Refusal :=
  .next (s.admin 0x10 cid (fun c => c.ca == 0) State.commitFw)

/-- COMMIT_VERIFY_SELECT: CA 0b001. -/
def execCommitVerifySelect (cid : BitVec 16) (s : State) : Host.Outcome State Fault Refusal :=
  .next (s.admin 0x10 cid (fun c => c.ca == 1) State.commitFw)

/-- COMMIT_SELECT: CA 0b010. -/
def execCommitSelect (cid : BitVec 16) (s : State) : Host.Outcome State Fault Refusal :=
  .next (s.admin 0x10 cid (fun c => c.ca == 2) State.commitFw)

/-- COMMIT_ACTIVATE: CA 0b011; the command is held until the activation ends. -/
def execCommitActivate (cid : BitVec 16) (s : State) : Host.Outcome State Fault Refusal :=
  .next (s.admin 0x10 cid (fun c => c.ca == 3) fun t c =>
    let u := t.commitFw c
    if u.vlt.commitCid = some cid then u.modNcmd 0 cid (fun d => { d with st := 3 }) else u)

/-- The Commit that verifies ends with a status. -/
def State.endVerify (s : State) (status dw0 : Nat) : State :=
  let s1 := ((s.setVlt { s.vlt with verify := 0, verifyCid := none }).setLoading false).vltRest
  match s.vlt.verifyCid with
  | some cid => s1.finish 0 cid status dw0
  | none => s1

/-- FIRMWARE_VERIFY_COMPLETE (R104): the verification has read the inactive slot; CA 0b001 selects it. -/
def State.verifyDone (s : State) (readOk : Bool) : State :=
  if s.vlt.verify = 0 then s
  else
    let n := s.inactive
    let r := if readOk then s.verifySlot else (s, .error (errDev eFlash 0))
    match r.2 with
    | .error e => ((r.1.loadFailed e).setFr n []).endVerify stFwImage e.toNat
    | .ok p =>
      let s1 := (r.1.setFr n (frString p)).setRes resOk
      (if s.vlt.verify = 2 then s1.selectSlot n else s1).endVerify stOk 0

/-- FIRMWARE_VERIFY_COMPLETE. -/
def execFirmwareVerifyComplete (readOk : Bool) (s : State) : Host.Outcome State Fault Refusal := .next (s.verifyDone readOk)

/-! ### Vendor commands (R460) -/

/-- OFFICER_AUTH: a later record replaces an earlier one. -/
def execOfficerAuth (cid : BitVec 16) (s : State) : Host.Outcome State Fault Refusal :=
  .next (s.admin 0xC1 cid (fun _ => true) fun t c =>
    (t.setVlt { t.vlt with auth := some (c.bring 128) }).completeOk 0 cid)

/-- READ_KEY: an absent or revoked slot returns zeros. -/
def execReadKey (cid : BitVec 16) (s : State) : Host.Outcome State Fault Refusal :=
  .next (s.admin 0xC2 cid (fun _ => true) fun t c =>
    let n := c.dw 10 % 4
    t.answer cid (if t.vkOk n then t.vkBytes n else List.replicate 96 0#8))

/-- READ_AK_CERT: up to 4,096 bytes. -/
def execReadAkCert (cid : BitVec 16) (s : State) : Host.Outcome State Fault Refusal :=
  .next (s.admin 0xC6 cid (fun _ => true) fun t c =>
    if 4096 < c.dw 10 then t.finish 0 cid stField 0
    else t.answer cid ((List.range (c.dw 10)).map (fun i => if i < Config.akCertLen then Config.akCert i else 0#8)))

/-- NS_MAP: 16 entries of 16 bytes. -/
def State.nsMapBytes (s : State) : List Byte :=
  (List.range 16).flatMap fun r =>
    let cls := if r = s.ledgerRgn then 4 else if r = s.fld rIngAnnex 0 4 then 5 else s.rgnClass r
    leBytes 1 cls ++ leBytes 1 (s.rgnEn r).toNat ++ leBytes 2 0 ++ leBytes 4 (s.rgnAddr r / 2 ^ 20) ++ leBytes 4 (s.rgnSize r) ++
      leBytes 4 0

/-- NS_MAP. -/
def execNsMap (cid : BitVec 16) (s : State) : Host.Outcome State Fault Refusal :=
  .next (s.admin 0xCE cid (fun _ => true) fun t _ => t.answer cid t.nsMapBytes)

/-! ### Power states (R462 to R464) -/

/-- A partition holds a segment that is not released. -/
def State.segHeld (s : State) : Bool := s.parts.any (fun p => (s.part p).seg.isSome || !(s.part p).closed.isEmpty)

/-- A Set Features command of a feature identifier. -/
def NCmd.fid (n : Nat) (c : NCmd) : Bool := c.dw 10 % 256 == n

/-- SET_POWER_STATE (R463): the entry starts when the command completes. -/
def State.setPower (s : State) (c : NCmd) : State :=
  let n := c.dw 11 % 32
  if 4 < n then s.finish 0 c.cid stField 0
  else if 2 ≤ n ∧ s.capture = true then s.seqError 0 c.cid 6
  else if n = 4 ∧ s.segHeld = true then s.seqError 0 c.cid 7
  else
    let s1 := s.completeOk 0 c.cid
    (s1.setHst { s1.hst with auto := false }).toPs n

/-- SET_POWER_STATE: FID 0x02. -/
def execSetPowerState (cid : BitVec 16) (s : State) : Host.Outcome State Fault Refusal :=
  .next (s.admin 0x09 cid (NCmd.fid 2) State.setPower)

/-- Entry to and exit from PS1: STEP_PWR reads 0b11 in the state, and the input rules go on with a value of their own
(R30). -/
def State.stepPs (s : State) (p n : Nat) : State :=
  if n = 1 then
    let s1 : State := { s with pwr := { s.pwr with stepOwn := s.fld rDevClk 6 2 } }
    s1.setFld rDevClk 6 2 3
  else if p = 1 then s.setFld rDevClk 6 2 s.pwr.stepOwn
  else s

/-- DRAM is unpowered in PS4. -/
def State.dramOff (s : State) : State :=
  let s1 := (s.memLost).forEach s.scs (fun t n => if t.fld (rMemScStat n) 28 4 = 4 then t else t.setFld (rMemScStat n) 28 4 0)
  (s1.setFld rMemStat 28 4 0).memReady

/-- PS_CHANGE (R462): an entry or exit completes once the memory is in the state it asks for. -/
def State.psChange (s : State) : State :=
  let p := s.fld rHstPwr 0 3
  let n := s.fld rHstPwr 4 3
  if n = p ∨ (n = 3 ∧ s.memState ≠ 4) ∨ (n ≤ 2 ∧ 3 ≤ p ∧ s.memState ≠ 2) then s
  else
    let s1 := s.stepPs p n
    let s2 := if 2 ≤ n then s1.pxStop else s1
    let s3 := if n = 4 then s2.dramOff else s2
    let s4 := (s3.setFld rHstPwr 0 3 n).setBit rHstPwr 8 (decide (3 ≤ n) && s.hst.auto)
    let s5 := if n ≤ 2 then s4.setHst { s4.hst with opPs := n } else s4
    let s6 := (((s5.syncV12All).stepEval).raise 0x0E9 2).follow
    if (idxs 65 s6.waiting).any (· != 0) || s6.hst.cmds.any (·.q != 0) then s6.wake else s6

/-- PS_CHANGE. -/
def execPsChange (s : State) : Host.Outcome State Fault Refusal := .next s.psChange

/-- Commands that are outstanding and are no Asynchronous Event Request. -/
def State.inProgress (s : State) : List NCmd := s.hst.cmds.filter (fun c => !(c.q == 0 && c.op == 0x0C))

/-- The target and time that the APST table gives for a state: ITPS, and ITPT of 0 disables. -/
def State.apstEntry (s : State) (p : Nat) : Nat × Nat :=
  let w := leAt s.hst.apst (8 * p) 4
  (w / 8 % 32, w / 256)

/-- APST_TRANSITION (R464). -/
def State.apstMove (s : State) : State :=
  let p := s.fld rHstPwr 0 3
  let e := s.apstEntry p
  if !s.hst.apstEn || !s.inProgress.isEmpty || s.capture || s.fld rHstPwr 4 3 != p || e.2 == 0 || e.1 ≤ p || e.1 < 3 || 4 < e.1 ||
      (e.1 == 4 && s.segHeld) then s
  else (s.setHst { s.hst with auto := true }).toPs e.1

/-- APST_TRANSITION. -/
def execApstTransition (s : State) : Host.Outcome State Fault Refusal := .next s.apstMove

/-! ### Other Set Features commands -/

/-- SET_ARBITRATION: FID 0x01 (R447). -/
def execSetArbitration (cid : BitVec 16) (s : State) : Host.Outcome State Fault Refusal :=
  .next (s.admin 0x09 cid (NCmd.fid 1) fun t c =>
    (t.setHst { t.hst with arb := BitVec.ofNat 32 (c.dw 11) }).completeOk 0 cid)

/-- SET_NUMBER_OF_QUEUES: FID 0x07 reports 63 in both halves (R446). -/
def execSetNumberOfQueues (cid : BitVec 16) (s : State) : Host.Outcome State Fault Refusal :=
  .next (s.admin 0x09 cid (NCmd.fid 7) fun t _ => t.finish 0 cid stOk (63 * 2 ^ 16 + 63))

/-- SET_APST: FID 0x0C writes the table of 32 entries of 8 bytes (R464). -/
def execSetApst (cid : BitVec 16) (s : State) : Host.Outcome State Fault Refusal :=
  .next (s.admin 0x09 cid (NCmd.fid 12) fun t c =>
    (t.setHst { t.hst with apstEn := (c.dw 11).testBit 0, apst := c.bring 256 }).completeOk 0 cid)

/-- SET_ASYNC_EVENT_CONFIG: FID 0x0B (R461). -/
def execSetAsyncEventConfig (cid : BitVec 16) (s : State) : Host.Outcome State Fault Refusal :=
  .next (s.admin 0x09 cid (NCmd.fid 11) fun t c =>
    (t.setHst { t.hst with aec := BitVec.ofNat 32 (c.dw 11) }).completeOk 0 cid)

/-! ### Queues (R443, R446) -/

/-- CREATE_IO_COMPLETION_QUEUE. -/
def State.createCq (s : State) (c : NCmd) : State :=
  let id := c.dw 10 % 65536
  let n := c.dw 10 / 65536
  let iv := c.dw 11 / 65536
  if id = 0 ∨ 64 < id ∨ (s.cq id).isSome = true then s.finish 0 c.cid stQueueId 0
  else if n = 0 ∨ 4095 < n then s.finish 0 c.cid stQueueSize 0
  else if !(c.dw 11).testBit 0 then s.finish 0 c.cid stField 0
  else if 65 ≤ iv then s.finish 0 c.cid stVector 0
  else (s.setCq id (some ⟨n + 1, iv, (c.dw 11).testBit 1, 0, 0, true⟩)).completeOk 0 c.cid

/-- CREATE_IO_COMPLETION_QUEUE. -/
def execCreateIoCompletionQueue (cid : BitVec 16) (s : State) : Host.Outcome State Fault Refusal :=
  .next (s.admin 0x05 cid (fun _ => true) State.createCq)

/-- HST_TELLER.IOQ: I/O submission queues created. -/
def State.syncIoq (s : State) : State := s.setFld rHstTeller 16 7 ((idxs 65 (fun q => (s.sq q).isSome && q != 0)).length)

/-- CREATE_IO_SUBMISSION_QUEUE. -/
def State.createSq (s : State) (c : NCmd) : State :=
  let id := c.dw 10 % 65536
  let n := c.dw 10 / 65536
  let cq := c.dw 11 / 65536
  if id = 0 ∨ 64 < id ∨ (s.sq id).isSome = true ∨ cq = 0 ∨ 64 < cq then s.finish 0 c.cid stQueueId 0
  else if (s.cq cq).isNone then s.finish 0 c.cid stCqInvalid 0
  else if n = 0 ∨ 4095 < n then s.finish 0 c.cid stQueueSize 0
  else if !(c.dw 11).testBit 0 then s.finish 0 c.cid stField 0
  else ((s.setSq id (some ⟨n + 1, cq, c.dw 11 / 2 % 4, 0, 0⟩)).syncIoq).completeOk 0 c.cid

/-- CREATE_IO_SUBMISSION_QUEUE. -/
def execCreateIoSubmissionQueue (cid : BitVec 16) (s : State) : Host.Outcome State Fault Refusal :=
  .next (s.admin 0x01 cid (fun _ => true) State.createSq)

/-! ### Identify and log pages (R445, R448, R459, R552) -/

/-- A byte of a data structure: from the first field that holds it, else open. -/
def fieldByte (l : List (Nat × List Byte)) (d : Nat → Byte) (i : Nat) : Byte :=
  match l.find? (fun p => decide (p.1 ≤ i) && decide (i < p.1 + p.2.length)) with
  | some p => p.2.getD (i - p.1) 0#8
  | none => d i

/-- MN of a variant, padded with spaces to 40 bytes (R445). -/
def modelName (v : Variant) : List Byte :=
  let d := match v with | .rlm4800 => 0x38#8 | .rlm4600 => 0x36#8 | .rlm4200 => 0x32#8
  let num := [0x52#8, 0x4C#8, 0x4D#8, 0x2D#8, 0x34#8, d, 0x30#8, 0x30#8]
  let name := match v with
    | .rlm4800 => [0x53#8, 0x75#8, 0x6E#8, 0x64#8, 0x6F#8, 0x64#8, 0x20#8] ++ num
    | _ => num
  name ++ List.replicate (40 - name.length) 0x20#8

/-- FR of the running image. -/
def State.runFr (s : State) : List Byte :=
  match s.plane with | some p => frString p | none => List.replicate 8 0#8

/-- A power state descriptor: maximum power in 10 mW, non-operational, latencies in µs (R462). -/
def psd (watts : Nat) (nonOp : Bool) (enlat exlat : Nat) : List Byte :=
  leBytes 2 (watts * 100) ++ leBytes 1 0 ++ leBytes 1 (if nonOp then 2 else 0) ++ leBytes 4 enlat ++ leBytes 4 exlat

/-- The fields of Identify Controller that R445, R459 and R462 give, at their places in NVMe Base 2.0. -/
def State.identCtl (s : State) : List (Nat × List Byte) :=
  [(24, modelName s.variant), (64, s.runFr), (77, [8#8]), (80, leBytes 4 0x00020000), (111, [1#8]), (259, [7#8]),
    (260, [0x14#8]), (263, [4#8]), (265, [1#8]), (319, [1#8]), (516, leBytes 4 5), (525, [0#8]), (526, leBytes 2 0),
    (528, leBytes 2 0), (536, leBytes 4 0),
    (2048, psd 470 false 0 0), (2080, psd 180 false 1000 2000), (2112, psd 90 false 10000 20000),
    (2144, psd 25 true 50000 150000), (2176, psd 12 true 100000 2000000)]

/-- IDENTIFY_CONTROLLER: CNS 0x01. -/
def execIdentifyController (cid : BitVec 16) (s : State) : Host.Outcome State Fault Refusal :=
  .next (s.admin 0x06 cid (fun c => c.dw 10 % 256 == 1) fun t _ =>
    t.answer cid ((List.range 4096).map (fieldByte t.identCtl Config.identByte)))

/-- The fields of Identify Namespace (R448): NSZE, NCAP, NUSE, one LBA format of 4,096 bytes, no metadata, no protection. -/
def State.identNs (s : State) (n : Nat) : List (Nat × List Byte) :=
  [(0, leBytes 8 (s.nsze n)), (8, leBytes 8 (s.nsze n)), (16, leBytes 8 (s.nuse n)), (25, leBytes 1 0), (26, leBytes 1 0),
    (27, leBytes 1 0), (28, leBytes 1 0), (29, leBytes 1 0), (34, leBytes 2 0), (36, leBytes 2 0),
    (128, leBytes 2 0), (130, leBytes 1 12)]

/-- IDENTIFY_NAMESPACE: CNS 0x00; an inactive namespace 5 returns zeros. -/
def execIdentifyNamespace (cid : BitVec 16) (s : State) : Host.Outcome State Fault Refusal :=
  .next (s.admin 0x06 cid (fun c => c.dw 10 % 256 == 0) fun t c =>
    if c.ns = 0 ∨ 5 < c.ns then t.finish 0 cid stNamespace 0
    else t.answer cid ((List.range 4096).map (fun i => if t.nsActive c.ns then fieldByte (t.identNs c.ns) (Config.identNs c.ns) i
      else 0#8)))

/-- Get Log Page: NUMD + 1 doublewords from offset LPO of a page. -/
def State.getLog (s : State) (c : NCmd) (page : List Byte) : State :=
  let n := (c.dw 10 / 65536 + c.dw 11 % 65536 * 65536 + 1) * 4
  let o := c.dw 12 + c.dw 13 * 2 ^ 32
  if page.length < o then s.finish 0 c.cid stField 0
  else
    let d := (page.drop o).take n
    s.answer c.cid (d ++ (List.range (n - d.length)).map Config.logByte)

/-- GET_LOG_FAULT_LEDGER: log page 0xC0, which a read does not clear (R552). -/
def execGetLogFaultLedger (cid : BitVec 16) (s : State) : Host.Outcome State Fault Refusal :=
  .next (s.admin 0x02 cid (NCmd.fid 0xC0) fun t c => t.getLog c t.faultPage)

/-- The Firmware Slot Information page: AFI, then FR of slots 1 and 2, zeros for a slot without a verified image. -/
def State.slotPage (s : State) : List Byte :=
  let run := s.fld rDevVltStat 0 1
  let afi := run + 1 + (if s.activeSlot = run then 0 else (s.activeSlot + 1) * 16)
  let fr := fun (b : List Byte) => (b ++ List.replicate 8 0#8).take 8
  leBytes 8 afi ++ fr s.hst.fr0 ++ fr s.hst.fr1 ++ List.replicate 488 0#8

/-- GET_LOG_FIRMWARE_SLOT: log page 0x03. -/
def execGetLogFirmwareSlot (cid : BitVec 16) (s : State) : Host.Outcome State Fault Refusal :=
  .next (s.admin 0x02 cid (NCmd.fid 3) fun t c => t.getLog c t.slotPage)

/-- ASYNCHRONOUS_EVENT_REQUEST (R461): at most 8 are outstanding; an event that waits completes one at once. -/
def State.aerRequest (s : State) (c : NCmd) : State :=
  if 8 ≤ s.hst.cmds.countP (fun d => d.q == 0 && d.st == 3 && d.op == 0x0C) then s.finish 0 c.cid stAerLimit 0
  else match s.hst.aer with
    | [] => s.modNcmd 0 c.cid (fun d => { d with st := 3 })
    | e :: l => (s.setHst { s.hst with aer := l }).complete 0 c.cid stOk false (BitVec.ofNat 32 e)

/-- ASYNCHRONOUS_EVENT_REQUEST. -/
def execAsynchronousEventRequest (cid : BitVec 16) (s : State) : Host.Outcome State Fault Refusal :=
  .next (s.admin 0x0C cid (fun _ => true) State.aerRequest)

/-! ### Enable, reset and shutdown (R123, R456) -/

/-- CSTS.RDY follows CC.EN after release, or after the time of R126 when the check fails (R123). -/
def State.syncRdy (s : State) : State :=
  if s.hst.cc.getLsbD 0 && !s.ctlRdy && (s.released || s.pwr.phase == .noService) then
    let s1 := s.setHst { s.hst with csts := s.hst.csts ||| 1#32 }
    if s1.ctlCfs then s1 else s1.setTeller 1
  else s

/-- The NVMe registers answer: the unit has its frame (R123) and is not fenced. -/
def State.ctlUp (s : State) : Bool := s.pwr.hstFrame && s.unitLive 12 2

/-- CONTROLLER_ENABLE: CC.EN goes from 0 to 1 with the admin queues that AQA gives. -/
def State.ctlEnable (s : State) (cc : Word) : State :=
  if !s.ctlUp || s.hst.cc.getLsbD 0 || !cc.getLsbD 0 then s
  else
    let s1 := s.setHst { s.hst with cc := cc }
    let s2 := s1.setSq 0 (some ⟨fget s.hst.aqa 0 12 + 1, 0, 0, 0, 0⟩)
    (s2.setCq 0 (some ⟨fget s.hst.aqa 16 12 + 1, 0, true, 0, 0, true⟩)).syncRdy

/-- CONTROLLER_ENABLE. -/
def execControllerEnable (cc : Word) (s : State) : Host.Outcome State Fault Refusal := .next (s.ctlEnable cc)

/-- Every command and queue of the controller ends, and its features return to their defaults; what the Vault and the
memory do for an aborted command goes on. -/
def State.ctlClear (s : State) : State :=
  let s1 := s.setHst { s.hst with
    cc := s.hst.cc &&& ~~~ 1#32, csts := s.hst.csts &&& ~~~ 0xD#32, intm := 0#32
    sqs := [], cqs := [], cmds := [], aer := [], arb := 0#32, aec := 0#32, apstEn := false, apst := []
    auto := false, rr := [0, 0, 0, 0, 0], credit := [0, 0, 0] }
  let s2 := ((s1.setTeller (if s1.ctlCfs then 4 else 0)).syncIoq).syncTeller
  s2.setVlt { s2.vlt with commitCid := none, verifyCid := none }

/-- CONTROLLER_RESET (R456): CC.EN from 1 to 0. -/
def State.ctlReset (s : State) : State :=
  if !s.ctlUp || !s.hst.cc.getLsbD 0 then s
  else ((s.countN rHstAborted s.hst.cmds.length).ctlClear).raise 0x0E5 2

/-- CONTROLLER_RESET. -/
def execControllerReset (s : State) : Host.Outcome State Fault Refusal := .next s.ctlReset

/-- SHUTDOWN_NOTIFICATION (R456): command fetch stops. -/
def State.shutdown (s : State) (shn : Nat) : State :=
  if !s.ctlUp || !s.ctlRdy || shn == 0 || shn == 3 || s.shst != 0 then s
  else
    let s1 := s.setHst { s.hst with cc := fset s.hst.cc 14 2 shn, csts := fset s.hst.csts 2 2 1 }
    if s1.ctlCfs then s1 else s1.setTeller 3

/-- SHUTDOWN_NOTIFICATION. -/
def execShutdownNotification (shn : BitVec 2) (s : State) : Host.Outcome State Fault Refusal := .next (s.shutdown shn.toNat)

/-- SHUTDOWN_COMPLETE (R456): the commands in progress have completed. -/
def execShutdownComplete (s : State) : Host.Outcome State Fault Refusal :=
  .next (if s.shst = 1 ∧ s.inProgress = [] then s.setHst { s.hst with csts := fset s.hst.csts 2 2 2 } else s)

end Sys2Proof.Machine
end

