-- ==== Sys2Proof/Machine/Power.lean ====
section
/-! DEFINITION. Start-up, resets, loss of mains and retention (02, 05), the PCIe link (16), the power supervisor's step rules
(R30) and the thermal cutoff (R563). -/

namespace Sys2Proof.Machine

open Sys2Proof

/-- Replace the power supervisor. -/
def State.setPwr (s : State) (p : Pwr) : State := { s with pwr := p }

/-! ### What a reset leaves (R121) -/

/-- Recording memory holds content that a reset can retain (R132): a run has started, or this start reported RETAINED. -/
def State.hasContent (s : State) : Bool :=
  s.released || s.pwr.retained || (s.pwr.phase == .noService && s.pwr.mssRun != 0)

/-- The Fault Ledger with its totals, which every reset but COLD leaves (R550, R552). -/
def ledgerReg (a : Nat) : Bool :=
  a == rSvcAudFlHead || a == rSvcAudFlLost || (decide (rSvcAudFf 0 ≤ a) && decide (a < rSvcAudFl 0 + 0x8000))

/-- The registers and other state of the module after a whole-module reset, before any step of the start. What stands
outside the die stays: flash, OTP, the host's memory, levels of pins, and the array where `keep` says so. -/
def State.wipe (s : State) (cold keep : Bool) : State :=
  let r := State.reset
  let pins := (s.rd rSvcPwrStat &&& 5#32, s.rd (rNetPortStat 0) &&& 7#32, s.rd (rNetPortStat 1) &&& 7#32)
  let s1 : State := { r with
    variant := s.variant, otp := s.otp, flash := s.flash, pending := s.pending, rdata := s.rdata, rbytes := s.rbytes
    tap := s.tap
    regs := if cold then [] else s.regs.filter (fun x => ledgerReg x.1)
    vlt := { r.vlt with drbg := s.vlt.drbg, nonce := s.vlt.nonce + 1 }
    pwr := { r.pwr with
      phase := .good, pres := s.pwr.pres, perst := s.pwr.perst, mssRun := if cold then 0 else s.pwr.mssRun, retained := keep }
    aud := if cold then { r.aud with msix := s.aud.msix }
      else { r.aud with msix := s.aud.msix, lost := s.aud.lost, severe := s.aud.severe, fatal := s.aud.fatal }
    mem := { r.mem with
      dram := if keep then s.mem.dram else [], flip := if keep then s.mem.flip else [], dq := if keep then s.mem.dq else []
      free := s.mem.free }
    cor := { r.cor with free := s.cor.free }
    vid := { r.vid with free := s.vid.free }
    out := { r.out with free := s.out.free }
    hst := { r.hst with cpl := s.hst.cpl, dma := s.hst.dma }
    net := { r.net with host := s.net.host } }
  (((s1.wr rSvcPwrStat pins.1).wr (rNetPortStat 0) pins.2.1).wr (rNetPortStat 1) pins.2.2)

/-- The power-good row (R123): the clocks run, the self-tests start, the memory starts training or leaves self-refresh
(R125), the link trains where PERST# is high, DEV_RST_CAUSE is written (R129). -/
def State.goodRow (s : State) : State :=
  let cause := s.pwr.kind + (if s.pwr.retained then 0x100 else 0) + (if s.pwr.retLost then 0x200 else 0) +
    (if s.pwr.seqDone then 0x400 else 0)
  let s1 := s.setPwr { s.pwr with phase := .good, retLost := false, seqDone := false }
  let s2 := (s1.wr rDevRstCause (BitVec.ofNat 32 cause)).setBit rSvcPwrStat 3 false
  let s3 := (s2.setBit rDevVltStat 3 s.otp.zeroized).setFld rDevVltStat 0 1 s.activeSlot
  let s4 := if s.pwr.perst then s3 else s3.setFld rHstLink 28 4 1
  let st := if s.pwr.retained then 5 else 1
  let s5 := s4.forEach s4.scs (fun t n => (t.setFld (rMemScStat n) 28 4 1).setFld (rMemScStat n) 24 4 (if st = 5 then 4 else 1))
  s5.setFld rMemStat 28 4 st

/-- The array is in self-refresh, or a MODULE reset places it there: every accepted write has retired (R121, R433). -/
def State.placed4 (s : State) : Bool := decide (2 ≤ s.memState) && decide (s.memState ≤ 5)

/-- A MODULE or BROWNOUT reset: the steps of a start from the power-good row (R126). A failure of the power stage ends only
with a COLD reset (R122). -/
def State.warmReset (s : State) (kind : Nat) (seq : Bool) : State :=
  let s1 := if s.memState = 2 ∨ s.memState = 3 then s.drainQueues else s
  let keep := s1.hasContent && s1.placed4
  let s2 := s1.wipe false keep
  (s2.setPwr { s2.pwr with kind := kind, seqDone := seq }).goodRow

/-- The module gives no service because the member of code `m` (R129) failed, at this start or as a FATAL event of the run
(R37, R549). -/
def State.mssFailed (s : State) (m : Nat) : Bool :=
  (s.pwr.phase == .noService && (s.pwr.mssRun == m || (s.pwr.mssRun == 0 && s.fld rDevRstCause 12 4 == m))) ||
    (s.aud.safe != 0 && s.pwr.mssRun == m)

/-- The state of R37 holds for the power stage or the power supervisor. -/
def State.powerFailed (s : State) : Bool := s.mssFailed 1

/-- A MODULE reset request: ignored while PFW is asserted and in boundary-scan mode (R121). -/
def State.moduleRst (s : State) (kind : Nat) : State :=
  if s.pwr.loss != 0 || s.bit rSvcPwrStat 1 || s.pwr.phase == .bscan || s.powerFailed then s
  else s.warmReset kind false

/-- MODULE_RESET: a write of DEV_RST_CTL; a wrong KEY follows R88 (R129). -/
def execModuleReset (v : Word) (s : State) : Host.Outcome State Fault Refusal :=
  .next (if !s.reaches 0 then s
    else if fget v 16 16 ≠ 0xA5C3 then s.violation rDevRstCtl
    else if v.getLsbD 0 then s.moduleRst 3 else s)

/-- NVM_SUBSYSTEM_RESET: a write of NSSR (R121). -/
def execNvmSubsystemReset (v : Word) (s : State) : Host.Outcome State Fault Refusal :=
  .next (if s.ctlUp = true ∧ v = 0x4E564D65#32 then s.moduleRst 4 else s)

/-! ### Loss of mains (R45, R130, R132) -/

/-- The Vault at PFW (R111, R459): a load or an armed activation stops, a verification leaves the slot unverified. -/
def State.vltPfw (s : State) : State :=
  let s1 := if s.vlt.load ≠ 0 ∨ s.vltState = 4 then
      (((((s.disarm).setVlt { s.disarm.vlt with load := 0 }).setEscrow none).setLoading false).setRes resPfw).vltRest.prohibitCommit
    else s
  if s1.vlt.verify = 0 then s1
  else
    let s2 := (((s1.setVlt { s1.vlt with verify := 0, verifyCid := none }).setLoading false).setFr s1.inactive []).vltRest
    match s1.vlt.verifyCid with
    | some cid => s2.complete 0 cid stPowerLoss false 0#32
    | none => s2

/-- PFW before release (R132): trained sub-channels enter self-refresh, those of a start with RETAINED 0 that are not trained
are left idle, those of a start with RETAINED 1 return to self-refresh. -/
def State.startPfw (s : State) : State :=
  match s.memState with
  | 1 => (s.forEach s.scs (fun t n => t.setFld (rMemScStat n) 28 4 0)).setFld rMemStat 28 4 0
  | 5 => (s.forEach s.scs (fun t n => t.setFld (rMemScStat n) 28 4 3)).setFld rMemStat 28 4 4
  | _ => s.srBegin

/-- What stops at once when PFW asserts: start steps before release (R122), and after it the engines, displays and Vault work
of R130. -/
def State.pfwStops (s : State) : State :=
  if !s.released then s.startPfw
  else (((((((s.corAbort 10).encPower).forEach [0, 1] State.decStop).dhPower).aesPower).vltPfw).cmpUrge).follow

/-- POWER_FAIL_WARNING (R45): PFW on SVC_PWR_STAT, source 0x118 and PWRFAIL#; `byLine` where the line condition holds, which
also ends MAINS_OK (R52). No second assertion arises while the sequence runs (R46). -/
def State.pfw (s : State) (byLine : Bool) : State :=
  if s.pwr.phase == .off || s.pwr.phase == .starting then s
  else
    let s0 := if byLine then s.setBit rSvcPwrStat 0 false else s
    if s.pwr.loss != 0 then s0
    else
      let s1 := (s0.setBit rSvcPwrStat 1 true).raise 0x118 3
      (s1.setPwr { s1.pwr with loss := 1, pwrfail := true }).pfwStops

/-- POWER_FAIL_WARNING. -/
def execPowerFailWarning (byLine : Bool) (s : State) : Host.Outcome State Fault Refusal := .next (s.pfw byLine)

/-- LOSS_OF_MAINS_CLOSE, at 2 ms. -/
def State.lossClose (s : State) : State :=
  if s.pwr.loss ≠ 1 then s
  else
    let s1 := s.setPwr { s.pwr with loss := 2 }
    if !s1.released then s1
    else
      let s2 := s1.closeAll (flag 18)
      let s3 := s2.forEach s2.captureStrs (fun t i => (t.setSchStr i { t.schStr i with reopen := false }).beginClose i 0x20)
      (s3.headsOff).follow

/-- LOSS_OF_MAINS_CLOSE. -/
def execLossOfMainsClose (s : State) : Host.Outcome State Fault Refusal := .next s.lossClose

/-- LOSS_OF_MAINS_SELF_REFRESH, at 8 ms: unsigned records take SIG_PENDING, the panel's supply ends, I/O commands that have
not begun their transfer end (R131). -/
def State.lossRefresh (s : State) : State :=
  if s.pwr.loss ≠ 2 then s
  else
    let s1 := if s.released then s.markPending else s
    let s2 := (s1.setDh 0 { s1.dh 0 with vcc := false, hpd := false }).srBegin
    (s2.setPwr { s2.pwr with loss := 3 }).refuseIo

/-- LOSS_OF_MAINS_SELF_REFRESH. -/
def execLossOfMainsSelfRefresh (s : State) : Host.Outcome State Fault Refusal := .next s.lossRefresh

/-- SR_ENTERED (R433): every present sub-channel is in self-refresh, once the commands of R131 have finished their transfers;
in the loss-of-mains sequence ALIVE stops at that row, also where the memory had nothing to enter (log entry 33). -/
def State.refreshed (s : State) : State :=
  let s1 := if s.memState = 3 ∧ s.hst.cmds.all (fun c => !(c.st == 1 && c.early)) = true then (s.srEntered).finishWrites else s
  if s1.pwr.loss = 3 ∧ s1.memState ≠ 3 then (s1.aliveOff).setPwr { s1.pwr with loss := 4 } else s1

/-- SR_ENTERED. -/
def execSrEntered (s : State) : Host.Outcome State Fault Refusal := .next s.refreshed

/-- RAILS_FALL: with the retention input present J2 holds the array (R130). -/
def State.railsFall (s : State) : State :=
  if s.pwr.loss ≠ 4 then s
  else
    let keep := s.memState == 4 && s.hasContent && s.bit rSvcPwrStat 2
    let s1 := s.wipe true keep
    let s2 := s1.setPwr { s1.pwr with phase := .off, seqDone := s.memState == 4 }
    { (s2.setBit rSvcPwrStat 3 keep) with tap := State.reset.tap }

/-- RAILS_FALL. -/
def execRailsFall (s : State) : Host.Outcome State Fault Refusal := .next s.railsFall

/-- PFW_DEASSERT (R46): the line has held 80 VAC for 200 ms, so that MAINS_OK, due after 100 ms, is 1 as well. -/
def execPfwDeassert (s : State) : Host.Outcome State Fault Refusal :=
  .next (if s.bit rSvcPwrStat 1 then
      ((s.setPwr { s.pwr with pwrfail := false }).setBit rSvcPwrStat 1 false).setBit rSvcPwrStat 0 true
    else s)

/-- BROWNOUT_RESET (R132): the sequence has completed and PFW has deasserted with the rails up. Boundary-scan mode and a
failed power stage go on (R62, R122). -/
def State.brownout (s : State) : State :=
  if s.pwr.loss ≠ 4 ∨ s.bit rSvcPwrStat 1 = true then s
  else if s.pwr.phase == .bscan || s.powerFailed then s.setPwr { s.pwr with loss := 0 }
  else s.warmReset 2 (s.memState == 4)

/-- BROWNOUT_RESET. -/
def execBrownoutReset (s : State) : Host.Outcome State Fault Refusal := .next s.brownout

/-- RETENTION_LOST (R47): J2 falls below 10.5 V during retention. -/
def execRetentionLost (s : State) : Host.Outcome State Fault Refusal :=
  .next (if !s.bit rSvcPwrStat 3 then s
    else
      let s1 := ((s.memLost).setBit rSvcPwrStat 3 false).setBit rSvcPwrStat 2 false
      s1.setPwr { s1.pwr with retained := false, retLost := true })

/-- RETENTION_INPUT_CHANGE (R47): J2 enters or leaves 10.8 V to 13.2 V. -/
def execRetentionInputChange (inRange : Bool) (s : State) : Host.Outcome State Fault Refusal :=
  .next (s.setBit rSvcPwrStat 2 inRange)

/-! ### The start sequence (R123 to R127) -/

/-- COLD_RESET: the line has held 80 VAC for 100 ms with the rails down; `retSeconds` is the length of the retention
episode (R129). -/
def execColdReset (retSeconds : Nat) (s : State) : Host.Outcome State Fault Refusal :=
  .next (if s.pwr.phase != .off || s.pwr.cutoff then s
    else
      let held := s.pwr.retained || s.pwr.retLost
      let s1 := (s.setPwr { s.pwr with phase := .starting, kind := 1 }).setBit rSvcPwrStat 0 true
      s1.wr rSvcRetTime (if held then BitVec.ofNat 32 (min retSeconds 0xFFFFFFFF) else 0#32))

/-- START_ABANDONED: the line is lost before power-good; nothing is recorded. -/
def execStartAbandoned (s : State) : Host.Outcome State Fault Refusal :=
  .next (if s.pwr.phase == .starting then (s.setPwr { s.pwr with phase := .off }).setBit rSvcPwrStat 0 false else s)

/-- POWER_GOOD; `testEn` is TEST_EN of J11 at power-good (R62, R124). -/
def execPowerGood (testEn : Bool) (s : State) : Host.Outcome State Fault Refusal :=
  .next (if s.pwr.phase != .starting then s
    else ((s.setPwr { s.pwr with testEn := testEn }).setBit rSvcPwrStat 0 true).goodRow)

/-- SELFTEST_COMPLETE (R98, R100, R124): with TEST_EN high the start ends in boundary-scan mode. -/
def State.selftestDone (s : State) (pass : Bool) : State :=
  if s.pwr.phase != .good || s.pwr.loss != 0 then s
  else
    let s1 := s.setPwr { s.pwr with phase := if s.pwr.testEn then .bscan else .checking }
    if !pass then s1.vaultError
    else
      let s2 := s1.setFld rDevVltStat 1 1 1
      if s.pwr.testEn then s2.setVltState 1 else (s2.setVltState 2).setLoading true

/-- SELFTEST_COMPLETE. -/
def execSelftestComplete (pass : Bool) (s : State) : Host.Outcome State Fault Refusal := .next (s.selftestDone pass)

/-- The HST cluster frame of a plane is applied (R123). -/
def State.applyHst (s : State) (p : Plane) : State :=
  ((s.loadUnit p 12 1).loadUnit p 12 2).setPwr { s.pwr with hstFrame := true }

/-- SLOT_CHECK_COMPLETE (R105): steps 1 to 13 on the active slot, then on the other; `readOk` says that the flash returned
no error. -/
def State.slotCheck (s : State) (readOk : Bool) : State :=
  if s.pwr.phase != .checking || s.pwr.loss != 0 || !s.loading || s.pwr.slotOk then s
  else
    let k := if s.pwr.tried = 0 then s.activeSlot else s.inactive
    let r : Except Word Plane := do
      need readOk (errDev eFlash 0)
      let p ← s.checkImage (s.slotBytes k)
      s.checkPlane p
      pure p
    match r with
    | .ok p =>
      let s1 := (s.setFld rDevVltStat 0 1 k).setFld rDevVltStat 2 1 s.pwr.tried
      (s1.setPwr { s1.pwr with slotOk := true }).applyHst p
    | .error e =>
      let s1 := if readOk then s else (s.wr rDevCfgErr e).raise 0x002 0
      let s2 := (s1.loadError e).setPwr { s1.pwr with tried := s.pwr.tried + 1 }
      if s2.pwr.tried = 2 then (s2.setLoading false).vltRest else s2

/-- SLOT_CHECK_COMPLETE. -/
def execSlotCheckComplete (readOk : Bool) (s : State) : Host.Outcome State Fault Refusal := .next (s.slotCheck readOk)

/-- A sub-channel that fails a step of its training reads FAILED with that step (R425). -/
def State.scFail (s : State) (n step : Nat) : State :=
  ((s.setFld (rMemScStat n) 28 4 4).setFld (rMemScStat n) 24 4 step).raise (0x010 + n) (scUnit n)

/-- The sub-channels `ns` end their training: FAILED where they failed a step, else READY behind step 6; one that failed is
fenced unless it is SC0 or SC1 (R126, R425). -/
def State.scTrained (s : State) (ns : List Nat) (failed : BitVec 16) (failStep : Nat) : State :=
  let s1 := s.forEach ns fun t n =>
    if failed.getLsbD n then t.scFail n failStep
    else if t.fld (rMemScStat n) 28 4 = 4 then t
    else (t.setFld (rMemScStat n) 28 4 2).setFld (rMemScStat n) 24 4 6
  ((s1.setFld rMemStat 28 4 2).fenceUnits 1 ((ns.filter (fun n => failed.getLsbD n && decide (2 ≤ n))).map scUnit)).memReady

/-- During an exit from self-refresh the sub-channels that fail a step of R426 drop out (R126). -/
def State.exitFailed (s : State) (failed : BitVec 16) (failStep : Nat) : State :=
  let ns := s.scs.filter (fun n => s.scUp n && s.fld (rMemScStat n) 28 4 == 1 && failed.getLsbD n)
  ((s.forEach ns (fun t n => t.scFail n failStep)).fenceUnits 1 ((ns.filter (fun n => decide (2 ≤ n))).map scUnit)).memReady

/-- TRAINING_COMPLETE (R425, R126). After PS4 every partition is erased (R462). During an exit from self-refresh it reports
the sub-channels that fail it; in a module that runs it ends the training of units that a CLUSTER reset has left in their
reset values (log entry 102). -/
def State.trainingDone (s : State) (failed : BitVec 16) (failStep : Nat) : State :=
  if s.memState = 5 then s.exitFailed failed failStep
  else if s.memState ≠ 1 then
    if s.released && s.pwr.loss == 0 && decide (s.fld rHstPwr 0 3 < 3) && (s.memState == 0 || s.memState == 2) then
      s.scTrained (s.scs.filter (fun n => s.scUp n && s.fld (rMemScStat n) 28 4 == 0)) failed failStep
    else s
  else
    let s2 := s.scTrained (s.scs.filter s.scUp) failed failStep
    if s.fld rHstPwr 0 3 = 4 then
      let s3 := s2.forEach s2.usedParts (fun t p => t.partCmd p 2#32)
      if s3.fld rHstPwr 4 3 = 3 then s3.srBegin else s3
    else s2

/-- TRAINING_COMPLETE. -/
def execTrainingComplete (failed : BitVec 16) (failStep : BitVec 4) (s : State) : Host.Outcome State Fault Refusal :=
  .next (s.trainingDone failed failStep.toNat)

/-- FRAMES_APPLIED (R123, R125): every unit takes its image values, the retained ledger is recovered, pending records are
signed, LOADING falls and IMAGE_OK becomes 1. -/
def State.framesDone (s : State) : State :=
  let k := s.fld rDevVltStat 0 1
  match s.checkImage (s.slotBytes k) with
  | .error _ => s
  | .ok p =>
    if s.pwr.phase != .checking || s.pwr.loss != 0 || !s.pwr.slotOk || s.memState != 2 then s
    else
      let s1 : State := { s with plane := some p }
      let us := allUnits.filter (fun x => present s.variant x.1 x.2)
      let s2 := us.foldl (fun t x => (t.loadUnit p x.1 x.2).formatReset p x.1 x.2) s1
      let s3 := (((s2.settleImage us).recoverLedger).signPending).setFr k (frString p)
      let s4 := ((if s2.pendingOk then s3.showImage p else (s3.showImage p).vaultError).setLoading false).vltRest
      let s5 := s4.setBit rDevRstCause 11 (s4.pwr.retained && s4.pwr.sigDone)
      s5.setPwr { s5.pwr with phase := .applied }

/-- FRAMES_APPLIED. -/
def execFramesApplied (s : State) : Host.Outcome State Fault Refusal := .next s.framesDone

/-- The sub-channel charged with an uncorrectable burst of the retained ledger region (R126). -/
def State.ledgerUe (s : State) : Option Nat :=
  let l := s.rgnLocal s.ledgerRgn
  let bad := fun (n : Nat) => s.mem.flip.any fun x =>
    x.1 / 2 ^ 28 == n && decide (l.1 * 2 ^ 20 ≤ x.1 % 2 ^ 28 * 64) && decide (x.1 % 2 ^ 28 * 64 < (l.1 + l.2) * 2 ^ 20) &&
      (gfMem.decode 16 s.eccT (errWord [] x.2)).isNone
  if !s.pwr.retained then none else [0, 1].find? bad

/-- The first member of the minimum service set that fails its check, by the codes of R129; 0 where none (R126). -/
def State.mssFail (s : State) (railsOk audOk hstOk : Bool) : Nat :=
  let scBad := fun (n : Nat) => s.fld (rMemScStat n) 28 4 != 2 || s.ledgerUe == some n
  if !railsOk then 1
  else if !audOk || !s.aud.lockstep then 2
  else if s.vltState = 6 then 3
  else if !s.bit rDevCfgStat 0 then 4
  else if scBad 0 then 5
  else if scBad 1 then 6
  else if !hstOk || !s.pwr.hstFrame then 7
  else 0

/-- The outputs are released (R123): thermal check, step, V12, encoder supplies, ALIVE, CSTS.RDY, RELEASED. -/
def State.goLive (s : State) : State :=
  let s1 := ((s.setFld rDevRstCause 12 4 s.pwr.mssRun).setPwr { s.pwr with phase := .released, mssRun := 0 }).thermalRelease
  let hot := [0, 1].any (fun z => s1.zoneState z == 4)
  let s2 := if hot then s1.enterSafe 0x11A 4 else ((s1.setFld rSvcAudStat 28 4 0).setBit rSvcAudStat 0 true).setAud { s1.aud with level := true }
  let s3 := ((s2.syncV12All).syncSupAll).stepEval
  ((s3.syncRdy).raise 0x000 0).follow

/-- RELEASE (R123, R126): the check of the minimum service set, on what the power supervisor, the Auditor core and HST report,
then release or the state of R37. In the safe state no release occurs (R549). -/
def State.release (s : State) (railsOk audOk hstOk : Bool) : State :=
  let ended := s.pwr.phase == .applied ||
    (s.pwr.phase == .checking && s.memState == 2 && (s.vltState == 6 || s.pwr.tried == 2))
  if !ended || s.pwr.loss != 0 || s.aud.safe != 0 then s
  else
    let m := s.mssFail railsOk audOk hstOk
    if m = 0 then s.goLive else ((s.setFld rDevRstCause 12 4 m).noService 0).syncRdy

/-- RELEASE. -/
def execRelease (railsOk audOk hstOk : Bool) (s : State) : Host.Outcome State Fault Refusal :=
  .next (s.release railsOk audOk hstOk)

/-! ### The PCIe link (R124, R441, R466) -/

/-- Configuration requests get retry status: the link is up and the HST frame not applied (R68, R123, R124). -/
def State.crs (s : State) : Bool := s.fld rHstLink 28 4 == 2 && !s.pwr.hstFrame

/-- The link leaves UP. -/
def State.linkDown (s : State) : State :=
  if s.fld rHstLink 28 4 ≠ 2 then s
  else ((s.wr rHstLink 0#32).count rHstLinkDown).raise 0x0E1 1

/-- PCIE_LINK_UP: the link has trained to a speed code and a width. -/
def State.linkUp (s : State) (speed width : Nat) : State :=
  if !s.powered || s.pwr.perst || s.fld rHstLink 28 4 = 2 || speed < 1 || 5 < speed || !([1, 2, 4, 8].contains width) then s
  else
    let v := 2 * 2 ^ 28 + speed * 2 ^ 16 + width * 2 ^ 8 + (if speed < 5 ∨ width < 8 then 1 else 0)
    (s.wr rHstLink (BitVec.ofNat 32 v)).raise 0x0E0 1

/-- PCIE_LINK_UP. -/
def execPcieLinkUp (speed width : Nat) (s : State) : Host.Outcome State Fault Refusal := .next (s.linkUp speed width)

/-- PCIE_LINK_DOWN. -/
def execPcieLinkDown (s : State) : Host.Outcome State Fault Refusal := .next s.linkDown

/-- The host unit's registers take the values of the applied image again (R121). -/
def State.hstFrame (s : State) : State :=
  match s.plane with
  | some p => (s.loadUnit p 12 1).loadUnit p 12 2
  | none => s

/-- What PERST# resets: the controller, the host unit's registers but the structural ones, the host's table window. -/
def State.perstReset (s : State) : State :=
  let s1 := s.linkDown.ctlClear
  let s2 := s1.setHst { s1.hst with
    cc := 0#32, csts := s1.hst.csts &&& 2#32, aqa := 0#32, asq := 0#64, acq := 0#64, dl := []
    mxTab := [], mxPend := [] }
  let s3 := ((((s2.dropRegs 12 1).dropRegs 12 2).wr rHstPwr (s2.rd rHstPwr)).wr rHstRgnClass (s2.rd rHstRgnClass)).wr
    rHstNsmap (s2.rd rHstNsmap)
  let s4 := s3.hstFrame.raise 0x0E4 1
  if s4.ctlCfs then s4.setTeller 4 else s4

/-- PERST_ASSERT (R121, R124): the endpoint and the NVMe controller reset; the image stays applied and the power state of the
module stands. Where HST failed, at this start or during the run, it ends the state of R37: the module stands before its
release again (R122; log entry 101). -/
def State.perstLow (s : State) : State :=
  let s1 := s.setPwr { s.pwr with perst := true }
  if !s.powered || s.pwr.perst then s1
  else
    let s2 := s1.perstReset
    if s.mssFailed 7 then
      ((((s2.setHst { s2.hst with csts := 0#32 }).setPwr { s2.pwr with phase := .applied }).setAud
        { s2.aud with safe := 0 }).setFld rSvcAudStat 28 4 0).setTeller 0
    else s2

/-- PERST_ASSERT. -/
def execPerstAssert (s : State) : Host.Outcome State Fault Refusal := .next s.perstLow

/-- PERST_DEASSERT: the link trains. -/
def execPerstDeassert (s : State) : Host.Outcome State Fault Refusal :=
  .next (let s1 := s.setPwr { s.pwr with perst := false }
    if s.powered && s.pwr.perst then s1.setFld rHstLink 28 4 1 else s1)

/-! ### The supervisor's steps (R29, R30) -/

/-- STEP_PWR, or in PS1 the value that the input rules move beside it. -/
def State.stepRule (s : State) (f : Nat → Nat) : State :=
  if s.fld rHstPwr 0 3 = 1 then s.setPwr { s.pwr with stepOwn := f s.pwr.stepOwn }
  else (s.setFld rDevClk 6 2 (f (s.fld rDevClk 6 2))).stepEval

/-- POWER_SUPERVISOR_EVALUATE: the input power in mW of this millisecond. -/
def execPowerSupervisorEvaluate (inputMw : Nat) (s : State) : Host.Outcome State Fault Refusal :=
  .next (if !s.powered then s
    else
      let s1 := s.setPwr { s.pwr with inputMw := inputMw }
      (if s1.fld rHstPwr 0 3 = 1 then s1.setFld rDevClk 6 2 3 else s1).stepEval)

/-- STEP_PWR_SLOWER: the input has stayed above 470 W. -/
def execStepPwrSlower (s : State) : Host.Outcome State Fault Refusal :=
  .next (if s.powered = true ∧ 470000 < s.pwr.inputMw then s.stepRule (fun n => min 3 (n + 1)) else s)

/-- STEP_PWR_FASTER: the input has stayed at or below 440 W. -/
def execStepPwrFaster (s : State) : Host.Outcome State Fault Refusal :=
  .next (if s.powered = true ∧ s.pwr.inputMw ≤ 440000 then s.stepRule (fun n => n - 1) else s)

/-- A write of DEV_CLK. -/
def State.stepLimit (s : State) (v : Word) : State := (s.setFld rDevClk 4 2 (fget v 4 2)).stepEval

/-- STEP_LIMIT_WRITE. -/
def execStepLimitWrite (v : Word) (s : State) : Host.Outcome State Fault Refusal :=
  .next (if s.reaches 0 then s.stepLimit v else s)

/-! ### The thermal cutoff (R563) -/

/-- THERMAL_CUTOFF: the die and DRAM rails go at once; nothing is retained. -/
def execThermalCutoff (s : State) : Host.Outcome State Fault Refusal :=
  .next (if !s.powered then s
    else
      let s1 := s.wipe true false
      let s2 := s1.setPwr { s1.pwr with phase := .off, cutoff := true }
      { s2 with tap := State.reset.tap })

/-- MAINS_OFF_AFTER_CUTOFF: the line has stayed below 70 VAC for 100 ms. -/
def execMainsOffAfterCutoff (s : State) : Host.Outcome State Fault Refusal :=
  .next (if s.pwr.cutoff then (s.setPwr { s.pwr with cutoff := false }).setBit rSvcPwrStat 0 false else s)

/-! ### The test access port (R62) -/

/-- The TAP is powered with the rails. -/
def State.setTap (s : State) (sel : Nat) (cells : List Bool) : State :=
  if s.powered then { s with tap := ⟨sel, cells⟩ } else s

/-- TAP_BYPASS: BYPASS, or an instruction that is not accepted. -/
def execTapBypass (_ir : BitVec 8) (s : State) : Host.Outcome State Fault Refusal := .next (s.setTap 0 s.tap.cells)

/-- TAP_IDCODE. -/
def execTapIdcode (s : State) : Host.Outcome State Fault Refusal :=
  .next (if s.powered then { s.setTap 1 s.tap.cells with rdata := 0x1C480A5F#64 } else s)

/-- TAP_SAMPLE_PRELOAD: the boundary cells take the pins. -/
def execTapSamplePreload (pins : List Bool) (s : State) : Host.Outcome State Fault Refusal := .next (s.setTap 2 pins)

/-- TAP_EXTEST: accepted in boundary-scan mode alone; else it acts as BYPASS. -/
def execTapExtest (cells : List Bool) (s : State) : Host.Outcome State Fault Refusal :=
  .next (if s.pwr.phase == .bscan then s.setTap 3 cells else s.setTap 0 s.tap.cells)

end Sys2Proof.Machine
end

