-- ==== Sys2Proof/Machine/RegRead.lean ====
section
/-! DEFINITION. Reads of the BAR2 window (R2, R9, R11, R13, R38, R71): which registers show state that lives elsewhere,
which reads capture the upper part of a quantity, and what a read of an RC field clears. -/

namespace Sys2Proof.Machine

open Sys2Proof

/-- The window of HST unit 2 that mirrors BAR0 (R444). -/
def mirror (c u o : Nat) : Bool := c == 12 && u == 2 && decide (0x4000 ≤ o) && decide (o < 0x8000)

/-- CAP of the NVMe controller (R445). -/
def nvmeCap : BitVec 64 := BitVec.ofNat 64 (4095 + 2 ^ 16 + 2 ^ 17 + 4 * 2 ^ 24 + 2 ^ 36 + 2 ^ 37)

/-- A word of the 16 KiB of BAR0 (R444, R445; places of the NVMe registers: log entry 35): registers, the MSI-X table at
0x2000 and its pending bits at 0x3000. -/
def State.nvmeReg (s : State) (o : Nat) : Word :=
  if 0x2000 ≤ o then
    if o < 0x2500 then Map.get mxDefault s.hst.mxTab ((o - 0x2000) / 4)
    else if 0x3000 ≤ o ∧ o < 0x3010 then
      BitVec.ofNat 32 ((idxs 32 (fun i => s.hst.mxPend.contains ((o - 0x3000) / 4 * 32 + i))).foldl (fun n i => n + 2 ^ i) 0)
    else 0#32
  else match o with
  | 0x00 => nvmeCap.setWidth 32
  | 0x04 => (nvmeCap >>> 32).setWidth 32
  | 0x08 => 0x00020000#32
  | 0x0C => s.hst.intm
  | 0x10 => s.hst.intm
  | 0x14 => s.hst.cc
  | 0x1C => s.hst.csts
  | 0x24 => s.hst.aqa
  | 0x28 => s.hst.asq.setWidth 32
  | 0x2C => (s.hst.asq >>> 32).setWidth 32
  | 0x30 => s.hst.acq.setWidth 32
  | 0x34 => (s.hst.acq >>> 32).setWidth 32
  | _ => 0#32

/-- A stream block that the RLM-4200 does not have (R185, R224). -/
def blockGone (v : Variant) (k : Kind) (o : Nat) : Bool :=
  v == .rlm4200 && (k == .ingStr || k == .schStr) && decide (0x1800 ≤ o)

/-- The pending bits of a cluster's event sources (R576). -/
def State.clSrc (s : State) (c : Nat) : Word :=
  BitVec.ofNat 32 ((List.range (srcCount c)).foldl (fun n k =>
    let x := srcFirst c + k
    if s.bit (rSvcAudPend (x / 32)) (x % 32) then n + 2 ^ k else n) 0)

/-- Word `k` of the AK public key (R117). -/
def akWord (k : Nat) : Word := BitVec.ofNat 32 (leNat (slice akPublic (4 * k) 4))

/-- DEV_VLT_POLICY (R120). -/
def State.vltPolicy (s : State) : Word :=
  BitVec.ofNat 32 ((255 - s.otp.floor) * 2 ^ 16 + s.otp.floor % 256 * 2 ^ 8 + s.otp.revoked.toNat * 4 + s.otp.policy.toNat)

/-- The value behind a register whose state lives elsewhere; for the others the value held. -/
def State.view (s : State) (k : Kind) (n o a : Nat) : Word :=
  let v := s.rd a
  match k with
  | .dev => if a = rDevHead 2 ∨ a = rDevHead 3 then (if s.variant = .rlm4200 then v &&& 0x7FFFFFFF#32 else v) else v
  | .vault =>
    if o = 0x14 then fset v 3 1 s.otp.zeroized.toNat
    else if o = 0x18 then s.vltPolicy
    else if 0x30 ≤ o ∧ o < 0x40 then BitVec.ofNat 32 (leNat (slice s.nonceBytes (o - 0x30) 4))
    else if 0x200 ≤ o ∧ o < 0x260 then akWord ((o - 0x200) / 4)
    else v
  | .clctl =>
    if o = 0x10 then s.clSrc (clusterOf a)
    else if o = 0x14 then s.rd (rDevFenceU (2 * clusterOf a))
    else if o = 0x18 then s.rd (rDevFenceU (2 * clusterOf a + 1))
    else v
  | .schAxis =>
    if o = 0x40 ∧ fget v 24 2 = 1 ∧ fget v 0 16 = 0 then fset v 0 16 (Config.supMa n s.now % 2 ^ 16) else v
  | .schA5 =>
    if o = 0x18 then ((s.axisAt 5 s.nowTu) >>> 16).setWidth 32
    else if o = 0x1C then ((s.axisAt 5 s.nowTu).setWidth 16).setWidth 32
    else v
  | .schA6 =>
    if o = 0x14 then (s.liveAt rSchA6CntLo).setWidth 32
    else if o = 0x18 then (((s.liveAt rSchA6CntLo) >>> 32).setWidth 16).setWidth 32
    else v
  | .vidCore =>
    if 0x20 ≤ o ∧ o < 0x30 then BitVec.ofNat 32 (beNat (slice vidUuid (o - 0x20) 4)) else v
  | .vidEnc => if o = 0x14 ∧ 6 ≤ n then fset v 16 8 0 else v
  | .mint =>
    if o = 0x40 then BitVec.ofNat 32 s.mint.ns
    else if o = 0x50 then BitVec.ofNat 32 s.mint.total
    else if o = 0x60 then (match s.net.ppsIn with | some m => BitVec.ofNat 32 m.ns | none => 0#32)
    else v
  | .aud => if o = 0x68 then s.injWord else v
  | .pwr => if o = 0x20 then BitVec.ofNat 32 ((idxs 4 s.v12En).foldl (fun m i => m + 2 ^ i) 0) else v
  | _ => v

/-- The _LO registers whose read captures the upper part of their quantity (R249 and the register tables). -/
def captures (k : Kind) (o : Nat) : Bool :=
  match k with
  | .memSc => o == 0x14
  | .ingRec => o == 0x10
  | .schAxis => o == 0x44 || o == 0x4C || o == 0x54
  | .pixTally => decide (0x58 ≤ o) && decide (o < 0xC0) && o % 0x20 == 0x18
  | .corCore => o == 0x14
  | .corGauge => decide (0x1000 ≤ o) && decide (o < 0x1800) && o % 0x20 == 0x14
  | .cmpEng => o == 0x14
  | .ch => decide (0x1000 ≤ o) && decide (o < 0x3000) && o % 0x80 == 0x30
  | _ => false

/-- The quantity behind a capturing _LO register: the position and the speed of an axis are those of this instant, the
position of a cycle with events is that before them (R249). -/
def State.quantity (s : State) (k : Kind) (n o a : Nat) : BitVec 64 :=
  if k = .schAxis ∧ o = 0x44 then
    match (s.axis n).was with
    | some w => if w.1 = s.now then w.2 else s.axValue n s.nowTu
    | none => s.axValue n s.nowTu
  else if k = .schAxis ∧ o = 0x4C then BitVec.ofInt 64 (s.axSpeed n s.nowTu)
  else s.liveAt a

/-- The upper part of a quantity goes to the _HI register behind its _LO register. -/
def State.capHi (s : State) (a : Nat) (q : BitVec 64) : State :=
  match rowAt (a + 4) with
  | some r => s.wr (a + 4) (((q >>> 32).setWidth 32) &&& r.mask .ro)
  | none => s

/-- A Mint value goes to the three registers behind its nanoseconds (R489). -/
def State.capMint (s : State) (a : Nat) (m : Mint) : State :=
  ((s.wr (a + 4) (BitVec.ofNat 32 (m.fr / 2 ^ 28))).wr (a + 8) (BitVec.ofNat 32 m.sec)).wr (a + 12)
    (BitVec.ofNat 32 (m.sec / 2 ^ 32 % 2 ^ 16))

/-- A read of a register of a live unit: its value (R11), the captures, and the RC fields cleared. -/
def State.readReg (s : State) (k : Kind) (n o a : Nat) : Word × State :=
  match rowAt a with
  | none => (0#32, s)
  | some r =>
    if captures k o then
      let q := s.quantity k n o a
      (q.setWidth 32, s.capHi a q)
    else
      let w := ((s.view k n o a &&& ~~~ r.mask .rws) ||| (s.shd a &&& r.mask .rws)) &&& ~~~ r.mask .wo
      let s1 :=
        if a = rMintNowNs then s.capMint a s.mint
        else if a = rMintPpsinNs then (match s.net.ppsIn with | some m => s.capMint a m | none => s)
        else s
      (w, if r.mask .rc = 0#32 then s1 else s1.wr a (s1.rd a &&& ~~~ r.mask .rc))

/-- A 32-bit read of the BAR2 window at a multiple of 4. -/
def State.busRead (s : State) (a : Nat) : Word × State :=
  let c := clusterOf a
  let u := unitOf a
  let o := offOf a
  if !s.reaches c || !present s.variant c u then (0#32, s)
  else match kindOf c u with
  | none => (0#32, s)
  | some (k, n) =>
    if o = 0 then (identWord k n, s)
    else if o = 4 then (capWord s.variant c k n, s)
    else if !s.unitLive c u || blockGone s.variant k o then (0#32, s)
    else if mirror c u o then (s.nvmeReg (o - 0x4000), s)
    else if a = rDevCap1 then (devCap1 s.variant, s)
    else s.readReg k n o a

/-- What an access returns. -/
def State.answerBus (s : State) (lo hi : Word) : State := { s with rdata := hi ++ lo }

/-- A read of the window: naturally aligned, 64 bits as two reads of 32 bits, the lower first (R9); a read of any other
alignment is not accepted (log entry 36). -/
def State.readBus (s : State) (a : Nat) (wide : Bool) : State :=
  if !s.reaches 0 || a % (if wide then 8 else 4) ≠ 0 then s
  else
    let r := s.busRead a
    if wide then
      let q := r.2.busRead (a + 4)
      q.2.answerBus r.1 q.1
    else r.2.answerBus r.1 0#32

/-- READ_TO_CLEAR (R11): a read returns the value, and its RC fields clear. -/
def execReadToClear (addr : BitVec 26) (wide : Bool) (s : State) : Host.Outcome State Fault Refusal :=
  .next (s.readBus addr.toNat wide)

/-- CAPTURE_READ (R249): a 32-bit read of a _LO register captures the upper part for the _HI register. -/
def execCaptureRead (addr : BitVec 26) (s : State) : Host.Outcome State Fault Refusal :=
  .next (s.readBus addr.toNat false)

end Sys2Proof.Machine
end

