-- ==== Sys2Proof/Machine/Regs.lean ====
section
/-! DEFINITION. Writes of the BAR2 window: the access types of R11, structural fields (R70, R88, R89), and for each unit
kind the registers whose write does more, or is refused in a state that its chapter names. -/

namespace Sys2Proof.Machine

open Sys2Proof

/-! ### Writes by access type -/

/-- The structure has changed outside capture (R89, R111). -/
def State.altered (s : State) : State := (s.setBit rDevCfgStat 4 true).dropEscrow

/-- A write by the access types of a register (R11): RW fields at once, structural ones only while CAPTURE is 0 (R88,
R89), RWS fields into the shadow, W1C bits cleared. -/
def State.putReg (s : State) (a : Nat) (v : Word) : State :=
  match rowAt a with
  | none => s
  | some r =>
    let st := r.mask .st
    let change := (s.rd a ^^^ v) &&& st != 0#32
    let m := r.mask .rw ||| (if s.capture then 0#32 else st)
    let s1 := s.wr a (((s.rd a &&& ~~~ m) ||| (v &&& m)) &&& ~~~ (v &&& r.mask .w1c))
    let s2 := if r.mask .rws = 0#32 then s1 else s1.setShd a ((s1.shd a &&& ~~~ r.mask .rws) ||| (v &&& r.mask .rws))
    if !change then s2 else if s.capture then s2.violation a else s2.altered

/-- A write in a state in which the register does not accept it (R88): ignored as a whole. -/
def State.putUnless (s : State) (busy : Bool) (a : Nat) (v : Word) : State := if busy then s.violation a else s.putReg a v

/-- The image default of a register: what the active plane gives it (R70). -/
def State.imgVal (s : State) (a : Nat) : Word :=
  match s.plane with
  | none => regDefault a
  | some p => match (p.words.filter (fun x => x.1 == a)).getLast? with
    | some x => x.2
    | none => regDefault a

/-- A field written as 0 is taken as 1. -/
def nonZero (v : Word) (lo w : Nat) : Word := if fget v lo w = 0 then fset v lo w 1 else v

/-- Whether the structural fields of a register differ between two states. -/
def State.structDiff (s t : State) (a : Nat) : Bool :=
  match rowAt a with
  | some r => (s.rd a ^^^ t.rd a) &&& r.mask .st != 0#32
  | none => false

/-- The scaler steps and the lead bits follow a structural write at `a` that has changed `s` into `t` (R286, R299). -/
def State.settlePix (s t : State) (a : Nat) : State :=
  if s.structDiff t a then
    (t.forEach (List.range 4) State.setSteps).syncLeads
  else t

/-! ### Device control and the Vault (cluster 0) -/

/-- DEV_VLT_CMD (R120): the commands by OP; OP values that R120 does not list do nothing (log entry 37). -/
def State.vltCmd (s : State) (v : Word) : State :=
  let arg := fget v 8 24
  match fget v 0 8 with
  | 0x01 => s.loadEscrow arg
  | 0x02 => s.activate
  | 0x03 => s.cancel
  | 0x04 => s.selftest
  | 0x10 => s.officer 0x10 arg State.floorAdvance
  | 0x11 => s.officer 0x11 arg (fun t => t.revoke arg)
  | 0x12 => s.officer 0x12 arg State.zeroize
  | _ => s

/-- Unit 0 of cluster 0. -/
def State.wDev (s : State) (a : Nat) (v : Word) : State :=
  if a = rDevClk then s.stepLimit v
  else if a = rDevRstCtl then
    if fget v 16 16 ≠ 0xA5C3 then s.violation a else if v.getLsbD 0 then s.moduleRst 3 else s
  else
    let w := if (a = rDevHead 2 ∨ a = rDevHead 3) ∧ s.variant = .rlm4200 then v &&& 0x7FFFFFFF#32 else v
    if rDevHead 0 ≤ a ∧ a ≤ rDevHead 3 then (s.putReg a w).syncV12All else s.putReg a w

/-- The Vault's registers. -/
def State.wVault (s : State) (a : Nat) (v : Word) : State :=
  let busy := s.vltState == 4 || s.vltState == 5
  if a = rDevVltCmd then s.vltCmd v
  else if a = rDevVltHold then s.putUnless busy a (nonZero (nonZero v 16 4) 0 16)
  else if a = rDevVltSwapLo ∨ a = rDevVltSwapHi then s.putUnless busy a v
  else s.putReg a v

/-! ### Memory (cluster 1) -/

/-- Unit 1: MEM_CFG changes only at a start (R410); a REFILL above the image default is taken as the default (R419). -/
def State.wMem (s : State) (o a : Nat) (v : Word) : State :=
  if a = rMemCfg then s.putUnless ((s.rd a ^^^ v) &&& 0xF1000000#32 != 0#32) a v
  else if 0x40 ≤ o ∧ o < 0x60 ∧ o % 8 = 0 then
    let img := fget (s.imgVal a) 16 16
    s.putReg a (if img < fget v 16 16 then fset v 16 16 img else v)
  else s.putReg a v

/-- A sub-channel: MEM_SCn_INJ is the injection of R435. -/
def State.wSc (s : State) (n a : Nat) (v : Word) : State :=
  if a = rMemScInj n then (s.setFld a 0 16 (fget v 0 16)).setInj n (fget v 16 16) else s.putReg a v

/-! ### Sensor Link (cluster 2) -/

/-- One copy of a stream register: RWS fields commit at the write while the stream is not armed (R32, R304). -/
def State.pixPut (s : State) (i a : Nat) (v : Word) : State :=
  let s1 := s.putReg a v
  if s.armed i then s1 else s1.commit a

/-- A port: RETRAIN and the head access registers (R162). -/
def State.wPort (s : State) (n a : Nat) (v : Word) : State :=
  let busy := s.fld (rLnkHcStat n) 28 4 == 1
  if a = rLnkPortCtl n then
    let s1 := s.putReg a v
    if v.getLsbD 0 then (s1.retrain n).follow else s1
  else if a = rLnkHcAddr n ∨ a = rLnkHcData n then s.putUnless busy a v
  else if a = rLnkHcCmd n then
    if busy then s.violation a else if v.getLsbD 0 then (s.headGo n (v.getLsbD 1)).follow else s
  else if a = rLnkPortCfg n then
    let off := (s.rd a ^^^ (s.putReg a v).rd a) &&& 0x03FFFFFF#32 != 0#32 && s.portState n != 0
    let s0 := if off then ((s.setPortState n 0).clearStream n).setLanes n 0 else s
    let s1 := s0.putReg a v
    if s1.portState n = 0 then s1.lnkConfig n else s1
  else s.putReg a v

/-- A lane: the eye scan control (R155, R157, R162). -/
def State.wLane (s : State) (l a : Nat) (v : Word) : State :=
  if a = rLnkLaneEsctl l then
    if s.fld (rLnkLaneEsstat l) 28 4 = 1 ∨ v.getLsbD 31 then s.scanStart l v else s.scanConfig l v
  else s.putReg a v

/-! ### Frame ingest and recording (cluster 3) -/

/-- A port: OD_OFF stays below OD_ON (R185). -/
def State.wIngPort (s : State) (n a : Nat) (v : Word) : State :=
  if a = rIngPortThr n then
    if fget v 16 16 ≤ fget v 0 16 then s.violation a else (s.putReg a v).syncPort n
  else s.putReg a v

/-- Streams and groups: the slot mask (R177), timeouts of at least 1 µs (R186). -/
def State.wIngStr (s : State) (o a : Nat) (v : Word) : State :=
  if o < 0x1000 then
    let g := (o - 0x100) / 0x10
    if a = rIngGrpMask g then s.groupMask g v
    else if a = rIngGrpCfg g then
      let s1 := s.putReg a v
      if s.structDiff s1 a then (s1.loadMask g).forEach (List.range 4) State.syncPooled else s1
    else s.putReg a v
  else
    let i := (o - 0x1000) / 0x40
    if a = rIngStrTout i then s.pixPut i a (nonZero (nonZero v 16 16) 0 16)
    else
      let s1 := s.pixPut i a v
      if s.structDiff s1 a then s.settlePix (s1.syncStr i) a else s1

/-- Recording: RELEASE and ERASE (R264); a partition's state follows its structure. -/
def State.wIngRec (s : State) (o a : Nat) (v : Word) : State :=
  if o < 0x1000 then s.putReg a v
  else
    let p := (o - 0x1000) / 0x40
    if a = rIngPartCmd p then s.partCmd p v
    else
      let s1 := s.putReg a v
      if s.structDiff s1 a then s1.loadPart p else s1

/-! ### Capture Schedule and axes (cluster 4) -/

/-- A compare table (R226). A host write of EN gives its actions lineage 0 (R531). -/
def State.wTbl (s : State) (t a : Nat) (v : Word) : State :=
  if a = rSchTblCfg t then
    let len := fget v 0 13
    let w := if len = 0 ∨ 4096 < len then fset v 0 13 (clampNat 1 4096 len) else v
    let s1 := s.putReg a w
    let s2 := if s1.bit a 31 == s.bit a 31 then s1 else s1.setTblLin t 0#64
    s2.tblChanged t (if s.structDiff s1 a then [] else s.liveNow t)
  else if a = rSchTblEcmd t then
    let s1 := if v.getLsbD 0 then s.entryWrite t else s
    if v.getLsbD 1 then s1.entryRead t else s1
  else s.putReg a v

/-- An axis: SET_HI loads the count (R248), SET_LO waits for it, and ENC_EN and MODE switch the supply (R247). -/
def State.wAxis (s : State) (n a : Nat) (v : Word) : State :=
  if a = rSchAxSetLo n then s.wr a v
  else if a = rSchAxSetHi n then s.axisSet n v
  else if a = rSchAxCfg n then
    let s1 := s.putReg a v
    (if s1.axMode n = s.axMode n then s1 else s1.axRestart n).syncSup n
  else s.putReg a v

/-- The trigger axis: CLR clears the count (R230). -/
def State.wA6 (s : State) (a : Nat) (v : Word) : State :=
  if a = rSchA6Cfg then
    if s.capture && v.getLsbD 31 then s.violation a else (s.putReg a v).a6Clear v
  else s.putReg a v

/-- A head of the Schedule: while capture runs a write to a settings set that is current or pending is refused (R214). -/
def State.wSchHead (s : State) (n a : Nat) (v : Word) : State :=
  let k := (a - rSchHdEpId n 0) / 8
  let set := decide (rSchHdEpId n 0 ≤ a) && decide (a ≤ rSchHdEpDur n 3)
  let used := s.fld (rSchHdEpstat n) 24 2 == k || (s.bit (rSchHdEpstat n) 31 && s.fld (rSchHdEpstat n) 28 2 == k)
  if set then s.putUnless (s.capture && used) a v
  else s.putReg a (if a = rSchHdMargin n then nonZero v 16 16 else v)

/-- A stream's window (R219, R221, R228). The bits of CMD act in ascending order (log entry 38). -/
def State.wSchStr (s : State) (o a : Nat) (v : Word) : State :=
  let i := (o - 0x1000) / 0x40
  if o < 0x1000 then s
  else if a = rSchStrCmd i then
    let s1 := if v.getLsbD 0 then s.arm i else s
    let s2 := if v.getLsbD 1 then s1.stop i 0#64 else s1
    if v.getLsbD 2 then s2.trigger i s2.nowTu 0#64 else s2
  else if a = rSchStrWin i ∨ a = rSchStrPre i then s.putUnless (s.winState i != 0) a v
  else if a = rSchStrPost i then s.putUnless (s.winState i != 0) a (nonZero v 0 24)
  else s.putReg a v

/-! ### Pixel clusters (5 to 8) -/

/-- The value that a pair of curve limits would have after a write (R297): HI must lie above LO. -/
def State.limitsBad (s : State) (c a : Nat) (v : Word) : Bool :=
  if a = rPixShpLo c then fle (s.shd (rPixShpHi c)) v
  else if a = rPixShpHi c then fle v (s.shd (rPixShpLo c))
  else if a = rPixOcLo c then fle (s.shd (rPixOcHi c)) v
  else if a = rPixOcHi c then fle v (s.shd (rPixOcLo c))
  else false

/-- A write that R294, R297 or R301 refuses whatever the state. -/
def State.pixRefuses (s : State) (c a : Nat) (v : Word) : Bool :=
  (a == rPixEps c && !fposFinite v) || s.limitsBad c a v ||
  (a == rPixPxFmt c && decide (fget v 16 16 < fget (s.imgVal a) 16 16))

/-- Cluster `c`. The stream registers hold one value for the whole stream: the lead's copy goes to every serving cluster,
another copy refuses the write (R286). -/
def State.wPix (s : State) (c a : Nat) (v0 : Word) : State :=
  let v := if a = rPixPxFmt c then nonZero v0 16 16 else v0
  let i := s.fld (rPixCfg c) 24 6
  if a = rPixSwap c then s.pixSwap c v
  else if a = rPixCfg c then
    let t := s.putReg a v
    let t1 := if s.pixServes c (t.fld a 24 6) then t else [1, 2, 3].foldl (fun (x : State) u => x.joinStream [] c u) t
    s.settlePix t1 a
  else if a = rPixStripe c then s.settlePix (s.putReg a v) a
  else if s.pixServes c i && s.lead i != some c then s.violation a
  else if s.pixRefuses c a v then s.violation a
  else if s.pixServes c i then
    s.settlePix (s.forEach (s.servers i) (fun t d => t.pixPut i (a - c * 0x400000 + d * 0x400000) v)) a
  else s.settlePix (s.pixPut i a v) a

/-! ### Correlation and compression (clusters 9 and 11) -/

/-- Jobs (R341, R352): CMD and RDPTR in any state, the others only while the job is IDLE. -/
def State.wCorJob (s : State) (o a : Nat) (v : Word) : State :=
  let j := (o - 0x1000) / 0x100
  if o < 0x1000 ∨ 4 ≤ j then s
  else if a = rCorJCmd j then
    if v.getLsbD 1 then s.jobStop j else if v.getLsbD 0 then s.jobStart j else s
  else if a = rCorJRdptr j then (s.putReg a v).corRun
  else s.putUnless (s.corState j != 0) a v

/-- Gauges (R353): CFG and CTX only while the gauge's job is IDLE. -/
def State.wCorGauge (s : State) (o a : Nat) (v : Word) : State :=
  let g := (o - 0x1000) / 0x20
  if o < 0x1000 ∨ 64 ≤ g then s
  else if a = rCorGCfg g ∨ a = rCorGCtx g then s.putUnless (s.corState (s.fld (rCorGCfg g) 24 2) != 0) a v
  else s.putReg a v

/-- The queue of CMP (R364, R374). While EN is 1 the registers of the ring refuse a write, but for one that clears EN:
the rule gives it its effect, and LOG2SIZE stays (log entry 39). -/
def State.wCmp (s : State) (a : Nat) (v : Word) : State :=
  let en := s.bit rCmpQcfg 31
  if a = rCmpQtail then s.qtailWrite v
  else if a = rCmpQbase then s.putUnless en a v
  else if a = rCmpQcfg then
    if en && !v.getLsbD 31 then s.setBit rCmpQcfg 31 false else s.putUnless en a v
  else s.putReg a v

/-! ### Video (cluster 10) -/

/-- An encoder channel (R395, R404): CMD, REQ and RDPTR in any state; RWS fields at any time; the others only while the
channel is IDLE. -/
def State.wEnc (s : State) (c a : Nat) (v : Word) : State :=
  if a = rVidEncCmd c then
    if v.getLsbD 1 then s.encStop c else if v.getLsbD 0 then s.encStart c else s
  else if a = rVidEncReq c then s.encReq c v
  else if a = rVidEncRdptr c then s.encRdptr c v
  else
    let fixed := match rowAt a with
      | some r => r.mask .rw ||| r.mask .st
      | none => 0#32
    let mixed := a == rVidEncCfg c && (s.rd a ^^^ v) &&& fixed == 0#32
    s.putUnless (s.encState c != 0 && fixed != 0#32 && !mixed) a v

/-- A decoder channel (R397, R405). -/
def State.wDec (s : State) (d a : Nat) (v : Word) : State :=
  if a = rVidDecCmd d then
    let s1 := if v.getLsbD 0 then s.decStart d else s
    let s2 := if v.getLsbD 1 then s1.decStop d else s1
    if v.getLsbD 2 then s2.decEos d else s2
  else if a = rVidDecInwr d then s.inwrWrite d v
  else s.putUnless (s.decState d != 0) a v

/-- RTP (R406). -/
def State.wRtp (s : State) (o a : Nat) (v : Word) : State :=
  let c := (o - 0x1000) / 0x100
  if o < 0x1000 ∨ 8 ≤ c then s
  else s.putUnless (a != rVidRtpPace c && s.rtpEn c && s.encState c == 1) a v

/-! ### Host interface (cluster 12) -/

/-- CC (R456, R121; bits of NVMe: log entry 35): EN enables or resets the controller, SHN shuts it down. -/
def State.ccWrite (s : State) (v0 : Word) : State :=
  let v := v0 &&& 0x00FFFFF1#32
  if !s.ctlUp then s
  else if s.hst.cc.getLsbD 0 && !v.getLsbD 0 then
    let s1 := s.ctlReset
    s1.setHst { s1.hst with cc := v }
  else if !s.hst.cc.getLsbD 0 && v.getLsbD 0 then s.ctlEnable v
  else
    let s1 := if fget v 14 2 = fget s.hst.cc 14 2 then s else s.shutdown (fget v 14 2)
    s1.setHst { s1.hst with cc := v }

/-- The 32-bit half of a 64-bit value replaced. -/
def setHalf (q : BitVec 64) (hi : Bool) (v : Word) : BitVec 64 :=
  if hi then v ++ q.setWidth 32 else (q >>> 32).setWidth 32 ++ v

/-- A write of BAR0 (R444): the NVMe registers, the doorbells, the MSI-X table. -/
def State.nvmeWrite (s : State) (o : Nat) (v : Word) : State :=
  let h := s.hst
  if 0x2000 ≤ o then (if o < 0x2500 then s.mxWrite ((o - 0x2000) / 4) v else s)
  else if 0x1000 ≤ o then s.doorbell o v
  else match o with
  | 0x0C => s.setHst { h with intm := h.intm ||| v }
  | 0x10 => s.setHst { h with intm := h.intm &&& ~~~ v }
  | 0x14 => s.ccWrite v
  | 0x20 => if s.ctlUp = true ∧ v = 0x4E564D65#32 then s.moduleRst 4 else s
  | 0x24 => s.setHst { h with aqa := v &&& 0x0FFF0FFF#32 }
  | 0x28 => s.setHst { h with asq := setHalf h.asq false (v &&& 0xFFFFF000#32) }
  | 0x2C => s.setHst { h with asq := setHalf h.asq true v }
  | 0x30 => s.setHst { h with acq := setHalf h.acq false (v &&& 0xFFFFF000#32) }
  | 0x34 => s.setHst { h with acq := setHalf h.acq true v }
  | _ => s

/-- Unit 2: a change of a region's class or of the ledger region changes the namespaces (R457, R461). -/
def State.wNvme (s : State) (a : Nat) (v : Word) : State := (s.putReg a v).noticeNs s.nsMarks

/-! ### Network and the Mint (cluster 13) -/

/-- The Mint (R472). -/
def State.wMint (s : State) (a : Nat) (v : Word) : State := if a = rMintCmd then s.mintCmd v else s.putReg a v

/-- A port: TAIL and MODI2C, and the rings, whose BASE and LOG2 stay while the queue is enabled (R482, R490). -/
def State.wNetPort (s : State) (m o a : Nat) (v : Word) : State :=
  if a = rNetPortModi2c m then s.modI2c m v
  else if a = rNetPortCfg m then (s.putReg a v).syncUp m
  else if o < 0x100 then s.putReg a v
  else
    let r := if o < 0x180 then (o - 0x100) / 0x20 else 3 + (o - 0x180) / 0x20
    let k := o % 0x20
    if k = 0x10 then s.ringTailWrite m r v
    else if k = 0x08 then s.putUnless (s.ringEn m r && fget v 0 4 != s.fld a 0 4) a v
    else s.putUnless (s.ringEn m r && decide (k < 8)) a v

/-! ### Display and audio (cluster 14) -/

/-- A display head (R498, R501, R503, R507 to R510). COMMIT acts before STOP or START of the same write (log entry 38). -/
def State.wDh (s : State) (d o a : Nat) (v : Word) : State :=
  let busy := s.dhState d != 0
  if a = rOutDhCmd d then
    let s1 := if v.getLsbD 2 then s.dhCommit d else s
    if v.getLsbD 1 then s1.dhStop d else if v.getLsbD 0 then s1.dhStart d else s1
  else if a = rOutDhOd d then s.putUnless (decide (fget v 0 16 ≤ fget v 16 16)) a v
  else if d = 0 ∧ 0x30 ≤ o ∧ o < 0x48 then s.putUnless busy a v
  else if d = 0 ∧ a = rOutDh0Psr 0 then
    (((s.putReg a v).setBit (rOutDhStat 0) 17 false).setDh 0 { s.dh 0 with fails := 0 })
  else if d ≠ 0 ∧ a = rOutDhSdifmt d then s.putUnless busy a v
  else s.putReg a v

/-- An AES3 receiver (R522). -/
def State.wAesRx (s : State) (n a : Nat) (v : Word) : State :=
  if a = rOutAesrxCfg n ∨ a = rOutAesrxRing n then s.aesRxCfg n a v else s.putReg a v

/-- The AES3 transmitter (R519, R523). -/
def State.wAesTx (s : State) (a : Nat) (v : Word) : State :=
  if a = rOutAestxCmd then
    if v.getLsbD 1 then s.aesTxStop else if v.getLsbD 0 then s.aesTxStart else s
  else if a = rOutAestxTail then s.aesTail v
  else s.putUnless (s.txState == 2) a v

/-! ### Services (cluster 15) -/

/-- The Clearing House (R526, R529, R536, R537): EN of a channel without a consumer stays 0. -/
def State.wCh (s : State) (o a : Nat) (v : Word) : State :=
  let n := (o - 0x1000) / 0x80
  if a = rSvcChFireLo then s.softFire false v
  else if a = rSvcChFireHi then s.softFire true v
  else if a = rSvcChLatchSet then s.latchSet v
  else
    let s1 := s.putReg a v
    if 0x1000 ≤ o ∧ a = rSvcChCfg n ∧ v.getLsbD 31 ∧ !s1.chanOk n then
      let s2 := s1.setBit a 31 false
      if s1.fld rDevSvCnt 0 16 = s.fld rDevSvCnt 0 16 then s2.violation a else s2
    else s1

/-- The Auditor (R541, R548, R555, R571). -/
def State.wAud (s : State) (o a : Nat) (v : Word) : State :=
  if a = rSvcAudFence then s.hostFence v
  else if a = rSvcAudInjsel then s.injWrite true v
  else if a = rSvcAudInj then s.injWrite false v
  else if 0x1000 ≤ o ∧ o < 0x1900 then s.srcWrite ((o - 0x1000) / 8) (o % 8 == 4) v
  else s.putReg a v

/-! ### The bus -/

/-- A write to unit `n` of a kind, at offset `o`, address `a`. -/
def State.writeUnit (s : State) (k : Kind) (n o a : Nat) (v : Word) : State :=
  match k with
  | .dev => s.wDev a v
  | .clctl => if o = 0x30 then s.clusterReset (clusterOf a) v else s.putReg a v
  | .vault => s.wVault a v
  | .memCore => s.wMem o a v
  | .memSc => s.wSc n a v
  | .lnkPort => s.wPort n a v
  | .lnkLane => s.wLane n a v
  | .ingPort => s.wIngPort n a v
  | .ingStr => s.wIngStr o a v
  | .ingRec => s.wIngRec o a v
  | .schCore => if a = rSchEpcommit then s.epCommit v else s.putReg a v
  | .schTbl => s.wTbl n a v
  | .schAxis => s.wAxis n a v
  | .schA6 => s.wA6 a v
  | .schHead => s.wSchHead n a v
  | .schA5 => (s.putReg a v).syncA5
  | .schStr => s.wSchStr o a v
  | .pixCore => s.wPix n a v
  | .pixTally => s.wPix n a v
  | .pixScl => s.wPix n a v
  | .corJob => s.wCorJob o a v
  | .corGauge => s.wCorGauge o a v
  | .vidEnc => s.wEnc n a v
  | .vidDec => s.wDec n a v
  | .vidRtp => s.wRtp o a v
  | .cmpCore => s.wCmp a v
  | .hstNvme => s.wNvme a v
  | .mint => s.wMint a v
  | .netPort => s.wNetPort n o a v
  | .edp => s.wDh 0 o a v
  | .sdi => s.wDh (n + 1) o a v
  | .aesRx => s.wAesRx n a v
  | .aesTx => s.wAesTx a v
  | .ch => s.wCh o a v
  | .aud => s.wAud o a v
  | .pwr => if a = rSvcHpwrCtl then s.hpwrCtl v else s.putReg a v
  | _ => s.putReg a v

/-- A 32-bit write of the BAR2 window at a multiple of 4. Absent, disabled and fenced units discard it (R2, R38, R71), and
so do offsets without a register. -/
def State.busWrite (s : State) (a : Nat) (v : Word) : State :=
  let c := clusterOf a
  let u := unitOf a
  let o := offOf a
  if !s.reaches c || !s.unitLive c u then s
  else match kindOf c u with
  | none => s
  | some (k, n) =>
    if mirror c u o then s.nvmeWrite (o - 0x4000) v
    else if (rowAt a).isNone || blockGone s.variant k o then s
    else s.writeUnit k n o a v

/-- REGISTER_WRITE (R9, R11, R88): naturally aligned, 64 bits as two writes of 32 bits, the lower first; a half of which
only some byte enables are set is discarded. -/
def execRegisterWrite (addr : BitVec 26) (be : BitVec 8) (wide : Bool) (lo hi : Word) (s : State) :
    Host.Outcome State Fault Refusal :=
  let a := addr.toNat
  if a % (if wide then 8 else 4) ≠ 0 then .next s
  else
    let s1 := if be.setWidth 4 = 0xF#4 then s.busWrite a lo else s
    .next (if wide ∧ (be >>> 4).setWidth 4 = 0xF#4 then s1.busWrite (a + 4) hi else s1)

end Sys2Proof.Machine
end

