-- ==== Sys2Proof/Machine/Dispatch.lean ====
section
/-! DEFINITION. Which meaning each command has: one arm per constructor of Instr. -/

namespace Sys2Proof.Machine

open Sys2Proof

def exec (i : Instr) (s : State) : Host.Outcome State Fault Refusal :=
  match i with
  | .powerFailWarning byLine => Sys2Proof.Machine.execPowerFailWarning byLine s
  | .pfwDeassert => Sys2Proof.Machine.execPfwDeassert s
  | .railsFall => Sys2Proof.Machine.execRailsFall s
  | .retentionLost => Sys2Proof.Machine.execRetentionLost s
  | .retentionInputChange inRange => Sys2Proof.Machine.execRetentionInputChange inRange s
  | .coldReset retSeconds => Sys2Proof.Machine.execColdReset retSeconds s
  | .startAbandoned => Sys2Proof.Machine.execStartAbandoned s
  | .powerGood testEn => Sys2Proof.Machine.execPowerGood testEn s
  | .selftestComplete pass => Sys2Proof.Machine.execSelftestComplete pass s
  | .slotCheckComplete readOk => Sys2Proof.Machine.execSlotCheckComplete readOk s
  | .trainingComplete failed failStep => Sys2Proof.Machine.execTrainingComplete failed failStep s
  | .framesApplied => Sys2Proof.Machine.execFramesApplied s
  | .release railsOk audOk hstOk => Sys2Proof.Machine.execRelease railsOk audOk hstOk s
  | .moduleReset v => Sys2Proof.Machine.execModuleReset v s
  | .nvmSubsystemReset v => Sys2Proof.Machine.execNvmSubsystemReset v s
  | .brownoutReset => Sys2Proof.Machine.execBrownoutReset s
  | .lossOfMainsClose => Sys2Proof.Machine.execLossOfMainsClose s
  | .lossOfMainsSelfRefresh => Sys2Proof.Machine.execLossOfMainsSelfRefresh s
  | .clusterReset cl v => Sys2Proof.Machine.execClusterReset cl v s
  | .clusterResetComplete cl => Sys2Proof.Machine.execClusterResetComplete cl s
  | .perstAssert => Sys2Proof.Machine.execPerstAssert s
  | .perstDeassert => Sys2Proof.Machine.execPerstDeassert s
  | .powerSupervisorEvaluate inputMw => Sys2Proof.Machine.execPowerSupervisorEvaluate inputMw s
  | .stepPwrSlower => Sys2Proof.Machine.execStepPwrSlower s
  | .stepPwrFaster => Sys2Proof.Machine.execStepPwrFaster s
  | .headOutputMeasure meas => Sys2Proof.Machine.execHeadOutputMeasure meas s
  | .tripOc head => Sys2Proof.Machine.execTripOc head s
  | .tripUv head => Sys2Proof.Machine.execTripUv head s
  | .tripTotal => Sys2Proof.Machine.execTripTotal s
  | .headOutputStart head => Sys2Proof.Machine.execHeadOutputStart head s
  | .headOutputOn head => Sys2Proof.Machine.execHeadOutputOn head s
  | .headPresenceChange head present => Sys2Proof.Machine.execHeadPresenceChange head present s
  | .svcHpwrCtlWrite v => Sys2Proof.Machine.execSvcHpwrCtlWrite v s
  | .stepLimitWrite v => Sys2Proof.Machine.execStepLimitWrite v s
  | .clockSwitch => Sys2Proof.Machine.execClockSwitch s
  | .stepChanged => Sys2Proof.Machine.execStepChanged s
  | .boundaryPoint stream => Sys2Proof.Machine.execBoundaryPoint stream s
  | .tallyWrite stream => Sys2Proof.Machine.execTallyWrite stream s
  | .registerWrite addr be wide lo hi => Sys2Proof.Machine.execRegisterWrite addr be wide lo hi s
  | .readToClear addr wide => Sys2Proof.Machine.execReadToClear addr wide s
  | .captureRead addr => Sys2Proof.Machine.execCaptureRead addr s
  | .nop => Sys2Proof.Machine.execNop s
  | .loadEscrow arg => Sys2Proof.Machine.execLoadEscrow arg s
  | .escrowReady readOk => Sys2Proof.Machine.execEscrowReady readOk s
  | .activate => Sys2Proof.Machine.execActivate s
  | .cancel => Sys2Proof.Machine.execCancel s
  | .selftest => Sys2Proof.Machine.execSelftest s
  | .selftestDone pass => Sys2Proof.Machine.execSelftestDone pass s
  | .floorAdvance arg => Sys2Proof.Machine.execFloorAdvance arg s
  | .revoke arg => Sys2Proof.Machine.execRevoke arg s
  | .zeroize arg => Sys2Proof.Machine.execZeroize arg s
  | .swapPoint => Sys2Proof.Machine.execSwapPoint s
  | .holdTimeout => Sys2Proof.Machine.execHoldTimeout s
  | .signatureComplete => Sys2Proof.Machine.execSignatureComplete s
  | .vaultError => Sys2Proof.Machine.execVaultError s
  | .controlChannelSync port => Sys2Proof.Machine.execControlChannelSync port s
  | .controlSyncLoss port => Sys2Proof.Machine.execControlSyncLoss port s
  | .ctlSyncTimeout port => Sys2Proof.Machine.execCtlSyncTimeout port s
  | .cdrLock port => Sys2Proof.Machine.execCdrLock port s
  | .ctleSweepDone port heights => Sys2Proof.Machine.execCtleSweepDone port heights s
  | .dfeConverged port taps => Sys2Proof.Machine.execDfeConverged port taps s
  | .amLock port => Sys2Proof.Machine.execAmLock port s
  | .portUp port skewNs => Sys2Proof.Machine.execPortUp port skewNs s
  | .trainingTimeout port failedLanes => Sys2Proof.Machine.execTrainingTimeout port failedLanes s
  | .laneFault port lane => Sys2Proof.Machine.execLaneFault port lane s
  | .retrain port => Sys2Proof.Machine.execRetrain port s
  | .codewordDecode lane symbols => Sys2Proof.Machine.execCodewordDecode lane symbols s
  | .packetReceive port => Sys2Proof.Machine.execPacketReceive port s
  | .dfeUpdate lane signE signD => Sys2Proof.Machine.execDfeUpdate lane signE signD s
  | .eyeScanStart lane v => Sys2Proof.Machine.execEyeScanStart lane v s
  | .eyeScanAbort lane => Sys2Proof.Machine.execEyeScanAbort lane s
  | .eyeScanPoint lane errors => Sys2Proof.Machine.execEyeScanPoint lane errors s
  | .headWrite port => Sys2Proof.Machine.execHeadWrite port s
  | .headRead port => Sys2Proof.Machine.execHeadRead port s
  | .wrAck port bytes k297 => Sys2Proof.Machine.execWrAck port bytes k297 s
  | .rdData port bytes k297 => Sys2Proof.Machine.execRdData port bytes k297 s
  | .trainAck port bytes k297 => Sys2Proof.Machine.execTrainAck port bytes k297 s
  | .epochAck port bytes k297 => Sys2Proof.Machine.execEpochAck port bytes k297 s
  | .hevent port bytes k297 => Sys2Proof.Machine.execHevent port bytes k297 s
  | .nak port bytes k297 => Sys2Proof.Machine.execNak port bytes k297 s
  | .controlResponseTimeout port => Sys2Proof.Machine.execControlResponseTimeout port s
  | .fsReceive port => Sys2Proof.Machine.execFsReceive port s
  | .expReceive port => Sys2Proof.Machine.execExpReceive port s
  | .lineReceive port => Sys2Proof.Machine.execLineReceive port s
  | .metadataReceive port => Sys2Proof.Machine.execMetadataReceive port s
  | .sensorStatusReceive port => Sys2Proof.Machine.execSensorStatusReceive port s
  | .feReceive port => Sys2Proof.Machine.execFeReceive port s
  | .nofsTimeout head => Sys2Proof.Machine.execNofsTimeout head s
  | .frameTimeout stream => Sys2Proof.Machine.execFrameTimeout stream s
  | .tapStart stream => Sys2Proof.Machine.execTapStart stream s
  | .groupMaskWrite g v => Sys2Proof.Machine.execGroupMaskWrite g v s
  | .ledgerEntryWrite part => Sys2Proof.Machine.execLedgerEntryWrite part s
  | .entryWrite t => Sys2Proof.Machine.execEntryWrite t s
  | .entryRead t => Sys2Proof.Machine.execEntryRead t s
  | .crossing t e rising tx => Sys2Proof.Machine.execCrossing t e rising tx s
  | .edgeCommit t e => Sys2Proof.Machine.execEdgeCommit t e s
  | .expose t e => Sys2Proof.Machine.execExpose t e s
  | .triggerPulseEnd head => Sys2Proof.Machine.execTriggerPulseEnd head s
  | .strobe t e => Sys2Proof.Machine.execStrobe t e s
  | .strobeEnd so => Sys2Proof.Machine.execStrobeEnd so s
  | .mark t e => Sys2Proof.Machine.execMark t e s
  | .fire t e => Sys2Proof.Machine.execFire t e s
  | .epcommit v => Sys2Proof.Machine.execEpcommit v s
  | .arm stream => Sys2Proof.Machine.execArm stream s
  | .stop stream => Sys2Proof.Machine.execStop stream s
  | .trig stream => Sys2Proof.Machine.execTrig stream s
  | .strTrig stream => Sys2Proof.Machine.execStrTrig stream s
  | .strStop stream => Sys2Proof.Machine.execStrStop stream s
  | .tblEn t => Sys2Proof.Machine.execTblEn t s
  | .tblDis t => Sys2Proof.Machine.execTblDis t s
  | .segmentClose part => Sys2Proof.Machine.execSegmentClose part s
  | .mainsZeroCrossing stamp => Sys2Proof.Machine.execMainsZeroCrossing stamp s
  | .a5UnlockTimeout => Sys2Proof.Machine.execA5UnlockTimeout s
  | .triggerInputEdge n level stamp => Sys2Proof.Machine.execTriggerInputEdge n level stamp s
  | .a6Clear v => Sys2Proof.Machine.execA6Clear v s
  | .quadEdge ax a b stamp => Sys2Proof.Machine.execQuadEdge ax a b stamp s
  | .indexLatch ax => Sys2Proof.Machine.execIndexLatch ax s
  | .hallSectorChange ax u v w stamp => Sys2Proof.Machine.execHallSectorChange ax u v w stamp s
  | .wireFault ax => Sys2Proof.Machine.execWireFault ax s
  | .wireRecovery ax => Sys2Proof.Machine.execWireRecovery ax s
  | .serialReadStart ax stamp datHigh => Sys2Proof.Machine.execSerialReadStart ax stamp datHigh s
  | .serialReadDone ax bits => Sys2Proof.Machine.execSerialReadDone ax bits s
  | .serTimeout ax => Sys2Proof.Machine.execSerTimeout ax s
  | .standstill ax => Sys2Proof.Machine.execStandstill ax s
  | .supplyFoldback ax mA => Sys2Proof.Machine.execSupplyFoldback ax mA s
  | .supplyRecovery ax mA => Sys2Proof.Machine.execSupplyRecovery ax mA s
  | .axisSet ax v => Sys2Proof.Machine.execAxisSet ax v s
  | .segmentRelease part v => Sys2Proof.Machine.execSegmentRelease part v s
  | .erase part => Sys2Proof.Machine.execErase part s
  | .pixSwap pix v => Sys2Proof.Machine.execPixSwap pix v s
  | .jobStart j => Sys2Proof.Machine.execJobStart j s
  | .jobStop j => Sys2Proof.Machine.execJobStop j s
  | .preparationDone j => Sys2Proof.Machine.execPreparationDone j s
  | .trackedFrameEnd => Sys2Proof.Machine.execTrackedFrameEnd s
  | .gaugeEvaluate g => Sys2Proof.Machine.execGaugeEvaluate g s
  | .qtailWrite v => Sys2Proof.Machine.execQtailWrite v s
  | .compress eng => Sys2Proof.Machine.execCompress eng s
  | .decompress eng => Sys2Proof.Machine.execDecompress eng s
  | .destrip eng => Sys2Proof.Machine.execDestrip eng s
  | .jobResume eng => Sys2Proof.Machine.execJobResume eng s
  | .blockBoundary eng => Sys2Proof.Machine.execBlockBoundary eng s
  | .encoderStart c => Sys2Proof.Machine.execEncoderStart c s
  | .encoderStop c => Sys2Proof.Machine.execEncoderStop c s
  | .requestIdr c => Sys2Proof.Machine.execRequestIdr c s
  | .requestRefresh c => Sys2Proof.Machine.execRequestRefresh c s
  | .requestHeader c => Sys2Proof.Machine.execRequestHeader c s
  | .markLt c slot => Sys2Proof.Machine.execMarkLt c slot s
  | .clearLt c mask => Sys2Proof.Machine.execClearLt c mask s
  | .useLt c mask => Sys2Proof.Machine.execUseLt c mask s
  | .pictureStart core => Sys2Proof.Machine.execPictureStart core s
  | .sliceOutput c => Sys2Proof.Machine.execSliceOutput c s
  | .encoderRdptrWrite c v => Sys2Proof.Machine.execEncoderRdptrWrite c v s
  | .decoderStart d => Sys2Proof.Machine.execDecoderStart d s
  | .decoderStop d => Sys2Proof.Machine.execDecoderStop d s
  | .decoderEos d => Sys2Proof.Machine.execDecoderEos d s
  | .inwrWrite d v => Sys2Proof.Machine.execInwrWrite d v s
  | .decodedPicture d => Sys2Proof.Machine.execDecodedPicture d s
  | .decodeWatchdog d => Sys2Proof.Machine.execDecodeWatchdog d s
  | .rtpPacketSend c => Sys2Proof.Machine.execRtpPacketSend c s
  | .portRequest port isWrite addr len data locked => Sys2Proof.Machine.execPortRequest port isWrite addr len data locked s
  | .writeRetire sc bank => Sys2Proof.Machine.execWriteRetire sc bank s
  | .readDecode sc local_ errs => Sys2Proof.Machine.execReadDecode sc local_ errs s
  | .refreshDue sc b => Sys2Proof.Machine.execRefreshDue sc b s
  | .coinRefill => Sys2Proof.Machine.execCoinRefill s
  | .floorEntry => Sys2Proof.Machine.execFloorEntry s
  | .scrubRead sc errs => Sys2Proof.Machine.execScrubRead sc errs s
  | .periodicTraining sc drift => Sys2Proof.Machine.execPeriodicTraining sc drift s
  | .srEntered => Sys2Proof.Machine.execSrEntered s
  | .selfRefreshExit => Sys2Proof.Machine.execSelfRefreshExit s
  | .srExited => Sys2Proof.Machine.execSrExited s
  | .dramHot sc => Sys2Proof.Machine.execDramHot sc s
  | .doorbellWrite off v => Sys2Proof.Machine.execDoorbellWrite off v s
  | .commandFetch q cmds => Sys2Proof.Machine.execCommandFetch q cmds s
  | .dataTransferStart q cid => Sys2Proof.Machine.execDataTransferStart q cid s
  | .nvmRead q cid => Sys2Proof.Machine.execNvmRead q cid s
  | .nvmWrite q cid => Sys2Proof.Machine.execNvmWrite q cid s
  | .nvmFlush q cid => Sys2Proof.Machine.execNvmFlush q cid s
  | .firmwareImageDownload cid => Sys2Proof.Machine.execFirmwareImageDownload cid s
  | .commitVerify cid => Sys2Proof.Machine.execCommitVerify cid s
  | .commitVerifySelect cid => Sys2Proof.Machine.execCommitVerifySelect cid s
  | .commitSelect cid => Sys2Proof.Machine.execCommitSelect cid s
  | .commitActivate cid => Sys2Proof.Machine.execCommitActivate cid s
  | .officerAuth cid => Sys2Proof.Machine.execOfficerAuth cid s
  | .readKey cid => Sys2Proof.Machine.execReadKey cid s
  | .readAkCert cid => Sys2Proof.Machine.execReadAkCert cid s
  | .nsMap cid => Sys2Proof.Machine.execNsMap cid s
  | .setPowerState cid => Sys2Proof.Machine.execSetPowerState cid s
  | .setArbitration cid => Sys2Proof.Machine.execSetArbitration cid s
  | .setNumberOfQueues cid => Sys2Proof.Machine.execSetNumberOfQueues cid s
  | .setApst cid => Sys2Proof.Machine.execSetApst cid s
  | .setAsyncEventConfig cid => Sys2Proof.Machine.execSetAsyncEventConfig cid s
  | .createIoCompletionQueue cid => Sys2Proof.Machine.execCreateIoCompletionQueue cid s
  | .identifyNamespace cid => Sys2Proof.Machine.execIdentifyNamespace cid s
  | .getLogFaultLedger cid => Sys2Proof.Machine.execGetLogFaultLedger cid s
  | .getLogFirmwareSlot cid => Sys2Proof.Machine.execGetLogFirmwareSlot cid s
  | .asynchronousEventRequest cid => Sys2Proof.Machine.execAsynchronousEventRequest cid s
  | .controllerEnable cc => Sys2Proof.Machine.execControllerEnable cc s
  | .controllerReset => Sys2Proof.Machine.execControllerReset s
  | .shutdownNotification shn => Sys2Proof.Machine.execShutdownNotification shn s
  | .shutdownComplete => Sys2Proof.Machine.execShutdownComplete s
  | .apstTransition => Sys2Proof.Machine.execApstTransition s
  | .pcieLinkUp speed width => Sys2Proof.Machine.execPcieLinkUp speed width s
  | .pcieLinkDown => Sys2Proof.Machine.execPcieLinkDown s
  | .mintSet => Sys2Proof.Machine.execMintSet s
  | .mintStep => Sys2Proof.Machine.execMintStep s
  | .mintRate => Sys2Proof.Machine.execMintRate s
  | .holdover => Sys2Proof.Machine.execHoldover s
  | .ppsInEdge stamp => Sys2Proof.Machine.execPpsInEdge stamp s
  | .ppsMissing => Sys2Proof.Machine.execPpsMissing s
  | .ppsOutPulse => Sys2Proof.Machine.execPpsOutPulse s
  | .ppsOutEnd => Sys2Proof.Machine.execPpsOutEnd s
  | .ethernetLinkChange port blockLock fecLock localFault remoteFault rxLos => Sys2Proof.Machine.execEthernetLinkChange port blockLock fecLock localFault remoteFault rxLos s
  | .cageChange port modAbs txFault rxLos => Sys2Proof.Machine.execCageChange port modAbs txFault rxLos s
  | .ethernetFrameReceive port frame stamp desc => Sys2Proof.Machine.execEthernetFrameReceive port frame stamp desc s
  | .ethernetFrameTransmit port queue desc frame stamp => Sys2Proof.Machine.execEthernetFrameTransmit port queue desc frame stamp s
  | .ringTailWrite port ring v => Sys2Proof.Machine.execRingTailWrite port ring v s
  | .moduleI2cAccess port v => Sys2Proof.Machine.execModuleI2cAccess port v s
  | .moduleI2cDone port ack data => Sys2Proof.Machine.execModuleI2cDone port ack data s
  | .displayStart d => Sys2Proof.Machine.execDisplayStart d s
  | .displayStop d => Sys2Proof.Machine.execDisplayStop d s
  | .displayCommit d => Sys2Proof.Machine.execDisplayCommit d s
  | .displayFrameStart d psrAck => Sys2Proof.Machine.execDisplayFrameStart d psrAck s
  | .hpdHigh => Sys2Proof.Machine.execHpdHigh s
  | .hpdTimeout => Sys2Proof.Machine.execHpdTimeout s
  | .edpLinkTrained ok => Sys2Proof.Machine.execEdpLinkTrained ok s
  | .hpdLost => Sys2Proof.Machine.execHpdLost s
  | .hpdPulse lockLost => Sys2Proof.Machine.execHpdPulse lockLost s
  | .panelPowerOff => Sys2Proof.Machine.execPanelPowerOff s
  | .headIdle => Sys2Proof.Machine.execHeadIdle s
  | .underrun d layer => Sys2Proof.Machine.execUnderrun d layer s
  | .aesBlockStart rx stamp frames fs => Sys2Proof.Machine.execAesBlockStart rx stamp frames fs s
  | .aesLockChange rx lock rate frames => Sys2Proof.Machine.execAesLockChange rx lock rate frames s
  | .aesTxStart => Sys2Proof.Machine.execAesTxStart s
  | .aesTxStop => Sys2Proof.Machine.execAesTxStop s
  | .aesTxPreamble stamp => Sys2Proof.Machine.execAesTxPreamble stamp s
  | .aesTxTailWrite v => Sys2Proof.Machine.execAesTxTailWrite v s
  | .channelEvent n => Sys2Proof.Machine.execChannelEvent n s
  | .softwareFire hi v => Sys2Proof.Machine.execSoftwareFire hi v s
  | .setLatch k => Sys2Proof.Machine.execSetLatch k s
  | .clrLatch k => Sys2Proof.Machine.execClrLatch k s
  | .latchSetWrite v => Sys2Proof.Machine.execLatchSetWrite v s
  | .channelStrobe so => Sys2Proof.Machine.execChannelStrobe so s
  | .auditorEvent => Sys2Proof.Machine.execAuditorEvent s
  | .windowExpiry x => Sys2Proof.Machine.execWindowExpiry x s
  | .hostFence v => Sys2Proof.Machine.execHostFence v s
  | .safeStateClose => Sys2Proof.Machine.execSafeStateClose s
  | .safeStateClockStop => Sys2Proof.Machine.execSafeStateClockStop s
  | .sourceConfigWrite x win v => Sys2Proof.Machine.execSourceConfigWrite x win v s
  | .injectionWrite sel v => Sys2Proof.Machine.execInjectionWrite sel v s
  | .aliveHalfPeriod heartbeat => Sys2Proof.Machine.execAliveHalfPeriod heartbeat s
  | .lockstepDisagreement => Sys2Proof.Machine.execLockstepDisagreement s
  | .thermalMeasurement readings => Sys2Proof.Machine.execThermalMeasurement readings s
  | .graceEnd zone => Sys2Proof.Machine.execGraceEnd zone s
  | .thermalEscalation zone => Sys2Proof.Machine.execThermalEscalation zone s
  | .thermalRelease zone => Sys2Proof.Machine.execThermalRelease zone s
  | .riseHoldEnd zone => Sys2Proof.Machine.execRiseHoldEnd zone s
  | .thermalCutoff => Sys2Proof.Machine.execThermalCutoff s
  | .vpdRead off len => Sys2Proof.Machine.execVpdRead off len s
  | .telemetryIdentity => Sys2Proof.Machine.execTelemetryIdentity s
  | .telemetryZones => Sys2Proof.Machine.execTelemetryZones s
  | .telemetrySensors => Sys2Proof.Machine.execTelemetrySensors s
  | .telemetryThermalStatus => Sys2Proof.Machine.execTelemetryThermalStatus s
  | .telemetryPowerStatus => Sys2Proof.Machine.execTelemetryPowerStatus s
  | .telemetryInputPower => Sys2Proof.Machine.execTelemetryInputPower s
  | .telemetryHeadPower => Sys2Proof.Machine.execTelemetryHeadPower s
  | .telemetryClock => Sys2Proof.Machine.execTelemetryClock s
  | .telemetryFaultSummary => Sys2Proof.Machine.execTelemetryFaultSummary s
  | .telemetryFirstFatal => Sys2Proof.Machine.execTelemetryFirstFatal s
  | .tapBypass ir => Sys2Proof.Machine.execTapBypass ir s
  | .tapIdcode => Sys2Proof.Machine.execTapIdcode s
  | .tapSamplePreload pins => Sys2Proof.Machine.execTapSamplePreload pins s
  | .tapExtest cells => Sys2Proof.Machine.execTapExtest cells s
  | .dramHotClear sc => Sys2Proof.Machine.execDramHotClear sc s
  | .firmwareVerifyComplete readOk => Sys2Proof.Machine.execFirmwareVerifyComplete readOk s
  | .createIoSubmissionQueue cid => Sys2Proof.Machine.execCreateIoSubmissionQueue cid s
  | .identifyController cid => Sys2Proof.Machine.execIdentifyController cid s
  | .psChange => Sys2Proof.Machine.execPsChange s
  | .displayPortOverdraft d layer level => Sys2Proof.Machine.execDisplayPortOverdraft d layer level s
  | .mainsOffAfterCutoff => Sys2Proof.Machine.execMainsOffAfterCutoff s

end Sys2Proof.Machine
end

