-- ==== Sys2Proof/WellFormed.lean ====
section
/-! DEFINITION. When the operands of a command can come from the hardware. The machine is total: an ill-formed command has a
meaning too, and no statement needs this check unless it says so. -/

namespace Sys2Proof

/-- An error pattern of one burst: byte index below 80 (64 data bytes and 16 check bytes), value of one byte (R430). -/
def wfErrs (errs : List (Nat × Nat)) : Bool := errs.all (fun e => decide (e.1 < 80) && decide (e.2 < 256))

/-- A sign of LMS adaptation (R151). -/
def wfSign (i : Int) : Bool := i == -1 || i == 0 || i == 1

/-- The operands lie in the ranges of the rules. -/
def Instr.wf : Instr → Bool
  -- R51: one current and one voltage for each of the four outputs, 16 bits each
  | .headOutputMeasure meas =>
    meas.1.length == 4 && meas.1.all (fun m => decide (m.1 < 65536) && decide (m.2 < 65536))
  -- R52: a current is measured in 16 bits
  | .tripOc head => decide (head.2 < 65536)
  -- R149: up to eight bonded lanes, sixteen settings each
  | .ctleSweepDone _ heights => decide (heights.length ≤ 8) && heights.all (fun h => h.length == 16)
  -- R149: up to eight bonded lanes, eight taps each
  | .dfeConverged _ taps => decide (taps.length ≤ 8) && taps.all (fun t => t.length == 8)
  -- R151: signs of the error and of the decisions
  | .dfeUpdate _ e d => wfSign e && d.all wfSign
  -- R139: 5440 bits as 2720 PAM4 symbols
  | .codewordDecode _ symbols => symbols.length == 2720 && symbols.all (fun x => decide (x < 4))
  -- R414: a request of at least a byte, inside 2^38, its data present when it writes
  | .portRequest _ w addr len data _ =>
    decide (1 ≤ len) && decide (addr + len ≤ 2 ^ 38) && (if w then data.length == len else data.isEmpty)
  -- R430, R432: byte errors of one burst
  | .readDecode _ loc errs => loc % 64 == 0 && wfErrs errs
  | .scrubRead _ errs => wfErrs errs
  -- R444: doorbells lie at multiples of four from 0x1000
  | .doorbellWrite off _ => decide (0x1000 ≤ off) && off % 4 == 0
  -- R447: a submission entry is 64 bytes
  | .commandFetch _ cmds => cmds.all (fun c => c.1.length == 64)
  -- R124: generations 1 to 5, widths 1, 2, 4 and 8
  | .pcieLinkUp speed width => decide (1 ≤ speed) && decide (speed ≤ 5) && [1, 2, 4, 8].contains width
  -- R482, R483: a descriptor is 32 bytes
  | .ethernetFrameReceive _ _ _ desc => desc.length == 32
  | .ethernetFrameTransmit _ _ desc _ _ => desc.length == 32
  -- R516: a block holds at most 192 frames of two words
  | .aesBlockStart _ _ frames _ => decide (frames.length ≤ 384)
  | .aesLockChange _ _ _ frames => decide (frames.length ≤ 384)
  -- R557: sixteen sensors
  | .thermalMeasurement readings => readings.length == 16
  -- R54: an SMBus device addresses 256 bytes (PRESUMED, log entry 2)
  | .vpdRead off len => decide (off + len ≤ 256)
  -- R9: BAR2 accesses are naturally aligned
  | .registerWrite addr _ wide _ _ => addr.toNat % (if wide then 8 else 4) == 0
  | .readToClear addr wide => addr.toNat % (if wide then 8 else 4) == 0
  | .captureRead addr => addr.toNat % 4 == 0
  | _ => true

end Sys2Proof
end

