-- ==== Sys2Proof/Safety.lean ====
section
/-! DEFINITION. The terms the statements use: a command answers with a state that satisfies a property, the parts of State
and what a command may change of them, events on the source wires, the canonical form of stored bytes, what the fuses keep. -/

namespace Sys2Proof.Machine

open Sys2Proof

/-! ### Answers -/

/-- The command completes: it answers a next state, and that state satisfies P. -/
def Answers (c : Instr) (s : State) (P : State → Prop) : Prop := ∃ t, exec c s = .next t ∧ P t

/-- The command completes in a state that satisfies P, and then f, a named consequence, acts on that state. -/
def AnswersVia (f : State → State) (c : Instr) (s : State) (P : State → Prop) : Prop := ∃ t, exec c s = .next (f t) ∧ P t

/-- The command completes in a state that satisfies P, and what follows at once in the pixel path and behind it (boundary
points, intake of closed frames) starts from there. -/
def AnswersThen (c : Instr) (s : State) (P : State → Prop) : Prop := AnswersVia State.follow c s P

/-- Source x has asserted, raised by unit u, and waits for the Auditor (R21). -/
def State.hears (s : State) (x u : Nat) : Bool := s.aud.q.any (fun e => e.src == x && e.unit == u)

/-- Unit u of the source's cluster can assert: present, enabled and not fenced (R38, R71). -/
def State.speaks (s : State) (x u : Nat) : Bool := !srcReserved x && s.unitLive (srcCluster x) u

/-! ### The parts of State -/

/-- The fields of State. -/
inductive Comp where
  | variant | now | px | mint | regs | shadow | live | flash | otp | plane | escrow | vlt | pwr | clk | aud | ch | th
  | lnk | ing | sch | pix | cor | cmp | vid | mem | hst | net | out | tap | rdata | rbytes | pending
  deriving DecidableEq, Repr

/-- Every part, in the order of State. -/
def Comp.every : List Comp :=
  [.variant, .now, .px, .mint, .regs, .shadow, .live, .flash, .otp, .plane, .escrow, .vlt, .pwr, .clk, .aud, .ch, .th,
   .lnk, .ing, .sch, .pix, .cor, .cmp, .vid, .mem, .hst, .net, .out, .tap, .rdata, .rbytes, .pending]

/-- The part is the same in two states. -/
def Comp.same (s t : State) : Comp → Prop
  | .variant => t.variant = s.variant
  | .now => t.now = s.now
  | .px => t.px = s.px
  | .mint => t.mint = s.mint
  | .regs => t.regs = s.regs
  | .shadow => t.shadow = s.shadow
  | .live => t.live = s.live
  | .flash => t.flash = s.flash
  | .otp => t.otp = s.otp
  | .plane => t.plane = s.plane
  | .escrow => t.escrow = s.escrow
  | .vlt => t.vlt = s.vlt
  | .pwr => t.pwr = s.pwr
  | .clk => t.clk = s.clk
  | .aud => t.aud = s.aud
  | .ch => t.ch = s.ch
  | .th => t.th = s.th
  | .lnk => t.lnk = s.lnk
  | .ing => t.ing = s.ing
  | .sch => t.sch = s.sch
  | .pix => t.pix = s.pix
  | .cor => t.cor = s.cor
  | .cmp => t.cmp = s.cmp
  | .vid => t.vid = s.vid
  | .mem => t.mem = s.mem
  | .hst => t.hst = s.hst
  | .net => t.net = s.net
  | .out => t.out = s.out
  | .tap => t.tap = s.tap
  | .rdata => t.rdata = s.rdata
  | .rbytes => t.rbytes = s.rbytes
  | .pending => t.pending = s.pending

/-- Every part but the listed ones is unchanged. -/
def changesOnly (l : List Comp) (s t : State) : Prop := ∀ p : Comp, p ∉ l → p.same s t

/-- Every part but the listed ones. -/
def allBut (l : List Comp) : List Comp := Comp.every.filter (fun p => !l.contains p)

/-- The parts a command may change; every other part is its frame. -/
def footprint : Instr → List Comp
  | .powerFailWarning .. =>
    [.regs, .live, .escrow, .vlt, .pwr, .aud, .ch, .ing, .sch, .pix, .cor, .cmp, .vid, .mem, .hst, .out]
  | .pfwDeassert | .coldReset .. | .startAbandoned | .powerGood .. | .perstDeassert | .headOutputMeasure ..
  | .mainsOffAfterCutoff =>
    [.regs, .pwr]
  | .railsFall | .thermalCutoff =>
    [.now, .px, .mint, .regs, .shadow, .live, .plane, .escrow, .vlt, .pwr, .clk, .aud, .ch, .th, .lnk, .ing, .sch, .pix,
     .cor, .cmp, .vid, .mem, .hst, .net, .out, .tap]
  | .retentionLost =>
    [.regs, .pwr, .mem]
  | .retentionInputChange .. | .cdrLock .. | .dfeUpdate .. | .eyeScanAbort .. | .eyeScanPoint .. | .entryRead ..
  | .selfRefreshExit | .moduleI2cDone .. =>
    [.regs]
  | .selftestComplete .. =>
    [.regs, .vlt, .pwr, .aud, .ch]
  | .slotCheckComplete .. =>
    [.regs, .shadow, .pwr, .aud, .ch]
  | .trainingComplete .. | .hostFence .. =>
    [.regs, .live, .vlt, .clk, .aud, .ch, .lnk, .ing, .sch, .pix, .cor, .cmp, .vid, .mem, .hst, .out]
  | .framesApplied =>
    [.regs, .shadow, .live, .plane, .vlt, .pwr, .aud, .ch, .ing, .pix, .mem, .hst]
  | .release .. =>
    [.regs, .live, .vlt, .pwr, .clk, .aud, .ch, .th, .lnk, .ing, .sch, .pix, .cor, .cmp, .vid, .mem, .hst, .net, .out]
  | .moduleReset .. | .nvmSubsystemReset .. | .brownoutReset =>
    [.now, .px, .mint, .regs, .shadow, .live, .plane, .escrow, .vlt, .pwr, .clk, .aud, .ch, .th, .lnk, .ing, .sch, .pix,
     .cor, .cmp, .vid, .mem, .hst, .net, .out]
  | .lossOfMainsClose | .tripOc .. | .tripUv .. | .tripTotal | .headPresenceChange .. | .svcHpwrCtlWrite .. =>
    [.regs, .live, .vlt, .pwr, .aud, .ch, .lnk, .ing, .sch, .pix, .cor, .cmp, .mem, .hst]
  | .lossOfMainsSelfRefresh =>
    [.regs, .vlt, .pwr, .aud, .ch, .mem, .hst, .out]
  | .clusterReset .. =>
    [.regs, .pwr, .aud, .ch]
  | .clusterResetComplete .. =>
    [.mint, .regs, .shadow, .live, .vlt, .pwr, .clk, .aud, .ch, .th, .lnk, .ing, .sch, .pix, .cor, .cmp, .vid, .mem,
     .hst, .net, .out]
  | .perstAssert =>
    [.regs, .shadow, .live, .vlt, .pwr, .aud, .ch, .hst]
  | .powerSupervisorEvaluate .. | .stepPwrSlower | .stepPwrFaster =>
    [.regs, .pwr, .clk, .aud, .ch, .sch]
  | .headOutputStart .. | .headOutputOn .. =>
    [.regs, .vlt, .pwr, .aud, .ch, .lnk, .ing, .sch, .mem, .hst]
  | .stepLimitWrite .. | .stepChanged =>
    [.regs, .clk, .aud, .ch, .sch]
  | .clockSwitch =>
    [.regs, .clk]
  | .boundaryPoint .. | .amLock .. | .hevent .. | .nofsTimeout .. =>
    [.regs, .live, .vlt, .aud, .ch, .ing, .sch, .pix, .cor, .cmp, .mem]
  | .tallyWrite .. =>
    [.regs, .live, .aud, .ch, .ing, .pix, .mem]
  | .registerWrite .. =>
    [.now, .px, .mint, .regs, .shadow, .live, .flash, .otp, .plane, .escrow, .vlt, .pwr, .clk, .aud, .ch, .th, .lnk,
     .ing, .sch, .pix, .cor, .cmp, .vid, .mem, .hst, .net, .out]
  | .readToClear .. | .captureRead .. =>
    [.regs, .rdata]
  | .nop =>
    []
  | .loadEscrow .. =>
    [.regs, .escrow, .vlt, .aud, .ch]
  | .escrowReady .. | .activate | .swapPoint | .segmentClose .. =>
    [.mint, .regs, .shadow, .live, .flash, .plane, .escrow, .vlt, .pwr, .clk, .aud, .ch, .th, .lnk, .ing, .sch, .pix,
     .cor, .cmp, .vid, .mem, .hst, .net, .out]
  | .cancel =>
    [.regs, .escrow, .vlt, .aud, .ch, .hst]
  | .selftest =>
    [.regs, .vlt]
  | .selftestDone .. | .vaultError =>
    [.regs, .vlt, .aud, .ch]
  | .floorAdvance .. | .revoke .. =>
    [.regs, .otp, .vlt]
  | .zeroize .. =>
    [.regs, .otp, .escrow, .vlt, .aud, .ch, .mem, .hst]
  | .holdTimeout | .controllerReset =>
    [.regs, .vlt, .aud, .ch, .hst]
  | .signatureComplete =>
    [.regs, .vlt, .aud, .ch, .mem]
  | .controlChannelSync .. | .controlSyncLoss .. | .portUp .. | .trainingTimeout .. | .packetReceive ..
  | .headWrite .. | .headRead .. | .wrAck .. | .rdData .. | .trainAck .. | .epochAck .. | .nak ..
  | .controlResponseTimeout .. | .expReceive .. | .metadataReceive .. | .sensorStatusReceive .. =>
    [.regs, .live, .vlt, .aud, .ch, .lnk, .ing, .sch, .pix, .cor, .cmp, .mem]
  | .ctlSyncTimeout .. | .laneFault .. | .retrain .. | .codewordDecode .. | .fsReceive .. | .lineReceive ..
  | .feReceive .. =>
    [.regs, .live, .vlt, .aud, .ch, .lnk, .ing, .sch, .pix, .cor, .cmp, .mem, .hst]
  | .ctleSweepDone .. =>
    [.regs, .lnk]
  | .dfeConverged .. =>
    [.regs, .lnk, .sch]
  | .eyeScanStart .. | .groupMaskWrite .. | .pixSwap .. | .encoderRdptrWrite .. | .refreshDue .. | .srExited
  | .pcieLinkUp .. | .pcieLinkDown | .holdover | .cageChange .. | .ringTailWrite .. | .moduleI2cAccess ..
  | .aesTxTailWrite .. | .sourceConfigWrite .. | .injectionWrite .. =>
    [.regs, .aud, .ch]
  | .frameTimeout .. | .tapStart .. =>
    [.regs, .live, .vlt, .aud, .ch, .ing, .sch, .pix, .cor, .cmp, .mem, .hst]
  | .ledgerEntryWrite .. | .segmentRelease .. | .erase .. =>
    [.regs, .aud, .ch, .ing, .mem]
  | .entryWrite .. | .crossing .. | .tblEn .. | .mainsZeroCrossing .. | .quadEdge .. | .hallSectorChange ..
  | .serialReadDone .. =>
    [.regs, .aud, .ch, .lnk, .sch]
  | .edgeCommit .. | .strobe .. | .epcommit .. | .a5UnlockTimeout | .wireFault .. | .serTimeout ..
  | .supplyFoldback .. | .axisSet .. | .channelStrobe .. =>
    [.regs, .aud, .ch, .sch]
  | .expose .. =>
    [.regs, .live, .aud, .ch, .lnk, .ing, .sch]
  | .triggerPulseEnd .. | .serialReadStart .. =>
    [.sch]
  | .strobeEnd .. | .wireRecovery .. | .standstill .. | .supplyRecovery .. =>
    [.regs, .sch]
  | .mark .. =>
    [.regs, .live, .aud, .ch, .ing, .sch]
  | .fire .. =>
    [.ch, .sch]
  | .arm .. =>
    [.regs, .aud, .ch, .ing, .sch, .pix, .vid]
  | .stop .. =>
    [.regs, .ing, .sch]
  | .trig .. | .strTrig .. =>
    [.regs, .aud, .ch, .ing, .sch]
  | .strStop .. =>
    [.regs, .ch, .ing, .sch]
  | .tblDis .. =>
    [.regs, .ch, .sch]
  | .triggerInputEdge .. =>
    [.live, .aud, .ch, .sch]
  | .a6Clear .. | .indexLatch .. =>
    [.regs, .live, .aud, .ch, .sch]
  | .jobStart .. =>
    [.regs, .live, .aud, .ch, .cor, .mem]
  | .jobStop .. | .preparationDone .. | .trackedFrameEnd =>
    [.regs, .live, .aud, .ch, .ing, .cor, .mem]
  | .gaugeEvaluate .. =>
    [.regs, .live, .aud, .ch, .cor]
  | .qtailWrite .. | .compress .. | .decompress .. | .destrip .. | .jobResume .. | .blockBoundary .. =>
    [.regs, .live, .aud, .ch, .ing, .cor, .cmp, .mem]
  | .encoderStart .. | .decodeWatchdog .. =>
    [.regs, .aud, .ch, .vid]
  | .encoderStop .. =>
    [.regs, .pix, .vid]
  | .requestIdr .. | .requestRefresh .. | .requestHeader .. | .markLt .. | .clearLt .. | .useLt .. =>
    [.vid]
  | .pictureStart .. =>
    [.regs, .aud, .ch, .pix, .vid]
  | .sliceOutput .. =>
    [.regs, .live, .aud, .ch, .pix, .vid, .mem]
  | .decoderStart .. | .decoderEos .. | .inwrWrite .. | .decodedPicture .. =>
    [.regs, .aud, .ch, .vid, .mem]
  | .decoderStop .. =>
    [.regs, .vid]
  | .rtpPacketSend .. =>
    [.regs, .aud, .ch, .vid, .net]
  | .portRequest .. | .floorEntry | .dramHot .. =>
    [.regs, .aud, .ch, .mem]
  | .writeRetire .. =>
    [.regs, .vlt, .aud, .ch, .ing, .mem, .hst, .out]
  | .readDecode .. | .scrubRead .. =>
    [.regs, .live, .aud, .ch, .mem]
  | .coinRefill | .dramHotClear .. =>
    [.regs, .mem]
  | .periodicTraining .. =>
    [.mem]
  | .srEntered =>
    [.regs, .live, .pwr, .aud, .ch, .mem, .hst]
  | .doorbellWrite .. | .controllerEnable .. | .shutdownNotification .. | .apstTransition =>
    [.regs, .hst]
  | .commandFetch .. | .dataTransferStart .. | .nvmFlush .. | .readAkCert .. | .setPowerState ..
  | .setNumberOfQueues .. | .createIoCompletionQueue .. | .identifyNamespace .. | .getLogFaultLedger ..
  | .getLogFirmwareSlot .. | .asynchronousEventRequest .. | .createIoSubmissionQueue .. =>
    [.regs, .aud, .ch, .hst]
  | .nvmRead .. =>
    [.regs, .live, .aud, .ch, .mem, .hst]
  | .nvmWrite .. =>
    [.regs, .aud, .ch, .lnk, .ing, .sch, .pix, .cor, .mem, .hst]
  | .firmwareImageDownload .. =>
    [.regs, .flash, .aud, .ch, .hst]
  | .commitVerify .. | .commitVerifySelect .. | .commitSelect .. | .commitActivate .. =>
    [.regs, .flash, .escrow, .vlt, .aud, .ch, .hst]
  | .officerAuth .. =>
    [.regs, .vlt, .aud, .hst]
  | .readKey .. | .nsMap .. | .setArbitration .. | .setApst .. | .setAsyncEventConfig .. | .identifyController .. =>
    [.regs, .aud, .hst]
  | .shutdownComplete =>
    [.hst]
  | .mintSet | .mintStep | .mintRate =>
    [.mint, .regs, .aud, .ch, .lnk, .sch, .net]
  | .ppsInEdge .. | .ppsMissing | .ethernetLinkChange .. | .ethernetFrameReceive .. | .ethernetFrameTransmit .. =>
    [.regs, .aud, .ch, .net]
  | .ppsOutPulse | .ppsOutEnd =>
    [.net]
  | .displayStart .. | .displayCommit .. | .hpdTimeout | .headIdle =>
    [.regs, .aud, .ch, .out]
  | .displayStop .. | .hpdLost =>
    [.regs, .aud, .ch, .pix, .vid, .mem, .out]
  | .displayFrameStart .. =>
    [.regs, .live, .aud, .ch, .pix, .vid, .mem, .out]
  | .hpdHigh | .hpdPulse .. | .panelPowerOff =>
    [.out]
  | .edpLinkTrained .. =>
    [.regs, .aud, .ch, .pix, .vid, .out]
  | .underrun .. | .aesBlockStart .. | .aesLockChange .. | .displayPortOverdraft .. =>
    [.regs, .aud, .ch, .mem, .out]
  | .aesTxStart | .aesTxStop =>
    [.regs, .out]
  | .aesTxPreamble .. =>
    [.regs, .live, .aud, .ch, .mem, .out]
  | .channelEvent .. =>
    [.regs, .live, .aud, .ch]
  | .softwareFire .. =>
    [.ch]
  | .setLatch .. | .clrLatch .. | .latchSetWrite .. =>
    [.regs, .ch]
  | .auditorEvent =>
    [.regs, .live, .vlt, .pwr, .clk, .aud, .ch, .lnk, .ing, .sch, .pix, .cor, .cmp, .vid, .mem, .hst, .out]
  | .windowExpiry .. =>
    [.aud]
  | .safeStateClose | .lockstepDisagreement =>
    [.regs, .live, .vlt, .pwr, .aud, .ch, .lnk, .ing, .sch, .pix, .cor, .cmp, .vid, .mem, .hst, .net, .out]
  | .safeStateClockStop =>
    [.regs, .vlt, .clk, .aud, .ch, .sch, .mem, .hst]
  | .aliveHalfPeriod .. =>
    [.regs, .aud]
  | .thermalMeasurement .. =>
    [.regs, .clk, .aud, .ch, .th, .sch, .hst]
  | .graceEnd .. | .thermalEscalation .. | .thermalRelease .. =>
    [.regs, .clk, .aud, .ch, .th, .sch]
  | .riseHoldEnd .. =>
    [.regs, .th]
  | .vpdRead .. | .telemetryIdentity | .telemetryZones | .telemetrySensors | .telemetryThermalStatus
  | .telemetryPowerStatus | .telemetryInputPower | .telemetryHeadPower | .telemetryClock | .telemetryFaultSummary
  | .telemetryFirstFatal =>
    [.rbytes]
  | .tapBypass .. | .tapSamplePreload .. | .tapExtest .. =>
    [.tap]
  | .tapIdcode =>
    [.tap, .rdata]
  | .firmwareVerifyComplete .. =>
    [.regs, .flash, .vlt, .aud, .ch, .hst]
  | .psChange =>
    [.regs, .live, .vlt, .pwr, .clk, .aud, .ch, .lnk, .ing, .sch, .pix, .cor, .cmp, .mem, .hst]

/-- Every register but the listed ones reads as before. -/
def keepsRegs (l : List Nat) (s t : State) : Prop := ∀ a, a ∉ l → t.rd a = s.rd a

/-! ### Commands of the host -/

/-- The admin command that a row names waits at a controller that runs: fetched, of opcode `op`, the link up. -/
abbrev State.adminIs (s : State) (cid : BitVec 16) (op : Nat) (c : NCmd) : Prop :=
  s.ncmd 0 cid = some c ∧ c.op = op ∧ c.st = 0 ∧ s.ctlRdy = true ∧ s.hostUp = true

/-! ### Stored bytes -/

/-- The canonical form of a sparse memory: addresses strictly rising, no entry equal to what an unlisted address reads. -/
abbrev Memory.wf (m : List Host.Cell) : Bool := Map.wf byteDefault m

/-! ### What is burned stays burned -/

/-- Every fuse burned in `o` is burned in `p`: the rollback floor never falls and stays within R102's range, no revocation bit and
no zeroization is undone, and the policy of manufacture stands (R96, R102, R119). -/
def burned (o p : Otp) : Prop :=
  p.policy = o.policy ∧ o.floor ≤ p.floor ∧ p.floor ≤ max o.floor 255 ∧ (∀ k, o.revoked.getLsbD k = true → p.revoked.getLsbD k = true) ∧
    (o.zeroized = true → p.zeroized = true)

/-- The lasting state of a module that had fuses `o` and was of variant `v`: those fuses, that variant, and a configuration
flash in canonical form. -/
def lasting (v : Variant) (o : Otp) (s : State) : Prop :=
  s.variant = v ∧ burned o s.otp ∧ Memory.wf s.flash = true

end Sys2Proof.Machine
end

