-- ==== Sys2Proof/Certificates/Slice0/Obligations.lean ====
section
/-! DEFINITION. The statements about the machine. A clause reads: premises on the state and the operands, then what the command
answers. `Answers` and its kin say that the command completes. -/

open Sys2Proof Sys2Proof.Machine

/-- The queue of commands: step runs the command at the front on the rest, and an empty queue lets one nanosecond pass (log
entry 7). -/
def Obligations.StepRunsFrontCommand : Prop :=
  (∀ (c : Instr) (l : List Instr) (s : State), step { s with pending := c :: l } = exec c { s with pending := l }) ∧
  (∀ s : State, s.pending = [] → step s = .next s.tick) ∧
  (∀ (c : Instr) (s t : State), exec c s = .next t → t.pending = s.pending)

/-- R28, R470, R530: what one nanosecond does (log entry 7): CLK_SVC counts it, the Mint advances, CLK_PX counts its cycles
unless it stands, and as one begins the AUTOCLR clears act and gates see the latches as they stand; before power-good no clock
runs. -/
def Obligations.NanosecondTick : Prop :=
  (∀ s : State, s.pwr.phase = .off ∨ s.pwr.phase = .starting → s.tick = s) ∧
  (∀ s : State, s.pwr.phase = .released → s.tick.now = s.now + 1 ∧
    s.tick.mint = (if s.mintUp then s.mint.advance s.mintRate else s.mint) ∧
    s.tick.px = (if s.pxStopped || s.clk.stage == 2 then s.px else s.px + pxPerNs s.stepAct) ∧
    s.tick.mem = s.mem ∧ s.tick.pending = s.pending) ∧
  (∀ (m : Mint) (rate : Int), m.ns < 1000000000 → m.fr < 2 ^ 44 → -2 ^ 31 ≤ rate → rate < 2 ^ 31 →
    (m.advance rate).ns < 1000000000 ∧ (m.advance rate).fr < 2 ^ 44) ∧
  (∀ m : Mint, m.ns = 999999999 → m.fr = 0 → m.sec < 2 ^ 48 - 1 → m.advance 0 = ⟨m.sec + 1, 0, 0⟩) ∧
  (∀ m : Mint, m.ns < 999999999 → m.fr = 0 → m.sec < 2 ^ 48 → m.advance 0 = ⟨m.sec, m.ns + 1, 0⟩) ∧
  (∀ s : State, s.pwr.phase = .released → s.tick.pxCycle = s.pxCycle → s.tick.regs = s.regs ∧ s.tick.ch = s.ch) ∧
  (∀ s : State, s.pwr.phase = .released → s.tick.pxCycle ≠ s.pxCycle →
    s.tick.rd rSvcChLatch = s.rd rSvcChLatch &&& ~~~ s.ch.clr ∧ s.tick.ch.clr = 0#32 ∧
    s.tick.ch.gate = s.tick.rd rSvcChLatch ∧ (∀ a, a ≠ rSvcChLatch → s.tick.rd a = s.rd a))

/-- Every command completes in every state: none faults, none is refused. -/
def Obligations.EveryCommandCompletes : Prop := ∀ (c : Instr) (s : State), ∃ t, exec c s = .next t

/-- The frame of every command: the parts of State outside its footprint are unchanged. -/
def Obligations.CommandsKeepTheirFrame : Prop :=
  ∀ (c : Instr) (s t : State), exec c s = .next t → changesOnly (footprint c) s t

/-- R54, R62, R96, R565: who may change what. The variant never changes; the test port changes only under TAP commands and
loss of power, the fuses only under officer commands and register writes, a telemetry answer only under a telemetry or VPD
read. -/
def Obligations.OnlyTheseChange : Prop :=
  (∀ (c : Instr) (s t : State), exec c s = .next t → t.variant = s.variant) ∧
  (∀ (c : Instr) (s t : State), exec c s = .next t → (∀ b, c ≠ .tapBypass b) → c ≠ .tapIdcode →
    (∀ l, c ≠ .tapSamplePreload l) → (∀ l, c ≠ .tapExtest l) → c ≠ .railsFall → c ≠ .thermalCutoff → t.tap = s.tap) ∧
  (∀ (c : Instr) (s t : State), exec c s = .next t → (∀ a, c ≠ .floorAdvance a) → (∀ a, c ≠ .revoke a) →
    (∀ a, c ≠ .zeroize a) → (∀ a b w l h, c ≠ .registerWrite a b w l h) → t.otp = s.otp) ∧
  (∀ (c : Instr) (s t : State), exec c s = .next t → (∀ o n, c ≠ .vpdRead o n) →
    (∀ d ∈ [Instr.telemetryIdentity, .telemetryZones, .telemetrySensors, .telemetryThermalStatus,
      .telemetryPowerStatus, .telemetryInputPower, .telemetryHeadPower, .telemetryClock, .telemetryFaultSummary,
      .telemetryFirstFatal], c ≠ d) → t.rbytes = s.rbytes)

/-- What State.reset holds. The values of this statement are those that the spec gives after a COLD reset or at power-good
(R121, R436, R469, R529, R541); log entry 12 says that the model starts there. -/
def Obligations.ResetState : Prop :=
  State.reset.pending = [] ∧ State.reset.plane = none ∧ State.reset.escrow = none ∧ State.reset.mem.dram = [] ∧
  State.reset.mint = ⟨0, 0, 0⟩ ∧ State.reset.aud.q = [] ∧ State.reset.rd rSvcChLatch = 0#32 ∧ State.reset.rd rSvcAudFlHead = 0#32 ∧
  State.reset.released = false ∧ State.reset.bit rSvcAudStat 0 = false ∧
  lasting State.reset.variant State.reset.otp State.reset

/-- R96, R102, R103, R119: fuses stay burned, the variant stays, the configuration flash stays in canonical form, whatever
command a state runs; this holds from every state, also from those that no run reaches. -/
def Obligations.LastingStateLasts : Prop :=
  ∀ (v : Variant) (o : Otp) (s t : State), lasting v o s → step s = .next t → lasting v o t

/-- R2: an absent unit reads 0 and discards writes. -/
def Obligations.AbsentUnitsReadZero : Prop :=
  (∀ (s : State) (addr : BitVec 26) (wide : Bool), s.reaches 0 = true → addr.toNat % (if wide then 8 else 4) = 0 →
    present s.variant (clusterOf addr.toNat) (unitOf addr.toNat) = false →
    Answers (.readToClear addr wide) s fun t => t = { s with rdata := 0#64 }) ∧
  (∀ (s : State) (addr : BitVec 26) (be : BitVec 8) (wide : Bool) (lo hi : Word),
    present s.variant (clusterOf addr.toNat) (unitOf addr.toNat) = false →
    Answers (.registerWrite addr be wide lo hi) s fun t => t = s) ∧
  (∀ (s : State) (addr : BitVec 26), s.reaches 0 = true → addr.toNat % 4 = 0 →
    (∀ u : Fin 64, present s.variant (clusterOf addr.toNat) u = false) →
    Answers (.readToClear addr false) s fun t => t = { s with rdata := 0#64 }) ∧
  (∀ (s : State) (addr : BitVec 26) (be : BitVec 8) (wide : Bool) (lo hi : Word),
    (∀ u : Fin 64, present s.variant (clusterOf addr.toNat) u = false) →
    Answers (.registerWrite addr be wide lo hi) s fun t => t = s)

/-- R3: the sources of an absent unit never assert, so the Auditor has nothing of theirs to count. -/
def Obligations.AbsentSourcesStaySilent : Prop :=
  (∀ (s : State) (x u : Nat) (lin : BitVec 64), present s.variant (srcCluster x) u = false → s.raiseLin x u lin = s) ∧
  (∀ (s : State) (x u : Nat), present s.variant (srcCluster x) u = false →
    ((s.raise x u).auditCycle).rd (rSvcAudCnt x) = (s.auditCycle).rd (rSvcAudCnt x))

/-- R7: DEV_CAP0 and DEV_CAP1 of the three variants. -/
def Obligations.DeviceCapabilityWords : Prop :=
  (∀ s : State, s.reaches 0 = true → s.unitLive 0 0 = true →
    Answers (.readToClear 4#26 false) s (fun t => t = { s with rdata := match s.variant with
      | .rlm4200 => 0x42224428#64 | .rlm4600 => 0x46448244#64 | .rlm4800 => 0x4844845C#64 }) ∧
    Answers (.readToClear 8#26 false) s (fun t => t = { s with rdata := match s.variant with
      | .rlm4200 => 0x0000FC7F#64 | .rlm4600 => 0x0000FDFF#64 | .rlm4800 => 0x0000FFFF#64 })) ∧
  (∀ (v : Variant) (c : Nat), c < 16 →
    ((devCap1 v).getLsbD c = true ↔ ∃ u, u < 64 ∧ present v c u = true)) ∧
  (∀ (v : Variant) (b : Nat), 16 ≤ b → (devCap1 v).getLsbD b = false)

/-- R101: a set bit of the policy word is never cleared. -/
def Obligations.PolicyBitsNeverClear : Prop :=
  ∀ (c : Instr) (s t : State) (k : Nat), exec c s = .next t → s.otp.policy.getLsbD k = true → t.otp.policy.getLsbD k = true

/-- R267: the serial counter counts to 0xFFFF_FFFF_FFFE and wraps to 0, so that 0xFFFF_FFFF_FFFF names no entry. -/
def Obligations.SerialCounterWraps : Prop :=
  (∀ n : Nat, n < 0xFFFFFFFFFFFE → serialNext n = n + 1) ∧ serialNext 0xFFFFFFFFFFFE = 0 ∧
  (∀ n : Nat, serialNext n < 2 ^ 48 ∧ serialNext n ≠ 0xFFFFFFFFFFFF)

/-- R435: the injection of a sub-channel. -/
def Obligations.ParityInjection : Prop :=
  (∀ (s : State) (sc : Fin 16) (loc : Nat) (b : List Byte), s.fld (rMemScInj sc) 16 16 ≠ 0 →
    (s.putBurst sc loc b).flipAt sc loc = s.fld (rMemScInj sc) 0 16 ∧
    (s.putBurst sc loc b).fld (rMemScInj sc) 16 16 = s.fld (rMemScInj sc) 16 16 - 1) ∧
  (∀ (s : State) (sc : Fin 16) (loc : Nat) (b : List Byte), s.fld (rMemScInj sc) 16 16 = 0 →
    (s.putBurst sc loc b).flipAt sc loc = 0 ∧ (s.putBurst sc loc b).fld (rMemScInj sc) 16 16 = 0) ∧
  (∀ (f t : Nat), f < 2 ^ 16 → t < 16 → ((errWord [] f).getD (64 + t) 0 = if f.testBit t then 0xFF else 0)) ∧
  (∀ f : Nat, f < 2 ^ 16 → (errWord [] f).countP (· ≠ 0) = (List.range 16).countP f.testBit) ∧
  (∀ (s : State) (port sc loc : Nat), s.mem.q = [] → (s.mkBurst port false sc loc [] 0).flip = s.flipAt sc loc) ∧
  (∀ (s : State) (sc : Fin 16) (errs : List (Nat × Nat)),
    Answers (.scrubRead sc errs) s fun t => t.fld (rMemScInj sc) 16 16 = s.fld (rMemScInj sc) 16 16 ∧
      (t.flipAt sc (s.scrubPos sc * 64) = s.flipAt sc (s.scrubPos sc * 64) ∨ t.flipAt sc (s.scrubPos sc * 64) = 0)) ∧
  (∀ (s : State) (v : Word), s.reaches 15 = true → fget v 10 4 = 1 → 16 ≤ fget v 4 6 → fget v 4 6 < 32 → fget v 0 2 ≠ 0 →
    Answers (.injectionWrite true v) s fun t => t = s.violation rSvcAudInjsel)

/-- R443: the MSI-X vectors. -/
def Obligations.InterruptVectors : Prop :=
  (∀ (s : State) (cc : Word), s.ctlUp = true → s.hst.cc.getLsbD 0 = false → cc.getLsbD 0 = true →
    AnswersVia State.syncRdy (.controllerEnable cc) s fun t => ∃ q, t.cq 0 = some q ∧ q.vec = 0 ∧ q.ien = true) ∧
  (∀ (s : State) (cid : BitVec 16) (c : NCmd) (q : Fin 65), s.adminIs cid 0x05 c → c.dw 10 % 65536 = q → q.val ≠ 0 →
    s.cq q = none → c.dw 10 / 65536 ≠ 0 → c.dw 10 / 65536 ≤ 4095 → (c.dw 11).testBit 0 = true → c.dw 11 / 65536 ≤ 64 →
    AnswersVia (fun t => t.completeOk 0 cid) (.createIoCompletionQueue cid) s fun t =>
      ∃ x, t.cq q = some x ∧ x.vec = c.dw 11 / 65536) ∧
  (∀ (s : State) (cid : BitVec 16) (c : NCmd) (q : Fin 65), s.adminIs cid 0x05 c → c.dw 10 % 65536 = q → q.val ≠ 0 →
    s.cq q = none → c.dw 10 / 65536 ≠ 0 → c.dw 10 / 65536 ≤ 4095 → (c.dw 11).testBit 0 = true → 65 ≤ c.dw 11 / 65536 →
    Answers (.createIoCompletionQueue cid) s fun t => t = s.complete 0 c.cid 0x108 true 0#32) ∧
  (∀ (s : State) (x : Nat), x < 288 → s.bit (rSvcAudPend (x / 32)) (x % 32) = false → s.hst.mxTab = [] →
    ∃ v, 65 ≤ v ∧ v ≤ 79 ∧ (s.irq x false).hst.mxPend = if s.hst.mxPend.contains v then s.hst.mxPend else s.hst.mxPend ++ [v])

/-- R446: the numbers and sizes of queues. -/
def Obligations.QueueNumbersAndSizes : Prop :=
  (∀ (s : State) (cid : BitVec 16) (c : NCmd) (q : Fin 65), s.adminIs cid 0x05 c → c.dw 10 % 65536 = q → q.val ≠ 0 →
    s.cq q = none → (c.dw 11).testBit 0 = true → c.dw 11 / 65536 ≤ 64 →
    (∀ n, 2 ≤ n → n ≤ 4096 → c.dw 10 / 65536 + 1 = n →
      AnswersVia (fun t => t.completeOk 0 cid) (.createIoCompletionQueue cid) s fun t =>
        ∃ x, t.cq q = some x ∧ x.size = n) ∧
    (c.dw 10 / 65536 + 1 < 2 ∨ 4096 < c.dw 10 / 65536 + 1 →
      Answers (.createIoCompletionQueue cid) s fun t => t = s.finish 0 c.cid stQueueSize 0)) ∧
  (∀ (s : State) (cid : BitVec 16) (c : NCmd) (q p : Fin 65), s.adminIs cid 0x01 c → c.dw 10 % 65536 = q → q.val ≠ 0 →
    s.sq q = none → c.dw 11 / 65536 = p → p.val ≠ 0 → (s.cq p).isSome = true → (c.dw 11).testBit 0 = true →
    (∀ n, 2 ≤ n → n ≤ 4096 → c.dw 10 / 65536 + 1 = n →
      AnswersVia (fun t => t.completeOk 0 cid) (.createIoSubmissionQueue cid) s fun t =>
        ∃ x, t.sq q = some x ∧ x.size = n ∧ x.cq = p) ∧
    (c.dw 10 / 65536 + 1 < 2 ∨ 4096 < c.dw 10 / 65536 + 1 →
      Answers (.createIoSubmissionQueue cid) s fun t => t = s.finish 0 c.cid stQueueSize 0)) ∧
  (∀ (s : State) (cid : BitVec 16) (c : NCmd), s.adminIs cid 0x05 c → c.dw 10 % 65536 = 0 ∨ 64 < c.dw 10 % 65536 →
    Answers (.createIoCompletionQueue cid) s fun t => t = s.finish 0 c.cid stQueueId 0) ∧
  (∀ (s : State) (cid : BitVec 16) (c : NCmd), s.adminIs cid 0x01 c → c.dw 10 % 65536 = 0 ∨ 64 < c.dw 10 % 65536 →
    Answers (.createIoSubmissionQueue cid) s fun t => t = s.finish 0 c.cid stQueueId 0) ∧
  (∀ (s : State) (cc : Word), s.ctlUp = true → s.hst.cc.getLsbD 0 = false → cc.getLsbD 0 = true →
    AnswersVia State.syncRdy (.controllerEnable cc) s fun t => (t.sq 0).isSome = true ∧ (t.cq 0).isSome = true) ∧
  (∀ (s : State) (cid : BitVec 16) (c : NCmd), s.adminIs cid 0x09 c → c.dw 10 % 256 = 7 →
    Answers (.setNumberOfQueues cid) s fun t => t = s.complete 0 cid stOk false 0x003F003F#32)

/-- R541: the class of a source. -/
def Obligations.SourceClasses : Prop :=
  (∀ x, x < 288 → State.reset.fld (rSvcAudSrcCfg x) 30 2 = srcClass x) ∧
  (∀ (s : State) (x : Fin 288) (v : Word), s.reaches 15 = true → srcClass x ≠ 3 →
    Answers (.sourceConfigWrite x false v) s fun t => t.fld (rSvcAudSrcCfg x) 30 2 = fget v 30 2) ∧
  (∀ (s : State) (x : Fin 288) (v : Word), s.reaches 15 = true → srcClass x = 3 → fget v 30 2 < 3 ∨ v.getLsbD 29 = true →
    Answers (.sourceConfigWrite x false v) s fun t =>
      t.rd (rSvcAudSrcCfg x) = s.rd (rSvcAudSrcCfg x) ∧ t.aud.win = s.aud.win ∧
      t.fld rDevSvCnt 0 16 = min (s.fld rDevSvCnt 0 16 + 1) 0xFFFF ∧ (s.speaks 0x004 0 = true → t.hears 0x004 0 = true))

/-- R544: a masked source is counted and causes nothing else. -/
def Obligations.MaskedSourceOnlyCounts : Prop :=
  (∀ (s : State) (x : Fin 288) (u c : Nat) (d : Word) (i : Bool), s.aud.q = [⟨x, u, d, i, c⟩] →
    s.bit (rSvcAudSrcCfg x) 29 = true →
    Answers .auditorEvent s fun t =>
      t = ({ s with aud := { s.aud with q := [] } } : State).count (rSvcAudCnt x)) ∧
  (∀ (s : State) (e : EvRec) (m : Nat), s.bit (rSvcAudSrcCfg e.src) 29 = true →
    s.audit e m = s.countN (rSvcAudCnt e.src) m)

/-- R553: the reaction IRQ and its vector. -/
def Obligations.ReactionIrq : Prop :=
  (∀ (s : State) (x : Nat), x < 288 → (s.irq x false).bit (rSvcAudPend (x / 32)) (x % 32) = true) ∧
  (∀ (s : State) (x v : Nat), x < 288 → s.bit (rSvcAudPend (x / 32)) (x % 32) = false →
    v = min 14 (s.fld (rSvcAudSrcCfg x) 24 4) → s.mxMasked (65 + v) = false →
    (s.irq x false).aud.msix = s.aud.msix ++ [65 + v] ∧ (s.irq x false).hst = s.hst) ∧
  (∀ (s : State) (x v : Nat), x < 288 → s.bit (rSvcAudPend (x / 32)) (x % 32) = false →
    v = min 14 (s.fld (rSvcAudSrcCfg x) 24 4) → s.mxMasked (65 + v) = true → s.hst.mxPend.contains (65 + v) = false →
    (s.irq x false).aud.msix = s.aud.msix ∧ (s.irq x false).hst.mxPend = s.hst.mxPend ++ [65 + v]) ∧
  (∀ (s : State) (x : Nat), s.bit (rSvcAudPend (x / 32)) (x % 32) = true → s.irq x false = s) ∧
  (∀ (s : State) (k : Fin 9) (v : Word), s.reaches 15 = true → s.unitLive 15 2 = true →
    Answers (.registerWrite (BitVec.ofNat 26 (rSvcAudPend k)) 0x0F#8 false v 0#32) s fun t =>
      t.rd (rSvcAudPend k) = s.rd (rSvcAudPend k) &&& ~~~ v ∧ t.aud.msix = s.aud.msix) ∧
  (∀ x, x < 288 → State.reset.fld (rSvcAudSrcCfg x) 24 4 = min (srcCluster x) 14)

/-- R411, R414, R417: what is written to recording memory is what a read finds. -/
def Obligations.MemoryReadAfterWrite : Prop :=
  (∀ (m : List Host.Cell) (a : Nat) (b : List Byte), bytesAt (putBytes m a b) a b.length = b) ∧
  (∀ (m : List Host.Cell) (a k : Nat) (b : List Byte), k < a ∨ a + b.length ≤ k →
    Map.get byteDefault (putBytes m a b) k = Map.get byteDefault m k) ∧
  (∀ (m : List Host.Cell) (a : Nat) (b : List Byte), Memory.wf m = true → Memory.wf (putBytes m a b) = true) ∧
  (∀ (s : State) (a sc loc : Nat) (b : List Byte), s.burstStat false a = .ok → s.mapAddr a = some (sc, loc) → sc < 16 →
    b ≠ [] → a % 64 + b.length ≤ 64 → loc % 64 = a % 64 →
    (∀ x ∈ s.mem.q, ¬ (x.write = true ∧ x.sc = sc ∧ x.loc / 64 = loc / 64)) → s.fld (rMemScInj sc) 16 16 = 0 →
    (s.memWrite a b).2 = .ok ∧ ((s.memWrite a b).1.memRead a b.length).2 = (.ok, b)) ∧
  (∀ (s : State) (a n : Nat) (b : List Byte), s.memState ≠ 2 → b ≠ [] → n ≠ 0 →
    (s.memWrite a b).2 = .notReady ∧ (s.memWrite a b).1.mem = s.mem ∧ (s.memRead a n).2.1 = .notReady)

/-- From R45 to R47, R123, R130: the pins of the supply; R124, R468: the PCIe link; R62: the test access port. -/
def Obligations.SupplyPinsAndTap : Prop :=
  (∀ (s : State) (byLine : Bool), s.powered = true → s.pwr.loss = 0 →
    AnswersVia State.pfwStops (.powerFailWarning byLine) s fun t =>
      t.pwr = { s.pwr with loss := 1, pwrfail := true } ∧ t.bit rSvcPwrStat 1 = true ∧
      t.bit rSvcPwrStat 0 = (s.bit rSvcPwrStat 0 && !byLine) ∧ (s.speaks 0x118 3 = true → t.hears 0x118 3 = true)) ∧
  (∀ (s : State) (byLine : Bool), s.powered = true → s.pwr.loss ≠ 0 →
    Answers (.powerFailWarning byLine) s fun t => t = if byLine then s.setBit rSvcPwrStat 0 false else s) ∧
  (∀ s : State, s.bit rSvcPwrStat 1 = true →
    Answers .pfwDeassert s fun t => t.pwr = { s.pwr with pwrfail := false } ∧
      t.bit rSvcPwrStat 1 = false ∧ t.bit rSvcPwrStat 0 = true ∧ ∀ r, r ≠ rSvcPwrStat → t.rd r = s.rd r) ∧
  (∀ s : State, s.pwr.loss = 4 →
    Answers .railsFall s fun t =>
      t.pwr.phase = .off ∧ t.tap = ⟨0, []⟩ ∧ t.flash = s.flash ∧ t.otp = s.otp ∧
      t.bit rSvcPwrStat 3 = (s.memState == 4 && s.hasContent && s.bit rSvcPwrStat 2) ∧
      t.mem.dram = if s.memState == 4 && s.hasContent && s.bit rSvcPwrStat 2 then s.mem.dram else []) ∧
  (∀ s : State, s.bit rSvcPwrStat 3 = true →
    Answers .retentionLost s fun t =>
      t.mem.dram = [] ∧ t.bit rSvcPwrStat 3 = false ∧ t.bit rSvcPwrStat 2 = false ∧
      t.pwr = { s.pwr with retained := false, retLost := true }) ∧
  (∀ (s : State) (inRange : Bool),
    Answers (.retentionInputChange inRange) s fun t =>
      t.bit rSvcPwrStat 2 = inRange ∧ (∀ i, i < 32 → i ≠ 2 → t.bit rSvcPwrStat i = s.bit rSvcPwrStat i) ∧
      ∀ r, r ≠ rSvcPwrStat → t.rd r = s.rd r) ∧
  (∀ (s : State) (held : Nat), s.pwr.phase = .off → s.pwr.cutoff = false →
    Answers (.coldReset held) s fun t =>
      t.pwr = { s.pwr with phase := .starting, kind := 1 } ∧ t.bit rSvcPwrStat 0 = true ∧
      t.rd rSvcRetTime = if s.pwr.retained || s.pwr.retLost then BitVec.ofNat 32 (min held 0xFFFFFFFF) else 0#32) ∧
  (∀ s : State, s.pwr.phase = .starting →
    Answers .startAbandoned s fun t => t.pwr = { s.pwr with phase := .off } ∧ t.bit rSvcPwrStat 0 = false) ∧
  (∀ (s : State) (testEn : Bool), s.pwr.phase = .starting →
    Answers (.powerGood testEn) s fun t =>
      t.pwr = { s.pwr with phase := .good, testEn := testEn, retLost := false, seqDone := false } ∧
      t.memState = if s.pwr.retained then 5 else 1) ∧
  (∀ (s : State) (speed width : Nat), s.powered = true → s.pwr.perst = false → s.fld rHstLink 28 4 ≠ 2 →
    Instr.wf (.pcieLinkUp speed width) = true →
    Answers (.pcieLinkUp speed width) s fun t =>
      t.fld rHstLink 28 4 = 2 ∧ t.fld rHstLink 16 4 = speed ∧ t.fld rHstLink 8 8 = width ∧
      (s.speaks 0x0E0 1 = true → t.hears 0x0E0 1 = true) ∧ ∀ r, r ≠ rHstLink → t.rd r = s.rd r) ∧
  (∀ s : State, s.fld rHstLink 28 4 = 2 →
    Answers .pcieLinkDown s fun t =>
      t.rd rHstLink = 0#32 ∧ t.rd rHstLinkDown = satAdd (s.rd rHstLinkDown) 1 ∧
      (s.speaks 0x0E1 1 = true → t.hears 0x0E1 1 = true)) ∧
  (∀ (s : State) (ir : BitVec 8), s.powered = true →
    Answers (.tapBypass ir) s fun t => t = { s with tap := ⟨0, s.tap.cells⟩ }) ∧
  (∀ s : State, s.powered = true →
    Answers .tapIdcode s fun t => t = { s with tap := ⟨1, s.tap.cells⟩, rdata := 0x1C480A5F#64 }) ∧
  (∀ (s : State) (pins : List Bool), s.powered = true →
    Answers (.tapSamplePreload pins) s fun t => t = { s with tap := ⟨2, pins⟩ }) ∧
  (∀ (s : State) (cells : List Bool), s.powered = true →
    Answers (.tapExtest cells) s fun t =>
      t = { s with tap := if s.pwr.phase = .bscan then ⟨3, cells⟩ else ⟨0, s.tap.cells⟩ })

/-- From R98, R105, R123, R425: the rows of the start sequence. -/
def Obligations.StartSequence : Prop :=
  (∀ s : State, s.pwr.phase = .good → s.pwr.loss = 0 → s.pwr.testEn = false →
    Answers (.selftestComplete true) s fun t =>
      t.pwr = { s.pwr with phase := .checking } ∧ t.vltState = 2 ∧ t.bit rDevCfgStat 1 = true) ∧
  (∀ s : State, s.pwr.phase = .good → s.pwr.loss = 0 → s.pwr.testEn = true →
    Answers (.selftestComplete true) s fun t => t.pwr = { s.pwr with phase := .bscan } ∧ t.vltState = 1) ∧
  (∀ s : State, s.pwr.phase = .good → s.pwr.loss = 0 →
    AnswersVia State.vaultError (.selftestComplete false) s fun t =>
      t.pwr.phase = if s.pwr.testEn then .bscan else .checking) ∧
  (∀ s : State, s.pwr.phase = .checking → s.pwr.loss = 0 → s.bit rDevCfgStat 1 = true → s.pwr.slotOk = false →
    Answers (.slotCheckComplete false) s fun t =>
      t.pwr = { s.pwr with tried := s.pwr.tried + 1 } ∧ t.rd rDevCfgErr = errDev eFlash 0) ∧
  (∀ (s : State) (k : Nat), s.pwr.phase = .checking → s.pwr.loss = 0 → s.bit rDevCfgStat 1 = true →
    s.pwr.slotOk = false → k = (if s.pwr.tried = 0 then s.activeSlot else s.inactive) →
    Answers (.slotCheckComplete true) s fun t =>
      match (do let p ← s.checkImage (s.slotBytes k); s.checkPlane p; pure p : Except Word Plane) with
      | .ok p => ∃ u : State, t = u.applyHst p ∧ u.pwr = { s.pwr with slotOk := true } ∧ u.fld rDevVltStat 0 1 = k % 2 ∧
        u.fld rDevVltStat 2 1 = s.pwr.tried % 2
      | .error e => t.pwr = { s.pwr with tried := s.pwr.tried + 1 } ∧ t.rd rDevCfgErr = e) ∧
  (∀ (s : State) (failed : BitVec 16) (step : BitVec 4), s.memState = 1 → s.fld rHstPwr 0 3 ≠ 4 →
    AnswersVia (fun t => (t.fenceUnits 1
        (((s.scs.filter s.scUp).filter (fun n => failed.getLsbD n && decide (2 ≤ n))).map scUnit)).memReady)
      (.trainingComplete failed step) s fun t => t.memState = 2 ∧ t.mem = s.mem) ∧
  (∀ s : State, s.pwr.phase = .checking → s.pwr.loss = 0 → s.pwr.slotOk = true → s.memState = 2 →
    Answers .framesApplied s fun t => match s.checkImage (s.slotBytes (s.fld rDevVltStat 0 1)) with
      | .ok p => t.plane = some p ∧ t.pwr = { s.pwr with phase := .applied, sigDone := t.pwr.sigDone } ∧
        t.flash = s.flash
      | .error _ => t = s) ∧
  (∀ s : State, s.pwr.phase = .applied → s.pwr.loss = 0 → s.aud.safe = 0 → s.mssFail true true true = 0 →
    Answers (.release true true true) s fun t => t.pwr.phase = .released ∧ t.plane = s.plane)

/-- From R121, R122, R128, R130, R132: resets and the loss-of-mains sequence. -/
def Obligations.ResetsAndLossOfMains : Prop :=
  (∀ (s : State) (v : Word), s.reaches 0 = true → fget v 16 16 = 0xA5C3 → v.getLsbD 0 = true → s.pwr.loss = 0 →
    s.bit rSvcPwrStat 1 = false → s.pwr.phase ≠ .bscan → s.powerFailed = false →
    Answers (.moduleReset v) s fun t =>
      t.pwr.phase = .good ∧ t.pwr.kind = 3 ∧ t.plane = none ∧ t.flash = s.flash ∧ t.otp = s.otp ∧ t.variant = s.variant) ∧
  (∀ (s : State) (v : Word), s.reaches 0 = true → fget v 16 16 ≠ 0xA5C3 →
    Answers (.moduleReset v) s fun t =>
      t.fld rDevSvCnt 0 16 = min (s.fld rDevSvCnt 0 16 + 1) 0xFFFF ∧ t.pwr = s.pwr ∧ t.mem = s.mem) ∧
  (∀ s : State, s.ctlUp = true → s.pwr.loss = 0 → s.bit rSvcPwrStat 1 = false → s.pwr.phase ≠ .bscan →
    s.powerFailed = false →
    Answers (.nvmSubsystemReset 0x4E564D65#32) s fun t => t.pwr.phase = .good ∧ t.pwr.kind = 4 ∧ t.plane = none) ∧
  (∀ s : State, s.pwr.loss = 4 → s.bit rSvcPwrStat 1 = false → s.pwr.phase ≠ .bscan → s.powerFailed = false →
    Answers .brownoutReset s fun t =>
      t.pwr.phase = .good ∧ t.pwr.kind = 2 ∧ t.pwr.loss = 0 ∧ t.flash = s.flash ∧ t.otp = s.otp) ∧
  (∀ s : State, s.pwr.loss = 1 → s.released = true →
    AnswersThen .lossOfMainsClose s fun t => t.pwr.loss = 2 ∧ t.pwr.startQ = [] ∧ t.flash = s.flash) ∧
  (∀ s : State, s.pwr.loss = 1 → s.released = false →
    Answers .lossOfMainsClose s fun t => t = { s with pwr := { s.pwr with loss := 2 } }) ∧
  (∀ s : State, s.pwr.loss = 2 →
    AnswersVia State.refuseIo .lossOfMainsSelfRefresh s fun t => t.pwr = { s.pwr with loss := 3 }) ∧
  (∀ s : State, s.memState = 3 → s.pwr.loss ≠ 3 → s.hst.cmds.all (fun c => !(c.st == 1 && c.early)) = true →
    AnswersVia State.finishWrites .srEntered s fun t => t.memState = 4 ∧ t.mem.q = [] ∧ t.pwr = s.pwr) ∧
  (∀ s : State, s.memState = 3 → s.hst.cmds.any (fun c => c.st == 1 && c.early) = true →
    Answers .srEntered s fun t => t = s) ∧
  (∀ s : State, s.memState ≠ 3 → s.pwr.loss = 3 →
    Answers .srEntered s fun t =>
      t.pwr = { s.pwr with loss := 4 } ∧ t.bit rSvcAudStat 0 = false ∧ t.aud = { s.aud with level := false }) ∧
  (∀ (s : State) (cl : Fin 16) (v : Word), s.reaches cl = true → clusterPresent s.variant cl = true → cl ≠ 0 →
    s.fenced cl 0 = false → s.rstRefused cl v = true →
    Answers (.clusterReset cl v) s fun t => t = s.violation (unitBase cl 0 + 0x30)) ∧
  (∀ (s : State) (cl : Fin 16) (v : Word), s.reaches cl = true → clusterPresent s.variant cl = true → cl ≠ 0 →
    s.fenced cl 0 = false → s.rstRefused cl v = false →
    Answers (.clusterReset cl v) s fun t =>
      (∀ u ∈ s.rstUnits cl v, present s.variant cl u = true → (cl.val, u) ∈ t.pwr.rst) ∧
      (∀ x ∈ s.pwr.rst, x ∈ t.pwr.rst) ∧ t = { s with pwr := { s.pwr with rst := t.pwr.rst } }) ∧
  (∀ (s : State) (cl : Fin 16), Answers (.clusterResetComplete cl) s fun t =>
      t.pwr.rst = s.pwr.rst.filter (fun x => x.1 != cl.val) ∧ t.plane = s.plane ∧ t.flash = s.flash) ∧
  (∀ s : State, s.powered = true → s.pwr.perst = false →
    Answers .perstAssert s fun t => t.pwr.perst = true ∧ t.hst.cc = 0#32 ∧ t.plane = s.plane ∧ t.mem = s.mem) ∧
  (∀ s : State, s.powered = true → s.pwr.perst = true →
    Answers .perstDeassert s fun t => t.pwr = { s.pwr with perst := false } ∧ t.fld rHstLink 28 4 = 1) ∧
  (∀ s : State, s.powered = true →
    Answers .thermalCutoff s fun t =>
      t.pwr.phase = .off ∧ t.pwr.cutoff = true ∧ t.mem.dram = [] ∧ t.flash = s.flash ∧ t.otp = s.otp) ∧
  (∀ s : State, s.pwr.cutoff = true →
    Answers .mainsOffAfterCutoff s fun t => t.pwr = { s.pwr with cutoff := false } ∧ t.bit rSvcPwrStat 0 = false)

/-- From R27, R28, R29, R30: the demands on the step of CLK_PX and its change. -/
def Obligations.StepOfClkPx : Prop :=
  (∀ (s : State) (mw : Nat), s.powered = true →
    AnswersVia State.stepEval (.powerSupervisorEvaluate mw) s fun t =>
      t.pwr = { s.pwr with inputMw := mw } ∧
      t.fld rDevClk 6 2 = if s.fld rHstPwr 0 3 = 1 then 3 else s.fld rDevClk 6 2) ∧
  (∀ s : State, s.powered = true → 470000 < s.pwr.inputMw → s.fld rHstPwr 0 3 ≠ 1 →
    AnswersVia State.stepEval .stepPwrSlower s fun t =>
      t.fld rDevClk 6 2 = min 3 (s.fld rDevClk 6 2 + 1) ∧ t.pwr = s.pwr) ∧
  (∀ s : State, s.powered = true → s.pwr.inputMw ≤ 440000 → s.fld rHstPwr 0 3 ≠ 1 →
    AnswersVia State.stepEval .stepPwrFaster s fun t => t.fld rDevClk 6 2 = s.fld rDevClk 6 2 - 1 ∧ t.pwr = s.pwr) ∧
  (∀ (s : State) (v : Word), s.reaches 0 = true →
    AnswersVia State.stepEval (.stepLimitWrite v) s fun t =>
      t.fld rDevClk 4 2 = fget v 4 2 ∧ t.fld rDevClk 0 2 = s.fld rDevClk 0 2 ∧ t.clk = s.clk) ∧
  (∀ s : State, s.clk.stage = 1 → s.drained = true →
    Answers .clockSwitch s fun t =>
      t.stepAct = s.clk.target % 4 ∧ t.clk = { s.clk with stage := 2, drain := [] } ∧ ∀ r, r ≠ rDevClk → t.rd r = s.rd r) ∧
  (∀ s : State, s.clk.stage = 2 →
    AnswersVia State.stepEval .stepChanged s fun t =>
      t.clk = ⟨0, s.clk.target, s.clk.target, []⟩ ∧ t.bit rDevClk 8 = false ∧
      (s.speaks 0x001 0 = true → t.hears 0x001 0 = true))

/-- From R50, R51, R52: the V12 outputs of the heads. -/
def Obligations.HeadOutputs : Prop :=
  (∀ (s : State) (meas : List (Nat × Nat)) (line : Option Bool), Instr.wf (.headOutputMeasure (meas, line)) = true →
    Answers (.headOutputMeasure (meas, line)) s fun t => (∀ n : Fin 4,
      t.rd (rSvcHpwrMeas n) = (if s.hpwr n = 1 ∨ s.hpwr n = 2 then
        BitVec.ofNat 32 ((meas.getD n (0, 0)).1 * 2 ^ 16 + (meas.getD n (0, 0)).2) else 0#32) ∧ t.hpwr n = s.hpwr n) ∧
      (s.powered = true → t.bit rSvcPwrStat 0 = line.getD (s.bit rSvcPwrStat 0)) ∧ t.pwr.startQ = s.pwr.startQ) ∧
  (∀ (s : State) (h : Fin 4) (ma : Nat), s.hpwr h = 1 → 4000 < ma ∨ s.pwr.oc.getD h 0 ≠ 0 →
    AnswersThen (.tripOc (h, ma)) s fun t => t.hpwr h = 4 ∧ (s.speaks 0x119 3 = true → t.hears 0x119 3 = true)) ∧
  (∀ (s : State) (h : Fin 4) (ma : Nat), s.hpwr h = 2 → 4000 < ma ∨ s.pwr.oc.getD h 0 ≠ 0 →
    AnswersVia (fun t => ((t.portStop h).raise 0x119 3).follow) (.tripOc (h, ma)) s fun t =>
      t.hpwr h = 4 ∧ t.rd (rSvcHpwrMeas h) = 0#32 ∧ h.val ∉ t.pwr.startQ) ∧
  (∀ (s : State) (h : Fin 4) (ma : Nat), ma ≤ 4000 → s.pwr.oc.getD h 0 = 0 → Answers (.tripOc (h, ma)) s fun t => t = s) ∧
  (∀ (s : State) (h : Fin 4), s.hpwr h = 2 → s.pwr.uv.getD h 0 ≠ 0 →
    AnswersVia (fun t => ((t.portStop h).raise 0x119 3).follow) (.tripUv h) s fun t =>
      t.hpwr h = 6 ∧ t.rd (rSvcHpwrMeas h) = 0#32) ∧
  (∀ (s : State) (h : Fin 4), s.hpwr h = 2 → (∀ k : Fin 4, h < k → s.hpwr k ≠ 2) → 10 ≤ s.pwr.tot → s.v12Over = true →
    AnswersVia (fun t => ((t.portStop h).raise 0x119 3).follow) .tripTotal s fun t =>
      t.hpwr h = 5 ∧ t.rd (rSvcHpwrMeas h) = 0#32 ∧ t.pwr.tot = 0) ∧
  (∀ s : State, s.pwr.tot < 10 ∨ s.v12Over = false → Answers .tripTotal s fun t => t = s) ∧
  (∀ (s : State) (h : Fin 4), s.pwr.startQ.head? = some h.val → s.v12May = true → s.v12En h = true →
    s.pwr.pres.getLsbD h = true → s.hpwr h ≠ 1 → s.hpwr h ≠ 2 →
    Answers (.headOutputStart h) s fun t => t.hpwr h = 1 ∧
      t.pwr = { s.pwr with
        startQ := s.pwr.startQ.filter (· != h.val), oc := setAt s.pwr.oc h 0, uv := setAt s.pwr.uv h 0 }) ∧
  (∀ (s : State) (h : Fin 4), s.hpwr h = 1 →
    AnswersVia (fun t => t.portStart h) (.headOutputOn h) s fun t => t.hpwr h = 2) ∧
  (∀ (s : State) (h : Fin 4) (present : Bool),
    AnswersVia (fun t => (t.syncV12 h).follow) (.headPresenceChange h present) s fun t =>
      t.pwr.pres.getLsbD h = present ∧ (∀ k : Fin 4, k ≠ h → t.pwr.pres.getLsbD k = s.pwr.pres.getLsbD k) ∧ t.regs = s.regs) ∧
  (∀ (s : State) (v : Word), s.reaches 15 = true →
    AnswersVia (fun t => t.syncV12All.follow) (.svcHpwrCtlWrite v) s fun t =>
      (∀ n : Fin 4, t.bit rSvcHpwrCtl n = (v.getLsbD n && s.declared n)) ∧ t.pwr = s.pwr)

/-- From R98, R100, R108, R111, R112, R113: the Vault's loads, activations and self-tests. -/
def Obligations.VaultCommands : Prop :=
  (∀ s : State, Answers .nop s fun t => t = s) ∧
  (∀ (s : State) (arg : BitVec 24), s.vltUp = true → s.pwr.phase = .bscan → Answers (.loadEscrow arg) s fun t => t = s) ∧
  (∀ (s : State) (arg : BitVec 24), s.vltUp = true → s.pwr.phase ≠ .bscan → 1 < arg.toNat ∨ arg.toNat = s.activeSlot →
    Answers (.loadEscrow arg) s fun t => t = s.setRes 11) ∧
  (∀ (s : State) (arg : BitVec 24), s.vltUp = true → s.pwr.phase ≠ .bscan → arg.toNat ≤ 1 → arg.toNat ≠ s.activeSlot →
    s.vltBusy = true →
    Answers (.loadEscrow arg) s fun t => t = (if s.loading then s.loadError (errDev eBusy 0) else s).setRes 1) ∧
  (∀ (s : State) (arg : BitVec 24), s.vltUp = true → s.pwr.phase ≠ .bscan → arg.toNat ≤ 1 → arg.toNat ≠ s.activeSlot →
    s.vltBusy = false →
    Answers (.loadEscrow arg) s fun t =>
      t.escrow = none ∧ t.vltState = 2 ∧ t.bit rDevCfgStat 1 = true ∧ t.bit rDevCfgStat 2 = false ∧
      t.vlt = { s.vlt with load := 1 } ∧ t.flash = s.flash ∧ t.plane = s.plane) ∧
  (∀ s : State, s.vlt.load = 1 → s.vltState = 2 →
    AnswersVia (fun t => ((t.vltRest).loadFailed (errDev eFlash 0)).endCommit stFwImage (errDev eFlash 0).toNat)
      (.escrowReady false) s fun t =>
      t.vlt = { s.vlt with load := 0 } ∧ t.bit rDevCfgStat 1 = false ∧ t.escrow = s.escrow ∧ t.flash = s.flash) ∧
  (∀ s : State, s.vlt.load = 1 → s.vltState = 2 →
    Answers (.escrowReady true) s fun t => match s.loadPlane with
      | (u, .ok p) =>
        t.escrow = some p ∧ t.fld rDevVltStat 16 8 = 0 ∧ t.vlt = { u.vlt with load := 0 } ∧
        (u.speaks 0x006 1 = true → t.hears 0x006 1 = true)
      | (u, .error _) => t.fld rDevVltStat 16 8 = 3 ∧ t.escrow = u.escrow ∧ t.vlt.load = 0) ∧
  (∀ s : State, s.vltUp = true → s.vltBusy = true →
    Answers .activate s fun t => t = (if s.loading then s.loadError (errDev eBusy 0) else s).setRes 1) ∧
  (∀ (s : State) (e : Word), (s.loadError e).rd rDevCfgErr = e ∧ (s.loadError e).escrow = s.escrow ∧
    (s.speaks 0x005 0 = true → (s.loadError e).hears 0x005 0 = true)) ∧
  (∀ s : State, s.vltUp = true → s.vltBusy = false → s.escrow = none → Answers .activate s fun t => t = s.setRes 2) ∧
  (∀ (s : State) (q : Plane), s.vltUp = true → s.vltBusy = false → s.escrow = some q → s.capture = true →
    Answers .activate s fun t => match s.checkActivate q with
      | .ok _ => t.vltState = 4 ∧ t.escrow = some q ∧ t.plane = s.plane ∧
        t.vlt = { s.vlt with search := false, held := 0, recheck := false, tries := 0 }
      | .error e => t = (s.loadFailed e).endCommit stFwImage e.toNat) ∧
  (∀ (s : State) (q : Plane), s.vltUp = true → s.vltBusy = false → s.escrow = some q → s.capture = false →
    Answers .activate s fun t => match s.checkActivate q with
      | .ok _ => t = (s.setVlt { s.vlt with search := false, held := 0, recheck := false, tries := 0 }).swap
      | .error e => t = (s.loadFailed e).endCommit stFwImage e.toNat) ∧
  (∀ s : State, s.vltUp = true → s.vltState = 5 ∨ s.vlt.verify ≠ 0 → Answers .cancel s fun t => t = s.setRes 1) ∧
  (∀ s : State, s.vltUp = true → s.vltState = 4 → s.vlt.verify = 0 →
    AnswersVia State.prohibitCommit .cancel s fun t =>
      t.escrow = none ∧ t.fld rDevVltStat 16 8 = 5 ∧
      t.vlt = { s.vlt with search := false, held := 0, recheck := false } ∧
      t.vltState = if s.vlt.testing then 0 else 1) ∧
  (∀ s : State, s.vltUp = true → s.vltBusy = true → Answers .selftest s fun t => t = s.setRes 1) ∧
  (∀ s : State, s.vltUp = true → s.vltBusy = false →
    Answers .selftest s fun t => t.vltState = 0 ∧ t.vlt = { s.vlt with testing := true } ∧ t.escrow = s.escrow) ∧
  (∀ s : State, s.vlt.testing = true →
    Answers (.selftestDone true) s fun t =>
      t.vlt = { s.vlt with testing := false } ∧ t.vltState = (if s.vltState = 6 then 6 else if s.escrow.isSome then 3 else 1) ∧
      t.fld rDevVltStat 16 8 = 0 ∧ (s.speaks 0x003 1 = true → t.hears 0x003 1 = true)) ∧
  (∀ s : State, s.powered = true → s.vltState ≠ 6 →
    Answers .vaultError s fun t =>
      t.vltState = 6 ∧ t.bit rDevCfgStat 1 = false ∧ t.fld rDevVltStat 1 1 = 0 ∧ t.escrow = s.escrow ∧
      t.vlt = { s.vlt with testing := false, load := 0, verify := 0, search := false, held := 0, recheck := false } ∧
      (s.vltState = 5 → s.fld rHstTeller 28 4 = 2 → t.fld rHstTeller 28 4 = 1) ∧
      (s.speaks 0x00A 1 = true → t.hears 0x00A 1 = true)) ∧
  (∀ s : State, s.vltState = 5 → s.vlt.recheck = false → s.escrow.isSome = true →
    AnswersVia State.swap .swapPoint s fun t => t = s) ∧
  (∀ s : State, s.vltState = 4 → s.vlt.held ≠ 0 →
    AnswersVia State.failAttempt .holdTimeout s fun t => t = s) ∧
  (∀ (s : State) (p q : Plane), s.plane = some p → s.escrow = some q →
    s.swap.plane = some q ∧ s.swap.escrow = none)

/-- From R96, R102, R116, R118, R119: the officer services and signing. An officer command without a valid authorisation record
ends with AUTH_REQUIRED; in every case the record is used up and the nonce renewed. -/
def Obligations.OfficerServicesAndSigning : Prop :=
  (∀ (s : State) (arg : BitVec 24), s.vltUp = true →
    Answers (.floorAdvance arg) s fun t =>
      t.vlt = { s.vlt with auth := none, nonce := s.vlt.nonce + 1 } ∧
      if s.authOk 0x10 arg.toNat then
        (if s.otp.floor < min 255 (match s.plane with | some p => p.secVersion | none => 0) then
          t.otp = { s.otp with floor := min 255 (match s.plane with | some p => p.secVersion | none => 0) } ∧
            t.fld rDevVltStat 16 8 = 0
        else t.otp = s.otp ∧ t.fld rDevVltStat 16 8 = 8)
      else t.otp = s.otp ∧ t.fld rDevVltStat 16 8 = 7) ∧
  (∀ (s : State) (arg : BitVec 24), s.vltUp = true → arg.toNat < 4 →
    Answers (.revoke arg) s fun t =>
      t.vlt = { s.vlt with auth := none, nonce := s.vlt.nonce + 1 } ∧
      if s.authOk 0x11 arg.toNat then
        t.otp = { s.otp with revoked := s.otp.revoked ||| BitVec.ofNat 4 (2 ^ arg.toNat) } ∧ t.fld rDevVltStat 16 8 = 0
      else t.otp = s.otp ∧ t.fld rDevVltStat 16 8 = 7) ∧
  (∀ (s : State) (arg : BitVec 24), s.vltUp = true → 4 ≤ arg.toNat →
    Answers (.revoke arg) s fun t => t.otp = s.otp ∧ t.fld rDevVltStat 16 8 = 7) ∧
  (∀ (s : State) (arg : BitVec 24), s.vltUp = true → s.otp.zeroized = false →
    Answers (.zeroize arg) s fun t =>
      t.vlt.auth = none ∧ t.vlt.nonce = s.vlt.nonce + 1 ∧
      if s.authOk 0x12 arg.toNat then
        t.otp = { s.otp with zeroized := true } ∧ t.escrow = none ∧ t.vlt.drbg = s.vlt.drbg + 1 ∧ t.vlt.load = 0
      else t.otp = s.otp ∧ t.fld rDevVltStat 16 8 = 7) ∧
  (∀ (s : State) (arg : BitVec 24), s.vltUp = true → s.otp.zeroized = true →
    Answers (.zeroize arg) s fun t =>
      t.otp = s.otp ∧ t.fld rDevVltStat 16 8 = if s.authOk 0x12 arg.toNat then 9 else 7) ∧
  (∀ (s : State) (r : SigReq) (l : List SigReq), s.vlt.sigq = r :: l → s.vlt.testing = false → s.vltState ≠ 6 →
    s.vltState ≠ 0 → s.otp.zeroized = false →
    Answers .signatureComplete s fun t =>
      if pairwise r.digest (akSign r.digest s.vlt.drbg) then
        ∃ u : State, t = (u.setVlt { s.vlt with sigq := l, drbg := s.vlt.drbg + 1 }).syncSigq ∧
          u = ((s.memWrite (r.addr + 0xC0) (beBytes 48 (akSign r.digest s.vlt.drbg).1 ++
            beBytes 48 (akSign r.digest s.vlt.drbg).2)).1).raise 0x062 9
      else t = s.vaultError) ∧
  (∀ s : State, s.vlt.sigq = [] → Answers .signatureComplete s fun t => t = s)

/-- From R9, R11, R38, R71, R88 and R249: reads and writes of the BAR2 window. The kinds named here are those whose registers have no
write effect of their own; the rows of the other kinds have statements of their own. -/
def Obligations.RegisterWindow : Prop :=
  (∀ (s : State) (addr : BitVec 26) (be : BitVec 8) (lo hi : Word) (k : Kind) (n : Nat) (r : RegRow),
    addr.toNat % 4 = 0 → be.setWidth 4 = 0xF#4 → s.reaches (clusterOf addr.toNat) = true →
    s.unitLive (clusterOf addr.toNat) (unitOf addr.toNat) = true →
    kindOf (clusterOf addr.toNat) (unitOf addr.toNat) = some (k, n) →
    k ∈ [Kind.cal, .attest, .schSo, .corCore, .vidCore, .cmpEng, .hstPcie, .therm] →
    rowAt addr.toNat = some r → (s.rd addr.toNat ^^^ lo) &&& r.mask .st = 0#32 →
    Answers (.registerWrite addr be false lo hi) s fun t =>
      t.rd addr.toNat = ((s.rd addr.toNat &&& ~~~ (r.mask .rw)) ||| (lo &&& r.mask .rw)) &&& ~~~ (lo &&& r.mask .w1c)) ∧
  (∀ (s : State) (addr : BitVec 26) (be : BitVec 8) (lo hi : Word) (k : Kind) (n : Nat) (r : RegRow),
    addr.toNat % 4 = 0 → be.setWidth 4 = 0xF#4 → s.reaches (clusterOf addr.toNat) = true →
    s.unitLive (clusterOf addr.toNat) (unitOf addr.toNat) = true →
    kindOf (clusterOf addr.toNat) (unitOf addr.toNat) = some (k, n) →
    k ∈ [Kind.cal, .attest, .schSo, .corCore, .vidCore, .cmpEng, .hstPcie, .therm] →
    rowAt addr.toNat = some r → (s.rd addr.toNat ^^^ lo) &&& r.mask .st ≠ 0#32 → s.capture = true →
    AnswersVia (fun t => t.violation addr.toNat) (.registerWrite addr be false lo hi) s fun t =>
      t.rd addr.toNat = ((s.rd addr.toNat &&& ~~~ (r.mask .rw)) ||| (lo &&& r.mask .rw)) &&& ~~~ (lo &&& r.mask .w1c) ∧
      ∀ a, a ≠ addr.toNat → t.rd a = s.rd a) ∧
  (∀ (s : State) (addr : BitVec 26) (be : BitVec 8) (lo hi : Word) (k : Kind) (n : Nat) (r : RegRow),
    addr.toNat % 4 = 0 → be.setWidth 4 = 0xF#4 → s.reaches (clusterOf addr.toNat) = true →
    s.unitLive (clusterOf addr.toNat) (unitOf addr.toNat) = true →
    kindOf (clusterOf addr.toNat) (unitOf addr.toNat) = some (k, n) →
    k ∈ [Kind.cal, .attest, .schSo, .corCore, .vidCore, .cmpEng, .hstPcie, .therm] →
    rowAt addr.toNat = some r → (s.rd addr.toNat ^^^ lo) &&& r.mask .st ≠ 0#32 → s.capture = false →
    AnswersVia State.altered (.registerWrite addr be false lo hi) s fun t =>
      t.rd addr.toNat = ((s.rd addr.toNat &&& ~~~ (r.mask .rw ||| r.mask .st)) ||| (lo &&& (r.mask .rw ||| r.mask .st))) &&&
        ~~~ (lo &&& r.mask .w1c)) ∧
  (∀ (s : State) (addr : BitVec 26) (be : BitVec 8) (lo hi : Word) (r : RegRow),
    addr.toNat % 4 = 0 → be.setWidth 4 = 0xF#4 → s.reaches 4 = true → s.unitLive 4 (unitOf addr.toNat) = true →
    clusterOf addr.toNat = 4 → kindOf 4 (unitOf addr.toNat) = some (.schA5, 0) →
    rowAt addr.toNat = some r → (s.rd addr.toNat ^^^ lo) &&& r.mask .st = 0#32 →
    AnswersVia State.syncA5 (.registerWrite addr be false lo hi) s fun t =>
      t.rd addr.toNat = ((s.rd addr.toNat &&& ~~~ (r.mask .rw)) ||| (lo &&& r.mask .rw)) &&& ~~~ (lo &&& r.mask .w1c) ∧
      ∀ a, a ≠ addr.toNat → t.rd a = s.rd a) ∧
  (∀ (s : State) (addr : BitVec 26) (be : BitVec 8) (lo hi : Word),
    s.unitLive (clusterOf addr.toNat) (unitOf addr.toNat) = false ∨ rowAt addr.toNat = none ∨ be.setWidth 4 ≠ 0xF#4 →
    mirror (clusterOf addr.toNat) (unitOf addr.toNat) (offOf addr.toNat) = false →
    Answers (.registerWrite addr be false lo hi) s fun t => t = s) ∧
  (∀ (s : State) (addr : BitVec 26) (be : BitVec 8) (lo hi : Word), addr.toNat % 8 = 0 → be = 0xFF#8 →
    Answers (.registerWrite addr be true lo hi) s fun t =>
      t = (s.busWrite addr.toNat lo).busWrite (addr.toNat + 4) hi) ∧
  (∀ (s : State) (addr : BitVec 26) (k : Kind) (n : Nat), s.reaches 0 = true → addr.toNat % 4 = 0 →
    s.reaches (clusterOf addr.toNat) = true → present s.variant (clusterOf addr.toNat) (unitOf addr.toNat) = true →
    kindOf (clusterOf addr.toNat) (unitOf addr.toNat) = some (k, n) → offOf addr.toNat = 0 →
    Answers (.readToClear addr false) s fun t => t = { s with rdata := 0#32 ++ identWord k n }) ∧
  (∀ (s : State) (addr : BitVec 26), s.reaches 0 = true → addr.toNat % 4 = 0 →
    present s.variant (clusterOf addr.toNat) (unitOf addr.toNat) = false →
    Answers (.readToClear addr false) s fun t => t = { s with rdata := 0#64 }) ∧
  (∀ (s : State) (addr : BitVec 26) (k : Kind) (n : Nat) (r : RegRow), s.reaches 0 = true → addr.toNat % 4 = 0 →
    s.reaches (clusterOf addr.toNat) = true → s.unitLive (clusterOf addr.toNat) (unitOf addr.toNat) = true →
    kindOf (clusterOf addr.toNat) (unitOf addr.toNat) = some (k, n) → 8 ≤ offOf addr.toNat →
    blockGone s.variant k (offOf addr.toNat) = false → k ≠ .hstNvme → k ≠ .dev → k ≠ .mint →
    captures k (offOf addr.toNat) = false → rowAt addr.toNat = some r →
    Answers (.readToClear addr false) s fun t =>
      t.rdata = 0#32 ++ (((s.view k n (offOf addr.toNat) addr.toNat &&& ~~~ r.mask .rws) |||
        (s.shd addr.toNat &&& r.mask .rws)) &&& ~~~ r.mask .wo) ∧
      t.rd addr.toNat = s.rd addr.toNat &&& ~~~ r.mask .rc ∧ ∀ a, a ≠ addr.toNat → t.rd a = s.rd a) ∧
  (∀ (s : State) (addr : BitVec 26) (k : Kind) (n : Nat) (r r' : RegRow), s.reaches 0 = true → addr.toNat % 4 = 0 →
    s.reaches (clusterOf addr.toNat) = true → s.unitLive (clusterOf addr.toNat) (unitOf addr.toNat) = true →
    kindOf (clusterOf addr.toNat) (unitOf addr.toNat) = some (k, n) → captures k (offOf addr.toNat) = true →
    rowAt addr.toNat = some r → rowAt (addr.toNat + 4) = some r' →
    Answers (.captureRead addr) s fun t =>
      t.rdata = 0#32 ++ (s.quantity k n (offOf addr.toNat) addr.toNat).setWidth 32 ∧
      t.rd (addr.toNat + 4) = ((s.quantity k n (offOf addr.toNat) addr.toNat) >>> 32).setWidth 32 &&& r'.mask .ro)

/-- From R31 to R33, R36 and R309: at its boundary point a frame leaves the tap and its stream commits shadows, LUT, stripes and
cap; the oldest Tally record that waits is written, or given up where no Tally unit serves. -/
def Obligations.BoundaryAndTally : Prop :=
  (∀ (s : State) (stream : Fin 64), s.ing.frames.find? (fun f => f.stream == stream.val && f.tap == 1 && !f.open_) = none →
    Answers (.boundaryPoint stream) s fun t => t = s) ∧
  (∀ (s : State) (stream : Fin 64) (f : Frame),
    s.ing.frames.find? (fun f => f.stream == stream.val && f.tap == 1 && !f.open_) = some f →
    AnswersVia (fun t => (t.boundaryAt stream f.serial).follow) (.boundaryPoint stream) s fun t =>
      t = (s.finishFrame f).dropFrame f ∧ f ∉ t.ing.frames) ∧
  (∀ (s : State) (i serial : Nat), s.vltState ≠ 4 → s.vlt.held.getLsbD i = false →
    let u := (((s.commitStream i).lutSwap i).resplit i).capNow i
    s.boundaryAt i serial = if u.mintUp then u.setSchStr i { u.schStr i with noMint := false } else u) ∧
  (∀ (s : State) (i : Fin 64) (a : Nat) (r : RegRow), a = rIngStrPad i ∨ a = rIngStrTout i → rowAt a = some r →
    (s.commitStream i).rd a = (s.rd a &&& ~~~ r.mask .rws) ||| (s.shd a &&& r.mask .rws)) ∧
  (∀ (s : State) (stream : Fin 64), (s.pixStr stream).tally = [] → Answers (.tallyWrite stream) s fun t => t = s) ∧
  (∀ (s : State) (stream : Fin 64) (p : PendTally) (l : List PendTally), (s.pixStr stream).tally = p :: l →
    s.lead stream = none →
    AnswersVia (fun t => t.modEntry p.part p.serial (fun e => { e with owed := false })) (.tallyWrite stream) s fun t =>
      t = s.setPixStr stream { s.pixStr stream with tally := l }) ∧
  (∀ (s : State) (stream : Fin 64) (p : PendTally) (l : List PendTally) (c : Nat), (s.pixStr stream).tally = p :: l →
    s.lead stream = some c → s.unitLive (5 + c) 2 = false →
    AnswersVia (fun t => t.modEntry p.part p.serial (fun e => { e with owed := false, flags := e.flags ||| flag 3 }))
      (.tallyWrite stream) s fun t => t = s.setPixStr stream { s.pixStr stream with tally := l }) ∧
  (∀ (s : State) (stream : Fin 64) (p : PendTally) (l : List PendTally) (c : Nat), (s.pixStr stream).tally = p :: l →
    s.lead stream = some c → s.unitLive (5 + c) 2 = true → 16 ≤ p.bytes.length →
    AnswersVia (fun t => t.modEntry p.part p.serial (fun e =>
        { e with owed := false, tallyRef := some (t.fld (rIngPartLbase p.part) 0 19 + p.idx) }))
      (.tallyWrite stream) s fun t =>
      t.ing = s.ing ∧ ∃ (u : State) (b : List Byte), t = (u.memWrite (u.tallyAddr p.part p.idx) b).1 ∧ (u.pixStr stream).tally = l ∧ u.mem = s.mem ∧
        b.take 14 = p.bytes.take 14 ∧ b.drop 16 = p.bytes.drop 16)

/-- From R148, R149, R150, R158, R162: the training of a port and its control channel. -/
def Obligations.PortTraining : Prop :=
  (∀ (s : State) (n : Fin 4), s.unitLive 2 (1 + n) = true → s.v12On n = true → (s.lport n).sync = false →
    (s.portState n = 1 ∨ s.portState n = 4) → s.allLanes n 1 = true →
    AnswersVia (fun t => (t.reqTrain n 0 false).follow) (.controlChannelSync n) s fun t =>
      t.lport n = { s.lport n with sync := true, run := true } ∧ t.bit (rLnkPortStat n) 22 = true ∧
      ∀ r, r ≠ rLnkPortStat n → t.rd r = s.rd r) ∧
  (∀ (s : State) (n : Fin 4),
    AnswersThen (.controlSyncLoss n) s fun t =>
      t.lport n = { s.lport n with sync := false } ∧ t.bit (rLnkPortStat n) 22 = false ∧
      ∀ r, r ≠ rLnkPortStat n → t.rd r = s.rd r) ∧
  (∀ (s : State) (n : Fin 4), s.unitLive 2 (1 + n) = true → s.portState n = 1 → (s.lport n).sync = false →
    AnswersThen (.ctlSyncTimeout n) s fun t =>
      t.portState n = 0 ∧ (s.speaks (0x036 + 8 * n) (1 + n) = true → t.hears (0x036 + 8 * n) (1 + n) = true)) ∧
  (∀ (s : State) (n : Fin 4), s.training n = true →
    (s.bonded n).all (fun l => s.laneState l == 1 || s.laneState l == 2) = true →
    Answers (.cdrLock n) s fun t => ∀ l ∈ s.bonded n, t.laneState l = 3) ∧
  (∀ (s : State) (n : Fin 4) (heights : List (List Nat)), s.training n = true → s.allLanes n 3 = true →
    Instr.wf (.ctleSweepDone n heights) = true → heights.length = s.lanes n → (s.bonded n).Nodup →
    Answers (.ctleSweepDone n heights) s fun t =>
      (t.lport n).ctle = true ∧ ∀ (k : Nat) (h : List Nat), heights[k]? = some h →
        ∀ i, t.fld (rLnkLaneEq (s.physLane n k)) 0 4 = i → ∀ j, j < 16 → h.getD j 0 ≤ h.getD i 0) ∧
  (∀ (s : State) (n : Fin 4) (taps : List (List Int)), s.training n = true → s.allLanes n 3 = true →
    (s.lport n).ctle = true → s.fld (rLnkPortCfg n) 26 2 < 2 →
    AnswersVia (fun t => t.reqTrain n 1 (s.fld (rLnkPortCfg n) 26 2 == 1)) (.dfeConverged n taps) s fun t =>
      (t.lport n).pre = (s.fld (rLnkPortCfg n) 26 2 == 1) ∧ ∀ l ∈ s.bonded n, t.laneState l = 4) ∧
  (∀ (s : State) (n : Fin 4), s.training n = true → s.allLanes n 4 = true →
    AnswersThen (.amLock n) s fun t => t.portState n = 2 ∧ ∀ l ∈ s.bonded n, t.laneState l = 5) ∧
  (∀ (s : State) (n : Fin 4) (skew : Nat), s.training n = true → s.allLanes n 5 = true → skew ≤ 150 →
    AnswersVia (fun t => ((t.reqTrain n 2 false).raise (0x030 + 8 * n) (1 + n)).follow) (.portUp n skew) s fun t =>
      t.portState n = 3 ∧ t.fld (rLnkPortStat n) 8 8 = skew ∧ (t.lport n).tries = 0 ∧ (t.schHead n).count = 0 ∧
      ∀ l ∈ s.bonded n, t.laneState l = 6) ∧
  (∀ (s : State) (n : Fin 4) (skew : Nat), s.training n = true → s.allLanes n 5 = true → 150 < skew →
    AnswersVia (fun t => (t.attemptFailed n 0xFF#8).follow) (.portUp n skew) s fun t => t = s) ∧
  (∀ (s : State) (n : Fin 4) (failed : BitVec 8), s.inTraining n = true → (s.lport n).run = true →
    AnswersVia (fun t => (t.attemptFailed n failed).follow) (.trainingTimeout n failed) s fun t => t = s) ∧
  (∀ (s : State) (n : Fin 4) (failed : BitVec 8), (s.lport n).tries = 2 →
    ∃ u : State, s.attemptFailed n failed = u.reqTrain n 3 false ∧ u.portState n = 0) ∧
  (∀ (s : State) (n : Fin 4) (k : Fin 8), s.unitLive 2 (1 + n) = true → s.portState n = 3 →
    (s.bonded n).contains (8 * n + k) = true → s.bit (rLnkPortCtl n) 1 = false →
    AnswersVia (fun t => ((t.leaveUp n 0 false).flushStream n).follow) (.laneFault n k) s fun t =>
      t.laneState (8 * n + k) = 7 ∧ (∀ l ∈ s.bonded n, l ≠ 8 * n + k → t.laneState l = 5) ∧ t.portState n = 3) ∧
  (∀ (s : State) (n : Fin 4), s.reaches 2 = true → s.unitLive 2 (1 + n) = true → s.v12On n = true →
    s.portState n ≠ 3 →
    AnswersVia (fun t => ((t.setLport n { t.lport n with tries := 0 }).startAttempt n).follow) (.retrain n) s fun t =>
      t.portState n = 1 ∧ ∀ r, r ≠ rLnkPortStat n → t.rd r = s.rd r) ∧
  (∀ (s : State) (n : Fin 4), s.reaches 2 = true → s.unitLive 2 (1 + n) = true → s.v12On n = true → s.portState n = 3 →
    AnswersVia (fun t => ((t.setLport n { t.lport n with tries := 0 }).startAttempt n).follow) (.retrain n) s fun t =>
      t = s.leaveUp n 1 (s.fenced 2 (1 + n)))

/-- From R135 to R140, R146: codewords and packets. -/
def Obligations.CodewordsAndPackets : Prop :=
  (∀ (s : State) (l : Fin 32) (symbols : List Nat), s.unitLive 2 (16 + l) = true → s.laneState l = 4 →
    symbols.length = 2720 →
    AnswersThen (.codewordDecode l symbols) s fun t =>
      (t.lane l).prev = symbols.getLast?.getD 0 % 4 ∧ (t.lane l).fifo = [] ∧ t.laneState l = 4 ∧
      match gfLink.decode 30 15 ((chunks 10 ((grayOf (s.bit (rLnkLaneStat l) 8) (s.lane l).prev symbols).flatMap grayBits)
          544).map bitsNat) with
      | some (_, k) => t.rd (rLnkFecCor l) = satAdd (s.rd (rLnkFecCor l)) k ∧ t.rd (rLnkFecUnc l) = s.rd (rLnkFecUnc l)
      | none => t.rd (rLnkFecUnc l) = satAdd (s.rd (rLnkFecUnc l)) 1 ∧ t.rd (rLnkFecCor l) = s.rd (rLnkFecCor l)) ∧
  (∀ (s : State) (l : Fin 32) (symbols : List Nat) (k : Nat), s.unitLive 2 (16 + l) = true → s.laneState l = 6 →
    symbols.length = 2720 → (s.lane l).cw = some k → k ≠ 1023 → (s.lane l).miss < 4 →
    AnswersThen (.codewordDecode l symbols) s fun t =>
      (t.lane l).cw = some (k + 1) ∧ (t.lane l).miss = (s.lane l).miss ∧ t.laneState l = 6 ∧
      ∃ b : List Blk, b.length = 20 - (s.lane l).lag ∧ (t.lane l).fifo = (s.lane l).fifo ++ b) ∧
  (∀ (s : State) (n : Fin 4) (h : List Byte) (unc : Bool) (rest : List (List Byte × Bool)), s.portUp n = true →
    (s.lport n).slots = (h, unc) :: rest → h.all (· == 0#8) = false → crc8 (h.take 7) ≠ leAt h 7 1 →
    AnswersThen (.packetReceive n) s fun t =>
      t.lport n = { s.lport n with slots := rest } ∧ t.rd (rLnkHdrErr n) = satAdd (s.rd (rLnkHdrErr n)) 1 ∧
      (s.speaks (0x034 + 8 * n) (1 + n) = true → t.hears (0x034 + 8 * n) (1 + n) = true)) ∧
  (∀ (s : State) (n : Fin 4) (h : List Byte) (rest : List (List Byte × Bool)), s.portUp n = true →
    (s.lport n).slots = (h, false) :: rest → h.all (· == 0#8) = false → crc8 (h.take 7) = leAt h 7 1 →
    0x08 ≤ leAt h 1 1 → leAt h 1 1 ≤ 0x0C → s.strDecl (n * 16 + leAt h 0 1 / 16) = true →
    AnswersVia (fun t => (t.nextPkt n).follow) (.packetReceive n) s fun t =>
      t.lport n = { s.lport n with slots := rest, inbox := (s.lport n).inbox ++ [⟨leAt h 1 1, leAt h 0 1 / 16,
        (h.getD 0 0#8).getLsbD 3, leAt h 2 2, leAt h 4 2, leAt h 6 1, [], false, false, false⟩] } ∧ t.regs = s.regs) ∧
  (∀ (s : State) (n : Fin 4), s.portUp n = false → AnswersThen (.packetReceive n) s fun t => t = s)

/-- From R151, R155, R156, R157: adaptation and the eye scan. -/
def Obligations.AdaptationAndEyeScan : Prop :=
  (∀ (s : State) (l : Fin 32) (signE : Int) (signD : List Int), s.unitLive 2 (16 + l) = true → s.laneState l = 6 →
    s.bit (rLnkLaneEq l) 8 = false → Instr.wf (.dfeUpdate l signE signD) = true →
    Answers (.dfeUpdate l signE signD) s fun t => ∀ k, k < 8 →
      t.rd (rLnkLaneDfe l k) = tapWord ((s.rd (rLnkLaneDfe l k)).toInt + signE.sign * (signD.getD k 0).sign)) ∧
  (∀ (s : State) (l : Fin 32) (signE : Int) (signD : List Int), s.laneState l ≠ 6 ∨ s.bit (rLnkLaneEq l) 8 = true →
    Answers (.dfeUpdate l signE signD) s fun t => t = s) ∧
  (∀ (s : State) (l : Fin 32) (v : Word), s.reaches 2 = true → s.unitLive 2 (16 + l) = true → s.laneState l = 6 →
    s.fld (rLnkLaneEsstat l) 28 4 ≠ 1 →
    Answers (.eyeScanStart l v) s fun t =>
      t.rd (rLnkLaneEsstat l) = 0x10000000#32 ∧ t.fld (rLnkLaneEsctl l) 16 6 = clampNat 16 40 (fget v 16 6) ∧
      ∀ k, k < 8192 → t.rd (rLnkLaneEsram l k) = regDefault (rLnkLaneEsram l k)) ∧
  (∀ (s : State) (l : Fin 32) (v : Word), s.reaches 2 = true → s.unitLive 2 (16 + l) = true → s.laneState l ≠ 6 →
    s.fld (rLnkLaneEsstat l) 28 4 ≠ 1 →
    Answers (.eyeScanStart l v) s fun t => t.fld (rLnkLaneEsstat l) 28 4 = 4) ∧
  (∀ (s : State) (l : Fin 32), s.reaches 2 = true → s.unitLive 2 (16 + l) = true → s.fld (rLnkLaneEsstat l) 28 4 = 1 →
    Answers (.eyeScanAbort l) s fun t => t.fld (rLnkLaneEsstat l) 28 4 = 3 ∧ ∀ r, r ≠ rLnkLaneEsstat l → t.rd r = s.rd r) ∧
  (∀ (s : State) (l : Fin 32) (errors : Nat), s.unitLive 2 (16 + l) = true → s.fld (rLnkLaneEsstat l) 28 4 = 1 →
    s.fld (rLnkLaneEsstat l) 0 14 % 128 + 2 ^ s.fld (rLnkLaneEsctl l) 0 2 < 128 → s.fld (rLnkLaneEsstat l) 0 14 < 8192 →
    Answers (.eyeScanPoint l errors) s fun t =>
      t.fld (rLnkLaneEsstat l) 0 14 = s.fld (rLnkLaneEsstat l) 0 14 + 2 ^ s.fld (rLnkLaneEsctl l) 0 2 ∧
      t.fld (rLnkLaneEsstat l) 28 4 = 1 ∧
      t.rd (rLnkLaneEsram l (s.fld (rLnkLaneEsstat l) 0 14)) =
        BitVec.ofNat 32 (min 0xFFFFFF errors * 256 + s.fld (rLnkLaneEsctl l) 16 6)) ∧
  (∀ (s : State) (l : Fin 32) (errors : Nat), s.unitLive 2 (16 + l) = true → s.fld (rLnkLaneEsstat l) 28 4 = 1 →
    128 ≤ s.fld (rLnkLaneEsstat l) 0 14 % 128 + 2 ^ s.fld (rLnkLaneEsctl l) 0 2 →
    64 ≤ s.fld (rLnkLaneEsstat l) 0 14 / 128 + 2 ^ s.fld (rLnkLaneEsctl l) 2 2 →
    Answers (.eyeScanPoint l errors) s fun t =>
      t.fld (rLnkLaneEsstat l) 0 14 = 8192 ∧ t.fld (rLnkLaneEsstat l) 28 4 = 2)

/-- From R159, R160, R162: requests to the head and its answers. -/
def Obligations.HeadControl : Prop :=
  (∀ (s : State) (n : Fin 4), s.reaches 2 = true → s.unitLive 2 (1 + n) = true → s.fld (rLnkHcStat n) 28 4 ≠ 1 →
    (s.lport n).sync = true →
    AnswersVia (fun t => (t.sendNext n).follow) (.headWrite n) s fun t =>
      t.fld (rLnkHcStat n) 28 4 = 1 ∧ t.lport n = { s.lport n with rdyHost := some false }) ∧
  (∀ (s : State) (n : Fin 4), s.reaches 2 = true → s.unitLive 2 (1 + n) = true → s.fld (rLnkHcStat n) 28 4 ≠ 1 →
    (s.lport n).sync = true →
    AnswersVia (fun t => (t.sendNext n).follow) (.headRead n) s fun t =>
      t.fld (rLnkHcStat n) 28 4 = 1 ∧ t.lport n = { s.lport n with rdyHost := some true }) ∧
  (∀ (s : State) (n : Fin 4), s.reaches 2 = true → s.unitLive 2 (1 + n) = true → s.fld (rLnkHcStat n) 28 4 ≠ 1 →
    (s.lport n).sync = false →
    AnswersThen (.headRead n) s fun t => t = s.setFld (rLnkHcStat n) 28 4 5) ∧
  (∀ (s : State) (n : Nat), (s.lport n).sync = true → (s.lport n).cur = none → (s.lport n).rdyEpoch = none →
    (s.lport n).rdyTrain = [] → (s.lport n).rdyHost = some false →
    let r : CtlReq := ⟨1, ((s.lport n).tag + 1) % 256, (s.rd (rLnkHcAddr n)).toNat, leBytes 4 (s.rd (rLnkHcData n)).toNat, 4⟩
    (s.sendNext n).lport n = { s.lport n with
      tag := r.tag, cur := some (r, 0), rdyHost := none, tx := (s.lport n).tx ++ [r.bytes] } ∧
    (s.sendNext n).fld (rLnkHcStat n) 0 8 = r.tag) ∧
  (∀ (s : State) (n : Fin 4) (bytes : List Byte) (r : CtlReq) (k : Nat), s.unitLive 2 (1 + n) = true →
    (s.lport n).sync = true → ctlBad bytes true = false → leAt bytes 0 1 = 0x81 → leAt bytes 2 2 = 0 → (s.lport n).cur = some (r, k) →
    r.tag = leAt bytes 1 1 → r.cmd = 1 →
    AnswersVia (fun t => (t.sendNext n).follow) (.wrAck n bytes true) s fun t =>
      t.lport n = { s.lport n with cur := none } ∧ t.fld (rLnkHcStat n) 28 4 = 2 ∧ t.fld (rLnkHcStat n) 8 8 = 0) ∧
  (∀ (s : State) (n : Fin 4) (bytes : List Byte) (r : CtlReq) (k : Nat), s.unitLive 2 (1 + n) = true →
    (s.lport n).sync = true → ctlBad bytes true = false → leAt bytes 0 1 = 0x82 → (s.lport n).cur = some (r, k) →
    r.tag = leAt bytes 1 1 → r.cmd = 2 → leAt bytes 2 2 = r.len →
    AnswersVia (fun t => (t.sendNext n).follow) (.rdData n bytes true) s fun t =>
      t.lport n = { s.lport n with cur := none } ∧ t.fld (rLnkHcStat n) 28 4 = 2 ∧
      t.rd (rLnkHcData n) = BitVec.ofNat 32 (leAt (ctlData bytes) 0 4)) ∧
  (∀ (s : State) (n : Fin 4) (bytes : List Byte) (r : CtlReq) (k : Nat), s.unitLive 2 (1 + n) = true →
    (s.lport n).sync = true → ctlBad bytes true = false → leAt bytes 0 1 = 0x90 → (s.lport n).cur = some (r, k) →
    r.tag = leAt bytes 1 1 → r.cmd = 0x10 → leAt bytes 4 4 ≠ 0 →
    AnswersVia (fun t => (t.sendNext n).follow) (.trainAck n bytes true) s fun t =>
      t.lport n = { s.lport n with cur := none } ∧ t.regs = s.regs) ∧
  (∀ (s : State) (n : Fin 4) (bytes : List Byte) (r : CtlReq) (k : Nat), s.unitLive 2 (1 + n) = true →
    (s.lport n).sync = true → ctlBad bytes true = false → leAt bytes 0 1 = 0x90 → (s.lport n).cur = some (r, k) →
    r.tag = leAt bytes 1 1 → r.cmd = 0x10 → leAt bytes 4 4 = 0 →
    AnswersVia (fun t => (t.sendNext n).follow) (.trainAck n bytes true) s fun t =>
      t.lport n = { s.lport n with cur := none } ∧ (∀ l ∈ s.bonded n, s.laneState l = 1 → t.laneState l = 2)) ∧
  (∀ (s : State) (n : Fin 4) (bytes : List Byte) (r : CtlReq) (k : Nat), s.unitLive 2 (1 + n) = true →
    (s.lport n).sync = true → ctlBad bytes true = false → leAt bytes 0 1 = 0x91 → leAt bytes 2 2 = 4 → (s.lport n).cur = some (r, k) →
    r.tag = leAt bytes 1 1 → r.cmd = 0x11 →
    AnswersVia (fun t => (t.sendNext n).follow) (.epochAck n bytes true) s fun t =>
      t.lport n = { s.lport n with cur := none } ∧ t.fld (rSchHdEpstat n) 16 8 = leAt (ctlData bytes) 0 1 ∧
      (t.schHead n).ack = (leAt (ctlData bytes) 0 1 == s.fld (rSchHdEpstat n) 8 8)) ∧
  (∀ (s : State) (n : Fin 4) (bytes : List Byte) (r : CtlReq) (k : Nat), s.unitLive 2 (1 + n) = true →
    (s.lport n).sync = true → ctlBad bytes true = false → leAt bytes 0 1 = 0xEE → 4 ≤ leAt bytes 2 2 → (s.lport n).cur = some (r, k) →
    r.tag = leAt bytes 1 1 → r.cmd = 1 ∨ r.cmd = 2 →
    AnswersVia (fun t => (t.sendNext n).follow) (.nak n bytes true) s fun t =>
      (t.lport n).cur = none ∧ t.fld (rLnkHcStat n) 28 4 = 3 ∧
      t.fld (rLnkHcStat n) 8 8 = leAt (ctlData bytes) 0 1 ∧
      (s.speaks (0x036 + 8 * n) (1 + n) = true → t.hears (0x036 + 8 * n) (1 + n) = true)) ∧
  (∀ (s : State) (n : Fin 4) (bytes : List Byte), s.unitLive 2 (1 + n) = true → (s.lport n).sync = true →
    ctlBad bytes true = false → leAt bytes 0 1 = 0xC0 → leAt bytes 2 2 ≤ 16 →
    AnswersThen (.hevent n bytes true) s fun t =>
      t.rd (rLnkHcEvt n) = BitVec.ofNat 32 (leAt bytes 4 2) ∧
      (s.speaks (0x037 + 8 * n) (1 + n) = true → t.hears (0x037 + 8 * n) (1 + n) = true)) ∧
  (∀ (s : State) (n : Fin 4) (bytes : List Byte), s.unitLive 2 (1 + n) = true → (s.lport n).sync = true →
    ctlBad bytes true = true →
    AnswersThen (.hevent n bytes true) s fun t => t = s.ctlErr n) ∧
  (∀ (s : State) (n : Fin 4) (r : CtlReq) (k : Nat), (s.lport n).cur = some (r, k) → k < 2 →
    AnswersThen (.controlResponseTimeout n) s fun t =>
      t.lport n = { s.lport n with cur := some (r, k + 1), tx := (s.lport n).tx ++ [r.bytes] } ∧ t.regs = s.regs) ∧
  (∀ (s : State) (n : Fin 4) (r : CtlReq) (k : Nat), (s.lport n).cur = some (r, k) → 2 ≤ k → r.cmd = 1 ∨ r.cmd = 2 →
    AnswersVia (fun t => (t.sendNext n).follow) (.controlResponseTimeout n) s fun t =>
      (t.lport n).cur = none ∧ t.fld (rLnkHcStat n) 28 4 = 4 ∧ t.rd (rLnkCtlErr n) = satAdd (s.rd (rLnkCtlErr n)) 1)

/-- From R166 to R174, R177 and R179: what the packets of the sensor link do to the open frames, their timeouts, the start of a
frame at the tap and a write of the group mask. A packet stands first in the inbox of its port; `nextPkt` and `follow` are
what comes after it. -/
def Obligations.FrameIngest : Prop :=
  (∀ (s : State) (n : Fin 4) (p : Pkt) (rest : List Pkt), s.unitLive 3 (1 + n) = true → s.unitLive 3 8 = true →
    (s.lport n).inbox = p :: rest → p.dt = 0x08 → s.openFrame (n * 16 + p.vc) = none →
    (s.outstanding n).find? (fun e => e.count == (p.wc * 256 + p.fcnt) % 2 ^ 24) = none →
    AnswersVia (fun t => ((t.unsolicited (n * 16 + p.vc)).nextPkt n).follow) (.fsReceive n) s fun t =>
      t.lport n = { s.lport n with inbox := rest } ∧ t.ing.frames = s.ing.frames ∧
      t.ing.unsol = (s.ing.unsol &&& ~~~ BitVec.ofNat 64 (2 ^ (n * 16 + p.vc))) ||| BitVec.ofNat 64 (2 ^ (n * 16 + p.vc))) ∧
  (∀ (s : State) (n : Fin 4) (p : Pkt) (rest : List Pkt) (e : Entry), s.unitLive 3 (1 + n) = true →
    s.unitLive 3 8 = true → (s.lport n).inbox = p :: rest → p.dt = 0x08 → s.openFrame (n * 16 + p.vc) = none →
    s.outstanding n = [e] → e.count = (p.wc * 256 + p.fcnt) % 2 ^ 24 →
    AnswersVia (fun t => (((t.syncStr e.stream).syncPort ((n * 16 + p.vc) / 16)).nextPkt n).follow) (.fsReceive n) s fun t =>
      t.lport n = { s.lport n with inbox := rest } ∧
      ∃ f : Frame, t.ing.frames = s.ing.frames ++ [f] ∧ f.serial = e.serial ∧ f.stream = e.stream ∧ f.part = e.part ∧
        f.e = 0 ∧ f.open_ = true ∧ f.epoch = none ∧ f.flags = if p.test then flag 21 else 0#32) ∧
  (∀ (s u : State) (n : Fin 4) (p : Pkt) (rest : List Pkt) (f : Frame), s.unitLive 3 (1 + n) = true →
    s.unitLive 3 8 = true → (s.lport n).inbox = p :: rest → p.dt = 0x08 → s.openFrame (n * 16 + p.vc) = some f →
    u = (s.setLport n { s.lport n with inbox := rest }).closeFrame f (flag 12) →
    (u.outstanding n).find? (fun e => e.count == (p.wc * 256 + p.fcnt) % 2 ^ 24) = none →
    AnswersVia (fun t => ((t.unsolicited (n * 16 + p.vc)).nextPkt n).follow) (.fsReceive n) s fun t =>
      let m := BitVec.ofNat 64 (2 ^ (n * 16 + p.vc))
      t = { u with ing := { u.ing with unsol := (u.ing.unsol &&& ~~~ m) ||| m } }) ∧
  (∀ (s : State) (n : Fin 4) (p : Pkt) (rest : List Pkt) (f : Frame), s.unitLive 3 (1 + n) = true →
    s.unitLive 3 8 = true → (s.lport n).inbox = p :: rest → p.dt = 0x0C →
    s.ing.unsol.getLsbD (n * 16 + p.vc) = false → s.openFrame (n * 16 + p.vc) = some f → f.epoch = none →
    AnswersVia (fun t => (t.nextPkt n).follow) (.expReceive n) s fun t =>
      t.lport n = { s.lport n with inbox := rest } ∧
      t.ing.frames = s.ing.frames.map (fun g => if g.serial = f.serial ∧ g.part = f.part then { f with
        epoch := some (p.wc % 256)
        flags := if p.wc % 256 = (match s.entry f.part f.serial with | some e => e.epochReq | none => 0) then f.flags
          else f.flags ||| flag 16 } else g)) ∧
  (∀ (s : State) (n : Fin 4) (p : Pkt) (rest : List Pkt) (f : Frame), s.unitLive 3 (1 + n) = true →
    s.unitLive 3 8 = true → (s.lport n).inbox = p :: rest → p.dt = 0x0C →
    s.ing.unsol.getLsbD (n * 16 + p.vc) = false → s.openFrame (n * 16 + p.vc) = some f → f.epoch ≠ none →
    AnswersVia (fun t => (t.nextPkt n).follow) (.expReceive n) s fun t =>
      t.rd (rIngStrLateExp (s.logical (n * 16 + p.vc))) = satAdd (s.rd (rIngStrLateExp (s.logical (n * 16 + p.vc)))) 1 ∧
      t.ing = s.ing) ∧
  (∀ (s : State) (n : Fin 4) (p : Pkt) (rest : List Pkt), s.unitLive 3 (1 + n) = true → s.unitLive 3 8 = true →
    (s.lport n).inbox = p :: rest → 0x40 ≤ p.dt → p.dt ≤ 0x43 → s.ing.unsol.getLsbD (n * 16 + p.vc) = false →
    s.openFrame (n * 16 + p.vc) = none →
    AnswersVia (fun t => (t.nextPkt n).follow) (.lineReceive n) s fun t =>
      t.rd (rIngStrOrphan (s.logical (n * 16 + p.vc))) = satAdd (s.rd (rIngStrOrphan (s.logical (n * 16 + p.vc)))) 1 ∧
      t.ing = s.ing ∧ t.lport n = { s.lport n with inbox := rest }) ∧
  (∀ (s : State) (n : Fin 4) (p : Pkt) (rest : List Pkt) (f : Frame), s.unitLive 3 (1 + n) = true →
    s.unitLive 3 8 = true → (s.lport n).inbox = p :: rest → 0x40 ≤ p.dt → p.dt ≤ 0x43 →
    s.ing.unsol.getLsbD (n * 16 + p.vc) = false → s.openFrame (n * 16 + p.vc) = some f → p.fcnt ≠ f.count % 256 →
    AnswersVia (fun t => (t.nextPkt n).follow) (.lineReceive n) s fun t =>
      t.rd (rIngStrOrphan (s.logical (n * 16 + p.vc))) = satAdd (s.rd (rIngStrOrphan (s.logical (n * 16 + p.vc)))) 1 ∧
      t.ing = s.ing) ∧
  (∀ (s : State) (n : Fin 4) (p : Pkt) (rest : List Pkt) (f : Frame), s.unitLive 3 (1 + n) = true →
    s.unitLive 3 8 = true → (s.lport n).inbox = p :: rest → 0x40 ≤ p.dt → p.dt ≤ 0x43 →
    s.ing.unsol.getLsbD (n * 16 + p.vc) = false → s.openFrame (n * 16 + p.vc) = some f → p.fcnt = f.count % 256 →
    p.dt ≠ 0x40 + s.fld (rIngStrFmt f.stream) 0 2 →
    AnswersVia (fun t => (t.nextPkt n).follow) (.lineReceive n) s fun t =>
      t.rd (rIngStrWrongDt f.stream) = satAdd (s.rd (rIngStrWrongDt f.stream)) 1 ∧
      t.ing.frames = s.ing.frames.map (fun g => if g.serial = f.serial ∧ g.part = f.part then f.noExp else g) ∧
      t.ing.buf = s.ing.buf) ∧
  (∀ (s : State) (n : Fin 4) (p : Pkt) (rest : List Pkt) (f : Frame), s.unitLive 3 (1 + n) = true →
    s.unitLive 3 8 = true → (s.lport n).inbox = p :: rest → 0x40 ≤ p.dt → p.dt ≤ 0x43 →
    s.ing.unsol.getLsbD (n * 16 + p.vc) = false → s.openFrame (n * 16 + p.vc) = some f → p.fcnt = f.count % 256 →
    p.dt = 0x40 + s.fld (rIngStrFmt f.stream) 0 2 → s.strH f.stream ≤ p.line ∨ p.line < f.e →
    AnswersVia (fun t => (t.nextPkt n).follow) (.lineReceive n) s fun t =>
      t.ing.frames = s.ing.frames.map (fun g => if g.serial = f.serial ∧ g.part = f.part then
        f.noExp.mark (if s.strH f.stream ≤ p.line then flag 11 else flag 9) else g) ∧
      t.ing.buf = s.ing.buf ∧ t.regs = s.regs) ∧
  (∀ (s : State) (n : Fin 4) (p : Pkt) (rest : List Pkt) (f : Frame), s.unitLive 3 (1 + n) = true →
    s.unitLive 3 8 = true → (s.lport n).inbox = p :: rest → 0x40 ≤ p.dt → p.dt ≤ 0x43 →
    s.ing.unsol.getLsbD (n * 16 + p.vc) = false → s.openFrame (n * 16 + p.vc) = some f → p.fcnt = f.count % 256 →
    p.dt = 0x40 + s.fld (rIngStrFmt f.stream) 0 2 → p.line < s.strH f.stream → f.e ≤ p.line →
    let g := f.noExp.mark ((if f.e < p.line then flag 8 else 0#32) |||
      (if p.payload.length < s.lineBytes f.stream ∨ p.trunc then flag 6
        else if s.lineBytes f.stream < p.payload.length then flag 7 else 0#32) |||
      (if p.crcErr || p.fec || p.trunc then flag 14 else 0#32))
    AnswersVia (fun t => (((t.syncStr f.stream).syncPort n).nextPkt n).follow) (.lineReceive n) s fun t =>
      ∃ r : State × Frame, r = ((s.setLport n { s.lport n with inbox := rest }).putFrame f.noExp).padTo g p.line ∧
        t = r.1.storeLine r.2 p.line p.payload) ∧
  (∀ (s : State) (n : Fin 4) (p : Pkt) (rest : List Pkt) (f : Frame), s.unitLive 3 (1 + n) = true →
    s.unitLive 3 8 = true → (s.lport n).inbox = p :: rest → 0x40 ≤ p.dt → p.dt ≤ 0x43 →
    s.ing.unsol.getLsbD (n * 16 + p.vc) = false → s.openFrame (n * 16 + p.vc) = some f → p.vc < 16 →
    p.fcnt = f.count % 256 → p.dt = 0x40 + s.fld (rIngStrFmt f.stream) 0 2 → p.line < s.strH f.stream → f.e = p.line →
    f.epoch ≠ none → s.wrLayout f < 2 → p.payload.length = s.lineBytes f.stream →
    (p.crcErr || p.fec || p.trunc) = false →
    s.occupancy (s.pool n) + s.lineBytes f.stream ≤ capacity (s.pool n) →
    let line := packLine p.payload (s.strW f.stream) (s.strBits f.stream)
      (min (s.strW f.stream) (p.payload.length * 8 / s.strBits f.stream)) f.pad
    let a := s.linePlace f (s.slotOf f) p.line
    AnswersVia (fun t => (((t.syncStr f.stream).syncPort n).nextPkt n).follow) (.lineReceive n) s fun t =>
      t.ing.frames = s.ing.frames.map (fun g => if g.serial = f.serial ∧ g.part = f.part then
        { f.keep p.line line with e := p.line + 1 } else g) ∧
      t.ing.buf = s.ing.buf ++ [⟨n, f.serial, p.line, a.1, a.2, s.lineBytes f.stream, f.tap != 0⟩] ∧
      t.lport n = { s.lport n with inbox := rest }) ∧
  (∀ (s : State) (n : Fin 4) (p : Pkt) (rest : List Pkt) (f : Frame), s.unitLive 3 (1 + n) = true →
    s.unitLive 3 8 = true → (s.lport n).inbox = p :: rest → p.dt = 0x50 →
    s.ing.unsol.getLsbD (n * 16 + p.vc) = false → s.openFrame (n * 16 + p.vc) = some f → f.mdFull = false →
    p.payload.length % 4 = 0 → f.md.length + 4 + p.payload.length ≤ s.strMeta f.stream →
    AnswersVia (fun t => (t.nextPkt n).follow) (.metadataReceive n) s fun t =>
      t.ing.frames = s.ing.frames.map (fun g => if g.serial = f.serial ∧ g.part = f.part then
        { f with md := f.md ++ (leBytes 4 (0x50 + p.payload.length % 2 ^ 16 * 2 ^ 16) ++ p.payload) } else g) ∧
      t.regs = s.regs) ∧
  (∀ (s : State) (n : Fin 4) (p : Pkt) (rest : List Pkt), s.unitLive 3 (1 + n) = true → s.unitLive 3 8 = true →
    (s.lport n).inbox = p :: rest → p.dt = 0x51 →
    AnswersVia (fun t => (t.nextPkt n).follow) (.sensorStatusReceive n) s fun t =>
      (∀ k, k < 64 → t.rd (rIngPortSstat n k) = BitVec.ofNat 32 (leAt p.payload (4 * k) 4)) ∧ t.ing = s.ing) ∧
  (∀ (s : State) (n : Fin 4) (p : Pkt) (rest : List Pkt) (f : Frame), s.unitLive 3 (1 + n) = true →
    s.unitLive 3 8 = true → (s.lport n).inbox = p :: rest → p.dt = 0x09 →
    s.ing.unsol.getLsbD (n * 16 + p.vc) = false → s.openFrame (n * 16 + p.vc) = some f →
    AnswersVia (fun t => ((t.closeFrame { f with fe := p.wc % 2 ^ 16 } 0#32).nextPkt n).follow) (.feReceive n) s fun t =>
      t = s.setLport n { s.lport n with inbox := rest }) ∧
  (∀ (s : State) (n : Nat), (s.lport n).inbox = [] → s.nextPkt n = s) ∧
  (∀ (s : State) (n : Fin 4) (e : Entry) (l : List Entry), s.unitLive 3 (1 + n) = true → s.outstanding n = e :: l →
    AnswersVia (fun t => (t.noFrame e).follow) (.nofsTimeout n) s fun t => t = s) ∧
  (∀ (s : State) (e : Entry),
    ∃ u : State, s.noFrame e = u.syncStr e.stream ∧
      u.rd (rIngStrNoFrame e.stream) = satAdd ((s.toGap e.part e.serial (flag 2)).rd (rIngStrNoFrame e.stream)) 1 ∧
      ((s.toGap e.part e.serial (flag 2)).speaks (0x053 + 4 * e.head) (1 + e.head) = true →
        u.hears (0x053 + 4 * e.head) (1 + e.head) = true)) ∧
  (∀ (s : State) (stream : Fin 64) (f : Frame), s.unitLive 3 8 = true →
    s.ing.frames.find? (fun f => f.open_ && f.stream == stream.val) = some f →
    AnswersVia (fun t => (t.closeFrame f (flag 12 ||| flag 13)).follow) (.frameTimeout stream) s fun t => t = s) ∧
  (∀ (s : State) (stream : Fin 64), s.tapNext stream = none → AnswersThen (.tapStart stream) s fun t => t = s) ∧
  (∀ (s : State) (stream : Fin 64) (f : Frame), s.tapNext stream = some f →
    AnswersVia (fun t => (t.syncPort (f.src / 16)).follow) (.tapStart stream) s fun t =>
      if (s.decimates stream && (s.schStr stream).dec % max 1 (s.schStr stream).m != 0) = true then
        t = (s.setSchStr stream { s.schStr stream with
          dec := ((s.schStr stream).dec + 1) % max 1 (s.schStr stream).m }).untap f
      else t.ing.frames = s.ing.frames.map (fun g => if g.serial = f.serial ∧ g.part = f.part then
        { f with tap := 1, srv := s.servers stream, cut := [] } else g) ∧
      t.ing.buf = s.ing.buf.map (fun b => if b.serial = f.serial then { b with taken := true } else b) ∧
      ∀ c ∈ s.servers stream, t.fld (rPixStat c) 28 4 = 1) ∧
  (∀ (s : State) (g : Fin 2) (v : Word), s.reaches 3 = true → s.unitLive 3 8 = true → fget v 0 4 ≠ 0 →
    fget v 0 4 &&& s.fld (rIngGrpCfg g) 0 4 = fget v 0 4 →
    (s.grpStr g).all (fun i => s.strLayout i != 2) = true →
    Answers (.groupMaskWrite g v) s fun t =>
      t.fld (rIngGrpMask g) 0 4 = fget v 0 4 ∧ t.fld (rIngGrpStat g) 4 4 = s.fld (rIngGrpStat g) 4 4 ∧
      ∀ r, r ≠ rIngGrpMask g → t.rd r = s.rd r) ∧
  (∀ (s : State) (g : Fin 2) (v : Word), s.reaches 3 = true → s.unitLive 3 8 = true →
    fget v 0 4 = 0 ∨ fget v 0 4 &&& s.fld (rIngGrpCfg g) 0 4 ≠ fget v 0 4 →
    Answers (.groupMaskWrite g v) s fun t => t = s.violation (rIngGrpMask g))

/-- From R196 to R208: compare entries and their actions. -/
def Obligations.CompareEntries : Prop :=
  (∀ (s : State) (t : Fin 8), s.reaches 4 = true → s.unitLive 4 (2 + t) = true →
    AnswersVia (fun u => u.writeCmp t (s.fld (rSchTblEidx t) 0 12)
        ((List.range 8).flatMap (fun k => leBytes 4 (s.rd (rSchTblEdata t k)).toNat))) (.entryWrite t) s fun u => u = s) ∧
  (∀ (s : State) (t e : Nat) (b : List Byte) (c : CmpEnt), c = { CmpEnt.init with
      value := BitVec.ofNat 64 (leAt b 0 8), incr := leAt b 8 6, rep := leAt b 16 4, ctrl := BitVec.ofNat 32 (leAt b 20 4),
      offset := BitVec.ofNat 32 (leAt b 24 4), param := BitVec.ofNat 32 (leAt b 28 4) } → s.entBad t c = true →
    (s.writeCmp t e b).cmpEnt t e = c ∧
    (s.writeCmp t e b).rd (rSchTblBadEntry t) = satAdd (s.rd (rSchTblBadEntry t)) 1 ∧
    (s.writeCmp t e b).fld rSchEvtInfo 28 4 = 1 ∧
    (s.speaks 0x077 1 = true → (s.writeCmp t e b).hears 0x077 1 = true)) ∧
  (∀ (s : State) (t : Fin 8), s.reaches 4 = true → s.unitLive 4 (2 + t) = true →
    Answers (.entryRead t) s fun u =>
      (∀ k, k < 8 → u.rd (rSchTblEdata t k) =
        BitVec.ofNat 32 (leAt (s.cmpEnt t (s.fld (rSchTblEidx t) 0 12)).bytes (4 * k) 4)) ∧
      u.sch = s.sch ∧ u.bit (rSchTblEstat t) 31 = s.entLive t (s.fld (rSchTblEidx t) 0 12)) ∧
  (∀ (s : State) (t : Fin 8) (e : Fin 4096) (rising : Bool) (tx : Nat),
    s.entLive t e = false ∨ (s.cmpEnt t e).rearm ≠ none ∨ (s.cmpEnt t e).permits rising = false →
    Answers (.crossing t e rising tx) s fun u => u = s) ∧
  (∀ (s : State) (t : Fin 8) (e : Fin 4096) (rising : Bool) (tx : Nat), s.axDir (s.tblAxis t) = some (!rising) →
    Answers (.crossing t e rising tx) s fun u => u = s) ∧
  (∀ (s : State) (t : Fin 8) (e : Fin 4096) (tx : Nat), s.entLive t e = true → (s.cmpEnt t e).rearm = none →
    (s.cmpEnt t e).permits true = true → s.tblAxis t = 0 →
    AnswersVia State.expectIdle (.crossing t e true tx) s fun u =>
      u = s.fireEntry t e true ((s.axRef 0).2 + axDiff (s.cmpEnt t e).value (s.axRef 0).1 * 25) false) ∧
  (∀ (s : State) (t e : Nat) (rising : Bool) (tx : Int) (c : CmpEnt), s.cmpEnt t e = c → c.incr = 0 → c.rep = 0 →
    s.nowTu + commitTu ≤ tx + offTu c.offset - s.leadOf c.action c.heads →
    s.sch.acts.countP (fun a => a.ta / (tuPerNs : Int) == (tx + offTu c.offset) / (tuPerNs : Int)) < 8 →
    let u := s.fireEntry t e rising tx false
    u.sch.acts = s.sch.acts ++ [⟨t, e, c.action, tx + offTu c.offset, c.value, c.offset, false, false, rising, false, c.heads,
      c.eps, c.chan, c.param⟩] ∧
    u.cmpEnt t e = { c with
      fired := min (c.fired + 1) (2 ^ 28 - 1), late := false, missed := false, occ := c.occ + 1, done := false
      rearm := some rising } ∧
    u.rd (rSchTblFired t) = satAdd (s.rd (rSchTblFired t)) 1) ∧
  (∀ (s : State) (t e : Nat) (rising : Bool) (tx : Int) (c : CmpEnt), s.cmpEnt t e = c → c.incr = 0 → c.rep = 0 →
    tx + offTu c.offset - s.leadOf c.action c.heads < s.nowTu + commitTu →
    s.sch.acts.countP (fun a => a.ta / (tuPerNs : Int) ==
      (s.nowTu + commitTu + s.leadOf c.action c.heads) / (tuPerNs : Int)) < 8 →
    let u := s.fireEntry t e rising tx false
    u.sch.acts = s.sch.acts ++ [⟨t, e, c.action, s.nowTu + commitTu + s.leadOf c.action c.heads, c.value, c.offset, true,
      false, rising, false, c.heads, c.eps, c.chan, c.param⟩] ∧
    (u.cmpEnt t e).late = true ∧ u.rd (rSchTblLate t) = satAdd (s.rd (rSchTblLate t)) 1 ∧
    (s.speaks 0x071 1 = true → u.hears 0x071 1 = true)) ∧
  (∀ (s : State) (t : Fin 8) (e : Fin 4096) (a : Act) (l : List Act), l = (s.repredict (s.tblAxis t)).sch.acts →
    l.find? (fun a => a.t == t.val && a.e == e.val && !a.committed && !a.wait) = some a →
    a.late = true ∨ s.nowTu + commitTu ≤ a.ta - s.leadOf a.kind a.heads →
    l.countP (fun b => b.cycle == a.cycle) ≤ 8 →
    Answers (.edgeCommit t e) s fun u =>
      u.sch.acts = updAct (fun a => a.t == t.val && a.e == e.val && !a.committed && !a.wait) (fun _ => none) l ++
        [{ a with committed := true }] ∧ u.regs = s.regs) ∧
  (∀ (s : State) (t : Fin 8) (e : Fin 4096) (a : Act) (l : List Act) (x : Int),
    l = (s.repredict (s.tblAxis t)).sch.acts →
    l.find? (fun a => a.t == t.val && a.e == e.val && !a.committed && !a.wait) = some a → a.late = false →
    a.ta - s.leadOf a.kind a.heads < s.nowTu + commitTu → x = s.nowTu + commitTu + s.leadOf a.kind a.heads →
    l.countP (fun b => b.cycle == x / (tuPerNs : Int)) < 8 →
    Answers (.edgeCommit t e) s fun u =>
      u.sch.acts = updAct (fun a => a.t == t.val && a.e == e.val && !a.committed && !a.wait) (fun _ => none) l ++
        [{ a with ta := x, late := true, committed := true }] ∧
      (u.cmpEnt t e).late = true ∧ u.rd (rSchTblLate t) = satAdd (s.rd (rSchTblLate t)) 1) ∧
  (∀ (s : State) (t : Fin 8) (e : Fin 4096),
    (s.repredict (s.tblAxis t)).sch.acts.find? (fun a => a.t == t.val && a.e == e.val && !a.committed && !a.wait) = none →
    Answers (.edgeCommit t e) s fun u => u = s) ∧
  (∀ (s : State) (t : Fin 8), s.unitLive 4 (2 + t) = true →
    s.ch.tasks.any (fun k => k.input == 0x088 + t.val && k.cyc == s.taskCyc (s.takeTask (0x080 + t)).2) = false →
    s.tblDis t ≠ s.taskCyc (s.takeTask (0x080 + t)).2 + 1 →
    AnswersVia (fun u => u.recheckTbl t) (.tblEn t) s fun u =>
      u.bit (rSchTblCfg t) 31 = true ∧ u.tblLin t = lineageOf (s.takeTask (0x080 + t)).2 ∧
      u.ch.tasks = s.ch.tasks.eraseP (fun k => k.input == 0x080 + t.val)) ∧
  (∀ (s : State) (t : Fin 8), s.unitLive 4 (2 + t) = true →
    s.ch.tasks.any (fun k => k.input == 0x088 + t.val && k.cyc == s.taskCyc (s.takeTask (0x080 + t)).2) = true ∨
      s.tblDis t = s.taskCyc (s.takeTask (0x080 + t)).2 + 1 →
    Answers (.tblEn t) s fun u => u = (s.takeTask (0x080 + t)).1) ∧
  (∀ (s : State) (t : Fin 8), s.unitLive 4 (2 + t) = true →
    Answers (.tblDis t) s fun u =>
      u.bit (rSchTblCfg t) 31 = false ∧ u.tblLin t = 0#64 ∧ u.tblDis t = s.taskCyc (s.takeTask (0x088 + t)).2 + 1 ∧
      u.sch.acts = s.sch.acts.filter (fun a => a.t != t.val || a.committed))

/-- From R198, R208, R210, R213, R215, R218: what the actions do. -/
def Obligations.Actions : Prop :=
  (∀ (s : State) (t : Fin 8) (e : Fin 4096), s.sch.acts.find? (fun a => a.t == t.val && a.e == e.val && a.kind == 1) = none →
    Answers (.expose t e) s fun u => u = s) ∧
  (∀ (s : State) (t e k : Nat) (a : Act), s.unitLive 4 1 = true → s.unitLive 4 (2 + t) = true →
    s.sch.acts.find? (fun a => a.t == t && a.e == e && a.kind == k && !a.wait) = some a →
    (∀ b ∈ s.sch.acts, b.cycle = a.cycle → b.before a = false) →
    s.takeAct t e k = some (a, { s with sch := { s.sch with
      acts := updAct (fun a => a.t == t && a.e == e && a.kind == k && !a.wait) (fun _ => none) s.sch.acts } })) ∧
  (∀ (s : State) (t e k : Nat), s.unitLive 4 1 = false ∨ s.unitLive 4 (2 + t) = false → s.takeAct t e k = none) ∧
  (∀ (s : State) (t : Fin 8) (e : Fin 4096) (a : Act) (u : State) (i n : Nat), s.takeAct t e 1 = some (a, u) →
    u.namedStrs a.heads = [(i, n)] →
    AnswersVia (fun u => u.exposeOne i n a.eps a.ta a.late) (.expose t e) s fun v => v = u) ∧
  (∀ (s : State) (i n eps : Nat) (ts : Int) (late : Bool), s.unitLive 4 20 = true → s.armed i = false →
    s.exposeOne i n eps ts late = s.count (rSchStrNotArmed i)) ∧
  (∀ (s : State) (i n eps : Nat) (ts : Int) (late : Bool), s.unitLive 4 20 = true → s.armed i = true →
    s.fld rHstPwr 0 3 ≠ 1 → s.pwr.loss = 0 → s.aud.safe = 0 → s.released = true → s.grpOfStr i = none →
    s.unitLive 4 (16 + n) = true → s.fenced 2 (1 + n) = false → s.fenced 3 (1 + n) = false → s.portUp n = false →
    s.exposeOne i n eps ts late = s.gapEntry i n eps ts late (flag 2)) ∧
  (∀ (s : State) (i n eps : Nat) (ts : Int) (late : Bool), s.unitLive 4 20 = true → s.armed i = true →
    s.fld rHstPwr 0 3 ≠ 1 → s.pwr.loss = 0 → s.aud.safe = 0 → s.released = true → s.grpOfStr i = none →
    s.unitLive 4 (16 + n) = true → s.fenced 2 (1 + n) = false → s.fenced 3 (1 + n) = false → s.portUp n = true →
    (∃ r ∈ (s.schHead n).rises, (r - (s.trgEdges n 0 ts).1).natAbs < 200 * tuPerNs) →
    s.exposeOne i n eps ts late = s.count (rSchHdCoalesced n)) ∧
  (∀ (s : State) (i n eps : Nat) (ts : Int) (late : Bool), s.unitLive 4 20 = true → s.armed i = true →
    s.fld rHstPwr 0 3 ≠ 1 → s.pwr.loss = 0 → s.aud.safe = 0 → s.released = true → s.grpOfStr i = none →
    s.unitLive 4 (16 + n) = true → s.fenced 2 (1 + n) = false → s.fenced 3 (1 + n) = false → s.portUp n = true →
    (∀ r ∈ (s.schHead n).rises, 200 * tuPerNs ≤ (r - (s.trgEdges n 0 ts).1).natAbs) →
    (s.schStr i).last = none → (s.schStr i).tmin = 0 → s.bit (rSchHdTrg n) 31 = false → (s.outstanding n).length < 64 →
    s.exposeOne i n eps ts late = s.placeExpose i n eps ts late) ∧
  (∀ (s : State) (n dur : Nat) (ts : Int), s.bit (rSchHdTrg n) 31 = false →
    s.trgEdges n dur ts = (ts - (s.fld (rSchHdTlat n) 0 24 : Nat) * 32768,
      ts - (s.fld (rSchHdTlat n) 0 24 : Nat) * 32768 + 100 * tuPerNs)) ∧
  (∀ (s : State) (head : Fin 4),
    Answers (.triggerPulseEnd head) s fun t =>
      t.schHead head = { s.schHead head with pulse := none } ∧ t.regs = s.regs ∧ t.ing = s.ing) ∧
  (∀ (s : State) (t : Fin 8) (e : Fin 4096) (a : Act) (u : State), s.takeAct t e 2 = some (a, u) → u.strobesOn = true →
    u.strobe (a.ch % 8) = ⟨none, none⟩ →
    Answers (.strobe t e) s fun v =>
      v.strobe (a.ch % 8) = ⟨some (a.ta + (max 1000 (fget a.param 0 24) : Nat) * tuPerNs), none⟩ ∧
      v.bit rSchSoStat (a.ch % 8) = true) ∧
  (∀ (s : State) (t : Fin 8) (e : Fin 4096) (a : Act) (u : State) (x : Int), s.takeAct t e 2 = some (a, u) →
    u.strobesOn = true → u.strobe (a.ch % 8) = ⟨some x, none⟩ →
    Answers (.strobe t e) s fun v =>
      v.strobe (a.ch % 8) = ⟨some (max x (a.ta + (max 1000 (fget a.param 0 24) : Nat) * tuPerNs)), none⟩ ∧
      v.rd (rSchSoExt (a.ch % 8)) = satAdd (u.rd (rSchSoExt (a.ch % 8))) 1) ∧
  (∀ (s : State) (so : Fin 8),
    Answers (.strobeEnd so) s fun t =>
      t.strobe so = ⟨none, none⟩ ∧ t.bit rSchSoStat so = false ∧ ∀ r, r ≠ rSchSoStat → t.rd r = s.rd r) ∧
  (∀ (s : State) (t : Fin 8) (e : Fin 4096) (a : Act) (u : State) (i n : Nat), s.takeAct t e 3 = some (a, u) →
    u.markStrs a.heads = [(i, n)] → fget a.param 0 8 = 1 →
    AnswersVia (fun u => u.trigger i a.ta (u.tblLin a.t)) (.mark t e) s fun v => v = u) ∧
  (∀ (s : State) (t : Fin 8) (e : Fin 4096) (a : Act) (u : State) (i n : Nat), s.takeAct t e 3 = some (a, u) →
    u.markStrs a.heads = [(i, n)] → fget a.param 0 8 = 2 →
    AnswersVia (fun u => u.stop i (u.tblLin a.t)) (.mark t e) s fun v => v = u) ∧
  (∀ (s : State) (t : Fin 8) (e : Fin 4096) (a : Act) (u : State) (i n : Nat), s.takeAct t e 3 = some (a, u) →
    u.markStrs a.heads = [(i, n)] → fget a.param 0 8 = 0 →
    AnswersVia (fun u => u.marker i n a.ta (fget a.param 8 24)) (.mark t e) s fun v => v = u) ∧
  (∀ (s : State) (t : Fin 8) (e : Fin 4096) (a : Act) (u : State), s.takeAct t e 4 = some (a, u) →
    Answers (.fire t e) s fun v => v = u.toChannel a.ch (u.tblLin t)) ∧
  (∀ (s : State) (v : Word), s.reaches 4 = true → s.unitLive 4 1 = true →
    (∀ n : Fin 4, v.getLsbD n = true → s.unitLive 4 (16 + n) = true ∧ s.bit (rSchHdEpstat n) 31 = false) →
    Answers (.epcommit v) s fun t => ∀ n : Fin 4, v.getLsbD n = true →
      t.bit (rSchHdEpstat n) 31 = true ∧ t.fld (rSchHdEpstat n) 28 2 = s.fld (rSchHdEpsel n) 0 2 ∧
      (t.schHead n).te = s.mint.total + max 1 (s.fld (rSchHdMargin n) 16 16) * 1000 ∧
      t.rd (rSchHdTe n) = BitVec.ofNat 32 (t.schHead n).te) ∧
  (∀ (s : State) (v : Word) (n : Fin 4), s.reaches 4 = true → s.unitLive 4 1 = true → v.getLsbD n = true →
    s.unitLive 4 (16 + n) = true → s.bit (rSchHdEpstat n) 31 = true →
    Answers (.epcommit v) s fun t => t = s.violation rSchEpcommit)

/-- From R219 to R222: streams and their windows. -/
def Obligations.StreamWindows : Prop :=
  (∀ (s : State) (stream : Fin 64), s.reaches 4 = true → s.unitLive 4 20 = true → s.winState stream ≠ 0 →
    Answers (.arm stream) s fun t => t = s.violation (rSchStrCmd stream)) ∧
  (∀ (s : State) (stream : Fin 64), s.reaches 4 = true → s.unitLive 4 20 = true → s.winState stream = 0 →
    Answers (.arm stream) s fun t => match s.checkArm with
      | .error e => t = s.loadError e
      | .ok () => t = if (s.armStr stream).winState stream = 0 then s.armStr stream else (s.armStr stream).encArm stream) ∧
  (∀ (s : State) (i : Nat), (s.openSeg i).2 = true →
    (s.armStr i).winState i = 1 ∧ (s.armStr i).rd (rSchStrSeg i) = 0#32 ∧
    ((s.armStr i).schStr i).trig = none ∧ ((s.armStr i).schStr i).last = ((s.openSeg i).1.schStr i).last) ∧
  (∀ (s : State) (stream : Fin 64), s.reaches 4 = true → s.unitLive 4 20 = true → s.armed stream = true →
    AnswersVia (fun t => t.beginClose stream 0) (.stop stream) s fun t =>
      t = s.setSchStr stream { s.schStr stream with lin := 0#64, reopen := false, trig := none }) ∧
  (∀ (s : State) (stream : Fin 64), s.reaches 4 = true → s.unitLive 4 20 = true → s.armed stream = false →
    Answers (.stop stream) s fun t => t = s.setSchStr stream { s.schStr stream with reopen := false }) ∧
  (∀ (s : State) (stream : Fin 64), s.reaches 4 = true → s.unitLive 4 20 = true →
    (s.schStr stream).trigAt ≠ some s.now → s.winState stream = 1 → s.fld (rSchStrWin stream) 30 2 ≠ 0 →
    s.partOf stream = none →
    Answers (.trig stream) s fun t =>
      t.winState stream = 2 ∧ t.fld (rSchStrStat stream) 0 24 = s.postOf stream ∧
      (t.schStr stream).trig = some s.nowTu ∧ (s.speaks 0x075 1 = true → t.hears 0x075 1 = true)) ∧
  (∀ (s : State) (stream : Fin 64), s.reaches 4 = true → s.unitLive 4 20 = true →
    (s.schStr stream).trigAt ≠ some s.now → s.winState stream ≠ 1 →
    ¬ (s.winState stream = 2 ∧ s.bit (rSchStrWin stream) 29 = true) →
    Answers (.trig stream) s fun t =>
      t.rd (rSchStrTrigIgnored stream) = satAdd (s.rd (rSchStrTrigIgnored stream)) 1 ∧ t.ing = s.ing ∧
      t.winState stream = s.winState stream) ∧
  (∀ (s : State) (stream : Fin 64) (k : Task), s.ch.tasks.find? (fun k => k.input == stream.val) = some k →
    s.unitLive 4 20 = true →
    AnswersVia (fun t => t.trigger stream t.nowTu k.lin) (.strTrig stream) s fun t =>
      t.ch = { s.ch with tasks := s.ch.tasks.eraseP (fun j => j.input == stream.val) } ∧ t.sch = s.sch ∧ t.regs = s.regs) ∧
  (∀ (s : State) (stream : Fin 64) (k : Task), s.ch.tasks.find? (fun k => k.input == 0x040 + stream.val) = some k →
    s.unitLive 4 20 = true →
    AnswersVia (fun t => t.stop stream k.lin) (.strStop stream) s fun t =>
      t.ch = { s.ch with tasks := s.ch.tasks.eraseP (fun j => j.input == 0x040 + stream.val) } ∧ t.sch = s.sch ∧
      t.regs = s.regs)

/-- From R192, R193, R194, R230: the mains axis, the trigger inputs and A6. -/
def Obligations.MainsAndTriggerInputs : Prop :=
  (∀ (s : State) (stamp : Nat), s.unitLive 4 14 = true → s.bit rSchA5Stat 31 = true →
    periodOk (stamp - s.sch.a5.zc.getD 0 0) = true →
    AnswersVia (fun t => (t.syncA5).repredict 5) (.mainsZeroCrossing stamp) s fun t =>
      t.sch.a5 = { s.sch.a5 with cycle := (s.sch.a5.cycle + 1) % 2 ^ 48, zc := ((stamp : Int) :: s.sch.a5.zc).take 65 } ∧
      t.regs = s.regs) ∧
  (∀ (s : State) (stamp : Nat), s.unitLive 4 14 = true → s.bit rSchA5Stat 31 = true →
    periodOk (stamp - s.sch.a5.zc.getD 0 0) = false →
    Answers (.mainsZeroCrossing stamp) s fun t => t.bit rSchA5Stat 31 = false ∧ t.sch.a5.zc = [(stamp : Int)]) ∧
  (∀ (s : State) (stamp : Nat), s.unitLive 4 14 = true → s.bit rSchA5Stat 31 = false → s.sch.a5.zc = [] →
    Answers (.mainsZeroCrossing stamp) s fun t => t.sch.a5 = { s.sch.a5 with zc := [(stamp : Int)] } ∧ t.regs = s.regs) ∧
  (∀ s : State, s.unitLive 4 14 = true → s.bit rSchA5Stat 31 = true →
    Answers .a5UnlockTimeout s fun t =>
      t.bit rSchA5Stat 31 = false ∧ t.sch.a5 = { s.sch.a5 with last := s.sch.a5.zc.head?, zc := [] } ∧
      t.fld rSchEvtInfo 28 4 = 3 ∧ (s.speaks 0x077 1 = true → t.hears 0x077 1 = true)) ∧
  (∀ (s : State) (n : Fin 8) (level : Bool) (stamp : Nat), s.unitLive 4 15 = true → s.serving = true →
    s.sch.ti.getLsbD n ≠ level →
    Answers (.triggerInputEdge n level stamp) s fun t =>
      t.sch.ti = s.sch.ti ^^^ BitVec.ofNat 8 (2 ^ n.val) ∧ t.regs = s.regs ∧
      t.liveAt rSchA6CntLo = (if s.fld rSchA6Cfg 8 3 = n ∧ a6Edge (s.fld rSchA6Cfg 4 2) level = true then
        BitVec.ofNat 64 (((s.liveAt rSchA6CntLo).toNat + 1) % 2 ^ 48) else s.liveAt rSchA6CntLo) ∧
      t.sch.a6t = (if s.fld rSchA6Cfg 8 3 = n ∧ a6Edge (s.fld rSchA6Cfg 4 2) level = true then
        (stamp : Int) - 400 * tuPerNs else s.sch.a6t) ∧
      (edgeSel (s.fld (rSchTiCfg n) 0 2) level = true → s.speaks (0x078 + n) 15 = true → t.hears (0x078 + n) 15 = true)) ∧
  (∀ (s : State) (n : Fin 8) (level : Bool) (stamp : Nat), s.sch.ti.getLsbD n = level ∨ s.serving = false →
    Answers (.triggerInputEdge n level stamp) s fun t => t = s) ∧
  (∀ (s : State) (v : Word), s.reaches 4 = true → s.unitLive 4 15 = true → v.getLsbD 31 = true → s.capture = false →
    Answers (.a6Clear v) s fun t => t.liveAt rSchA6CntLo = 0#64 ∧ t.regs = s.regs) ∧
  (∀ (s : State) (v : Word), s.reaches 4 = true → s.unitLive 4 15 = true → v.getLsbD 31 = true → s.capture = true →
    Answers (.a6Clear v) s fun t => t = s.violation rSchA6Cfg)

/-- From R235 to R245: encoders on the axes A1 to A4. -/
def Obligations.EncoderAxes : Prop :=
  (∀ (s : State) (ax : Fin 4) (a b : Bool) (p : Bool × Bool) (stamp : Nat), s.axLive ax = true →
    s.axMode ax = 1 → (s.axis ax).pair = some p → s.bit (rSchAxStat ax) 31 = true → (p.1 != a) ≠ (p.2 != b) →
    AnswersVia (fun t => t.countChange ax (s.axSign ax (quadStep p (a, b))) stamp) (.quadEdge ax a b stamp) s fun t =>
      t = s.setAxis ax { s.axis ax with pair := some (a, b) }) ∧
  (∀ (s : State) (ax : Fin 4) (a b : Bool) (stamp : Nat), s.axLive ax = true → s.axMode ax = 1 →
    (s.axis ax).pair = some (!a, !b) →
    Answers (.quadEdge ax a b stamp) s fun t =>
      (t.axis ax).count = (s.axis ax).count ∧ (t.axis ax).hist = [] ∧ (t.axis ax).pair = some (a, b) ∧
      t.rd (rSchAxErrQuad ax) = satAdd (s.rd (rSchAxErrQuad ax)) 1 ∧ t.fld (rSchAxErrinfo ax) 28 4 = 1 ∧
      (s.speaks (0x080 + 4 * ax) (axUnit ax) = true → t.hears (0x080 + 4 * ax) (axUnit ax) = true)) ∧
  (∀ (s : State) (ax : Fin 4) (a b : Bool) (p : Bool × Bool) (stamp : Nat), s.axLive ax = true → s.axMode ax = 1 →
    (s.axis ax).pair = some p → s.bit (rSchAxStat ax) 31 = false → (p.1 != a) ≠ (p.2 != b) →
    Answers (.quadEdge ax a b stamp) s fun t => t = s.setAxis ax { s.axis ax with pair := some (a, b) }) ∧
  (∀ (s : State) (n : Nat) (d stamp : Int), (s.axis n).dir = none → d ≠ 0 →
    ∃ u : State, s.countChange n d stamp = ((u.rearmAxis (n + 1)).repredict (n + 1)).expectIdle ∧
      (u.axis n).count = (s.axis n).count + BitVec.ofInt 48 d ∧ (u.axis n).tk = stamp ∧ (u.axis n).tc = stamp ∧
      (u.axis n).dir = some (decide (d < 0)) ∧ u.bit (rSchAxStat n) 29 = decide (d < 0)) ∧
  (∀ (s : State) (ax : Fin 4), s.axLive ax = true → s.zOn ax = true → s.axMode ax = 1 → s.bit (rSchAxIdx ax) 31 = true →
    gateOk (s.fld (rSchAxIdx ax) 16 2) (s.axis ax).pair = true → (s.axis ax).latch = none →
    Answers (.indexLatch ax) s fun t =>
      (t.axis ax).latch = some (s.axis ax).count ∧ (t.axis ax).count = (s.axis ax).count ∧
      t.liveAt (rSchAxIdxlatLo ax) = BitVec.ofNat 64 (s.axis ax).count.toNat ∧ t.bit (rSchAxStat ax) 26 = true ∧
      t.rd (rSchAxIndex ax) = satAdd (s.rd (rSchAxIndex ax)) 1 ∧
      (s.speaks (0x082 + 4 * ax) (axUnit ax) = true → t.hears (0x082 + 4 * ax) (axUnit ax) = true)) ∧
  (∀ (s : State) (ax : Fin 4) (u v w : Bool) (j k stamp : Nat), s.axLive ax = true → s.axMode ax = 2 →
    hallSector (u, v, w) = some k → (s.axis ax).sector = some j → s.bit (rSchAxStat ax) 31 = true → (j + 1) % 6 = k →
    AnswersVia (fun t => t.countChange ax (s.axSign ax 1) stamp) (.hallSectorChange ax u v w stamp) s fun t =>
      (t.axis ax) = { s.axis ax with illegal := false, sector := some k } ∧
      t.fld (rSchAxStat ax) 20 3 = u.toNat * 4 + v.toNat * 2 + w.toNat) ∧
  (∀ (s : State) (ax : Fin 4) (stamp : Nat) (b : Bool), s.axLive ax = true → s.axMode ax = 2 →
    (s.axis ax).illegal = false →
    Answers (.hallSectorChange ax b b b stamp) s fun t =>
      (t.axis ax) = { s.axis ax with illegal := true, sector := none } ∧
      t.rd (rSchAxErrHall ax) = satAdd (s.rd (rSchAxErrHall ax)) 1 ∧ t.fld (rSchAxErrinfo ax) 28 4 = 2) ∧
  (∀ (s : State) (ax : Fin 4) (u v w : Bool) (j k stamp : Nat), s.axLive ax = true → s.axMode ax = 2 →
    hallSector (u, v, w) = some k → (s.axis ax).sector = some j → j ≠ k → (j + 1) % 6 ≠ k → (k + 1) % 6 ≠ j →
    Answers (.hallSectorChange ax u v w stamp) s fun t =>
      (t.axis ax).count = (s.axis ax).count ∧ (t.axis ax).hist = [] ∧ (t.axis ax).sector = some k ∧
      t.rd (rSchAxErrHall ax) = satAdd (s.rd (rSchAxErrHall ax)) 1 ∧ t.fld (rSchAxErrinfo ax) 28 4 = 3) ∧
  (∀ (s : State) (ax : Fin 4), s.axLive ax = true → s.axMode ax ≠ 0 → (s.axis ax).wire = false →
    Answers (.wireFault ax) s fun t =>
      t.bit (rSchAxStat ax) 31 = false ∧ t.bit (rSchAxStat ax) 27 = true ∧ (t.axis ax).wire = true ∧
      (t.axis ax).count = (s.axis ax).count ∧ t.rd (rSchAxWire ax) = satAdd (s.rd (rSchAxWire ax)) 1 ∧
      t.fld (rSchAxErrinfo ax) 28 4 = 4) ∧
  (∀ (s : State) (ax : Fin 4), s.unitLive 4 (axUnit ax) = true → s.axMode ax ≠ 0 → (s.axis ax).wire = true →
    (s.axis ax).fold = false →
    Answers (.wireRecovery ax) s fun t =>
      t.bit (rSchAxStat ax) 31 = true ∧ t.axis ax = (if s.bit (rSchAxStat ax) 31 then { s.axis ax with wire := false }
        else { s.axis ax with wire := false, latch := none, turned := false }) ∧
      ∀ r, r ≠ rSchAxStat ax → t.rd r = s.rd r) ∧
  (∀ (s : State) (ax : Fin 4) (stamp : Nat) (datHigh : Bool), s.axLive ax = true →
    s.axMode ax = 3 ∨ s.axMode ax = 4 → (s.axis ax).wire = false → (s.axis ax).reading = none →
    Answers (.serialReadStart ax stamp datHigh) s fun t =>
      t.axis ax = { s.axis ax with reading := some (stamp : Int), waiting := !datHigh } ∧ t.regs = s.regs) ∧
  (∀ (s : State) (ax : Fin 4) (bits : List Bool) (t0 : Int), (s.axis ax).reading = some t0 →
    s.unitLive 4 (axUnit ax) = true → s.axMode ax = 3 ∨ s.axMode ax = 4 → (s.axis ax).waiting = false →
    (s.serialFrame ax bits).1 = none →
    Answers (.serialReadDone ax bits) s fun t =>
      t.rd (rSchAxErrSer ax) = satAdd (s.rd (rSchAxErrSer ax)) 1 ∧ (t.axis ax).reading = none ∧
      (t.axis ax).count = (s.axis ax).count ∧ (t.axis ax).bad = min 3 ((s.axis ax).bad + 1) ∧
      t.fld (rSchAxErrinfo ax) 28 4 = (s.serialFrame ax bits).2.1 % 16) ∧
  (∀ (s : State) (ax : Fin 4) (bits : List Bool) (t0 : Int) (raw p : Nat), (s.axis ax).reading = some t0 →
    s.unitLive 4 (axUnit ax) = true → s.axMode ax = 3 ∨ s.axMode ax = 4 → (s.axis ax).waiting = false →
    (s.serialFrame ax bits) = (some raw, 0, false) → (s.axis ax).raw = some p → s.bit (rSchAxStat ax) 31 = true →
    s.fld (rSchAxSerl ax) 0 16 = 0 →
    AnswersVia (fun t => t.countChange ax
        (s.axSign ax (sext (s.serBits ax) ((raw + 2 ^ s.serBits ax - p) % 2 ^ s.serBits ax)))
        (t0 + (s.fld (rSchAxSerl ax) 16 16 * tuPerNs : Nat)))
      (.serialReadDone ax bits) s fun t => t = s.setAxis ax
        { s.axis ax with reading := none, raw := some raw, bad := 0, good := min 3 ((s.axis ax).good + 1) }) ∧
  (∀ (s : State) (ax : Fin 4), s.unitLive 4 (axUnit ax) = true → (s.axis ax).reading ≠ none →
    Answers (.serTimeout ax) s fun t =>
      t.rd (rSchAxErrSer ax) = satAdd (s.rd (rSchAxErrSer ax)) 1 ∧ (t.axis ax).reading = none ∧
      (t.axis ax).count = (s.axis ax).count ∧ t.fld (rSchAxErrinfo ax) 28 4 = 7) ∧
  (∀ (s : State) (ax : Fin 4), s.unitLive 4 (axUnit ax) = true →
    Answers (.standstill ax) s fun t =>
      t.axis ax = { s.axis ax with v := 0 } ∧ t.bit (rSchAxStat ax) 30 = false ∧
      ∀ r, r ≠ rSchAxStat ax → t.rd r = s.rd r) ∧
  (∀ (s : State) (ax : Fin 4) (mA : Nat), s.unitLive 4 (axUnit ax) = true → s.fld (rSchAxStat ax) 24 2 = 1 →
    Answers (.supplyFoldback ax mA) s fun t =>
      t.fld (rSchAxStat ax) 24 2 = 2 ∧ t.fld (rSchAxStat ax) 0 16 = min 0xFFFF mA ∧ t.bit (rSchAxStat ax) 31 = false ∧
      (t.axis ax).fold = true ∧ (t.axis ax).count = (s.axis ax).count ∧ t.fld (rSchAxErrinfo ax) 28 4 = 10) ∧
  (∀ (s : State) (ax : Fin 4) (mA : Nat), s.unitLive 4 (axUnit ax) = true → s.fld (rSchAxStat ax) 24 2 = 2 →
    Answers (.supplyRecovery ax mA) s fun t =>
      t.fld (rSchAxStat ax) 24 2 = 1 ∧ t.fld (rSchAxStat ax) 0 16 = min 0xFFFF mA ∧ (t.axis ax).fold = false ∧
      t.bit (rSchAxStat ax) 31 =
        (s.bit (rSchAxStat ax) 31 ||
          ((s.axis ax).fold && (s.axMode ax == 1 || s.axMode ax == 2) && !(s.axis ax).wire))) ∧
  (∀ (s : State) (ax : Fin 4) (v : Word), s.reaches 4 = true → s.unitLive 4 (axUnit ax) = true → s.capture = false →
    AnswersVia (fun t => (t.rearmAxis (ax + 1)).repredict (ax + 1)) (.axisSet ax v) s fun t =>
      t.axis ax = { (s.keepWas ax).axis ax with
        count := BitVec.ofNat 48 (fget v 0 16 * 2 ^ 32 + (s.rd (rSchAxSetLo ax)).toNat), hist := [], v := 0 } ∧
      t.bit (rSchAxStat ax) 30 = false) ∧
  (∀ (s : State) (ax : Fin 4) (v : Word), s.reaches 4 = true → s.unitLive 4 (axUnit ax) = true → s.capture = true →
    Answers (.axisSet ax v) s fun t => t = s.violation (rSchAxSetHi ax))

/-- From R262, R264, R266, R269, R281, R304: the Frame Ledger, segments, and the exchange of the LUT banks. -/
def Obligations.LedgerAndSegments : Prop :=
  (∀ (s : State) (part : Fin 32), (s.part part).ready = none ∨ s.unitLive 3 9 = false →
    Answers (.ledgerEntryWrite part) s fun t => t = s) ∧
  (∀ (s : State) (part : Fin 32) (e : Entry) (g : Seg), s.unitLive 3 9 = true → (s.part part).ready = some e →
    (s.part part).seg = some g → s.strLayout (s.fld (rIngPartCfg part) 16 6) ≠ 2 → e.freed = false →
    Answers (.ledgerEntryWrite part) s fun t =>
      ∃ (u : State) (w : Entry), w = { e with flags := e.flags ||| s.layoutFlags part } ∧
        t = (u.memWrite (s.ledgerAddr part e.idx) (w.bytes (s.chainOf part g w))).1 ∧ u.mem = s.mem ∧ u.regs = s.regs ∧
        u.part part = { s.part part with
          entries := updEntry (s.part part).entries e.serial
            (fun _ => { w with written := true, chain := s.chainOf part g w })
          seg := some (g.advance w (s.chainOf part g w)) }) ∧
  (∀ (s : State) (part : Fin 32) (e : Entry) (g : Seg), s.unitLive 3 9 = true → (s.part part).ready = some e →
    (s.part part).seg = some g → e.freed = true →
    Answers (.ledgerEntryWrite part) s fun t =>
      t.mem = s.mem ∧ t.regs = s.regs ∧
      (t.part part).entries = (s.part part).entries.filter (fun x => x.serial != e.serial)) ∧
  (∀ (s : State) (part : Fin 32) (e : Entry) (g : Seg), s.unitLive 3 9 = true → (s.part part).ready = some e →
    (s.part part).seg = some g → s.strLayout (s.fld (rIngPartCfg part) 16 6) = 2 → e.freed = false → e.kind = 2 →
    Answers (.ledgerEntryWrite part) s fun t =>
      ∃ (u : State) (w : Entry), w = { e with flags := e.flags ||| s.layoutFlags part } ∧ u.mem = s.mem ∧
        t = ((u.memWrite (s.ledgerAddr part e.idx) (w.bytes (s.chainOf part g w))).1.memWrite
          (s.annexAddr + s.fld (rIngPartIbase part) 0 24 * 4096 + 32 * e.idx)
          (legacyEntry w (s.strW (s.fld (rIngPartCfg part) 16 6)) (s.strH (s.fld (rIngPartCfg part) 16 6)))).1) ∧
  (∀ (s : State) (part : Fin 32) (i : Nat) (g : Seg), i = s.fld (rIngPartCfg part) 16 6 → (s.part part).seg = some g →
    s.winState i = 3 → s.partOf i = some part.val → s.unitLive 3 9 = true →
    (s.part part).entries.any (fun e => e.seg == g.num && !e.written) = false → s.attested part = false →
    (s.schStr i).reopen = false →
    AnswersVia (fun t => (((t.setWin i 0).commitStream i).lutSwap i).swapLook) (.segmentClose part) s fun t =>
      ∃ u : State, u = (s.closeSeg part).wr (rSchStrSeg i) (satAdd (s.rd (rSchStrSeg i)) 1) ∧
        t = (u.raiseLin 0x076 1 (s.schStr i).lin).setSchStr i { s.schStr i with lin := 0#64, reopen := false, trig := none }) ∧
  (∀ (s : State) (part : Fin 32) (e : Entry) (g : Seg), (s.part part).seg = some g → e ∈ (s.part part).entries →
    e.seg = g.num → e.written = false → Answers (.segmentClose part) s fun t => t = s) ∧
  (∀ (s : State) (part : Fin 32) (v : Word), s.reaches 3 = true → s.unitLive 3 9 = true → v.getLsbD 1 = false →
    v.getLsbD 0 = true → (s.part part).seg = none → fget v 16 16 ∈ (s.part part).closed →
    Answers (.segmentRelease part v) s fun t =>
      (t.part part).entries = (s.part part).entries.filter (fun e => e.seg != fget v 16 16) ∧
      (t.part part).closed = (s.part part).closed.filter (· != fget v 16 16) ∧
      t.mem = s.mem ∧ ∀ r, r ≠ rIngPartStat part → t.rd r = s.rd r) ∧
  (∀ (s : State) (part : Fin 32) (v : Word) (g : Seg), s.reaches 3 = true → s.unitLive 3 9 = true →
    v.getLsbD 1 = false → v.getLsbD 0 = true → (s.part part).seg = some g → g.num = fget v 16 16 →
    Answers (.segmentRelease part v) s fun t => t = s.violation (rIngPartCmd part)) ∧
  (∀ (s : State) (part : Fin 32), s.reaches 3 = true → s.unitLive 3 9 = true →
    s.armed (s.fld (rIngPartCfg part) 16 6) = false →
    Answers (.erase part) s fun t =>
      (t.part part).entries = (s.part part).entries.filter (fun e => (s.part part).seg.any (fun g => g.num == e.seg)) ∧
      (t.part part).closed = [] ∧ (t.part part).next = (if (s.part part).seg.isSome then (s.part part).next else 0) ∧
      t.fld (rIngPartStat part) 16 9 = 0 ∧ t.fld (rIngPartWptr part) 0 28 = s.fld (rIngPartBase part) 0 28) ∧
  (∀ (s : State) (part : Fin 32), s.reaches 3 = true → s.unitLive 3 9 = true →
    s.armed (s.fld (rIngPartCfg part) 16 6) = true →
    Answers (.erase part) s fun t => t = s.violation (rIngPartCmd part)) ∧
  (∀ (s : State) (c : Fin 4) (v : Word) (i : Nat), s.reaches 5 = true → s.unitLive (5 + c) 1 = true →
    v.getLsbD 0 = true → s.bit (rPixCfg c) 31 = true → i = s.fld (rPixCfg c) 24 6 → s.lead i = some c.val →
    s.armed i = true →
    Answers (.pixSwap c v) s fun t =>
      (∀ d ∈ s.servers i, t.bit (rPixStat d) 0 = true ∧ t.bit (rPixStat d) 4 = s.bit (rPixStat d) 4) ∧ t.pix = s.pix) ∧
  (∀ (s : State) (c : Fin 4) (v : Word) (i : Nat), s.reaches 5 = true → s.unitLive (5 + c) 1 = true →
    v.getLsbD 0 = true → s.bit (rPixCfg c) 31 = true → i = s.fld (rPixCfg c) 24 6 → s.lead i = some c.val →
    s.armed i = false → (s.servers i).Nodup →
    Answers (.pixSwap c v) s fun t =>
      (∀ d ∈ s.servers i, t.bit (rPixStat d) 0 = false ∧ t.bit (rPixStat d) 4 = !s.bit (rPixStat d) 4) ∧
      (s.speaks (0x094 + 8 * c) 1 = true → t.hears (0x094 + 8 * c) 1 = true)) ∧
  (∀ (s : State) (c : Fin 4) (v : Word), s.reaches 5 = true → s.unitLive (5 + c) 1 = true →
    v.getLsbD 0 = true → s.bit (rPixCfg c) 31 = true → s.lead (s.fld (rPixCfg c) 24 6) ≠ some c.val →
    Answers (.pixSwap c v) s fun t => t = s.violation (rPixSwap c))

/-- From R321, R327, R340, R341, R349: correlation jobs, tracked frames and gauges. -/
def Obligations.CorrelationJobs : Prop :=
  (∀ (s : State) (j : Fin 4), s.reaches 9 = true → s.corUp = true → s.corState j = 1 ∨ s.corState j = 2 ∨ s.corState j = 3 →
    Answers (.jobStart j) s fun t => t = s.violation (rCorJCmd j)) ∧
  (∀ (s : State) (j : Fin 4) (e : Nat), s.reaches 9 = true → s.corUp = true → s.corState j = 0 → (s.setFld (rCorJStat j) 28 4 0).startErr j = e →
    e ≠ 0 → s.cor.cur = none →
    AnswersVia State.syncCor (.jobStart j) s fun t =>
      t.corState j = 4 ∧ t.fld (rCorJStat j) 24 4 = e % 16 ∧
      t.corJob j = { CorJob.init with seq := (s.corJob j).seq } ∧
      (s.speaks 0x0B9 2 = true → t.hears 0x0B9 2 = true)) ∧
  (∀ (s : State) (j : Fin 4), s.reaches 9 = true → s.corUp = true → s.corState j = 0 →
    (s.setFld (rCorJStat j) 28 4 0).startErr j = 0 →
    AnswersVia State.syncCor (.jobStart j) s fun t =>
      t.corState j = 1 ∧ t.fld (rCorJStat j) 24 4 = 0 ∧
      t.corJob j = match s.corPiv j, (s.setFld (rCorJStat j) 28 4 0).refEntry j with
        | false, some e => { CorJob.init with
            refHead := e.head, refLay := (s.setFld (rCorJStat j) 28 4 0).slotLay (s.corStream j) e.flags }
        | _, _ => CorJob.init) ∧
  (∀ (s : State) (j : Fin 4), s.reaches 9 = true → s.corUp = true → s.corState j = 4 →
    AnswersVia State.syncCor (.jobStop j) s fun t =>
      t.corState j = 0 ∧ t.corJob j = { CorJob.init with seq := (s.corJob j).seq }) ∧
  (∀ (s : State) (j : Fin 4), s.reaches 9 = true → s.corUp = true →
    s.corState j = 1 ∨ s.corState j = 2 ∨ s.corState j = 3 →
    AnswersVia State.corRun (.jobStop j) s fun t => t.corJob j = { s.corJob j with stop := true } ∧ t.cor.cur = s.cor.cur) ∧
  (∀ (s : State) (j : Fin 4), s.reaches 9 = true → s.corUp = true → s.corState j = 0 →
    Answers (.jobStop j) s fun t => t = s) ∧
  (∀ (s : State) (j : Fin 4), s.corUp = true → s.corState j = 1 → s.bulkWaits 0 = false → s.corPiv j = true →
    s.corPost j = false →
    AnswersVia State.corRun (.preparationDone j) s fun t => t = s.setFld (rCorJStat j) 28 4 2) ∧
  (∀ (s : State) (j : Fin 4), s.corUp = true → s.corState j = 1 → s.bulkWaits 0 = false → s.corPiv j = false →
    s.corPost j = false →
    AnswersVia State.corRun (.preparationDone j) s fun t =>
      t = (s.forEach (s.corCtxs j) (fun t k => t.prepCtx j k (s.refSurf j 0))).setFld (rCorJStat j) 28 4 2) ∧
  (∀ (s : State) (j : Fin 4), s.corState j ≠ 1 ∨ s.bulkWaits 0 = true → Answers (.preparationDone j) s fun t => t = s) ∧
  (∀ s : State, s.cor.cur = none ∨ s.corUp = true ∧ s.bulkWaits 0 = true → Answers .trackedFrameEnd s fun t => t = s) ∧
  (∀ (s : State) (f : CorFrame), s.cor.cur = some f → s.corUp = false →
    Answers .trackedFrameEnd s fun t => t = s.setCor { s.cor with cur := none }) ∧
  (∀ (s : State) (f : CorFrame), s.cor.cur = some f → s.corUp = true → s.bulkWaits 0 = false → f.live = true →
    s.frameGone f.job f.serial = true →
    AnswersVia State.corRun .trackedFrameEnd s fun t => t = (s.setCor { s.cor with cur := none }).corLost f.job) ∧
  (∀ (s : State) (f : CorFrame), s.cor.cur = some f → s.corUp = true → s.bulkWaits 0 = false → f.live = false →
    s.ringFull f.job = true →
    s.bit (rCorJResn f.job) 31 = false →
    AnswersVia State.corRun .trackedFrameEnd s fun t =>
      t.cor = { s.cor with cur := none } ∧ t.rd (rCorJResFull f.job) = satAdd (s.rd (rCorJResFull f.job)) 1 ∧
      (s.speaks 0x0BD 2 = true → t.hears 0x0BD 2 = true)) ∧
  (∀ (s : State) (f : CorFrame), s.cor.cur = some f → s.corUp = true → s.bulkWaits 0 = false → f.live = false →
    s.ringFull f.job = false → s.corPiv f.job = false →
    AnswersVia State.corRun .trackedFrameEnd s fun t => ∃ u : State,
      t = u.count (rCorJPosted f.job) ∧ u = (s.setCor (f.recs.foldl
        (fun c r => (s.setCor { s.cor with cur := none }).updCtx f.job false c r) { s.cor with cur := none })).writeSet f) ∧
  (∀ (s : State) (f : CorFrame) (failed on : Nat), s.cor.cur = some f → s.corUp = true → s.bulkWaits 0 = false →
    f.live = true → s.frameGone f.job f.serial = false → s.ringFull f.job = false →
    failed = f.recs.countP (fun r => r.status != 0 && r.status != 1) → on = f.recs.length - f.recs.countP (fun r => r.status == 0) →
    AnswersVia State.corRun .trackedFrameEnd s fun t => ∃ u : State,
      u = ((s.setCor (f.recs.foldl (fun c r => (s.setCor { s.cor with cur := none }).updCtx f.job true c r)
        { s.cor with cur := none })).writeSet f).count (rCorJLive f.job) ∧
      t = if 0 < on ∧ s.fld (rCorJQual f.job) 24 8 * on ≤ failed * 256 then u.raise 0x0BB 2 else u) ∧
  (∀ (s : State) (g : Fin 64) (f : CorFrame), s.cor.cur = some f → g.val ∈ f.gauges → s.corUp = true →
    s.unitLive 9 3 = true →
    Answers (.gaugeEvaluate g) s fun t =>
      t.cor = { s.cor with cur := some { f with gauges := f.gauges.filter (· != g.val) } } ∧
      match s.gaugeValue g f.recs with
      | none => t.fld (rCorGStat g) 0 16 = min 0xFFFF (s.fld (rCorGStat g) 0 16 + 1) ∧ t.rd (rCorGValue g) = s.rd (rCorGValue g)
      | some v => t.rd (rCorGValue g) = v ∧
        if s.bit (rCorGStat g) 31 then
          (if (if s.bit (rCorGCfg g) 27 then flt v (s.rd (rCorGThr g)) else flt (s.rd (rCorGThr g)) v) then
            t.bit (rCorGStat g) 31 = false ∧ t.bit (rCorGStat g) 30 = true ∧
            t.liveAt (rCorGSerLo g) = BitVec.ofNat 64 f.serial
          else t.bit (rCorGStat g) 31 = true ∧ t.bit (rCorGStat g) 30 = s.bit (rCorGStat g) 30)
        else t.bit (rCorGStat g) 31 = (if s.bit (rCorGCfg g) 27 then fle (fadd (s.rd (rCorGThr g)) (s.rd (rCorGHyst g))) v
          else fle v (fsub (s.rd (rCorGThr g)) (s.rd (rCorGHyst g)))))

/-- From R361 to R371: the compression queue, its jobs and their blocks. -/
def Obligations.CompressionQueue : Prop :=
  (∀ (s : State) (v : Word), s.reaches 11 = true → s.unitLive 11 1 = true →
    s.cmpQueue.length + (fget v 0 12 % s.cmpSize + s.cmpSize - s.fld rCmpQtail 0 12 % s.cmpSize) % s.cmpSize < s.cmpSize →
    AnswersVia State.syncSnoop (.qtailWrite v) s fun t =>
      t = s.setFld rCmpQtail 0 12 (fget v 0 12 % s.cmpSize)) ∧
  (∀ (s : State) (v : Word), s.reaches 11 = true → s.unitLive 11 1 = true →
    s.cmpSize ≤ s.cmpQueue.length + (fget v 0 12 % s.cmpSize + s.cmpSize - s.fld rCmpQtail 0 12 % s.cmpSize) % s.cmpSize →
    Answers (.qtailWrite v) s fun t => t = s.violation rCmpQtail) ∧
  (∀ (s : State) (eng : Fin 8) (k : Nat), s.unitLive 11 1 = true → s.unitLive 11 (2 + eng) = true →
    (s.cmpEng eng).busy = false → s.bit rCmpQcfg 31 = true → s.pwr.loss = 0 → s.cmpSelect = some k →
    s.descBad (s.cmpDesc k) = false → leAt (s.cmpDesc k) 0 1 = 1 → ((s.cmpDesc k).getD 1 0#8).getLsbD 0 = false →
    leAt (s.cmpDesc k) 0x3C 1 ≠ 4 → descLedger (s.cmpDesc k) = false →
    AnswersVia (fun t => (t.setCmpEng eng (startEng k (s.cmpDesc k)) false).syncSnoop) (.compress eng) s fun t =>
      t = s.cmpPut k (startEng k (s.cmpDesc k)) 1 0) ∧
  (∀ (s : State) (eng : Fin 8) (k : Nat), s.unitLive 11 1 = true → s.unitLive 11 (2 + eng) = true →
    (s.cmpEng eng).busy = false → s.bit rCmpQcfg 31 = true → s.pwr.loss = 0 → s.cmpSelect = some k →
    s.descBad (s.cmpDesc k) = false → leAt (s.cmpDesc k) 0 1 = 2 → ((s.cmpDesc k).getD 1 0#8).getLsbD 0 = false →
    leAt (s.cmpDesc k) 0x3C 1 ≠ 4 → descLedger (s.cmpDesc k) = false →
    AnswersVia (fun t => (t.setCmpEng eng (startEng k (s.cmpDesc k)) false).syncSnoop) (.decompress eng) s fun t =>
      t = s.cmpPut k (startEng k (s.cmpDesc k)) 1 0) ∧
  (∀ (s : State) (eng : Fin 8) (k : Nat), s.unitLive 11 1 = true → s.unitLive 11 (2 + eng) = true →
    (s.cmpEng eng).busy = false → s.bit rCmpQcfg 31 = true → s.pwr.loss = 0 → s.cmpSelect = some k →
    s.descBad (s.cmpDesc k) = false → leAt (s.cmpDesc k) 0 1 = 3 → ((s.cmpDesc k).getD 1 0#8).getLsbD 0 = false →
    leAt (s.cmpDesc k) 0x3C 1 ≠ 4 → descLedger (s.cmpDesc k) = false →
    AnswersVia (fun t => (t.setCmpEng eng (startEng k (s.cmpDesc k)) false).syncSnoop) (.destrip eng) s fun t =>
      t = s.cmpPut k (startEng k (s.cmpDesc k)) 1 0) ∧
  (∀ (s : State) (eng : Fin 8) (k : Nat), s.unitLive 11 1 = true → s.unitLive 11 (2 + eng) = true →
    (s.cmpEng eng).busy = false → s.bit rCmpQcfg 31 = true → s.pwr.loss = 0 → s.cmpSelect = some k →
    s.descBad (s.cmpDesc k) = true →
    AnswersVia (fun t => t.cmpStop eng (startEng k (s.cmpDesc k)) 9 0 0) (.compress eng) s fun t => t = s) ∧
  (∀ (s : State) (eng : Fin 8) (k : Nat), s.unitLive 11 1 = true → s.unitLive 11 (2 + eng) = true →
    (s.cmpEng eng).busy = false → s.bit rCmpQcfg 31 = true → s.pwr.loss = 0 → s.cmpSelect = some k →
    s.descBad (s.cmpDesc k) = false → ((s.cmpDesc k).getD 1 0#8).getLsbD 0 = true →
    leAt (s.cmpDesc k) 0x3C 1 ≠ 4 → descLedger (s.cmpDesc k) = false →
    match s.resumeEng k (s.cmpDesc k) false with
    | none => AnswersVia (fun t => t.cmpStop eng (startEng k (s.cmpDesc k)) 0xA 0 0) (.jobResume eng) s fun t => t = s
    | some v => AnswersVia (fun t => (t.setCmpEng eng v false).syncSnoop) (.jobResume eng) s fun t => t = s.cmpPut k v 1 0) ∧
  (∀ (s : State) (eng : Fin 8), (s.cmpEng eng).busy = false ∨
      s.bulkWaits 1 = true ∧ s.pwr.loss = 0 ∧ s.cmpPreempted eng = false →
    Answers (.blockBoundary eng) s fun t => t = s) ∧
  (∀ (s : State) (eng : Fin 8) (v : CmpEng) (d : List Byte), s.cmpEng eng = v → v.busy = true → s.unitLive 11 1 = true →
    s.unitLive 11 (2 + eng) = true → s.bulkWaits 1 = false → d = s.cmpDesc v.slot → leAt d 0 1 = 2 → v.pos = none →
    leAt d 8 8 + leAt d 0x1C 4 ≤ v.inNext →
    AnswersVia (fun t => t.cmpDone eng v) (.blockBoundary eng) s fun t => t = s) ∧
  (∀ (s : State) (eng : Fin 8) (v : CmpEng) (d : List Byte), s.cmpEng eng = v → v.busy = true → s.unitLive 11 1 = true →
    s.unitLive 11 (2 + eng) = true → s.bulkWaits 1 = false → d = s.cmpDesc v.slot → leAt d 0 1 = 2 → v.pos = none →
    64 ≤ leAt d 8 8 + leAt d 0x1C 4 - v.inNext → readHeader (s.peek v.inNext 64) = none →
    AnswersVia (fun t => t.cmpStop eng v 7 0 0) (.blockBoundary eng) s fun t => t = s) ∧
  (∀ (s : State) (eng : Fin 8) (v : CmpEng) (d : List Byte) (g : CmpGeom) (serial : Nat), s.cmpEng eng = v → v.busy = true →
    s.unitLive 11 1 = true → s.unitLive 11 (2 + eng) = true → s.bulkWaits 1 = false → d = s.cmpDesc v.slot → leAt d 0 1 = 2 → v.pos = none →
    64 ≤ leAt d 8 8 + leAt d 0x1C 4 - v.inNext → readHeader (s.peek v.inNext 64) = some (g, serial) →
    g.slotLen ≤ v.left d → s.pwr.loss ≠ 0 →
    AnswersVia (fun t => t.cmpStop eng { v with pos := some 0, geom := g, serial := serial, ctx := ctxReset g.b,
                                                   inNext := v.inNext + 64, inTotal := v.inTotal + 64, inFrame := 64, outFrame := 0 } 5 0 3)
      (.blockBoundary eng) s fun t => t = s)

/-- From R378, R385 to R395: the encoder channels; R401, R481: RTP packets. -/
def Obligations.VideoEncodersAndRtp : Prop :=
  (∀ (s : State) (c : Fin 8), s.reaches 10 = true → s.unitLive 10 (2 + c) = true → s.encState c ≠ 1 → s.encState c ≠ 2 →
    s.encCheck c (s.bit (rVidEncCfg c) 31) (s.fld (rVidEncCfg c) 24 6) = 0 →
    Answers (.encoderStart c) s fun t =>
      t.encState c = 1 ∧ t.fld (rVidEncStat c) 24 4 = 0 ∧ t.rd (rVidEncVbvlvl c) = BitVec.ofNat 32 (s.vbvBits c / 2) ∧
      (t.enc c).host = s.bit (rVidEncCfg c) 31 ∧ (t.enc c).stream = s.fld (rVidEncCfg c) 24 6 ∧
      (t.enc c).req = (s.enc c).req ∧ (t.enc c).pic = none ∧ (t.enc c).pkts = (s.enc c).pkts) ∧
  (∀ (s : State) (c : Fin 8) (e : Nat), s.reaches 10 = true → s.unitLive 10 (2 + c) = true → s.encState c ≠ 1 →
    s.encState c ≠ 2 → s.encCheck c (s.bit (rVidEncCfg c) 31) (s.fld (rVidEncCfg c) 24 6) = e → e ≠ 0 →
    Answers (.encoderStart c) s fun t => t = s.encError c e) ∧
  (∀ (s : State) (c : Fin 8), s.reaches 10 = true → s.unitLive 10 (2 + c) = true → s.encState c = 2 →
    Answers (.encoderStart c) s fun t => t = s.violation (rVidEncCmd c)) ∧
  (∀ (s : State) (c : Fin 8), s.reaches 10 = true → s.unitLive 10 (2 + c) = true → s.encState c = 1 →
    (s.enc c).pic = none →
    Answers (.encoderStop c) s fun t => t = s.encIdle c ∧ t.encState c = 0 ∧ t.fld (rVidEncStat c) 0 4 = 0) ∧
  (∀ (s : State) (c : Fin 8) (p : VPic), s.reaches 10 = true → s.unitLive 10 (2 + c) = true → s.encState c = 1 →
    (s.enc c).pic = some p →
    Answers (.encoderStop c) s fun t => t.encState c = 2 ∧ t.vid = s.vid) ∧
  (∀ (s : State) (c : Fin 8), s.reaches 10 = true → s.unitLive 10 (2 + c) = true →
    Answers (.requestIdr c) s fun t => t = s.encReq c 0x80000000#32) ∧
  (∀ (s : State) (c : Fin 8), s.reaches 10 = true → s.unitLive 10 (2 + c) = true →
    Answers (.requestRefresh c) s fun t => t = s.encReq c 0x40000000#32) ∧
  (∀ (s : State) (c : Fin 8), s.reaches 10 = true → s.unitLive 10 (2 + c) = true →
    Answers (.requestHeader c) s fun t => t = s.encReq c 0x20000000#32) ∧
  (∀ (s : State) (c : Fin 8) (slot : Fin 4), s.reaches 10 = true → s.unitLive 10 (2 + c) = true →
    Answers (.markLt c slot) s fun t =>
      fget (t.enc c).req 24 2 = slot ∧ (t.enc c).req.getLsbD 28 = true ∧
      t.enc c = { s.enc c with req := (t.enc c).req } ∧ t.regs = s.regs) ∧
  (∀ (s : State) (c : Fin 8) (mask : BitVec 4), s.reaches 10 = true → s.unitLive 10 (2 + c) = true →
    Answers (.clearLt c mask) s fun t =>
      fget (t.enc c).req 20 4 = (fget (s.enc c).req 20 4 ||| mask.toNat) ∧
      t.enc c = { s.enc c with req := (t.enc c).req } ∧ t.regs = s.regs) ∧
  (∀ (s : State) (c : Fin 8) (mask : BitVec 4), s.reaches 10 = true → s.unitLive 10 (2 + c) = true →
    Answers (.useLt c mask) s fun t =>
      fget (t.enc c).req 16 4 = mask.toNat ∧ t.enc c = { s.enc c with req := (t.enc c).req } ∧ t.regs = s.regs) ∧
  (∀ (s : State) (c : Nat), (s.encReq c 0x80000000#32).enc c = { s.enc c with
      req := ((s.encReq c 0x80000000#32).enc c).req } ∧
    (s.unitLive 10 (2 + c) = true → ((s.encReq c 0x80000000#32).enc c).req.getLsbD 31 = true) ∧
    (s.unitLive 10 (2 + c) = true → ((s.encReq c 0x40000000#32).enc c).req.getLsbD 30 = true) ∧
    (s.unitLive 10 (2 + c) = true → ((s.encReq c 0x20000000#32).enc c).req.getLsbD 29 = true)) ∧
  (∀ (s : State) (core : Fin 4), s.pxStopped = true → Answers (.pictureStart core) s fun t => t = s) ∧
  (∀ (s : State) (core : Fin 4), s.unitLive 10 1 = true → s.pxStopped = false →
    (∀ c : Fin 8, (s.enc c).pic = none) →
    Answers (.pictureStart core) s fun t =>
      t = s.encTry core ([6, 7] ++ (List.range 6).map (fun i => (s.vid.rr + 1 + i) % 6))) ∧
  (∀ (s : State) (core c : Nat) (l : List Nat) (x : Nat × Nat × Nat) (p q r : Nat), s.encState c = 1 → (s.enc c).pic = none →
    s.unitLive 10 (2 + c) = true → s.encGeom c (s.enc c).host (s.enc c).stream = (p, q, r) → s.encNext c = some x →
    s.outNeed c (s.sliceCount c (ctuGrid q r).2) ≤ s.outFree c →
    s.encTry core (c :: l) = s.encTake core c x.1 x.2.1 x.2.2) ∧
  (∀ (s : State) (c : Fin 8), (s.enc c).pic = none ∨ s.bulkWaits 3 = true →
    Answers (.sliceOutput c) s fun t => t = s) ∧
  (∀ (s : State) (c : Fin 8) (p : VPic), s.unitLive 10 (2 + c) = true → s.unitLive 10 1 = true →
    s.bulkWaits 3 = false → (s.enc c).pic = some p → p.slice + 1 < p.slices →
    Answers (.sliceOutput c) s fun t => ∃ g : VPic, (t.enc c).pic = some g ∧
      g.slice = p.slice + 1 ∧ g.slices = p.slices ∧ g.poc = p.poc ∧ g.seq = p.seq ∧ p.bytes < g.bytes) ∧
  (∀ (s : State) (c : Fin 8) (p : VPic), s.unitLive 10 (2 + c) = true → s.unitLive 10 1 = true →
    s.bulkWaits 3 = false → (s.enc c).pic = some p → p.slices ≤ p.slice + 1 →
    Answers (.sliceOutput c) s fun t => ∃ (u : State) (g : VPic), t = u.encEnd c g ∧ g.seq = p.seq ∧ p.bytes < g.bytes) ∧
  (∀ (s : State) (c : Nat) (p : VPic), s.encState c = 1 →
    ((s.encEnd c p).enc c).pic = none ∧
    (s.speaks (0x0C0 + c) (2 + c) = true → (s.encEnd c p).hears (0x0C0 + c) (2 + c) = true)) ∧
  (∀ (s : State) (c : Fin 8) (v : Word), s.reaches 10 = true → s.unitLive 10 (2 + c) = true →
    fget v 0 26 < s.outSize c / 64 →
    (fget v 0 26 + s.outSize c / 64 - s.fld (rVidEncRdptr c) 0 26 % max 1 (s.outSize c / 64)) % max 1 (s.outSize c / 64) ≤
      s.outUsed c / 64 →
    Answers (.encoderRdptrWrite c v) s fun t => t = s.wr (rVidEncRdptr c) (BitVec.ofNat 32 (fget v 0 26))) ∧
  (∀ (s : State) (c : Fin 8) (v : Word), s.reaches 10 = true → s.unitLive 10 (2 + c) = true →
    s.outSize c / 64 ≤ fget v 0 26 →
    Answers (.encoderRdptrWrite c v) s fun t => t = s.violation (rVidEncRdptr c)) ∧
  (∀ (s : State) (c : Fin 8) (x : List Byte × Bool × Nat) (l : List (List Byte × Bool × Nat)), (s.enc c).pkts = x :: l →
    s.unitLive 10 12 = true → s.pxStopped = false → s.serving = true → s.netUp (s.fld (rVidRtpCfg c) 28 1) = true →
    s.txBusy (s.fld (rVidRtpCfg c) 28 1) 3 false = false →
    Answers (.rtpPacketSend c) s fun t => ∃ u : State,
      t = (u.netSend (s.fld (rVidRtpCfg c) 28 1) 3 (s.rtpPacket c (s.enc c) x.1 x.2.1 x.2.2)).count (rVidRtpSent c) ∧
      u.enc c = { s.enc c with pkts := l, ident := ((s.enc c).ident + 1) % 65536 } ∧
      u.fld (rVidRtpSeq c) 0 16 = (s.fld (rVidRtpSeq c) 0 16 + 1) % 2 ^ 16) ∧
  (∀ (s : State) (c : Fin 8) (x : List Byte × Bool × Nat) (l : List (List Byte × Bool × Nat)), (s.enc c).pkts = x :: l →
    s.unitLive 10 12 = true → s.pxStopped = false → s.serving = true → s.netUp (s.fld (rVidRtpCfg c) 28 1) = false →
    Answers (.rtpPacketSend c) s fun t =>
      (t.enc c).pkts = l ∧ t.rd (rVidRtpDropped c) = satAdd (s.rd (rVidRtpDropped c)) 1 ∧ t.net = s.net ∧
      (s.speaks 0x0CC 12 = true → t.hears 0x0CC 12 = true)) ∧
  (∀ (s : State) (c : Fin 8), (s.enc c).pkts = [] ∨ s.pxStopped = true ∨ s.serving = false →
    Answers (.rtpPacketSend c) s fun t => t = s)

/-- From R397, R398, R400, R405: the decoders. -/
def Obligations.VideoDecoders : Prop :=
  (∀ (s : State) (d : Fin 2), s.reaches 10 = true → s.unitLive 10 (10 + d) = true → s.decState d ≠ 0 →
    Answers (.decoderStart d) s fun t => t = s.violation (rVidDecCmd d)) ∧
  (∀ (s : State) (d : Fin 2), s.reaches 10 = true → s.unitLive 10 (10 + d) = true → s.decState d = 0 → 8 ≤ s.decNbuf d →
    AnswersVia (fun t => t.decAdvance d) (.decoderStart d) s fun t =>
      t.dec d = { VDec.init with held := (s.dec d).held } ∧ t.decState d = 1 ∧
      ∀ r, r ≠ rVidDecStat d → t.rd r = s.rd r) ∧
  (∀ (s : State) (d : Fin 2), s.reaches 10 = true → s.unitLive 10 (10 + d) = true → s.decState d ≠ 0 →
    Answers (.decoderStop d) s fun t =>
      t.decState d = 0 ∧ (t.dec d).dpb = VDec.init.dpb ∧ (t.dec d).cur = none ∧ (t.dec d).held = (s.dec d).held) ∧
  (∀ (s : State) (d : Fin 2), s.reaches 10 = true → s.unitLive 10 (10 + d) = true → s.decState d ≠ 0 →
    AnswersVia (fun t => t.decAdvance d) (.decoderEos d) s fun t => t.decState d = 3 ∧ t.vid = s.vid) ∧
  (∀ (s : State) (d : Fin 2) (v : Word), s.reaches 10 = true → s.unitLive 10 (10 + d) = true →
    (v - s.rd (rVidDecInrd d)).toNat < s.inSize d →
    AnswersVia (fun t => t.decAdvance d) (.inwrWrite d v) s fun t => t = s.wr (rVidDecInwr d) v) ∧
  (∀ (s : State) (d : Fin 2) (v : Word), s.reaches 10 = true → s.unitLive 10 (10 + d) = true →
    s.inSize d ≤ (v - s.rd (rVidDecInrd d)).toNat →
    Answers (.inwrWrite d v) s fun t => t = s.violation (rVidDecInwr d)) ∧
  (∀ (s u : State) (d : Fin 2) (p : VOut) (l : List VOut), u = s.decAdvance d → (u.dec d).ready = p :: l →
    u.unitLive 10 (10 + d) = true → u.bulkWaits 3 = false → u.decState d ≠ 3 →
    Answers (.decodedPicture d) s fun t => ∃ (w : State) (b : List Byte), w = u.bulkWrite 3 (u.decBuf d p.buf) b ∧
      b.length = 4096 ∧
      t.dec d = { w.dec d with ready := l, seqs := Map.set (fun _ => 0) (u.dec d).seqs p.buf ((u.dec d).seq + 1),
                               seq := (u.dec d).seq + 1 } ∧
      t.rd (rVidDecPictures d) = satAdd (w.rd (rVidDecPictures d)) 1 ∧
      (w.speaks 0x0CA (10 + d) = true → t.hears 0x0CA (10 + d) = true)) ∧
  (∀ (s : State) (d : Fin 2), ((s.decAdvance d).dec d).ready = [] ∨ (s.decAdvance d).bulkWaits 3 = true →
    Answers (.decodedPicture d) s fun t => t = s.decAdvance d) ∧
  (∀ (s : State) (d : Fin 2) (p : VOut), (s.dec d).cur = some p → p.flags.testBit 2 = false →
    s.unitLive 10 (10 + d) = true →
    Answers (.decodeWatchdog d) s fun t =>
      (t.dec d).cur = some { p with flags := p.flags ||| 4 } ∧ t.rd (rVidDecWdogCnt d) = satAdd (s.rd (rVidDecWdogCnt d)) 1 ∧
      (s.speaks 0x0CB (10 + d) = true → t.hears 0x0CB (10 + d) = true)) ∧
  (∀ (s : State) (d : Fin 2), (s.dec d).cur = none → Answers (.decodeWatchdog d) s fun t => t = s)

/-- From R412, R414, R417 to R420, R423, R424: requests, queues, coins and refresh of the recording memory. -/
def Obligations.MemoryQueues : Prop :=
  (∀ (s : State) (port : Fin 16) (a sc loc : Nat) (d : List Byte), s.memState = 2 →
    s.mapAddr (a / 64 * 64) = some (sc, loc) → s.scUp sc = true → d.length = 64 →
    AnswersVia State.serve (.portRequest port true a 64 d false) s fun t =>
      t.mem = { s.mem with q := s.mem.q ++ [⟨port, true, sc, loc, d, 0, !bulkPort port, 0, s.now⟩] } ∧ t.regs = s.regs) ∧
  (∀ (s : State) (port : Fin 16) (a sc loc : Nat) (l : List Burst) (w : Burst), s.memState = 2 →
    s.mapAddr (a / 64 * 64) = some (sc, loc) → s.scUp sc = true →
    s.mem.q.filter (fun b => b.write && sameBurst b sc loc) = l ++ [w] →
    AnswersVia State.serve (.portRequest port false a 64 [] false) s fun t =>
      t.mem = { s.mem with q := s.mem.q ++ [⟨port, false, sc, loc, w.data, 0, !bulkPort port, w.lock, s.now⟩] }) ∧
  (∀ (s : State) (port : Fin 16) (a sc loc : Nat), s.memState = 2 →
    s.mapAddr (a / 64 * 64) = some (sc, loc) → s.scUp sc = true →
    s.mem.q.any (fun b => b.write && sameBurst b sc loc) = false →
    AnswersVia State.serve (.portRequest port false a 64 [] false) s fun t =>
      t.mem = { s.mem with q := s.mem.q ++ [⟨port, false, sc, loc, s.arrayBytes sc loc 64, s.flipAt sc loc, !bulkPort port, 0,
        s.now⟩] }) ∧
  (∀ (s : State) (port : Fin 16) (wr : Bool) (a : Nat) (d : List Byte), s.memState = 2 → s.mapAddr (a / 64 * 64) = none →
    AnswersVia State.serve (.portRequest port wr a 64 d false) s fun t =>
      t.mem.resp = s.mem.resp ++ [⟨port, .range, if wr then [] else List.replicate 64 0#8⟩] ∧ t.mem.q = s.mem.q ∧
      t.rd rMemRefused = satAdd (s.rd rMemRefused) 1 ∧
      (s.speaks 0x027 1 = true → t.hears 0x027 1 = true)) ∧
  (∀ (s : State) (port : Fin 16) (wr : Bool) (a : Nat) (d : List Byte), s.memState ≠ 2 → s.hst.cmds = [] →
    AnswersVia State.serve (.portRequest port wr a 64 d false) s fun t =>
      t.mem.resp = s.mem.resp ++ [⟨port, .notReady, if wr then [] else List.replicate 64 0#8⟩] ∧ t.mem.q = s.mem.q ∧
      t.rd rMemRefused = satAdd (s.rd rMemRefused) 1) ∧
  (∀ (s : State) (port : Fin 16) (wr : Bool) (a sc loc : Nat) (d : List Byte), s.memState = 2 →
    s.mapAddr (a / 64 * 64) = some (sc, loc) → s.scUp sc = false →
    AnswersVia State.serve (.portRequest port wr a 64 d false) s fun t =>
      t.mem.resp = s.mem.resp ++ [⟨port, .fenced, if wr then [] else List.replicate 64 0#8⟩] ∧ t.mem.q = s.mem.q ∧
      t.regs = s.regs) ∧
  (∀ (s : State) (sc : Fin 16) (bank : Fin 32) (i : Nat) (b : Burst), s.pickWrite sc bank = some i → s.mem.q[i]? = some b →
    ∃ t : State, t.mem.q = s.mem.q.eraseIdx i ∧ t.mem.resp = s.mem.resp ++ [⟨b.port, .ok, []⟩] ∧
      t.mem.dram = putBytes s.mem.dram (dramKey b.sc b.loc) b.data ∧
      AnswersVia (fun u => ((u.forEach [0, 1, 2, 3] (fun v n => v.syncPort n)).forEach [0, 1]
        (fun v n => v.syncAesOd n)).finishWrites) (.writeRetire sc bank) s
        fun u => u = t.refreshBank sc (bank / 8)) ∧
  (∀ (s : State) (sc : Fin 16) (bank : Fin 32), s.pickWrite sc bank = none →
    AnswersVia (fun u => ((u.forEach [0, 1, 2, 3] (fun v n => v.syncPort n)).forEach [0, 1]
        (fun v n => v.syncAesOd n)).finishWrites) (.writeRetire sc bank) s
      fun u => u = s) ∧
  (∀ (s : State) (sc : Fin 16) (loc i : Nat) (errs : List (Nat × Nat)) (b : Burst) (u : State) (st : MStat) (d : List Byte)
    (n : Nat), s.pickRead sc loc = some i → s.mem.q[i]? = some b →
    s.decodeBurst sc b.loc b.data (errWord errs b.flip) = (u, st, d, n) →
    AnswersVia (fun t => t.refreshBank sc ((s.bankRow b.loc).1 / 8)) (.readDecode sc loc errs) s fun t =>
      t.mem.q = u.mem.q.eraseIdx i ∧ t.mem.resp = u.mem.resp ++ [⟨b.port, st, d⟩] ∧ t.regs = u.regs ∧
      t.mem.dram = s.mem.dram) ∧
  (∀ (s : State) (sc loc : Nat) (d : List Byte) (e : List Nat), sc < 16 → gfMem.decode 16 s.eccT e = none →
    (s.decodeBurst sc loc d e).2 = (.poison, applyErr d e, 0) ∧
    (s.decodeBurst sc loc d e).1.rd (rMemScUe sc) = satAdd (s.rd (rMemScUe sc)) 1 ∧
    (s.speaks (0x010 + sc) (scUnit sc) = true → (s.decodeBurst sc loc d e).1.hears (0x010 + sc) (scUnit sc) = true)) ∧
  (∀ (s : State) (sc : Fin 16) (b : Fin 4), s.fld (rMemScStat sc) 28 4 = 2 →
    AnswersVia (fun t => t.refreshBank sc b) (.refreshDue sc b) s fun t =>
      t.debt sc b = min 7 (s.debt sc b + 1) ∧ t.mem = s.mem) ∧
  (∀ (s : State) (sc : Fin 16) (b : Fin 4), s.fld (rMemScStat sc) 28 4 ≠ 2 →
    Answers (.refreshDue sc b) s fun t => t = s) ∧
  (∀ (s : State) (sc b : Nat), s.overdraft = false → s.bankIdle sc b = true → b < 4 → (s.refreshBank sc b).debt sc b = 0) ∧
  (∀ s : State, s.mem.purse.length = 4 →
    AnswersVia State.serve .coinRefill s fun t =>
      (∀ p, p < 4 → t.purse p = min (s.purseMax p * 16) (s.purse p + s.fld (rMemCoinCfg p) 16 16)) ∧ t.mem.q = s.mem.q) ∧
  (∀ s : State, s.overdraft = true → s.bit rMemStat 26 = false → s.fld rMemOdCfg 0 5 ≠ 0 →
    AnswersVia State.serve .floorEntry s fun t =>
      t.bit rMemStat 26 = true ∧ t.overdraft = true ∧ t.rd rMemOdFloors = satAdd (s.rd rMemOdFloors) 1 ∧ t.mem = s.mem ∧
      (s.speaks 0x021 1 = true → t.hears 0x021 1 = true)) ∧
  (∀ s : State, s.overdraft = false ∨ s.bit rMemStat 26 = true ∨ s.fld rMemOdCfg 0 5 = 0 →
    Answers .floorEntry s fun t => t = s) ∧
  (∀ s : State, s.overdraft = true → s.bit rMemStat 26 = false → s.bulkNext = none)

/-- From R424, R427, R432 to R434: scrub, training, self-refresh and temperature of the recording memory. -/
def Obligations.MemoryUpkeep : Prop :=
  (∀ (s : State) (sc : Fin 16) (errs : List (Nat × Nat)),
    s.bit rMemScrub 31 = false ∨ s.scUp sc = false ∨ s.memState ≠ 2 ∨ s.overdraft = true ∨ s.now < s.mem.scrubT →
    Answers (.scrubRead sc errs) s fun t => t = s) ∧
  (∀ (s : State) (sc : Fin 16), s.bit rMemScrub 31 = true → s.scrubScs = [sc.val] → s.memState = 2 → s.overdraft = false →
    s.mem.scrubT ≤ s.now → s.scrubPos sc + 1 < 2 ^ 28 → s.flipAt sc (s.scrubPos sc * 64) = 0 →
    Answers (.scrubRead sc []) s fun t =>
      t.scrubPos sc = s.scrubPos sc + 1 ∧ t.fld rMemScrubStat 0 28 = s.scrubPos sc + 1 ∧ t.mem.dram = s.mem.dram ∧
      t.rd (rMemScScrubFixed sc) = s.rd (rMemScScrubFixed sc)) ∧
  (∀ (s : State) (sc : Fin 16) (drift : Int), s.fld (rMemScStat sc) 28 4 = 2 → 16 < drift.natAbs →
    Answers (.periodicTraining sc drift) s fun t =>
      Map.get (fun _ => 0) t.mem.dq sc = Map.get (fun _ => 0) s.mem.dq sc + drift ∧
      t = { s with mem := { s.mem with dq := t.mem.dq } }) ∧
  (∀ (s : State) (sc : Fin 16) (drift : Int), drift.natAbs ≤ 16 →
    Answers (.periodicTraining sc drift) s fun t => t = s) ∧
  (∀ s : State, s.memState = 4 → s.pwr.loss = 0 → s.fld rHstPwr 4 3 < 3 →
    Answers .selfRefreshExit s fun t =>
      t.memState = 5 ∧ t.mem = s.mem ∧
      ∀ sc, sc < 16 → s.scUp sc = true → s.fld (rMemScStat sc) 28 4 = 3 →
        t.fld (rMemScStat sc) 28 4 = 1 ∧ t.fld (rMemScStat sc) 24 4 = 4) ∧
  (∀ s : State, s.memState ≠ 4 ∨ s.pwr.loss ≠ 0 → Answers .selfRefreshExit s fun t => t = s) ∧
  (∀ s : State, s.memState = 5 →
    Answers .srExited s fun t =>
      t.memState = 2 ∧ t.mem = s.mem ∧ (s.speaks 0x026 1 = true → t.hears 0x026 1 = true) ∧
      ∀ sc, sc < 16 → s.scUp sc = true → s.fld (rMemScStat sc) 28 4 = 1 →
        t.fld (rMemScStat sc) 28 4 = 2 ∧ t.fld (rMemScStat sc) 0 12 = 0) ∧
  (∀ (s : State) (sc : Fin 16),
    Answers (.dramHot sc) s fun t =>
      t.bit rMemStat 25 = true ∧ t.mem.hot.getLsbD sc = true ∧
      t.fld (rMemScStat sc) 16 3 = (Config.dramTemp s.mem.free).toNat ∧ t.mem.free = s.mem.free + 1 ∧
      (s.speaks 0x023 1 = true → t.hears 0x023 1 = true)) ∧
  (∀ (s : State) (sc : Fin 16),
    Answers (.dramHotClear sc) s fun t =>
      t.mem.hot.getLsbD sc = false ∧ t.bit rMemStat 25 = (t.mem.hot != 0) ∧
      t.mem.hot = s.mem.hot &&& ~~~ BitVec.ofNat 16 (2 ^ sc.val))

/-- From R443 and R458: what the end of an NVMe command posts and counts. -/
def Obligations.NvmeCompletion : Prop :=
  (∀ (s : State) (q : Nat) (cid : BitVec 16) (status : Nat) (dnr : Bool) (dw0 : Word) (n : NCmd) (v : Sq) (c : Cq),
    s.ncmd q cid = some n → s.sq q = some v → s.cq v.cq = some c →
    (s.complete q cid status dnr dw0).hst.cpl = s.hst.cpl ++ [⟨q, cid, v.head, status, dnr, dw0, c.phase⟩] ∧
    (s.complete q cid status dnr dw0).hst.cmds = s.hst.cmds.filter (fun d => !(d.q == q && d.cid == cid)) ∧
    (s.complete q cid status dnr dw0).cq v.cq = some { c with
      tail := if c.size ≤ c.tail + 1 then 0 else c.tail + 1, phase := if c.size ≤ c.tail + 1 then !c.phase else c.phase } ∧
    (s.complete q cid status dnr dw0).sq q = some v) ∧
  (∀ (s : State) (q : Nat) (cid : BitVec 16) (status : Nat) (dnr : Bool) (dw0 : Word) (n : NCmd) (v : Sq) (c : Cq),
    s.ncmd q cid = some n → s.sq q = some v → s.cq v.cq = some c → c.ien = true → s.mxMasked c.vec = false →
    (s.complete q cid status dnr dw0).aud.msix = s.aud.msix ++ [c.vec]) ∧
  (∀ (s : State) (q : Nat) (cid : BitVec 16) (detail : Nat) (n : NCmd) (v : Sq) (c : Cq),
    s.ncmd q cid = some n → s.sq q = some v → s.cq v.cq = some c → detail < 2 ^ 16 → q < 2 ^ 16 →
    let t := s.finish q cid stSequence detail
    t.hst.cpl = s.hst.cpl ++ [⟨q, cid, v.head, stSequence, true, BitVec.ofNat 32 detail, c.phase⟩] ∧
    t.fld rHstCseLast 0 16 = q ∧ t.fld rHstCseLast 16 16 = detail ∧ t.rd rHstCse = satAdd (s.rd rHstCse) 1 ∧
    (s.speaks 0x0E7 2 = true → t.hears 0x0E7 2 = true)) ∧
  (∀ (s : State) (q : Nat) (cid : BitVec 16) (n : NCmd) (v : Sq) (c : Cq),
    s.ncmd q cid = some n → s.sq q = some v → s.cq v.cq = some c →
    let t := s.finish q cid stUnrecovered 0
    t.hst.cpl = s.hst.cpl ++ [⟨q, cid, v.head, stUnrecovered, true, 0#32, c.phase⟩] ∧ t.rd rHstUre = satAdd (s.rd rHstUre) 1 ∧
    (s.speaks 0x0E8 2 = true → t.hears 0x0E8 2 = true)) ∧
  (∀ (s : State) (q : Nat) (cid : BitVec 16) (n : NCmd) (v : Sq) (c : Cq),
    s.ncmd q cid = some n → s.sq q = some v → s.cq v.cq = some c →
    let t := s.finish q cid stNotReady 0
    t.hst.cpl = s.hst.cpl ++ [⟨q, cid, v.head, stNotReady, false, 0#32, c.phase⟩] ∧
    t.rd rHstNotReady = satAdd (s.rd rHstNotReady) 1)

/-- From R131, R444, R447 to R449, R451 to R453 and R455 to R457: what doorbells, the Teller and the NVM commands do. -/
def Obligations.NvmeTeller : Prop :=
  (∀ (s : State) (q : Fin 65) (v : Word) (x : Sq), s.sq q = some x → v.toNat % 65536 < x.size → q.val ≠ 0 →
    AnswersVia State.wake (.doorbellWrite (0x1000 + 8 * q) v) s fun t =>
      t.sq q = some { x with tail := v.toNat % 65536 } ∧ t.regs = s.regs) ∧
  (∀ (s : State) (v : Word) (x : Sq), s.sq 0 = some x → v.toNat % 65536 < x.size →
    Answers (.doorbellWrite 0x1000 v) s fun t => t.sq 0 = some { x with tail := v.toNat % 65536 } ∧ t.regs = s.regs) ∧
  (∀ (s : State) (q : Fin 65) (v : Word) (x : Cq), s.cq q = some x → v.toNat % 65536 < x.size →
    Answers (.doorbellWrite (0x1004 + 8 * q) v) s fun t =>
      t.cq q = some { x with head := v.toNat % 65536 } ∧ t.regs = s.regs ∧ t.hst.sqs = s.hst.sqs) ∧
  (∀ (s : State) (off : Nat) (v : Word), off < 0x1000 ∨ off % 4 ≠ 0 ∨ 0x1208 ≤ off →
    Answers (.doorbellWrite off v) s fun t => t = s) ∧
  (∀ (s : State) (q : Fin 65) (v : Word), s.sq q = none →
    Answers (.doorbellWrite (0x1000 + 8 * q) v) s fun t => t = s) ∧
  (∀ (s : State) (q : Fin 65) (k : Nat) (cr : List Nat) (x : Sq) (sqe data : List Byte), s.turn = some (q.val, k, cr) →
    s.sq q = some x → s.fetches = true → 0 < (x.tail + x.size - x.head) % max 1 x.size → sqe.length = 64 →
    badOpcode q (leAt sqe 0 1) = false → q.val ≠ 0 →
    AnswersVia State.refuseIo (.commandFetch q [(sqe, data)]) s fun t =>
      t.hst.cmds = s.hst.cmds ++ [⟨q, BitVec.ofNat 16 (leAt sqe 2 2), sqe, data, 0, false, [], none⟩] ∧
      t.sq q = some { x with head := (x.head + 1) % max 1 x.size } ∧ t.hst.credit = cr ∧
      t.rd rHstCommands = satAdd (s.rd rHstCommands) 1) ∧
  (∀ (s : State) (q : Fin 65) (l : List (List Byte × List Byte)) (t k : Nat) (cr : List Nat), s.turn = some (t, k, cr) →
    t ≠ q.val → Answers (.commandFetch q l) s fun u => u = s) ∧
  (∀ (s : State) (q : Nat) (sqe data : List Byte), sqe.length = 64 → badOpcode q (leAt sqe 0 1) = true →
    q = 0 ∨ s.pwr.loss < 3 →
    ∃ t : State, t.hst.cmds = s.hst.cmds ++ [⟨q, BitVec.ofNat 16 (leAt sqe 2 2), sqe, data, 0, false, [], none⟩] ∧
      s.takeCmd q sqe data = t.complete q (BitVec.ofNat 16 (leAt sqe 2 2)) stOpcode true 0#32) ∧
  (∀ (s : State) (q : Fin 65) (cid : BitVec 16) (c : NCmd), s.ncmd q cid = some c → c.st = 0 → q.val ≠ 0 →
    c.op = 1 ∨ c.op = 2 → s.pwr.loss < 3 → s.fld rHstTeller 28 4 = 1 ∨ s.fld rHstTeller 28 4 = 3 →
    s.hst.cmds.countP (fun d => d.st == 1) < 8 →
    s.overlapped c = false → s.fld rHstPwr 0 3 < 3 → s.hostUp = true →
    Answers (.dataTransferStart q cid) s fun t =>
      t.ncmd q cid = some { c with st := 1, early := true } ∧ t.mem = s.mem) ∧
  (∀ (s : State) (q : Fin 65) (cid : BitVec 16) (c : NCmd), s.ncmd q cid = some c → c.st = 0 → q.val ≠ 0 →
    c.op = 1 ∨ c.op = 2 → 3 ≤ s.pwr.loss →
    Answers (.dataTransferStart q cid) s fun t => t = s.finish q cid stNotReady 0) ∧
  (∀ (s : State) (q : Fin 65) (cid : BitVec 16) (c : NCmd), s.ncmd q cid = some c → s.pwr.loss < 3 →
    ¬(s.fld rHstTeller 28 4 = 1 ∨ s.fld rHstTeller 28 4 = 3) ∨ 8 ≤ s.hst.cmds.countP (fun d => d.st == 1) ∨ s.overlapped c = true →
    Answers (.dataTransferStart q cid) s fun t => t = s) ∧
  (∀ (s : State) (q : Fin 65) (cid : BitVec 16) (c : NCmd), s.ncmd q cid = some c → c.st = 1 → c.op = 2 → c.res = none →
    s.rangeErr c ≠ stOk → s.memState ≠ 2 ∨ s.bulkWaits 2 = false →
    Answers (.nvmRead q cid) s fun t => t = s.finish c.q c.cid (s.rangeErr c) 0) ∧
  (∀ (s : State) (q : Fin 65) (cid : BitVec 16) (c : NCmd) (a : Nat), s.ncmd q cid = some c → c.st = 1 →
    c.op = 2 → c.res = none → s.rangeErr c = stOk → c.nlb = 1 → c.ns ≠ 4 → s.nsAddr c.ns c.slba = some a →
    s.memState ≠ 2 ∨ s.bulkWaits 2 = false →
    Answers (.nvmRead q cid) s fun t => match s.memReadAs c.early a 4096 with
      | (u, .ok, d) => d ≠ [] → t = ((u.spend 2 (s.moved a 4096)).toHost c.q c.cid d).completeOk c.q c.cid
      | (u, .poison, _) => t = ((u.spend 2 (s.moved a 4096)).toHost c.q c.cid (List.replicate 4096 0#8)).finish c.q c.cid stUnrecovered 0
      | (u, .range, d) => d ≠ [] → t = ((u.spend 2 (s.moved a 4096)).toHost c.q c.cid d).completeOk c.q c.cid
      | (u, .fenced, _) => t = ((u.spend 2 (s.moved a 4096)).toHost c.q c.cid (List.replicate 4096 0#8)).finish c.q c.cid stUnrecovered 0
      | (u, .notReady, _) => t = (u.spend 2 (s.moved a 4096)).finish c.q c.cid stNotReady 0) ∧
  (∀ (s : State) (q : Fin 65) (cid : BitVec 16) (c : NCmd), s.ncmd q cid = some c → c.st = 1 →
    c.op = 2 → c.res = none → s.rangeErr c = stOk → c.nlb = 1 → c.ns ≠ 4 → s.nsAddr c.ns c.slba = none →
    s.memState ≠ 2 ∨ s.bulkWaits 2 = false →
    Answers (.nvmRead q cid) s fun t => t = (s.toHost c.q c.cid (List.replicate 4096 0#8)).completeOk c.q c.cid) ∧
  (∀ (s : State) (q : Fin 65) (cid : BitVec 16), s.memState = 2 → s.bulkWaits 2 = true →
    Answers (.nvmRead q cid) s fun t => t = s) ∧
  (∀ (s : State) (q : Fin 65) (cid : BitVec 16) (c : NCmd), s.ncmd q cid = some c → c.st = 1 → c.op = 1 → c.res = none →
    s.rangeErr c = stOk → c.ns = 2 ∨ c.ns = 3 →
    Answers (.nvmWrite q cid) s fun t => t = s.finish c.q c.cid stReadOnly 0) ∧
  (∀ (s : State) (q : Fin 65) (cid : BitVec 16) (c : NCmd), s.ncmd q cid = some c → c.st = 1 → c.op = 1 → c.res = none →
    s.rangeErr c = stOk → c.nlb = 1 → c.ns = 4 → s.tabErr (tabWin c.slba) ≠ 0 →
    Answers (.nvmWrite q cid) s fun t => t = s.finish c.q c.cid stSequence (s.tabErr (tabWin c.slba))) ∧
  (∀ (s : State) (q : Fin 65) (cid : BitVec 16) (c : NCmd), s.ncmd q cid = some c → c.st = 1 → c.op = 1 → c.res = none →
    s.rangeErr c = stOk → c.nlb = 1 → c.ns = 4 → s.tabErr (tabWin c.slba) = 0 → s.tabUp (tabWin c.slba) = true →
    c.data.length = 4096 →
    Answers (.nvmWrite q cid) s fun t => t = (s.writeTab (tabWin c.slba) c.data).completeOk c.q c.cid) ∧
  (∀ (s u : State) (q : Fin 65) (cid : BitVec 16) (c : NCmd) (a : Nat), s.ncmd q cid = some c → c.st = 1 → c.op = 1 →
    c.res = none → s.rangeErr c = stOk → c.nlb = 1 → c.ns = 1 ∨ c.ns = 5 → s.partAt (c.slba * 4096) = none →
    s.nsAddr c.ns c.slba = some a → c.data.length = 4096 → s.burstStat c.early (c.slba * 4096) = .ok →
    u = s.request 2 true (c.slba * 4096) 4096 c.data true c.early →
    AnswersVia State.finishWrites (.nvmWrite q cid) s fun t =>
      t = u.modNcmd c.q c.cid (fun d => { d with st := 2, early := false, locks := [u.mem.lockN] })) ∧
  (∀ (s : State) (q : Fin 65) (cid : BitVec 16) (c : NCmd), s.ncmd q cid = some c → c.op = 0 → q.val ≠ 0 → c.st = 0 →
    s.fld rHstTeller 28 4 = 1 ∨ s.fld rHstTeller 28 4 = 3 → s.pwr.loss < 3 → c.ns = 0xFFFFFFFF ∨ s.nsActive c.ns = true →
    (∀ d ∈ s.hst.cmds, d.q = q.val → d.op ≠ 1) →
    Answers (.nvmFlush q cid) s fun t => t = s.completeOk q cid) ∧
  (∀ (s : State) (q : Fin 65) (cid : BitVec 16) (c d : NCmd) (l : List NCmd), s.hst.cmds = d :: l → d.q = q.val → d.op = 1 →
    d.cid ≠ cid → s.ncmd q cid = some c → s.pwr.loss < 3 → s.nsActive c.ns = true →
    Answers (.nvmFlush q cid) s fun t => t = s)

/-- From R91, R92, R104 and R459: what firmware download and the Firmware Commits do. -/
def Obligations.NvmeFirmware : Prop :=
  (∀ (s : State) (cid : BitVec 16) (c : NCmd), s.adminIs cid 0x11 c → s.flashUsed = false → c.dw 11 ≠ 0 →
    (∀ d, s.hst.cmds.find? (fun d => d.q == 0 && d.op == 0x11 && d.st == 0) = some d → d.cid = c.cid) →
    c.dw 11 * 4 + (c.dw 10 + 1) * 4 ≤ slotSize → (c.dw 10 + 1) * 4 ≤ 2 ^ 20 →
    (∀ p ∈ s.hst.dl, p.1 + p.2 ≤ c.dw 11 * 4 ∨ c.dw 11 * 4 + (c.dw 10 + 1) * 4 ≤ p.1) →
    AnswersVia (fun t => t.completeOk 0 cid) (.firmwareImageDownload cid) s fun t =>
      t.flash = putBytes s.flash (slotBase s.inactive + c.dw 11 * 4) (c.bring ((c.dw 10 + 1) * 4)) ∧
      t.hst.dl = s.hst.dl ++ [(c.dw 11 * 4, (c.dw 10 + 1) * 4)] ∧
      (if s.inactive = 0 then t.hst.fr0 = [] else t.hst.fr1 = []) ∧ t.regs = s.regs) ∧
  (∀ (s : State) (cid : BitVec 16) (c : NCmd), s.adminIs cid 0x11 c → s.flashUsed = false → c.dw 11 = 0 →
    (∀ d, s.hst.cmds.find? (fun d => d.q == 0 && d.op == 0x11 && d.st == 0) = some d → d.cid = c.cid) →
    (c.dw 10 + 1) * 4 ≤ 2 ^ 20 →
    AnswersVia (fun t => t.completeOk 0 cid) (.firmwareImageDownload cid) s fun t =>
      t.flash = putBytes (s.eraseSlot s.inactive).flash (slotBase s.inactive) (c.bring ((c.dw 10 + 1) * 4)) ∧
      t.hst.dl = [(0, (c.dw 10 + 1) * 4)]) ∧
  (∀ (s : State) (cid : BitVec 16) (c : NCmd), s.adminIs cid 0x11 c → s.flashUsed = true →
    Answers (.firmwareImageDownload cid) s fun t => t = s) ∧
  (∀ (s : State) (cid : BitVec 16) (c : NCmd), s.adminIs cid 0x11 c → s.flashUsed = false →
    slotSize < c.dw 11 * 4 + (c.dw 10 + 1) * 4 →
    (∀ d, s.hst.cmds.find? (fun d => d.q == 0 && d.op == 0x11 && d.st == 0) = some d → d.cid = c.cid) →
    Answers (.firmwareImageDownload cid) s fun t => t = s.finish 0 c.cid stField 0) ∧
  (∀ (s : State) (cid : BitVec 16) (c d : NCmd), s.adminIs cid 0x11 c → d.cid ≠ c.cid →
    s.hst.cmds.find? (fun d => d.q == 0 && d.op == 0x11 && d.st == 0) = some d →
    Answers (.firmwareImageDownload cid) s fun t => t = s) ∧
  (∀ (s : State) (cid : BitVec 16) (c : NCmd), s.adminIs cid 0x10 c → c.ca = 0 → c.fs = 0 → s.vltState ≠ 6 →
    s.vltBusy = false →
    Answers (.commitVerify cid) s fun t =>
      t.vltState = 2 ∧ t.loading = true ∧ t.vlt = { s.vlt with verify := 1, verifyCid := some c.cid } ∧
      t.ncmd 0 cid = some { c with st := 3 } ∧ t.flash = s.flash) ∧
  (∀ (s : State) (cid : BitVec 16) (c : NCmd), s.adminIs cid 0x10 c → c.ca = 1 → c.fs = 0 → s.vltState ≠ 6 →
    s.vltBusy = false →
    Answers (.commitVerifySelect cid) s fun t =>
      t.vltState = 2 ∧ t.loading = true ∧ t.vlt = { s.vlt with verify := 2, verifyCid := some c.cid } ∧
      t.ncmd 0 cid = some { c with st := 3 } ∧ t.flash = s.flash) ∧
  (∀ (s : State) (cid : BitVec 16) (c : NCmd), s.adminIs cid 0x10 c → c.ca = 2 → c.fs = s.inactive + 1 → s.vltState ≠ 6 →
    s.vltBusy = false →
    Answers (.commitSelect cid) s fun t => t = (s.selectSlot s.inactive).completeOk 0 c.cid) ∧
  (∀ (s : State) (cid : BitVec 16) (c : NCmd), s.adminIs cid 0x10 c → c.ca = 2 → c.fs = s.activeSlot + 1 → s.vltState ≠ 6 →
    Answers (.commitSelect cid) s fun t => t = s.finish 0 c.cid stFwSlot 0) ∧
  (∀ (s : State) (cid : BitVec 16) (c : NCmd), s.adminIs cid 0x10 c → c.ca = 3 → c.fs = 0 → s.vltState ≠ 6 →
    s.vltBusy = false →
    Answers (.commitActivate cid) s fun t =>
      t.vltState = 2 ∧ t.loading = true ∧ t.escrow = none ∧ t.vlt = { s.vlt with load := 2, commitCid := some cid } ∧
      t.ncmd 0 cid = some { c with st := 3 } ∧ t.flash = s.flash) ∧
  (∀ (s : State) (cid : BitVec 16) (c : NCmd), s.adminIs cid 0x10 c → c.ca = 0 → c.fs = 0 → s.vltState ≠ 6 →
    s.vltBusy = true →
    Answers (.commitVerify cid) s fun t => t = s.seqError 0 c.cid 5) ∧
  (∀ (s : State) (cid : BitVec 16) (c : NCmd), s.adminIs cid 0x10 c → c.ca = 3 → c.fs = 0 → s.vltState ≠ 6 →
    s.vltBusy = true → s.loading = true → s.vlt.commitCid = none →
    Answers (.commitActivate cid) s fun t => t = (s.loadError (errDev 0x31 0)).seqError 0 c.cid 5) ∧
  (∀ s : State, s.vlt.verify = 0 → ∀ b, Answers (.firmwareVerifyComplete b) s fun t => t = s) ∧
  (∀ s : State, s.vlt.verify ≠ 0 →
    AnswersVia (fun t => t.endVerify stFwImage (errDev eFlash 0).toNat) (.firmwareVerifyComplete false) s fun t =>
      t.fld rDevVltStat 16 8 = 3 ∧ t.vlt = s.vlt ∧ t.flash = s.flash) ∧
  (∀ s : State, s.vlt.verify ≠ 0 →
    Answers (.firmwareVerifyComplete true) s fun t => match s.verifySlot with
      | (u, .ok p) => t = ((if s.vlt.verify = 2 then ((u.setFr s.inactive (frString p)).setRes resOk).selectSlot s.inactive
          else (u.setFr s.inactive (frString p)).setRes resOk)).endVerify stOk 0
      | (u, .error e) => t = ((u.loadFailed e).setFr s.inactive []).endVerify stFwImage e.toNat) ∧
  (∀ (s : State) (st d : Nat), s.vlt.verifyCid = none →
    (s.endVerify st d).vlt = { s.vlt with verify := 0 } ∧ (s.endVerify st d).loading = false ∧
    (s.endVerify st d).vltState = if s.vltState = 6 then 6 else if s.vlt.testing then 0 else if s.escrow.isSome then 3 else 1)

/-- From R443, R446, R447, R460, R461, R464 and R467: what the other admin commands do. -/
def Obligations.NvmeAdmin : Prop :=
  (∀ (s : State) (cid : BitVec 16) (c : NCmd), s.adminIs cid 0xC1 c → c.data.length = 128 →
    AnswersVia (fun t => t.completeOk 0 cid) (.officerAuth cid) s fun t =>
      t = s.setVlt { s.vlt with auth := some c.data }) ∧
  (∀ (s : State) (cid : BitVec 16) (c : NCmd), s.adminIs cid 0xC2 c → s.otp.revoked.getLsbD (c.dw 10 % 4) = true →
    Answers (.readKey cid) s fun t => t = s.answer cid (List.replicate 96 0#8)) ∧
  (∀ (s : State) (cid : BitVec 16) (c : NCmd), s.adminIs cid 0xC2 c →
    Answers (.readKey cid) s fun t =>
      t = s.answer cid (if s.vkOk (c.dw 10 % 4) then s.vkBytes (c.dw 10 % 4) else List.replicate 96 0#8)) ∧
  (∀ (s : State) (cid : BitVec 16) (c : NCmd), s.adminIs cid 0xC6 c → c.dw 10 ≤ 4096 →
    AnswersVia (fun t => t.completeOk 0 cid) (.readAkCert cid) s fun t => ∃ d, t = s.toHost 0 cid d ∧ d.length = c.dw 10) ∧
  (∀ (s : State) (cid : BitVec 16) (c : NCmd), s.adminIs cid 0xC6 c → 4096 < c.dw 10 →
    Answers (.readAkCert cid) s fun t => t = s.finish 0 cid stField 0) ∧
  (∀ (s : State) (cid : BitVec 16) (c : NCmd), s.adminIs cid 0xCE c →
    AnswersVia (fun t => t.completeOk 0 cid) (.nsMap cid) s fun t => ∃ d, t = s.toHost 0 cid d ∧ d.length = 256 ∧
      ∀ r, r < 16 → leAt d (16 * r + 1) 1 = (s.rgnEn r).toNat ∧ leAt d (16 * r + 4) 4 = s.rgnAddr r / 2 ^ 20 % 2 ^ 32 ∧
        leAt d (16 * r + 8) 4 = s.rgnSize r % 2 ^ 32) ∧
  (∀ (s : State) (cid : BitVec 16) (c : NCmd), s.adminIs cid 0x09 c → c.dw 10 % 256 = 1 →
    AnswersVia (fun t => t.completeOk 0 cid) (.setArbitration cid) s fun t =>
      t = s.setHst { s.hst with arb := BitVec.ofNat 32 (c.dw 11) }) ∧
  (∀ (s : State) (cid : BitVec 16) (c : NCmd), s.adminIs cid 0x09 c → c.dw 10 % 256 = 7 →
    Answers (.setNumberOfQueues cid) s fun t => t = s.complete 0 cid stOk false 0x003F003F#32) ∧
  (∀ (s : State) (cid : BitVec 16) (c : NCmd), s.adminIs cid 0x09 c → c.dw 10 % 256 = 12 → c.data.length = 256 →
    AnswersVia (fun t => t.completeOk 0 cid) (.setApst cid) s fun t =>
      t = s.setHst { s.hst with apstEn := (c.dw 11).testBit 0, apst := c.data }) ∧
  (∀ (s : State) (cid : BitVec 16) (c : NCmd), s.adminIs cid 0x09 c → c.dw 10 % 256 = 11 →
    AnswersVia (fun t => t.completeOk 0 cid) (.setAsyncEventConfig cid) s fun t =>
      t = s.setHst { s.hst with aec := BitVec.ofNat 32 (c.dw 11) }) ∧
  (∀ (s : State) (cid : BitVec 16) (c : NCmd) (q : Fin 65), s.adminIs cid 0x05 c → c.dw 10 % 65536 = q → q.val ≠ 0 →
    s.cq q = none → c.dw 10 / 65536 ≠ 0 → c.dw 10 / 65536 ≤ 4095 → (c.dw 11).testBit 0 = true → c.dw 11 / 65536 < 65 →
    AnswersVia (fun t => t.completeOk 0 cid) (.createIoCompletionQueue cid) s fun t =>
      t.cq q = some ⟨c.dw 10 / 65536 + 1, c.dw 11 / 65536, (c.dw 11).testBit 1, 0, 0, true⟩ ∧ t.regs = s.regs) ∧
  (∀ (s : State) (cid : BitVec 16) (c : NCmd), s.adminIs cid 0x05 c → c.dw 10 % 65536 = 0 ∨ 64 < c.dw 10 % 65536 →
    Answers (.createIoCompletionQueue cid) s fun t => t = s.finish 0 c.cid stQueueId 0) ∧
  (∀ (s : State) (cid : BitVec 16) (c : NCmd) (q : Fin 65), s.adminIs cid 0x01 c → c.dw 10 % 65536 = q → q.val ≠ 0 →
    s.sq q = none → c.dw 11 / 65536 ≠ 0 → c.dw 11 / 65536 ≤ 64 → (s.cq (c.dw 11 / 65536)).isSome = true →
    c.dw 10 / 65536 ≠ 0 → c.dw 10 / 65536 ≤ 4095 → (c.dw 11).testBit 0 = true →
    AnswersVia (fun t => t.completeOk 0 cid) (.createIoSubmissionQueue cid) s fun t =>
      t.sq q = some ⟨c.dw 10 / 65536 + 1, c.dw 11 / 65536, c.dw 11 / 2 % 4, 0, 0⟩ ∧
      t.fld rHstTeller 16 7 = (idxs 65 (fun k => (t.sq k).isSome && k != 0)).length) ∧
  (∀ (s : State) (cid : BitVec 16) (c : NCmd), s.adminIs cid 0x01 c → c.dw 10 % 65536 = 0 ∨ 64 < c.dw 10 % 65536 →
    Answers (.createIoSubmissionQueue cid) s fun t => t = s.finish 0 c.cid stQueueId 0) ∧
  (∀ (s : State) (cid : BitVec 16) (c : NCmd), s.adminIs cid 0x06 c → c.dw 10 % 256 = 1 →
    AnswersVia (fun t => t.completeOk 0 cid) (.identifyController cid) s fun t => ∃ d, t = s.toHost 0 cid d ∧ d.length = 4096 ∧
      slice d 24 40 = modelName s.variant ∧ d.getD 77 0 = 8#8 ∧ d.getD 111 0 = 1#8) ∧
  (∀ (s : State) (cid : BitVec 16) (c : NCmd), s.adminIs cid 0x06 c → c.dw 10 % 256 = 0 → 1 ≤ c.ns → c.ns ≤ 5 →
    s.nsActive c.ns = true →
    AnswersVia (fun t => t.completeOk 0 cid) (.identifyNamespace cid) s fun t => ∃ d, t = s.toHost 0 cid d ∧ d.length = 4096 ∧
      leAt d 0 8 = s.nsze c.ns % 2 ^ 64 ∧ leAt d 8 8 = s.nsze c.ns % 2 ^ 64 ∧ leAt d 16 8 = s.nuse c.ns % 2 ^ 64 ∧
      d.getD 130 0 = 12#8) ∧
  (∀ (s : State) (cid : BitVec 16) (c : NCmd), s.adminIs cid 0x06 c → c.dw 10 % 256 = 0 → c.ns = 0 ∨ 5 < c.ns →
    Answers (.identifyNamespace cid) s fun t => t = s.finish 0 cid stNamespace 0) ∧
  (∀ (s : State) (cid : BitVec 16) (c : NCmd), s.adminIs cid 0x02 c → c.dw 10 = 7 * 65536 + 0xC0 → c.dw 11 = 0 →
    c.dw 12 = 0 → c.dw 13 = 0 → 32 ≤ s.faultPage.length →
    Answers (.getLogFaultLedger cid) s fun t => t = s.answer c.cid (s.faultPage.take 32)) ∧
  (∀ (s : State) (cid : BitVec 16) (c : NCmd), s.adminIs cid 0x02 c → c.dw 10 = 7 * 65536 + 3 → c.dw 11 = 0 →
    c.dw 12 = 0 → c.dw 13 = 0 →
    Answers (.getLogFirmwareSlot cid) s fun t => t = s.answer c.cid (s.slotPage.take 32)) ∧
  (∀ (s : State) (cid : BitVec 16) (c : NCmd), s.adminIs cid 0x0C c →
    s.hst.cmds.countP (fun d => d.q == 0 && d.st == 3 && d.op == 0x0C) < 8 → s.hst.aer = [] →
    Answers (.asynchronousEventRequest cid) s fun t => t.ncmd 0 cid = some { c with st := 3 } ∧ t.hst.cpl = s.hst.cpl) ∧
  (∀ (s : State) (cid : BitVec 16) (c : NCmd) (e : Nat) (l : List Nat), s.adminIs cid 0x0C c →
    s.hst.cmds.countP (fun d => d.q == 0 && d.st == 3 && d.op == 0x0C) < 8 → s.hst.aer = e :: l →
    AnswersVia (fun t => t.complete 0 c.cid stOk false (BitVec.ofNat 32 e)) (.asynchronousEventRequest cid) s fun t =>
      t = s.setHst { s.hst with aer := l }) ∧
  (∀ (s : State) (cid : BitVec 16) (c : NCmd), s.adminIs cid 0x0C c →
    8 ≤ s.hst.cmds.countP (fun d => d.q == 0 && d.st == 3 && d.op == 0x0C) →
    Answers (.asynchronousEventRequest cid) s fun t => t = s.finish 0 c.cid stAerLimit 0)

/-- From R123, R456 and R462 to R464: what enabling, resetting and shutting down the controller do, and its power states. -/
def Obligations.NvmeController : Prop :=
  (∀ (s : State) (cc : Word), s.ctlUp = true → s.hst.cc.getLsbD 0 = false → cc.getLsbD 0 = true →
    AnswersVia State.syncRdy (.controllerEnable cc) s fun t =>
      t.hst.cc = cc ∧ t.sq 0 = some ⟨fget s.hst.aqa 0 12 + 1, 0, 0, 0, 0⟩ ∧
      t.cq 0 = some ⟨fget s.hst.aqa 16 12 + 1, 0, true, 0, 0, true⟩ ∧ t.regs = s.regs) ∧
  (∀ (s : State) (cc : Word), s.hst.cc.getLsbD 0 = true ∨ cc.getLsbD 0 = false ∨ s.ctlUp = false →
    Answers (.controllerEnable cc) s fun t => t = s) ∧
  (∀ s : State, s.hst.cc.getLsbD 0 = true → s.ctlRdy = false → s.ctlCfs = false → s.released = true →
    s.syncRdy.ctlRdy = true ∧ s.syncRdy.fld rHstTeller 28 4 = 1) ∧
  (∀ s : State, s.ctlUp = true → s.hst.cc.getLsbD 0 = true →
    Answers .controllerReset s fun t =>
      t.hst.cc.getLsbD 0 = false ∧ t.ctlRdy = false ∧ t.shst = 0 ∧ t.hst.cmds = [] ∧ t.hst.sqs = [] ∧ t.hst.cqs = [] ∧
      t.rd rHstAborted = satAdd (s.rd rHstAborted) s.hst.cmds.length ∧
      (s.speaks 0x0E5 2 = true → t.hears 0x0E5 2 = true)) ∧
  (∀ s : State, s.hst.cc.getLsbD 0 = false → Answers .controllerReset s fun t => t = s) ∧
  (∀ (s : State) (n : BitVec 2), s.ctlUp = true → s.ctlRdy = true → s.ctlCfs = false → n = 1#2 ∨ n = 2#2 → s.shst = 0 →
    Answers (.shutdownNotification n) s fun t =>
      t.shst = 1 ∧ t.fetches = false ∧ t.fld rHstTeller 28 4 = 3 ∧ t.hst.cmds = s.hst.cmds) ∧
  (∀ (s : State) (n : BitVec 2), n = 0#2 ∨ n = 3#2 → Answers (.shutdownNotification n) s fun t => t = s) ∧
  (∀ s : State, s.shst = 1 → s.inProgress = [] →
    Answers .shutdownComplete s fun t => t.shst = 2 ∧ t.regs = s.regs ∧ t.hst.cmds = s.hst.cmds) ∧
  (∀ s : State, s.shst ≠ 1 ∨ s.inProgress ≠ [] → Answers .shutdownComplete s fun t => t = s) ∧
  (∀ (s : State) (cid : BitVec 16) (c : NCmd), s.adminIs cid 0x09 c → c.dw 10 % 256 = 2 → 4 < c.dw 11 % 32 →
    Answers (.setPowerState cid) s fun t => t = s.finish 0 c.cid stField 0) ∧
  (∀ (s : State) (cid : BitVec 16) (c : NCmd), s.adminIs cid 0x09 c → c.dw 10 % 256 = 2 → 2 ≤ c.dw 11 % 32 →
    c.dw 11 % 32 ≤ 4 → s.capture = true →
    Answers (.setPowerState cid) s fun t => t = s.seqError 0 c.cid 6) ∧
  (∀ (s : State) (cid : BitVec 16) (c : NCmd), s.adminIs cid 0x09 c → c.dw 10 % 256 = 2 → c.dw 11 % 32 = 4 →
    s.capture = false → s.segHeld = true →
    Answers (.setPowerState cid) s fun t => t = s.seqError 0 c.cid 7) ∧
  (∀ (s : State) (cid : BitVec 16) (c : NCmd), s.adminIs cid 0x09 c → c.dw 10 % 256 = 2 → c.dw 11 % 32 = 3 →
    s.capture = false → s.memState = 2 → s.fld rHstPwr 0 3 ≤ 2 →
    Answers (.setPowerState cid) s fun t => t.fld rHstPwr 4 3 = 3 ∧ t.memState = 3 ∧ t.hst.auto = false ∧
      t.hst.cmds = (s.completeOk 0 c.cid).hst.cmds) ∧
  (∀ s : State, s.hst.apstEn = true → s.inProgress = [] → s.capture = false → s.fld rHstPwr 4 3 = s.fld rHstPwr 0 3 →
    s.fld rHstPwr 0 3 < 3 → s.apstEntry (s.fld rHstPwr 0 3) = (3, 100) →
    Answers .apstTransition s fun t =>
      t.fld rHstPwr 4 3 = 3 ∧ t.hst = { s.hst with auto := true } ∧ (s.memState = 2 → t.memState = 3)) ∧
  (∀ s : State, s.hst.apstEn = false ∨ s.inProgress ≠ [] ∨ s.capture = true →
    Answers .apstTransition s fun t => t = s) ∧
  (∀ s : State, s.fld rHstPwr 4 3 = s.fld rHstPwr 0 3 → Answers .psChange s fun t => t = s) ∧
  (∀ s : State, s.fld rHstPwr 4 3 = 3 → s.memState ≠ 4 → Answers .psChange s fun t => t = s) ∧
  (∀ s : State, s.fld rHstPwr 4 3 = 1 → s.fld rHstPwr 0 3 = 0 →
    AnswersVia (fun t => let u := (((t.syncV12All).stepEval).raise 0x0E9 2).follow
        if (idxs 65 u.waiting).any (· != 0) || u.hst.cmds.any (·.q != 0) then u.wake else u) .psChange s fun t =>
      t.fld rHstPwr 0 3 = 1 ∧ t.bit rHstPwr 8 = false ∧ t.hst.opPs = 1 ∧ t.fld rDevClk 6 2 = 3 ∧
      t.pwr.stepOwn = s.fld rDevClk 6 2)

/-- From R470, R472 to R474, R476 and R477: what the Mint, its servo and PPS do. -/
def Obligations.MintAndPps : Prop :=
  (∀ (s u : State), s.reaches 13 = true → s.unitLive 13 1 = true →
    u = ((s.commit rMintSetSecLo).commit rMintSetSecHi).commit rMintSetNs → u.fld rMintSetNs 0 30 < 1000000000 →
    Answers .mintSet s fun t =>
      t.mint = ⟨(u.rd rMintSetSecLo).toNat + u.fld rMintSetSecHi 0 16 * 2 ^ 32, u.fld rMintSetNs 0 30, 0⟩ ∧
      t.servo = 1 ∧ t.px = s.px ∧ t.now = s.now) ∧
  (∀ (s u : State), s.reaches 13 = true → s.unitLive 13 1 = true →
    u = ((s.commit rMintSetSecLo).commit rMintSetSecHi).commit rMintSetNs → 1000000000 ≤ u.fld rMintSetNs 0 30 →
    Answers .mintSet s fun t => t = u.violation rMintCmd) ∧
  (∀ (s u : State) (d : Int), s.reaches 13 = true → s.unitLive 13 1 = true →
    u = (s.commit rMintStepNs).commit rMintStepFrac →
    d = (u.rd rMintStepNs).toInt * 2 ^ 44 + u.fld rMintStepFrac 0 16 * 2 ^ 28 → 0 ≤ s.mint.fine + d →
    Answers .mintStep s fun t =>
      t.mint = mintOfFine (s.mint.fine + d).toNat ∧ t.servo = 1 ∧ t.px = s.px ∧ t.now = s.now) ∧
  (∀ (s u : State) (d : Int), s.reaches 13 = true → s.unitLive 13 1 = true →
    u = (s.commit rMintStepNs).commit rMintStepFrac →
    d = (u.rd rMintStepNs).toInt * 2 ^ 44 + u.fld rMintStepFrac 0 16 * 2 ^ 28 → s.mint.fine + d < 0 →
    Answers .mintStep s fun t => t = u.violation rMintCmd) ∧
  (∀ s : State, s.reaches 13 = true → s.unitLive 13 1 = true →
    Answers .mintRate s fun t =>
      t.rd rMintRate = (s.commit rMintRate).rd rMintRate ∧ t.servo = 1 ∧ t.mint = s.mint ∧ t.sch = s.sch) ∧
  (∀ s : State, s.reaches 13 = false ∨ s.unitLive 13 1 = false →
    Answers .mintSet s (fun t => t = s) ∧ Answers .mintStep s (fun t => t = s) ∧ Answers .mintRate s (fun t => t = s)) ∧
  (∀ (s : State) (m : Mint), m.fine ≤ s.mint.fine → ∃ t : State, s.mintJump m = t.expectIdle ∧ t.mint = m ∧
    t.rd rMintSteps = satAdd (s.rd rMintSteps) 1 ∧ (s.speaks 0x0F0 1 = true → t.hears 0x0F0 1 = true)) ∧
  (∀ (s : State) (m : Mint) (rate : Int), m.sec < 2 ^ 48 - 1 → m.ns < 1000000000 → m.fr < 2 ^ 44 → 0 ≤ rate → rate < 2 ^ 44 →
    (s.rd rMintRate).toInt = rate → s.mint = m → s.pwr.phase = .released → s.mintUp = true →
    (s.tick.mint.fine : Int) = m.fine + 2 ^ 44 + rate) ∧
  (∀ s : State, s.servo = 1 → s.unitLive 13 1 = true →
    Answers .holdover s fun t =>
      t.servo = 2 ∧ t.mint = s.mint ∧ (s.speaks 0x0F1 1 = true → t.hears 0x0F1 1 = true)) ∧
  (∀ s : State, s.servo ≠ 1 → Answers .holdover s fun t => t = s) ∧
  (∀ (s : State) (stamp : Nat), s.unitLive 13 1 = true → s.serving = true → s.net.ppsIn = none →
    Answers (.ppsInEdge stamp) s fun t =>
      t.net.ppsIn = some (mintOfTu stamp) ∧ t.rd rMintPpsinNs = BitVec.ofNat 32 (mintOfTu stamp).ns ∧
      t.rd rMintPpsEarly = s.rd rMintPpsEarly ∧ (s.speaks 0x0F2 1 = true → t.hears 0x0F2 1 = true)) ∧
  (∀ (s : State) (stamp : Nat) (m : Mint), s.unitLive 13 1 = true → s.serving = true → s.net.ppsIn = some m →
    m.tu ≤ stamp → stamp < m.tu + 900000000 * tuPerNs →
    Answers (.ppsInEdge stamp) s fun t =>
      t.net = s.net ∧ t.rd rMintPpsEarly = satAdd (s.rd rMintPpsEarly) 1 ∧
      (s.speaks 0x0F3 1 = true → t.hears 0x0F3 1 = true)) ∧
  (∀ (s : State) (stamp : Nat), s.unitLive 13 1 = false ∨ s.serving = false → Answers (.ppsInEdge stamp) s fun t => t = s) ∧
  (∀ s : State, s.net.ppsIn.isSome = true → s.net.ppsGone = false → s.unitLive 13 1 = true →
    Answers .ppsMissing s fun t =>
      t.net.ppsGone = true ∧ t.rd rMintPpsMissing = satAdd (s.rd rMintPpsMissing) 1 ∧
      (s.speaks 0x0F3 1 = true → t.hears 0x0F3 1 = true)) ∧
  (∀ s : State, s.net.ppsGone = true ∨ s.net.ppsIn = none → Answers .ppsMissing s fun t => t = s) ∧
  (∀ (s : State) (n : Nat), s.ppsDue = some n → s.ppsOn = true → s.net.ppsOut = false →
    Answers .ppsOutPulse s fun t => t = s.setNet { s.net with ppsOut := true, ppsSec := n + 1 }) ∧
  (∀ s : State, s.ppsDue = none ∨ s.ppsOn = false ∨ s.net.ppsOut = true → Answers .ppsOutPulse s fun t => t = s) ∧
  (∀ s : State, Answers .ppsOutEnd s fun t => t = s.setNet { s.net with ppsOut := false })

/-- From R68, R479 to R484 and R487: what the Ethernet ports do. -/
def Obligations.Ethernet : Prop :=
  (∀ (s : State) (m : Fin 2) (a b c d e : Bool),
    AnswersVia (fun t => t.syncUp m) (.ethernetLinkChange m a b c d e) s fun t =>
      (t.nport m).blk = a ∧ (t.nport m).fecLock = b ∧ t.bit (rNetPortStat m) 3 = c ∧ t.bit (rNetPortStat m) 4 = d ∧
      t.bit (rNetPortStat m) 0 = e) ∧
  (∀ (s : State) (m : Fin 2) (a b c : Bool),
    AnswersVia (fun t => t.syncUp m) (.cageChange m a b c) s fun t =>
      t.bit (rNetPortStat m) 2 = a ∧ t.bit (rNetPortStat m) 1 = b ∧ t.bit (rNetPortStat m) 0 = c ∧
      (s.bit (rNetPortStat m) 2 ≠ a → s.speaks (0x0F9 + 6 * m) (2 + m) = true →
        t.hears (0x0F9 + 6 * m) (2 + m) = true)) ∧
  (∀ (s : State) (m : Fin 2), s.bit (rNetPortCfg m) 31 = true → s.unitLive 13 (2 + m) = true →
    s.fld (rNetPortStat m) 0 5 = 0 → (s.nport m).blk = true → (s.nport m).fecLock = true →
    s.bit (rNetPortStat m) 31 = false →
    (s.syncUp m).netUp m = true ∧
    (s.speaks (0x0F4 + 6 * m) (2 + m) = true → (s.syncUp m).hears (0x0F4 + 6 * m) (2 + m) = true)) ∧
  (∀ (s : State) (m : Fin 2), s.fld (rNetPortStat m) 0 5 ≠ 0 ∨ (s.nport m).blk = false → (s.syncUp m).netUp m = false) ∧
  (∀ (s : State) (m : Fin 2) (f desc : List Byte) (st : Nat), s.netUp m = false ∨ s.serving = false →
    Answers (.ethernetFrameReceive m f st desc) s fun t => t = s) ∧
  (∀ (s : State) (m : Fin 2) (f desc : List Byte) (st : Nat), s.netUp m = true → s.serving = true → f.length < 64 ∨ 9600 < f.length →
    Answers (.ethernetFrameReceive m f st desc) s fun t => t = s.count (rNetRxLength m)) ∧
  (∀ (s : State) (m : Fin 2) (f desc : List Byte) (st : Nat), s.netUp m = true → s.serving = true → 64 ≤ f.length → f.length ≤ 9600 →
    crc32 (f.take (f.length - 4)) ≠ leNat (f.drop (f.length - 4)) →
    Answers (.ethernetFrameReceive m f st desc) s fun t => t = s.count (rNetRxFcs m)) ∧
  (∀ (s : State) (m : Fin 2) (f desc : List Byte) (st : Nat), s.netUp m = true → s.serving = true → 64 ≤ f.length → f.length ≤ 9600 →
    crc32 (f.take (f.length - 4)) = leNat (f.drop (f.length - 4)) → beNat (slice f 12 2) = 0x8808 →
    Answers (.ethernetFrameReceive m f st desc) s fun t => t = s.count (rNetRxCtrl m)) ∧
  (∀ (s : State) (m : Fin 2) (f desc : List Byte) (st : Nat), s.netUp m = true → s.serving = true → 64 ≤ f.length → f.length ≤ 9600 →
    crc32 (f.take (f.length - 4)) = leNat (f.drop (f.length - 4)) → beNat (slice f 12 2) ≠ 0x8808 → s.macPass m f = true →
    s.ringReady m (if isPtp f then 3 else 4) = false →
    Answers (.ethernetFrameReceive m f st desc) s fun t => t = (s.count (rNetRxFrames m)).rxNoBuf m) ∧
  (∀ (s : State) (m : Fin 2) (f desc : List Byte) (st : Nat), s.netUp m = true → s.serving = true → 64 ≤ f.length → f.length ≤ 9600 →
    crc32 (f.take (f.length - 4)) = leNat (f.drop (f.length - 4)) → beNat (slice f 12 2) ≠ 0x8808 → s.macPass m f = true →
    isPtp f = true → s.ringReady m 3 = true → s.hostUp = true →
    AnswersVia (fun t => t.rxRaise m true) (.ethernetFrameReceive m f st desc) s fun t =>
      t.net.host = s.net.host ++ [(leAt desc 0 8, f.take (leAt desc 8 2)),
        (s.ringDesc m 3 + 0x10, leBytes 2 f.length ++ leBytes 1 (decide (leAt desc 8 2 < f.length)).toNat),
        (s.ringDesc m 3 + 0x18, (adjusted st (sext 16 (s.fld (rNetPortTsadj m) 0 16))).short),
        (s.ringDesc m 3 + 0x1F, [1#8])] ∧
      t.ringHead m 3 = (s.ringHead m 3 + 1) % 4096 ∧ t.rd (rNetRxFrames m) = satAdd (s.rd (rNetRxFrames m)) 1) ∧
  (∀ (s : State) (m : Fin 2) (r : Fin 5) (v : Word), s.reaches 13 = true → s.unitLive 13 (2 + m) = true →
    (fget v 0 12 + 4096 - s.ringHead m r) % 4096 < s.ringSize m r →
    Answers (.ringTailWrite m r v) s fun t =>
      t.ringTail m r = fget v 0 12 ∧ t.net = s.net ∧ ∀ a, a ≠ ringBase m r + 16 → t.rd a = s.rd a) ∧
  (∀ (s : State) (m : Fin 2) (r : Fin 5) (v : Word), s.reaches 13 = true → s.unitLive 13 (2 + m) = true →
    s.ringSize m r ≤ (fget v 0 12 + 4096 - s.ringHead m r) % 4096 →
    Answers (.ringTailWrite m r v) s fun t => t = s.violation (ringBase m r + 16)) ∧
  (∀ (s : State) (m : Fin 2) (q : Fin 3) (desc f : List Byte) (st : Nat), s.unitLive 13 (2 + m) = true →
    s.ringReady m q = true → s.hostUp = true → s.serving = true → leAt desc 8 2 < 14 ∨ 9596 < leAt desc 8 2 →
    Answers (.ethernetFrameTransmit m q desc f st) s fun t => t = s.txDone m q desc (List.replicate 6 0#8) 1) ∧
  (∀ (s : State) (m : Fin 2) (q : Fin 3) (desc f : List Byte) (st : Nat), s.unitLive 13 (2 + m) = true →
    s.ringReady m q = true → s.hostUp = true → s.serving = true → 14 ≤ leAt desc 8 2 → leAt desc 8 2 ≤ 9596 → s.netUp m = false →
    Answers (.ethernetFrameTransmit m q desc f st) s fun t =>
      t = (s.count (rNetTxLinkdown m)).txDone m q desc (List.replicate 6 0#8) 2) ∧
  (∀ (s : State) (m : Fin 2) (desc f : List Byte) (st : Nat),
    s.ringReady m 0 = true → s.hostUp = true → s.serving = true → 14 ≤ leAt desc 8 2 → leAt desc 8 2 ≤ 9596 → s.netUp m = true →
    f.length = leAt desc 8 2 → leAt desc 0x0A 2 = 0 →
    Answers (.ethernetFrameTransmit m 0 desc f st) s fun t =>
      t = (s.netSend m 0 f).txDone m 0 desc (List.replicate 6 0#8) 0) ∧
  (∀ (s : State) (m q : Nat) (f : List Byte), ((s.netSend m q f).nport m).sent = (s.nport m).sent ++ [(q, withFcs f)] ∧
    (s.netSend m q f).rd (rNetTxFrames m) = satAdd (s.rd (rNetTxFrames m)) 1) ∧
  (∀ (s : State) (m : Fin 2) (q : Fin 3) (desc stamp : List Byte) (st : Nat),
    (s.txDone m q desc stamp st).net.host = s.net.host ++ [(s.ringDesc m q + 0x18, stamp),
      (s.ringDesc m q + 0x1E, leBytes 1 st ++ [1#8])] ∧
    (s.txDone m q desc stamp st).ringHead m q = (s.ringHead m q + 1) % 4096) ∧
  (∀ (s : State) (m : Fin 2) (v : Word), s.reaches 13 = true → s.unitLive 13 (2 + m) = true →
    s.fld (rNetPortModi2c m) 28 2 ≠ 1 → v.getLsbD 31 = true →
    Answers (.moduleI2cAccess m v) s fun t =>
      t.fld (rNetPortModi2c m) 28 2 = 1 ∧ t.fld (rNetPortModi2c m) 0 23 = fget v 0 23 ∧
      t.bit (rNetPortModi2c m) 30 = v.getLsbD 30) ∧
  (∀ (s : State) (m : Fin 2) (v : Word), s.reaches 13 = true → s.unitLive 13 (2 + m) = true →
    s.fld (rNetPortModi2c m) 28 2 = 1 →
    Answers (.moduleI2cAccess m v) s fun t => t = s.violation (rNetPortModi2c m)) ∧
  (∀ (s : State) (m : Fin 2) (ack : Bool) (b : Byte), s.fld (rNetPortModi2c m) 28 2 = 1 →
    Answers (.moduleI2cDone m ack b) s fun t =>
      t.fld (rNetPortModi2c m) 28 2 = (if ack then 2 else 3) ∧
      t.fld (rNetPortModi2c m) 0 8 = if ack && s.bit (rNetPortModi2c m) 30 then b.toNat else s.fld (rNetPortModi2c m) 0 8) ∧
  (∀ (s : State) (m : Fin 2) (ack : Bool) (b : Byte), s.fld (rNetPortModi2c m) 28 2 ≠ 1 →
    Answers (.moduleI2cDone m ack b) s fun t => t = s)

/-- From R493 and R497 to R506: what the display heads do. -/
def Obligations.DisplayHeads : Prop :=
  (∀ (s : State) (d : Fin 3), s.reaches 14 = true → s.unitLive 14 (1 + d) = true → s.bit (rOutDhCfg d) 31 = true →
    s.dhState d ≠ 0 → s.dhState d ≠ 7 →
    Answers (.displayStart d) s fun t => t = s.violation (rOutDhCmd d)) ∧
  (∀ (s : State) (d : Fin 3) (e : Nat), s.reaches 14 = true → s.unitLive 14 (1 + d) = true → s.bit (rOutDhCfg d) 31 = true →
    s.dhState d = 0 ∨ s.dhState d = 7 → s.dhCheck d = e → e ≠ 0 →
    Answers (.displayStart d) s fun t => t = s.dhError d e) ∧
  (∀ s : State, s.reaches 14 = true → s.unitLive 14 1 = true → s.bit (rOutDhCfg 0) 31 = true → s.dhState 0 = 0 →
    s.dhCheck 0 = 0 →
    Answers (.displayStart 0) s fun t =>
      t.dhState 0 = 1 ∧ t.fld (rOutDhStat 0) 24 4 = 0 ∧ t.dh 0 = { DHead.init with vcc := true } ∧ t.mem = s.mem) ∧
  (∀ (s : State) (d : Fin 3), s.reaches 14 = true → s.unitLive 14 (1 + d) = true → s.bit (rOutDhCfg d) 31 = true →
    s.dhState d = 0 → s.dhCheck d = 0 → d.val ≠ 0 →
    AnswersVia (fun t => t.dhReady d) (.displayStart d) s fun t =>
      t.dhState d = 1 ∧ t.rd (rOutDhPid d) = s.sdiPid d ∧ t.dh d = DHead.init) ∧
  (∀ (s : State) (d : Fin 3), s.dhMember d = false →
    (s.dhReady d).dh d = { s.dh d with ready := true, at_ := some (s.dhPlace (s.fld (rOutDhOffset d) 0 30)) }) ∧
  (∀ (s : State) (d : Fin 3), s.reaches 14 = true → s.unitLive 14 (1 + d) = true →
    s.dhState d = 2 ∨ s.dhState d = 3 →
    Answers (.displayStop d) s fun t =>
      t.dhState d = 6 ∧ (t.dh d).bl = false ∧ (t.dh d).left = 2 ∧ (t.dh d).err = 0 ∧ t.mem = s.mem) ∧
  (∀ s : State, s.reaches 14 = true → s.unitLive 14 1 = true → s.dhState 0 = 4 ∨ s.dhState 0 = 5 →
    Answers (.displayStop 0) s fun t =>
      t.dhState 0 = 6 ∧ (t.dh 0).bl = false ∧ (t.dh 0).link = false ∧ (t.dh 0).ready = false ∧ (t.dh 0).err = 0) ∧
  (∀ (s : State) (d : Fin 3), s.dhState d = 0 ∨ 6 ≤ s.dhState d → Answers (.displayStop d) s fun t => t = s) ∧
  (∀ (s : State) (d : Fin 3), s.reaches 14 = true → s.unitLive 14 (1 + d) = true → s.dhPending d = false → s.dhState d = 0 →
    Answers (.displayCommit d) s fun t => t = s.dhApply d) ∧
  (∀ (s : State) (d : Fin 3), s.reaches 14 = true → s.unitLive 14 (1 + d) = true → s.dhPending d = false → s.dhState d = 2 →
    Answers (.displayCommit d) s fun t =>
      t.dhPending d = true ∧ t.dh d = { s.dh d with update := true } ∧ t.dhState d = 2 ∧ t.shadow = s.shadow ∧
      ∀ a, a ≠ rOutDhStat d → t.rd a = s.rd a) ∧
  (∀ (s : State) (d : Fin 3), s.unitLive 14 (1 + d) = true → s.dhState d = 6 → (s.dh d).ready = true → (s.dh d).left = 0 →
    Answers (.displayFrameStart d false) s fun t => t = s.dhVideoOff d) ∧
  (∀ (s : State) (d : Fin 3) (ack : Bool), s.dhState d = 0 ∨ s.dhState d = 7 ∨ s.unitLive 14 (1 + d) = false →
    Answers (.displayFrameStart d ack) s fun t => t = s) ∧
  (∀ (s : State) (d : Fin 3), s.unitLive 14 (1 + d) = true → s.dhState d = 1 → (s.dh d).ready = true → (s.dh d).at_ = none →
    AnswersVia (fun t => (((t.dhVideo d).count (rOutFrames d)).raise (0x100 + d) (1 + d))) (.displayFrameStart d false) s
      fun t => t.dhState d = 2 ∧ t.dh d = { s.dh d with link := true, at_ := none } ∧ t.mem = s.mem) ∧
  (∀ (s : State) (d : Fin 3), d.val ≠ 0 → s.unitLive 14 (1 + d) = true → s.dhState d = 2 →
    Answers (.displayFrameStart d false) s fun t =>
      t = ((s.dhVideo d).count (rOutFrames d)).raise (0x100 + d) (1 + d)) ∧
  (∀ s : State, s.dhState 0 = 1 → (s.dh 0).vcc = true → (s.dh 0).hpd = false →
    Answers .hpdHigh s fun t => t = s.setDh 0 { s.dh 0 with hpd := true, link := true }) ∧
  (∀ s : State, s.dhState 0 = 1 → (s.dh 0).hpd = false →
    Answers .hpdTimeout s fun t =>
      t.dhState 0 = 7 ∧ t.fld (rOutDhStat 0) 24 4 = 2 ∧ (t.dh 0).vcc = false ∧
      (s.speaks 0x107 1 = true → t.hears 0x107 1 = true) ∧ (s.speaks 0x109 1 = true → t.hears 0x109 1 = true)) ∧
  (∀ s : State, s.dhState 0 = 1 → (s.dh 0).hpd = true → (s.dh 0).ready = false →
    Answers (.edpLinkTrained true) s (fun t => t = s.dhReady 0) ∧
    Answers (.edpLinkTrained false) s (fun t => t.dhState 0 = 7 ∧ t.fld (rOutDhStat 0) 24 4 = 3 ∧ (t.dh 0).link = false)) ∧
  (∀ s : State, 2 ≤ s.dhState 0 → s.dhState 0 ≤ 5 →
    Answers .hpdLost s fun t => t.dhState 0 = 6 ∧ (t.dh 0).err = 4 ∧ (t.dh 0).hpd = false ∧ (t.dh 0).left = 2) ∧
  (∀ s : State, 2 ≤ s.dhState 0 → s.dhState 0 ≤ 5 →
    Answers (.hpdPulse true) s (fun t => t = s.setDh 0 { s.dh 0 with retrain := true }) ∧
    Answers (.hpdPulse false) s (fun t => t = s)) ∧
  (∀ s : State, s.dhState 0 = 6 → (s.dh 0).link = false → (s.dh 0).ready = false →
    Answers .panelPowerOff s fun t => t = s.setDh 0 { s.dh 0 with vcc := false }) ∧
  (∀ s : State, s.dhState 0 = 6 → (s.dh 0).vcc = false →
    Answers .headIdle s fun t =>
      (t.dh 0).vcc = false ∧ t.dhState 0 = (if (s.dh 0).err = 0 then 0 else 7) ∧
      ((s.dh 0).err = 4 → t.fld (rOutDhStat 0) 24 4 = 4)) ∧
  (∀ (s : State) (d : Fin 3) (l : Fin 4), s.fetching d l = true → (s.dh d).under = false →
    AnswersVia State.syncDisplayOd (.underrun d l) s fun t =>
      t.bit (rOutDhStat d) l = true ∧ t.rd (rOutDhLUnderrun d l) = satAdd (s.rd (rOutDhLUnderrun d l)) 1 ∧
      (t.dh d).under = true ∧ (s.speaks 0x105 (1 + d) = true → t.hears 0x105 (1 + d) = true)) ∧
  (∀ (s : State) (d : Fin 3) (l : Fin 4) (n : Nat), s.fetching d l = true →
    AnswersVia State.syncDisplayOd (.displayPortOverdraft d l (n, false)) s fun t =>
      Map.get (fun _ => 0) t.out.fifo (4 * d + l) = n ∧ t.regs = s.regs ∧ t.mem = s.mem) ∧
  (∀ (s : State) (d : Fin 3) (l : Fin 4) (n : Nat), s.fetching d l = true →
    AnswersVia State.syncDisplayOd (.displayPortOverdraft d l (n, true)) s fun t =>
      t.out.fifo = s.out.fifo.filter (fun f => f.1 != 4 * d.val + l.val) ∧ t.regs = s.regs ∧ t.mem = s.mem) ∧
  (∀ (s : State) (d : Fin 3) (l : Fin 4) (n : Nat × Bool), s.fetching d l = false →
    Answers (.underrun d l) s (fun t => t = s) ∧ Answers (.displayPortOverdraft d l n) s (fun t => t = s)) ∧
  (∀ s : State, s.bit (rOutDh0Ovd 0) 31 = false → (∃ f ∈ s.out.fifo, f.2 < s.fld (rOutDhOd (f.1 / 4)) 16 16) →
    s.syncDisplayOd.bit (rOutDh0Ovd 0) 31 = true ∧ s.syncDisplayOd.mem.od.getLsbD 8 = true ∧
    (s.mem.od.getLsbD 8 = false → s.syncDisplayOd.overdraft = true) ∧ (s.speaks 0x108 1 = true → s.syncDisplayOd.hears 0x108 1 = true))

/-- From R514 to R519 and R523: what the AES3 audio ports do. -/
def Obligations.AudioPorts : Prop :=
  (∀ (s : State) (n : Fin 2) (st fs : Nat) (l : List Nat), s.aesOn n = true → s.bit (rOutAesrxStat n) 31 = true →
    AnswersVia (fun t => t.aesOpen n st) (.aesBlockStart n st l fs) s fun t => t = s.aesEnd n l (BitVec.ofNat 32 fs) false) ∧
  (∀ (s : State) (n : Fin 2) (st fs : Nat) (l : List Nat), s.aesOn n = false ∨ s.bit (rOutAesrxStat n) 31 = false →
    Answers (.aesBlockStart n st l fs) s fun t => t = s) ∧
  (∀ (s : State) (n : Fin 2) (st : Nat), s.aesFull n = true →
    ((s.aesOpen n st).aesRx n).cur = some (mintOfTu st, true) ∧
    (s.speaks (0x10C) (4 + n) = true → (s.aesOpen n st).hears 0x10C (4 + n) = true)) ∧
  (∀ (s : State) (n : Fin 2) (t : Mint) (l : List Nat) (fs : Word) (b : Bool), (s.aesRx n).cur = some (t, true) →
    (∀ w ∈ l, w % 2 = 0) → l.length = 384 →
    ((s.aesEnd n l fs b).aesRx n).cur = none ∧ ((s.aesEnd n l fs b).aesRx n).lost = (s.aesRx n).lost + 192 ∧
    (s.aesEnd n l fs b).rd (rOutAesOverrun n) = satAdd (s.rd (rOutAesOverrun n)) 192 ∧
    (s.aesEnd n l fs b).mem = s.mem) ∧
  (∀ (s : State) (n : Fin 2) (t : Mint) (l : List Nat) (fs : Word) (b : Bool), (s.aesRx n).cur = some (t, false) →
    (∀ w ∈ l, w % 2 = 0) → s.aesLevel n ≤ 2048 →
    let w := s.fld (rOutAesrxWrptr n) 0 12
    let a := s.aesAddr (rOutAesrxCfg n) w
    ∃ u : State, s.aesEnd n l fs b = (u.syncAesOd n).raise 0x10B (4 + n) ∧
      u.mem = (s.request 8 true a 2048 (aesBlockBytes (s.fld (rOutAesrxStat n) 16 4) ((l.take 384).length / 2)
        ((s.aesRx n).seq + 1) (s.aesRx n).lost t fs (b.toNat + (decide (0 < (s.aesRx n).lost)).toNat * 4)
        ((((l.take 384).map (fun w => w % 2 ^ 32 / 256 * 256 + w % 4))).take (2 * ((l.take 384).length / 2)))) false false).mem ∧
      u.aesRx n = ⟨none, 0, (s.aesRx n).seq + 1, (s.aesRx n).fifo ++ (List.range 32).map (fun i => a + 64 * i),
        (s.aesRx n).od⟩) ∧
  (∀ (s : State) (n : Fin 2) (t : Mint) (l : List Nat) (fs : Word) (b : Bool), (s.aesRx n).cur = some (t, false) →
    (∀ w ∈ l, w % 2 = 0) → 2 ≤ l.length → 4024 < s.aesLevel n →
    s.aesEnd n l fs b = (s.aesLose n ((l.take 384).length / 2)).raise 0x10C (4 + n)) ∧
  (∀ (s : State) (n : Fin 2), 2048 ≤ s.aesLevel n →
    ((s.syncAesOd n).aesRx n).od = true ∧ (s.syncAesOd n).mem.od.getLsbD 8 = true) ∧
  (∀ (s : State) (n : Fin 2), s.aesLevel n < 1024 → ((s.syncAesOd n).aesRx n).od = false) ∧
  (∀ (s : State) (n : Fin 2) (r : BitVec 4) (l : List Nat), s.aesOn n = true → s.bit (rOutAesrxStat n) 31 = false →
    Answers (.aesLockChange n true r l) s fun t =>
      t.bit (rOutAesrxStat n) 31 = true ∧ t.fld (rOutAesrxStat n) 16 4 = r.toNat ∧ t.out = s.out ∧
      (s.speaks 0x10A (4 + n) = true → t.hears 0x10A (4 + n) = true)) ∧
  (∀ (s : State) (n : Fin 2) (r : BitVec 4) (l : List Nat), s.aesOn n = true → s.bit (rOutAesrxStat n) 31 = true →
    (s.aesRx n).cur = none →
    Answers (.aesLockChange n false r l) s fun t =>
      t.bit (rOutAesrxStat n) 31 = false ∧ t.rd (rOutAesUnlocks n) = satAdd (s.rd (rOutAesUnlocks n)) 1 ∧
      (s.speaks 0x10A (4 + n) = true → t.hears 0x10A (4 + n) = true)) ∧
  (∀ (s : State) (n : Fin 2) (b : Bool) (r : BitVec 4) (l : List Nat), s.bit (rOutAesrxStat n) 31 = b →
    Answers (.aesLockChange n b r l) s fun t => t = s) ∧
  (∀ s : State, s.reaches 14 = true → s.unitLive 14 6 = true → s.txState = 0 ∨ s.txState = 3 → s.fld rOutAestxRate 0 4 < 7 →
    Answers .aesTxStart s fun t =>
      t.txState = 1 ∧ t.fld rOutAestxStat 24 4 = 0 ∧ t.out.tx.at_ = s.dhPlace (s.fld rOutAestxOffset 0 30) ∧
      t.out.tx.seq = 0 ∧ t.out.tx.last = (0#32, 0#32)) ∧
  (∀ s : State, s.reaches 14 = true → s.unitLive 14 6 = true → s.txState = 0 ∨ s.txState = 3 → 7 ≤ s.fld rOutAestxRate 0 4 →
    Answers .aesTxStart s fun t => t.txState = 3 ∧ t.fld rOutAestxStat 24 4 = 1 ∧ t.out = s.out) ∧
  (∀ s : State, s.reaches 14 = true → s.txState = 1 ∨ s.txState = 2 → s.unitLive 14 6 = true →
    Answers .aesTxStop s fun t => t.txState = 0 ∧ t.out.tx = { s.out.tx with sent := [] }) ∧
  (∀ (s : State) (st : Nat), s.unitLive 14 6 = true → s.txState = 2 →
    s.fld rOutAestxHead 0 12 = s.fld rOutAestxTail 0 12 →
    Answers (.aesTxPreamble st) s fun t =>
      t.out.tx.sent = (List.range 192).flatMap (fun _ => [s.out.tx.last.1, s.out.tx.last.2]) ∧ t.mem = s.mem ∧
      t.rd rOutAestxUnderrun = satAdd (s.rd rOutAestxUnderrun) 192 ∧ (s.speaks 0x10F 6 = true → t.hears 0x10F 6 = true)) ∧
  (∀ (s : State) (st h : Nat), s.unitLive 14 6 = true → s.txState = 2 → s.fld rOutAestxHead 0 12 = h →
    h ≠ s.fld rOutAestxTail 0 12 →
    Answers (.aesTxPreamble st) s fun t =>
      let b := s.peek (s.aesAddr rOutAestxCfg (h % s.aesBlocks rOutAestxRing)) 2048
      if leAt b 0 4 = 0x4F494441 ∧ leAt b 4 1 = 1 ∧ leAt b 6 2 = 192 then
        t.out.tx.seq = s.out.tx.seq + 1 ∧ t.out.tx.sent = (List.range 384).map (fun i => aesSlot (leAt b (0x40 + 4 * i) 4)) ∧
        t.fld rOutAestxHead 0 12 = (h + 1) % s.aesBlocks rOutAestxRing % 4096
      else t.out.tx.sent = (List.range 192).flatMap (fun _ => [s.out.tx.last.1, s.out.tx.last.2]) ∧
        t.out.tx.seq = s.out.tx.seq ∧ t.fld rOutAestxHead 0 12 = h) ∧
  (∀ (s : State) (st : Nat), s.txState = 0 ∨ s.txState = 3 → Answers (.aesTxPreamble st) s fun t => t = s) ∧
  (∀ (s : State) (v : Word) (n h t : Nat), s.reaches 14 = true → s.unitLive 14 6 = true → s.aesBlocks rOutAestxRing = n →
    s.fld rOutAestxHead 0 12 = h → s.fld rOutAestxTail 0 12 = t → fget v 0 12 < n →
    (t + n - h % n) % n + (fget v 0 12 + n - t % n) % n < n →
    Answers (.aesTxTailWrite v) s fun u => u = s.wr rOutAestxTail (BitVec.ofNat 32 (fget v 0 12))) ∧
  (∀ (s : State) (v : Word), s.reaches 14 = true → s.unitLive 14 6 = true → s.aesBlocks rOutAestxRing ≤ fget v 0 12 →
    Answers (.aesTxTailWrite v) s fun u => u = s.violation rOutAestxTail)

/-- From R218, R524 to R534, R536 and R537: what the Clearing House does with events, tasks and latches. -/
def Obligations.ClearingHouse : Prop :=
  (∀ (s : State) (n : Fin 64), (∀ e ∈ s.ch.q, e.ch ≠ n.val) → Answers (.channelEvent n) s fun t => t = s) ∧
  (∀ (s : State) (n : Fin 64) (a b : List ChEv) (c : Nat) (l : BitVec 64), s.ch.q = a ++ ⟨n.val, c, l⟩ :: b →
    (∀ e ∈ a ++ b, e.ch ≠ n.val) → s.unitLive 15 1 = true → s.bit (rSvcChCfg n) 31 = false →
    Answers (.channelEvent n) s fun t => t = s.setCh { s.ch with q := a ++ b }) ∧
  (∀ (s : State) (n : Fin 64) (a b : List ChEv) (c : Nat) (l : BitVec 64), s.ch.q = a ++ ⟨n.val, c, l⟩ :: b →
    (∀ e ∈ a ++ b, e.ch ≠ n.val) → s.unitLive 15 1 = true → s.bit (rSvcChCfg n) 31 = true → l.getLsbD n = true →
    Answers (.channelEvent n) s fun t =>
      t.rd (rSvcChLoopDrop n) = satAdd (s.rd (rSvcChLoopDrop n)) 1 ∧
      t.bit (if n.val < 32 then rSvcChLoopLo else rSvcChLoopHi) (n.val % 32) = true ∧ t.ch.tasks = s.ch.tasks ∧
      (s.speaks 0x110 1 = true → t.hears 0x110 1 = true)) ∧
  (∀ (s : State) (n : Fin 64) (a b : List ChEv) (c : Nat) (l : BitVec 64), s.ch.q = a ++ ⟨n.val, c, l⟩ :: b →
    (∀ e ∈ a ++ b, e.ch ≠ n.val) → s.unitLive 15 1 = true → s.bit (rSvcChCfg n) 31 = true → l.getLsbD n = false →
    s.gateOpen n = false →
    Answers (.channelEvent n) s fun t =>
      t.rd (rSvcChGated n) = satAdd (s.rd (rSvcChGated n)) 1 ∧ t.ch = { s.ch with q := a ++ b } ∧ t.aud = s.aud) ∧
  (∀ (s : State) (n : Fin 64) (a b : List ChEv) (c : Nat) (l : BitVec 64), s.ch.q = a ++ ⟨n.val, c, l⟩ :: b →
    (∀ e ∈ a ++ b, e.ch ≠ n.val) → s.unitLive 15 1 = true → s.bit (rSvcChCfg n) 31 = true → l.getLsbD n = false →
    s.gateOpen n = true → s.refractory n = true →
    Answers (.channelEvent n) s fun t =>
      t.rd (rSvcChRefractDrop n) = satAdd (s.rd (rSvcChRefractDrop n)) 1 ∧ t.ch = { s.ch with q := a ++ b } ∧ t.aud = s.aud) ∧
  (∀ (s : State) (n : Fin 64) (a b : List ChEv) (c : Nat) (l : BitVec 64), s.ch.q = a ++ ⟨n.val, c, l⟩ :: b →
    (∀ e ∈ a ++ b, e.ch ≠ n.val) → s.unitLive 15 1 = true → s.bit (rSvcChCfg n) 31 = true → l.getLsbD n = false →
    s.gateOpen n = true → s.refractory n = false → s.bit (rSvcChCfg n) 30 = false →
    AnswersVia (fun t => t.chDeliver n (linBit n ||| l)) (.channelEvent n) s fun t =>
      t.rd (rSvcChDelivered n) = satAdd (s.rd (rSvcChDelivered n)) 1 ∧ t.ch.q = a ++ b ∧ t.ch.tasks = s.ch.tasks ∧
      Map.get (fun _ => 0) t.ch.last n = s.pxCycle + 1) ∧
  (∀ (s : State) (n : Fin 64) (a b : List ChEv) (c : Nat) (l : BitVec 64), s.ch.q = a ++ ⟨n.val, c, l⟩ :: b →
    (∀ e ∈ a ++ b, e.ch ≠ n.val) → s.unitLive 15 1 = true → s.bit (rSvcChCfg n) 31 = true → l.getLsbD n = false →
    s.gateOpen n = true → s.refractory n = false → s.bit (rSvcChCfg n) 30 = true →
    Answers (.channelEvent n) s fun t =>
      t.ch.clr = s.ch.clr ||| (s.rd (rSvcChGate n) &&& 0xFFFF#32) ∧ t.rd rSvcChLatch = s.rd rSvcChLatch ∧
      t.rd (rSvcChDelivered n) = satAdd (s.rd (rSvcChDelivered n)) 1) ∧
  (∀ (s : State) (n : Nat) (l : BitVec 64), s.fld (rSvcChCfg n) 28 2 = 0 →
    s.chDeliver n l = s.toTask n (s.fld (rSvcChCfg n) 0 12) l 0) ∧
  (∀ (s : State) (n : Nat) (l : BitVec 64), n < 32 → s.fld (rSvcChCfg n) 28 2 = 3 →
    (s.chDeliver n l).bit rSvcChHostpendLo n = true ∧
    (s.speaks 0x111 1 = true → (s.chDeliver n l).hears 0x111 1 = true)) ∧
  (∀ (s : State) (n : Fin 64) (c : Nat) (l m : BitVec 64), s.ch.q = [⟨n.val, c, l⟩, ⟨n.val, c, m⟩] →
    s.unitLive 15 1 = true → s.bit (rSvcChCfg n) 31 = true → l.getLsbD n = false → m.getLsbD n = false →
    s.gateOpen n = false →
    Answers (.channelEvent n) s fun t =>
      t.rd (rSvcChMerged n) = satAdd (s.rd (rSvcChMerged n)) 1 ∧
      t.rd (rSvcChGated n) = satAdd (s.rd (rSvcChGated n)) 1 ∧ t.ch.q = []) ∧
  (∀ (s : State) (n : Fin 64) (c d : Nat) (l m : BitVec 64), s.ch.q = [⟨n.val, c, l⟩, ⟨n.val, d, m⟩] → c ≠ d →
    s.unitLive 15 1 = true → s.bit (rSvcChCfg n) 31 = false →
    Answers (.channelEvent n) s fun t => t = s.setCh { s.ch with q := [⟨n.val, d, m⟩] }) ∧
  (∀ (s : State) (n x w c : Nat) (l : BitVec 64), c = (if 0x098 ≤ x then s.pxCycle else s.now) →
    (∀ k ∈ s.ch.tasks, k.input = x → k.cyc ≠ c) →
    s.toTask n x l w = s.setCh { s.ch with tasks := s.ch.tasks ++ [⟨x, l, w, c, [n]⟩] }) ∧
  (∀ (s : State) (n x w c : Nat) (l : BitVec 64), c = (if 0x098 ≤ x then s.pxCycle else s.now) →
    (∃ k ∈ s.ch.tasks, k.input = x ∧ k.cyc = c) →
    (s.toTask n x l w).rd (rSvcTinMerge x) = satAdd (s.rd (rSvcTinMerge x)) 1 ∧
    (s.toTask n x l w).ch.tasks.length = s.ch.tasks.length) ∧
  (∀ (s : State) (v : Word), s.reaches 15 = true → s.unitLive 15 1 = true →
    Answers (.softwareFire false v) s (fun t => t = { s with ch := { s.ch with
      q := s.ch.q ++ (idxs 32 v.getLsbD).map (fun n => ⟨n, s.pxCycle, 0#64⟩) } }) ∧
    Answers (.softwareFire true v) s (fun t => t = { s with ch := { s.ch with
      q := s.ch.q ++ (idxs 32 v.getLsbD).map (fun n => ⟨32 + n, s.pxCycle, 0#64⟩) } })) ∧
  (∀ (s : State) (k : Fin 16), s.unitLive 15 1 = true →
    Answers (.setLatch k) s fun t =>
      t.rd rSvcChLatch = s.rd rSvcChLatch ||| BitVec.ofNat 32 (2 ^ k.val) ∧ t.ch.q = s.ch.q ∧
      t.ch.tasks = s.ch.tasks.eraseP (fun j => j.input == 0x098 + k.val)) ∧
  (∀ (s : State) (k : Fin 16) (j : Task), s.unitLive 15 1 = true →
    s.ch.tasks.find? (fun j => j.input == 0x098 + k.val) = some j →
    Answers (.setLatch k) s fun t => Map.get (fun _ => 0) t.ch.set k = j.cyc + 1) ∧
  (∀ (s : State) (k : Fin 16) (j : Task), s.unitLive 15 1 = true →
    s.ch.tasks.find? (fun j => j.input == 0x0A8 + k.val) = some j → Map.get (fun _ => 0) s.ch.set k = j.cyc + 1 →
    Answers (.clrLatch k) s fun t =>
      t.regs = s.regs ∧ t.ch.tasks = s.ch.tasks.eraseP (fun j => j.input == 0x0A8 + k.val)) ∧
  (∀ (s : State) (k : Fin 16), s.unitLive 15 1 = true →
    (∀ j, s.ch.tasks.find? (fun j => j.input == 0x0A8 + k.val) = some j → Map.get (fun _ => 0) s.ch.set k ≠ j.cyc + 1) →
    Answers (.clrLatch k) s fun t =>
      t.rd rSvcChLatch = s.rd rSvcChLatch &&& ~~~ BitVec.ofNat 32 (2 ^ k.val) ∧ t.ch.q = s.ch.q ∧
      t.ch.tasks = s.ch.tasks.eraseP (fun j => j.input == 0x0A8 + k.val)) ∧
  (∀ (s : State) (k : Fin 16), s.unitLive 15 1 = false →
    Answers (.setLatch k) s (fun t => t = s) ∧ Answers (.clrLatch k) s (fun t => t = s)) ∧
  (∀ (s : State) (v : Word), s.reaches 15 = true → s.unitLive 15 1 = true →
    Answers (.latchSetWrite v) s fun t =>
      t.rd rSvcChLatch = s.rd rSvcChLatch ||| (v &&& 0xFFFF#32) ∧ t.ch = { s.ch with set := t.ch.set } ∧
      ∀ a, a ≠ rSvcChLatch → t.rd a = s.rd a) ∧
  (∀ (s : State) (so : Fin 8) (k : Task), s.ch.tasks.find? (fun j => j.input == 0x090 + so.val) = some k →
    AnswersVia (fun t => t.chanPulse so (s.nowTu + (max 1 k.width * 1000 * tuPerNs : Nat))) (.channelStrobe so) s fun t =>
      t.ch.tasks = s.ch.tasks.eraseP (fun j => j.input == 0x090 + so.val) ∧ t.regs = s.regs ∧ t.sch = s.sch) ∧
  (∀ (s : State) (so : Fin 8), (∀ j ∈ s.ch.tasks, j.input ≠ 0x090 + so.val) →
    Answers (.channelStrobe so) s fun t => t = s)

/-- From R542 to R547, R550 and R553: what the Auditor does with events, by class and reaction. -/
def Obligations.AuditorEvents : Prop :=
  (∀ s : State, s.aud.q = [] → Answers .auditorEvent s fun t => t = s) ∧
  (∀ (s : State) (x : Fin 288) (u : Nat) (d : Word) (i : Bool) (c : Nat), s.aud.q = [⟨x, u, d, i, c⟩] →
    Answers .auditorEvent s fun t => t = (s.setAud { s.aud with q := [] }).audit ⟨x, u, d, i, c⟩ 1) ∧
  (∀ (s : State) (x : Fin 288) (u v : Nat) (d e : Word) (i j : Bool) (c : Nat),
    s.aud.q = [⟨x, u, d, i, c⟩, ⟨x, v, e, j, c⟩] →
    Answers .auditorEvent s fun t => t = (s.setAud { s.aud with q := [] }).audit ⟨x, v, e, i || j, c⟩ 2) ∧
  (∀ (s : State) (x y : Fin 288) (u v : Nat) (d e : Word) (i j : Bool) (b c : Nat),
    s.aud.q = [⟨x, u, d, i, b⟩, ⟨y, v, e, j, c⟩] → b ≠ c →
    Answers .auditorEvent s fun t =>
      t = (s.setAud { s.aud with q := [⟨y, v, e, j, c⟩] }).audit ⟨x, u, d, i, b⟩ 1) ∧
  (∀ (s : State) (x y : Fin 288) (u v : Nat) (d e : Word) (i j : Bool) (c : Nat),
    s.aud.q = [⟨x, u, d, i, c⟩, ⟨y, v, e, j, c⟩] → y.val < x.val →
    Answers .auditorEvent s fun t =>
      t = ((s.setAud { s.aud with q := [] }).audit ⟨y, v, e, j, c⟩ 1).audit ⟨x, u, d, i, c⟩ 1) ∧
  (∀ (s : State) (e : EvRec) (m : Nat), s.bit (rSvcAudSrcCfg e.src) 29 = true →
    s.audit e m = s.countN (rSvcAudCnt e.src) m) ∧
  (∀ (s : State) (e : EvRec) (m : Nat), e.src < 288 → e.src ≠ 0x112 → s.bit (rSvcAudSrcCfg e.src) 29 = false →
    s.fld (rSvcAudSrcCfg e.src) 30 2 = 0 →
    Map.get (fun _ => 0) s.aud.win e.src + m < s.fld (rSvcAudSrcCfg e.src) 0 16 →
    ∃ t : State, s.audit e m = t.reactTo e m 0 (s.fld rSvcAudClassreact 0 6) ∧
      Map.get (fun _ => 0) t.aud.win e.src = Map.get (fun _ => 0) s.aud.win e.src + m ∧
      t.rd (rSvcAudCnt e.src) = satAdd (s.rd (rSvcAudCnt e.src)) m ∧ t.aud.severe = s.aud.severe) ∧
  (∀ (s : State) (e : EvRec) (m : Nat), e.src < 288 → e.src ≠ 0x112 → s.bit (rSvcAudSrcCfg e.src) 29 = false →
    s.fld (rSvcAudSrcCfg e.src) 30 2 < 2 →
    max 1 (s.fld (rSvcAudSrcCfg e.src) 0 16) ≤ Map.get (fun _ => 0) s.aud.win e.src + m →
    ∃ t : State, s.audit e m = t.reactTo e m 0x82 (s.fld (rSvcAudSrcCfg e.src) 16 6) ∧
      Map.get (fun _ => 0) t.aud.win e.src = 0 ∧ t.aud.severe = min (s.aud.severe + 1) 0xFFFFFFFF) ∧
  (∀ (s : State) (e : EvRec) (m : Nat), e.src < 288 → e.src ≠ 0x112 → s.bit (rSvcAudSrcCfg e.src) 29 = false →
    s.fld (rSvcAudSrcCfg e.src) 30 2 = 3 →
    ∃ t : State, s.audit e m = t.reactTo e m 3 0x23 ∧ t.aud.fatal = min (s.aud.fatal + 1) 0xFFFFFFFF ∧
      t.aud.win = s.aud.win) ∧
  (∀ (s : State) (e : EvRec) (m cls : Nat), s.reactTo e m cls 0 = s.fenceUnits (srcCluster e.src) []) ∧
  (∀ (s : State) (c : Nat), s.fenceUnits c [] = s.follow) ∧
  (∀ (s : State) (x : Nat), x < 288 → s.mxMasked (65 + min 14 (s.fld (rSvcAudSrcCfg x) 24 4)) = false →
    s.bit (rSvcAudPend (x / 32)) (x % 32) = false →
    (s.irq x false).bit (rSvcAudPend (x / 32)) (x % 32) = true ∧
    (s.irq x false).aud.msix = s.aud.msix ++ [65 + min 14 (s.fld (rSvcAudSrcCfg x) 24 4)]) ∧
  (∀ (s : State) (x : Nat), s.bit (rSvcAudPend (x / 32)) (x % 32) = true → s.irq x false = s) ∧
  (∀ (s : State) (x : Fin 288),
    Answers (.windowExpiry x) s fun t =>
      Map.get (fun _ => 0) t.aud.win x = 0 ∧ t = { s with aud := { s.aud with win := t.aud.win } } ∧
      ∀ y, y ≠ x.val → Map.get (fun _ => 0) t.aud.win y = Map.get (fun _ => 0) s.aud.win y) ∧
  (∀ (s : State) (x : Fin 288) (v : Word), s.reaches 15 = true →
    Answers (.sourceConfigWrite x true v) s fun t =>
      t.rd (rSvcAudSrcWin x) = v &&& 0xC000FFFF#32 ∧ Map.get (fun _ => 0) t.aud.win x = 0 ∧
      ∀ a, a ≠ rSvcAudSrcWin x → t.rd a = s.rd a) ∧
  (∀ (s : State) (x : Fin 288) (v : Word), s.reaches 15 = true → srcClass x = 3 → fget v 30 2 ≠ 3 ∨ v.getLsbD 29 = true →
    Answers (.sourceConfigWrite x false v) s fun t => t = s.violation (rSvcAudSrcCfg x)) ∧
  (∀ (s : State) (x : Fin 288) (v : Word), s.reaches 15 = true → srcClass x ≠ 3 →
    Answers (.sourceConfigWrite x false v) s fun t =>
      t.rd (rSvcAudSrcCfg x) = v &&& 0xEF3FFFFF#32 ∧ Map.get (fun _ => 0) t.aud.win x = 0 ∧
      ∀ a, a ≠ rSvcAudSrcCfg x → t.rd a = s.rd a) ∧
  (∀ (s : State) (x cls react m : Nat) (d : Word) (i b : Bool), (s.rd rSvcAudFlHead).toNat < 1024 → s.aud.lost = 0 →
    cls ≠ 3 → cls < 4 →
    let t := s.logFault x cls react m d i b
    t.rd rSvcAudFlHead = s.rd rSvcAudFlHead + 1#32 ∧ t.aud = s.aud ∧
    t.rd (rSvcAudFl (8 * (s.rd rSvcAudFlHead).toNat)) = s.rd rSvcAudFlHead ∧
    fget (t.rd (rSvcAudFl (8 * (s.rd rSvcAudFlHead).toNat + 1))) 0 16 = x % 65536 ∧
    fget (t.rd (rSvcAudFl (8 * (s.rd rSvcAudFlHead).toNat + 1))) 16 8 = cls)

/-- From R38, R100, R544, R548, R549, R554 and R555: what fences of the host, the safe state, ALIVE and fault injection do. -/
def Obligations.AuditorControl : Prop :=
  (∀ (s : State) (v : Word), s.reaches 15 = true → fget v 16 16 ≠ 0xA5C3 →
    Answers (.hostFence v) s fun t => t = s.violation rSvcAudFence) ∧
  (∀ (s : State) (v : Word), s.reaches 15 = true → v.getLsbD 7 = false →
    inMss (fget v 10 4) (fget v 0 6) = true →
    Answers (.hostFence v) s fun t => t = s.violation rSvcAudFence) ∧
  (∀ (s : State) (v : Word), s.reaches 15 = true → fget v 16 16 = 0xA5C3 → v.getLsbD 7 = false →
    present s.variant (fget v 10 4) (fget v 0 6) = true → inMss (fget v 10 4) (fget v 0 6) = false →
    Answers (.hostFence v) s fun t =>
      t.aud.severe = min ((s.fenceUnit (fget v 10 4) (fget v 0 6)).aud.severe + 1) 0xFFFFFFFF ∧
      t.bit (rSvcAudPend 8) 18 = true ∧ t.plane = s.plane) ∧
  (∀ (s : State) (c u : Nat), (s.setFence c u true).fenced c u = true) ∧
  (∀ s : State, s.aud.safe ≠ 1 → Answers .safeStateClose s fun t => t = s) ∧
  (∀ s : State, s.aud.safe = 1 → s.released = false →
    Answers .safeStateClose s fun t => t = s.setAud { s.aud with safe := 2 }) ∧
  (∀ s u : State, s.aud.safe = 1 → s.released = true → u = (s.setAud { s.aud with safe := 2 }).closeAll 0#32 →
    AnswersThen .safeStateClose s fun t => t = ((u.forEach u.armedStrs (fun v i =>
      (v.setSchStr i { v.schStr i with reopen := false }).beginClose i 0x100)).outputsOff).follow) ∧
  (∀ s : State, s.aud.safe ≠ 2 → Answers .safeStateClockStop s fun t => t = s) ∧
  (∀ s : State, s.aud.safe = 2 → s.hst.csts.getLsbD 1 = false →
    Answers .safeStateClockStop s fun t =>
      t.aud.safe = 3 ∧ t.ctlCfs = true ∧ t.fld rHstTeller 28 4 = 4) ∧
  (∀ (s : State) (x u : Nat), x < 288 → s.aud.safe = 0 → s.pwr.phase = .released →
    (s.enterSafe x u).aud.safe = 1 ∧ (s.enterSafe x u).fld rSvcAudStat 28 4 = 1 ∧
    (s.enterSafe x u).fld rSvcAudStat 16 9 = x ∧ (s.enterSafe x u).bit rSvcAudStat 0 = false ∧
    (s.enterSafe x u).aud.level = false) ∧
  (∀ (s : State) (x u : Nat), s.aud.safe = 0 → s.pwr.phase = .released → s.fld (rSvcAudSrcCfg x) 30 2 = 3 →
    mssCode (srcCluster x) u ≠ 0 → (s.enterSafe x u).pwr.mssRun = mssCode (srcCluster x) u) ∧
  (∀ (s : State) (x u : Nat), s.released = false → inMss (srcCluster x) u = true → s.enterSafe x u = s) ∧
  (∀ s : State, s.bit rSvcAudStat 0 = true → s.aud.lockstep = true →
    Answers (.aliveHalfPeriod true) s fun t => t = s.setAud { s.aud with level := !s.aud.level }) ∧
  (∀ s : State, s.bit rSvcAudStat 0 = true →
    Answers (.aliveHalfPeriod false) s fun t => t.bit rSvcAudStat 0 = false ∧ t.aud.level = false) ∧
  (∀ (s : State) (b : Bool), s.bit rSvcAudStat 0 = false → Answers (.aliveHalfPeriod b) s fun t => t = s) ∧
  (∀ s : State, s.pwr.phase = .released →
    Answers .lockstepDisagreement s fun t => t = (s.setAud { s.aud with lockstep := false }).noService 2) ∧
  (∀ s : State, s.pwr.phase = .checking →
    Answers .lockstepDisagreement s fun t => t = s.setAud { s.aud with lockstep := false }) ∧
  (∀ s : State, s.pwr.phase = .off ∨ s.pwr.phase = .starting ∨ s.pwr.phase = .noService →
    Answers .lockstepDisagreement s fun t => t = s) ∧
  (∀ (s : State) (v : Word), s.reaches 15 = true → (s.injSc v).isSome = true → fget s.injWord 16 16 = 0 →
    Answers (.injectionWrite true v) s fun t => t = s.wr rSvcAudInjsel (v &&& 0x3FF3#32)) ∧
  (∀ (s : State) (v : Word), s.reaches 15 = true → s.injSc v = none →
    Answers (.injectionWrite true v) s fun t => t = s.violation rSvcAudInjsel) ∧
  (∀ (s : State) (v : Word) (sc : Nat), s.reaches 15 = true → s.injSc (s.rd rSvcAudInjsel) = some sc →
    fget s.injWord 16 16 = 0 → 2 ≤ sc → fget v 16 16 ≠ 0 →
    Answers (.injectionWrite false v) s fun t => t.fld (rMemScInj sc) 0 16 = fget v 0 16 ∧
      t.fld (rMemScInj sc) 16 16 = fget v 16 16 ∧ t.injWord = t.rd (rMemScInj sc)) ∧
  (∀ (s : State) (v : Word) (sc : Nat), s.reaches 15 = true → s.injSc (s.rd rSvcAudInjsel) = some sc →
    fget s.injWord 16 16 ≠ 0 → fget v 16 16 ≠ 0 →
    Answers (.injectionWrite false v) s fun t => t = s.violation rSvcAudInj)

/-- From R558 to R562 and R567: what the thermal unit does. -/
def Obligations.ThermalThrottling : Prop :=
  (∀ (s : State) (l : List Int), s.unitLive 15 4 = false ∨ l.length ≠ 16 →
    Answers (.thermalMeasurement l) s fun t => t = s) ∧
  (∀ (s : State) (l : List Int), s.unitLive 15 4 = true → l.length = 16 →
    AnswersVia (fun t => ((t.syncZones).zoneEval 0 5).zoneEval 1 5) (.thermalMeasurement l) s fun t =>
      t.th.hist = (sampleOf (fun n => !s.broken n) l :: s.th.hist).take 10001 ∧ t.th.dem = s.th.dem ∧
      ∀ n, n < 16 → s.broken n = true ∨ l.getD n 0 < -320 ∨ 1200 < l.getD n 0 → t.broken n = true) ∧
  (∀ (h : List ThSample) (valid : Nat → Bool) (t : List Int) (n : Nat), t.getD n 0 < -320 ∨ 1200 < t.getD n 0 →
    breakCause h valid t n = 1) ∧
  (∀ (s : State) (z : Nat), z < 2 → s.zoneState z = 0 → (s.zoneValue z).1 < zoneShutdown z → zoneWarn z ≤ (s.zoneValue z).1 →
    s.zoneStep z = some ((s.setZone z 1).raise 0x114 4)) ∧
  (∀ (s : State) (z : Nat), z < 2 → s.zoneState z = 0 → (s.zoneValue z).1 < zoneWarn z → s.zoneStep z = none) ∧
  (∀ (s : State) (z : Nat), z < 2 → s.zoneState z < 4 → (s.zoneValue z).2 = false → zoneShutdown z ≤ (s.zoneValue z).1 →
    s.zoneStep z = some ((s.setZone z 4).raise 0x11A 4)) ∧
  (∀ (s : State) (z : Nat), z < 2 → s.zoneState z = 4 → s.zoneStep z = none) ∧
  (∀ (s : State) (z : Nat), z < 2 → s.zoneState z = 1 → (s.zoneValue z).2 = true → zoneThrottle z ≤ (s.zoneValue z).1 →
    ∃ t : State, s.zoneStep z = some t.aerTemp ∧ t.zoneState z = 2 ∧
      t.th = { s.th with spent := setAt s.th.spent z false } ∧ t.rd rSvcThRequests = satAdd (s.rd rSvcThRequests) 1 ∧ (s.speaks 0x115 4 = true → t.hears 0x115 4 = true)) ∧
  (∀ (s : State) (z : Fin 2), s.unitLive 15 4 = true → s.zoneState z = 2 → zoneThrottle z ≤ (s.zoneValue z).1 →
    AnswersVia (fun t => t.demand z (max (s.fld rDevClk 2 2) s.thrStep)) (.graceEnd z) s fun t =>
      t.zoneState z = 3 ∧ t.rd rSvcThEnforcements = satAdd (s.rd rSvcThEnforcements) 1 ∧ t.th = s.th ∧
      (s.speaks 0x116 4 = true → t.hears 0x116 4 = true)) ∧
  (∀ (s : State) (z : Fin 2), s.unitLive 15 4 = true → s.zoneState z = 2 → (s.zoneValue z).1 < zoneThrottle z →
    Answers (.graceEnd z) s fun t => t = s.setTh { s.th with spent := setAt s.th.spent z true }) ∧
  (∀ (s : State) (z : Fin 2), s.zoneState z ≠ 2 → Answers (.graceEnd z) s fun t => t = s) ∧
  (∀ (s : State) (z : Nat) (n : Nat),
    s.demand z n = ((s.setTh { s.th with dem := setAt s.th.dem z n }).setFld rDevClk 2 2
      ((setAt s.th.dem z n).foldl max 0)).stepEval) ∧
  (∀ (s : State) (d : Nat), s.unitLive 15 4 = true → s.zoneState 0 = 3 → (s.zoneValue 0).2 = false →
    zoneThrottle 0 ≤ (s.zoneValue 0).1 → s.th.dem.getD 0 0 = d → d < 3 →
    AnswersVia (fun t => t.demand 0 (d + 1)) (.thermalEscalation 0) s fun t =>
      t.rd rSvcThEscalations = satAdd (s.rd rSvcThEscalations) 1 ∧ t.th = s.th ∧
      (s.speaks 0x116 4 = true → t.hears 0x116 4 = true)) ∧
  (∀ (s : State) (d : Nat), s.unitLive 15 4 = true → s.zoneState 1 = 3 → (s.zoneValue 1).2 = false →
    520 ≤ (s.zoneValue 1).1 → s.th.dem.getD 1 0 = d → d < 3 →
    AnswersVia (fun t => t.demand 1 (d + 1)) (.thermalEscalation 1) s fun t =>
      t.rd rSvcThEscalations = satAdd (s.rd rSvcThEscalations) 1 ∧ t.th = s.th) ∧
  (∀ (s : State), (s.zoneValue 1).1 < 520 ∨ s.zoneState 1 ≠ 3 → Answers (.thermalEscalation 1) s fun t => t = s) ∧
  (∀ (s : State) (z : Fin 2) (d : Nat), s.unitLive 15 4 = true → s.zoneState z = 3 →
    (s.zoneValue z).1 < zoneThrottle z - 40 → s.th.dem.getD z 0 = d → 2 ≤ d →
    Answers (.thermalRelease z) s fun t => t = s.demand z (d - 1)) ∧
  (∀ (s : State) (z : Fin 2) (d : Nat), s.unitLive 15 4 = true → s.zoneState z = 3 →
    (s.zoneValue z).1 < zoneThrottle z - 40 → s.th.dem.getD z 0 = d → d ≤ 1 →
    Answers (.thermalRelease z) s fun t =>
      t = (s.demand z 0).setZone z (if (s.zoneValue z).1 < zoneWarn z - 16 then 0 else 1) ∧
      t.zoneState z = (if (s.zoneValue z).1 < zoneWarn z - 16 then 0 else 1)) ∧
  (∀ (s : State) (z : Fin 2), zoneThrottle z - 40 ≤ (s.zoneValue z).1 ∨ s.zoneState z ≠ 3 →
    Answers (.thermalRelease z) s fun t => t = s) ∧
  (∀ (s : State) (z : Fin 2), s.unitLive 15 4 = true → s.fastRise z 100 = false →
    AnswersVia State.syncZones (.riseHoldEnd z) s fun t => t = s.setTh { s.th with rise := setAt s.th.rise z false }) ∧
  (∀ (s : State) (z : Fin 2), s.fastRise z 100 = true → Answers (.riseHoldEnd z) s fun t => t = s) ∧
  (∀ (s : State) (z : Nat), z < 2 → (∀ n ∈ zoneSensors z, s.broken n = true) → s.zoneValue z = (zoneThrottle z, true))

/-- From R54 and R565: what the VPD and the telemetry responder answer. -/
def Obligations.Telemetry : Prop :=
  (∀ (s : State) (off len : Nat), Answers (.vpdRead off len) s fun t =>
    t = { s with rbytes := (List.range len).map (fun k => Config.vpd (off + k)) }) ∧
  (∀ s : State, s.pwr.phase = .released →
    Answers .telemetryIdentity s (fun t => t = { s with rbytes := [1#8, BitVec.ofNat 8 (fget (devCap0 s.variant) 24 8), 0#8, 0#8] }) ∧
    Answers .telemetryPowerStatus s (fun t => t = { s with rbytes := leBytes 4 (s.rd rSvcPwrStat).toNat }) ∧
    Answers .telemetryInputPower s (fun t => t = { s with rbytes := leBytes 4 s.pwr.inputMw }) ∧
    Answers .telemetryHeadPower s (fun t => t = { s with rbytes := leBytes 4 (s.rd rSvcHpwrStat).toNat }) ∧
    Answers .telemetryClock s (fun t => t = { s with rbytes := leBytes 4 (s.rd rDevClk).toNat })) ∧
  (∀ s : State, s.pwr.phase = .released → s.unitLive 15 4 = true →
    Answers .telemetryZones s (fun t => t = { s with rbytes := leBytes 4 (s.rd rSvcThZone).toNat }) ∧
    Answers .telemetryThermalStatus s (fun t => t = { s with rbytes := leBytes 4 (s.rd rSvcThStat).toNat }) ∧
    Answers .telemetrySensors s (fun t => t.rbytes.length = 32 ∧ t = { s with rbytes := t.rbytes } ∧
      ∀ n, n < 16 → leAt t.rbytes (2 * n) 2 = s.fld (rSvcThSens n) 0 16)) ∧
  (∀ s : State, s.pwr.phase = .released →
    Answers .telemetryFaultSummary s (fun t => t = { s with rbytes := t.rbytes } ∧ t.rbytes.length = 16 ∧
      leAt t.rbytes 0 4 = (s.rd rSvcAudFlHead).toNat ∧ leAt t.rbytes 4 4 = s.aud.lost % 2 ^ 32 ∧
      leAt t.rbytes 10 1 = s.fld rSvcAudStat 28 4) ∧
    Answers .telemetryFirstFatal s (fun t => t = { s with rbytes := t.rbytes } ∧ t.rbytes.length = 32 ∧
      ∀ k, k < 8 → leAt t.rbytes (4 * k) 4 = (s.rd (rSvcAudFf k)).toNat)) ∧
  (∀ s : State, s.pwr.phase = .off ∨ s.pwr.phase = .starting →
    ∀ c ∈ [Instr.telemetryIdentity, .telemetryZones, .telemetrySensors, .telemetryThermalStatus, .telemetryPowerStatus,
      .telemetryInputPower, .telemetryHeadPower, .telemetryClock, .telemetryFaultSummary, .telemetryFirstFatal],
      Answers c s fun t => t = { s with rbytes := [] })

/-- Which registers a command of memory, the Mint, Ethernet, NVMe, OUT, the Clearing House, the Auditor and the thermal unit may
write: every other register reads as before. CommandsKeepTheirFrame says the same of the other parts of State. -/
def Obligations.RegistersLeftAlone : Prop :=
  (∀ (s t : State) (sc : Fin 16) (c : Instr), c = .dramHot sc ∨ c = .dramHotClear sc → exec c s = .next t →
    keepsRegs [rMemScStat sc, rMemStat] s t) ∧
  (∀ (s t : State) (sc : Fin 16) (b : Fin 4), exec (.refreshDue sc b) s = .next t →
    keepsRegs [rMemScStat sc, rMemScForcedRef sc] s t) ∧
  (∀ (s t : State), exec .coinRefill s = .next t → keepsRegs ((List.range 4).map rMemCoinStat) s t) ∧
  (∀ (s t : State), exec .floorEntry s = .next t →
    keepsRegs (rMemStat :: rMemOdFloors :: (List.range 4).map rMemCoinStat) s t) ∧
  (∀ (s t : State) (c : Instr), c = .selfRefreshExit ∨ c = .srExited → exec c s = .next t →
    keepsRegs (rMemStat :: (List.range 16).map rMemScStat) s t) ∧
  (∀ (s t : State), exec .holdover s = .next t → keepsRegs [rMintStat] s t) ∧
  (∀ (s t : State), exec .mintRate s = .next t → keepsRegs [rMintRate, rMintStat] s t) ∧
  (∀ (s t : State) (n : Nat), exec (.ppsInEdge n) s = .next t → keepsRegs [rMintPpsEarly, rMintPpsinNs] s t) ∧
  (∀ (s t : State), exec .ppsMissing s = .next t → keepsRegs [rMintPpsMissing] s t) ∧
  (∀ (s t : State) (m : Fin 2) (a b c d e : Bool),
    exec (.ethernetLinkChange m a b c d e) s = .next t ∨ exec (.cageChange m a b c) s = .next t →
    keepsRegs [rNetPortStat m] s t) ∧
  (∀ (s t : State) (m : Fin 2) (f d : List Byte) (n : Nat), exec (.ethernetFrameReceive m f n d) s = .next t →
    keepsRegs [rNetRxLength m, rNetRxFcs m, rNetRxCtrl m, rNetRxFrames m, rNetRxNobuf m, ringBase m 3 + 12, ringBase m 4 + 12]
      s t) ∧
  (∀ (s t : State) (m : Fin 2) (r : Fin 5) (v : Word), exec (.ringTailWrite m r v) s = .next t →
    keepsRegs [ringBase m r + 16, rDevSvLog, rDevSvCnt] s t) ∧
  (∀ (s t : State) (m : Fin 2) (v : Word), exec (.moduleI2cAccess m v) s = .next t →
    keepsRegs [rNetPortModi2c m, rDevSvLog, rDevSvCnt] s t) ∧
  (∀ (s t : State) (m : Fin 2) (a : Bool) (b : Byte), exec (.moduleI2cDone m a b) s = .next t →
    keepsRegs [rNetPortModi2c m] s t) ∧
  (∀ (s t : State) (q : Fin 65) (cid : BitVec 16), exec (.dataTransferStart q cid) s = .next t →
    keepsRegs [rHstTeller, rHstNotReady] s t) ∧
  (∀ (s t : State) (q : Fin 65) (cid : BitVec 16), exec (.nvmFlush q cid) s = .next t →
    keepsRegs [rHstTeller, rHstNotReady, rHstInvalidNs] s t) ∧
  (∀ (s t : State) (cid : BitVec 16) (c : Instr), c ∈ [.officerAuth cid, .readKey cid, .readAkCert cid, .nsMap cid,
      .setArbitration cid, .setNumberOfQueues cid, .setApst cid, .setAsyncEventConfig cid, .createIoCompletionQueue cid,
      .createIoSubmissionQueue cid, .identifyController cid, .getLogFaultLedger cid, .getLogFirmwareSlot cid,
      .asynchronousEventRequest cid] → exec c s = .next t → keepsRegs [rHstTeller] s t) ∧
  (∀ (s t : State) (n : BitVec 2), exec (.shutdownNotification n) s = .next t → keepsRegs [rHstTeller] s t) ∧
  (∀ (s t : State), exec .hpdTimeout s = .next t → keepsRegs [rOutDhStat 0] s t) ∧
  (∀ (s t : State) (c : Instr), c = .aesTxStart ∨ c = .aesTxStop → exec c s = .next t → keepsRegs [rOutAestxStat] s t) ∧
  (∀ (s t : State) (v : Word), exec (.aesTxTailWrite v) s = .next t → keepsRegs [rOutAestxTail, rDevSvLog, rDevSvCnt] s t) ∧
  (∀ (s t : State) (k : Fin 16) (c : Instr), c = .setLatch k ∨ c = .clrLatch k → exec c s = .next t →
    keepsRegs [rSvcChLatch] s t) ∧
  (∀ (s t : State) (x : Fin 288) (w : Bool) (v : Word), exec (.sourceConfigWrite x w v) s = .next t →
    keepsRegs [rSvcAudSrcCfg x, rSvcAudSrcWin x, rDevSvLog, rDevSvCnt] s t) ∧
  (∀ (s t : State) (w : Bool) (v : Word), exec (.injectionWrite w v) s = .next t →
    keepsRegs ([rSvcAudInjsel, rDevSvLog, rDevSvCnt] ++ (List.range 16).map rMemScInj) s t) ∧
  (∀ (s t : State) (b : Bool), exec (.aliveHalfPeriod b) s = .next t → keepsRegs [rSvcAudStat] s t) ∧
  (∀ (s t : State) (z : Fin 2), exec (.riseHoldEnd z) s = .next t → keepsRegs [rSvcThZone, rSvcThStat, rSvcThCfg] s t)
end

