-- ==== Sys2Proof/Laws/Frame.lean ====
section
/-! SUPPORT. Which fields of State an operation can change, as one equation per operation: `blur m` forgets the fields of the
mask `m`, and an operation of mask `m` leaves the rest. Bit i of a mask is field i of State, in order. -/

set_option Elab.async false
set_option linter.unusedTactic false
set_option linter.unreachableTactic false

namespace Sys2Proof.Machine

open Sys2Proof

/-- The state with the fields of mask `m` forgotten. -/
def State.blur (m : Nat) (s : State) : State where
  variant := if m.testBit 0 then State.reset.variant else s.variant
  now := if m.testBit 1 then State.reset.now else s.now
  px := if m.testBit 2 then State.reset.px else s.px
  mint := if m.testBit 3 then State.reset.mint else s.mint
  regs := if m.testBit 4 then State.reset.regs else s.regs
  shadow := if m.testBit 5 then State.reset.shadow else s.shadow
  live := if m.testBit 6 then State.reset.live else s.live
  flash := if m.testBit 7 then State.reset.flash else s.flash
  otp := if m.testBit 8 then State.reset.otp else s.otp
  plane := if m.testBit 9 then State.reset.plane else s.plane
  escrow := if m.testBit 10 then State.reset.escrow else s.escrow
  vlt := if m.testBit 11 then State.reset.vlt else s.vlt
  pwr := if m.testBit 12 then State.reset.pwr else s.pwr
  clk := if m.testBit 13 then State.reset.clk else s.clk
  aud := if m.testBit 14 then State.reset.aud else s.aud
  ch := if m.testBit 15 then State.reset.ch else s.ch
  th := if m.testBit 16 then State.reset.th else s.th
  lnk := if m.testBit 17 then State.reset.lnk else s.lnk
  ing := if m.testBit 18 then State.reset.ing else s.ing
  sch := if m.testBit 19 then State.reset.sch else s.sch
  pix := if m.testBit 20 then State.reset.pix else s.pix
  cor := if m.testBit 21 then State.reset.cor else s.cor
  cmp := if m.testBit 22 then State.reset.cmp else s.cmp
  vid := if m.testBit 23 then State.reset.vid else s.vid
  mem := if m.testBit 24 then State.reset.mem else s.mem
  hst := if m.testBit 25 then State.reset.hst else s.hst
  net := if m.testBit 26 then State.reset.net else s.net
  out := if m.testBit 27 then State.reset.out else s.out
  tap := if m.testBit 28 then State.reset.tap else s.tap
  rdata := if m.testBit 29 then State.reset.rdata else s.rdata
  rbytes := if m.testBit 30 then State.reset.rbytes else s.rbytes
  pending := if m.testBit 31 then State.reset.pending else s.pending

theorem bit_of_and {m : Nat} (i : Nat) {k : Nat} (h : k &&& m = k) (hk : k.testBit i = true := by decide) : m.testBit i = true := by
  have := congrArg (fun k => k.testBit i) h
  simp only [Nat.testBit_and, hk, Bool.true_and] at this
  exact this

theorem pick_pick {α : Type} {p q : Bool} (h : q = true → p = true) (r x : α) :
    (if p then r else if q then r else x) = if p then r else x := by cases p <;> cases q <;> simp_all

/-- A mask within a mask within a mask. -/
theorem sub_mask {a b c : Nat} (h : b &&& c = b) (hab : a &&& b = a) : a &&& c = a := by
  rw [← hab, Nat.land_assoc, h]

/-- Forgetting more forgets what was forgotten. -/
theorem State.blur_blur {m n : Nat} (s : State) (hm : m &&& n = m) : (s.blur m).blur n = s.blur n := by
  have hb : ∀ i, m.testBit i = true → n.testBit i = true := fun i hi => by
    have := congrArg (fun k => k.testBit i) hm
    simp only [Nat.testBit_and, hi, Bool.true_and] at this
    exact this
  simp only [State.blur, pick_pick (hb 0), pick_pick (hb 1), pick_pick (hb 2), pick_pick (hb 3), pick_pick (hb 4), pick_pick (hb 5), pick_pick (hb 6), pick_pick (hb 7), pick_pick (hb 8), pick_pick (hb 9), pick_pick (hb 10), pick_pick (hb 11), pick_pick (hb 12), pick_pick (hb 13), pick_pick (hb 14), pick_pick (hb 15), pick_pick (hb 16), pick_pick (hb 17), pick_pick (hb 18), pick_pick (hb 19), pick_pick (hb 20), pick_pick (hb 21), pick_pick (hb 22), pick_pick (hb 23), pick_pick (hb 24), pick_pick (hb 25), pick_pick (hb 26), pick_pick (hb 27), pick_pick (hb 28), pick_pick (hb 29), pick_pick (hb 30), pick_pick (hb 31)]

/-- Two states that agree off `m` agree off a wider mask. -/
theorem State.blur_mono {m n : Nat} {s t : State} (h : s.blur m = t.blur m) (hm : m &&& n = m) : s.blur n = t.blur n := by
  rw [← State.blur_blur s hm, h, State.blur_blur t hm]

theorem State.blur_variant {m : Nat} {s t : State} (h : t.blur m = s.blur m) (hm : m.testBit 0 = false) : t.variant = s.variant := by
  have e := congrArg State.variant h
  simpa [State.blur, hm] using e
theorem State.blur_now {m : Nat} {s t : State} (h : t.blur m = s.blur m) (hm : m.testBit 1 = false) : t.now = s.now := by
  have e := congrArg State.now h
  simpa [State.blur, hm] using e
theorem State.blur_px {m : Nat} {s t : State} (h : t.blur m = s.blur m) (hm : m.testBit 2 = false) : t.px = s.px := by
  have e := congrArg State.px h
  simpa [State.blur, hm] using e
theorem State.blur_mint {m : Nat} {s t : State} (h : t.blur m = s.blur m) (hm : m.testBit 3 = false) : t.mint = s.mint := by
  have e := congrArg State.mint h
  simpa [State.blur, hm] using e
theorem State.blur_regs {m : Nat} {s t : State} (h : t.blur m = s.blur m) (hm : m.testBit 4 = false) : t.regs = s.regs := by
  have e := congrArg State.regs h
  simpa [State.blur, hm] using e
theorem State.blur_shadow {m : Nat} {s t : State} (h : t.blur m = s.blur m) (hm : m.testBit 5 = false) : t.shadow = s.shadow := by
  have e := congrArg State.shadow h
  simpa [State.blur, hm] using e
theorem State.blur_live {m : Nat} {s t : State} (h : t.blur m = s.blur m) (hm : m.testBit 6 = false) : t.live = s.live := by
  have e := congrArg State.live h
  simpa [State.blur, hm] using e
theorem State.blur_flash {m : Nat} {s t : State} (h : t.blur m = s.blur m) (hm : m.testBit 7 = false) : t.flash = s.flash := by
  have e := congrArg State.flash h
  simpa [State.blur, hm] using e
theorem State.blur_otp {m : Nat} {s t : State} (h : t.blur m = s.blur m) (hm : m.testBit 8 = false) : t.otp = s.otp := by
  have e := congrArg State.otp h
  simpa [State.blur, hm] using e
theorem State.blur_plane {m : Nat} {s t : State} (h : t.blur m = s.blur m) (hm : m.testBit 9 = false) : t.plane = s.plane := by
  have e := congrArg State.plane h
  simpa [State.blur, hm] using e
theorem State.blur_escrow {m : Nat} {s t : State} (h : t.blur m = s.blur m) (hm : m.testBit 10 = false) : t.escrow = s.escrow := by
  have e := congrArg State.escrow h
  simpa [State.blur, hm] using e
theorem State.blur_vlt {m : Nat} {s t : State} (h : t.blur m = s.blur m) (hm : m.testBit 11 = false) : t.vlt = s.vlt := by
  have e := congrArg State.vlt h
  simpa [State.blur, hm] using e
theorem State.blur_pwr {m : Nat} {s t : State} (h : t.blur m = s.blur m) (hm : m.testBit 12 = false) : t.pwr = s.pwr := by
  have e := congrArg State.pwr h
  simpa [State.blur, hm] using e
theorem State.blur_clk {m : Nat} {s t : State} (h : t.blur m = s.blur m) (hm : m.testBit 13 = false) : t.clk = s.clk := by
  have e := congrArg State.clk h
  simpa [State.blur, hm] using e
theorem State.blur_aud {m : Nat} {s t : State} (h : t.blur m = s.blur m) (hm : m.testBit 14 = false) : t.aud = s.aud := by
  have e := congrArg State.aud h
  simpa [State.blur, hm] using e
theorem State.blur_ch {m : Nat} {s t : State} (h : t.blur m = s.blur m) (hm : m.testBit 15 = false) : t.ch = s.ch := by
  have e := congrArg State.ch h
  simpa [State.blur, hm] using e
theorem State.blur_th {m : Nat} {s t : State} (h : t.blur m = s.blur m) (hm : m.testBit 16 = false) : t.th = s.th := by
  have e := congrArg State.th h
  simpa [State.blur, hm] using e
theorem State.blur_lnk {m : Nat} {s t : State} (h : t.blur m = s.blur m) (hm : m.testBit 17 = false) : t.lnk = s.lnk := by
  have e := congrArg State.lnk h
  simpa [State.blur, hm] using e
theorem State.blur_ing {m : Nat} {s t : State} (h : t.blur m = s.blur m) (hm : m.testBit 18 = false) : t.ing = s.ing := by
  have e := congrArg State.ing h
  simpa [State.blur, hm] using e
theorem State.blur_sch {m : Nat} {s t : State} (h : t.blur m = s.blur m) (hm : m.testBit 19 = false) : t.sch = s.sch := by
  have e := congrArg State.sch h
  simpa [State.blur, hm] using e
theorem State.blur_pix {m : Nat} {s t : State} (h : t.blur m = s.blur m) (hm : m.testBit 20 = false) : t.pix = s.pix := by
  have e := congrArg State.pix h
  simpa [State.blur, hm] using e
theorem State.blur_cor {m : Nat} {s t : State} (h : t.blur m = s.blur m) (hm : m.testBit 21 = false) : t.cor = s.cor := by
  have e := congrArg State.cor h
  simpa [State.blur, hm] using e
theorem State.blur_cmp {m : Nat} {s t : State} (h : t.blur m = s.blur m) (hm : m.testBit 22 = false) : t.cmp = s.cmp := by
  have e := congrArg State.cmp h
  simpa [State.blur, hm] using e
theorem State.blur_vid {m : Nat} {s t : State} (h : t.blur m = s.blur m) (hm : m.testBit 23 = false) : t.vid = s.vid := by
  have e := congrArg State.vid h
  simpa [State.blur, hm] using e
theorem State.blur_mem {m : Nat} {s t : State} (h : t.blur m = s.blur m) (hm : m.testBit 24 = false) : t.mem = s.mem := by
  have e := congrArg State.mem h
  simpa [State.blur, hm] using e
theorem State.blur_hst {m : Nat} {s t : State} (h : t.blur m = s.blur m) (hm : m.testBit 25 = false) : t.hst = s.hst := by
  have e := congrArg State.hst h
  simpa [State.blur, hm] using e
theorem State.blur_net {m : Nat} {s t : State} (h : t.blur m = s.blur m) (hm : m.testBit 26 = false) : t.net = s.net := by
  have e := congrArg State.net h
  simpa [State.blur, hm] using e
theorem State.blur_out {m : Nat} {s t : State} (h : t.blur m = s.blur m) (hm : m.testBit 27 = false) : t.out = s.out := by
  have e := congrArg State.out h
  simpa [State.blur, hm] using e
theorem State.blur_tap {m : Nat} {s t : State} (h : t.blur m = s.blur m) (hm : m.testBit 28 = false) : t.tap = s.tap := by
  have e := congrArg State.tap h
  simpa [State.blur, hm] using e
theorem State.blur_rdata {m : Nat} {s t : State} (h : t.blur m = s.blur m) (hm : m.testBit 29 = false) : t.rdata = s.rdata := by
  have e := congrArg State.rdata h
  simpa [State.blur, hm] using e
theorem State.blur_rbytes {m : Nat} {s t : State} (h : t.blur m = s.blur m) (hm : m.testBit 30 = false) : t.rbytes = s.rbytes := by
  have e := congrArg State.rbytes h
  simpa [State.blur, hm] using e
theorem State.blur_pending {m : Nat} {s t : State} (h : t.blur m = s.blur m) (hm : m.testBit 31 = false) : t.pending = s.pending := by
  have e := congrArg State.pending h
  simpa [State.blur, hm] using e
@[simp] theorem State.blur_set_variant (s : State) (x0 : _) (m : Nat) (h0 : 1 &&& m = 1) : ({ s with variant := x0 } : State).blur m = s.blur m := by
  simp [State.blur, bit_of_and 0 h0]
@[simp] theorem State.blur_set_now (s : State) (x0 : _) (m : Nat) (h0 : 2 &&& m = 2) : ({ s with now := x0 } : State).blur m = s.blur m := by
  simp [State.blur, bit_of_and 1 h0]
@[simp] theorem State.blur_set_px (s : State) (x0 : _) (m : Nat) (h0 : 4 &&& m = 4) : ({ s with px := x0 } : State).blur m = s.blur m := by
  simp [State.blur, bit_of_and 2 h0]
@[simp] theorem State.blur_set_mint (s : State) (x0 : _) (m : Nat) (h0 : 8 &&& m = 8) : ({ s with mint := x0 } : State).blur m = s.blur m := by
  simp [State.blur, bit_of_and 3 h0]
@[simp] theorem State.blur_set_regs (s : State) (x0 : _) (m : Nat) (h0 : 16 &&& m = 16) : ({ s with regs := x0 } : State).blur m = s.blur m := by
  simp [State.blur, bit_of_and 4 h0]
@[simp] theorem State.blur_set_shadow (s : State) (x0 : _) (m : Nat) (h0 : 32 &&& m = 32) : ({ s with shadow := x0 } : State).blur m = s.blur m := by
  simp [State.blur, bit_of_and 5 h0]
@[simp] theorem State.blur_set_live (s : State) (x0 : _) (m : Nat) (h0 : 64 &&& m = 64) : ({ s with live := x0 } : State).blur m = s.blur m := by
  simp [State.blur, bit_of_and 6 h0]
@[simp] theorem State.blur_set_flash (s : State) (x0 : _) (m : Nat) (h0 : 128 &&& m = 128) : ({ s with flash := x0 } : State).blur m = s.blur m := by
  simp [State.blur, bit_of_and 7 h0]
@[simp] theorem State.blur_set_otp (s : State) (x0 : _) (m : Nat) (h0 : 256 &&& m = 256) : ({ s with otp := x0 } : State).blur m = s.blur m := by
  simp [State.blur, bit_of_and 8 h0]
@[simp] theorem State.blur_set_plane (s : State) (x0 : _) (m : Nat) (h0 : 512 &&& m = 512) : ({ s with plane := x0 } : State).blur m = s.blur m := by
  simp [State.blur, bit_of_and 9 h0]
@[simp] theorem State.blur_set_escrow (s : State) (x0 : _) (m : Nat) (h0 : 1024 &&& m = 1024) : ({ s with escrow := x0 } : State).blur m = s.blur m := by
  simp [State.blur, bit_of_and 10 h0]
@[simp] theorem State.blur_set_vlt (s : State) (x0 : _) (m : Nat) (h0 : 2048 &&& m = 2048) : ({ s with vlt := x0 } : State).blur m = s.blur m := by
  simp [State.blur, bit_of_and 11 h0]
@[simp] theorem State.blur_set_pwr (s : State) (x0 : _) (m : Nat) (h0 : 4096 &&& m = 4096) : ({ s with pwr := x0 } : State).blur m = s.blur m := by
  simp [State.blur, bit_of_and 12 h0]
@[simp] theorem State.blur_set_clk (s : State) (x0 : _) (m : Nat) (h0 : 8192 &&& m = 8192) : ({ s with clk := x0 } : State).blur m = s.blur m := by
  simp [State.blur, bit_of_and 13 h0]
@[simp] theorem State.blur_set_aud (s : State) (x0 : _) (m : Nat) (h0 : 16384 &&& m = 16384) : ({ s with aud := x0 } : State).blur m = s.blur m := by
  simp [State.blur, bit_of_and 14 h0]
@[simp] theorem State.blur_set_ch (s : State) (x0 : _) (m : Nat) (h0 : 32768 &&& m = 32768) : ({ s with ch := x0 } : State).blur m = s.blur m := by
  simp [State.blur, bit_of_and 15 h0]
@[simp] theorem State.blur_set_th (s : State) (x0 : _) (m : Nat) (h0 : 65536 &&& m = 65536) : ({ s with th := x0 } : State).blur m = s.blur m := by
  simp [State.blur, bit_of_and 16 h0]
@[simp] theorem State.blur_set_lnk (s : State) (x0 : _) (m : Nat) (h0 : 131072 &&& m = 131072) : ({ s with lnk := x0 } : State).blur m = s.blur m := by
  simp [State.blur, bit_of_and 17 h0]
@[simp] theorem State.blur_set_ing (s : State) (x0 : _) (m : Nat) (h0 : 262144 &&& m = 262144) : ({ s with ing := x0 } : State).blur m = s.blur m := by
  simp [State.blur, bit_of_and 18 h0]
@[simp] theorem State.blur_set_sch (s : State) (x0 : _) (m : Nat) (h0 : 524288 &&& m = 524288) : ({ s with sch := x0 } : State).blur m = s.blur m := by
  simp [State.blur, bit_of_and 19 h0]
@[simp] theorem State.blur_set_pix (s : State) (x0 : _) (m : Nat) (h0 : 1048576 &&& m = 1048576) : ({ s with pix := x0 } : State).blur m = s.blur m := by
  simp [State.blur, bit_of_and 20 h0]
@[simp] theorem State.blur_set_cor (s : State) (x0 : _) (m : Nat) (h0 : 2097152 &&& m = 2097152) : ({ s with cor := x0 } : State).blur m = s.blur m := by
  simp [State.blur, bit_of_and 21 h0]
@[simp] theorem State.blur_set_cmp (s : State) (x0 : _) (m : Nat) (h0 : 4194304 &&& m = 4194304) : ({ s with cmp := x0 } : State).blur m = s.blur m := by
  simp [State.blur, bit_of_and 22 h0]
@[simp] theorem State.blur_set_vid (s : State) (x0 : _) (m : Nat) (h0 : 8388608 &&& m = 8388608) : ({ s with vid := x0 } : State).blur m = s.blur m := by
  simp [State.blur, bit_of_and 23 h0]
@[simp] theorem State.blur_set_mem (s : State) (x0 : _) (m : Nat) (h0 : 16777216 &&& m = 16777216) : ({ s with mem := x0 } : State).blur m = s.blur m := by
  simp [State.blur, bit_of_and 24 h0]
@[simp] theorem State.blur_set_hst (s : State) (x0 : _) (m : Nat) (h0 : 33554432 &&& m = 33554432) : ({ s with hst := x0 } : State).blur m = s.blur m := by
  simp [State.blur, bit_of_and 25 h0]
@[simp] theorem State.blur_set_net (s : State) (x0 : _) (m : Nat) (h0 : 67108864 &&& m = 67108864) : ({ s with net := x0 } : State).blur m = s.blur m := by
  simp [State.blur, bit_of_and 26 h0]
@[simp] theorem State.blur_set_out (s : State) (x0 : _) (m : Nat) (h0 : 134217728 &&& m = 134217728) : ({ s with out := x0 } : State).blur m = s.blur m := by
  simp [State.blur, bit_of_and 27 h0]
@[simp] theorem State.blur_set_tap (s : State) (x0 : _) (m : Nat) (h0 : 268435456 &&& m = 268435456) : ({ s with tap := x0 } : State).blur m = s.blur m := by
  simp [State.blur, bit_of_and 28 h0]
@[simp] theorem State.blur_set_rdata (s : State) (x0 : _) (m : Nat) (h0 : 536870912 &&& m = 536870912) : ({ s with rdata := x0 } : State).blur m = s.blur m := by
  simp [State.blur, bit_of_and 29 h0]
@[simp] theorem State.blur_set_rbytes (s : State) (x0 : _) (m : Nat) (h0 : 1073741824 &&& m = 1073741824) : ({ s with rbytes := x0 } : State).blur m = s.blur m := by
  simp [State.blur, bit_of_and 30 h0]
@[simp] theorem State.blur_set_pending (s : State) (x0 : _) (m : Nat) (h0 : 2147483648 &&& m = 2147483648) : ({ s with pending := x0 } : State).blur m = s.blur m := by
  simp [State.blur, bit_of_and 31 h0]

@[simp] theorem State.blur_ite (m : Nat) (c : Prop) [Decidable c] (a b : State) :
    (if c then a else b).blur m = if c then a.blur m else b.blur m := by split <;> rfl

@[simp] theorem State.blur_ite_fst {α : Type} (m : Nat) (c : Prop) [Decidable c] (a b : State × α) :
    (if c then a else b).1.blur m = if c then a.1.blur m else b.1.blur m := by split <;> rfl

@[simp] theorem State.blur_ite_snd {α : Type} (m : Nat) (c : Prop) [Decidable c] (a b : α × State) :
    (if c then a else b).2.blur m = if c then a.2.blur m else b.2.blur m := by split <;> rfl

/-- The outcome with its next state blurred. -/
def outBlur (m : Nat) : Host.Outcome State Fault Refusal → Option State
  | .next t => some (t.blur m)
  | _ => none

@[simp] theorem outBlur_next (m : Nat) (t : State) : outBlur m (.next t) = some (t.blur m) := rfl

@[simp] theorem outBlur_ite (m : Nat) (c : Prop) [Decidable c] (a b : Host.Outcome State Fault Refusal) :
    outBlur m (if c then a else b) = if c then outBlur m a else outBlur m b := by split <;> rfl

theorem outBlur_mono {m n : Nat} {o : Host.Outcome State Fault Refusal} {s : State} (h : outBlur m o = some (s.blur m))
    (hm : m &&& n = m) : outBlur n o = some (s.blur n) := by
  cases o with
  | next t =>
    simp only [outBlur_next, Option.some.injEq] at h ⊢
    exact State.blur_mono h hm
  | fault r => cases h
  | refused r => cases h

theorem outBlur_eq {m : Nat} {o : Host.Outcome State Fault Refusal} {s t : State} (h : outBlur m o = some (s.blur m))
    (ht : o = .next t) : t.blur m = s.blur m := by
  subst ht; simpa using h

@[simp] theorem foldl_blur {α : Type} (m : Nat) (f : State → α → State) (h : ∀ t x, (f t x).blur m = t.blur m) (l : List α)
    (s : State) : (l.foldl f s).blur m = s.blur m := by
  induction l generalizing s with
  | nil => rfl
  | cons a l ih => rw [List.foldl_cons, ih, h]

@[simp] theorem State.forEach_blur {α : Type} (m : Nat) (s : State) (l : List α) (f : State → α → State)
    (h : ∀ t x, (f t x).blur m = t.blur m) : (s.forEach l f).blur m = s.blur m := foldl_blur m f h l s

@[simp] theorem foldl_fst_blur {α β : Type} (m : Nat) (f : State × β → α → State × β)
    (h : ∀ t x, (f t x).1.blur m = t.1.blur m) (l : List α) (t : State × β) : (l.foldl f t).1.blur m = t.1.blur m := by
  induction l generalizing t with
  | nil => rfl
  | cons a l ih => rw [List.foldl_cons, ih, h]

/-- A pair read off an operation that keeps a blur: its state keeps it too. -/
theorem blur_of_fst {β : Type} {m : Nat} {r : State × β} {s t : State} {b : β} (h : r.1.blur m = s.blur m) (e : r = (t, b)) :
    t.blur m = s.blur m := by rw [e] at h; exact h

theorem blur_of_snd {β : Type} {m : Nat} {r : β × State} {s t : State} {b : β} (h : r.2.blur m = s.blur m) (e : r = (b, t)) :
    t.blur m = s.blur m := by rw [e] at h; exact h

end Sys2Proof.Machine
end

