-- ==== Sys2Proof/Laws/FrameOps.lean ====
section
/-! SUPPORT. The fields that the operations of Ops can change (see Laws/Frame.lean). -/

set_option Elab.async false
set_option linter.unusedTactic false
set_option linter.unreachableTactic false

namespace Sys2Proof.Machine

open Sys2Proof

@[simp] theorem State.wr_blur (s : State) (a : Nat) (v : Word) (mk_ : Nat) (hmk : 16 &&& mk_ = 16) : (State.wr s a v).blur mk_ = s.blur mk_ := by
  refine State.blur_mono (m := 16) ?_ hmk
  unfold State.wr
  first | (simp; done) | ((repeat' split) <;> first | with_reducible rfl | (simp; done) | (simp_all; done))
@[simp] theorem State.setFld_blur (s : State) (a : Nat) (lo : Nat) (w : Nat) (n : Nat) (mk_ : Nat) (hmk : 16 &&& mk_ = 16) : (State.setFld s a lo w n).blur mk_ = s.blur mk_ := by
  refine State.blur_mono (m := 16) ?_ hmk
  unfold State.setFld
  first | (simp; done) | ((repeat' split) <;> first | with_reducible rfl | (simp; done) | (simp_all; done))
@[simp] theorem State.setBit_blur (s : State) (a : Nat) (i : Nat) (b : Bool) (mk_ : Nat) (hmk : 16 &&& mk_ = 16) : (State.setBit s a i b).blur mk_ = s.blur mk_ := by
  refine State.blur_mono (m := 16) ?_ hmk
  unfold State.setBit
  first | (simp; done) | ((repeat' split) <;> first | with_reducible rfl | (simp; done) | (simp_all; done))
@[simp] theorem State.countN_blur (s : State) (a : Nat) (n : Nat) (mk_ : Nat) (hmk : 16 &&& mk_ = 16) : (State.countN s a n).blur mk_ = s.blur mk_ := by
  refine State.blur_mono (m := 16) ?_ hmk
  unfold State.countN
  first | (simp; done) | ((repeat' split) <;> first | with_reducible rfl | (simp; done) | (simp_all; done))
@[simp] theorem State.count_blur (s : State) (a : Nat) (mk_ : Nat) (hmk : 16 &&& mk_ = 16) : (State.count s a).blur mk_ = s.blur mk_ := by
  refine State.blur_mono (m := 16) ?_ hmk
  unfold State.count
  first | (simp; done) | ((repeat' split) <;> first | with_reducible rfl | (simp; done) | (simp_all; done))
@[simp] theorem State.setShd_blur (s : State) (a : Nat) (v : Word) (mk_ : Nat) (hmk : 32 &&& mk_ = 32) : (State.setShd s a v).blur mk_ = s.blur mk_ := by
  refine State.blur_mono (m := 32) ?_ hmk
  unfold State.setShd
  first | (simp; done) | ((repeat' split) <;> first | with_reducible rfl | (simp; done) | (simp_all; done))
@[simp] theorem State.setLive_blur (s : State) (a : Nat) (v : BitVec 64) (mk_ : Nat) (hmk : 64 &&& mk_ = 64) : (State.setLive s a v).blur mk_ = s.blur mk_ := by
  refine State.blur_mono (m := 64) ?_ hmk
  unfold State.setLive
  first | (simp; done) | ((repeat' split) <;> first | with_reducible rfl | (simp; done) | (simp_all; done))
@[simp] theorem State.commit_blur (s : State) (a : Nat) (mk_ : Nat) (hmk : 16 &&& mk_ = 16) : (State.commit s a).blur mk_ = s.blur mk_ := by
  refine State.blur_mono (m := 16) ?_ hmk
  unfold State.commit
  first | (simp; done) | ((repeat' split) <;> first | with_reducible rfl | (simp; done) | (simp_all; done))
@[simp] theorem State.syncFence_blur (s : State) (c : Nat) (mk_ : Nat) (hmk : 16 &&& mk_ = 16) : (State.syncFence s c).blur mk_ = s.blur mk_ := by
  refine State.blur_mono (m := 16) ?_ hmk
  unfold State.syncFence
  first | (simp; done) | ((repeat' split) <;> first | with_reducible rfl | (simp; done) | (simp_all; done))
@[simp] theorem State.setFence_blur (s : State) (c : Nat) (u : Nat) (b : Bool) (mk_ : Nat) (hmk : 16 &&& mk_ = 16) : (State.setFence s c u b).blur mk_ = s.blur mk_ := by
  refine State.blur_mono (m := 16) ?_ hmk
  unfold State.setFence
  first | (simp; done) | ((repeat' split) <;> first | with_reducible rfl | (simp; done) | (simp_all; done))
@[simp] theorem State.toChannel_blur (s : State) (n : Nat) (lin : BitVec 64) (mk_ : Nat) (hmk : 32768 &&& mk_ = 32768) : (State.toChannel s n lin).blur mk_ = s.blur mk_ := by
  refine State.blur_mono (m := 32768) ?_ hmk
  unfold State.toChannel
  first | (simp; done) | ((repeat' split) <;> first | with_reducible rfl | (simp; done) | (simp_all; done))
@[simp] theorem State.raiseLin_blur (s : State) (x : Nat) (u : Nat) (lin : BitVec 64) (mk_ : Nat) (hmk : 49152 &&& mk_ = 49152) : (State.raiseLin s x u lin).blur mk_ = s.blur mk_ := by
  refine State.blur_mono (m := 49152) ?_ hmk
  unfold State.raiseLin
  first | (simp; done) | ((repeat' split) <;> first | with_reducible rfl | (simp; done) | (simp_all; done))
@[simp] theorem State.raise_blur (s : State) (x : Nat) (u : Nat) (mk_ : Nat) (hmk : 49152 &&& mk_ = 49152) : (State.raise s x u).blur mk_ = s.blur mk_ := by
  refine State.blur_mono (m := 49152) ?_ hmk
  unfold State.raise
  first | (simp; done) | ((repeat' split) <;> first | with_reducible rfl | (simp; done) | (simp_all; done))
@[simp] theorem State.violation_blur (s : State) (a : Nat) (mk_ : Nat) (hmk : 49168 &&& mk_ = 49168) : (State.violation s a).blur mk_ = s.blur mk_ := by
  refine State.blur_mono (m := 49168) ?_ hmk
  unfold State.violation
  first | (simp; done) | ((repeat' split) <;> first | with_reducible rfl | (simp; done) | (simp_all; done))
@[simp] theorem State.loadError_blur (s : State) (err : Word) (mk_ : Nat) (hmk : 49168 &&& mk_ = 49168) : (State.loadError s err).blur mk_ = s.blur mk_ := by
  refine State.blur_mono (m := 49168) ?_ hmk
  unfold State.loadError
  first | (simp; done) | ((repeat' split) <;> first | with_reducible rfl | (simp; done) | (simp_all; done))

end Sys2Proof.Machine
end

