-- ==== Sys2Proof/Laws/FrameHostBase.lean ====
section
/-! SUPPORT. The fields that the operations of HostBase can change (see Laws/Frame.lean). -/

set_option Elab.async false
set_option linter.unusedTactic false
set_option linter.unreachableTactic false

namespace Sys2Proof.Machine

open Sys2Proof

@[simp] theorem State.setHst_blur (s : State) (h : Hst) (mk_ : Nat) (hmk : 33554432 &&& mk_ = 33554432) : (State.setHst s h).blur mk_ = s.blur mk_ := by
  refine State.blur_mono (m := 33554432) ?_ hmk
  unfold State.setHst
  first | (simp; done) | ((repeat' split) <;> first | with_reducible rfl | (simp; done) | (simp_all; done))
@[simp] theorem State.msix_blur (s : State) (v : Nat) (mk_ : Nat) (hmk : 33570816 &&& mk_ = 33570816) : (State.msix s v).blur mk_ = s.blur mk_ := by
  refine State.blur_mono (m := 33570816) ?_ hmk
  unfold State.msix
  first | (simp; done) | ((repeat' split) <;> first | with_reducible rfl | (simp; done) | (simp_all; done))
@[simp] theorem State.mxWrite_blur (s : State) (k : Nat) (w : Word) (mk_ : Nat) (hmk : 33570816 &&& mk_ = 33570816) : (State.mxWrite s k w).blur mk_ = s.blur mk_ := by
  refine State.blur_mono (m := 33570816) ?_ hmk
  unfold State.mxWrite
  first | (simp; done) | ((repeat' split) <;> first | with_reducible rfl | (simp; done) | (simp_all; done))
@[simp] theorem State.setSq_blur (s : State) (q : Nat) (v : Option Sq) (mk_ : Nat) (hmk : 33554432 &&& mk_ = 33554432) : (State.setSq s q v).blur mk_ = s.blur mk_ := by
  refine State.blur_mono (m := 33554432) ?_ hmk
  unfold State.setSq
  first | (simp; done) | ((repeat' split) <;> first | with_reducible rfl | (simp; done) | (simp_all; done))
@[simp] theorem State.setCq_blur (s : State) (q : Nat) (v : Option Cq) (mk_ : Nat) (hmk : 33554432 &&& mk_ = 33554432) : (State.setCq s q v).blur mk_ = s.blur mk_ := by
  refine State.blur_mono (m := 33554432) ?_ hmk
  unfold State.setCq
  first | (simp; done) | ((repeat' split) <;> first | with_reducible rfl | (simp; done) | (simp_all; done))
@[simp] theorem State.syncTeller_blur (s : State) (mk_ : Nat) (hmk : 16 &&& mk_ = 16) : (State.syncTeller s).blur mk_ = s.blur mk_ := by
  refine State.blur_mono (m := 16) ?_ hmk
  unfold State.syncTeller
  first | (simp; done) | ((repeat' split) <;> first | with_reducible rfl | (simp; done) | (simp_all; done))
@[simp] theorem State.setTeller_blur (s : State) (n : Nat) (mk_ : Nat) (hmk : 16 &&& mk_ = 16) : (State.setTeller s n).blur mk_ = s.blur mk_ := by
  refine State.blur_mono (m := 16) ?_ hmk
  unfold State.setTeller
  first | (simp; done) | ((repeat' split) <;> first | with_reducible rfl | (simp; done) | (simp_all; done))
@[simp] theorem State.pauseTeller_blur (s : State) (mk_ : Nat) (hmk : 49168 &&& mk_ = 49168) : (State.pauseTeller s).blur mk_ = s.blur mk_ := by
  refine State.blur_mono (m := 49168) ?_ hmk
  unfold State.pauseTeller
  first | (simp; done) | ((repeat' split) <;> first | with_reducible rfl | (simp; done) | (simp_all; done))
@[simp] theorem State.resumeTeller_blur (s : State) (mk_ : Nat) (hmk : 16 &&& mk_ = 16) : (State.resumeTeller s).blur mk_ = s.blur mk_ := by
  refine State.blur_mono (m := 16) ?_ hmk
  unfold State.resumeTeller
  first | (simp; done) | ((repeat' split) <;> first | with_reducible rfl | (simp; done) | (simp_all; done))
@[simp] theorem State.modNcmd_blur (s : State) (q : Nat) (cid : BitVec 16) (f : NCmd → NCmd) (mk_ : Nat) (hmk : 33554448 &&& mk_ = 33554448) : (State.modNcmd s q cid f).blur mk_ = s.blur mk_ := by
  refine State.blur_mono (m := 33554448) ?_ hmk
  unfold State.modNcmd
  first | (simp; done) | ((repeat' split) <;> first | with_reducible rfl | (simp; done) | (simp_all; done))
@[simp] theorem State.complete_blur (s : State) (q : Nat) (cid : BitVec 16) (status : Nat) (dnr : Bool) (dw0 : Word) (mk_ : Nat) (hmk : 33570832 &&& mk_ = 33570832) : (State.complete s q cid status dnr dw0).blur mk_ = s.blur mk_ := by
  refine State.blur_mono (m := 33570832) ?_ hmk
  unfold State.complete
  split
  · dsimp only
    split
    · simp
    · split <;> simp
  · rfl
@[simp] theorem State.completeOk_blur (s : State) (q : Nat) (cid : BitVec 16) (mk_ : Nat) (hmk : 33570832 &&& mk_ = 33570832) : (State.completeOk s q cid).blur mk_ = s.blur mk_ := by
  refine State.blur_mono (m := 33570832) ?_ hmk
  unfold State.completeOk
  first | (simp; done) | ((repeat' split) <;> first | with_reducible rfl | (simp; done) | (simp_all; done))
@[simp] theorem State.seqError_blur (s : State) (q : Nat) (cid : BitVec 16) (detail : Nat) (mk_ : Nat) (hmk : 33603600 &&& mk_ = 33603600) : (State.seqError s q cid detail).blur mk_ = s.blur mk_ := by
  refine State.blur_mono (m := 33603600) ?_ hmk
  unfold State.seqError
  first | (simp; done) | ((repeat' split) <;> first | with_reducible rfl | (simp; done) | (simp_all; done))
@[simp] theorem State.toHost_blur (s : State) (q : Nat) (cid : BitVec 16) (d : List Byte) (mk_ : Nat) (hmk : 33554432 &&& mk_ = 33554432) : (State.toHost s q cid d).blur mk_ = s.blur mk_ := by
  refine State.blur_mono (m := 33554432) ?_ hmk
  unfold State.toHost
  first | (simp; done) | ((repeat' split) <;> first | with_reducible rfl | (simp; done) | (simp_all; done))
@[simp] theorem State.postAer_blur (s : State) (dw0 : Nat) (mk_ : Nat) (hmk : 33570832 &&& mk_ = 33570832) : (State.postAer s dw0).blur mk_ = s.blur mk_ := by
  refine State.blur_mono (m := 33570832) ?_ hmk
  unfold State.postAer
  first | (simp; done) | ((repeat' split) <;> first | with_reducible rfl | (simp; done) | (simp_all; done))
@[simp] theorem State.aerTemp_blur (s : State) (mk_ : Nat) (hmk : 33570832 &&& mk_ = 33570832) : (State.aerTemp s).blur mk_ = s.blur mk_ := by
  refine State.blur_mono (m := 33570832) ?_ hmk
  unfold State.aerTemp
  first | (simp; done) | ((repeat' split) <;> first | with_reducible rfl | (simp; done) | (simp_all; done))
@[simp] theorem State.aerNs_blur (s : State) (mk_ : Nat) (hmk : 33570832 &&& mk_ = 33570832) : (State.aerNs s).blur mk_ = s.blur mk_ := by
  refine State.blur_mono (m := 33570832) ?_ hmk
  unfold State.aerNs
  first | (simp; done) | ((repeat' split) <;> first | with_reducible rfl | (simp; done) | (simp_all; done))
@[simp] theorem State.aerFw_blur (s : State) (mk_ : Nat) (hmk : 33570832 &&& mk_ = 33570832) : (State.aerFw s).blur mk_ = s.blur mk_ := by
  refine State.blur_mono (m := 33570832) ?_ hmk
  unfold State.aerFw
  first | (simp; done) | ((repeat' split) <;> first | with_reducible rfl | (simp; done) | (simp_all; done))
@[simp] theorem State.aerFault_blur (s : State) (mk_ : Nat) (hmk : 33570832 &&& mk_ = 33570832) : (State.aerFault s).blur mk_ = s.blur mk_ := by
  refine State.blur_mono (m := 33570832) ?_ hmk
  unfold State.aerFault
  first | (simp; done) | ((repeat' split) <;> first | with_reducible rfl | (simp; done) | (simp_all; done))

end Sys2Proof.Machine
end

