-- ==== Sys2Proof/Laws/FrameMemory.lean ====
section
/-! SUPPORT. The fields that the operations of Memory can change (see Laws/Frame.lean). -/

set_option Elab.async false
set_option linter.unusedTactic false
set_option linter.unreachableTactic false

namespace Sys2Proof.Machine

open Sys2Proof

@[simp] theorem State.refuse_blur (s : State) (n : Nat) (mk_ : Nat) (hmk : 49168 &&& mk_ = 49168) : (State.refuse s n).blur mk_ = s.blur mk_ := by
  refine State.blur_mono (m := 49168) ?_ hmk
  unfold State.refuse
  first | (simp; done) | ((repeat' split) <;> first | with_reducible rfl | (simp; done) | (simp_all; done))
@[simp] theorem State.setInj_blur (s : State) (sc : Nat) (n : Nat) (mk_ : Nat) (hmk : 16400 &&& mk_ = 16400) : (State.setInj s sc n).blur mk_ = s.blur mk_ := by
  refine State.blur_mono (m := 16400) ?_ hmk
  unfold State.setInj
  first | (simp; done) | ((repeat' split) <;> first | with_reducible rfl | (simp; done) | (simp_all; done))
@[simp] theorem State.putBurst_blur (s : State) (sc : Nat) (loc : Nat) (bytes : List Byte) (mk_ : Nat) (hmk : 16826384 &&& mk_ = 16826384) : (State.putBurst s sc loc bytes).blur mk_ = s.blur mk_ := by
  refine State.blur_mono (m := 16826384) ?_ hmk
  unfold State.putBurst
  first | (simp; done) | ((repeat' split) <;> first | with_reducible rfl | (simp; done) | (simp_all; done))
@[simp] theorem State.settle_blur (s : State) (sc : Nat) (loc : Nat) (mk_ : Nat) (hmk : 16826384 &&& mk_ = 16826384) : (State.settle s sc loc).blur mk_ = s.blur mk_ := by
  refine State.blur_mono (m := 16826384) ?_ hmk
  unfold State.settle
  first | (simp; done) | ((repeat' split) <;> first | with_reducible rfl | (simp; done) | (simp_all; done))
@[simp] theorem State.memWrite_blur (s : State) (a : Nat) (bytes : List Byte) (mk_ : Nat) (hmk : 16826384 &&& mk_ = 16826384) : (State.memWrite s a bytes).1.blur mk_ = s.blur mk_ := by
  refine State.blur_mono (m := 16826384) ?_ hmk
  unfold State.memWrite
  refine (State.refuse_blur _ _ _ rfl).trans (foldl_fst_blur _ _ (fun t x => ?_) _ _)
  split <;> simp
@[simp] theorem State.decodeBurst_blur (s : State) (sc : Nat) (loc : Nat) (data : List Byte) (e : List Nat) (mk_ : Nat) (hmk : 16826448 &&& mk_ = 16826448) : (State.decodeBurst s sc loc data e).1.blur mk_ = s.blur mk_ := by
  refine State.blur_mono (m := 16826448) ?_ hmk
  unfold State.decodeBurst
  first | (simp; done) | ((repeat' split) <;> first | with_reducible rfl | (simp; done) | (simp_all; done))
@[simp] theorem State.memReadAs_blur (s : State) (early : Bool) (a : Nat) (n : Nat) (mk_ : Nat) (hmk : 16826448 &&& mk_ = 16826448) : (State.memReadAs s early a n).1.blur mk_ = s.blur mk_ := by
  refine State.blur_mono (m := 16826448) ?_ hmk
  unfold State.memReadAs
  refine (State.refuse_blur _ _ _ rfl).trans (foldl_fst_blur _ _ (fun t x => ?_) _ _)
  split <;> simp
@[simp] theorem State.memRead_blur (s : State) (a : Nat) (n : Nat) (mk_ : Nat) (hmk : 16826448 &&& mk_ = 16826448) : (State.memRead s a n).1.blur mk_ = s.blur mk_ := by
  refine State.blur_mono (m := 16826448) ?_ hmk
  unfold State.memRead
  first | (simp; done) | ((repeat' split) <;> first | with_reducible rfl | (simp; done) | (simp_all; done))
@[simp] theorem State.setPurse_blur (s : State) (p : Nat) (n : Nat) (mk_ : Nat) (hmk : 16777232 &&& mk_ = 16777232) : (State.setPurse s p n).blur mk_ = s.blur mk_ := by
  refine State.blur_mono (m := 16777232) ?_ hmk
  unfold State.setPurse
  first | (simp; done) | ((repeat' split) <;> first | with_reducible rfl | (simp; done) | (simp_all; done))
@[simp] theorem State.takeCoin_blur (s : State) (p : Nat) (mk_ : Nat) (hmk : 16777232 &&& mk_ = 16777232) : (State.takeCoin s p).blur mk_ = s.blur mk_ := by
  refine State.blur_mono (m := 16777232) ?_ hmk
  unfold State.takeCoin
  first | (simp; done) | ((repeat' split) <;> first | with_reducible rfl | (simp; done) | (simp_all; done))
@[simp] theorem State.serveBulk_blur (s : State) (x0 : Nat) (mk_ : Nat) (hmk : 16777232 &&& mk_ = 16777232) : (State.serveBulk s x0).blur mk_ = s.blur mk_ := by
  refine State.blur_mono (m := 16777232) ?_ hmk
  induction x0 generalizing s with
  | zero => rfl
  | succ n ih =>
    unfold State.serveBulk
    split
    · rfl
    · rw [ih]; simp
@[simp] theorem State.serve_blur (s : State) (mk_ : Nat) (hmk : 16777232 &&& mk_ = 16777232) : (State.serve s).blur mk_ = s.blur mk_ := by
  refine State.blur_mono (m := 16777232) ?_ hmk
  unfold State.serve
  first | (simp; done) | ((repeat' split) <;> first | with_reducible rfl | (simp; done) | (simp_all; done))
@[simp] theorem State.spend_blur (s : State) (p : Nat) (n : Nat) (mk_ : Nat) (hmk : 16777232 &&& mk_ = 16777232) : (State.spend s p n).blur mk_ = s.blur mk_ := by
  refine State.blur_mono (m := 16777232) ?_ hmk
  unfold State.spend
  first | (simp; done) | ((repeat' split) <;> first | with_reducible rfl | (simp; done) | (simp_all; done))
@[simp] theorem State.bulkWrite_blur (s : State) (p : Nat) (a : Nat) (bytes : List Byte) (mk_ : Nat) (hmk : 16826384 &&& mk_ = 16826384) : (State.bulkWrite s p a bytes).blur mk_ = s.blur mk_ := by
  refine State.blur_mono (m := 16826384) ?_ hmk
  unfold State.bulkWrite
  first | (simp; done) | ((repeat' split) <;> first | with_reducible rfl | (simp; done) | (simp_all; done))
@[simp] theorem State.bulkRead_blur (s : State) (p : Nat) (a : Nat) (n : Nat) (mk_ : Nat) (hmk : 16826448 &&& mk_ = 16826448) : (State.bulkRead s p a n).blur mk_ = s.blur mk_ := by
  refine State.blur_mono (m := 16826448) ?_ hmk
  unfold State.bulkRead
  first | (simp; done) | ((repeat' split) <;> first | with_reducible rfl | (simp; done) | (simp_all; done))
@[simp] theorem State.paced_blur (s : State) (p : Nat) (f : State → State) (mk_ : Nat) (hf : ∀ t, (f t).blur mk_ = t.blur mk_) : (State.paced s p f).blur mk_ = s.blur mk_ := by
  unfold State.paced
  split
  · rfl
  · exact hf _
@[simp] theorem State.refreshBank_blur (s : State) (sc : Nat) (b : Nat) (mk_ : Nat) (hmk : 49168 &&& mk_ = 49168) : (State.refreshBank s sc b).blur mk_ = s.blur mk_ := by
  refine State.blur_mono (m := 49168) ?_ hmk
  unfold State.refreshBank
  first | (simp; done) | ((repeat' split) <;> first | with_reducible rfl | (simp; done) | (simp_all; done))
@[simp] theorem State.refreshAll_blur (s : State) (mk_ : Nat) (hmk : 49168 &&& mk_ = 49168) : (State.refreshAll s).blur mk_ = s.blur mk_ := by
  refine State.blur_mono (m := 49168) ?_ hmk
  unfold State.refreshAll
  refine State.forEach_blur _ _ _ _ (fun t x => State.forEach_blur _ _ _ _ (fun u y => ?_))
  simp
@[simp] theorem State.setOd_blur (s : State) (port : Nat) (on : Bool) (mk_ : Nat) (hmk : 16826384 &&& mk_ = 16826384) : (State.setOd s port on).blur mk_ = s.blur mk_ := by
  refine State.blur_mono (m := 16826384) ?_ hmk
  unfold State.setOd
  first | (simp; done) | ((repeat' split) <;> first | with_reducible rfl | (simp; done) | (simp_all; done))
@[simp] theorem State.request_blur (s : State) (port : Nat) (write : Bool) (a : Nat) (len : Nat) (data : List Byte) (locked : Bool) (early : Bool) (mk_ : Nat) (hmk : 16826384 &&& mk_ = 16826384) : (State.request s port write a len data locked early).blur mk_ = s.blur mk_ := by
  refine State.blur_mono (m := 16826384) ?_ hmk
  unfold State.request
  refine (State.serve_blur _ _ rfl).trans ((State.refuse_blur _ _ _ rfl).trans ((foldl_fst_blur _ _ (fun t x => ?_) _ _).trans ?_))
  · dsimp only
    split <;> simp
  · simp
@[simp] theorem execPortRequest_blur (port : Fin 16) (isWrite : Bool) (addr : Nat) (len : Nat) (data : List Byte) (locked : Bool) (s : State) (mk_ : Nat) (hmk : 16826384 &&& mk_ = 16826384) : outBlur mk_ (execPortRequest port isWrite addr len data locked s) = some (s.blur mk_) := by
  refine outBlur_mono (m := 16826384) ?_ hmk
  unfold execPortRequest
  first | (simp; done) | ((repeat' split) <;> first | with_reducible rfl | (simp; done) | (simp_all; done))
@[simp] theorem State.retire_blur (s : State) (sc : Nat) (bank : Nat) (mk_ : Nat) (hmk : 16826384 &&& mk_ = 16826384) : (State.retire s sc bank).blur mk_ = s.blur mk_ := by
  refine State.blur_mono (m := 16826384) ?_ hmk
  unfold State.retire
  first | (simp; done) | ((repeat' split) <;> first | with_reducible rfl | (simp; done) | (simp_all; done))
@[simp] theorem State.readDecode_blur (s : State) (sc : Nat) (loc : Nat) (errs : List (Nat × Nat)) (mk_ : Nat) (hmk : 16826448 &&& mk_ = 16826448) : (State.readDecode s sc loc errs).blur mk_ = s.blur mk_ := by
  refine State.blur_mono (m := 16826448) ?_ hmk
  unfold State.readDecode
  first | (simp; done) | ((repeat' split) <;> first | with_reducible rfl | (simp; done) | (simp_all; done))
@[simp] theorem execReadDecode_blur (sc : Fin 16) (local_ : Nat) (errs : List (Nat × Nat)) (s : State) (mk_ : Nat) (hmk : 16826448 &&& mk_ = 16826448) : outBlur mk_ (execReadDecode sc local_ errs s) = some (s.blur mk_) := by
  refine outBlur_mono (m := 16826448) ?_ hmk
  unfold execReadDecode
  first | (simp; done) | ((repeat' split) <;> first | with_reducible rfl | (simp; done) | (simp_all; done))
@[simp] theorem execRefreshDue_blur (sc : Fin 16) (b : Fin 4) (s : State) (mk_ : Nat) (hmk : 49168 &&& mk_ = 49168) : outBlur mk_ (execRefreshDue sc b s) = some (s.blur mk_) := by
  refine outBlur_mono (m := 49168) ?_ hmk
  unfold execRefreshDue
  first | (simp; done) | ((repeat' split) <;> first | with_reducible rfl | (simp; done) | (simp_all; done))
@[simp] theorem execCoinRefill_blur (s : State) (mk_ : Nat) (hmk : 16777232 &&& mk_ = 16777232) : outBlur mk_ (execCoinRefill s) = some (s.blur mk_) := by
  refine outBlur_mono (m := 16777232) ?_ hmk
  unfold execCoinRefill
  first | (simp; done) | ((repeat' split) <;> first | with_reducible rfl | (simp; done) | (simp_all; done))
@[simp] theorem execFloorEntry_blur (s : State) (mk_ : Nat) (hmk : 16826384 &&& mk_ = 16826384) : outBlur mk_ (execFloorEntry s) = some (s.blur mk_) := by
  refine outBlur_mono (m := 16826384) ?_ hmk
  unfold execFloorEntry
  first | (simp; done) | ((repeat' split) <;> first | with_reducible rfl | (simp; done) | (simp_all; done))
@[simp] theorem State.ecsRead_blur (s : State) (sc : Nat) (mk_ : Nat) (hmk : 16826384 &&& mk_ = 16826384) : (State.ecsRead s sc).blur mk_ = s.blur mk_ := by
  refine State.blur_mono (m := 16826384) ?_ hmk
  unfold State.ecsRead
  first | (simp; done) | ((repeat' split) <;> first | with_reducible rfl | (simp; done) | (simp_all; done))
@[simp] theorem State.scrubEnd_blur (s : State) (mk_ : Nat) (hmk : 16826384 &&& mk_ = 16826384) : (State.scrubEnd s).blur mk_ = s.blur mk_ := by
  refine State.blur_mono (m := 16826384) ?_ hmk
  unfold State.scrubEnd
  first | (simp; done) | ((repeat' split) <;> first | with_reducible rfl | (simp; done) | (simp_all; done))
@[simp] theorem State.scrubRead_blur (s : State) (sc : Nat) (errs : List (Nat × Nat)) (mk_ : Nat) (hmk : 16826448 &&& mk_ = 16826448) : (State.scrubRead s sc errs).blur mk_ = s.blur mk_ := by
  refine State.blur_mono (m := 16826448) ?_ hmk
  unfold State.scrubRead
  first | (simp; done) | ((repeat' split) <;> first | with_reducible rfl | (simp; done) | (simp_all; done))
@[simp] theorem execScrubRead_blur (sc : Fin 16) (errs : List (Nat × Nat)) (s : State) (mk_ : Nat) (hmk : 16826448 &&& mk_ = 16826448) : outBlur mk_ (execScrubRead sc errs s) = some (s.blur mk_) := by
  refine outBlur_mono (m := 16826448) ?_ hmk
  unfold execScrubRead
  first | (simp; done) | ((repeat' split) <;> first | with_reducible rfl | (simp; done) | (simp_all; done))
@[simp] theorem execPeriodicTraining_blur (sc : Fin 16) (drift : Int) (s : State) (mk_ : Nat) (hmk : 16777216 &&& mk_ = 16777216) : outBlur mk_ (execPeriodicTraining sc drift s) = some (s.blur mk_) := by
  refine outBlur_mono (m := 16777216) ?_ hmk
  unfold execPeriodicTraining
  first | (simp; done) | ((repeat' split) <;> first | with_reducible rfl | (simp; done) | (simp_all; done))
@[simp] theorem State.memReady_blur (s : State) (mk_ : Nat) (hmk : 16 &&& mk_ = 16) : (State.memReady s).blur mk_ = s.blur mk_ := by
  refine State.blur_mono (m := 16) ?_ hmk
  unfold State.memReady
  first | (simp; done) | ((repeat' split) <;> first | with_reducible rfl | (simp; done) | (simp_all; done))
@[simp] theorem State.scAll_blur (s : State) (st : Nat) (step : Nat) (mk_ : Nat) (hmk : 16 &&& mk_ = 16) : (State.scAll s st step).blur mk_ = s.blur mk_ := by
  refine State.blur_mono (m := 16) ?_ hmk
  unfold State.scAll
  first | (simp; done) | ((repeat' split) <;> first | with_reducible rfl | (simp; done) | (simp_all; done))
@[simp] theorem State.srBegin_blur (s : State) (mk_ : Nat) (hmk : 16 &&& mk_ = 16) : (State.srBegin s).blur mk_ = s.blur mk_ := by
  refine State.blur_mono (m := 16) ?_ hmk
  unfold State.srBegin
  first | (simp; done) | ((repeat' split) <;> first | with_reducible rfl | (simp; done) | (simp_all; done))
@[simp] theorem State.drainQueues_blur (s : State) (mk_ : Nat) (hmk : 16826448 &&& mk_ = 16826448) : (State.drainQueues s).blur mk_ = s.blur mk_ := by
  refine State.blur_mono (m := 16826448) ?_ hmk
  unfold State.drainQueues
  first | (simp; done) | ((repeat' split) <;> first | with_reducible rfl | (simp; done) | (simp_all; done))
@[simp] theorem State.srEntered_blur (s : State) (mk_ : Nat) (hmk : 16826448 &&& mk_ = 16826448) : (State.srEntered s).blur mk_ = s.blur mk_ := by
  refine State.blur_mono (m := 16826448) ?_ hmk
  unfold State.srEntered
  first | (simp; done) | ((repeat' split) <;> first | with_reducible rfl | (simp; done) | (simp_all; done))
@[simp] theorem State.srExit_blur (s : State) (mk_ : Nat) (hmk : 16 &&& mk_ = 16) : (State.srExit s).blur mk_ = s.blur mk_ := by
  refine State.blur_mono (m := 16) ?_ hmk
  unfold State.srExit
  first | (simp; done) | ((repeat' split) <;> first | with_reducible rfl | (simp; done) | (simp_all; done))
@[simp] theorem execSelfRefreshExit_blur (s : State) (mk_ : Nat) (hmk : 16 &&& mk_ = 16) : outBlur mk_ (execSelfRefreshExit s) = some (s.blur mk_) := by
  refine outBlur_mono (m := 16) ?_ hmk
  unfold execSelfRefreshExit
  first | (simp; done) | ((repeat' split) <;> first | with_reducible rfl | (simp; done) | (simp_all; done))
@[simp] theorem State.srExited_blur (s : State) (mk_ : Nat) (hmk : 49168 &&& mk_ = 49168) : (State.srExited s).blur mk_ = s.blur mk_ := by
  refine State.blur_mono (m := 49168) ?_ hmk
  unfold State.srExited
  first | (simp; done) | ((repeat' split) <;> first | with_reducible rfl | (simp; done) | (simp_all; done))
@[simp] theorem execSrExited_blur (s : State) (mk_ : Nat) (hmk : 49168 &&& mk_ = 49168) : outBlur mk_ (execSrExited s) = some (s.blur mk_) := by
  refine outBlur_mono (m := 49168) ?_ hmk
  unfold execSrExited
  first | (simp; done) | ((repeat' split) <;> first | with_reducible rfl | (simp; done) | (simp_all; done))
@[simp] theorem execDramHot_blur (sc : Fin 16) (s : State) (mk_ : Nat) (hmk : 16826384 &&& mk_ = 16826384) : outBlur mk_ (execDramHot sc s) = some (s.blur mk_) := by
  refine outBlur_mono (m := 16826384) ?_ hmk
  unfold execDramHot
  first | (simp; done) | ((repeat' split) <;> first | with_reducible rfl | (simp; done) | (simp_all; done))
@[simp] theorem execDramHotClear_blur (sc : Fin 16) (s : State) (mk_ : Nat) (hmk : 16777232 &&& mk_ = 16777232) : outBlur mk_ (execDramHotClear sc s) = some (s.blur mk_) := by
  refine outBlur_mono (m := 16777232) ?_ hmk
  unfold execDramHotClear
  first | (simp; done) | ((repeat' split) <;> first | with_reducible rfl | (simp; done) | (simp_all; done))
@[simp] theorem State.memLost_blur (s : State) (mk_ : Nat) (hmk : 16777216 &&& mk_ = 16777216) : (State.memLost s).blur mk_ = s.blur mk_ := by
  refine State.blur_mono (m := 16777216) ?_ hmk
  unfold State.memLost
  first | (simp; done) | ((repeat' split) <;> first | with_reducible rfl | (simp; done) | (simp_all; done))

end Sys2Proof.Machine
end

