-- ==== Sys2Proof/Laws/FrameCapture.lean ====
section
/-! SUPPORT. The fields that the operations of Capture can change (see Laws/Frame.lean). -/

set_option Elab.async false
set_option linter.unusedTactic false
set_option linter.unreachableTactic false

namespace Sys2Proof.Machine

open Sys2Proof

@[simp] theorem State.setAxis_blur (s : State) (n : Nat) (a : Axis) (mk_ : Nat) (hmk : 524288 &&& mk_ = 524288) : (State.setAxis s n a).blur mk_ = s.blur mk_ := by
  refine State.blur_mono (m := 524288) ?_ hmk
  unfold State.setAxis
  first | (simp; done) | ((repeat' split) <;> first | with_reducible rfl | (simp; done) | (simp_all; done))
@[simp] theorem State.syncCapture_blur (s : State) (mk_ : Nat) (hmk : 16 &&& mk_ = 16) : (State.syncCapture s).blur mk_ = s.blur mk_ := by
  refine State.blur_mono (m := 16) ?_ hmk
  unfold State.syncCapture
  first | (simp; done) | ((repeat' split) <;> first | with_reducible rfl | (simp; done) | (simp_all; done))
@[simp] theorem State.setWin_blur (s : State) (i : Nat) (st : Nat) (mk_ : Nat) (hmk : 16 &&& mk_ = 16) : (State.setWin s i st).blur mk_ = s.blur mk_ := by
  refine State.blur_mono (m := 16) ?_ hmk
  unfold State.setWin
  first | (simp; done) | ((repeat' split) <;> first | with_reducible rfl | (simp; done) | (simp_all; done))
@[simp] theorem State.setPart_blur (s : State) (p : Nat) (v : Part) (mk_ : Nat) (hmk : 262144 &&& mk_ = 262144) : (State.setPart s p v).blur mk_ = s.blur mk_ := by
  refine State.blur_mono (m := 262144) ?_ hmk
  unfold State.setPart
  first | (simp; done) | ((repeat' split) <;> first | with_reducible rfl | (simp; done) | (simp_all; done))
@[simp] theorem State.setFrames_blur (s : State) (l : List Frame) (mk_ : Nat) (hmk : 262144 &&& mk_ = 262144) : (State.setFrames s l).blur mk_ = s.blur mk_ := by
  refine State.blur_mono (m := 262144) ?_ hmk
  unfold State.setFrames
  first | (simp; done) | ((repeat' split) <;> first | with_reducible rfl | (simp; done) | (simp_all; done))
@[simp] theorem State.setSchStr_blur (s : State) (i : Nat) (v : SchStr) (mk_ : Nat) (hmk : 524288 &&& mk_ = 524288) : (State.setSchStr s i v).blur mk_ = s.blur mk_ := by
  refine State.blur_mono (m := 524288) ?_ hmk
  unfold State.setSchStr
  first | (simp; done) | ((repeat' split) <;> first | with_reducible rfl | (simp; done) | (simp_all; done))
@[simp] theorem State.applyCap_blur (s : State) (i : Nat) (step : Nat) (mk_ : Nat) (hmk : 524304 &&& mk_ = 524304) : (State.applyCap s i step).blur mk_ = s.blur mk_ := by
  refine State.blur_mono (m := 524304) ?_ hmk
  unfold State.applyCap
  first | (simp; done) | ((repeat' split) <;> first | with_reducible rfl | (simp; done) | (simp_all; done))

end Sys2Proof.Machine
end

