-- ==== Sys2Proof/Laws/FrameRecording.lean ====
section
/-! SUPPORT. The fields that the operations of Recording can change (see Laws/Frame.lean). -/

set_option Elab.async false
set_option linter.unusedTactic false
set_option linter.unreachableTactic false

namespace Sys2Proof.Machine

open Sys2Proof

@[simp] theorem State.takeSerial_blur (s : State) (mk_ : Nat) (hmk : 262208 &&& mk_ = 262208) : (State.takeSerial s).blur mk_ = s.blur mk_ := by
  refine State.blur_mono (m := 262208) ?_ hmk
  unfold State.takeSerial
  first | (simp; done) | ((repeat' split) <;> first | with_reducible rfl | (simp; done) | (simp_all; done))
@[simp] theorem State.modEntry_blur (s : State) (p : Nat) (serial : Nat) (f : Entry → Entry) (mk_ : Nat) (hmk : 262144 &&& mk_ = 262144) : (State.modEntry s p serial f).blur mk_ = s.blur mk_ := by
  refine State.blur_mono (m := 262144) ?_ hmk
  unfold State.modEntry
  first | (simp; done) | ((repeat' split) <;> first | with_reducible rfl | (simp; done) | (simp_all; done))
@[simp] theorem State.freeEntry_blur (s : State) (p : Nat) (e : Entry) (mk_ : Nat) (hmk : 262160 &&& mk_ = 262160) : (State.freeEntry s p e).blur mk_ = s.blur mk_ := by
  refine State.blur_mono (m := 262160) ?_ hmk
  unfold State.freeEntry
  first | (simp; done) | ((repeat' split) <;> first | with_reducible rfl | (simp; done) | (simp_all; done))
@[simp] theorem State.beginClose_blur (s : State) (i : Nat) (bits : Nat) (mk_ : Nat) (hmk : 262160 &&& mk_ = 262160) : (State.beginClose s i bits).blur mk_ = s.blur mk_ := by
  refine State.blur_mono (m := 262160) ?_ hmk
  unfold State.beginClose
  first | (simp; done) | ((repeat' split) <;> first | with_reducible rfl | (simp; done) | (simp_all; done))
@[simp] theorem State.makeSpace_blur (s : State) (i : Nat) (p : Nat) (len : Nat) (idxs : List Nat) (x0 : Nat) (mk_ : Nat) (hmk : 311312 &&& mk_ = 311312) : (State.makeSpace s i p len idxs x0).1.blur mk_ = s.blur mk_ := by
  refine State.blur_mono (m := 311312) ?_ hmk
  induction x0 generalizing s with
  | zero => rfl
  | succ n ih =>
    unfold State.makeSpace
    dsimp only
    split
    · rfl
    · rfl
    · split
      · simp
      · split
        · rfl
        · rw [ih]; simp
@[simp] theorem State.putEntry_blur (s : State) (p : Nat) (len : Nat) (e : Entry) (mk_ : Nat) (hmk : 262224 &&& mk_ = 262224) : (State.putEntry s p len e).blur mk_ = s.blur mk_ := by
  refine State.blur_mono (m := 262224) ?_ hmk
  unfold State.putEntry
  first | (simp; done) | ((repeat' split) <;> first | with_reducible rfl | (simp; done) | (simp_all; done))
@[simp] theorem State.place_blur (s : State) (i : Nat) (len : Nat) (e : Entry) (mk_ : Nat) (hmk : 311376 &&& mk_ = 311376) : (State.place s i len e).1.blur mk_ = s.blur mk_ := by
  refine State.blur_mono (m := 311376) ?_ hmk
  unfold State.place
  first | (simp; done) | ((repeat' split) <;> first | with_reducible rfl | (simp; done) | (simp_all; done))
@[simp] theorem State.toGap_blur (s : State) (p : Nat) (serial : Nat) (fl : BitVec 32) (mk_ : Nat) (hmk : 262144 &&& mk_ = 262144) : (State.toGap s p serial fl).blur mk_ = s.blur mk_ := by
  refine State.blur_mono (m := 262144) ?_ hmk
  unfold State.toGap
  first | (simp; done) | ((repeat' split) <;> first | with_reducible rfl | (simp; done) | (simp_all; done))
@[simp] theorem State.portPut_blur (s : State) (serial : Nat) (off : Nat) (b : List Byte) (mk_ : Nat) (hmk : 262144 &&& mk_ = 262144) : (State.portPut s serial off b).blur mk_ = s.blur mk_ := by
  refine State.blur_mono (m := 262144) ?_ hmk
  unfold State.portPut
  first | (simp; done) | ((repeat' split) <;> first | with_reducible rfl | (simp; done) | (simp_all; done))
@[simp] theorem State.slotWrite_blur (s : State) (f : Frame) (a : Nat) (b : List Byte) (mk_ : Nat) (hmk : 17088528 &&& mk_ = 17088528) : (State.slotWrite s f a b).blur mk_ = s.blur mk_ := by
  refine State.blur_mono (m := 17088528) ?_ hmk
  unfold State.slotWrite
  first | (simp; done) | ((repeat' split) <;> first | with_reducible rfl | (simp; done) | (simp_all; done))
@[simp] theorem State.portDrop_blur (s : State) (serial : Nat) (mk_ : Nat) (hmk : 262144 &&& mk_ = 262144) : (State.portDrop s serial).blur mk_ = s.blur mk_ := by
  refine State.blur_mono (m := 262144) ?_ hmk
  unfold State.portDrop
  first | (simp; done) | ((repeat' split) <;> first | with_reducible rfl | (simp; done) | (simp_all; done))
@[simp] theorem State.stripPut_blur (s : State) (n : Nat) (serial : Nat) (addr : Nat) (len : Nat) (off : Nat) (b : List Byte) (mk_ : Nat) (hmk : 17088528 &&& mk_ = 17088528) : (State.stripPut s n serial addr len off b).blur mk_ = s.blur mk_ := by
  refine State.blur_mono (m := 17088528) ?_ hmk
  unfold State.stripPut
  first | (simp; done) | ((repeat' split) <;> first | with_reducible rfl | (simp; done) | (simp_all; done))
@[simp] theorem State.writeStrips_blur (s : State) (i : Nat) (e : Entry) (mk_ : Nat) (hmk : 17088528 &&& mk_ = 17088528) : (State.writeStrips s i e).blur mk_ = s.blur mk_ := by
  refine State.blur_mono (m := 17088528) ?_ hmk
  unfold State.writeStrips
  first | (simp; done) | ((repeat' split) <;> first | with_reducible rfl | (simp; done) | (simp_all; done))
@[simp] theorem State.writeEntry_blur (s : State) (p : Nat) (e0 : Entry) (mk_ : Nat) (hmk : 17088528 &&& mk_ = 17088528) : (State.writeEntry s p e0).blur mk_ = s.blur mk_ := by
  refine State.blur_mono (m := 17088528) ?_ hmk
  unfold State.writeEntry
  dsimp only
  split
  · rfl
  · repeat' split
    all_goals simp
    all_goals split <;> simp
@[simp] theorem execLedgerEntryWrite_blur (part : Fin 32) (s : State) (mk_ : Nat) (hmk : 17088528 &&& mk_ = 17088528) : outBlur mk_ (execLedgerEntryWrite part s) = some (s.blur mk_) := by
  refine outBlur_mono (m := 17088528) ?_ hmk
  unfold execLedgerEntryWrite
  first | (simp; done) | ((repeat' split) <;> first | with_reducible rfl | (simp; done) | (simp_all; done))
@[simp] theorem State.openSeg_blur (s : State) (i : Nat) (mk_ : Nat) (hmk : 311312 &&& mk_ = 311312) : (State.openSeg s i).1.blur mk_ = s.blur mk_ := by
  refine State.blur_mono (m := 311312) ?_ hmk
  unfold State.openSeg
  first | (simp; done) | ((repeat' split) <;> first | with_reducible rfl | (simp; done) | (simp_all; done))
@[simp] theorem State.syncSigq_blur (s : State) (mk_ : Nat) (hmk : 16 &&& mk_ = 16) : (State.syncSigq s).blur mk_ = s.blur mk_ := by
  refine State.blur_mono (m := 16) ?_ hmk
  unfold State.syncSigq
  first | (simp; done) | ((repeat' split) <;> first | with_reducible rfl | (simp; done) | (simp_all; done))
@[simp] theorem State.closeSeg_blur (s : State) (p : Nat) (mk_ : Nat) (hmk : 17090640 &&& mk_ = 17090640) : (State.closeSeg s p).blur mk_ = s.blur mk_ := by
  refine State.blur_mono (m := 17090640) ?_ hmk
  unfold State.closeSeg
  extract_lets q i tc src lb withIdx att digest
  split
  · rfl
  · extract_lets drop s1 e s2 e1 s3 g3 kept st rec0 s4 q4 s5 s6 v6 s7
    have h1 : s1.blur 17090640 = s.blur 17090640 := foldl_blur _ _ (fun t x => by simp) _ _
    have h2 : s2.blur 17090640 = s1.blur 17090640 := by simp [s2]
    have h3 : s3.blur 17090640 = s2.blur 17090640 := by simp [s3]
    have h4 : s4.blur 17090640 = s3.blur 17090640 := by simp [s4]
    have h5 : s5.blur 17090640 = s4.blur 17090640 := by simp [s5]
    have h6 : s6.blur 17090640 = s5.blur 17090640 := by simp [s6]
    have h7 : s7.blur 17090640 = s6.blur 17090640 := by
      simp only [s7]
      split <;> simp
    exact (State.raise_blur _ _ _ _ rfl).trans (h7.trans (h6.trans (h5.trans (h4.trans (h3.trans (h2.trans h1))))))
@[simp] theorem State.signRecord_blur (s : State) (r : SigReq) (k : Nat) (mk_ : Nat) (hmk : 16826384 &&& mk_ = 16826384) : (State.signRecord s r k).blur mk_ = s.blur mk_ := by
  refine State.blur_mono (m := 16826384) ?_ hmk
  unfold State.signRecord
  first | (simp; done) | ((repeat' split) <;> first | with_reducible rfl | (simp; done) | (simp_all; done))
@[simp] theorem State.releaseSeg_blur (s : State) (p : Nat) (seg : Nat) (mk_ : Nat) (hmk : 262160 &&& mk_ = 262160) : (State.releaseSeg s p seg).blur mk_ = s.blur mk_ := by
  refine State.blur_mono (m := 262160) ?_ hmk
  unfold State.releaseSeg
  first | (simp; done) | ((repeat' split) <;> first | with_reducible rfl | (simp; done) | (simp_all; done))
@[simp] theorem State.partCmd_blur (s : State) (p : Nat) (v : Word) (mk_ : Nat) (hmk : 17088528 &&& mk_ = 17088528) : (State.partCmd s p v).blur mk_ = s.blur mk_ := by
  refine State.blur_mono (m := 17088528) ?_ hmk
  unfold State.partCmd
  first | (simp; done) | ((repeat' split) <;> first | with_reducible rfl | (simp; done) | (simp_all; done))
@[simp] theorem execSegmentRelease_blur (part : Fin 32) (v : Word) (s : State) (mk_ : Nat) (hmk : 17088528 &&& mk_ = 17088528) : outBlur mk_ (execSegmentRelease part v s) = some (s.blur mk_) := by
  refine outBlur_mono (m := 17088528) ?_ hmk
  unfold execSegmentRelease
  first | (simp; done) | ((repeat' split) <;> first | with_reducible rfl | (simp; done) | (simp_all; done))
@[simp] theorem execErase_blur (part : Fin 32) (s : State) (mk_ : Nat) (hmk : 17088528 &&& mk_ = 17088528) : outBlur mk_ (execErase part s) = some (s.blur mk_) := by
  refine outBlur_mono (m := 17088528) ?_ hmk
  unfold execErase
  first | (simp; done) | ((repeat' split) <;> first | with_reducible rfl | (simp; done) | (simp_all; done))
theorem scanSlot_blur (p k : Nat) (es : List Entry) (d : State × MStat × List Byte) (m : Nat) (hm : 49168 &&& m = 49168) :
    (scanSlot p k es d).1.blur m = d.1.blur m := by
  unfold scanSlot
  split
  · exact (State.raise_blur _ _ _ _ (sub_mask hm rfl)).trans (State.count_blur _ _ _ (sub_mask hm rfl))
  · split <;> rfl
theorem State.scanStep_blur (s : State) (p : Nat) (t : State × List Entry) (x m : Nat) (hm : 16826448 &&& m = 16826448) :
    (s.scanStep p t x).1.blur m = t.1.blur m := by
  rw [State.scanStep, scanSlot_blur _ _ _ _ _ (sub_mask hm rfl), State.memRead_blur _ _ _ _ (sub_mask hm rfl)]
@[simp] theorem State.scanRange_blur (s : State) (p : Nat) (mk_ : Nat) (hmk : 16826448 &&& mk_ = 16826448) : (State.scanRange s p).1.blur mk_ = s.blur mk_ := by
  refine State.blur_mono (m := 16826448) ?_ hmk
  unfold State.scanRange
  exact foldl_fst_blur _ _ (fun t x => State.scanStep_blur s p t x _ rfl) _ _
@[simp] theorem State.recoverPart_blur (s : State) (p : Nat) (mk_ : Nat) (hmk : 17088592 &&& mk_ = 17088592) : (State.recoverPart s p).blur mk_ = s.blur mk_ := by
  refine State.blur_mono (m := 17088592) ?_ hmk
  unfold State.recoverPart
  dsimp only
  repeat' split
  all_goals simp
@[simp] theorem State.recoverLedger_blur (s : State) (mk_ : Nat) (hmk : 17088592 &&& mk_ = 17088592) : (State.recoverLedger s).blur mk_ = s.blur mk_ := by
  refine State.blur_mono (m := 17088592) ?_ hmk
  unfold State.recoverLedger
  first | (simp; done) | ((repeat' split) <;> first | with_reducible rfl | (simp; done) | (simp_all; done))
@[simp] theorem State.signPending_blur (s : State) (mk_ : Nat) (hmk : 16832528 &&& mk_ = 16832528) : (State.signPending s).blur mk_ = s.blur mk_ := by
  refine State.blur_mono (m := 16832528) ?_ hmk
  unfold State.signPending
  first | (simp; done) | ((repeat' split) <;> first | with_reducible rfl | (simp; done) | (simp_all; done))
@[simp] theorem State.markPending_blur (s : State) (mk_ : Nat) (hmk : 16828432 &&& mk_ = 16828432) : (State.markPending s).blur mk_ = s.blur mk_ := by
  refine State.blur_mono (m := 16828432) ?_ hmk
  unfold State.markPending
  first | (simp; done) | ((repeat' split) <;> first | with_reducible rfl | (simp; done) | (simp_all; done))

end Sys2Proof.Machine
end

