-- ==== Sys2Proof/Laws/FramePixel.lean ====
section
/-! SUPPORT. The fields that the operations of Pixel can change (see Laws/Frame.lean). -/

set_option Elab.async false
set_option linter.unusedTactic false
set_option linter.unreachableTactic false

namespace Sys2Proof.Machine

open Sys2Proof

@[simp] theorem State.setPixStr_blur (s : State) (i : Nat) (v : PixStr) (mk_ : Nat) (hmk : 1048576 &&& mk_ = 1048576) : (State.setPixStr s i v).blur mk_ = s.blur mk_ := by
  refine State.blur_mono (m := 1048576) ?_ hmk
  unfold State.setPixStr
  first | (simp; done) | ((repeat' split) <;> first | with_reducible rfl | (simp; done) | (simp_all; done))
@[simp] theorem State.setTbl_blur (s : State) (i : Nat) (k : Nat) (n : Nat) (v : Word) (mk_ : Nat) (hmk : 1048576 &&& mk_ = 1048576) : (State.setTbl s i k n v).blur mk_ = s.blur mk_ := by
  refine State.blur_mono (m := 1048576) ?_ hmk
  unfold State.setTbl
  first | (simp; done) | ((repeat' split) <;> first | with_reducible rfl | (simp; done) | (simp_all; done))
@[simp] theorem State.exchange_blur (s : State) (i : Nat) (mk_ : Nat) (hmk : 49168 &&& mk_ = 49168) : (State.exchange s i).blur mk_ = s.blur mk_ := by
  refine State.blur_mono (m := 49168) ?_ hmk
  unfold State.exchange
  first | (simp; done) | ((repeat' split) <;> first | with_reducible rfl | (simp; done) | (simp_all; done))
@[simp] theorem State.pixSwap_blur (s : State) (c : Nat) (v : Word) (mk_ : Nat) (hmk : 49168 &&& mk_ = 49168) : (State.pixSwap s c v).blur mk_ = s.blur mk_ := by
  refine State.blur_mono (m := 49168) ?_ hmk
  unfold State.pixSwap
  first | (simp; done) | ((repeat' split) <;> first | with_reducible rfl | (simp; done) | (simp_all; done))
@[simp] theorem execPixSwap_blur (pix : Fin 4) (v : Word) (s : State) (mk_ : Nat) (hmk : 49168 &&& mk_ = 49168) : outBlur mk_ (execPixSwap pix v s) = some (s.blur mk_) := by
  refine outBlur_mono (m := 49168) ?_ hmk
  unfold execPixSwap
  first | (simp; done) | ((repeat' split) <;> first | with_reducible rfl | (simp; done) | (simp_all; done))
@[simp] theorem State.writeCorrected_blur (s : State) (f : Frame) (p : PixIn) (e : Entry) (mk_ : Nat) (hmk : 17088528 &&& mk_ = 17088528) : (State.writeCorrected s f p e).blur mk_ = s.blur mk_ := by
  refine State.blur_mono (m := 17088528) ?_ hmk
  unfold State.writeCorrected
  refine State.forEach_blur _ _ _ _ (fun t y => ?_)
  extract_lets t1
  have h1 : t1.blur 17088528 = t.blur 17088528 := State.forEach_blur _ _ _ _ (fun u c => State.slotWrite_blur _ _ _ _ _ rfl)
  exact (State.slotWrite_blur _ _ _ _ _ rfl).trans h1
@[simp] theorem State.writeProxy_blur (s : State) (f : Frame) (p : PixIn) (buf : Nat) (epoch : Nat) (mk_ : Nat) (hmk : 17874960 &&& mk_ = 17874960) : (State.writeProxy s f p buf epoch).blur mk_ = s.blur mk_ := by
  refine State.blur_mono (m := 17874960) ?_ hmk
  unfold State.writeProxy
  have hb : ∀ (t : State) (x : Nat) (y : Nat) (l : List Byte) (b : Bool),
      (if b then (t.memWrite x l).1 else t).blur 17874960 = t.blur 17874960 := by
    intro t x y l b; cases b <;> simp
  refine (State.forEach_blur _ _ _ _ (fun t x => by simp)).trans ?_
  refine (State.setPixStr_blur _ _ _ _ rfl).trans ((State.memWrite_blur _ _ _ _ rfl).trans ?_)
  refine (State.forEach_blur _ _ _ _ (fun t x => State.forEach_blur _ _ _ _ (fun u y => ?_))).trans ?_
  · split <;> simp
  · refine (State.forEach_blur _ _ _ _ (fun t x => State.forEach_blur _ _ _ _ (fun u y => ?_)))
    split <;> simp
@[simp] theorem State.proxy_blur (s : State) (f : Frame) (p : PixIn) (epoch : Nat) (mk_ : Nat) (hmk : 17874960 &&& mk_ = 17874960) : (State.proxy s f p epoch).blur mk_ = s.blur mk_ := by
  refine State.blur_mono (m := 17874960) ?_ hmk
  unfold State.proxy
  dsimp only
  repeat' split
  all_goals simp
@[simp] theorem State.pxHold_blur (s : State) (i : Nat) (reader : Nat) (mk_ : Nat) (hmk : 1048576 &&& mk_ = 1048576) : (State.pxHold s i reader).1.blur mk_ = s.blur mk_ := by
  refine State.blur_mono (m := 1048576) ?_ hmk
  unfold State.pxHold
  first | (simp; done) | ((repeat' split) <;> first | with_reducible rfl | (simp; done) | (simp_all; done))
@[simp] theorem State.pxRelease_blur (s : State) (i : Nat) (reader : Nat) (mk_ : Nat) (hmk : 1048576 &&& mk_ = 1048576) : (State.pxRelease s i reader).blur mk_ = s.blur mk_ := by
  refine State.blur_mono (m := 1048576) ?_ hmk
  unfold State.pxRelease
  first | (simp; done) | ((repeat' split) <;> first | with_reducible rfl | (simp; done) | (simp_all; done))
@[simp] theorem State.imgTrig_blur (s : State) (i : Nat) (c : Nat) (k : Nat) (t : PendTally) (mk_ : Nat) (hmk : 1097792 &&& mk_ = 1097792) : (State.imgTrig s i c k t).1.blur mk_ = s.blur mk_ := by
  refine State.blur_mono (m := 1097792) ?_ hmk
  unfold State.imgTrig
  first | (simp; done) | ((repeat' split) <;> first | with_reducible rfl | (simp; done) | (simp_all; done))
@[simp] theorem State.tallyWrite_blur (s : State) (i : Nat) (mk_ : Nat) (hmk : 18137168 &&& mk_ = 18137168) : (State.tallyWrite s i).blur mk_ = s.blur mk_ := by
  refine State.blur_mono (m := 18137168) ?_ hmk
  unfold State.tallyWrite
  dsimp only
  split
  · rfl
  · split
    · simp
    · split
      · simp
      · simp
@[simp] theorem execTallyWrite_blur (stream : Fin 64) (s : State) (mk_ : Nat) (hmk : 18137168 &&& mk_ = 18137168) : outBlur mk_ (execTallyWrite stream s) = some (s.blur mk_) := by
  refine outBlur_mono (m := 18137168) ?_ hmk
  unfold execTallyWrite
  first | (simp; done) | ((repeat' split) <;> first | with_reducible rfl | (simp; done) | (simp_all; done))
@[simp] theorem State.finishFrame_blur (s : State) (f : Frame) (mk_ : Nat) (hmk : 18137104 &&& mk_ = 18137104) : (State.finishFrame s f).blur mk_ = s.blur mk_ := by
  refine State.blur_mono (m := 18137104) ?_ hmk
  unfold State.finishFrame
  extract_lets p ok whole hurt uncorr
  split
  · rfl
  · extract_lets s1 s2 s3 s4 s5
    have h1 : s1.blur 18137104 = s.blur 18137104 := by
      simp only [s1]
      split
      · exact State.writeCorrected_blur _ _ _ _ _ rfl
      · rfl
    have h2 : s2.blur 18137104 = s1.blur 18137104 := State.proxy_blur _ _ _ _ _ rfl
    have h3 : s3.blur 18137104 = s2.blur 18137104 := by
      simp only [s3]
      split
      · rfl
      · exact (State.raise_blur _ _ _ _ rfl).trans (State.countN_blur _ _ _ _ rfl)
    have h4 : s4.blur 18137104 = s3.blur 18137104 :=
      (State.forEach_blur _ _ _ _ (fun t c => State.setFld_blur _ _ _ _ _ _ rfl)).trans
        (State.forEach_blur _ _ _ _ (fun t c => State.count_blur _ _ _ rfl))
    have h5 : s5.blur 18137104 = s4.blur 18137104 := State.modEntry_blur _ _ _ _ _ rfl
    have h : s5.blur 18137104 = s.blur 18137104 := h5.trans (h4.trans (h3.trans (h2.trans h1)))
    split
    · exact (State.setPixStr_blur _ _ _ _ rfl).trans h
    · exact h
@[simp] theorem State.syncLeads_blur (s : State) (mk_ : Nat) (hmk : 16 &&& mk_ = 16) : (State.syncLeads s).blur mk_ = s.blur mk_ := by
  refine State.blur_mono (m := 16) ?_ hmk
  unfold State.syncLeads
  first | (simp; done) | ((repeat' split) <;> first | with_reducible rfl | (simp; done) | (simp_all; done))
@[simp] theorem State.markSplit_blur (s : State) (i : Nat) (mk_ : Nat) (hmk : 1048576 &&& mk_ = 1048576) : (State.markSplit s i).blur mk_ = s.blur mk_ := by
  refine State.blur_mono (m := 1048576) ?_ hmk
  unfold State.markSplit
  first | (simp; done) | ((repeat' split) <;> first | with_reducible rfl | (simp; done) | (simp_all; done))
@[simp] theorem State.resplit_blur (s0 : State) (i : Nat) (mk_ : Nat) (hmk : 1048592 &&& mk_ = 1048592) : (State.resplit s0 i).blur mk_ = s0.blur mk_ := by
  refine State.blur_mono (m := 1048592) ?_ hmk
  unfold State.resplit
  first | (simp; done) | ((repeat' split) <;> first | with_reducible rfl | (simp; done) | (simp_all; done))

end Sys2Proof.Machine
end

