-- ==== Sys2Proof/Laws/FrameIngest.lean ====
section
/-! SUPPORT. The fields that the operations of Ingest can change (see Laws/Frame.lean). -/

set_option Elab.async false
set_option linter.unusedTactic false
set_option linter.unreachableTactic false

namespace Sys2Proof.Machine

open Sys2Proof

@[simp] theorem State.setLport_blur (s : State) (n : Nat) (v : LnkPort) (mk_ : Nat) (hmk : 131072 &&& mk_ = 131072) : (State.setLport s n v).blur mk_ = s.blur mk_ := by
  refine State.blur_mono (m := 131072) ?_ hmk
  unfold State.setLport
  first | (simp; done) | ((repeat' split) <;> first | with_reducible rfl | (simp; done) | (simp_all; done))
theorem State.takePkt_blur (s : State) (n : Nat) (ok : Nat → Bool) {p_ : Pkt} {t_ : State} (e_ : State.takePkt s n ok = some (p_, t_)) (mk_ : Nat) (hmk : 131072 &&& mk_ = 131072) : t_.blur mk_ = s.blur mk_ := by
  refine State.blur_mono (m := 131072) ?_ hmk
  unfold State.takePkt at e_
  dsimp only at e_
  repeat' split at e_
  all_goals simp_all
  all_goals obtain ⟨rfl, rfl⟩ := e_
  all_goals simp
@[simp] theorem State.failAttempt_blur (s : State) (mk_ : Nat) (hmk : 33605648 &&& mk_ = 33605648) : (State.failAttempt s).blur mk_ = s.blur mk_ := by
  refine State.blur_mono (m := 33605648) ?_ hmk
  unfold State.failAttempt
  first | (simp; done) | ((repeat' split) <;> first | with_reducible rfl | (simp; done) | (simp_all; done))
@[simp] theorem State.releaseLines_blur (s : State) (mk_ : Nat) (hmk : 262144 &&& mk_ = 262144) : (State.releaseLines s).blur mk_ = s.blur mk_ := by
  refine State.blur_mono (m := 262144) ?_ hmk
  unfold State.releaseLines
  first | (simp; done) | ((repeat' split) <;> first | with_reducible rfl | (simp; done) | (simp_all; done))
@[simp] theorem State.syncOd_blur (s : State) (n : Nat) (mk_ : Nat) (hmk : 50382864 &&& mk_ = 50382864) : (State.syncOd s n).blur mk_ = s.blur mk_ := by
  refine State.blur_mono (m := 50382864) ?_ hmk
  unfold State.syncOd
  first | (simp; done) | ((repeat' split) <;> first | with_reducible rfl | (simp; done) | (simp_all; done))
@[simp] theorem State.syncOcc_blur (s : State) (n : Nat) (mk_ : Nat) (hmk : 16 &&& mk_ = 16) : (State.syncOcc s n).blur mk_ = s.blur mk_ := by
  refine State.blur_mono (m := 16) ?_ hmk
  unfold State.syncOcc
  first | (simp; done) | ((repeat' split) <;> first | with_reducible rfl | (simp; done) | (simp_all; done))
@[simp] theorem State.putFrame_blur (s : State) (f : Frame) (mk_ : Nat) (hmk : 262144 &&& mk_ = 262144) : (State.putFrame s f).blur mk_ = s.blur mk_ := by
  refine State.blur_mono (m := 262144) ?_ hmk
  unfold State.putFrame
  first | (simp; done) | ((repeat' split) <;> first | with_reducible rfl | (simp; done) | (simp_all; done))
@[simp] theorem State.dropFrame_blur (s : State) (f : Frame) (mk_ : Nat) (hmk : 262144 &&& mk_ = 262144) : (State.dropFrame s f).blur mk_ = s.blur mk_ := by
  refine State.blur_mono (m := 262144) ?_ hmk
  unfold State.dropFrame
  first | (simp; done) | ((repeat' split) <;> first | with_reducible rfl | (simp; done) | (simp_all; done))
@[simp] theorem State.syncStr_blur (s : State) (i : Nat) (mk_ : Nat) (hmk : 16 &&& mk_ = 16) : (State.syncStr s i).blur mk_ = s.blur mk_ := by
  refine State.blur_mono (m := 16) ?_ hmk
  unfold State.syncStr
  first | (simp; done) | ((repeat' split) <;> first | with_reducible rfl | (simp; done) | (simp_all; done))
@[simp] theorem State.writeLine_blur (s : State) (f : Frame) (y : Nat) (line : List Byte) (mk_ : Nat) (hmk : 17088528 &&& mk_ = 17088528) : (State.writeLine s f y line).blur mk_ = s.blur mk_ := by
  refine State.blur_mono (m := 17088528) ?_ hmk
  unfold State.writeLine
  first | (simp; done) | ((repeat' split) <;> first | with_reducible rfl | (simp; done) | (simp_all; done))
@[simp] theorem State.padTo_blur (s : State) (f : Frame) (upTo : Nat) (mk_ : Nat) (hmk : 17088528 &&& mk_ = 17088528) : (State.padTo s f upTo).1.blur mk_ = s.blur mk_ := by
  refine State.blur_mono (m := 17088528) ?_ hmk
  unfold State.padTo
  first | (simp; done) | ((repeat' split) <;> first | with_reducible rfl | (simp; done) | (simp_all; done))
@[simp] theorem State.writeTail_blur (s : State) (f : Frame) (mk_ : Nat) (hmk : 17088528 &&& mk_ = 17088528) : (State.writeTail s f).blur mk_ = s.blur mk_ := by
  refine State.blur_mono (m := 17088528) ?_ hmk
  unfold State.writeTail
  first | (simp; done) | ((repeat' split) <;> first | with_reducible rfl | (simp; done) | (simp_all; done))
@[simp] theorem State.untap_blur (s : State) (f : Frame) (mk_ : Nat) (hmk : 17088528 &&& mk_ = 17088528) : (State.untap s f).blur mk_ = s.blur mk_ := by
  refine State.blur_mono (m := 17088528) ?_ hmk
  unfold State.untap
  first | (simp; done) | ((repeat' split) <;> first | with_reducible rfl | (simp; done) | (simp_all; done))
@[simp] theorem State.shed_blur (s : State) (ps : List Nat) (mk_ : Nat) (hmk : 17088528 &&& mk_ = 17088528) : (State.shed s ps).blur mk_ = s.blur mk_ := by
  refine State.blur_mono (m := 17088528) ?_ hmk
  unfold State.shed
  first | (simp; done) | ((repeat' split) <;> first | with_reducible rfl | (simp; done) | (simp_all; done))
@[simp] theorem State.syncShed_blur (s : State) (ps : List Nat) (mk_ : Nat) (hmk : 17088528 &&& mk_ = 17088528) : (State.syncShed s ps).blur mk_ = s.blur mk_ := by
  refine State.blur_mono (m := 17088528) ?_ hmk
  unfold State.syncShed
  first | (simp; done) | ((repeat' split) <;> first | with_reducible rfl | (simp; done) | (simp_all; done))
@[simp] theorem State.syncPeak_blur (s : State) (n : Nat) (mk_ : Nat) (hmk : 16 &&& mk_ = 16) : (State.syncPeak s n).blur mk_ = s.blur mk_ := by
  refine State.blur_mono (m := 16) ?_ hmk
  unfold State.syncPeak
  first | (simp; done) | ((repeat' split) <;> first | with_reducible rfl | (simp; done) | (simp_all; done))
@[simp] theorem State.syncPort_blur (s : State) (n : Nat) (mk_ : Nat) (hmk : 50645008 &&& mk_ = 50645008) : (State.syncPort s n).blur mk_ = s.blur mk_ := by
  refine State.blur_mono (m := 50645008) ?_ hmk
  unfold State.syncPort
  first | (simp; done) | ((repeat' split) <;> first | with_reducible rfl | (simp; done) | (simp_all; done))
@[simp] theorem State.syncPooled_blur (s : State) (n : Nat) (mk_ : Nat) (hmk : 16 &&& mk_ = 16) : (State.syncPooled s n).blur mk_ = s.blur mk_ := by
  refine State.blur_mono (m := 16) ?_ hmk
  unfold State.syncPooled
  first | (simp; done) | ((repeat' split) <;> first | with_reducible rfl | (simp; done) | (simp_all; done))
@[simp] theorem State.storeLine_blur (s : State) (f : Frame) (y : Nat) (payload : List Byte) (mk_ : Nat) (hmk : 17088528 &&& mk_ = 17088528) : (State.storeLine s f y payload).blur mk_ = s.blur mk_ := by
  refine State.blur_mono (m := 17088528) ?_ hmk
  unfold State.storeLine
  first | (simp; done) | ((repeat' split) <;> first | with_reducible rfl | (simp; done) | (simp_all; done))
@[simp] theorem State.closeFrame_blur (s : State) (f0 : Frame) (fl : BitVec 32) (mk_ : Nat) (hmk : 50645008 &&& mk_ = 50645008) : (State.closeFrame s f0 fl).blur mk_ = s.blur mk_ := by
  refine State.blur_mono (m := 50645008) ?_ hmk
  unfold State.closeFrame
  first | (simp; done) | ((repeat' split) <;> first | with_reducible rfl | (simp; done) | (simp_all; done))
@[simp] theorem State.noFrame_blur (s : State) (e : Entry) (mk_ : Nat) (hmk : 311312 &&& mk_ = 311312) : (State.noFrame s e).blur mk_ = s.blur mk_ := by
  refine State.blur_mono (m := 311312) ?_ hmk
  unfold State.noFrame
  first | (simp; done) | ((repeat' split) <;> first | with_reducible rfl | (simp; done) | (simp_all; done))
@[simp] theorem State.unsolicited_blur (s : State) (src : Nat) (mk_ : Nat) (hmk : 16 &&& mk_ = 16) : (State.unsolicited s src).blur mk_ = s.blur mk_ := by
  refine State.blur_mono (m := 16) ?_ hmk
  unfold State.unsolicited
  first | (simp; done) | ((repeat' split) <;> first | with_reducible rfl | (simp; done) | (simp_all; done))
@[simp] theorem State.startFrame_blur (s : State) (src : Nat) (e : Entry) (test : Bool) (mk_ : Nat) (hmk : 50645008 &&& mk_ = 50645008) : (State.startFrame s src e test).blur mk_ = s.blur mk_ := by
  refine State.blur_mono (m := 50645008) ?_ hmk
  unfold State.startFrame
  first | (simp; done) | ((repeat' split) <;> first | with_reducible rfl | (simp; done) | (simp_all; done))
@[simp] theorem State.takePassive_blur (s : State) (n : Nat) (x0 : Nat) (mk_ : Nat) (hmk : 131088 &&& mk_ = 131088) : (State.takePassive s n x0).blur mk_ = s.blur mk_ := by
  refine State.blur_mono (m := 131088) ?_ hmk
  induction x0 generalizing s with
  | zero => rfl
  | succ k ih =>
    unfold State.takePassive
    split
    · rfl
    · rename_i heq
      have h0 := State.takePkt_blur _ _ _ heq 131088 rfl
      extract_lets src
      refine (ih _).trans ?_
      split
      · exact (State.unsolicited_blur _ _ _ rfl).trans h0
      · exact h0
@[simp] theorem State.nextPkt_blur (s : State) (n : Nat) (mk_ : Nat) (hmk : 131088 &&& mk_ = 131088) : (State.nextPkt s n).blur mk_ = s.blur mk_ := by
  refine State.blur_mono (m := 131088) ?_ hmk
  unfold State.nextPkt
  first | (simp; done) | ((repeat' split) <;> first | with_reducible rfl | (simp; done) | (simp_all; done))
@[simp] theorem State.fsReceive_blur (s : State) (n : Nat) (mk_ : Nat) (hmk : 50776080 &&& mk_ = 50776080) : (State.fsReceive s n).blur mk_ = s.blur mk_ := by
  refine State.blur_mono (m := 50776080) ?_ hmk
  unfold State.fsReceive
  split
  · rfl
  · rename_i p s0 heq
    have h0 := State.takePkt_blur _ _ _ heq 50776080 rfl
    extract_lets src s1 c g s2 low
    have h1 : s1.blur 50776080 = s.blur 50776080 := by
      simp only [s1]
      split <;> simp [h0]
    have h2 : s2.blur 50776080 = s.blur 50776080 := (State.blur_set_ing s1 _ _ rfl).trans h1
    clear_value s2
    split
    · refine (State.nextPkt_blur _ _ _ rfl).trans (Eq.trans ?_ h2)
      refine (State.startFrame_blur _ _ _ _ _ rfl).trans (State.forEach_blur _ _ _ _ (fun t x => ?_))
      simp
    · refine (State.nextPkt_blur _ _ _ rfl).trans (Eq.trans ?_ h2)
      simp
@[simp] theorem State.packet_blur (s : State) (n : Nat) (ok : Nat → Bool) (f : State → Pkt → Nat → State) (mk_ : Nat) (hmk : 131088 &&& mk_ = 131088) (hf : ∀ t p k, (f t p k).blur mk_ = t.blur mk_) : (State.packet s n ok f).blur mk_ = s.blur mk_ := by
  unfold State.packet
  split
  · rfl
  · rename_i heq
    have h0 := State.takePkt_blur _ _ _ heq mk_ (sub_mask hmk rfl)
    refine (State.nextPkt_blur _ _ _ (sub_mask hmk rfl)).trans ?_
    split
    · exact (State.unsolicited_blur _ _ _ (sub_mask hmk rfl)).trans h0
    · exact (hf _ _ _).trans h0
@[simp] theorem State.expReceive_blur (s : State) (n : Nat) (mk_ : Nat) (hmk : 393232 &&& mk_ = 393232) : (State.expReceive s n).blur mk_ = s.blur mk_ := by
  refine State.blur_mono (m := 393232) ?_ hmk
  unfold State.expReceive
  refine State.packet_blur _ _ _ _ _ rfl (fun t p k => ?_)
  split
  · split <;> simp
  · simp
@[simp] theorem State.lineReceive_blur (s : State) (n : Nat) (mk_ : Nat) (hmk : 50776080 &&& mk_ = 50776080) : (State.lineReceive s n).blur mk_ = s.blur mk_ := by
  refine State.blur_mono (m := 50776080) ?_ hmk
  unfold State.lineReceive
  refine State.packet_blur _ _ _ _ _ rfl (fun t p k => ?_)
  dsimp only
  repeat' split
  all_goals simp
@[simp] theorem State.metadataReceive_blur (s : State) (n : Nat) (mk_ : Nat) (hmk : 393232 &&& mk_ = 393232) : (State.metadataReceive s n).blur mk_ = s.blur mk_ := by
  refine State.blur_mono (m := 393232) ?_ hmk
  unfold State.metadataReceive
  refine State.packet_blur _ _ _ _ _ rfl (fun t p k => ?_)
  dsimp only
  repeat' split
  all_goals simp
@[simp] theorem State.sensorStatusReceive_blur (s : State) (n : Nat) (mk_ : Nat) (hmk : 131088 &&& mk_ = 131088) : (State.sensorStatusReceive s n).blur mk_ = s.blur mk_ := by
  refine State.blur_mono (m := 131088) ?_ hmk
  unfold State.sensorStatusReceive
  split
  · rfl
  · rename_i p s0 heq
    refine (State.nextPkt_blur _ _ _ rfl).trans ?_
    exact (State.forEach_blur _ _ _ _ (fun t x => State.wr_blur _ _ _ _ rfl)).trans (State.takePkt_blur _ _ _ heq 131088 rfl)
@[simp] theorem State.feReceive_blur (s : State) (n : Nat) (mk_ : Nat) (hmk : 50776080 &&& mk_ = 50776080) : (State.feReceive s n).blur mk_ = s.blur mk_ := by
  refine State.blur_mono (m := 50776080) ?_ hmk
  unfold State.feReceive
  refine State.packet_blur _ _ _ _ _ rfl (fun t p k => ?_)
  split <;> simp
@[simp] theorem State.nofsTimeout_blur (s : State) (n : Nat) (mk_ : Nat) (hmk : 311312 &&& mk_ = 311312) : (State.nofsTimeout s n).blur mk_ = s.blur mk_ := by
  refine State.blur_mono (m := 311312) ?_ hmk
  unfold State.nofsTimeout
  first | (simp; done) | ((repeat' split) <;> first | with_reducible rfl | (simp; done) | (simp_all; done))
@[simp] theorem State.frameTimeout_blur (s : State) (i : Nat) (mk_ : Nat) (hmk : 50645008 &&& mk_ = 50645008) : (State.frameTimeout s i).blur mk_ = s.blur mk_ := by
  refine State.blur_mono (m := 50645008) ?_ hmk
  unfold State.frameTimeout
  first | (simp; done) | ((repeat' split) <;> first | with_reducible rfl | (simp; done) | (simp_all; done))
@[simp] theorem State.ingestAll_blur (s : State) (n : Nat) (x0 : Nat) (mk_ : Nat) (hmk : 50776080 &&& mk_ = 50776080) : (State.ingestAll s n x0).blur mk_ = s.blur mk_ := by
  refine State.blur_mono (m := 50776080) ?_ hmk
  induction x0 generalizing s with
  | zero => rfl
  | succ k ih =>
    unfold State.ingestAll
    split
    · rfl
    · rename_i p rest _
      refine (ih _).trans ?_
      have h : ∀ t : State, t.blur 50776080 = s.blur 50776080 →
          (if (t.lport n).inbox.length = rest.length + 1 then t.setLport n { t.lport n with inbox := rest } else t).blur 50776080 =
            s.blur 50776080 := by
        intro t ht
        split
        · exact (State.setLport_blur _ _ _ _ rfl).trans ht
        · exact ht
      refine h _ ?_
      split
      · exact State.takePassive_blur _ _ _ _ rfl
      split
      · exact State.fsReceive_blur _ _ _ rfl
      split
      · exact State.feReceive_blur _ _ _ rfl
      split
      · exact State.expReceive_blur _ _ _ rfl
      split
      · exact State.metadataReceive_blur _ _ _ rfl
      split
      · exact State.sensorStatusReceive_blur _ _ _ rfl
      split
      · exact State.lineReceive_blur _ _ _ rfl
      · rfl
@[simp] theorem State.portLost_blur (s : State) (n : Nat) (fenced : Bool) (mk_ : Nat) (hmk : 50776080 &&& mk_ = 50776080) : (State.portLost s n fenced).blur mk_ = s.blur mk_ := by
  refine State.blur_mono (m := 50776080) ?_ hmk
  unfold State.portLost
  first | (simp; done) | ((repeat' split) <;> first | with_reducible rfl | (simp; done) | (simp_all; done))
@[simp] theorem State.closeAll_blur (s : State) (fl : BitVec 32) (mk_ : Nat) (hmk : 50645008 &&& mk_ = 50645008) : (State.closeAll s fl).blur mk_ = s.blur mk_ := by
  refine State.blur_mono (m := 50645008) ?_ hmk
  unfold State.closeAll
  refine (State.forEach_blur _ _ _ _ (fun t x => State.forEach_blur _ _ _ _ (fun u y => ?_))).trans (State.forEach_blur _ _ _ _ (fun t x => ?_))
  · simp
  · simp
@[simp] theorem State.tapStart_blur (s : State) (i : Nat) (mk_ : Nat) (hmk : 51169296 &&& mk_ = 51169296) : (State.tapStart s i).blur mk_ = s.blur mk_ := by
  refine State.blur_mono (m := 51169296) ?_ hmk
  unfold State.tapStart
  first | (simp; done) | ((repeat' split) <;> first | with_reducible rfl | (simp; done) | (simp_all; done))
@[simp] theorem State.groupMask_blur (s : State) (g : Nat) (v : Word) (mk_ : Nat) (hmk : 49168 &&& mk_ = 49168) : (State.groupMask s g v).blur mk_ = s.blur mk_ := by
  refine State.blur_mono (m := 49168) ?_ hmk
  unfold State.groupMask
  first | (simp; done) | ((repeat' split) <;> first | with_reducible rfl | (simp; done) | (simp_all; done))
@[simp] theorem execGroupMaskWrite_blur (g : Fin 2) (v : Word) (s : State) (mk_ : Nat) (hmk : 49168 &&& mk_ = 49168) : outBlur mk_ (execGroupMaskWrite g v s) = some (s.blur mk_) := by
  refine outBlur_mono (m := 49168) ?_ hmk
  unfold execGroupMaskWrite
  first | (simp; done) | ((repeat' split) <;> first | with_reducible rfl | (simp; done) | (simp_all; done))
@[simp] theorem State.useSlot_blur (s : State) (i : Nat) (mk_ : Nat) (hmk : 262160 &&& mk_ = 262160) : (State.useSlot s i).blur mk_ = s.blur mk_ := by
  refine State.blur_mono (m := 262160) ?_ hmk
  unfold State.useSlot
  first | (simp; done) | ((repeat' split) <;> first | with_reducible rfl | (simp; done) | (simp_all; done))

end Sys2Proof.Machine
end

