-- ==== Sys2Proof/Laws/FrameLink.lean ====
section
/-! SUPPORT. The fields that the operations of Link can change (see Laws/Frame.lean). -/

set_option Elab.async false
set_option linter.unusedTactic false
set_option linter.unreachableTactic false

namespace Sys2Proof.Machine

open Sys2Proof

@[simp] theorem State.setLane_blur (s : State) (l : Nat) (v : Lane) (mk_ : Nat) (hmk : 131072 &&& mk_ = 131072) : (State.setLane s l v).blur mk_ = s.blur mk_ := by
  refine State.blur_mono (m := 131072) ?_ hmk
  unfold State.setLane
  first | (simp; done) | ((repeat' split) <;> first | with_reducible rfl | (simp; done) | (simp_all; done))
@[simp] theorem State.setLanes_blur (s : State) (n : Nat) (st : Nat) (mk_ : Nat) (hmk : 16 &&& mk_ = 16) : (State.setLanes s n st).blur mk_ = s.blur mk_ := by
  refine State.blur_mono (m := 16) ?_ hmk
  unfold State.setLanes
  first | (simp; done) | ((repeat' split) <;> first | with_reducible rfl | (simp; done) | (simp_all; done))
@[simp] theorem State.lnkConfig_blur (s : State) (n : Nat) (mk_ : Nat) (hmk : 16 &&& mk_ = 16) : (State.lnkConfig s n).blur mk_ = s.blur mk_ := by
  refine State.blur_mono (m := 16) ?_ hmk
  unfold State.lnkConfig
  refine (State.forEach_blur _ _ _ _ (fun t x => ?_)).trans (by simp)
  split <;> simp
@[simp] theorem State.setSchHead_blur (s : State) (n : Nat) (v : SchHead) (mk_ : Nat) (hmk : 524288 &&& mk_ = 524288) : (State.setSchHead s n v).blur mk_ = s.blur mk_ := by
  refine State.blur_mono (m := 524288) ?_ hmk
  unfold State.setSchHead
  first | (simp; done) | ((repeat' split) <;> first | with_reducible rfl | (simp; done) | (simp_all; done))
@[simp] theorem State.sendReq_blur (s : State) (n : Nat) (cmd : Nat) (addr : Nat) (data : List Byte) (len : Nat) (mk_ : Nat) (hmk : 131088 &&& mk_ = 131088) : (State.sendReq s n cmd addr data len).blur mk_ = s.blur mk_ := by
  refine State.blur_mono (m := 131088) ?_ hmk
  unfold State.sendReq
  first | (simp; done) | ((repeat' split) <;> first | with_reducible rfl | (simp; done) | (simp_all; done))
@[simp] theorem State.sendNext_blur (s : State) (n : Nat) (mk_ : Nat) (hmk : 655376 &&& mk_ = 655376) : (State.sendNext s n).blur mk_ = s.blur mk_ := by
  refine State.blur_mono (m := 655376) ?_ hmk
  unfold State.sendNext
  dsimp only
  repeat' split
  all_goals simp
@[simp] theorem State.reqTrain_blur (s : State) (n : Nat) (op : Nat) (pre : Bool) (mk_ : Nat) (hmk : 655376 &&& mk_ = 655376) : (State.reqTrain s n op pre).blur mk_ = s.blur mk_ := by
  refine State.blur_mono (m := 655376) ?_ hmk
  unfold State.reqTrain
  first | (simp; done) | ((repeat' split) <;> first | with_reducible rfl | (simp; done) | (simp_all; done))
@[simp] theorem State.reqEpoch_blur (s : State) (n : Nat) (e : Nat) (mk_ : Nat) (hmk : 655376 &&& mk_ = 655376) : (State.reqEpoch s n e).blur mk_ = s.blur mk_ := by
  refine State.blur_mono (m := 655376) ?_ hmk
  unfold State.reqEpoch
  first | (simp; done) | ((repeat' split) <;> first | with_reducible rfl | (simp; done) | (simp_all; done))
@[simp] theorem State.headGo_blur (s : State) (n : Nat) (read : Bool) (mk_ : Nat) (hmk : 704528 &&& mk_ = 704528) : (State.headGo s n read).blur mk_ = s.blur mk_ := by
  refine State.blur_mono (m := 704528) ?_ hmk
  unfold State.headGo
  first | (simp; done) | ((repeat' split) <;> first | with_reducible rfl | (simp; done) | (simp_all; done))
@[simp] theorem State.ctlErr_blur (s : State) (n : Nat) (mk_ : Nat) (hmk : 49168 &&& mk_ = 49168) : (State.ctlErr s n).blur mk_ = s.blur mk_ := by
  refine State.blur_mono (m := 49168) ?_ hmk
  unfold State.ctlErr
  first | (simp; done) | ((repeat' split) <;> first | with_reducible rfl | (simp; done) | (simp_all; done))
@[simp] theorem State.endReq_blur (s : State) (n : Nat) (st : Nat) (reason : Nat) (mk_ : Nat) (hmk : 655376 &&& mk_ = 655376) : (State.endReq s n st reason).blur mk_ = s.blur mk_ := by
  refine State.blur_mono (m := 655376) ?_ hmk
  unfold State.endReq
  dsimp only
  split
  · rfl
  · split <;> simp
@[simp] theorem State.ctlReceive_blur (s : State) (n : Nat) (cmd : Nat) (b : List Byte) (k297 : Bool) (reqs : List Nat) (f : State → State) (mk_ : Nat) (hmk : 49168 &&& mk_ = 49168) (hf : ∀ t, (f t).blur mk_ = t.blur mk_) : (State.ctlReceive s n cmd b k297 reqs f).blur mk_ = s.blur mk_ := by
  unfold State.ctlReceive
  split
  · rfl
  split
  · exact State.ctlErr_blur _ _ _ (sub_mask hmk rfl)
  split
  · rfl
  extract_lets r s1
  have h1 : s1.blur mk_ = s.blur mk_ := by
    simp only [s1]
    split
    · exact State.raise_blur _ _ _ _ (sub_mask hmk rfl)
    · rfl
  split
  · exact State.ctlErr_blur _ _ _ (sub_mask hmk rfl)
  · split
    · exact (hf _).trans h1
    · exact h1
@[simp] theorem State.wrAck_blur (s : State) (n : Nat) (b : List Byte) (k : Bool) (mk_ : Nat) (hmk : 704528 &&& mk_ = 704528) : (State.wrAck s n b k).blur mk_ = s.blur mk_ := by
  refine State.blur_mono (m := 704528) ?_ hmk
  unfold State.wrAck
  first | (simp; done) | ((repeat' split) <;> first | with_reducible rfl | (simp; done) | (simp_all; done))
@[simp] theorem State.rdDataRx_blur (s : State) (n : Nat) (b : List Byte) (k : Bool) (mk_ : Nat) (hmk : 704528 &&& mk_ = 704528) : (State.rdDataRx s n b k).blur mk_ = s.blur mk_ := by
  refine State.blur_mono (m := 704528) ?_ hmk
  unfold State.rdDataRx
  first | (simp; done) | ((repeat' split) <;> first | with_reducible rfl | (simp; done) | (simp_all; done))
@[simp] theorem State.trainAck_blur (s : State) (n : Nat) (b : List Byte) (k : Bool) (mk_ : Nat) (hmk : 704528 &&& mk_ = 704528) : (State.trainAck s n b k).blur mk_ = s.blur mk_ := by
  refine State.blur_mono (m := 704528) ?_ hmk
  unfold State.trainAck
  refine State.ctlReceive_blur _ _ _ _ _ _ _ _ rfl (fun t => ?_)
  extract_lets t1
  have h1 : t1.blur 704528 = t.blur 704528 := by
    simp only [t1]
    split
    · refine State.forEach_blur _ _ _ _ (fun u l => ?_)
      split
      · exact State.setFld_blur _ _ _ _ _ _ rfl
      · rfl
    · rfl
  exact (State.endReq_blur _ _ _ _ _ rfl).trans h1
@[simp] theorem State.epochAck_blur (s : State) (n : Nat) (b : List Byte) (k : Bool) (mk_ : Nat) (hmk : 704528 &&& mk_ = 704528) : (State.epochAck s n b k).blur mk_ = s.blur mk_ := by
  refine State.blur_mono (m := 704528) ?_ hmk
  unfold State.epochAck
  first | (simp; done) | ((repeat' split) <;> first | with_reducible rfl | (simp; done) | (simp_all; done))
@[simp] theorem State.nakRx_blur (s : State) (n : Nat) (b : List Byte) (k : Bool) (mk_ : Nat) (hmk : 704528 &&& mk_ = 704528) : (State.nakRx s n b k).blur mk_ = s.blur mk_ := by
  refine State.blur_mono (m := 704528) ?_ hmk
  unfold State.nakRx
  first | (simp; done) | ((repeat' split) <;> first | with_reducible rfl | (simp; done) | (simp_all; done))
@[simp] theorem State.hevent_blur (s : State) (n : Nat) (b : List Byte) (k : Bool) (mk_ : Nat) (hmk : 49168 &&& mk_ = 49168) : (State.hevent s n b k).blur mk_ = s.blur mk_ := by
  refine State.blur_mono (m := 49168) ?_ hmk
  unfold State.hevent
  first | (simp; done) | ((repeat' split) <;> first | with_reducible rfl | (simp; done) | (simp_all; done))
@[simp] theorem State.ctlTimeout_blur (s : State) (n : Nat) (mk_ : Nat) (hmk : 704528 &&& mk_ = 704528) : (State.ctlTimeout s n).blur mk_ = s.blur mk_ := by
  refine State.blur_mono (m := 704528) ?_ hmk
  unfold State.ctlTimeout
  dsimp only
  repeat' split
  all_goals simp
@[simp] theorem State.clearAsm_blur (s : State) (n : Nat) (mk_ : Nat) (hmk : 131072 &&& mk_ = 131072) : (State.clearAsm s n).blur mk_ = s.blur mk_ := by
  refine State.blur_mono (m := 131072) ?_ hmk
  unfold State.clearAsm
  first | (simp; done) | ((repeat' split) <;> first | with_reducible rfl | (simp; done) | (simp_all; done))
@[simp] theorem State.flushStream_blur (s : State) (n : Nat) (mk_ : Nat) (hmk : 131072 &&& mk_ = 131072) : (State.flushStream s n).blur mk_ = s.blur mk_ := by
  refine State.blur_mono (m := 131072) ?_ hmk
  unfold State.flushStream
  first | (simp; done) | ((repeat' split) <;> first | with_reducible rfl | (simp; done) | (simp_all; done))
@[simp] theorem State.clearStream_blur (s : State) (n : Nat) (mk_ : Nat) (hmk : 131088 &&& mk_ = 131088) : (State.clearStream s n).blur mk_ = s.blur mk_ := by
  refine State.blur_mono (m := 131088) ?_ hmk
  unfold State.clearStream
  first | (simp; done) | ((repeat' split) <;> first | with_reducible rfl | (simp; done) | (simp_all; done))
@[simp] theorem State.startAttempt_blur (s : State) (n : Nat) (mk_ : Nat) (hmk : 655376 &&& mk_ = 655376) : (State.startAttempt s n).blur mk_ = s.blur mk_ := by
  refine State.blur_mono (m := 655376) ?_ hmk
  unfold State.startAttempt
  first | (simp; done) | ((repeat' split) <;> first | with_reducible rfl | (simp; done) | (simp_all; done))
@[simp] theorem State.scanAbort_blur (s : State) (l : Nat) (mk_ : Nat) (hmk : 16 &&& mk_ = 16) : (State.scanAbort s l).blur mk_ = s.blur mk_ := by
  refine State.blur_mono (m := 16) ?_ hmk
  unfold State.scanAbort
  first | (simp; done) | ((repeat' split) <;> first | with_reducible rfl | (simp; done) | (simp_all; done))
@[simp] theorem State.truncate_blur (s : State) (n : Nat) (mk_ : Nat) (hmk : 180240 &&& mk_ = 180240) : (State.truncate s n).blur mk_ = s.blur mk_ := by
  refine State.blur_mono (m := 180240) ?_ hmk
  unfold State.truncate
  dsimp only
  repeat' split
  all_goals simp
@[simp] theorem State.leaveUp_blur (s : State) (n : Nat) (st : Nat) (fenced : Bool) (mk_ : Nat) (hmk : 51300368 &&& mk_ = 51300368) : (State.leaveUp s n st fenced).blur mk_ = s.blur mk_ := by
  refine State.blur_mono (m := 51300368) ?_ hmk
  unfold State.leaveUp
  first | (simp; done) | ((repeat' split) <;> first | with_reducible rfl | (simp; done) | (simp_all; done))
@[simp] theorem State.setPortState_blur (s : State) (n : Nat) (st : Nat) (mk_ : Nat) (hmk : 51300368 &&& mk_ = 51300368) : (State.setPortState s n st).blur mk_ = s.blur mk_ := by
  refine State.blur_mono (m := 51300368) ?_ hmk
  unfold State.setPortState
  first | (simp; done) | ((repeat' split) <;> first | with_reducible rfl | (simp; done) | (simp_all; done))
@[simp] theorem State.portStart_blur (s : State) (n : Nat) (mk_ : Nat) (hmk : 51300368 &&& mk_ = 51300368) : (State.portStart s n).blur mk_ = s.blur mk_ := by
  refine State.blur_mono (m := 51300368) ?_ hmk
  unfold State.portStart
  first | (simp; done) | ((repeat' split) <;> first | with_reducible rfl | (simp; done) | (simp_all; done))
@[simp] theorem State.portStop_blur (s : State) (n : Nat) (mk_ : Nat) (hmk : 51300368 &&& mk_ = 51300368) : (State.portStop s n).blur mk_ = s.blur mk_ := by
  refine State.blur_mono (m := 51300368) ?_ hmk
  unfold State.portStop
  first | (simp; done) | ((repeat' split) <;> first | with_reducible rfl | (simp; done) | (simp_all; done))
@[simp] theorem State.ctlSync_blur (s : State) (n : Nat) (mk_ : Nat) (hmk : 655376 &&& mk_ = 655376) : (State.ctlSync s n).blur mk_ = s.blur mk_ := by
  refine State.blur_mono (m := 655376) ?_ hmk
  unfold State.ctlSync
  first | (simp; done) | ((repeat' split) <;> first | with_reducible rfl | (simp; done) | (simp_all; done))
@[simp] theorem State.ctlSyncLoss_blur (s : State) (n : Nat) (mk_ : Nat) (hmk : 131088 &&& mk_ = 131088) : (State.ctlSyncLoss s n).blur mk_ = s.blur mk_ := by
  refine State.blur_mono (m := 131088) ?_ hmk
  unfold State.ctlSyncLoss
  first | (simp; done) | ((repeat' split) <;> first | with_reducible rfl | (simp; done) | (simp_all; done))
@[simp] theorem State.ctlSyncTimeout_blur (s : State) (n : Nat) (mk_ : Nat) (hmk : 51300368 &&& mk_ = 51300368) : (State.ctlSyncTimeout s n).blur mk_ = s.blur mk_ := by
  refine State.blur_mono (m := 51300368) ?_ hmk
  unfold State.ctlSyncTimeout
  first | (simp; done) | ((repeat' split) <;> first | with_reducible rfl | (simp; done) | (simp_all; done))
@[simp] theorem State.cdrLock_blur (s : State) (n : Nat) (mk_ : Nat) (hmk : 16 &&& mk_ = 16) : (State.cdrLock s n).blur mk_ = s.blur mk_ := by
  refine State.blur_mono (m := 16) ?_ hmk
  unfold State.cdrLock
  first | (simp; done) | ((repeat' split) <;> first | with_reducible rfl | (simp; done) | (simp_all; done))
@[simp] theorem State.ctleSweep_blur (s : State) (n : Nat) (heights : List (List Nat)) (mk_ : Nat) (hmk : 131088 &&& mk_ = 131088) : (State.ctleSweep s n heights).blur mk_ = s.blur mk_ := by
  refine State.blur_mono (m := 131088) ?_ hmk
  unfold State.ctleSweep
  first | (simp; done) | ((repeat' split) <;> first | with_reducible rfl | (simp; done) | (simp_all; done))
@[simp] theorem State.dfeConverged_blur (s : State) (n : Nat) (taps : List (List Int)) (mk_ : Nat) (hmk : 655376 &&& mk_ = 655376) : (State.dfeConverged s n taps).blur mk_ = s.blur mk_ := by
  refine State.blur_mono (m := 655376) ?_ hmk
  unfold State.dfeConverged
  split
  · dsimp only
    refine (State.reqTrain_blur _ _ _ _ _ rfl).trans ((State.setLanes_blur _ _ _ _ rfl).trans ((State.forEach_blur _ _ _ _ (fun t x => by simp)).trans ?_))
    refine (State.setBit_blur _ _ _ _ _ rfl).trans ((State.setLport_blur _ _ _ _ rfl).trans ?_)
    refine foldl_blur _ _ (fun t x => foldl_blur _ _ (fun u y => ?_) _ _) _ _
    simp
  · rfl
@[simp] theorem State.amLock_blur (s : State) (n : Nat) (mk_ : Nat) (hmk : 16 &&& mk_ = 16) : (State.amLock s n).blur mk_ = s.blur mk_ := by
  refine State.blur_mono (m := 16) ?_ hmk
  unfold State.amLock
  first | (simp; done) | ((repeat' split) <;> first | with_reducible rfl | (simp; done) | (simp_all; done))
@[simp] theorem State.align_blur (s : State) (n : Nat) (mk_ : Nat) (hmk : 131072 &&& mk_ = 131072) : (State.align s n).blur mk_ = s.blur mk_ := by
  refine State.blur_mono (m := 131072) ?_ hmk
  unfold State.align
  extract_lets m at_
  split
  · rfl
  · exact State.forEach_blur _ _ _ _ (fun t l => State.setLane_blur _ _ _ _ rfl)
@[simp] theorem State.attemptFailed_blur (s : State) (n : Nat) (failed : BitVec 8) (mk_ : Nat) (hmk : 704528 &&& mk_ = 704528) : (State.attemptFailed s n failed).blur mk_ = s.blur mk_ := by
  refine State.blur_mono (m := 704528) ?_ hmk
  unfold State.attemptFailed
  first | (simp; done) | ((repeat' split) <;> first | with_reducible rfl | (simp; done) | (simp_all; done))
@[simp] theorem State.trainingTimeout_blur (s : State) (n : Nat) (failed : BitVec 8) (mk_ : Nat) (hmk : 704528 &&& mk_ = 704528) : (State.trainingTimeout s n failed).blur mk_ = s.blur mk_ := by
  refine State.blur_mono (m := 704528) ?_ hmk
  unfold State.trainingTimeout
  first | (simp; done) | ((repeat' split) <;> first | with_reducible rfl | (simp; done) | (simp_all; done))
@[simp] theorem State.portUpEvent_blur (s : State) (n : Nat) (skew : Nat) (mk_ : Nat) (hmk : 704528 &&& mk_ = 704528) : (State.portUpEvent s n skew).blur mk_ = s.blur mk_ := by
  refine State.blur_mono (m := 704528) ?_ hmk
  unfold State.portUpEvent
  first | (simp; done) | ((repeat' split) <;> first | with_reducible rfl | (simp; done) | (simp_all; done))
@[simp] theorem State.laneFault_blur (s : State) (n : Nat) (l : Nat) (mk_ : Nat) (hmk : 51300368 &&& mk_ = 51300368) : (State.laneFault s n l).blur mk_ = s.blur mk_ := by
  refine State.blur_mono (m := 51300368) ?_ hmk
  unfold State.laneFault
  first | (simp; done) | ((repeat' split) <;> first | with_reducible rfl | (simp; done) | (simp_all; done))
@[simp] theorem State.retrain_blur (s : State) (n : Nat) (mk_ : Nat) (hmk : 51300368 &&& mk_ = 51300368) : (State.retrain s n).blur mk_ = s.blur mk_ := by
  refine State.blur_mono (m := 51300368) ?_ hmk
  unfold State.retrain
  first | (simp; done) | ((repeat' split) <;> first | with_reducible rfl | (simp; done) | (simp_all; done))
@[simp] theorem State.dfeUpdate_blur (s : State) (l : Nat) (signE : Int) (signD : List Int) (mk_ : Nat) (hmk : 16 &&& mk_ = 16) : (State.dfeUpdate s l signE signD).blur mk_ = s.blur mk_ := by
  refine State.blur_mono (m := 16) ?_ hmk
  unfold State.dfeUpdate
  first | (simp; done) | ((repeat' split) <;> first | with_reducible rfl | (simp; done) | (simp_all; done))
@[simp] theorem State.scanConfig_blur (s : State) (l : Nat) (v : Word) (mk_ : Nat) (hmk : 16 &&& mk_ = 16) : (State.scanConfig s l v).blur mk_ = s.blur mk_ := by
  refine State.blur_mono (m := 16) ?_ hmk
  unfold State.scanConfig
  first | (simp; done) | ((repeat' split) <;> first | with_reducible rfl | (simp; done) | (simp_all; done))
@[simp] theorem State.scanStart_blur (s : State) (l : Nat) (v : Word) (mk_ : Nat) (hmk : 49168 &&& mk_ = 49168) : (State.scanStart s l v).blur mk_ = s.blur mk_ := by
  refine State.blur_mono (m := 49168) ?_ hmk
  unfold State.scanStart
  first | (simp; done) | ((repeat' split) <;> first | with_reducible rfl | (simp; done) | (simp_all; done))
@[simp] theorem State.scanPoint_blur (s : State) (l : Nat) (errors : Nat) (mk_ : Nat) (hmk : 16 &&& mk_ = 16) : (State.scanPoint s l errors).blur mk_ = s.blur mk_ := by
  refine State.blur_mono (m := 16) ?_ hmk
  unfold State.scanPoint
  first | (simp; done) | ((repeat' split) <;> first | with_reducible rfl | (simp; done) | (simp_all; done))
@[simp] theorem State.codeword_blur (s : State) (l : Nat) (symbols : List Nat) (mk_ : Nat) (hmk : 51300368 &&& mk_ = 51300368) : (State.codeword s l symbols).blur mk_ = s.blur mk_ := by
  refine State.blur_mono (m := 51300368) ?_ hmk
  unfold State.codeword
  extract_lets n st ln bits w dec unc s1 msg blks am hit drop r cw miss first s2
  split
  · rfl
  · have h1 : s1.blur 51300368 = s.blur 51300368 := by
      simp only [s1]
      clear_value dec
      split <;> simp
    have h2 : s2.blur 51300368 = s.blur 51300368 := (State.setLane_blur _ _ _ _ rfl).trans h1
    clear_value s2
    split
    · exact (State.laneFault_blur _ _ _ _ rfl).trans h2
    · exact h2
@[simp] theorem State.hdrErr_blur (s : State) (n : Nat) (reg : Nat) (mk_ : Nat) (hmk : 49168 &&& mk_ = 49168) : (State.hdrErr s n reg).blur mk_ = s.blur mk_ := by
  refine State.blur_mono (m := 49168) ?_ hmk
  unfold State.hdrErr
  first | (simp; done) | ((repeat' split) <;> first | with_reducible rfl | (simp; done) | (simp_all; done))
@[simp] theorem State.checkHdr_blur (s : State) (n : Nat) (h : List Byte) (short : Bool) (unc : Bool) (mk_ : Nat) (hmk : 49168 &&& mk_ = 49168) : (State.checkHdr s n h short unc).1.blur mk_ = s.blur mk_ := by
  refine State.blur_mono (m := 49168) ?_ hmk
  unfold State.checkHdr
  first | (simp; done) | ((repeat' split) <;> first | with_reducible rfl | (simp; done) | (simp_all; done))
@[simp] theorem State.deliver_blur (s : State) (n : Nat) (h : List Byte) (d : List Byte) (crcErr : Bool) (unc : Bool) (mk_ : Nat) (hmk : 131088 &&& mk_ = 131088) : (State.deliver s n h d crcErr unc).blur mk_ = s.blur mk_ := by
  refine State.blur_mono (m := 131088) ?_ hmk
  unfold State.deliver
  first | (simp; done) | ((repeat' split) <;> first | with_reducible rfl | (simp; done) | (simp_all; done))
@[simp] theorem State.longStep_blur (s : State) (n : Nat) (h : List Byte) (d : List Byte) (unc : Bool) (mk_ : Nat) (hmk : 180240 &&& mk_ = 180240) : (State.longStep s n h d unc).1.blur mk_ = s.blur mk_ := by
  refine State.blur_mono (m := 180240) ?_ hmk
  unfold State.longStep
  first | (simp; done) | ((repeat' split) <;> first | with_reducible rfl | (simp; done) | (simp_all; done))
theorem State.takeBlock_blur (s : State) (n : Nat) {p_ : Blk} {t_ : State} (e_ : State.takeBlock s n = some (p_, t_)) (mk_ : Nat) (hmk : 131072 &&& mk_ = 131072) : t_.blur mk_ = s.blur mk_ := by
  refine State.blur_mono (m := 131072) ?_ hmk
  unfold State.takeBlock at e_
  dsimp only at e_
  split at e_
  · cases e_
  · simp only [Option.some.injEq, Prod.mk.injEq] at e_
    obtain ⟨rfl, rfl⟩ := e_
    simp
@[simp] theorem State.blockStep_blur (s : State) (n : Nat) (b : Blk) (mk_ : Nat) (hmk : 180240 &&& mk_ = 180240) : (State.blockStep s n b).1.blur mk_ = s.blur mk_ := by
  refine State.blur_mono (m := 180240) ?_ hmk
  unfold State.blockStep
  dsimp only
  repeat' split
  all_goals simp
@[simp] theorem State.packetReceive_blur (s : State) (n : Nat) (x0 : Nat) (mk_ : Nat) (hmk : 180240 &&& mk_ = 180240) : (State.packetReceive s n x0).blur mk_ = s.blur mk_ := by
  refine State.blur_mono (m := 180240) ?_ hmk
  induction x0 generalizing s with
  | zero => rfl
  | succ k ih =>
    unfold State.packetReceive
    dsimp only
    split
    · split
      · rw [ih]; simp
      · split <;> simp
    · split
      · rfl
      · rename_i heq
        have h0 := State.takeBlock_blur _ _ heq 180240 rfl
        split
        · simp
        · split
          · simp [h0]
          · rw [ih]; simp [h0]
@[simp] theorem State.packetRx_blur (s : State) (n : Nat) (mk_ : Nat) (hmk : 180240 &&& mk_ = 180240) : (State.packetRx s n).blur mk_ = s.blur mk_ := by
  refine State.blur_mono (m := 180240) ?_ hmk
  unfold State.packetRx
  first | (simp; done) | ((repeat' split) <;> first | with_reducible rfl | (simp; done) | (simp_all; done))

end Sys2Proof.Machine
end

