-- ==== Sys2Proof/Laws/FrameSchedule.lean ====
section
/-! SUPPORT. The fields that the operations of Schedule can change (see Laws/Frame.lean). -/

set_option Elab.async false
set_option linter.unusedTactic false
set_option linter.unreachableTactic false

namespace Sys2Proof.Machine

open Sys2Proof

@[simp] theorem State.setCmp_blur (s : State) (t : Nat) (e : Nat) (v : CmpEnt) (mk_ : Nat) (hmk : 524288 &&& mk_ = 524288) : (State.setCmp s t e v).blur mk_ = s.blur mk_ := by
  refine State.blur_mono (m := 524288) ?_ hmk
  unfold State.setCmp
  first | (simp; done) | ((repeat' split) <;> first | with_reducible rfl | (simp; done) | (simp_all; done))
@[simp] theorem State.schInfo_blur (s : State) (t : Nat) (e : Nat) (mk_ : Nat) (hmk : 16 &&& mk_ = 16) : (State.schInfo s t e).blur mk_ = s.blur mk_ := by
  refine State.blur_mono (m := 16) ?_ hmk
  unfold State.schInfo
  first | (simp; done) | ((repeat' split) <;> first | with_reducible rfl | (simp; done) | (simp_all; done))
@[simp] theorem State.notice_blur (s : State) (cause : Nat) (mk_ : Nat) (hmk : 49168 &&& mk_ = 49168) : (State.notice s cause).blur mk_ = s.blur mk_ := by
  refine State.blur_mono (m := 49168) ?_ hmk
  unfold State.notice
  first | (simp; done) | ((repeat' split) <;> first | with_reducible rfl | (simp; done) | (simp_all; done))
@[simp] theorem State.missed_blur (s : State) (t : Nat) (e : Nat) (n : Nat) (mk_ : Nat) (hmk : 49168 &&& mk_ = 49168) : (State.missed s t e n).blur mk_ = s.blur mk_ := by
  refine State.blur_mono (m := 49168) ?_ hmk
  unfold State.missed
  first | (simp; done) | ((repeat' split) <;> first | with_reducible rfl | (simp; done) | (simp_all; done))
@[simp] theorem State.lateAct_blur (s : State) (t : Nat) (e : Nat) (mk_ : Nat) (hmk : 49168 &&& mk_ = 49168) : (State.lateAct s t e).blur mk_ = s.blur mk_ := by
  refine State.blur_mono (m := 49168) ?_ hmk
  unfold State.lateAct
  first | (simp; done) | ((repeat' split) <;> first | with_reducible rfl | (simp; done) | (simp_all; done))
@[simp] theorem State.setLate_blur (s : State) (t : Nat) (e : Nat) (mk_ : Nat) (hmk : 573456 &&& mk_ = 573456) : (State.setLate s t e).blur mk_ = s.blur mk_ := by
  refine State.blur_mono (m := 573456) ?_ hmk
  unfold State.setLate
  first | (simp; done) | ((repeat' split) <;> first | with_reducible rfl | (simp; done) | (simp_all; done))
@[simp] theorem State.putAct_blur (s : State) (a : Act) (mk_ : Nat) (hmk : 573456 &&& mk_ = 573456) : (State.putAct s a).blur mk_ = s.blur mk_ := by
  refine State.blur_mono (m := 573456) ?_ hmk
  unfold State.putAct
  first | (simp; done) | ((repeat' split) <;> first | with_reducible rfl | (simp; done) | (simp_all; done))
@[simp] theorem State.planAct_blur (s : State) (t : Nat) (e : Nat) (c : CmpEnt) (ta : Int) (up : Bool) (late : Bool) (mk_ : Nat) (hmk : 573456 &&& mk_ = 573456) : (State.planAct s t e c ta up late).blur mk_ = s.blur mk_ := by
  refine State.blur_mono (m := 573456) ?_ hmk
  unfold State.planAct
  first | (simp; done) | ((repeat' split) <;> first | with_reducible rfl | (simp; done) | (simp_all; done))
@[simp] theorem State.recheck_blur (s : State) (t : Nat) (e : Nat) (mk_ : Nat) (hmk : 573456 &&& mk_ = 573456) : (State.recheck s t e).blur mk_ = s.blur mk_ := by
  refine State.blur_mono (m := 573456) ?_ hmk
  unfold State.recheck
  first | (simp; done) | ((repeat' split) <;> first | with_reducible rfl | (simp; done) | (simp_all; done))
@[simp] theorem State.afterFire_blur (s : State) (t : Nat) (e : Nat) (rising : Bool) (mk_ : Nat) (hmk : 573456 &&& mk_ = 573456) : (State.afterFire s t e rising).blur mk_ = s.blur mk_ := by
  refine State.blur_mono (m := 573456) ?_ hmk
  unfold State.afterFire
  first | (simp; done) | ((repeat' split) <;> first | with_reducible rfl | (simp; done) | (simp_all; done))
@[simp] theorem State.fireEntry_blur (s : State) (t : Nat) (e : Nat) (rising : Bool) (tx : Int) (late : Bool) (mk_ : Nat) (hmk : 573456 &&& mk_ = 573456) : (State.fireEntry s t e rising tx late).blur mk_ = s.blur mk_ := by
  refine State.blur_mono (m := 573456) ?_ hmk
  unfold State.fireEntry
  first | (simp; done) | ((repeat' split) <;> first | with_reducible rfl | (simp; done) | (simp_all; done))
@[simp] theorem State.repredict_blur (s : State) (ax : Nat) (mk_ : Nat) (hmk : 524288 &&& mk_ = 524288) : (State.repredict s ax).blur mk_ = s.blur mk_ := by
  refine State.blur_mono (m := 524288) ?_ hmk
  unfold State.repredict
  first | (simp; done) | ((repeat' split) <;> first | with_reducible rfl | (simp; done) | (simp_all; done))
@[simp] theorem State.rearmAxis_blur (s : State) (ax : Nat) (mk_ : Nat) (hmk : 524288 &&& mk_ = 524288) : (State.rearmAxis s ax).blur mk_ = s.blur mk_ := by
  refine State.blur_mono (m := 524288) ?_ hmk
  unfold State.rearmAxis
  refine State.forEach_blur _ _ _ _ (fun t x => ?_)
  split
  · rfl
  · extract_lets a h
    refine State.forEach_blur _ _ _ _ (fun u y => ?_)
    extract_lets c d
    split
    · rfl
    · extract_lets away
      split
      · exact State.setCmp_blur _ _ _ _ _ rfl
      · rfl
@[simp] theorem State.withdraw_blur (s : State) (t : Nat) (mk_ : Nat) (hmk : 524288 &&& mk_ = 524288) : (State.withdraw s t).blur mk_ = s.blur mk_ := by
  refine State.blur_mono (m := 524288) ?_ hmk
  unfold State.withdraw
  first | (simp; done) | ((repeat' split) <;> first | with_reducible rfl | (simp; done) | (simp_all; done))
@[simp] theorem State.withdrawAxis_blur (s : State) (ax : Nat) (mk_ : Nat) (hmk : 524288 &&& mk_ = 524288) : (State.withdrawAxis s ax).blur mk_ = s.blur mk_ := by
  refine State.blur_mono (m := 524288) ?_ hmk
  unfold State.withdrawAxis
  first | (simp; done) | ((repeat' split) <;> first | with_reducible rfl | (simp; done) | (simp_all; done))
@[simp] theorem State.applyPending_blur (s : State) (n : Nat) (k : Nat) (mk_ : Nat) (hmk : 49168 &&& mk_ = 49168) : (State.applyPending s n k).blur mk_ = s.blur mk_ := by
  refine State.blur_mono (m := 49168) ?_ hmk
  unfold State.applyPending
  first | (simp; done) | ((repeat' split) <;> first | with_reducible rfl | (simp; done) | (simp_all; done))
@[simp] theorem State.expect_blur (s : State) (n : Nat) (mk_ : Nat) (hmk : 655376 &&& mk_ = 655376) : (State.expect s n).blur mk_ = s.blur mk_ := by
  refine State.blur_mono (m := 655376) ?_ hmk
  unfold State.expect
  first | (simp; done) | ((repeat' split) <;> first | with_reducible rfl | (simp; done) | (simp_all; done))
@[simp] theorem State.expectIdle_blur (s : State) (mk_ : Nat) (hmk : 655376 &&& mk_ = 655376) : (State.expectIdle s).blur mk_ = s.blur mk_ := by
  refine State.blur_mono (m := 655376) ?_ hmk
  unfold State.expectIdle
  first | (simp; done) | ((repeat' split) <;> first | with_reducible rfl | (simp; done) | (simp_all; done))
@[simp] theorem State.recheckTbl_blur (s : State) (t : Nat) (mk_ : Nat) (hmk : 704528 &&& mk_ = 704528) : (State.recheckTbl s t).blur mk_ = s.blur mk_ := by
  refine State.blur_mono (m := 704528) ?_ hmk
  unfold State.recheckTbl
  first | (simp; done) | ((repeat' split) <;> first | with_reducible rfl | (simp; done) | (simp_all; done))
@[simp] theorem State.recheckAxis_blur (s : State) (ax : Nat) (mk_ : Nat) (hmk : 704528 &&& mk_ = 704528) : (State.recheckAxis s ax).blur mk_ = s.blur mk_ := by
  refine State.blur_mono (m := 704528) ?_ hmk
  unfold State.recheckAxis
  first | (simp; done) | ((repeat' split) <;> first | with_reducible rfl | (simp; done) | (simp_all; done))
@[simp] theorem State.recheckNew_blur (s : State) (old : List (List Nat)) (mk_ : Nat) (hmk : 704528 &&& mk_ = 704528) : (State.recheckNew s old).blur mk_ = s.blur mk_ := by
  refine State.blur_mono (m := 704528) ?_ hmk
  unfold State.recheckNew
  exact (State.expectIdle_blur _ _ rfl).trans (State.forEach_blur _ _ _ _ (fun u t =>
    State.forEach_blur _ _ _ _ (fun w e => State.recheck_blur _ _ _ _ rfl)))
@[simp] theorem State.writeCmp_blur (s : State) (t : Nat) (e : Nat) (b : List Byte) (mk_ : Nat) (hmk : 704528 &&& mk_ = 704528) : (State.writeCmp s t e b).blur mk_ = s.blur mk_ := by
  refine State.blur_mono (m := 704528) ?_ hmk
  unfold State.writeCmp
  first | (simp; done) | ((repeat' split) <;> first | with_reducible rfl | (simp; done) | (simp_all; done))
@[simp] theorem State.entryWrite_blur (s : State) (t : Nat) (mk_ : Nat) (hmk : 704528 &&& mk_ = 704528) : (State.entryWrite s t).blur mk_ = s.blur mk_ := by
  refine State.blur_mono (m := 704528) ?_ hmk
  unfold State.entryWrite
  first | (simp; done) | ((repeat' split) <;> first | with_reducible rfl | (simp; done) | (simp_all; done))
@[simp] theorem State.entryRead_blur (s : State) (t : Nat) (mk_ : Nat) (hmk : 16 &&& mk_ = 16) : (State.entryRead s t).blur mk_ = s.blur mk_ := by
  refine State.blur_mono (m := 16) ?_ hmk
  unfold State.entryRead
  first | (simp; done) | ((repeat' split) <;> first | with_reducible rfl | (simp; done) | (simp_all; done))
@[simp] theorem execEntryWrite_blur (t : Fin 8) (s : State) (mk_ : Nat) (hmk : 704528 &&& mk_ = 704528) : outBlur mk_ (execEntryWrite t s) = some (s.blur mk_) := by
  refine outBlur_mono (m := 704528) ?_ hmk
  unfold execEntryWrite
  first | (simp; done) | ((repeat' split) <;> first | with_reducible rfl | (simp; done) | (simp_all; done))
@[simp] theorem execEntryRead_blur (t : Fin 8) (s : State) (mk_ : Nat) (hmk : 16 &&& mk_ = 16) : outBlur mk_ (execEntryRead t s) = some (s.blur mk_) := by
  refine outBlur_mono (m := 16) ?_ hmk
  unfold execEntryRead
  first | (simp; done) | ((repeat' split) <;> first | with_reducible rfl | (simp; done) | (simp_all; done))
@[simp] theorem State.crossing_blur (s : State) (t : Nat) (e : Nat) (rising : Bool) (tx : Nat) (mk_ : Nat) (hmk : 704528 &&& mk_ = 704528) : (State.crossing s t e rising tx).blur mk_ = s.blur mk_ := by
  refine State.blur_mono (m := 704528) ?_ hmk
  unfold State.crossing
  first | (simp; done) | ((repeat' split) <;> first | with_reducible rfl | (simp; done) | (simp_all; done))
@[simp] theorem execCrossing_blur (t : Fin 8) (e : Fin 4096) (rising : Bool) (tx : Nat) (s : State) (mk_ : Nat) (hmk : 704528 &&& mk_ = 704528) : outBlur mk_ (execCrossing t e rising tx s) = some (s.blur mk_) := by
  refine outBlur_mono (m := 704528) ?_ hmk
  unfold execCrossing
  first | (simp; done) | ((repeat' split) <;> first | with_reducible rfl | (simp; done) | (simp_all; done))
@[simp] theorem State.edgeCommit_blur (s : State) (t : Nat) (e : Nat) (mk_ : Nat) (hmk : 573456 &&& mk_ = 573456) : (State.edgeCommit s t e).blur mk_ = s.blur mk_ := by
  refine State.blur_mono (m := 573456) ?_ hmk
  unfold State.edgeCommit
  try dsimp only
  repeat' split
  all_goals first | with_reducible rfl | (simp; done) | (simp [*]; done) | (simp_all; done)
@[simp] theorem execEdgeCommit_blur (t : Fin 8) (e : Fin 4096) (s : State) (mk_ : Nat) (hmk : 573456 &&& mk_ = 573456) : outBlur mk_ (execEdgeCommit t e s) = some (s.blur mk_) := by
  refine outBlur_mono (m := 573456) ?_ hmk
  unfold execEdgeCommit
  first | (simp; done) | ((repeat' split) <;> first | with_reducible rfl | (simp; done) | (simp_all; done))
theorem State.takeAct_blur (s : State) (t : Nat) (e : Nat) (kind : Nat) {p_ : Act} {t_ : State} (e_ : State.takeAct s t e kind = some (p_, t_)) (mk_ : Nat) (hmk : 524288 &&& mk_ = 524288) : t_.blur mk_ = s.blur mk_ := by
  refine State.blur_mono (m := 524288) ?_ hmk
  unfold State.takeAct at e_
  extract_lets p at e_
  split at e_
  · split at e_
    · cases e_
    · split at e_
      · cases e_
      · simp only [Option.some.injEq, Prod.mk.injEq] at e_
        obtain ⟨rfl, rfl⟩ := e_
        simp
  · cases e_
@[simp] theorem State.fixKept_blur (s : State) (i : Nat) (p : Nat) (k : Nat) (mk_ : Nat) (hmk : 262144 &&& mk_ = 262144) : (State.fixKept s i p k).blur mk_ = s.blur mk_ := by
  refine State.blur_mono (m := 262144) ?_ hmk
  unfold State.fixKept
  try dsimp only
  repeat' split
  all_goals first | with_reducible rfl | (simp; done) | (simp [*]; done) | (simp_all; done)
@[simp] theorem State.endPost_blur (s : State) (i : Nat) (mk_ : Nat) (hmk : 786448 &&& mk_ = 786448) : (State.endPost s i).blur mk_ = s.blur mk_ := by
  refine State.blur_mono (m := 786448) ?_ hmk
  unfold State.endPost
  first | (simp; done) | ((repeat' split) <;> first | with_reducible rfl | (simp; done) | (simp_all; done))
@[simp] theorem State.countPost_blur (s : State) (i : Nat) (k : Nat) (mk_ : Nat) (hmk : 786448 &&& mk_ = 786448) : (State.countPost s i k).blur mk_ = s.blur mk_ := by
  refine State.blur_mono (m := 786448) ?_ hmk
  unfold State.countPost
  first | (simp; done) | ((repeat' split) <;> first | with_reducible rfl | (simp; done) | (simp_all; done))
@[simp] theorem State.placed_blur (s : State) (i : Nat) (p : Nat) (serial : Nat) (ts : Int) (cand : Bool) (mk_ : Nat) (hmk : 786448 &&& mk_ = 786448) : (State.placed s i p serial ts cand).blur mk_ = s.blur mk_ := by
  refine State.blur_mono (m := 786448) ?_ hmk
  unfold State.placed
  first | (simp; done) | ((repeat' split) <;> first | with_reducible rfl | (simp; done) | (simp_all; done))
@[simp] theorem State.trigger_blur (s : State) (i : Nat) (t : Int) (lin : BitVec 64) (mk_ : Nat) (hmk : 835600 &&& mk_ = 835600) : (State.trigger s i t lin).blur mk_ = s.blur mk_ := by
  refine State.blur_mono (m := 835600) ?_ hmk
  unfold State.trigger
  try dsimp only
  repeat' split
  all_goals first | with_reducible rfl | (simp; done) | (simp [*]; done) | (simp_all; done)
@[simp] theorem State.stop_blur (s : State) (i : Nat) (lin : BitVec 64) (mk_ : Nat) (hmk : 786448 &&& mk_ = 786448) : (State.stop s i lin).blur mk_ = s.blur mk_ := by
  refine State.blur_mono (m := 786448) ?_ hmk
  unfold State.stop
  first | (simp; done) | ((repeat' split) <;> first | with_reducible rfl | (simp; done) | (simp_all; done))
@[simp] theorem State.stopAll_blur (s : State) (mk_ : Nat) (hmk : 786448 &&& mk_ = 786448) : (State.stopAll s).blur mk_ = s.blur mk_ := by
  refine State.blur_mono (m := 786448) ?_ hmk
  unfold State.stopAll
  first | (simp; done) | ((repeat' split) <;> first | with_reducible rfl | (simp; done) | (simp_all; done))
@[simp] theorem State.armStr_blur (s : State) (i : Nat) (mk_ : Nat) (hmk : 1884176 &&& mk_ = 1884176) : (State.armStr s i).blur mk_ = s.blur mk_ := by
  refine State.blur_mono (m := 1884176) ?_ hmk
  unfold State.armStr
  first | (simp; done) | ((repeat' split) <;> first | with_reducible rfl | (simp; done) | (simp_all; done))
@[simp] theorem execTrig_blur (stream : Fin 64) (s : State) (mk_ : Nat) (hmk : 835600 &&& mk_ = 835600) : outBlur mk_ (execTrig stream s) = some (s.blur mk_) := by
  refine outBlur_mono (m := 835600) ?_ hmk
  unfold execTrig
  first | (simp; done) | ((repeat' split) <;> first | with_reducible rfl | (simp; done) | (simp_all; done))
@[simp] theorem execStop_blur (stream : Fin 64) (s : State) (mk_ : Nat) (hmk : 786448 &&& mk_ = 786448) : outBlur mk_ (execStop stream s) = some (s.blur mk_) := by
  refine outBlur_mono (m := 786448) ?_ hmk
  unfold execStop
  first | (simp; done) | ((repeat' split) <;> first | with_reducible rfl | (simp; done) | (simp_all; done))
@[simp] theorem State.tblChanged_blur (s : State) (t : Nat) (old : List Nat) (mk_ : Nat) (hmk : 704528 &&& mk_ = 704528) : (State.tblChanged s t old).blur mk_ = s.blur mk_ := by
  refine State.blur_mono (m := 704528) ?_ hmk
  unfold State.tblChanged
  first | (simp; done) | ((repeat' split) <;> first | with_reducible rfl | (simp; done) | (simp_all; done))
@[simp] theorem State.takeTask_blur (s : State) (x : Nat) (mk_ : Nat) (hmk : 32768 &&& mk_ = 32768) : (State.takeTask s x).1.blur mk_ = s.blur mk_ := by
  refine State.blur_mono (m := 32768) ?_ hmk
  unfold State.takeTask
  first | (simp; done) | ((repeat' split) <;> first | with_reducible rfl | (simp; done) | (simp_all; done))
@[simp] theorem execStrTrig_blur (stream : Fin 64) (s : State) (mk_ : Nat) (hmk : 835600 &&& mk_ = 835600) : outBlur mk_ (execStrTrig stream s) = some (s.blur mk_) := by
  refine outBlur_mono (m := 835600) ?_ hmk
  unfold execStrTrig
  first | (simp; done) | ((repeat' split) <;> first | with_reducible rfl | (simp; done) | (simp_all; done))
@[simp] theorem execStrStop_blur (stream : Fin 64) (s : State) (mk_ : Nat) (hmk : 819216 &&& mk_ = 819216) : outBlur mk_ (execStrStop stream s) = some (s.blur mk_) := by
  refine outBlur_mono (m := 819216) ?_ hmk
  unfold execStrStop
  first | (simp; done) | ((repeat' split) <;> first | with_reducible rfl | (simp; done) | (simp_all; done))
@[simp] theorem State.setTblLin_blur (s : State) (t : Nat) (v : BitVec 64) (mk_ : Nat) (hmk : 524288 &&& mk_ = 524288) : (State.setTblLin s t v).blur mk_ = s.blur mk_ := by
  refine State.blur_mono (m := 524288) ?_ hmk
  unfold State.setTblLin
  first | (simp; done) | ((repeat' split) <;> first | with_reducible rfl | (simp; done) | (simp_all; done))
@[simp] theorem execTblEn_blur (t : Fin 8) (s : State) (mk_ : Nat) (hmk : 704528 &&& mk_ = 704528) : outBlur mk_ (execTblEn t s) = some (s.blur mk_) := by
  refine outBlur_mono (m := 704528) ?_ hmk
  unfold execTblEn
  first | (simp; done) | ((repeat' split) <;> first | with_reducible rfl | (simp; done) | (simp_all; done))
@[simp] theorem execTblDis_blur (t : Fin 8) (s : State) (mk_ : Nat) (hmk : 557072 &&& mk_ = 557072) : outBlur mk_ (execTblDis t s) = some (s.blur mk_) := by
  refine outBlur_mono (m := 557072) ?_ hmk
  unfold execTblDis
  first | (simp; done) | ((repeat' split) <;> first | with_reducible rfl | (simp; done) | (simp_all; done))
@[simp] theorem State.segmentClose_blur (s : State) (p : Nat) (mk_ : Nat) (hmk : 17614928 &&& mk_ = 17614928) : (State.segmentClose s p).1.blur mk_ = s.blur mk_ := by
  refine State.blur_mono (m := 17614928) ?_ hmk
  unfold State.segmentClose
  try dsimp only
  repeat' split
  all_goals first | with_reducible rfl | (simp; done) | (simp [*]; done) | (simp_all; done)
@[simp] theorem State.gapEntry_blur (s : State) (i : Nat) (n : Nat) (eps : Nat) (ts : Int) (late : Bool) (fl : BitVec 32) (mk_ : Nat) (hmk : 835664 &&& mk_ = 835664) : (State.gapEntry s i n eps ts late fl).blur mk_ = s.blur mk_ := by
  refine State.blur_mono (m := 835664) ?_ hmk
  unfold State.gapEntry
  try dsimp only
  repeat' split
  all_goals first | with_reducible rfl | (simp; done) | (simp [*]; done) | (simp_all; done)
@[simp] theorem State.placeExpose_blur (s : State) (i : Nat) (n : Nat) (eps : Nat) (ts : Int) (late : Bool) (mk_ : Nat) (hmk : 966736 &&& mk_ = 966736) : (State.placeExpose s i n eps ts late).blur mk_ = s.blur mk_ := by
  refine State.blur_mono (m := 966736) ?_ hmk
  unfold State.placeExpose
  try dsimp only
  repeat' split
  all_goals first | with_reducible rfl | (simp; done) | (simp [*]; done) | (simp_all; done)
@[simp] theorem State.exposeOne_blur (s : State) (i : Nat) (n0 : Nat) (eps : Nat) (ts : Int) (late : Bool) (mk_ : Nat) (hmk : 966736 &&& mk_ = 966736) : (State.exposeOne s i n0 eps ts late).blur mk_ = s.blur mk_ := by
  refine State.blur_mono (m := 966736) ?_ hmk
  unfold State.exposeOne
  first | (simp; done) | ((repeat' split) <;> first | with_reducible rfl | (simp; done) | (simp_all; done))
@[simp] theorem State.expose_blur (s : State) (t : Nat) (e : Nat) (mk_ : Nat) (hmk : 966736 &&& mk_ = 966736) : (State.expose s t e).blur mk_ = s.blur mk_ := by
  refine State.blur_mono (m := 966736) ?_ hmk
  unfold State.expose
  split
  · rfl
  · rename_i h
    exact (State.forEach_blur _ _ _ _ (fun u p => State.exposeOne_blur _ _ _ _ _ _ _ rfl)).trans (State.takeAct_blur _ _ _ _ h 966736 rfl)
@[simp] theorem execExpose_blur (t : Fin 8) (e : Fin 4096) (s : State) (mk_ : Nat) (hmk : 966736 &&& mk_ = 966736) : outBlur mk_ (execExpose t e s) = some (s.blur mk_) := by
  refine outBlur_mono (m := 966736) ?_ hmk
  unfold execExpose
  first | (simp; done) | ((repeat' split) <;> first | with_reducible rfl | (simp; done) | (simp_all; done))
@[simp] theorem execTriggerPulseEnd_blur (head : Fin 4) (s : State) (mk_ : Nat) (hmk : 524288 &&& mk_ = 524288) : outBlur mk_ (execTriggerPulseEnd head s) = some (s.blur mk_) := by
  refine outBlur_mono (m := 524288) ?_ hmk
  unfold execTriggerPulseEnd
  first | (simp; done) | ((repeat' split) <;> first | with_reducible rfl | (simp; done) | (simp_all; done))
@[simp] theorem State.setStrobe_blur (s : State) (n : Nat) (v : Strobe) (mk_ : Nat) (hmk : 524304 &&& mk_ = 524304) : (State.setStrobe s n v).blur mk_ = s.blur mk_ := by
  refine State.blur_mono (m := 524304) ?_ hmk
  unfold State.setStrobe
  first | (simp; done) | ((repeat' split) <;> first | with_reducible rfl | (simp; done) | (simp_all; done))
@[simp] theorem State.strobeDrop_blur (s : State) (n : Nat) (mk_ : Nat) (hmk : 49168 &&& mk_ = 49168) : (State.strobeDrop s n).blur mk_ = s.blur mk_ := by
  refine State.blur_mono (m := 49168) ?_ hmk
  unfold State.strobeDrop
  first | (simp; done) | ((repeat' split) <;> first | with_reducible rfl | (simp; done) | (simp_all; done))
@[simp] theorem State.schPulse_blur (s : State) (n : Nat) (stop : Int) (mk_ : Nat) (hmk : 573456 &&& mk_ = 573456) : (State.schPulse s n stop).blur mk_ = s.blur mk_ := by
  refine State.blur_mono (m := 573456) ?_ hmk
  unfold State.schPulse
  try dsimp only
  repeat' split
  all_goals first | with_reducible rfl | (simp; done) | (simp [*]; done) | (simp_all; done)
@[simp] theorem State.chanPulse_blur (s : State) (n : Nat) (stop : Int) (mk_ : Nat) (hmk : 573456 &&& mk_ = 573456) : (State.chanPulse s n stop).blur mk_ = s.blur mk_ := by
  refine State.blur_mono (m := 573456) ?_ hmk
  unfold State.chanPulse
  try dsimp only
  repeat' split
  all_goals first | with_reducible rfl | (simp; done) | (simp [*]; done) | (simp_all; done)
@[simp] theorem execStrobe_blur (t : Fin 8) (e : Fin 4096) (s : State) (mk_ : Nat) (hmk : 573456 &&& mk_ = 573456) : outBlur mk_ (execStrobe t e s) = some (s.blur mk_) := by
  refine outBlur_mono (m := 573456) ?_ hmk
  unfold execStrobe
  split
  · rfl
  · rename_i h
    rw [outBlur_next, State.schPulse_blur _ _ _ _ rfl, State.takeAct_blur _ _ _ _ h 573456 rfl]
@[simp] theorem execStrobeEnd_blur (so : Fin 8) (s : State) (mk_ : Nat) (hmk : 524304 &&& mk_ = 524304) : outBlur mk_ (execStrobeEnd so s) = some (s.blur mk_) := by
  refine outBlur_mono (m := 524304) ?_ hmk
  unfold execStrobeEnd
  first | (simp; done) | ((repeat' split) <;> first | with_reducible rfl | (simp; done) | (simp_all; done))
@[simp] theorem State.marker_blur (s : State) (i : Nat) (n : Nat) (ta : Int) (v : Nat) (mk_ : Nat) (hmk : 835664 &&& mk_ = 835664) : (State.marker s i n ta v).blur mk_ = s.blur mk_ := by
  refine State.blur_mono (m := 835664) ?_ hmk
  unfold State.marker
  try dsimp only
  repeat' split
  all_goals first | with_reducible rfl | (simp; done) | (simp [*]; done) | (simp_all; done)
@[simp] theorem State.markOne_blur (s : State) (a : Act) (i : Nat) (n : Nat) (mk_ : Nat) (hmk : 835664 &&& mk_ = 835664) : (State.markOne s a i n).blur mk_ = s.blur mk_ := by
  refine State.blur_mono (m := 835664) ?_ hmk
  unfold State.markOne
  first | (simp; done) | ((repeat' split) <;> first | with_reducible rfl | (simp; done) | (simp_all; done))
@[simp] theorem execMark_blur (t : Fin 8) (e : Fin 4096) (s : State) (mk_ : Nat) (hmk : 835664 &&& mk_ = 835664) : outBlur mk_ (execMark t e s) = some (s.blur mk_) := by
  refine outBlur_mono (m := 835664) ?_ hmk
  unfold execMark
  split
  · rfl
  · rename_i h
    rw [outBlur_next, State.forEach_blur _ _ _ _ (fun u p => State.markOne_blur _ _ _ _ _ rfl), State.takeAct_blur _ _ _ _ h 835664 rfl]
@[simp] theorem execFire_blur (t : Fin 8) (e : Fin 4096) (s : State) (mk_ : Nat) (hmk : 557056 &&& mk_ = 557056) : outBlur mk_ (execFire t e s) = some (s.blur mk_) := by
  refine outBlur_mono (m := 557056) ?_ hmk
  unfold execFire
  split
  · rfl
  · rename_i h
    rw [outBlur_next, State.toChannel_blur _ _ _ _ rfl, State.takeAct_blur _ _ _ _ h 557056 rfl]
@[simp] theorem State.epCommit_blur (s : State) (v : Word) (mk_ : Nat) (hmk : 573456 &&& mk_ = 573456) : (State.epCommit s v).blur mk_ = s.blur mk_ := by
  refine State.blur_mono (m := 573456) ?_ hmk
  unfold State.epCommit
  first | (simp; done) | ((repeat' split) <;> first | with_reducible rfl | (simp; done) | (simp_all; done))
@[simp] theorem execEpcommit_blur (v : Word) (s : State) (mk_ : Nat) (hmk : 573456 &&& mk_ = 573456) : outBlur mk_ (execEpcommit v s) = some (s.blur mk_) := by
  refine outBlur_mono (m := 573456) ?_ hmk
  unfold execEpcommit
  first | (simp; done) | ((repeat' split) <;> first | with_reducible rfl | (simp; done) | (simp_all; done))
@[simp] theorem State.setA5_blur (s : State) (a : A5) (mk_ : Nat) (hmk : 524288 &&& mk_ = 524288) : (State.setA5 s a).blur mk_ = s.blur mk_ := by
  refine State.blur_mono (m := 524288) ?_ hmk
  unfold State.setA5
  first | (simp; done) | ((repeat' split) <;> first | with_reducible rfl | (simp; done) | (simp_all; done))
@[simp] theorem State.syncA5_blur (s : State) (mk_ : Nat) (hmk : 16 &&& mk_ = 16) : (State.syncA5 s).blur mk_ = s.blur mk_ := by
  refine State.blur_mono (m := 16) ?_ hmk
  unfold State.syncA5
  first | (simp; done) | ((repeat' split) <;> first | with_reducible rfl | (simp; done) | (simp_all; done))
@[simp] theorem State.a5Unlock_blur (s : State) (mk_ : Nat) (hmk : 573456 &&& mk_ = 573456) : (State.a5Unlock s).blur mk_ = s.blur mk_ := by
  refine State.blur_mono (m := 573456) ?_ hmk
  unfold State.a5Unlock
  first | (simp; done) | ((repeat' split) <;> first | with_reducible rfl | (simp; done) | (simp_all; done))
@[simp] theorem State.zeroCrossing_blur (s : State) (stamp : Int) (mk_ : Nat) (hmk : 704528 &&& mk_ = 704528) : (State.zeroCrossing s stamp).blur mk_ = s.blur mk_ := by
  refine State.blur_mono (m := 704528) ?_ hmk
  unfold State.zeroCrossing
  first | (simp; done) | ((repeat' split) <;> first | with_reducible rfl | (simp; done) | (simp_all; done))
@[simp] theorem execMainsZeroCrossing_blur (stamp : Nat) (s : State) (mk_ : Nat) (hmk : 704528 &&& mk_ = 704528) : outBlur mk_ (execMainsZeroCrossing stamp s) = some (s.blur mk_) := by
  refine outBlur_mono (m := 704528) ?_ hmk
  unfold execMainsZeroCrossing
  first | (simp; done) | ((repeat' split) <;> first | with_reducible rfl | (simp; done) | (simp_all; done))
@[simp] theorem execA5UnlockTimeout_blur (s : State) (mk_ : Nat) (hmk : 573456 &&& mk_ = 573456) : outBlur mk_ (execA5UnlockTimeout s) = some (s.blur mk_) := by
  refine outBlur_mono (m := 573456) ?_ hmk
  unfold execA5UnlockTimeout
  first | (simp; done) | ((repeat' split) <;> first | with_reducible rfl | (simp; done) | (simp_all; done))
@[simp] theorem State.triggerInput_blur (s : State) (n : Nat) (level : Bool) (stamp : Int) (mk_ : Nat) (hmk : 573504 &&& mk_ = 573504) : (State.triggerInput s n level stamp).blur mk_ = s.blur mk_ := by
  refine State.blur_mono (m := 573504) ?_ hmk
  unfold State.triggerInput
  first | (simp; done) | ((repeat' split) <;> first | with_reducible rfl | (simp; done) | (simp_all; done))
@[simp] theorem execTriggerInputEdge_blur (n : Fin 8) (level : Bool) (stamp : Nat) (s : State) (mk_ : Nat) (hmk : 573504 &&& mk_ = 573504) : outBlur mk_ (execTriggerInputEdge n level stamp s) = some (s.blur mk_) := by
  refine outBlur_mono (m := 573504) ?_ hmk
  unfold execTriggerInputEdge
  first | (simp; done) | ((repeat' split) <;> first | with_reducible rfl | (simp; done) | (simp_all; done))
@[simp] theorem State.a6Clear_blur (s : State) (v : Word) (mk_ : Nat) (hmk : 573520 &&& mk_ = 573520) : (State.a6Clear s v).blur mk_ = s.blur mk_ := by
  refine State.blur_mono (m := 573520) ?_ hmk
  unfold State.a6Clear
  first | (simp; done) | ((repeat' split) <;> first | with_reducible rfl | (simp; done) | (simp_all; done))
@[simp] theorem execA6Clear_blur (v : Word) (s : State) (mk_ : Nat) (hmk : 573520 &&& mk_ = 573520) : outBlur mk_ (execA6Clear v s) = some (s.blur mk_) := by
  refine outBlur_mono (m := 573520) ?_ hmk
  unfold execA6Clear
  first | (simp; done) | ((repeat' split) <;> first | with_reducible rfl | (simp; done) | (simp_all; done))

end Sys2Proof.Machine
end

