-- ==== Sys2Proof/Laws/FrameAxes.lean ====
section
/-! SUPPORT. The fields that the operations of Axes can change (see Laws/Frame.lean). -/

set_option Elab.async false
set_option linter.unusedTactic false
set_option linter.unreachableTactic false

namespace Sys2Proof.Machine

open Sys2Proof

@[simp] theorem State.axErr_blur (s : State) (n : Nat) (cause : Nat) (mk_ : Nat) (hmk : 49168 &&& mk_ = 49168) : (State.axErr s n cause).blur mk_ = s.blur mk_ := by
  refine State.blur_mono (m := 49168) ?_ hmk
  unfold State.axErr
  first | (simp; done) | ((repeat' split) <;> first | with_reducible rfl | (simp; done) | (simp_all; done))
@[simp] theorem State.setValid_blur (s : State) (n : Nat) (b : Bool) (mk_ : Nat) (hmk : 524304 &&& mk_ = 524304) : (State.setValid s n b).blur mk_ = s.blur mk_ := by
  refine State.blur_mono (m := 524304) ?_ hmk
  unfold State.setValid
  first | (simp; done) | ((repeat' split) <;> first | with_reducible rfl | (simp; done) | (simp_all; done))
@[simp] theorem State.keepWas_blur (s : State) (n : Nat) (mk_ : Nat) (hmk : 524288 &&& mk_ = 524288) : (State.keepWas s n).blur mk_ = s.blur mk_ := by
  refine State.blur_mono (m := 524288) ?_ hmk
  unfold State.keepWas
  first | (simp; done) | ((repeat' split) <;> first | with_reducible rfl | (simp; done) | (simp_all; done))
@[simp] theorem State.countChange_blur (s0 : State) (n : Nat) (d : Int) (stamp : Int) (mk_ : Nat) (hmk : 704528 &&& mk_ = 704528) : (State.countChange s0 n d stamp).blur mk_ = s0.blur mk_ := by
  refine State.blur_mono (m := 704528) ?_ hmk
  unfold State.countChange
  first | (simp; done) | ((repeat' split) <;> first | with_reducible rfl | (simp; done) | (simp_all; done))
@[simp] theorem State.clearHist_blur (s : State) (n : Nat) (mk_ : Nat) (hmk : 524288 &&& mk_ = 524288) : (State.clearHist s n).blur mk_ = s.blur mk_ := by
  refine State.blur_mono (m := 524288) ?_ hmk
  unfold State.clearHist
  first | (simp; done) | ((repeat' split) <;> first | with_reducible rfl | (simp; done) | (simp_all; done))
@[simp] theorem State.quadEdge_blur (s : State) (n : Nat) (q : Bool × Bool) (stamp : Int) (mk_ : Nat) (hmk : 704528 &&& mk_ = 704528) : (State.quadEdge s n q stamp).blur mk_ = s.blur mk_ := by
  refine State.blur_mono (m := 704528) ?_ hmk
  unfold State.quadEdge
  try dsimp only
  repeat' split
  all_goals first | with_reducible rfl | (simp; done) | (simp [*]; done) | (simp_all; done)
@[simp] theorem execQuadEdge_blur (ax : Fin 4) (a : Bool) (b : Bool) (stamp : Nat) (s : State) (mk_ : Nat) (hmk : 704528 &&& mk_ = 704528) : outBlur mk_ (execQuadEdge ax a b stamp s) = some (s.blur mk_) := by
  refine outBlur_mono (m := 704528) ?_ hmk
  unfold execQuadEdge
  first | (simp; done) | ((repeat' split) <;> first | with_reducible rfl | (simp; done) | (simp_all; done))
@[simp] theorem State.indexLatch_blur (s : State) (n : Nat) (mk_ : Nat) (hmk : 573520 &&& mk_ = 573520) : (State.indexLatch s n).blur mk_ = s.blur mk_ := by
  refine State.blur_mono (m := 573520) ?_ hmk
  unfold State.indexLatch
  try dsimp only
  repeat' split
  all_goals first | with_reducible rfl | (simp; done) | (simp [*]; done) | (simp_all; done)
@[simp] theorem execIndexLatch_blur (ax : Fin 4) (s : State) (mk_ : Nat) (hmk : 573520 &&& mk_ = 573520) : outBlur mk_ (execIndexLatch ax s) = some (s.blur mk_) := by
  refine outBlur_mono (m := 573520) ?_ hmk
  unfold execIndexLatch
  first | (simp; done) | ((repeat' split) <;> first | with_reducible rfl | (simp; done) | (simp_all; done))
@[simp] theorem State.hallChange_blur (s : State) (n : Nat) (u : Bool) (v : Bool) (w : Bool) (stamp : Int) (mk_ : Nat) (hmk : 704528 &&& mk_ = 704528) : (State.hallChange s n u v w stamp).blur mk_ = s.blur mk_ := by
  refine State.blur_mono (m := 704528) ?_ hmk
  unfold State.hallChange
  try dsimp only
  repeat' split
  all_goals first | with_reducible rfl | (simp; done) | (simp [*]; done) | (simp_all; done)
@[simp] theorem execHallSectorChange_blur (ax : Fin 4) (u : Bool) (v : Bool) (w : Bool) (stamp : Nat) (s : State) (mk_ : Nat) (hmk : 704528 &&& mk_ = 704528) : outBlur mk_ (execHallSectorChange ax u v w stamp s) = some (s.blur mk_) := by
  refine outBlur_mono (m := 704528) ?_ hmk
  unfold execHallSectorChange
  first | (simp; done) | ((repeat' split) <;> first | with_reducible rfl | (simp; done) | (simp_all; done))
@[simp] theorem State.wireFault_blur (s : State) (n : Nat) (mk_ : Nat) (hmk : 573456 &&& mk_ = 573456) : (State.wireFault s n).blur mk_ = s.blur mk_ := by
  refine State.blur_mono (m := 573456) ?_ hmk
  unfold State.wireFault
  first | (simp; done) | ((repeat' split) <;> first | with_reducible rfl | (simp; done) | (simp_all; done))
@[simp] theorem execWireFault_blur (ax : Fin 4) (s : State) (mk_ : Nat) (hmk : 573456 &&& mk_ = 573456) : outBlur mk_ (execWireFault ax s) = some (s.blur mk_) := by
  refine outBlur_mono (m := 573456) ?_ hmk
  unfold execWireFault
  first | (simp; done) | ((repeat' split) <;> first | with_reducible rfl | (simp; done) | (simp_all; done))
@[simp] theorem State.wireRecovery_blur (s : State) (n : Nat) (mk_ : Nat) (hmk : 524304 &&& mk_ = 524304) : (State.wireRecovery s n).blur mk_ = s.blur mk_ := by
  refine State.blur_mono (m := 524304) ?_ hmk
  unfold State.wireRecovery
  first | (simp; done) | ((repeat' split) <;> first | with_reducible rfl | (simp; done) | (simp_all; done))
@[simp] theorem execWireRecovery_blur (ax : Fin 4) (s : State) (mk_ : Nat) (hmk : 524304 &&& mk_ = 524304) : outBlur mk_ (execWireRecovery ax s) = some (s.blur mk_) := by
  refine outBlur_mono (m := 524304) ?_ hmk
  unfold execWireRecovery
  first | (simp; done) | ((repeat' split) <;> first | with_reducible rfl | (simp; done) | (simp_all; done))
@[simp] theorem State.serialStart_blur (s : State) (n : Nat) (stamp : Int) (datHigh : Bool) (mk_ : Nat) (hmk : 524288 &&& mk_ = 524288) : (State.serialStart s n stamp datHigh).blur mk_ = s.blur mk_ := by
  refine State.blur_mono (m := 524288) ?_ hmk
  unfold State.serialStart
  first | (simp; done) | ((repeat' split) <;> first | with_reducible rfl | (simp; done) | (simp_all; done))
@[simp] theorem execSerialReadStart_blur (ax : Fin 4) (stamp : Nat) (datHigh : Bool) (s : State) (mk_ : Nat) (hmk : 524288 &&& mk_ = 524288) : outBlur mk_ (execSerialReadStart ax stamp datHigh s) = some (s.blur mk_) := by
  refine outBlur_mono (m := 524288) ?_ hmk
  unfold execSerialReadStart
  first | (simp; done) | ((repeat' split) <;> first | with_reducible rfl | (simp; done) | (simp_all; done))
@[simp] theorem State.rejectRead_blur (s : State) (n : Nat) (cause : Nat) (mk_ : Nat) (hmk : 573456 &&& mk_ = 573456) : (State.rejectRead s n cause).blur mk_ = s.blur mk_ := by
  refine State.blur_mono (m := 573456) ?_ hmk
  unfold State.rejectRead
  first | (simp; done) | ((repeat' split) <;> first | with_reducible rfl | (simp; done) | (simp_all; done))
@[simp] theorem State.serialDone_blur (s : State) (n : Nat) (bits : List Bool) (mk_ : Nat) (hmk : 704528 &&& mk_ = 704528) : (State.serialDone s n bits).blur mk_ = s.blur mk_ := by
  refine State.blur_mono (m := 704528) ?_ hmk
  unfold State.serialDone
  try dsimp only
  repeat' split
  all_goals first | with_reducible rfl | (simp; done) | (simp [*]; done) | (simp_all; done)
@[simp] theorem execSerialReadDone_blur (ax : Fin 4) (bits : List Bool) (s : State) (mk_ : Nat) (hmk : 704528 &&& mk_ = 704528) : outBlur mk_ (execSerialReadDone ax bits s) = some (s.blur mk_) := by
  refine outBlur_mono (m := 704528) ?_ hmk
  unfold execSerialReadDone
  first | (simp; done) | ((repeat' split) <;> first | with_reducible rfl | (simp; done) | (simp_all; done))
@[simp] theorem execSerTimeout_blur (ax : Fin 4) (s : State) (mk_ : Nat) (hmk : 573456 &&& mk_ = 573456) : outBlur mk_ (execSerTimeout ax s) = some (s.blur mk_) := by
  refine outBlur_mono (m := 573456) ?_ hmk
  unfold execSerTimeout
  first | (simp; done) | ((repeat' split) <;> first | with_reducible rfl | (simp; done) | (simp_all; done))
@[simp] theorem execStandstill_blur (ax : Fin 4) (s : State) (mk_ : Nat) (hmk : 524304 &&& mk_ = 524304) : outBlur mk_ (execStandstill ax s) = some (s.blur mk_) := by
  refine outBlur_mono (m := 524304) ?_ hmk
  unfold execStandstill
  first | (simp; done) | ((repeat' split) <;> first | with_reducible rfl | (simp; done) | (simp_all; done))
@[simp] theorem State.axRestart_blur (s : State) (n : Nat) (mk_ : Nat) (hmk : 524304 &&& mk_ = 524304) : (State.axRestart s n).blur mk_ = s.blur mk_ := by
  refine State.blur_mono (m := 524304) ?_ hmk
  unfold State.axRestart
  first | (simp; done) | ((repeat' split) <;> first | with_reducible rfl | (simp; done) | (simp_all; done))
@[simp] theorem State.foldEnd_blur (s : State) (n : Nat) (mk_ : Nat) (hmk : 524304 &&& mk_ = 524304) : (State.foldEnd s n).blur mk_ = s.blur mk_ := by
  refine State.blur_mono (m := 524304) ?_ hmk
  unfold State.foldEnd
  first | (simp; done) | ((repeat' split) <;> first | with_reducible rfl | (simp; done) | (simp_all; done))
@[simp] theorem State.syncSup_blur (s : State) (n : Nat) (mk_ : Nat) (hmk : 524304 &&& mk_ = 524304) : (State.syncSup s n).blur mk_ = s.blur mk_ := by
  refine State.blur_mono (m := 524304) ?_ hmk
  unfold State.syncSup
  first | (simp; done) | ((repeat' split) <;> first | with_reducible rfl | (simp; done) | (simp_all; done))
@[simp] theorem State.foldback_blur (s : State) (n : Nat) (mA : Nat) (mk_ : Nat) (hmk : 573456 &&& mk_ = 573456) : (State.foldback s n mA).blur mk_ = s.blur mk_ := by
  refine State.blur_mono (m := 573456) ?_ hmk
  unfold State.foldback
  first | (simp; done) | ((repeat' split) <;> first | with_reducible rfl | (simp; done) | (simp_all; done))
@[simp] theorem execSupplyFoldback_blur (ax : Fin 4) (mA : Nat) (s : State) (mk_ : Nat) (hmk : 573456 &&& mk_ = 573456) : outBlur mk_ (execSupplyFoldback ax mA s) = some (s.blur mk_) := by
  refine outBlur_mono (m := 573456) ?_ hmk
  unfold execSupplyFoldback
  first | (simp; done) | ((repeat' split) <;> first | with_reducible rfl | (simp; done) | (simp_all; done))
@[simp] theorem State.supRecovery_blur (s : State) (n : Nat) (mA : Nat) (mk_ : Nat) (hmk : 524304 &&& mk_ = 524304) : (State.supRecovery s n mA).blur mk_ = s.blur mk_ := by
  refine State.blur_mono (m := 524304) ?_ hmk
  unfold State.supRecovery
  first | (simp; done) | ((repeat' split) <;> first | with_reducible rfl | (simp; done) | (simp_all; done))
@[simp] theorem execSupplyRecovery_blur (ax : Fin 4) (mA : Nat) (s : State) (mk_ : Nat) (hmk : 524304 &&& mk_ = 524304) : outBlur mk_ (execSupplyRecovery ax mA s) = some (s.blur mk_) := by
  refine outBlur_mono (m := 524304) ?_ hmk
  unfold execSupplyRecovery
  first | (simp; done) | ((repeat' split) <;> first | with_reducible rfl | (simp; done) | (simp_all; done))
@[simp] theorem State.axisSet_blur (s : State) (n : Nat) (v : Word) (mk_ : Nat) (hmk : 573456 &&& mk_ = 573456) : (State.axisSet s n v).blur mk_ = s.blur mk_ := by
  refine State.blur_mono (m := 573456) ?_ hmk
  unfold State.axisSet
  first | (simp; done) | ((repeat' split) <;> first | with_reducible rfl | (simp; done) | (simp_all; done))
@[simp] theorem execAxisSet_blur (ax : Fin 4) (v : Word) (s : State) (mk_ : Nat) (hmk : 573456 &&& mk_ = 573456) : outBlur mk_ (execAxisSet ax v s) = some (s.blur mk_) := by
  refine outBlur_mono (m := 573456) ?_ hmk
  unfold execAxisSet
  first | (simp; done) | ((repeat' split) <;> first | with_reducible rfl | (simp; done) | (simp_all; done))

end Sys2Proof.Machine
end

