-- ==== Sys2Proof/Laws/FrameCor.lean ====
section
/-! SUPPORT. The fields that the operations of Cor can change (see Laws/Frame.lean). -/

set_option Elab.async false
set_option linter.unusedTactic false
set_option linter.unreachableTactic false

namespace Sys2Proof.Machine

open Sys2Proof

@[simp] theorem State.setCor_blur (s : State) (c : Cor) (mk_ : Nat) (hmk : 2097152 &&& mk_ = 2097152) : (State.setCor s c).blur mk_ = s.blur mk_ := by
  refine State.blur_mono (m := 2097152) ?_ hmk
  unfold State.setCor
  first | (simp; done) | ((repeat' split) <;> first | with_reducible rfl | (simp; done) | (simp_all; done))
@[simp] theorem State.setCorJob_blur (s : State) (j : Nat) (v : CorJob) (mk_ : Nat) (hmk : 2097168 &&& mk_ = 2097168) : (State.setCorJob s j v).blur mk_ = s.blur mk_ := by
  refine State.blur_mono (m := 2097168) ?_ hmk
  unfold State.setCorJob
  first | (simp; done) | ((repeat' split) <;> first | with_reducible rfl | (simp; done) | (simp_all; done))
@[simp] theorem State.setPostNext_blur (s : State) (j : Nat) (n : Nat) (mk_ : Nat) (hmk : 16 &&& mk_ = 16) : (State.setPostNext s j n).blur mk_ = s.blur mk_ := by
  refine State.blur_mono (m := 16) ?_ hmk
  unfold State.setPostNext
  first | (simp; done) | ((repeat' split) <;> first | with_reducible rfl | (simp; done) | (simp_all; done))
@[simp] theorem State.corError_blur (s : State) (j : Nat) (err : Nat) (mk_ : Nat) (hmk : 2146320 &&& mk_ = 2146320) : (State.corError s j err).blur mk_ = s.blur mk_ := by
  refine State.blur_mono (m := 2146320) ?_ hmk
  unfold State.corError
  first | (simp; done) | ((repeat' split) <;> first | with_reducible rfl | (simp; done) | (simp_all; done))
@[simp] theorem State.corIdle_blur (s : State) (j : Nat) (mk_ : Nat) (hmk : 2146320 &&& mk_ = 2146320) : (State.corIdle s j).blur mk_ = s.blur mk_ := by
  refine State.blur_mono (m := 2146320) ?_ hmk
  unfold State.corIdle
  first | (simp; done) | ((repeat' split) <;> first | with_reducible rfl | (simp; done) | (simp_all; done))
@[simp] theorem State.syncCor_blur (s : State) (mk_ : Nat) (hmk : 80 &&& mk_ = 80) : (State.syncCor s).blur mk_ = s.blur mk_ := by
  refine State.blur_mono (m := 80) ?_ hmk
  unfold State.syncCor
  first | (simp; done) | ((repeat' split) <;> first | with_reducible rfl | (simp; done) | (simp_all; done))
@[simp] theorem State.corBegin_blur (s : State) (j : Nat) (mk_ : Nat) (hmk : 18923600 &&& mk_ = 18923600) : (State.corBegin s j).blur mk_ = s.blur mk_ := by
  refine State.blur_mono (m := 18923600) ?_ hmk
  unfold State.corBegin
  first | (simp; done) | ((repeat' split) <;> first | with_reducible rfl | (simp; done) | (simp_all; done))
@[simp] theorem State.jobStart_blur (s : State) (j : Nat) (mk_ : Nat) (hmk : 18923600 &&& mk_ = 18923600) : (State.jobStart s j).blur mk_ = s.blur mk_ := by
  refine State.blur_mono (m := 18923600) ?_ hmk
  unfold State.jobStart
  first | (simp; done) | ((repeat' split) <;> first | with_reducible rfl | (simp; done) | (simp_all; done))
@[simp] theorem State.prepCtx_blur (s : State) (j : Nat) (k : Nat) (ref : Surf) (mk_ : Nat) (hmk : 18923536 &&& mk_ = 18923536) : (State.prepCtx s j k ref).blur mk_ = s.blur mk_ := by
  refine State.blur_mono (m := 18923536) ?_ hmk
  unfold State.prepCtx
  first | (simp; done) | ((repeat' split) <;> first | with_reducible rfl | (simp; done) | (simp_all; done))
@[simp] theorem State.beginFrame_blur (s : State) (j : Nat) (serial : Nat) (ref : Nat) (live : Bool) (mk_ : Nat) (hmk : 18874384 &&& mk_ = 18874384) : (State.beginFrame s j serial ref live).blur mk_ = s.blur mk_ := by
  refine State.blur_mono (m := 18874384) ?_ hmk
  unfold State.beginFrame
  first | (simp; done) | ((repeat' split) <;> first | with_reducible rfl | (simp; done) | (simp_all; done))
@[simp] theorem State.corLost_blur (s : State) (j : Nat) (mk_ : Nat) (hmk : 49168 &&& mk_ = 49168) : (State.corLost s j).blur mk_ = s.blur mk_ := by
  refine State.blur_mono (m := 49168) ?_ hmk
  unfold State.corLost
  first | (simp; done) | ((repeat' split) <;> first | with_reducible rfl | (simp; done) | (simp_all; done))
@[simp] theorem State.liveDue_blur (s : State) (j : Nat) (serial : Nat) (ref : Nat) (mk_ : Nat) (hmk : 2146320 &&& mk_ = 2146320) : (State.liveDue s j serial ref).blur mk_ = s.blur mk_ := by
  refine State.blur_mono (m := 2146320) ?_ hmk
  unfold State.liveDue
  first | (simp; done) | ((repeat' split) <;> first | with_reducible rfl | (simp; done) | (simp_all; done))
@[simp] theorem State.livePairs_blur (s : State) (j : Nat) (x0 : Nat) (mk_ : Nat) (hmk : 2146320 &&& mk_ = 2146320) : (State.livePairs s j x0).blur mk_ = s.blur mk_ := by
  refine State.blur_mono (m := 2146320) ?_ hmk
  induction x0 generalizing s with
  | zero => rfl
  | succ k ih =>
    unfold State.livePairs
    extract_lets q
    split
    · rfl
    · split
      · rfl
      · extract_lets r s1 s2 s3
        have h1 : s1.blur 2146320 = s.blur 2146320 := State.setCorJob_blur _ _ _ _ rfl
        have h2 : s2.blur 2146320 = s1.blur 2146320 := by
          simp only [s2]
          split
          · exact State.count_blur _ _ _ rfl
          · rfl
        have h3 : s3.blur 2146320 = s2.blur 2146320 := by
          simp only [s3]
          split
          · exact State.count_blur _ _ _ rfl
          · rfl
        refine (ih _).trans ?_
        split
        · exact (State.liveDue_blur _ _ _ _ _ rfl).trans (h3.trans (h2.trans h1))
        · exact h3.trans (h2.trans h1)
@[simp] theorem State.liveFrame_blur (s : State) (j : Nat) (p : Nat) (serial : Nat) (mk_ : Nat) (hmk : 2146320 &&& mk_ = 2146320) : (State.liveFrame s j p serial).blur mk_ = s.blur mk_ := by
  refine State.blur_mono (m := 2146320) ?_ hmk
  unfold State.liveFrame
  first | (simp; done) | ((repeat' split) <;> first | with_reducible rfl | (simp; done) | (simp_all; done))
@[simp] theorem State.walk_blur (s : State) (j : Nat) (x0 : Nat) (mk_ : Nat) (hmk : 2408464 &&& mk_ = 2408464) : (State.walk s j x0).1.blur mk_ = s.blur mk_ := by
  refine State.blur_mono (m := 2408464) ?_ hmk
  induction x0 generalizing s with
  | zero => rfl
  | succ k ih =>
    unfold State.walk
    extract_lets q n p endS past lost
    clear_value past lost
    dsimp only
    split
    · rfl
    split
    · rfl
    split
    · refine (ih _).trans ((State.forEach_blur _ _ _ _ (fun t x => ?_)).trans ?_)
      · exact State.corLost_blur _ _ _ rfl
      · exact State.setPart_blur _ _ _ _ rfl
    split
    · rfl
    have h1 : ∀ m, (s.setPostNext j m).blur 2408464 = s.blur 2408464 := fun m => State.setPostNext_blur _ _ _ _ rfl
    have h2 : ∀ m w, ((s.setPostNext j m).setCorJob j w).blur 2408464 = s.blur 2408464 :=
      fun m w => (State.setCorJob_blur _ _ _ _ rfl).trans (h1 m)
    have h3 : ∀ (b : Bool) m w, (if b then ((s.setPostNext j m).setCorJob j w).count (rCorJPairBroken j)
        else (s.setPostNext j m).setCorJob j w).blur 2408464 = s.blur 2408464 := by
      intro b m w
      split
      · exact (State.count_blur _ _ _ rfl).trans (h2 m w)
      · exact h2 m w
    split
    · split
      · split
        · exact (ih _).trans (h3 _ _ _)
        · exact h3 _ _ _
      · exact (ih _).trans (h3 _ _ _)
    split
    · exact (ih _).trans (h1 _)
    split
    · exact (ih _).trans ((State.count_blur _ _ _ rfl).trans (h1 _))
    split
    · exact (ih _).trans (h1 _)
    · exact h1 _
@[simp] theorem State.corSettle_blur (s : State) (mk_ : Nat) (hmk : 2146320 &&& mk_ = 2146320) : (State.corSettle s).blur mk_ = s.blur mk_ := by
  refine State.blur_mono (m := 2146320) ?_ hmk
  unfold State.corSettle
  first | (simp; done) | ((repeat' split) <;> first | with_reducible rfl | (simp; done) | (simp_all; done))
theorem walkJob_blur (a : State × Option (Nat × Nat × Nat)) (j m : Nat) (hm : 19185680 &&& m = 19185680) :
    (walkJob a j).1.blur m = a.1.blur m := by
  unfold walkJob
  split
  · rfl
  · exact State.walk_blur _ _ _ _ (sub_mask hm rfl)
theorem walkFound_blur (r : State × Option (Nat × Nat × Nat)) (m : Nat) (hm : 19185680 &&& m = 19185680) :
    (walkFound r).blur m = r.1.blur m := by
  unfold walkFound
  split
  · exact State.beginFrame_blur _ _ _ _ _ _ (sub_mask hm rfl)
  · rfl
@[simp] theorem State.corNext_blur (s : State) (x0 : Nat) (mk_ : Nat) (hmk : 19185680 &&& mk_ = 19185680) : (State.corNext s x0).blur mk_ = s.blur mk_ := by
  refine State.blur_mono (m := 19185680) ?_ hmk
  induction x0 generalizing s with
  | zero => rfl
  | succ k ih =>
    unfold State.corNext
    split
    · rfl
    · dsimp only
      split
      · exact (State.count_blur _ _ _ rfl).trans (State.setBit_blur _ _ _ _ _ rfl)
      split
      · rfl
      split
      · split
        · exact (ih _).trans ((State.corLost_blur _ _ _ rfl).trans (State.setCorJob_blur _ _ _ _ rfl))
        · exact (State.beginFrame_blur _ _ _ _ _ _ rfl).trans (State.setCorJob_blur _ _ _ _ rfl)
      · exact (walkFound_blur _ _ rfl).trans (foldl_fst_blur _ _ (fun t x => walkJob_blur _ _ _ rfl) _ _)
@[simp] theorem State.corRun_blur (s : State) (mk_ : Nat) (hmk : 19185744 &&& mk_ = 19185744) : (State.corRun s).blur mk_ = s.blur mk_ := by
  refine State.blur_mono (m := 19185744) ?_ hmk
  unfold State.corRun
  first | (simp; done) | ((repeat' split) <;> first | with_reducible rfl | (simp; done) | (simp_all; done))
@[simp] theorem State.corIntake_blur (s : State) (mk_ : Nat) (hmk : 19185744 &&& mk_ = 19185744) : (State.corIntake s).blur mk_ = s.blur mk_ := by
  refine State.blur_mono (m := 19185744) ?_ hmk
  unfold State.corIntake
  split
  · rfl
  · extract_lets l i s0
    have h0 : s0.blur 19185744 = s.blur 19185744 := State.blur_set_ing _ _ _ rfl
    split
    · exact h0
    · refine (State.corRun_blur _ _ rfl).trans ((State.forEach_blur _ _ _ _ (fun t x => State.forEach_blur _ _ _ _ (fun u y => ?_))).trans h0)
      exact State.liveFrame_blur _ _ _ _ _ rfl
@[simp] theorem execJobStart_blur (j : Fin 4) (s : State) (mk_ : Nat) (hmk : 18923600 &&& mk_ = 18923600) : outBlur mk_ (execJobStart j s) = some (s.blur mk_) := by
  refine outBlur_mono (m := 18923600) ?_ hmk
  unfold execJobStart
  first | (simp; done) | ((repeat' split) <;> first | with_reducible rfl | (simp; done) | (simp_all; done))
@[simp] theorem State.jobStop_blur (s : State) (j : Nat) (mk_ : Nat) (hmk : 19185744 &&& mk_ = 19185744) : (State.jobStop s j).blur mk_ = s.blur mk_ := by
  refine State.blur_mono (m := 19185744) ?_ hmk
  unfold State.jobStop
  first | (simp; done) | ((repeat' split) <;> first | with_reducible rfl | (simp; done) | (simp_all; done))
@[simp] theorem execJobStop_blur (j : Fin 4) (s : State) (mk_ : Nat) (hmk : 19185744 &&& mk_ = 19185744) : outBlur mk_ (execJobStop j s) = some (s.blur mk_) := by
  refine outBlur_mono (m := 19185744) ?_ hmk
  unfold execJobStop
  first | (simp; done) | ((repeat' split) <;> first | with_reducible rfl | (simp; done) | (simp_all; done))
@[simp] theorem State.prepDone_blur (s : State) (j : Nat) (mk_ : Nat) (hmk : 19185744 &&& mk_ = 19185744) : (State.prepDone s j).blur mk_ = s.blur mk_ := by
  refine State.blur_mono (m := 19185744) ?_ hmk
  unfold State.prepDone
  first | (simp; done) | ((repeat' split) <;> first | with_reducible rfl | (simp; done) | (simp_all; done))
@[simp] theorem execPreparationDone_blur (j : Fin 4) (s : State) (mk_ : Nat) (hmk : 19185744 &&& mk_ = 19185744) : outBlur mk_ (execPreparationDone j s) = some (s.blur mk_) := by
  refine outBlur_mono (m := 19185744) ?_ hmk
  unfold execPreparationDone
  first | (simp; done) | ((repeat' split) <;> first | with_reducible rfl | (simp; done) | (simp_all; done))
@[simp] theorem State.writeSet_blur (s : State) (f : CorFrame) (mk_ : Nat) (hmk : 18923536 &&& mk_ = 18923536) : (State.writeSet s f).blur mk_ = s.blur mk_ := by
  refine State.blur_mono (m := 18923536) ?_ hmk
  unfold State.writeSet
  try dsimp only
  repeat' split
  all_goals first | with_reducible rfl | (simp; done) | (simp [*]; done) | (simp_all; done)
@[simp] theorem State.frameEnd_blur (s : State) (mk_ : Nat) (hmk : 19185744 &&& mk_ = 19185744) : (State.frameEnd s).blur mk_ = s.blur mk_ := by
  refine State.blur_mono (m := 19185744) ?_ hmk
  unfold State.frameEnd
  first | (simp; done) | ((repeat' split) <;> first | with_reducible rfl | (simp; done) | (simp_all; done))
@[simp] theorem execTrackedFrameEnd_blur (s : State) (mk_ : Nat) (hmk : 19185744 &&& mk_ = 19185744) : outBlur mk_ (execTrackedFrameEnd s) = some (s.blur mk_) := by
  refine outBlur_mono (m := 19185744) ?_ hmk
  unfold execTrackedFrameEnd
  first | (simp; done) | ((repeat' split) <;> first | with_reducible rfl | (simp; done) | (simp_all; done))
@[simp] theorem State.corAbandon_blur (s : State) (mk_ : Nat) (hmk : 19185744 &&& mk_ = 19185744) : (State.corAbandon s).blur mk_ = s.blur mk_ := by
  refine State.blur_mono (m := 19185744) ?_ hmk
  unfold State.corAbandon
  first | (simp; done) | ((repeat' split) <;> first | with_reducible rfl | (simp; done) | (simp_all; done))
@[simp] theorem State.gaugeEval_blur (s : State) (g : Nat) (mk_ : Nat) (hmk : 2146384 &&& mk_ = 2146384) : (State.gaugeEval s g).blur mk_ = s.blur mk_ := by
  refine State.blur_mono (m := 2146384) ?_ hmk
  unfold State.gaugeEval
  first | (simp; done) | ((repeat' split) <;> first | with_reducible rfl | (simp; done) | (simp_all; done))
@[simp] theorem execGaugeEvaluate_blur (g : Fin 64) (s : State) (mk_ : Nat) (hmk : 2146384 &&& mk_ = 2146384) : outBlur mk_ (execGaugeEvaluate g s) = some (s.blur mk_) := by
  refine outBlur_mono (m := 2146384) ?_ hmk
  unfold execGaugeEvaluate
  first | (simp; done) | ((repeat' split) <;> first | with_reducible rfl | (simp; done) | (simp_all; done))
@[simp] theorem State.corAbort_blur (s : State) (err : Nat) (mk_ : Nat) (hmk : 2146384 &&& mk_ = 2146384) : (State.corAbort s err).blur mk_ = s.blur mk_ := by
  refine State.blur_mono (m := 2146384) ?_ hmk
  unfold State.corAbort
  first | (simp; done) | ((repeat' split) <;> first | with_reducible rfl | (simp; done) | (simp_all; done))
@[simp] theorem State.corReset_blur (s : State) (mk_ : Nat) (hmk : 2097232 &&& mk_ = 2097232) : (State.corReset s).blur mk_ = s.blur mk_ := by
  refine State.blur_mono (m := 2097232) ?_ hmk
  unfold State.corReset
  first | (simp; done) | ((repeat' split) <;> first | with_reducible rfl | (simp; done) | (simp_all; done))

end Sys2Proof.Machine
end

