-- ==== Sys2Proof/Laws/FrameCompress.lean ====
section
/-! SUPPORT. The fields that the operations of Compress can change (see Laws/Frame.lean). -/

set_option Elab.async false
set_option linter.unusedTactic false
set_option linter.unreachableTactic false

namespace Sys2Proof.Machine

open Sys2Proof

@[simp] theorem State.setCmpEng_blur (s : State) (e : Nat) (v : CmpEng) (wait : Bool) (mk_ : Nat) (hmk : 4194384 &&& mk_ = 4194384) : (State.setCmpEng s e v wait).blur mk_ = s.blur mk_ := by
  refine State.blur_mono (m := 4194384) ?_ hmk
  unfold State.setCmpEng
  first | (simp; done) | ((repeat' split) <;> first | with_reducible rfl | (simp; done) | (simp_all; done))
@[simp] theorem State.syncSnoop_blur (s : State) (mk_ : Nat) (hmk : 23380048 &&& mk_ = 23380048) : (State.syncSnoop s).blur mk_ = s.blur mk_ := by
  refine State.blur_mono (m := 23380048) ?_ hmk
  unfold State.syncSnoop
  first | (simp; done) | ((repeat' split) <;> first | with_reducible rfl | (simp; done) | (simp_all; done))
@[simp] theorem State.cmpHead_blur (s : State) (x0 : Nat) (mk_ : Nat) (hmk : 49168 &&& mk_ = 49168) : (State.cmpHead s x0).blur mk_ = s.blur mk_ := by
  refine State.blur_mono (m := 49168) ?_ hmk
  induction x0 generalizing s with
  | zero => rfl
  | succ k ih =>
    unfold State.cmpHead
    split
    · rfl
    · split
      · extract_lets s1
        have h1 : s1.blur 49168 = s.blur 49168 := State.setFld_blur _ _ _ _ _ _ rfl
        split
        · exact (State.raise_blur _ _ _ _ rfl).trans h1
        · exact (ih _).trans h1
      · rfl
@[simp] theorem State.cmpPut_blur (s : State) (k : Nat) (v : CmpEng) (st : Nat) (detail : Nat) (mk_ : Nat) (hmk : 16826384 &&& mk_ = 16826384) : (State.cmpPut s k v st detail).blur mk_ = s.blur mk_ := by
  refine State.blur_mono (m := 16826384) ?_ hmk
  unfold State.cmpPut
  first | (simp; done) | ((repeat' split) <;> first | with_reducible rfl | (simp; done) | (simp_all; done))
@[simp] theorem State.cmpStop_blur (s : State) (e : Nat) (v : CmpEng) (st : Nat) (detail : Nat) (reason : Nat) (mk_ : Nat) (hmk : 23380048 &&& mk_ = 23380048) : (State.cmpStop s e v st detail reason).blur mk_ = s.blur mk_ := by
  refine State.blur_mono (m := 23380048) ?_ hmk
  unfold State.cmpStop
  first | (simp; done) | ((repeat' split) <;> first | with_reducible rfl | (simp; done) | (simp_all; done))
@[simp] theorem State.cmpUrge_blur (s : State) (mk_ : Nat) (hmk : 23380048 &&& mk_ = 23380048) : (State.cmpUrge s).blur mk_ = s.blur mk_ := by
  refine State.blur_mono (m := 23380048) ?_ hmk
  unfold State.cmpUrge
  first | (simp; done) | ((repeat' split) <;> first | with_reducible rfl | (simp; done) | (simp_all; done))
@[simp] theorem State.qtailWrite_blur (s : State) (v : Word) (mk_ : Nat) (hmk : 23380048 &&& mk_ = 23380048) : (State.qtailWrite s v).blur mk_ = s.blur mk_ := by
  refine State.blur_mono (m := 23380048) ?_ hmk
  unfold State.qtailWrite
  first | (simp; done) | ((repeat' split) <;> first | with_reducible rfl | (simp; done) | (simp_all; done))
@[simp] theorem execQtailWrite_blur (v : Word) (s : State) (mk_ : Nat) (hmk : 23380048 &&& mk_ = 23380048) : outBlur mk_ (execQtailWrite v s) = some (s.blur mk_) := by
  refine outBlur_mono (m := 23380048) ?_ hmk
  unfold execQtailWrite
  first | (simp; done) | ((repeat' split) <;> first | with_reducible rfl | (simp; done) | (simp_all; done))
@[simp] theorem State.cmpDone_blur (s : State) (e : Nat) (v : CmpEng) (mk_ : Nat) (hmk : 23380048 &&& mk_ = 23380048) : (State.cmpDone s e v).blur mk_ = s.blur mk_ := by
  refine State.blur_mono (m := 23380048) ?_ hmk
  unfold State.cmpDone
  first | (simp; done) | ((repeat' split) <;> first | with_reducible rfl | (simp; done) | (simp_all; done))
@[simp] theorem State.cmpRunJob_blur (s : State) (e : Nat) (k : Nat) (d : List Byte) (own : Bool) (isRes : Bool) (mk_ : Nat) (hmk : 23380048 &&& mk_ = 23380048) : (State.cmpRunJob s e k d own isRes).blur mk_ = s.blur mk_ := by
  refine State.blur_mono (m := 23380048) ?_ hmk
  unfold State.cmpRunJob
  first | (simp; done) | ((repeat' split) <;> first | with_reducible rfl | (simp; done) | (simp_all; done))
@[simp] theorem State.cmpJob_blur (s : State) (e : Nat) (k : Nat) (op : Nat) (res : Bool) (d : List Byte) (mk_ : Nat) (hmk : 23380048 &&& mk_ = 23380048) : (State.cmpJob s e k op res d).blur mk_ = s.blur mk_ := by
  refine State.blur_mono (m := 23380048) ?_ hmk
  unfold State.cmpJob
  first | (simp; done) | ((repeat' split) <;> first | with_reducible rfl | (simp; done) | (simp_all; done))
@[simp] theorem State.cmpTake_blur (s : State) (e : Nat) (op : Nat) (res : Bool) (mk_ : Nat) (hmk : 23380048 &&& mk_ = 23380048) : (State.cmpTake s e op res).blur mk_ = s.blur mk_ := by
  refine State.blur_mono (m := 23380048) ?_ hmk
  unfold State.cmpTake
  split
  · rfl
  split
  · rfl
  · exact State.cmpJob_blur _ _ _ _ _ _ _ rfl
@[simp] theorem execCompress_blur (eng : Fin 8) (s : State) (mk_ : Nat) (hmk : 23380048 &&& mk_ = 23380048) : outBlur mk_ (execCompress eng s) = some (s.blur mk_) := by
  refine outBlur_mono (m := 23380048) ?_ hmk
  unfold execCompress
  first | (simp; done) | ((repeat' split) <;> first | with_reducible rfl | (simp; done) | (simp_all; done))
@[simp] theorem execDecompress_blur (eng : Fin 8) (s : State) (mk_ : Nat) (hmk : 23380048 &&& mk_ = 23380048) : outBlur mk_ (execDecompress eng s) = some (s.blur mk_) := by
  refine outBlur_mono (m := 23380048) ?_ hmk
  unfold execDecompress
  first | (simp; done) | ((repeat' split) <;> first | with_reducible rfl | (simp; done) | (simp_all; done))
@[simp] theorem execDestrip_blur (eng : Fin 8) (s : State) (mk_ : Nat) (hmk : 23380048 &&& mk_ = 23380048) : outBlur mk_ (execDestrip eng s) = some (s.blur mk_) := by
  refine outBlur_mono (m := 23380048) ?_ hmk
  unfold execDestrip
  first | (simp; done) | ((repeat' split) <;> first | with_reducible rfl | (simp; done) | (simp_all; done))
@[simp] theorem execJobResume_blur (eng : Fin 8) (s : State) (mk_ : Nat) (hmk : 23380048 &&& mk_ = 23380048) : outBlur mk_ (execJobResume eng s) = some (s.blur mk_) := by
  refine outBlur_mono (m := 23380048) ?_ hmk
  unfold execJobResume
  first | (simp; done) | ((repeat' split) <;> first | with_reducible rfl | (simp; done) | (simp_all; done))
@[simp] theorem State.cmpVisit_blur (s : State) (d : List Byte) (v : CmpEng) (x0 : Nat) (mk_ : Nat) (hmk : 49168 &&& mk_ = 49168) : (State.cmpVisit s d v x0).1.blur mk_ = s.blur mk_ := by
  refine State.blur_mono (m := 49168) ?_ hmk
  induction x0 generalizing s v with
  | zero => rfl
  | succ k ih =>
    unfold State.cmpVisit
    dsimp only
    split
    · rfl
    split
    · rfl
    split
    · exact (ih _ _).trans ((State.raise_blur _ _ _ _ rfl).trans (State.count_blur _ _ _ rfl))
    · rfl
    split
    · rfl
    split
    · exact (ih _ _).trans (State.count_blur _ _ _ rfl)
    · rfl
@[simp] theorem State.cmpLost_blur (s : State) (d : List Byte) (v : CmpEng) (mk_ : Nat) (hmk : 49168 &&& mk_ = 49168) : (State.cmpLost s d v).1.blur mk_ = s.blur mk_ := by
  refine State.blur_mono (m := 49168) ?_ hmk
  unfold State.cmpLost
  first | (simp; done) | ((repeat' split) <;> first | with_reducible rfl | (simp; done) | (simp_all; done))
@[simp] theorem State.cmpUncache_blur (s : State) (v : CmpEng) (mk_ : Nat) (hmk : 4194320 &&& mk_ = 4194320) : (State.cmpUncache s v).blur mk_ = s.blur mk_ := by
  refine State.blur_mono (m := 4194320) ?_ hmk
  unfold State.cmpUncache
  first | (simp; done) | ((repeat' split) <;> first | with_reducible rfl | (simp; done) | (simp_all; done))
@[simp] theorem State.cmpWrite_blur (s : State) (v : CmpEng) (out : List Byte) (inp : Nat) (mk_ : Nat) (hmk : 16826448 &&& mk_ = 16826448) : (State.cmpWrite s v out inp).1.blur mk_ = s.blur mk_ := by
  refine State.blur_mono (m := 16826448) ?_ hmk
  unfold State.cmpWrite
  first | (simp; done) | ((repeat' split) <;> first | with_reducible rfl | (simp; done) | (simp_all; done))
@[simp] theorem State.compressUnit_blur (s : State) (d : List Byte) (v0 : CmpEng) (mk_ : Nat) (hmk : 21020752 &&& mk_ = 21020752) : (State.compressUnit s d v0).1.blur mk_ = s.blur mk_ := by
  refine State.blur_mono (m := 21020752) ?_ hmk
  unfold State.compressUnit
  try dsimp only
  repeat' split
  all_goals first | with_reducible rfl | (simp; done) | (simp [*]; done) | (simp_all; done)
@[simp] theorem State.decompressUnit_blur (s : State) (d : List Byte) (v : CmpEng) (mk_ : Nat) (hmk : 16826448 &&& mk_ = 16826448) : (State.decompressUnit s d v).1.blur mk_ = s.blur mk_ := by
  refine State.blur_mono (m := 16826448) ?_ hmk
  unfold State.decompressUnit
  first | (simp; done) | ((repeat' split) <;> first | with_reducible rfl | (simp; done) | (simp_all; done))
@[simp] theorem State.destripUnit_blur (s : State) (d : List Byte) (v : CmpEng) (mk_ : Nat) (hmk : 16826448 &&& mk_ = 16826448) : (State.destripUnit s d v).1.blur mk_ = s.blur mk_ := by
  refine State.blur_mono (m := 16826448) ?_ hmk
  unfold State.destripUnit
  try dsimp only
  repeat' split
  all_goals first | with_reducible rfl | (simp; done) | (simp [*]; done) | (simp_all; done)
@[simp] theorem State.cmpUnit_blur (s : State) (d : List Byte) (v : CmpEng) (mk_ : Nat) (hmk : 21020752 &&& mk_ = 21020752) : (State.cmpUnit s d v).1.blur mk_ = s.blur mk_ := by
  refine State.blur_mono (m := 21020752) ?_ hmk
  unfold State.cmpUnit
  first | (simp; done) | ((repeat' split) <;> first | with_reducible rfl | (simp; done) | (simp_all; done))
@[simp] theorem State.cmpStops_blur (s : State) (e : Nat) (v : CmpEng) (waits : Bool) (mk_ : Nat) (hmk : 23380048 &&& mk_ = 23380048) : (State.cmpStops s e v waits).blur mk_ = s.blur mk_ := by
  refine State.blur_mono (m := 23380048) ?_ hmk
  unfold State.cmpStops
  first | (simp; done) | ((repeat' split) <;> first | with_reducible rfl | (simp; done) | (simp_all; done))
theorem cmpAfter_blur (e : Nat) (v : CmpEng) (r : State × CmpMove) (m : Nat) (hm : 23380048 &&& m = 23380048) :
    (cmpAfter e v r).blur m = r.1.blur m := by
  unfold cmpAfter
  split
  · exact State.cmpDone_blur _ _ _ _ (sub_mask hm rfl)
  · exact State.cmpStop_blur _ _ _ _ _ _ _ (sub_mask hm rfl)
  · exact State.cmpStops_blur _ _ _ _ _ (sub_mask hm rfl)
  · refine (State.cmpStops_blur _ _ _ _ _ (sub_mask hm rfl)).trans ?_
    split
    · exact State.count_blur _ _ _ (sub_mask hm rfl)
    · rfl
@[simp] theorem State.blockBoundary_blur (s : State) (e : Nat) (mk_ : Nat) (hmk : 23380048 &&& mk_ = 23380048) : (State.blockBoundary s e).blur mk_ = s.blur mk_ := by
  refine State.blur_mono (m := 23380048) ?_ hmk
  unfold State.blockBoundary
  extract_lets v
  split
  · rfl
  split
  · split
    · exact State.cmpStops_blur _ _ _ _ _ rfl
    · rfl
  · exact (cmpAfter_blur _ _ _ _ rfl).trans (State.cmpUnit_blur _ _ _ _ rfl)
@[simp] theorem execBlockBoundary_blur (eng : Fin 8) (s : State) (mk_ : Nat) (hmk : 23380048 &&& mk_ = 23380048) : outBlur mk_ (execBlockBoundary eng s) = some (s.blur mk_) := by
  refine outBlur_mono (m := 23380048) ?_ hmk
  unfold execBlockBoundary
  first | (simp; done) | ((repeat' split) <;> first | with_reducible rfl | (simp; done) | (simp_all; done))
@[simp] theorem State.cmpAbort_blur (s : State) (engs : List Nat) (mk_ : Nat) (hmk : 23380048 &&& mk_ = 23380048) : (State.cmpAbort s engs).blur mk_ = s.blur mk_ := by
  refine State.blur_mono (m := 23380048) ?_ hmk
  unfold State.cmpAbort
  first | (simp; done) | ((repeat' split) <;> first | with_reducible rfl | (simp; done) | (simp_all; done))
@[simp] theorem State.cmpSwap_blur (s : State) (mk_ : Nat) (hmk : 16826384 &&& mk_ = 16826384) : (State.cmpSwap s).blur mk_ = s.blur mk_ := by
  refine State.blur_mono (m := 16826384) ?_ hmk
  unfold State.cmpSwap
  first | (simp; done) | ((repeat' split) <;> first | with_reducible rfl | (simp; done) | (simp_all; done))
@[simp] theorem State.cmpIntake_blur (s : State) (mk_ : Nat) (hmk : 4194304 &&& mk_ = 4194304) : (State.cmpIntake s).blur mk_ = s.blur mk_ := by
  refine State.blur_mono (m := 4194304) ?_ hmk
  unfold State.cmpIntake
  first | (simp; done) | ((repeat' split) <;> first | with_reducible rfl | (simp; done) | (simp_all; done))
@[simp] theorem State.pruneGone_blur (s : State) (mk_ : Nat) (hmk : 262144 &&& mk_ = 262144) : (State.pruneGone s).blur mk_ = s.blur mk_ := by
  refine State.blur_mono (m := 262144) ?_ hmk
  unfold State.pruneGone
  first | (simp; done) | ((repeat' split) <;> first | with_reducible rfl | (simp; done) | (simp_all; done))

end Sys2Proof.Machine
end

