-- ==== Sys2Proof/Laws/FrameTime.lean ====
section
/-! SUPPORT. The fields that the operations of Time can change (see Laws/Frame.lean). -/

set_option Elab.async false
set_option linter.unusedTactic false
set_option linter.unreachableTactic false

namespace Sys2Proof.Machine

open Sys2Proof

@[simp] theorem State.latchCycle_blur (s : State) (mk_ : Nat) (hmk : 32784 &&& mk_ = 32784) : (State.latchCycle s).blur mk_ = s.blur mk_ := by
  refine State.blur_mono (m := 32784) ?_ hmk
  unfold State.latchCycle
  first | (simp; done) | ((repeat' split) <;> first | with_reducible rfl | (simp; done) | (simp_all; done))
@[simp] theorem State.clocksRun_blur (s : State) (mk_ : Nat) (hmk : 67108878 &&& mk_ = 67108878) : (State.clocksRun s).blur mk_ = s.blur mk_ := by
  refine State.blur_mono (m := 67108878) ?_ hmk
  simp [State.clocksRun, State.blur, show Nat.testBit 67108878 1 = true from rfl, show Nat.testBit 67108878 2 = true from rfl, show Nat.testBit 67108878 3 = true from rfl, show Nat.testBit 67108878 26 = true from rfl]

@[simp] theorem State.tick_blur (s : State) (mk_ : Nat) (hmk : 67141662 &&& mk_ = 67141662) : (State.tick s).blur mk_ = s.blur mk_ := by
  refine State.blur_mono (m := 67141662) ?_ hmk
  unfold State.tick
  first | (simp; done) | ((repeat' split) <;> first | with_reducible rfl | (simp; done) | (simp_all; done))

end Sys2Proof.Machine
end

