-- ==== Sys2Proof/Laws/FrameNetwork.lean ====
section
/-! SUPPORT. The fields that the operations of Network can change (see Laws/Frame.lean). -/

set_option Elab.async false
set_option linter.unusedTactic false
set_option linter.unreachableTactic false

namespace Sys2Proof.Machine

open Sys2Proof

@[simp] theorem State.setNet_blur (s : State) (n : Net) (mk_ : Nat) (hmk : 67108864 &&& mk_ = 67108864) : (State.setNet s n).blur mk_ = s.blur mk_ := by
  refine State.blur_mono (m := 67108864) ?_ hmk
  unfold State.setNet
  first | (simp; done) | ((repeat' split) <;> first | with_reducible rfl | (simp; done) | (simp_all; done))
@[simp] theorem State.mintJump_blur (s : State) (m : Mint) (mk_ : Nat) (hmk : 67813400 &&& mk_ = 67813400) : (State.mintJump s m).blur mk_ = s.blur mk_ := by
  refine State.blur_mono (m := 67813400) ?_ hmk
  unfold State.mintJump
  extract_lets old net s1 new s2
  have h1 : s1.blur 67813400 = s.blur 67813400 := (State.blur_set_net { s with mint := m } _ _ rfl).trans (State.blur_set_mint s m _ rfl)
  have h2 : s2.blur 67813400 = s1.blur 67813400 := by
    simp only [s2]
    split
    · rfl
    · refine State.forEach_blur _ _ _ _ (fun u t => ?_)
      split
      · rfl
      · refine State.forEach_blur _ _ _ _ (fun w e => ?_)
        split
        · exact State.fireEntry_blur _ _ _ _ _ _ _ rfl
        · rfl
  exact (State.expectIdle_blur _ _ rfl).trans ((State.raise_blur _ _ _ _ rfl).trans ((State.count_blur _ _ _ rfl).trans
    ((State.rearmAxis_blur _ _ _ rfl).trans (h2.trans h1))))
@[simp] theorem State.setServo_blur (s : State) (v : Nat) (mk_ : Nat) (hmk : 49168 &&& mk_ = 49168) : (State.setServo s v).blur mk_ = s.blur mk_ := by
  refine State.blur_mono (m := 49168) ?_ hmk
  unfold State.setServo
  first | (simp; done) | ((repeat' split) <;> first | with_reducible rfl | (simp; done) | (simp_all; done))
@[simp] theorem State.mintSet_blur (s : State) (mk_ : Nat) (hmk : 67813400 &&& mk_ = 67813400) : (State.mintSet s).1.blur mk_ = s.blur mk_ := by
  refine State.blur_mono (m := 67813400) ?_ hmk
  unfold State.mintSet
  first | (simp; done) | ((repeat' split) <;> first | with_reducible rfl | (simp; done) | (simp_all; done))
@[simp] theorem State.mintStep_blur (s : State) (mk_ : Nat) (hmk : 67813400 &&& mk_ = 67813400) : (State.mintStep s).1.blur mk_ = s.blur mk_ := by
  refine State.blur_mono (m := 67813400) ?_ hmk
  unfold State.mintStep
  first | (simp; done) | ((repeat' split) <;> first | with_reducible rfl | (simp; done) | (simp_all; done))
@[simp] theorem State.mintCmd_blur (s : State) (v : Word) (mk_ : Nat) (hmk : 67813400 &&& mk_ = 67813400) : (State.mintCmd s v).blur mk_ = s.blur mk_ := by
  refine State.blur_mono (m := 67813400) ?_ hmk
  unfold State.mintCmd
  first | (simp; done) | ((repeat' split) <;> first | with_reducible rfl | (simp; done) | (simp_all; done))
@[simp] theorem execMintSet_blur (s : State) (mk_ : Nat) (hmk : 67813400 &&& mk_ = 67813400) : outBlur mk_ (execMintSet s) = some (s.blur mk_) := by
  refine outBlur_mono (m := 67813400) ?_ hmk
  unfold execMintSet
  first | (simp; done) | ((repeat' split) <;> first | with_reducible rfl | (simp; done) | (simp_all; done))
@[simp] theorem execMintStep_blur (s : State) (mk_ : Nat) (hmk : 67813400 &&& mk_ = 67813400) : outBlur mk_ (execMintStep s) = some (s.blur mk_) := by
  refine outBlur_mono (m := 67813400) ?_ hmk
  unfold execMintStep
  first | (simp; done) | ((repeat' split) <;> first | with_reducible rfl | (simp; done) | (simp_all; done))
@[simp] theorem execMintRate_blur (s : State) (mk_ : Nat) (hmk : 67813400 &&& mk_ = 67813400) : outBlur mk_ (execMintRate s) = some (s.blur mk_) := by
  refine outBlur_mono (m := 67813400) ?_ hmk
  unfold execMintRate
  first | (simp; done) | ((repeat' split) <;> first | with_reducible rfl | (simp; done) | (simp_all; done))
@[simp] theorem execHoldover_blur (s : State) (mk_ : Nat) (hmk : 49168 &&& mk_ = 49168) : outBlur mk_ (execHoldover s) = some (s.blur mk_) := by
  refine outBlur_mono (m := 49168) ?_ hmk
  unfold execHoldover
  first | (simp; done) | ((repeat' split) <;> first | with_reducible rfl | (simp; done) | (simp_all; done))
@[simp] theorem State.ppsEdge_blur (s : State) (stamp : Nat) (mk_ : Nat) (hmk : 67158032 &&& mk_ = 67158032) : (State.ppsEdge s stamp).blur mk_ = s.blur mk_ := by
  refine State.blur_mono (m := 67158032) ?_ hmk
  unfold State.ppsEdge
  first | (simp; done) | ((repeat' split) <;> first | with_reducible rfl | (simp; done) | (simp_all; done))
@[simp] theorem execPpsInEdge_blur (stamp : Nat) (s : State) (mk_ : Nat) (hmk : 67158032 &&& mk_ = 67158032) : outBlur mk_ (execPpsInEdge stamp s) = some (s.blur mk_) := by
  refine outBlur_mono (m := 67158032) ?_ hmk
  unfold execPpsInEdge
  first | (simp; done) | ((repeat' split) <;> first | with_reducible rfl | (simp; done) | (simp_all; done))
@[simp] theorem execPpsMissing_blur (s : State) (mk_ : Nat) (hmk : 67158032 &&& mk_ = 67158032) : outBlur mk_ (execPpsMissing s) = some (s.blur mk_) := by
  refine outBlur_mono (m := 67158032) ?_ hmk
  unfold execPpsMissing
  first | (simp; done) | ((repeat' split) <;> first | with_reducible rfl | (simp; done) | (simp_all; done))
@[simp] theorem execPpsOutPulse_blur (s : State) (mk_ : Nat) (hmk : 67108864 &&& mk_ = 67108864) : outBlur mk_ (execPpsOutPulse s) = some (s.blur mk_) := by
  refine outBlur_mono (m := 67108864) ?_ hmk
  unfold execPpsOutPulse
  first | (simp; done) | ((repeat' split) <;> first | with_reducible rfl | (simp; done) | (simp_all; done))
@[simp] theorem execPpsOutEnd_blur (s : State) (mk_ : Nat) (hmk : 67108864 &&& mk_ = 67108864) : outBlur mk_ (execPpsOutEnd s) = some (s.blur mk_) := by
  refine outBlur_mono (m := 67108864) ?_ hmk
  unfold execPpsOutEnd
  first | (simp; done) | ((repeat' split) <;> first | with_reducible rfl | (simp; done) | (simp_all; done))
@[simp] theorem State.setNport_blur (s : State) (m : Nat) (v : NetPort) (mk_ : Nat) (hmk : 67108864 &&& mk_ = 67108864) : (State.setNport s m v).blur mk_ = s.blur mk_ := by
  refine State.blur_mono (m := 67108864) ?_ hmk
  unfold State.setNport
  first | (simp; done) | ((repeat' split) <;> first | with_reducible rfl | (simp; done) | (simp_all; done))
@[simp] theorem State.syncUp_blur (s : State) (m : Nat) (mk_ : Nat) (hmk : 49168 &&& mk_ = 49168) : (State.syncUp s m).blur mk_ = s.blur mk_ := by
  refine State.blur_mono (m := 49168) ?_ hmk
  unfold State.syncUp
  first | (simp; done) | ((repeat' split) <;> first | with_reducible rfl | (simp; done) | (simp_all; done))
@[simp] theorem execEthernetLinkChange_blur (port : Fin 2) (blockLock : Bool) (fecLock : Bool) (localFault : Bool) (remoteFault : Bool) (rxLos : Bool) (s : State) (mk_ : Nat) (hmk : 67158032 &&& mk_ = 67158032) : outBlur mk_ (execEthernetLinkChange port blockLock fecLock localFault remoteFault rxLos s) = some (s.blur mk_) := by
  refine outBlur_mono (m := 67158032) ?_ hmk
  unfold execEthernetLinkChange
  first | (simp; done) | ((repeat' split) <;> first | with_reducible rfl | (simp; done) | (simp_all; done))
@[simp] theorem execCageChange_blur (port : Fin 2) (modAbs : Bool) (txFault : Bool) (rxLos : Bool) (s : State) (mk_ : Nat) (hmk : 49168 &&& mk_ = 49168) : outBlur mk_ (execCageChange port modAbs txFault rxLos s) = some (s.blur mk_) := by
  refine outBlur_mono (m := 49168) ?_ hmk
  unfold execCageChange
  first | (simp; done) | ((repeat' split) <;> first | with_reducible rfl | (simp; done) | (simp_all; done))
@[simp] theorem State.netDma_blur (s : State) (a : Nat) (d : List Byte) (mk_ : Nat) (hmk : 67108864 &&& mk_ = 67108864) : (State.netDma s a d).blur mk_ = s.blur mk_ := by
  refine State.blur_mono (m := 67108864) ?_ hmk
  unfold State.netDma
  first | (simp; done) | ((repeat' split) <;> first | with_reducible rfl | (simp; done) | (simp_all; done))
@[simp] theorem State.ringNext_blur (s : State) (m : Nat) (r : Nat) (mk_ : Nat) (hmk : 16 &&& mk_ = 16) : (State.ringNext s m r).blur mk_ = s.blur mk_ := by
  refine State.blur_mono (m := 16) ?_ hmk
  unfold State.ringNext
  first | (simp; done) | ((repeat' split) <;> first | with_reducible rfl | (simp; done) | (simp_all; done))
@[simp] theorem State.ringTailWrite_blur (s : State) (m : Nat) (r : Nat) (v : Word) (mk_ : Nat) (hmk : 49168 &&& mk_ = 49168) : (State.ringTailWrite s m r v).blur mk_ = s.blur mk_ := by
  refine State.blur_mono (m := 49168) ?_ hmk
  unfold State.ringTailWrite
  first | (simp; done) | ((repeat' split) <;> first | with_reducible rfl | (simp; done) | (simp_all; done))
@[simp] theorem execRingTailWrite_blur (port : Fin 2) (ring : Fin 5) (v : Word) (s : State) (mk_ : Nat) (hmk : 49168 &&& mk_ = 49168) : outBlur mk_ (execRingTailWrite port ring v s) = some (s.blur mk_) := by
  refine outBlur_mono (m := 49168) ?_ hmk
  unfold execRingTailWrite
  first | (simp; done) | ((repeat' split) <;> first | with_reducible rfl | (simp; done) | (simp_all; done))
@[simp] theorem State.rxNoBuf_blur (s : State) (m : Nat) (mk_ : Nat) (hmk : 67158032 &&& mk_ = 67158032) : (State.rxNoBuf s m).blur mk_ = s.blur mk_ := by
  refine State.blur_mono (m := 67158032) ?_ hmk
  unfold State.rxNoBuf
  first | (simp; done) | ((repeat' split) <;> first | with_reducible rfl | (simp; done) | (simp_all; done))
@[simp] theorem State.rxRaise_blur (s : State) (m : Nat) (ptp : Bool) (mk_ : Nat) (hmk : 67158016 &&& mk_ = 67158016) : (State.rxRaise s m ptp).blur mk_ = s.blur mk_ := by
  refine State.blur_mono (m := 67158016) ?_ hmk
  unfold State.rxRaise
  first | (simp; done) | ((repeat' split) <;> first | with_reducible rfl | (simp; done) | (simp_all; done))
@[simp] theorem State.frameReceive_blur (s : State) (m : Nat) (frame : List Byte) (stamp : Nat) (desc : List Byte) (mk_ : Nat) (hmk : 67158032 &&& mk_ = 67158032) : (State.frameReceive s m frame stamp desc).blur mk_ = s.blur mk_ := by
  refine State.blur_mono (m := 67158032) ?_ hmk
  unfold State.frameReceive
  first | (simp; done) | ((repeat' split) <;> first | with_reducible rfl | (simp; done) | (simp_all; done))
@[simp] theorem execEthernetFrameReceive_blur (port : Fin 2) (frame : List Byte) (stamp : Nat) (desc : List Byte) (s : State) (mk_ : Nat) (hmk : 67158032 &&& mk_ = 67158032) : outBlur mk_ (execEthernetFrameReceive port frame stamp desc s) = some (s.blur mk_) := by
  refine outBlur_mono (m := 67158032) ?_ hmk
  unfold execEthernetFrameReceive
  first | (simp; done) | ((repeat' split) <;> first | with_reducible rfl | (simp; done) | (simp_all; done))
@[simp] theorem State.netSend_blur (s : State) (m : Nat) (q : Nat) (f : List Byte) (mk_ : Nat) (hmk : 67108880 &&& mk_ = 67108880) : (State.netSend s m q f).blur mk_ = s.blur mk_ := by
  refine State.blur_mono (m := 67108880) ?_ hmk
  unfold State.netSend
  first | (simp; done) | ((repeat' split) <;> first | with_reducible rfl | (simp; done) | (simp_all; done))
@[simp] theorem State.txDone_blur (s : State) (m : Nat) (q : Nat) (desc : List Byte) (stamp : List Byte) (status : Nat) (mk_ : Nat) (hmk : 67158032 &&& mk_ = 67158032) : (State.txDone s m q desc stamp status).blur mk_ = s.blur mk_ := by
  refine State.blur_mono (m := 67158032) ?_ hmk
  unfold State.txDone
  first | (simp; done) | ((repeat' split) <;> first | with_reducible rfl | (simp; done) | (simp_all; done))
@[simp] theorem State.frameTransmit_blur (s : State) (m : Nat) (q : Nat) (desc : List Byte) (frame : List Byte) (stamp : Nat) (rtp : Bool) (mk_ : Nat) (hmk : 67158032 &&& mk_ = 67158032) : (State.frameTransmit s m q desc frame stamp rtp).blur mk_ = s.blur mk_ := by
  refine State.blur_mono (m := 67158032) ?_ hmk
  unfold State.frameTransmit
  first | (simp; done) | ((repeat' split) <;> first | with_reducible rfl | (simp; done) | (simp_all; done))
@[simp] theorem State.modI2c_blur (s : State) (m : Nat) (v : Word) (mk_ : Nat) (hmk : 49168 &&& mk_ = 49168) : (State.modI2c s m v).blur mk_ = s.blur mk_ := by
  refine State.blur_mono (m := 49168) ?_ hmk
  unfold State.modI2c
  first | (simp; done) | ((repeat' split) <;> first | with_reducible rfl | (simp; done) | (simp_all; done))
@[simp] theorem execModuleI2cAccess_blur (port : Fin 2) (v : Word) (s : State) (mk_ : Nat) (hmk : 49168 &&& mk_ = 49168) : outBlur mk_ (execModuleI2cAccess port v s) = some (s.blur mk_) := by
  refine outBlur_mono (m := 49168) ?_ hmk
  unfold execModuleI2cAccess
  first | (simp; done) | ((repeat' split) <;> first | with_reducible rfl | (simp; done) | (simp_all; done))
@[simp] theorem execModuleI2cDone_blur (port : Fin 2) (ack : Bool) (data : Byte) (s : State) (mk_ : Nat) (hmk : 16 &&& mk_ = 16) : outBlur mk_ (execModuleI2cDone port ack data s) = some (s.blur mk_) := by
  refine outBlur_mono (m := 16) ?_ hmk
  unfold execModuleI2cDone
  first | (simp; done) | ((repeat' split) <;> first | with_reducible rfl | (simp; done) | (simp_all; done))

end Sys2Proof.Machine
end

