-- ==== Sys2Proof/Laws/FrameVideo.lean ====
section
/-! SUPPORT. The fields that the operations of Video can change (see Laws/Frame.lean). -/

set_option Elab.async false
set_option linter.unusedTactic false
set_option linter.unreachableTactic false

namespace Sys2Proof.Machine

open Sys2Proof

@[simp] theorem State.setVid_blur (s : State) (v : Vid) (mk_ : Nat) (hmk : 8388608 &&& mk_ = 8388608) : (State.setVid s v).blur mk_ = s.blur mk_ := by
  refine State.blur_mono (m := 8388608) ?_ hmk
  unfold State.setVid
  first | (simp; done) | ((repeat' split) <;> first | with_reducible rfl | (simp; done) | (simp_all; done))
@[simp] theorem State.setEnc_blur (s : State) (c : Nat) (v : VEnc) (mk_ : Nat) (hmk : 8388608 &&& mk_ = 8388608) : (State.setEnc s c v).blur mk_ = s.blur mk_ := by
  refine State.blur_mono (m := 8388608) ?_ hmk
  unfold State.setEnc
  first | (simp; done) | ((repeat' split) <;> first | with_reducible rfl | (simp; done) | (simp_all; done))
@[simp] theorem State.vidPick_blur (s : State) (n : Nat) (mk_ : Nat) (hmk : 8388608 &&& mk_ = 8388608) : (State.vidPick s n).2.blur mk_ = s.blur mk_ := by
  refine State.blur_mono (m := 8388608) ?_ hmk
  unfold State.vidPick
  first | (simp; done) | ((repeat' split) <;> first | with_reducible rfl | (simp; done) | (simp_all; done))
@[simp] theorem State.vidChoose_blur (s : State) (mk_ : Nat) (hmk : 8388608 &&& mk_ = 8388608) : (State.vidChoose s).2.blur mk_ = s.blur mk_ := by
  refine State.blur_mono (m := 8388608) ?_ hmk
  unfold State.vidChoose
  first | (simp; done) | ((repeat' split) <;> first | with_reducible rfl | (simp; done) | (simp_all; done))
@[simp] theorem State.setEncState_blur (s : State) (c : Nat) (st : Nat) (mk_ : Nat) (hmk : 16 &&& mk_ = 16) : (State.setEncState s c st).blur mk_ = s.blur mk_ := by
  refine State.blur_mono (m := 16) ?_ hmk
  unfold State.setEncState
  first | (simp; done) | ((repeat' split) <;> first | with_reducible rfl | (simp; done) | (simp_all; done))
@[simp] theorem State.encError_blur (s : State) (c : Nat) (err : Nat) (mk_ : Nat) (hmk : 49168 &&& mk_ = 49168) : (State.encError s c err).blur mk_ = s.blur mk_ := by
  refine State.blur_mono (m := 49168) ?_ hmk
  unfold State.encError
  first | (simp; done) | ((repeat' split) <;> first | with_reducible rfl | (simp; done) | (simp_all; done))
@[simp] theorem State.encRdptr_blur (s : State) (c : Nat) (v : Word) (mk_ : Nat) (hmk : 49168 &&& mk_ = 49168) : (State.encRdptr s c v).blur mk_ = s.blur mk_ := by
  refine State.blur_mono (m := 49168) ?_ hmk
  unfold State.encRdptr
  first | (simp; done) | ((repeat' split) <;> first | with_reducible rfl | (simp; done) | (simp_all; done))
@[simp] theorem execEncoderRdptrWrite_blur (c : Fin 8) (v : Word) (s : State) (mk_ : Nat) (hmk : 49168 &&& mk_ = 49168) : outBlur mk_ (execEncoderRdptrWrite c v s) = some (s.blur mk_) := by
  refine outBlur_mono (m := 49168) ?_ hmk
  unfold execEncoderRdptrWrite
  first | (simp; done) | ((repeat' split) <;> first | with_reducible rfl | (simp; done) | (simp_all; done))
@[simp] theorem State.encStart_blur (s : State) (c : Nat) (mk_ : Nat) (hmk : 8437776 &&& mk_ = 8437776) : (State.encStart s c).blur mk_ = s.blur mk_ := by
  refine State.blur_mono (m := 8437776) ?_ hmk
  unfold State.encStart
  try dsimp only
  repeat' split
  all_goals first | with_reducible rfl | (simp; done) | (simp [*]; done) | (simp_all; done)
@[simp] theorem execEncoderStart_blur (c : Fin 8) (s : State) (mk_ : Nat) (hmk : 8437776 &&& mk_ = 8437776) : outBlur mk_ (execEncoderStart c s) = some (s.blur mk_) := by
  refine outBlur_mono (m := 8437776) ?_ hmk
  unfold execEncoderStart
  first | (simp; done) | ((repeat' split) <;> first | with_reducible rfl | (simp; done) | (simp_all; done))
@[simp] theorem State.encIdle_blur (s : State) (c : Nat) (mk_ : Nat) (hmk : 9437200 &&& mk_ = 9437200) : (State.encIdle s c).blur mk_ = s.blur mk_ := by
  refine State.blur_mono (m := 9437200) ?_ hmk
  unfold State.encIdle
  first | (simp; done) | ((repeat' split) <;> first | with_reducible rfl | (simp; done) | (simp_all; done))
@[simp] theorem State.encStop_blur (s : State) (c : Nat) (mk_ : Nat) (hmk : 9437200 &&& mk_ = 9437200) : (State.encStop s c).blur mk_ = s.blur mk_ := by
  refine State.blur_mono (m := 9437200) ?_ hmk
  unfold State.encStop
  first | (simp; done) | ((repeat' split) <;> first | with_reducible rfl | (simp; done) | (simp_all; done))
@[simp] theorem execEncoderStop_blur (c : Fin 8) (s : State) (mk_ : Nat) (hmk : 9437200 &&& mk_ = 9437200) : outBlur mk_ (execEncoderStop c s) = some (s.blur mk_) := by
  refine outBlur_mono (m := 9437200) ?_ hmk
  unfold execEncoderStop
  first | (simp; done) | ((repeat' split) <;> first | with_reducible rfl | (simp; done) | (simp_all; done))
@[simp] theorem State.encReq_blur (s : State) (c : Nat) (v : Word) (mk_ : Nat) (hmk : 8388608 &&& mk_ = 8388608) : (State.encReq s c v).blur mk_ = s.blur mk_ := by
  refine State.blur_mono (m := 8388608) ?_ hmk
  unfold State.encReq
  first | (simp; done) | ((repeat' split) <;> first | with_reducible rfl | (simp; done) | (simp_all; done))
@[simp] theorem execRequestIdr_blur (c : Fin 8) (s : State) (mk_ : Nat) (hmk : 8388608 &&& mk_ = 8388608) : outBlur mk_ (execRequestIdr c s) = some (s.blur mk_) := by
  refine outBlur_mono (m := 8388608) ?_ hmk
  unfold execRequestIdr
  first | (simp; done) | ((repeat' split) <;> first | with_reducible rfl | (simp; done) | (simp_all; done))
@[simp] theorem execRequestRefresh_blur (c : Fin 8) (s : State) (mk_ : Nat) (hmk : 8388608 &&& mk_ = 8388608) : outBlur mk_ (execRequestRefresh c s) = some (s.blur mk_) := by
  refine outBlur_mono (m := 8388608) ?_ hmk
  unfold execRequestRefresh
  first | (simp; done) | ((repeat' split) <;> first | with_reducible rfl | (simp; done) | (simp_all; done))
@[simp] theorem execRequestHeader_blur (c : Fin 8) (s : State) (mk_ : Nat) (hmk : 8388608 &&& mk_ = 8388608) : outBlur mk_ (execRequestHeader c s) = some (s.blur mk_) := by
  refine outBlur_mono (m := 8388608) ?_ hmk
  unfold execRequestHeader
  first | (simp; done) | ((repeat' split) <;> first | with_reducible rfl | (simp; done) | (simp_all; done))
@[simp] theorem execMarkLt_blur (c : Fin 8) (slot : Fin 4) (s : State) (mk_ : Nat) (hmk : 8388608 &&& mk_ = 8388608) : outBlur mk_ (execMarkLt c slot s) = some (s.blur mk_) := by
  refine outBlur_mono (m := 8388608) ?_ hmk
  unfold execMarkLt
  first | (simp; done) | ((repeat' split) <;> first | with_reducible rfl | (simp; done) | (simp_all; done))
@[simp] theorem execClearLt_blur (c : Fin 8) (mask : BitVec 4) (s : State) (mk_ : Nat) (hmk : 8388608 &&& mk_ = 8388608) : outBlur mk_ (execClearLt c mask s) = some (s.blur mk_) := by
  refine outBlur_mono (m := 8388608) ?_ hmk
  unfold execClearLt
  first | (simp; done) | ((repeat' split) <;> first | with_reducible rfl | (simp; done) | (simp_all; done))
@[simp] theorem execUseLt_blur (c : Fin 8) (mask : BitVec 4) (s : State) (mk_ : Nat) (hmk : 8388608 &&& mk_ = 8388608) : outBlur mk_ (execUseLt c mask s) = some (s.blur mk_) := by
  refine outBlur_mono (m := 8388608) ?_ hmk
  unfold execUseLt
  first | (simp; done) | ((repeat' split) <;> first | with_reducible rfl | (simp; done) | (simp_all; done))
@[simp] theorem State.encTarget_blur (s : State) (c : Nat) (mk_ : Nat) (hmk : 8388608 &&& mk_ = 8388608) : (State.encTarget s c).2.blur mk_ = s.blur mk_ := by
  refine State.blur_mono (m := 8388608) ?_ hmk
  unfold State.encTarget
  first | (simp; done) | ((repeat' split) <;> first | with_reducible rfl | (simp; done) | (simp_all; done))
@[simp] theorem State.vbvAfter_blur (s : State) (c : Nat) (t : Nat) (bits : Nat) (mk_ : Nat) (hmk : 16 &&& mk_ = 16) : (State.vbvAfter s c t bits).blur mk_ = s.blur mk_ := by
  refine State.blur_mono (m := 16) ?_ hmk
  unfold State.vbvAfter
  first | (simp; done) | ((repeat' split) <;> first | with_reducible rfl | (simp; done) | (simp_all; done))
@[simp] theorem State.encCommit_blur (s : State) (c : Nat) (mk_ : Nat) (hmk : 16 &&& mk_ = 16) : (State.encCommit s c).blur mk_ = s.blur mk_ := by
  refine State.blur_mono (m := 16) ?_ hmk
  unfold State.encCommit
  first | (simp; done) | ((repeat' split) <;> first | with_reducible rfl | (simp; done) | (simp_all; done))
@[simp] theorem State.encTake_blur (s0 : State) (core : Nat) (c : Nat) (k : Nat) (seq : Nat) (passed : Nat) (mk_ : Nat) (hmk : 9437200 &&& mk_ = 9437200) : (State.encTake s0 core c k seq passed).blur mk_ = s0.blur mk_ := by
  refine State.blur_mono (m := 9437200) ?_ hmk
  unfold State.encTake
  first | (simp; done) | ((repeat' split) <;> first | with_reducible rfl | (simp; done) | (simp_all; done))
@[simp] theorem State.encSkip_blur (s : State) (c : Nat) (seq : Nat) (mk_ : Nat) (hmk : 8437776 &&& mk_ = 8437776) : (State.encSkip s c seq).blur mk_ = s.blur mk_ := by
  refine State.blur_mono (m := 8437776) ?_ hmk
  unfold State.encSkip
  first | (simp; done) | ((repeat' split) <;> first | with_reducible rfl | (simp; done) | (simp_all; done))
@[simp] theorem State.encTry_blur (s : State) (core : Nat) (x0 : List Nat) (mk_ : Nat) (hmk : 9486352 &&& mk_ = 9486352) : (State.encTry s core x0).blur mk_ = s.blur mk_ := by
  refine State.blur_mono (m := 9486352) ?_ hmk
  induction x0 generalizing s with
  | nil => rfl
  | cons c l ih =>
    unfold State.encTry
    split
    · exact ih _
    split
    · exact ih _
    · extract_lets g
      split
      · exact State.encTake_blur _ _ _ _ _ _ _ rfl
      · exact (ih _).trans (State.encSkip_blur _ _ _ _ rfl)
@[simp] theorem State.pictureStart_blur (s : State) (core : Nat) (mk_ : Nat) (hmk : 9486352 &&& mk_ = 9486352) : (State.pictureStart s core).blur mk_ = s.blur mk_ := by
  refine State.blur_mono (m := 9486352) ?_ hmk
  unfold State.pictureStart
  first | (simp; done) | ((repeat' split) <;> first | with_reducible rfl | (simp; done) | (simp_all; done))
@[simp] theorem execPictureStart_blur (core : Fin 4) (s : State) (mk_ : Nat) (hmk : 9486352 &&& mk_ = 9486352) : outBlur mk_ (execPictureStart core s) = some (s.blur mk_) := by
  refine outBlur_mono (m := 9486352) ?_ hmk
  unfold execPictureStart
  first | (simp; done) | ((repeat' split) <;> first | with_reducible rfl | (simp; done) | (simp_all; done))
@[simp] theorem State.encEntry_blur (s : State) (c : Nat) (desc : List Byte) (data : List Byte) (mk_ : Nat) (hmk : 16826384 &&& mk_ = 16826384) : (State.encEntry s c desc data).blur mk_ = s.blur mk_ := by
  refine State.blur_mono (m := 16826384) ?_ hmk
  unfold State.encEntry
  first | (simp; done) | ((repeat' split) <;> first | with_reducible rfl | (simp; done) | (simp_all; done))
@[simp] theorem State.rtpQueue_blur (s : State) (c : Nat) (p : VPic) (data : List Byte) (last : Bool) (mk_ : Nat) (hmk : 8388608 &&& mk_ = 8388608) : (State.rtpQueue s c p data last).blur mk_ = s.blur mk_ := by
  refine State.blur_mono (m := 8388608) ?_ hmk
  unfold State.rtpQueue
  first | (simp; done) | ((repeat' split) <;> first | with_reducible rfl | (simp; done) | (simp_all; done))
@[simp] theorem State.encEnd_blur (s : State) (c : Nat) (p : VPic) (mk_ : Nat) (hmk : 9486352 &&& mk_ = 9486352) : (State.encEnd s c p).blur mk_ = s.blur mk_ := by
  refine State.blur_mono (m := 9486352) ?_ hmk
  unfold State.encEnd
  first | (simp; done) | ((repeat' split) <;> first | with_reducible rfl | (simp; done) | (simp_all; done))
@[simp] theorem State.picRead_blur (s : State) (p : LayerPic) (y0 : Nat) (y1 : Nat) (mk_ : Nat) (hmk : 16826448 &&& mk_ = 16826448) : (State.picRead s p y0 y1).blur mk_ = s.blur mk_ := by
  refine State.blur_mono (m := 16826448) ?_ hmk
  unfold State.picRead
  first | (simp; done) | ((repeat' split) <;> first | with_reducible rfl | (simp; done) | (simp_all; done))
@[simp] theorem State.sliceRead_blur (s : State) (c : Nat) (p : VPic) (mk_ : Nat) (hmk : 16826448 &&& mk_ = 16826448) : (State.sliceRead s c p).blur mk_ = s.blur mk_ := by
  refine State.blur_mono (m := 16826448) ?_ hmk
  unfold State.sliceRead
  extract_lets a
  split
  · exact State.picRead_blur _ _ _ _ _ rfl
  · rfl
@[simp] theorem State.sliceOutput_blur (s : State) (c : Nat) (mk_ : Nat) (hmk : 26263632 &&& mk_ = 26263632) : (State.sliceOutput s c).blur mk_ = s.blur mk_ := by
  refine State.blur_mono (m := 26263632) ?_ hmk
  unfold State.sliceOutput
  first | (simp; done) | ((repeat' split) <;> first | with_reducible rfl | (simp; done) | (simp_all; done))
@[simp] theorem execSliceOutput_blur (c : Fin 8) (s : State) (mk_ : Nat) (hmk : 26263632 &&& mk_ = 26263632) : outBlur mk_ (execSliceOutput c s) = some (s.blur mk_) := by
  refine outBlur_mono (m := 26263632) ?_ hmk
  unfold execSliceOutput
  first | (simp; done) | ((repeat' split) <;> first | with_reducible rfl | (simp; done) | (simp_all; done))
@[simp] theorem State.rtpSend_blur (s : State) (c : Nat) (mk_ : Nat) (hmk : 75546640 &&& mk_ = 75546640) : (State.rtpSend s c).blur mk_ = s.blur mk_ := by
  refine State.blur_mono (m := 75546640) ?_ hmk
  unfold State.rtpSend
  try dsimp only
  repeat' split
  all_goals first | with_reducible rfl | (simp; done) | (simp [*]; done) | (simp_all; done)
@[simp] theorem execRtpPacketSend_blur (c : Fin 8) (s : State) (mk_ : Nat) (hmk : 75546640 &&& mk_ = 75546640) : outBlur mk_ (execRtpPacketSend c s) = some (s.blur mk_) := by
  refine outBlur_mono (m := 75546640) ?_ hmk
  unfold execRtpPacketSend
  first | (simp; done) | ((repeat' split) <;> first | with_reducible rfl | (simp; done) | (simp_all; done))
@[simp] theorem execEthernetFrameTransmit_blur (port : Fin 2) (queue : Fin 3) (desc : List Byte) (frame : List Byte) (stamp : Nat) (s : State) (mk_ : Nat) (hmk : 67158032 &&& mk_ = 67158032) : outBlur mk_ (execEthernetFrameTransmit port queue desc frame stamp s) = some (s.blur mk_) := by
  refine outBlur_mono (m := 67158032) ?_ hmk
  unfold execEthernetFrameTransmit
  first | (simp; done) | ((repeat' split) <;> first | with_reducible rfl | (simp; done) | (simp_all; done))
@[simp] theorem State.encPower_blur (s : State) (mk_ : Nat) (hmk : 9486352 &&& mk_ = 9486352) : (State.encPower s).blur mk_ = s.blur mk_ := by
  refine State.blur_mono (m := 9486352) ?_ hmk
  unfold State.encPower
  first | (simp; done) | ((repeat' split) <;> first | with_reducible rfl | (simp; done) | (simp_all; done))
@[simp] theorem State.encFence_blur (s : State) (chs : List Nat) (mk_ : Nat) (hmk : 9437200 &&& mk_ = 9437200) : (State.encFence s chs).blur mk_ = s.blur mk_ := by
  refine State.blur_mono (m := 9437200) ?_ hmk
  unfold State.encFence
  first | (simp; done) | ((repeat' split) <;> first | with_reducible rfl | (simp; done) | (simp_all; done))
@[simp] theorem State.encArm_blur (s : State) (i : Nat) (mk_ : Nat) (hmk : 8388608 &&& mk_ = 8388608) : (State.encArm s i).blur mk_ = s.blur mk_ := by
  refine State.blur_mono (m := 8388608) ?_ hmk
  unfold State.encArm
  first | (simp; done) | ((repeat' split) <;> first | with_reducible rfl | (simp; done) | (simp_all; done))

end Sys2Proof.Machine
end

