-- ==== Sys2Proof/Laws/FrameDecoder.lean ====
section
/-! SUPPORT. The fields that the operations of Decoder can change (see Laws/Frame.lean). -/

set_option Elab.async false
set_option linter.unusedTactic false
set_option linter.unreachableTactic false

namespace Sys2Proof.Machine

open Sys2Proof

@[simp] theorem State.setDec_blur (s : State) (d : Nat) (v : VDec) (mk_ : Nat) (hmk : 8388608 &&& mk_ = 8388608) : (State.setDec s d v).blur mk_ = s.blur mk_ := by
  refine State.blur_mono (m := 8388608) ?_ hmk
  unfold State.setDec
  first | (simp; done) | ((repeat' split) <;> first | with_reducible rfl | (simp; done) | (simp_all; done))
@[simp] theorem State.decErr_blur (s : State) (d : Nat) (reg : Nat) (bits : Nat) (mk_ : Nat) (hmk : 8437776 &&& mk_ = 8437776) : (State.decErr s d reg bits).blur mk_ = s.blur mk_ := by
  refine State.blur_mono (m := 8437776) ?_ hmk
  unfold State.decErr
  try dsimp only
  repeat' split
  all_goals first | with_reducible rfl | (simp; done) | (simp [*]; done) | (simp_all; done)
@[simp] theorem State.decSlice_blur (s : State) (d : Nat) (mk_ : Nat) (hmk : 8437776 &&& mk_ = 8437776) : (State.decSlice s d).blur mk_ = s.blur mk_ := by
  refine State.blur_mono (m := 8437776) ?_ hmk
  unfold State.decSlice
  first | (simp; done) | ((repeat' split) <;> first | with_reducible rfl | (simp; done) | (simp_all; done))
@[simp] theorem State.writePlanes_blur (s : State) (d : Nat) (k : Nat) (sps : VSps) (line : Nat → List Byte) (mk_ : Nat) (hmk : 16826384 &&& mk_ = 16826384) : (State.writePlanes s d k sps line).blur mk_ = s.blur mk_ := by
  refine State.blur_mono (m := 16826384) ?_ hmk
  unfold State.writePlanes
  first | (simp; done) | ((repeat' split) <;> first | with_reducible rfl | (simp; done) | (simp_all; done))
@[simp] theorem State.writeDecoded_blur (s : State) (d : Nat) (p : VOut) (mk_ : Nat) (hmk : 25214992 &&& mk_ = 25214992) : (State.writeDecoded s d p).blur mk_ = s.blur mk_ := by
  refine State.blur_mono (m := 25214992) ?_ hmk
  unfold State.writeDecoded
  first | (simp; done) | ((repeat' split) <;> first | with_reducible rfl | (simp; done) | (simp_all; done))
@[simp] theorem State.writeGrey_blur (s : State) (d : Nat) (k : Nat) (sps : VSps) (mk_ : Nat) (hmk : 16826384 &&& mk_ = 16826384) : (State.writeGrey s d k sps).blur mk_ = s.blur mk_ := by
  refine State.blur_mono (m := 16826384) ?_ hmk
  unfold State.writeGrey
  first | (simp; done) | ((repeat' split) <;> first | with_reducible rfl | (simp; done) | (simp_all; done))
@[simp] theorem State.decFinish_blur (s0 : State) (d : Nat) (mk_ : Nat) (hmk : 25214992 &&& mk_ = 25214992) : (State.decFinish s0 d).blur mk_ = s0.blur mk_ := by
  refine State.blur_mono (m := 25214992) ?_ hmk
  unfold State.decFinish
  first | (simp; done) | ((repeat' split) <;> first | with_reducible rfl | (simp; done) | (simp_all; done))
@[simp] theorem State.setSeek_blur (s : State) (d : Nat) (b : Bool) (mk_ : Nat) (hmk : 8388624 &&& mk_ = 8388624) : (State.setSeek s d b).blur mk_ = s.blur mk_ := by
  refine State.blur_mono (m := 8388624) ?_ hmk
  unfold State.setSeek
  first | (simp; done) | ((repeat' split) <;> first | with_reducible rfl | (simp; done) | (simp_all; done))
@[simp] theorem State.setBlocked_blur (s : State) (d : Nat) (b : Bool) (mk_ : Nat) (hmk : 8388624 &&& mk_ = 8388624) : (State.setBlocked s d b).blur mk_ = s.blur mk_ := by
  refine State.blur_mono (m := 8388624) ?_ hmk
  unfold State.setBlocked
  first | (simp; done) | ((repeat' split) <;> first | with_reducible rfl | (simp; done) | (simp_all; done))
@[simp] theorem State.decBad_blur (s : State) (d : Nat) (mk_ : Nat) (hmk : 49168 &&& mk_ = 49168) : (State.decBad s d).blur mk_ = s.blur mk_ := by
  refine State.blur_mono (m := 49168) ?_ hmk
  unfold State.decBad
  first | (simp; done) | ((repeat' split) <;> first | with_reducible rfl | (simp; done) | (simp_all; done))
@[simp] theorem State.decNew_blur (s : State) (d : Nat) (t : Nat) (tid : Nat) (nal : List Byte) (mk_ : Nat) (hmk : 25214992 &&& mk_ = 25214992) : (State.decNew s d t tid nal).1.blur mk_ = s.blur mk_ := by
  refine State.blur_mono (m := 25214992) ?_ hmk
  unfold State.decNew
  extract_lets v irap fresh keep ser
  split
  · exact State.decBad_blur _ _ _ rfl
  · extract_lets poc names kept v1 miss s1 cand k buf made rec_ rec1 grey p s2 s3
    split
    · exact (State.setBlocked_blur _ _ _ _ rfl).trans (State.count_blur _ _ _ rfl)
    split
    · rfl
    have h1 : s1.blur 25214992 = s.blur 25214992 := State.setDec_blur _ _ _ _ rfl
    split
    · exact h1
    · have h2 : s2.blur 25214992 = s1.blur 25214992 :=
        (State.countN_blur _ _ _ _ rfl).trans ((State.forEach_blur _ _ _ _ (fun u r => State.writeGrey_blur _ _ _ _ _ rfl)).trans
          (State.vidPick_blur _ _ _ rfl))
      have h3 : s3.blur 25214992 = s2.blur 25214992 := by
        simp only [s3]
        split
        · rfl
        · exact State.raise_blur _ _ _ _ rfl
      exact (State.decSlice_blur _ _ _ rfl).trans ((State.setDec_blur _ _ _ _ rfl).trans (h3.trans (h2.trans h1)))
@[simp] theorem State.decSet_blur (s : State) (d : Nat) (t : Nat) (nal : List Byte) (mk_ : Nat) (hmk : 8437776 &&& mk_ = 8437776) : (State.decSet s d t nal).blur mk_ = s.blur mk_ := by
  refine State.blur_mono (m := 8437776) ?_ hmk
  unfold State.decSet
  first | (simp; done) | ((repeat' split) <;> first | with_reducible rfl | (simp; done) | (simp_all; done))
@[simp] theorem State.decBlocked_blur (s : State) (d : Nat) (t : Nat) (head : Bool) (nal : List Byte) (mk_ : Nat) (hmk : 8388624 &&& mk_ = 8388624) : (State.decBlocked s d t head nal).blur mk_ = s.blur mk_ := by
  refine State.blur_mono (m := 8388624) ?_ hmk
  unfold State.decBlocked
  try dsimp only
  repeat' split
  all_goals first | with_reducible rfl | (simp; done) | (simp [*]; done) | (simp_all; done)
@[simp] theorem State.decMore_blur (s : State) (d : Nat) (t : Nat) (mk_ : Nat) (hmk : 8437776 &&& mk_ = 8437776) : (State.decMore s d t).blur mk_ = s.blur mk_ := by
  refine State.blur_mono (m := 8437776) ?_ hmk
  unfold State.decMore
  try dsimp only
  repeat' split
  all_goals first | with_reducible rfl | (simp; done) | (simp [*]; done) | (simp_all; done)
@[simp] theorem State.decVcl_blur (s : State) (d : Nat) (t : Nat) (tid : Nat) (head : Bool) (nal : List Byte) (mk_ : Nat) (hmk : 25214992 &&& mk_ = 25214992) : (State.decVcl s d t tid head nal).1.blur mk_ = s.blur mk_ := by
  refine State.blur_mono (m := 25214992) ?_ hmk
  unfold State.decVcl
  first | (simp; done) | ((repeat' split) <;> first | with_reducible rfl | (simp; done) | (simp_all; done))
@[simp] theorem State.decNal_blur (s0 : State) (d : Nat) (nal : List Byte) (mk_ : Nat) (hmk : 25214992 &&& mk_ = 25214992) : (State.decNal s0 d nal).1.blur mk_ = s0.blur mk_ := by
  refine State.blur_mono (m := 25214992) ?_ hmk
  unfold State.decNal
  extract_lets t tid head s
  have hs : s.blur 25214992 = s0.blur 25214992 := by
    simp only [s]
    split
    · exact State.decFinish_blur _ _ _ rfl
    · rfl
  clear_value s
  split
  · exact (State.decSet_blur _ _ _ _ _ rfl).trans hs
  · exact (State.decVcl_blur _ _ _ _ _ _ _ rfl).trans hs
@[simp] theorem State.decAll_blur (s : State) (d : Nat) (x0 : List (List Byte × Nat)) (x1 : Nat) (mk_ : Nat) (hmk : 25214992 &&& mk_ = 25214992) : (State.decAll s d x0 x1).1.blur mk_ = s.blur mk_ := by
  refine State.blur_mono (m := 25214992) ?_ hmk
  induction x0 generalizing s x1 with
  | nil => rfl
  | cons x l ih =>
    unfold State.decAll
    have h := State.decNal_blur s d x.1 25214992 rfl
    split
    · rename_i heq
      rw [heq] at h
      exact (ih _ _).trans h
    · rename_i heq
      rw [heq] at h
      exact h
@[simp] theorem State.decAdvance_blur (s : State) (d : Nat) (mk_ : Nat) (hmk : 25214992 &&& mk_ = 25214992) : (State.decAdvance s d).blur mk_ = s.blur mk_ := by
  refine State.blur_mono (m := 25214992) ?_ hmk
  unfold State.decAdvance
  first | (simp; done) | ((repeat' split) <;> first | with_reducible rfl | (simp; done) | (simp_all; done))
@[simp] theorem State.decStart_blur (s : State) (d : Nat) (mk_ : Nat) (hmk : 25214992 &&& mk_ = 25214992) : (State.decStart s d).blur mk_ = s.blur mk_ := by
  refine State.blur_mono (m := 25214992) ?_ hmk
  unfold State.decStart
  first | (simp; done) | ((repeat' split) <;> first | with_reducible rfl | (simp; done) | (simp_all; done))
@[simp] theorem execDecoderStart_blur (d : Fin 2) (s : State) (mk_ : Nat) (hmk : 25214992 &&& mk_ = 25214992) : outBlur mk_ (execDecoderStart d s) = some (s.blur mk_) := by
  refine outBlur_mono (m := 25214992) ?_ hmk
  unfold execDecoderStart
  first | (simp; done) | ((repeat' split) <;> first | with_reducible rfl | (simp; done) | (simp_all; done))
@[simp] theorem State.decStop_blur (s : State) (d : Nat) (mk_ : Nat) (hmk : 8388624 &&& mk_ = 8388624) : (State.decStop s d).blur mk_ = s.blur mk_ := by
  refine State.blur_mono (m := 8388624) ?_ hmk
  unfold State.decStop
  first | (simp; done) | ((repeat' split) <;> first | with_reducible rfl | (simp; done) | (simp_all; done))
@[simp] theorem execDecoderStop_blur (d : Fin 2) (s : State) (mk_ : Nat) (hmk : 8388624 &&& mk_ = 8388624) : outBlur mk_ (execDecoderStop d s) = some (s.blur mk_) := by
  refine outBlur_mono (m := 8388624) ?_ hmk
  unfold execDecoderStop
  first | (simp; done) | ((repeat' split) <;> first | with_reducible rfl | (simp; done) | (simp_all; done))
@[simp] theorem State.decEos_blur (s : State) (d : Nat) (mk_ : Nat) (hmk : 25214992 &&& mk_ = 25214992) : (State.decEos s d).blur mk_ = s.blur mk_ := by
  refine State.blur_mono (m := 25214992) ?_ hmk
  unfold State.decEos
  first | (simp; done) | ((repeat' split) <;> first | with_reducible rfl | (simp; done) | (simp_all; done))
@[simp] theorem execDecoderEos_blur (d : Fin 2) (s : State) (mk_ : Nat) (hmk : 25214992 &&& mk_ = 25214992) : outBlur mk_ (execDecoderEos d s) = some (s.blur mk_) := by
  refine outBlur_mono (m := 25214992) ?_ hmk
  unfold execDecoderEos
  first | (simp; done) | ((repeat' split) <;> first | with_reducible rfl | (simp; done) | (simp_all; done))
@[simp] theorem State.inwrWrite_blur (s : State) (d : Nat) (v : Word) (mk_ : Nat) (hmk : 25214992 &&& mk_ = 25214992) : (State.inwrWrite s d v).blur mk_ = s.blur mk_ := by
  refine State.blur_mono (m := 25214992) ?_ hmk
  unfold State.inwrWrite
  first | (simp; done) | ((repeat' split) <;> first | with_reducible rfl | (simp; done) | (simp_all; done))
@[simp] theorem execInwrWrite_blur (d : Fin 2) (v : Word) (s : State) (mk_ : Nat) (hmk : 25214992 &&& mk_ = 25214992) : outBlur mk_ (execInwrWrite d v s) = some (s.blur mk_) := by
  refine outBlur_mono (m := 25214992) ?_ hmk
  unfold execInwrWrite
  first | (simp; done) | ((repeat' split) <;> first | with_reducible rfl | (simp; done) | (simp_all; done))
@[simp] theorem State.decodedPicture_blur (s0 : State) (d : Nat) (mk_ : Nat) (hmk : 25214992 &&& mk_ = 25214992) : (State.decodedPicture s0 d).blur mk_ = s0.blur mk_ := by
  refine State.blur_mono (m := 25214992) ?_ hmk
  unfold State.decodedPicture
  extract_lets s v
  have hs : s.blur 25214992 = s0.blur 25214992 := State.decAdvance_blur _ _ _ rfl
  clear_value s
  split
  · exact hs
  rename_i p rest _
  have h : ∀ a b w, ((((s.bulkWrite 3 a b).setDec d w).count (rVidDecPictures d)).raise 0x0CA (10 + d)).blur 25214992 = s0.blur 25214992 :=
    fun a b w => (State.raise_blur _ _ _ _ rfl).trans ((State.count_blur _ _ _ rfl).trans ((State.setDec_blur _ _ _ _ rfl).trans
      ((State.bulkWrite_blur _ _ _ _ _ rfl).trans hs)))
  split
  · exact hs
  · dsimp only
    split
    · exact (State.decAdvance_blur _ _ _ rfl).trans (h _ _ _)
    · exact h _ _ _
@[simp] theorem execDecodedPicture_blur (d : Fin 2) (s : State) (mk_ : Nat) (hmk : 25214992 &&& mk_ = 25214992) : outBlur mk_ (execDecodedPicture d s) = some (s.blur mk_) := by
  refine outBlur_mono (m := 25214992) ?_ hmk
  unfold execDecodedPicture
  first | (simp; done) | ((repeat' split) <;> first | with_reducible rfl | (simp; done) | (simp_all; done))
@[simp] theorem execDecodeWatchdog_blur (d : Fin 2) (s : State) (mk_ : Nat) (hmk : 8437776 &&& mk_ = 8437776) : outBlur mk_ (execDecodeWatchdog d s) = some (s.blur mk_) := by
  refine outBlur_mono (m := 8437776) ?_ hmk
  unfold execDecodeWatchdog
  first | (simp; done) | ((repeat' split) <;> first | with_reducible rfl | (simp; done) | (simp_all; done))
@[simp] theorem State.decHold_blur (s : State) (d : Nat) (reader : Nat) (mk_ : Nat) (hmk : 8388608 &&& mk_ = 8388608) : (State.decHold s d reader).1.blur mk_ = s.blur mk_ := by
  refine State.blur_mono (m := 8388608) ?_ hmk
  unfold State.decHold
  try dsimp only
  repeat' split
  all_goals first | with_reducible rfl | (simp; done) | (simp [*]; done) | (simp_all; done)
@[simp] theorem State.decRelease_blur (s : State) (d : Nat) (reader : Nat) (mk_ : Nat) (hmk : 8388608 &&& mk_ = 8388608) : (State.decRelease s d reader).blur mk_ = s.blur mk_ := by
  refine State.blur_mono (m := 8388608) ?_ hmk
  unfold State.decRelease
  first | (simp; done) | ((repeat' split) <;> first | with_reducible rfl | (simp; done) | (simp_all; done))

end Sys2Proof.Machine
end

