-- ==== Sys2Proof/Laws/FrameDisplay.lean ====
section
/-! SUPPORT. The fields that the operations of Display can change (see Laws/Frame.lean). -/

set_option Elab.async false
set_option linter.unusedTactic false
set_option linter.unreachableTactic false

namespace Sys2Proof.Machine

open Sys2Proof

@[simp] theorem State.setOut_blur (s : State) (o : Out) (mk_ : Nat) (hmk : 134217728 &&& mk_ = 134217728) : (State.setOut s o).blur mk_ = s.blur mk_ := by
  refine State.blur_mono (m := 134217728) ?_ hmk
  unfold State.setOut
  first | (simp; done) | ((repeat' split) <;> first | with_reducible rfl | (simp; done) | (simp_all; done))
@[simp] theorem State.setDh_blur (s : State) (d : Nat) (v : DHead) (mk_ : Nat) (hmk : 134217728 &&& mk_ = 134217728) : (State.setDh s d v).blur mk_ = s.blur mk_ := by
  refine State.blur_mono (m := 134217728) ?_ hmk
  unfold State.setDh
  first | (simp; done) | ((repeat' split) <;> first | with_reducible rfl | (simp; done) | (simp_all; done))
@[simp] theorem State.setDhState_blur (s : State) (d : Nat) (st : Nat) (mk_ : Nat) (hmk : 16 &&& mk_ = 16) : (State.setDhState s d st).blur mk_ = s.blur mk_ := by
  refine State.blur_mono (m := 16) ?_ hmk
  unfold State.setDhState
  first | (simp; done) | ((repeat' split) <;> first | with_reducible rfl | (simp; done) | (simp_all; done))
@[simp] theorem State.dhError_blur (s : State) (d : Nat) (err : Nat) (mk_ : Nat) (hmk : 49168 &&& mk_ = 49168) : (State.dhError s d err).blur mk_ = s.blur mk_ := by
  refine State.blur_mono (m := 49168) ?_ hmk
  unfold State.dhError
  first | (simp; done) | ((repeat' split) <;> first | with_reducible rfl | (simp; done) | (simp_all; done))
@[simp] theorem State.dhEvt_blur (s : State) (d : Nat) (x : Nat) (mk_ : Nat) (hmk : 49168 &&& mk_ = 49168) : (State.dhEvt s d x).blur mk_ = s.blur mk_ := by
  refine State.blur_mono (m := 49168) ?_ hmk
  unfold State.dhEvt
  first | (simp; done) | ((repeat' split) <;> first | with_reducible rfl | (simp; done) | (simp_all; done))
@[simp] theorem State.dhApply_blur (s : State) (d : Nat) (mk_ : Nat) (hmk : 49168 &&& mk_ = 49168) : (State.dhApply s d).blur mk_ = s.blur mk_ := by
  refine State.blur_mono (m := 49168) ?_ hmk
  unfold State.dhApply
  first | (simp; done) | ((repeat' split) <;> first | with_reducible rfl | (simp; done) | (simp_all; done))
@[simp] theorem State.dhCommitNow_blur (s : State) (d : Nat) (mk_ : Nat) (hmk : 49168 &&& mk_ = 49168) : (State.dhCommitNow s d).blur mk_ = s.blur mk_ := by
  refine State.blur_mono (m := 49168) ?_ hmk
  unfold State.dhCommitNow
  first | (simp; done) | ((repeat' split) <;> first | with_reducible rfl | (simp; done) | (simp_all; done))
@[simp] theorem State.psrGo_blur (s : State) (st : Nat) (mk_ : Nat) (hmk : 49168 &&& mk_ = 49168) : (State.psrGo s st).blur mk_ = s.blur mk_ := by
  refine State.blur_mono (m := 49168) ?_ hmk
  unfold State.psrGo
  first | (simp; done) | ((repeat' split) <;> first | with_reducible rfl | (simp; done) | (simp_all; done))
@[simp] theorem State.dhCommit_blur (s : State) (d : Nat) (mk_ : Nat) (hmk : 134266896 &&& mk_ = 134266896) : (State.dhCommit s d).blur mk_ = s.blur mk_ := by
  refine State.blur_mono (m := 134266896) ?_ hmk
  unfold State.dhCommit
  first | (simp; done) | ((repeat' split) <;> first | with_reducible rfl | (simp; done) | (simp_all; done))
@[simp] theorem execDisplayCommit_blur (d : Fin 3) (s : State) (mk_ : Nat) (hmk : 134266896 &&& mk_ = 134266896) : outBlur mk_ (execDisplayCommit d s) = some (s.blur mk_) := by
  refine outBlur_mono (m := 134266896) ?_ hmk
  unfold execDisplayCommit
  first | (simp; done) | ((repeat' split) <;> first | with_reducible rfl | (simp; done) | (simp_all; done))
@[simp] theorem State.dhReady_blur (s : State) (d : Nat) (mk_ : Nat) (hmk : 134217728 &&& mk_ = 134217728) : (State.dhReady s d).blur mk_ = s.blur mk_ := by
  refine State.blur_mono (m := 134217728) ?_ hmk
  unfold State.dhReady
  first | (simp; done) | ((repeat' split) <;> first | with_reducible rfl | (simp; done) | (simp_all; done))
@[simp] theorem State.dhStart_blur (s : State) (d : Nat) (mk_ : Nat) (hmk : 134266896 &&& mk_ = 134266896) : (State.dhStart s d).blur mk_ = s.blur mk_ := by
  refine State.blur_mono (m := 134266896) ?_ hmk
  unfold State.dhStart
  first | (simp; done) | ((repeat' split) <;> first | with_reducible rfl | (simp; done) | (simp_all; done))
@[simp] theorem execDisplayStart_blur (d : Fin 3) (s : State) (mk_ : Nat) (hmk : 134266896 &&& mk_ = 134266896) : outBlur mk_ (execDisplayStart d s) = some (s.blur mk_) := by
  refine outBlur_mono (m := 134266896) ?_ hmk
  unfold execDisplayStart
  first | (simp; done) | ((repeat' split) <;> first | with_reducible rfl | (simp; done) | (simp_all; done))
@[simp] theorem State.layerDrop_blur (s : State) (d : Nat) (l : Nat) (mk_ : Nat) (hmk : 143654928 &&& mk_ = 143654928) : (State.layerDrop s d l).blur mk_ = s.blur mk_ := by
  refine State.blur_mono (m := 143654928) ?_ hmk
  unfold State.layerDrop
  first | (simp; done) | ((repeat' split) <;> first | with_reducible rfl | (simp; done) | (simp_all; done))
@[simp] theorem State.dhDrop_blur (s : State) (d : Nat) (mk_ : Nat) (hmk : 143654928 &&& mk_ = 143654928) : (State.dhDrop s d).blur mk_ = s.blur mk_ := by
  refine State.blur_mono (m := 143654928) ?_ hmk
  unfold State.dhDrop
  first | (simp; done) | ((repeat' split) <;> first | with_reducible rfl | (simp; done) | (simp_all; done))
@[simp] theorem State.setAesRx_blur (s : State) (n : Nat) (v : AesRx) (mk_ : Nat) (hmk : 134217728 &&& mk_ = 134217728) : (State.setAesRx s n v).blur mk_ = s.blur mk_ := by
  refine State.blur_mono (m := 134217728) ?_ hmk
  unfold State.setAesRx
  first | (simp; done) | ((repeat' split) <;> first | with_reducible rfl | (simp; done) | (simp_all; done))
@[simp] theorem State.portOd_blur (s : State) (mk_ : Nat) (hmk : 16826384 &&& mk_ = 16826384) : (State.portOd s).blur mk_ = s.blur mk_ := by
  refine State.blur_mono (m := 16826384) ?_ hmk
  unfold State.portOd
  first | (simp; done) | ((repeat' split) <;> first | with_reducible rfl | (simp; done) | (simp_all; done))
@[simp] theorem State.syncDisplayOd_blur (s : State) (mk_ : Nat) (hmk : 16826384 &&& mk_ = 16826384) : (State.syncDisplayOd s).blur mk_ = s.blur mk_ := by
  refine State.blur_mono (m := 16826384) ?_ hmk
  unfold State.syncDisplayOd
  first | (simp; done) | ((repeat' split) <;> first | with_reducible rfl | (simp; done) | (simp_all; done))
@[simp] theorem State.dhVideoOff_blur (s : State) (d : Nat) (mk_ : Nat) (hmk : 160481296 &&& mk_ = 160481296) : (State.dhVideoOff s d).blur mk_ = s.blur mk_ := by
  refine State.blur_mono (m := 160481296) ?_ hmk
  unfold State.dhVideoOff
  first | (simp; done) | ((repeat' split) <;> first | with_reducible rfl | (simp; done) | (simp_all; done))
@[simp] theorem State.dhStopSeq_blur (s : State) (d : Nat) (err : Nat) (mk_ : Nat) (hmk : 160481296 &&& mk_ = 160481296) : (State.dhStopSeq s d err).blur mk_ = s.blur mk_ := by
  refine State.blur_mono (m := 160481296) ?_ hmk
  unfold State.dhStopSeq
  first | (simp; done) | ((repeat' split) <;> first | with_reducible rfl | (simp; done) | (simp_all; done))
@[simp] theorem State.dhStop_blur (s : State) (d : Nat) (mk_ : Nat) (hmk : 160481296 &&& mk_ = 160481296) : (State.dhStop s d).blur mk_ = s.blur mk_ := by
  refine State.blur_mono (m := 160481296) ?_ hmk
  unfold State.dhStop
  first | (simp; done) | ((repeat' split) <;> first | with_reducible rfl | (simp; done) | (simp_all; done))
@[simp] theorem execDisplayStop_blur (d : Fin 3) (s : State) (mk_ : Nat) (hmk : 160481296 &&& mk_ = 160481296) : outBlur mk_ (execDisplayStop d s) = some (s.blur mk_) := by
  refine outBlur_mono (m := 160481296) ?_ hmk
  unfold execDisplayStop
  first | (simp; done) | ((repeat' split) <;> first | with_reducible rfl | (simp; done) | (simp_all; done))
@[simp] theorem execHpdHigh_blur (s : State) (mk_ : Nat) (hmk : 134217728 &&& mk_ = 134217728) : outBlur mk_ (execHpdHigh s) = some (s.blur mk_) := by
  refine outBlur_mono (m := 134217728) ?_ hmk
  unfold execHpdHigh
  first | (simp; done) | ((repeat' split) <;> first | with_reducible rfl | (simp; done) | (simp_all; done))
@[simp] theorem execHpdTimeout_blur (s : State) (mk_ : Nat) (hmk : 134266896 &&& mk_ = 134266896) : outBlur mk_ (execHpdTimeout s) = some (s.blur mk_) := by
  refine outBlur_mono (m := 134266896) ?_ hmk
  unfold execHpdTimeout
  first | (simp; done) | ((repeat' split) <;> first | with_reducible rfl | (simp; done) | (simp_all; done))
@[simp] theorem State.linkTrained_blur (s : State) (ok : Bool) (mk_ : Nat) (hmk : 143704080 &&& mk_ = 143704080) : (State.linkTrained s ok).blur mk_ = s.blur mk_ := by
  refine State.blur_mono (m := 143704080) ?_ hmk
  unfold State.linkTrained
  first | (simp; done) | ((repeat' split) <;> first | with_reducible rfl | (simp; done) | (simp_all; done))
@[simp] theorem execEdpLinkTrained_blur (ok : Bool) (s : State) (mk_ : Nat) (hmk : 143704080 &&& mk_ = 143704080) : outBlur mk_ (execEdpLinkTrained ok s) = some (s.blur mk_) := by
  refine outBlur_mono (m := 143704080) ?_ hmk
  unfold execEdpLinkTrained
  first | (simp; done) | ((repeat' split) <;> first | with_reducible rfl | (simp; done) | (simp_all; done))
@[simp] theorem execHpdLost_blur (s : State) (mk_ : Nat) (hmk : 160481296 &&& mk_ = 160481296) : outBlur mk_ (execHpdLost s) = some (s.blur mk_) := by
  refine outBlur_mono (m := 160481296) ?_ hmk
  unfold execHpdLost
  first | (simp; done) | ((repeat' split) <;> first | with_reducible rfl | (simp; done) | (simp_all; done))
@[simp] theorem execHpdPulse_blur (lockLost : Bool) (s : State) (mk_ : Nat) (hmk : 134217728 &&& mk_ = 134217728) : outBlur mk_ (execHpdPulse lockLost s) = some (s.blur mk_) := by
  refine outBlur_mono (m := 134217728) ?_ hmk
  unfold execHpdPulse
  first | (simp; done) | ((repeat' split) <;> first | with_reducible rfl | (simp; done) | (simp_all; done))
@[simp] theorem execPanelPowerOff_blur (s : State) (mk_ : Nat) (hmk : 134217728 &&& mk_ = 134217728) : outBlur mk_ (execPanelPowerOff s) = some (s.blur mk_) := by
  refine outBlur_mono (m := 134217728) ?_ hmk
  unfold execPanelPowerOff
  first | (simp; done) | ((repeat' split) <;> first | with_reducible rfl | (simp; done) | (simp_all; done))
@[simp] theorem execHeadIdle_blur (s : State) (mk_ : Nat) (hmk : 134266896 &&& mk_ = 134266896) : outBlur mk_ (execHeadIdle s) = some (s.blur mk_) := by
  refine outBlur_mono (m := 134266896) ?_ hmk
  unfold execHeadIdle
  first | (simp; done) | ((repeat' split) <;> first | with_reducible rfl | (simp; done) | (simp_all; done))
@[simp] theorem State.layerShow_blur (t : State) (d : Nat) (l : Nat) (seq : Nat) (p : Option LayerPic) (mk_ : Nat) (hmk : 151044176 &&& mk_ = 151044176) : (State.layerShow t d l seq p).blur mk_ = t.blur mk_ := by
  refine State.blur_mono (m := 151044176) ?_ hmk
  unfold State.layerShow
  first | (simp; done) | ((repeat' split) <;> first | with_reducible rfl | (simp; done) | (simp_all; done))
theorem layerProxy_blur (d l : Nat) (h : State × Option (Nat × Nat)) (c : Option Nat) (m : Nat) (hm : 160481360 &&& m = 160481360) :
    (layerProxy d l h c).blur m = h.1.blur m := by
  unfold layerProxy
  split
  · exact State.layerShow_blur _ _ _ _ _ _ (sub_mask hm rfl)
  · rfl
theorem layerDecoded_blur (d l k : Nat) (h : State × Option (Nat × Nat)) (m : Nat) (hm : 160481360 &&& m = 160481360) :
    (layerDecoded d l k h).blur m = h.1.blur m := by
  unfold layerDecoded
  split
  · exact State.layerShow_blur _ _ _ _ _ _ (sub_mask hm rfl)
  · rfl
@[simp] theorem State.layerTake_blur (s : State) (d : Nat) (l : Nat) (mk_ : Nat) (hmk : 160481360 &&& mk_ = 160481360) : (State.layerTake s d l).blur mk_ = s.blur mk_ := by
  refine State.blur_mono (m := 160481360) ?_ hmk
  unfold State.layerTake
  dsimp only
  split
  · exact (layerProxy_blur _ _ _ _ _ rfl).trans ((State.pxHold_blur _ _ _ _ rfl).trans (State.layerDrop_blur _ _ _ _ rfl))
  · exact (layerDecoded_blur _ _ _ _ _ rfl).trans ((State.decHold_blur _ _ _ _ rfl).trans (State.layerDrop_blur _ _ _ _ rfl))
  · exact (State.layerShow_blur _ _ _ _ _ _ rfl).trans (State.layerDrop_blur _ _ _ _ rfl)
  · exact State.layerDrop_blur _ _ _ _ rfl
@[simp] theorem State.dhFetch_blur (s : State) (d : Nat) (mk_ : Nat) (hmk : 160481360 &&& mk_ = 160481360) : (State.dhFetch s d).blur mk_ = s.blur mk_ := by
  refine State.blur_mono (m := 160481360) ?_ hmk
  unfold State.dhFetch
  first | (simp; done) | ((repeat' split) <;> first | with_reducible rfl | (simp; done) | (simp_all; done))
@[simp] theorem State.psrStep_blur (s : State) (upd : Bool) (commit : Bool) (ack : Bool) (mk_ : Nat) (hmk : 143704080 &&& mk_ = 143704080) : (State.psrStep s upd commit ack).blur mk_ = s.blur mk_ := by
  refine State.blur_mono (m := 143704080) ?_ hmk
  unfold State.psrStep
  first | (simp; done) | ((repeat' split) <;> first | with_reducible rfl | (simp; done) | (simp_all; done))
@[simp] theorem State.dhVideo_blur (s : State) (d : Nat) (mk_ : Nat) (hmk : 160481360 &&& mk_ = 160481360) : (State.dhVideo s d).blur mk_ = s.blur mk_ := by
  refine State.blur_mono (m := 160481360) ?_ hmk
  unfold State.dhVideo
  first | (simp; done) | ((repeat' split) <;> first | with_reducible rfl | (simp; done) | (simp_all; done))
@[simp] theorem State.dhFrame_blur (s : State) (d : Nat) (ack : Bool) (mk_ : Nat) (hmk : 160481360 &&& mk_ = 160481360) : (State.dhFrame s d ack).blur mk_ = s.blur mk_ := by
  refine State.blur_mono (m := 160481360) ?_ hmk
  unfold State.dhFrame
  first | (simp; done) | ((repeat' split) <;> first | with_reducible rfl | (simp; done) | (simp_all; done))
@[simp] theorem execDisplayFrameStart_blur (d : Fin 3) (psrAck : Bool) (s : State) (mk_ : Nat) (hmk : 160481360 &&& mk_ = 160481360) : outBlur mk_ (execDisplayFrameStart d psrAck s) = some (s.blur mk_) := by
  refine outBlur_mono (m := 160481360) ?_ hmk
  unfold execDisplayFrameStart
  first | (simp; done) | ((repeat' split) <;> first | with_reducible rfl | (simp; done) | (simp_all; done))
@[simp] theorem State.dhUnderrun_blur (s : State) (d : Nat) (l : Nat) (mk_ : Nat) (hmk : 151044112 &&& mk_ = 151044112) : (State.dhUnderrun s d l).blur mk_ = s.blur mk_ := by
  refine State.blur_mono (m := 151044112) ?_ hmk
  unfold State.dhUnderrun
  first | (simp; done) | ((repeat' split) <;> first | with_reducible rfl | (simp; done) | (simp_all; done))
@[simp] theorem execUnderrun_blur (d : Fin 3) (layer : Fin 4) (s : State) (mk_ : Nat) (hmk : 151044112 &&& mk_ = 151044112) : outBlur mk_ (execUnderrun d layer s) = some (s.blur mk_) := by
  refine outBlur_mono (m := 151044112) ?_ hmk
  unfold execUnderrun
  first | (simp; done) | ((repeat' split) <;> first | with_reducible rfl | (simp; done) | (simp_all; done))
@[simp] theorem State.dhFifo_blur (s : State) (d : Nat) (l : Nat) (level : Nat) (whole : Bool) (mk_ : Nat) (hmk : 151044112 &&& mk_ = 151044112) : (State.dhFifo s d l level whole).blur mk_ = s.blur mk_ := by
  refine State.blur_mono (m := 151044112) ?_ hmk
  unfold State.dhFifo
  first | (simp; done) | ((repeat' split) <;> first | with_reducible rfl | (simp; done) | (simp_all; done))
@[simp] theorem execDisplayPortOverdraft_blur (d : Fin 3) (layer : Fin 4) (level : Nat × Bool) (s : State) (mk_ : Nat) (hmk : 151044112 &&& mk_ = 151044112) : outBlur mk_ (execDisplayPortOverdraft d layer level s) = some (s.blur mk_) := by
  refine outBlur_mono (m := 151044112) ?_ hmk
  unfold execDisplayPortOverdraft
  first | (simp; done) | ((repeat' split) <;> first | with_reducible rfl | (simp; done) | (simp_all; done))
@[simp] theorem State.dhPower_blur (s : State) (mk_ : Nat) (hmk : 160481296 &&& mk_ = 160481296) : (State.dhPower s).blur mk_ = s.blur mk_ := by
  refine State.blur_mono (m := 160481296) ?_ hmk
  unfold State.dhPower
  first | (simp; done) | ((repeat' split) <;> first | with_reducible rfl | (simp; done) | (simp_all; done))
@[simp] theorem State.dhFence_blur (s : State) (ds : List Nat) (mk_ : Nat) (hmk : 160481296 &&& mk_ = 160481296) : (State.dhFence s ds).blur mk_ = s.blur mk_ := by
  refine State.blur_mono (m := 160481296) ?_ hmk
  unfold State.dhFence
  first | (simp; done) | ((repeat' split) <;> first | with_reducible rfl | (simp; done) | (simp_all; done))

end Sys2Proof.Machine
end

