-- ==== Sys2Proof/Laws/FrameAudio.lean ====
section
/-! SUPPORT. The fields that the operations of Audio can change (see Laws/Frame.lean). -/

set_option Elab.async false
set_option linter.unusedTactic false
set_option linter.unreachableTactic false

namespace Sys2Proof.Machine

open Sys2Proof

@[simp] theorem State.syncAesOd_blur (s : State) (n : Nat) (mk_ : Nat) (hmk : 151044112 &&& mk_ = 151044112) : (State.syncAesOd s n).blur mk_ = s.blur mk_ := by
  refine State.blur_mono (m := 151044112) ?_ hmk
  unfold State.syncAesOd
  first | (simp; done) | ((repeat' split) <;> first | with_reducible rfl | (simp; done) | (simp_all; done))
@[simp] theorem State.aesLose_blur (s : State) (n : Nat) (k : Nat) (mk_ : Nat) (hmk : 134217744 &&& mk_ = 134217744) : (State.aesLose s n k).blur mk_ = s.blur mk_ := by
  refine State.blur_mono (m := 134217744) ?_ hmk
  unfold State.aesLose
  first | (simp; done) | ((repeat' split) <;> first | with_reducible rfl | (simp; done) | (simp_all; done))
@[simp] theorem State.aesEnd_blur (s : State) (n : Nat) (frames : List Nat) (fs : Word) (unlock : Bool) (mk_ : Nat) (hmk : 151044112 &&& mk_ = 151044112) : (State.aesEnd s n frames fs unlock).blur mk_ = s.blur mk_ := by
  refine State.blur_mono (m := 151044112) ?_ hmk
  unfold State.aesEnd
  try dsimp only
  repeat' split
  all_goals first | with_reducible rfl | (simp; done) | (simp [*]; done) | (simp_all; done)
@[simp] theorem State.aesOpen_blur (s : State) (n : Nat) (stamp : Nat) (mk_ : Nat) (hmk : 134266880 &&& mk_ = 134266880) : (State.aesOpen s n stamp).blur mk_ = s.blur mk_ := by
  refine State.blur_mono (m := 134266880) ?_ hmk
  unfold State.aesOpen
  first | (simp; done) | ((repeat' split) <;> first | with_reducible rfl | (simp; done) | (simp_all; done))
@[simp] theorem execAesBlockStart_blur (rx : Fin 2) (stamp : Nat) (frames : List Nat) (fs : Nat) (s : State) (mk_ : Nat) (hmk : 151044112 &&& mk_ = 151044112) : outBlur mk_ (execAesBlockStart rx stamp frames fs s) = some (s.blur mk_) := by
  refine outBlur_mono (m := 151044112) ?_ hmk
  unfold execAesBlockStart
  first | (simp; done) | ((repeat' split) <;> first | with_reducible rfl | (simp; done) | (simp_all; done))
@[simp] theorem State.aesUnlock_blur (s : State) (n : Nat) (frames : List Nat) (mk_ : Nat) (hmk : 151044112 &&& mk_ = 151044112) : (State.aesUnlock s n frames).blur mk_ = s.blur mk_ := by
  refine State.blur_mono (m := 151044112) ?_ hmk
  unfold State.aesUnlock
  first | (simp; done) | ((repeat' split) <;> first | with_reducible rfl | (simp; done) | (simp_all; done))
@[simp] theorem execAesLockChange_blur (rx : Fin 2) (lock : Bool) (rate : BitVec 4) (frames : List Nat) (s : State) (mk_ : Nat) (hmk : 151044112 &&& mk_ = 151044112) : outBlur mk_ (execAesLockChange rx lock rate frames s) = some (s.blur mk_) := by
  refine outBlur_mono (m := 151044112) ?_ hmk
  unfold execAesLockChange
  first | (simp; done) | ((repeat' split) <;> first | with_reducible rfl | (simp; done) | (simp_all; done))
@[simp] theorem State.aesRxCfg_blur (s : State) (n : Nat) (a : Nat) (v : Word) (mk_ : Nat) (hmk : 134266896 &&& mk_ = 134266896) : (State.aesRxCfg s n a v).blur mk_ = s.blur mk_ := by
  refine State.blur_mono (m := 134266896) ?_ hmk
  unfold State.aesRxCfg
  first | (simp; done) | ((repeat' split) <;> first | with_reducible rfl | (simp; done) | (simp_all; done))
@[simp] theorem State.aesTxStart_blur (s : State) (mk_ : Nat) (hmk : 134217744 &&& mk_ = 134217744) : (State.aesTxStart s).blur mk_ = s.blur mk_ := by
  refine State.blur_mono (m := 134217744) ?_ hmk
  unfold State.aesTxStart
  first | (simp; done) | ((repeat' split) <;> first | with_reducible rfl | (simp; done) | (simp_all; done))
@[simp] theorem execAesTxStart_blur (s : State) (mk_ : Nat) (hmk : 134217744 &&& mk_ = 134217744) : outBlur mk_ (execAesTxStart s) = some (s.blur mk_) := by
  refine outBlur_mono (m := 134217744) ?_ hmk
  unfold execAesTxStart
  first | (simp; done) | ((repeat' split) <;> first | with_reducible rfl | (simp; done) | (simp_all; done))
@[simp] theorem State.aesTxStop_blur (s : State) (mk_ : Nat) (hmk : 134217744 &&& mk_ = 134217744) : (State.aesTxStop s).blur mk_ = s.blur mk_ := by
  refine State.blur_mono (m := 134217744) ?_ hmk
  unfold State.aesTxStop
  first | (simp; done) | ((repeat' split) <;> first | with_reducible rfl | (simp; done) | (simp_all; done))
@[simp] theorem execAesTxStop_blur (s : State) (mk_ : Nat) (hmk : 134217744 &&& mk_ = 134217744) : outBlur mk_ (execAesTxStop s) = some (s.blur mk_) := by
  refine outBlur_mono (m := 134217744) ?_ hmk
  unfold execAesTxStop
  first | (simp; done) | ((repeat' split) <;> first | with_reducible rfl | (simp; done) | (simp_all; done))
@[simp] theorem State.aesPreamble_blur (s : State) (stamp : Nat) (mk_ : Nat) (hmk : 151044176 &&& mk_ = 151044176) : (State.aesPreamble s stamp).blur mk_ = s.blur mk_ := by
  refine State.blur_mono (m := 151044176) ?_ hmk
  unfold State.aesPreamble
  first | (simp; done) | ((repeat' split) <;> first | with_reducible rfl | (simp; done) | (simp_all; done))
@[simp] theorem execAesTxPreamble_blur (stamp : Nat) (s : State) (mk_ : Nat) (hmk : 151044176 &&& mk_ = 151044176) : outBlur mk_ (execAesTxPreamble stamp s) = some (s.blur mk_) := by
  refine outBlur_mono (m := 151044176) ?_ hmk
  unfold execAesTxPreamble
  first | (simp; done) | ((repeat' split) <;> first | with_reducible rfl | (simp; done) | (simp_all; done))
@[simp] theorem State.aesTail_blur (s : State) (v : Word) (mk_ : Nat) (hmk : 49168 &&& mk_ = 49168) : (State.aesTail s v).blur mk_ = s.blur mk_ := by
  refine State.blur_mono (m := 49168) ?_ hmk
  unfold State.aesTail
  first | (simp; done) | ((repeat' split) <;> first | with_reducible rfl | (simp; done) | (simp_all; done))
@[simp] theorem execAesTxTailWrite_blur (v : Word) (s : State) (mk_ : Nat) (hmk : 49168 &&& mk_ = 49168) : outBlur mk_ (execAesTxTailWrite v s) = some (s.blur mk_) := by
  refine outBlur_mono (m := 49168) ?_ hmk
  unfold execAesTxTailWrite
  first | (simp; done) | ((repeat' split) <;> first | with_reducible rfl | (simp; done) | (simp_all; done))
@[simp] theorem State.aesHeld_blur (s : State) (mk_ : Nat) (hmk : 134217728 &&& mk_ = 134217728) : (State.aesHeld s).1.blur mk_ = s.blur mk_ := by
  refine State.blur_mono (m := 134217728) ?_ hmk
  unfold State.aesHeld
  first | (simp; done) | ((repeat' split) <;> first | with_reducible rfl | (simp; done) | (simp_all; done))
@[simp] theorem State.aesPower_blur (s : State) (mk_ : Nat) (hmk : 151044112 &&& mk_ = 151044112) : (State.aesPower s).blur mk_ = s.blur mk_ := by
  refine State.blur_mono (m := 151044112) ?_ hmk
  unfold State.aesPower
  first | (simp; done) | ((repeat' split) <;> first | with_reducible rfl | (simp; done) | (simp_all; done))
@[simp] theorem State.aesFence_blur (s : State) (us : List Nat) (mk_ : Nat) (hmk : 151044112 &&& mk_ = 151044112) : (State.aesFence s us).blur mk_ = s.blur mk_ := by
  refine State.blur_mono (m := 151044112) ?_ hmk
  unfold State.aesFence
  first | (simp; done) | ((repeat' split) <;> first | with_reducible rfl | (simp; done) | (simp_all; done))

end Sys2Proof.Machine
end

