-- ==== Sys2Proof/Laws/FrameClearing.lean ====
section
/-! SUPPORT. The fields that the operations of Clearing can change (see Laws/Frame.lean). -/

set_option Elab.async false
set_option linter.unusedTactic false
set_option linter.unreachableTactic false

namespace Sys2Proof.Machine

open Sys2Proof

@[simp] theorem State.setCh_blur (s : State) (c : ChSt) (mk_ : Nat) (hmk : 32768 &&& mk_ = 32768) : (State.setCh s c).blur mk_ = s.blur mk_ := by
  refine State.blur_mono (m := 32768) ?_ hmk
  unfold State.setCh
  first | (simp; done) | ((repeat' split) <;> first | with_reducible rfl | (simp; done) | (simp_all; done))
@[simp] theorem State.toTask_blur (s : State) (n : Nat) (x : Nat) (lin : BitVec 64) (width : Nat) (mk_ : Nat) (hmk : 32784 &&& mk_ = 32784) : (State.toTask s n x lin width).blur mk_ = s.blur mk_ := by
  refine State.blur_mono (m := 32784) ?_ hmk
  unfold State.toTask
  first | (simp; done) | ((repeat' split) <;> first | with_reducible rfl | (simp; done) | (simp_all; done))
@[simp] theorem State.chDeliver_blur (s : State) (n : Nat) (lin : BitVec 64) (mk_ : Nat) (hmk : 49168 &&& mk_ = 49168) : (State.chDeliver s n lin).blur mk_ = s.blur mk_ := by
  refine State.blur_mono (m := 49168) ?_ hmk
  unfold State.chDeliver
  first | (simp; done) | ((repeat' split) <;> first | with_reducible rfl | (simp; done) | (simp_all; done))
@[simp] theorem State.chLoop_blur (s : State) (n : Nat) (k : Nat) (mk_ : Nat) (hmk : 49168 &&& mk_ = 49168) : (State.chLoop s n k).blur mk_ = s.blur mk_ := by
  refine State.blur_mono (m := 49168) ?_ hmk
  unfold State.chLoop
  first | (simp; done) | ((repeat' split) <;> first | with_reducible rfl | (simp; done) | (simp_all; done))
@[simp] theorem State.channelEvent_blur (s : State) (n : Nat) (mk_ : Nat) (hmk : 49232 &&& mk_ = 49232) : (State.channelEvent s n).blur mk_ = s.blur mk_ := by
  refine State.blur_mono (m := 49232) ?_ hmk
  unfold State.channelEvent
  first | (simp; done) | ((repeat' split) <;> first | with_reducible rfl | (simp; done) | (simp_all; done))
@[simp] theorem execChannelEvent_blur (n : Fin 64) (s : State) (mk_ : Nat) (hmk : 49232 &&& mk_ = 49232) : outBlur mk_ (execChannelEvent n s) = some (s.blur mk_) := by
  refine outBlur_mono (m := 49232) ?_ hmk
  unfold execChannelEvent
  first | (simp; done) | ((repeat' split) <;> first | with_reducible rfl | (simp; done) | (simp_all; done))
@[simp] theorem State.softFire_blur (s : State) (hi : Bool) (v : Word) (mk_ : Nat) (hmk : 32768 &&& mk_ = 32768) : (State.softFire s hi v).blur mk_ = s.blur mk_ := by
  refine State.blur_mono (m := 32768) ?_ hmk
  unfold State.softFire
  first | (simp; done) | ((repeat' split) <;> first | with_reducible rfl | (simp; done) | (simp_all; done))
@[simp] theorem execSoftwareFire_blur (hi : Bool) (v : Word) (s : State) (mk_ : Nat) (hmk : 32768 &&& mk_ = 32768) : outBlur mk_ (execSoftwareFire hi v s) = some (s.blur mk_) := by
  refine outBlur_mono (m := 32768) ?_ hmk
  unfold execSoftwareFire
  first | (simp; done) | ((repeat' split) <;> first | with_reducible rfl | (simp; done) | (simp_all; done))
@[simp] theorem execSetLatch_blur (k : Fin 16) (s : State) (mk_ : Nat) (hmk : 32784 &&& mk_ = 32784) : outBlur mk_ (execSetLatch k s) = some (s.blur mk_) := by
  refine outBlur_mono (m := 32784) ?_ hmk
  unfold execSetLatch
  rw [outBlur_next]
  congr 1
  split
  · rfl
  · extract_lets r s1
    have h1 : s1.blur 32784 = s.blur 32784 := (State.setBit_blur _ _ _ _ _ rfl).trans (State.takeTask_blur _ _ _ rfl)
    split
    · exact h1
    · exact (State.setCh_blur _ _ _ rfl).trans h1
@[simp] theorem execClrLatch_blur (k : Fin 16) (s : State) (mk_ : Nat) (hmk : 32784 &&& mk_ = 32784) : outBlur mk_ (execClrLatch k s) = some (s.blur mk_) := by
  refine outBlur_mono (m := 32784) ?_ hmk
  unfold execClrLatch
  rw [outBlur_next]
  congr 1
  split
  · rfl
  · extract_lets r
    have h1 : r.1.blur 32784 = s.blur 32784 := State.takeTask_blur _ _ _ rfl
    split
    · exact (State.setBit_blur _ _ _ _ _ rfl).trans h1
    · split
      · exact h1
      · exact (State.setBit_blur _ _ _ _ _ rfl).trans h1
@[simp] theorem State.latchSet_blur (s : State) (v : Word) (mk_ : Nat) (hmk : 32784 &&& mk_ = 32784) : (State.latchSet s v).blur mk_ = s.blur mk_ := by
  refine State.blur_mono (m := 32784) ?_ hmk
  unfold State.latchSet
  first | (simp; done) | ((repeat' split) <;> first | with_reducible rfl | (simp; done) | (simp_all; done))
@[simp] theorem execLatchSetWrite_blur (v : Word) (s : State) (mk_ : Nat) (hmk : 32784 &&& mk_ = 32784) : outBlur mk_ (execLatchSetWrite v s) = some (s.blur mk_) := by
  refine outBlur_mono (m := 32784) ?_ hmk
  unfold execLatchSetWrite
  first | (simp; done) | ((repeat' split) <;> first | with_reducible rfl | (simp; done) | (simp_all; done))
@[simp] theorem execChannelStrobe_blur (so : Fin 8) (s : State) (mk_ : Nat) (hmk : 573456 &&& mk_ = 573456) : outBlur mk_ (execChannelStrobe so s) = some (s.blur mk_) := by
  refine outBlur_mono (m := 573456) ?_ hmk
  unfold execChannelStrobe
  try dsimp only
  repeat' split
  all_goals first | with_reducible rfl | (simp; done) | (simp [*]; done) | (simp_all; done)
@[simp] theorem State.chFence_blur (s : State) (mk_ : Nat) (hmk : 32768 &&& mk_ = 32768) : (State.chFence s).blur mk_ = s.blur mk_ := by
  refine State.blur_mono (m := 32768) ?_ hmk
  unfold State.chFence
  first | (simp; done) | ((repeat' split) <;> first | with_reducible rfl | (simp; done) | (simp_all; done))

end Sys2Proof.Machine
end

