-- ==== Sys2Proof/Laws/FrameBoundary.lean ====
section
/-! SUPPORT. The fields that the operations of Boundary can change (see Laws/Frame.lean). -/

set_option Elab.async false
set_option linter.unusedTactic false
set_option linter.unreachableTactic false

namespace Sys2Proof.Machine

open Sys2Proof

@[simp] theorem State.copyLead_blur (s : State) (d : Nat) (c : Nat) (u : Nat) (mk_ : Nat) (hmk : 48 &&& mk_ = 48) : (State.copyLead s d c u).blur mk_ = s.blur mk_ := by
  refine State.blur_mono (m := 48) ?_ hmk
  unfold State.copyLead
  first | (simp; done) | ((repeat' split) <;> first | with_reducible rfl | (simp; done) | (simp_all; done))
@[simp] theorem State.joinStream_blur (s : State) (us : List (Nat × Nat)) (k : Nat) (u : Nat) (mk_ : Nat) (hmk : 48 &&& mk_ = 48) : (State.joinStream s us k u).blur mk_ = s.blur mk_ := by
  refine State.blur_mono (m := 48) ?_ hmk
  unfold State.joinStream
  extract_lets i
  split
  · rfl
  · split
    · exact State.copyLead_blur _ _ _ _ _ rfl
    · rfl
@[simp] theorem State.setVltState_blur (s : State) (n : Nat) (mk_ : Nat) (hmk : 16 &&& mk_ = 16) : (State.setVltState s n).blur mk_ = s.blur mk_ := by
  refine State.blur_mono (m := 16) ?_ hmk
  unfold State.setVltState
  first | (simp; done) | ((repeat' split) <;> first | with_reducible rfl | (simp; done) | (simp_all; done))
@[simp] theorem State.holdAt_blur (s : State) (i : Nat) (serial : Nat) (mk_ : Nat) (hmk : 51216 &&& mk_ = 51216) : (State.holdAt s i serial).blur mk_ = s.blur mk_ := by
  refine State.blur_mono (m := 51216) ?_ hmk
  unfold State.holdAt
  first | (simp; done) | ((repeat' split) <;> first | with_reducible rfl | (simp; done) | (simp_all; done))
@[simp] theorem State.commitStream_blur (s : State) (i : Nat) (mk_ : Nat) (hmk : 16 &&& mk_ = 16) : (State.commitStream s i).blur mk_ = s.blur mk_ := by
  refine State.blur_mono (m := 16) ?_ hmk
  unfold State.commitStream
  first | (simp; done) | ((repeat' split) <;> first | with_reducible rfl | (simp; done) | (simp_all; done))
@[simp] theorem State.lutSwap_blur (s : State) (i : Nat) (mk_ : Nat) (hmk : 49168 &&& mk_ = 49168) : (State.lutSwap s i).blur mk_ = s.blur mk_ := by
  refine State.blur_mono (m := 49168) ?_ hmk
  unfold State.lutSwap
  first | (simp; done) | ((repeat' split) <;> first | with_reducible rfl | (simp; done) | (simp_all; done))
@[simp] theorem State.capNow_blur (s : State) (i : Nat) (mk_ : Nat) (hmk : 524304 &&& mk_ = 524304) : (State.capNow s i).blur mk_ = s.blur mk_ := by
  refine State.blur_mono (m := 524304) ?_ hmk
  unfold State.capNow
  first | (simp; done) | ((repeat' split) <;> first | with_reducible rfl | (simp; done) | (simp_all; done))
@[simp] theorem State.boundaryAt_blur (s : State) (i : Nat) (serial : Nat) (mk_ : Nat) (hmk : 1624080 &&& mk_ = 1624080) : (State.boundaryAt s i serial).blur mk_ = s.blur mk_ := by
  refine State.blur_mono (m := 1624080) ?_ hmk
  unfold State.boundaryAt
  first | (simp; done) | ((repeat' split) <;> first | with_reducible rfl | (simp; done) | (simp_all; done))
@[simp] theorem State.runBoundaries_blur (s : State) (mk_ : Nat) (hmk : 1886224 &&& mk_ = 1886224) : (State.runBoundaries s).blur mk_ = s.blur mk_ := by
  refine State.blur_mono (m := 1886224) ?_ hmk
  unfold State.runBoundaries
  first | (simp; done) | ((repeat' split) <;> first | with_reducible rfl | (simp; done) | (simp_all; done))
@[simp] theorem State.follow_blur (s : State) (mk_ : Nat) (hmk : 24954960 &&& mk_ = 24954960) : (State.follow s).blur mk_ = s.blur mk_ := by
  refine State.blur_mono (m := 24954960) ?_ hmk
  unfold State.follow
  first | (simp; done) | ((repeat' split) <;> first | with_reducible rfl | (simp; done) | (simp_all; done))
@[simp] theorem State.boundaryPoint_blur (s : State) (i : Nat) (mk_ : Nat) (hmk : 24954960 &&& mk_ = 24954960) : (State.boundaryPoint s i).blur mk_ = s.blur mk_ := by
  refine State.blur_mono (m := 24954960) ?_ hmk
  unfold State.boundaryPoint
  first | (simp; done) | ((repeat' split) <;> first | with_reducible rfl | (simp; done) | (simp_all; done))
@[simp] theorem execBoundaryPoint_blur (stream : Fin 64) (s : State) (mk_ : Nat) (hmk : 24954960 &&& mk_ = 24954960) : outBlur mk_ (execBoundaryPoint stream s) = some (s.blur mk_) := by
  refine outBlur_mono (m := 24954960) ?_ hmk
  unfold execBoundaryPoint
  first | (simp; done) | ((repeat' split) <;> first | with_reducible rfl | (simp; done) | (simp_all; done))
@[simp] theorem execTapStart_blur (stream : Fin 64) (s : State) (mk_ : Nat) (hmk : 58509392 &&& mk_ = 58509392) : outBlur mk_ (execTapStart stream s) = some (s.blur mk_) := by
  refine outBlur_mono (m := 58509392) ?_ hmk
  unfold execTapStart
  first | (simp; done) | ((repeat' split) <;> first | with_reducible rfl | (simp; done) | (simp_all; done))
@[simp] theorem State.setSwitching_blur (s : State) (b : Bool) (mk_ : Nat) (hmk : 16 &&& mk_ = 16) : (State.setSwitching s b).blur mk_ = s.blur mk_ := by
  refine State.blur_mono (m := 16) ?_ hmk
  unfold State.setSwitching
  first | (simp; done) | ((repeat' split) <;> first | with_reducible rfl | (simp; done) | (simp_all; done))
@[simp] theorem State.setClk_blur (s : State) (c : Clk) (mk_ : Nat) (hmk : 8192 &&& mk_ = 8192) : (State.setClk s c).blur mk_ = s.blur mk_ := by
  refine State.blur_mono (m := 8192) ?_ hmk
  unfold State.setClk
  first | (simp; done) | ((repeat' split) <;> first | with_reducible rfl | (simp; done) | (simp_all; done))
@[simp] theorem State.stepEval_blur (s : State) (mk_ : Nat) (hmk : 581648 &&& mk_ = 581648) : (State.stepEval s).blur mk_ = s.blur mk_ := by
  refine State.blur_mono (m := 581648) ?_ hmk
  unfold State.stepEval
  first | (simp; done) | ((repeat' split) <;> first | with_reducible rfl | (simp; done) | (simp_all; done))
@[simp] theorem State.clockSwitch_blur (s : State) (mk_ : Nat) (hmk : 8208 &&& mk_ = 8208) : (State.clockSwitch s).blur mk_ = s.blur mk_ := by
  refine State.blur_mono (m := 8208) ?_ hmk
  unfold State.clockSwitch
  first | (simp; done) | ((repeat' split) <;> first | with_reducible rfl | (simp; done) | (simp_all; done))
@[simp] theorem State.stepDone_blur (s : State) (mk_ : Nat) (hmk : 581648 &&& mk_ = 581648) : (State.stepDone s).blur mk_ = s.blur mk_ := by
  refine State.blur_mono (m := 581648) ?_ hmk
  unfold State.stepDone
  first | (simp; done) | ((repeat' split) <;> first | with_reducible rfl | (simp; done) | (simp_all; done))
@[simp] theorem execClockSwitch_blur (s : State) (mk_ : Nat) (hmk : 8208 &&& mk_ = 8208) : outBlur mk_ (execClockSwitch s) = some (s.blur mk_) := by
  refine outBlur_mono (m := 8208) ?_ hmk
  unfold execClockSwitch
  first | (simp; done) | ((repeat' split) <;> first | with_reducible rfl | (simp; done) | (simp_all; done))
@[simp] theorem execStepChanged_blur (s : State) (mk_ : Nat) (hmk : 581648 &&& mk_ = 581648) : outBlur mk_ (execStepChanged s) = some (s.blur mk_) := by
  refine outBlur_mono (m := 581648) ?_ hmk
  unfold execStepChanged
  first | (simp; done) | ((repeat' split) <;> first | with_reducible rfl | (simp; done) | (simp_all; done))
@[simp] theorem State.pxStop_blur (s : State) (mk_ : Nat) (hmk : 57360 &&& mk_ = 57360) : (State.pxStop s).blur mk_ = s.blur mk_ := by
  refine State.blur_mono (m := 57360) ?_ hmk
  unfold State.pxStop
  first | (simp; done) | ((repeat' split) <;> first | with_reducible rfl | (simp; done) | (simp_all; done))

end Sys2Proof.Machine
end

