-- ==== Sys2Proof/Laws/FrameReceive.lean ====
section
/-! SUPPORT. The fields that the operations of Receive can change (see Laws/Frame.lean). -/

set_option Elab.async false
set_option linter.unusedTactic false
set_option linter.unreachableTactic false

namespace Sys2Proof.Machine

open Sys2Proof

@[simp] theorem execControlChannelSync_blur (port : Fin 4) (s : State) (mk_ : Nat) (hmk : 25086032 &&& mk_ = 25086032) : outBlur mk_ (execControlChannelSync port s) = some (s.blur mk_) := by
  refine outBlur_mono (m := 25086032) ?_ hmk
  unfold execControlChannelSync
  first | (simp; done) | ((repeat' split) <;> first | with_reducible rfl | (simp; done) | (simp_all; done))
@[simp] theorem execControlSyncLoss_blur (port : Fin 4) (s : State) (mk_ : Nat) (hmk : 25086032 &&& mk_ = 25086032) : outBlur mk_ (execControlSyncLoss port s) = some (s.blur mk_) := by
  refine outBlur_mono (m := 25086032) ?_ hmk
  unfold execControlSyncLoss
  first | (simp; done) | ((repeat' split) <;> first | with_reducible rfl | (simp; done) | (simp_all; done))
@[simp] theorem execCtlSyncTimeout_blur (port : Fin 4) (s : State) (mk_ : Nat) (hmk : 58640464 &&& mk_ = 58640464) : outBlur mk_ (execCtlSyncTimeout port s) = some (s.blur mk_) := by
  refine outBlur_mono (m := 58640464) ?_ hmk
  unfold execCtlSyncTimeout
  first | (simp; done) | ((repeat' split) <;> first | with_reducible rfl | (simp; done) | (simp_all; done))
@[simp] theorem execCdrLock_blur (port : Fin 4) (s : State) (mk_ : Nat) (hmk : 16 &&& mk_ = 16) : outBlur mk_ (execCdrLock port s) = some (s.blur mk_) := by
  refine outBlur_mono (m := 16) ?_ hmk
  unfold execCdrLock
  first | (simp; done) | ((repeat' split) <;> first | with_reducible rfl | (simp; done) | (simp_all; done))
@[simp] theorem execCtleSweepDone_blur (port : Fin 4) (heights : List (List Nat)) (s : State) (mk_ : Nat) (hmk : 131088 &&& mk_ = 131088) : outBlur mk_ (execCtleSweepDone port heights s) = some (s.blur mk_) := by
  refine outBlur_mono (m := 131088) ?_ hmk
  unfold execCtleSweepDone
  first | (simp; done) | ((repeat' split) <;> first | with_reducible rfl | (simp; done) | (simp_all; done))
@[simp] theorem execDfeConverged_blur (port : Fin 4) (taps : List (List Int)) (s : State) (mk_ : Nat) (hmk : 655376 &&& mk_ = 655376) : outBlur mk_ (execDfeConverged port taps s) = some (s.blur mk_) := by
  refine outBlur_mono (m := 655376) ?_ hmk
  unfold execDfeConverged
  first | (simp; done) | ((repeat' split) <;> first | with_reducible rfl | (simp; done) | (simp_all; done))
@[simp] theorem execAmLock_blur (port : Fin 4) (s : State) (mk_ : Nat) (hmk : 24954960 &&& mk_ = 24954960) : outBlur mk_ (execAmLock port s) = some (s.blur mk_) := by
  refine outBlur_mono (m := 24954960) ?_ hmk
  unfold execAmLock
  first | (simp; done) | ((repeat' split) <;> first | with_reducible rfl | (simp; done) | (simp_all; done))
@[simp] theorem execPortUp_blur (port : Fin 4) (skewNs : Nat) (s : State) (mk_ : Nat) (hmk : 25086032 &&& mk_ = 25086032) : outBlur mk_ (execPortUp port skewNs s) = some (s.blur mk_) := by
  refine outBlur_mono (m := 25086032) ?_ hmk
  unfold execPortUp
  first | (simp; done) | ((repeat' split) <;> first | with_reducible rfl | (simp; done) | (simp_all; done))
@[simp] theorem execTrainingTimeout_blur (port : Fin 4) (failedLanes : BitVec 8) (s : State) (mk_ : Nat) (hmk : 25086032 &&& mk_ = 25086032) : outBlur mk_ (execTrainingTimeout port failedLanes s) = some (s.blur mk_) := by
  refine outBlur_mono (m := 25086032) ?_ hmk
  unfold execTrainingTimeout
  first | (simp; done) | ((repeat' split) <;> first | with_reducible rfl | (simp; done) | (simp_all; done))
@[simp] theorem execLaneFault_blur (port : Fin 4) (lane : Fin 8) (s : State) (mk_ : Nat) (hmk : 58640464 &&& mk_ = 58640464) : outBlur mk_ (execLaneFault port lane s) = some (s.blur mk_) := by
  refine outBlur_mono (m := 58640464) ?_ hmk
  unfold execLaneFault
  first | (simp; done) | ((repeat' split) <;> first | with_reducible rfl | (simp; done) | (simp_all; done))
@[simp] theorem execRetrain_blur (port : Fin 4) (s : State) (mk_ : Nat) (hmk : 58640464 &&& mk_ = 58640464) : outBlur mk_ (execRetrain port s) = some (s.blur mk_) := by
  refine outBlur_mono (m := 58640464) ?_ hmk
  unfold execRetrain
  first | (simp; done) | ((repeat' split) <;> first | with_reducible rfl | (simp; done) | (simp_all; done))
@[simp] theorem execCodewordDecode_blur (lane : Fin 32) (symbols : List Nat) (s : State) (mk_ : Nat) (hmk : 58640464 &&& mk_ = 58640464) : outBlur mk_ (execCodewordDecode lane symbols s) = some (s.blur mk_) := by
  refine outBlur_mono (m := 58640464) ?_ hmk
  unfold execCodewordDecode
  first | (simp; done) | ((repeat' split) <;> first | with_reducible rfl | (simp; done) | (simp_all; done))
@[simp] theorem execPacketReceive_blur (port : Fin 4) (s : State) (mk_ : Nat) (hmk : 25086032 &&& mk_ = 25086032) : outBlur mk_ (execPacketReceive port s) = some (s.blur mk_) := by
  refine outBlur_mono (m := 25086032) ?_ hmk
  unfold execPacketReceive
  first | (simp; done) | ((repeat' split) <;> first | with_reducible rfl | (simp; done) | (simp_all; done))
@[simp] theorem execDfeUpdate_blur (lane : Fin 32) (signE : Int) (signD : List Int) (s : State) (mk_ : Nat) (hmk : 16 &&& mk_ = 16) : outBlur mk_ (execDfeUpdate lane signE signD s) = some (s.blur mk_) := by
  refine outBlur_mono (m := 16) ?_ hmk
  unfold execDfeUpdate
  first | (simp; done) | ((repeat' split) <;> first | with_reducible rfl | (simp; done) | (simp_all; done))
@[simp] theorem execEyeScanStart_blur (lane : Fin 32) (v : Word) (s : State) (mk_ : Nat) (hmk : 49168 &&& mk_ = 49168) : outBlur mk_ (execEyeScanStart lane v s) = some (s.blur mk_) := by
  refine outBlur_mono (m := 49168) ?_ hmk
  unfold execEyeScanStart
  first | (simp; done) | ((repeat' split) <;> first | with_reducible rfl | (simp; done) | (simp_all; done))
@[simp] theorem execEyeScanAbort_blur (lane : Fin 32) (s : State) (mk_ : Nat) (hmk : 16 &&& mk_ = 16) : outBlur mk_ (execEyeScanAbort lane s) = some (s.blur mk_) := by
  refine outBlur_mono (m := 16) ?_ hmk
  unfold execEyeScanAbort
  first | (simp; done) | ((repeat' split) <;> first | with_reducible rfl | (simp; done) | (simp_all; done))
@[simp] theorem execEyeScanPoint_blur (lane : Fin 32) (errors : Nat) (s : State) (mk_ : Nat) (hmk : 16 &&& mk_ = 16) : outBlur mk_ (execEyeScanPoint lane errors s) = some (s.blur mk_) := by
  refine outBlur_mono (m := 16) ?_ hmk
  unfold execEyeScanPoint
  first | (simp; done) | ((repeat' split) <;> first | with_reducible rfl | (simp; done) | (simp_all; done))
@[simp] theorem execHeadWrite_blur (port : Fin 4) (s : State) (mk_ : Nat) (hmk : 25086032 &&& mk_ = 25086032) : outBlur mk_ (execHeadWrite port s) = some (s.blur mk_) := by
  refine outBlur_mono (m := 25086032) ?_ hmk
  unfold execHeadWrite
  first | (simp; done) | ((repeat' split) <;> first | with_reducible rfl | (simp; done) | (simp_all; done))
@[simp] theorem execHeadRead_blur (port : Fin 4) (s : State) (mk_ : Nat) (hmk : 25086032 &&& mk_ = 25086032) : outBlur mk_ (execHeadRead port s) = some (s.blur mk_) := by
  refine outBlur_mono (m := 25086032) ?_ hmk
  unfold execHeadRead
  first | (simp; done) | ((repeat' split) <;> first | with_reducible rfl | (simp; done) | (simp_all; done))
@[simp] theorem execWrAck_blur (port : Fin 4) (bytes : List Byte) (k297 : Bool) (s : State) (mk_ : Nat) (hmk : 25086032 &&& mk_ = 25086032) : outBlur mk_ (execWrAck port bytes k297 s) = some (s.blur mk_) := by
  refine outBlur_mono (m := 25086032) ?_ hmk
  unfold execWrAck
  first | (simp; done) | ((repeat' split) <;> first | with_reducible rfl | (simp; done) | (simp_all; done))
@[simp] theorem execRdData_blur (port : Fin 4) (bytes : List Byte) (k297 : Bool) (s : State) (mk_ : Nat) (hmk : 25086032 &&& mk_ = 25086032) : outBlur mk_ (execRdData port bytes k297 s) = some (s.blur mk_) := by
  refine outBlur_mono (m := 25086032) ?_ hmk
  unfold execRdData
  first | (simp; done) | ((repeat' split) <;> first | with_reducible rfl | (simp; done) | (simp_all; done))
@[simp] theorem execTrainAck_blur (port : Fin 4) (bytes : List Byte) (k297 : Bool) (s : State) (mk_ : Nat) (hmk : 25086032 &&& mk_ = 25086032) : outBlur mk_ (execTrainAck port bytes k297 s) = some (s.blur mk_) := by
  refine outBlur_mono (m := 25086032) ?_ hmk
  unfold execTrainAck
  first | (simp; done) | ((repeat' split) <;> first | with_reducible rfl | (simp; done) | (simp_all; done))
@[simp] theorem execEpochAck_blur (port : Fin 4) (bytes : List Byte) (k297 : Bool) (s : State) (mk_ : Nat) (hmk : 25086032 &&& mk_ = 25086032) : outBlur mk_ (execEpochAck port bytes k297 s) = some (s.blur mk_) := by
  refine outBlur_mono (m := 25086032) ?_ hmk
  unfold execEpochAck
  first | (simp; done) | ((repeat' split) <;> first | with_reducible rfl | (simp; done) | (simp_all; done))
@[simp] theorem execHevent_blur (port : Fin 4) (bytes : List Byte) (k297 : Bool) (s : State) (mk_ : Nat) (hmk : 24954960 &&& mk_ = 24954960) : outBlur mk_ (execHevent port bytes k297 s) = some (s.blur mk_) := by
  refine outBlur_mono (m := 24954960) ?_ hmk
  unfold execHevent
  first | (simp; done) | ((repeat' split) <;> first | with_reducible rfl | (simp; done) | (simp_all; done))
@[simp] theorem execNak_blur (port : Fin 4) (bytes : List Byte) (k297 : Bool) (s : State) (mk_ : Nat) (hmk : 25086032 &&& mk_ = 25086032) : outBlur mk_ (execNak port bytes k297 s) = some (s.blur mk_) := by
  refine outBlur_mono (m := 25086032) ?_ hmk
  unfold execNak
  first | (simp; done) | ((repeat' split) <;> first | with_reducible rfl | (simp; done) | (simp_all; done))
@[simp] theorem execControlResponseTimeout_blur (port : Fin 4) (s : State) (mk_ : Nat) (hmk : 25086032 &&& mk_ = 25086032) : outBlur mk_ (execControlResponseTimeout port s) = some (s.blur mk_) := by
  refine outBlur_mono (m := 25086032) ?_ hmk
  unfold execControlResponseTimeout
  first | (simp; done) | ((repeat' split) <;> first | with_reducible rfl | (simp; done) | (simp_all; done))
@[simp] theorem execFsReceive_blur (port : Fin 4) (s : State) (mk_ : Nat) (hmk : 58640464 &&& mk_ = 58640464) : outBlur mk_ (execFsReceive port s) = some (s.blur mk_) := by
  refine outBlur_mono (m := 58640464) ?_ hmk
  unfold execFsReceive
  first | (simp; done) | ((repeat' split) <;> first | with_reducible rfl | (simp; done) | (simp_all; done))
@[simp] theorem execExpReceive_blur (port : Fin 4) (s : State) (mk_ : Nat) (hmk : 25086032 &&& mk_ = 25086032) : outBlur mk_ (execExpReceive port s) = some (s.blur mk_) := by
  refine outBlur_mono (m := 25086032) ?_ hmk
  unfold execExpReceive
  first | (simp; done) | ((repeat' split) <;> first | with_reducible rfl | (simp; done) | (simp_all; done))
@[simp] theorem execLineReceive_blur (port : Fin 4) (s : State) (mk_ : Nat) (hmk : 58640464 &&& mk_ = 58640464) : outBlur mk_ (execLineReceive port s) = some (s.blur mk_) := by
  refine outBlur_mono (m := 58640464) ?_ hmk
  unfold execLineReceive
  first | (simp; done) | ((repeat' split) <;> first | with_reducible rfl | (simp; done) | (simp_all; done))
@[simp] theorem execMetadataReceive_blur (port : Fin 4) (s : State) (mk_ : Nat) (hmk : 25086032 &&& mk_ = 25086032) : outBlur mk_ (execMetadataReceive port s) = some (s.blur mk_) := by
  refine outBlur_mono (m := 25086032) ?_ hmk
  unfold execMetadataReceive
  first | (simp; done) | ((repeat' split) <;> first | with_reducible rfl | (simp; done) | (simp_all; done))
@[simp] theorem execSensorStatusReceive_blur (port : Fin 4) (s : State) (mk_ : Nat) (hmk : 25086032 &&& mk_ = 25086032) : outBlur mk_ (execSensorStatusReceive port s) = some (s.blur mk_) := by
  refine outBlur_mono (m := 25086032) ?_ hmk
  unfold execSensorStatusReceive
  first | (simp; done) | ((repeat' split) <;> first | with_reducible rfl | (simp; done) | (simp_all; done))
@[simp] theorem execFeReceive_blur (port : Fin 4) (s : State) (mk_ : Nat) (hmk : 58640464 &&& mk_ = 58640464) : outBlur mk_ (execFeReceive port s) = some (s.blur mk_) := by
  refine outBlur_mono (m := 58640464) ?_ hmk
  unfold execFeReceive
  first | (simp; done) | ((repeat' split) <;> first | with_reducible rfl | (simp; done) | (simp_all; done))
@[simp] theorem execNofsTimeout_blur (head : Fin 4) (s : State) (mk_ : Nat) (hmk : 24954960 &&& mk_ = 24954960) : outBlur mk_ (execNofsTimeout head s) = some (s.blur mk_) := by
  refine outBlur_mono (m := 24954960) ?_ hmk
  unfold execNofsTimeout
  first | (simp; done) | ((repeat' split) <;> first | with_reducible rfl | (simp; done) | (simp_all; done))
@[simp] theorem execFrameTimeout_blur (stream : Fin 64) (s : State) (mk_ : Nat) (hmk : 58509392 &&& mk_ = 58509392) : outBlur mk_ (execFrameTimeout stream s) = some (s.blur mk_) := by
  refine outBlur_mono (m := 58509392) ?_ hmk
  unfold execFrameTimeout
  first | (simp; done) | ((repeat' split) <;> first | with_reducible rfl | (simp; done) | (simp_all; done))

end Sys2Proof.Machine
end

