-- ==== Sys2Proof/Laws/FrameFence.lean ====
section
/-! SUPPORT. The fields that the operations of Fence can change (see Laws/Frame.lean). -/

set_option Elab.async false
set_option linter.unusedTactic false
set_option linter.unreachableTactic false

namespace Sys2Proof.Machine

open Sys2Proof

@[simp] theorem State.fenceSc_blur (s : State) (n : Nat) (mk_ : Nat) (hmk : 17563664 &&& mk_ = 17563664) : (State.fenceSc s n).blur mk_ = s.blur mk_ := by
  refine State.blur_mono (m := 17563664) ?_ hmk
  unfold State.fenceSc
  extract_lets m s1 s2
  have h2 : s2.blur 17563664 = s.blur 17563664 := (State.memReady_blur _ _ rfl).trans (State.blur_set_mem _ _ _ rfl)
  refine (State.forEach_blur _ _ _ _ (fun t i => ?_)).trans h2
  split
  · split
    · exact (State.beginClose_blur _ _ _ _ rfl).trans (State.setSchStr_blur _ _ _ _ rfl)
    · rfl
  · rfl
@[simp] theorem State.fenceTap_blur (s : State) (i : Nat) (mk_ : Nat) (hmk : 50645008 &&& mk_ = 50645008) : (State.fenceTap s i).blur mk_ = s.blur mk_ := by
  refine State.blur_mono (m := 50645008) ?_ hmk
  unfold State.fenceTap
  first | (simp; done) | ((repeat' split) <;> first | with_reducible rfl | (simp; done) | (simp_all; done))
@[simp] theorem State.fenceTally_blur (s : State) (i : Nat) (mk_ : Nat) (hmk : 1310720 &&& mk_ = 1310720) : (State.fenceTally s i).blur mk_ = s.blur mk_ := by
  refine State.blur_mono (m := 1310720) ?_ hmk
  unfold State.fenceTally
  first | (simp; done) | ((repeat' split) <;> first | with_reducible rfl | (simp; done) | (simp_all; done))
@[simp] theorem State.cutFrames_blur (s : State) (i : Nat) (c : Nat) (u : Nat) (mk_ : Nat) (hmk : 262144 &&& mk_ = 262144) : (State.cutFrames s i c u).blur mk_ = s.blur mk_ := by
  refine State.blur_mono (m := 262144) ?_ hmk
  unfold State.cutFrames
  first | (simp; done) | ((repeat' split) <;> first | with_reducible rfl | (simp; done) | (simp_all; done))
@[simp] theorem State.fencePix_blur (s : State) (c : Nat) (u : Nat) (mk_ : Nat) (hmk : 51693584 &&& mk_ = 51693584) : (State.fencePix s c u).blur mk_ = s.blur mk_ := by
  refine State.blur_mono (m := 51693584) ?_ hmk
  unfold State.fencePix
  first | (simp; done) | ((repeat' split) <;> first | with_reducible rfl | (simp; done) | (simp_all; done))
@[simp] theorem State.corFence_blur (s : State) (mk_ : Nat) (hmk : 2097232 &&& mk_ = 2097232) : (State.corFence s).blur mk_ = s.blur mk_ := by
  refine State.blur_mono (m := 2097232) ?_ hmk
  unfold State.corFence
  first | (simp; done) | ((repeat' split) <;> first | with_reducible rfl | (simp; done) | (simp_all; done))
@[simp] theorem State.fenceSo_blur (s : State) (mk_ : Nat) (hmk : 524304 &&& mk_ = 524304) : (State.fenceSo s).blur mk_ = s.blur mk_ := by
  refine State.blur_mono (m := 524304) ?_ hmk
  unfold State.fenceSo
  first | (simp; done) | ((repeat' split) <;> first | with_reducible rfl | (simp; done) | (simp_all; done))
@[simp] theorem State.fenceEffect_blur (s : State) (c : Nat) (u : Nat) (mk_ : Nat) (hmk : 201254992 &&& mk_ = 201254992) : (State.fenceEffect s c u).blur mk_ = s.blur mk_ := by
  refine State.blur_mono (m := 201254992) ?_ hmk
  unfold State.fenceEffect
  first | (simp; done) | ((repeat' split) <;> first | with_reducible rfl | (simp; done) | (simp_all; done))
@[simp] theorem State.fenceUnits_blur (s : State) (c : Nat) (us : List Nat) (mk_ : Nat) (hmk : 201254992 &&& mk_ = 201254992) : (State.fenceUnits s c us).blur mk_ = s.blur mk_ := by
  refine State.blur_mono (m := 201254992) ?_ hmk
  unfold State.fenceUnits
  first | (simp; done) | ((repeat' split) <;> first | with_reducible rfl | (simp; done) | (simp_all; done))
@[simp] theorem State.fenceUnit_blur (s : State) (c : Nat) (u : Nat) (mk_ : Nat) (hmk : 201254992 &&& mk_ = 201254992) : (State.fenceUnit s c u).blur mk_ = s.blur mk_ := by
  refine State.blur_mono (m := 201254992) ?_ hmk
  unfold State.fenceUnit
  first | (simp; done) | ((repeat' split) <;> first | with_reducible rfl | (simp; done) | (simp_all; done))
@[simp] theorem State.fenceCluster_blur (s : State) (c : Nat) (mk_ : Nat) (hmk : 201254992 &&& mk_ = 201254992) : (State.fenceCluster s c).blur mk_ = s.blur mk_ := by
  refine State.blur_mono (m := 201254992) ?_ hmk
  unfold State.fenceCluster
  first | (simp; done) | ((repeat' split) <;> first | with_reducible rfl | (simp; done) | (simp_all; done))

end Sys2Proof.Machine
end

