-- ==== Sys2Proof/Laws/FrameHeadPower.lean ====
section
/-! SUPPORT. The fields that the operations of HeadPower can change (see Laws/Frame.lean). -/

set_option Elab.async false
set_option linter.unusedTactic false
set_option linter.unreachableTactic false

namespace Sys2Proof.Machine

open Sys2Proof

@[simp] theorem State.setHpwr_blur (s : State) (n : Nat) (st : Nat) (mk_ : Nat) (hmk : 51304464 &&& mk_ = 51304464) : (State.setHpwr s n st).blur mk_ = s.blur mk_ := by
  refine State.blur_mono (m := 51304464) ?_ hmk
  unfold State.setHpwr
  first | (simp; done) | ((repeat' split) <;> first | with_reducible rfl | (simp; done) | (simp_all; done))
@[simp] theorem State.syncV12_blur (s : State) (n : Nat) (mk_ : Nat) (hmk : 51304464 &&& mk_ = 51304464) : (State.syncV12 s n).blur mk_ = s.blur mk_ := by
  refine State.blur_mono (m := 51304464) ?_ hmk
  unfold State.syncV12
  first | (simp; done) | ((repeat' split) <;> first | with_reducible rfl | (simp; done) | (simp_all; done))
@[simp] theorem State.syncV12All_blur (s : State) (mk_ : Nat) (hmk : 51304464 &&& mk_ = 51304464) : (State.syncV12All s).blur mk_ = s.blur mk_ := by
  refine State.blur_mono (m := 51304464) ?_ hmk
  unfold State.syncV12All
  first | (simp; done) | ((repeat' split) <;> first | with_reducible rfl | (simp; done) | (simp_all; done))
@[simp] theorem execHeadOutputStart_blur (head : Fin 4) (s : State) (mk_ : Nat) (hmk : 51304464 &&& mk_ = 51304464) : outBlur mk_ (execHeadOutputStart head s) = some (s.blur mk_) := by
  refine outBlur_mono (m := 51304464) ?_ hmk
  unfold execHeadOutputStart
  first | (simp; done) | ((repeat' split) <;> first | with_reducible rfl | (simp; done) | (simp_all; done))
@[simp] theorem execHeadOutputOn_blur (head : Fin 4) (s : State) (mk_ : Nat) (hmk : 51304464 &&& mk_ = 51304464) : outBlur mk_ (execHeadOutputOn head s) = some (s.blur mk_) := by
  refine outBlur_mono (m := 51304464) ?_ hmk
  unfold execHeadOutputOn
  first | (simp; done) | ((repeat' split) <;> first | with_reducible rfl | (simp; done) | (simp_all; done))
@[simp] theorem execHeadPresenceChange_blur (head : Fin 4) (present : Bool) (s : State) (mk_ : Nat) (hmk : 58644560 &&& mk_ = 58644560) : outBlur mk_ (execHeadPresenceChange head present s) = some (s.blur mk_) := by
  refine outBlur_mono (m := 58644560) ?_ hmk
  unfold execHeadPresenceChange
  first | (simp; done) | ((repeat' split) <;> first | with_reducible rfl | (simp; done) | (simp_all; done))
@[simp] theorem State.trip_blur (s : State) (n : Nat) (st : Nat) (mk_ : Nat) (hmk : 58644560 &&& mk_ = 58644560) : (State.trip s n st).blur mk_ = s.blur mk_ := by
  refine State.blur_mono (m := 58644560) ?_ hmk
  unfold State.trip
  first | (simp; done) | ((repeat' split) <;> first | with_reducible rfl | (simp; done) | (simp_all; done))
@[simp] theorem execTripOc_blur (head : Fin 4 × Nat) (s : State) (mk_ : Nat) (hmk : 58644560 &&& mk_ = 58644560) : outBlur mk_ (execTripOc head s) = some (s.blur mk_) := by
  refine outBlur_mono (m := 58644560) ?_ hmk
  unfold execTripOc
  first | (simp; done) | ((repeat' split) <;> first | with_reducible rfl | (simp; done) | (simp_all; done))
@[simp] theorem execTripUv_blur (head : Fin 4) (s : State) (mk_ : Nat) (hmk : 58644560 &&& mk_ = 58644560) : outBlur mk_ (execTripUv head s) = some (s.blur mk_) := by
  refine outBlur_mono (m := 58644560) ?_ hmk
  unfold execTripUv
  first | (simp; done) | ((repeat' split) <;> first | with_reducible rfl | (simp; done) | (simp_all; done))
@[simp] theorem State.tripTotal_blur (s : State) (mk_ : Nat) (hmk : 58644560 &&& mk_ = 58644560) : (State.tripTotal s).blur mk_ = s.blur mk_ := by
  refine State.blur_mono (m := 58644560) ?_ hmk
  unfold State.tripTotal
  first | (simp; done) | ((repeat' split) <;> first | with_reducible rfl | (simp; done) | (simp_all; done))
@[simp] theorem execTripTotal_blur (s : State) (mk_ : Nat) (hmk : 58644560 &&& mk_ = 58644560) : outBlur mk_ (execTripTotal s) = some (s.blur mk_) := by
  refine outBlur_mono (m := 58644560) ?_ hmk
  unfold execTripTotal
  first | (simp; done) | ((repeat' split) <;> first | with_reducible rfl | (simp; done) | (simp_all; done))
@[simp] theorem State.measureOne_blur (s : State) (n : Nat) (m : Nat × Nat) (mk_ : Nat) (hmk : 4112 &&& mk_ = 4112) : (State.measureOne s n m).blur mk_ = s.blur mk_ := by
  refine State.blur_mono (m := 4112) ?_ hmk
  unfold State.measureOne
  first | (simp; done) | ((repeat' split) <;> first | with_reducible rfl | (simp; done) | (simp_all; done))
@[simp] theorem State.measure_blur (s : State) (meas : List (Nat × Nat)) (line : Option Bool) (mk_ : Nat) (hmk : 4112 &&& mk_ = 4112) : (State.measure s meas line).blur mk_ = s.blur mk_ := by
  refine State.blur_mono (m := 4112) ?_ hmk
  unfold State.measure
  first | (simp; done) | ((repeat' split) <;> first | with_reducible rfl | (simp; done) | (simp_all; done))
@[simp] theorem execHeadOutputMeasure_blur (meas : List (Nat × Nat) × Option Bool) (s : State) (mk_ : Nat) (hmk : 4112 &&& mk_ = 4112) : outBlur mk_ (execHeadOutputMeasure meas s) = some (s.blur mk_) := by
  refine outBlur_mono (m := 4112) ?_ hmk
  unfold execHeadOutputMeasure
  first | (simp; done) | ((repeat' split) <;> first | with_reducible rfl | (simp; done) | (simp_all; done))
@[simp] theorem State.hpwrCtl_blur (s : State) (v : Word) (mk_ : Nat) (hmk : 58644560 &&& mk_ = 58644560) : (State.hpwrCtl s v).blur mk_ = s.blur mk_ := by
  refine State.blur_mono (m := 58644560) ?_ hmk
  unfold State.hpwrCtl
  first | (simp; done) | ((repeat' split) <;> first | with_reducible rfl | (simp; done) | (simp_all; done))
@[simp] theorem execSvcHpwrCtlWrite_blur (v : Word) (s : State) (mk_ : Nat) (hmk : 58644560 &&& mk_ = 58644560) : outBlur mk_ (execSvcHpwrCtlWrite v s) = some (s.blur mk_) := by
  refine outBlur_mono (m := 58644560) ?_ hmk
  unfold execSvcHpwrCtlWrite
  first | (simp; done) | ((repeat' split) <;> first | with_reducible rfl | (simp; done) | (simp_all; done))
@[simp] theorem State.headsOff_blur (s : State) (mk_ : Nat) (hmk : 51304464 &&& mk_ = 51304464) : (State.headsOff s).blur mk_ = s.blur mk_ := by
  refine State.blur_mono (m := 51304464) ?_ hmk
  unfold State.headsOff
  first | (simp; done) | ((repeat' split) <;> first | with_reducible rfl | (simp; done) | (simp_all; done))
@[simp] theorem State.panelsOff_blur (s : State) (mk_ : Nat) (hmk : 160481296 &&& mk_ = 160481296) : (State.panelsOff s).blur mk_ = s.blur mk_ := by
  refine State.blur_mono (m := 160481296) ?_ hmk
  unfold State.panelsOff
  first | (simp; done) | ((repeat' split) <;> first | with_reducible rfl | (simp; done) | (simp_all; done))
@[simp] theorem State.syncSupAll_blur (s : State) (mk_ : Nat) (hmk : 524304 &&& mk_ = 524304) : (State.syncSupAll s).blur mk_ = s.blur mk_ := by
  refine State.blur_mono (m := 524304) ?_ hmk
  unfold State.syncSupAll
  first | (simp; done) | ((repeat' split) <;> first | with_reducible rfl | (simp; done) | (simp_all; done))
@[simp] theorem State.outputsOff_blur (s : State) (mk_ : Nat) (hmk : 262068240 &&& mk_ = 262068240) : (State.outputsOff s).blur mk_ = s.blur mk_ := by
  refine State.blur_mono (m := 262068240) ?_ hmk
  unfold State.outputsOff
  first | (simp; done) | ((repeat' split) <;> first | with_reducible rfl | (simp; done) | (simp_all; done))

end Sys2Proof.Machine
end

