-- ==== Sys2Proof/Laws/FrameAuditor.lean ====
section
/-! SUPPORT. The fields that the operations of Auditor can change (see Laws/Frame.lean). -/

set_option Elab.async false
set_option linter.unusedTactic false
set_option linter.unreachableTactic false

namespace Sys2Proof.Machine

open Sys2Proof

@[simp] theorem State.setAud_blur (s : State) (a : Aud) (mk_ : Nat) (hmk : 16384 &&& mk_ = 16384) : (State.setAud s a).blur mk_ = s.blur mk_ := by
  refine State.blur_mono (m := 16384) ?_ hmk
  unfold State.setAud
  first | (simp; done) | ((repeat' split) <;> first | with_reducible rfl | (simp; done) | (simp_all; done))
@[simp] theorem State.fatalStatus_blur (s : State) (mk_ : Nat) (hmk : 33603600 &&& mk_ = 33603600) : (State.fatalStatus s).blur mk_ = s.blur mk_ := by
  refine State.blur_mono (m := 33603600) ?_ hmk
  unfold State.fatalStatus
  first | (simp; done) | ((repeat' split) <;> first | with_reducible rfl | (simp; done) | (simp_all; done))
@[simp] theorem State.aliveOff_blur (s : State) (mk_ : Nat) (hmk : 16400 &&& mk_ = 16400) : (State.aliveOff s).blur mk_ = s.blur mk_ := by
  refine State.blur_mono (m := 16400) ?_ hmk
  unfold State.aliveOff
  first | (simp; done) | ((repeat' split) <;> first | with_reducible rfl | (simp; done) | (simp_all; done))
@[simp] theorem State.cutPulses_blur (s : State) (mk_ : Nat) (hmk : 524304 &&& mk_ = 524304) : (State.cutPulses s).blur mk_ = s.blur mk_ := by
  refine State.blur_mono (m := 524304) ?_ hmk
  unfold State.cutPulses
  first | (simp; done) | ((repeat' split) <;> first | with_reducible rfl | (simp; done) | (simp_all; done))
@[simp] theorem State.enterSafe_blur (s : State) (x : Nat) (u : Nat) (mk_ : Nat) (hmk : 544784 &&& mk_ = 544784) : (State.enterSafe s x u).blur mk_ = s.blur mk_ := by
  refine State.blur_mono (m := 544784) ?_ hmk
  unfold State.enterSafe
  first | (simp; done) | ((repeat' split) <;> first | with_reducible rfl | (simp; done) | (simp_all; done))
@[simp] theorem State.safeClose_blur (s : State) (mk_ : Nat) (hmk : 268359760 &&& mk_ = 268359760) : (State.safeClose s).blur mk_ = s.blur mk_ := by
  refine State.blur_mono (m := 268359760) ?_ hmk
  unfold State.safeClose
  first | (simp; done) | ((repeat' split) <;> first | with_reducible rfl | (simp; done) | (simp_all; done))
@[simp] theorem execSafeStateClose_blur (s : State) (mk_ : Nat) (hmk : 268359760 &&& mk_ = 268359760) : outBlur mk_ (execSafeStateClose s) = some (s.blur mk_) := by
  refine outBlur_mono (m := 268359760) ?_ hmk
  unfold execSafeStateClose
  first | (simp; done) | ((repeat' split) <;> first | with_reducible rfl | (simp; done) | (simp_all; done))
@[simp] theorem execSafeStateClockStop_blur (s : State) (mk_ : Nat) (hmk : 50915344 &&& mk_ = 50915344) : outBlur mk_ (execSafeStateClockStop s) = some (s.blur mk_) := by
  refine outBlur_mono (m := 50915344) ?_ hmk
  unfold execSafeStateClockStop
  first | (simp; done) | ((repeat' split) <;> first | with_reducible rfl | (simp; done) | (simp_all; done))
@[simp] theorem State.noService_blur (s : State) (m : Nat) (mk_ : Nat) (hmk : 268359760 &&& mk_ = 268359760) : (State.noService s m).blur mk_ = s.blur mk_ := by
  refine State.blur_mono (m := 268359760) ?_ hmk
  unfold State.noService
  first | (simp; done) | ((repeat' split) <;> first | with_reducible rfl | (simp; done) | (simp_all; done))
@[simp] theorem execLockstepDisagreement_blur (s : State) (mk_ : Nat) (hmk : 268359760 &&& mk_ = 268359760) : outBlur mk_ (execLockstepDisagreement s) = some (s.blur mk_) := by
  refine outBlur_mono (m := 268359760) ?_ hmk
  unfold execLockstepDisagreement
  first | (simp; done) | ((repeat' split) <;> first | with_reducible rfl | (simp; done) | (simp_all; done))
@[simp] theorem execAliveHalfPeriod_blur (heartbeat : Bool) (s : State) (mk_ : Nat) (hmk : 16400 &&& mk_ = 16400) : outBlur mk_ (execAliveHalfPeriod heartbeat s) = some (s.blur mk_) := by
  refine outBlur_mono (m := 16400) ?_ hmk
  unfold execAliveHalfPeriod
  first | (simp; done) | ((repeat' split) <;> first | with_reducible rfl | (simp; done) | (simp_all; done))
@[simp] theorem State.putWords_blur (s : State) (a : Nat) (b : List Byte) (mk_ : Nat) (hmk : 16 &&& mk_ = 16) : (State.putWords s a b).blur mk_ = s.blur mk_ := by
  refine State.blur_mono (m := 16) ?_ hmk
  unfold State.putWords
  first | (simp; done) | ((repeat' split) <;> first | with_reducible rfl | (simp; done) | (simp_all; done))
@[simp] theorem State.logFault_blur (s : State) (x : Nat) (cls : Nat) (react : Nat) (m : Nat) (detail : Word) (inj : Bool) (blocked : Bool) (mk_ : Nat) (hmk : 49168 &&& mk_ = 49168) : (State.logFault s x cls react m detail inj blocked).blur mk_ = s.blur mk_ := by
  refine State.blur_mono (m := 49168) ?_ hmk
  unfold State.logFault
  first | (simp; done) | ((repeat' split) <;> first | with_reducible rfl | (simp; done) | (simp_all; done))
@[simp] theorem State.irq_blur (s : State) (x : Nat) (severe : Bool) (mk_ : Nat) (hmk : 33570832 &&& mk_ = 33570832) : (State.irq s x severe).blur mk_ = s.blur mk_ := by
  refine State.blur_mono (m := 33570832) ?_ hmk
  unfold State.irq
  first | (simp; done) | ((repeat' split) <;> first | with_reducible rfl | (simp; done) | (simp_all; done))
@[simp] theorem State.reactTo_blur (s : State) (e : EvRec) (m : Nat) (cls : Nat) (react : Nat) (mk_ : Nat) (hmk : 201259088 &&& mk_ = 201259088) : (State.reactTo s e m cls react).blur mk_ = s.blur mk_ := by
  refine State.blur_mono (m := 201259088) ?_ hmk
  unfold State.reactTo
  first | (simp; done) | ((repeat' split) <;> first | with_reducible rfl | (simp; done) | (simp_all; done))
@[simp] theorem State.audit_blur (s : State) (e : EvRec) (m : Nat) (mk_ : Nat) (hmk : 201259088 &&& mk_ = 201259088) : (State.audit s e m).blur mk_ = s.blur mk_ := by
  refine State.blur_mono (m := 201259088) ?_ hmk
  unfold State.audit
  first | (simp; done) | ((repeat' split) <;> first | with_reducible rfl | (simp; done) | (simp_all; done))
@[simp] theorem State.auditCycle_blur (s : State) (mk_ : Nat) (hmk : 201259088 &&& mk_ = 201259088) : (State.auditCycle s).blur mk_ = s.blur mk_ := by
  refine State.blur_mono (m := 201259088) ?_ hmk
  unfold State.auditCycle
  extract_lets q xs
  refine (State.forEach_blur _ _ _ _ (fun t x => ?_)).trans (State.setAud_blur _ _ _ rfl)
  extract_lets es
  split
  · exact State.audit_blur _ _ _ _ rfl
  · rfl
@[simp] theorem execAuditorEvent_blur (s : State) (mk_ : Nat) (hmk : 201259088 &&& mk_ = 201259088) : outBlur mk_ (execAuditorEvent s) = some (s.blur mk_) := by
  refine outBlur_mono (m := 201259088) ?_ hmk
  unfold execAuditorEvent
  first | (simp; done) | ((repeat' split) <;> first | with_reducible rfl | (simp; done) | (simp_all; done))
@[simp] theorem execWindowExpiry_blur (x : Fin 288) (s : State) (mk_ : Nat) (hmk : 16384 &&& mk_ = 16384) : outBlur mk_ (execWindowExpiry x s) = some (s.blur mk_) := by
  refine outBlur_mono (m := 16384) ?_ hmk
  unfold execWindowExpiry
  first | (simp; done) | ((repeat' split) <;> first | with_reducible rfl | (simp; done) | (simp_all; done))
@[simp] theorem State.hostFence_blur (s : State) (v : Word) (mk_ : Nat) (hmk : 201254992 &&& mk_ = 201254992) : (State.hostFence s v).blur mk_ = s.blur mk_ := by
  refine State.blur_mono (m := 201254992) ?_ hmk
  unfold State.hostFence
  first | (simp; done) | ((repeat' split) <;> first | with_reducible rfl | (simp; done) | (simp_all; done))
@[simp] theorem execHostFence_blur (v : Word) (s : State) (mk_ : Nat) (hmk : 201254992 &&& mk_ = 201254992) : outBlur mk_ (execHostFence v s) = some (s.blur mk_) := by
  refine outBlur_mono (m := 201254992) ?_ hmk
  unfold execHostFence
  first | (simp; done) | ((repeat' split) <;> first | with_reducible rfl | (simp; done) | (simp_all; done))
@[simp] theorem State.srcWrite_blur (s : State) (x : Nat) (win : Bool) (v : Word) (mk_ : Nat) (hmk : 49168 &&& mk_ = 49168) : (State.srcWrite s x win v).blur mk_ = s.blur mk_ := by
  refine State.blur_mono (m := 49168) ?_ hmk
  unfold State.srcWrite
  first | (simp; done) | ((repeat' split) <;> first | with_reducible rfl | (simp; done) | (simp_all; done))
@[simp] theorem execSourceConfigWrite_blur (x : Fin 288) (win : Bool) (v : Word) (s : State) (mk_ : Nat) (hmk : 49168 &&& mk_ = 49168) : outBlur mk_ (execSourceConfigWrite x win v s) = some (s.blur mk_) := by
  refine outBlur_mono (m := 49168) ?_ hmk
  unfold execSourceConfigWrite
  first | (simp; done) | ((repeat' split) <;> first | with_reducible rfl | (simp; done) | (simp_all; done))
@[simp] theorem State.injWrite_blur (s : State) (sel : Bool) (v : Word) (mk_ : Nat) (hmk : 49168 &&& mk_ = 49168) : (State.injWrite s sel v).blur mk_ = s.blur mk_ := by
  refine State.blur_mono (m := 49168) ?_ hmk
  unfold State.injWrite
  first | (simp; done) | ((repeat' split) <;> first | with_reducible rfl | (simp; done) | (simp_all; done))
@[simp] theorem execInjectionWrite_blur (sel : Bool) (v : Word) (s : State) (mk_ : Nat) (hmk : 49168 &&& mk_ = 49168) : outBlur mk_ (execInjectionWrite sel v s) = some (s.blur mk_) := by
  refine outBlur_mono (m := 49168) ?_ hmk
  unfold execInjectionWrite
  first | (simp; done) | ((repeat' split) <;> first | with_reducible rfl | (simp; done) | (simp_all; done))

end Sys2Proof.Machine
end

