-- ==== Sys2Proof/Laws/FrameImage.lean ====
section
/-! SUPPORT. The fields that the operations of Image can change (see Laws/Frame.lean). -/

set_option Elab.async false
set_option linter.unusedTactic false
set_option linter.unreachableTactic false

namespace Sys2Proof.Machine

open Sys2Proof

@[simp] theorem State.selectSlot_blur (s : State) (slot : Nat) (mk_ : Nat) (hmk : 128 &&& mk_ = 128) : (State.selectSlot s slot).blur mk_ = s.blur mk_ := by
  refine State.blur_mono (m := 128) ?_ hmk
  unfold State.selectSlot
  first | (simp; done) | ((repeat' split) <;> first | with_reducible rfl | (simp; done) | (simp_all; done))
@[simp] theorem State.eraseSlot_blur (s : State) (n : Nat) (mk_ : Nat) (hmk : 128 &&& mk_ = 128) : (State.eraseSlot s n).blur mk_ = s.blur mk_ := by
  refine State.blur_mono (m := 128) ?_ hmk
  unfold State.eraseSlot
  first | (simp; done) | ((repeat' split) <;> first | with_reducible rfl | (simp; done) | (simp_all; done))
@[simp] theorem State.putSlot_blur (s : State) (n : Nat) (img : List Byte) (mk_ : Nat) (hmk : 128 &&& mk_ = 128) : (State.putSlot s n img).blur mk_ = s.blur mk_ := by
  refine State.blur_mono (m := 128) ?_ hmk
  unfold State.putSlot
  first | (simp; done) | ((repeat' split) <;> first | with_reducible rfl | (simp; done) | (simp_all; done))
@[simp] theorem State.verifySlot_blur (s : State) (mk_ : Nat) (hmk : 128 &&& mk_ = 128) : (State.verifySlot s).1.blur mk_ = s.blur mk_ := by
  refine State.blur_mono (m := 128) ?_ hmk
  unfold State.verifySlot
  try dsimp only
  repeat' split
  all_goals first | with_reducible rfl | (simp; done) | (simp [*]; done) | (simp_all; done)
@[simp] theorem State.setFr_blur (s : State) (n : Nat) (b : List Byte) (mk_ : Nat) (hmk : 33554432 &&& mk_ = 33554432) : (State.setFr s n b).blur mk_ = s.blur mk_ := by
  refine State.blur_mono (m := 33554432) ?_ hmk
  unfold State.setFr
  first | (simp; done) | ((repeat' split) <;> first | with_reducible rfl | (simp; done) | (simp_all; done))

end Sys2Proof.Machine
end

