-- ==== Sys2Proof/Laws/FrameRules.lean ====
section
/-! SUPPORT. The fields that the operations of Rules can change (see Laws/Frame.lean). -/

set_option Elab.async false
set_option linter.unusedTactic false
set_option linter.unreachableTactic false

namespace Sys2Proof.Machine

open Sys2Proof

@[simp] theorem State.putItem_blur (s : State) (a : Nat) (v : Word) (mk_ : Nat) (hmk : 48 &&& mk_ = 48) : (State.putItem s a v).blur mk_ = s.blur mk_ := by
  refine State.blur_mono (m := 48) ?_ hmk
  unfold State.putItem
  first | (simp; done) | ((repeat' split) <;> first | with_reducible rfl | (simp; done) | (simp_all; done))
@[simp] theorem State.under_blur (s : State) (p : Plane) (mk_ : Nat) (hmk : 624 &&& mk_ = 624) : (State.under s p).blur mk_ = s.blur mk_ := by
  refine State.blur_mono (m := 624) ?_ hmk
  unfold State.under
  extract_lets fences t
  refine (foldl_blur _ _ (fun u x => State.putItem_blur _ _ _ _ rfl) _ _).trans ?_
  exact (State.blur_set_plane _ _ _ rfl).trans ((State.blur_set_live _ _ _ rfl).trans ((State.blur_set_shadow _ _ _ rfl).trans (State.blur_set_regs s fences _ rfl)))

end Sys2Proof.Machine
end

