-- ==== Sys2Proof/Laws/FrameNvm.lean ====
section
/-! SUPPORT. The fields that the operations of Nvm can change (see Laws/Frame.lean). -/

set_option Elab.async false
set_option linter.unusedTactic false
set_option linter.unreachableTactic false

namespace Sys2Proof.Machine

open Sys2Proof

@[simp] theorem State.finish_blur (s : State) (q : Nat) (cid : BitVec 16) (status : Nat) (dw0 : Nat) (mk_ : Nat) (hmk : 33603600 &&& mk_ = 33603600) : (State.finish s q cid status dw0).blur mk_ = s.blur mk_ := by
  refine State.blur_mono (m := 33603600) ?_ hmk
  unfold State.finish
  first | (simp; done) | ((repeat' split) <;> first | with_reducible rfl | (simp; done) | (simp_all; done))
@[simp] theorem State.refuseIo_blur (s : State) (mk_ : Nat) (hmk : 33603600 &&& mk_ = 33603600) : (State.refuseIo s).blur mk_ = s.blur mk_ := by
  refine State.blur_mono (m := 33603600) ?_ hmk
  unfold State.refuseIo
  first | (simp; done) | ((repeat' split) <;> first | with_reducible rfl | (simp; done) | (simp_all; done))
@[simp] theorem State.takeCmd_blur (s : State) (q : Nat) (sqe : List Byte) (data : List Byte) (mk_ : Nat) (hmk : 33603600 &&& mk_ = 33603600) : (State.takeCmd s q sqe data).blur mk_ = s.blur mk_ := by
  refine State.blur_mono (m := 33603600) ?_ hmk
  unfold State.takeCmd
  first | (simp; done) | ((repeat' split) <;> first | with_reducible rfl | (simp; done) | (simp_all; done))
@[simp] theorem State.commandFetch_blur (s : State) (q : Nat) (cmds : List (List Byte × List Byte)) (mk_ : Nat) (hmk : 33603600 &&& mk_ = 33603600) : (State.commandFetch s q cmds).blur mk_ = s.blur mk_ := by
  refine State.blur_mono (m := 33603600) ?_ hmk
  unfold State.commandFetch
  first | (simp; done) | ((repeat' split) <;> first | with_reducible rfl | (simp; done) | (simp_all; done))
@[simp] theorem execCommandFetch_blur (q : Fin 65) (cmds : List (List Byte × List Byte)) (s : State) (mk_ : Nat) (hmk : 33603600 &&& mk_ = 33603600) : outBlur mk_ (execCommandFetch q cmds s) = some (s.blur mk_) := by
  refine outBlur_mono (m := 33603600) ?_ hmk
  unfold execCommandFetch
  first | (simp; done) | ((repeat' split) <;> first | with_reducible rfl | (simp; done) | (simp_all; done))
@[simp] theorem State.toPs_blur (s : State) (n : Nat) (mk_ : Nat) (hmk : 16 &&& mk_ = 16) : (State.toPs s n).blur mk_ = s.blur mk_ := by
  refine State.blur_mono (m := 16) ?_ hmk
  unfold State.toPs
  first | (simp; done) | ((repeat' split) <;> first | with_reducible rfl | (simp; done) | (simp_all; done))
@[simp] theorem State.wake_blur (s : State) (mk_ : Nat) (hmk : 16 &&& mk_ = 16) : (State.wake s).blur mk_ = s.blur mk_ := by
  refine State.blur_mono (m := 16) ?_ hmk
  unfold State.wake
  first | (simp; done) | ((repeat' split) <;> first | with_reducible rfl | (simp; done) | (simp_all; done))
@[simp] theorem State.doorbell_blur (s : State) (off : Nat) (v : Word) (mk_ : Nat) (hmk : 33554448 &&& mk_ = 33554448) : (State.doorbell s off v).blur mk_ = s.blur mk_ := by
  refine State.blur_mono (m := 33554448) ?_ hmk
  unfold State.doorbell
  try dsimp only
  repeat' split
  all_goals first | with_reducible rfl | (simp; done) | (simp [*]; done) | (simp_all; done)
@[simp] theorem execDoorbellWrite_blur (off : Nat) (v : Word) (s : State) (mk_ : Nat) (hmk : 33554448 &&& mk_ = 33554448) : outBlur mk_ (execDoorbellWrite off v s) = some (s.blur mk_) := by
  refine outBlur_mono (m := 33554448) ?_ hmk
  unfold execDoorbellWrite
  first | (simp; done) | ((repeat' split) <;> first | with_reducible rfl | (simp; done) | (simp_all; done))
@[simp] theorem State.writeTab_blur (s : State) (w : TabWin) (d : List Byte) (mk_ : Nat) (hmk : 4112400 &&& mk_ = 4112400) : (State.writeTab s w d).blur mk_ = s.blur mk_ := by
  refine State.blur_mono (m := 4112400) ?_ hmk
  unfold State.writeTab
  extract_lets wd inExt
  split
  · exact State.forEach_blur _ _ _ _ (fun t x => State.blur_set_ing _ _ _ rfl)
  · exact State.forEach_blur _ _ _ _ (fun t x => State.writeCmp_blur _ _ _ _ _ rfl)
  · exact State.setCor_blur _ _ _ rfl
  · exact State.forEach_blur _ _ _ _ (fun t x => State.setCor_blur _ _ _ rfl)
  · exact State.forEach_blur _ _ _ _ (fun t x => State.setTbl_blur _ _ _ _ _ _ rfl)
@[simp] theorem State.readBlock_blur (s : State) (c : NCmd) (b : Nat) (r : DataRes) (mk_ : Nat) (hmk : 16826448 &&& mk_ = 16826448) : (State.readBlock s c b r).1.blur mk_ = s.blur mk_ := by
  refine State.blur_mono (m := 16826448) ?_ hmk
  unfold State.readBlock
  try dsimp only
  repeat' split
  all_goals first | with_reducible rfl | (simp; done) | (simp [*]; done) | (simp_all; done)
@[simp] theorem State.readPhase_blur (s : State) (c : NCmd) (mk_ : Nat) (hmk : 16826448 &&& mk_ = 16826448) : (State.readPhase s c).1.blur mk_ = s.blur mk_ := by
  refine State.blur_mono (m := 16826448) ?_ hmk
  unfold State.readPhase
  try dsimp only
  repeat' split
  all_goals first | with_reducible rfl | (simp; done) | (simp [*]; done) | (simp_all; done)
@[simp] theorem State.writeBlock_blur (s : State) (c : NCmd) (k : Nat) (r : DataRes) (mk_ : Nat) (hmk : 20889616 &&& mk_ = 20889616) : (State.writeBlock s c k r).1.blur mk_ = s.blur mk_ := by
  refine State.blur_mono (m := 20889616) ?_ hmk
  unfold State.writeBlock
  first | (simp; done) | ((repeat' split) <;> first | with_reducible rfl | (simp; done) | (simp_all; done))
@[simp] theorem State.writePhase_blur (s : State) (c : NCmd) (mk_ : Nat) (hmk : 20889616 &&& mk_ = 20889616) : (State.writePhase s c).1.blur mk_ = s.blur mk_ := by
  refine State.blur_mono (m := 20889616) ?_ hmk
  unfold State.writePhase
  try dsimp only
  repeat' split
  all_goals first | with_reducible rfl | (simp; done) | (simp [*]; done) | (simp_all; done)
@[simp] theorem State.finishWrites_blur (s : State) (mk_ : Nat) (hmk : 33603600 &&& mk_ = 33603600) : (State.finishWrites s).blur mk_ = s.blur mk_ := by
  refine State.blur_mono (m := 33603600) ?_ hmk
  unfold State.finishWrites
  first | (simp; done) | ((repeat' split) <;> first | with_reducible rfl | (simp; done) | (simp_all; done))
@[simp] theorem State.endPhase_blur (s : State) (c : NCmd) (r : DataRes) (mk_ : Nat) (hmk : 33603600 &&& mk_ = 33603600) : (State.endPhase s c r).blur mk_ = s.blur mk_ := by
  refine State.blur_mono (m := 33603600) ?_ hmk
  unfold State.endPhase
  first | (simp; done) | ((repeat' split) <;> first | with_reducible rfl | (simp; done) | (simp_all; done))
@[simp] theorem State.runPhase_blur (s : State) (c : NCmd) (f : State → NCmd → State × DataRes) (mk_ : Nat) (hmk : 33603600 &&& mk_ = 33603600) (hf : ∀ t k, (f t k).1.blur mk_ = t.blur mk_) : (State.runPhase s c f).blur mk_ = s.blur mk_ := by
  unfold State.runPhase
  split
  · exact State.endPhase_blur _ _ _ _ (sub_mask hmk rfl)
  · exact (State.endPhase_blur _ _ _ _ (sub_mask hmk rfl)).trans (hf _ _)
@[simp] theorem State.transferStart_blur (s : State) (q : Nat) (cid : BitVec 16) (mk_ : Nat) (hmk : 33603600 &&& mk_ = 33603600) : (State.transferStart s q cid).blur mk_ = s.blur mk_ := by
  refine State.blur_mono (m := 33603600) ?_ hmk
  unfold State.transferStart
  first | (simp; done) | ((repeat' split) <;> first | with_reducible rfl | (simp; done) | (simp_all; done))
@[simp] theorem execDataTransferStart_blur (q : Fin 65) (cid : BitVec 16) (s : State) (mk_ : Nat) (hmk : 33603600 &&& mk_ = 33603600) : outBlur mk_ (execDataTransferStart q cid s) = some (s.blur mk_) := by
  refine outBlur_mono (m := 33603600) ?_ hmk
  unfold execDataTransferStart
  first | (simp; done) | ((repeat' split) <;> first | with_reducible rfl | (simp; done) | (simp_all; done))
@[simp] theorem State.nvmRead_blur (s : State) (q : Nat) (cid : BitVec 16) (mk_ : Nat) (hmk : 50380880 &&& mk_ = 50380880) : (State.nvmRead s q cid).blur mk_ = s.blur mk_ := by
  refine State.blur_mono (m := 50380880) ?_ hmk
  unfold State.nvmRead
  first | (simp; done) | ((repeat' split) <;> first | with_reducible rfl | (simp; done) | (simp_all; done))
@[simp] theorem State.nvmWrite_blur (s : State) (q : Nat) (cid : BitVec 16) (mk_ : Nat) (hmk : 54444048 &&& mk_ = 54444048) : (State.nvmWrite s q cid).blur mk_ = s.blur mk_ := by
  refine State.blur_mono (m := 54444048) ?_ hmk
  unfold State.nvmWrite
  first | (simp; done) | ((repeat' split) <;> first | with_reducible rfl | (simp; done) | (simp_all; done))
@[simp] theorem State.nvmFlush_blur (s : State) (q : Nat) (cid : BitVec 16) (mk_ : Nat) (hmk : 33603600 &&& mk_ = 33603600) : (State.nvmFlush s q cid).blur mk_ = s.blur mk_ := by
  refine State.blur_mono (m := 33603600) ?_ hmk
  unfold State.nvmFlush
  first | (simp; done) | ((repeat' split) <;> first | with_reducible rfl | (simp; done) | (simp_all; done))
@[simp] theorem execNvmRead_blur (q : Fin 65) (cid : BitVec 16) (s : State) (mk_ : Nat) (hmk : 50380880 &&& mk_ = 50380880) : outBlur mk_ (execNvmRead q cid s) = some (s.blur mk_) := by
  refine outBlur_mono (m := 50380880) ?_ hmk
  unfold execNvmRead
  first | (simp; done) | ((repeat' split) <;> first | with_reducible rfl | (simp; done) | (simp_all; done))
@[simp] theorem execNvmWrite_blur (q : Fin 65) (cid : BitVec 16) (s : State) (mk_ : Nat) (hmk : 54444048 &&& mk_ = 54444048) : outBlur mk_ (execNvmWrite q cid s) = some (s.blur mk_) := by
  refine outBlur_mono (m := 54444048) ?_ hmk
  unfold execNvmWrite
  first | (simp; done) | ((repeat' split) <;> first | with_reducible rfl | (simp; done) | (simp_all; done))
@[simp] theorem execNvmFlush_blur (q : Fin 65) (cid : BitVec 16) (s : State) (mk_ : Nat) (hmk : 33603600 &&& mk_ = 33603600) : outBlur mk_ (execNvmFlush q cid s) = some (s.blur mk_) := by
  refine outBlur_mono (m := 33603600) ?_ hmk
  unfold execNvmFlush
  first | (simp; done) | ((repeat' split) <;> first | with_reducible rfl | (simp; done) | (simp_all; done))
@[simp] theorem State.settleCmds_blur (s : State) (mk_ : Nat) (hmk : 54444112 &&& mk_ = 54444112) : (State.settleCmds s).blur mk_ = s.blur mk_ := by
  refine State.blur_mono (m := 54444112) ?_ hmk
  unfold State.settleCmds
  first | (simp; done) | ((repeat' split) <;> first | with_reducible rfl | (simp; done) | (simp_all; done))
@[simp] theorem execWriteRetire_blur (sc : Fin 16) (bank : Fin 32) (s : State) (mk_ : Nat) (hmk : 184862736 &&& mk_ = 184862736) : outBlur mk_ (execWriteRetire sc bank s) = some (s.blur mk_) := by
  refine outBlur_mono (m := 184862736) ?_ hmk
  unfold execWriteRetire
  first | (simp; done) | ((repeat' split) <;> first | with_reducible rfl | (simp; done) | (simp_all; done))

end Sys2Proof.Machine
end

