-- ==== Sys2Proof/Laws/FrameThermal.lean ====
section
/-! SUPPORT. The fields that the operations of Thermal can change (see Laws/Frame.lean). -/

set_option Elab.async false
set_option linter.unusedTactic false
set_option linter.unreachableTactic false

namespace Sys2Proof.Machine

open Sys2Proof

@[simp] theorem State.setTh_blur (s : State) (t : Therm) (mk_ : Nat) (hmk : 65536 &&& mk_ = 65536) : (State.setTh s t).blur mk_ = s.blur mk_ := by
  refine State.blur_mono (m := 65536) ?_ hmk
  unfold State.setTh
  first | (simp; done) | ((repeat' split) <;> first | with_reducible rfl | (simp; done) | (simp_all; done))
@[simp] theorem State.syncZones_blur (s : State) (mk_ : Nat) (hmk : 16 &&& mk_ = 16) : (State.syncZones s).blur mk_ = s.blur mk_ := by
  refine State.blur_mono (m := 16) ?_ hmk
  unfold State.syncZones
  first | (simp; done) | ((repeat' split) <;> first | with_reducible rfl | (simp; done) | (simp_all; done))
@[simp] theorem State.setZone_blur (s : State) (z : Nat) (st : Nat) (mk_ : Nat) (hmk : 16 &&& mk_ = 16) : (State.setZone s z st).blur mk_ = s.blur mk_ := by
  refine State.blur_mono (m := 16) ?_ hmk
  unfold State.setZone
  first | (simp; done) | ((repeat' split) <;> first | with_reducible rfl | (simp; done) | (simp_all; done))
@[simp] theorem State.syncTherm_blur (s : State) (mk_ : Nat) (hmk : 581648 &&& mk_ = 581648) : (State.syncTherm s).blur mk_ = s.blur mk_ := by
  refine State.blur_mono (m := 581648) ?_ hmk
  unfold State.syncTherm
  first | (simp; done) | ((repeat' split) <;> first | with_reducible rfl | (simp; done) | (simp_all; done))
@[simp] theorem State.demand_blur (s : State) (z : Nat) (n : Nat) (mk_ : Nat) (hmk : 647184 &&& mk_ = 647184) : (State.demand s z n).blur mk_ = s.blur mk_ := by
  refine State.blur_mono (m := 647184) ?_ hmk
  unfold State.demand
  first | (simp; done) | ((repeat' split) <;> first | with_reducible rfl | (simp; done) | (simp_all; done))
@[simp] theorem State.setSpent_blur (s : State) (z : Nat) (b : Bool) (mk_ : Nat) (hmk : 65536 &&& mk_ = 65536) : (State.setSpent s z b).blur mk_ = s.blur mk_ := by
  refine State.blur_mono (m := 65536) ?_ hmk
  unfold State.setSpent
  first | (simp; done) | ((repeat' split) <;> first | with_reducible rfl | (simp; done) | (simp_all; done))
@[simp] theorem State.enforce_blur (s : State) (z : Nat) (mk_ : Nat) (hmk : 647184 &&& mk_ = 647184) : (State.enforce s z).blur mk_ = s.blur mk_ := by
  refine State.blur_mono (m := 647184) ?_ hmk
  unfold State.enforce
  first | (simp; done) | ((repeat' split) <;> first | with_reducible rfl | (simp; done) | (simp_all; done))
theorem State.zoneStep_blur (s : State) (z : Nat) {t_ : State} (e_ : State.zoneStep s z = some t_) (mk_ : Nat) (hmk : 34201616 &&& mk_ = 34201616) : t_.blur mk_ = s.blur mk_ := by
  refine State.blur_mono (m := 34201616) ?_ hmk
  unfold State.zoneStep at e_
  generalize s.zoneValue z = v at e_
  dsimp only at e_
  split at e_
  · cases e_
  split at e_
  · injection e_ with e_
    subst e_
    exact (State.raise_blur _ _ _ _ rfl).trans (State.setZone_blur _ _ _ _ rfl)
  split at e_
  · split at e_
    · injection e_ with e_
      subst e_
      exact (State.raise_blur _ _ _ _ rfl).trans (State.setZone_blur _ _ _ _ rfl)
    · cases e_
  · split at e_
    · injection e_ with e_
      subst e_
      simp
    split at e_
    · injection e_ with e_
      subst e_
      exact State.setZone_blur _ _ _ _ rfl
    · cases e_
  · split at e_
    · injection e_ with e_
      subst e_
      exact State.setZone_blur _ _ _ _ rfl
    split at e_
    · injection e_ with e_
      subst e_
      exact State.enforce_blur _ _ _ rfl
    · cases e_
  · cases e_
@[simp] theorem State.zoneEval_blur (s : State) (z : Nat) (x0 : Nat) (mk_ : Nat) (hmk : 34201616 &&& mk_ = 34201616) : (State.zoneEval s z x0).blur mk_ = s.blur mk_ := by
  refine State.blur_mono (m := 34201616) ?_ hmk
  induction x0 generalizing s with
  | zero => rfl
  | succ k ih =>
    unfold State.zoneEval
    split
    · rfl
    · rename_i h
      exact (ih _).trans (State.zoneStep_blur _ _ h 34201616 rfl)
@[simp] theorem State.thermal_blur (s : State) (readings : List Int) (mk_ : Nat) (hmk : 34201616 &&& mk_ = 34201616) : (State.thermal s readings).blur mk_ = s.blur mk_ := by
  refine State.blur_mono (m := 34201616) ?_ hmk
  unfold State.thermal
  first | (simp; done) | ((repeat' split) <;> first | with_reducible rfl | (simp; done) | (simp_all; done))
@[simp] theorem execThermalMeasurement_blur (readings : List Int) (s : State) (mk_ : Nat) (hmk : 34201616 &&& mk_ = 34201616) : outBlur mk_ (execThermalMeasurement readings s) = some (s.blur mk_) := by
  refine outBlur_mono (m := 34201616) ?_ hmk
  unfold execThermalMeasurement
  first | (simp; done) | ((repeat' split) <;> first | with_reducible rfl | (simp; done) | (simp_all; done))
@[simp] theorem execGraceEnd_blur (zone : Fin 2) (s : State) (mk_ : Nat) (hmk : 647184 &&& mk_ = 647184) : outBlur mk_ (execGraceEnd zone s) = some (s.blur mk_) := by
  refine outBlur_mono (m := 647184) ?_ hmk
  unfold execGraceEnd
  first | (simp; done) | ((repeat' split) <;> first | with_reducible rfl | (simp; done) | (simp_all; done))
@[simp] theorem execThermalEscalation_blur (zone : Fin 2) (s : State) (mk_ : Nat) (hmk : 647184 &&& mk_ = 647184) : outBlur mk_ (execThermalEscalation zone s) = some (s.blur mk_) := by
  refine outBlur_mono (m := 647184) ?_ hmk
  unfold execThermalEscalation
  first | (simp; done) | ((repeat' split) <;> first | with_reducible rfl | (simp; done) | (simp_all; done))
@[simp] theorem execThermalRelease_blur (zone : Fin 2) (s : State) (mk_ : Nat) (hmk : 647184 &&& mk_ = 647184) : outBlur mk_ (execThermalRelease zone s) = some (s.blur mk_) := by
  refine outBlur_mono (m := 647184) ?_ hmk
  unfold execThermalRelease
  first | (simp; done) | ((repeat' split) <;> first | with_reducible rfl | (simp; done) | (simp_all; done))
@[simp] theorem execRiseHoldEnd_blur (zone : Fin 2) (s : State) (mk_ : Nat) (hmk : 65552 &&& mk_ = 65552) : outBlur mk_ (execRiseHoldEnd zone s) = some (s.blur mk_) := by
  refine outBlur_mono (m := 65552) ?_ hmk
  unfold execRiseHoldEnd
  first | (simp; done) | ((repeat' split) <;> first | with_reducible rfl | (simp; done) | (simp_all; done))
@[simp] theorem State.thermalRelease_blur (s : State) (mk_ : Nat) (hmk : 647184 &&& mk_ = 647184) : (State.thermalRelease s).blur mk_ = s.blur mk_ := by
  refine State.blur_mono (m := 647184) ?_ hmk
  unfold State.thermalRelease
  first | (simp; done) | ((repeat' split) <;> first | with_reducible rfl | (simp; done) | (simp_all; done))
@[simp] theorem State.telemetry_blur (s : State) (b : List Byte) (mk_ : Nat) (hmk : 1073741824 &&& mk_ = 1073741824) : (State.telemetry s b).blur mk_ = s.blur mk_ := by
  refine State.blur_mono (m := 1073741824) ?_ hmk
  unfold State.telemetry
  first | (simp; done) | ((repeat' split) <;> first | with_reducible rfl | (simp; done) | (simp_all; done))
@[simp] theorem execTelemetryIdentity_blur (s : State) (mk_ : Nat) (hmk : 1073741824 &&& mk_ = 1073741824) : outBlur mk_ (execTelemetryIdentity s) = some (s.blur mk_) := by
  refine outBlur_mono (m := 1073741824) ?_ hmk
  unfold execTelemetryIdentity
  first | (simp; done) | ((repeat' split) <;> first | with_reducible rfl | (simp; done) | (simp_all; done))
@[simp] theorem execTelemetryZones_blur (s : State) (mk_ : Nat) (hmk : 1073741824 &&& mk_ = 1073741824) : outBlur mk_ (execTelemetryZones s) = some (s.blur mk_) := by
  refine outBlur_mono (m := 1073741824) ?_ hmk
  unfold execTelemetryZones
  first | (simp; done) | ((repeat' split) <;> first | with_reducible rfl | (simp; done) | (simp_all; done))
@[simp] theorem execTelemetrySensors_blur (s : State) (mk_ : Nat) (hmk : 1073741824 &&& mk_ = 1073741824) : outBlur mk_ (execTelemetrySensors s) = some (s.blur mk_) := by
  refine outBlur_mono (m := 1073741824) ?_ hmk
  unfold execTelemetrySensors
  first | (simp; done) | ((repeat' split) <;> first | with_reducible rfl | (simp; done) | (simp_all; done))
@[simp] theorem execTelemetryThermalStatus_blur (s : State) (mk_ : Nat) (hmk : 1073741824 &&& mk_ = 1073741824) : outBlur mk_ (execTelemetryThermalStatus s) = some (s.blur mk_) := by
  refine outBlur_mono (m := 1073741824) ?_ hmk
  unfold execTelemetryThermalStatus
  first | (simp; done) | ((repeat' split) <;> first | with_reducible rfl | (simp; done) | (simp_all; done))
@[simp] theorem execTelemetryPowerStatus_blur (s : State) (mk_ : Nat) (hmk : 1073741824 &&& mk_ = 1073741824) : outBlur mk_ (execTelemetryPowerStatus s) = some (s.blur mk_) := by
  refine outBlur_mono (m := 1073741824) ?_ hmk
  unfold execTelemetryPowerStatus
  first | (simp; done) | ((repeat' split) <;> first | with_reducible rfl | (simp; done) | (simp_all; done))
@[simp] theorem execTelemetryInputPower_blur (s : State) (mk_ : Nat) (hmk : 1073741824 &&& mk_ = 1073741824) : outBlur mk_ (execTelemetryInputPower s) = some (s.blur mk_) := by
  refine outBlur_mono (m := 1073741824) ?_ hmk
  unfold execTelemetryInputPower
  first | (simp; done) | ((repeat' split) <;> first | with_reducible rfl | (simp; done) | (simp_all; done))
@[simp] theorem execTelemetryHeadPower_blur (s : State) (mk_ : Nat) (hmk : 1073741824 &&& mk_ = 1073741824) : outBlur mk_ (execTelemetryHeadPower s) = some (s.blur mk_) := by
  refine outBlur_mono (m := 1073741824) ?_ hmk
  unfold execTelemetryHeadPower
  first | (simp; done) | ((repeat' split) <;> first | with_reducible rfl | (simp; done) | (simp_all; done))
@[simp] theorem execTelemetryClock_blur (s : State) (mk_ : Nat) (hmk : 1073741824 &&& mk_ = 1073741824) : outBlur mk_ (execTelemetryClock s) = some (s.blur mk_) := by
  refine outBlur_mono (m := 1073741824) ?_ hmk
  unfold execTelemetryClock
  first | (simp; done) | ((repeat' split) <;> first | with_reducible rfl | (simp; done) | (simp_all; done))
@[simp] theorem execTelemetryFaultSummary_blur (s : State) (mk_ : Nat) (hmk : 1073741824 &&& mk_ = 1073741824) : outBlur mk_ (execTelemetryFaultSummary s) = some (s.blur mk_) := by
  refine outBlur_mono (m := 1073741824) ?_ hmk
  unfold execTelemetryFaultSummary
  first | (simp; done) | ((repeat' split) <;> first | with_reducible rfl | (simp; done) | (simp_all; done))
@[simp] theorem execTelemetryFirstFatal_blur (s : State) (mk_ : Nat) (hmk : 1073741824 &&& mk_ = 1073741824) : outBlur mk_ (execTelemetryFirstFatal s) = some (s.blur mk_) := by
  refine outBlur_mono (m := 1073741824) ?_ hmk
  unfold execTelemetryFirstFatal
  first | (simp; done) | ((repeat' split) <;> first | with_reducible rfl | (simp; done) | (simp_all; done))
@[simp] theorem execVpdRead_blur (off : Nat) (len : Nat) (s : State) (mk_ : Nat) (hmk : 1073741824 &&& mk_ = 1073741824) : outBlur mk_ (execVpdRead off len s) = some (s.blur mk_) := by
  refine outBlur_mono (m := 1073741824) ?_ hmk
  unfold execVpdRead
  first | (simp; done) | ((repeat' split) <;> first | with_reducible rfl | (simp; done) | (simp_all; done))

end Sys2Proof.Machine
end

