-- ==== Sys2Proof/Laws/FramePlane.lean ====
section
/-! SUPPORT. The fields that the operations of Plane can change (see Laws/Frame.lean). -/

set_option Elab.async false
set_option linter.unusedTactic false
set_option linter.unreachableTactic false

namespace Sys2Proof.Machine

open Sys2Proof

@[simp] theorem State.dropRegs_blur (s : State) (c : Nat) (u : Nat) (mk_ : Nat) (hmk : 112 &&& mk_ = 112) : (State.dropRegs s c u).blur mk_ = s.blur mk_ := by
  refine State.blur_mono (m := 112) ?_ hmk
  unfold State.dropRegs
  exact (State.blur_set_live _ _ _ rfl).trans ((State.blur_set_shadow _ _ _ rfl).trans (State.blur_set_regs s _ _ rfl))
@[simp] theorem State.swapRegs_blur (s : State) (c : Nat) (u : Nat) (mk_ : Nat) (hmk : 112 &&& mk_ = 112) : (State.swapRegs s c u).blur mk_ = s.blur mk_ := by
  refine State.blur_mono (m := 112) ?_ hmk
  unfold State.swapRegs
  extract_lets mine s1
  refine (foldl_blur _ _ (fun t x => State.wr_blur _ _ _ _ rfl) _ _).trans ?_
  exact (State.blur_set_live _ _ _ rfl).trans (State.blur_set_shadow s _ _ rfl)
@[simp] theorem State.loadUnit_blur (s : State) (p : Plane) (c : Nat) (u : Nat) (mk_ : Nat) (hmk : 48 &&& mk_ = 48) : (State.loadUnit s p c u).blur mk_ = s.blur mk_ := by
  refine State.blur_mono (m := 48) ?_ hmk
  unfold State.loadUnit
  exact foldl_blur _ _ (fun t x => foldl_blur _ _ (fun u y => State.putItem_blur _ _ _ _ rfl) _ _) _ _
@[simp] theorem State.formatReset_blur (s : State) (p : Plane) (c : Nat) (u : Nat) (mk_ : Nat) (hmk : 49168 &&& mk_ = 49168) : (State.formatReset s p c u).blur mk_ = s.blur mk_ := by
  refine State.blur_mono (m := 49168) ?_ hmk
  unfold State.formatReset
  first | (simp; done) | ((repeat' split) <;> first | with_reducible rfl | (simp; done) | (simp_all; done))
@[simp] theorem State.setSteps_blur (s : State) (c : Nat) (mk_ : Nat) (hmk : 16 &&& mk_ = 16) : (State.setSteps s c).blur mk_ = s.blur mk_ := by
  refine State.blur_mono (m := 16) ?_ hmk
  unfold State.setSteps
  first | (simp; done) | ((repeat' split) <;> first | with_reducible rfl | (simp; done) | (simp_all; done))
@[simp] theorem State.loadMask_blur (s : State) (g : Nat) (mk_ : Nat) (hmk : 16 &&& mk_ = 16) : (State.loadMask s g).blur mk_ = s.blur mk_ := by
  refine State.blur_mono (m := 16) ?_ hmk
  unfold State.loadMask
  first | (simp; done) | ((repeat' split) <;> first | with_reducible rfl | (simp; done) | (simp_all; done))
@[simp] theorem State.loadPart_blur (s : State) (p : Nat) (mk_ : Nat) (hmk : 16 &&& mk_ = 16) : (State.loadPart s p).blur mk_ = s.blur mk_ := by
  refine State.blur_mono (m := 16) ?_ hmk
  unfold State.loadPart
  first | (simp; done) | ((repeat' split) <;> first | with_reducible rfl | (simp; done) | (simp_all; done))
@[simp] theorem State.settleImage_blur (s : State) (us : List (Nat × Nat)) (mk_ : Nat) (hmk : 51693584 &&& mk_ = 51693584) : (State.settleImage s us).blur mk_ = s.blur mk_ := by
  refine State.blur_mono (m := 51693584) ?_ hmk
  unfold State.settleImage
  first | (simp; done) | ((repeat' split) <;> first | with_reducible rfl | (simp; done) | (simp_all; done))
@[simp] theorem State.lnkClear_blur (s : State) (n : Nat) (mk_ : Nat) (hmk : 51300368 &&& mk_ = 51300368) : (State.lnkClear s n).blur mk_ = s.blur mk_ := by
  refine State.blur_mono (m := 51300368) ?_ hmk
  unfold State.lnkClear
  first | (simp; done) | ((repeat' split) <;> first | with_reducible rfl | (simp; done) | (simp_all; done))
@[simp] theorem State.tblClear_blur (s : State) (t : Nat) (mk_ : Nat) (hmk : 524288 &&& mk_ = 524288) : (State.tblClear s t).blur mk_ = s.blur mk_ := by
  refine State.blur_mono (m := 524288) ?_ hmk
  unfold State.tblClear
  first | (simp; done) | ((repeat' split) <;> first | with_reducible rfl | (simp; done) | (simp_all; done))
@[simp] theorem State.pixClear_blur (s : State) (i : Nat) (u : Nat) (mk_ : Nat) (hmk : 1310720 &&& mk_ = 1310720) : (State.pixClear s i u).blur mk_ = s.blur mk_ := by
  refine State.blur_mono (m := 1310720) ?_ hmk
  unfold State.pixClear
  first | (simp; done) | ((repeat' split) <;> first | with_reducible rfl | (simp; done) | (simp_all; done))
@[simp] theorem State.pixUnit_blur (s : State) (c : Nat) (u : Nat) (gone : Nat → Bool) (mk_ : Nat) (hmk : 1310720 &&& mk_ = 1310720) : (State.pixUnit s c u gone).blur mk_ = s.blur mk_ := by
  refine State.blur_mono (m := 1310720) ?_ hmk
  unfold State.pixUnit
  first | (simp; done) | ((repeat' split) <;> first | with_reducible rfl | (simp; done) | (simp_all; done))
@[simp] theorem State.resetState_blur (s : State) (c : Nat) (u : Nat) (mk_ : Nat) (hmk : 268421208 &&& mk_ = 268421208) : (State.resetState s c u).blur mk_ = s.blur mk_ := by
  refine State.blur_mono (m := 268421208) ?_ hmk
  unfold State.resetState
  first | (simp; done) | ((repeat' split) <;> first | with_reducible rfl | (simp; done) | (simp_all; done))
@[simp] theorem State.discard_blur (s : State) (n : Nat) (mk_ : Nat) (hmk : 16 &&& mk_ = 16) : (State.discard s n).blur mk_ = s.blur mk_ := by
  refine State.blur_mono (m := 16) ?_ hmk
  unfold State.discard
  first | (simp; done) | ((repeat' split) <;> first | with_reducible rfl | (simp; done) | (simp_all; done))
@[simp] theorem State.keepMint_blur (s : State) (old : State) (mk_ : Nat) (hmk : 48 &&& mk_ = 48) : (State.keepMint s old).blur mk_ = s.blur mk_ := by
  refine State.blur_mono (m := 48) ?_ hmk
  unfold State.keepMint
  first | (simp; done) | ((repeat' split) <;> first | with_reducible rfl | (simp; done) | (simp_all; done))
@[simp] theorem State.swapChannels_blur (s : State) (old : State) (mk_ : Nat) (hmk : 32784 &&& mk_ = 32784) : (State.swapChannels s old).blur mk_ = s.blur mk_ := by
  refine State.blur_mono (m := 32784) ?_ hmk
  unfold State.swapChannels
  first | (simp; done) | ((repeat' split) <;> first | with_reducible rfl | (simp; done) | (simp_all; done))
@[simp] theorem State.swapCor_blur (s : State) (old : State) (mk_ : Nat) (hmk : 2146384 &&& mk_ = 2146384) : (State.swapCor s old).blur mk_ = s.blur mk_ := by
  refine State.blur_mono (m := 2146384) ?_ hmk
  unfold State.swapCor
  first | (simp; done) | ((repeat' split) <;> first | with_reducible rfl | (simp; done) | (simp_all; done))
@[simp] theorem State.swapEnc_blur (s : State) (old : State) (c : Nat) (mk_ : Nat) (hmk : 8388608 &&& mk_ = 8388608) : (State.swapEnc s old c).blur mk_ = s.blur mk_ := by
  refine State.blur_mono (m := 8388608) ?_ hmk
  unfold State.swapEnc
  first | (simp; done) | ((repeat' split) <;> first | with_reducible rfl | (simp; done) | (simp_all; done))
@[simp] theorem State.swapHead_blur (s : State) (old : State) (d : Nat) (mk_ : Nat) (hmk : 16 &&& mk_ = 16) : (State.swapHead s old d).blur mk_ = s.blur mk_ := by
  refine State.blur_mono (m := 16) ?_ hmk
  unfold State.swapHead
  first | (simp; done) | ((repeat' split) <;> first | with_reducible rfl | (simp; done) | (simp_all; done))
@[simp] theorem State.keepRing_blur (s : State) (old : State) (c : Nat) (mk_ : Nat) (hmk : 16 &&& mk_ = 16) : (State.keepRing s old c).blur mk_ = s.blur mk_ := by
  refine State.blur_mono (m := 16) ?_ hmk
  unfold State.keepRing
  first | (simp; done) | ((repeat' split) <;> first | with_reducible rfl | (simp; done) | (simp_all; done))
@[simp] theorem State.keepQueue_blur (s : State) (old : State) (mk_ : Nat) (hmk : 16 &&& mk_ = 16) : (State.keepQueue s old).blur mk_ = s.blur mk_ := by
  refine State.blur_mono (m := 16) ?_ hmk
  unfold State.keepQueue
  first | (simp; done) | ((repeat' split) <;> first | with_reducible rfl | (simp; done) | (simp_all; done))
@[simp] theorem State.swapStop_blur (s : State) (gone : List (Nat × Nat)) (c : Nat) (u : Nat) (mk_ : Nat) (hmk : 195020816 &&& mk_ = 195020816) : (State.swapStop s gone c u).blur mk_ = s.blur mk_ := by
  refine State.blur_mono (m := 195020816) ?_ hmk
  unfold State.swapStop
  first | (simp; done) | ((repeat' split) <;> first | with_reducible rfl | (simp; done) | (simp_all; done))
@[simp] theorem State.swapGo_blur (s : State) (old : State) (gone : List (Nat × Nat)) (c : Nat) (u : Nat) (mk_ : Nat) (hmk : 581680 &&& mk_ = 581680) : (State.swapGo s old gone c u).blur mk_ = s.blur mk_ := by
  refine State.blur_mono (m := 581680) ?_ hmk
  unfold State.swapGo
  first | (simp; done) | ((repeat' split) <;> first | with_reducible rfl | (simp; done) | (simp_all; done))
@[simp] theorem State.portsGo_blur (s : State) (mk_ : Nat) (hmk : 51300368 &&& mk_ = 51300368) : (State.portsGo s).blur mk_ = s.blur mk_ := by
  refine State.blur_mono (m := 51300368) ?_ hmk
  unfold State.portsGo
  first | (simp; done) | ((repeat' split) <;> first | with_reducible rfl | (simp; done) | (simp_all; done))
@[simp] theorem State.swapUnit_blur (s : State) (q : Plane) (c : Nat) (u : Nat) (mk_ : Nat) (hmk : 268421240 &&& mk_ = 268421240) : (State.swapUnit s q c u).blur mk_ = s.blur mk_ := by
  refine State.blur_mono (m := 268421240) ?_ hmk
  unfold State.swapUnit
  first | (simp; done) | ((repeat' split) <;> first | with_reducible rfl | (simp; done) | (simp_all; done))
@[simp] theorem State.swapPlanes_blur (s : State) (p : Plane) (q : Plane) (mk_ : Nat) (hmk : 268434040 &&& mk_ = 268434040) : (State.swapPlanes s p q).blur mk_ = s.blur mk_ := by
  refine State.blur_mono (m := 268434040) ?_ hmk
  unfold State.swapPlanes
  first | (simp; done) | ((repeat' split) <;> first | with_reducible rfl | (simp; done) | (simp_all; done))
@[simp] theorem State.unitReset_blur (s : State) (us : List (Nat × Nat)) (c : Nat) (u : Nat) (mk_ : Nat) (hmk : 268429432 &&& mk_ = 268429432) : (State.unitReset s us c u).blur mk_ = s.blur mk_ := by
  refine State.blur_mono (m := 268429432) ?_ hmk
  unfold State.unitReset
  try dsimp only
  repeat' split
  all_goals first | with_reducible rfl | (simp; done) | (simp [*]; done) | (simp_all; done)
@[simp] theorem State.clusterReset_blur (s : State) (c : Nat) (v : Word) (mk_ : Nat) (hmk : 53264 &&& mk_ = 53264) : (State.clusterReset s c v).blur mk_ = s.blur mk_ := by
  refine State.blur_mono (m := 53264) ?_ hmk
  unfold State.clusterReset
  first | (simp; done) | ((repeat' split) <;> first | with_reducible rfl | (simp; done) | (simp_all; done))
@[simp] theorem State.clusterResetDone_blur (s : State) (c : Nat) (mk_ : Nat) (hmk : 268433528 &&& mk_ = 268433528) : (State.clusterResetDone s c).blur mk_ = s.blur mk_ := by
  refine State.blur_mono (m := 268433528) ?_ hmk
  unfold State.clusterResetDone
  first | (simp; done) | ((repeat' split) <;> first | with_reducible rfl | (simp; done) | (simp_all; done))
@[simp] theorem execClusterReset_blur (cl : Fin 16) (v : Word) (s : State) (mk_ : Nat) (hmk : 53264 &&& mk_ = 53264) : outBlur mk_ (execClusterReset cl v s) = some (s.blur mk_) := by
  refine outBlur_mono (m := 53264) ?_ hmk
  unfold execClusterReset
  first | (simp; done) | ((repeat' split) <;> first | with_reducible rfl | (simp; done) | (simp_all; done))
@[simp] theorem execClusterResetComplete_blur (cl : Fin 16) (s : State) (mk_ : Nat) (hmk : 268433528 &&& mk_ = 268433528) : outBlur mk_ (execClusterResetComplete cl s) = some (s.blur mk_) := by
  refine outBlur_mono (m := 268433528) ?_ hmk
  unfold execClusterResetComplete
  first | (simp; done) | ((repeat' split) <;> first | with_reducible rfl | (simp; done) | (simp_all; done))

end Sys2Proof.Machine
end

