-- ==== Sys2Proof/Laws/FrameVault.lean ====
section
/-! SUPPORT. The fields that the operations of Vault can change (see Laws/Frame.lean). -/

set_option Elab.async false
set_option linter.unusedTactic false
set_option linter.unreachableTactic false

namespace Sys2Proof.Machine

open Sys2Proof

@[simp] theorem State.setVlt_blur (s : State) (v : Vault) (mk_ : Nat) (hmk : 2048 &&& mk_ = 2048) : (State.setVlt s v).blur mk_ = s.blur mk_ := by
  refine State.blur_mono (m := 2048) ?_ hmk
  unfold State.setVlt
  first | (simp; done) | ((repeat' split) <;> first | with_reducible rfl | (simp; done) | (simp_all; done))
@[simp] theorem State.setRes_blur (s : State) (r : Nat) (mk_ : Nat) (hmk : 16 &&& mk_ = 16) : (State.setRes s r).blur mk_ = s.blur mk_ := by
  refine State.blur_mono (m := 16) ?_ hmk
  unfold State.setRes
  first | (simp; done) | ((repeat' split) <;> first | with_reducible rfl | (simp; done) | (simp_all; done))
@[simp] theorem State.setLoading_blur (s : State) (b : Bool) (mk_ : Nat) (hmk : 16 &&& mk_ = 16) : (State.setLoading s b).blur mk_ = s.blur mk_ := by
  refine State.blur_mono (m := 16) ?_ hmk
  unfold State.setLoading
  first | (simp; done) | ((repeat' split) <;> first | with_reducible rfl | (simp; done) | (simp_all; done))
@[simp] theorem State.setDigest_blur (s : State) (a : Nat → Nat) (d : List Byte) (mk_ : Nat) (hmk : 16 &&& mk_ = 16) : (State.setDigest s a d).blur mk_ = s.blur mk_ := by
  refine State.blur_mono (m := 16) ?_ hmk
  unfold State.setDigest
  first | (simp; done) | ((repeat' split) <;> first | with_reducible rfl | (simp; done) | (simp_all; done))
@[simp] theorem State.setEscrow_blur (s : State) (p : Option Plane) (mk_ : Nat) (hmk : 1040 &&& mk_ = 1040) : (State.setEscrow s p).blur mk_ = s.blur mk_ := by
  refine State.blur_mono (m := 1040) ?_ hmk
  unfold State.setEscrow
  first | (simp; done) | ((repeat' split) <;> first | with_reducible rfl | (simp; done) | (simp_all; done))
@[simp] theorem State.vltRest_blur (s : State) (mk_ : Nat) (hmk : 16 &&& mk_ = 16) : (State.vltRest s).blur mk_ = s.blur mk_ := by
  refine State.blur_mono (m := 16) ?_ hmk
  unfold State.vltRest
  first | (simp; done) | ((repeat' split) <;> first | with_reducible rfl | (simp; done) | (simp_all; done))
@[simp] theorem State.endCommit_blur (s : State) (status : Nat) (dw0 : Nat) (mk_ : Nat) (hmk : 33605648 &&& mk_ = 33605648) : (State.endCommit s status dw0).blur mk_ = s.blur mk_ := by
  refine State.blur_mono (m := 33605648) ?_ hmk
  unfold State.endCommit
  first | (simp; done) | ((repeat' split) <;> first | with_reducible rfl | (simp; done) | (simp_all; done))
@[simp] theorem State.prohibitCommit_blur (s : State) (mk_ : Nat) (hmk : 33605648 &&& mk_ = 33605648) : (State.prohibitCommit s).blur mk_ = s.blur mk_ := by
  refine State.blur_mono (m := 33605648) ?_ hmk
  unfold State.prohibitCommit
  first | (simp; done) | ((repeat' split) <;> first | with_reducible rfl | (simp; done) | (simp_all; done))
@[simp] theorem State.disarm_blur (s : State) (mk_ : Nat) (hmk : 2048 &&& mk_ = 2048) : (State.disarm s).blur mk_ = s.blur mk_ := by
  refine State.blur_mono (m := 2048) ?_ hmk
  unfold State.disarm
  first | (simp; done) | ((repeat' split) <;> first | with_reducible rfl | (simp; done) | (simp_all; done))
@[simp] theorem State.loadFailed_blur (s : State) (err : Word) (mk_ : Nat) (hmk : 49168 &&& mk_ = 49168) : (State.loadFailed s err).blur mk_ = s.blur mk_ := by
  refine State.blur_mono (m := 49168) ?_ hmk
  unfold State.loadFailed
  first | (simp; done) | ((repeat' split) <;> first | with_reducible rfl | (simp; done) | (simp_all; done))
@[simp] theorem State.showImage_blur (s : State) (p : Plane) (mk_ : Nat) (hmk : 16 &&& mk_ = 16) : (State.showImage s p).blur mk_ = s.blur mk_ := by
  refine State.blur_mono (m := 16) ?_ hmk
  unfold State.showImage
  first | (simp; done) | ((repeat' split) <;> first | with_reducible rfl | (simp; done) | (simp_all; done))
@[simp] theorem State.noticeNs_blur (s : State) (old : List (Nat × Nat)) (mk_ : Nat) (hmk : 33570832 &&& mk_ = 33570832) : (State.noticeNs s old).blur mk_ = s.blur mk_ := by
  refine State.blur_mono (m := 33570832) ?_ hmk
  unfold State.noticeNs
  first | (simp; done) | ((repeat' split) <;> first | with_reducible rfl | (simp; done) | (simp_all; done))
@[simp] theorem State.swap_blur (s : State) (mk_ : Nat) (hmk : 268435192 &&& mk_ = 268435192) : (State.swap s).blur mk_ = s.blur mk_ := by
  refine State.blur_mono (m := 268435192) ?_ hmk
  unfold State.swap
  first | (simp; done) | ((repeat' split) <;> first | with_reducible rfl | (simp; done) | (simp_all; done))
@[simp] theorem State.swapPoint_blur (s : State) (mk_ : Nat) (hmk : 268435192 &&& mk_ = 268435192) : (State.swapPoint s).blur mk_ = s.blur mk_ := by
  refine State.blur_mono (m := 268435192) ?_ hmk
  unfold State.swapPoint
  first | (simp; done) | ((repeat' split) <;> first | with_reducible rfl | (simp; done) | (simp_all; done))
@[simp] theorem State.swapLook_blur (s : State) (mk_ : Nat) (hmk : 268435192 &&& mk_ = 268435192) : (State.swapLook s).blur mk_ = s.blur mk_ := by
  refine State.blur_mono (m := 268435192) ?_ hmk
  unfold State.swapLook
  first | (simp; done) | ((repeat' split) <;> first | with_reducible rfl | (simp; done) | (simp_all; done))
@[simp] theorem State.activateNow_blur (s : State) (mk_ : Nat) (hmk : 268435192 &&& mk_ = 268435192) : (State.activateNow s).blur mk_ = s.blur mk_ := by
  refine State.blur_mono (m := 268435192) ?_ hmk
  unfold State.activateNow
  first | (simp; done) | ((repeat' split) <;> first | with_reducible rfl | (simp; done) | (simp_all; done))
@[simp] theorem execSwapPoint_blur (s : State) (mk_ : Nat) (hmk : 268435192 &&& mk_ = 268435192) : outBlur mk_ (execSwapPoint s) = some (s.blur mk_) := by
  refine outBlur_mono (m := 268435192) ?_ hmk
  unfold execSwapPoint
  first | (simp; done) | ((repeat' split) <;> first | with_reducible rfl | (simp; done) | (simp_all; done))
@[simp] theorem execHoldTimeout_blur (s : State) (mk_ : Nat) (hmk : 33605648 &&& mk_ = 33605648) : outBlur mk_ (execHoldTimeout s) = some (s.blur mk_) := by
  refine outBlur_mono (m := 33605648) ?_ hmk
  unfold execHoldTimeout
  first | (simp; done) | ((repeat' split) <;> first | with_reducible rfl | (simp; done) | (simp_all; done))
@[simp] theorem execNop_blur (s : State) (mk_ : Nat) : outBlur mk_ (execNop s) = some (s.blur mk_) := by
  unfold execNop
  first | (simp; done) | ((repeat' split) <;> first | with_reducible rfl | (simp; done) | (simp_all; done))
@[simp] theorem State.beginLoad_blur (s : State) (k : Nat) (mk_ : Nat) (hmk : 3088 &&& mk_ = 3088) : (State.beginLoad s k).blur mk_ = s.blur mk_ := by
  refine State.blur_mono (m := 3088) ?_ hmk
  unfold State.beginLoad
  first | (simp; done) | ((repeat' split) <;> first | with_reducible rfl | (simp; done) | (simp_all; done))
@[simp] theorem State.busyLoad_blur (s : State) (mk_ : Nat) (hmk : 49168 &&& mk_ = 49168) : (State.busyLoad s).blur mk_ = s.blur mk_ := by
  refine State.blur_mono (m := 49168) ?_ hmk
  unfold State.busyLoad
  first | (simp; done) | ((repeat' split) <;> first | with_reducible rfl | (simp; done) | (simp_all; done))
@[simp] theorem State.busy_blur (s : State) (mk_ : Nat) (hmk : 49168 &&& mk_ = 49168) : (State.busy s).blur mk_ = s.blur mk_ := by
  refine State.blur_mono (m := 49168) ?_ hmk
  unfold State.busy
  first | (simp; done) | ((repeat' split) <;> first | with_reducible rfl | (simp; done) | (simp_all; done))
@[simp] theorem State.loadEscrow_blur (s : State) (arg : Nat) (mk_ : Nat) (hmk : 52240 &&& mk_ = 52240) : (State.loadEscrow s arg).blur mk_ = s.blur mk_ := by
  refine State.blur_mono (m := 52240) ?_ hmk
  unfold State.loadEscrow
  first | (simp; done) | ((repeat' split) <;> first | with_reducible rfl | (simp; done) | (simp_all; done))
@[simp] theorem execLoadEscrow_blur (arg : BitVec 24) (s : State) (mk_ : Nat) (hmk : 52240 &&& mk_ = 52240) : outBlur mk_ (execLoadEscrow arg s) = some (s.blur mk_) := by
  refine outBlur_mono (m := 52240) ?_ hmk
  unfold execLoadEscrow
  first | (simp; done) | ((repeat' split) <;> first | with_reducible rfl | (simp; done) | (simp_all; done))
@[simp] theorem State.loadPlane_blur (s : State) (mk_ : Nat) (hmk : 128 &&& mk_ = 128) : (State.loadPlane s).1.blur mk_ = s.blur mk_ := by
  refine State.blur_mono (m := 128) ?_ hmk
  unfold State.loadPlane
  try dsimp only
  repeat' split
  all_goals first | with_reducible rfl | (simp; done) | (simp [*]; done) | (simp_all; done)
@[simp] theorem State.escrowReady_blur (s : State) (readOk : Bool) (mk_ : Nat) (hmk : 268435192 &&& mk_ = 268435192) : (State.escrowReady s readOk).blur mk_ = s.blur mk_ := by
  refine State.blur_mono (m := 268435192) ?_ hmk
  unfold State.escrowReady
  try dsimp only
  repeat' split
  all_goals first | with_reducible rfl | (simp; done) | (simp [*]; done) | (simp_all; done)
@[simp] theorem execEscrowReady_blur (readOk : Bool) (s : State) (mk_ : Nat) (hmk : 268435192 &&& mk_ = 268435192) : outBlur mk_ (execEscrowReady readOk s) = some (s.blur mk_) := by
  refine outBlur_mono (m := 268435192) ?_ hmk
  unfold execEscrowReady
  first | (simp; done) | ((repeat' split) <;> first | with_reducible rfl | (simp; done) | (simp_all; done))
@[simp] theorem State.activate_blur (s : State) (mk_ : Nat) (hmk : 268435192 &&& mk_ = 268435192) : (State.activate s).blur mk_ = s.blur mk_ := by
  refine State.blur_mono (m := 268435192) ?_ hmk
  unfold State.activate
  first | (simp; done) | ((repeat' split) <;> first | with_reducible rfl | (simp; done) | (simp_all; done))
@[simp] theorem execActivate_blur (s : State) (mk_ : Nat) (hmk : 268435192 &&& mk_ = 268435192) : outBlur mk_ (execActivate s) = some (s.blur mk_) := by
  refine outBlur_mono (m := 268435192) ?_ hmk
  unfold execActivate
  first | (simp; done) | ((repeat' split) <;> first | with_reducible rfl | (simp; done) | (simp_all; done))
@[simp] theorem State.cancel_blur (s : State) (mk_ : Nat) (hmk : 33606672 &&& mk_ = 33606672) : (State.cancel s).blur mk_ = s.blur mk_ := by
  refine State.blur_mono (m := 33606672) ?_ hmk
  unfold State.cancel
  first | (simp; done) | ((repeat' split) <;> first | with_reducible rfl | (simp; done) | (simp_all; done))
@[simp] theorem execCancel_blur (s : State) (mk_ : Nat) (hmk : 33606672 &&& mk_ = 33606672) : outBlur mk_ (execCancel s) = some (s.blur mk_) := by
  refine outBlur_mono (m := 33606672) ?_ hmk
  unfold execCancel
  first | (simp; done) | ((repeat' split) <;> first | with_reducible rfl | (simp; done) | (simp_all; done))
@[simp] theorem State.dropEscrow_blur (s : State) (mk_ : Nat) (hmk : 1040 &&& mk_ = 1040) : (State.dropEscrow s).blur mk_ = s.blur mk_ := by
  refine State.blur_mono (m := 1040) ?_ hmk
  unfold State.dropEscrow
  first | (simp; done) | ((repeat' split) <;> first | with_reducible rfl | (simp; done) | (simp_all; done))
@[simp] theorem State.selftest_blur (s : State) (mk_ : Nat) (hmk : 2064 &&& mk_ = 2064) : (State.selftest s).blur mk_ = s.blur mk_ := by
  refine State.blur_mono (m := 2064) ?_ hmk
  unfold State.selftest
  first | (simp; done) | ((repeat' split) <;> first | with_reducible rfl | (simp; done) | (simp_all; done))
@[simp] theorem execSelftest_blur (s : State) (mk_ : Nat) (hmk : 2064 &&& mk_ = 2064) : outBlur mk_ (execSelftest s) = some (s.blur mk_) := by
  refine outBlur_mono (m := 2064) ?_ hmk
  unfold execSelftest
  first | (simp; done) | ((repeat' split) <;> first | with_reducible rfl | (simp; done) | (simp_all; done))
@[simp] theorem State.vaultError_blur (s : State) (mk_ : Nat) (hmk : 51216 &&& mk_ = 51216) : (State.vaultError s).blur mk_ = s.blur mk_ := by
  refine State.blur_mono (m := 51216) ?_ hmk
  unfold State.vaultError
  first | (simp; done) | ((repeat' split) <;> first | with_reducible rfl | (simp; done) | (simp_all; done))
@[simp] theorem execVaultError_blur (s : State) (mk_ : Nat) (hmk : 51216 &&& mk_ = 51216) : outBlur mk_ (execVaultError s) = some (s.blur mk_) := by
  refine outBlur_mono (m := 51216) ?_ hmk
  unfold execVaultError
  first | (simp; done) | ((repeat' split) <;> first | with_reducible rfl | (simp; done) | (simp_all; done))
@[simp] theorem execSelftestDone_blur (pass : Bool) (s : State) (mk_ : Nat) (hmk : 51216 &&& mk_ = 51216) : outBlur mk_ (execSelftestDone pass s) = some (s.blur mk_) := by
  refine outBlur_mono (m := 51216) ?_ hmk
  unfold execSelftestDone
  first | (simp; done) | ((repeat' split) <;> first | with_reducible rfl | (simp; done) | (simp_all; done))
@[simp] theorem State.renewNonce_blur (s : State) (mk_ : Nat) (hmk : 2048 &&& mk_ = 2048) : (State.renewNonce s).blur mk_ = s.blur mk_ := by
  refine State.blur_mono (m := 2048) ?_ hmk
  unfold State.renewNonce
  first | (simp; done) | ((repeat' split) <;> first | with_reducible rfl | (simp; done) | (simp_all; done))
@[simp] theorem State.officer_blur (s : State) (op : Nat) (arg : Nat) (f : State → State) (mk_ : Nat) (hmk : 2064 &&& mk_ = 2064) (hf : ∀ t, (f t).blur mk_ = t.blur mk_) : (State.officer s op arg f).blur mk_ = s.blur mk_ := by
  unfold State.officer
  split
  · rfl
  · refine (State.renewNonce_blur _ _ (sub_mask hmk rfl)).trans ?_
    split
    · exact hf _
    · exact State.setRes_blur _ _ _ (sub_mask hmk rfl)
@[simp] theorem State.floorAdvance_blur (s : State) (mk_ : Nat) (hmk : 272 &&& mk_ = 272) : (State.floorAdvance s).blur mk_ = s.blur mk_ := by
  refine State.blur_mono (m := 272) ?_ hmk
  unfold State.floorAdvance
  first | (simp; done) | ((repeat' split) <;> first | with_reducible rfl | (simp; done) | (simp_all; done))
@[simp] theorem execFloorAdvance_blur (arg : BitVec 24) (s : State) (mk_ : Nat) (hmk : 2320 &&& mk_ = 2320) : outBlur mk_ (execFloorAdvance arg s) = some (s.blur mk_) := by
  refine outBlur_mono (m := 2320) ?_ hmk
  unfold execFloorAdvance
  first | (simp; done) | ((repeat' split) <;> first | with_reducible rfl | (simp; done) | (simp_all; done))
@[simp] theorem State.revoke_blur (s : State) (slot : Nat) (mk_ : Nat) (hmk : 272 &&& mk_ = 272) : (State.revoke s slot).blur mk_ = s.blur mk_ := by
  refine State.blur_mono (m := 272) ?_ hmk
  unfold State.revoke
  first | (simp; done) | ((repeat' split) <;> first | with_reducible rfl | (simp; done) | (simp_all; done))
@[simp] theorem execRevoke_blur (arg : BitVec 24) (s : State) (mk_ : Nat) (hmk : 2320 &&& mk_ = 2320) : outBlur mk_ (execRevoke arg s) = some (s.blur mk_) := by
  refine outBlur_mono (m := 2320) ?_ hmk
  unfold execRevoke
  first | (simp; done) | ((repeat' split) <;> first | with_reducible rfl | (simp; done) | (simp_all; done))
@[simp] theorem State.zeroize_blur (s : State) (mk_ : Nat) (hmk : 50384144 &&& mk_ = 50384144) : (State.zeroize s).blur mk_ = s.blur mk_ := by
  refine State.blur_mono (m := 50384144) ?_ hmk
  unfold State.zeroize
  first | (simp; done) | ((repeat' split) <;> first | with_reducible rfl | (simp; done) | (simp_all; done))
@[simp] theorem execZeroize_blur (arg : BitVec 24) (s : State) (mk_ : Nat) (hmk : 50384144 &&& mk_ = 50384144) : outBlur mk_ (execZeroize arg s) = some (s.blur mk_) := by
  refine outBlur_mono (m := 50384144) ?_ hmk
  unfold execZeroize
  first | (simp; done) | ((repeat' split) <;> first | with_reducible rfl | (simp; done) | (simp_all; done))
@[simp] theorem State.signNext_blur (s : State) (mk_ : Nat) (hmk : 16828432 &&& mk_ = 16828432) : (State.signNext s).blur mk_ = s.blur mk_ := by
  refine State.blur_mono (m := 16828432) ?_ hmk
  unfold State.signNext
  first | (simp; done) | ((repeat' split) <;> first | with_reducible rfl | (simp; done) | (simp_all; done))
@[simp] theorem execSignatureComplete_blur (s : State) (mk_ : Nat) (hmk : 16828432 &&& mk_ = 16828432) : outBlur mk_ (execSignatureComplete s) = some (s.blur mk_) := by
  refine outBlur_mono (m := 16828432) ?_ hmk
  unfold execSignatureComplete
  first | (simp; done) | ((repeat' split) <;> first | with_reducible rfl | (simp; done) | (simp_all; done))
@[simp] theorem State.arm_blur (s : State) (i : Nat) (mk_ : Nat) (hmk : 10272784 &&& mk_ = 10272784) : (State.arm s i).blur mk_ = s.blur mk_ := by
  refine State.blur_mono (m := 10272784) ?_ hmk
  unfold State.arm
  first | (simp; done) | ((repeat' split) <;> first | with_reducible rfl | (simp; done) | (simp_all; done))
@[simp] theorem execArm_blur (stream : Fin 64) (s : State) (mk_ : Nat) (hmk : 10272784 &&& mk_ = 10272784) : outBlur mk_ (execArm stream s) = some (s.blur mk_) := by
  refine outBlur_mono (m := 10272784) ?_ hmk
  unfold execArm
  first | (simp; done) | ((repeat' split) <;> first | with_reducible rfl | (simp; done) | (simp_all; done))
@[simp] theorem execSegmentClose_blur (part : Fin 32) (s : State) (mk_ : Nat) (hmk : 268435192 &&& mk_ = 268435192) : outBlur mk_ (execSegmentClose part s) = some (s.blur mk_) := by
  refine outBlur_mono (m := 268435192) ?_ hmk
  unfold execSegmentClose
  first | (simp; done) | ((repeat' split) <;> first | with_reducible rfl | (simp; done) | (simp_all; done))

end Sys2Proof.Machine
end

