-- ==== Sys2Proof/Laws/FrameAdmin.lean ====
section
/-! SUPPORT. The fields that the operations of Admin can change (see Laws/Frame.lean). -/

set_option Elab.async false
set_option linter.unusedTactic false
set_option linter.unreachableTactic false

namespace Sys2Proof.Machine

open Sys2Proof

@[simp] theorem State.admin_blur (s : State) (op : Nat) (cid : BitVec 16) (ok : NCmd → Bool) (f : State → NCmd → State) (mk_ : Nat) (hf : ∀ t k, (f t k).blur mk_ = t.blur mk_) : (State.admin s op cid ok f).blur mk_ = s.blur mk_ := by
  unfold State.admin
  split
  · split
    · exact hf _ _
    · rfl
  · rfl
@[simp] theorem State.answer_blur (s : State) (cid : BitVec 16) (d : List Byte) (mk_ : Nat) (hmk : 33570832 &&& mk_ = 33570832) : (State.answer s cid d).blur mk_ = s.blur mk_ := by
  refine State.blur_mono (m := 33570832) ?_ hmk
  unfold State.answer
  first | (simp; done) | ((repeat' split) <;> first | with_reducible rfl | (simp; done) | (simp_all; done))
@[simp] theorem State.download_blur (s : State) (c : NCmd) (mk_ : Nat) (hmk : 33603728 &&& mk_ = 33603728) : (State.download s c).blur mk_ = s.blur mk_ := by
  refine State.blur_mono (m := 33603728) ?_ hmk
  unfold State.download
  first | (simp; done) | ((repeat' split) <;> first | with_reducible rfl | (simp; done) | (simp_all; done))
@[simp] theorem execFirmwareImageDownload_blur (cid : BitVec 16) (s : State) (mk_ : Nat) (hmk : 33603728 &&& mk_ = 33603728) : outBlur mk_ (execFirmwareImageDownload cid s) = some (s.blur mk_) := by
  refine outBlur_mono (m := 33603728) ?_ hmk
  unfold execFirmwareImageDownload
  first | (simp; done) | ((repeat' split) <;> first | with_reducible rfl | (simp; done) | (simp_all; done))
@[simp] theorem State.commitFw_blur (s : State) (c : NCmd) (mk_ : Nat) (hmk : 33606800 &&& mk_ = 33606800) : (State.commitFw s c).blur mk_ = s.blur mk_ := by
  refine State.blur_mono (m := 33606800) ?_ hmk
  unfold State.commitFw
  first | (simp; done) | ((repeat' split) <;> first | with_reducible rfl | (simp; done) | (simp_all; done))
@[simp] theorem execCommitVerify_blur (cid : BitVec 16) (s : State) (mk_ : Nat) (hmk : 33606800 &&& mk_ = 33606800) : outBlur mk_ (execCommitVerify cid s) = some (s.blur mk_) := by
  refine outBlur_mono (m := 33606800) ?_ hmk
  unfold execCommitVerify
  first | (simp; done) | ((repeat' split) <;> first | with_reducible rfl | (simp; done) | (simp_all; done))
@[simp] theorem execCommitVerifySelect_blur (cid : BitVec 16) (s : State) (mk_ : Nat) (hmk : 33606800 &&& mk_ = 33606800) : outBlur mk_ (execCommitVerifySelect cid s) = some (s.blur mk_) := by
  refine outBlur_mono (m := 33606800) ?_ hmk
  unfold execCommitVerifySelect
  first | (simp; done) | ((repeat' split) <;> first | with_reducible rfl | (simp; done) | (simp_all; done))
@[simp] theorem execCommitSelect_blur (cid : BitVec 16) (s : State) (mk_ : Nat) (hmk : 33606800 &&& mk_ = 33606800) : outBlur mk_ (execCommitSelect cid s) = some (s.blur mk_) := by
  refine outBlur_mono (m := 33606800) ?_ hmk
  unfold execCommitSelect
  first | (simp; done) | ((repeat' split) <;> first | with_reducible rfl | (simp; done) | (simp_all; done))
@[simp] theorem execCommitActivate_blur (cid : BitVec 16) (s : State) (mk_ : Nat) (hmk : 33606800 &&& mk_ = 33606800) : outBlur mk_ (execCommitActivate cid s) = some (s.blur mk_) := by
  refine outBlur_mono (m := 33606800) ?_ hmk
  unfold execCommitActivate
  first | (simp; done) | ((repeat' split) <;> first | with_reducible rfl | (simp; done) | (simp_all; done))
@[simp] theorem State.endVerify_blur (s : State) (status : Nat) (dw0 : Nat) (mk_ : Nat) (hmk : 33605648 &&& mk_ = 33605648) : (State.endVerify s status dw0).blur mk_ = s.blur mk_ := by
  refine State.blur_mono (m := 33605648) ?_ hmk
  unfold State.endVerify
  first | (simp; done) | ((repeat' split) <;> first | with_reducible rfl | (simp; done) | (simp_all; done))
@[simp] theorem State.verifyDone_blur (s : State) (readOk : Bool) (mk_ : Nat) (hmk : 33605776 &&& mk_ = 33605776) : (State.verifyDone s readOk).blur mk_ = s.blur mk_ := by
  refine State.blur_mono (m := 33605776) ?_ hmk
  unfold State.verifyDone
  try dsimp only
  repeat' split
  all_goals first | with_reducible rfl | (simp; done) | (simp [*]; done) | (simp_all; done)
@[simp] theorem execFirmwareVerifyComplete_blur (readOk : Bool) (s : State) (mk_ : Nat) (hmk : 33605776 &&& mk_ = 33605776) : outBlur mk_ (execFirmwareVerifyComplete readOk s) = some (s.blur mk_) := by
  refine outBlur_mono (m := 33605776) ?_ hmk
  unfold execFirmwareVerifyComplete
  first | (simp; done) | ((repeat' split) <;> first | with_reducible rfl | (simp; done) | (simp_all; done))
@[simp] theorem execOfficerAuth_blur (cid : BitVec 16) (s : State) (mk_ : Nat) (hmk : 33572880 &&& mk_ = 33572880) : outBlur mk_ (execOfficerAuth cid s) = some (s.blur mk_) := by
  refine outBlur_mono (m := 33572880) ?_ hmk
  unfold execOfficerAuth
  first | (simp; done) | ((repeat' split) <;> first | with_reducible rfl | (simp; done) | (simp_all; done))
@[simp] theorem execReadKey_blur (cid : BitVec 16) (s : State) (mk_ : Nat) (hmk : 33570832 &&& mk_ = 33570832) : outBlur mk_ (execReadKey cid s) = some (s.blur mk_) := by
  refine outBlur_mono (m := 33570832) ?_ hmk
  unfold execReadKey
  first | (simp; done) | ((repeat' split) <;> first | with_reducible rfl | (simp; done) | (simp_all; done))
@[simp] theorem execReadAkCert_blur (cid : BitVec 16) (s : State) (mk_ : Nat) (hmk : 33603600 &&& mk_ = 33603600) : outBlur mk_ (execReadAkCert cid s) = some (s.blur mk_) := by
  refine outBlur_mono (m := 33603600) ?_ hmk
  unfold execReadAkCert
  first | (simp; done) | ((repeat' split) <;> first | with_reducible rfl | (simp; done) | (simp_all; done))
@[simp] theorem execNsMap_blur (cid : BitVec 16) (s : State) (mk_ : Nat) (hmk : 33570832 &&& mk_ = 33570832) : outBlur mk_ (execNsMap cid s) = some (s.blur mk_) := by
  refine outBlur_mono (m := 33570832) ?_ hmk
  unfold execNsMap
  first | (simp; done) | ((repeat' split) <;> first | with_reducible rfl | (simp; done) | (simp_all; done))
@[simp] theorem State.setPower_blur (s : State) (c : NCmd) (mk_ : Nat) (hmk : 33603600 &&& mk_ = 33603600) : (State.setPower s c).blur mk_ = s.blur mk_ := by
  refine State.blur_mono (m := 33603600) ?_ hmk
  unfold State.setPower
  first | (simp; done) | ((repeat' split) <;> first | with_reducible rfl | (simp; done) | (simp_all; done))
@[simp] theorem execSetPowerState_blur (cid : BitVec 16) (s : State) (mk_ : Nat) (hmk : 33603600 &&& mk_ = 33603600) : outBlur mk_ (execSetPowerState cid s) = some (s.blur mk_) := by
  refine outBlur_mono (m := 33603600) ?_ hmk
  unfold execSetPowerState
  first | (simp; done) | ((repeat' split) <;> first | with_reducible rfl | (simp; done) | (simp_all; done))
@[simp] theorem State.stepPs_blur (s : State) (p : Nat) (n : Nat) (mk_ : Nat) (hmk : 4112 &&& mk_ = 4112) : (State.stepPs s p n).blur mk_ = s.blur mk_ := by
  refine State.blur_mono (m := 4112) ?_ hmk
  unfold State.stepPs
  first | (simp; done) | ((repeat' split) <;> first | with_reducible rfl | (simp; done) | (simp_all; done))
@[simp] theorem State.dramOff_blur (s : State) (mk_ : Nat) (hmk : 16777232 &&& mk_ = 16777232) : (State.dramOff s).blur mk_ = s.blur mk_ := by
  refine State.blur_mono (m := 16777232) ?_ hmk
  unfold State.dramOff
  first | (simp; done) | ((repeat' split) <;> first | with_reducible rfl | (simp; done) | (simp_all; done))
@[simp] theorem State.psChange_blur (s : State) (mk_ : Nat) (hmk : 58652752 &&& mk_ = 58652752) : (State.psChange s).blur mk_ = s.blur mk_ := by
  refine State.blur_mono (m := 58652752) ?_ hmk
  unfold State.psChange
  first | (simp; done) | ((repeat' split) <;> first | with_reducible rfl | (simp; done) | (simp_all; done))
@[simp] theorem execPsChange_blur (s : State) (mk_ : Nat) (hmk : 58652752 &&& mk_ = 58652752) : outBlur mk_ (execPsChange s) = some (s.blur mk_) := by
  refine outBlur_mono (m := 58652752) ?_ hmk
  unfold execPsChange
  first | (simp; done) | ((repeat' split) <;> first | with_reducible rfl | (simp; done) | (simp_all; done))
@[simp] theorem State.apstMove_blur (s : State) (mk_ : Nat) (hmk : 33554448 &&& mk_ = 33554448) : (State.apstMove s).blur mk_ = s.blur mk_ := by
  refine State.blur_mono (m := 33554448) ?_ hmk
  unfold State.apstMove
  first | (simp; done) | ((repeat' split) <;> first | with_reducible rfl | (simp; done) | (simp_all; done))
@[simp] theorem execApstTransition_blur (s : State) (mk_ : Nat) (hmk : 33554448 &&& mk_ = 33554448) : outBlur mk_ (execApstTransition s) = some (s.blur mk_) := by
  refine outBlur_mono (m := 33554448) ?_ hmk
  unfold execApstTransition
  first | (simp; done) | ((repeat' split) <;> first | with_reducible rfl | (simp; done) | (simp_all; done))
@[simp] theorem execSetArbitration_blur (cid : BitVec 16) (s : State) (mk_ : Nat) (hmk : 33570832 &&& mk_ = 33570832) : outBlur mk_ (execSetArbitration cid s) = some (s.blur mk_) := by
  refine outBlur_mono (m := 33570832) ?_ hmk
  unfold execSetArbitration
  first | (simp; done) | ((repeat' split) <;> first | with_reducible rfl | (simp; done) | (simp_all; done))
@[simp] theorem execSetNumberOfQueues_blur (cid : BitVec 16) (s : State) (mk_ : Nat) (hmk : 33603600 &&& mk_ = 33603600) : outBlur mk_ (execSetNumberOfQueues cid s) = some (s.blur mk_) := by
  refine outBlur_mono (m := 33603600) ?_ hmk
  unfold execSetNumberOfQueues
  first | (simp; done) | ((repeat' split) <;> first | with_reducible rfl | (simp; done) | (simp_all; done))
@[simp] theorem execSetApst_blur (cid : BitVec 16) (s : State) (mk_ : Nat) (hmk : 33570832 &&& mk_ = 33570832) : outBlur mk_ (execSetApst cid s) = some (s.blur mk_) := by
  refine outBlur_mono (m := 33570832) ?_ hmk
  unfold execSetApst
  first | (simp; done) | ((repeat' split) <;> first | with_reducible rfl | (simp; done) | (simp_all; done))
@[simp] theorem execSetAsyncEventConfig_blur (cid : BitVec 16) (s : State) (mk_ : Nat) (hmk : 33570832 &&& mk_ = 33570832) : outBlur mk_ (execSetAsyncEventConfig cid s) = some (s.blur mk_) := by
  refine outBlur_mono (m := 33570832) ?_ hmk
  unfold execSetAsyncEventConfig
  first | (simp; done) | ((repeat' split) <;> first | with_reducible rfl | (simp; done) | (simp_all; done))
@[simp] theorem State.createCq_blur (s : State) (c : NCmd) (mk_ : Nat) (hmk : 33603600 &&& mk_ = 33603600) : (State.createCq s c).blur mk_ = s.blur mk_ := by
  refine State.blur_mono (m := 33603600) ?_ hmk
  unfold State.createCq
  first | (simp; done) | ((repeat' split) <;> first | with_reducible rfl | (simp; done) | (simp_all; done))
@[simp] theorem execCreateIoCompletionQueue_blur (cid : BitVec 16) (s : State) (mk_ : Nat) (hmk : 33603600 &&& mk_ = 33603600) : outBlur mk_ (execCreateIoCompletionQueue cid s) = some (s.blur mk_) := by
  refine outBlur_mono (m := 33603600) ?_ hmk
  unfold execCreateIoCompletionQueue
  first | (simp; done) | ((repeat' split) <;> first | with_reducible rfl | (simp; done) | (simp_all; done))
@[simp] theorem State.syncIoq_blur (s : State) (mk_ : Nat) (hmk : 16 &&& mk_ = 16) : (State.syncIoq s).blur mk_ = s.blur mk_ := by
  refine State.blur_mono (m := 16) ?_ hmk
  unfold State.syncIoq
  first | (simp; done) | ((repeat' split) <;> first | with_reducible rfl | (simp; done) | (simp_all; done))
@[simp] theorem State.createSq_blur (s : State) (c : NCmd) (mk_ : Nat) (hmk : 33603600 &&& mk_ = 33603600) : (State.createSq s c).blur mk_ = s.blur mk_ := by
  refine State.blur_mono (m := 33603600) ?_ hmk
  unfold State.createSq
  first | (simp; done) | ((repeat' split) <;> first | with_reducible rfl | (simp; done) | (simp_all; done))
@[simp] theorem execCreateIoSubmissionQueue_blur (cid : BitVec 16) (s : State) (mk_ : Nat) (hmk : 33603600 &&& mk_ = 33603600) : outBlur mk_ (execCreateIoSubmissionQueue cid s) = some (s.blur mk_) := by
  refine outBlur_mono (m := 33603600) ?_ hmk
  unfold execCreateIoSubmissionQueue
  first | (simp; done) | ((repeat' split) <;> first | with_reducible rfl | (simp; done) | (simp_all; done))
@[simp] theorem execIdentifyController_blur (cid : BitVec 16) (s : State) (mk_ : Nat) (hmk : 33570832 &&& mk_ = 33570832) : outBlur mk_ (execIdentifyController cid s) = some (s.blur mk_) := by
  refine outBlur_mono (m := 33570832) ?_ hmk
  unfold execIdentifyController
  first | (simp; done) | ((repeat' split) <;> first | with_reducible rfl | (simp; done) | (simp_all; done))
@[simp] theorem execIdentifyNamespace_blur (cid : BitVec 16) (s : State) (mk_ : Nat) (hmk : 33603600 &&& mk_ = 33603600) : outBlur mk_ (execIdentifyNamespace cid s) = some (s.blur mk_) := by
  refine outBlur_mono (m := 33603600) ?_ hmk
  unfold execIdentifyNamespace
  first | (simp; done) | ((repeat' split) <;> first | with_reducible rfl | (simp; done) | (simp_all; done))
@[simp] theorem State.getLog_blur (s : State) (c : NCmd) (page : List Byte) (mk_ : Nat) (hmk : 33603600 &&& mk_ = 33603600) : (State.getLog s c page).blur mk_ = s.blur mk_ := by
  refine State.blur_mono (m := 33603600) ?_ hmk
  unfold State.getLog
  first | (simp; done) | ((repeat' split) <;> first | with_reducible rfl | (simp; done) | (simp_all; done))
@[simp] theorem execGetLogFaultLedger_blur (cid : BitVec 16) (s : State) (mk_ : Nat) (hmk : 33603600 &&& mk_ = 33603600) : outBlur mk_ (execGetLogFaultLedger cid s) = some (s.blur mk_) := by
  refine outBlur_mono (m := 33603600) ?_ hmk
  unfold execGetLogFaultLedger
  first | (simp; done) | ((repeat' split) <;> first | with_reducible rfl | (simp; done) | (simp_all; done))
@[simp] theorem execGetLogFirmwareSlot_blur (cid : BitVec 16) (s : State) (mk_ : Nat) (hmk : 33603600 &&& mk_ = 33603600) : outBlur mk_ (execGetLogFirmwareSlot cid s) = some (s.blur mk_) := by
  refine outBlur_mono (m := 33603600) ?_ hmk
  unfold execGetLogFirmwareSlot
  first | (simp; done) | ((repeat' split) <;> first | with_reducible rfl | (simp; done) | (simp_all; done))
@[simp] theorem State.aerRequest_blur (s : State) (c : NCmd) (mk_ : Nat) (hmk : 33603600 &&& mk_ = 33603600) : (State.aerRequest s c).blur mk_ = s.blur mk_ := by
  refine State.blur_mono (m := 33603600) ?_ hmk
  unfold State.aerRequest
  first | (simp; done) | ((repeat' split) <;> first | with_reducible rfl | (simp; done) | (simp_all; done))
@[simp] theorem execAsynchronousEventRequest_blur (cid : BitVec 16) (s : State) (mk_ : Nat) (hmk : 33603600 &&& mk_ = 33603600) : outBlur mk_ (execAsynchronousEventRequest cid s) = some (s.blur mk_) := by
  refine outBlur_mono (m := 33603600) ?_ hmk
  unfold execAsynchronousEventRequest
  first | (simp; done) | ((repeat' split) <;> first | with_reducible rfl | (simp; done) | (simp_all; done))
@[simp] theorem State.syncRdy_blur (s : State) (mk_ : Nat) (hmk : 33554448 &&& mk_ = 33554448) : (State.syncRdy s).blur mk_ = s.blur mk_ := by
  refine State.blur_mono (m := 33554448) ?_ hmk
  unfold State.syncRdy
  first | (simp; done) | ((repeat' split) <;> first | with_reducible rfl | (simp; done) | (simp_all; done))
@[simp] theorem State.ctlEnable_blur (s : State) (cc : Word) (mk_ : Nat) (hmk : 33554448 &&& mk_ = 33554448) : (State.ctlEnable s cc).blur mk_ = s.blur mk_ := by
  refine State.blur_mono (m := 33554448) ?_ hmk
  unfold State.ctlEnable
  first | (simp; done) | ((repeat' split) <;> first | with_reducible rfl | (simp; done) | (simp_all; done))
@[simp] theorem execControllerEnable_blur (cc : Word) (s : State) (mk_ : Nat) (hmk : 33554448 &&& mk_ = 33554448) : outBlur mk_ (execControllerEnable cc s) = some (s.blur mk_) := by
  refine outBlur_mono (m := 33554448) ?_ hmk
  unfold execControllerEnable
  first | (simp; done) | ((repeat' split) <;> first | with_reducible rfl | (simp; done) | (simp_all; done))
@[simp] theorem State.ctlClear_blur (s : State) (mk_ : Nat) (hmk : 33556496 &&& mk_ = 33556496) : (State.ctlClear s).blur mk_ = s.blur mk_ := by
  refine State.blur_mono (m := 33556496) ?_ hmk
  unfold State.ctlClear
  first | (simp; done) | ((repeat' split) <;> first | with_reducible rfl | (simp; done) | (simp_all; done))
@[simp] theorem State.ctlReset_blur (s : State) (mk_ : Nat) (hmk : 33605648 &&& mk_ = 33605648) : (State.ctlReset s).blur mk_ = s.blur mk_ := by
  refine State.blur_mono (m := 33605648) ?_ hmk
  unfold State.ctlReset
  first | (simp; done) | ((repeat' split) <;> first | with_reducible rfl | (simp; done) | (simp_all; done))
@[simp] theorem execControllerReset_blur (s : State) (mk_ : Nat) (hmk : 33605648 &&& mk_ = 33605648) : outBlur mk_ (execControllerReset s) = some (s.blur mk_) := by
  refine outBlur_mono (m := 33605648) ?_ hmk
  unfold execControllerReset
  first | (simp; done) | ((repeat' split) <;> first | with_reducible rfl | (simp; done) | (simp_all; done))
@[simp] theorem State.shutdown_blur (s : State) (shn : Nat) (mk_ : Nat) (hmk : 33554448 &&& mk_ = 33554448) : (State.shutdown s shn).blur mk_ = s.blur mk_ := by
  refine State.blur_mono (m := 33554448) ?_ hmk
  unfold State.shutdown
  first | (simp; done) | ((repeat' split) <;> first | with_reducible rfl | (simp; done) | (simp_all; done))
@[simp] theorem execShutdownNotification_blur (shn : BitVec 2) (s : State) (mk_ : Nat) (hmk : 33554448 &&& mk_ = 33554448) : outBlur mk_ (execShutdownNotification shn s) = some (s.blur mk_) := by
  refine outBlur_mono (m := 33554448) ?_ hmk
  unfold execShutdownNotification
  first | (simp; done) | ((repeat' split) <;> first | with_reducible rfl | (simp; done) | (simp_all; done))
@[simp] theorem execShutdownComplete_blur (s : State) (mk_ : Nat) (hmk : 33554432 &&& mk_ = 33554432) : outBlur mk_ (execShutdownComplete s) = some (s.blur mk_) := by
  refine outBlur_mono (m := 33554432) ?_ hmk
  unfold execShutdownComplete
  first | (simp; done) | ((repeat' split) <;> first | with_reducible rfl | (simp; done) | (simp_all; done))

end Sys2Proof.Machine
end

