-- ==== Sys2Proof/Laws/FramePower.lean ====
section
/-! SUPPORT. The fields that the operations of Power can change (see Laws/Frame.lean). -/

set_option Elab.async false
set_option linter.unusedTactic false
set_option linter.unreachableTactic false

namespace Sys2Proof.Machine

open Sys2Proof

@[simp] theorem State.setPwr_blur (s : State) (p : Pwr) (mk_ : Nat) (hmk : 4096 &&& mk_ = 4096) : (State.setPwr s p).blur mk_ = s.blur mk_ := by
  refine State.blur_mono (m := 4096) ?_ hmk
  unfold State.setPwr
  first | (simp; done) | ((repeat' split) <;> first | with_reducible rfl | (simp; done) | (simp_all; done))
@[simp] theorem State.wipe_blur (s : State) (cold : Bool) (keep : Bool) (mk_ : Nat) (hmk : 268435070 &&& mk_ = 268435070) : (State.wipe s cold keep).blur mk_ = s.blur mk_ := by
  refine State.blur_mono (m := 268435070) ?_ hmk
  unfold State.wipe
  extract_lets r pins s1
  refine (State.wr_blur _ _ _ _ rfl).trans ((State.wr_blur _ _ _ _ rfl).trans ((State.wr_blur _ _ _ _ rfl).trans ?_))
  rfl
@[simp] theorem State.goodRow_blur (s : State) (mk_ : Nat) (hmk : 4112 &&& mk_ = 4112) : (State.goodRow s).blur mk_ = s.blur mk_ := by
  refine State.blur_mono (m := 4112) ?_ hmk
  unfold State.goodRow
  first | (simp; done) | ((repeat' split) <;> first | with_reducible rfl | (simp; done) | (simp_all; done))
@[simp] theorem State.warmReset_blur (s : State) (kind : Nat) (seq : Bool) (mk_ : Nat) (hmk : 268435070 &&& mk_ = 268435070) : (State.warmReset s kind seq).blur mk_ = s.blur mk_ := by
  refine State.blur_mono (m := 268435070) ?_ hmk
  unfold State.warmReset
  first | (simp; done) | ((repeat' split) <;> first | with_reducible rfl | (simp; done) | (simp_all; done))
@[simp] theorem State.moduleRst_blur (s : State) (kind : Nat) (mk_ : Nat) (hmk : 268435070 &&& mk_ = 268435070) : (State.moduleRst s kind).blur mk_ = s.blur mk_ := by
  refine State.blur_mono (m := 268435070) ?_ hmk
  unfold State.moduleRst
  first | (simp; done) | ((repeat' split) <;> first | with_reducible rfl | (simp; done) | (simp_all; done))
@[simp] theorem execModuleReset_blur (v : Word) (s : State) (mk_ : Nat) (hmk : 268435070 &&& mk_ = 268435070) : outBlur mk_ (execModuleReset v s) = some (s.blur mk_) := by
  refine outBlur_mono (m := 268435070) ?_ hmk
  unfold execModuleReset
  first | (simp; done) | ((repeat' split) <;> first | with_reducible rfl | (simp; done) | (simp_all; done))
@[simp] theorem execNvmSubsystemReset_blur (v : Word) (s : State) (mk_ : Nat) (hmk : 268435070 &&& mk_ = 268435070) : outBlur mk_ (execNvmSubsystemReset v s) = some (s.blur mk_) := by
  refine outBlur_mono (m := 268435070) ?_ hmk
  unfold execNvmSubsystemReset
  first | (simp; done) | ((repeat' split) <;> first | with_reducible rfl | (simp; done) | (simp_all; done))
@[simp] theorem State.vltPfw_blur (s : State) (mk_ : Nat) (hmk : 33606672 &&& mk_ = 33606672) : (State.vltPfw s).blur mk_ = s.blur mk_ := by
  refine State.blur_mono (m := 33606672) ?_ hmk
  unfold State.vltPfw
  try dsimp only
  repeat' split
  all_goals first | with_reducible rfl | (simp; done) | (simp [*]; done) | (simp_all; done)
@[simp] theorem State.startPfw_blur (s : State) (mk_ : Nat) (hmk : 16 &&& mk_ = 16) : (State.startPfw s).blur mk_ = s.blur mk_ := by
  refine State.blur_mono (m := 16) ?_ hmk
  unfold State.startPfw
  first | (simp; done) | ((repeat' split) <;> first | with_reducible rfl | (simp; done) | (simp_all; done))
@[simp] theorem State.pfwStops_blur (s : State) (mk_ : Nat) (hmk : 201116752 &&& mk_ = 201116752) : (State.pfwStops s).blur mk_ = s.blur mk_ := by
  refine State.blur_mono (m := 201116752) ?_ hmk
  unfold State.pfwStops
  first | (simp; done) | ((repeat' split) <;> first | with_reducible rfl | (simp; done) | (simp_all; done))
@[simp] theorem State.pfw_blur (s : State) (byLine : Bool) (mk_ : Nat) (hmk : 201120848 &&& mk_ = 201120848) : (State.pfw s byLine).blur mk_ = s.blur mk_ := by
  refine State.blur_mono (m := 201120848) ?_ hmk
  unfold State.pfw
  first | (simp; done) | ((repeat' split) <;> first | with_reducible rfl | (simp; done) | (simp_all; done))
@[simp] theorem execPowerFailWarning_blur (byLine : Bool) (s : State) (mk_ : Nat) (hmk : 201120848 &&& mk_ = 201120848) : outBlur mk_ (execPowerFailWarning byLine s) = some (s.blur mk_) := by
  refine outBlur_mono (m := 201120848) ?_ hmk
  unfold execPowerFailWarning
  first | (simp; done) | ((repeat' split) <;> first | with_reducible rfl | (simp; done) | (simp_all; done))
@[simp] theorem State.lossClose_blur (s : State) (mk_ : Nat) (hmk : 58644560 &&& mk_ = 58644560) : (State.lossClose s).blur mk_ = s.blur mk_ := by
  refine State.blur_mono (m := 58644560) ?_ hmk
  unfold State.lossClose
  first | (simp; done) | ((repeat' split) <;> first | with_reducible rfl | (simp; done) | (simp_all; done))
@[simp] theorem execLossOfMainsClose_blur (s : State) (mk_ : Nat) (hmk : 58644560 &&& mk_ = 58644560) : outBlur mk_ (execLossOfMainsClose s) = some (s.blur mk_) := by
  refine outBlur_mono (m := 58644560) ?_ hmk
  unfold execLossOfMainsClose
  first | (simp; done) | ((repeat' split) <;> first | with_reducible rfl | (simp; done) | (simp_all; done))
@[simp] theorem State.lossRefresh_blur (s : State) (mk_ : Nat) (hmk : 184604688 &&& mk_ = 184604688) : (State.lossRefresh s).blur mk_ = s.blur mk_ := by
  refine State.blur_mono (m := 184604688) ?_ hmk
  unfold State.lossRefresh
  first | (simp; done) | ((repeat' split) <;> first | with_reducible rfl | (simp; done) | (simp_all; done))
@[simp] theorem execLossOfMainsSelfRefresh_blur (s : State) (mk_ : Nat) (hmk : 184604688 &&& mk_ = 184604688) : outBlur mk_ (execLossOfMainsSelfRefresh s) = some (s.blur mk_) := by
  refine outBlur_mono (m := 184604688) ?_ hmk
  unfold execLossOfMainsSelfRefresh
  first | (simp; done) | ((repeat' split) <;> first | with_reducible rfl | (simp; done) | (simp_all; done))
@[simp] theorem State.refreshed_blur (s : State) (mk_ : Nat) (hmk : 50384976 &&& mk_ = 50384976) : (State.refreshed s).blur mk_ = s.blur mk_ := by
  refine State.blur_mono (m := 50384976) ?_ hmk
  unfold State.refreshed
  first | (simp; done) | ((repeat' split) <;> first | with_reducible rfl | (simp; done) | (simp_all; done))
@[simp] theorem execSrEntered_blur (s : State) (mk_ : Nat) (hmk : 50384976 &&& mk_ = 50384976) : outBlur mk_ (execSrEntered s) = some (s.blur mk_) := by
  refine outBlur_mono (m := 50384976) ?_ hmk
  unfold execSrEntered
  first | (simp; done) | ((repeat' split) <;> first | with_reducible rfl | (simp; done) | (simp_all; done))
@[simp] theorem State.railsFall_blur (s : State) (mk_ : Nat) (hmk : 536870526 &&& mk_ = 536870526) : (State.railsFall s).blur mk_ = s.blur mk_ := by
  refine State.blur_mono (m := 536870526) ?_ hmk
  unfold State.railsFall
  first | (simp; done) | ((repeat' split) <;> first | with_reducible rfl | (simp; done) | (simp_all; done))
@[simp] theorem execRailsFall_blur (s : State) (mk_ : Nat) (hmk : 536870526 &&& mk_ = 536870526) : outBlur mk_ (execRailsFall s) = some (s.blur mk_) := by
  refine outBlur_mono (m := 536870526) ?_ hmk
  unfold execRailsFall
  first | (simp; done) | ((repeat' split) <;> first | with_reducible rfl | (simp; done) | (simp_all; done))
@[simp] theorem execPfwDeassert_blur (s : State) (mk_ : Nat) (hmk : 4112 &&& mk_ = 4112) : outBlur mk_ (execPfwDeassert s) = some (s.blur mk_) := by
  refine outBlur_mono (m := 4112) ?_ hmk
  unfold execPfwDeassert
  first | (simp; done) | ((repeat' split) <;> first | with_reducible rfl | (simp; done) | (simp_all; done))
@[simp] theorem State.brownout_blur (s : State) (mk_ : Nat) (hmk : 268435070 &&& mk_ = 268435070) : (State.brownout s).blur mk_ = s.blur mk_ := by
  refine State.blur_mono (m := 268435070) ?_ hmk
  unfold State.brownout
  first | (simp; done) | ((repeat' split) <;> first | with_reducible rfl | (simp; done) | (simp_all; done))
@[simp] theorem execBrownoutReset_blur (s : State) (mk_ : Nat) (hmk : 268435070 &&& mk_ = 268435070) : outBlur mk_ (execBrownoutReset s) = some (s.blur mk_) := by
  refine outBlur_mono (m := 268435070) ?_ hmk
  unfold execBrownoutReset
  first | (simp; done) | ((repeat' split) <;> first | with_reducible rfl | (simp; done) | (simp_all; done))
@[simp] theorem execRetentionLost_blur (s : State) (mk_ : Nat) (hmk : 16781328 &&& mk_ = 16781328) : outBlur mk_ (execRetentionLost s) = some (s.blur mk_) := by
  refine outBlur_mono (m := 16781328) ?_ hmk
  unfold execRetentionLost
  first | (simp; done) | ((repeat' split) <;> first | with_reducible rfl | (simp; done) | (simp_all; done))
@[simp] theorem execRetentionInputChange_blur (inRange : Bool) (s : State) (mk_ : Nat) (hmk : 16 &&& mk_ = 16) : outBlur mk_ (execRetentionInputChange inRange s) = some (s.blur mk_) := by
  refine outBlur_mono (m := 16) ?_ hmk
  unfold execRetentionInputChange
  first | (simp; done) | ((repeat' split) <;> first | with_reducible rfl | (simp; done) | (simp_all; done))
@[simp] theorem execColdReset_blur (retSeconds : Nat) (s : State) (mk_ : Nat) (hmk : 4112 &&& mk_ = 4112) : outBlur mk_ (execColdReset retSeconds s) = some (s.blur mk_) := by
  refine outBlur_mono (m := 4112) ?_ hmk
  unfold execColdReset
  first | (simp; done) | ((repeat' split) <;> first | with_reducible rfl | (simp; done) | (simp_all; done))
@[simp] theorem execStartAbandoned_blur (s : State) (mk_ : Nat) (hmk : 4112 &&& mk_ = 4112) : outBlur mk_ (execStartAbandoned s) = some (s.blur mk_) := by
  refine outBlur_mono (m := 4112) ?_ hmk
  unfold execStartAbandoned
  first | (simp; done) | ((repeat' split) <;> first | with_reducible rfl | (simp; done) | (simp_all; done))
@[simp] theorem execPowerGood_blur (testEn : Bool) (s : State) (mk_ : Nat) (hmk : 4112 &&& mk_ = 4112) : outBlur mk_ (execPowerGood testEn s) = some (s.blur mk_) := by
  refine outBlur_mono (m := 4112) ?_ hmk
  unfold execPowerGood
  first | (simp; done) | ((repeat' split) <;> first | with_reducible rfl | (simp; done) | (simp_all; done))
@[simp] theorem State.selftestDone_blur (s : State) (pass : Bool) (mk_ : Nat) (hmk : 55312 &&& mk_ = 55312) : (State.selftestDone s pass).blur mk_ = s.blur mk_ := by
  refine State.blur_mono (m := 55312) ?_ hmk
  unfold State.selftestDone
  first | (simp; done) | ((repeat' split) <;> first | with_reducible rfl | (simp; done) | (simp_all; done))
@[simp] theorem execSelftestComplete_blur (pass : Bool) (s : State) (mk_ : Nat) (hmk : 55312 &&& mk_ = 55312) : outBlur mk_ (execSelftestComplete pass s) = some (s.blur mk_) := by
  refine outBlur_mono (m := 55312) ?_ hmk
  unfold execSelftestComplete
  first | (simp; done) | ((repeat' split) <;> first | with_reducible rfl | (simp; done) | (simp_all; done))
@[simp] theorem State.applyHst_blur (s : State) (p : Plane) (mk_ : Nat) (hmk : 4144 &&& mk_ = 4144) : (State.applyHst s p).blur mk_ = s.blur mk_ := by
  refine State.blur_mono (m := 4144) ?_ hmk
  unfold State.applyHst
  first | (simp; done) | ((repeat' split) <;> first | with_reducible rfl | (simp; done) | (simp_all; done))
@[simp] theorem State.slotCheck_blur (s : State) (readOk : Bool) (mk_ : Nat) (hmk : 53296 &&& mk_ = 53296) : (State.slotCheck s readOk).blur mk_ = s.blur mk_ := by
  refine State.blur_mono (m := 53296) ?_ hmk
  unfold State.slotCheck
  try dsimp only
  repeat' split
  all_goals first | with_reducible rfl | (simp; done) | (simp [*]; done) | (simp_all; done)
@[simp] theorem execSlotCheckComplete_blur (readOk : Bool) (s : State) (mk_ : Nat) (hmk : 53296 &&& mk_ = 53296) : outBlur mk_ (execSlotCheckComplete readOk s) = some (s.blur mk_) := by
  refine outBlur_mono (m := 53296) ?_ hmk
  unfold execSlotCheckComplete
  first | (simp; done) | ((repeat' split) <;> first | with_reducible rfl | (simp; done) | (simp_all; done))
@[simp] theorem State.scFail_blur (s : State) (n : Nat) (step : Nat) (mk_ : Nat) (hmk : 49168 &&& mk_ = 49168) : (State.scFail s n step).blur mk_ = s.blur mk_ := by
  refine State.blur_mono (m := 49168) ?_ hmk
  unfold State.scFail
  first | (simp; done) | ((repeat' split) <;> first | with_reducible rfl | (simp; done) | (simp_all; done))
@[simp] theorem State.scTrained_blur (s : State) (ns : List Nat) (failed : BitVec 16) (failStep : Nat) (mk_ : Nat) (hmk : 201254992 &&& mk_ = 201254992) : (State.scTrained s ns failed failStep).blur mk_ = s.blur mk_ := by
  refine State.blur_mono (m := 201254992) ?_ hmk
  unfold State.scTrained
  first | (simp; done) | ((repeat' split) <;> first | with_reducible rfl | (simp; done) | (simp_all; done))
@[simp] theorem State.exitFailed_blur (s : State) (failed : BitVec 16) (failStep : Nat) (mk_ : Nat) (hmk : 201254992 &&& mk_ = 201254992) : (State.exitFailed s failed failStep).blur mk_ = s.blur mk_ := by
  refine State.blur_mono (m := 201254992) ?_ hmk
  unfold State.exitFailed
  first | (simp; done) | ((repeat' split) <;> first | with_reducible rfl | (simp; done) | (simp_all; done))
@[simp] theorem State.trainingDone_blur (s : State) (failed : BitVec 16) (failStep : Nat) (mk_ : Nat) (hmk : 201254992 &&& mk_ = 201254992) : (State.trainingDone s failed failStep).blur mk_ = s.blur mk_ := by
  refine State.blur_mono (m := 201254992) ?_ hmk
  unfold State.trainingDone
  first | (simp; done) | ((repeat' split) <;> first | with_reducible rfl | (simp; done) | (simp_all; done))
@[simp] theorem execTrainingComplete_blur (failed : BitVec 16) (failStep : BitVec 4) (s : State) (mk_ : Nat) (hmk : 201254992 &&& mk_ = 201254992) : outBlur mk_ (execTrainingComplete failed failStep s) = some (s.blur mk_) := by
  refine outBlur_mono (m := 201254992) ?_ hmk
  unfold execTrainingComplete
  first | (simp; done) | ((repeat' split) <;> first | with_reducible rfl | (simp; done) | (simp_all; done))
@[simp] theorem State.framesDone_blur (s : State) (mk_ : Nat) (hmk : 51698288 &&& mk_ = 51698288) : (State.framesDone s).blur mk_ = s.blur mk_ := by
  refine State.blur_mono (m := 51698288) ?_ hmk
  unfold State.framesDone
  try dsimp only
  repeat' split
  all_goals first | with_reducible rfl | (simp; done) | (simp [*]; done) | (simp_all; done)
@[simp] theorem execFramesApplied_blur (s : State) (mk_ : Nat) (hmk : 51698288 &&& mk_ = 51698288) : outBlur mk_ (execFramesApplied s) = some (s.blur mk_) := by
  refine outBlur_mono (m := 51698288) ?_ hmk
  unfold execFramesApplied
  first | (simp; done) | ((repeat' split) <;> first | with_reducible rfl | (simp; done) | (simp_all; done))
@[simp] theorem State.goLive_blur (s : State) (mk_ : Nat) (hmk : 58718288 &&& mk_ = 58718288) : (State.goLive s).blur mk_ = s.blur mk_ := by
  refine State.blur_mono (m := 58718288) ?_ hmk
  unfold State.goLive
  first | (simp; done) | ((repeat' split) <;> first | with_reducible rfl | (simp; done) | (simp_all; done))
@[simp] theorem State.release_blur (s : State) (railsOk : Bool) (audOk : Bool) (hstOk : Bool) (mk_ : Nat) (hmk : 268433488 &&& mk_ = 268433488) : (State.release s railsOk audOk hstOk).blur mk_ = s.blur mk_ := by
  refine State.blur_mono (m := 268433488) ?_ hmk
  unfold State.release
  first | (simp; done) | ((repeat' split) <;> first | with_reducible rfl | (simp; done) | (simp_all; done))
@[simp] theorem execRelease_blur (railsOk : Bool) (audOk : Bool) (hstOk : Bool) (s : State) (mk_ : Nat) (hmk : 268433488 &&& mk_ = 268433488) : outBlur mk_ (execRelease railsOk audOk hstOk s) = some (s.blur mk_) := by
  refine outBlur_mono (m := 268433488) ?_ hmk
  unfold execRelease
  first | (simp; done) | ((repeat' split) <;> first | with_reducible rfl | (simp; done) | (simp_all; done))
@[simp] theorem State.linkDown_blur (s : State) (mk_ : Nat) (hmk : 49168 &&& mk_ = 49168) : (State.linkDown s).blur mk_ = s.blur mk_ := by
  refine State.blur_mono (m := 49168) ?_ hmk
  unfold State.linkDown
  first | (simp; done) | ((repeat' split) <;> first | with_reducible rfl | (simp; done) | (simp_all; done))
@[simp] theorem State.linkUp_blur (s : State) (speed : Nat) (width : Nat) (mk_ : Nat) (hmk : 49168 &&& mk_ = 49168) : (State.linkUp s speed width).blur mk_ = s.blur mk_ := by
  refine State.blur_mono (m := 49168) ?_ hmk
  unfold State.linkUp
  first | (simp; done) | ((repeat' split) <;> first | with_reducible rfl | (simp; done) | (simp_all; done))
@[simp] theorem execPcieLinkUp_blur (speed : Nat) (width : Nat) (s : State) (mk_ : Nat) (hmk : 49168 &&& mk_ = 49168) : outBlur mk_ (execPcieLinkUp speed width s) = some (s.blur mk_) := by
  refine outBlur_mono (m := 49168) ?_ hmk
  unfold execPcieLinkUp
  first | (simp; done) | ((repeat' split) <;> first | with_reducible rfl | (simp; done) | (simp_all; done))
@[simp] theorem execPcieLinkDown_blur (s : State) (mk_ : Nat) (hmk : 49168 &&& mk_ = 49168) : outBlur mk_ (execPcieLinkDown s) = some (s.blur mk_) := by
  refine outBlur_mono (m := 49168) ?_ hmk
  unfold execPcieLinkDown
  first | (simp; done) | ((repeat' split) <;> first | with_reducible rfl | (simp; done) | (simp_all; done))
@[simp] theorem State.hstFrame_blur (s : State) (mk_ : Nat) (hmk : 48 &&& mk_ = 48) : (State.hstFrame s).blur mk_ = s.blur mk_ := by
  refine State.blur_mono (m := 48) ?_ hmk
  unfold State.hstFrame
  first | (simp; done) | ((repeat' split) <;> first | with_reducible rfl | (simp; done) | (simp_all; done))
@[simp] theorem State.perstReset_blur (s : State) (mk_ : Nat) (hmk : 33605744 &&& mk_ = 33605744) : (State.perstReset s).blur mk_ = s.blur mk_ := by
  refine State.blur_mono (m := 33605744) ?_ hmk
  unfold State.perstReset
  first | (simp; done) | ((repeat' split) <;> first | with_reducible rfl | (simp; done) | (simp_all; done))
@[simp] theorem State.perstLow_blur (s : State) (mk_ : Nat) (hmk : 33609840 &&& mk_ = 33609840) : (State.perstLow s).blur mk_ = s.blur mk_ := by
  refine State.blur_mono (m := 33609840) ?_ hmk
  unfold State.perstLow
  dsimp only
  repeat' split
  all_goals simp
@[simp] theorem execPerstAssert_blur (s : State) (mk_ : Nat) (hmk : 33609840 &&& mk_ = 33609840) : outBlur mk_ (execPerstAssert s) = some (s.blur mk_) := by
  refine outBlur_mono (m := 33609840) ?_ hmk
  unfold execPerstAssert
  first | (simp; done) | ((repeat' split) <;> first | with_reducible rfl | (simp; done) | (simp_all; done))
@[simp] theorem execPerstDeassert_blur (s : State) (mk_ : Nat) (hmk : 4112 &&& mk_ = 4112) : outBlur mk_ (execPerstDeassert s) = some (s.blur mk_) := by
  refine outBlur_mono (m := 4112) ?_ hmk
  unfold execPerstDeassert
  first | (simp; done) | ((repeat' split) <;> first | with_reducible rfl | (simp; done) | (simp_all; done))
@[simp] theorem State.stepRule_blur (s : State) (f : Nat → Nat) (mk_ : Nat) (hmk : 585744 &&& mk_ = 585744) : (State.stepRule s f).blur mk_ = s.blur mk_ := by
  refine State.blur_mono (m := 585744) ?_ hmk
  unfold State.stepRule
  first | (simp; done) | ((repeat' split) <;> first | with_reducible rfl | (simp; done) | (simp_all; done))
@[simp] theorem execPowerSupervisorEvaluate_blur (inputMw : Nat) (s : State) (mk_ : Nat) (hmk : 585744 &&& mk_ = 585744) : outBlur mk_ (execPowerSupervisorEvaluate inputMw s) = some (s.blur mk_) := by
  refine outBlur_mono (m := 585744) ?_ hmk
  unfold execPowerSupervisorEvaluate
  first | (simp; done) | ((repeat' split) <;> first | with_reducible rfl | (simp; done) | (simp_all; done))
@[simp] theorem execStepPwrSlower_blur (s : State) (mk_ : Nat) (hmk : 585744 &&& mk_ = 585744) : outBlur mk_ (execStepPwrSlower s) = some (s.blur mk_) := by
  refine outBlur_mono (m := 585744) ?_ hmk
  unfold execStepPwrSlower
  first | (simp; done) | ((repeat' split) <;> first | with_reducible rfl | (simp; done) | (simp_all; done))
@[simp] theorem execStepPwrFaster_blur (s : State) (mk_ : Nat) (hmk : 585744 &&& mk_ = 585744) : outBlur mk_ (execStepPwrFaster s) = some (s.blur mk_) := by
  refine outBlur_mono (m := 585744) ?_ hmk
  unfold execStepPwrFaster
  first | (simp; done) | ((repeat' split) <;> first | with_reducible rfl | (simp; done) | (simp_all; done))
@[simp] theorem State.stepLimit_blur (s : State) (v : Word) (mk_ : Nat) (hmk : 581648 &&& mk_ = 581648) : (State.stepLimit s v).blur mk_ = s.blur mk_ := by
  refine State.blur_mono (m := 581648) ?_ hmk
  unfold State.stepLimit
  first | (simp; done) | ((repeat' split) <;> first | with_reducible rfl | (simp; done) | (simp_all; done))
@[simp] theorem execStepLimitWrite_blur (v : Word) (s : State) (mk_ : Nat) (hmk : 581648 &&& mk_ = 581648) : outBlur mk_ (execStepLimitWrite v s) = some (s.blur mk_) := by
  refine outBlur_mono (m := 581648) ?_ hmk
  unfold execStepLimitWrite
  first | (simp; done) | ((repeat' split) <;> first | with_reducible rfl | (simp; done) | (simp_all; done))
@[simp] theorem execThermalCutoff_blur (s : State) (mk_ : Nat) (hmk : 536870526 &&& mk_ = 536870526) : outBlur mk_ (execThermalCutoff s) = some (s.blur mk_) := by
  refine outBlur_mono (m := 536870526) ?_ hmk
  unfold execThermalCutoff
  first | (simp; done) | ((repeat' split) <;> first | with_reducible rfl | (simp; done) | (simp_all; done))
@[simp] theorem execMainsOffAfterCutoff_blur (s : State) (mk_ : Nat) (hmk : 4112 &&& mk_ = 4112) : outBlur mk_ (execMainsOffAfterCutoff s) = some (s.blur mk_) := by
  refine outBlur_mono (m := 4112) ?_ hmk
  unfold execMainsOffAfterCutoff
  first | (simp; done) | ((repeat' split) <;> first | with_reducible rfl | (simp; done) | (simp_all; done))
@[simp] theorem State.setTap_blur (s : State) (sel : Nat) (cells : List Bool) (mk_ : Nat) (hmk : 268435456 &&& mk_ = 268435456) : (State.setTap s sel cells).blur mk_ = s.blur mk_ := by
  refine State.blur_mono (m := 268435456) ?_ hmk
  unfold State.setTap
  first | (simp; done) | ((repeat' split) <;> first | with_reducible rfl | (simp; done) | (simp_all; done))
@[simp] theorem execTapBypass_blur (_ir : BitVec 8) (s : State) (mk_ : Nat) (hmk : 268435456 &&& mk_ = 268435456) : outBlur mk_ (execTapBypass _ir s) = some (s.blur mk_) := by
  refine outBlur_mono (m := 268435456) ?_ hmk
  unfold execTapBypass
  first | (simp; done) | ((repeat' split) <;> first | with_reducible rfl | (simp; done) | (simp_all; done))
@[simp] theorem execTapIdcode_blur (s : State) (mk_ : Nat) (hmk : 805306368 &&& mk_ = 805306368) : outBlur mk_ (execTapIdcode s) = some (s.blur mk_) := by
  refine outBlur_mono (m := 805306368) ?_ hmk
  unfold execTapIdcode
  first | (simp; done) | ((repeat' split) <;> first | with_reducible rfl | (simp; done) | (simp_all; done))
@[simp] theorem execTapSamplePreload_blur (pins : List Bool) (s : State) (mk_ : Nat) (hmk : 268435456 &&& mk_ = 268435456) : outBlur mk_ (execTapSamplePreload pins s) = some (s.blur mk_) := by
  refine outBlur_mono (m := 268435456) ?_ hmk
  unfold execTapSamplePreload
  first | (simp; done) | ((repeat' split) <;> first | with_reducible rfl | (simp; done) | (simp_all; done))
@[simp] theorem execTapExtest_blur (cells : List Bool) (s : State) (mk_ : Nat) (hmk : 268435456 &&& mk_ = 268435456) : outBlur mk_ (execTapExtest cells s) = some (s.blur mk_) := by
  refine outBlur_mono (m := 268435456) ?_ hmk
  unfold execTapExtest
  first | (simp; done) | ((repeat' split) <;> first | with_reducible rfl | (simp; done) | (simp_all; done))

end Sys2Proof.Machine
end

