-- ==== Sys2Proof/Laws/FrameRegRead.lean ====
section
/-! SUPPORT. The fields that the operations of RegRead can change (see Laws/Frame.lean). -/

set_option Elab.async false
set_option linter.unusedTactic false
set_option linter.unreachableTactic false

namespace Sys2Proof.Machine

open Sys2Proof

@[simp] theorem State.capHi_blur (s : State) (a : Nat) (q : BitVec 64) (mk_ : Nat) (hmk : 16 &&& mk_ = 16) : (State.capHi s a q).blur mk_ = s.blur mk_ := by
  refine State.blur_mono (m := 16) ?_ hmk
  unfold State.capHi
  first | (simp; done) | ((repeat' split) <;> first | with_reducible rfl | (simp; done) | (simp_all; done))
@[simp] theorem State.capMint_blur (s : State) (a : Nat) (m : Mint) (mk_ : Nat) (hmk : 16 &&& mk_ = 16) : (State.capMint s a m).blur mk_ = s.blur mk_ := by
  refine State.blur_mono (m := 16) ?_ hmk
  unfold State.capMint
  first | (simp; done) | ((repeat' split) <;> first | with_reducible rfl | (simp; done) | (simp_all; done))
@[simp] theorem State.readReg_blur (s : State) (k : Kind) (n : Nat) (o : Nat) (a : Nat) (mk_ : Nat) (hmk : 16 &&& mk_ = 16) : (State.readReg s k n o a).2.blur mk_ = s.blur mk_ := by
  refine State.blur_mono (m := 16) ?_ hmk
  unfold State.readReg
  first | (simp; done) | ((repeat' split) <;> first | with_reducible rfl | (simp; done) | (simp_all; done))
@[simp] theorem State.busRead_blur (s : State) (a : Nat) (mk_ : Nat) (hmk : 16 &&& mk_ = 16) : (State.busRead s a).2.blur mk_ = s.blur mk_ := by
  refine State.blur_mono (m := 16) ?_ hmk
  unfold State.busRead
  try dsimp only
  repeat' split
  all_goals first | with_reducible rfl | (simp; done) | (simp [*]; done) | (simp_all; done)
@[simp] theorem State.answerBus_blur (s : State) (lo : Word) (hi : Word) (mk_ : Nat) (hmk : 536870912 &&& mk_ = 536870912) : (State.answerBus s lo hi).blur mk_ = s.blur mk_ := by
  refine State.blur_mono (m := 536870912) ?_ hmk
  unfold State.answerBus
  first | (simp; done) | ((repeat' split) <;> first | with_reducible rfl | (simp; done) | (simp_all; done))
@[simp] theorem State.readBus_blur (s : State) (a : Nat) (wide : Bool) (mk_ : Nat) (hmk : 536870928 &&& mk_ = 536870928) : (State.readBus s a wide).blur mk_ = s.blur mk_ := by
  refine State.blur_mono (m := 536870928) ?_ hmk
  unfold State.readBus
  first | (simp; done) | ((repeat' split) <;> first | with_reducible rfl | (simp; done) | (simp_all; done))
@[simp] theorem execReadToClear_blur (addr : BitVec 26) (wide : Bool) (s : State) (mk_ : Nat) (hmk : 536870928 &&& mk_ = 536870928) : outBlur mk_ (execReadToClear addr wide s) = some (s.blur mk_) := by
  refine outBlur_mono (m := 536870928) ?_ hmk
  unfold execReadToClear
  first | (simp; done) | ((repeat' split) <;> first | with_reducible rfl | (simp; done) | (simp_all; done))
@[simp] theorem execCaptureRead_blur (addr : BitVec 26) (s : State) (mk_ : Nat) (hmk : 536870928 &&& mk_ = 536870928) : outBlur mk_ (execCaptureRead addr s) = some (s.blur mk_) := by
  refine outBlur_mono (m := 536870928) ?_ hmk
  unfold execCaptureRead
  first | (simp; done) | ((repeat' split) <;> first | with_reducible rfl | (simp; done) | (simp_all; done))

end Sys2Proof.Machine
end

