-- ==== Sys2Proof/Laws/FrameRegs.lean ====
section
/-! SUPPORT. The fields that the operations of Regs can change (see Laws/Frame.lean). -/

set_option Elab.async false
set_option linter.unusedTactic false
set_option linter.unreachableTactic false

namespace Sys2Proof.Machine

open Sys2Proof

@[simp] theorem State.altered_blur (s : State) (mk_ : Nat) (hmk : 1040 &&& mk_ = 1040) : (State.altered s).blur mk_ = s.blur mk_ := by
  refine State.blur_mono (m := 1040) ?_ hmk
  unfold State.altered
  first | (simp; done) | ((repeat' split) <;> first | with_reducible rfl | (simp; done) | (simp_all; done))
@[simp] theorem State.putReg_blur (s : State) (a : Nat) (v : Word) (mk_ : Nat) (hmk : 50224 &&& mk_ = 50224) : (State.putReg s a v).blur mk_ = s.blur mk_ := by
  refine State.blur_mono (m := 50224) ?_ hmk
  unfold State.putReg
  first | (simp; done) | ((repeat' split) <;> first | with_reducible rfl | (simp; done) | (simp_all; done))
@[simp] theorem State.putUnless_blur (s : State) (busy : Bool) (a : Nat) (v : Word) (mk_ : Nat) (hmk : 50224 &&& mk_ = 50224) : (State.putUnless s busy a v).blur mk_ = s.blur mk_ := by
  refine State.blur_mono (m := 50224) ?_ hmk
  unfold State.putUnless
  first | (simp; done) | ((repeat' split) <;> first | with_reducible rfl | (simp; done) | (simp_all; done))
@[simp] theorem State.settlePix_blur (s t : State) (a : Nat) (mk_ : Nat) (hmk : 16 &&& mk_ = 16) :
    (State.settlePix s t a).blur mk_ = t.blur mk_ := by
  unfold State.settlePix
  split
  · exact (State.syncLeads_blur _ _ hmk).trans (State.forEach_blur _ _ _ State.setSteps (fun u x => State.setSteps_blur _ _ _ hmk))
  · rfl
@[simp] theorem State.vltCmd_blur (s : State) (v : Word) (mk_ : Nat) (hmk : 268435448 &&& mk_ = 268435448) : (State.vltCmd s v).blur mk_ = s.blur mk_ := by
  refine State.blur_mono (m := 268435448) ?_ hmk
  unfold State.vltCmd
  first | (simp; done) | ((repeat' split) <;> first | with_reducible rfl | (simp; done) | (simp_all; done))
@[simp] theorem State.wDev_blur (s : State) (a : Nat) (v : Word) (mk_ : Nat) (hmk : 268435070 &&& mk_ = 268435070) : (State.wDev s a v).blur mk_ = s.blur mk_ := by
  refine State.blur_mono (m := 268435070) ?_ hmk
  unfold State.wDev
  first | (simp; done) | ((repeat' split) <;> first | with_reducible rfl | (simp; done) | (simp_all; done))
@[simp] theorem State.wVault_blur (s : State) (a : Nat) (v : Word) (mk_ : Nat) (hmk : 268435448 &&& mk_ = 268435448) : (State.wVault s a v).blur mk_ = s.blur mk_ := by
  refine State.blur_mono (m := 268435448) ?_ hmk
  unfold State.wVault
  first | (simp; done) | ((repeat' split) <;> first | with_reducible rfl | (simp; done) | (simp_all; done))
@[simp] theorem State.wMem_blur (s : State) (o : Nat) (a : Nat) (v : Word) (mk_ : Nat) (hmk : 50224 &&& mk_ = 50224) : (State.wMem s o a v).blur mk_ = s.blur mk_ := by
  refine State.blur_mono (m := 50224) ?_ hmk
  unfold State.wMem
  first | (simp; done) | ((repeat' split) <;> first | with_reducible rfl | (simp; done) | (simp_all; done))
@[simp] theorem State.wSc_blur (s : State) (n : Nat) (a : Nat) (v : Word) (mk_ : Nat) (hmk : 50224 &&& mk_ = 50224) : (State.wSc s n a v).blur mk_ = s.blur mk_ := by
  refine State.blur_mono (m := 50224) ?_ hmk
  unfold State.wSc
  first | (simp; done) | ((repeat' split) <;> first | with_reducible rfl | (simp; done) | (simp_all; done))
@[simp] theorem State.pixPut_blur (s : State) (i : Nat) (a : Nat) (v : Word) (mk_ : Nat) (hmk : 50224 &&& mk_ = 50224) : (State.pixPut s i a v).blur mk_ = s.blur mk_ := by
  refine State.blur_mono (m := 50224) ?_ hmk
  unfold State.pixPut
  first | (simp; done) | ((repeat' split) <;> first | with_reducible rfl | (simp; done) | (simp_all; done))
@[simp] theorem State.wPort_blur (s : State) (n : Nat) (a : Nat) (v : Word) (mk_ : Nat) (hmk : 58641520 &&& mk_ = 58641520) : (State.wPort s n a v).blur mk_ = s.blur mk_ := by
  refine State.blur_mono (m := 58641520) ?_ hmk
  unfold State.wPort
  first | (simp; done) | ((repeat' split) <;> first | with_reducible rfl | (simp; done) | (simp_all; done))
@[simp] theorem State.wLane_blur (s : State) (l : Nat) (a : Nat) (v : Word) (mk_ : Nat) (hmk : 50224 &&& mk_ = 50224) : (State.wLane s l a v).blur mk_ = s.blur mk_ := by
  refine State.blur_mono (m := 50224) ?_ hmk
  unfold State.wLane
  first | (simp; done) | ((repeat' split) <;> first | with_reducible rfl | (simp; done) | (simp_all; done))
@[simp] theorem State.wIngPort_blur (s : State) (n : Nat) (a : Nat) (v : Word) (mk_ : Nat) (hmk : 50646064 &&& mk_ = 50646064) : (State.wIngPort s n a v).blur mk_ = s.blur mk_ := by
  refine State.blur_mono (m := 50646064) ?_ hmk
  unfold State.wIngPort
  first | (simp; done) | ((repeat' split) <;> first | with_reducible rfl | (simp; done) | (simp_all; done))
@[simp] theorem State.wIngStr_blur (s : State) (o : Nat) (a : Nat) (v : Word) (mk_ : Nat) (hmk : 50224 &&& mk_ = 50224) : (State.wIngStr s o a v).blur mk_ = s.blur mk_ := by
  refine State.blur_mono (m := 50224) ?_ hmk
  unfold State.wIngStr
  first | (simp; done) | ((repeat' split) <;> first | with_reducible rfl | (simp; done) | (simp_all; done))
@[simp] theorem State.wIngRec_blur (s : State) (o : Nat) (a : Nat) (v : Word) (mk_ : Nat) (hmk : 17089584 &&& mk_ = 17089584) : (State.wIngRec s o a v).blur mk_ = s.blur mk_ := by
  refine State.blur_mono (m := 17089584) ?_ hmk
  unfold State.wIngRec
  first | (simp; done) | ((repeat' split) <;> first | with_reducible rfl | (simp; done) | (simp_all; done))
@[simp] theorem State.wTbl_blur (s : State) (t : Nat) (a : Nat) (v : Word) (mk_ : Nat) (hmk : 705584 &&& mk_ = 705584) : (State.wTbl s t a v).blur mk_ = s.blur mk_ := by
  refine State.blur_mono (m := 705584) ?_ hmk
  unfold State.wTbl
  first | (simp; done) | ((repeat' split) <;> first | with_reducible rfl | (simp; done) | (simp_all; done))
@[simp] theorem State.wAxis_blur (s : State) (n : Nat) (a : Nat) (v : Word) (mk_ : Nat) (hmk : 574512 &&& mk_ = 574512) : (State.wAxis s n a v).blur mk_ = s.blur mk_ := by
  refine State.blur_mono (m := 574512) ?_ hmk
  unfold State.wAxis
  first | (simp; done) | ((repeat' split) <;> first | with_reducible rfl | (simp; done) | (simp_all; done))
@[simp] theorem State.wA6_blur (s : State) (a : Nat) (v : Word) (mk_ : Nat) (hmk : 574576 &&& mk_ = 574576) : (State.wA6 s a v).blur mk_ = s.blur mk_ := by
  refine State.blur_mono (m := 574576) ?_ hmk
  unfold State.wA6
  first | (simp; done) | ((repeat' split) <;> first | with_reducible rfl | (simp; done) | (simp_all; done))
@[simp] theorem State.wSchHead_blur (s : State) (n : Nat) (a : Nat) (v : Word) (mk_ : Nat) (hmk : 50224 &&& mk_ = 50224) : (State.wSchHead s n a v).blur mk_ = s.blur mk_ := by
  refine State.blur_mono (m := 50224) ?_ hmk
  unfold State.wSchHead
  first | (simp; done) | ((repeat' split) <;> first | with_reducible rfl | (simp; done) | (simp_all; done))
@[simp] theorem State.wSchStr_blur (s : State) (o : Nat) (a : Nat) (v : Word) (mk_ : Nat) (hmk : 10273840 &&& mk_ = 10273840) : (State.wSchStr s o a v).blur mk_ = s.blur mk_ := by
  refine State.blur_mono (m := 10273840) ?_ hmk
  unfold State.wSchStr
  first | (simp; done) | ((repeat' split) <;> first | with_reducible rfl | (simp; done) | (simp_all; done))
@[simp] theorem State.wPix_blur (s : State) (c : Nat) (a : Nat) (v0 : Word) (mk_ : Nat) (hmk : 50224 &&& mk_ = 50224) : (State.wPix s c a v0).blur mk_ = s.blur mk_ := by
  refine State.blur_mono (m := 50224) ?_ hmk
  unfold State.wPix
  first | (simp; done) | ((repeat' split) <;> first | with_reducible rfl | (simp; done) | (simp_all; done))
@[simp] theorem State.wCorJob_blur (s : State) (o : Nat) (a : Nat) (v : Word) (mk_ : Nat) (hmk : 19186800 &&& mk_ = 19186800) : (State.wCorJob s o a v).blur mk_ = s.blur mk_ := by
  refine State.blur_mono (m := 19186800) ?_ hmk
  unfold State.wCorJob
  first | (simp; done) | ((repeat' split) <;> first | with_reducible rfl | (simp; done) | (simp_all; done))
@[simp] theorem State.wCorGauge_blur (s : State) (o : Nat) (a : Nat) (v : Word) (mk_ : Nat) (hmk : 50224 &&& mk_ = 50224) : (State.wCorGauge s o a v).blur mk_ = s.blur mk_ := by
  refine State.blur_mono (m := 50224) ?_ hmk
  unfold State.wCorGauge
  first | (simp; done) | ((repeat' split) <;> first | with_reducible rfl | (simp; done) | (simp_all; done))
@[simp] theorem State.wCmp_blur (s : State) (a : Nat) (v : Word) (mk_ : Nat) (hmk : 23381104 &&& mk_ = 23381104) : (State.wCmp s a v).blur mk_ = s.blur mk_ := by
  refine State.blur_mono (m := 23381104) ?_ hmk
  unfold State.wCmp
  first | (simp; done) | ((repeat' split) <;> first | with_reducible rfl | (simp; done) | (simp_all; done))
@[simp] theorem State.wEnc_blur (s : State) (c : Nat) (a : Nat) (v : Word) (mk_ : Nat) (hmk : 9487408 &&& mk_ = 9487408) : (State.wEnc s c a v).blur mk_ = s.blur mk_ := by
  refine State.blur_mono (m := 9487408) ?_ hmk
  unfold State.wEnc
  first | (simp; done) | ((repeat' split) <;> first | with_reducible rfl | (simp; done) | (simp_all; done))
@[simp] theorem State.wDec_blur (s : State) (d : Nat) (a : Nat) (v : Word) (mk_ : Nat) (hmk : 25216048 &&& mk_ = 25216048) : (State.wDec s d a v).blur mk_ = s.blur mk_ := by
  refine State.blur_mono (m := 25216048) ?_ hmk
  unfold State.wDec
  first | (simp; done) | ((repeat' split) <;> first | with_reducible rfl | (simp; done) | (simp_all; done))
@[simp] theorem State.wRtp_blur (s : State) (o : Nat) (a : Nat) (v : Word) (mk_ : Nat) (hmk : 50224 &&& mk_ = 50224) : (State.wRtp s o a v).blur mk_ = s.blur mk_ := by
  refine State.blur_mono (m := 50224) ?_ hmk
  unfold State.wRtp
  first | (simp; done) | ((repeat' split) <;> first | with_reducible rfl | (simp; done) | (simp_all; done))
@[simp] theorem State.ccWrite_blur (s : State) (v0 : Word) (mk_ : Nat) (hmk : 33605648 &&& mk_ = 33605648) : (State.ccWrite s v0).blur mk_ = s.blur mk_ := by
  refine State.blur_mono (m := 33605648) ?_ hmk
  unfold State.ccWrite
  first | (simp; done) | ((repeat' split) <;> first | with_reducible rfl | (simp; done) | (simp_all; done))
@[simp] theorem State.nvmeWrite_blur (s : State) (o : Nat) (v : Word) (mk_ : Nat) (hmk : 268435070 &&& mk_ = 268435070) : (State.nvmeWrite s o v).blur mk_ = s.blur mk_ := by
  refine State.blur_mono (m := 268435070) ?_ hmk
  unfold State.nvmeWrite
  first | (simp; done) | ((repeat' split) <;> first | with_reducible rfl | (simp; done) | (simp_all; done))
@[simp] theorem State.wNvme_blur (s : State) (a : Nat) (v : Word) (mk_ : Nat) (hmk : 33604656 &&& mk_ = 33604656) : (State.wNvme s a v).blur mk_ = s.blur mk_ := by
  refine State.blur_mono (m := 33604656) ?_ hmk
  unfold State.wNvme
  first | (simp; done) | ((repeat' split) <;> first | with_reducible rfl | (simp; done) | (simp_all; done))
@[simp] theorem State.wMint_blur (s : State) (a : Nat) (v : Word) (mk_ : Nat) (hmk : 67814456 &&& mk_ = 67814456) : (State.wMint s a v).blur mk_ = s.blur mk_ := by
  refine State.blur_mono (m := 67814456) ?_ hmk
  unfold State.wMint
  first | (simp; done) | ((repeat' split) <;> first | with_reducible rfl | (simp; done) | (simp_all; done))
@[simp] theorem State.wNetPort_blur (s : State) (m : Nat) (o : Nat) (a : Nat) (v : Word) (mk_ : Nat) (hmk : 50224 &&& mk_ = 50224) : (State.wNetPort s m o a v).blur mk_ = s.blur mk_ := by
  refine State.blur_mono (m := 50224) ?_ hmk
  unfold State.wNetPort
  first | (simp; done) | ((repeat' split) <;> first | with_reducible rfl | (simp; done) | (simp_all; done))
@[simp] theorem State.wDh_blur (s : State) (d : Nat) (o : Nat) (a : Nat) (v : Word) (mk_ : Nat) (hmk : 160482352 &&& mk_ = 160482352) : (State.wDh s d o a v).blur mk_ = s.blur mk_ := by
  refine State.blur_mono (m := 160482352) ?_ hmk
  unfold State.wDh
  first | (simp; done) | ((repeat' split) <;> first | with_reducible rfl | (simp; done) | (simp_all; done))
@[simp] theorem State.wAesRx_blur (s : State) (n : Nat) (a : Nat) (v : Word) (mk_ : Nat) (hmk : 134267952 &&& mk_ = 134267952) : (State.wAesRx s n a v).blur mk_ = s.blur mk_ := by
  refine State.blur_mono (m := 134267952) ?_ hmk
  unfold State.wAesRx
  first | (simp; done) | ((repeat' split) <;> first | with_reducible rfl | (simp; done) | (simp_all; done))
@[simp] theorem State.wAesTx_blur (s : State) (a : Nat) (v : Word) (mk_ : Nat) (hmk : 134267952 &&& mk_ = 134267952) : (State.wAesTx s a v).blur mk_ = s.blur mk_ := by
  refine State.blur_mono (m := 134267952) ?_ hmk
  unfold State.wAesTx
  first | (simp; done) | ((repeat' split) <;> first | with_reducible rfl | (simp; done) | (simp_all; done))
@[simp] theorem State.wCh_blur (s : State) (o : Nat) (a : Nat) (v : Word) (mk_ : Nat) (hmk : 50224 &&& mk_ = 50224) : (State.wCh s o a v).blur mk_ = s.blur mk_ := by
  refine State.blur_mono (m := 50224) ?_ hmk
  unfold State.wCh
  first | (simp; done) | ((repeat' split) <;> first | with_reducible rfl | (simp; done) | (simp_all; done))
@[simp] theorem State.wAud_blur (s : State) (o : Nat) (a : Nat) (v : Word) (mk_ : Nat) (hmk : 201256048 &&& mk_ = 201256048) : (State.wAud s o a v).blur mk_ = s.blur mk_ := by
  refine State.blur_mono (m := 201256048) ?_ hmk
  unfold State.wAud
  first | (simp; done) | ((repeat' split) <;> first | with_reducible rfl | (simp; done) | (simp_all; done))
@[simp] theorem State.writeUnit_blur (s : State) (k : Kind) (n : Nat) (o : Nat) (a : Nat) (v : Word) (mk_ : Nat) (hmk : 268435454 &&& mk_ = 268435454) : (State.writeUnit s k n o a v).blur mk_ = s.blur mk_ := by
  refine State.blur_mono (m := 268435454) ?_ hmk
  unfold State.writeUnit
  first | (simp; done) | ((repeat' split) <;> first | with_reducible rfl | (simp; done) | (simp_all; done))
@[simp] theorem State.busWrite_blur (s : State) (a : Nat) (v : Word) (mk_ : Nat) (hmk : 268435454 &&& mk_ = 268435454) : (State.busWrite s a v).blur mk_ = s.blur mk_ := by
  refine State.blur_mono (m := 268435454) ?_ hmk
  unfold State.busWrite
  try dsimp only
  repeat' split
  all_goals first | with_reducible rfl | (simp; done) | (simp [*]; done) | (simp_all; done)
@[simp] theorem execRegisterWrite_blur (addr : BitVec 26) (be : BitVec 8) (wide : Bool) (lo : Word) (hi : Word) (s : State) (mk_ : Nat) (hmk : 268435454 &&& mk_ = 268435454) : outBlur mk_ (execRegisterWrite addr be wide lo hi s) = some (s.blur mk_) := by
  refine outBlur_mono (m := 268435454) ?_ hmk
  unfold execRegisterWrite
  first | (simp; done) | ((repeat' split) <;> first | with_reducible rfl | (simp; done) | (simp_all; done))

end Sys2Proof.Machine
end

