-- ==== Sys2Proof/Laws/Map.lean ====
section
/-! SUPPORT. What the sparse table and the bit fields do: read after write, and the canonical form is kept. -/

set_option Elab.async false

namespace Sys2Proof.Machine

variable {α : Type}

theorem Map.get_del_same (d : Nat → α) (m : Map α) (k : Nat) : Map.get d (Map.del m k) k = d k := by
  induction m with
  | nil => rfl
  | cons p m ih =>
    simp only [Map.del]
    split
    · exact ih
    · simp_all [Map.get]

theorem Map.get_del_other (d : Nat → α) (m : Map α) (k j : Nat) (h : j ≠ k) :
    Map.get d (Map.del m k) j = Map.get d m j := by
  induction m with
  | nil => rfl
  | cons p m ih =>
    simp only [Map.del]
    split
    · simp_all [Map.get]; omega
    · simp_all [Map.get]

theorem Map.get_put (d : Nat → α) (m : Map α) (k j : Nat) (v : α) (hk : ∀ p ∈ m, p.1 ≠ k) :
    Map.get d (Map.put m k v) j = if k = j then v else Map.get d m j := by
  induction m with
  | nil => simp [Map.put, Map.get]
  | cons p m ih =>
    have hp := hk p (List.mem_cons_self ..)
    have ih := ih (fun q hq => hk q (List.mem_cons_of_mem _ hq))
    simp only [Map.put]
    split
    · simp only [Map.get, ih]
      by_cases h1 : p.1 = j <;> by_cases h2 : k = j <;> simp [h1, h2]
      omega
    · simp [Map.get]

theorem Map.del_keys (m : Map α) (k : Nat) : ∀ p ∈ Map.del m k, p.1 ≠ k := by
  induction m with
  | nil => simp [Map.del]
  | cons q m ih =>
    simp only [Map.del]
    split
    · exact ih
    · simp only [List.mem_cons, forall_eq_or_imp]
      exact ⟨‹_›, ih⟩

/-- Read after write, for every table and key. -/
theorem Map.get_set [DecidableEq α] (d : Nat → α) (m : Map α) (k j : Nat) (v : α) :
    Map.get d (Map.set d m k v) j = if k = j then v else Map.get d m j := by
  unfold Map.set
  split
  · by_cases h : k = j
    · subst h; simp_all [Map.get_del_same]
    · simp [h, Map.get_del_other d m k j (fun e => h e.symm)]
  · rw [Map.get_put _ _ _ _ _ (Map.del_keys m k)]
    by_cases h : k = j
    · simp [h]
    · simp [h, Map.get_del_other d m k j (fun e => h e.symm)]

@[simp] theorem Map.get_set_same [DecidableEq α] (d : Nat → α) (m : Map α) (k : Nat) (v : α) :
    Map.get d (Map.set d m k v) k = v := by simp [Map.get_set]

theorem Map.get_set_other [DecidableEq α] (d : Nat → α) (m : Map α) (k j : Nat) (v : α) (h : k ≠ j) :
    Map.get d (Map.set d m k v) j = Map.get d m j := by simp [Map.get_set, h]

theorem Map.del_sub (m : Map α) (k : Nat) : ∀ p ∈ Map.del m k, p ∈ m := by
  induction m with
  | nil => simp [Map.del]
  | cons q m ih =>
    simp only [Map.del]
    split
    · intro p hp; exact List.mem_cons_of_mem _ (ih p hp)
    · simp only [List.mem_cons]; rintro p (h | h)
      · exact .inl h
      · exact .inr (ih p h)

theorem Map.wf_del [DecidableEq α] (d : Nat → α) (m : Map α) (k : Nat) (h : Map.wf d m = true) :
    Map.wf d (Map.del m k) = true := by
  induction m with
  | nil => rfl
  | cons q m ih =>
    simp only [Map.wf, Bool.and_eq_true, List.all_eq_true, decide_eq_true_eq] at h
    simp only [Map.del]
    split
    · exact ih h.2
    · simp only [Map.wf, Bool.and_eq_true, List.all_eq_true, decide_eq_true_eq]
      exact ⟨⟨h.1.1, fun p hp => h.1.2 p (Map.del_sub m k p hp)⟩, ih h.2⟩

theorem Map.put_mem (m : Map α) (k : Nat) (v : α) : ∀ p ∈ Map.put m k v, p = (k, v) ∨ p ∈ m := by
  induction m with
  | nil => simp [Map.put]
  | cons q m ih =>
    simp only [Map.put]
    split
    · simp only [List.mem_cons]; rintro p (h | h)
      · exact .inr (.inl h)
      · rcases ih p h with h | h
        · exact .inl h
        · exact .inr (.inr h)
    · simp only [List.mem_cons]; rintro p (h | h)
      · exact .inl h
      · exact .inr h

theorem Map.wf_put [DecidableEq α] (d : Nat → α) (m : Map α) (k : Nat) (v : α) (h : Map.wf d m = true)
    (hk : ∀ p ∈ m, p.1 ≠ k) (hv : v ≠ d k) : Map.wf d (Map.put m k v) = true := by
  induction m with
  | nil => simp [Map.put, Map.wf, hv]
  | cons q m ih =>
    have hq := hk q (List.mem_cons_self ..)
    have hm := fun p hp => hk p (List.mem_cons_of_mem q hp)
    simp only [Map.wf, Bool.and_eq_true, List.all_eq_true, decide_eq_true_eq] at h
    simp only [Map.put]
    split
    · simp only [Map.wf, Bool.and_eq_true, List.all_eq_true, decide_eq_true_eq]
      refine ⟨⟨h.1.1, ?_⟩, ih h.2 hm⟩
      intro p hp
      rcases Map.put_mem m k v p hp with e | e
      · subst e; assumption
      · exact h.1.2 p e
    · simp only [Map.wf, Bool.and_eq_true, List.all_eq_true, decide_eq_true_eq, List.mem_cons, forall_eq_or_imp]
      refine ⟨⟨hv, by omega, ?_⟩, ⟨h.1.1, h.1.2⟩, h.2⟩
      intro p hp
      have := h.1.2 p hp
      omega

/-- Every write keeps the canonical form. -/
theorem Map.wf_set [DecidableEq α] (d : Nat → α) (m : Map α) (k : Nat) (v : α) (h : Map.wf d m = true) :
    Map.wf d (Map.set d m k v) = true := by
  unfold Map.set
  split
  · exact Map.wf_del d m k h
  · exact Map.wf_put d _ k v (Map.wf_del d m k h) (Map.del_keys m k) ‹_›

theorem fget_lt (v : Word) (lo w : Nat) : fget v lo w < 2 ^ w := Nat.mod_lt _ (Nat.two_pow_pos w)

/-- A bit of a number shifted up, as a bit of a register. -/
theorem getLsbD_ofNat_shiftLeft (n lo i : Nat) (hi : i < 32) :
    (BitVec.ofNat 32 (n <<< lo)).getLsbD i = (decide (lo ≤ i) && n.testBit (i - lo)) := by
  rw [BitVec.getLsbD_ofNat, Nat.testBit_shiftLeft]
  simp [hi]

/-- Bit by bit, what `fset` leaves. -/
theorem fset_getLsbD (v : Word) (lo w n i : Nat) (hi : i < 32) :
    (fset v lo w n).getLsbD i =
      if lo ≤ i ∧ i < lo + w then n.testBit (i - lo) else v.getLsbD i := by
  unfold fset fmask
  rw [BitVec.getLsbD_or, BitVec.getLsbD_and, BitVec.getLsbD_not,
    getLsbD_ofNat_shiftLeft _ _ _ hi, getLsbD_ofNat_shiftLeft _ _ _ hi,
    Nat.testBit_two_pow_sub_one, Nat.testBit_mod_two_pow]
  by_cases h1 : lo ≤ i
  · by_cases h2 : i < lo + w
    · have h3 : i - lo < w := by omega
      simp [hi, h1, h2, h3]
    · have h3 : ¬ i - lo < w := by omega
      simp [hi, h1, h2, h3]
  · simp [hi, h1]

theorem fget_testBit (v : Word) (lo w i : Nat) :
    (fget v lo w).testBit i = (decide (i < w) && v.getLsbD (lo + i)) := by
  simp [fget, Nat.testBit_mod_two_pow, BitVec.getLsbD]

/-- A field reads back what was put in it. -/
theorem fget_fset_same (v : Word) (lo w n : Nat) (h : lo + w ≤ 32) :
    fget (fset v lo w n) lo w = n % 2 ^ w := by
  apply Nat.eq_of_testBit_eq
  intro i
  rw [fget_testBit, Nat.testBit_mod_two_pow]
  by_cases hi : i < w
  · rw [fset_getLsbD _ _ _ _ _ (by omega)]
    simp [hi]
  · simp [hi]

/-- A field that does not overlap is left alone. -/
theorem fget_fset_disjoint (v : Word) (lo w n lo' w' : Nat) (h : lo' + w' ≤ lo ∨ lo + w ≤ lo') :
    fget (fset v lo w n) lo' w' = fget v lo' w' := by
  apply Nat.eq_of_testBit_eq
  intro i
  rw [fget_testBit, fget_testBit]
  by_cases hi : i < w'
  · by_cases h32 : lo' + i < 32
    · rw [fset_getLsbD _ _ _ _ _ h32]
      have : ¬ (lo ≤ lo' + i ∧ lo' + i < lo + w) := by omega
      simp [this]
    · have h33 : 32 ≤ lo' + i := by omega
      simp [BitVec.getLsbD_of_ge _ _ h33]
  · simp [hi]

end Sys2Proof.Machine
end

