-- ==== Sys2Proof/Laws/State.lean ====
section
/-! SUPPORT. One lemma per field per update of State, so that no proof unfolds a record update. -/

namespace Sys2Proof.Machine

open Sys2Proof

variable (s : State)

@[simp] theorem State.wr_variant (a : Nat) (v : Word) : (s.wr a v).variant = s.variant := rfl
@[simp] theorem State.wr_now (a : Nat) (v : Word) : (s.wr a v).now = s.now := rfl
@[simp] theorem State.wr_px (a : Nat) (v : Word) : (s.wr a v).px = s.px := rfl
@[simp] theorem State.wr_mint (a : Nat) (v : Word) : (s.wr a v).mint = s.mint := rfl
@[simp] theorem State.wr_regs (a : Nat) (v : Word) : (s.wr a v).regs = Map.set regDefault s.regs a v := rfl
@[simp] theorem State.wr_shadow (a : Nat) (v : Word) : (s.wr a v).shadow = s.shadow := rfl
@[simp] theorem State.wr_live (a : Nat) (v : Word) : (s.wr a v).live = s.live := rfl
@[simp] theorem State.wr_flash (a : Nat) (v : Word) : (s.wr a v).flash = s.flash := rfl
@[simp] theorem State.wr_otp (a : Nat) (v : Word) : (s.wr a v).otp = s.otp := rfl
@[simp] theorem State.wr_plane (a : Nat) (v : Word) : (s.wr a v).plane = s.plane := rfl
@[simp] theorem State.wr_escrow (a : Nat) (v : Word) : (s.wr a v).escrow = s.escrow := rfl
@[simp] theorem State.wr_vlt (a : Nat) (v : Word) : (s.wr a v).vlt = s.vlt := rfl
@[simp] theorem State.wr_pwr (a : Nat) (v : Word) : (s.wr a v).pwr = s.pwr := rfl
@[simp] theorem State.wr_clk (a : Nat) (v : Word) : (s.wr a v).clk = s.clk := rfl
@[simp] theorem State.wr_aud (a : Nat) (v : Word) : (s.wr a v).aud = s.aud := rfl
@[simp] theorem State.wr_ch (a : Nat) (v : Word) : (s.wr a v).ch = s.ch := rfl
@[simp] theorem State.wr_th (a : Nat) (v : Word) : (s.wr a v).th = s.th := rfl
@[simp] theorem State.wr_lnk (a : Nat) (v : Word) : (s.wr a v).lnk = s.lnk := rfl
@[simp] theorem State.wr_ing (a : Nat) (v : Word) : (s.wr a v).ing = s.ing := rfl
@[simp] theorem State.wr_sch (a : Nat) (v : Word) : (s.wr a v).sch = s.sch := rfl
@[simp] theorem State.wr_pix (a : Nat) (v : Word) : (s.wr a v).pix = s.pix := rfl
@[simp] theorem State.wr_cor (a : Nat) (v : Word) : (s.wr a v).cor = s.cor := rfl
@[simp] theorem State.wr_cmp (a : Nat) (v : Word) : (s.wr a v).cmp = s.cmp := rfl
@[simp] theorem State.wr_vid (a : Nat) (v : Word) : (s.wr a v).vid = s.vid := rfl
@[simp] theorem State.wr_mem (a : Nat) (v : Word) : (s.wr a v).mem = s.mem := rfl
@[simp] theorem State.wr_hst (a : Nat) (v : Word) : (s.wr a v).hst = s.hst := rfl
@[simp] theorem State.wr_net (a : Nat) (v : Word) : (s.wr a v).net = s.net := rfl
@[simp] theorem State.wr_out (a : Nat) (v : Word) : (s.wr a v).out = s.out := rfl
@[simp] theorem State.wr_tap (a : Nat) (v : Word) : (s.wr a v).tap = s.tap := rfl
@[simp] theorem State.wr_rdata (a : Nat) (v : Word) : (s.wr a v).rdata = s.rdata := rfl
@[simp] theorem State.wr_rbytes (a : Nat) (v : Word) : (s.wr a v).rbytes = s.rbytes := rfl
@[simp] theorem State.wr_pending (a : Nat) (v : Word) : (s.wr a v).pending = s.pending := rfl

@[simp] theorem State.setFld_variant (a lo w n : Nat) : (s.setFld a lo w n).variant = s.variant := rfl
@[simp] theorem State.setFld_now (a lo w n : Nat) : (s.setFld a lo w n).now = s.now := rfl
@[simp] theorem State.setFld_px (a lo w n : Nat) : (s.setFld a lo w n).px = s.px := rfl
@[simp] theorem State.setFld_mint (a lo w n : Nat) : (s.setFld a lo w n).mint = s.mint := rfl
@[simp] theorem State.setFld_shadow (a lo w n : Nat) : (s.setFld a lo w n).shadow = s.shadow := rfl
@[simp] theorem State.setFld_live (a lo w n : Nat) : (s.setFld a lo w n).live = s.live := rfl
@[simp] theorem State.setFld_flash (a lo w n : Nat) : (s.setFld a lo w n).flash = s.flash := rfl
@[simp] theorem State.setFld_otp (a lo w n : Nat) : (s.setFld a lo w n).otp = s.otp := rfl
@[simp] theorem State.setFld_plane (a lo w n : Nat) : (s.setFld a lo w n).plane = s.plane := rfl
@[simp] theorem State.setFld_escrow (a lo w n : Nat) : (s.setFld a lo w n).escrow = s.escrow := rfl
@[simp] theorem State.setFld_vlt (a lo w n : Nat) : (s.setFld a lo w n).vlt = s.vlt := rfl
@[simp] theorem State.setFld_pwr (a lo w n : Nat) : (s.setFld a lo w n).pwr = s.pwr := rfl
@[simp] theorem State.setFld_clk (a lo w n : Nat) : (s.setFld a lo w n).clk = s.clk := rfl
@[simp] theorem State.setFld_aud (a lo w n : Nat) : (s.setFld a lo w n).aud = s.aud := rfl
@[simp] theorem State.setFld_ch (a lo w n : Nat) : (s.setFld a lo w n).ch = s.ch := rfl
@[simp] theorem State.setFld_th (a lo w n : Nat) : (s.setFld a lo w n).th = s.th := rfl
@[simp] theorem State.setFld_lnk (a lo w n : Nat) : (s.setFld a lo w n).lnk = s.lnk := rfl
@[simp] theorem State.setFld_ing (a lo w n : Nat) : (s.setFld a lo w n).ing = s.ing := rfl
@[simp] theorem State.setFld_sch (a lo w n : Nat) : (s.setFld a lo w n).sch = s.sch := rfl
@[simp] theorem State.setFld_pix (a lo w n : Nat) : (s.setFld a lo w n).pix = s.pix := rfl
@[simp] theorem State.setFld_cor (a lo w n : Nat) : (s.setFld a lo w n).cor = s.cor := rfl
@[simp] theorem State.setFld_cmp (a lo w n : Nat) : (s.setFld a lo w n).cmp = s.cmp := rfl
@[simp] theorem State.setFld_vid (a lo w n : Nat) : (s.setFld a lo w n).vid = s.vid := rfl
@[simp] theorem State.setFld_mem (a lo w n : Nat) : (s.setFld a lo w n).mem = s.mem := rfl
@[simp] theorem State.setFld_hst (a lo w n : Nat) : (s.setFld a lo w n).hst = s.hst := rfl
@[simp] theorem State.setFld_net (a lo w n : Nat) : (s.setFld a lo w n).net = s.net := rfl
@[simp] theorem State.setFld_out (a lo w n : Nat) : (s.setFld a lo w n).out = s.out := rfl
@[simp] theorem State.setFld_tap (a lo w n : Nat) : (s.setFld a lo w n).tap = s.tap := rfl
@[simp] theorem State.setFld_rdata (a lo w n : Nat) : (s.setFld a lo w n).rdata = s.rdata := rfl
@[simp] theorem State.setFld_rbytes (a lo w n : Nat) : (s.setFld a lo w n).rbytes = s.rbytes := rfl
@[simp] theorem State.setFld_pending (a lo w n : Nat) : (s.setFld a lo w n).pending = s.pending := rfl

@[simp] theorem State.setBit_variant (a i : Nat) (b : Bool) : (s.setBit a i b).variant = s.variant := rfl
@[simp] theorem State.setBit_now (a i : Nat) (b : Bool) : (s.setBit a i b).now = s.now := rfl
@[simp] theorem State.setBit_px (a i : Nat) (b : Bool) : (s.setBit a i b).px = s.px := rfl
@[simp] theorem State.setBit_mint (a i : Nat) (b : Bool) : (s.setBit a i b).mint = s.mint := rfl
@[simp] theorem State.setBit_shadow (a i : Nat) (b : Bool) : (s.setBit a i b).shadow = s.shadow := rfl
@[simp] theorem State.setBit_live (a i : Nat) (b : Bool) : (s.setBit a i b).live = s.live := rfl
@[simp] theorem State.setBit_flash (a i : Nat) (b : Bool) : (s.setBit a i b).flash = s.flash := rfl
@[simp] theorem State.setBit_otp (a i : Nat) (b : Bool) : (s.setBit a i b).otp = s.otp := rfl
@[simp] theorem State.setBit_plane (a i : Nat) (b : Bool) : (s.setBit a i b).plane = s.plane := rfl
@[simp] theorem State.setBit_escrow (a i : Nat) (b : Bool) : (s.setBit a i b).escrow = s.escrow := rfl
@[simp] theorem State.setBit_vlt (a i : Nat) (b : Bool) : (s.setBit a i b).vlt = s.vlt := rfl
@[simp] theorem State.setBit_pwr (a i : Nat) (b : Bool) : (s.setBit a i b).pwr = s.pwr := rfl
@[simp] theorem State.setBit_clk (a i : Nat) (b : Bool) : (s.setBit a i b).clk = s.clk := rfl
@[simp] theorem State.setBit_aud (a i : Nat) (b : Bool) : (s.setBit a i b).aud = s.aud := rfl
@[simp] theorem State.setBit_ch (a i : Nat) (b : Bool) : (s.setBit a i b).ch = s.ch := rfl
@[simp] theorem State.setBit_th (a i : Nat) (b : Bool) : (s.setBit a i b).th = s.th := rfl
@[simp] theorem State.setBit_lnk (a i : Nat) (b : Bool) : (s.setBit a i b).lnk = s.lnk := rfl
@[simp] theorem State.setBit_ing (a i : Nat) (b : Bool) : (s.setBit a i b).ing = s.ing := rfl
@[simp] theorem State.setBit_sch (a i : Nat) (b : Bool) : (s.setBit a i b).sch = s.sch := rfl
@[simp] theorem State.setBit_pix (a i : Nat) (b : Bool) : (s.setBit a i b).pix = s.pix := rfl
@[simp] theorem State.setBit_cor (a i : Nat) (b : Bool) : (s.setBit a i b).cor = s.cor := rfl
@[simp] theorem State.setBit_cmp (a i : Nat) (b : Bool) : (s.setBit a i b).cmp = s.cmp := rfl
@[simp] theorem State.setBit_vid (a i : Nat) (b : Bool) : (s.setBit a i b).vid = s.vid := rfl
@[simp] theorem State.setBit_mem (a i : Nat) (b : Bool) : (s.setBit a i b).mem = s.mem := rfl
@[simp] theorem State.setBit_hst (a i : Nat) (b : Bool) : (s.setBit a i b).hst = s.hst := rfl
@[simp] theorem State.setBit_net (a i : Nat) (b : Bool) : (s.setBit a i b).net = s.net := rfl
@[simp] theorem State.setBit_out (a i : Nat) (b : Bool) : (s.setBit a i b).out = s.out := rfl
@[simp] theorem State.setBit_tap (a i : Nat) (b : Bool) : (s.setBit a i b).tap = s.tap := rfl
@[simp] theorem State.setBit_rdata (a i : Nat) (b : Bool) : (s.setBit a i b).rdata = s.rdata := rfl
@[simp] theorem State.setBit_rbytes (a i : Nat) (b : Bool) : (s.setBit a i b).rbytes = s.rbytes := rfl
@[simp] theorem State.setBit_pending (a i : Nat) (b : Bool) : (s.setBit a i b).pending = s.pending := rfl

@[simp] theorem State.countN_variant (a n : Nat) : (s.countN a n).variant = s.variant := rfl
@[simp] theorem State.countN_now (a n : Nat) : (s.countN a n).now = s.now := rfl
@[simp] theorem State.countN_px (a n : Nat) : (s.countN a n).px = s.px := rfl
@[simp] theorem State.countN_mint (a n : Nat) : (s.countN a n).mint = s.mint := rfl
@[simp] theorem State.countN_shadow (a n : Nat) : (s.countN a n).shadow = s.shadow := rfl
@[simp] theorem State.countN_live (a n : Nat) : (s.countN a n).live = s.live := rfl
@[simp] theorem State.countN_flash (a n : Nat) : (s.countN a n).flash = s.flash := rfl
@[simp] theorem State.countN_otp (a n : Nat) : (s.countN a n).otp = s.otp := rfl
@[simp] theorem State.countN_plane (a n : Nat) : (s.countN a n).plane = s.plane := rfl
@[simp] theorem State.countN_escrow (a n : Nat) : (s.countN a n).escrow = s.escrow := rfl
@[simp] theorem State.countN_vlt (a n : Nat) : (s.countN a n).vlt = s.vlt := rfl
@[simp] theorem State.countN_pwr (a n : Nat) : (s.countN a n).pwr = s.pwr := rfl
@[simp] theorem State.countN_clk (a n : Nat) : (s.countN a n).clk = s.clk := rfl
@[simp] theorem State.countN_aud (a n : Nat) : (s.countN a n).aud = s.aud := rfl
@[simp] theorem State.countN_ch (a n : Nat) : (s.countN a n).ch = s.ch := rfl
@[simp] theorem State.countN_th (a n : Nat) : (s.countN a n).th = s.th := rfl
@[simp] theorem State.countN_lnk (a n : Nat) : (s.countN a n).lnk = s.lnk := rfl
@[simp] theorem State.countN_ing (a n : Nat) : (s.countN a n).ing = s.ing := rfl
@[simp] theorem State.countN_sch (a n : Nat) : (s.countN a n).sch = s.sch := rfl
@[simp] theorem State.countN_pix (a n : Nat) : (s.countN a n).pix = s.pix := rfl
@[simp] theorem State.countN_cor (a n : Nat) : (s.countN a n).cor = s.cor := rfl
@[simp] theorem State.countN_cmp (a n : Nat) : (s.countN a n).cmp = s.cmp := rfl
@[simp] theorem State.countN_vid (a n : Nat) : (s.countN a n).vid = s.vid := rfl
@[simp] theorem State.countN_mem (a n : Nat) : (s.countN a n).mem = s.mem := rfl
@[simp] theorem State.countN_hst (a n : Nat) : (s.countN a n).hst = s.hst := rfl
@[simp] theorem State.countN_net (a n : Nat) : (s.countN a n).net = s.net := rfl
@[simp] theorem State.countN_out (a n : Nat) : (s.countN a n).out = s.out := rfl
@[simp] theorem State.countN_tap (a n : Nat) : (s.countN a n).tap = s.tap := rfl
@[simp] theorem State.countN_rdata (a n : Nat) : (s.countN a n).rdata = s.rdata := rfl
@[simp] theorem State.countN_rbytes (a n : Nat) : (s.countN a n).rbytes = s.rbytes := rfl
@[simp] theorem State.countN_pending (a n : Nat) : (s.countN a n).pending = s.pending := rfl

@[simp] theorem State.count_variant (a : Nat) : (s.count a).variant = s.variant := rfl
@[simp] theorem State.count_now (a : Nat) : (s.count a).now = s.now := rfl
@[simp] theorem State.count_px (a : Nat) : (s.count a).px = s.px := rfl
@[simp] theorem State.count_mint (a : Nat) : (s.count a).mint = s.mint := rfl
@[simp] theorem State.count_shadow (a : Nat) : (s.count a).shadow = s.shadow := rfl
@[simp] theorem State.count_live (a : Nat) : (s.count a).live = s.live := rfl
@[simp] theorem State.count_flash (a : Nat) : (s.count a).flash = s.flash := rfl
@[simp] theorem State.count_otp (a : Nat) : (s.count a).otp = s.otp := rfl
@[simp] theorem State.count_plane (a : Nat) : (s.count a).plane = s.plane := rfl
@[simp] theorem State.count_escrow (a : Nat) : (s.count a).escrow = s.escrow := rfl
@[simp] theorem State.count_vlt (a : Nat) : (s.count a).vlt = s.vlt := rfl
@[simp] theorem State.count_pwr (a : Nat) : (s.count a).pwr = s.pwr := rfl
@[simp] theorem State.count_clk (a : Nat) : (s.count a).clk = s.clk := rfl
@[simp] theorem State.count_aud (a : Nat) : (s.count a).aud = s.aud := rfl
@[simp] theorem State.count_ch (a : Nat) : (s.count a).ch = s.ch := rfl
@[simp] theorem State.count_th (a : Nat) : (s.count a).th = s.th := rfl
@[simp] theorem State.count_lnk (a : Nat) : (s.count a).lnk = s.lnk := rfl
@[simp] theorem State.count_ing (a : Nat) : (s.count a).ing = s.ing := rfl
@[simp] theorem State.count_sch (a : Nat) : (s.count a).sch = s.sch := rfl
@[simp] theorem State.count_pix (a : Nat) : (s.count a).pix = s.pix := rfl
@[simp] theorem State.count_cor (a : Nat) : (s.count a).cor = s.cor := rfl
@[simp] theorem State.count_cmp (a : Nat) : (s.count a).cmp = s.cmp := rfl
@[simp] theorem State.count_vid (a : Nat) : (s.count a).vid = s.vid := rfl
@[simp] theorem State.count_mem (a : Nat) : (s.count a).mem = s.mem := rfl
@[simp] theorem State.count_hst (a : Nat) : (s.count a).hst = s.hst := rfl
@[simp] theorem State.count_net (a : Nat) : (s.count a).net = s.net := rfl
@[simp] theorem State.count_out (a : Nat) : (s.count a).out = s.out := rfl
@[simp] theorem State.count_tap (a : Nat) : (s.count a).tap = s.tap := rfl
@[simp] theorem State.count_rdata (a : Nat) : (s.count a).rdata = s.rdata := rfl
@[simp] theorem State.count_rbytes (a : Nat) : (s.count a).rbytes = s.rbytes := rfl
@[simp] theorem State.count_pending (a : Nat) : (s.count a).pending = s.pending := rfl

@[simp] theorem State.setShd_variant (a : Nat) (v : Word) : (s.setShd a v).variant = s.variant := rfl
@[simp] theorem State.setShd_now (a : Nat) (v : Word) : (s.setShd a v).now = s.now := rfl
@[simp] theorem State.setShd_px (a : Nat) (v : Word) : (s.setShd a v).px = s.px := rfl
@[simp] theorem State.setShd_mint (a : Nat) (v : Word) : (s.setShd a v).mint = s.mint := rfl
@[simp] theorem State.setShd_regs (a : Nat) (v : Word) : (s.setShd a v).regs = s.regs := rfl
@[simp] theorem State.setShd_shadow (a : Nat) (v : Word) : (s.setShd a v).shadow = Map.set regDefault s.shadow a v := rfl
@[simp] theorem State.setShd_live (a : Nat) (v : Word) : (s.setShd a v).live = s.live := rfl
@[simp] theorem State.setShd_flash (a : Nat) (v : Word) : (s.setShd a v).flash = s.flash := rfl
@[simp] theorem State.setShd_otp (a : Nat) (v : Word) : (s.setShd a v).otp = s.otp := rfl
@[simp] theorem State.setShd_plane (a : Nat) (v : Word) : (s.setShd a v).plane = s.plane := rfl
@[simp] theorem State.setShd_escrow (a : Nat) (v : Word) : (s.setShd a v).escrow = s.escrow := rfl
@[simp] theorem State.setShd_vlt (a : Nat) (v : Word) : (s.setShd a v).vlt = s.vlt := rfl
@[simp] theorem State.setShd_pwr (a : Nat) (v : Word) : (s.setShd a v).pwr = s.pwr := rfl
@[simp] theorem State.setShd_clk (a : Nat) (v : Word) : (s.setShd a v).clk = s.clk := rfl
@[simp] theorem State.setShd_aud (a : Nat) (v : Word) : (s.setShd a v).aud = s.aud := rfl
@[simp] theorem State.setShd_ch (a : Nat) (v : Word) : (s.setShd a v).ch = s.ch := rfl
@[simp] theorem State.setShd_th (a : Nat) (v : Word) : (s.setShd a v).th = s.th := rfl
@[simp] theorem State.setShd_lnk (a : Nat) (v : Word) : (s.setShd a v).lnk = s.lnk := rfl
@[simp] theorem State.setShd_ing (a : Nat) (v : Word) : (s.setShd a v).ing = s.ing := rfl
@[simp] theorem State.setShd_sch (a : Nat) (v : Word) : (s.setShd a v).sch = s.sch := rfl
@[simp] theorem State.setShd_pix (a : Nat) (v : Word) : (s.setShd a v).pix = s.pix := rfl
@[simp] theorem State.setShd_cor (a : Nat) (v : Word) : (s.setShd a v).cor = s.cor := rfl
@[simp] theorem State.setShd_cmp (a : Nat) (v : Word) : (s.setShd a v).cmp = s.cmp := rfl
@[simp] theorem State.setShd_vid (a : Nat) (v : Word) : (s.setShd a v).vid = s.vid := rfl
@[simp] theorem State.setShd_mem (a : Nat) (v : Word) : (s.setShd a v).mem = s.mem := rfl
@[simp] theorem State.setShd_hst (a : Nat) (v : Word) : (s.setShd a v).hst = s.hst := rfl
@[simp] theorem State.setShd_net (a : Nat) (v : Word) : (s.setShd a v).net = s.net := rfl
@[simp] theorem State.setShd_out (a : Nat) (v : Word) : (s.setShd a v).out = s.out := rfl
@[simp] theorem State.setShd_tap (a : Nat) (v : Word) : (s.setShd a v).tap = s.tap := rfl
@[simp] theorem State.setShd_rdata (a : Nat) (v : Word) : (s.setShd a v).rdata = s.rdata := rfl
@[simp] theorem State.setShd_rbytes (a : Nat) (v : Word) : (s.setShd a v).rbytes = s.rbytes := rfl
@[simp] theorem State.setShd_pending (a : Nat) (v : Word) : (s.setShd a v).pending = s.pending := rfl

@[simp] theorem State.setLive_variant (a : Nat) (v : BitVec 64) : (s.setLive a v).variant = s.variant := rfl
@[simp] theorem State.setLive_now (a : Nat) (v : BitVec 64) : (s.setLive a v).now = s.now := rfl
@[simp] theorem State.setLive_px (a : Nat) (v : BitVec 64) : (s.setLive a v).px = s.px := rfl
@[simp] theorem State.setLive_mint (a : Nat) (v : BitVec 64) : (s.setLive a v).mint = s.mint := rfl
@[simp] theorem State.setLive_regs (a : Nat) (v : BitVec 64) : (s.setLive a v).regs = s.regs := rfl
@[simp] theorem State.setLive_shadow (a : Nat) (v : BitVec 64) : (s.setLive a v).shadow = s.shadow := rfl
@[simp] theorem State.setLive_live (a : Nat) (v : BitVec 64) : (s.setLive a v).live = Map.set (fun _ => 0#64) s.live a v := rfl
@[simp] theorem State.setLive_flash (a : Nat) (v : BitVec 64) : (s.setLive a v).flash = s.flash := rfl
@[simp] theorem State.setLive_otp (a : Nat) (v : BitVec 64) : (s.setLive a v).otp = s.otp := rfl
@[simp] theorem State.setLive_plane (a : Nat) (v : BitVec 64) : (s.setLive a v).plane = s.plane := rfl
@[simp] theorem State.setLive_escrow (a : Nat) (v : BitVec 64) : (s.setLive a v).escrow = s.escrow := rfl
@[simp] theorem State.setLive_vlt (a : Nat) (v : BitVec 64) : (s.setLive a v).vlt = s.vlt := rfl
@[simp] theorem State.setLive_pwr (a : Nat) (v : BitVec 64) : (s.setLive a v).pwr = s.pwr := rfl
@[simp] theorem State.setLive_clk (a : Nat) (v : BitVec 64) : (s.setLive a v).clk = s.clk := rfl
@[simp] theorem State.setLive_aud (a : Nat) (v : BitVec 64) : (s.setLive a v).aud = s.aud := rfl
@[simp] theorem State.setLive_ch (a : Nat) (v : BitVec 64) : (s.setLive a v).ch = s.ch := rfl
@[simp] theorem State.setLive_th (a : Nat) (v : BitVec 64) : (s.setLive a v).th = s.th := rfl
@[simp] theorem State.setLive_lnk (a : Nat) (v : BitVec 64) : (s.setLive a v).lnk = s.lnk := rfl
@[simp] theorem State.setLive_ing (a : Nat) (v : BitVec 64) : (s.setLive a v).ing = s.ing := rfl
@[simp] theorem State.setLive_sch (a : Nat) (v : BitVec 64) : (s.setLive a v).sch = s.sch := rfl
@[simp] theorem State.setLive_pix (a : Nat) (v : BitVec 64) : (s.setLive a v).pix = s.pix := rfl
@[simp] theorem State.setLive_cor (a : Nat) (v : BitVec 64) : (s.setLive a v).cor = s.cor := rfl
@[simp] theorem State.setLive_cmp (a : Nat) (v : BitVec 64) : (s.setLive a v).cmp = s.cmp := rfl
@[simp] theorem State.setLive_vid (a : Nat) (v : BitVec 64) : (s.setLive a v).vid = s.vid := rfl
@[simp] theorem State.setLive_mem (a : Nat) (v : BitVec 64) : (s.setLive a v).mem = s.mem := rfl
@[simp] theorem State.setLive_hst (a : Nat) (v : BitVec 64) : (s.setLive a v).hst = s.hst := rfl
@[simp] theorem State.setLive_net (a : Nat) (v : BitVec 64) : (s.setLive a v).net = s.net := rfl
@[simp] theorem State.setLive_out (a : Nat) (v : BitVec 64) : (s.setLive a v).out = s.out := rfl
@[simp] theorem State.setLive_tap (a : Nat) (v : BitVec 64) : (s.setLive a v).tap = s.tap := rfl
@[simp] theorem State.setLive_rdata (a : Nat) (v : BitVec 64) : (s.setLive a v).rdata = s.rdata := rfl
@[simp] theorem State.setLive_rbytes (a : Nat) (v : BitVec 64) : (s.setLive a v).rbytes = s.rbytes := rfl
@[simp] theorem State.setLive_pending (a : Nat) (v : BitVec 64) : (s.setLive a v).pending = s.pending := rfl

@[simp] theorem State.setPwr_variant (p : Pwr) : (s.setPwr p).variant = s.variant := rfl
@[simp] theorem State.setPwr_now (p : Pwr) : (s.setPwr p).now = s.now := rfl
@[simp] theorem State.setPwr_px (p : Pwr) : (s.setPwr p).px = s.px := rfl
@[simp] theorem State.setPwr_mint (p : Pwr) : (s.setPwr p).mint = s.mint := rfl
@[simp] theorem State.setPwr_regs (p : Pwr) : (s.setPwr p).regs = s.regs := rfl
@[simp] theorem State.setPwr_shadow (p : Pwr) : (s.setPwr p).shadow = s.shadow := rfl
@[simp] theorem State.setPwr_live (p : Pwr) : (s.setPwr p).live = s.live := rfl
@[simp] theorem State.setPwr_flash (p : Pwr) : (s.setPwr p).flash = s.flash := rfl
@[simp] theorem State.setPwr_otp (p : Pwr) : (s.setPwr p).otp = s.otp := rfl
@[simp] theorem State.setPwr_plane (p : Pwr) : (s.setPwr p).plane = s.plane := rfl
@[simp] theorem State.setPwr_escrow (p : Pwr) : (s.setPwr p).escrow = s.escrow := rfl
@[simp] theorem State.setPwr_vlt (p : Pwr) : (s.setPwr p).vlt = s.vlt := rfl
@[simp] theorem State.setPwr_pwr (p : Pwr) : (s.setPwr p).pwr = p := rfl
@[simp] theorem State.setPwr_clk (p : Pwr) : (s.setPwr p).clk = s.clk := rfl
@[simp] theorem State.setPwr_aud (p : Pwr) : (s.setPwr p).aud = s.aud := rfl
@[simp] theorem State.setPwr_ch (p : Pwr) : (s.setPwr p).ch = s.ch := rfl
@[simp] theorem State.setPwr_th (p : Pwr) : (s.setPwr p).th = s.th := rfl
@[simp] theorem State.setPwr_lnk (p : Pwr) : (s.setPwr p).lnk = s.lnk := rfl
@[simp] theorem State.setPwr_ing (p : Pwr) : (s.setPwr p).ing = s.ing := rfl
@[simp] theorem State.setPwr_sch (p : Pwr) : (s.setPwr p).sch = s.sch := rfl
@[simp] theorem State.setPwr_pix (p : Pwr) : (s.setPwr p).pix = s.pix := rfl
@[simp] theorem State.setPwr_cor (p : Pwr) : (s.setPwr p).cor = s.cor := rfl
@[simp] theorem State.setPwr_cmp (p : Pwr) : (s.setPwr p).cmp = s.cmp := rfl
@[simp] theorem State.setPwr_vid (p : Pwr) : (s.setPwr p).vid = s.vid := rfl
@[simp] theorem State.setPwr_mem (p : Pwr) : (s.setPwr p).mem = s.mem := rfl
@[simp] theorem State.setPwr_hst (p : Pwr) : (s.setPwr p).hst = s.hst := rfl
@[simp] theorem State.setPwr_net (p : Pwr) : (s.setPwr p).net = s.net := rfl
@[simp] theorem State.setPwr_out (p : Pwr) : (s.setPwr p).out = s.out := rfl
@[simp] theorem State.setPwr_tap (p : Pwr) : (s.setPwr p).tap = s.tap := rfl
@[simp] theorem State.setPwr_rdata (p : Pwr) : (s.setPwr p).rdata = s.rdata := rfl
@[simp] theorem State.setPwr_rbytes (p : Pwr) : (s.setPwr p).rbytes = s.rbytes := rfl
@[simp] theorem State.setPwr_pending (p : Pwr) : (s.setPwr p).pending = s.pending := rfl

@[simp] theorem State.setClk_variant (c : Clk) : (s.setClk c).variant = s.variant := rfl
@[simp] theorem State.setClk_now (c : Clk) : (s.setClk c).now = s.now := rfl
@[simp] theorem State.setClk_px (c : Clk) : (s.setClk c).px = s.px := rfl
@[simp] theorem State.setClk_mint (c : Clk) : (s.setClk c).mint = s.mint := rfl
@[simp] theorem State.setClk_regs (c : Clk) : (s.setClk c).regs = s.regs := rfl
@[simp] theorem State.setClk_shadow (c : Clk) : (s.setClk c).shadow = s.shadow := rfl
@[simp] theorem State.setClk_live (c : Clk) : (s.setClk c).live = s.live := rfl
@[simp] theorem State.setClk_flash (c : Clk) : (s.setClk c).flash = s.flash := rfl
@[simp] theorem State.setClk_otp (c : Clk) : (s.setClk c).otp = s.otp := rfl
@[simp] theorem State.setClk_plane (c : Clk) : (s.setClk c).plane = s.plane := rfl
@[simp] theorem State.setClk_escrow (c : Clk) : (s.setClk c).escrow = s.escrow := rfl
@[simp] theorem State.setClk_vlt (c : Clk) : (s.setClk c).vlt = s.vlt := rfl
@[simp] theorem State.setClk_pwr (c : Clk) : (s.setClk c).pwr = s.pwr := rfl
@[simp] theorem State.setClk_clk (c : Clk) : (s.setClk c).clk = c := rfl
@[simp] theorem State.setClk_aud (c : Clk) : (s.setClk c).aud = s.aud := rfl
@[simp] theorem State.setClk_ch (c : Clk) : (s.setClk c).ch = s.ch := rfl
@[simp] theorem State.setClk_th (c : Clk) : (s.setClk c).th = s.th := rfl
@[simp] theorem State.setClk_lnk (c : Clk) : (s.setClk c).lnk = s.lnk := rfl
@[simp] theorem State.setClk_ing (c : Clk) : (s.setClk c).ing = s.ing := rfl
@[simp] theorem State.setClk_sch (c : Clk) : (s.setClk c).sch = s.sch := rfl
@[simp] theorem State.setClk_pix (c : Clk) : (s.setClk c).pix = s.pix := rfl
@[simp] theorem State.setClk_cor (c : Clk) : (s.setClk c).cor = s.cor := rfl
@[simp] theorem State.setClk_cmp (c : Clk) : (s.setClk c).cmp = s.cmp := rfl
@[simp] theorem State.setClk_vid (c : Clk) : (s.setClk c).vid = s.vid := rfl
@[simp] theorem State.setClk_mem (c : Clk) : (s.setClk c).mem = s.mem := rfl
@[simp] theorem State.setClk_hst (c : Clk) : (s.setClk c).hst = s.hst := rfl
@[simp] theorem State.setClk_net (c : Clk) : (s.setClk c).net = s.net := rfl
@[simp] theorem State.setClk_out (c : Clk) : (s.setClk c).out = s.out := rfl
@[simp] theorem State.setClk_tap (c : Clk) : (s.setClk c).tap = s.tap := rfl
@[simp] theorem State.setClk_rdata (c : Clk) : (s.setClk c).rdata = s.rdata := rfl
@[simp] theorem State.setClk_rbytes (c : Clk) : (s.setClk c).rbytes = s.rbytes := rfl
@[simp] theorem State.setClk_pending (c : Clk) : (s.setClk c).pending = s.pending := rfl

@[simp] theorem State.setAud_variant (a : Aud) : (s.setAud a).variant = s.variant := rfl
@[simp] theorem State.setAud_now (a : Aud) : (s.setAud a).now = s.now := rfl
@[simp] theorem State.setAud_px (a : Aud) : (s.setAud a).px = s.px := rfl
@[simp] theorem State.setAud_mint (a : Aud) : (s.setAud a).mint = s.mint := rfl
@[simp] theorem State.setAud_regs (a : Aud) : (s.setAud a).regs = s.regs := rfl
@[simp] theorem State.setAud_shadow (a : Aud) : (s.setAud a).shadow = s.shadow := rfl
@[simp] theorem State.setAud_live (a : Aud) : (s.setAud a).live = s.live := rfl
@[simp] theorem State.setAud_flash (a : Aud) : (s.setAud a).flash = s.flash := rfl
@[simp] theorem State.setAud_otp (a : Aud) : (s.setAud a).otp = s.otp := rfl
@[simp] theorem State.setAud_plane (a : Aud) : (s.setAud a).plane = s.plane := rfl
@[simp] theorem State.setAud_escrow (a : Aud) : (s.setAud a).escrow = s.escrow := rfl
@[simp] theorem State.setAud_vlt (a : Aud) : (s.setAud a).vlt = s.vlt := rfl
@[simp] theorem State.setAud_pwr (a : Aud) : (s.setAud a).pwr = s.pwr := rfl
@[simp] theorem State.setAud_clk (a : Aud) : (s.setAud a).clk = s.clk := rfl
@[simp] theorem State.setAud_aud (a : Aud) : (s.setAud a).aud = a := rfl
@[simp] theorem State.setAud_ch (a : Aud) : (s.setAud a).ch = s.ch := rfl
@[simp] theorem State.setAud_th (a : Aud) : (s.setAud a).th = s.th := rfl
@[simp] theorem State.setAud_lnk (a : Aud) : (s.setAud a).lnk = s.lnk := rfl
@[simp] theorem State.setAud_ing (a : Aud) : (s.setAud a).ing = s.ing := rfl
@[simp] theorem State.setAud_sch (a : Aud) : (s.setAud a).sch = s.sch := rfl
@[simp] theorem State.setAud_pix (a : Aud) : (s.setAud a).pix = s.pix := rfl
@[simp] theorem State.setAud_cor (a : Aud) : (s.setAud a).cor = s.cor := rfl
@[simp] theorem State.setAud_cmp (a : Aud) : (s.setAud a).cmp = s.cmp := rfl
@[simp] theorem State.setAud_vid (a : Aud) : (s.setAud a).vid = s.vid := rfl
@[simp] theorem State.setAud_mem (a : Aud) : (s.setAud a).mem = s.mem := rfl
@[simp] theorem State.setAud_hst (a : Aud) : (s.setAud a).hst = s.hst := rfl
@[simp] theorem State.setAud_net (a : Aud) : (s.setAud a).net = s.net := rfl
@[simp] theorem State.setAud_out (a : Aud) : (s.setAud a).out = s.out := rfl
@[simp] theorem State.setAud_tap (a : Aud) : (s.setAud a).tap = s.tap := rfl
@[simp] theorem State.setAud_rdata (a : Aud) : (s.setAud a).rdata = s.rdata := rfl
@[simp] theorem State.setAud_rbytes (a : Aud) : (s.setAud a).rbytes = s.rbytes := rfl
@[simp] theorem State.setAud_pending (a : Aud) : (s.setAud a).pending = s.pending := rfl

@[simp] theorem State.setCh_variant (c : ChSt) : (s.setCh c).variant = s.variant := rfl
@[simp] theorem State.setCh_now (c : ChSt) : (s.setCh c).now = s.now := rfl
@[simp] theorem State.setCh_px (c : ChSt) : (s.setCh c).px = s.px := rfl
@[simp] theorem State.setCh_mint (c : ChSt) : (s.setCh c).mint = s.mint := rfl
@[simp] theorem State.setCh_regs (c : ChSt) : (s.setCh c).regs = s.regs := rfl
@[simp] theorem State.setCh_shadow (c : ChSt) : (s.setCh c).shadow = s.shadow := rfl
@[simp] theorem State.setCh_live (c : ChSt) : (s.setCh c).live = s.live := rfl
@[simp] theorem State.setCh_flash (c : ChSt) : (s.setCh c).flash = s.flash := rfl
@[simp] theorem State.setCh_otp (c : ChSt) : (s.setCh c).otp = s.otp := rfl
@[simp] theorem State.setCh_plane (c : ChSt) : (s.setCh c).plane = s.plane := rfl
@[simp] theorem State.setCh_escrow (c : ChSt) : (s.setCh c).escrow = s.escrow := rfl
@[simp] theorem State.setCh_vlt (c : ChSt) : (s.setCh c).vlt = s.vlt := rfl
@[simp] theorem State.setCh_pwr (c : ChSt) : (s.setCh c).pwr = s.pwr := rfl
@[simp] theorem State.setCh_clk (c : ChSt) : (s.setCh c).clk = s.clk := rfl
@[simp] theorem State.setCh_aud (c : ChSt) : (s.setCh c).aud = s.aud := rfl
@[simp] theorem State.setCh_ch (c : ChSt) : (s.setCh c).ch = c := rfl
@[simp] theorem State.setCh_th (c : ChSt) : (s.setCh c).th = s.th := rfl
@[simp] theorem State.setCh_lnk (c : ChSt) : (s.setCh c).lnk = s.lnk := rfl
@[simp] theorem State.setCh_ing (c : ChSt) : (s.setCh c).ing = s.ing := rfl
@[simp] theorem State.setCh_sch (c : ChSt) : (s.setCh c).sch = s.sch := rfl
@[simp] theorem State.setCh_pix (c : ChSt) : (s.setCh c).pix = s.pix := rfl
@[simp] theorem State.setCh_cor (c : ChSt) : (s.setCh c).cor = s.cor := rfl
@[simp] theorem State.setCh_cmp (c : ChSt) : (s.setCh c).cmp = s.cmp := rfl
@[simp] theorem State.setCh_vid (c : ChSt) : (s.setCh c).vid = s.vid := rfl
@[simp] theorem State.setCh_mem (c : ChSt) : (s.setCh c).mem = s.mem := rfl
@[simp] theorem State.setCh_hst (c : ChSt) : (s.setCh c).hst = s.hst := rfl
@[simp] theorem State.setCh_net (c : ChSt) : (s.setCh c).net = s.net := rfl
@[simp] theorem State.setCh_out (c : ChSt) : (s.setCh c).out = s.out := rfl
@[simp] theorem State.setCh_tap (c : ChSt) : (s.setCh c).tap = s.tap := rfl
@[simp] theorem State.setCh_rdata (c : ChSt) : (s.setCh c).rdata = s.rdata := rfl
@[simp] theorem State.setCh_rbytes (c : ChSt) : (s.setCh c).rbytes = s.rbytes := rfl
@[simp] theorem State.setCh_pending (c : ChSt) : (s.setCh c).pending = s.pending := rfl

@[simp] theorem State.setCor_variant (c : Cor) : (s.setCor c).variant = s.variant := rfl
@[simp] theorem State.setCor_now (c : Cor) : (s.setCor c).now = s.now := rfl
@[simp] theorem State.setCor_px (c : Cor) : (s.setCor c).px = s.px := rfl
@[simp] theorem State.setCor_mint (c : Cor) : (s.setCor c).mint = s.mint := rfl
@[simp] theorem State.setCor_regs (c : Cor) : (s.setCor c).regs = s.regs := rfl
@[simp] theorem State.setCor_shadow (c : Cor) : (s.setCor c).shadow = s.shadow := rfl
@[simp] theorem State.setCor_live (c : Cor) : (s.setCor c).live = s.live := rfl
@[simp] theorem State.setCor_flash (c : Cor) : (s.setCor c).flash = s.flash := rfl
@[simp] theorem State.setCor_otp (c : Cor) : (s.setCor c).otp = s.otp := rfl
@[simp] theorem State.setCor_plane (c : Cor) : (s.setCor c).plane = s.plane := rfl
@[simp] theorem State.setCor_escrow (c : Cor) : (s.setCor c).escrow = s.escrow := rfl
@[simp] theorem State.setCor_vlt (c : Cor) : (s.setCor c).vlt = s.vlt := rfl
@[simp] theorem State.setCor_pwr (c : Cor) : (s.setCor c).pwr = s.pwr := rfl
@[simp] theorem State.setCor_clk (c : Cor) : (s.setCor c).clk = s.clk := rfl
@[simp] theorem State.setCor_aud (c : Cor) : (s.setCor c).aud = s.aud := rfl
@[simp] theorem State.setCor_ch (c : Cor) : (s.setCor c).ch = s.ch := rfl
@[simp] theorem State.setCor_th (c : Cor) : (s.setCor c).th = s.th := rfl
@[simp] theorem State.setCor_lnk (c : Cor) : (s.setCor c).lnk = s.lnk := rfl
@[simp] theorem State.setCor_ing (c : Cor) : (s.setCor c).ing = s.ing := rfl
@[simp] theorem State.setCor_sch (c : Cor) : (s.setCor c).sch = s.sch := rfl
@[simp] theorem State.setCor_pix (c : Cor) : (s.setCor c).pix = s.pix := rfl
@[simp] theorem State.setCor_cor (c : Cor) : (s.setCor c).cor = c := rfl
@[simp] theorem State.setCor_cmp (c : Cor) : (s.setCor c).cmp = s.cmp := rfl
@[simp] theorem State.setCor_vid (c : Cor) : (s.setCor c).vid = s.vid := rfl
@[simp] theorem State.setCor_mem (c : Cor) : (s.setCor c).mem = s.mem := rfl
@[simp] theorem State.setCor_hst (c : Cor) : (s.setCor c).hst = s.hst := rfl
@[simp] theorem State.setCor_net (c : Cor) : (s.setCor c).net = s.net := rfl
@[simp] theorem State.setCor_out (c : Cor) : (s.setCor c).out = s.out := rfl
@[simp] theorem State.setCor_tap (c : Cor) : (s.setCor c).tap = s.tap := rfl
@[simp] theorem State.setCor_rdata (c : Cor) : (s.setCor c).rdata = s.rdata := rfl
@[simp] theorem State.setCor_rbytes (c : Cor) : (s.setCor c).rbytes = s.rbytes := rfl
@[simp] theorem State.setCor_pending (c : Cor) : (s.setCor c).pending = s.pending := rfl

@[simp] theorem State.setOut_variant (o : Out) : (s.setOut o).variant = s.variant := rfl
@[simp] theorem State.setOut_now (o : Out) : (s.setOut o).now = s.now := rfl
@[simp] theorem State.setOut_px (o : Out) : (s.setOut o).px = s.px := rfl
@[simp] theorem State.setOut_mint (o : Out) : (s.setOut o).mint = s.mint := rfl
@[simp] theorem State.setOut_regs (o : Out) : (s.setOut o).regs = s.regs := rfl
@[simp] theorem State.setOut_shadow (o : Out) : (s.setOut o).shadow = s.shadow := rfl
@[simp] theorem State.setOut_live (o : Out) : (s.setOut o).live = s.live := rfl
@[simp] theorem State.setOut_flash (o : Out) : (s.setOut o).flash = s.flash := rfl
@[simp] theorem State.setOut_otp (o : Out) : (s.setOut o).otp = s.otp := rfl
@[simp] theorem State.setOut_plane (o : Out) : (s.setOut o).plane = s.plane := rfl
@[simp] theorem State.setOut_escrow (o : Out) : (s.setOut o).escrow = s.escrow := rfl
@[simp] theorem State.setOut_vlt (o : Out) : (s.setOut o).vlt = s.vlt := rfl
@[simp] theorem State.setOut_pwr (o : Out) : (s.setOut o).pwr = s.pwr := rfl
@[simp] theorem State.setOut_clk (o : Out) : (s.setOut o).clk = s.clk := rfl
@[simp] theorem State.setOut_aud (o : Out) : (s.setOut o).aud = s.aud := rfl
@[simp] theorem State.setOut_ch (o : Out) : (s.setOut o).ch = s.ch := rfl
@[simp] theorem State.setOut_th (o : Out) : (s.setOut o).th = s.th := rfl
@[simp] theorem State.setOut_lnk (o : Out) : (s.setOut o).lnk = s.lnk := rfl
@[simp] theorem State.setOut_ing (o : Out) : (s.setOut o).ing = s.ing := rfl
@[simp] theorem State.setOut_sch (o : Out) : (s.setOut o).sch = s.sch := rfl
@[simp] theorem State.setOut_pix (o : Out) : (s.setOut o).pix = s.pix := rfl
@[simp] theorem State.setOut_cor (o : Out) : (s.setOut o).cor = s.cor := rfl
@[simp] theorem State.setOut_cmp (o : Out) : (s.setOut o).cmp = s.cmp := rfl
@[simp] theorem State.setOut_vid (o : Out) : (s.setOut o).vid = s.vid := rfl
@[simp] theorem State.setOut_mem (o : Out) : (s.setOut o).mem = s.mem := rfl
@[simp] theorem State.setOut_hst (o : Out) : (s.setOut o).hst = s.hst := rfl
@[simp] theorem State.setOut_net (o : Out) : (s.setOut o).net = s.net := rfl
@[simp] theorem State.setOut_out (o : Out) : (s.setOut o).out = o := rfl
@[simp] theorem State.setOut_tap (o : Out) : (s.setOut o).tap = s.tap := rfl
@[simp] theorem State.setOut_rdata (o : Out) : (s.setOut o).rdata = s.rdata := rfl
@[simp] theorem State.setOut_rbytes (o : Out) : (s.setOut o).rbytes = s.rbytes := rfl
@[simp] theorem State.setOut_pending (o : Out) : (s.setOut o).pending = s.pending := rfl

@[simp] theorem State.setHst_variant (h : Hst) : (s.setHst h).variant = s.variant := rfl
@[simp] theorem State.setHst_now (h : Hst) : (s.setHst h).now = s.now := rfl
@[simp] theorem State.setHst_px (h : Hst) : (s.setHst h).px = s.px := rfl
@[simp] theorem State.setHst_mint (h : Hst) : (s.setHst h).mint = s.mint := rfl
@[simp] theorem State.setHst_regs (h : Hst) : (s.setHst h).regs = s.regs := rfl
@[simp] theorem State.setHst_shadow (h : Hst) : (s.setHst h).shadow = s.shadow := rfl
@[simp] theorem State.setHst_live (h : Hst) : (s.setHst h).live = s.live := rfl
@[simp] theorem State.setHst_flash (h : Hst) : (s.setHst h).flash = s.flash := rfl
@[simp] theorem State.setHst_otp (h : Hst) : (s.setHst h).otp = s.otp := rfl
@[simp] theorem State.setHst_plane (h : Hst) : (s.setHst h).plane = s.plane := rfl
@[simp] theorem State.setHst_escrow (h : Hst) : (s.setHst h).escrow = s.escrow := rfl
@[simp] theorem State.setHst_vlt (h : Hst) : (s.setHst h).vlt = s.vlt := rfl
@[simp] theorem State.setHst_pwr (h : Hst) : (s.setHst h).pwr = s.pwr := rfl
@[simp] theorem State.setHst_clk (h : Hst) : (s.setHst h).clk = s.clk := rfl
@[simp] theorem State.setHst_aud (h : Hst) : (s.setHst h).aud = s.aud := rfl
@[simp] theorem State.setHst_ch (h : Hst) : (s.setHst h).ch = s.ch := rfl
@[simp] theorem State.setHst_th (h : Hst) : (s.setHst h).th = s.th := rfl
@[simp] theorem State.setHst_lnk (h : Hst) : (s.setHst h).lnk = s.lnk := rfl
@[simp] theorem State.setHst_ing (h : Hst) : (s.setHst h).ing = s.ing := rfl
@[simp] theorem State.setHst_sch (h : Hst) : (s.setHst h).sch = s.sch := rfl
@[simp] theorem State.setHst_pix (h : Hst) : (s.setHst h).pix = s.pix := rfl
@[simp] theorem State.setHst_cor (h : Hst) : (s.setHst h).cor = s.cor := rfl
@[simp] theorem State.setHst_cmp (h : Hst) : (s.setHst h).cmp = s.cmp := rfl
@[simp] theorem State.setHst_vid (h : Hst) : (s.setHst h).vid = s.vid := rfl
@[simp] theorem State.setHst_mem (h : Hst) : (s.setHst h).mem = s.mem := rfl
@[simp] theorem State.setHst_hst (h : Hst) : (s.setHst h).hst = h := rfl
@[simp] theorem State.setHst_net (h : Hst) : (s.setHst h).net = s.net := rfl
@[simp] theorem State.setHst_out (h : Hst) : (s.setHst h).out = s.out := rfl
@[simp] theorem State.setHst_tap (h : Hst) : (s.setHst h).tap = s.tap := rfl
@[simp] theorem State.setHst_rdata (h : Hst) : (s.setHst h).rdata = s.rdata := rfl
@[simp] theorem State.setHst_rbytes (h : Hst) : (s.setHst h).rbytes = s.rbytes := rfl
@[simp] theorem State.setHst_pending (h : Hst) : (s.setHst h).pending = s.pending := rfl

@[simp] theorem State.setNet_variant (n : Net) : (s.setNet n).variant = s.variant := rfl
@[simp] theorem State.setNet_now (n : Net) : (s.setNet n).now = s.now := rfl
@[simp] theorem State.setNet_px (n : Net) : (s.setNet n).px = s.px := rfl
@[simp] theorem State.setNet_mint (n : Net) : (s.setNet n).mint = s.mint := rfl
@[simp] theorem State.setNet_regs (n : Net) : (s.setNet n).regs = s.regs := rfl
@[simp] theorem State.setNet_shadow (n : Net) : (s.setNet n).shadow = s.shadow := rfl
@[simp] theorem State.setNet_live (n : Net) : (s.setNet n).live = s.live := rfl
@[simp] theorem State.setNet_flash (n : Net) : (s.setNet n).flash = s.flash := rfl
@[simp] theorem State.setNet_otp (n : Net) : (s.setNet n).otp = s.otp := rfl
@[simp] theorem State.setNet_plane (n : Net) : (s.setNet n).plane = s.plane := rfl
@[simp] theorem State.setNet_escrow (n : Net) : (s.setNet n).escrow = s.escrow := rfl
@[simp] theorem State.setNet_vlt (n : Net) : (s.setNet n).vlt = s.vlt := rfl
@[simp] theorem State.setNet_pwr (n : Net) : (s.setNet n).pwr = s.pwr := rfl
@[simp] theorem State.setNet_clk (n : Net) : (s.setNet n).clk = s.clk := rfl
@[simp] theorem State.setNet_aud (n : Net) : (s.setNet n).aud = s.aud := rfl
@[simp] theorem State.setNet_ch (n : Net) : (s.setNet n).ch = s.ch := rfl
@[simp] theorem State.setNet_th (n : Net) : (s.setNet n).th = s.th := rfl
@[simp] theorem State.setNet_lnk (n : Net) : (s.setNet n).lnk = s.lnk := rfl
@[simp] theorem State.setNet_ing (n : Net) : (s.setNet n).ing = s.ing := rfl
@[simp] theorem State.setNet_sch (n : Net) : (s.setNet n).sch = s.sch := rfl
@[simp] theorem State.setNet_pix (n : Net) : (s.setNet n).pix = s.pix := rfl
@[simp] theorem State.setNet_cor (n : Net) : (s.setNet n).cor = s.cor := rfl
@[simp] theorem State.setNet_cmp (n : Net) : (s.setNet n).cmp = s.cmp := rfl
@[simp] theorem State.setNet_vid (n : Net) : (s.setNet n).vid = s.vid := rfl
@[simp] theorem State.setNet_mem (n : Net) : (s.setNet n).mem = s.mem := rfl
@[simp] theorem State.setNet_hst (n : Net) : (s.setNet n).hst = s.hst := rfl
@[simp] theorem State.setNet_net (n : Net) : (s.setNet n).net = n := rfl
@[simp] theorem State.setNet_out (n : Net) : (s.setNet n).out = s.out := rfl
@[simp] theorem State.setNet_tap (n : Net) : (s.setNet n).tap = s.tap := rfl
@[simp] theorem State.setNet_rdata (n : Net) : (s.setNet n).rdata = s.rdata := rfl
@[simp] theorem State.setNet_rbytes (n : Net) : (s.setNet n).rbytes = s.rbytes := rfl
@[simp] theorem State.setNet_pending (n : Net) : (s.setNet n).pending = s.pending := rfl

@[simp] theorem State.setVid_variant (v : Vid) : (s.setVid v).variant = s.variant := rfl
@[simp] theorem State.setVid_now (v : Vid) : (s.setVid v).now = s.now := rfl
@[simp] theorem State.setVid_px (v : Vid) : (s.setVid v).px = s.px := rfl
@[simp] theorem State.setVid_mint (v : Vid) : (s.setVid v).mint = s.mint := rfl
@[simp] theorem State.setVid_regs (v : Vid) : (s.setVid v).regs = s.regs := rfl
@[simp] theorem State.setVid_shadow (v : Vid) : (s.setVid v).shadow = s.shadow := rfl
@[simp] theorem State.setVid_live (v : Vid) : (s.setVid v).live = s.live := rfl
@[simp] theorem State.setVid_flash (v : Vid) : (s.setVid v).flash = s.flash := rfl
@[simp] theorem State.setVid_otp (v : Vid) : (s.setVid v).otp = s.otp := rfl
@[simp] theorem State.setVid_plane (v : Vid) : (s.setVid v).plane = s.plane := rfl
@[simp] theorem State.setVid_escrow (v : Vid) : (s.setVid v).escrow = s.escrow := rfl
@[simp] theorem State.setVid_vlt (v : Vid) : (s.setVid v).vlt = s.vlt := rfl
@[simp] theorem State.setVid_pwr (v : Vid) : (s.setVid v).pwr = s.pwr := rfl
@[simp] theorem State.setVid_clk (v : Vid) : (s.setVid v).clk = s.clk := rfl
@[simp] theorem State.setVid_aud (v : Vid) : (s.setVid v).aud = s.aud := rfl
@[simp] theorem State.setVid_ch (v : Vid) : (s.setVid v).ch = s.ch := rfl
@[simp] theorem State.setVid_th (v : Vid) : (s.setVid v).th = s.th := rfl
@[simp] theorem State.setVid_lnk (v : Vid) : (s.setVid v).lnk = s.lnk := rfl
@[simp] theorem State.setVid_ing (v : Vid) : (s.setVid v).ing = s.ing := rfl
@[simp] theorem State.setVid_sch (v : Vid) : (s.setVid v).sch = s.sch := rfl
@[simp] theorem State.setVid_pix (v : Vid) : (s.setVid v).pix = s.pix := rfl
@[simp] theorem State.setVid_cor (v : Vid) : (s.setVid v).cor = s.cor := rfl
@[simp] theorem State.setVid_cmp (v : Vid) : (s.setVid v).cmp = s.cmp := rfl
@[simp] theorem State.setVid_vid (v : Vid) : (s.setVid v).vid = v := rfl
@[simp] theorem State.setVid_mem (v : Vid) : (s.setVid v).mem = s.mem := rfl
@[simp] theorem State.setVid_hst (v : Vid) : (s.setVid v).hst = s.hst := rfl
@[simp] theorem State.setVid_net (v : Vid) : (s.setVid v).net = s.net := rfl
@[simp] theorem State.setVid_out (v : Vid) : (s.setVid v).out = s.out := rfl
@[simp] theorem State.setVid_tap (v : Vid) : (s.setVid v).tap = s.tap := rfl
@[simp] theorem State.setVid_rdata (v : Vid) : (s.setVid v).rdata = s.rdata := rfl
@[simp] theorem State.setVid_rbytes (v : Vid) : (s.setVid v).rbytes = s.rbytes := rfl
@[simp] theorem State.setVid_pending (v : Vid) : (s.setVid v).pending = s.pending := rfl

@[simp] theorem State.setTh_variant (t : Therm) : (s.setTh t).variant = s.variant := rfl
@[simp] theorem State.setTh_now (t : Therm) : (s.setTh t).now = s.now := rfl
@[simp] theorem State.setTh_px (t : Therm) : (s.setTh t).px = s.px := rfl
@[simp] theorem State.setTh_mint (t : Therm) : (s.setTh t).mint = s.mint := rfl
@[simp] theorem State.setTh_regs (t : Therm) : (s.setTh t).regs = s.regs := rfl
@[simp] theorem State.setTh_shadow (t : Therm) : (s.setTh t).shadow = s.shadow := rfl
@[simp] theorem State.setTh_live (t : Therm) : (s.setTh t).live = s.live := rfl
@[simp] theorem State.setTh_flash (t : Therm) : (s.setTh t).flash = s.flash := rfl
@[simp] theorem State.setTh_otp (t : Therm) : (s.setTh t).otp = s.otp := rfl
@[simp] theorem State.setTh_plane (t : Therm) : (s.setTh t).plane = s.plane := rfl
@[simp] theorem State.setTh_escrow (t : Therm) : (s.setTh t).escrow = s.escrow := rfl
@[simp] theorem State.setTh_vlt (t : Therm) : (s.setTh t).vlt = s.vlt := rfl
@[simp] theorem State.setTh_pwr (t : Therm) : (s.setTh t).pwr = s.pwr := rfl
@[simp] theorem State.setTh_clk (t : Therm) : (s.setTh t).clk = s.clk := rfl
@[simp] theorem State.setTh_aud (t : Therm) : (s.setTh t).aud = s.aud := rfl
@[simp] theorem State.setTh_ch (t : Therm) : (s.setTh t).ch = s.ch := rfl
@[simp] theorem State.setTh_th (t : Therm) : (s.setTh t).th = t := rfl
@[simp] theorem State.setTh_lnk (t : Therm) : (s.setTh t).lnk = s.lnk := rfl
@[simp] theorem State.setTh_ing (t : Therm) : (s.setTh t).ing = s.ing := rfl
@[simp] theorem State.setTh_sch (t : Therm) : (s.setTh t).sch = s.sch := rfl
@[simp] theorem State.setTh_pix (t : Therm) : (s.setTh t).pix = s.pix := rfl
@[simp] theorem State.setTh_cor (t : Therm) : (s.setTh t).cor = s.cor := rfl
@[simp] theorem State.setTh_cmp (t : Therm) : (s.setTh t).cmp = s.cmp := rfl
@[simp] theorem State.setTh_vid (t : Therm) : (s.setTh t).vid = s.vid := rfl
@[simp] theorem State.setTh_mem (t : Therm) : (s.setTh t).mem = s.mem := rfl
@[simp] theorem State.setTh_hst (t : Therm) : (s.setTh t).hst = s.hst := rfl
@[simp] theorem State.setTh_net (t : Therm) : (s.setTh t).net = s.net := rfl
@[simp] theorem State.setTh_out (t : Therm) : (s.setTh t).out = s.out := rfl
@[simp] theorem State.setTh_tap (t : Therm) : (s.setTh t).tap = s.tap := rfl
@[simp] theorem State.setTh_rdata (t : Therm) : (s.setTh t).rdata = s.rdata := rfl
@[simp] theorem State.setTh_rbytes (t : Therm) : (s.setTh t).rbytes = s.rbytes := rfl
@[simp] theorem State.setTh_pending (t : Therm) : (s.setTh t).pending = s.pending := rfl

@[simp] theorem State.setVlt_variant (v : Vault) : (s.setVlt v).variant = s.variant := rfl
@[simp] theorem State.setVlt_now (v : Vault) : (s.setVlt v).now = s.now := rfl
@[simp] theorem State.setVlt_px (v : Vault) : (s.setVlt v).px = s.px := rfl
@[simp] theorem State.setVlt_mint (v : Vault) : (s.setVlt v).mint = s.mint := rfl
@[simp] theorem State.setVlt_regs (v : Vault) : (s.setVlt v).regs = s.regs := rfl
@[simp] theorem State.setVlt_shadow (v : Vault) : (s.setVlt v).shadow = s.shadow := rfl
@[simp] theorem State.setVlt_live (v : Vault) : (s.setVlt v).live = s.live := rfl
@[simp] theorem State.setVlt_flash (v : Vault) : (s.setVlt v).flash = s.flash := rfl
@[simp] theorem State.setVlt_otp (v : Vault) : (s.setVlt v).otp = s.otp := rfl
@[simp] theorem State.setVlt_plane (v : Vault) : (s.setVlt v).plane = s.plane := rfl
@[simp] theorem State.setVlt_escrow (v : Vault) : (s.setVlt v).escrow = s.escrow := rfl
@[simp] theorem State.setVlt_vlt (v : Vault) : (s.setVlt v).vlt = v := rfl
@[simp] theorem State.setVlt_pwr (v : Vault) : (s.setVlt v).pwr = s.pwr := rfl
@[simp] theorem State.setVlt_clk (v : Vault) : (s.setVlt v).clk = s.clk := rfl
@[simp] theorem State.setVlt_aud (v : Vault) : (s.setVlt v).aud = s.aud := rfl
@[simp] theorem State.setVlt_ch (v : Vault) : (s.setVlt v).ch = s.ch := rfl
@[simp] theorem State.setVlt_th (v : Vault) : (s.setVlt v).th = s.th := rfl
@[simp] theorem State.setVlt_lnk (v : Vault) : (s.setVlt v).lnk = s.lnk := rfl
@[simp] theorem State.setVlt_ing (v : Vault) : (s.setVlt v).ing = s.ing := rfl
@[simp] theorem State.setVlt_sch (v : Vault) : (s.setVlt v).sch = s.sch := rfl
@[simp] theorem State.setVlt_pix (v : Vault) : (s.setVlt v).pix = s.pix := rfl
@[simp] theorem State.setVlt_cor (v : Vault) : (s.setVlt v).cor = s.cor := rfl
@[simp] theorem State.setVlt_cmp (v : Vault) : (s.setVlt v).cmp = s.cmp := rfl
@[simp] theorem State.setVlt_vid (v : Vault) : (s.setVlt v).vid = s.vid := rfl
@[simp] theorem State.setVlt_mem (v : Vault) : (s.setVlt v).mem = s.mem := rfl
@[simp] theorem State.setVlt_hst (v : Vault) : (s.setVlt v).hst = s.hst := rfl
@[simp] theorem State.setVlt_net (v : Vault) : (s.setVlt v).net = s.net := rfl
@[simp] theorem State.setVlt_out (v : Vault) : (s.setVlt v).out = s.out := rfl
@[simp] theorem State.setVlt_tap (v : Vault) : (s.setVlt v).tap = s.tap := rfl
@[simp] theorem State.setVlt_rdata (v : Vault) : (s.setVlt v).rdata = s.rdata := rfl
@[simp] theorem State.setVlt_rbytes (v : Vault) : (s.setVlt v).rbytes = s.rbytes := rfl
@[simp] theorem State.setVlt_pending (v : Vault) : (s.setVlt v).pending = s.pending := rfl

@[simp] theorem State.setA5_variant (a : A5) : (s.setA5 a).variant = s.variant := rfl
@[simp] theorem State.setA5_now (a : A5) : (s.setA5 a).now = s.now := rfl
@[simp] theorem State.setA5_px (a : A5) : (s.setA5 a).px = s.px := rfl
@[simp] theorem State.setA5_mint (a : A5) : (s.setA5 a).mint = s.mint := rfl
@[simp] theorem State.setA5_regs (a : A5) : (s.setA5 a).regs = s.regs := rfl
@[simp] theorem State.setA5_shadow (a : A5) : (s.setA5 a).shadow = s.shadow := rfl
@[simp] theorem State.setA5_live (a : A5) : (s.setA5 a).live = s.live := rfl
@[simp] theorem State.setA5_flash (a : A5) : (s.setA5 a).flash = s.flash := rfl
@[simp] theorem State.setA5_otp (a : A5) : (s.setA5 a).otp = s.otp := rfl
@[simp] theorem State.setA5_plane (a : A5) : (s.setA5 a).plane = s.plane := rfl
@[simp] theorem State.setA5_escrow (a : A5) : (s.setA5 a).escrow = s.escrow := rfl
@[simp] theorem State.setA5_vlt (a : A5) : (s.setA5 a).vlt = s.vlt := rfl
@[simp] theorem State.setA5_pwr (a : A5) : (s.setA5 a).pwr = s.pwr := rfl
@[simp] theorem State.setA5_clk (a : A5) : (s.setA5 a).clk = s.clk := rfl
@[simp] theorem State.setA5_aud (a : A5) : (s.setA5 a).aud = s.aud := rfl
@[simp] theorem State.setA5_ch (a : A5) : (s.setA5 a).ch = s.ch := rfl
@[simp] theorem State.setA5_th (a : A5) : (s.setA5 a).th = s.th := rfl
@[simp] theorem State.setA5_lnk (a : A5) : (s.setA5 a).lnk = s.lnk := rfl
@[simp] theorem State.setA5_ing (a : A5) : (s.setA5 a).ing = s.ing := rfl
@[simp] theorem State.setA5_sch (a : A5) : (s.setA5 a).sch = { s.sch with a5 := a } := rfl
@[simp] theorem State.setA5_pix (a : A5) : (s.setA5 a).pix = s.pix := rfl
@[simp] theorem State.setA5_cor (a : A5) : (s.setA5 a).cor = s.cor := rfl
@[simp] theorem State.setA5_cmp (a : A5) : (s.setA5 a).cmp = s.cmp := rfl
@[simp] theorem State.setA5_vid (a : A5) : (s.setA5 a).vid = s.vid := rfl
@[simp] theorem State.setA5_mem (a : A5) : (s.setA5 a).mem = s.mem := rfl
@[simp] theorem State.setA5_hst (a : A5) : (s.setA5 a).hst = s.hst := rfl
@[simp] theorem State.setA5_net (a : A5) : (s.setA5 a).net = s.net := rfl
@[simp] theorem State.setA5_out (a : A5) : (s.setA5 a).out = s.out := rfl
@[simp] theorem State.setA5_tap (a : A5) : (s.setA5 a).tap = s.tap := rfl
@[simp] theorem State.setA5_rdata (a : A5) : (s.setA5 a).rdata = s.rdata := rfl
@[simp] theorem State.setA5_rbytes (a : A5) : (s.setA5 a).rbytes = s.rbytes := rfl
@[simp] theorem State.setA5_pending (a : A5) : (s.setA5 a).pending = s.pending := rfl

@[simp] theorem State.setLport_variant (n : Nat) (v : LnkPort) : (s.setLport n v).variant = s.variant := rfl
@[simp] theorem State.setLport_now (n : Nat) (v : LnkPort) : (s.setLport n v).now = s.now := rfl
@[simp] theorem State.setLport_px (n : Nat) (v : LnkPort) : (s.setLport n v).px = s.px := rfl
@[simp] theorem State.setLport_mint (n : Nat) (v : LnkPort) : (s.setLport n v).mint = s.mint := rfl
@[simp] theorem State.setLport_regs (n : Nat) (v : LnkPort) : (s.setLport n v).regs = s.regs := rfl
@[simp] theorem State.setLport_shadow (n : Nat) (v : LnkPort) : (s.setLport n v).shadow = s.shadow := rfl
@[simp] theorem State.setLport_live (n : Nat) (v : LnkPort) : (s.setLport n v).live = s.live := rfl
@[simp] theorem State.setLport_flash (n : Nat) (v : LnkPort) : (s.setLport n v).flash = s.flash := rfl
@[simp] theorem State.setLport_otp (n : Nat) (v : LnkPort) : (s.setLport n v).otp = s.otp := rfl
@[simp] theorem State.setLport_plane (n : Nat) (v : LnkPort) : (s.setLport n v).plane = s.plane := rfl
@[simp] theorem State.setLport_escrow (n : Nat) (v : LnkPort) : (s.setLport n v).escrow = s.escrow := rfl
@[simp] theorem State.setLport_vlt (n : Nat) (v : LnkPort) : (s.setLport n v).vlt = s.vlt := rfl
@[simp] theorem State.setLport_pwr (n : Nat) (v : LnkPort) : (s.setLport n v).pwr = s.pwr := rfl
@[simp] theorem State.setLport_clk (n : Nat) (v : LnkPort) : (s.setLport n v).clk = s.clk := rfl
@[simp] theorem State.setLport_aud (n : Nat) (v : LnkPort) : (s.setLport n v).aud = s.aud := rfl
@[simp] theorem State.setLport_ch (n : Nat) (v : LnkPort) : (s.setLport n v).ch = s.ch := rfl
@[simp] theorem State.setLport_th (n : Nat) (v : LnkPort) : (s.setLport n v).th = s.th := rfl
@[simp] theorem State.setLport_lnk (n : Nat) (v : LnkPort) : (s.setLport n v).lnk = { s.lnk with ports := Map.set (fun _ => LnkPort.init) s.lnk.ports n v } := rfl
@[simp] theorem State.setLport_ing (n : Nat) (v : LnkPort) : (s.setLport n v).ing = s.ing := rfl
@[simp] theorem State.setLport_sch (n : Nat) (v : LnkPort) : (s.setLport n v).sch = s.sch := rfl
@[simp] theorem State.setLport_pix (n : Nat) (v : LnkPort) : (s.setLport n v).pix = s.pix := rfl
@[simp] theorem State.setLport_cor (n : Nat) (v : LnkPort) : (s.setLport n v).cor = s.cor := rfl
@[simp] theorem State.setLport_cmp (n : Nat) (v : LnkPort) : (s.setLport n v).cmp = s.cmp := rfl
@[simp] theorem State.setLport_vid (n : Nat) (v : LnkPort) : (s.setLport n v).vid = s.vid := rfl
@[simp] theorem State.setLport_mem (n : Nat) (v : LnkPort) : (s.setLport n v).mem = s.mem := rfl
@[simp] theorem State.setLport_hst (n : Nat) (v : LnkPort) : (s.setLport n v).hst = s.hst := rfl
@[simp] theorem State.setLport_net (n : Nat) (v : LnkPort) : (s.setLport n v).net = s.net := rfl
@[simp] theorem State.setLport_out (n : Nat) (v : LnkPort) : (s.setLport n v).out = s.out := rfl
@[simp] theorem State.setLport_tap (n : Nat) (v : LnkPort) : (s.setLport n v).tap = s.tap := rfl
@[simp] theorem State.setLport_rdata (n : Nat) (v : LnkPort) : (s.setLport n v).rdata = s.rdata := rfl
@[simp] theorem State.setLport_rbytes (n : Nat) (v : LnkPort) : (s.setLport n v).rbytes = s.rbytes := rfl
@[simp] theorem State.setLport_pending (n : Nat) (v : LnkPort) : (s.setLport n v).pending = s.pending := rfl

@[simp] theorem State.setLane_variant (l : Nat) (v : Lane) : (s.setLane l v).variant = s.variant := rfl
@[simp] theorem State.setLane_now (l : Nat) (v : Lane) : (s.setLane l v).now = s.now := rfl
@[simp] theorem State.setLane_px (l : Nat) (v : Lane) : (s.setLane l v).px = s.px := rfl
@[simp] theorem State.setLane_mint (l : Nat) (v : Lane) : (s.setLane l v).mint = s.mint := rfl
@[simp] theorem State.setLane_regs (l : Nat) (v : Lane) : (s.setLane l v).regs = s.regs := rfl
@[simp] theorem State.setLane_shadow (l : Nat) (v : Lane) : (s.setLane l v).shadow = s.shadow := rfl
@[simp] theorem State.setLane_live (l : Nat) (v : Lane) : (s.setLane l v).live = s.live := rfl
@[simp] theorem State.setLane_flash (l : Nat) (v : Lane) : (s.setLane l v).flash = s.flash := rfl
@[simp] theorem State.setLane_otp (l : Nat) (v : Lane) : (s.setLane l v).otp = s.otp := rfl
@[simp] theorem State.setLane_plane (l : Nat) (v : Lane) : (s.setLane l v).plane = s.plane := rfl
@[simp] theorem State.setLane_escrow (l : Nat) (v : Lane) : (s.setLane l v).escrow = s.escrow := rfl
@[simp] theorem State.setLane_vlt (l : Nat) (v : Lane) : (s.setLane l v).vlt = s.vlt := rfl
@[simp] theorem State.setLane_pwr (l : Nat) (v : Lane) : (s.setLane l v).pwr = s.pwr := rfl
@[simp] theorem State.setLane_clk (l : Nat) (v : Lane) : (s.setLane l v).clk = s.clk := rfl
@[simp] theorem State.setLane_aud (l : Nat) (v : Lane) : (s.setLane l v).aud = s.aud := rfl
@[simp] theorem State.setLane_ch (l : Nat) (v : Lane) : (s.setLane l v).ch = s.ch := rfl
@[simp] theorem State.setLane_th (l : Nat) (v : Lane) : (s.setLane l v).th = s.th := rfl
@[simp] theorem State.setLane_lnk (l : Nat) (v : Lane) : (s.setLane l v).lnk = { s.lnk with lanes := Map.set (fun _ => Lane.init) s.lnk.lanes l v } := rfl
@[simp] theorem State.setLane_ing (l : Nat) (v : Lane) : (s.setLane l v).ing = s.ing := rfl
@[simp] theorem State.setLane_sch (l : Nat) (v : Lane) : (s.setLane l v).sch = s.sch := rfl
@[simp] theorem State.setLane_pix (l : Nat) (v : Lane) : (s.setLane l v).pix = s.pix := rfl
@[simp] theorem State.setLane_cor (l : Nat) (v : Lane) : (s.setLane l v).cor = s.cor := rfl
@[simp] theorem State.setLane_cmp (l : Nat) (v : Lane) : (s.setLane l v).cmp = s.cmp := rfl
@[simp] theorem State.setLane_vid (l : Nat) (v : Lane) : (s.setLane l v).vid = s.vid := rfl
@[simp] theorem State.setLane_mem (l : Nat) (v : Lane) : (s.setLane l v).mem = s.mem := rfl
@[simp] theorem State.setLane_hst (l : Nat) (v : Lane) : (s.setLane l v).hst = s.hst := rfl
@[simp] theorem State.setLane_net (l : Nat) (v : Lane) : (s.setLane l v).net = s.net := rfl
@[simp] theorem State.setLane_out (l : Nat) (v : Lane) : (s.setLane l v).out = s.out := rfl
@[simp] theorem State.setLane_tap (l : Nat) (v : Lane) : (s.setLane l v).tap = s.tap := rfl
@[simp] theorem State.setLane_rdata (l : Nat) (v : Lane) : (s.setLane l v).rdata = s.rdata := rfl
@[simp] theorem State.setLane_rbytes (l : Nat) (v : Lane) : (s.setLane l v).rbytes = s.rbytes := rfl
@[simp] theorem State.setLane_pending (l : Nat) (v : Lane) : (s.setLane l v).pending = s.pending := rfl

@[simp] theorem State.setSchHead_variant (n : Nat) (v : SchHead) : (s.setSchHead n v).variant = s.variant := rfl
@[simp] theorem State.setSchHead_now (n : Nat) (v : SchHead) : (s.setSchHead n v).now = s.now := rfl
@[simp] theorem State.setSchHead_px (n : Nat) (v : SchHead) : (s.setSchHead n v).px = s.px := rfl
@[simp] theorem State.setSchHead_mint (n : Nat) (v : SchHead) : (s.setSchHead n v).mint = s.mint := rfl
@[simp] theorem State.setSchHead_regs (n : Nat) (v : SchHead) : (s.setSchHead n v).regs = s.regs := rfl
@[simp] theorem State.setSchHead_shadow (n : Nat) (v : SchHead) : (s.setSchHead n v).shadow = s.shadow := rfl
@[simp] theorem State.setSchHead_live (n : Nat) (v : SchHead) : (s.setSchHead n v).live = s.live := rfl
@[simp] theorem State.setSchHead_flash (n : Nat) (v : SchHead) : (s.setSchHead n v).flash = s.flash := rfl
@[simp] theorem State.setSchHead_otp (n : Nat) (v : SchHead) : (s.setSchHead n v).otp = s.otp := rfl
@[simp] theorem State.setSchHead_plane (n : Nat) (v : SchHead) : (s.setSchHead n v).plane = s.plane := rfl
@[simp] theorem State.setSchHead_escrow (n : Nat) (v : SchHead) : (s.setSchHead n v).escrow = s.escrow := rfl
@[simp] theorem State.setSchHead_vlt (n : Nat) (v : SchHead) : (s.setSchHead n v).vlt = s.vlt := rfl
@[simp] theorem State.setSchHead_pwr (n : Nat) (v : SchHead) : (s.setSchHead n v).pwr = s.pwr := rfl
@[simp] theorem State.setSchHead_clk (n : Nat) (v : SchHead) : (s.setSchHead n v).clk = s.clk := rfl
@[simp] theorem State.setSchHead_aud (n : Nat) (v : SchHead) : (s.setSchHead n v).aud = s.aud := rfl
@[simp] theorem State.setSchHead_ch (n : Nat) (v : SchHead) : (s.setSchHead n v).ch = s.ch := rfl
@[simp] theorem State.setSchHead_th (n : Nat) (v : SchHead) : (s.setSchHead n v).th = s.th := rfl
@[simp] theorem State.setSchHead_lnk (n : Nat) (v : SchHead) : (s.setSchHead n v).lnk = s.lnk := rfl
@[simp] theorem State.setSchHead_ing (n : Nat) (v : SchHead) : (s.setSchHead n v).ing = s.ing := rfl
@[simp] theorem State.setSchHead_sch (n : Nat) (v : SchHead) : (s.setSchHead n v).sch = { s.sch with heads := Map.set (fun _ => SchHead.init) s.sch.heads n v } := rfl
@[simp] theorem State.setSchHead_pix (n : Nat) (v : SchHead) : (s.setSchHead n v).pix = s.pix := rfl
@[simp] theorem State.setSchHead_cor (n : Nat) (v : SchHead) : (s.setSchHead n v).cor = s.cor := rfl
@[simp] theorem State.setSchHead_cmp (n : Nat) (v : SchHead) : (s.setSchHead n v).cmp = s.cmp := rfl
@[simp] theorem State.setSchHead_vid (n : Nat) (v : SchHead) : (s.setSchHead n v).vid = s.vid := rfl
@[simp] theorem State.setSchHead_mem (n : Nat) (v : SchHead) : (s.setSchHead n v).mem = s.mem := rfl
@[simp] theorem State.setSchHead_hst (n : Nat) (v : SchHead) : (s.setSchHead n v).hst = s.hst := rfl
@[simp] theorem State.setSchHead_net (n : Nat) (v : SchHead) : (s.setSchHead n v).net = s.net := rfl
@[simp] theorem State.setSchHead_out (n : Nat) (v : SchHead) : (s.setSchHead n v).out = s.out := rfl
@[simp] theorem State.setSchHead_tap (n : Nat) (v : SchHead) : (s.setSchHead n v).tap = s.tap := rfl
@[simp] theorem State.setSchHead_rdata (n : Nat) (v : SchHead) : (s.setSchHead n v).rdata = s.rdata := rfl
@[simp] theorem State.setSchHead_rbytes (n : Nat) (v : SchHead) : (s.setSchHead n v).rbytes = s.rbytes := rfl
@[simp] theorem State.setSchHead_pending (n : Nat) (v : SchHead) : (s.setSchHead n v).pending = s.pending := rfl

@[simp] theorem State.setAxis_variant (n : Nat) (v : Axis) : (s.setAxis n v).variant = s.variant := rfl
@[simp] theorem State.setAxis_now (n : Nat) (v : Axis) : (s.setAxis n v).now = s.now := rfl
@[simp] theorem State.setAxis_px (n : Nat) (v : Axis) : (s.setAxis n v).px = s.px := rfl
@[simp] theorem State.setAxis_mint (n : Nat) (v : Axis) : (s.setAxis n v).mint = s.mint := rfl
@[simp] theorem State.setAxis_regs (n : Nat) (v : Axis) : (s.setAxis n v).regs = s.regs := rfl
@[simp] theorem State.setAxis_shadow (n : Nat) (v : Axis) : (s.setAxis n v).shadow = s.shadow := rfl
@[simp] theorem State.setAxis_live (n : Nat) (v : Axis) : (s.setAxis n v).live = s.live := rfl
@[simp] theorem State.setAxis_flash (n : Nat) (v : Axis) : (s.setAxis n v).flash = s.flash := rfl
@[simp] theorem State.setAxis_otp (n : Nat) (v : Axis) : (s.setAxis n v).otp = s.otp := rfl
@[simp] theorem State.setAxis_plane (n : Nat) (v : Axis) : (s.setAxis n v).plane = s.plane := rfl
@[simp] theorem State.setAxis_escrow (n : Nat) (v : Axis) : (s.setAxis n v).escrow = s.escrow := rfl
@[simp] theorem State.setAxis_vlt (n : Nat) (v : Axis) : (s.setAxis n v).vlt = s.vlt := rfl
@[simp] theorem State.setAxis_pwr (n : Nat) (v : Axis) : (s.setAxis n v).pwr = s.pwr := rfl
@[simp] theorem State.setAxis_clk (n : Nat) (v : Axis) : (s.setAxis n v).clk = s.clk := rfl
@[simp] theorem State.setAxis_aud (n : Nat) (v : Axis) : (s.setAxis n v).aud = s.aud := rfl
@[simp] theorem State.setAxis_ch (n : Nat) (v : Axis) : (s.setAxis n v).ch = s.ch := rfl
@[simp] theorem State.setAxis_th (n : Nat) (v : Axis) : (s.setAxis n v).th = s.th := rfl
@[simp] theorem State.setAxis_lnk (n : Nat) (v : Axis) : (s.setAxis n v).lnk = s.lnk := rfl
@[simp] theorem State.setAxis_ing (n : Nat) (v : Axis) : (s.setAxis n v).ing = s.ing := rfl
@[simp] theorem State.setAxis_sch (n : Nat) (v : Axis) : (s.setAxis n v).sch = { s.sch with axes := Map.set (fun _ => Axis.init) s.sch.axes n v } := rfl
@[simp] theorem State.setAxis_pix (n : Nat) (v : Axis) : (s.setAxis n v).pix = s.pix := rfl
@[simp] theorem State.setAxis_cor (n : Nat) (v : Axis) : (s.setAxis n v).cor = s.cor := rfl
@[simp] theorem State.setAxis_cmp (n : Nat) (v : Axis) : (s.setAxis n v).cmp = s.cmp := rfl
@[simp] theorem State.setAxis_vid (n : Nat) (v : Axis) : (s.setAxis n v).vid = s.vid := rfl
@[simp] theorem State.setAxis_mem (n : Nat) (v : Axis) : (s.setAxis n v).mem = s.mem := rfl
@[simp] theorem State.setAxis_hst (n : Nat) (v : Axis) : (s.setAxis n v).hst = s.hst := rfl
@[simp] theorem State.setAxis_net (n : Nat) (v : Axis) : (s.setAxis n v).net = s.net := rfl
@[simp] theorem State.setAxis_out (n : Nat) (v : Axis) : (s.setAxis n v).out = s.out := rfl
@[simp] theorem State.setAxis_tap (n : Nat) (v : Axis) : (s.setAxis n v).tap = s.tap := rfl
@[simp] theorem State.setAxis_rdata (n : Nat) (v : Axis) : (s.setAxis n v).rdata = s.rdata := rfl
@[simp] theorem State.setAxis_rbytes (n : Nat) (v : Axis) : (s.setAxis n v).rbytes = s.rbytes := rfl
@[simp] theorem State.setAxis_pending (n : Nat) (v : Axis) : (s.setAxis n v).pending = s.pending := rfl

@[simp] theorem State.setPart_variant (p : Nat) (v : Part) : (s.setPart p v).variant = s.variant := rfl
@[simp] theorem State.setPart_now (p : Nat) (v : Part) : (s.setPart p v).now = s.now := rfl
@[simp] theorem State.setPart_px (p : Nat) (v : Part) : (s.setPart p v).px = s.px := rfl
@[simp] theorem State.setPart_mint (p : Nat) (v : Part) : (s.setPart p v).mint = s.mint := rfl
@[simp] theorem State.setPart_regs (p : Nat) (v : Part) : (s.setPart p v).regs = s.regs := rfl
@[simp] theorem State.setPart_shadow (p : Nat) (v : Part) : (s.setPart p v).shadow = s.shadow := rfl
@[simp] theorem State.setPart_live (p : Nat) (v : Part) : (s.setPart p v).live = s.live := rfl
@[simp] theorem State.setPart_flash (p : Nat) (v : Part) : (s.setPart p v).flash = s.flash := rfl
@[simp] theorem State.setPart_otp (p : Nat) (v : Part) : (s.setPart p v).otp = s.otp := rfl
@[simp] theorem State.setPart_plane (p : Nat) (v : Part) : (s.setPart p v).plane = s.plane := rfl
@[simp] theorem State.setPart_escrow (p : Nat) (v : Part) : (s.setPart p v).escrow = s.escrow := rfl
@[simp] theorem State.setPart_vlt (p : Nat) (v : Part) : (s.setPart p v).vlt = s.vlt := rfl
@[simp] theorem State.setPart_pwr (p : Nat) (v : Part) : (s.setPart p v).pwr = s.pwr := rfl
@[simp] theorem State.setPart_clk (p : Nat) (v : Part) : (s.setPart p v).clk = s.clk := rfl
@[simp] theorem State.setPart_aud (p : Nat) (v : Part) : (s.setPart p v).aud = s.aud := rfl
@[simp] theorem State.setPart_ch (p : Nat) (v : Part) : (s.setPart p v).ch = s.ch := rfl
@[simp] theorem State.setPart_th (p : Nat) (v : Part) : (s.setPart p v).th = s.th := rfl
@[simp] theorem State.setPart_lnk (p : Nat) (v : Part) : (s.setPart p v).lnk = s.lnk := rfl
@[simp] theorem State.setPart_ing (p : Nat) (v : Part) : (s.setPart p v).ing = { s.ing with parts := Map.set (fun _ => Part.init) s.ing.parts p v } := rfl
@[simp] theorem State.setPart_sch (p : Nat) (v : Part) : (s.setPart p v).sch = s.sch := rfl
@[simp] theorem State.setPart_pix (p : Nat) (v : Part) : (s.setPart p v).pix = s.pix := rfl
@[simp] theorem State.setPart_cor (p : Nat) (v : Part) : (s.setPart p v).cor = s.cor := rfl
@[simp] theorem State.setPart_cmp (p : Nat) (v : Part) : (s.setPart p v).cmp = s.cmp := rfl
@[simp] theorem State.setPart_vid (p : Nat) (v : Part) : (s.setPart p v).vid = s.vid := rfl
@[simp] theorem State.setPart_mem (p : Nat) (v : Part) : (s.setPart p v).mem = s.mem := rfl
@[simp] theorem State.setPart_hst (p : Nat) (v : Part) : (s.setPart p v).hst = s.hst := rfl
@[simp] theorem State.setPart_net (p : Nat) (v : Part) : (s.setPart p v).net = s.net := rfl
@[simp] theorem State.setPart_out (p : Nat) (v : Part) : (s.setPart p v).out = s.out := rfl
@[simp] theorem State.setPart_tap (p : Nat) (v : Part) : (s.setPart p v).tap = s.tap := rfl
@[simp] theorem State.setPart_rdata (p : Nat) (v : Part) : (s.setPart p v).rdata = s.rdata := rfl
@[simp] theorem State.setPart_rbytes (p : Nat) (v : Part) : (s.setPart p v).rbytes = s.rbytes := rfl
@[simp] theorem State.setPart_pending (p : Nat) (v : Part) : (s.setPart p v).pending = s.pending := rfl

@[simp] theorem State.setFrames_variant (l : List Frame) : (s.setFrames l).variant = s.variant := rfl
@[simp] theorem State.setFrames_now (l : List Frame) : (s.setFrames l).now = s.now := rfl
@[simp] theorem State.setFrames_px (l : List Frame) : (s.setFrames l).px = s.px := rfl
@[simp] theorem State.setFrames_mint (l : List Frame) : (s.setFrames l).mint = s.mint := rfl
@[simp] theorem State.setFrames_regs (l : List Frame) : (s.setFrames l).regs = s.regs := rfl
@[simp] theorem State.setFrames_shadow (l : List Frame) : (s.setFrames l).shadow = s.shadow := rfl
@[simp] theorem State.setFrames_live (l : List Frame) : (s.setFrames l).live = s.live := rfl
@[simp] theorem State.setFrames_flash (l : List Frame) : (s.setFrames l).flash = s.flash := rfl
@[simp] theorem State.setFrames_otp (l : List Frame) : (s.setFrames l).otp = s.otp := rfl
@[simp] theorem State.setFrames_plane (l : List Frame) : (s.setFrames l).plane = s.plane := rfl
@[simp] theorem State.setFrames_escrow (l : List Frame) : (s.setFrames l).escrow = s.escrow := rfl
@[simp] theorem State.setFrames_vlt (l : List Frame) : (s.setFrames l).vlt = s.vlt := rfl
@[simp] theorem State.setFrames_pwr (l : List Frame) : (s.setFrames l).pwr = s.pwr := rfl
@[simp] theorem State.setFrames_clk (l : List Frame) : (s.setFrames l).clk = s.clk := rfl
@[simp] theorem State.setFrames_aud (l : List Frame) : (s.setFrames l).aud = s.aud := rfl
@[simp] theorem State.setFrames_ch (l : List Frame) : (s.setFrames l).ch = s.ch := rfl
@[simp] theorem State.setFrames_th (l : List Frame) : (s.setFrames l).th = s.th := rfl
@[simp] theorem State.setFrames_lnk (l : List Frame) : (s.setFrames l).lnk = s.lnk := rfl
@[simp] theorem State.setFrames_ing (l : List Frame) : (s.setFrames l).ing = { s.ing with frames := l } := rfl
@[simp] theorem State.setFrames_sch (l : List Frame) : (s.setFrames l).sch = s.sch := rfl
@[simp] theorem State.setFrames_pix (l : List Frame) : (s.setFrames l).pix = s.pix := rfl
@[simp] theorem State.setFrames_cor (l : List Frame) : (s.setFrames l).cor = s.cor := rfl
@[simp] theorem State.setFrames_cmp (l : List Frame) : (s.setFrames l).cmp = s.cmp := rfl
@[simp] theorem State.setFrames_vid (l : List Frame) : (s.setFrames l).vid = s.vid := rfl
@[simp] theorem State.setFrames_mem (l : List Frame) : (s.setFrames l).mem = s.mem := rfl
@[simp] theorem State.setFrames_hst (l : List Frame) : (s.setFrames l).hst = s.hst := rfl
@[simp] theorem State.setFrames_net (l : List Frame) : (s.setFrames l).net = s.net := rfl
@[simp] theorem State.setFrames_out (l : List Frame) : (s.setFrames l).out = s.out := rfl
@[simp] theorem State.setFrames_tap (l : List Frame) : (s.setFrames l).tap = s.tap := rfl
@[simp] theorem State.setFrames_rdata (l : List Frame) : (s.setFrames l).rdata = s.rdata := rfl
@[simp] theorem State.setFrames_rbytes (l : List Frame) : (s.setFrames l).rbytes = s.rbytes := rfl
@[simp] theorem State.setFrames_pending (l : List Frame) : (s.setFrames l).pending = s.pending := rfl

@[simp] theorem State.setSchStr_variant (i : Nat) (v : SchStr) : (s.setSchStr i v).variant = s.variant := rfl
@[simp] theorem State.setSchStr_now (i : Nat) (v : SchStr) : (s.setSchStr i v).now = s.now := rfl
@[simp] theorem State.setSchStr_px (i : Nat) (v : SchStr) : (s.setSchStr i v).px = s.px := rfl
@[simp] theorem State.setSchStr_mint (i : Nat) (v : SchStr) : (s.setSchStr i v).mint = s.mint := rfl
@[simp] theorem State.setSchStr_regs (i : Nat) (v : SchStr) : (s.setSchStr i v).regs = s.regs := rfl
@[simp] theorem State.setSchStr_shadow (i : Nat) (v : SchStr) : (s.setSchStr i v).shadow = s.shadow := rfl
@[simp] theorem State.setSchStr_live (i : Nat) (v : SchStr) : (s.setSchStr i v).live = s.live := rfl
@[simp] theorem State.setSchStr_flash (i : Nat) (v : SchStr) : (s.setSchStr i v).flash = s.flash := rfl
@[simp] theorem State.setSchStr_otp (i : Nat) (v : SchStr) : (s.setSchStr i v).otp = s.otp := rfl
@[simp] theorem State.setSchStr_plane (i : Nat) (v : SchStr) : (s.setSchStr i v).plane = s.plane := rfl
@[simp] theorem State.setSchStr_escrow (i : Nat) (v : SchStr) : (s.setSchStr i v).escrow = s.escrow := rfl
@[simp] theorem State.setSchStr_vlt (i : Nat) (v : SchStr) : (s.setSchStr i v).vlt = s.vlt := rfl
@[simp] theorem State.setSchStr_pwr (i : Nat) (v : SchStr) : (s.setSchStr i v).pwr = s.pwr := rfl
@[simp] theorem State.setSchStr_clk (i : Nat) (v : SchStr) : (s.setSchStr i v).clk = s.clk := rfl
@[simp] theorem State.setSchStr_aud (i : Nat) (v : SchStr) : (s.setSchStr i v).aud = s.aud := rfl
@[simp] theorem State.setSchStr_ch (i : Nat) (v : SchStr) : (s.setSchStr i v).ch = s.ch := rfl
@[simp] theorem State.setSchStr_th (i : Nat) (v : SchStr) : (s.setSchStr i v).th = s.th := rfl
@[simp] theorem State.setSchStr_lnk (i : Nat) (v : SchStr) : (s.setSchStr i v).lnk = s.lnk := rfl
@[simp] theorem State.setSchStr_ing (i : Nat) (v : SchStr) : (s.setSchStr i v).ing = s.ing := rfl
@[simp] theorem State.setSchStr_sch (i : Nat) (v : SchStr) : (s.setSchStr i v).sch = { s.sch with strs := Map.set (fun _ => SchStr.init) s.sch.strs i v } := rfl
@[simp] theorem State.setSchStr_pix (i : Nat) (v : SchStr) : (s.setSchStr i v).pix = s.pix := rfl
@[simp] theorem State.setSchStr_cor (i : Nat) (v : SchStr) : (s.setSchStr i v).cor = s.cor := rfl
@[simp] theorem State.setSchStr_cmp (i : Nat) (v : SchStr) : (s.setSchStr i v).cmp = s.cmp := rfl
@[simp] theorem State.setSchStr_vid (i : Nat) (v : SchStr) : (s.setSchStr i v).vid = s.vid := rfl
@[simp] theorem State.setSchStr_mem (i : Nat) (v : SchStr) : (s.setSchStr i v).mem = s.mem := rfl
@[simp] theorem State.setSchStr_hst (i : Nat) (v : SchStr) : (s.setSchStr i v).hst = s.hst := rfl
@[simp] theorem State.setSchStr_net (i : Nat) (v : SchStr) : (s.setSchStr i v).net = s.net := rfl
@[simp] theorem State.setSchStr_out (i : Nat) (v : SchStr) : (s.setSchStr i v).out = s.out := rfl
@[simp] theorem State.setSchStr_tap (i : Nat) (v : SchStr) : (s.setSchStr i v).tap = s.tap := rfl
@[simp] theorem State.setSchStr_rdata (i : Nat) (v : SchStr) : (s.setSchStr i v).rdata = s.rdata := rfl
@[simp] theorem State.setSchStr_rbytes (i : Nat) (v : SchStr) : (s.setSchStr i v).rbytes = s.rbytes := rfl
@[simp] theorem State.setSchStr_pending (i : Nat) (v : SchStr) : (s.setSchStr i v).pending = s.pending := rfl

@[simp] theorem State.setPixStr_variant (i : Nat) (v : PixStr) : (s.setPixStr i v).variant = s.variant := rfl
@[simp] theorem State.setPixStr_now (i : Nat) (v : PixStr) : (s.setPixStr i v).now = s.now := rfl
@[simp] theorem State.setPixStr_px (i : Nat) (v : PixStr) : (s.setPixStr i v).px = s.px := rfl
@[simp] theorem State.setPixStr_mint (i : Nat) (v : PixStr) : (s.setPixStr i v).mint = s.mint := rfl
@[simp] theorem State.setPixStr_regs (i : Nat) (v : PixStr) : (s.setPixStr i v).regs = s.regs := rfl
@[simp] theorem State.setPixStr_shadow (i : Nat) (v : PixStr) : (s.setPixStr i v).shadow = s.shadow := rfl
@[simp] theorem State.setPixStr_live (i : Nat) (v : PixStr) : (s.setPixStr i v).live = s.live := rfl
@[simp] theorem State.setPixStr_flash (i : Nat) (v : PixStr) : (s.setPixStr i v).flash = s.flash := rfl
@[simp] theorem State.setPixStr_otp (i : Nat) (v : PixStr) : (s.setPixStr i v).otp = s.otp := rfl
@[simp] theorem State.setPixStr_plane (i : Nat) (v : PixStr) : (s.setPixStr i v).plane = s.plane := rfl
@[simp] theorem State.setPixStr_escrow (i : Nat) (v : PixStr) : (s.setPixStr i v).escrow = s.escrow := rfl
@[simp] theorem State.setPixStr_vlt (i : Nat) (v : PixStr) : (s.setPixStr i v).vlt = s.vlt := rfl
@[simp] theorem State.setPixStr_pwr (i : Nat) (v : PixStr) : (s.setPixStr i v).pwr = s.pwr := rfl
@[simp] theorem State.setPixStr_clk (i : Nat) (v : PixStr) : (s.setPixStr i v).clk = s.clk := rfl
@[simp] theorem State.setPixStr_aud (i : Nat) (v : PixStr) : (s.setPixStr i v).aud = s.aud := rfl
@[simp] theorem State.setPixStr_ch (i : Nat) (v : PixStr) : (s.setPixStr i v).ch = s.ch := rfl
@[simp] theorem State.setPixStr_th (i : Nat) (v : PixStr) : (s.setPixStr i v).th = s.th := rfl
@[simp] theorem State.setPixStr_lnk (i : Nat) (v : PixStr) : (s.setPixStr i v).lnk = s.lnk := rfl
@[simp] theorem State.setPixStr_ing (i : Nat) (v : PixStr) : (s.setPixStr i v).ing = s.ing := rfl
@[simp] theorem State.setPixStr_sch (i : Nat) (v : PixStr) : (s.setPixStr i v).sch = s.sch := rfl
@[simp] theorem State.setPixStr_pix (i : Nat) (v : PixStr) : (s.setPixStr i v).pix = Map.set (fun _ => PixStr.init) s.pix i v := rfl
@[simp] theorem State.setPixStr_cor (i : Nat) (v : PixStr) : (s.setPixStr i v).cor = s.cor := rfl
@[simp] theorem State.setPixStr_cmp (i : Nat) (v : PixStr) : (s.setPixStr i v).cmp = s.cmp := rfl
@[simp] theorem State.setPixStr_vid (i : Nat) (v : PixStr) : (s.setPixStr i v).vid = s.vid := rfl
@[simp] theorem State.setPixStr_mem (i : Nat) (v : PixStr) : (s.setPixStr i v).mem = s.mem := rfl
@[simp] theorem State.setPixStr_hst (i : Nat) (v : PixStr) : (s.setPixStr i v).hst = s.hst := rfl
@[simp] theorem State.setPixStr_net (i : Nat) (v : PixStr) : (s.setPixStr i v).net = s.net := rfl
@[simp] theorem State.setPixStr_out (i : Nat) (v : PixStr) : (s.setPixStr i v).out = s.out := rfl
@[simp] theorem State.setPixStr_tap (i : Nat) (v : PixStr) : (s.setPixStr i v).tap = s.tap := rfl
@[simp] theorem State.setPixStr_rdata (i : Nat) (v : PixStr) : (s.setPixStr i v).rdata = s.rdata := rfl
@[simp] theorem State.setPixStr_rbytes (i : Nat) (v : PixStr) : (s.setPixStr i v).rbytes = s.rbytes := rfl
@[simp] theorem State.setPixStr_pending (i : Nat) (v : PixStr) : (s.setPixStr i v).pending = s.pending := rfl

@[simp] theorem State.setCmp_variant (t e : Nat) (v : CmpEnt) : (s.setCmp t e v).variant = s.variant := rfl
@[simp] theorem State.setCmp_now (t e : Nat) (v : CmpEnt) : (s.setCmp t e v).now = s.now := rfl
@[simp] theorem State.setCmp_px (t e : Nat) (v : CmpEnt) : (s.setCmp t e v).px = s.px := rfl
@[simp] theorem State.setCmp_mint (t e : Nat) (v : CmpEnt) : (s.setCmp t e v).mint = s.mint := rfl
@[simp] theorem State.setCmp_regs (t e : Nat) (v : CmpEnt) : (s.setCmp t e v).regs = s.regs := rfl
@[simp] theorem State.setCmp_shadow (t e : Nat) (v : CmpEnt) : (s.setCmp t e v).shadow = s.shadow := rfl
@[simp] theorem State.setCmp_live (t e : Nat) (v : CmpEnt) : (s.setCmp t e v).live = s.live := rfl
@[simp] theorem State.setCmp_flash (t e : Nat) (v : CmpEnt) : (s.setCmp t e v).flash = s.flash := rfl
@[simp] theorem State.setCmp_otp (t e : Nat) (v : CmpEnt) : (s.setCmp t e v).otp = s.otp := rfl
@[simp] theorem State.setCmp_plane (t e : Nat) (v : CmpEnt) : (s.setCmp t e v).plane = s.plane := rfl
@[simp] theorem State.setCmp_escrow (t e : Nat) (v : CmpEnt) : (s.setCmp t e v).escrow = s.escrow := rfl
@[simp] theorem State.setCmp_vlt (t e : Nat) (v : CmpEnt) : (s.setCmp t e v).vlt = s.vlt := rfl
@[simp] theorem State.setCmp_pwr (t e : Nat) (v : CmpEnt) : (s.setCmp t e v).pwr = s.pwr := rfl
@[simp] theorem State.setCmp_clk (t e : Nat) (v : CmpEnt) : (s.setCmp t e v).clk = s.clk := rfl
@[simp] theorem State.setCmp_aud (t e : Nat) (v : CmpEnt) : (s.setCmp t e v).aud = s.aud := rfl
@[simp] theorem State.setCmp_ch (t e : Nat) (v : CmpEnt) : (s.setCmp t e v).ch = s.ch := rfl
@[simp] theorem State.setCmp_th (t e : Nat) (v : CmpEnt) : (s.setCmp t e v).th = s.th := rfl
@[simp] theorem State.setCmp_lnk (t e : Nat) (v : CmpEnt) : (s.setCmp t e v).lnk = s.lnk := rfl
@[simp] theorem State.setCmp_ing (t e : Nat) (v : CmpEnt) : (s.setCmp t e v).ing = s.ing := rfl
@[simp] theorem State.setCmp_sch (t e : Nat) (v : CmpEnt) : (s.setCmp t e v).sch = { s.sch with tbl := Map.set (fun _ => CmpEnt.init) s.sch.tbl (t * 4096 + e) v } := rfl
@[simp] theorem State.setCmp_pix (t e : Nat) (v : CmpEnt) : (s.setCmp t e v).pix = s.pix := rfl
@[simp] theorem State.setCmp_cor (t e : Nat) (v : CmpEnt) : (s.setCmp t e v).cor = s.cor := rfl
@[simp] theorem State.setCmp_cmp (t e : Nat) (v : CmpEnt) : (s.setCmp t e v).cmp = s.cmp := rfl
@[simp] theorem State.setCmp_vid (t e : Nat) (v : CmpEnt) : (s.setCmp t e v).vid = s.vid := rfl
@[simp] theorem State.setCmp_mem (t e : Nat) (v : CmpEnt) : (s.setCmp t e v).mem = s.mem := rfl
@[simp] theorem State.setCmp_hst (t e : Nat) (v : CmpEnt) : (s.setCmp t e v).hst = s.hst := rfl
@[simp] theorem State.setCmp_net (t e : Nat) (v : CmpEnt) : (s.setCmp t e v).net = s.net := rfl
@[simp] theorem State.setCmp_out (t e : Nat) (v : CmpEnt) : (s.setCmp t e v).out = s.out := rfl
@[simp] theorem State.setCmp_tap (t e : Nat) (v : CmpEnt) : (s.setCmp t e v).tap = s.tap := rfl
@[simp] theorem State.setCmp_rdata (t e : Nat) (v : CmpEnt) : (s.setCmp t e v).rdata = s.rdata := rfl
@[simp] theorem State.setCmp_rbytes (t e : Nat) (v : CmpEnt) : (s.setCmp t e v).rbytes = s.rbytes := rfl
@[simp] theorem State.setCmp_pending (t e : Nat) (v : CmpEnt) : (s.setCmp t e v).pending = s.pending := rfl

@[simp] theorem State.setTblLin_variant (t : Nat) (v : BitVec 64) : (s.setTblLin t v).variant = s.variant := rfl
@[simp] theorem State.setTblLin_now (t : Nat) (v : BitVec 64) : (s.setTblLin t v).now = s.now := rfl
@[simp] theorem State.setTblLin_px (t : Nat) (v : BitVec 64) : (s.setTblLin t v).px = s.px := rfl
@[simp] theorem State.setTblLin_mint (t : Nat) (v : BitVec 64) : (s.setTblLin t v).mint = s.mint := rfl
@[simp] theorem State.setTblLin_regs (t : Nat) (v : BitVec 64) : (s.setTblLin t v).regs = s.regs := rfl
@[simp] theorem State.setTblLin_shadow (t : Nat) (v : BitVec 64) : (s.setTblLin t v).shadow = s.shadow := rfl
@[simp] theorem State.setTblLin_live (t : Nat) (v : BitVec 64) : (s.setTblLin t v).live = s.live := rfl
@[simp] theorem State.setTblLin_flash (t : Nat) (v : BitVec 64) : (s.setTblLin t v).flash = s.flash := rfl
@[simp] theorem State.setTblLin_otp (t : Nat) (v : BitVec 64) : (s.setTblLin t v).otp = s.otp := rfl
@[simp] theorem State.setTblLin_plane (t : Nat) (v : BitVec 64) : (s.setTblLin t v).plane = s.plane := rfl
@[simp] theorem State.setTblLin_escrow (t : Nat) (v : BitVec 64) : (s.setTblLin t v).escrow = s.escrow := rfl
@[simp] theorem State.setTblLin_vlt (t : Nat) (v : BitVec 64) : (s.setTblLin t v).vlt = s.vlt := rfl
@[simp] theorem State.setTblLin_pwr (t : Nat) (v : BitVec 64) : (s.setTblLin t v).pwr = s.pwr := rfl
@[simp] theorem State.setTblLin_clk (t : Nat) (v : BitVec 64) : (s.setTblLin t v).clk = s.clk := rfl
@[simp] theorem State.setTblLin_aud (t : Nat) (v : BitVec 64) : (s.setTblLin t v).aud = s.aud := rfl
@[simp] theorem State.setTblLin_ch (t : Nat) (v : BitVec 64) : (s.setTblLin t v).ch = s.ch := rfl
@[simp] theorem State.setTblLin_th (t : Nat) (v : BitVec 64) : (s.setTblLin t v).th = s.th := rfl
@[simp] theorem State.setTblLin_lnk (t : Nat) (v : BitVec 64) : (s.setTblLin t v).lnk = s.lnk := rfl
@[simp] theorem State.setTblLin_ing (t : Nat) (v : BitVec 64) : (s.setTblLin t v).ing = s.ing := rfl
@[simp] theorem State.setTblLin_sch (t : Nat) (v : BitVec 64) : (s.setTblLin t v).sch = { s.sch with lin := Map.set (fun _ => 0#64) s.sch.lin t v } := rfl
@[simp] theorem State.setTblLin_pix (t : Nat) (v : BitVec 64) : (s.setTblLin t v).pix = s.pix := rfl
@[simp] theorem State.setTblLin_cor (t : Nat) (v : BitVec 64) : (s.setTblLin t v).cor = s.cor := rfl
@[simp] theorem State.setTblLin_cmp (t : Nat) (v : BitVec 64) : (s.setTblLin t v).cmp = s.cmp := rfl
@[simp] theorem State.setTblLin_vid (t : Nat) (v : BitVec 64) : (s.setTblLin t v).vid = s.vid := rfl
@[simp] theorem State.setTblLin_mem (t : Nat) (v : BitVec 64) : (s.setTblLin t v).mem = s.mem := rfl
@[simp] theorem State.setTblLin_hst (t : Nat) (v : BitVec 64) : (s.setTblLin t v).hst = s.hst := rfl
@[simp] theorem State.setTblLin_net (t : Nat) (v : BitVec 64) : (s.setTblLin t v).net = s.net := rfl
@[simp] theorem State.setTblLin_out (t : Nat) (v : BitVec 64) : (s.setTblLin t v).out = s.out := rfl
@[simp] theorem State.setTblLin_tap (t : Nat) (v : BitVec 64) : (s.setTblLin t v).tap = s.tap := rfl
@[simp] theorem State.setTblLin_rdata (t : Nat) (v : BitVec 64) : (s.setTblLin t v).rdata = s.rdata := rfl
@[simp] theorem State.setTblLin_rbytes (t : Nat) (v : BitVec 64) : (s.setTblLin t v).rbytes = s.rbytes := rfl
@[simp] theorem State.setTblLin_pending (t : Nat) (v : BitVec 64) : (s.setTblLin t v).pending = s.pending := rfl

@[simp] theorem State.setNport_variant (m : Nat) (v : NetPort) : (s.setNport m v).variant = s.variant := rfl
@[simp] theorem State.setNport_now (m : Nat) (v : NetPort) : (s.setNport m v).now = s.now := rfl
@[simp] theorem State.setNport_px (m : Nat) (v : NetPort) : (s.setNport m v).px = s.px := rfl
@[simp] theorem State.setNport_mint (m : Nat) (v : NetPort) : (s.setNport m v).mint = s.mint := rfl
@[simp] theorem State.setNport_regs (m : Nat) (v : NetPort) : (s.setNport m v).regs = s.regs := rfl
@[simp] theorem State.setNport_shadow (m : Nat) (v : NetPort) : (s.setNport m v).shadow = s.shadow := rfl
@[simp] theorem State.setNport_live (m : Nat) (v : NetPort) : (s.setNport m v).live = s.live := rfl
@[simp] theorem State.setNport_flash (m : Nat) (v : NetPort) : (s.setNport m v).flash = s.flash := rfl
@[simp] theorem State.setNport_otp (m : Nat) (v : NetPort) : (s.setNport m v).otp = s.otp := rfl
@[simp] theorem State.setNport_plane (m : Nat) (v : NetPort) : (s.setNport m v).plane = s.plane := rfl
@[simp] theorem State.setNport_escrow (m : Nat) (v : NetPort) : (s.setNport m v).escrow = s.escrow := rfl
@[simp] theorem State.setNport_vlt (m : Nat) (v : NetPort) : (s.setNport m v).vlt = s.vlt := rfl
@[simp] theorem State.setNport_pwr (m : Nat) (v : NetPort) : (s.setNport m v).pwr = s.pwr := rfl
@[simp] theorem State.setNport_clk (m : Nat) (v : NetPort) : (s.setNport m v).clk = s.clk := rfl
@[simp] theorem State.setNport_aud (m : Nat) (v : NetPort) : (s.setNport m v).aud = s.aud := rfl
@[simp] theorem State.setNport_ch (m : Nat) (v : NetPort) : (s.setNport m v).ch = s.ch := rfl
@[simp] theorem State.setNport_th (m : Nat) (v : NetPort) : (s.setNport m v).th = s.th := rfl
@[simp] theorem State.setNport_lnk (m : Nat) (v : NetPort) : (s.setNport m v).lnk = s.lnk := rfl
@[simp] theorem State.setNport_ing (m : Nat) (v : NetPort) : (s.setNport m v).ing = s.ing := rfl
@[simp] theorem State.setNport_sch (m : Nat) (v : NetPort) : (s.setNport m v).sch = s.sch := rfl
@[simp] theorem State.setNport_pix (m : Nat) (v : NetPort) : (s.setNport m v).pix = s.pix := rfl
@[simp] theorem State.setNport_cor (m : Nat) (v : NetPort) : (s.setNport m v).cor = s.cor := rfl
@[simp] theorem State.setNport_cmp (m : Nat) (v : NetPort) : (s.setNport m v).cmp = s.cmp := rfl
@[simp] theorem State.setNport_vid (m : Nat) (v : NetPort) : (s.setNport m v).vid = s.vid := rfl
@[simp] theorem State.setNport_mem (m : Nat) (v : NetPort) : (s.setNport m v).mem = s.mem := rfl
@[simp] theorem State.setNport_hst (m : Nat) (v : NetPort) : (s.setNport m v).hst = s.hst := rfl
@[simp] theorem State.setNport_net (m : Nat) (v : NetPort) : (s.setNport m v).net = { s.net with ports := Map.set (fun _ => NetPort.init) s.net.ports m v } := rfl
@[simp] theorem State.setNport_out (m : Nat) (v : NetPort) : (s.setNport m v).out = s.out := rfl
@[simp] theorem State.setNport_tap (m : Nat) (v : NetPort) : (s.setNport m v).tap = s.tap := rfl
@[simp] theorem State.setNport_rdata (m : Nat) (v : NetPort) : (s.setNport m v).rdata = s.rdata := rfl
@[simp] theorem State.setNport_rbytes (m : Nat) (v : NetPort) : (s.setNport m v).rbytes = s.rbytes := rfl
@[simp] theorem State.setNport_pending (m : Nat) (v : NetPort) : (s.setNport m v).pending = s.pending := rfl

@[simp] theorem State.setDh_variant (d : Nat) (v : DHead) : (s.setDh d v).variant = s.variant := rfl
@[simp] theorem State.setDh_now (d : Nat) (v : DHead) : (s.setDh d v).now = s.now := rfl
@[simp] theorem State.setDh_px (d : Nat) (v : DHead) : (s.setDh d v).px = s.px := rfl
@[simp] theorem State.setDh_mint (d : Nat) (v : DHead) : (s.setDh d v).mint = s.mint := rfl
@[simp] theorem State.setDh_regs (d : Nat) (v : DHead) : (s.setDh d v).regs = s.regs := rfl
@[simp] theorem State.setDh_shadow (d : Nat) (v : DHead) : (s.setDh d v).shadow = s.shadow := rfl
@[simp] theorem State.setDh_live (d : Nat) (v : DHead) : (s.setDh d v).live = s.live := rfl
@[simp] theorem State.setDh_flash (d : Nat) (v : DHead) : (s.setDh d v).flash = s.flash := rfl
@[simp] theorem State.setDh_otp (d : Nat) (v : DHead) : (s.setDh d v).otp = s.otp := rfl
@[simp] theorem State.setDh_plane (d : Nat) (v : DHead) : (s.setDh d v).plane = s.plane := rfl
@[simp] theorem State.setDh_escrow (d : Nat) (v : DHead) : (s.setDh d v).escrow = s.escrow := rfl
@[simp] theorem State.setDh_vlt (d : Nat) (v : DHead) : (s.setDh d v).vlt = s.vlt := rfl
@[simp] theorem State.setDh_pwr (d : Nat) (v : DHead) : (s.setDh d v).pwr = s.pwr := rfl
@[simp] theorem State.setDh_clk (d : Nat) (v : DHead) : (s.setDh d v).clk = s.clk := rfl
@[simp] theorem State.setDh_aud (d : Nat) (v : DHead) : (s.setDh d v).aud = s.aud := rfl
@[simp] theorem State.setDh_ch (d : Nat) (v : DHead) : (s.setDh d v).ch = s.ch := rfl
@[simp] theorem State.setDh_th (d : Nat) (v : DHead) : (s.setDh d v).th = s.th := rfl
@[simp] theorem State.setDh_lnk (d : Nat) (v : DHead) : (s.setDh d v).lnk = s.lnk := rfl
@[simp] theorem State.setDh_ing (d : Nat) (v : DHead) : (s.setDh d v).ing = s.ing := rfl
@[simp] theorem State.setDh_sch (d : Nat) (v : DHead) : (s.setDh d v).sch = s.sch := rfl
@[simp] theorem State.setDh_pix (d : Nat) (v : DHead) : (s.setDh d v).pix = s.pix := rfl
@[simp] theorem State.setDh_cor (d : Nat) (v : DHead) : (s.setDh d v).cor = s.cor := rfl
@[simp] theorem State.setDh_cmp (d : Nat) (v : DHead) : (s.setDh d v).cmp = s.cmp := rfl
@[simp] theorem State.setDh_vid (d : Nat) (v : DHead) : (s.setDh d v).vid = s.vid := rfl
@[simp] theorem State.setDh_mem (d : Nat) (v : DHead) : (s.setDh d v).mem = s.mem := rfl
@[simp] theorem State.setDh_hst (d : Nat) (v : DHead) : (s.setDh d v).hst = s.hst := rfl
@[simp] theorem State.setDh_net (d : Nat) (v : DHead) : (s.setDh d v).net = s.net := rfl
@[simp] theorem State.setDh_out (d : Nat) (v : DHead) : (s.setDh d v).out = { s.out with heads := Map.set (fun _ => DHead.init) s.out.heads d v } := rfl
@[simp] theorem State.setDh_tap (d : Nat) (v : DHead) : (s.setDh d v).tap = s.tap := rfl
@[simp] theorem State.setDh_rdata (d : Nat) (v : DHead) : (s.setDh d v).rdata = s.rdata := rfl
@[simp] theorem State.setDh_rbytes (d : Nat) (v : DHead) : (s.setDh d v).rbytes = s.rbytes := rfl
@[simp] theorem State.setDh_pending (d : Nat) (v : DHead) : (s.setDh d v).pending = s.pending := rfl

@[simp] theorem State.setDec_variant (d : Nat) (v : VDec) : (s.setDec d v).variant = s.variant := rfl
@[simp] theorem State.setDec_now (d : Nat) (v : VDec) : (s.setDec d v).now = s.now := rfl
@[simp] theorem State.setDec_px (d : Nat) (v : VDec) : (s.setDec d v).px = s.px := rfl
@[simp] theorem State.setDec_mint (d : Nat) (v : VDec) : (s.setDec d v).mint = s.mint := rfl
@[simp] theorem State.setDec_regs (d : Nat) (v : VDec) : (s.setDec d v).regs = s.regs := rfl
@[simp] theorem State.setDec_shadow (d : Nat) (v : VDec) : (s.setDec d v).shadow = s.shadow := rfl
@[simp] theorem State.setDec_live (d : Nat) (v : VDec) : (s.setDec d v).live = s.live := rfl
@[simp] theorem State.setDec_flash (d : Nat) (v : VDec) : (s.setDec d v).flash = s.flash := rfl
@[simp] theorem State.setDec_otp (d : Nat) (v : VDec) : (s.setDec d v).otp = s.otp := rfl
@[simp] theorem State.setDec_plane (d : Nat) (v : VDec) : (s.setDec d v).plane = s.plane := rfl
@[simp] theorem State.setDec_escrow (d : Nat) (v : VDec) : (s.setDec d v).escrow = s.escrow := rfl
@[simp] theorem State.setDec_vlt (d : Nat) (v : VDec) : (s.setDec d v).vlt = s.vlt := rfl
@[simp] theorem State.setDec_pwr (d : Nat) (v : VDec) : (s.setDec d v).pwr = s.pwr := rfl
@[simp] theorem State.setDec_clk (d : Nat) (v : VDec) : (s.setDec d v).clk = s.clk := rfl
@[simp] theorem State.setDec_aud (d : Nat) (v : VDec) : (s.setDec d v).aud = s.aud := rfl
@[simp] theorem State.setDec_ch (d : Nat) (v : VDec) : (s.setDec d v).ch = s.ch := rfl
@[simp] theorem State.setDec_th (d : Nat) (v : VDec) : (s.setDec d v).th = s.th := rfl
@[simp] theorem State.setDec_lnk (d : Nat) (v : VDec) : (s.setDec d v).lnk = s.lnk := rfl
@[simp] theorem State.setDec_ing (d : Nat) (v : VDec) : (s.setDec d v).ing = s.ing := rfl
@[simp] theorem State.setDec_sch (d : Nat) (v : VDec) : (s.setDec d v).sch = s.sch := rfl
@[simp] theorem State.setDec_pix (d : Nat) (v : VDec) : (s.setDec d v).pix = s.pix := rfl
@[simp] theorem State.setDec_cor (d : Nat) (v : VDec) : (s.setDec d v).cor = s.cor := rfl
@[simp] theorem State.setDec_cmp (d : Nat) (v : VDec) : (s.setDec d v).cmp = s.cmp := rfl
@[simp] theorem State.setDec_vid (d : Nat) (v : VDec) : (s.setDec d v).vid = { s.vid with dec := Map.set (fun _ => VDec.init) s.vid.dec d v } := rfl
@[simp] theorem State.setDec_mem (d : Nat) (v : VDec) : (s.setDec d v).mem = s.mem := rfl
@[simp] theorem State.setDec_hst (d : Nat) (v : VDec) : (s.setDec d v).hst = s.hst := rfl
@[simp] theorem State.setDec_net (d : Nat) (v : VDec) : (s.setDec d v).net = s.net := rfl
@[simp] theorem State.setDec_out (d : Nat) (v : VDec) : (s.setDec d v).out = s.out := rfl
@[simp] theorem State.setDec_tap (d : Nat) (v : VDec) : (s.setDec d v).tap = s.tap := rfl
@[simp] theorem State.setDec_rdata (d : Nat) (v : VDec) : (s.setDec d v).rdata = s.rdata := rfl
@[simp] theorem State.setDec_rbytes (d : Nat) (v : VDec) : (s.setDec d v).rbytes = s.rbytes := rfl
@[simp] theorem State.setDec_pending (d : Nat) (v : VDec) : (s.setDec d v).pending = s.pending := rfl

end Sys2Proof.Machine
end

