-- ==== Sys2Proof/Laws/Regs.lean ====
section
/-! SUPPORT. What reading a register gives after an update: the written value at the same address, the old one elsewhere; and
what an event on a source wire changes. -/

namespace Sys2Proof.Machine

open Sys2Proof

variable (s : State)

theorem State.rd_wr (a b : Nat) (v : Word) : (s.wr a v).rd b = if a = b then v else s.rd b := Map.get_set regDefault s.regs a b v

@[simp] theorem State.rd_wr_same (a : Nat) (v : Word) : (s.wr a v).rd a = v := by simp [State.rd_wr]

theorem State.rd_wr_other {a b : Nat} (v : Word) (h : a ≠ b) : (s.wr a v).rd b = s.rd b := by simp [State.rd_wr, h]

theorem State.rd_setFld (a b lo w n : Nat) : (s.setFld a lo w n).rd b = if a = b then fset (s.rd a) lo w n else s.rd b :=
  State.rd_wr s a b _

theorem State.rd_setBit (a b i : Nat) (v : Bool) :
    (s.setBit a i v).rd b = if a = b then fset (s.rd a) i 1 v.toNat else s.rd b := State.rd_wr s a b _

theorem State.rd_countN (a b n : Nat) : (s.countN a n).rd b = if a = b then satAdd (s.rd a) n else s.rd b := State.rd_wr s a b _

theorem State.rd_count (a b : Nat) : (s.count a).rd b = if a = b then satAdd (s.rd a) 1 else s.rd b := State.rd_wr s a b _

/-- A field just written. -/
@[simp] theorem State.fld_setFld_same (a lo w n : Nat) (h : lo + w ≤ 32) : (s.setFld a lo w n).fld a lo w = n % 2 ^ w := by
  simp [State.fld, State.rd_setFld, fget_fset_same _ _ _ _ h]

/-- A field of the same register beside the one written. -/
theorem State.fld_setFld_beside (a lo w n lo' w' : Nat) (h : lo' + w' ≤ lo ∨ lo + w ≤ lo') :
    (s.setFld a lo w n).fld a lo' w' = s.fld a lo' w' := by
  simp [State.fld, State.rd_setFld, fget_fset_disjoint _ _ _ _ _ _ h]

/-- A field of another register. -/
theorem State.fld_setFld_other {a b : Nat} (lo w n lo' w' : Nat) (h : a ≠ b) : (s.setFld a lo w n).fld b lo' w' = s.fld b lo' w' := by
  simp [State.fld, State.rd_setFld, h]

theorem State.bit_setFld (a b lo w n i : Nat) (hi : i < 32) :
    (s.setFld a lo w n).bit b i = if a = b ∧ lo ≤ i ∧ i < lo + w then n.testBit (i - lo) else s.bit b i := by
  by_cases hab : a = b
  · subst hab
    simp only [State.bit, State.rd_setFld, if_pos, fset_getLsbD _ _ _ _ _ hi, true_and]
  · simp [State.bit, State.rd_setFld, hab]

theorem State.bit_setBit (a b i j : Nat) (v : Bool) (hj : j < 32) :
    (s.setBit a i v).bit b j = if a = b ∧ i = j then v else s.bit b j := by
  rw [State.setBit, State.bit_setFld _ _ _ _ _ _ _ hj]
  by_cases hc : a = b ∧ i = j
  · obtain ⟨rfl, rfl⟩ := hc
    cases v <;> simp
  · rw [if_neg hc, if_neg]
    rintro ⟨h1, h2, h3⟩
    exact hc ⟨h1, by omega⟩

/-- A bit just written. -/
@[simp] theorem State.bit_setBit_same (a i : Nat) (v : Bool) (hi : i < 32) : (s.setBit a i v).bit a i = v := by
  simp [State.bit_setBit _ _ _ _ _ _ hi]

@[simp] theorem State.setShd_rd (a : Nat) (v : Word) (r : Nat) : (s.setShd a v).rd r = s.rd r := rfl
@[simp] theorem State.setShd_fld (a : Nat) (v : Word) (r lo w : Nat) : (s.setShd a v).fld r lo w = s.fld r lo w := rfl
@[simp] theorem State.setShd_bit (a : Nat) (v : Word) (r i : Nat) : (s.setShd a v).bit r i = s.bit r i := rfl
@[simp] theorem State.setLive_rd (a : Nat) (v : BitVec 64) (r : Nat) : (s.setLive a v).rd r = s.rd r := rfl
@[simp] theorem State.setLive_fld (a : Nat) (v : BitVec 64) (r lo w : Nat) : (s.setLive a v).fld r lo w = s.fld r lo w := rfl
@[simp] theorem State.setLive_bit (a : Nat) (v : BitVec 64) (r i : Nat) : (s.setLive a v).bit r i = s.bit r i := rfl
@[simp] theorem State.setPwr_rd (p : Pwr) (r : Nat) : (s.setPwr p).rd r = s.rd r := rfl
@[simp] theorem State.setPwr_fld (p : Pwr) (r lo w : Nat) : (s.setPwr p).fld r lo w = s.fld r lo w := rfl
@[simp] theorem State.setPwr_bit (p : Pwr) (r i : Nat) : (s.setPwr p).bit r i = s.bit r i := rfl
@[simp] theorem State.setClk_rd (c : Clk) (r : Nat) : (s.setClk c).rd r = s.rd r := rfl
@[simp] theorem State.setClk_fld (c : Clk) (r lo w : Nat) : (s.setClk c).fld r lo w = s.fld r lo w := rfl
@[simp] theorem State.setClk_bit (c : Clk) (r i : Nat) : (s.setClk c).bit r i = s.bit r i := rfl
@[simp] theorem State.setAud_rd (a : Aud) (r : Nat) : (s.setAud a).rd r = s.rd r := rfl
@[simp] theorem State.setAud_fld (a : Aud) (r lo w : Nat) : (s.setAud a).fld r lo w = s.fld r lo w := rfl
@[simp] theorem State.setAud_bit (a : Aud) (r i : Nat) : (s.setAud a).bit r i = s.bit r i := rfl
@[simp] theorem State.setCh_rd (c : ChSt) (r : Nat) : (s.setCh c).rd r = s.rd r := rfl
@[simp] theorem State.setCh_fld (c : ChSt) (r lo w : Nat) : (s.setCh c).fld r lo w = s.fld r lo w := rfl
@[simp] theorem State.setCh_bit (c : ChSt) (r i : Nat) : (s.setCh c).bit r i = s.bit r i := rfl
@[simp] theorem State.setCor_rd (c : Cor) (r : Nat) : (s.setCor c).rd r = s.rd r := rfl
@[simp] theorem State.setCor_fld (c : Cor) (r lo w : Nat) : (s.setCor c).fld r lo w = s.fld r lo w := rfl
@[simp] theorem State.setCor_bit (c : Cor) (r i : Nat) : (s.setCor c).bit r i = s.bit r i := rfl
@[simp] theorem State.setOut_rd (o : Out) (r : Nat) : (s.setOut o).rd r = s.rd r := rfl
@[simp] theorem State.setOut_fld (o : Out) (r lo w : Nat) : (s.setOut o).fld r lo w = s.fld r lo w := rfl
@[simp] theorem State.setOut_bit (o : Out) (r i : Nat) : (s.setOut o).bit r i = s.bit r i := rfl
@[simp] theorem State.setHst_rd (h : Hst) (r : Nat) : (s.setHst h).rd r = s.rd r := rfl
@[simp] theorem State.setHst_fld (h : Hst) (r lo w : Nat) : (s.setHst h).fld r lo w = s.fld r lo w := rfl
@[simp] theorem State.setHst_bit (h : Hst) (r i : Nat) : (s.setHst h).bit r i = s.bit r i := rfl
@[simp] theorem State.setNet_rd (n : Net) (r : Nat) : (s.setNet n).rd r = s.rd r := rfl
@[simp] theorem State.setNet_fld (n : Net) (r lo w : Nat) : (s.setNet n).fld r lo w = s.fld r lo w := rfl
@[simp] theorem State.setNet_bit (n : Net) (r i : Nat) : (s.setNet n).bit r i = s.bit r i := rfl
@[simp] theorem State.setVid_rd (v : Vid) (r : Nat) : (s.setVid v).rd r = s.rd r := rfl
@[simp] theorem State.setVid_fld (v : Vid) (r lo w : Nat) : (s.setVid v).fld r lo w = s.fld r lo w := rfl
@[simp] theorem State.setVid_bit (v : Vid) (r i : Nat) : (s.setVid v).bit r i = s.bit r i := rfl
@[simp] theorem State.setTh_rd (t : Therm) (r : Nat) : (s.setTh t).rd r = s.rd r := rfl
@[simp] theorem State.setTh_fld (t : Therm) (r lo w : Nat) : (s.setTh t).fld r lo w = s.fld r lo w := rfl
@[simp] theorem State.setTh_bit (t : Therm) (r i : Nat) : (s.setTh t).bit r i = s.bit r i := rfl
@[simp] theorem State.setVlt_rd (v : Vault) (r : Nat) : (s.setVlt v).rd r = s.rd r := rfl
@[simp] theorem State.setVlt_fld (v : Vault) (r lo w : Nat) : (s.setVlt v).fld r lo w = s.fld r lo w := rfl
@[simp] theorem State.setVlt_bit (v : Vault) (r i : Nat) : (s.setVlt v).bit r i = s.bit r i := rfl
@[simp] theorem State.setA5_rd (a : A5) (r : Nat) : (s.setA5 a).rd r = s.rd r := rfl
@[simp] theorem State.setA5_fld (a : A5) (r lo w : Nat) : (s.setA5 a).fld r lo w = s.fld r lo w := rfl
@[simp] theorem State.setA5_bit (a : A5) (r i : Nat) : (s.setA5 a).bit r i = s.bit r i := rfl
@[simp] theorem State.setLport_rd (n : Nat) (v : LnkPort) (r : Nat) : (s.setLport n v).rd r = s.rd r := rfl
@[simp] theorem State.setLport_fld (n : Nat) (v : LnkPort) (r lo w : Nat) : (s.setLport n v).fld r lo w = s.fld r lo w := rfl
@[simp] theorem State.setLport_bit (n : Nat) (v : LnkPort) (r i : Nat) : (s.setLport n v).bit r i = s.bit r i := rfl
@[simp] theorem State.setLane_rd (l : Nat) (v : Lane) (r : Nat) : (s.setLane l v).rd r = s.rd r := rfl
@[simp] theorem State.setLane_fld (l : Nat) (v : Lane) (r lo w : Nat) : (s.setLane l v).fld r lo w = s.fld r lo w := rfl
@[simp] theorem State.setLane_bit (l : Nat) (v : Lane) (r i : Nat) : (s.setLane l v).bit r i = s.bit r i := rfl
@[simp] theorem State.setSchHead_rd (n : Nat) (v : SchHead) (r : Nat) : (s.setSchHead n v).rd r = s.rd r := rfl
@[simp] theorem State.setSchHead_fld (n : Nat) (v : SchHead) (r lo w : Nat) : (s.setSchHead n v).fld r lo w = s.fld r lo w := rfl
@[simp] theorem State.setSchHead_bit (n : Nat) (v : SchHead) (r i : Nat) : (s.setSchHead n v).bit r i = s.bit r i := rfl
@[simp] theorem State.setAxis_rd (n : Nat) (v : Axis) (r : Nat) : (s.setAxis n v).rd r = s.rd r := rfl
@[simp] theorem State.setAxis_fld (n : Nat) (v : Axis) (r lo w : Nat) : (s.setAxis n v).fld r lo w = s.fld r lo w := rfl
@[simp] theorem State.setAxis_bit (n : Nat) (v : Axis) (r i : Nat) : (s.setAxis n v).bit r i = s.bit r i := rfl
@[simp] theorem State.setPart_rd (p : Nat) (v : Part) (r : Nat) : (s.setPart p v).rd r = s.rd r := rfl
@[simp] theorem State.setPart_fld (p : Nat) (v : Part) (r lo w : Nat) : (s.setPart p v).fld r lo w = s.fld r lo w := rfl
@[simp] theorem State.setPart_bit (p : Nat) (v : Part) (r i : Nat) : (s.setPart p v).bit r i = s.bit r i := rfl
@[simp] theorem State.setFrames_rd (l : List Frame) (r : Nat) : (s.setFrames l).rd r = s.rd r := rfl
@[simp] theorem State.setFrames_fld (l : List Frame) (r lo w : Nat) : (s.setFrames l).fld r lo w = s.fld r lo w := rfl
@[simp] theorem State.setFrames_bit (l : List Frame) (r i : Nat) : (s.setFrames l).bit r i = s.bit r i := rfl
@[simp] theorem State.setSchStr_rd (i : Nat) (v : SchStr) (r : Nat) : (s.setSchStr i v).rd r = s.rd r := rfl
@[simp] theorem State.setSchStr_fld (i : Nat) (v : SchStr) (r lo w : Nat) : (s.setSchStr i v).fld r lo w = s.fld r lo w := rfl
@[simp] theorem State.setSchStr_bit (i : Nat) (v : SchStr) (r i : Nat) : (s.setSchStr i v).bit r i = s.bit r i := rfl
@[simp] theorem State.setPixStr_rd (i : Nat) (v : PixStr) (r : Nat) : (s.setPixStr i v).rd r = s.rd r := rfl
@[simp] theorem State.setPixStr_fld (i : Nat) (v : PixStr) (r lo w : Nat) : (s.setPixStr i v).fld r lo w = s.fld r lo w := rfl
@[simp] theorem State.setPixStr_bit (i : Nat) (v : PixStr) (r i : Nat) : (s.setPixStr i v).bit r i = s.bit r i := rfl
@[simp] theorem State.setCmp_rd (t e : Nat) (v : CmpEnt) (r : Nat) : (s.setCmp t e v).rd r = s.rd r := rfl
@[simp] theorem State.setCmp_fld (t e : Nat) (v : CmpEnt) (r lo w : Nat) : (s.setCmp t e v).fld r lo w = s.fld r lo w := rfl
@[simp] theorem State.setCmp_bit (t e : Nat) (v : CmpEnt) (r i : Nat) : (s.setCmp t e v).bit r i = s.bit r i := rfl
@[simp] theorem State.setTblLin_rd (t : Nat) (v : BitVec 64) (r : Nat) : (s.setTblLin t v).rd r = s.rd r := rfl
@[simp] theorem State.setTblLin_fld (t : Nat) (v : BitVec 64) (r lo w : Nat) : (s.setTblLin t v).fld r lo w = s.fld r lo w := rfl
@[simp] theorem State.setTblLin_bit (t : Nat) (v : BitVec 64) (r i : Nat) : (s.setTblLin t v).bit r i = s.bit r i := rfl
@[simp] theorem State.setNport_rd (m : Nat) (v : NetPort) (r : Nat) : (s.setNport m v).rd r = s.rd r := rfl
@[simp] theorem State.setNport_fld (m : Nat) (v : NetPort) (r lo w : Nat) : (s.setNport m v).fld r lo w = s.fld r lo w := rfl
@[simp] theorem State.setNport_bit (m : Nat) (v : NetPort) (r i : Nat) : (s.setNport m v).bit r i = s.bit r i := rfl
@[simp] theorem State.setDh_rd (d : Nat) (v : DHead) (r : Nat) : (s.setDh d v).rd r = s.rd r := rfl
@[simp] theorem State.setDh_fld (d : Nat) (v : DHead) (r lo w : Nat) : (s.setDh d v).fld r lo w = s.fld r lo w := rfl
@[simp] theorem State.setDh_bit (d : Nat) (v : DHead) (r i : Nat) : (s.setDh d v).bit r i = s.bit r i := rfl
@[simp] theorem State.setDec_rd (d : Nat) (v : VDec) (r : Nat) : (s.setDec d v).rd r = s.rd r := rfl
@[simp] theorem State.setDec_fld (d : Nat) (v : VDec) (r lo w : Nat) : (s.setDec d v).fld r lo w = s.fld r lo w := rfl
@[simp] theorem State.setDec_bit (d : Nat) (v : VDec) (r i : Nat) : (s.setDec d v).bit r i = s.bit r i := rfl

@[simp] theorem State.raiseLin_variant (x u : Nat) (lin : BitVec 64) : (s.raiseLin x u lin).variant = s.variant := State.blur_variant (State.raiseLin_blur s x u lin 49152 rfl) rfl
@[simp] theorem State.raiseLin_now (x u : Nat) (lin : BitVec 64) : (s.raiseLin x u lin).now = s.now := State.blur_now (State.raiseLin_blur s x u lin 49152 rfl) rfl
@[simp] theorem State.raiseLin_px (x u : Nat) (lin : BitVec 64) : (s.raiseLin x u lin).px = s.px := State.blur_px (State.raiseLin_blur s x u lin 49152 rfl) rfl
@[simp] theorem State.raiseLin_mint (x u : Nat) (lin : BitVec 64) : (s.raiseLin x u lin).mint = s.mint := State.blur_mint (State.raiseLin_blur s x u lin 49152 rfl) rfl
@[simp] theorem State.raiseLin_regs (x u : Nat) (lin : BitVec 64) : (s.raiseLin x u lin).regs = s.regs := State.blur_regs (State.raiseLin_blur s x u lin 49152 rfl) rfl
@[simp] theorem State.raiseLin_shadow (x u : Nat) (lin : BitVec 64) : (s.raiseLin x u lin).shadow = s.shadow := State.blur_shadow (State.raiseLin_blur s x u lin 49152 rfl) rfl
@[simp] theorem State.raiseLin_live (x u : Nat) (lin : BitVec 64) : (s.raiseLin x u lin).live = s.live := State.blur_live (State.raiseLin_blur s x u lin 49152 rfl) rfl
@[simp] theorem State.raiseLin_flash (x u : Nat) (lin : BitVec 64) : (s.raiseLin x u lin).flash = s.flash := State.blur_flash (State.raiseLin_blur s x u lin 49152 rfl) rfl
@[simp] theorem State.raiseLin_otp (x u : Nat) (lin : BitVec 64) : (s.raiseLin x u lin).otp = s.otp := State.blur_otp (State.raiseLin_blur s x u lin 49152 rfl) rfl
@[simp] theorem State.raiseLin_plane (x u : Nat) (lin : BitVec 64) : (s.raiseLin x u lin).plane = s.plane := State.blur_plane (State.raiseLin_blur s x u lin 49152 rfl) rfl
@[simp] theorem State.raiseLin_escrow (x u : Nat) (lin : BitVec 64) : (s.raiseLin x u lin).escrow = s.escrow := State.blur_escrow (State.raiseLin_blur s x u lin 49152 rfl) rfl
@[simp] theorem State.raiseLin_vlt (x u : Nat) (lin : BitVec 64) : (s.raiseLin x u lin).vlt = s.vlt := State.blur_vlt (State.raiseLin_blur s x u lin 49152 rfl) rfl
@[simp] theorem State.raiseLin_pwr (x u : Nat) (lin : BitVec 64) : (s.raiseLin x u lin).pwr = s.pwr := State.blur_pwr (State.raiseLin_blur s x u lin 49152 rfl) rfl
@[simp] theorem State.raiseLin_clk (x u : Nat) (lin : BitVec 64) : (s.raiseLin x u lin).clk = s.clk := State.blur_clk (State.raiseLin_blur s x u lin 49152 rfl) rfl
@[simp] theorem State.raiseLin_th (x u : Nat) (lin : BitVec 64) : (s.raiseLin x u lin).th = s.th := State.blur_th (State.raiseLin_blur s x u lin 49152 rfl) rfl
@[simp] theorem State.raiseLin_lnk (x u : Nat) (lin : BitVec 64) : (s.raiseLin x u lin).lnk = s.lnk := State.blur_lnk (State.raiseLin_blur s x u lin 49152 rfl) rfl
@[simp] theorem State.raiseLin_ing (x u : Nat) (lin : BitVec 64) : (s.raiseLin x u lin).ing = s.ing := State.blur_ing (State.raiseLin_blur s x u lin 49152 rfl) rfl
@[simp] theorem State.raiseLin_sch (x u : Nat) (lin : BitVec 64) : (s.raiseLin x u lin).sch = s.sch := State.blur_sch (State.raiseLin_blur s x u lin 49152 rfl) rfl
@[simp] theorem State.raiseLin_pix (x u : Nat) (lin : BitVec 64) : (s.raiseLin x u lin).pix = s.pix := State.blur_pix (State.raiseLin_blur s x u lin 49152 rfl) rfl
@[simp] theorem State.raiseLin_cor (x u : Nat) (lin : BitVec 64) : (s.raiseLin x u lin).cor = s.cor := State.blur_cor (State.raiseLin_blur s x u lin 49152 rfl) rfl
@[simp] theorem State.raiseLin_cmp (x u : Nat) (lin : BitVec 64) : (s.raiseLin x u lin).cmp = s.cmp := State.blur_cmp (State.raiseLin_blur s x u lin 49152 rfl) rfl
@[simp] theorem State.raiseLin_vid (x u : Nat) (lin : BitVec 64) : (s.raiseLin x u lin).vid = s.vid := State.blur_vid (State.raiseLin_blur s x u lin 49152 rfl) rfl
@[simp] theorem State.raiseLin_mem (x u : Nat) (lin : BitVec 64) : (s.raiseLin x u lin).mem = s.mem := State.blur_mem (State.raiseLin_blur s x u lin 49152 rfl) rfl
@[simp] theorem State.raiseLin_hst (x u : Nat) (lin : BitVec 64) : (s.raiseLin x u lin).hst = s.hst := State.blur_hst (State.raiseLin_blur s x u lin 49152 rfl) rfl
@[simp] theorem State.raiseLin_net (x u : Nat) (lin : BitVec 64) : (s.raiseLin x u lin).net = s.net := State.blur_net (State.raiseLin_blur s x u lin 49152 rfl) rfl
@[simp] theorem State.raiseLin_out (x u : Nat) (lin : BitVec 64) : (s.raiseLin x u lin).out = s.out := State.blur_out (State.raiseLin_blur s x u lin 49152 rfl) rfl
@[simp] theorem State.raiseLin_tap (x u : Nat) (lin : BitVec 64) : (s.raiseLin x u lin).tap = s.tap := State.blur_tap (State.raiseLin_blur s x u lin 49152 rfl) rfl
@[simp] theorem State.raiseLin_rdata (x u : Nat) (lin : BitVec 64) : (s.raiseLin x u lin).rdata = s.rdata := State.blur_rdata (State.raiseLin_blur s x u lin 49152 rfl) rfl
@[simp] theorem State.raiseLin_rbytes (x u : Nat) (lin : BitVec 64) : (s.raiseLin x u lin).rbytes = s.rbytes := State.blur_rbytes (State.raiseLin_blur s x u lin 49152 rfl) rfl
@[simp] theorem State.raiseLin_pending (x u : Nat) (lin : BitVec 64) : (s.raiseLin x u lin).pending = s.pending := State.blur_pending (State.raiseLin_blur s x u lin 49152 rfl) rfl
@[simp] theorem State.raiseLin_rd (x u : Nat) (lin : BitVec 64) (r : Nat) : (s.raiseLin x u lin).rd r = s.rd r := by simp [State.rd]
@[simp] theorem State.raiseLin_fld (x u : Nat) (lin : BitVec 64) (r lo w : Nat) : (s.raiseLin x u lin).fld r lo w = s.fld r lo w := by simp [State.fld]
@[simp] theorem State.raiseLin_bit (x u : Nat) (lin : BitVec 64) (r i : Nat) : (s.raiseLin x u lin).bit r i = s.bit r i := by simp [State.bit]
@[simp] theorem State.raise_variant (x u : Nat) : (s.raise x u).variant = s.variant := State.blur_variant (State.raise_blur s x u 49152 rfl) rfl
@[simp] theorem State.raise_now (x u : Nat) : (s.raise x u).now = s.now := State.blur_now (State.raise_blur s x u 49152 rfl) rfl
@[simp] theorem State.raise_px (x u : Nat) : (s.raise x u).px = s.px := State.blur_px (State.raise_blur s x u 49152 rfl) rfl
@[simp] theorem State.raise_mint (x u : Nat) : (s.raise x u).mint = s.mint := State.blur_mint (State.raise_blur s x u 49152 rfl) rfl
@[simp] theorem State.raise_regs (x u : Nat) : (s.raise x u).regs = s.regs := State.blur_regs (State.raise_blur s x u 49152 rfl) rfl
@[simp] theorem State.raise_shadow (x u : Nat) : (s.raise x u).shadow = s.shadow := State.blur_shadow (State.raise_blur s x u 49152 rfl) rfl
@[simp] theorem State.raise_live (x u : Nat) : (s.raise x u).live = s.live := State.blur_live (State.raise_blur s x u 49152 rfl) rfl
@[simp] theorem State.raise_flash (x u : Nat) : (s.raise x u).flash = s.flash := State.blur_flash (State.raise_blur s x u 49152 rfl) rfl
@[simp] theorem State.raise_otp (x u : Nat) : (s.raise x u).otp = s.otp := State.blur_otp (State.raise_blur s x u 49152 rfl) rfl
@[simp] theorem State.raise_plane (x u : Nat) : (s.raise x u).plane = s.plane := State.blur_plane (State.raise_blur s x u 49152 rfl) rfl
@[simp] theorem State.raise_escrow (x u : Nat) : (s.raise x u).escrow = s.escrow := State.blur_escrow (State.raise_blur s x u 49152 rfl) rfl
@[simp] theorem State.raise_vlt (x u : Nat) : (s.raise x u).vlt = s.vlt := State.blur_vlt (State.raise_blur s x u 49152 rfl) rfl
@[simp] theorem State.raise_pwr (x u : Nat) : (s.raise x u).pwr = s.pwr := State.blur_pwr (State.raise_blur s x u 49152 rfl) rfl
@[simp] theorem State.raise_clk (x u : Nat) : (s.raise x u).clk = s.clk := State.blur_clk (State.raise_blur s x u 49152 rfl) rfl
@[simp] theorem State.raise_th (x u : Nat) : (s.raise x u).th = s.th := State.blur_th (State.raise_blur s x u 49152 rfl) rfl
@[simp] theorem State.raise_lnk (x u : Nat) : (s.raise x u).lnk = s.lnk := State.blur_lnk (State.raise_blur s x u 49152 rfl) rfl
@[simp] theorem State.raise_ing (x u : Nat) : (s.raise x u).ing = s.ing := State.blur_ing (State.raise_blur s x u 49152 rfl) rfl
@[simp] theorem State.raise_sch (x u : Nat) : (s.raise x u).sch = s.sch := State.blur_sch (State.raise_blur s x u 49152 rfl) rfl
@[simp] theorem State.raise_pix (x u : Nat) : (s.raise x u).pix = s.pix := State.blur_pix (State.raise_blur s x u 49152 rfl) rfl
@[simp] theorem State.raise_cor (x u : Nat) : (s.raise x u).cor = s.cor := State.blur_cor (State.raise_blur s x u 49152 rfl) rfl
@[simp] theorem State.raise_cmp (x u : Nat) : (s.raise x u).cmp = s.cmp := State.blur_cmp (State.raise_blur s x u 49152 rfl) rfl
@[simp] theorem State.raise_vid (x u : Nat) : (s.raise x u).vid = s.vid := State.blur_vid (State.raise_blur s x u 49152 rfl) rfl
@[simp] theorem State.raise_mem (x u : Nat) : (s.raise x u).mem = s.mem := State.blur_mem (State.raise_blur s x u 49152 rfl) rfl
@[simp] theorem State.raise_hst (x u : Nat) : (s.raise x u).hst = s.hst := State.blur_hst (State.raise_blur s x u 49152 rfl) rfl
@[simp] theorem State.raise_net (x u : Nat) : (s.raise x u).net = s.net := State.blur_net (State.raise_blur s x u 49152 rfl) rfl
@[simp] theorem State.raise_out (x u : Nat) : (s.raise x u).out = s.out := State.blur_out (State.raise_blur s x u 49152 rfl) rfl
@[simp] theorem State.raise_tap (x u : Nat) : (s.raise x u).tap = s.tap := State.blur_tap (State.raise_blur s x u 49152 rfl) rfl
@[simp] theorem State.raise_rdata (x u : Nat) : (s.raise x u).rdata = s.rdata := State.blur_rdata (State.raise_blur s x u 49152 rfl) rfl
@[simp] theorem State.raise_rbytes (x u : Nat) : (s.raise x u).rbytes = s.rbytes := State.blur_rbytes (State.raise_blur s x u 49152 rfl) rfl
@[simp] theorem State.raise_pending (x u : Nat) : (s.raise x u).pending = s.pending := State.blur_pending (State.raise_blur s x u 49152 rfl) rfl
@[simp] theorem State.raise_rd (x u : Nat) (r : Nat) : (s.raise x u).rd r = s.rd r := by simp [State.rd]
@[simp] theorem State.raise_fld (x u : Nat) (r lo w : Nat) : (s.raise x u).fld r lo w = s.fld r lo w := by simp [State.fld]
@[simp] theorem State.raise_bit (x u : Nat) (r i : Nat) : (s.raise x u).bit r i = s.bit r i := by simp [State.bit]
@[simp] theorem State.violation_variant (a : Nat) : (s.violation a).variant = s.variant := State.blur_variant (State.violation_blur s a 49168 rfl) rfl
@[simp] theorem State.violation_now (a : Nat) : (s.violation a).now = s.now := State.blur_now (State.violation_blur s a 49168 rfl) rfl
@[simp] theorem State.violation_px (a : Nat) : (s.violation a).px = s.px := State.blur_px (State.violation_blur s a 49168 rfl) rfl
@[simp] theorem State.violation_mint (a : Nat) : (s.violation a).mint = s.mint := State.blur_mint (State.violation_blur s a 49168 rfl) rfl
@[simp] theorem State.violation_shadow (a : Nat) : (s.violation a).shadow = s.shadow := State.blur_shadow (State.violation_blur s a 49168 rfl) rfl
@[simp] theorem State.violation_live (a : Nat) : (s.violation a).live = s.live := State.blur_live (State.violation_blur s a 49168 rfl) rfl
@[simp] theorem State.violation_flash (a : Nat) : (s.violation a).flash = s.flash := State.blur_flash (State.violation_blur s a 49168 rfl) rfl
@[simp] theorem State.violation_otp (a : Nat) : (s.violation a).otp = s.otp := State.blur_otp (State.violation_blur s a 49168 rfl) rfl
@[simp] theorem State.violation_plane (a : Nat) : (s.violation a).plane = s.plane := State.blur_plane (State.violation_blur s a 49168 rfl) rfl
@[simp] theorem State.violation_escrow (a : Nat) : (s.violation a).escrow = s.escrow := State.blur_escrow (State.violation_blur s a 49168 rfl) rfl
@[simp] theorem State.violation_vlt (a : Nat) : (s.violation a).vlt = s.vlt := State.blur_vlt (State.violation_blur s a 49168 rfl) rfl
@[simp] theorem State.violation_pwr (a : Nat) : (s.violation a).pwr = s.pwr := State.blur_pwr (State.violation_blur s a 49168 rfl) rfl
@[simp] theorem State.violation_clk (a : Nat) : (s.violation a).clk = s.clk := State.blur_clk (State.violation_blur s a 49168 rfl) rfl
@[simp] theorem State.violation_th (a : Nat) : (s.violation a).th = s.th := State.blur_th (State.violation_blur s a 49168 rfl) rfl
@[simp] theorem State.violation_lnk (a : Nat) : (s.violation a).lnk = s.lnk := State.blur_lnk (State.violation_blur s a 49168 rfl) rfl
@[simp] theorem State.violation_ing (a : Nat) : (s.violation a).ing = s.ing := State.blur_ing (State.violation_blur s a 49168 rfl) rfl
@[simp] theorem State.violation_sch (a : Nat) : (s.violation a).sch = s.sch := State.blur_sch (State.violation_blur s a 49168 rfl) rfl
@[simp] theorem State.violation_pix (a : Nat) : (s.violation a).pix = s.pix := State.blur_pix (State.violation_blur s a 49168 rfl) rfl
@[simp] theorem State.violation_cor (a : Nat) : (s.violation a).cor = s.cor := State.blur_cor (State.violation_blur s a 49168 rfl) rfl
@[simp] theorem State.violation_cmp (a : Nat) : (s.violation a).cmp = s.cmp := State.blur_cmp (State.violation_blur s a 49168 rfl) rfl
@[simp] theorem State.violation_vid (a : Nat) : (s.violation a).vid = s.vid := State.blur_vid (State.violation_blur s a 49168 rfl) rfl
@[simp] theorem State.violation_mem (a : Nat) : (s.violation a).mem = s.mem := State.blur_mem (State.violation_blur s a 49168 rfl) rfl
@[simp] theorem State.violation_hst (a : Nat) : (s.violation a).hst = s.hst := State.blur_hst (State.violation_blur s a 49168 rfl) rfl
@[simp] theorem State.violation_net (a : Nat) : (s.violation a).net = s.net := State.blur_net (State.violation_blur s a 49168 rfl) rfl
@[simp] theorem State.violation_out (a : Nat) : (s.violation a).out = s.out := State.blur_out (State.violation_blur s a 49168 rfl) rfl
@[simp] theorem State.violation_tap (a : Nat) : (s.violation a).tap = s.tap := State.blur_tap (State.violation_blur s a 49168 rfl) rfl
@[simp] theorem State.violation_rdata (a : Nat) : (s.violation a).rdata = s.rdata := State.blur_rdata (State.violation_blur s a 49168 rfl) rfl
@[simp] theorem State.violation_rbytes (a : Nat) : (s.violation a).rbytes = s.rbytes := State.blur_rbytes (State.violation_blur s a 49168 rfl) rfl
@[simp] theorem State.violation_pending (a : Nat) : (s.violation a).pending = s.pending := State.blur_pending (State.violation_blur s a 49168 rfl) rfl

end Sys2Proof.Machine
end

