-- ==== Sys2Proof/Laws/Memory.lean ====
section
/-! SUPPORT. The canonical form of the sparse memories: every operation that writes recording memory or flash keeps it, and
State.reset has it. Every store goes through `putBytes`, every erasure through a filter or the empty list. -/

set_option Elab.async false

namespace Sys2Proof.Machine

theorem Memory.wf_putBytes (b : List Byte) : ∀ (m : List Host.Cell) (a : Nat), Memory.wf m = true →
    Memory.wf (putBytes m a b) = true := by
  induction b with
  | nil => exact fun m a h => h
  | cons x b ih => exact fun m a h => ih _ _ (Map.wf_set _ _ _ _ h)

theorem Memory.wf_filter (p : Host.Cell → Bool) : ∀ (m : List Host.Cell), Memory.wf m = true →
    Memory.wf (m.filter p) = true := by
  intro m
  induction m with
  | nil => exact fun h => h
  | cons q m ih =>
    intro h
    simp only [Memory.wf, Map.wf, Bool.and_eq_true, List.all_eq_true, decide_eq_true_eq] at h ih ⊢
    by_cases hq : p q = true
    · simp only [List.filter_cons, hq, if_true, Map.wf, Bool.and_eq_true, List.all_eq_true, decide_eq_true_eq]
      exact ⟨⟨h.1.1, fun r hr => h.1.2 r (List.mem_of_mem_filter hr)⟩, ih h.2⟩
    · simp only [List.filter_cons, hq]
      exact ih h.2

theorem Memory.wf_reset : Memory.wf State.reset.mem.dram = true ∧ Memory.wf State.reset.flash = true := ⟨rfl, rfl⟩

variable (s : State)

theorem State.setInj_dram (sc n : Nat) : (s.setInj sc n).mem = s.mem :=
  State.blur_mem (State.setInj_blur s sc n 16400 rfl) rfl

theorem State.putBurst_dram (sc loc : Nat) (b : List Byte) :
    (s.putBurst sc loc b).mem.dram = putBytes s.mem.dram (dramKey sc loc) b := by
  simp only [State.putBurst]
  split <;> split <;> simp [State.setInj_dram]

theorem State.putBurst_wf (sc loc : Nat) (b : List Byte) (h : Memory.wf s.mem.dram = true) :
    Memory.wf (s.putBurst sc loc b).mem.dram = true := by
  rw [State.putBurst_dram]; exact Memory.wf_putBytes _ _ _ h

theorem State.settle_wf (sc loc : Nat) (h : Memory.wf s.mem.dram = true) :
    Memory.wf (s.settle sc loc).mem.dram = true := by
  have key : ∀ (l : List Burst) (t : State), Memory.wf t.mem.dram = true →
      Memory.wf (l.foldl (fun t b => t.putBurst b.sc b.loc b.data) t).mem.dram = true := by
    intro l
    induction l with
    | nil => exact fun t h => h
    | cons b l ih => exact fun t h => ih _ (State.putBurst_wf t _ _ _ h)
  exact key _ _ h

theorem State.refuse_dram (n : Nat) : (s.refuse n).mem = s.mem := by
  unfold State.refuse; split <;> simp

theorem State.memWrite_wf (a : Nat) (b : List Byte) (h : Memory.wf s.mem.dram = true) :
    Memory.wf (s.memWrite a b).1.mem.dram = true := by
  simp only [State.memWrite, State.refuse_dram]
  refine List.foldlRecOn (motive := fun (t : State × List MStat) => Memory.wf t.1.mem.dram = true) _ _ h ?_
  intro t ht p _
  split
  · exact State.putBurst_wf _ _ _ _ (State.settle_wf _ _ _ ht)
  · exact ht

theorem State.decodeBurst_dram (sc loc : Nat) (d : List Byte) (e : List Nat) :
    (s.decodeBurst sc loc d e).1.mem.dram = s.mem.dram := by
  unfold State.decodeBurst
  split
  · rfl
  · simp only
    split <;> simp
  · simp only
    split <;> simp

theorem State.ecsRead_dram (sc : Nat) : (s.ecsRead sc).mem.dram = s.mem.dram := by
  simp only [State.ecsRead]
  split <;> simp

theorem State.scrubEnd_dram : s.scrubEnd.mem.dram = s.mem.dram := by
  have h : (s.forEach s.scrubScs (fun t n => t.ecsRead n)).mem.dram = s.mem.dram := by
    unfold State.forEach
    exact List.foldlRecOn (motive := fun (t : State) => t.mem.dram = s.mem.dram) _ _ rfl
      (fun t ht n _ => (State.ecsRead_dram t n).trans ht)
  simp only [State.scrubEnd]
  split <;> simp [h]

theorem State.scrubRead_wf (sc : Nat) (errs : List (Nat × Nat)) (h : Memory.wf s.mem.dram = true) :
    Memory.wf (s.scrubRead sc errs).mem.dram = true := by
  have e := State.decodeBurst_dram s sc (s.scrubPos sc * 64) (s.arrayBytes sc (s.scrubPos sc * 64) 64)
    (errWord errs (s.flipAt sc (s.scrubPos sc * 64)))
  simp only [State.scrubRead]
  split
  · exact h
  · split <;> split <;> first
      | exact h
      | (simp only [State.scrubEnd_dram]; exact h)
      | (simp only [State.count_mem, e]; exact h)
      | (split <;> simp only [State.scrubEnd_dram, State.setFld_mem, State.count_mem, e] <;>
         first | exact h | exact Memory.wf_putBytes _ _ _ h)

theorem State.drainQueues_wf (h : Memory.wf s.mem.dram = true) : Memory.wf s.drainQueues.mem.dram = true := by
  simp only [State.drainQueues]
  refine List.foldlRecOn (motive := fun (t : State) => Memory.wf t.mem.dram = true) _ _ ?_ ?_
  · exact List.foldlRecOn (motive := fun (t : State) => Memory.wf t.mem.dram = true) _ _ h
      (fun t ht b _ => State.putBurst_wf t _ _ _ ht)
  · exact fun t ht b _ => by simp only [State.decodeBurst_dram]; exact ht

theorem State.refreshBank_dram (sc b : Nat) : (s.refreshBank sc b).mem.dram = s.mem.dram := by
  have h := State.blur_mem (State.refreshBank_blur s sc b 49168 rfl) rfl
  rw [h]

theorem State.retire_wf (sc bank : Nat) (h : Memory.wf s.mem.dram = true) :
    Memory.wf (s.retire sc bank).mem.dram = true := by
  simp only [State.retire]
  split
  · exact h
  · split
    · exact h
    · rw [State.refreshBank_dram]; exact State.putBurst_wf _ _ _ _ h

theorem State.selectSlot_wf (n : Nat) (h : Memory.wf s.flash = true) : Memory.wf (s.selectSlot n).flash = true :=
  Memory.wf_putBytes _ _ _ h

theorem State.eraseSlot_wf (n : Nat) (h : Memory.wf s.flash = true) : Memory.wf (s.eraseSlot n).flash = true :=
  Memory.wf_filter _ _ h

theorem State.putSlot_wf (n : Nat) (img : List Byte) (h : Memory.wf s.flash = true) :
    Memory.wf (s.putSlot n img).flash = true :=
  Memory.wf_putBytes _ _ _ (State.eraseSlot_wf s n h)

end Sys2Proof.Machine
end

