-- ==== Sys2Proof/Laws/Wires.lean ====
section
/-! SUPPORT. An event on a source wire is heard, and hearing it survives what does not touch the Auditor. -/

set_option Elab.async false

namespace Sys2Proof.Machine

open Sys2Proof

variable (s : State)

theorem State.hears_of_aud {s t : State} (h : t.aud = s.aud) (x u : Nat) : t.hears x u = s.hears x u := by
  simp [State.hears, h]

/-- The event just raised is heard. -/
theorem State.raiseLin_hears {x u : Nat} (lin : BitVec 64) (h : s.speaks x u = true) : (s.raiseLin x u lin).hears x u = true := by
  unfold State.speaks at h
  have hc : ¬ ((srcReserved x || !s.unitLive (srcCluster x) u) = true) := by
    revert h; cases srcReserved x <;> cases s.unitLive (srcCluster x) u <;> simp
  unfold State.raiseLin
  rw [if_neg hc]
  have hf : ∀ (l : List Nat) (t : State), (l.foldl (fun t n => t.toChannel n lin) t).aud = t.aud := fun l t =>
    State.blur_aud (foldl_blur 32768 _ (fun t n => State.toChannel_blur t n lin 32768 rfl) l t) rfl
  simp [State.hears, hf]

theorem State.raise_hears {x u : Nat} (h : s.speaks x u = true) : (s.raise x u).hears x u = true := s.raiseLin_hears _ h

end Sys2Proof.Machine
end

