-- ==== Sys2Proof/Tests/Slice0.lean ====
section
/-! SUPPORT. Tests: operands that the checks refuse, values the spec states, and one witness theorem for each statement with
hypotheses. A witness names, clause by clause, a state and operands that meet the clause's hypotheses together. -/

set_option Elab.async false

namespace Sys2Proof.Machine

/-- A fetched command of queue 0 with opcode `op` and zeros. -/
def NC (op : Nat) : NCmd := ⟨0, 0#16, leBytes 4 op ++ List.replicate 60 0#8, [], 0, false, [], none⟩
def F0 : Frame := ⟨0, 0, 0, 0, 0, 0, none, 0#32, [], false, 0, [], true, 0, false, [], [], 0⟩
def E0 : Entry := ⟨0, 1, 0, 0, 0, 0, 0, 0, 0, 0, 0#32, 0, 0, 0, [], none, [], 0#64, 0, 0, 0, 0, false, false, false, false, []⟩
def A0 : Act := ⟨0, 0, 0, 0, 0#64, 0#32, false, true, true, false, 1, 0, 0, 0#32⟩
def P0 : Pkt := ⟨0, 0, false, 0, 0, 0, [], false, false, false⟩
def G0 : Seg := ⟨0, [], [], [], none, none, 0⟩
def VP0 : VPic := ⟨0, false, 0, 0, 0, 0, [], 0, false, none, none, [], false, false, none, [], 0, 0, 0, 0, 0, 0, 0, 0, 0, 0, false, false, 0⟩
def VS0 : VSps := ⟨0, true, 0, true, 8, 8, 4, false, 0, 0, 1, [], none⟩
def CF0 : CorFrame := ⟨0, 0, 0, false, 0, [], 0, false, []⟩
def SQ0 : Sq := ⟨2, 0, 0, 0, 0⟩
def CQ0 : Cq := ⟨2, 0, false, 0, 0, true⟩

def NCx (q st op ns d10 d11 d12 : Nat) (data : List Byte) : NCmd :=
  ⟨q, 0#16, leBytes 4 op ++ leBytes 4 ns ++ List.replicate 32 0 ++ leBytes 4 d10 ++ leBytes 4 d11 ++ leBytes 4 d12 ++ List.replicate 12 0, data, st, false, [], none⟩

def State.setPhaseT (s : State) (p : Phase) : State := { s with pwr := { s.pwr with phase := p } }
def State.setCstsT (s : State) (n : Nat) : State := { s with hst := { s.hst with csts := BitVec.ofNat 32 n } }
def State.cmdsT (s : State) (l : List NCmd) : State := { s with hst := { s.hst with cmds := l } }
def rowOr (a : Nat) : RegRow := (rowAt a).getD ⟨"", 0, 0, 0, 0, 0, []⟩
/-- Bytes placed at an address of the recording memory (sub-channel 0, same local address). -/
def State.putT (s : State) (a : Nat) (b : List Byte) : State := s.putBurst 0 a b
def State.withFramesT (s : State) (l : List Frame) : State := { s with ing := { s.ing with frames := l } }
/-- A job descriptor of the compression queue: source 0x10000, destination 0x20000, job record 0x2000. -/
def D0 (op flags geom len : Nat) : List Byte :=
  leBytes 8 (op + 256 * flags) ++ leBytes 8 0x10000 ++ leBytes 8 0x20000 |>.take 24 |> (· ++ leBytes 4 len ++ leBytes 4 geom ++
    leBytes 8 0 ++ leBytes 8 0x2000 ++ List.replicate 16 0)
def JR : List Byte :=
  let h := leBytes 4 0x54534D43 ++ [1, 1] ++ List.replicate 54 0
  h ++ leBytes 4 (crc32c (h ++ List.replicate 192 0)) ++ List.replicate 192 0
def SH : List Byte :=
  let h := leBytes 4 0x46524352 ++ [1, 10, 0, 0] ++ leBytes 2 64 ++ leBytes 2 8 ++ leBytes 2 1 ++ leBytes 2 0 ++ leBytes 8 7 ++
    leBytes 4 4096 ++ List.replicate 32 0
  h ++ leBytes 4 (crc32c h)
def LP0 : LayerPic := ⟨0, 0, 0, 0, 0, 0, 0⟩

/-- A plane that enables every unit. -/
def wholePlane : Plane := ⟨[], 1, 0, 0, [], (List.range 16).map (fun c => ⟨c, 2 ^ 64 - 1, []⟩)⟩

/-- A module that runs: released, every unit enabled, the memory ready with one region of 4 GiB on sub-channel 0, the
host's link up, the controller ready, head 0 with stream 0 of 64 by 32 pixels, its partition 0 and its cluster 0. -/
def live : State :=
  let s : State := { State.reset with
    plane := some wholePlane, now := 5000000000, px := 7000000000
    pwr := { State.reset.pwr with phase := .released, hstFrame := true }
    hst := { State.reset.hst with csts := 1#32, cc := 1#32 } }
  [(rMemStat, 28, 4, 2), (rHstLink, 28, 4, 2), (rHstTeller, 28, 4, 1), (rDevVltStat, 28, 4, 1), (rSvcHpwrStat, 0, 16, 0x2222),
   (rMemRgnMap 0, 0, 1, 1), (rMemRgnMap 0, 16, 16, 1), (rMemRgnSize 0, 0, 19, 4096), (rMemScStat 0, 28, 4, 2),
   (rIngStrGeom 0, 0, 31, 32 * 65536 + 4), (rDevHead 0, 31, 1, 1), (rIngPartCfg 0, 31, 1, 1), (rIngPartSize 0, 0, 28, 4096),
   (rPixCfg 0, 31, 1, 1)].foldl (fun s x => s.setFld x.1 x.2.1 x.2.2.1 x.2.2.2) s

end Sys2Proof.Machine

namespace Sys2Proof.Tests

open Sys2Proof.Machine

/-! ### Ill-formed commands are refused by the check -/

theorem test_wf_refuses : [
    Instr.headOutputMeasure ([(12000, 0)], none), .headOutputMeasure ([(65536, 0), (0, 0), (0, 0), (0, 0)], none), .tripOc (0, 65536),
    .ctleSweepDone 0 [[1, 2]], .dfeConverged 0 [[1, 2, 3]], .dfeUpdate 0 2 [], .dfeUpdate 0 1 [3],
    .codewordDecode 0 [0, 1, 2, 3], .portRequest 0 false 0 0 [] false, .portRequest 0 true 0 2 [1#8] false,
    .portRequest 0 false (2 ^ 38) 1 [] false, .readDecode 0 0 [(80, 1)], .readDecode 0 1 [], .scrubRead 0 [(0, 256)],
    .doorbellWrite 0xFFC 0#32, .doorbellWrite 0x1002 0#32, .commandFetch 0 [([1#8], [])], .pcieLinkUp 6 4, .pcieLinkUp 5 3,
    .ethernetFrameReceive 0 [] 0 [], .ethernetFrameTransmit 0 0 [] [] 0, .aesBlockStart 0 0 (List.replicate 385 0) 0,
    .aesLockChange 0 true 0 (List.replicate 385 0), .thermalMeasurement [250], .vpdRead 255 2,
    .registerWrite 2#26 0xFF#8 false 0#32 0#32, .registerWrite 4#26 0xFF#8 true 0#32 0#32, .readToClear 1#26 false,
    .captureRead 2#26].all (fun i => !i.wf) = true := by decide +kernel

theorem test_wf_accepts : [
    Instr.headOutputMeasure ([(12000, 0), (0, 0), (0, 0), (65535, 65535)], none), .pcieLinkUp 5 8, .doorbellWrite 0x1000 0#32,
    .registerWrite 8#26 0xFF#8 true 0#32 0#32, .vpdRead 0 256, .portRequest 0 true 0 1 [7#8] false].all Instr.wf = true := by
  decide +kernel

/-! ### Values that the spec states -/

/-- The bytes of "123456789". -/
def digits : List Byte := [0x31, 0x32, 0x33, 0x34, 0x35, 0x36, 0x37, 0x38, 0x39]

-- 06_sensor_link.md: check values of HCRC and of the control packets' CRC-16
theorem test_crc8_check : crc8 digits = 0xF4 := by decide +kernel
theorem test_crc16_check : crc16 digits = 0x29B1 := by decide +kernel

-- R13: the identity word of unit 3 in cluster 5 is at 0x0143_0000
theorem test_identity_address : (clusterOf 0x1430000, unitOf 0x1430000, offOf 0x1430000) = (5, 3, 0) := by decide +kernel

-- R7: DEV_CAP0 and DEV_CAP1 of the three variants
theorem test_dev_cap0 : (devCap0 .rlm4200, devCap0 .rlm4600, devCap0 .rlm4800) = (0x42224428#32, 0x46448244#32, 0x4844845C#32) := by
  decide +kernel

-- R62: the IDCODE
theorem test_tap_idcode : ∃ t, exec .tapIdcode live = .next t ∧ t.rdata = 0x1C480A5F#64 := ⟨_, rfl, by decide +kernel⟩

/-- Region 2 of the mapping example in 15_memory.md. -/
def mapped : State :=
  [(rMemRgnMap 0, 0, 1, 0), (rMemRgnBase 2, 0, 18, 1024), (rMemRgnSize 2, 0, 19, 131072), (rMemRgnMap 2, 0, 1, 1),
   (rMemRgnMap 2, 8, 4, 4), (rMemRgnMap 2, 16, 16, 0xFFFF), (rMemRgnLbase 2, 0, 14, 8192), (rMemCfg, 24, 1, 1)].foldl
    (fun s x => s.setFld x.1 x.2.1 x.2.2.1 x.2.2.2) live

-- 15_memory.md, steps 3 and 4: SC5, local address 0x2_0123_4678
theorem test_mapping_example : mapped.mapAddr (0x40000000 + 0x12345678) = some (5, 0x201234678) := by decide +kernel
-- steps 6 to 8: bank group 6, bank 0, row 0x2_0123
theorem test_bank_example : mapped.bankRow 0x201234678 = (6, 0x20123) := by decide +kernel

-- 07_frame_ingest.md: RAW12 pixels 0x5A3 and 0xC71 are recorded as 0xA3 0x15 0xC7
theorem test_raw12_example : (CmpGeom.pack ⟨64, 8, 12, false, 0, 0, 0, 0, 0⟩ (0x5A3 :: 0xC71 :: List.replicate 62 0)).take 3 =
    [0xA3, 0x15, 0xC7] := by decide +kernel

/-- An axis source with N = 4, W = 10 ms and three events in its window (21_faults_thermal.md, R543). -/
def windowed (n : Nat) : State :=
  (live.setFld (rSvcAudSrcCfg 0x080) 0 16 4).setAud { live.aud with win := Map.set (fun _ => 0) [] 0x080 n }

-- the third event is CORRECTED, the fourth is SEVERE
theorem test_window_third : ((windowed 2).audit ⟨0x080, 10, 0, false, 0⟩ 1).aud.severe = 0 := by decide +kernel
theorem test_window_fourth : ((windowed 3).audit ⟨0x080, 10, 0, false, 0⟩ 1).aud.severe = 1 := by decide +kernel

-- R267: a serial is 48 bits and wraps
theorem test_serial_wraps : serialNext 0xFFFFFFFFFFFE = 0 := by decide +kernel

-- R536: the latch of the Clearing House
theorem test_latch_sets : ∃ t, exec (.setLatch 15) live = .next t ∧ t.bit rSvcChLatch 15 = true := ⟨_, rfl, by decide +kernel⟩

-- FIPS 180-4: SHA-384 of "abc"
theorem test_sha384_abc : beNat (sha384 [0x61, 0x62, 0x63]) =
    0xcb00753f45a35e8bb5a03d699ac65007272c32ab0eded1631a8b605a43ff5bed8086072ba1e7cc2358baeca134c825a7 := by decide +kernel
-- RFC 3720: CRC-32C of "123456789"
theorem test_crc32c_check : crc32c digits = 0xE3069283 := by decide +kernel

-- the queue: a command moved to the front runs with the rest of the queue; an empty queue ticks one nanosecond
theorem test_tick : ∃ t, step live = .next t ∧ t.now = live.now + 1 := ⟨_, rfl, by decide +kernel⟩
theorem test_front_runs : ∃ t, step { live with pending := [.tapIdcode, .nop] } = .next t ∧ t.pending = [.nop] := ⟨_, rfl, by decide +kernel⟩

/-! ### Witnesses -/

theorem witness_StepRunsFrontCommand :
    let s : State := ({ live with pending := [] } : State); s.pending = [] := by decide +kernel

theorem witness_StepRunsFrontCommand_next :
    let c : Instr := .nop; let s : State := live; ∃ t, exec c s = .next t :=
  ⟨_, rfl⟩

theorem witness_NanosecondTick :
    (let s : State := ({ live with pwr := { live.pwr with phase := .off } } : State);
      (s.pwr.phase = .off ∨ s.pwr.phase = .starting)) ∧
    (let s : State := ({ live with pwr := { live.pwr with phase := .released } } : State); s.pwr.phase = .released) ∧
    (let m : Mint := ⟨0, 0, 0⟩; let rate : Int := 0; m.ns < 1000000000 ∧ m.fr < 2 ^ 44 ∧ -2 ^ 31 ≤ rate ∧ rate < 2 ^ 31) ∧
    (let m : Mint := ⟨0, 999999999, 0⟩; m.ns = 999999999 ∧ m.fr = 0 ∧ m.sec < 2 ^ 48 - 1) ∧
    (let m : Mint := ⟨0, 0, 0⟩; m.ns < 999999999 ∧ m.fr = 0 ∧ m.sec < 2 ^ 48) ∧
    (let s : State := ({ ({ live with pwr := { live.pwr with phase := .released } } : State) with clk := { live.clk with stage := 2 } } : State);
      s.pwr.phase = .released ∧ s.tick.pxCycle = s.pxCycle) ∧
    (let s : State := ({ live with pwr := { live.pwr with phase := .released } } : State); s.pwr.phase = .released ∧
      s.tick.pxCycle ≠ s.pxCycle) := by
  refine ⟨?_, ?_, ?_, ?_, ?_, ?_, ?_⟩ <;> decide +kernel

theorem witness_CommandsKeepTheirFrame :
    let c : Instr := .nop; let s : State := live; ∃ t, exec c s = .next t :=
  ⟨_, rfl⟩

theorem witness_OnlyTheseChange :
    (let c : Instr := .nop; let s : State := live; ∃ t, exec c s = .next t) ∧
    (∃ t, exec .nop live = .next t ∧ (∀ b, Instr.nop ≠ .tapBypass b) ∧ Instr.nop ≠ .tapIdcode ∧
      (∀ l, Instr.nop ≠ .tapSamplePreload l) ∧ (∀ l, Instr.nop ≠ .tapExtest l) ∧ Instr.nop ≠ .railsFall ∧
      Instr.nop ≠ .thermalCutoff) ∧
    (∃ t, exec .nop live = .next t ∧ (∀ a, Instr.nop ≠ .floorAdvance a) ∧ (∀ a, Instr.nop ≠ .revoke a) ∧
      (∀ a, Instr.nop ≠ .zeroize a) ∧ ∀ a b w l h, Instr.nop ≠ .registerWrite a b w l h) ∧
    (∃ t, exec .nop live = .next t ∧ (∀ o n, Instr.nop ≠ .vpdRead o n) ∧
      ∀ d ∈ [Instr.telemetryIdentity, .telemetryZones, .telemetrySensors, .telemetryThermalStatus, .telemetryPowerStatus, .telemetryInputPower, .telemetryHeadPower, .telemetryClock, .telemetryFaultSummary, .telemetryFirstFatal], Instr.nop ≠ d) :=
  ⟨⟨_, rfl⟩,
    ⟨_, rfl, by simp⟩,
    ⟨_, rfl, by simp⟩,
    ⟨_, rfl, by simp⟩⟩

theorem witness_LastingStateLasts :
    lasting live.variant live.otp live ∧ ∃ t, step live = .next t :=
  ⟨⟨rfl, ⟨rfl, Nat.le_refl _, Nat.le_max_left _ _, fun _ h => h, fun h => h⟩, by decide +kernel⟩, _, rfl⟩

theorem witness_AbsentUnitsReadZero :
    (let addr : BitVec 26 := 0x0D30000; let wide : Bool := false; let s : State := ({ live with variant := .rlm4200 } : State);
      s.reaches 0 = true ∧ addr.toNat % (if wide then 8 else 4) = 0 ∧
      present s.variant (clusterOf addr.toNat) (unitOf addr.toNat) = false) ∧
    (let addr : BitVec 26 := 0x0D30000; let s : State := ({ live with variant := .rlm4200 } : State);
      present s.variant (clusterOf addr.toNat) (unitOf addr.toNat) = false) ∧
    (let addr : BitVec 26 := 0x1C00000; let s : State := ({ live with variant := .rlm4200 } : State); s.reaches 0 = true ∧
      addr.toNat % 4 = 0 ∧ (∀ u : Fin 64, present s.variant (clusterOf addr.toNat) u = false)) ∧
    (let addr : BitVec 26 := 0x1C00000; let s : State := ({ live with variant := .rlm4200 } : State);
      (∀ u : Fin 64, present s.variant (clusterOf addr.toNat) u = false)) := by
  refine ⟨?_, ?_, ?_, ?_⟩ <;> decide +kernel

theorem witness_AbsentSourcesStaySilent :
    (let x : Nat := 0x090; let u : Nat := 40; let s : State := ({ live with variant := .rlm4200 } : State);
      present s.variant (srcCluster x) u = false) ∧
    (let x : Nat := 0x090; let u : Nat := 40; let s : State := ({ live with variant := .rlm4200 } : State);
      present s.variant (srcCluster x) u = false) := by
  refine ⟨?_, ?_⟩ <;> decide +kernel

theorem witness_DeviceCapabilityWords :
    (let s : State := live; s.reaches 0 = true ∧ s.unitLive 0 0 = true) ∧
    (let c : Nat := 0; c < 16) ∧
    (let b : Nat := 16; 16 ≤ b) := by
  refine ⟨?_, ?_, ?_⟩ <;> decide +kernel

theorem witness_PolicyBitsNeverClear :
    let c : Instr := .nop; let k : Nat := 0; let s : State := ({ live with otp := { live.otp with policy := 1 } } : State);
    s.otp.policy.getLsbD k = true ∧ ∃ t, exec c s = .next t :=
  ⟨by decide +kernel, _, rfl⟩

theorem witness_SerialCounterWraps :
    let n : Nat := 0; n < 0xFFFFFFFFFFFE := by decide +kernel

theorem witness_ParityInjection :
    (let sc : Fin 16 := 0; let s : State := (live.setFld (rMemScInj sc) 16 16 1); s.fld (rMemScInj sc) 16 16 ≠ 0) ∧
    (let sc : Fin 16 := 0; let s : State := (live.setFld (rMemScInj sc) 16 16 0); s.fld (rMemScInj sc) 16 16 = 0) ∧
    (let f : Nat := 0; let t : Nat := 0; f < 2 ^ 16 ∧ t < 16) ∧
    (let f : Nat := 0; f < 2 ^ 16) ∧
    (let s : State := ({ live with mem := { live.mem with q := [] } } : State); s.mem.q = []) ∧
    (let v : Word := BitVec.ofNat 32 ((1 : Nat) <<< 10 + (16 : Nat) <<< 4 + 1 <<< 0); let s : State := live;
      s.reaches 15 = true ∧ fget v 10 4 = 1 ∧ 16 ≤ fget v 4 6 ∧ fget v 4 6 < 32 ∧ fget v 0 2 ≠ 0) := by
  refine ⟨?_, ?_, ?_, ?_, ?_, ?_⟩ <;> decide +kernel

theorem witness_InterruptVectors :
    (let cc : Word := BitVec.ofNat 32 (1 <<< (0 : Nat));
      let s : State := ({ live with hst := { live.hst with cc := 0 } } : State); s.ctlUp = true ∧ s.hst.cc.getLsbD 0 = false ∧
      cc.getLsbD 0 = true) ∧
    (let cid : BitVec 16 := 0; let q : Fin 65 := 1; let c : NCmd := NCx 0 0 0x05 0 (q + 65536 * 3) (1) 0 [];
      let s : State := (live.cmdsT [c]); s.adminIs cid 0x05 c ∧ c.dw 10 % 65536 = q ∧ q.val ≠ 0 ∧ s.cq q = none ∧
      c.dw 10 / 65536 ≠ 0 ∧ c.dw 10 / 65536 ≤ 4095 ∧ (c.dw 11).testBit 0 = true ∧ c.dw 11 / 65536 ≤ 64) ∧
    (let cid : BitVec 16 := 0; let q : Fin 65 := 1; let c : NCmd := NCx 0 0 0x05 0 (1 + 65536) (1 + 65536 * 65) 0 [];
      let s : State := (live.cmdsT [c]); s.adminIs cid 0x05 c ∧ c.dw 10 % 65536 = q ∧ q.val ≠ 0 ∧ s.cq q = none ∧
      c.dw 10 / 65536 ≠ 0 ∧ c.dw 10 / 65536 ≤ 4095 ∧ (c.dw 11).testBit 0 = true ∧ 65 ≤ c.dw 11 / 65536) ∧
    (let x : Nat := 0;
      let s : State := (({ live with hst := { live.hst with mxTab := [] } } : State).setBit (rSvcAudPend (x / 32)) (x % 32) false);
      x < 288 ∧ s.bit (rSvcAudPend (x / 32)) (x % 32) = false ∧ s.hst.mxTab = []) := by
  refine ⟨?_, ?_, ?_, ?_⟩ <;> decide +kernel

theorem witness_QueueNumbersAndSizes :
    (let cid : BitVec 16 := 0; let q : Fin 65 := 1; let c : NCmd := NCx 0 0 0x05 0 (q) (1) 0 [];
      let s : State := (live.cmdsT [c]); s.adminIs cid 0x05 c ∧ c.dw 10 % 65536 = q ∧ q.val ≠ 0 ∧ s.cq q = none ∧
      (c.dw 11).testBit 0 = true ∧ c.dw 11 / 65536 ≤ 64) ∧
    (let cid : BitVec 16 := 0; let q : Fin 65 := 1; let p : Fin 65 := 1;
      let c : NCmd := NCx 0 0 0x01 0 (q) (65536 * p + 1) 0 []; let s : State := ((live.cmdsT [c]).setCq 1 (some CQ0));
      s.adminIs cid 0x01 c ∧ c.dw 10 % 65536 = q ∧ q.val ≠ 0 ∧ s.sq q = none ∧ c.dw 11 / 65536 = p ∧ p.val ≠ 0 ∧
      (s.cq p).isSome = true ∧ (c.dw 11).testBit 0 = true) ∧
    (let cid : BitVec 16 := 0; let c : NCmd := NCx 0 0 0x05 0 65 0 0 []; let s : State := (live.cmdsT [c]);
      s.adminIs cid 0x05 c ∧ (c.dw 10 % 65536 = 0 ∨ 64 < c.dw 10 % 65536)) ∧
    (let cid : BitVec 16 := 0; let c : NCmd := NCx 0 0 0x01 0 0 0 0 []; let s : State := (live.cmdsT [c]);
      s.adminIs cid 0x01 c ∧ (c.dw 10 % 65536 = 0 ∨ 64 < c.dw 10 % 65536)) ∧
    (let cc : Word := BitVec.ofNat 32 (1 <<< (0 : Nat));
      let s : State := ({ live with hst := { live.hst with cc := 0 } } : State); s.ctlUp = true ∧ s.hst.cc.getLsbD 0 = false ∧
      cc.getLsbD 0 = true) ∧
    (let cid : BitVec 16 := 0; let c : NCmd := NCx 0 0 0x09 0 (7) 0 0 []; let s : State := (live.cmdsT [c]);
      s.adminIs cid 0x09 c ∧ c.dw 10 % 256 = 7) := by
  refine ⟨?_, ?_, ?_, ?_, ?_, ?_⟩ <;> decide +kernel

theorem witness_SourceClasses :
    (let x : Nat := 0; x < 288) ∧
    (let x : Fin 288 := 0; let s : State := live; s.reaches 15 = true ∧ srcClass x ≠ 3) ∧
    (let x : Fin 288 := 0x11A; let v : Word := 0; let s : State := live; s.reaches 15 = true ∧ srcClass x = 3 ∧
      (fget v 30 2 < 3 ∨ v.getLsbD 29 = true)) := by
  refine ⟨?_, ?_, ?_⟩ <;> decide +kernel

theorem witness_MaskedSourceOnlyCounts :
    (let x : Fin 288 := 0; let u : Nat := 0; let c : Nat := 0; let i : Bool := false; let d : Word := 0;
      let s : State := (({ live with aud := { live.aud with q := [⟨x, u, d, i, c⟩] } } : State).setBit (rSvcAudSrcCfg x) 29 true);
      s.aud.q = [⟨x, u, d, i, c⟩] ∧ s.bit (rSvcAudSrcCfg x) 29 = true) ∧
    (let e : EvRec := ⟨1, 0, 0, false, 0⟩; let s : State := (live.setBit (rSvcAudSrcCfg e.src) 29 true);
      s.bit (rSvcAudSrcCfg e.src) 29 = true) := by
  refine ⟨?_, ?_⟩ <;> decide +kernel

theorem witness_ReactionIrq :
    (let x : Nat := 0; x < 288) ∧
    (let x : Nat := 0; let v : Nat := 0;
      let s : State := ({ (live.setBit (rSvcAudPend (x / 32)) (x % 32) false) with hst := { live.hst with mxTab := Map.set mxDefault [] (4 * (65 + v) + 3) 0 } } : State);
      x < 288 ∧ s.bit (rSvcAudPend (x / 32)) (x % 32) = false ∧ v = min 14 (s.fld (rSvcAudSrcCfg x) 24 4) ∧
      s.mxMasked (65 + v) = false) ∧
    (let x : Nat := 0; let v : Nat := 0; let s : State := (live.setBit (rSvcAudPend (x / 32)) (x % 32) false); x < 288 ∧
      s.bit (rSvcAudPend (x / 32)) (x % 32) = false ∧ v = min 14 (s.fld (rSvcAudSrcCfg x) 24 4) ∧ s.mxMasked (65 + v) = true ∧
      s.hst.mxPend.contains (65 + v) = false) ∧
    (let x : Nat := 0; let s : State := (live.setBit (rSvcAudPend (x / 32)) (x % 32) true);
      s.bit (rSvcAudPend (x / 32)) (x % 32) = true) ∧
    (let s : State := live; s.reaches 15 = true ∧ s.unitLive 15 2 = true) ∧
    (let x : Nat := 0; x < 288) := by
  refine ⟨?_, ?_, ?_, ?_, ?_, ?_⟩ <;> decide +kernel

theorem witness_MemoryReadAfterWrite :
    (let a : Nat := 0; let k : Nat := 0; let b : List Byte := []; (k < a ∨ a + b.length ≤ k)) ∧
    (let m : List Host.Cell := []; Memory.wf m = true) ∧
    (let a : Nat := 0; let sc : Nat := 0; let loc : Nat := 0; let b : List Byte := [1, 2];
      let s : State := (live.setFld (rMemScInj sc) 16 16 0); s.burstStat false a = .ok ∧ s.mapAddr a = some (sc, loc) ∧
      sc < 16 ∧ b ≠ [] ∧ a % 64 + b.length ≤ 64 ∧ loc % 64 = a % 64 ∧
      (∀ x ∈ s.mem.q, ¬ (x.write = true ∧ x.sc = sc ∧ x.loc / 64 = loc / 64)) ∧ s.fld (rMemScInj sc) 16 16 = 0) ∧
    (let n : Nat := 1; let b : List Byte := [1]; let s : State := (live.setFld rMemStat 28 4 0); s.memState ≠ 2 ∧ b ≠ [] ∧
      n ≠ 0) := by
  refine ⟨?_, ?_, ?_, ?_⟩ <;> decide +kernel

theorem witness_SupplyPinsAndTap :
    (let s : State := ({ live with pwr := { live.pwr with loss := 0 } } : State); s.powered = true ∧ s.pwr.loss = 0) ∧
    (let s : State := ({ live with pwr := { live.pwr with loss := 1 } } : State); s.powered = true ∧ s.pwr.loss ≠ 0) ∧
    (let s : State := (live.setBit rSvcPwrStat 1 true); s.bit rSvcPwrStat 1 = true) ∧
    (let s : State := ({ live with pwr := { live.pwr with loss := 4 } } : State); s.pwr.loss = 4) ∧
    (let s : State := (live.setBit rSvcPwrStat 3 true); s.bit rSvcPwrStat 3 = true) ∧
    (let s : State := ({ live with pwr := { live.pwr with phase := .off, cutoff := false } } : State); s.pwr.phase = .off ∧
      s.pwr.cutoff = false) ∧
    (let s : State := ({ live with pwr := { live.pwr with phase := .starting } } : State); s.pwr.phase = .starting) ∧
    (let s : State := ({ live with pwr := { live.pwr with phase := .starting } } : State); s.pwr.phase = .starting) ∧
    (let speed : Nat := 5; let width : Nat := 4;
      let s : State := (({ live with pwr := { live.pwr with perst := false } } : State).setFld rHstLink 28 4 0);
      s.powered = true ∧ s.pwr.perst = false ∧ s.fld rHstLink 28 4 ≠ 2 ∧ Instr.wf (.pcieLinkUp speed width) = true) ∧
    (let s : State := (live.setFld rHstLink 28 4 2); s.fld rHstLink 28 4 = 2) ∧
    (let s : State := live; s.powered = true) ∧
    (let s : State := live; s.powered = true) ∧
    (let s : State := live; s.powered = true) ∧
    (let s : State := live; s.powered = true) := by
  refine ⟨?_, ?_, ?_, ?_, ?_, ?_, ?_, ?_, ?_, ?_, ?_, ?_, ?_, ?_⟩ <;> decide +kernel

theorem witness_StartSequence :
    (let s : State := ({ live with pwr := { live.pwr with phase := .good, loss := 0, testEn := false } } : State);
      s.pwr.phase = .good ∧ s.pwr.loss = 0 ∧ s.pwr.testEn = false) ∧
    (let s : State := ({ live with pwr := { live.pwr with phase := .good, loss := 0, testEn := true } } : State);
      s.pwr.phase = .good ∧ s.pwr.loss = 0 ∧ s.pwr.testEn = true) ∧
    (let s : State := ({ live with pwr := { live.pwr with phase := .good, loss := 0 } } : State); s.pwr.phase = .good ∧
      s.pwr.loss = 0) ∧
    (let s : State := (({ live with pwr := { live.pwr with phase := .checking, loss := 0, slotOk := false } } : State).setBit rDevCfgStat 1 true);
      s.pwr.phase = .checking ∧ s.pwr.loss = 0 ∧ s.bit rDevCfgStat 1 = true ∧ s.pwr.slotOk = false) ∧
    (let k : Nat := 0;
      let s : State := (({ live with pwr := { live.pwr with phase := .checking, loss := 0, slotOk := false } } : State).setBit rDevCfgStat 1 true);
      s.pwr.phase = .checking ∧ s.pwr.loss = 0 ∧ s.bit rDevCfgStat 1 = true ∧ s.pwr.slotOk = false ∧
      k = (if s.pwr.tried = 0 then s.activeSlot else s.inactive)) ∧
    (let s : State := ((live.setFld rMemStat 28 4 1).setFld rHstPwr 0 3 0); s.memState = 1 ∧ s.fld rHstPwr 0 3 ≠ 4) ∧
    (let s : State := (({ live with pwr := { live.pwr with phase := .checking, loss := 0, slotOk := true } } : State).setFld rMemStat 28 4 2);
      s.pwr.phase = .checking ∧ s.pwr.loss = 0 ∧ s.pwr.slotOk = true ∧ s.memState = 2) ∧
    (let s : State := ((({ live with pwr := { live.pwr with phase := .applied, loss := 0 }, aud := { live.aud with safe := 0 } } : State).setFld rDevCfgStat 0 1 1).setFld (rMemScStat 1) 28 4 2);
      s.pwr.phase = .applied ∧ s.pwr.loss = 0 ∧ s.aud.safe = 0 ∧ s.mssFail true true true = 0) := by
  refine ⟨?_, ?_, ?_, ?_, ?_, ?_, ?_, ?_⟩ <;> decide +kernel

theorem witness_ResetsAndLossOfMains :
    (let v : Word := BitVec.ofNat 32 ((0xA5C3 : Nat) <<< 16 + 1 <<< (0 : Nat));
      let s : State := (({ live with pwr := { live.pwr with loss := 0 } } : State).setBit rSvcPwrStat 1 false);
      s.reaches 0 = true ∧ fget v 16 16 = 0xA5C3 ∧ v.getLsbD 0 = true ∧ s.pwr.loss = 0 ∧ s.bit rSvcPwrStat 1 = false ∧
      s.pwr.phase ≠ .bscan ∧ s.powerFailed = false) ∧
    (let v : Word := 0; let s : State := live; s.reaches 0 = true ∧ fget v 16 16 ≠ 0xA5C3) ∧
    (let s : State := (({ live with pwr := { live.pwr with loss := 0 } } : State).setBit rSvcPwrStat 1 false); s.ctlUp = true ∧
      s.pwr.loss = 0 ∧ s.bit rSvcPwrStat 1 = false ∧ s.pwr.phase ≠ .bscan ∧ s.powerFailed = false) ∧
    (let s : State := (({ live with pwr := { live.pwr with loss := 4 } } : State).setBit rSvcPwrStat 1 false); s.pwr.loss = 4 ∧
      s.bit rSvcPwrStat 1 = false ∧ s.pwr.phase ≠ .bscan ∧ s.powerFailed = false) ∧
    (let s : State := ({ live with pwr := { live.pwr with loss := 1 } } : State); s.pwr.loss = 1 ∧ s.released = true) ∧
    (let s : State := (({ live with pwr := { live.pwr with loss := 1 } } : State).setPhaseT .applied); s.pwr.loss = 1 ∧
      s.released = false) ∧
    (let s : State := ({ live with pwr := { live.pwr with loss := 2 } } : State); s.pwr.loss = 2) ∧
    (let s : State := (live.setFld rMemStat 28 4 3); s.memState = 3 ∧ s.pwr.loss ≠ 3 ∧
      s.hst.cmds.all (fun c => !(c.st == 1 && c.early)) = true) ∧
    (let s : State := ((live.setFld rMemStat 28 4 3).cmdsT [{ NCx 1 1 2 1 0 0 0 [] with early := true }]); s.memState = 3 ∧
      s.hst.cmds.any (fun c => c.st == 1 && c.early) = true) ∧
    (let s : State := (({ live with pwr := { live.pwr with loss := 3 } } : State).setFld rMemStat 28 4 0); s.memState ≠ 3 ∧
      s.pwr.loss = 3) ∧
    (let cl : Fin 16 := 5; let v : Word := 0; let s : State := live; s.reaches cl = true ∧ clusterPresent s.variant cl = true ∧
      cl ≠ 0 ∧ s.fenced cl 0 = false ∧ s.rstRefused cl v = true) ∧
    (let cl : Fin 16 := 5; let v : Word := BitVec.ofNat 32 (0xA5C3 * 65536 + 3); let s : State := live; s.reaches cl = true ∧
      clusterPresent s.variant cl = true ∧ cl ≠ 0 ∧ s.fenced cl 0 = false ∧ s.rstRefused cl v = false) ∧
    (let s : State := ({ live with pwr := { live.pwr with perst := false } } : State); s.powered = true ∧ s.pwr.perst = false) ∧
    (let s : State := ({ live with pwr := { live.pwr with perst := true } } : State); s.powered = true ∧ s.pwr.perst = true) ∧
    (let s : State := live; s.powered = true) ∧
    (let s : State := ({ live with pwr := { live.pwr with cutoff := true } } : State); s.pwr.cutoff = true) := by
  refine ⟨?_, ?_, ?_, ?_, ?_, ?_, ?_, ?_, ?_, ?_, ?_, ?_, ?_, ?_, ?_, ?_⟩ <;> decide +kernel

theorem witness_StepOfClkPx :
    (let s : State := live; s.powered = true) ∧
    (let s : State := ({ (live.setFld rHstPwr 0 3 0) with pwr := { live.pwr with inputMw := 470001 } } : State);
      s.powered = true ∧ 470000 < s.pwr.inputMw ∧ s.fld rHstPwr 0 3 ≠ 1) ∧
    (let s : State := (live.setFld rHstPwr 0 3 0); s.powered = true ∧ s.pwr.inputMw ≤ 440000 ∧ s.fld rHstPwr 0 3 ≠ 1) ∧
    (let s : State := live; s.reaches 0 = true) ∧
    (let s : State := ({ live with clk := { live.clk with stage := 1 } } : State); s.clk.stage = 1 ∧ s.drained = true) ∧
    (let s : State := ({ live with clk := { live.clk with stage := 2 } } : State); s.clk.stage = 2) := by
  refine ⟨?_, ?_, ?_, ?_, ?_, ?_⟩ <;> decide +kernel

theorem witness_HeadOutputs :
    (let meas : List (Nat × Nat) := [(12000, 0), (0, 0), (0, 0), (0, 0)]; let line : Option Bool := none;
      Instr.wf (.headOutputMeasure (meas, line)) = true) ∧
    (let h : Fin 4 := 0; let ma : Nat := 4001; let s : State := (live.setFld rSvcHpwrStat (4 * h) 4 1); s.hpwr h = 1 ∧
      (4000 < ma ∨ s.pwr.oc.getD h 0 ≠ 0)) ∧
    (let h : Fin 4 := 0; let ma : Nat := 4001; let s : State := (live.setFld rSvcHpwrStat (4 * h) 4 2); s.hpwr h = 2 ∧
      (4000 < ma ∨ s.pwr.oc.getD h 0 ≠ 0)) ∧
    (let h : Fin 4 := 0; let ma : Nat := 0; let s : State := live; ma ≤ 4000 ∧ s.pwr.oc.getD h 0 = 0) ∧
    (let h : Fin 4 := 0;
      let s : State := ({ ((live.setFld rSvcHpwrStat (4 * h) 4 2)) with pwr := { ((live.setFld rSvcHpwrStat (4 * h) 4 2)).pwr with uv := [1, 0, 0, 0] } } : State);
      s.hpwr h = 2 ∧ s.pwr.uv.getD h 0 ≠ 0) ∧
    (let h : Fin 4 := 3;
      let s : State := ({ ((live.setFld rSvcHpwrStat (4 * h) 4 2)) with pwr := { ((live.setFld rSvcHpwrStat (4 * h) 4 2)).pwr with tot := 10 } } : State).setFld (rSvcHpwrMeas 0) 0 32 (12000 + 4000 * 65536) |>.setFld (rSvcHpwrMeas 1) 0 32 (12000 + 4000 * 65536) |>.setFld (rSvcHpwrMeas 2) 0 32 (12000 + 4000 * 65536);
      s.hpwr h = 2 ∧ (∀ k : Fin 4, h < k → s.hpwr k ≠ 2) ∧ 10 ≤ s.pwr.tot ∧ s.v12Over = true) ∧
    (let s : State := live; (s.pwr.tot < 10 ∨ s.v12Over = false)) ∧
    (let h : Fin 4 := 0;
      let s : State := (({ ((live.setFld rSvcHpwrStat (4 * h) 4 0).setFld rSvcHpwrStat (4 * h) 4 0) with pwr := { live.pwr with startQ := [0], pres := 1 } } : State).setFld rSvcHpwrStat 0 4 0 |>.setFld rSvcHpwrCtl 0 1 1);
      s.pwr.startQ.head? = some h.val ∧ s.v12May = true ∧ s.v12En h = true ∧ s.pwr.pres.getLsbD h = true ∧ s.hpwr h ≠ 1 ∧
      s.hpwr h ≠ 2) ∧
    (let h : Fin 4 := 0; let s : State := (live.setFld rSvcHpwrStat (4 * h) 4 1); s.hpwr h = 1) ∧
    (let s : State := live; s.reaches 15 = true) := by
  refine ⟨?_, ?_, ?_, ?_, ?_, ?_, ?_, ?_, ?_, ?_⟩ <;> decide +kernel

theorem witness_VaultCommands :
    (let s : State := ({ live with pwr := { live.pwr with phase := .bscan } } : State); s.vltUp = true ∧ s.pwr.phase = .bscan) ∧
    (let arg : BitVec 24 := 0; let s : State := live; s.vltUp = true ∧ s.pwr.phase ≠ .bscan ∧
      (1 < arg.toNat ∨ arg.toNat = s.activeSlot)) ∧
    (let arg : BitVec 24 := 1; let s : State := (live.setBit rDevCfgStat 1 true); s.vltUp = true ∧ s.pwr.phase ≠ .bscan ∧
      arg.toNat ≤ 1 ∧ arg.toNat ≠ s.activeSlot ∧ s.vltBusy = true) ∧
    (let arg : BitVec 24 := 1; let s : State := live; s.vltUp = true ∧ s.pwr.phase ≠ .bscan ∧ arg.toNat ≤ 1 ∧
      arg.toNat ≠ s.activeSlot ∧ s.vltBusy = false) ∧
    (let s : State := (({ live with vlt := { live.vlt with load := 1 } } : State).setFld rDevVltStat 28 4 2); s.vlt.load = 1 ∧
      s.vltState = 2) ∧
    (let s : State := (({ live with vlt := { live.vlt with load := 1 } } : State).setFld rDevVltStat 28 4 2); s.vlt.load = 1 ∧
      s.vltState = 2) ∧
    (let s : State := (live.setBit rDevCfgStat 1 true); s.vltUp = true ∧ s.vltBusy = true) ∧
    (let s : State := ({ live with escrow := none } : State); s.vltUp = true ∧ s.vltBusy = false ∧ s.escrow = none) ∧
    (let q : Plane := wholePlane; let s : State := (({ live with escrow := some q } : State).setBit rDevCfgStat 3 true);
      s.vltUp = true ∧ s.vltBusy = false ∧ s.escrow = some q ∧ s.capture = true) ∧
    (let q : Plane := wholePlane; let s : State := (({ live with escrow := some q } : State).setBit rDevCfgStat 3 false);
      s.vltUp = true ∧ s.vltBusy = false ∧ s.escrow = some q ∧ s.capture = false) ∧
    (let s : State := (live.setFld rDevVltStat 28 4 5); s.vltUp = true ∧ (s.vltState = 5 ∨ s.vlt.verify ≠ 0)) ∧
    (let s : State := (({ live with vlt := { live.vlt with verify := 0 } } : State).setFld rDevVltStat 28 4 4);
      s.vltUp = true ∧ s.vltState = 4 ∧ s.vlt.verify = 0) ∧
    (let s : State := (live.setBit rDevCfgStat 1 true); s.vltUp = true ∧ s.vltBusy = true) ∧
    (let s : State := live; s.vltUp = true ∧ s.vltBusy = false) ∧
    (let s : State := ({ live with vlt := { live.vlt with testing := true } } : State); s.vlt.testing = true) ∧
    (let s : State := live; s.powered = true ∧ s.vltState ≠ 6) ∧
    (let s : State := ({ (({ live with vlt := { live.vlt with recheck := false } } : State).setFld rDevVltStat 28 4 5) with escrow := some wholePlane } : State);
      s.vltState = 5 ∧ s.vlt.recheck = false ∧ s.escrow.isSome = true) ∧
    (let s : State := ({ (live.setFld rDevVltStat 28 4 4) with vlt := { live.vlt with held := 1 } } : State); s.vltState = 4 ∧
      s.vlt.held ≠ 0) ∧
    (let p : Plane := wholePlane; let q : Plane := wholePlane;
      let s : State := ({ live with plane := some p, escrow := some q } : State); s.plane = some p ∧ s.escrow = some q) := by
  refine ⟨?_, ?_, ?_, ?_, ?_, ?_, ?_, ?_, ?_, ?_, ?_, ?_, ?_, ?_, ?_, ?_, ?_, ?_, ?_⟩ <;> decide +kernel

theorem witness_OfficerServicesAndSigning :
    (let s : State := live; s.vltUp = true) ∧
    (let arg : BitVec 24 := 0; let s : State := live; s.vltUp = true ∧ arg.toNat < 4) ∧
    (let arg : BitVec 24 := 4; let s : State := live; s.vltUp = true ∧ 4 ≤ arg.toNat) ∧
    (let s : State := ({ live with otp := { live.otp with zeroized := false } } : State); s.vltUp = true ∧
      s.otp.zeroized = false) ∧
    (let s : State := ({ live with otp := { live.otp with zeroized := true } } : State); s.vltUp = true ∧
      s.otp.zeroized = true) ∧
    (let r : SigReq := ⟨0, 0, 0, []⟩; let l : List SigReq := [];
      let s : State := (({ live with vlt := { live.vlt with sigq := r :: l, testing := false }, otp := { live.otp with zeroized := false } } : State).setFld rDevVltStat 28 4 1);
      s.vlt.sigq = r :: l ∧ s.vlt.testing = false ∧ s.vltState ≠ 6 ∧ s.vltState ≠ 0 ∧ s.otp.zeroized = false) ∧
    (let s : State := ({ live with vlt := { live.vlt with sigq := [] } } : State); s.vlt.sigq = []) := by
  refine ⟨?_, ?_, ?_, ?_, ?_, ?_, ?_⟩ <;> decide +kernel

theorem witness_RegisterWindow :
    (let addr : BitVec 26 := 0xC60010; let be : BitVec 8 := 0xF; let k : Kind := .cal; let n : Nat := 0;
      let r : RegRow := rowOr 0xC60010; let lo : Word := live.rd 0xC60010; let s : State := live; addr.toNat % 4 = 0 ∧
      be.setWidth 4 = 0xF#4 ∧ s.reaches (clusterOf addr.toNat) = true ∧
      s.unitLive (clusterOf addr.toNat) (unitOf addr.toNat) = true ∧
      kindOf (clusterOf addr.toNat) (unitOf addr.toNat) = some (k, n) ∧
      k ∈ [Kind.cal, .attest, .schSo, .corCore, .vidCore, .cmpEng, .hstPcie, .therm] ∧ rowAt addr.toNat = some r ∧
      (s.rd addr.toNat ^^^ lo) &&& r.mask .st = 0#32) ∧
    (let addr : BitVec 26 := 0xC60010; let be : BitVec 8 := 0xF; let k : Kind := .cal; let n : Nat := 0;
      let r : RegRow := rowOr 0xC60010; let lo : Word := 1; let s : State := (live.setBit rDevCfgStat 3 true);
      addr.toNat % 4 = 0 ∧ be.setWidth 4 = 0xF#4 ∧ s.reaches (clusterOf addr.toNat) = true ∧
      s.unitLive (clusterOf addr.toNat) (unitOf addr.toNat) = true ∧
      kindOf (clusterOf addr.toNat) (unitOf addr.toNat) = some (k, n) ∧
      k ∈ [Kind.cal, .attest, .schSo, .corCore, .vidCore, .cmpEng, .hstPcie, .therm] ∧ rowAt addr.toNat = some r ∧
      (s.rd addr.toNat ^^^ lo) &&& r.mask .st ≠ 0#32 ∧ s.capture = true) ∧
    (let addr : BitVec 26 := 0xC60010; let be : BitVec 8 := 0xF; let k : Kind := .cal; let n : Nat := 0;
      let r : RegRow := rowOr 0xC60010; let lo : Word := 1; let s : State := (live.setBit rDevCfgStat 3 false);
      addr.toNat % 4 = 0 ∧ be.setWidth 4 = 0xF#4 ∧ s.reaches (clusterOf addr.toNat) = true ∧
      s.unitLive (clusterOf addr.toNat) (unitOf addr.toNat) = true ∧
      kindOf (clusterOf addr.toNat) (unitOf addr.toNat) = some (k, n) ∧
      k ∈ [Kind.cal, .attest, .schSo, .corCore, .vidCore, .cmpEng, .hstPcie, .therm] ∧ rowAt addr.toNat = some r ∧
      (s.rd addr.toNat ^^^ lo) &&& r.mask .st ≠ 0#32 ∧ s.capture = false) ∧
    (let addr : BitVec 26 := BitVec.ofNat 26 0x10E0010; let be : BitVec 8 := 0xF; let r : RegRow := rowOr 0x10E0010;
      let lo : Word := live.rd 0x10E0010; let s : State := live; addr.toNat % 4 = 0 ∧ be.setWidth 4 = 0xF#4 ∧
      s.reaches 4 = true ∧ s.unitLive 4 (unitOf addr.toNat) = true ∧ clusterOf addr.toNat = 4 ∧
      kindOf 4 (unitOf addr.toNat) = some (.schA5, 0) ∧ rowAt addr.toNat = some r ∧
      (s.rd addr.toNat ^^^ lo) &&& r.mask .st = 0#32) ∧
    (let addr : BitVec 26 := 0; let be : BitVec 8 := 0;
      let s : State := (live.setFence (clusterOf addr.toNat) (unitOf addr.toNat) true);
      (s.unitLive (clusterOf addr.toNat) (unitOf addr.toNat) = false ∨ rowAt addr.toNat = none ∨ be.setWidth 4 ≠ 0xF#4) ∧
      mirror (clusterOf addr.toNat) (unitOf addr.toNat) (offOf addr.toNat) = false) ∧
    (let addr : BitVec 26 := 0; addr.toNat % 8 = 0) ∧
    (let addr : BitVec 26 := 0; let k : Kind := .dev; let n : Nat := 0; let s : State := live; s.reaches 0 = true ∧
      addr.toNat % 4 = 0 ∧ s.reaches (clusterOf addr.toNat) = true ∧
      present s.variant (clusterOf addr.toNat) (unitOf addr.toNat) = true ∧
      kindOf (clusterOf addr.toNat) (unitOf addr.toNat) = some (k, n) ∧ offOf addr.toNat = 0) ∧
    (let addr : BitVec 26 := 0x0D30000; let s : State := ({ live with variant := .rlm4200 } : State); s.reaches 0 = true ∧
      addr.toNat % 4 = 0 ∧ present s.variant (clusterOf addr.toNat) (unitOf addr.toNat) = false) ∧
    (let addr : BitVec 26 := 0x3C40010; let k : Kind := .therm; let n : Nat := 0; let r : RegRow := rowOr 0x3C40010;
      let s : State := live; s.reaches 0 = true ∧ addr.toNat % 4 = 0 ∧ s.reaches (clusterOf addr.toNat) = true ∧
      s.unitLive (clusterOf addr.toNat) (unitOf addr.toNat) = true ∧
      kindOf (clusterOf addr.toNat) (unitOf addr.toNat) = some (k, n) ∧ 8 ≤ offOf addr.toNat ∧
      blockGone s.variant k (offOf addr.toNat) = false ∧ k ≠ .hstNvme ∧ k ≠ .dev ∧ k ≠ .mint ∧
      captures k (offOf addr.toNat) = false ∧ rowAt addr.toNat = some r) ∧
    (let addr : BitVec 26 := 0x500014; let k : Kind := .memSc; let n : Nat := 0; let r : RegRow := rowOr 0x500014;
      let r' : RegRow := rowOr 0x500018; let s : State := live; s.reaches 0 = true ∧ addr.toNat % 4 = 0 ∧
      s.reaches (clusterOf addr.toNat) = true ∧ s.unitLive (clusterOf addr.toNat) (unitOf addr.toNat) = true ∧
      kindOf (clusterOf addr.toNat) (unitOf addr.toNat) = some (k, n) ∧ captures k (offOf addr.toNat) = true ∧
      rowAt addr.toNat = some r ∧ rowAt (addr.toNat + 4) = some r') := by
  refine ⟨?_, ?_, ?_, ?_, ?_, ?_, ?_, ?_, ?_, ?_⟩ <;> decide +kernel

theorem witness_BoundaryAndTally :
    (let stream : Fin 64 := 0; let s : State := live;
      s.ing.frames.find? (fun f => f.stream == stream.val && f.tap == 1 && !f.open_) = none) ∧
    (let stream : Fin 64 := 0; let f : Frame := { F0 with open_ := false, tap := 1 };
      let s : State := ({ live with ing := { live.ing with frames := [f] } } : State);
      s.ing.frames.find? (fun f => f.stream == stream.val && f.tap == 1 && !f.open_) = some f) ∧
    (let i : Nat := 0; let s : State := (live.setFld rDevVltStat 28 4 0); s.vltState ≠ 4 ∧ s.vlt.held.getLsbD i = false) ∧
    (let i : Fin 64 := 0; let a : Nat := rIngStrPad 0; let r : RegRow := rowOr (rIngStrPad 0);
      (a = rIngStrPad i ∨ a = rIngStrTout i) ∧ rowAt a = some r) ∧
    (let stream : Fin 64 := 0; let s : State := (live.setPixStr stream { live.pixStr stream with tally := [] });
      (s.pixStr stream).tally = []) ∧
    (let stream : Fin 64 := 0; let p : PendTally := ⟨0, 0, 0, [], []⟩; let l : List PendTally := [];
      let s : State := ((live.setPixStr stream { live.pixStr stream with tally := p :: l }).setFld (rPixCfg 0) 31 1 0);
      (s.pixStr stream).tally = p :: l ∧ s.lead stream = none) ∧
    (let stream : Fin 64 := 0; let p : PendTally := ⟨0, 0, 0, [], []⟩; let l : List PendTally := []; let c : Nat := 0;
      let s : State := ((live.setFence (5 + c) 2 true).setPixStr stream { live.pixStr stream with tally := p :: l });
      (s.pixStr stream).tally = p :: l ∧ s.lead stream = some c ∧ s.unitLive (5 + c) 2 = false) ∧
    (let stream : Fin 64 := 0; let p : PendTally := ⟨0, 0, 0, List.replicate 16 0, []⟩; let l : List PendTally := [];
      let c : Nat := 0; let s : State := (live.setPixStr stream { live.pixStr stream with tally := p :: l });
      (s.pixStr stream).tally = p :: l ∧ s.lead stream = some c ∧ s.unitLive (5 + c) 2 = true ∧ 16 ≤ p.bytes.length) := by
  refine ⟨?_, ?_, ?_, ?_, ?_, ?_, ?_, ?_⟩ <;> decide +kernel

theorem witness_PortTraining :
    (let n : Fin 4 := 0;
      let s : State := ((((live.setFld rSvcHpwrStat (4 * n) 4 2).setFld (rLnkLaneStat (8 * n)) 28 4 1).setLport n { live.lport n with sync := false }).setFld (rLnkPortStat 0) 28 4 4);
      s.unitLive 2 (1 + n) = true ∧ s.v12On n = true ∧ (s.lport n).sync = false ∧ (s.portState n = 1 ∨ s.portState n = 4) ∧
      s.allLanes n 1 = true) ∧
    (let n : Fin 4 := 0;
      let s : State := ((live.setFld (rLnkPortStat n) 28 4 1).setLport n { live.lport n with sync := false });
      s.unitLive 2 (1 + n) = true ∧ s.portState n = 1 ∧ (s.lport n).sync = false) ∧
    (let n : Fin 4 := 0;
      let s : State := (((live.setFld (rLnkPortStat n) 28 4 2).setLport 0 { ((live.setFld (rLnkPortStat n) 28 4 2)).lport 0 with sync := true }).setFld (rLnkLaneStat 0) 28 4 1);
      s.training n = true ∧ (s.bonded n).all (fun l => s.laneState l == 1 || s.laneState l == 2) = true) ∧
    (let n : Fin 4 := 0; let heights : List (List Nat) := [List.replicate 16 0];
      let s : State := (((live.setFld (rLnkPortStat n) 28 4 2).setFld (rLnkLaneStat (8 * n)) 28 4 3).setLport 0 { (((live.setFld (rLnkPortStat n) 28 4 2).setFld (rLnkLaneStat (8 * n)) 28 4 3)).lport 0 with sync := true });
      s.training n = true ∧ s.allLanes n 3 = true ∧ Instr.wf (.ctleSweepDone n heights) = true ∧ heights.length = s.lanes n ∧
      (s.bonded n).Nodup) ∧
    (let n : Fin 4 := 0;
      let s : State := (((((live.setFld (rLnkPortStat n) 28 4 2).setFld (rLnkLaneStat (8 * n)) 28 4 3).setFld (rLnkPortCfg n) 26 2 (2 - 1)).setLport n { live.lport n with ctle := true }).setLport 0 { (((((live.setFld (rLnkPortStat n) 28 4 2).setFld (rLnkLaneStat (8 * n)) 28 4 3).setFld (rLnkPortCfg n) 26 2 (2 - 1)).setLport n { live.lport n with ctle := true })).lport 0 with sync := true });
      s.training n = true ∧ s.allLanes n 3 = true ∧ (s.lport n).ctle = true ∧ s.fld (rLnkPortCfg n) 26 2 < 2) ∧
    (let n : Fin 4 := 0;
      let s : State := (((live.setFld (rLnkPortStat n) 28 4 2).setFld (rLnkLaneStat (8 * n)) 28 4 4).setLport 0 { (((live.setFld (rLnkPortStat n) 28 4 2).setFld (rLnkLaneStat (8 * n)) 28 4 4)).lport 0 with sync := true });
      s.training n = true ∧ s.allLanes n 4 = true) ∧
    (let n : Fin 4 := 0; let skew : Nat := 150;
      let s : State := (((live.setFld (rLnkPortStat n) 28 4 2).setFld (rLnkLaneStat (8 * n)) 28 4 5).setLport 0 { (((live.setFld (rLnkPortStat n) 28 4 2).setFld (rLnkLaneStat (8 * n)) 28 4 5)).lport 0 with sync := true });
      s.training n = true ∧ s.allLanes n 5 = true ∧ skew ≤ 150) ∧
    (let n : Fin 4 := 0; let skew : Nat := 151;
      let s : State := (((live.setFld (rLnkPortStat n) 28 4 2).setFld (rLnkLaneStat (8 * n)) 28 4 5).setLport 0 { (((live.setFld (rLnkPortStat n) 28 4 2).setFld (rLnkLaneStat (8 * n)) 28 4 5)).lport 0 with sync := true });
      s.training n = true ∧ s.allLanes n 5 = true ∧ 150 < skew) ∧
    (let n : Fin 4 := 0; let s : State := ((live.setLport n { live.lport n with run := true }).setFld (rLnkPortStat 0) 28 4 1);
      s.inTraining n = true ∧ (s.lport n).run = true) ∧
    (let n : Fin 4 := 0; let s : State := (live.setLport n { live.lport n with tries := 2 }); (s.lport n).tries = 2) ∧
    (let n : Fin 4 := 0; let k : Fin 8 := 0;
      let s : State := ((live.setFld (rLnkPortStat n) 28 4 3).setBit (rLnkPortCtl n) 1 false); s.unitLive 2 (1 + n) = true ∧
      s.portState n = 3 ∧ (s.bonded n).contains (8 * n + k) = true ∧ s.bit (rLnkPortCtl n) 1 = false) ∧
    (let n : Fin 4 := 0; let s : State := ((live.setFld rSvcHpwrStat (4 * n) 4 2).setFld (rLnkPortStat n) 28 4 0);
      s.reaches 2 = true ∧ s.unitLive 2 (1 + n) = true ∧ s.v12On n = true ∧ s.portState n ≠ 3) ∧
    (let n : Fin 4 := 0; let s : State := ((live.setFld rSvcHpwrStat (4 * n) 4 2).setFld (rLnkPortStat n) 28 4 3);
      s.reaches 2 = true ∧ s.unitLive 2 (1 + n) = true ∧ s.v12On n = true ∧ s.portState n = 3) := by
  refine ⟨?_, ?_, ?_, ?_, ?_, ?_, ?_, ?_, ?_, ?_, ?_, ?_, ?_⟩ <;> decide +kernel

theorem witness_CodewordsAndPackets :
    (let l : Fin 32 := 0; let symbols : List Nat := List.replicate 2720 0;
      let s : State := (live.setFld (rLnkLaneStat l) 28 4 4); s.unitLive 2 (16 + l) = true ∧ s.laneState l = 4 ∧
      symbols.length = 2720) ∧
    (let l : Fin 32 := 0; let symbols : List Nat := List.replicate 2720 0; let k : Nat := 0;
      let s : State := ((live.setFld (rLnkLaneStat l) 28 4 6).setLane l { live.lane l with cw := some k });
      s.unitLive 2 (16 + l) = true ∧ s.laneState l = 6 ∧ symbols.length = 2720 ∧ (s.lane l).cw = some k ∧ k ≠ 1023 ∧
      (s.lane l).miss < 4) ∧
    (let n : Fin 4 := 0; let h : List Byte := [1, 0, 0, 0, 0, 0, 0, 0]; let unc : Bool := false;
      let rest : List (List Byte × Bool) := [];
      let s : State := ((live.setFld (rLnkPortStat n) 28 4 3).setLport n { live.lport n with slots := (h, unc) :: rest });
      s.portUp n = true ∧ (s.lport n).slots = (h, unc) :: rest ∧ h.all (· == 0#8) = false ∧ crc8 (h.take 7) ≠ leAt h 7 1) ∧
    (let n : Fin 4 := 0; let h : List Byte := [0, 8, 0, 0, 0, 0, 0, BitVec.ofNat 8 (crc8 [0, 8, 0, 0, 0, 0, 0])];
      let rest : List (List Byte × Bool) := [];
      let s : State := ((live.setFld (rLnkPortStat n) 28 4 3).setLport n { live.lport n with slots := (h, false) :: rest });
      s.portUp n = true ∧ (s.lport n).slots = (h, false) :: rest ∧ h.all (· == 0#8) = false ∧ crc8 (h.take 7) = leAt h 7 1 ∧
      0x08 ≤ leAt h 1 1 ∧ leAt h 1 1 ≤ 0x0C ∧ s.strDecl (n * 16 + leAt h 0 1 / 16) = true) ∧
    (let n : Fin 4 := 0; let s : State := (live.setFld (rLnkPortStat n) 28 4 0); s.portUp n = false) := by
  refine ⟨?_, ?_, ?_, ?_, ?_⟩ <;> decide +kernel

theorem witness_AdaptationAndEyeScan :
    (let l : Fin 32 := 0; let signE : Int := 0; let signD : List Int := [];
      let s : State := ((live.setFld (rLnkLaneStat l) 28 4 6).setBit (rLnkLaneEq l) 8 false); s.unitLive 2 (16 + l) = true ∧
      s.laneState l = 6 ∧ s.bit (rLnkLaneEq l) 8 = false ∧ Instr.wf (.dfeUpdate l signE signD) = true) ∧
    (let l : Fin 32 := 0; let s : State := (live.setFld (rLnkLaneStat l) 28 4 0);
      (s.laneState l ≠ 6 ∨ s.bit (rLnkLaneEq l) 8 = true)) ∧
    (let l : Fin 32 := 0; let s : State := ((live.setFld (rLnkLaneStat l) 28 4 6).setFld (rLnkLaneEsstat l) 28 4 0);
      s.reaches 2 = true ∧ s.unitLive 2 (16 + l) = true ∧ s.laneState l = 6 ∧ s.fld (rLnkLaneEsstat l) 28 4 ≠ 1) ∧
    (let l : Fin 32 := 0; let s : State := ((live.setFld (rLnkLaneStat l) 28 4 0).setFld (rLnkLaneEsstat l) 28 4 0);
      s.reaches 2 = true ∧ s.unitLive 2 (16 + l) = true ∧ s.laneState l ≠ 6 ∧ s.fld (rLnkLaneEsstat l) 28 4 ≠ 1) ∧
    (let l : Fin 32 := 0; let s : State := (live.setFld (rLnkLaneEsstat l) 28 4 1); s.reaches 2 = true ∧
      s.unitLive 2 (16 + l) = true ∧ s.fld (rLnkLaneEsstat l) 28 4 = 1) ∧
    (let l : Fin 32 := 0;
      let s : State := (((live.setFld (rLnkLaneEsstat l) 28 4 1).setFld (rLnkLaneEsstat l) 0 14 (8192 - 1)).setFld (rLnkLaneEsstat l) 0 14 126);
      s.unitLive 2 (16 + l) = true ∧ s.fld (rLnkLaneEsstat l) 28 4 = 1 ∧
      s.fld (rLnkLaneEsstat l) 0 14 % 128 + 2 ^ s.fld (rLnkLaneEsctl l) 0 2 < 128 ∧ s.fld (rLnkLaneEsstat l) 0 14 < 8192) ∧
    (let l : Fin 32 := 0; let s : State := (((live.setFld (rLnkLaneEsstat l) 28 4 1).setFld (rLnkLaneEsstat l) 0 14 8191));
      s.unitLive 2 (16 + l) = true ∧ s.fld (rLnkLaneEsstat l) 28 4 = 1 ∧
      128 ≤ s.fld (rLnkLaneEsstat l) 0 14 % 128 + 2 ^ s.fld (rLnkLaneEsctl l) 0 2 ∧
      64 ≤ s.fld (rLnkLaneEsstat l) 0 14 / 128 + 2 ^ s.fld (rLnkLaneEsctl l) 2 2) := by
  refine ⟨?_, ?_, ?_, ?_, ?_, ?_, ?_⟩ <;> decide +kernel

theorem witness_HeadControl :
    (let n : Fin 4 := 0; let s : State := ((live.setFld (rLnkHcStat n) 28 4 0).setLport n { live.lport n with sync := true });
      s.reaches 2 = true ∧ s.unitLive 2 (1 + n) = true ∧ s.fld (rLnkHcStat n) 28 4 ≠ 1 ∧ (s.lport n).sync = true) ∧
    (let n : Fin 4 := 0; let s : State := ((live.setFld (rLnkHcStat n) 28 4 0).setLport n { live.lport n with sync := true });
      s.reaches 2 = true ∧ s.unitLive 2 (1 + n) = true ∧ s.fld (rLnkHcStat n) 28 4 ≠ 1 ∧ (s.lport n).sync = true) ∧
    (let n : Fin 4 := 0; let s : State := ((live.setFld (rLnkHcStat n) 28 4 0).setLport n { live.lport n with sync := false });
      s.reaches 2 = true ∧ s.unitLive 2 (1 + n) = true ∧ s.fld (rLnkHcStat n) 28 4 ≠ 1 ∧ (s.lport n).sync = false) ∧
    (let n : Nat := 0;
      let s : State := (live.setLport n { live.lport n with sync := true, cur := none, rdyEpoch := none, rdyTrain := [], rdyHost := some false });
      (s.lport n).sync = true ∧ (s.lport n).cur = none ∧ (s.lport n).rdyEpoch = none ∧ (s.lport n).rdyTrain = [] ∧
      (s.lport n).rdyHost = some false) ∧
    (let n : Fin 4 := 0;
      let bytes : List Byte := (let b : List Byte := ([0x81, 0] ++ leBytes 2 ([] : List Byte).length ++ [0, 0, 0, 0] ++ []); b ++ leBytes 2 (crc16 b));
      let r : CtlReq := ⟨1, 0, 0, [], 0⟩; let k : Nat := 0;
      let s : State := (live.setLport n { live.lport n with sync := true, cur := some (r, k) }); s.unitLive 2 (1 + n) = true ∧
      (s.lport n).sync = true ∧ ctlBad bytes true = false ∧ leAt bytes 0 1 = 0x81 ∧ leAt bytes 2 2 = 0 ∧
      (s.lport n).cur = some (r, k) ∧ r.tag = leAt bytes 1 1 ∧ r.cmd = 1) ∧
    (let n : Fin 4 := 0;
      let bytes : List Byte := (let b : List Byte := ([0x82, 0] ++ leBytes 2 ([] : List Byte).length ++ [0, 0, 0, 0] ++ []); b ++ leBytes 2 (crc16 b));
      let r : CtlReq := ⟨2, 0, 0, [], 0⟩; let k : Nat := 0;
      let s : State := (live.setLport n { live.lport n with sync := true, cur := some (r, k) }); s.unitLive 2 (1 + n) = true ∧
      (s.lport n).sync = true ∧ ctlBad bytes true = false ∧ leAt bytes 0 1 = 0x82 ∧ (s.lport n).cur = some (r, k) ∧
      r.tag = leAt bytes 1 1 ∧ r.cmd = 2 ∧ leAt bytes 2 2 = r.len) ∧
    (let n : Fin 4 := 0;
      let bytes : List Byte := (let b : List Byte := ([0x90, 0] ++ leBytes 2 ([] : List Byte).length ++ [1, 0, 0, 0] ++ []); b ++ leBytes 2 (crc16 b));
      let r : CtlReq := ⟨0x10, 0, 0, [], 0⟩; let k : Nat := 0;
      let s : State := (live.setLport n { live.lport n with sync := true, cur := some (r, k) }); s.unitLive 2 (1 + n) = true ∧
      (s.lport n).sync = true ∧ ctlBad bytes true = false ∧ leAt bytes 0 1 = 0x90 ∧ (s.lport n).cur = some (r, k) ∧
      r.tag = leAt bytes 1 1 ∧ r.cmd = 0x10 ∧ leAt bytes 4 4 ≠ 0) ∧
    (let n : Fin 4 := 0;
      let bytes : List Byte := (let b : List Byte := ([0x90, 0] ++ leBytes 2 ([] : List Byte).length ++ [0, 0, 0, 0] ++ []); b ++ leBytes 2 (crc16 b));
      let r : CtlReq := ⟨0x10, 0, 0, [], 0⟩; let k : Nat := 0;
      let s : State := (live.setLport n { live.lport n with sync := true, cur := some (r, k) }); s.unitLive 2 (1 + n) = true ∧
      (s.lport n).sync = true ∧ ctlBad bytes true = false ∧ leAt bytes 0 1 = 0x90 ∧ (s.lport n).cur = some (r, k) ∧
      r.tag = leAt bytes 1 1 ∧ r.cmd = 0x10 ∧ leAt bytes 4 4 = 0) ∧
    (let n : Fin 4 := 0;
      let bytes : List Byte := (let b : List Byte := ([0x91, 0] ++ leBytes 2 ((List.replicate 4 0) : List Byte).length ++ [0, 0, 0, 0] ++ (List.replicate 4 0)); b ++ leBytes 2 (crc16 b));
      let r : CtlReq := ⟨0x11, 0, 0, [], 0⟩; let k : Nat := 0;
      let s : State := (live.setLport n { live.lport n with sync := true, cur := some (r, k) }); s.unitLive 2 (1 + n) = true ∧
      (s.lport n).sync = true ∧ ctlBad bytes true = false ∧ leAt bytes 0 1 = 0x91 ∧ leAt bytes 2 2 = 4 ∧
      (s.lport n).cur = some (r, k) ∧ r.tag = leAt bytes 1 1 ∧ r.cmd = 0x11) ∧
    (let n : Fin 4 := 0;
      let bytes : List Byte := (let b : List Byte := ([0xEE, 0] ++ leBytes 2 ((List.replicate 4 0) : List Byte).length ++ [0, 0, 0, 0] ++ (List.replicate 4 0)); b ++ leBytes 2 (crc16 b));
      let r : CtlReq := ⟨2, 0, 0, [], 0⟩; let k : Nat := 0;
      let s : State := (live.setLport n { live.lport n with sync := true, cur := some (r, k) }); s.unitLive 2 (1 + n) = true ∧
      (s.lport n).sync = true ∧ ctlBad bytes true = false ∧ leAt bytes 0 1 = 0xEE ∧ 4 ≤ leAt bytes 2 2 ∧
      (s.lport n).cur = some (r, k) ∧ r.tag = leAt bytes 1 1 ∧ (r.cmd = 1 ∨ r.cmd = 2)) ∧
    (let n : Fin 4 := 0;
      let bytes : List Byte := (let b : List Byte := ([0xC0, 0] ++ leBytes 2 ((List.replicate 16 0) : List Byte).length ++ [0, 0, 0, 0] ++ (List.replicate 16 0)); b ++ leBytes 2 (crc16 b));
      let s : State := (live.setLport n { live.lport n with sync := true }); s.unitLive 2 (1 + n) = true ∧
      (s.lport n).sync = true ∧ ctlBad bytes true = false ∧ leAt bytes 0 1 = 0xC0 ∧ leAt bytes 2 2 ≤ 16) ∧
    (let n : Fin 4 := 0; let bytes : List Byte := []; let s : State := (live.setLport n { live.lport n with sync := true });
      s.unitLive 2 (1 + n) = true ∧ (s.lport n).sync = true ∧ ctlBad bytes true = true) ∧
    (let n : Fin 4 := 0; let r : CtlReq := ⟨0, 0, 0, [], 0⟩; let k : Nat := 0;
      let s : State := (live.setLport n { live.lport n with cur := some (r, k) }); (s.lport n).cur = some (r, k) ∧ k < 2) ∧
    (let n : Fin 4 := 0; let r : CtlReq := ⟨2, 0, 0, [], 0⟩; let k : Nat := 2;
      let s : State := (live.setLport n { live.lport n with cur := some (r, k) }); (s.lport n).cur = some (r, k) ∧ 2 ≤ k ∧
      (r.cmd = 1 ∨ r.cmd = 2)) := by
  refine ⟨?_, ?_, ?_, ?_, ?_, ?_, ?_, ?_, ?_, ?_, ?_, ?_, ?_, ?_⟩ <;> decide +kernel

theorem witness_FrameIngest :
    (let n : Fin 4 := 0; let p : Pkt := { P0 with dt := 0x08 }; let rest : List Pkt := [];
      let s : State := (live.setLport n { live.lport n with inbox := p :: rest }); s.unitLive 3 (1 + n) = true ∧
      s.unitLive 3 8 = true ∧ (s.lport n).inbox = p :: rest ∧ p.dt = 0x08 ∧ s.openFrame (n * 16 + p.vc) = none ∧
      (s.outstanding n).find? (fun e => e.count == (p.wc * 256 + p.fcnt) % 2 ^ 24) = none) ∧
    (let n : Fin 4 := 0; let p : Pkt := { P0 with dt := 0x08 }; let rest : List Pkt := [];
      let e : Entry := { E0 with kind := 0 };
      let s : State := ((live.setLport n { live.lport n with inbox := p :: rest }).setPart 0 { live.part 0 with entries := [e] });
      s.unitLive 3 (1 + n) = true ∧ s.unitLive 3 8 = true ∧ (s.lport n).inbox = p :: rest ∧ p.dt = 0x08 ∧
      s.openFrame (n * 16 + p.vc) = none ∧ s.outstanding n = [e] ∧ e.count = (p.wc * 256 + p.fcnt) % 2 ^ 24) ∧
    (let n : Fin 4 := 0; let p : Pkt := { P0 with dt := 0x08 }; let rest : List Pkt := []; let f : Frame := F0;
      let s : State := ({ (live.setLport n { live.lport n with inbox := p :: rest }) with ing := { live.ing with frames := [f] } } : State);
      let u : State := (s.setLport n { s.lport n with inbox := rest }).closeFrame f (flag 12); s.unitLive 3 (1 + n) = true ∧
      s.unitLive 3 8 = true ∧ (s.lport n).inbox = p :: rest ∧ p.dt = 0x08 ∧ s.openFrame (n * 16 + p.vc) = some f ∧
      (u.outstanding n).find? (fun e => e.count == (p.wc * 256 + p.fcnt) % 2 ^ 24) = none) ∧
    (let n : Fin 4 := 0; let p : Pkt := { P0 with dt := 0x0C }; let rest : List Pkt := []; let f : Frame := F0;
      let s : State := ({ (live.setLport n { live.lport n with inbox := p :: rest }) with ing := { live.ing with frames := [f] } } : State);
      s.unitLive 3 (1 + n) = true ∧ s.unitLive 3 8 = true ∧ (s.lport n).inbox = p :: rest ∧ p.dt = 0x0C ∧
      s.ing.unsol.getLsbD (n * 16 + p.vc) = false ∧ s.openFrame (n * 16 + p.vc) = some f ∧ f.epoch = none) ∧
    (let n : Fin 4 := 0; let p : Pkt := { P0 with dt := 0x0C }; let rest : List Pkt := [];
      let f : Frame := { F0 with epoch := some 1 };
      let s : State := ({ (live.setLport n { live.lport n with inbox := p :: rest }) with ing := { live.ing with frames := [f] } } : State);
      s.unitLive 3 (1 + n) = true ∧ s.unitLive 3 8 = true ∧ (s.lport n).inbox = p :: rest ∧ p.dt = 0x0C ∧
      s.ing.unsol.getLsbD (n * 16 + p.vc) = false ∧ s.openFrame (n * 16 + p.vc) = some f ∧ f.epoch ≠ none) ∧
    (let n : Fin 4 := 0; let p : Pkt := { P0 with dt := 0x43 }; let rest : List Pkt := [];
      let s : State := (live.setLport n { live.lport n with inbox := p :: rest }); s.unitLive 3 (1 + n) = true ∧
      s.unitLive 3 8 = true ∧ (s.lport n).inbox = p :: rest ∧ 0x40 ≤ p.dt ∧ p.dt ≤ 0x43 ∧
      s.ing.unsol.getLsbD (n * 16 + p.vc) = false ∧ s.openFrame (n * 16 + p.vc) = none) ∧
    (let n : Fin 4 := 0; let p : Pkt := { P0 with dt := 0x40, fcnt := 1 }; let rest : List Pkt := []; let f : Frame := F0;
      let s : State := ({ (live.setLport n { live.lport n with inbox := p :: rest }) with ing := { live.ing with frames := [f] } } : State);
      s.unitLive 3 (1 + n) = true ∧ s.unitLive 3 8 = true ∧ (s.lport n).inbox = p :: rest ∧ 0x40 ≤ p.dt ∧ p.dt ≤ 0x43 ∧
      s.ing.unsol.getLsbD (n * 16 + p.vc) = false ∧ s.openFrame (n * 16 + p.vc) = some f ∧ p.fcnt ≠ f.count % 256) ∧
    (let n : Fin 4 := 0; let p : Pkt := { P0 with dt := 0x43 }; let rest : List Pkt := []; let f : Frame := F0;
      let s : State := (({ (live.setLport n { live.lport n with inbox := p :: rest }) with ing := { live.ing with frames := [f] } } : State).setFld (rIngStrFmt 0) 0 2 0);
      s.unitLive 3 (1 + n) = true ∧ s.unitLive 3 8 = true ∧ (s.lport n).inbox = p :: rest ∧ 0x40 ≤ p.dt ∧ p.dt ≤ 0x43 ∧
      s.ing.unsol.getLsbD (n * 16 + p.vc) = false ∧ s.openFrame (n * 16 + p.vc) = some f ∧ p.fcnt = f.count % 256 ∧
      p.dt ≠ 0x40 + s.fld (rIngStrFmt f.stream) 0 2) ∧
    (let n : Fin 4 := 0; let p : Pkt := { P0 with dt := 0x40, line := 32 }; let rest : List Pkt := []; let f : Frame := F0;
      let s : State := (({ (live.setLport n { live.lport n with inbox := p :: rest }) with ing := { live.ing with frames := [f] } } : State).setFld (rIngStrFmt 0) 0 2 0);
      s.unitLive 3 (1 + n) = true ∧ s.unitLive 3 8 = true ∧ (s.lport n).inbox = p :: rest ∧ 0x40 ≤ p.dt ∧ p.dt ≤ 0x43 ∧
      s.ing.unsol.getLsbD (n * 16 + p.vc) = false ∧ s.openFrame (n * 16 + p.vc) = some f ∧ p.fcnt = f.count % 256 ∧
      p.dt = 0x40 + s.fld (rIngStrFmt f.stream) 0 2 ∧ (s.strH f.stream ≤ p.line ∨ p.line < f.e)) ∧
    (let n : Fin 4 := 0; let p : Pkt := { P0 with dt := 0x40 }; let rest : List Pkt := []; let f : Frame := F0;
      let s : State := (({ (live.setLport n { live.lport n with inbox := p :: rest }) with ing := { live.ing with frames := [f] } } : State).setFld (rIngStrFmt 0) 0 2 0);
      s.unitLive 3 (1 + n) = true ∧ s.unitLive 3 8 = true ∧ (s.lport n).inbox = p :: rest ∧ 0x40 ≤ p.dt ∧ p.dt ≤ 0x43 ∧
      s.ing.unsol.getLsbD (n * 16 + p.vc) = false ∧ s.openFrame (n * 16 + p.vc) = some f ∧ p.fcnt = f.count % 256 ∧
      p.dt = 0x40 + s.fld (rIngStrFmt f.stream) 0 2 ∧ p.line < s.strH f.stream ∧ f.e ≤ p.line) ∧
    (let n : Fin 4 := 0; let p : Pkt := { P0 with dt := 0x40, payload := List.replicate (live.lineBytes 0) 0 };
      let rest : List Pkt := []; let f : Frame := { F0 with epoch := some 1 };
      let s : State := (({ (live.setLport n { live.lport n with inbox := p :: rest }) with ing := { live.ing with frames := [f] } } : State).setFld (rIngStrFmt 0) 0 2 0);
      s.unitLive 3 (1 + n) = true ∧ s.unitLive 3 8 = true ∧ (s.lport n).inbox = p :: rest ∧ 0x40 ≤ p.dt ∧ p.dt ≤ 0x43 ∧
      s.ing.unsol.getLsbD (n * 16 + p.vc) = false ∧ s.openFrame (n * 16 + p.vc) = some f ∧ p.vc < 16 ∧ p.fcnt = f.count % 256 ∧
      p.dt = 0x40 + s.fld (rIngStrFmt f.stream) 0 2 ∧ p.line < s.strH f.stream ∧ f.e = p.line ∧ f.epoch ≠ none ∧
      s.wrLayout f < 2 ∧ p.payload.length = s.lineBytes f.stream ∧ (p.crcErr || p.fec || p.trunc) = false ∧
      s.occupancy (s.pool n) + s.lineBytes f.stream ≤ capacity (s.pool n)) ∧
    (let n : Fin 4 := 0; let p : Pkt := { P0 with dt := 0x50 }; let rest : List Pkt := []; let f : Frame := F0;
      let s : State := ((live.setLport n { live.lport n with inbox := p :: rest }).setFld (rIngStrFmt 0) 10 2 1).withFramesT [f];
      s.unitLive 3 (1 + n) = true ∧ s.unitLive 3 8 = true ∧ (s.lport n).inbox = p :: rest ∧ p.dt = 0x50 ∧
      s.ing.unsol.getLsbD (n * 16 + p.vc) = false ∧ s.openFrame (n * 16 + p.vc) = some f ∧ f.mdFull = false ∧
      p.payload.length % 4 = 0 ∧ f.md.length + 4 + p.payload.length ≤ s.strMeta f.stream) ∧
    (let n : Fin 4 := 0; let p : Pkt := { P0 with dt := 0x51 }; let rest : List Pkt := [];
      let s : State := (live.setLport n { live.lport n with inbox := p :: rest }); s.unitLive 3 (1 + n) = true ∧
      s.unitLive 3 8 = true ∧ (s.lport n).inbox = p :: rest ∧ p.dt = 0x51) ∧
    (let n : Fin 4 := 0; let p : Pkt := { P0 with dt := 0x09 }; let rest : List Pkt := []; let f : Frame := F0;
      let s : State := ({ (live.setLport n { live.lport n with inbox := p :: rest }) with ing := { live.ing with frames := [f] } } : State);
      s.unitLive 3 (1 + n) = true ∧ s.unitLive 3 8 = true ∧ (s.lport n).inbox = p :: rest ∧ p.dt = 0x09 ∧
      s.ing.unsol.getLsbD (n * 16 + p.vc) = false ∧ s.openFrame (n * 16 + p.vc) = some f) ∧
    (let n : Nat := 0; let s : State := (live.setLport n { live.lport n with inbox := [] }); (s.lport n).inbox = []) ∧
    (let n : Fin 4 := 0; let e : Entry := { E0 with kind := 0 }; let l : List Entry := [];
      let s : State := (live.setPart 0 { live.part 0 with entries := [e] }); s.unitLive 3 (1 + n) = true ∧
      s.outstanding n = e :: l) ∧
    (let stream : Fin 64 := 0; let f : Frame := F0;
      let s : State := ({ live with ing := { live.ing with frames := [f] } } : State); s.unitLive 3 8 = true ∧
      s.ing.frames.find? (fun f => f.open_ && f.stream == stream.val) = some f) ∧
    (let stream : Fin 64 := 0; let s : State := live; s.tapNext stream = none) ∧
    (let stream : Fin 64 := 0; let f : Frame := { F0 with open_ := false };
      let s : State := ({ live with ing := { live.ing with frames := [f] } } : State); s.tapNext stream = some f) ∧
    (let g : Fin 2 := 0; let v : Word := 1; let s : State := (live.setFld (rIngGrpCfg g) 0 4 1); s.reaches 3 = true ∧
      s.unitLive 3 8 = true ∧ fget v 0 4 ≠ 0 ∧ fget v 0 4 &&& s.fld (rIngGrpCfg g) 0 4 = fget v 0 4 ∧
      (s.grpStr g).all (fun i => s.strLayout i != 2) = true) ∧
    (let g : Fin 2 := 0; let v : Word := BitVec.ofNat 32 ((0 : Nat) <<< 0); let s : State := live; s.reaches 3 = true ∧
      s.unitLive 3 8 = true ∧ (fget v 0 4 = 0 ∨ fget v 0 4 &&& s.fld (rIngGrpCfg g) 0 4 ≠ fget v 0 4)) := by
  refine ⟨?_, ?_, ?_, ?_, ?_, ?_, ?_, ?_, ?_, ?_, ?_, ?_, ?_, ?_, ?_, ?_, ?_, ?_, ?_, ?_, ?_⟩ <;> decide +kernel

theorem witness_CompareEntries :
    (let t : Fin 8 := 0; let s : State := live; s.reaches 4 = true ∧ s.unitLive 4 (2 + t) = true) ∧
    (let t : Nat := 0; let s : State := live;
      let b : List Byte := List.replicate 20 0 ++ [5, 0, 0, 0x80] ++ List.replicate 8 0;
      let c : CmpEnt := { CmpEnt.init with value := BitVec.ofNat 64 (leAt b 0 8), incr := leAt b 8 6, rep := leAt b 16 4, ctrl := BitVec.ofNat 32 (leAt b 20 4), offset := BitVec.ofNat 32 (leAt b 24 4), param := BitVec.ofNat 32 (leAt b 28 4) };
      s.entBad t c = true) ∧
    (let t : Fin 8 := 0; let s : State := live; s.reaches 4 = true ∧ s.unitLive 4 (2 + t) = true) ∧
    (let t : Fin 8 := 0; let e : Fin 4096 := 0; let rising : Bool := false; let s : State := live;
      (s.entLive t e = false ∨ (s.cmpEnt t e).rearm ≠ none ∨ (s.cmpEnt t e).permits rising = false)) ∧
    (let t : Fin 8 := 0; let rising : Bool := false; let s : State := live; s.axDir (s.tblAxis t) = some (!rising)) ∧
    (let t : Fin 8 := 0; let e : Fin 4096 := 0;
      let s : State := ((((live.setCmp t e { live.cmpEnt t e with rearm := none }).setCmp 0 0 { live.cmpEnt 0 0 with ctrl := 0x80000101#32 }).setFld (rSchTblCfg 0) 31 1 1).setFld (rSchTblCfg 0) 16 3 0);
      s.entLive t e = true ∧ (s.cmpEnt t e).rearm = none ∧ (s.cmpEnt t e).permits true = true ∧ s.tblAxis t = 0) ∧
    (let t : Nat := 0; let e : Nat := 0; let tx : Int := 10 ^ 20; let c : CmpEnt := CmpEnt.init;
      let s : State := (live.setCmp t e (c)); s.cmpEnt t e = c ∧ c.incr = 0 ∧ c.rep = 0 ∧
      s.nowTu + commitTu ≤ tx + offTu c.offset - s.leadOf c.action c.heads ∧
      s.sch.acts.countP (fun a => a.ta / (tuPerNs : Int) == (tx + offTu c.offset) / (tuPerNs : Int)) < 8) ∧
    (let t : Nat := 0; let e : Nat := 0; let tx : Int := 0; let c : CmpEnt := CmpEnt.init;
      let s : State := (live.setCmp t e (c)); s.cmpEnt t e = c ∧ c.incr = 0 ∧ c.rep = 0 ∧
      tx + offTu c.offset - s.leadOf c.action c.heads < s.nowTu + commitTu ∧
      s.sch.acts.countP (fun a => a.ta / (tuPerNs : Int) == (s.nowTu + commitTu + s.leadOf c.action c.heads) / (tuPerNs : Int)) < 8) ∧
    (let t : Fin 8 := 0; let e : Fin 4096 := 0; let a : Act := { A0 with committed := false, late := true };
      let s : State := ({ live with sch := { live.sch with acts := [a] } } : State);
      let l : List Act := (s.repredict (s.tblAxis t)).sch.acts;
      l.find? (fun a => a.t == t.val && a.e == e.val && !a.committed && !a.wait) = some a ∧
      (a.late = true ∨ s.nowTu + commitTu ≤ a.ta - s.leadOf a.kind a.heads) ∧ l.countP (fun b => b.cycle == a.cycle) ≤ 8) ∧
    (let t : Fin 8 := 0; let e : Fin 4096 := 0; let a : Act := { A0 with committed := false };
      let s : State := ({ live with sch := { live.sch with acts := [a] } } : State);
      let l : List Act := (s.repredict (s.tblAxis t)).sch.acts; let x : Int := s.nowTu + commitTu + s.leadOf a.kind a.heads;
      l.find? (fun a => a.t == t.val && a.e == e.val && !a.committed && !a.wait) = some a ∧ a.late = false ∧
      a.ta - s.leadOf a.kind a.heads < s.nowTu + commitTu ∧ l.countP (fun b => b.cycle == x / (tuPerNs : Int)) < 8) ∧
    (let t : Fin 8 := 0; let e : Fin 4096 := 0; let s : State := live;
      (s.repredict (s.tblAxis t)).sch.acts.find? (fun a => a.t == t.val && a.e == e.val && !a.committed && !a.wait) = none) ∧
    (let t : Fin 8 := 0; let s : State := live; s.unitLive 4 (2 + t) = true ∧
      s.ch.tasks.any (fun k => k.input == 0x088 + t.val && k.cyc == s.taskCyc (s.takeTask (0x080 + t)).2) = false ∧
      s.tblDis t ≠ s.taskCyc (s.takeTask (0x080 + t)).2 + 1) ∧
    (let t : Fin 8 := 0;
      let s : State := ({ live with ch := { live.ch with tasks := [⟨0x088, 0, 0, 5000000000, []⟩], set := [] } } : State);
      s.unitLive 4 (2 + t) = true ∧
      (s.ch.tasks.any (fun k => k.input == 0x088 + t.val && k.cyc == s.taskCyc (s.takeTask (0x080 + t)).2) = true ∨ s.tblDis t = s.taskCyc (s.takeTask (0x080 + t)).2 + 1)) ∧
    (let t : Fin 8 := 0; let s : State := live; s.unitLive 4 (2 + t) = true) := by
  refine ⟨?_, ?_, ?_, ?_, ?_, ?_, ?_, ?_, ?_, ?_, ?_, ?_, ?_, ?_⟩ <;> decide +kernel

theorem witness_Actions :
    (let t : Fin 8 := 0; let e : Fin 4096 := 0; let s : State := live;
      s.sch.acts.find? (fun a => a.t == t.val && a.e == e.val && a.kind == 1) = none) ∧
    (let t : Nat := 0; let e : Nat := 0; let k : Nat := 0; let a : Act := A0;
      let s : State := ({ live with sch := { live.sch with acts := [a] } } : State); s.unitLive 4 1 = true ∧
      s.unitLive 4 (2 + t) = true ∧ s.sch.acts.find? (fun a => a.t == t && a.e == e && a.kind == k && !a.wait) = some a ∧
      (∀ b ∈ s.sch.acts, b.cycle = a.cycle → b.before a = false)) ∧
    (let t : Nat := 0; let s : State := (live.setFence 4 1 true); (s.unitLive 4 1 = false ∨ s.unitLive 4 (2 + t) = false)) ∧
    (let t : Fin 8 := 0; let e : Fin 4096 := 0; let a : Act := { A0 with kind := 1, heads := 1, param := 0 }; let i : Nat := 0;
      let n : Nat := 0; let s : State := ({ live with sch := { live.sch with acts := [a] } } : State);
      let u : State := { s with sch := { s.sch with acts := [] } }; s.takeAct t e 1 = some (a, u) ∧
      u.namedStrs a.heads = [(i, n)]) ∧
    (let i : Nat := 0; let s : State := (live.setFld (rSchStrStat i) 28 4 0); s.unitLive 4 20 = true ∧ s.armed i = false) ∧
    (let i : Nat := 0; let n : Nat := 0;
      let s : State := (((({ live with pwr := { live.pwr with loss := 0 }, aud := { live.aud with safe := 0 } } : State).setFld (rSchStrStat i) 28 4 1).setFld rHstPwr 0 3 0).setFld (rLnkPortStat n) 28 4 0);
      s.unitLive 4 20 = true ∧ s.armed i = true ∧ s.fld rHstPwr 0 3 ≠ 1 ∧ s.pwr.loss = 0 ∧ s.aud.safe = 0 ∧ s.released = true ∧
      s.grpOfStr i = none ∧ s.unitLive 4 (16 + n) = true ∧ s.fenced 2 (1 + n) = false ∧ s.fenced 3 (1 + n) = false ∧
      s.portUp n = false) ∧
    (let i : Nat := 0; let n : Nat := 0; let ts : Int := 0;
      let s : State := ((((({ live with pwr := { live.pwr with loss := 0 }, aud := { live.aud with safe := 0 } } : State).setFld (rSchStrStat i) 28 4 1).setFld rHstPwr 0 3 0).setFld (rLnkPortStat n) 28 4 3).setSchHead 0 { live.schHead 0 with rises := [0] });
      s.unitLive 4 20 = true ∧ s.armed i = true ∧ s.fld rHstPwr 0 3 ≠ 1 ∧ s.pwr.loss = 0 ∧ s.aud.safe = 0 ∧ s.released = true ∧
      s.grpOfStr i = none ∧ s.unitLive 4 (16 + n) = true ∧ s.fenced 2 (1 + n) = false ∧ s.fenced 3 (1 + n) = false ∧
      s.portUp n = true ∧ (∃ r ∈ (s.schHead n).rises, (r - (s.trgEdges n 0 ts).1).natAbs < 200 * tuPerNs)) ∧
    (let i : Nat := 0; let n : Nat := 0; let ts : Int := 0;
      let s : State := (((((({ live with pwr := { live.pwr with loss := 0 }, aud := { live.aud with safe := 0 } } : State).setFld (rSchStrStat i) 28 4 1).setFld rHstPwr 0 3 0).setFld (rLnkPortStat n) 28 4 3).setBit (rSchHdTrg n) 31 false).setSchStr i { live.schStr i with last := none, tmin := 0 });
      s.unitLive 4 20 = true ∧ s.armed i = true ∧ s.fld rHstPwr 0 3 ≠ 1 ∧ s.pwr.loss = 0 ∧ s.aud.safe = 0 ∧ s.released = true ∧
      s.grpOfStr i = none ∧ s.unitLive 4 (16 + n) = true ∧ s.fenced 2 (1 + n) = false ∧ s.fenced 3 (1 + n) = false ∧
      s.portUp n = true ∧ (∀ r ∈ (s.schHead n).rises, 200 * tuPerNs ≤ (r - (s.trgEdges n 0 ts).1).natAbs) ∧
      (s.schStr i).last = none ∧ (s.schStr i).tmin = 0 ∧ s.bit (rSchHdTrg n) 31 = false ∧ (s.outstanding n).length < 64) ∧
    (let n : Nat := 0; let s : State := (live.setBit (rSchHdTrg n) 31 false); s.bit (rSchHdTrg n) 31 = false) ∧
    (let t : Fin 8 := 0; let e : Fin 4096 := 0; let a : Act := { A0 with kind := 2, heads := 0, param := 0 };
      let s : State := ({ live with sch := { live.sch with acts := [a] } } : State);
      let u : State := { s with sch := { s.sch with acts := [] } }; s.takeAct t e 2 = some (a, u) ∧ u.strobesOn = true ∧
      u.strobe (a.ch % 8) = ⟨none, none⟩) ∧
    (let t : Fin 8 := 0; let e : Fin 4096 := 0; let a : Act := { A0 with kind := 2, heads := 0, param := 0 }; let x : Int := 0;
      let s : State := (({ live with sch := { live.sch with acts := [a] } } : State).setStrobe 0 ⟨some x, none⟩);
      let u : State := { s with sch := { s.sch with acts := [] } }; s.takeAct t e 2 = some (a, u) ∧ u.strobesOn = true ∧
      u.strobe (a.ch % 8) = ⟨some x, none⟩) ∧
    (let t : Fin 8 := 0; let e : Fin 4096 := 0; let a : Act := { A0 with kind := 3, heads := 1, param := 1 }; let i : Nat := 0;
      let n : Nat := 0; let s : State := ({ live with sch := { live.sch with acts := [a] } } : State);
      let u : State := { s with sch := { s.sch with acts := [] } }; s.takeAct t e 3 = some (a, u) ∧
      u.markStrs a.heads = [(i, n)] ∧ fget a.param 0 8 = 1) ∧
    (let t : Fin 8 := 0; let e : Fin 4096 := 0; let a : Act := { A0 with kind := 3, heads := 1, param := 2 }; let i : Nat := 0;
      let n : Nat := 0; let s : State := ({ live with sch := { live.sch with acts := [a] } } : State);
      let u : State := { s with sch := { s.sch with acts := [] } }; s.takeAct t e 3 = some (a, u) ∧
      u.markStrs a.heads = [(i, n)] ∧ fget a.param 0 8 = 2) ∧
    (let t : Fin 8 := 0; let e : Fin 4096 := 0; let a : Act := { A0 with kind := 3, heads := 1, param := 0 }; let i : Nat := 0;
      let n : Nat := 0; let s : State := ({ live with sch := { live.sch with acts := [a] } } : State);
      let u : State := { s with sch := { s.sch with acts := [] } }; s.takeAct t e 3 = some (a, u) ∧
      u.markStrs a.heads = [(i, n)] ∧ fget a.param 0 8 = 0) ∧
    (let t : Fin 8 := 0; let e : Fin 4096 := 0; let a : Act := { A0 with kind := 4, heads := 0, param := 0 };
      let s : State := ({ live with sch := { live.sch with acts := [a] } } : State);
      let u : State := { s with sch := { s.sch with acts := [] } }; s.takeAct t e 4 = some (a, u)) ∧
    (let v : Word := 0; let s : State := live; s.reaches 4 = true ∧ s.unitLive 4 1 = true ∧
      (∀ n : Fin 4, v.getLsbD n = true → s.unitLive 4 (16 + n) = true ∧ s.bit (rSchHdEpstat n) 31 = false)) ∧
    (let n : Fin 4 := 0; let v : Word := BitVec.ofNat 32 (1 <<< (n : Nat));
      let s : State := (live.setBit (rSchHdEpstat n) 31 true); s.reaches 4 = true ∧ s.unitLive 4 1 = true ∧
      v.getLsbD n = true ∧ s.unitLive 4 (16 + n) = true ∧ s.bit (rSchHdEpstat n) 31 = true) := by
  refine ⟨?_, ?_, ?_, ?_, ?_, ?_, ?_, ?_, ?_, ?_, ?_, ?_, ?_, ?_, ?_, ?_, ?_⟩ <;> decide +kernel

theorem witness_StreamWindows :
    (let stream : Fin 64 := 0; let s : State := (live.setFld (rSchStrStat stream) 28 4 1); s.reaches 4 = true ∧
      s.unitLive 4 20 = true ∧ s.winState stream ≠ 0) ∧
    (let stream : Fin 64 := 0; let s : State := (live.setFld (rSchStrStat stream) 28 4 0); s.reaches 4 = true ∧
      s.unitLive 4 20 = true ∧ s.winState stream = 0) ∧
    (let i : Nat := 0; let s : State := live; (s.openSeg i).2 = true) ∧
    (let stream : Fin 64 := 0; let s : State := (live.setFld (rSchStrStat stream) 28 4 1); s.reaches 4 = true ∧
      s.unitLive 4 20 = true ∧ s.armed stream = true) ∧
    (let stream : Fin 64 := 0; let s : State := (live.setFld (rSchStrStat stream) 28 4 0); s.reaches 4 = true ∧
      s.unitLive 4 20 = true ∧ s.armed stream = false) ∧
    (let stream : Fin 64 := 0;
      let s : State := (((live.setFld (rSchStrStat stream) 28 4 1).setFld (rSchStrWin stream) 30 2 1).setFld (rIngPartCfg 0) 31 1 0);
      s.reaches 4 = true ∧ s.unitLive 4 20 = true ∧ (s.schStr stream).trigAt ≠ some s.now ∧ s.winState stream = 1 ∧
      s.fld (rSchStrWin stream) 30 2 ≠ 0 ∧ s.partOf stream = none) ∧
    (let stream : Fin 64 := 0; let s : State := (live.setFld (rSchStrStat stream) 28 4 0); s.reaches 4 = true ∧
      s.unitLive 4 20 = true ∧ (s.schStr stream).trigAt ≠ some s.now ∧ s.winState stream ≠ 1 ∧
      ¬ (s.winState stream = 2 ∧ s.bit (rSchStrWin stream) 29 = true)) ∧
    (let stream : Fin 64 := 0; let k : Task := ⟨0, 0#64, 0, 0, []⟩;
      let s : State := ({ live with ch := { live.ch with tasks := [k] } } : State);
      s.ch.tasks.find? (fun k => k.input == stream.val) = some k ∧ s.unitLive 4 20 = true) ∧
    (let stream : Fin 64 := 0; let k : Task := ⟨0x40, 0, 0, 0, []⟩;
      let s : State := ({ live with ch := { live.ch with tasks := [k], set := [] } } : State);
      s.ch.tasks.find? (fun k => k.input == 0x040 + stream.val) = some k ∧ s.unitLive 4 20 = true) := by
  refine ⟨?_, ?_, ?_, ?_, ?_, ?_, ?_, ?_, ?_⟩ <;> decide +kernel

theorem witness_MainsAndTriggerInputs :
    (let stamp : Nat := tuPerSec / 65 + 1; let s : State := (live.setBit rSchA5Stat 31 true); s.unitLive 4 14 = true ∧
      s.bit rSchA5Stat 31 = true ∧ periodOk (stamp - s.sch.a5.zc.getD 0 0) = true) ∧
    (let stamp : Nat := 0; let s : State := (live.setBit rSchA5Stat 31 true); s.unitLive 4 14 = true ∧
      s.bit rSchA5Stat 31 = true ∧ periodOk (stamp - s.sch.a5.zc.getD 0 0) = false) ∧
    (let s : State := (live.setBit rSchA5Stat 31 false); s.unitLive 4 14 = true ∧ s.bit rSchA5Stat 31 = false ∧
      s.sch.a5.zc = []) ∧
    (let s : State := (live.setBit rSchA5Stat 31 true); s.unitLive 4 14 = true ∧ s.bit rSchA5Stat 31 = true) ∧
    (let n : Fin 8 := 0; let level : Bool := true; let s : State := live; s.unitLive 4 15 = true ∧ s.serving = true ∧
      s.sch.ti.getLsbD n ≠ level) ∧
    (let n : Fin 8 := 0; let level : Bool := false; let s : State := live; (s.sch.ti.getLsbD n = level ∨ s.serving = false)) ∧
    (let v : Word := BitVec.ofNat 32 (1 <<< (31 : Nat)); let s : State := (live.setBit rDevCfgStat 3 false);
      s.reaches 4 = true ∧ s.unitLive 4 15 = true ∧ v.getLsbD 31 = true ∧ s.capture = false) ∧
    (let v : Word := BitVec.ofNat 32 (1 <<< (31 : Nat)); let s : State := (live.setBit rDevCfgStat 3 true);
      s.reaches 4 = true ∧ s.unitLive 4 15 = true ∧ v.getLsbD 31 = true ∧ s.capture = true) := by
  refine ⟨?_, ?_, ?_, ?_, ?_, ?_, ?_, ?_⟩ <;> decide +kernel

theorem witness_EncoderAxes :
    (let ax : Fin 4 := 0; let a : Bool := true; let b : Bool := false; let p : Bool × Bool := (false, false);
      let s : State := (((live.setFld (rSchAxCfg ax) 0 3 1).setBit (rSchAxStat ax) 31 true).setAxis ax { live.axis ax with pair := some p });
      s.axLive ax = true ∧ s.axMode ax = 1 ∧ (s.axis ax).pair = some p ∧ s.bit (rSchAxStat ax) 31 = true ∧
      (p.1 != a) ≠ (p.2 != b)) ∧
    (let ax : Fin 4 := 0; let a : Bool := false; let b : Bool := false;
      let s : State := ((live.setFld (rSchAxCfg ax) 0 3 1).setAxis ax { live.axis ax with pair := some (!a, !b) });
      s.axLive ax = true ∧ s.axMode ax = 1 ∧ (s.axis ax).pair = some (!a, !b)) ∧
    (let ax : Fin 4 := 0; let a : Bool := false; let b : Bool := false; let p : Bool × Bool := (true, false);
      let s : State := (((live.setFld (rSchAxCfg ax) 0 3 1).setBit (rSchAxStat ax) 31 false).setAxis ax { live.axis ax with pair := some p });
      s.axLive ax = true ∧ s.axMode ax = 1 ∧ (s.axis ax).pair = some p ∧ s.bit (rSchAxStat ax) 31 = false ∧
      (p.1 != a) ≠ (p.2 != b)) ∧
    (let n : Nat := 0; let d : Int := 1; let s : State := (live.setAxis n { live.axis n with dir := none });
      (s.axis n).dir = none ∧ d ≠ 0) ∧
    (let ax : Fin 4 := 0;
      let s : State := (((live.setFld (rSchAxCfg ax) 0 3 1).setBit (rSchAxIdx ax) 31 true).setAxis ax { live.axis ax with latch := none });
      s.axLive ax = true ∧ s.zOn ax = true ∧ s.axMode ax = 1 ∧ s.bit (rSchAxIdx ax) 31 = true ∧
      gateOk (s.fld (rSchAxIdx ax) 16 2) (s.axis ax).pair = true ∧ (s.axis ax).latch = none) ∧
    (let ax : Fin 4 := 0; let u : Bool := true; let v : Bool := false; let w : Bool := true; let j : Nat := 4;
      let k : Nat := 5;
      let s : State := (((live.setFld (rSchAxCfg ax) 0 3 2).setBit (rSchAxStat ax) 31 true).setAxis ax { live.axis ax with sector := some j });
      s.axLive ax = true ∧ s.axMode ax = 2 ∧ hallSector (u, v, w) = some k ∧ (s.axis ax).sector = some j ∧
      s.bit (rSchAxStat ax) 31 = true ∧ (j + 1) % 6 = k) ∧
    (let ax : Fin 4 := 0;
      let s : State := ((live.setFld (rSchAxCfg ax) 0 3 2).setAxis ax { live.axis ax with illegal := false });
      s.axLive ax = true ∧ s.axMode ax = 2 ∧ (s.axis ax).illegal = false) ∧
    (let ax : Fin 4 := 0; let u : Bool := true; let v : Bool := false; let w : Bool := true; let j : Nat := 2;
      let k : Nat := 5;
      let s : State := ((live.setFld (rSchAxCfg ax) 0 3 2).setAxis ax { live.axis ax with sector := some j });
      s.axLive ax = true ∧ s.axMode ax = 2 ∧ hallSector (u, v, w) = some k ∧ (s.axis ax).sector = some j ∧ j ≠ k ∧
      (j + 1) % 6 ≠ k ∧ (k + 1) % 6 ≠ j) ∧
    (let ax : Fin 4 := 0; let s : State := ((live.setFld (rSchAxCfg ax) 0 3 1).setAxis ax { live.axis ax with wire := false });
      s.axLive ax = true ∧ s.axMode ax ≠ 0 ∧ (s.axis ax).wire = false) ∧
    (let ax : Fin 4 := 0;
      let s : State := ((live.setFld (rSchAxCfg ax) 0 3 1).setAxis ax { live.axis ax with wire := true, fold := false });
      s.unitLive 4 (axUnit ax) = true ∧ s.axMode ax ≠ 0 ∧ (s.axis ax).wire = true ∧ (s.axis ax).fold = false) ∧
    (let ax : Fin 4 := 0;
      let s : State := ((live.setFld (rSchAxCfg ax) 0 3 3).setAxis ax { live.axis ax with wire := false, reading := none });
      s.axLive ax = true ∧ (s.axMode ax = 3 ∨ s.axMode ax = 4) ∧ (s.axis ax).wire = false ∧ (s.axis ax).reading = none) ∧
    (let ax : Fin 4 := 0; let bits : List Bool := [true]; let t0 : Int := 0;
      let s : State := ((((live.setFld (rSchAxCfg ax) 0 3 3).setAxis ax { live.axis ax with reading := some t0, waiting := false }).setBit (rSchAxSer ax) 14 true).setFld (rSchAxCfg ax) 0 3 3);
      (s.axis ax).reading = some t0 ∧ s.unitLive 4 (axUnit ax) = true ∧ (s.axMode ax = 3 ∨ s.axMode ax = 4) ∧
      (s.axis ax).waiting = false ∧ (s.serialFrame ax bits).1 = none) ∧
    (let ax : Fin 4 := 0; let bits : List Bool := []; let t0 : Int := 0; let raw : Nat := 0; let p : Nat := 0;
      let s : State := ((((live.setFld (rSchAxCfg ax) 0 3 3).setBit (rSchAxStat ax) 31 true).setFld (rSchAxSerl ax) 0 16 0).setAxis ax { live.axis ax with reading := some t0, waiting := false, raw := some p });
      (s.axis ax).reading = some t0 ∧ s.unitLive 4 (axUnit ax) = true ∧ (s.axMode ax = 3 ∨ s.axMode ax = 4) ∧
      (s.axis ax).waiting = false ∧ (s.serialFrame ax bits) = (some raw, 0, false) ∧ (s.axis ax).raw = some p ∧
      s.bit (rSchAxStat ax) 31 = true ∧ s.fld (rSchAxSerl ax) 0 16 = 0) ∧
    (let ax : Fin 4 := 0; let s : State := (live.setAxis ax { live.axis ax with reading := (some default) });
      s.unitLive 4 (axUnit ax) = true ∧ (s.axis ax).reading ≠ none) ∧
    (let ax : Fin 4 := 0; let s : State := live; s.unitLive 4 (axUnit ax) = true) ∧
    (let ax : Fin 4 := 0; let s : State := (live.setFld (rSchAxStat ax) 24 2 1); s.unitLive 4 (axUnit ax) = true ∧
      s.fld (rSchAxStat ax) 24 2 = 1) ∧
    (let ax : Fin 4 := 0; let s : State := (live.setFld (rSchAxStat ax) 24 2 2); s.unitLive 4 (axUnit ax) = true ∧
      s.fld (rSchAxStat ax) 24 2 = 2) ∧
    (let ax : Fin 4 := 0; let s : State := (live.setBit rDevCfgStat 3 false); s.reaches 4 = true ∧
      s.unitLive 4 (axUnit ax) = true ∧ s.capture = false) ∧
    (let ax : Fin 4 := 0; let s : State := (live.setBit rDevCfgStat 3 true); s.reaches 4 = true ∧
      s.unitLive 4 (axUnit ax) = true ∧ s.capture = true) := by
  refine ⟨?_, ?_, ?_, ?_, ?_, ?_, ?_, ?_, ?_, ?_, ?_, ?_, ?_, ?_, ?_, ?_, ?_, ?_, ?_⟩ <;> decide +kernel

theorem witness_LedgerAndSegments :
    (let part : Fin 32 := 0; let s : State := live; ((s.part part).ready = none ∨ s.unitLive 3 9 = false)) ∧
    (let part : Fin 32 := 0; let e : Entry := { E0 with final := true }; let g : Seg := G0;
      let s : State := ((live.setPart part { live.part part with seg := some g }).setPart part { live.part part with entries := [e], seg := some g });
      s.unitLive 3 9 = true ∧ (s.part part).ready = some e ∧ (s.part part).seg = some g ∧
      s.strLayout (s.fld (rIngPartCfg part) 16 6) ≠ 2 ∧ e.freed = false) ∧
    (let part : Fin 32 := 0; let e : Entry := { E0 with final := true, freed := true }; let g : Seg := G0;
      let s : State := ((live.setPart part { live.part part with seg := some g }).setPart part { live.part part with entries := [e], seg := some g });
      s.unitLive 3 9 = true ∧ (s.part part).ready = some e ∧ (s.part part).seg = some g ∧ e.freed = true) ∧
    (let part : Fin 32 := 0; let e : Entry := { E0 with final := true, kind := 2 }; let g : Seg := G0;
      let s : State := (((live.setPart part { live.part part with seg := some g }).setPart part { live.part part with entries := [e], seg := some g }).setFld (rIngStrFmt 0) 4 2 2);
      s.unitLive 3 9 = true ∧ (s.part part).ready = some e ∧ (s.part part).seg = some g ∧
      s.strLayout (s.fld (rIngPartCfg part) 16 6) = 2 ∧ e.freed = false ∧ e.kind = 2) ∧
    (let part : Fin 32 := 0; let i : Nat := 0; let g : Seg := G0;
      let s : State := (((live.setFld (rSchStrStat i) 28 4 3).setPart part { live.part part with seg := some g }).setSchStr i { live.schStr i with reopen := false });
      i = s.fld (rIngPartCfg part) 16 6 ∧ (s.part part).seg = some g ∧ s.winState i = 3 ∧ s.partOf i = some part.val ∧
      s.unitLive 3 9 = true ∧ (s.part part).entries.any (fun e => e.seg == g.num && !e.written) = false ∧
      s.attested part = false ∧ (s.schStr i).reopen = false) ∧
    (let part : Fin 32 := 0; let e : Entry := E0; let g : Seg := G0;
      let s : State := ((live.setPart part { live.part part with seg := some g }).setPart part { live.part part with entries := [e], seg := some g });
      (s.part part).seg = some g ∧ e ∈ (s.part part).entries ∧ e.seg = g.num ∧ e.written = false) ∧
    (let part : Fin 32 := 0; let v : Word := BitVec.ofNat 32 (1 <<< (0 : Nat));
      let s : State := ((live.setPart part { live.part part with seg := none }).setPart part { live.part part with closed := [0] });
      s.reaches 3 = true ∧ s.unitLive 3 9 = true ∧ v.getLsbD 1 = false ∧ v.getLsbD 0 = true ∧ (s.part part).seg = none ∧
      fget v 16 16 ∈ (s.part part).closed) ∧
    (let part : Fin 32 := 0; let g : Seg := G0; let v : Word := BitVec.ofNat 32 (1 <<< (0 : Nat));
      let s : State := (live.setPart part { live.part part with seg := some g }); s.reaches 3 = true ∧ s.unitLive 3 9 = true ∧
      v.getLsbD 1 = false ∧ v.getLsbD 0 = true ∧ (s.part part).seg = some g ∧ g.num = fget v 16 16) ∧
    (let part : Fin 32 := 0; let s : State := live; s.reaches 3 = true ∧ s.unitLive 3 9 = true ∧
      s.armed (s.fld (rIngPartCfg part) 16 6) = false) ∧
    (let part : Fin 32 := 0; let s : State := (live.setFld (rSchStrStat 0) 28 4 1); s.reaches 3 = true ∧
      s.unitLive 3 9 = true ∧ s.armed (s.fld (rIngPartCfg part) 16 6) = true) ∧
    (let c : Fin 4 := 0; let i : Nat := 0; let v : Word := BitVec.ofNat 32 (1 <<< (0 : Nat));
      let s : State := ((live.setBit (rPixCfg c) 31 true).setFld (rSchStrStat i) 28 4 1); s.reaches 5 = true ∧
      s.unitLive (5 + c) 1 = true ∧ v.getLsbD 0 = true ∧ s.bit (rPixCfg c) 31 = true ∧ i = s.fld (rPixCfg c) 24 6 ∧
      s.lead i = some c.val ∧ s.armed i = true) ∧
    (let c : Fin 4 := 0; let i : Nat := 0; let v : Word := BitVec.ofNat 32 (1 <<< (0 : Nat));
      let s : State := ((live.setBit (rPixCfg c) 31 true).setFld (rSchStrStat i) 28 4 0); s.reaches 5 = true ∧
      s.unitLive (5 + c) 1 = true ∧ v.getLsbD 0 = true ∧ s.bit (rPixCfg c) 31 = true ∧ i = s.fld (rPixCfg c) 24 6 ∧
      s.lead i = some c.val ∧ s.armed i = false ∧ (s.servers i).Nodup) ∧
    (let c : Fin 4 := 1; let v : Word := BitVec.ofNat 32 (1 <<< (0 : Nat)); let s : State := (live.setBit (rPixCfg c) 31 true);
      s.reaches 5 = true ∧ s.unitLive (5 + c) 1 = true ∧ v.getLsbD 0 = true ∧ s.bit (rPixCfg c) 31 = true ∧
      s.lead (s.fld (rPixCfg c) 24 6) ≠ some c.val) := by
  refine ⟨?_, ?_, ?_, ?_, ?_, ?_, ?_, ?_, ?_, ?_, ?_, ?_, ?_⟩ <;> decide +kernel

theorem witness_CorrelationJobs :
    (let j : Fin 4 := 0; let s : State := (live.setFld (rCorJStat j) 28 4 1); s.reaches 9 = true ∧ s.corUp = true ∧
      (s.corState j = 1 ∨ s.corState j = 2 ∨ s.corState j = 3)) ∧
    (let j : Fin 4 := 0; let e : Nat := 3;
      let s : State := (({ live with cor := { live.cor with cur := none } } : State).setFld (rCorJStat j) 28 4 0);
      s.reaches 9 = true ∧ s.corUp = true ∧ s.corState j = 0 ∧ (s.setFld (rCorJStat j) 28 4 0).startErr j = e ∧ e ≠ 0 ∧
      s.cor.cur = none) ∧
    (let j : Fin 4 := 0;
      let s : State := (((live.setFld (rCorJStat j) 28 4 0).setBit (rCorJCfg j) 31 true).setFld (rCorJXwin j) 0 11 4);
      s.reaches 9 = true ∧ s.corUp = true ∧ s.corState j = 0 ∧ (s.setFld (rCorJStat j) 28 4 0).startErr j = 0) ∧
    (let j : Fin 4 := 0; let s : State := (live.setFld (rCorJStat j) 28 4 4); s.reaches 9 = true ∧ s.corUp = true ∧
      s.corState j = 4) ∧
    (let j : Fin 4 := 0; let s : State := (live.setFld (rCorJStat j) 28 4 1); s.reaches 9 = true ∧ s.corUp = true ∧
      (s.corState j = 1 ∨ s.corState j = 2 ∨ s.corState j = 3)) ∧
    (let j : Fin 4 := 0; let s : State := (live.setFld (rCorJStat j) 28 4 0); s.reaches 9 = true ∧ s.corUp = true ∧
      s.corState j = 0) ∧
    (let j : Fin 4 := 0; let s : State := ((live.setFld (rCorJStat j) 28 4 1).setBit (rCorJCfg j) 31 true); s.corUp = true ∧
      s.corState j = 1 ∧ s.bulkWaits 0 = false ∧ s.corPiv j = true ∧ s.corPost j = false) ∧
    (let j : Fin 4 := 0; let s : State := (live.setFld (rCorJStat j) 28 4 1); s.corUp = true ∧ s.corState j = 1 ∧
      s.bulkWaits 0 = false ∧ s.corPiv j = false ∧ s.corPost j = false) ∧
    (let j : Fin 4 := 0; let s : State := (live.setFld (rCorJStat j) 28 4 0); (s.corState j ≠ 1 ∨ s.bulkWaits 0 = true)) ∧
    (let s : State := ({ live with cor := { live.cor with cur := none } } : State);
      (s.cor.cur = none ∨ s.corUp = true ∧ s.bulkWaits 0 = true)) ∧
    (let f : CorFrame := CF0;
      let s : State := (({ live with cor := { live.cor with cur := some f } } : State).setFence 9 1 true); s.cor.cur = some f ∧
      s.corUp = false) ∧
    (let f : CorFrame := { CF0 with live := true };
      let s : State := ({ live with cor := { live.cor with cur := some f } } : State); s.cor.cur = some f ∧ s.corUp = true ∧
      s.bulkWaits 0 = false ∧ f.live = true ∧ s.frameGone f.job f.serial = true) ∧
    (let f : CorFrame := CF0;
      let s : State := ((({ live with cor := { live.cor with cur := some f } } : State).setBit (rCorJResn f.job) 31 false).setFld (rCorJRdptr 0) 0 16 1);
      s.cor.cur = some f ∧ s.corUp = true ∧ s.bulkWaits 0 = false ∧ f.live = false ∧ s.ringFull f.job = true ∧
      s.bit (rCorJResn f.job) 31 = false) ∧
    (let f : CorFrame := CF0; let s : State := ({ live with cor := { live.cor with cur := some f } } : State);
      s.cor.cur = some f ∧ s.corUp = true ∧ s.bulkWaits 0 = false ∧ f.live = false ∧ s.ringFull f.job = false ∧
      s.corPiv f.job = false) ∧
    (let f : CorFrame := { CF0 with live := true }; let failed : Nat := 0; let on : Nat := 0;
      let s : State := (({ live with cor := { live.cor with cur := some f } } : State).setPart 0 { live.part 0 with entries := [E0] });
      s.cor.cur = some f ∧ s.corUp = true ∧ s.bulkWaits 0 = false ∧ f.live = true ∧ s.frameGone f.job f.serial = false ∧
      s.ringFull f.job = false ∧ failed = f.recs.countP (fun r => r.status != 0 && r.status != 1) ∧
      on = f.recs.length - f.recs.countP (fun r => r.status == 0)) ∧
    (let g : Fin 64 := 0; let f : CorFrame := { CF0 with gauges := [0] };
      let s : State := ({ live with cor := { live.cor with cur := some f } } : State); s.cor.cur = some f ∧ g.val ∈ f.gauges ∧
      s.corUp = true ∧ s.unitLive 9 3 = true) := by
  refine ⟨?_, ?_, ?_, ?_, ?_, ?_, ?_, ?_, ?_, ?_, ?_, ?_, ?_, ?_, ?_, ?_⟩ <;> decide +kernel

theorem witness_CompressionQueue :
    (let v : Word := 0; let s : State := live; s.reaches 11 = true ∧ s.unitLive 11 1 = true ∧
      s.cmpQueue.length + (fget v 0 12 % s.cmpSize + s.cmpSize - s.fld rCmpQtail 0 12 % s.cmpSize) % s.cmpSize < s.cmpSize) ∧
    (let v : Word := 1; let s : State := ((live.setFld rCmpQhead 0 12 1)); s.reaches 11 = true ∧ s.unitLive 11 1 = true ∧
      s.cmpSize ≤ s.cmpQueue.length + (fget v 0 12 % s.cmpSize + s.cmpSize - s.fld rCmpQtail 0 12 % s.cmpSize) % s.cmpSize) ∧
    (let eng : Fin 8 := 0; let k : Nat := 0;
      let s : State := ((((({ live with pwr := { live.pwr with loss := 0 } } : State).setBit rCmpQcfg 31 true).setCmpEng eng { live.cmpEng eng with busy := false } true).setFld rCmpQtail 0 12 1).putT 0 (D0 1 0 (8 * 65536 + 4) 0));
      s.unitLive 11 1 = true ∧ s.unitLive 11 (2 + eng) = true ∧ (s.cmpEng eng).busy = false ∧ s.bit rCmpQcfg 31 = true ∧
      s.pwr.loss = 0 ∧ s.cmpSelect = some k ∧ s.descBad (s.cmpDesc k) = false ∧ leAt (s.cmpDesc k) 0 1 = 1 ∧
      ((s.cmpDesc k).getD 1 0#8).getLsbD 0 = false ∧ leAt (s.cmpDesc k) 0x3C 1 ≠ 4 ∧ descLedger (s.cmpDesc k) = false) ∧
    (let eng : Fin 8 := 0; let k : Nat := 0;
      let s : State := ((((({ live with pwr := { live.pwr with loss := 0 } } : State).setBit rCmpQcfg 31 true).setCmpEng eng { live.cmpEng eng with busy := false } true).setFld rCmpQtail 0 12 1).putT 0 (D0 2 0 (64) 0));
      s.unitLive 11 1 = true ∧ s.unitLive 11 (2 + eng) = true ∧ (s.cmpEng eng).busy = false ∧ s.bit rCmpQcfg 31 = true ∧
      s.pwr.loss = 0 ∧ s.cmpSelect = some k ∧ s.descBad (s.cmpDesc k) = false ∧ leAt (s.cmpDesc k) 0 1 = 2 ∧
      ((s.cmpDesc k).getD 1 0#8).getLsbD 0 = false ∧ leAt (s.cmpDesc k) 0x3C 1 ≠ 4 ∧ descLedger (s.cmpDesc k) = false) ∧
    (let eng : Fin 8 := 0; let k : Nat := 0;
      let s : State := ((((({ live with pwr := { live.pwr with loss := 0 } } : State).setBit rCmpQcfg 31 true).setCmpEng eng { live.cmpEng eng with busy := false } true).setFld rCmpQtail 0 12 1).putT 0 (D0 3 0 (16 * 65536 + 4096 + 16) 0));
      s.unitLive 11 1 = true ∧ s.unitLive 11 (2 + eng) = true ∧ (s.cmpEng eng).busy = false ∧ s.bit rCmpQcfg 31 = true ∧
      s.pwr.loss = 0 ∧ s.cmpSelect = some k ∧ s.descBad (s.cmpDesc k) = false ∧ leAt (s.cmpDesc k) 0 1 = 3 ∧
      ((s.cmpDesc k).getD 1 0#8).getLsbD 0 = false ∧ leAt (s.cmpDesc k) 0x3C 1 ≠ 4 ∧ descLedger (s.cmpDesc k) = false) ∧
    (let eng : Fin 8 := 0; let k : Nat := 0;
      let s : State := ((((({ live with pwr := { live.pwr with loss := 0 } } : State).setBit rCmpQcfg 31 true).setCmpEng eng { live.cmpEng eng with busy := false } true).setFld rCmpQtail 0 12 1).putT 0 (D0 0 0 (8 * 65536 + 4) 0));
      s.unitLive 11 1 = true ∧ s.unitLive 11 (2 + eng) = true ∧ (s.cmpEng eng).busy = false ∧ s.bit rCmpQcfg 31 = true ∧
      s.pwr.loss = 0 ∧ s.cmpSelect = some k ∧ s.descBad (s.cmpDesc k) = true) ∧
    (let eng : Fin 8 := 0; let k : Nat := 0;
      let s : State := ((((({ live with pwr := { live.pwr with loss := 0 } } : State).setBit rCmpQcfg 31 true).setCmpEng eng { live.cmpEng eng with busy := false } true).setFld rCmpQtail 0 12 1).putT 0 (D0 1 1 (8 * 65536 + 4) 0));
      s.unitLive 11 1 = true ∧ s.unitLive 11 (2 + eng) = true ∧ (s.cmpEng eng).busy = false ∧ s.bit rCmpQcfg 31 = true ∧
      s.pwr.loss = 0 ∧ s.cmpSelect = some k ∧ s.descBad (s.cmpDesc k) = false ∧ ((s.cmpDesc k).getD 1 0#8).getLsbD 0 = true ∧
      leAt (s.cmpDesc k) 0x3C 1 ≠ 4 ∧ descLedger (s.cmpDesc k) = false) ∧
    (let eng : Fin 8 := 0; let s : State := (live.setCmpEng eng { live.cmpEng eng with busy := false } true);
      ((s.cmpEng eng).busy = false ∨ s.bulkWaits 1 = true ∧ s.pwr.loss = 0 ∧ s.cmpPreempted eng = false)) ∧
    (let eng : Fin 8 := 0; let v : CmpEng := { CmpEng.init with busy := true, inNext := 0x10040, outNext := 0x20000 };
      let s : State := (((live.setCmpEng eng (v) true).setFld rCmpQtail 0 12 1).putT 0 (D0 2 0 64 4096));
      let d : List Byte := s.cmpDesc 0; s.cmpEng eng = v ∧ v.busy = true ∧ s.unitLive 11 1 = true ∧
      s.unitLive 11 (2 + eng) = true ∧ s.bulkWaits 1 = false ∧ d = s.cmpDesc v.slot ∧ leAt d 0 1 = 2 ∧ v.pos = none ∧
      leAt d 8 8 + leAt d 0x1C 4 ≤ v.inNext) ∧
    (let eng : Fin 8 := 0; let v : CmpEng := { CmpEng.init with busy := true, inNext := 0x10000, outNext := 0x20000 };
      let s : State := (((live.setCmpEng eng (v) true).setFld rCmpQtail 0 12 1).putT 0 (D0 2 0 64 4096));
      let d : List Byte := s.cmpDesc 0; s.cmpEng eng = v ∧ v.busy = true ∧ s.unitLive 11 1 = true ∧
      s.unitLive 11 (2 + eng) = true ∧ s.bulkWaits 1 = false ∧ d = s.cmpDesc v.slot ∧ leAt d 0 1 = 2 ∧ v.pos = none ∧
      64 ≤ leAt d 8 8 + leAt d 0x1C 4 - v.inNext ∧ readHeader (s.peek v.inNext 64) = none) ∧
    (let eng : Fin 8 := 0;
      let g : CmpGeom := match readHeader SH with | some x => x.1 | none => ⟨0, 0, 0, false, 0, 0, 0, 0, 0⟩;
      let serial : Nat := 7; let v : CmpEng := { CmpEng.init with busy := true, inNext := 0x10000, outNext := 0x20000 };
      let s : State := ({ (((live.setCmpEng eng (v) true).setFld rCmpQtail 0 12 1).putT 0 (D0 2 0 64 4096)).putT 0x10000 SH with pwr := { live.pwr with loss := 1 } } : State);
      let d : List Byte := s.cmpDesc 0; s.cmpEng eng = v ∧ v.busy = true ∧ s.unitLive 11 1 = true ∧
      s.unitLive 11 (2 + eng) = true ∧ s.bulkWaits 1 = false ∧ d = s.cmpDesc v.slot ∧ leAt d 0 1 = 2 ∧ v.pos = none ∧
      64 ≤ leAt d 8 8 + leAt d 0x1C 4 - v.inNext ∧ readHeader (s.peek v.inNext 64) = some (g, serial) ∧ g.slotLen ≤ v.left d ∧
      s.pwr.loss ≠ 0) := by
  refine ⟨?_, ?_, ?_, ?_, ?_, ?_, ?_, ?_, ?_, ?_, ?_⟩ <;> decide +kernel

theorem witness_VideoEncodersAndRtp :
    (let c : Fin 8 := 0;
      let s : State := ((((live.setFld (rVidEncStat c) 28 4 0).setFld (rVidEncStat c) 28 4 0).setShd (rVidEncHcap c) 4096#32).setFld (rVidEncOutsz c) 0 24 16);
      s.reaches 10 = true ∧ s.unitLive 10 (2 + c) = true ∧ s.encState c ≠ 1 ∧ s.encState c ≠ 2 ∧
      s.encCheck c (s.bit (rVidEncCfg c) 31) (s.fld (rVidEncCfg c) 24 6) = 0) ∧
    (let c : Fin 8 := 0; let e : Nat := 2;
      let s : State := ((live.setFld (rVidEncStat c) 28 4 0).setFld (rVidEncStat c) 28 4 0); s.reaches 10 = true ∧
      s.unitLive 10 (2 + c) = true ∧ s.encState c ≠ 1 ∧ s.encState c ≠ 2 ∧
      s.encCheck c (s.bit (rVidEncCfg c) 31) (s.fld (rVidEncCfg c) 24 6) = e ∧ e ≠ 0) ∧
    (let c : Fin 8 := 0; let s : State := (live.setFld (rVidEncStat c) 28 4 2); s.reaches 10 = true ∧
      s.unitLive 10 (2 + c) = true ∧ s.encState c = 2) ∧
    (let c : Fin 8 := 0; let s : State := ((live.setFld (rVidEncStat c) 28 4 1).setEnc c { live.enc c with pic := none });
      s.reaches 10 = true ∧ s.unitLive 10 (2 + c) = true ∧ s.encState c = 1 ∧ (s.enc c).pic = none) ∧
    (let c : Fin 8 := 0; let p : VPic := VP0;
      let s : State := ((live.setFld (rVidEncStat c) 28 4 1).setEnc c { live.enc c with pic := some p }); s.reaches 10 = true ∧
      s.unitLive 10 (2 + c) = true ∧ s.encState c = 1 ∧ (s.enc c).pic = some p) ∧
    (let c : Fin 8 := 0; let s : State := live; s.reaches 10 = true ∧ s.unitLive 10 (2 + c) = true) ∧
    (let c : Fin 8 := 0; let s : State := live; s.reaches 10 = true ∧ s.unitLive 10 (2 + c) = true) ∧
    (let c : Fin 8 := 0; let s : State := live; s.reaches 10 = true ∧ s.unitLive 10 (2 + c) = true) ∧
    (let c : Fin 8 := 0; let s : State := live; s.reaches 10 = true ∧ s.unitLive 10 (2 + c) = true) ∧
    (let c : Fin 8 := 0; let s : State := live; s.reaches 10 = true ∧ s.unitLive 10 (2 + c) = true) ∧
    (let c : Fin 8 := 0; let s : State := live; s.reaches 10 = true ∧ s.unitLive 10 (2 + c) = true) ∧
    (let s : State := ({ live with aud := { live.aud with safe := 3 } } : State); s.pxStopped = true) ∧
    (let s : State := live; s.unitLive 10 1 = true ∧ s.pxStopped = false ∧ (∀ c : Fin 8, (s.enc c).pic = none)) ∧
    (let c : Nat := 0; let x : Nat × Nat × Nat := (0, 1, 0); let p : Nat := 0; let q : Nat := 0; let r : Nat := 0;
      let s : State := ((((live.setFld (rVidEncStat c) 28 4 1).setEnc c { live.enc c with pic := none }).setPixStr 0 { live.pixStr 0 with seqs := [(0, 1)] }).setFld (rVidEncOutsz c) 0 24 1);
      s.encState c = 1 ∧ (s.enc c).pic = none ∧ s.unitLive 10 (2 + c) = true ∧
      s.encGeom c (s.enc c).host (s.enc c).stream = (p, q, r) ∧ s.encNext c = some x ∧
      s.outNeed c (s.sliceCount c (ctuGrid q r).2) ≤ s.outFree c) ∧
    (let c : Fin 8 := 0; let s : State := (live.setEnc c { live.enc c with pic := none });
      ((s.enc c).pic = none ∨ s.bulkWaits 3 = true)) ∧
    (let c : Fin 8 := 0; let p : VPic := { VP0 with slices := 2 };
      let s : State := (live.setEnc c { live.enc c with pic := some p }); s.unitLive 10 (2 + c) = true ∧
      s.unitLive 10 1 = true ∧ s.bulkWaits 3 = false ∧ (s.enc c).pic = some p ∧ p.slice + 1 < p.slices) ∧
    (let c : Fin 8 := 0; let p : VPic := VP0; let s : State := (live.setEnc c { live.enc c with pic := some p });
      s.unitLive 10 (2 + c) = true ∧ s.unitLive 10 1 = true ∧ s.bulkWaits 3 = false ∧ (s.enc c).pic = some p ∧
      p.slices ≤ p.slice + 1) ∧
    (let c : Nat := 0; let s : State := (live.setFld (rVidEncStat c) 28 4 1); s.encState c = 1) ∧
    (let c : Fin 8 := 0; let v : Word := 0; let s : State := (live.setFld (rVidEncOutsz c) 0 24 1); s.reaches 10 = true ∧
      s.unitLive 10 (2 + c) = true ∧ fget v 0 26 < s.outSize c / 64 ∧
      (fget v 0 26 + s.outSize c / 64 - s.fld (rVidEncRdptr c) 0 26 % max 1 (s.outSize c / 64)) % max 1 (s.outSize c / 64) ≤ s.outUsed c / 64) ∧
    (let c : Fin 8 := 0; let v : Word := 0; let s : State := live; s.reaches 10 = true ∧ s.unitLive 10 (2 + c) = true ∧
      s.outSize c / 64 ≤ fget v 0 26) ∧
    (let c : Fin 8 := 0; let x : List Byte × Bool × Nat := ([], false, 0); let l : List (List Byte × Bool × Nat) := [];
      let s : State := ((live.setBit (rNetPortStat (live.fld (rVidRtpCfg c) 28 1)) 31 true).setEnc c { live.enc c with pkts := x :: l });
      (s.enc c).pkts = x :: l ∧ s.unitLive 10 12 = true ∧ s.pxStopped = false ∧ s.serving = true ∧
      s.netUp (s.fld (rVidRtpCfg c) 28 1) = true ∧ s.txBusy (s.fld (rVidRtpCfg c) 28 1) 3 false = false) ∧
    (let c : Fin 8 := 0; let x : List Byte × Bool × Nat := ([], false, 0); let l : List (List Byte × Bool × Nat) := [];
      let s : State := ((live.setBit (rNetPortStat (live.fld (rVidRtpCfg c) 28 1)) 31 false).setEnc c { live.enc c with pkts := x :: l });
      (s.enc c).pkts = x :: l ∧ s.unitLive 10 12 = true ∧ s.pxStopped = false ∧ s.serving = true ∧
      s.netUp (s.fld (rVidRtpCfg c) 28 1) = false) ∧
    (let c : Fin 8 := 0; let s : State := (live.setEnc c { live.enc c with pkts := [] });
      ((s.enc c).pkts = [] ∨ s.pxStopped = true ∨ s.serving = false)) := by
  refine ⟨?_, ?_, ?_, ?_, ?_, ?_, ?_, ?_, ?_, ?_, ?_, ?_, ?_, ?_, ?_, ?_, ?_, ?_, ?_, ?_, ?_, ?_, ?_⟩ <;> decide +kernel

theorem witness_VideoDecoders :
    (let d : Fin 2 := 0; let s : State := (live.setFld (rVidDecStat d) 28 4 1); s.reaches 10 = true ∧
      s.unitLive 10 (10 + d) = true ∧ s.decState d ≠ 0) ∧
    (let d : Fin 2 := 0; let s : State := ((live.setFld (rVidDecStat d) 28 4 0).setFld (rVidDecCfg d) 0 4 8);
      s.reaches 10 = true ∧ s.unitLive 10 (10 + d) = true ∧ s.decState d = 0 ∧ 8 ≤ s.decNbuf d) ∧
    (let d : Fin 2 := 0; let s : State := (live.setFld (rVidDecStat d) 28 4 1); s.reaches 10 = true ∧
      s.unitLive 10 (10 + d) = true ∧ s.decState d ≠ 0) ∧
    (let d : Fin 2 := 0; let s : State := (live.setFld (rVidDecStat d) 28 4 1); s.reaches 10 = true ∧
      s.unitLive 10 (10 + d) = true ∧ s.decState d ≠ 0) ∧
    (let d : Fin 2 := 0; let v : Word := 4095; let s : State := (live.setFld (rVidDecInsz d) 0 24 1); s.reaches 10 = true ∧
      s.unitLive 10 (10 + d) = true ∧ (v - s.rd (rVidDecInrd d)).toNat < s.inSize d) ∧
    (let d : Fin 2 := 0; let v : Word := 0; let s : State := live; s.reaches 10 = true ∧ s.unitLive 10 (10 + d) = true ∧
      s.inSize d ≤ (v - s.rd (rVidDecInrd d)).toNat) ∧
    (let d : Fin 2 := 0; let p : VOut := ⟨0, 0, VS0, 0, 0, 0, false, 0, 0⟩; let l : List VOut := [];
      let s : State := (live.setDec d { live.dec d with ready := [p] }); let u : State := s.decAdvance d;
      (u.dec d).ready = p :: l ∧ u.unitLive 10 (10 + d) = true ∧ u.bulkWaits 3 = false ∧ u.decState d ≠ 3) ∧
    (let d : Fin 2 := 0; let s : State := live; (((s.decAdvance d).dec d).ready = [] ∨ (s.decAdvance d).bulkWaits 3 = true)) ∧
    (let d : Fin 2 := 0; let p : VOut := ⟨0, 0, VS0, 0, 0, 0, false, 0, 0⟩;
      let s : State := (live.setDec d { live.dec d with cur := some p }); (s.dec d).cur = some p ∧ p.flags.testBit 2 = false ∧
      s.unitLive 10 (10 + d) = true) ∧
    (let d : Fin 2 := 0; let s : State := (live.setDec d { live.dec d with cur := none }); (s.dec d).cur = none) := by
  refine ⟨?_, ?_, ?_, ?_, ?_, ?_, ?_, ?_, ?_, ?_⟩ <;> decide +kernel

theorem witness_MemoryQueues :
    (let a : Nat := 0; let sc : Nat := 0; let loc : Nat := 0; let d : List Byte := List.replicate 64 0;
      let s : State := (live.setFld rMemStat 28 4 2); s.memState = 2 ∧ s.mapAddr (a / 64 * 64) = some (sc, loc) ∧
      s.scUp sc = true ∧ d.length = 64) ∧
    (let a : Nat := 0; let sc : Nat := 0; let loc : Nat := 0; let l : List Burst := [];
      let w : Burst := ⟨0, true, 0, 0, [], 0, true, 0, 0⟩;
      let s : State := ({ (live.setFld rMemStat 28 4 2) with mem := { live.mem with q := [w] } } : State); s.memState = 2 ∧
      s.mapAddr (a / 64 * 64) = some (sc, loc) ∧ s.scUp sc = true ∧
      s.mem.q.filter (fun b => b.write && sameBurst b sc loc) = l ++ [w]) ∧
    (let a : Nat := 0; let sc : Nat := 0; let loc : Nat := 0; let s : State := (live.setFld rMemStat 28 4 2); s.memState = 2 ∧
      s.mapAddr (a / 64 * 64) = some (sc, loc) ∧ s.scUp sc = true ∧
      s.mem.q.any (fun b => b.write && sameBurst b sc loc) = false) ∧
    (let a : Nat := 2 ^ 32; let s : State := (live.setFld rMemStat 28 4 2); s.memState = 2 ∧ s.mapAddr (a / 64 * 64) = none) ∧
    (let s : State := (({ live with hst := { live.hst with cmds := [] } } : State).setFld rMemStat 28 4 0); s.memState ≠ 2 ∧
      s.hst.cmds = []) ∧
    (let a : Nat := 0; let sc : Nat := 0; let loc : Nat := 0;
      let s : State := ((live.setFld rMemStat 28 4 2).setFence 1 16 true); s.memState = 2 ∧
      s.mapAddr (a / 64 * 64) = some (sc, loc) ∧ s.scUp sc = false) ∧
    (let sc : Fin 16 := 0; let bank : Fin 32 := 0; let i : Nat := 0; let b : Burst := ⟨0, true, 0, 0, [], 0, true, 0, 0⟩;
      let s : State := ({ live with mem := { live.mem with q := [b] } } : State); s.pickWrite sc bank = some i ∧
      s.mem.q[i]? = some b) ∧
    (let sc : Fin 16 := 0; let bank : Fin 32 := 0; let s : State := live; s.pickWrite sc bank = none) ∧
    (let sc : Fin 16 := 0; let loc : Nat := 0; let i : Nat := 0; let errs : List (Nat × Nat) := [];
      let b : Burst := ⟨0, false, 0, 0, [], 0, true, 0, 0⟩; let st : MStat := .ok; let d : List Byte := []; let n : Nat := 0;
      let s : State := ({ live with mem := { live.mem with q := [b] } } : State);
      let u : State := (s.decodeBurst sc b.loc b.data (errWord errs b.flip)).1; s.pickRead sc loc = some i ∧
      s.mem.q[i]? = some b ∧ s.decodeBurst sc b.loc b.data (errWord errs b.flip) = (u, st, d, n)) ∧
    (let sc : Nat := 0; let e : List Nat := errWord ((List.range 9).map (fun i => (i, 1))) 0; let s : State := live; sc < 16 ∧
      gfMem.decode 16 s.eccT e = none) ∧
    (let sc : Fin 16 := 0; let s : State := (live.setFld (rMemScStat sc) 28 4 2); s.fld (rMemScStat sc) 28 4 = 2) ∧
    (let sc : Fin 16 := 0; let s : State := (live.setFld (rMemScStat sc) 28 4 0); s.fld (rMemScStat sc) 28 4 ≠ 2) ∧
    (let sc : Nat := 0; let b : Nat := 0; let s : State := (live.setBit rMemStat 27 false); s.overdraft = false ∧
      s.bankIdle sc b = true ∧ b < 4) ∧
    (let s : State := live; s.mem.purse.length = 4) ∧
    (let s : State := (((live.setBit rMemStat 27 true).setBit rMemStat 26 false).setFld rMemOdCfg 0 5 1); s.overdraft = true ∧
      s.bit rMemStat 26 = false ∧ s.fld rMemOdCfg 0 5 ≠ 0) ∧
    (let s : State := (live.setBit rMemStat 27 false);
      (s.overdraft = false ∨ s.bit rMemStat 26 = true ∨ s.fld rMemOdCfg 0 5 = 0)) ∧
    (let s : State := ((live.setBit rMemStat 27 true).setBit rMemStat 26 false); s.overdraft = true ∧
      s.bit rMemStat 26 = false) := by
  refine ⟨?_, ?_, ?_, ?_, ?_, ?_, ?_, ?_, ?_, ?_, ?_, ?_, ?_, ?_, ?_, ?_, ?_⟩ <;> decide +kernel

theorem witness_MemoryUpkeep :
    (let sc : Fin 16 := 0; let s : State := (live.setBit rMemScrub 31 false);
      (s.bit rMemScrub 31 = false ∨ s.scUp sc = false ∨ s.memState ≠ 2 ∨ s.overdraft = true ∨ s.now < s.mem.scrubT)) ∧
    (let sc : Fin 16 := 0;
      let s : State := ((List.range 15).foldl (fun s k => s.setFence 1 (17 + k) true) (((live.setBit rMemScrub 31 true).setFld rMemStat 28 4 2).setBit rMemStat 27 false));
      s.bit rMemScrub 31 = true ∧ s.scrubScs = [sc.val] ∧ s.memState = 2 ∧ s.overdraft = false ∧ s.mem.scrubT ≤ s.now ∧
      s.scrubPos sc + 1 < 2 ^ 28 ∧ s.flipAt sc (s.scrubPos sc * 64) = 0) ∧
    (let sc : Fin 16 := 0; let drift : Int := 17; let s : State := (live.setFld (rMemScStat sc) 28 4 2);
      s.fld (rMemScStat sc) 28 4 = 2 ∧ 16 < drift.natAbs) ∧
    (let drift : Int := 0; drift.natAbs ≤ 16) ∧
    (let s : State := ((({ live with pwr := { live.pwr with loss := 0 } } : State).setFld rMemStat 28 4 4).setFld rHstPwr 4 3 (3 - 1));
      s.memState = 4 ∧ s.pwr.loss = 0 ∧ s.fld rHstPwr 4 3 < 3) ∧
    (let s : State := (live.setFld rMemStat 28 4 0); (s.memState ≠ 4 ∨ s.pwr.loss ≠ 0)) ∧
    (let s : State := (live.setFld rMemStat 28 4 5); s.memState = 5) := by
  refine ⟨?_, ?_, ?_, ?_, ?_, ?_, ?_⟩ <;> decide +kernel

theorem witness_NvmeCompletion :
    (let q : Nat := 0; let cid : BitVec 16 := 0; let v : Sq := SQ0; let c : Cq := CQ0; let n : NCmd := NCx q 0 0 0 0 0 0 [];
      let s : State := (((live.cmdsT [n]).setSq q (some v)).setCq v.cq (some c)); s.ncmd q cid = some n ∧ s.sq q = some v ∧
      s.cq v.cq = some c) ∧
    (let q : Nat := 0; let cid : BitVec 16 := 0; let v : Sq := SQ0; let c : Cq := ⟨2, 3, true, 0, 0, true⟩;
      let n : NCmd := NCx q 0 0 0 0 0 0 [];
      let s : State := ({ ((((live.cmdsT [n]).setSq q (some v)).setCq v.cq (some c))) with hst := { ((((live.cmdsT [n]).setSq q (some v)).setCq v.cq (some c))).hst with mxTab := Map.set mxDefault [] (4 * 3 + 3) 0 } } : State);
      s.ncmd q cid = some n ∧ s.sq q = some v ∧ s.cq v.cq = some c ∧ c.ien = true ∧ s.mxMasked c.vec = false) ∧
    (let q : Nat := 0; let cid : BitVec 16 := 0; let detail : Nat := 0; let v : Sq := SQ0; let c : Cq := CQ0;
      let n : NCmd := NCx q 0 0 0 0 0 0 []; let s : State := (((live.cmdsT [n]).setSq q (some v)).setCq v.cq (some c));
      s.ncmd q cid = some n ∧ s.sq q = some v ∧ s.cq v.cq = some c ∧ detail < 2 ^ 16 ∧ q < 2 ^ 16) ∧
    (let q : Nat := 0; let cid : BitVec 16 := 0; let v : Sq := SQ0; let c : Cq := CQ0; let n : NCmd := NCx q 0 0 0 0 0 0 [];
      let s : State := (((live.cmdsT [n]).setSq q (some v)).setCq v.cq (some c)); s.ncmd q cid = some n ∧ s.sq q = some v ∧
      s.cq v.cq = some c) ∧
    (let q : Nat := 0; let cid : BitVec 16 := 0; let v : Sq := SQ0; let c : Cq := CQ0; let n : NCmd := NCx q 0 0 0 0 0 0 [];
      let s : State := (((live.cmdsT [n]).setSq q (some v)).setCq v.cq (some c)); s.ncmd q cid = some n ∧ s.sq q = some v ∧
      s.cq v.cq = some c) := by
  refine ⟨?_, ?_, ?_, ?_, ?_⟩ <;> decide +kernel

theorem witness_NvmeTeller :
    (let q : Fin 65 := 1; let x : Sq := SQ0; let v : Word := 0; let s : State := (live.setSq q (some x)); s.sq q = some x ∧
      v.toNat % 65536 < x.size ∧ q.val ≠ 0) ∧
    (let x : Sq := SQ0; let v : Word := 0; let s : State := (live.setSq 0 (some x)); s.sq 0 = some x ∧
      v.toNat % 65536 < x.size) ∧
    (let q : Fin 65 := 0; let x : Cq := CQ0; let v : Word := 0; let s : State := (live.setCq q (some x)); s.cq q = some x ∧
      v.toNat % 65536 < x.size) ∧
    (let off : Nat := 0; (off < 0x1000 ∨ off % 4 ≠ 0 ∨ 0x1208 ≤ off)) ∧
    (let q : Fin 65 := 0; let s : State := live; s.sq q = none) ∧
    (let q : Fin 65 := 1; let k : Nat := 0; let cr : List Nat := live.hst.credit; let x : Sq := ⟨2, 1, 0, 0, 1⟩;
      let sqe : List Byte := List.replicate 64 0; let s : State := (live.setSq q (some x)); s.turn = some (q.val, k, cr) ∧
      s.sq q = some x ∧ s.fetches = true ∧ 0 < (x.tail + x.size - x.head) % max 1 x.size ∧ sqe.length = 64 ∧
      badOpcode q (leAt sqe 0 1) = false ∧ q.val ≠ 0) ∧
    (let q : Fin 65 := 2; let t : Nat := 1; let k : Nat := 0; let cr : List Nat := live.hst.credit;
      let s : State := (live.setSq 1 (some ⟨2, 1, 0, 0, 1⟩)); s.turn = some (t, k, cr) ∧ t ≠ q.val) ∧
    (let q : Nat := 1; let sqe : List Byte := leBytes 4 3 ++ List.replicate 60 0; let s : State := live; sqe.length = 64 ∧
      badOpcode q (leAt sqe 0 1) = true ∧ (q = 0 ∨ s.pwr.loss < 3)) ∧
    (let q : Fin 65 := 1; let cid : BitVec 16 := 0; let c : NCmd := NCx q 0 1 0 0 0 0 [];
      let s : State := (((live.cmdsT [c]).setFld rHstTeller 28 4 1).setFld rHstPwr 0 3 (3 - 1)); s.ncmd q cid = some c ∧
      c.st = 0 ∧ q.val ≠ 0 ∧ (c.op = 1 ∨ c.op = 2) ∧ s.pwr.loss < 3 ∧ (s.fld rHstTeller 28 4 = 1 ∨ s.fld rHstTeller 28 4 = 3) ∧
      s.hst.cmds.countP (fun d => d.st == 1) < 8 ∧ s.overlapped c = false ∧ s.fld rHstPwr 0 3 < 3 ∧ s.hostUp = true) ∧
    (let q : Fin 65 := 1; let cid : BitVec 16 := 0; let c : NCmd := NCx q 0 1 0 0 0 0 [];
      let s : State := ({ (live.cmdsT [c]) with pwr := { live.pwr with loss := 3 } } : State); s.ncmd q cid = some c ∧
      c.st = 0 ∧ q.val ≠ 0 ∧ (c.op = 1 ∨ c.op = 2) ∧ 3 ≤ s.pwr.loss) ∧
    (let q : Fin 65 := 0; let cid : BitVec 16 := 0; let c : NCmd := NCx q 0 0 0 0 0 0 [];
      let s : State := ((live.cmdsT [c]).setFld rHstTeller 28 4 0); s.ncmd q cid = some c ∧ s.pwr.loss < 3 ∧
      (¬(s.fld rHstTeller 28 4 = 1 ∨ s.fld rHstTeller 28 4 = 3) ∨ 8 ≤ s.hst.cmds.countP (fun d => d.st == 1) ∨ s.overlapped c = true)) ∧
    (let q : Fin 65 := 0; let cid : BitVec 16 := 0; let c : NCmd := NCx q 1 2 0 0 0 0 [];
      let s : State := ((live.cmdsT [c]).setFld rMemStat 28 4 0); s.ncmd q cid = some c ∧ c.st = 1 ∧ c.op = 2 ∧ c.res = none ∧
      s.rangeErr c ≠ stOk ∧ (s.memState ≠ 2 ∨ s.bulkWaits 2 = false)) ∧
    (let q : Fin 65 := 0; let cid : BitVec 16 := 0; let a : Nat := 0; let c : NCmd := NCx q 1 2 1 0 0 0 [];
      let s : State := (((live.cmdsT [c]).setFld rMemStat 28 4 0).setFld rHstRgnClass 0 2 1); s.ncmd q cid = some c ∧
      c.st = 1 ∧ c.op = 2 ∧ c.res = none ∧ s.rangeErr c = stOk ∧ c.nlb = 1 ∧ c.ns ≠ 4 ∧ s.nsAddr c.ns c.slba = some a ∧
      (s.memState ≠ 2 ∨ s.bulkWaits 2 = false)) ∧
    (let q : Fin 65 := 0; let cid : BitVec 16 := 0; let c : NCmd := NCx q 1 2 1 0 0 0 [];
      let s : State := ((live.cmdsT [c]).setFld rMemStat 28 4 0); s.ncmd q cid = some c ∧ c.st = 1 ∧ c.op = 2 ∧ c.res = none ∧
      s.rangeErr c = stOk ∧ c.nlb = 1 ∧ c.ns ≠ 4 ∧ s.nsAddr c.ns c.slba = none ∧ (s.memState ≠ 2 ∨ s.bulkWaits 2 = false)) ∧
    (let s : State := ({ (live.setFld rMemStat 28 4 2) with mem := { live.mem with owe := [0, 0, 1, 0] } } : State);
      s.memState = 2 ∧ s.bulkWaits 2 = true) ∧
    (let q : Fin 65 := 0; let cid : BitVec 16 := 0; let c : NCmd := NCx q 1 1 (2) 0 0 0 []; let s : State := (live.cmdsT [c]);
      s.ncmd q cid = some c ∧ c.st = 1 ∧ c.op = 1 ∧ c.res = none ∧ s.rangeErr c = stOk ∧ (c.ns = 2 ∨ c.ns = 3)) ∧
    (let q : Fin 65 := 0; let cid : BitVec 16 := 0; let c : NCmd := NCx q 1 1 4 0x4900 0 0 [];
      let s : State := ((live.cmdsT [c]).setFld (rCorJStat 0) 28 4 1); s.ncmd q cid = some c ∧ c.st = 1 ∧ c.op = 1 ∧
      c.res = none ∧ s.rangeErr c = stOk ∧ c.nlb = 1 ∧ c.ns = 4 ∧ s.tabErr (tabWin c.slba) ≠ 0) ∧
    (let q : Fin 65 := 0; let cid : BitVec 16 := 0; let c : NCmd := NCx q 1 1 4 0 0 0 (List.replicate 4096 0);
      let s : State := (live.cmdsT [c]); s.ncmd q cid = some c ∧ c.st = 1 ∧ c.op = 1 ∧ c.res = none ∧ s.rangeErr c = stOk ∧
      c.nlb = 1 ∧ c.ns = 4 ∧ s.tabErr (tabWin c.slba) = 0 ∧ s.tabUp (tabWin c.slba) = true ∧ c.data.length = 4096) ∧
    (let q : Fin 65 := 0; let cid : BitVec 16 := 0; let a : Nat := 8192 * 4096;
      let c : NCmd := NCx q 1 1 1 8192 0 0 (List.replicate 4096 0);
      let s : State := ((live.cmdsT [c]).setFld rHstRgnClass 0 2 1); s.ncmd q cid = some c ∧ c.st = 1 ∧ c.op = 1 ∧
      c.res = none ∧ s.rangeErr c = stOk ∧ c.nlb = 1 ∧ (c.ns = 1 ∨ c.ns = 5) ∧ s.partAt (c.slba * 4096) = none ∧
      s.nsAddr c.ns c.slba = some a ∧ c.data.length = 4096 ∧ s.burstStat c.early (c.slba * 4096) = .ok) ∧
    (let q : Fin 65 := 1; let cid : BitVec 16 := 0; let c : NCmd := NCx q 0 0 (0xFFFFFFFF) 0 0 0 [];
      let s : State := ((live.cmdsT [c]).setFld rHstTeller 28 4 1); s.ncmd q cid = some c ∧ c.op = 0 ∧ q.val ≠ 0 ∧ c.st = 0 ∧
      (s.fld rHstTeller 28 4 = 1 ∨ s.fld rHstTeller 28 4 = 3) ∧ s.pwr.loss < 3 ∧ (c.ns = 0xFFFFFFFF ∨ s.nsActive c.ns = true) ∧
      (∀ d ∈ s.hst.cmds, d.q = q.val → d.op ≠ 1)) ∧
    (let q : Fin 65 := 0; let cid : BitVec 16 := 1; let d : NCmd := NCx 0 0 1 0 0 0 0 [];
      let c : NCmd := { NCx 0 0 0 1 0 0 0 [] with cid := 1 }; let l : List NCmd := [c];
      let s : State := ((({ live with hst := { live.hst with cmds := d :: l } } : State).cmdsT [c]).cmdsT [d, c]);
      s.hst.cmds = d :: l ∧ d.q = q.val ∧ d.op = 1 ∧ d.cid ≠ cid ∧ s.ncmd q cid = some c ∧ s.pwr.loss < 3 ∧
      s.nsActive c.ns = true) := by
  refine ⟨?_, ?_, ?_, ?_, ?_, ?_, ?_, ?_, ?_, ?_, ?_, ?_, ?_, ?_, ?_, ?_, ?_, ?_, ?_, ?_, ?_⟩ <;> decide +kernel

theorem witness_NvmeFirmware :
    (let cid : BitVec 16 := 0; let c : NCmd := NCx 0 0 0x11 0 0 1 0 []; let s : State := (live.cmdsT [c]);
      s.adminIs cid 0x11 c ∧ s.flashUsed = false ∧ c.dw 11 ≠ 0 ∧
      (∀ d, s.hst.cmds.find? (fun d => d.q == 0 && d.op == 0x11 && d.st == 0) = some d → d.cid = c.cid) ∧
      c.dw 11 * 4 + (c.dw 10 + 1) * 4 ≤ slotSize ∧ (c.dw 10 + 1) * 4 ≤ 2 ^ 20 ∧
      (∀ p ∈ s.hst.dl, p.1 + p.2 ≤ c.dw 11 * 4 ∨ c.dw 11 * 4 + (c.dw 10 + 1) * 4 ≤ p.1)) ∧
    (let cid : BitVec 16 := 0; let c : NCmd := NCx 0 0 0x11 0 0 0 0 []; let s : State := (live.cmdsT [c]);
      s.adminIs cid 0x11 c ∧ s.flashUsed = false ∧ c.dw 11 = 0 ∧
      (∀ d, s.hst.cmds.find? (fun d => d.q == 0 && d.op == 0x11 && d.st == 0) = some d → d.cid = c.cid) ∧
      (c.dw 10 + 1) * 4 ≤ 2 ^ 20) ∧
    (let cid : BitVec 16 := 0; let c : NCmd := NCx 0 0 0x11 0 0 0 0 [];
      let s : State := ((live.cmdsT [c]).setFld rDevCfgStat 1 1 1); s.adminIs cid 0x11 c ∧ s.flashUsed = true) ∧
    (let cid : BitVec 16 := 0; let c : NCmd := NCx 0 0 0x11 0 0 slotSize 0 []; let s : State := (live.cmdsT [c]);
      s.adminIs cid 0x11 c ∧ s.flashUsed = false ∧ slotSize < c.dw 11 * 4 + (c.dw 10 + 1) * 4 ∧
      (∀ d, s.hst.cmds.find? (fun d => d.q == 0 && d.op == 0x11 && d.st == 0) = some d → d.cid = c.cid)) ∧
    (let cid : BitVec 16 := 0; let c : NCmd := NCx 0 0 0x11 0 0 0 0 [];
      let d : NCmd := { NCx 0 0 0x11 0 0 0 0 [] with cid := 1 }; let s : State := ((live.cmdsT [c]).cmdsT [d, c]);
      s.adminIs cid 0x11 c ∧ d.cid ≠ c.cid ∧ s.hst.cmds.find? (fun d => d.q == 0 && d.op == 0x11 && d.st == 0) = some d) ∧
    (let cid : BitVec 16 := 0; let c : NCmd := NCx 0 0 0x10 0 (0 * 8 + 0) 0 0 []; let s : State := (live.cmdsT [c]);
      s.adminIs cid 0x10 c ∧ c.ca = 0 ∧ c.fs = 0 ∧ s.vltState ≠ 6 ∧ s.vltBusy = false) ∧
    (let cid : BitVec 16 := 0; let c : NCmd := NCx 0 0 0x10 0 (1 * 8 + 0) 0 0 []; let s : State := (live.cmdsT [c]);
      s.adminIs cid 0x10 c ∧ c.ca = 1 ∧ c.fs = 0 ∧ s.vltState ≠ 6 ∧ s.vltBusy = false) ∧
    (let cid : BitVec 16 := 0; let c : NCmd := NCx 0 0 0x10 0 (2 * 8 + live.inactive + 1) 0 0 [];
      let s : State := (live.cmdsT [c]); s.adminIs cid 0x10 c ∧ c.ca = 2 ∧ c.fs = s.inactive + 1 ∧ s.vltState ≠ 6 ∧
      s.vltBusy = false) ∧
    (let cid : BitVec 16 := 0; let c : NCmd := NCx 0 0 0x10 0 (2 * 8 + live.activeSlot + 1) 0 0 [];
      let s : State := (live.cmdsT [c]); s.adminIs cid 0x10 c ∧ c.ca = 2 ∧ c.fs = s.activeSlot + 1 ∧ s.vltState ≠ 6) ∧
    (let cid : BitVec 16 := 0; let c : NCmd := NCx 0 0 0x10 0 (3 * 8 + 0) 0 0 []; let s : State := (live.cmdsT [c]);
      s.adminIs cid 0x10 c ∧ c.ca = 3 ∧ c.fs = 0 ∧ s.vltState ≠ 6 ∧ s.vltBusy = false) ∧
    (let cid : BitVec 16 := 0; let c : NCmd := NCx 0 0 0x10 0 0 0 0 [];
      let s : State := ((live.cmdsT [c]).setBit rDevCfgStat 1 true); s.adminIs cid 0x10 c ∧ c.ca = 0 ∧ c.fs = 0 ∧
      s.vltState ≠ 6 ∧ s.vltBusy = true) ∧
    (let cid : BitVec 16 := 0; let c : NCmd := NCx 0 0 0x10 0 (3 * 8 + 0) 0 0 [];
      let s : State := (((({ live with vlt := { live.vlt with commitCid := none } } : State).cmdsT [c]).setBit rDevCfgStat 1 true).setBit rDevCfgStat 1 true);
      s.adminIs cid 0x10 c ∧ c.ca = 3 ∧ c.fs = 0 ∧ s.vltState ≠ 6 ∧ s.vltBusy = true ∧ s.loading = true ∧
      s.vlt.commitCid = none) ∧
    (let s : State := ({ live with vlt := { live.vlt with verify := 0 } } : State); s.vlt.verify = 0) ∧
    (let s : State := ({ live with vlt := { live.vlt with verify := 1 } } : State); s.vlt.verify ≠ 0) ∧
    (let s : State := ({ live with vlt := { live.vlt with verify := 2 } } : State); s.vlt.verify ≠ 0) ∧
    (let s : State := ({ live with vlt := { live.vlt with verifyCid := none } } : State); s.vlt.verifyCid = none) := by
  refine ⟨?_, ?_, ?_, ?_, ?_, ?_, ?_, ?_, ?_, ?_, ?_, ?_, ?_, ?_, ?_, ?_⟩ <;> decide +kernel

theorem witness_NvmeAdmin :
    (let cid : BitVec 16 := 0; let c : NCmd := NCx 0 0 0xC1 0 0 0 0 (List.replicate 128 0); let s : State := (live.cmdsT [c]);
      s.adminIs cid 0xC1 c ∧ c.data.length = 128) ∧
    (let cid : BitVec 16 := 0; let c : NCmd := NCx 0 0 0xC2 0 0 0 0 [];
      let s : State := ({ (live.cmdsT [c]) with otp := { live.otp with revoked := 1 } } : State); s.adminIs cid 0xC2 c ∧
      s.otp.revoked.getLsbD (c.dw 10 % 4) = true) ∧
    (let cid : BitVec 16 := 0; let c : NCmd := NCx 0 0 0xC2 0 0 0 0 []; let s : State := (live.cmdsT [c]);
      s.adminIs cid 0xC2 c) ∧
    (let cid : BitVec 16 := 0; let c : NCmd := NCx 0 0 0xC6 0 0 0 0 []; let s : State := (live.cmdsT [c]);
      s.adminIs cid 0xC6 c ∧ c.dw 10 ≤ 4096) ∧
    (let cid : BitVec 16 := 0; let c : NCmd := NCx 0 0 0xC6 0 4097 0 0 []; let s : State := (live.cmdsT [c]);
      s.adminIs cid 0xC6 c ∧ 4096 < c.dw 10) ∧
    (let cid : BitVec 16 := 0; let c : NCmd := NCx 0 0 0xCE 0 0 0 0 []; let s : State := (live.cmdsT [c]);
      s.adminIs cid 0xCE c) ∧
    (let cid : BitVec 16 := 0; let c : NCmd := NCx 0 0 0x09 0 (1) 0 0 []; let s : State := (live.cmdsT [c]);
      s.adminIs cid 0x09 c ∧ c.dw 10 % 256 = 1) ∧
    (let cid : BitVec 16 := 0; let c : NCmd := NCx 0 0 0x09 0 (7) 0 0 []; let s : State := (live.cmdsT [c]);
      s.adminIs cid 0x09 c ∧ c.dw 10 % 256 = 7) ∧
    (let cid : BitVec 16 := 0; let c : NCmd := NCx 0 0 0x09 0 (12) 0 0 (List.replicate 256 0);
      let s : State := (live.cmdsT [c]); s.adminIs cid 0x09 c ∧ c.dw 10 % 256 = 12 ∧ c.data.length = 256) ∧
    (let cid : BitVec 16 := 0; let c : NCmd := NCx 0 0 0x09 0 (11) 0 0 []; let s : State := (live.cmdsT [c]);
      s.adminIs cid 0x09 c ∧ c.dw 10 % 256 = 11) ∧
    (let cid : BitVec 16 := 0; let q : Fin 65 := 1; let c : NCmd := NCx 0 0 0x05 0 (q + 65536 * 3) (1) 0 [];
      let s : State := (live.cmdsT [c]); s.adminIs cid 0x05 c ∧ c.dw 10 % 65536 = q ∧ q.val ≠ 0 ∧ s.cq q = none ∧
      c.dw 10 / 65536 ≠ 0 ∧ c.dw 10 / 65536 ≤ 4095 ∧ (c.dw 11).testBit 0 = true ∧ c.dw 11 / 65536 < 65) ∧
    (let cid : BitVec 16 := 0; let c : NCmd := NCx 0 0 0x05 0 0 0 0 []; let s : State := (live.cmdsT [c]);
      s.adminIs cid 0x05 c ∧ (c.dw 10 % 65536 = 0 ∨ 64 < c.dw 10 % 65536)) ∧
    (let cid : BitVec 16 := 0; let q : Fin 65 := 1; let c : NCmd := NCx 0 0 0x01 0 (q + 65536 * 3) (65536 * 3 + 1) 0 [];
      let s : State := ((live.cmdsT [c]).setCq 3 (some CQ0)); s.adminIs cid 0x01 c ∧ c.dw 10 % 65536 = q ∧ q.val ≠ 0 ∧
      s.sq q = none ∧ c.dw 11 / 65536 ≠ 0 ∧ c.dw 11 / 65536 ≤ 64 ∧ (s.cq (c.dw 11 / 65536)).isSome = true ∧
      c.dw 10 / 65536 ≠ 0 ∧ c.dw 10 / 65536 ≤ 4095 ∧ (c.dw 11).testBit 0 = true) ∧
    (let cid : BitVec 16 := 0; let c : NCmd := NCx 0 0 0x01 0 0 0 0 []; let s : State := (live.cmdsT [c]);
      s.adminIs cid 0x01 c ∧ (c.dw 10 % 65536 = 0 ∨ 64 < c.dw 10 % 65536)) ∧
    (let cid : BitVec 16 := 0; let c : NCmd := NCx 0 0 0x06 0 (1) 0 0 []; let s : State := (live.cmdsT [c]);
      s.adminIs cid 0x06 c ∧ c.dw 10 % 256 = 1) ∧
    (let cid : BitVec 16 := 0; let c : NCmd := NCx 0 0 0x06 1 0 0 0 []; let s : State := (live.cmdsT [c]);
      s.adminIs cid 0x06 c ∧ c.dw 10 % 256 = 0 ∧ 1 ≤ c.ns ∧ c.ns ≤ 5 ∧ s.nsActive c.ns = true) ∧
    (let cid : BitVec 16 := 0; let c : NCmd := NCx 0 0 0x06 0 0 0 0 []; let s : State := (live.cmdsT [c]);
      s.adminIs cid 0x06 c ∧ c.dw 10 % 256 = 0 ∧ (c.ns = 0 ∨ 5 < c.ns)) ∧
    (let cid : BitVec 16 := 0; let c : NCmd := NCx 0 0 0x02 0 (7 * 65536 + 0xC0) 0 0 []; let s : State := (live.cmdsT [c]);
      s.adminIs cid 0x02 c ∧ c.dw 10 = 7 * 65536 + 0xC0 ∧ c.dw 11 = 0 ∧ c.dw 12 = 0 ∧ c.dw 13 = 0 ∧ 32 ≤ s.faultPage.length) ∧
    (let cid : BitVec 16 := 0; let c : NCmd := NCx 0 0 0x02 0 (7 * 65536 + 3) 0 0 []; let s : State := (live.cmdsT [c]);
      s.adminIs cid 0x02 c ∧ c.dw 10 = 7 * 65536 + 3 ∧ c.dw 11 = 0 ∧ c.dw 12 = 0 ∧ c.dw 13 = 0) ∧
    (let cid : BitVec 16 := 0; let c : NCmd := NCx 0 0 0x0C 0 0 0 0 [];
      let s : State := (({ live with hst := { live.hst with aer := [] } } : State).cmdsT [c]); s.adminIs cid 0x0C c ∧
      s.hst.cmds.countP (fun d => d.q == 0 && d.st == 3 && d.op == 0x0C) < 8 ∧ s.hst.aer = []) ∧
    (let cid : BitVec 16 := 0; let e : Nat := 0; let l : List Nat := []; let c : NCmd := NCx 0 0 0x0C 0 0 0 0 [];
      let s : State := (({ live with hst := { live.hst with aer := e :: l } } : State).cmdsT [c]); s.adminIs cid 0x0C c ∧
      s.hst.cmds.countP (fun d => d.q == 0 && d.st == 3 && d.op == 0x0C) < 8 ∧ s.hst.aer = e :: l) ∧
    (let cid : BitVec 16 := 0; let c : NCmd := NCx 0 0 0x0C 0 0 0 0 [];
      let s : State := ((live.cmdsT [c]).cmdsT (c :: (List.range 8).map (fun i => { NCx 0 3 0x0C 0 0 0 0 [] with cid := BitVec.ofNat 16 (i + 1) })));
      s.adminIs cid 0x0C c ∧ 8 ≤ s.hst.cmds.countP (fun d => d.q == 0 && d.st == 3 && d.op == 0x0C)) := by
  refine ⟨?_, ?_, ?_, ?_, ?_, ?_, ?_, ?_, ?_, ?_, ?_, ?_, ?_, ?_, ?_, ?_, ?_, ?_, ?_, ?_, ?_, ?_⟩ <;> decide +kernel

theorem witness_NvmeController :
    (let cc : Word := BitVec.ofNat 32 (1 <<< (0 : Nat));
      let s : State := ({ live with hst := { live.hst with cc := 0 } } : State); s.ctlUp = true ∧ s.hst.cc.getLsbD 0 = false ∧
      cc.getLsbD 0 = true) ∧
    (let cc : Word := 0; let s : State := live; (s.hst.cc.getLsbD 0 = true ∨ cc.getLsbD 0 = false ∨ s.ctlUp = false)) ∧
    (let s : State := (live.setCstsT 0); s.hst.cc.getLsbD 0 = true ∧ s.ctlRdy = false ∧ s.ctlCfs = false ∧ s.released = true) ∧
    (let s : State := live; s.ctlUp = true ∧ s.hst.cc.getLsbD 0 = true) ∧
    (let s : State := ({ live with hst := { live.hst with cc := 0 } } : State); s.hst.cc.getLsbD 0 = false) ∧
    (let n : BitVec 2 := 1#2; let s : State := live; s.ctlUp = true ∧ s.ctlRdy = true ∧ s.ctlCfs = false ∧
      (n = 1#2 ∨ n = 2#2) ∧ s.shst = 0) ∧
    (let n : BitVec 2 := 0#2; (n = 0#2 ∨ n = 3#2)) ∧
    (let s : State := (live.setCstsT 5); s.shst = 1 ∧ s.inProgress = []) ∧
    (let s : State := live; (s.shst ≠ 1 ∨ s.inProgress ≠ [])) ∧
    (let cid : BitVec 16 := 0; let c : NCmd := NCx 0 0 0x09 0 2 5 0 []; let s : State := (live.cmdsT [c]);
      s.adminIs cid 0x09 c ∧ c.dw 10 % 256 = 2 ∧ 4 < c.dw 11 % 32) ∧
    (let cid : BitVec 16 := 0; let c : NCmd := NCx 0 0 0x09 0 2 2 0 [];
      let s : State := ((live.cmdsT [c]).setBit rDevCfgStat 3 true); s.adminIs cid 0x09 c ∧ c.dw 10 % 256 = 2 ∧
      2 ≤ c.dw 11 % 32 ∧ c.dw 11 % 32 ≤ 4 ∧ s.capture = true) ∧
    (let cid : BitVec 16 := 0; let c : NCmd := NCx 0 0 0x09 0 (2) (4) 0 [];
      let s : State := (((live.cmdsT [c]).setBit rDevCfgStat 3 false).setPart 0 { live.part 0 with seg := some G0 });
      s.adminIs cid 0x09 c ∧ c.dw 10 % 256 = 2 ∧ c.dw 11 % 32 = 4 ∧ s.capture = false ∧ s.segHeld = true) ∧
    (let cid : BitVec 16 := 0; let c : NCmd := NCx 0 0 0x09 0 (2) (3) 0 [];
      let s : State := ((((live.cmdsT [c]).setBit rDevCfgStat 3 false).setFld rMemStat 28 4 2).setFld rHstPwr 0 3 2);
      s.adminIs cid 0x09 c ∧ c.dw 10 % 256 = 2 ∧ c.dw 11 % 32 = 3 ∧ s.capture = false ∧ s.memState = 2 ∧ s.fld rHstPwr 0 3 ≤ 2) ∧
    (let s : State := (({ (((({ live with hst := { live.hst with apstEn := true } } : State).setBit rDevCfgStat 3 false).setFld rHstPwr 0 3 (3 - 1))) with hst := { (((({ live with hst := { live.hst with apstEn := true } } : State).setBit rDevCfgStat 3 false).setFld rHstPwr 0 3 (3 - 1))).hst with apst := leBytes 4 (3 * 8 + 100 * 256), apstEn := true } } : State).setFld rHstPwr 0 8 0);
      s.hst.apstEn = true ∧ s.inProgress = [] ∧ s.capture = false ∧ s.fld rHstPwr 4 3 = s.fld rHstPwr 0 3 ∧
      s.fld rHstPwr 0 3 < 3 ∧ s.apstEntry (s.fld rHstPwr 0 3) = (3, 100)) ∧
    (let s : State := ({ live with hst := { live.hst with apstEn := false } } : State);
      (s.hst.apstEn = false ∨ s.inProgress ≠ [] ∨ s.capture = true)) ∧
    (let s : State := live; s.fld rHstPwr 4 3 = s.fld rHstPwr 0 3) ∧
    (let s : State := ((live.setFld rHstPwr 4 3 3).setFld rMemStat 28 4 0); s.fld rHstPwr 4 3 = 3 ∧ s.memState ≠ 4) ∧
    (let s : State := ((live.setFld rHstPwr 4 3 1).setFld rHstPwr 0 3 0); s.fld rHstPwr 4 3 = 1 ∧ s.fld rHstPwr 0 3 = 0) := by
  refine ⟨?_, ?_, ?_, ?_, ?_, ?_, ?_, ?_, ?_, ?_, ?_, ?_, ?_, ?_, ?_, ?_, ?_, ?_⟩ <;> decide +kernel

theorem witness_MintAndPps :
    (let s : State := live; let u : State := ((s.commit rMintSetSecLo).commit rMintSetSecHi).commit rMintSetNs;
      s.reaches 13 = true ∧ s.unitLive 13 1 = true ∧ u.fld rMintSetNs 0 30 < 1000000000) ∧
    (let s : State := (live.setShd rMintSetNs 1000000000#32);
      let u : State := ((s.commit rMintSetSecLo).commit rMintSetSecHi).commit rMintSetNs; s.reaches 13 = true ∧
      s.unitLive 13 1 = true ∧ 1000000000 ≤ u.fld rMintSetNs 0 30) ∧
    (let s : State := live; let u : State := (s.commit rMintStepNs).commit rMintStepFrac;
      let d : Int := (u.rd rMintStepNs).toInt * 2 ^ 44 + u.fld rMintStepFrac 0 16 * 2 ^ 28; s.reaches 13 = true ∧
      s.unitLive 13 1 = true ∧ 0 ≤ s.mint.fine + d) ∧
    (let s : State := (live.setShd rMintStepNs 0xFFFFFFFF#32); let u : State := (s.commit rMintStepNs).commit rMintStepFrac;
      let d : Int := (u.rd rMintStepNs).toInt * 2 ^ 44 + u.fld rMintStepFrac 0 16 * 2 ^ 28; s.reaches 13 = true ∧
      s.unitLive 13 1 = true ∧ s.mint.fine + d < 0) ∧
    (let s : State := live; s.reaches 13 = true ∧ s.unitLive 13 1 = true) ∧
    (let s : State := (live.setFence 13 1 true); (s.reaches 13 = false ∨ s.unitLive 13 1 = false)) ∧
    (let m : Mint := ⟨0, 0, 0⟩; let s : State := live; m.fine ≤ s.mint.fine) ∧
    (let m : Mint := ⟨0, 0, 0⟩; let rate : Int := 0;
      let s : State := ({ live with pwr := { live.pwr with phase := .released } } : State); m.sec < 2 ^ 48 - 1 ∧
      m.ns < 1000000000 ∧ m.fr < 2 ^ 44 ∧ 0 ≤ rate ∧ rate < 2 ^ 44 ∧ (s.rd rMintRate).toInt = rate ∧ s.mint = m ∧
      s.pwr.phase = .released ∧ s.mintUp = true) ∧
    (let s : State := (live.setFld rMintStat 28 4 1); s.servo = 1 ∧ s.unitLive 13 1 = true) ∧
    (let s : State := (live.setFld rMintStat 28 4 0); s.servo ≠ 1) ∧
    (let s : State := ({ live with net := { live.net with ppsIn := none } } : State); s.unitLive 13 1 = true ∧
      s.serving = true ∧ s.net.ppsIn = none) ∧
    (let stamp : Nat := 0; let m : Mint := ⟨0, 0, 0⟩;
      let s : State := ({ live with net := { live.net with ppsIn := some m } } : State); s.unitLive 13 1 = true ∧
      s.serving = true ∧ s.net.ppsIn = some m ∧ m.tu ≤ stamp ∧ stamp < m.tu + 900000000 * tuPerNs) ∧
    (let s : State := (live.setFence 13 1 true); (s.unitLive 13 1 = false ∨ s.serving = false)) ∧
    (let s : State := ({ ({ live with net := { live.net with ppsGone := false } } : State) with net := { live.net with ppsIn := some ⟨0, 0, 0⟩ } } : State);
      s.net.ppsIn.isSome = true ∧ s.net.ppsGone = false ∧ s.unitLive 13 1 = true) ∧
    (let s : State := ({ live with net := { live.net with ppsGone := true } } : State);
      (s.net.ppsGone = true ∨ s.net.ppsIn = none)) ∧
    (let n : Nat := 0;
      let s : State := (({ live with net := { live.net with ppsOut := false } } : State).setBit rMintPpsout 31 true);
      s.ppsDue = some n ∧ s.ppsOn = true ∧ s.net.ppsOut = false) ∧
    (let s : State := live; (s.ppsDue = none ∨ s.ppsOn = false ∨ s.net.ppsOut = true)) := by
  refine ⟨?_, ?_, ?_, ?_, ?_, ?_, ?_, ?_, ?_, ?_, ?_, ?_, ?_, ?_, ?_, ?_, ?_⟩ <;> decide +kernel

theorem witness_Ethernet :
    (let m : Fin 2 := 0;
      let s : State := ((((live.setBit (rNetPortCfg m) 31 true).setFld (rNetPortStat m) 0 5 0).setBit (rNetPortStat m) 31 false).setNport m { live.nport m with blk := true, fecLock := true });
      s.bit (rNetPortCfg m) 31 = true ∧ s.unitLive 13 (2 + m) = true ∧ s.fld (rNetPortStat m) 0 5 = 0 ∧
      (s.nport m).blk = true ∧ (s.nport m).fecLock = true ∧ s.bit (rNetPortStat m) 31 = false) ∧
    (let m : Fin 2 := 0; let s : State := (live.setFld (rNetPortStat m) 0 5 1);
      (s.fld (rNetPortStat m) 0 5 ≠ 0 ∨ (s.nport m).blk = false)) ∧
    (let m : Fin 2 := 0; let s : State := (live.setBit (rNetPortStat m) 31 false); (s.netUp m = false ∨ s.serving = false)) ∧
    (let m : Fin 2 := 0; let f : List Byte := []; let s : State := (live.setBit (rNetPortStat m) 31 true); s.netUp m = true ∧
      s.serving = true ∧ (f.length < 64 ∨ 9600 < f.length)) ∧
    (let m : Fin 2 := 0; let f : List Byte := List.replicate 64 0; let s : State := (live.setBit (rNetPortStat m) 31 true);
      s.netUp m = true ∧ s.serving = true ∧ 64 ≤ f.length ∧ f.length ≤ 9600 ∧
      crc32 (f.take (f.length - 4)) ≠ leNat (f.drop (f.length - 4))) ∧
    (let m : Fin 2 := 0;
      let f : List Byte := (let b : List Byte := List.replicate 12 0 ++ [0x88, 0x08] ++ List.replicate 46 0; b ++ leBytes 4 (crc32 b));
      let s : State := (live.setBit (rNetPortStat m) 31 true); s.netUp m = true ∧ s.serving = true ∧ 64 ≤ f.length ∧
      f.length ≤ 9600 ∧ crc32 (f.take (f.length - 4)) = leNat (f.drop (f.length - 4)) ∧ beNat (slice f 12 2) = 0x8808) ∧
    (let m : Fin 2 := 0;
      let f : List Byte := (let b : List Byte := List.replicate 12 0 ++ [0, 0] ++ List.replicate 46 0; b ++ leBytes 4 (crc32 b));
      let s : State := (live.setBit (rNetPortStat m) 31 true); s.netUp m = true ∧ s.serving = true ∧ 64 ≤ f.length ∧
      f.length ≤ 9600 ∧ crc32 (f.take (f.length - 4)) = leNat (f.drop (f.length - 4)) ∧ beNat (slice f 12 2) ≠ 0x8808 ∧
      s.macPass m f = true ∧ s.ringReady m (if isPtp f then 3 else 4) = false) ∧
    (let m : Fin 2 := 0;
      let f : List Byte := (let b : List Byte := List.replicate 12 0 ++ [0x88, 0xF7] ++ List.replicate 46 0; b ++ leBytes 4 (crc32 b));
      let s : State := (((live.setBit (rNetPortStat m) 31 true).setFld (ringBase m 3 + 8) 31 1 1).setFld (ringBase m 3 + 16) 0 12 1);
      s.netUp m = true ∧ s.serving = true ∧ 64 ≤ f.length ∧ f.length ≤ 9600 ∧
      crc32 (f.take (f.length - 4)) = leNat (f.drop (f.length - 4)) ∧ beNat (slice f 12 2) ≠ 0x8808 ∧ s.macPass m f = true ∧
      isPtp f = true ∧ s.ringReady m 3 = true ∧ s.hostUp = true) ∧
    (let m : Fin 2 := 0; let r : Fin 5 := 0; let v : Word := 0; let s : State := live; s.reaches 13 = true ∧
      s.unitLive 13 (2 + m) = true ∧ (fget v 0 12 + 4096 - s.ringHead m r) % 4096 < s.ringSize m r) ∧
    (let m : Fin 2 := 0; let r : Fin 5 := 0; let v : Word := 16; let s : State := live; s.reaches 13 = true ∧
      s.unitLive 13 (2 + m) = true ∧ s.ringSize m r ≤ (fget v 0 12 + 4096 - s.ringHead m r) % 4096) ∧
    (let m : Fin 2 := 0; let q : Fin 3 := 0; let desc : List Byte := [];
      let s : State := ((live.setFld (ringBase m q + 8) 31 1 1).setFld (ringBase m q + 16) 0 12 1);
      s.unitLive 13 (2 + m) = true ∧ s.ringReady m q = true ∧ s.hostUp = true ∧ s.serving = true ∧
      (leAt desc 8 2 < 14 ∨ 9596 < leAt desc 8 2)) ∧
    (let m : Fin 2 := 0; let q : Fin 3 := 0;
      let desc : List Byte := List.replicate 8 0 ++ leBytes 2 9596 ++ List.replicate 6 0;
      let s : State := (((live.setBit (rNetPortStat m) 31 false).setFld (ringBase m q + 8) 31 1 1).setFld (ringBase m q + 16) 0 12 1);
      s.unitLive 13 (2 + m) = true ∧ s.ringReady m q = true ∧ s.hostUp = true ∧ s.serving = true ∧ 14 ≤ leAt desc 8 2 ∧
      leAt desc 8 2 ≤ 9596 ∧ s.netUp m = false) ∧
    (let m : Fin 2 := 0; let desc : List Byte := List.replicate 8 0 ++ leBytes 2 14 ++ List.replicate 6 0;
      let f : List Byte := List.replicate 14 0;
      let s : State := (((live.setBit (rNetPortStat m) 31 true).setFld (ringBase m 0 + 8) 31 1 1).setFld (ringBase m 0 + 16) 0 12 1);
      s.ringReady m 0 = true ∧ s.hostUp = true ∧ s.serving = true ∧ 14 ≤ leAt desc 8 2 ∧ leAt desc 8 2 ≤ 9596 ∧
      s.netUp m = true ∧ f.length = leAt desc 8 2 ∧ leAt desc 0x0A 2 = 0) ∧
    (let m : Fin 2 := 0; let v : Word := BitVec.ofNat 32 (1 <<< (31 : Nat));
      let s : State := (live.setFld (rNetPortModi2c m) 28 2 0); s.reaches 13 = true ∧ s.unitLive 13 (2 + m) = true ∧
      s.fld (rNetPortModi2c m) 28 2 ≠ 1 ∧ v.getLsbD 31 = true) ∧
    (let m : Fin 2 := 0; let s : State := (live.setFld (rNetPortModi2c m) 28 2 1); s.reaches 13 = true ∧
      s.unitLive 13 (2 + m) = true ∧ s.fld (rNetPortModi2c m) 28 2 = 1) ∧
    (let m : Fin 2 := 0; let s : State := (live.setFld (rNetPortModi2c m) 28 2 1); s.fld (rNetPortModi2c m) 28 2 = 1) ∧
    (let m : Fin 2 := 0; let s : State := (live.setFld (rNetPortModi2c m) 28 2 0); s.fld (rNetPortModi2c m) 28 2 ≠ 1) := by
  refine ⟨?_, ?_, ?_, ?_, ?_, ?_, ?_, ?_, ?_, ?_, ?_, ?_, ?_, ?_, ?_, ?_, ?_⟩ <;> decide +kernel

theorem witness_DisplayHeads :
    (let d : Fin 3 := 0;
      let s : State := ((((live.setBit (rOutDhCfg d) 31 true).setFld (rOutDhStat d) 28 4 1).setFld (rOutDhStat d) 28 4 0).setFld (rOutDhStat d) 28 4 1);
      s.reaches 14 = true ∧ s.unitLive 14 (1 + d) = true ∧ s.bit (rOutDhCfg d) 31 = true ∧ s.dhState d ≠ 0 ∧ s.dhState d ≠ 7) ∧
    (let d : Fin 3 := 0; let e : Nat := 5; let s : State := ((live.setBit (rOutDhCfg d) 31 true).setFld (rOutDhStat d) 28 4 0);
      s.reaches 14 = true ∧ s.unitLive 14 (1 + d) = true ∧ s.bit (rOutDhCfg d) 31 = true ∧
      (s.dhState d = 0 ∨ s.dhState d = 7) ∧ s.dhCheck d = e ∧ e ≠ 0) ∧
    (let s : State := (((((live.setBit (rOutDhCfg 0) 31 true).setFld (rOutDhStat 0) 28 4 0).setFld (rOutDh0Htime 0) 16 16 100).setFld (rOutDh0Vtime 0) 16 16 100).setFld (rOutDh0Pclk 0) 0 32 100);
      s.reaches 14 = true ∧ s.unitLive 14 1 = true ∧ s.bit (rOutDhCfg 0) 31 = true ∧ s.dhState 0 = 0 ∧ s.dhCheck 0 = 0) ∧
    (let d : Fin 3 := 1;
      let s : State := (((live.setBit (rOutDhCfg d) 31 true).setFld (rOutDhStat d) 28 4 0).setFld (rOutDhSdifmt d) 16 4 11);
      s.reaches 14 = true ∧ s.unitLive 14 (1 + d) = true ∧ s.bit (rOutDhCfg d) 31 = true ∧ s.dhState d = 0 ∧ s.dhCheck d = 0 ∧
      d.val ≠ 0) ∧
    (let d : Fin 3 := 0; let s : State := live; s.dhMember d = false) ∧
    (let d : Fin 3 := 0; let s : State := (live.setFld (rOutDhStat d) 28 4 2); s.reaches 14 = true ∧
      s.unitLive 14 (1 + d) = true ∧ (s.dhState d = 2 ∨ s.dhState d = 3)) ∧
    (let s : State := (live.setFld (rOutDhStat 0) 28 4 4); s.reaches 14 = true ∧ s.unitLive 14 1 = true ∧
      (s.dhState 0 = 4 ∨ s.dhState 0 = 5)) ∧
    (let d : Fin 3 := 0; let s : State := (live.setFld (rOutDhStat d) 28 4 0); (s.dhState d = 0 ∨ 6 ≤ s.dhState d)) ∧
    (let d : Fin 3 := 0; let s : State := (live.setFld (rOutDhStat d) 28 4 0); s.reaches 14 = true ∧
      s.unitLive 14 (1 + d) = true ∧ s.dhPending d = false ∧ s.dhState d = 0) ∧
    (let d : Fin 3 := 0; let s : State := (live.setFld (rOutDhStat d) 28 4 2); s.reaches 14 = true ∧
      s.unitLive 14 (1 + d) = true ∧ s.dhPending d = false ∧ s.dhState d = 2) ∧
    (let d : Fin 3 := 0;
      let s : State := ((live.setFld (rOutDhStat d) 28 4 6).setDh d { live.dh d with ready := true, left := 0 });
      s.unitLive 14 (1 + d) = true ∧ s.dhState d = 6 ∧ (s.dh d).ready = true ∧ (s.dh d).left = 0) ∧
    (let d : Fin 3 := 0; let s : State := (live.setFld (rOutDhStat d) 28 4 0);
      (s.dhState d = 0 ∨ s.dhState d = 7 ∨ s.unitLive 14 (1 + d) = false)) ∧
    (let d : Fin 3 := 0;
      let s : State := ((live.setFld (rOutDhStat d) 28 4 1).setDh d { live.dh d with ready := true, at_ := none });
      s.unitLive 14 (1 + d) = true ∧ s.dhState d = 1 ∧ (s.dh d).ready = true ∧ (s.dh d).at_ = none) ∧
    (let d : Fin 3 := 1; let s : State := (live.setFld (rOutDhStat d) 28 4 2); d.val ≠ 0 ∧ s.unitLive 14 (1 + d) = true ∧
      s.dhState d = 2) ∧
    (let s : State := ((live.setFld (rOutDhStat 0) 28 4 1).setDh 0 { live.dh 0 with vcc := true, hpd := false });
      s.dhState 0 = 1 ∧ (s.dh 0).vcc = true ∧ (s.dh 0).hpd = false) ∧
    (let s : State := ((live.setFld (rOutDhStat 0) 28 4 1).setDh 0 { live.dh 0 with hpd := false }); s.dhState 0 = 1 ∧
      (s.dh 0).hpd = false) ∧
    (let s : State := ((live.setFld (rOutDhStat 0) 28 4 1).setDh 0 { live.dh 0 with hpd := true, ready := false });
      s.dhState 0 = 1 ∧ (s.dh 0).hpd = true ∧ (s.dh 0).ready = false) ∧
    (let s : State := (live.setFld (rOutDhStat 0) 28 4 2); 2 ≤ s.dhState 0 ∧ s.dhState 0 ≤ 5) ∧
    (let s : State := (live.setFld (rOutDhStat 0) 28 4 2); 2 ≤ s.dhState 0 ∧ s.dhState 0 ≤ 5) ∧
    (let s : State := ((live.setFld (rOutDhStat 0) 28 4 6).setDh 0 { live.dh 0 with link := false, ready := false });
      s.dhState 0 = 6 ∧ (s.dh 0).link = false ∧ (s.dh 0).ready = false) ∧
    (let s : State := ((live.setFld (rOutDhStat 0) 28 4 6).setDh 0 { live.dh 0 with vcc := false }); s.dhState 0 = 6 ∧
      (s.dh 0).vcc = false) ∧
    (let d : Fin 3 := 0; let l : Fin 4 := 0;
      let s : State := ((live.setDh d { live.dh d with under := false }).setDh d { live.dh d with pics := [some LP0, none, none, none] });
      s.fetching d l = true ∧ (s.dh d).under = false) ∧
    (let d : Fin 3 := 0; let l : Fin 4 := 0;
      let s : State := (live.setDh d { live.dh d with pics := [some LP0, none, none, none] }); s.fetching d l = true) ∧
    (let d : Fin 3 := 0; let l : Fin 4 := 0;
      let s : State := (live.setDh d { live.dh d with pics := [some LP0, none, none, none] }); s.fetching d l = true) ∧
    (let d : Fin 3 := 0; let l : Fin 4 := 0; let s : State := live; s.fetching d l = false) ∧
    (let s : State := ({ ((live.setBit (rOutDh0Ovd 0) 31 false).setFld (rOutDhOd 0) 16 16 1) with out := { live.out with fifo := [(0, 0)] } } : State);
      s.bit (rOutDh0Ovd 0) 31 = false ∧ (∃ f ∈ s.out.fifo, f.2 < s.fld (rOutDhOd (f.1 / 4)) 16 16)) := by
  refine ⟨?_, ?_, ?_, ?_, ?_, ?_, ?_, ?_, ?_, ?_, ?_, ?_, ?_, ?_, ?_, ?_, ?_, ?_, ?_, ?_, ?_, ?_, ?_, ?_, ?_, ?_⟩ <;> decide +kernel

theorem witness_AudioPorts :
    (let n : Fin 2 := 0; let s : State := ((live.setBit (rOutAesrxCfg n) 31 true).setBit (rOutAesrxStat n) 31 true);
      s.aesOn n = true ∧ s.bit (rOutAesrxStat n) 31 = true) ∧
    (let n : Fin 2 := 0; let s : State := live; (s.aesOn n = false ∨ s.bit (rOutAesrxStat n) 31 = false)) ∧
    (let n : Fin 2 := 0; let s : State := (live.setFld (rOutAesrxRdptr n) 0 12 1); s.aesFull n = true) ∧
    (let n : Fin 2 := 0; let t : Mint := ⟨0, 0, 0⟩; let l : List Nat := List.replicate 384 0;
      let s : State := (live.setAesRx n { live.aesRx n with cur := some (t, true) }); (s.aesRx n).cur = some (t, true) ∧
      (∀ w ∈ l, w % 2 = 0) ∧ l.length = 384) ∧
    (let n : Fin 2 := 0; let t : Mint := ⟨0, 0, 0⟩; let l : List Nat := [];
      let s : State := (live.setAesRx n { live.aesRx n with cur := some (t, false) }); (s.aesRx n).cur = some (t, false) ∧
      (∀ w ∈ l, w % 2 = 0) ∧ s.aesLevel n ≤ 2048) ∧
    (let n : Fin 2 := 0; let t : Mint := ⟨0, 0, 0⟩; let l : List Nat := [0, 0];
      let s : State := ((({ (live.setAesRx n { live.aesRx n with cur := some (t, false) }) with mem := { live.mem with q := (List.range 64).map (fun i => ⟨8, true, 0, 64 * i, [], 0, true, 0, 0⟩) } } : State)).setAesRx 0 ⟨some (t, false), 0, 0, (List.range 64).map (64 * ·), false⟩);
      (s.aesRx n).cur = some (t, false) ∧ (∀ w ∈ l, w % 2 = 0) ∧ 2 ≤ l.length ∧ 4024 < s.aesLevel n) ∧
    (let n : Fin 2 := 0;
      let s : State := ((({ live with mem := { live.mem with q := (List.range 32).map (fun i => ⟨8, true, 0, 64 * i, [], 0, true, 0, 0⟩) } } : State)).setAesRx 0 ⟨none, 0, 0, (List.range 32).map (64 * ·), false⟩);
      2048 ≤ s.aesLevel n) ∧
    (let n : Fin 2 := 0; let s : State := live; s.aesLevel n < 1024) ∧
    (let n : Fin 2 := 0; let s : State := ((live.setBit (rOutAesrxCfg n) 31 true).setBit (rOutAesrxStat n) 31 false);
      s.aesOn n = true ∧ s.bit (rOutAesrxStat n) 31 = false) ∧
    (let n : Fin 2 := 0;
      let s : State := (((live.setBit (rOutAesrxCfg n) 31 true).setBit (rOutAesrxStat n) 31 true).setAesRx n { live.aesRx n with cur := none });
      s.aesOn n = true ∧ s.bit (rOutAesrxStat n) 31 = true ∧ (s.aesRx n).cur = none) ∧
    (let n : Fin 2 := 0; let b : Bool := false; let s : State := live; s.bit (rOutAesrxStat n) 31 = b) ∧
    (let s : State := ((live.setFld rOutAestxStat 28 4 0).setFld rOutAestxRate 0 4 (7 - 1)); s.reaches 14 = true ∧
      s.unitLive 14 6 = true ∧ (s.txState = 0 ∨ s.txState = 3) ∧ s.fld rOutAestxRate 0 4 < 7) ∧
    (let s : State := ((live.setFld rOutAestxStat 28 4 0).setFld rOutAestxRate 0 4 7); s.reaches 14 = true ∧
      s.unitLive 14 6 = true ∧ (s.txState = 0 ∨ s.txState = 3) ∧ 7 ≤ s.fld rOutAestxRate 0 4) ∧
    (let s : State := (live.setFld rOutAestxStat 28 4 1); s.reaches 14 = true ∧ (s.txState = 1 ∨ s.txState = 2) ∧
      s.unitLive 14 6 = true) ∧
    (let s : State := (live.setFld rOutAestxStat 28 4 2); s.unitLive 14 6 = true ∧ s.txState = 2 ∧
      s.fld rOutAestxHead 0 12 = s.fld rOutAestxTail 0 12) ∧
    (let h : Nat := 0;
      let s : State := (((live.setFld rOutAestxStat 28 4 2).setFld rOutAestxHead 0 12 h).setFld rOutAestxTail 0 12 1);
      s.unitLive 14 6 = true ∧ s.txState = 2 ∧ s.fld rOutAestxHead 0 12 = h ∧ h ≠ s.fld rOutAestxTail 0 12) ∧
    (let s : State := (live.setFld rOutAestxStat 28 4 0); (s.txState = 0 ∨ s.txState = 3)) ∧
    (let n : Nat := 4; let h : Nat := 0; let t : Nat := 0; let v : Word := 3;
      let s : State := ((live.setFld rOutAestxHead 0 12 h).setFld rOutAestxTail 0 12 t); s.reaches 14 = true ∧
      s.unitLive 14 6 = true ∧ s.aesBlocks rOutAestxRing = n ∧ s.fld rOutAestxHead 0 12 = h ∧ s.fld rOutAestxTail 0 12 = t ∧
      fget v 0 12 < n ∧ (t + n - h % n) % n + (fget v 0 12 + n - t % n) % n < n) ∧
    (let v : Word := 4; let s : State := live; s.reaches 14 = true ∧ s.unitLive 14 6 = true ∧
      s.aesBlocks rOutAestxRing ≤ fget v 0 12) := by
  refine ⟨?_, ?_, ?_, ?_, ?_, ?_, ?_, ?_, ?_, ?_, ?_, ?_, ?_, ?_, ?_, ?_, ?_, ?_, ?_⟩ <;> decide +kernel

theorem witness_ClearingHouse :
    (let n : Fin 64 := 0; let s : State := live; (∀ e ∈ s.ch.q, e.ch ≠ n.val)) ∧
    (let n : Fin 64 := 0; let a : List ChEv := []; let b : List ChEv := []; let c : Nat := 0; let l : BitVec 64 := 0;
      let s : State := (({ live with ch := { live.ch with q := a ++ ⟨n.val, c, l⟩ :: b } } : State).setBit (rSvcChCfg n) 31 false);
      s.ch.q = a ++ ⟨n.val, c, l⟩ :: b ∧ (∀ e ∈ a ++ b, e.ch ≠ n.val) ∧ s.unitLive 15 1 = true ∧
      s.bit (rSvcChCfg n) 31 = false) ∧
    (let n : Fin 64 := 0; let a : List ChEv := []; let b : List ChEv := []; let c : Nat := 0; let l : BitVec 64 := 1;
      let s : State := (({ live with ch := { live.ch with q := a ++ ⟨n.val, c, l⟩ :: b } } : State).setBit (rSvcChCfg n) 31 true);
      s.ch.q = a ++ ⟨n.val, c, l⟩ :: b ∧ (∀ e ∈ a ++ b, e.ch ≠ n.val) ∧ s.unitLive 15 1 = true ∧
      s.bit (rSvcChCfg n) 31 = true ∧ l.getLsbD n = true) ∧
    (let n : Fin 64 := 0; let a : List ChEv := []; let b : List ChEv := []; let c : Nat := 0; let l : BitVec 64 := 0;
      let s : State := ((({ live with ch := { live.ch with q := a ++ ⟨n.val, c, l⟩ :: b } } : State).setBit (rSvcChCfg n) 31 true).setBit (rSvcChGate n) 0 true);
      s.ch.q = a ++ ⟨n.val, c, l⟩ :: b ∧ (∀ e ∈ a ++ b, e.ch ≠ n.val) ∧ s.unitLive 15 1 = true ∧
      s.bit (rSvcChCfg n) 31 = true ∧ l.getLsbD n = false ∧ s.gateOpen n = false) ∧
    (let n : Fin 64 := 0; let a : List ChEv := []; let b : List ChEv := []; let c : Nat := 0; let l : BitVec 64 := 0;
      let s : State := ({ ((({ live with ch := { live.ch with q := a ++ ⟨n.val, c, l⟩ :: b } } : State).setBit (rSvcChCfg n) 31 true).setFld (rSvcChRefract n) 0 13 2) with ch := { ((({ live with ch := { live.ch with q := a ++ ⟨n.val, c, l⟩ :: b } } : State).setBit (rSvcChCfg n) 31 true)).ch with last := [(0, live.pxCycle + 1)] } } : State);
      s.ch.q = a ++ ⟨n.val, c, l⟩ :: b ∧ (∀ e ∈ a ++ b, e.ch ≠ n.val) ∧ s.unitLive 15 1 = true ∧
      s.bit (rSvcChCfg n) 31 = true ∧ l.getLsbD n = false ∧ s.gateOpen n = true ∧ s.refractory n = true) ∧
    (let n : Fin 64 := 0; let a : List ChEv := []; let b : List ChEv := []; let c : Nat := 0; let l : BitVec 64 := 0;
      let s : State := ((({ live with ch := { live.ch with q := a ++ ⟨n.val, c, l⟩ :: b } } : State).setBit (rSvcChCfg n) 31 true).setBit (rSvcChCfg n) 30 false);
      s.ch.q = a ++ ⟨n.val, c, l⟩ :: b ∧ (∀ e ∈ a ++ b, e.ch ≠ n.val) ∧ s.unitLive 15 1 = true ∧
      s.bit (rSvcChCfg n) 31 = true ∧ l.getLsbD n = false ∧ s.gateOpen n = true ∧ s.refractory n = false ∧
      s.bit (rSvcChCfg n) 30 = false) ∧
    (let n : Fin 64 := 0; let a : List ChEv := []; let b : List ChEv := []; let c : Nat := 0; let l : BitVec 64 := 0;
      let s : State := ((({ live with ch := { live.ch with q := a ++ ⟨n.val, c, l⟩ :: b } } : State).setBit (rSvcChCfg n) 31 true).setBit (rSvcChCfg n) 30 true);
      s.ch.q = a ++ ⟨n.val, c, l⟩ :: b ∧ (∀ e ∈ a ++ b, e.ch ≠ n.val) ∧ s.unitLive 15 1 = true ∧
      s.bit (rSvcChCfg n) 31 = true ∧ l.getLsbD n = false ∧ s.gateOpen n = true ∧ s.refractory n = false ∧
      s.bit (rSvcChCfg n) 30 = true) ∧
    (let n : Nat := 0; let s : State := (live.setFld (rSvcChCfg n) 28 2 0); s.fld (rSvcChCfg n) 28 2 = 0) ∧
    (let n : Nat := 0; let s : State := (live.setFld (rSvcChCfg n) 28 2 3); n < 32 ∧ s.fld (rSvcChCfg n) 28 2 = 3) ∧
    (let n : Fin 64 := 0; let c : Nat := 0; let l : BitVec 64 := 0; let m : BitVec 64 := 0;
      let s : State := ((({ live with ch := { live.ch with q := [⟨n.val, c, l⟩, ⟨n.val, c, m⟩] } } : State).setBit (rSvcChCfg n) 31 true).setBit (rSvcChGate n) 0 true);
      s.ch.q = [⟨n.val, c, l⟩, ⟨n.val, c, m⟩] ∧ s.unitLive 15 1 = true ∧ s.bit (rSvcChCfg n) 31 = true ∧ l.getLsbD n = false ∧
      m.getLsbD n = false ∧ s.gateOpen n = false) ∧
    (let n : Fin 64 := 0; let c : Nat := 0; let d : Nat := 1; let l : BitVec 64 := 0; let m : BitVec 64 := 0;
      let s : State := (({ live with ch := { live.ch with q := [⟨n.val, c, l⟩, ⟨n.val, d, m⟩] } } : State).setBit (rSvcChCfg n) 31 false);
      s.ch.q = [⟨n.val, c, l⟩, ⟨n.val, d, m⟩] ∧ c ≠ d ∧ s.unitLive 15 1 = true ∧ s.bit (rSvcChCfg n) 31 = false) ∧
    (let x : Nat := 0; let s : State := live; let c : Nat := s.now; c = (if 0x098 ≤ x then s.pxCycle else s.now) ∧
      (∀ k ∈ s.ch.tasks, k.input = x → k.cyc ≠ c)) ∧
    (let x : Nat := 0;
      let s : State := ({ live with ch := { live.ch with tasks := [⟨0, 0, 0, 5000000000, []⟩], set := [] } } : State);
      let c : Nat := s.now; c = (if 0x098 ≤ x then s.pxCycle else s.now) ∧ (∃ k ∈ s.ch.tasks, k.input = x ∧ k.cyc = c)) ∧
    (let s : State := live; s.reaches 15 = true ∧ s.unitLive 15 1 = true) ∧
    (let s : State := live; s.unitLive 15 1 = true) ∧
    (let k : Fin 16 := 0; let j : Task := ⟨0x98, 0, 0, 0, []⟩;
      let s : State := ({ live with ch := { live.ch with tasks := [j], set := [] } } : State); s.unitLive 15 1 = true ∧
      s.ch.tasks.find? (fun j => j.input == 0x098 + k.val) = some j) ∧
    (let k : Fin 16 := 0; let j : Task := ⟨0xA8, 0, 0, 0, []⟩;
      let s : State := ({ live with ch := { live.ch with tasks := [j], set := [(0, 1)] } } : State); s.unitLive 15 1 = true ∧
      s.ch.tasks.find? (fun j => j.input == 0x0A8 + k.val) = some j ∧ Map.get (fun _ => 0) s.ch.set k = j.cyc + 1) ∧
    (let k : Fin 16 := 0; let s : State := live; s.unitLive 15 1 = true ∧
      (∀ j, s.ch.tasks.find? (fun j => j.input == 0x0A8 + k.val) = some j → Map.get (fun _ => 0) s.ch.set k ≠ j.cyc + 1)) ∧
    (let s : State := (live.setFence 15 1 true); s.unitLive 15 1 = false) ∧
    (let s : State := live; s.reaches 15 = true ∧ s.unitLive 15 1 = true) ∧
    (let so : Fin 8 := 0; let k : Task := ⟨0x90, 0, 0, 0, []⟩;
      let s : State := ({ live with ch := { live.ch with tasks := [k], set := [] } } : State);
      s.ch.tasks.find? (fun j => j.input == 0x090 + so.val) = some k) ∧
    (let so : Fin 8 := 0; let s : State := live; (∀ j ∈ s.ch.tasks, j.input ≠ 0x090 + so.val)) := by
  refine ⟨?_, ?_, ?_, ?_, ?_, ?_, ?_, ?_, ?_, ?_, ?_, ?_, ?_, ?_, ?_, ?_, ?_, ?_, ?_, ?_, ?_, ?_⟩ <;> decide +kernel

theorem witness_AuditorEvents :
    (let s : State := ({ live with aud := { live.aud with q := [] } } : State); s.aud.q = []) ∧
    (let x : Fin 288 := 0; let u : Nat := 0; let i : Bool := false; let c : Nat := 0; let d : Word := 0;
      let s : State := ({ live with aud := { live.aud with q := [⟨x, u, d, i, c⟩] } } : State); s.aud.q = [⟨x, u, d, i, c⟩]) ∧
    (let x : Fin 288 := 0; let u : Nat := 0; let v : Nat := 0; let i : Bool := false; let j : Bool := false; let c : Nat := 0;
      let d : Word := 0; let e : Word := 0;
      let s : State := ({ live with aud := { live.aud with q := [⟨x, u, d, i, c⟩, ⟨x, v, e, j, c⟩] } } : State);
      s.aud.q = [⟨x, u, d, i, c⟩, ⟨x, v, e, j, c⟩]) ∧
    (let x : Fin 288 := 0; let y : Fin 288 := 0; let u : Nat := 0; let v : Nat := 0; let i : Bool := false;
      let j : Bool := false; let b : Nat := 0; let c : Nat := 1; let d : Word := 0; let e : Word := 0;
      let s : State := ({ live with aud := { live.aud with q := [⟨x, u, d, i, b⟩, ⟨y, v, e, j, c⟩] } } : State);
      s.aud.q = [⟨x, u, d, i, b⟩, ⟨y, v, e, j, c⟩] ∧ b ≠ c) ∧
    (let x : Fin 288 := 2; let y : Fin 288 := 1; let u : Nat := 0; let v : Nat := 0; let i : Bool := false;
      let j : Bool := false; let c : Nat := 0; let d : Word := 0; let e : Word := 0;
      let s : State := ({ live with aud := { live.aud with q := [⟨x, u, d, i, c⟩, ⟨y, v, e, j, c⟩] } } : State);
      s.aud.q = [⟨x, u, d, i, c⟩, ⟨y, v, e, j, c⟩] ∧ y.val < x.val) ∧
    (let e : EvRec := ⟨1, 0, 0, false, 0⟩; let s : State := (live.setBit (rSvcAudSrcCfg e.src) 29 true);
      s.bit (rSvcAudSrcCfg e.src) 29 = true) ∧
    (let e : EvRec := ⟨1, 0, 0, false, 0⟩; let m : Nat := 0;
      let s : State := ((live.setBit (rSvcAudSrcCfg e.src) 29 false).setFld (rSvcAudSrcCfg e.src) 30 2 0); e.src < 288 ∧
      e.src ≠ 0x112 ∧ s.bit (rSvcAudSrcCfg e.src) 29 = false ∧ s.fld (rSvcAudSrcCfg e.src) 30 2 = 0 ∧
      Map.get (fun _ => 0) s.aud.win e.src + m < s.fld (rSvcAudSrcCfg e.src) 0 16) ∧
    (let e : EvRec := ⟨1, 0, 0, false, 0⟩; let m : Nat := max 1 (live.fld (rSvcAudSrcCfg 1) 0 16);
      let s : State := ((live.setBit (rSvcAudSrcCfg e.src) 29 false).setFld (rSvcAudSrcCfg e.src) 30 2 (2 - 1)); e.src < 288 ∧
      e.src ≠ 0x112 ∧ s.bit (rSvcAudSrcCfg e.src) 29 = false ∧ s.fld (rSvcAudSrcCfg e.src) 30 2 < 2 ∧
      max 1 (s.fld (rSvcAudSrcCfg e.src) 0 16) ≤ Map.get (fun _ => 0) s.aud.win e.src + m) ∧
    (let e : EvRec := ⟨1, 0, 0, false, 0⟩;
      let s : State := ((live.setBit (rSvcAudSrcCfg e.src) 29 false).setFld (rSvcAudSrcCfg e.src) 30 2 3); e.src < 288 ∧
      e.src ≠ 0x112 ∧ s.bit (rSvcAudSrcCfg e.src) 29 = false ∧ s.fld (rSvcAudSrcCfg e.src) 30 2 = 3) ∧
    (let x : Nat := 0;
      let s : State := ({ (live.setBit (rSvcAudPend (x / 32)) (x % 32) false) with hst := { live.hst with mxTab := Map.set mxDefault [] (4 * (65 + min 14 (live.fld (rSvcAudSrcCfg x) 24 4)) + 3) 0 } } : State);
      x < 288 ∧ s.mxMasked (65 + min 14 (s.fld (rSvcAudSrcCfg x) 24 4)) = false ∧
      s.bit (rSvcAudPend (x / 32)) (x % 32) = false) ∧
    (let x : Nat := 0; let s : State := (live.setBit (rSvcAudPend (x / 32)) (x % 32) true);
      s.bit (rSvcAudPend (x / 32)) (x % 32) = true) ∧
    (let s : State := live; s.reaches 15 = true) ∧
    (let x : Fin 288 := 0x11A; let v : Word := 0; let s : State := live; s.reaches 15 = true ∧ srcClass x = 3 ∧
      (fget v 30 2 ≠ 3 ∨ v.getLsbD 29 = true)) ∧
    (let x : Fin 288 := 0; let s : State := live; s.reaches 15 = true ∧ srcClass x ≠ 3) ∧
    (let cls : Nat := 0; let s : State := ({ live with aud := { live.aud with lost := 0 } } : State);
      (s.rd rSvcAudFlHead).toNat < 1024 ∧ s.aud.lost = 0 ∧ cls ≠ 3 ∧ cls < 4) := by
  refine ⟨?_, ?_, ?_, ?_, ?_, ?_, ?_, ?_, ?_, ?_, ?_, ?_, ?_, ?_, ?_⟩ <;> decide +kernel

theorem witness_AuditorControl :
    (let v : Word := 0; let s : State := live; s.reaches 15 = true ∧ fget v 16 16 ≠ 0xA5C3) ∧
    (let v : Word := 1; let s : State := live; s.reaches 15 = true ∧ v.getLsbD 7 = false ∧
      inMss (fget v 10 4) (fget v 0 6) = true) ∧
    (let v : Word := BitVec.ofNat 32 ((0xA5C3 : Nat) <<< 16); let s : State := live; s.reaches 15 = true ∧
      fget v 16 16 = 0xA5C3 ∧ v.getLsbD 7 = false ∧ present s.variant (fget v 10 4) (fget v 0 6) = true ∧
      inMss (fget v 10 4) (fget v 0 6) = false) ∧
    (let s : State := live; s.aud.safe ≠ 1) ∧
    (let s : State := (({ live with aud := { live.aud with safe := 1 } } : State).setPhaseT .applied); s.aud.safe = 1 ∧
      s.released = false) ∧
    (let s : State := ({ live with aud := { live.aud with safe := 1 } } : State); s.aud.safe = 1 ∧ s.released = true) ∧
    (let s : State := live; s.aud.safe ≠ 2) ∧
    (let s : State := ({ live with aud := { live.aud with safe := 2 } } : State); s.aud.safe = 2 ∧
      s.hst.csts.getLsbD 1 = false) ∧
    (let x : Nat := 0;
      let s : State := ({ live with aud := { live.aud with safe := 0 }, pwr := { live.pwr with phase := .released } } : State);
      x < 288 ∧ s.aud.safe = 0 ∧ s.pwr.phase = .released) ∧
    (let x : Nat := 0x0E0; let u : Nat := 0;
      let s : State := (({ live with aud := { live.aud with safe := 0 }, pwr := { live.pwr with phase := .released } } : State).setFld (rSvcAudSrcCfg x) 30 2 3);
      s.aud.safe = 0 ∧ s.pwr.phase = .released ∧ s.fld (rSvcAudSrcCfg x) 30 2 = 3 ∧ mssCode (srcCluster x) u ≠ 0) ∧
    (let x : Nat := 0x0E0; let u : Nat := 1; let s : State := ((live.setPhaseT .applied).setPhaseT .checking);
      s.released = false ∧ inMss (srcCluster x) u = true) ∧
    (let s : State := (({ live with aud := { live.aud with lockstep := true } } : State).setBit rSvcAudStat 0 true);
      s.bit rSvcAudStat 0 = true ∧ s.aud.lockstep = true) ∧
    (let s : State := (live.setBit rSvcAudStat 0 true); s.bit rSvcAudStat 0 = true) ∧
    (let s : State := (live.setBit rSvcAudStat 0 false); s.bit rSvcAudStat 0 = false) ∧
    (let s : State := ({ live with pwr := { live.pwr with phase := .released } } : State); s.pwr.phase = .released) ∧
    (let s : State := ({ live with pwr := { live.pwr with phase := .checking } } : State); s.pwr.phase = .checking) ∧
    (let s : State := ({ live with pwr := { live.pwr with phase := .off } } : State);
      (s.pwr.phase = .off ∨ s.pwr.phase = .starting ∨ s.pwr.phase = .noService)) ∧
    (let v : Word := 1280; let s : State := live; s.reaches 15 = true ∧ (s.injSc v).isSome = true ∧ fget s.injWord 16 16 = 0) ∧
    (let v : Word := 0; let s : State := live; s.reaches 15 = true ∧ s.injSc v = none) ∧
    (let sc : Nat := 2; let v : Word := BitVec.ofNat 32 (1 <<< 16); let s : State := (live.setFld rSvcAudInjsel 0 16 1312);
      s.reaches 15 = true ∧ s.injSc (s.rd rSvcAudInjsel) = some sc ∧ fget s.injWord 16 16 = 0 ∧ 2 ≤ sc ∧ fget v 16 16 ≠ 0) ∧
    (let sc : Nat := 0; let v : Word := BitVec.ofNat 32 (1 <<< 16);
      let s : State := ((live.setFld rSvcAudInjsel 0 16 1280).setFld (rMemScInj 0) 16 16 1); s.reaches 15 = true ∧
      s.injSc (s.rd rSvcAudInjsel) = some sc ∧ fget s.injWord 16 16 ≠ 0 ∧ fget v 16 16 ≠ 0) := by
  refine ⟨?_, ?_, ?_, ?_, ?_, ?_, ?_, ?_, ?_, ?_, ?_, ?_, ?_, ?_, ?_, ?_, ?_, ?_, ?_, ?_, ?_⟩ <;> decide +kernel

theorem witness_ThermalThrottling :
    (let l : List Int := []; let s : State := (live.setFence 15 4 true); (s.unitLive 15 4 = false ∨ l.length ≠ 16)) ∧
    (let l : List Int := List.replicate 16 0; let s : State := live; s.unitLive 15 4 = true ∧ l.length = 16) ∧
    (let t : List Int := [1201]; let n : Nat := 0; (t.getD n 0 < -320 ∨ 1200 < t.getD n 0)) ∧
    (let z : Nat := 0;
      let s : State := ({ ((live.setFld rSvcThStat (28 - 4 * z) 4 0)) with th := { ((live.setFld rSvcThStat (28 - 4 * z) 4 0)).th with hist := [⟨List.replicate 16 760, []⟩] } } : State);
      z < 2 ∧ s.zoneState z = 0 ∧ (s.zoneValue z).1 < zoneShutdown z ∧ zoneWarn z ≤ (s.zoneValue z).1) ∧
    (let z : Nat := 0; let s : State := (live.setFld rSvcThStat (28 - 4 * z) 4 0); z < 2 ∧ s.zoneState z = 0 ∧
      (s.zoneValue z).1 < zoneWarn z) ∧
    (let z : Nat := 0; let s : State := ({ live with th := { live.th with hist := [⟨List.replicate 16 920, []⟩] } } : State);
      z < 2 ∧ s.zoneState z < 4 ∧ (s.zoneValue z).2 = false ∧ zoneShutdown z ≤ (s.zoneValue z).1) ∧
    (let z : Nat := 0; let s : State := (live.setFld rSvcThStat (28 - 4 * z) 4 4); z < 2 ∧ s.zoneState z = 4) ∧
    (let z : Nat := 0; let s : State := ((live.setFld rSvcThStat (28 - 4 * z) 4 1).setBit rSvcThStat 0 true); z < 2 ∧
      s.zoneState z = 1 ∧ (s.zoneValue z).2 = true ∧ zoneThrottle z ≤ (s.zoneValue z).1) ∧
    (let z : Fin 2 := 0;
      let s : State := ({ ((live.setFld rSvcThStat (28 - 4 * z) 4 2)) with th := { ((live.setFld rSvcThStat (28 - 4 * z) 4 2)).th with hist := [⟨List.replicate 16 840, []⟩] } } : State);
      s.unitLive 15 4 = true ∧ s.zoneState z = 2 ∧ zoneThrottle z ≤ (s.zoneValue z).1) ∧
    (let z : Fin 2 := 0; let s : State := (live.setFld rSvcThStat (28 - 4 * z) 4 2); s.unitLive 15 4 = true ∧
      s.zoneState z = 2 ∧ (s.zoneValue z).1 < zoneThrottle z) ∧
    (let z : Fin 2 := 0; let s : State := (live.setFld rSvcThStat (28 - 4 * z) 4 0); s.zoneState z ≠ 2) ∧
    (let d : Nat := 0;
      let s : State := ({ ((live.setFld rSvcThStat (28 - 4 * 0) 4 3)) with th := { ((live.setFld rSvcThStat (28 - 4 * 0) 4 3)).th with hist := [⟨List.replicate 16 840, []⟩] } } : State);
      s.unitLive 15 4 = true ∧ s.zoneState 0 = 3 ∧ (s.zoneValue 0).2 = false ∧ zoneThrottle 0 ≤ (s.zoneValue 0).1 ∧
      s.th.dem.getD 0 0 = d ∧ d < 3) ∧
    (let d : Nat := 0;
      let s : State := ({ ((live.setFld rSvcThStat (28 - 4 * 1) 4 3)) with th := { ((live.setFld rSvcThStat (28 - 4 * 1) 4 3)).th with hist := [⟨List.replicate 16 520, []⟩] } } : State);
      s.unitLive 15 4 = true ∧ s.zoneState 1 = 3 ∧ (s.zoneValue 1).2 = false ∧ 520 ≤ (s.zoneValue 1).1 ∧
      s.th.dem.getD 1 0 = d ∧ d < 3) ∧
    (let s : State := live; ((s.zoneValue 1).1 < 520 ∨ s.zoneState 1 ≠ 3)) ∧
    (let z : Fin 2 := 0; let d : Nat := 2;
      let s : State := ({ (live.setFld rSvcThStat (28 - 4 * z) 4 3) with th := { live.th with dem := [2, 0] } } : State);
      s.unitLive 15 4 = true ∧ s.zoneState z = 3 ∧ (s.zoneValue z).1 < zoneThrottle z - 40 ∧ s.th.dem.getD z 0 = d ∧ 2 ≤ d) ∧
    (let z : Fin 2 := 0; let d : Nat := 0; let s : State := (live.setFld rSvcThStat (28 - 4 * z) 4 3); s.unitLive 15 4 = true ∧
      s.zoneState z = 3 ∧ (s.zoneValue z).1 < zoneThrottle z - 40 ∧ s.th.dem.getD z 0 = d ∧ d ≤ 1) ∧
    (let z : Fin 2 := 0; let s : State := live; (zoneThrottle z - 40 ≤ (s.zoneValue z).1 ∨ s.zoneState z ≠ 3)) ∧
    (let z : Fin 2 := 0; let s : State := live; s.unitLive 15 4 = true ∧ s.fastRise z 100 = false) ∧
    (let z : Fin 2 := 0;
      let s : State := ({ live with th := { live.th with hist := ⟨List.replicate 16 5, []⟩ :: List.replicate 200 ⟨List.replicate 16 0, []⟩ } } : State);
      s.fastRise z 100 = true) ∧
    (let z : Nat := 0; let s : State := (live.setFld rSvcThStat 0 16 0xFFFF); z < 2 ∧ (∀ n ∈ zoneSensors z, s.broken n = true)) := by
  refine ⟨?_, ?_, ?_, ?_, ?_, ?_, ?_, ?_, ?_, ?_, ?_, ?_, ?_, ?_, ?_, ?_, ?_, ?_, ?_, ?_⟩ <;> decide +kernel

theorem witness_Telemetry :
    (let s : State := ({ live with pwr := { live.pwr with phase := .released } } : State); s.pwr.phase = .released) ∧
    (let s : State := ({ live with pwr := { live.pwr with phase := .released } } : State); s.pwr.phase = .released ∧
      s.unitLive 15 4 = true) ∧
    (let s : State := ({ live with pwr := { live.pwr with phase := .released } } : State); s.pwr.phase = .released) ∧
    (let s : State := ({ live with pwr := { live.pwr with phase := .off } } : State);
      (s.pwr.phase = .off ∨ s.pwr.phase = .starting)) := by
  refine ⟨?_, ?_, ?_, ?_⟩ <;> decide +kernel

theorem witness_RegistersLeftAlone :
    (((Instr.dramHot 0) = .dramHot 0 ∨ (Instr.dramHot 0) = .dramHotClear 0) ∧ ∃ t, exec (.dramHot 0) live = .next t) ∧
    (let sc : Fin 16 := 0; let b : Fin 4 := 0; let s : State := live; ∃ t, exec (.refreshDue sc b) s = .next t) ∧
    (let s : State := live; ∃ t, exec .coinRefill s = .next t) ∧
    (let s : State := live; ∃ t, exec .floorEntry s = .next t) ∧
    (((Instr.selfRefreshExit) = .selfRefreshExit ∨ (Instr.selfRefreshExit) = .srExited) ∧
      ∃ t, exec (.selfRefreshExit) live = .next t) ∧
    (let s : State := live; ∃ t, exec .holdover s = .next t) ∧
    (let s : State := live; ∃ t, exec .mintRate s = .next t) ∧
    (let n : Nat := 0; let s : State := live; ∃ t, exec (.ppsInEdge n) s = .next t) ∧
    (let s : State := live; ∃ t, exec .ppsMissing s = .next t) ∧
    (let m : Fin 2 := 0; let a : Bool := false; let b : Bool := false; let c : Bool := false; let d : Bool := false;
      let e : Bool := false; let s : State := live; ∃ t, exec (.ethernetLinkChange m a b c d e) s = .next t) ∧
    (let m : Fin 2 := 0; let f : List Byte := []; let d : List Byte := []; let n : Nat := 0; let s : State := live;
      ∃ t, exec (.ethernetFrameReceive m f n d) s = .next t) ∧
    (let m : Fin 2 := 0; let r : Fin 5 := 0; let v : Word := 0; let s : State := live;
      ∃ t, exec (.ringTailWrite m r v) s = .next t) ∧
    (let m : Fin 2 := 0; let v : Word := 0; let s : State := live; ∃ t, exec (.moduleI2cAccess m v) s = .next t) ∧
    (let m : Fin 2 := 0; let a : Bool := false; let b : Byte := 0; let s : State := live;
      ∃ t, exec (.moduleI2cDone m a b) s = .next t) ∧
    (let q : Fin 65 := 0; let cid : BitVec 16 := 0; let s : State := live; ∃ t, exec (.dataTransferStart q cid) s = .next t) ∧
    (let q : Fin 65 := 0; let cid : BitVec 16 := 0; let s : State := live; ∃ t, exec (.nvmFlush q cid) s = .next t) ∧
    (let cid : BitVec 16 := 0; let c : Instr := .readKey cid; let s : State := live;
      c ∈ [.officerAuth cid, .readKey cid, .readAkCert cid, .nsMap cid, .setArbitration cid, .setNumberOfQueues cid, .setApst cid, .setAsyncEventConfig cid, .createIoCompletionQueue cid, .createIoSubmissionQueue cid, .identifyController cid, .getLogFaultLedger cid, .getLogFirmwareSlot cid, .asynchronousEventRequest cid] ∧
      ∃ t, exec c s = .next t) ∧
    (let n : BitVec 2 := 0; let s : State := live; ∃ t, exec (.shutdownNotification n) s = .next t) ∧
    (let s : State := live; ∃ t, exec .hpdTimeout s = .next t) ∧
    (((Instr.aesTxStart) = .aesTxStart ∨ (Instr.aesTxStart) = .aesTxStop) ∧ ∃ t, exec (.aesTxStart) live = .next t) ∧
    (let v : Word := 0; let s : State := live; ∃ t, exec (.aesTxTailWrite v) s = .next t) ∧
    (((Instr.setLatch 0) = .setLatch 0 ∨ (Instr.setLatch 0) = .clrLatch 0) ∧ ∃ t, exec (.setLatch 0) live = .next t) ∧
    (let x : Fin 288 := 0; let w : Bool := false; let v : Word := 0; let s : State := live;
      ∃ t, exec (.sourceConfigWrite x w v) s = .next t) ∧
    (let w : Bool := false; let v : Word := 0; let s : State := live; ∃ t, exec (.injectionWrite w v) s = .next t) ∧
    (let b : Bool := false; let s : State := live; ∃ t, exec (.aliveHalfPeriod b) s = .next t) ∧
    (let z : Fin 2 := 0; let s : State := live; ∃ t, exec (.riseHoldEnd z) s = .next t) :=
  ⟨⟨by simp, _, rfl⟩,
    ⟨_, rfl⟩,
    ⟨_, rfl⟩,
    ⟨_, rfl⟩,
    ⟨by simp, _, rfl⟩,
    ⟨_, rfl⟩,
    ⟨_, rfl⟩,
    ⟨_, rfl⟩,
    ⟨_, rfl⟩,
    ⟨_, rfl⟩,
    ⟨_, rfl⟩,
    ⟨_, rfl⟩,
    ⟨_, rfl⟩,
    ⟨_, rfl⟩,
    ⟨_, rfl⟩,
    ⟨_, rfl⟩,
    ⟨by decide +kernel, _, rfl⟩,
    ⟨_, rfl⟩,
    ⟨_, rfl⟩,
    ⟨by simp, _, rfl⟩,
    ⟨_, rfl⟩,
    ⟨by simp, _, rfl⟩,
    ⟨_, rfl⟩,
    ⟨_, rfl⟩,
    ⟨_, rfl⟩,
    ⟨_, rfl⟩⟩

end Sys2Proof.Tests
end

section
/-! PROOF. The scope of a variant: what a bus access of an absent unit and a source of an absent unit do (R2, R3), and the
capability words of the device (R7). -/

namespace Sys2Proof.Machine

open Sys2Proof

variable {s : State} {a : Nat}

/-! ### Accesses of the BAR2 window -/

/-- The two halves of an aligned 64-bit access lie in one cluster. -/
theorem clusterOf_add_four (h : a % 8 = 0) : clusterOf (a + 4) = clusterOf a := by
  unfold clusterOf; omega

/-- The two halves of an aligned 64-bit access lie in one unit. -/
theorem unitOf_add_four (h : a % 8 = 0) : unitOf (a + 4) = unitOf a := by
  unfold unitOf; omega

theorem unitOf_lt (a : Nat) : unitOf a < 64 := Nat.mod_lt _ (by decide)

/-- A 32-bit read at a multiple of 4 answers the word that the bus reads there, in the lower half. -/
theorem State.readBus_narrow {v : Word} (hr : s.reaches 0 = true) (ha : a % 4 = 0) (h : s.busRead a = (v, s)) :
    s.readBus a false = { s with rdata := v.setWidth 64 } := by
  have hv : 0#32 ++ v = v.setWidth 64 := (BitVec.setWidth_eq_append (by decide)).symm
  simp [State.readBus, State.answerBus, hr, ha, h, hv]

/-- A 64-bit read at a multiple of 8 reads its lower half first (R9). -/
theorem State.readBus_wide {lo hi : Word} (hr : s.reaches 0 = true) (ha : a % 8 = 0) (hlo : s.busRead a = (lo, s))
    (hhi : s.busRead (a + 4) = (hi, s)) : s.readBus a true = { s with rdata := hi ++ lo } := by
  simp [State.readBus, State.answerBus, hr, ha, hlo, hhi]

/-! ### Absent units -/

/-- A unit that the variant has not is never live. -/
theorem State.unitLive_of_absent {c u : Nat} (h : present s.variant c u = false) : s.unitLive c u = false := by
  simp [State.unitLive, h]

theorem State.busRead_of_absent (h : present s.variant (clusterOf a) (unitOf a) = false) : s.busRead a = (0#32, s) := by
  simp [State.busRead, h]

theorem State.busWrite_of_absent (v : Word) (h : present s.variant (clusterOf a) (unitOf a) = false) :
    s.busWrite a v = s := by
  simp [State.busWrite, State.unitLive_of_absent h]

/-- Absence carries over to the upper half of an aligned 64-bit access. -/
theorem absent_add_four {v : Variant} (ha : a % 8 = 0) (h : present v (clusterOf a) (unitOf a) = false) :
    present v (clusterOf (a + 4)) (unitOf (a + 4)) = false := by
  rw [clusterOf_add_four ha, unitOf_add_four ha, h]

theorem State.readBus_of_absent {wide : Bool} (hr : s.reaches 0 = true) (ha : a % (if wide then 8 else 4) = 0)
    (h : present s.variant (clusterOf a) (unitOf a) = false) : s.readBus a wide = { s with rdata := 0#64 } := by
  cases wide with
  | false => simpa using State.readBus_narrow hr ha (State.busRead_of_absent h)
  | true => simpa using State.readBus_wide hr ha (State.busRead_of_absent h) (State.busRead_of_absent (absent_add_four ha h))

/-- A write of an absent unit is discarded, whatever its alignment, width and byte enables. -/
theorem execRegisterWrite_of_absent {addr : BitVec 26} (be : BitVec 8) (wide : Bool) (lo hi : Word)
    (h : present s.variant (clusterOf addr.toNat) (unitOf addr.toNat) = false) :
    execRegisterWrite addr be wide lo hi s = .next s := by
  cases wide with
  | false => simp [execRegisterWrite, State.busWrite_of_absent lo h]
  | true =>
    by_cases ha : addr.toNat % 8 = 0
    · simp [execRegisterWrite, State.busWrite_of_absent lo h, State.busWrite_of_absent hi (absent_add_four ha h)]
    · simp [execRegisterWrite, ha]

/-- Every address of a cluster without units names an absent unit. -/
theorem absent_of_cluster_absent {v : Variant} (h : ∀ u : Fin 64, present v (clusterOf a) u = false) :
    present v (clusterOf a) (unitOf a) = false := h ⟨unitOf a, unitOf_lt a⟩

theorem State.raiseLin_of_absent {x u : Nat} (lin : BitVec 64) (h : present s.variant (srcCluster x) u = false) :
    s.raiseLin x u lin = s := by
  simp [State.raiseLin, State.unitLive_of_absent h]

/-- Settles O8: an access of an absent unit stops at the bus, and each half of a 64-bit access names the same unit. -/
theorem absentUnitsReadZero : Obligations.AbsentUnitsReadZero := by
  have read : ∀ (s : State) (addr : BitVec 26) (wide : Bool), s.reaches 0 = true →
      addr.toNat % (if wide then 8 else 4) = 0 → present s.variant (clusterOf addr.toNat) (unitOf addr.toNat) = false →
      Answers (.readToClear addr wide) s fun t => t = { s with rdata := 0#64 } :=
    fun _ _ _ hr ha h => ⟨_, rfl, State.readBus_of_absent hr ha h⟩
  have write : ∀ (s : State) (addr : BitVec 26) (be : BitVec 8) (wide : Bool) (lo hi : Word),
      present s.variant (clusterOf addr.toNat) (unitOf addr.toNat) = false →
      Answers (.registerWrite addr be wide lo hi) s fun t => t = s :=
    fun s _ be wide lo hi h => ⟨s, execRegisterWrite_of_absent be wide lo hi h, rfl⟩
  exact ⟨read, write, fun s addr hr ha h => read s addr false hr ha (absent_of_cluster_absent h),
    fun s addr be wide lo hi h => write s addr be wide lo hi (absent_of_cluster_absent h)⟩

/-- Settles O9: an assertion of an absent unit's source leaves the state as it was, so the Auditor's cycle sees the same
events with and without it. -/
theorem absentSourcesStaySilent : Obligations.AbsentSourcesStaySilent := by
  refine ⟨fun s x u lin h => State.raiseLin_of_absent lin h, fun s x u h => ?_⟩
  rw [State.raise, State.raiseLin_of_absent 0#64 h]

/-! ### The capability words of the device -/

/-- Unit 0 of cluster 0 is the device's own, and every variant has it. -/
theorem present_device (v : Variant) : present v 0 0 = true := by cases v <;> rfl

theorem State.busRead_devCap0 (hr : s.reaches 0 = true) : s.busRead rDevCap0 = (devCap0 s.variant, s) := by
  have hc : clusterOf rDevCap0 = 0 := rfl
  have hu : unitOf rDevCap0 = 0 := rfl
  have ho : offOf rDevCap0 = 4 := rfl
  simp [State.busRead, hc, hu, ho, hr, present_device, kindOf, capWord]

theorem State.busRead_devCap1 (hr : s.reaches 0 = true) (hl : s.unitLive 0 0 = true) :
    s.busRead rDevCap1 = (devCap1 s.variant, s) := by
  have hc : clusterOf rDevCap1 = 0 := rfl
  have hu : unitOf rDevCap1 = 0 := rfl
  have ho : offOf rDevCap1 = 8 := rfl
  simp [State.busRead, hc, hu, ho, hr, hl, present_device, kindOf, blockGone, mirror]

/-- A cluster of which the variant has any unit has its control unit: an absent cluster lacks them all (R7). -/
theorem clusterPresent_of_present {v : Variant} {c u : Nat} (hc : c < 16) (h : present v c u = true) :
    clusterPresent v c = true := by
  have hk : (kindOf c 0).isSome = true := by
    by_cases h0 : c = 0 <;> simp [kindOf, h0, hc]
  cases v <;> simp_all [clusterPresent, present]

theorem clusterPresent_iff {v : Variant} {c : Nat} (hc : c < 16) :
    clusterPresent v c = true ↔ ∃ u, u < 64 ∧ present v c u = true :=
  ⟨fun h => ⟨0, by decide, h⟩, fun ⟨_, _, h⟩ => clusterPresent_of_present hc h⟩

/-- DEV_CAP1 has one bit per cluster (R7). -/
theorem devCap1_getLsbD (v : Variant) : ∀ c < 16, (devCap1 v).getLsbD c = clusterPresent v c := by
  cases v <;> decide

theorem devCap1_lt (v : Variant) : (devCap1 v).toNat < 2 ^ 16 := by cases v <;> decide

/-- Settles O10: the two words are what the bus answers at their addresses; a bit of DEV_CAP1 stands for the control unit of
its cluster, and the word has no bits above those of the 16 clusters. -/
theorem deviceCapabilityWords : Obligations.DeviceCapabilityWords := by
  refine ⟨fun s hr hl => ⟨⟨_, rfl, ?_⟩, ⟨_, rfl, ?_⟩⟩, fun v c hc => ?_, fun v b hb => ?_⟩
  · refine (State.readBus_narrow hr rfl (State.busRead_devCap0 hr)).trans ?_
    cases s.variant <;> rfl
  · refine (State.readBus_narrow hr rfl (State.busRead_devCap1 hr hl)).trans ?_
    cases s.variant <;> rfl
  · rw [devCap1_getLsbD v c hc, clusterPresent_iff hc]
  · exact Nat.testBit_lt_two_pow ((devCap1_lt v).trans_le (Nat.pow_le_pow_right (by decide) hb))

end Sys2Proof.Machine
end

section
/-! PROOF. The queues of the NVMe controller (16): what creating a queue answers and leaves, by the fields of the command
(R446), and the vectors that completions and the Auditor signal (R443). -/

namespace Sys2Proof.Machine

open Sys2Proof

variable {s : State}

/-! ### Queues after an update -/

@[simp] theorem State.cq_setCq_same (q : Nat) (v : Option Cq) : (s.setCq q v).cq q = v := Map.get_set_same ..

@[simp] theorem State.sq_setSq_same (q : Nat) (v : Option Sq) : (s.setSq q v).sq q = v := Map.get_set_same ..

@[simp] theorem State.sq_setCq (q j : Nat) (v : Option Cq) : (s.setCq q v).sq j = s.sq j := rfl

@[simp] theorem State.sq_syncIoq (q : Nat) : s.syncIoq.sq q = s.sq q := rfl

/-! ### Admin commands -/

theorem State.cid_of_ncmd {q : Nat} {cid : BitVec 16} {c : NCmd} (h : s.ncmd q cid = some c) : c.cid = cid := by
  have hc := List.find?_some h
  simp only [Bool.and_eq_true, beq_iff_eq] at hc
  exact hc.2

/-- A command that waits acts, once the row's check of its fields holds. -/
theorem State.admin_of_adminIs {op : Nat} {cid : BitVec 16} {c : NCmd} {ok : NCmd → Bool} (f : State → NCmd → State)
    (h : s.adminIs cid op c) (hok : ok c = true) : s.admin op cid ok f = f s c := by
  obtain ⟨hcmd, hop, hst, hrdy, hup⟩ := h
  simp [State.admin, hcmd, hop, hst, hrdy, hup, hok]

theorem execCreateIoCompletionQueue_of_adminIs {cid : BitVec 16} {c : NCmd} (h : s.adminIs cid 0x05 c) :
    execCreateIoCompletionQueue cid s = .next (s.createCq c) :=
  congrArg Host.Outcome.next (State.admin_of_adminIs State.createCq h rfl)

theorem execCreateIoSubmissionQueue_of_adminIs {cid : BitVec 16} {c : NCmd} (h : s.adminIs cid 0x01 c) :
    execCreateIoSubmissionQueue cid s = .next (s.createSq c) :=
  congrArg Host.Outcome.next (State.admin_of_adminIs State.createSq h rfl)

theorem execSetNumberOfQueues_of_adminIs {cid : BitVec 16} {c : NCmd} (h : s.adminIs cid 0x09 c) (hf : NCmd.fid 7 c = true) :
    execSetNumberOfQueues cid s = .next (s.finish 0 cid stOk (63 * 2 ^ 16 + 63)) :=
  congrArg Host.Outcome.next (State.admin_of_adminIs _ h hf)

/-! ### CREATE_IO_COMPLETION_QUEUE -/

section

variable {c : NCmd} {q : Fin 65}

/-- 64 I/O completion queues, numbered from 1. -/
theorem State.createCq_of_badId (h : c.dw 10 % 65536 = 0 ∨ 64 < c.dw 10 % 65536) :
    s.createCq c = s.finish 0 c.cid stQueueId 0 :=
  if_pos (or_assoc.mp (.inl h))

variable (hid : c.dw 10 % 65536 = q) (hq : q.val ≠ 0) (hfree : s.cq q = none)
include hid hq hfree

/-- Under an identifier that is free, the checks go on with the size. -/
theorem State.createCq_of_freeId : s.createCq c =
    if c.dw 10 / 65536 = 0 ∨ 4095 < c.dw 10 / 65536 then s.finish 0 c.cid stQueueSize 0
    else if !(c.dw 11).testBit 0 then s.finish 0 c.cid stField 0
    else if 65 ≤ c.dw 11 / 65536 then s.finish 0 c.cid stVector 0
    else (s.setCq q (some ⟨c.dw 10 / 65536 + 1, c.dw 11 / 65536, (c.dw 11).testBit 1, 0, 0, true⟩)).completeOk 0 c.cid := by
  have h64 : ¬ 64 < q.val := by omega
  simp only [State.createCq, hid, hfree, hq, h64, Option.isSome_none, Bool.false_eq_true, or_self, if_false]

theorem State.createCq_of_badSize (hn : c.dw 10 / 65536 = 0 ∨ 4095 < c.dw 10 / 65536) :
    s.createCq c = s.finish 0 c.cid stQueueSize 0 :=
  (State.createCq_of_freeId hid hq hfree).trans (if_pos hn)

variable (hn0 : c.dw 10 / 65536 ≠ 0) (hn : c.dw 10 / 65536 ≤ 4095) (hpc : (c.dw 11).testBit 0 = true)
include hn0 hn hpc

theorem State.createCq_of_badVector (hv : 65 ≤ c.dw 11 / 65536) : s.createCq c = s.finish 0 c.cid stVector 0 := by
  simp [State.createCq_of_freeId hid hq hfree, hn0, hn.not_gt, hpc, hv]

theorem State.createCq_of_valid (hv : c.dw 11 / 65536 ≤ 64) : s.createCq c =
    (s.setCq q (some ⟨c.dw 10 / 65536 + 1, c.dw 11 / 65536, (c.dw 11).testBit 1, 0, 0, true⟩)).completeOk 0 c.cid := by
  have hv : ¬ 65 ≤ c.dw 11 / 65536 := by omega
  simp [State.createCq_of_freeId hid hq hfree, hn0, hn.not_gt, hpc, hv]

/-- The queue that the command names is created, and then the command completes. -/
theorem answersVia_createCq {cid : BitVec 16} (h : s.adminIs cid 0x05 c) (hv : c.dw 11 / 65536 ≤ 64) {P : State → Prop}
    (hP : P (s.setCq q (some ⟨c.dw 10 / 65536 + 1, c.dw 11 / 65536, (c.dw 11).testBit 1, 0, 0, true⟩))) :
    AnswersVia (fun t => t.completeOk 0 cid) (.createIoCompletionQueue cid) s P := by
  refine ⟨_, (execCreateIoCompletionQueue_of_adminIs h).trans ?_, hP⟩
  rw [State.createCq_of_valid hid hq hfree hn0 hn hpc hv, State.cid_of_ncmd h.1]

end

/-! ### CREATE_IO_SUBMISSION_QUEUE -/

section

variable {c : NCmd} {q p : Fin 65}

/-- 64 I/O submission queues, numbered from 1. -/
theorem State.createSq_of_badId (h : c.dw 10 % 65536 = 0 ∨ 64 < c.dw 10 % 65536) :
    s.createSq c = s.finish 0 c.cid stQueueId 0 :=
  if_pos (or_assoc.mp (.inl h))

variable (hid : c.dw 10 % 65536 = q) (hq : q.val ≠ 0) (hfree : s.sq q = none)
  (hcq : c.dw 11 / 65536 = p) (hp : p.val ≠ 0) (hsome : (s.cq p).isSome = true)
include hid hq hfree hcq hp hsome

/-- Under an identifier that is free, for a completion queue that exists, the checks go on with the size. -/
theorem State.createSq_of_freeId : s.createSq c =
    if c.dw 10 / 65536 = 0 ∨ 4095 < c.dw 10 / 65536 then s.finish 0 c.cid stQueueSize 0
    else if !(c.dw 11).testBit 0 then s.finish 0 c.cid stField 0
    else ((s.setSq q (some ⟨c.dw 10 / 65536 + 1, p, c.dw 11 / 2 % 4, 0, 0⟩)).syncIoq).completeOk 0 c.cid := by
  have hq64 : ¬ 64 < q.val := by omega
  have hp64 : ¬ 64 < p.val := by omega
  have hnone : (s.cq p).isNone = false := by simp [← Option.not_isSome, hsome]
  simp only [State.createSq, hid, hcq, hfree, hq, hq64, hp, hp64, hnone, Option.isSome_none, Bool.false_eq_true, or_self,
    if_false]

theorem State.createSq_of_badSize (hn : c.dw 10 / 65536 = 0 ∨ 4095 < c.dw 10 / 65536) :
    s.createSq c = s.finish 0 c.cid stQueueSize 0 :=
  (State.createSq_of_freeId hid hq hfree hcq hp hsome).trans (if_pos hn)

variable (hn0 : c.dw 10 / 65536 ≠ 0) (hn : c.dw 10 / 65536 ≤ 4095) (hpc : (c.dw 11).testBit 0 = true)
include hn0 hn hpc

theorem State.createSq_of_valid : s.createSq c =
    ((s.setSq q (some ⟨c.dw 10 / 65536 + 1, p, c.dw 11 / 2 % 4, 0, 0⟩)).syncIoq).completeOk 0 c.cid := by
  simp [State.createSq_of_freeId hid hq hfree hcq hp hsome, hn0, hn.not_gt, hpc]

/-- The queue that the command names is created, and then the command completes. -/
theorem answersVia_createSq {cid : BitVec 16} (h : s.adminIs cid 0x01 c) {P : State → Prop}
    (hP : P (s.setSq q (some ⟨c.dw 10 / 65536 + 1, p, c.dw 11 / 2 % 4, 0, 0⟩)).syncIoq) :
    AnswersVia (fun t => t.completeOk 0 cid) (.createIoSubmissionQueue cid) s P := by
  refine ⟨_, (execCreateIoSubmissionQueue_of_adminIs h).trans ?_, hP⟩
  rw [State.createSq_of_valid hid hq hfree hcq hp hsome hn0 hn hpc, State.cid_of_ncmd h.1]

end

/-! ### CONTROLLER_ENABLE -/

/-- Enabling creates the admin queues with the sizes of AQA and interrupts on vector 0. -/
theorem State.ctlEnable_of_disabled {cc : Word} (hup : s.ctlUp = true) (hoff : s.hst.cc.getLsbD 0 = false)
    (hon : cc.getLsbD 0 = true) : s.ctlEnable cc =
      (((s.setHst { s.hst with cc := cc }).setSq 0 (some ⟨fget s.hst.aqa 0 12 + 1, 0, 0, 0, 0⟩)).setCq 0
        (some ⟨fget s.hst.aqa 16 12 + 1, 0, true, 0, 0, true⟩)).syncRdy := by
  simp only [State.ctlEnable, hup, hoff, hon, Bool.not_true, Bool.or_self, Bool.false_eq_true, if_false]

/-! ### MSI-X -/

/-- Until the host writes the table, every vector is masked. -/
theorem State.mxMasked_of_mxTab_nil (v : Nat) (h : s.hst.mxTab = []) : s.mxMasked v = true := by
  have hctl : (4 * v + 3) % 4 = 3 := by omega
  simp [State.mxMasked, h, Map.get, mxDefault, hctl]

/-- A masked vector goes pending, at most once. -/
theorem State.msix_mxPend_of_masked {v : Nat} (h : s.mxMasked v = true) :
    (s.msix v).hst.mxPend = if s.hst.mxPend.contains v then s.hst.mxPend else s.hst.mxPend ++ [v] := by
  rw [State.msix, if_pos h]
  split <;> rfl

/-- A source that is not pending yet signals the vector of its VEC field. -/
theorem State.irq_of_not_pending {x : Nat} (h : s.bit (rSvcAudPend (x / 32)) (x % 32) = false) :
    s.irq x false = (s.setBit (rSvcAudPend (x / 32)) (x % 32) true).msix (65 + min 14 (s.fld (rSvcAudSrcCfg x) 24 4)) := by
  simp [State.irq, h]

/-- Settles O14: the vectors of the admin queue, of an I/O completion queue and of the Auditor, and the refusal of a vector
above 64. -/
theorem interruptVectors : Obligations.InterruptVectors := by
  refine ⟨fun s cc hup hoff hon => ?_, fun s cid c q h hid hq hfree hn0 hn hpc hv => ?_,
    fun s cid c q h hid hq hfree hn0 hn hpc hv => ?_, fun s x _ hpend htab => ?_⟩
  · exact ⟨_, congrArg Host.Outcome.next (State.ctlEnable_of_disabled hup hoff hon), _, State.cq_setCq_same .., rfl, rfl⟩
  · exact answersVia_createCq hid hq hfree hn0 hn hpc h hv ⟨_, State.cq_setCq_same .., rfl⟩
  · exact ⟨_, execCreateIoCompletionQueue_of_adminIs h, State.createCq_of_badVector hid hq hfree hn0 hn hpc hv⟩
  · refine ⟨65 + min 14 (s.fld (rSvcAudSrcCfg x) 24 4), by omega, by omega, ?_⟩
    have hmask := fun v => State.mxMasked_of_mxTab_nil (s := s.setBit (rSvcAudPend (x / 32)) (x % 32) true) v htab
    rw [State.irq_of_not_pending hpend, State.msix_mxPend_of_masked (hmask _), State.setBit_hst]

/-- Settles O15: queues of 2 to 4,096 entries under the numbers 1 to 64, the refusals of other sizes and numbers, the admin
queue pair, and the 63 of Number of Queues. -/
theorem queueNumbersAndSizes : Obligations.QueueNumbersAndSizes := by
  refine ⟨fun s cid c q h hid hq hfree hpc hv => ⟨fun n hn2 hn hsize => ?_, fun hsize => ?_⟩,
    fun s cid c q p h hid hq hfree hcq hp hsome hpc => ⟨fun n hn2 hn hsize => ?_, fun hsize => ?_⟩,
    fun s cid c h hid => ?_, fun s cid c h hid => ?_, fun s cc hup hoff hon => ?_, fun s cid c h hfid => ?_⟩
  · exact answersVia_createCq hid hq hfree (by omega) (by omega) hpc h hv ⟨_, State.cq_setCq_same .., hsize⟩
  · exact ⟨_, execCreateIoCompletionQueue_of_adminIs h, State.createCq_of_badSize hid hq hfree (by omega)⟩
  · exact answersVia_createSq hid hq hfree hcq hp hsome (by omega) (by omega) hpc h
      ⟨_, (State.sq_syncIoq _).trans (State.sq_setSq_same ..), hsize, rfl⟩
  · exact ⟨_, execCreateIoSubmissionQueue_of_adminIs h, State.createSq_of_badSize hid hq hfree hcq hp hsome (by omega)⟩
  · exact ⟨_, execCreateIoCompletionQueue_of_adminIs h, State.createCq_of_badId hid⟩
  · exact ⟨_, execCreateIoSubmissionQueue_of_adminIs h, State.createSq_of_badId hid⟩
  · refine ⟨_, congrArg Host.Outcome.next (State.ctlEnable_of_disabled hup hoff hon), ?_, ?_⟩
    · rw [State.sq_setCq, State.sq_setSq_same, Option.isSome_some]
    · rw [State.cq_setCq_same, Option.isSome_some]
  · exact ⟨_, execSetNumberOfQueues_of_adminIs h (beq_iff_eq.mpr hfid), rfl⟩

end Sys2Proof.Machine
end

section
/-! PROOF. The Auditor's registers and reactions (21): the class and the vector that a source has, at reset and by a write of
its SRC_CFG (R541, R553), what a violation leaves (R88), the cycle of a masked source (R544), and the reaction IRQ (R553). -/

namespace Sys2Proof.Machine

open Sys2Proof

variable {s : State}

/-! ### SVC_AUD_SRCx_CFG -/

theorem srcClass_lt (x : Nat) : srcClass x < 4 := by
  fun_cases srcClass x
  all_goals decide

theorem srcWindow_fst_lt (x : Nat) : (srcWindow x).1 < 2 ^ 16 := by
  fun_cases srcWindow x
  all_goals decide

theorem State.reset_rd_srcCfg {x : Nat} (hx : x < 288) : State.reset.rd (rSvcAudSrcCfg x) = srcCfgReset x := by
  have hr : rSvcAudSrcCfg 0 ≤ rSvcAudSrcCfg x ∧ rSvcAudSrcCfg x < rSvcAudSrcCfg 288 := by
    unfold rSvcAudSrcCfg; omega
  have h8 : rSvcAudSrcCfg x % 8 = 0 := by unfold rSvcAudSrcCfg; omega
  have hi : (rSvcAudSrcCfg x - rSvcAudSrcCfg 0) / 8 = x := by unfold rSvcAudSrcCfg; omega
  change regDefault (rSvcAudSrcCfg x) = _
  rw [regDefault, if_pos hr, if_pos h8, hi]

theorem srcCfgReset_toNat (x : Nat) : (srcCfgReset x).toNat =
    srcClass x * 2 ^ 30 + min (srcCluster x) 14 * 2 ^ 24 + 3 * 2 ^ 16 + (srcWindow x).1 := by
  have hc := srcClass_lt x
  have hw := srcWindow_fst_lt x
  rw [srcCfgReset, BitVec.toNat_ofNat]
  omega

theorem fget_srcCfgReset_class (x : Nat) : fget (srcCfgReset x) 30 2 = srcClass x := by
  have hc := srcClass_lt x
  have hw := srcWindow_fst_lt x
  rw [fget, srcCfgReset_toNat, Nat.shiftRight_eq_div_pow]
  omega

theorem fget_srcCfgReset_vec (x : Nat) : fget (srcCfgReset x) 24 4 = min (srcCluster x) 14 := by
  have hw := srcWindow_fst_lt x
  rw [fget, srcCfgReset_toNat, Nat.shiftRight_eq_div_pow]
  omega

/-- A field whose bits the mask lets through. -/
theorem fget_and_of_mask {v m : Word} {lo w : Nat} (h : ∀ i < w, m.getLsbD (lo + i) = true) :
    fget (v &&& m) lo w = fget v lo w := by
  apply Nat.eq_of_testBit_eq
  intro i
  rw [fget_testBit, fget_testBit, BitVec.getLsbD_and]
  by_cases hi : i < w
  · rw [h i hi, Bool.and_true]
  · simp [hi]

/-- A write of the configuration of a source that is not catalogued FATAL is taken. -/
theorem State.srcWrite_cfg_of_not_fatal {x : Nat} (v : Word) (h : srcClass x ≠ 3) : s.srcWrite x false v =
    (s.wr (rSvcAudSrcCfg x) (v &&& 0xEF3FFFFF#32)).setAud { s.aud with win := Map.set (fun _ => 0) s.aud.win x 0 } := by
  simp [State.srcWrite, h]

theorem State.srcWrite_cfg_class {x : Nat} (v : Word) (h : srcClass x ≠ 3) :
    (s.srcWrite x false v).fld (rSvcAudSrcCfg x) 30 2 = fget v 30 2 := by
  rw [State.srcWrite_cfg_of_not_fatal v h, State.setAud_fld, State.fld, State.rd_wr_same, fget_and_of_mask (by decide)]

/-- A write that lowers the class of a source catalogued FATAL, or masks it, is a violation. -/
theorem State.srcWrite_cfg_of_fatal {x : Nat} {v : Word} (h : srcClass x = 3) (hv : fget v 30 2 < 3 ∨ v.getLsbD 29 = true) :
    s.srcWrite x false v = s.violation (rSvcAudSrcCfg x) := by
  have hv : fget v 30 2 ≠ 3 ∨ v.getLsbD 29 = true := hv.imp_left Nat.ne_of_lt
  simp only [State.srcWrite, Bool.false_eq_true, if_false, if_pos (And.intro h hv)]

theorem execSourceConfigWrite_of_reaches {x : Fin 288} (win : Bool) (v : Word) (hr : s.reaches 15 = true) :
    execSourceConfigWrite x win v s = .next (s.srcWrite x win v) := by
  simp [execSourceConfigWrite, hr]

/-! ### STATE_VIOLATION -/

theorem State.foldl_toChannel_aud (lin : BitVec 64) (l : List Nat) (s : State) :
    (l.foldl (fun t n => t.toChannel n lin) s).aud = s.aud :=
  State.blur_aud (foldl_blur 32768 _ (fun t n => State.toChannel_blur t n lin 32768 rfl) l s) rfl

/-- An event joins the Auditor's queue, and no window hears of it yet. -/
theorem State.raise_win (x u : Nat) : (s.raise x u).aud.win = s.aud.win := by
  unfold State.raise State.raiseLin
  split
  · rfl
  · simp only [State.foldl_toChannel_aud]

/-- A source speaks as before after a write of a register that fences no unit. -/
theorem State.speaks_setFld {a : Nat} (lo w n x u : Nat) (h : a ≠ rDevFenceU (2 * srcCluster x + u / 32)) :
    (s.setFld a lo w n).speaks x u = s.speaks x u := by
  simp [State.speaks, State.unitLive, State.enabled, State.fenced, State.bit, State.rd_setFld, h]

/-- Where the address of a violation is logged: only the first since the count was read. -/
def State.logViolation (s : State) (a : Nat) : State := if s.fld rDevSvCnt 0 16 = 0 then s.setFld rDevSvLog 0 26 a else s

theorem State.violation_eq_logViolation (a : Nat) : s.violation a =
    ((s.logViolation a).setFld rDevSvCnt 0 16 (min (s.fld rDevSvCnt 0 16 + 1) 0xFFFF)).raise 0x004 0 := rfl

theorem State.logViolation_aud (a : Nat) : (s.logViolation a).aud = s.aud := by
  unfold State.logViolation
  split <;> rfl

theorem State.rd_logViolation {a b : Nat} (h : rDevSvLog ≠ b) : (s.logViolation a).rd b = s.rd b := by
  unfold State.logViolation
  split
  · rw [State.rd_setFld, if_neg h]
  · rfl

theorem State.speaks_logViolation (a : Nat) : (s.logViolation a).speaks 0x004 0 = s.speaks 0x004 0 := by
  unfold State.logViolation
  split
  · exact State.speaks_setFld _ _ _ _ _ (by decide)
  · rfl

/-- A violation changes DEV_SV_CNT and DEV_SV_LOG, and no other register. -/
theorem State.rd_violation {a b : Nat} (hlog : rDevSvLog ≠ b) (hcnt : rDevSvCnt ≠ b) : (s.violation a).rd b = s.rd b := by
  rw [State.violation_eq_logViolation, State.raise_rd, State.rd_setFld, if_neg hcnt, State.rd_logViolation hlog]

theorem State.violation_svCnt (a : Nat) : (s.violation a).fld rDevSvCnt 0 16 = min (s.fld rDevSvCnt 0 16 + 1) 0xFFFF := by
  rw [State.violation_eq_logViolation, State.raise_fld, State.fld_setFld_same _ _ _ _ _ (by decide)]
  omega

theorem State.violation_win (a : Nat) : (s.violation a).aud.win = s.aud.win := by
  rw [State.violation_eq_logViolation, State.raise_win, State.setFld_aud, State.logViolation_aud]

theorem State.violation_hears (a : Nat) (h : s.speaks 0x004 0 = true) : (s.violation a).hears 0x004 0 = true := by
  rw [State.violation_eq_logViolation]
  refine State.raise_hears _ ?_
  rw [State.speaks_setFld _ _ _ _ _ (by decide), State.speaks_logViolation, h]

/-- Settles O16: the catalogue's class at reset, the class that a write gives, and a FATAL source kept FATAL and unmasked by
a violation. -/
theorem sourceClasses : Obligations.SourceClasses := by
  refine ⟨fun x hx => ?_, fun s x v hr hx => ?_, fun s x v hr hx hv => ?_⟩
  · rw [State.fld, State.reset_rd_srcCfg hx, fget_srcCfgReset_class]
  · exact ⟨_, execSourceConfigWrite_of_reaches false v hr, State.srcWrite_cfg_class v hx⟩
  · refine ⟨_, execSourceConfigWrite_of_reaches false v hr, ?_⟩
    have hlog : rDevSvLog ≠ rSvcAudSrcCfg x := by unfold rDevSvLog rSvcAudSrcCfg; omega
    have hcnt : rDevSvCnt ≠ rSvcAudSrcCfg x := by unfold rDevSvCnt rSvcAudSrcCfg; omega
    rw [State.srcWrite_cfg_of_fatal hx hv]
    exact ⟨State.rd_violation hlog hcnt, State.violation_win _, State.violation_svCnt _, State.violation_hears _⟩

/-! ### The cycle of the Auditor -/

/-- MASK stops an event at its counter. -/
theorem State.audit_of_masked {e : EvRec} (m : Nat) (h : s.bit (rSvcAudSrcCfg e.src) 29 = true) :
    s.audit e m = s.countN (rSvcAudCnt e.src) m := if_pos h

theorem idxs_beq {n k : Nat} (h : k < n) : idxs n (fun x => k == x) = [k] := by
  have hcount : (List.range n).count k = 1 := List.count_eq_one_of_mem List.nodup_range (List.mem_range.mpr h)
  have heq : (fun x => k == x) = (· == k) := funext fun _ => BEq.comm
  rw [idxs, heq, List.filter_beq, hcount, List.replicate_one]

/-- A cycle in which one event waits takes that event, alone. -/
theorem State.auditCycle_of_single {e : EvRec} (hq : s.aud.q = [e]) (hx : e.src < 288) :
    s.auditCycle = (s.setAud { s.aud with q := [] }).audit e 1 := by
  simp [State.auditCycle, hq, idxs_beq hx, State.forEach]

/-- Settles O17: the cycle of a single event comes down to the audit of that event, which MASK stops at the count. -/
theorem maskedSourceOnlyCounts : Obligations.MaskedSourceOnlyCounts :=
  ⟨fun _ x _ _ _ _ hq hm =>
      ⟨_, congrArg Host.Outcome.next (State.auditCycle_of_single hq x.isLt), State.audit_of_masked 1 hm⟩,
    fun _ _ m hm => State.audit_of_masked m hm⟩

/-! ### The reaction IRQ -/

theorem State.msix_bit (v a i : Nat) : (s.msix v).bit a i = s.bit a i := by
  rw [State.bit, State.bit, State.rd, State.rd, State.blur_regs (State.msix_blur s v 33570816 rfl) rfl]

/-- The message of a vector that is not masked leaves at once. -/
theorem State.msix_of_unmasked {v : Nat} (h : s.mxMasked v = false) :
    s.msix v = s.setAud { s.aud with msix := s.aud.msix ++ [v] } := by
  simp [State.msix, h, State.setAud]

theorem State.msix_aud_of_masked {v : Nat} (h : s.mxMasked v = true) : (s.msix v).aud = s.aud := by
  rw [State.msix, if_pos h]
  split <;> rfl

@[simp] theorem State.setBit_mxMasked (a i : Nat) (b : Bool) (v : Nat) : (s.setBit a i b).mxMasked v = s.mxMasked v := rfl

theorem State.irq_of_pending {x : Nat} (h : s.bit (rSvcAudPend (x / 32)) (x % 32) = true) : s.irq x false = s := by
  simp [State.irq, h]

/-! ### SVC_AUD_PENDk on the bus -/

/-- A register without fields of the types RW, RWS and structural takes a write in its W1C bits alone. -/
theorem State.putReg_of_w1c {a : Nat} {r : RegRow} (v : Word) (hrow : rowAt a = some r) (hrw : r.mask .rw = 0#32)
    (hst : r.mask .st = 0#32) (hrws : r.mask .rws = 0#32) : s.putReg a v = s.wr a (s.rd a &&& ~~~ (v &&& r.mask .w1c)) := by
  have hones : s.rd a &&& ~~~0#32 = s.rd a := BitVec.and_allOnes
  simp only [State.putReg, hrow, hrw, hst, hrws, ite_self, BitVec.or_zero, BitVec.and_zero, hones, if_true, bne_self_eq_false,
    Bool.not_false]

/-- The row of SVC_AUD_PENDk in the catalogue. -/
def pendRow : RegRow := regs1 "SVC_AUD_PENDk" 0x40 9 0x4 [fW1c 31 0 0]

theorem rowAt_pend : ∀ k : Fin 9, rowAt (rSvcAudPend k) = some pendRow := by decide

theorem State.putReg_pend (k : Fin 9) (v : Word) :
    s.putReg (rSvcAudPend k) v = s.wr (rSvcAudPend k) (s.rd (rSvcAudPend k) &&& ~~~ v) := by
  have hones : pendRow.mask .w1c = BitVec.allOnes 32 := by decide
  rw [State.putReg_of_w1c v (rowAt_pend k) (by decide) (by decide) (by decide), hones, BitVec.and_allOnes]

/-- While unit 2 of SVC is live, a write of SVC_AUD_PENDk clears the bits written as 1. -/
theorem State.busWrite_pend (k : Fin 9) (v : Word) (hr : s.reaches 15 = true) (hl : s.unitLive 15 2 = true) :
    s.busWrite (rSvcAudPend k) v = s.wr (rSvcAudPend k) (s.rd (rSvcAudPend k) &&& ~~~ v) := by
  have hc : clusterOf (rSvcAudPend k) = 15 := by unfold clusterOf rSvcAudPend; omega
  have hu : unitOf (rSvcAudPend k) = 2 := by unfold unitOf rSvcAudPend; omega
  have ho : offOf (rSvcAudPend k) = 0x40 + 4 * k := by unfold offOf rSvcAudPend; omega
  have hfence : rSvcAudPend k ≠ rSvcAudFence := by unfold rSvcAudPend rSvcAudFence; omega
  have hsel : rSvcAudPend k ≠ rSvcAudInjsel := by unfold rSvcAudPend rSvcAudInjsel; omega
  have hinj : rSvcAudPend k ≠ rSvcAudInj := by unfold rSvcAudPend rSvcAudInj; omega
  have hsrc : ¬ 0x1000 ≤ 0x40 + 4 * k.val := by omega
  simp [State.busWrite, hc, hu, ho, hr, hl, kindOf, mirror, blockGone, rowAt_pend, State.writeUnit, State.wAud, hfence, hsel,
    hinj, hsrc, State.putReg_pend]

/-- All byte enables of an aligned 32-bit write: the bus takes the word. -/
theorem execRegisterWrite_narrow {a : Nat} (lo hi : Word) (hlt : a < 2 ^ 26) (ha : a % 4 = 0) :
    execRegisterWrite (BitVec.ofNat 26 a) 0x0F#8 false lo hi s = .next (s.busWrite a lo) := by
  have hto : (BitVec.ofNat 26 a).toNat = a := (BitVec.toNat_ofNat ..).trans (Nat.mod_eq_of_lt hlt)
  simp [execRegisterWrite, hto, ha]

/-- Settles O18: the pending bit of a source and the one message of its change from 0 to 1, sent or held by the vector's mask,
the clearing write, and the vectors at reset. -/
theorem reactionIrq : Obligations.ReactionIrq := by
  refine ⟨fun s x _ => ?_, fun s x v _ hpend hv hmask => ?_, fun s x v _ hpend hv hmask hheld => ?_,
    fun s x hpend => State.irq_of_pending hpend, fun s k v hr hl => ?_, fun x hx => ?_⟩
  · cases hpend : s.bit (rSvcAudPend (x / 32)) (x % 32) with
    | true => rw [State.irq_of_pending hpend, hpend]
    | false =>
      rw [State.irq_of_not_pending hpend, State.msix_bit, State.bit_setBit_same _ _ _ _ (Nat.mod_lt _ (by decide))]
  · subst hv
    rw [State.irq_of_not_pending hpend, State.msix_of_unmasked ((State.setBit_mxMasked ..).trans hmask)]
    exact ⟨rfl, rfl⟩
  · subst hv
    have hmask := (State.setBit_mxMasked (rSvcAudPend (x / 32)) (x % 32) true _).trans hmask
    rw [State.irq_of_not_pending hpend, State.msix_aud_of_masked hmask, State.msix_mxPend_of_masked hmask, State.setBit_hst,
      hheld]
    exact ⟨rfl, rfl⟩
  · have hlt : rSvcAudPend k < 2 ^ 26 := by unfold rSvcAudPend; omega
    have hal : rSvcAudPend k % 4 = 0 := by unfold rSvcAudPend; omega
    refine ⟨_, execRegisterWrite_narrow v 0#32 hlt hal, ?_⟩
    rw [State.busWrite_pend k v hr hl]
    exact ⟨State.rd_wr_same .., rfl⟩
  · rw [State.fld, State.reset_rd_srcCfg hx, fget_srcCfgReset_vec]

end Sys2Proof.Machine
end

section
/-! PROOF. The frame of every command: each completes, in a state that differs from the one before in its footprint only; who
may change the variant, the test port, the fuses and a telemetry answer (R54, R62, R96, R565). -/

namespace Sys2Proof.Machine

open Sys2Proof

variable {s t : State}

/-- The place of a part of State in the masks of `State.blur`. -/
def Comp.place : Comp → Nat
  | .variant => 0 | .now => 1 | .px => 2 | .mint => 3 | .regs => 4 | .shadow => 5 | .live => 6 | .flash => 7
  | .otp => 8 | .plane => 9 | .escrow => 10 | .vlt => 11 | .pwr => 12 | .clk => 13 | .aud => 14 | .ch => 15
  | .th => 16 | .lnk => 17 | .ing => 18 | .sch => 19 | .pix => 20 | .cor => 21 | .cmp => 22 | .vid => 23
  | .mem => 24 | .hst => 25 | .net => 26 | .out => 27 | .tap => 28 | .rdata => 29 | .rbytes => 30 | .pending => 31

/-- The mask that forgets the listed parts. -/
def Comp.mask (l : List Comp) : Nat := l.foldr (fun p m => 2 ^ p.place ||| m) 0

theorem Comp.place_inj {p q : Comp} : p.place = q.place ↔ p = q := by
  cases p <;> cases q <;> decide

/-- A mask holds the bits of its parts and no others. -/
theorem Comp.testBit_mask (l : List Comp) (p : Comp) : (Comp.mask l).testBit p.place = decide (p ∈ l) := by
  induction l with
  | nil => simp [Comp.mask]
  | cons q l ih =>
    have hq : (2 ^ q.place).testBit p.place = decide (p = q) := by
      rw [Nat.testBit_two_pow]
      exact decide_eq_decide.mpr (eq_comm.trans Comp.place_inj)
    rw [Comp.mask, List.foldr_cons, Nat.testBit_or, hq]
    simp only [Comp.mask] at ih
    simp [ih]

/-- Two states that agree off a mask have the same parts off that mask. -/
theorem Comp.same_of_blur {m : Nat} (h : t.blur m = s.blur m) (p : Comp) (hp : m.testBit p.place = false) : p.same s t := by
  cases p with
  | variant => exact State.blur_variant h hp
  | now => exact State.blur_now h hp
  | px => exact State.blur_px h hp
  | mint => exact State.blur_mint h hp
  | regs => exact State.blur_regs h hp
  | shadow => exact State.blur_shadow h hp
  | live => exact State.blur_live h hp
  | flash => exact State.blur_flash h hp
  | otp => exact State.blur_otp h hp
  | plane => exact State.blur_plane h hp
  | escrow => exact State.blur_escrow h hp
  | vlt => exact State.blur_vlt h hp
  | pwr => exact State.blur_pwr h hp
  | clk => exact State.blur_clk h hp
  | aud => exact State.blur_aud h hp
  | ch => exact State.blur_ch h hp
  | th => exact State.blur_th h hp
  | lnk => exact State.blur_lnk h hp
  | ing => exact State.blur_ing h hp
  | sch => exact State.blur_sch h hp
  | pix => exact State.blur_pix h hp
  | cor => exact State.blur_cor h hp
  | cmp => exact State.blur_cmp h hp
  | vid => exact State.blur_vid h hp
  | mem => exact State.blur_mem h hp
  | hst => exact State.blur_hst h hp
  | net => exact State.blur_net h hp
  | out => exact State.blur_out h hp
  | tap => exact State.blur_tap h hp
  | rdata => exact State.blur_rdata h hp
  | rbytes => exact State.blur_rbytes h hp
  | pending => exact State.blur_pending h hp

theorem outBlur_next_of_some {m : Nat} {o : Host.Outcome State Fault Refusal} {u : State} (h : outBlur m o = some u) :
    ∃ t, o = .next t := by
  cases o with
  | next t => exact ⟨t, rfl⟩
  | fault r => cases h
  | refused r => cases h

/-- Every command completes, and the state it answers differs in the command's footprint only: the frame lemmas of the
meanings, each of a mask within the footprint's. -/
theorem exec_blur (c : Instr) (s : State) :
    outBlur (Comp.mask (footprint c)) (exec c s) = some (s.blur (Comp.mask (footprint c))) := by
  cases c <;> simp (disch := decide) [exec, footprint]

/-- Settles O3: the outcome of every command has a next state. -/
theorem everyCommandCompletes : Obligations.EveryCommandCompletes :=
  fun c s => outBlur_next_of_some (exec_blur c s)

/-- Settles O4, by the mask of the footprint. -/
theorem commandsKeepTheirFrame : Obligations.CommandsKeepTheirFrame := by
  intro c s t h p hp
  exact Comp.same_of_blur (outBlur_eq (exec_blur c s) h) p ((Comp.testBit_mask _ p).trans (decide_eq_false hp))

/-- No command has the variant or the queue of commands in its footprint. -/
theorem footprint_not_variant (c : Instr) : Comp.variant ∉ footprint c ∧ Comp.pending ∉ footprint c := by
  cases c <;> simp [footprint]

theorem exec_variant {c : Instr} (h : exec c s = .next t) : t.variant = s.variant :=
  commandsKeepTheirFrame c s t h .variant (footprint_not_variant c).1

theorem exec_pending {c : Instr} (h : exec c s = .next t) : t.pending = s.pending :=
  commandsKeepTheirFrame c s t h .pending (footprint_not_variant c).2

/-- Settles O1: the first two clauses say what `step` is, the third is the frame's. -/
theorem stepRunsFrontCommand : Obligations.StepRunsFrontCommand :=
  ⟨fun _ _ _ => rfl, fun s h => by rw [step, h], fun _ _ _ => exec_pending⟩

/-- The commands that may change the test port. -/
theorem footprint_tap {c : Instr} (h : Comp.tap ∈ footprint c) : (∃ b, c = .tapBypass b) ∨ c = .tapIdcode ∨
    (∃ l, c = .tapSamplePreload l) ∨ (∃ l, c = .tapExtest l) ∨ c = .railsFall ∨ c = .thermalCutoff := by
  cases c <;> simp [footprint] at h ⊢

/-- The commands that may burn a fuse. -/
theorem footprint_otp {c : Instr} (h : Comp.otp ∈ footprint c) : (∃ a, c = .floorAdvance a) ∨ (∃ a, c = .revoke a) ∨
    (∃ a, c = .zeroize a) ∨ ∃ a b w l h, c = .registerWrite a b w l h := by
  cases c <;> simp [footprint] at h ⊢

/-- The commands that answer telemetry. -/
theorem footprint_rbytes {c : Instr} (h : Comp.rbytes ∈ footprint c) : (∃ o n, c = .vpdRead o n) ∨
    c ∈ [Instr.telemetryIdentity, .telemetryZones, .telemetrySensors, .telemetryThermalStatus, .telemetryPowerStatus,
      .telemetryInputPower, .telemetryHeadPower, .telemetryClock, .telemetryFaultSummary, .telemetryFirstFatal] := by
  cases c <;> simp [footprint] at h ⊢

/-- Settles O5: the commands that a clause leaves out are those whose footprint has the part. -/
theorem onlyTheseChange : Obligations.OnlyTheseChange := by
  refine ⟨fun c s t => exec_variant, fun c s t h h1 h2 h3 h4 h5 h6 => ?_, fun c s t h h1 h2 h3 h4 => ?_,
    fun c s t h h1 h2 => ?_⟩
  · refine commandsKeepTheirFrame c s t h .tap fun hc => ?_
    rcases footprint_tap hc with ⟨b, e⟩ | e | ⟨l, e⟩ | ⟨l, e⟩ | e | e
    exacts [h1 b e, h2 e, h3 l e, h4 l e, h5 e, h6 e]
  · refine commandsKeepTheirFrame c s t h .otp fun hc => ?_
    rcases footprint_otp hc with ⟨a, e⟩ | ⟨a, e⟩ | ⟨a, e⟩ | ⟨a, b, w, l, u, e⟩
    exacts [h1 a e, h2 a e, h3 a e, h4 a b w l u e]
  · refine commandsKeepTheirFrame c s t h .rbytes fun hc => ?_
    rcases footprint_rbytes hc with ⟨o, n, e⟩ | hm
    exacts [h1 o n e, h2 c hm rfl]

end Sys2Proof.Machine
end

section
/-! PROOF. The lasting state of a module (R96, R101, R102, R103, R119): what a command may do to the fuses and the flash. Fuses are
written by the officer services only, and every store to the flash goes through `putBytes` or a filter. -/

namespace Sys2Proof.Machine

open Sys2Proof

variable {s t u : State}

/-- What lasts from `s` to `t`: the variant, the burned fuses, the canonical form of the flash. -/
def State.lastsTo (s t : State) : Prop :=
  t.variant = s.variant ∧ burned s.otp t.otp ∧ (Memory.wf s.flash = true → Memory.wf t.flash = true)

/-- Every part but the variant, the flash and the fuses, as a mask of `State.blur`. -/
def notLasting : Nat := 4294966910

theorem burned.refl (o : Otp) : burned o o := ⟨rfl, le_refl _, le_max_left _ _, fun _ h => h, fun h => h⟩

theorem burned.trans {o p q : Otp} (h : burned o p) (h' : burned p q) : burned o q := by
  obtain ⟨hpol, hlo, hhi, hrev, hzero⟩ := h
  obtain ⟨hpol', hlo', hhi', hrev', hzero'⟩ := h'
  exact ⟨hpol'.trans hpol, hlo.trans hlo', by omega, fun k hk => hrev' k (hrev k hk), fun hz => hzero' (hzero hz)⟩

theorem State.lastsTo.refl (s : State) : s.lastsTo s := ⟨rfl, burned.refl _, fun h => h⟩

theorem State.lastsTo.trans (h : s.lastsTo t) (h' : t.lastsTo u) : s.lastsTo u :=
  ⟨h'.1.trans h.1, h.2.1.trans h'.2.1, fun hf => h'.2.2 (h.2.2 hf)⟩

/-- Operations that leave the variant, the fuses and the flash alone change nothing that lasts. -/
theorem State.lastsTo.of_blur (h : s.lastsTo t) (hb : u.blur notLasting = t.blur notLasting) : s.lastsTo u := by
  obtain ⟨hv, ho, hf⟩ := h
  rw [State.lastsTo, State.blur_variant hb rfl, State.blur_otp hb rfl, State.blur_flash hb rfl]
  exact ⟨hv, ho, hf⟩

theorem State.lastsTo_of_blur (hb : t.blur notLasting = s.blur notLasting) : s.lastsTo t :=
  (State.lastsTo.refl s).of_blur hb

/-! ### Stores to the flash -/

theorem State.selectSlot_lastsTo (n : Nat) : s.lastsTo (s.selectSlot n) :=
  ⟨rfl, burned.refl _, State.selectSlot_wf s n⟩

theorem State.eraseSlot_lastsTo (n : Nat) : s.lastsTo (s.eraseSlot n) :=
  ⟨rfl, burned.refl _, State.eraseSlot_wf s n⟩

theorem State.putSlot_lastsTo (n : Nat) (img : List Byte) : s.lastsTo (s.putSlot n img) :=
  ⟨rfl, burned.refl _, State.putSlot_wf s n img⟩

theorem State.putFlash_lastsTo (a : Nat) (b : List Byte) : s.lastsTo { s with flash := putBytes s.flash a b } :=
  ⟨rfl, burned.refl _, Memory.wf_putBytes b _ a⟩

theorem State.verifySlot_lastsTo : s.lastsTo s.verifySlot.1 := by
  unfold State.verifySlot
  dsimp only
  split
  · exact State.lastsTo.refl s
  · split
    · exact State.lastsTo.refl s
    · split
      · exact State.eraseSlot_lastsTo _
      · split
        · exact (State.putFlash_lastsTo _ _).trans (State.eraseSlot_lastsTo _)
        · exact (State.putFlash_lastsTo _ _).trans (State.putSlot_lastsTo _ _)

/-! ### The swap of the planes -/

theorem State.swap_lastsTo : s.lastsTo s.swap := by
  unfold State.swap
  split
  · refine State.lastsTo.of_blur (State.lastsTo.trans ?_ (State.selectSlot_lastsTo _)) (by simp [notLasting]; rfl)
    exact State.lastsTo_of_blur (by simp [notLasting])
  · exact State.lastsTo.refl s

/-- A branch lasts where both of its ends do. -/
theorem State.lastsTo_ite {c : Prop} [Decidable c] (ht : s.lastsTo t) (hu : s.lastsTo u) : s.lastsTo (if c then t else u) := by
  split
  · exact ht
  · exact hu

theorem State.swapPoint_lastsTo : s.lastsTo s.swapPoint := by
  unfold State.swapPoint
  split
  · exact State.lastsTo.refl s
  · split
    · exact State.swap_lastsTo
    · split
      · exact State.swap_lastsTo
      · exact State.lastsTo_of_blur (by simp [notLasting])

theorem State.swapLook_lastsTo : s.lastsTo s.swapLook := by
  unfold State.swapLook
  exact State.lastsTo_ite (State.lastsTo.refl s) (State.lastsTo_ite State.swapPoint_lastsTo
    (State.lastsTo_of_blur (by simp [notLasting])))

theorem State.activateNow_lastsTo : s.lastsTo s.activateNow := by
  unfold State.activateNow
  split
  · exact State.lastsTo.refl s
  · split
    · exact State.lastsTo_of_blur (by simp [notLasting])
    · dsimp only
      split
      · exact State.lastsTo_of_blur (by simp [notLasting])
      · exact (State.lastsTo_of_blur (by simp [notLasting])).trans State.swap_lastsTo

theorem State.loadPlane_lastsTo : s.lastsTo s.loadPlane.1 := by
  have h : s.lastsTo (if s.vlt.load = 2 then s.verifySlot else (s, s.checkImage (s.slotBytes s.inactive))).1 := by
    split
    · exact State.verifySlot_lastsTo
    · exact State.lastsTo.refl s
  unfold State.loadPlane
  dsimp only
  split
  · exact h
  · split
    · exact h
    · exact h

theorem State.escrowReady_lastsTo (readOk : Bool) : s.lastsTo (s.escrowReady readOk) := by
  have h : s.lastsTo (if readOk then s.loadPlane else (s, .error (errDev eFlash 0))).1 := by
    split
    · exact State.loadPlane_lastsTo
    · exact State.lastsTo.refl s
  unfold State.escrowReady
  refine State.lastsTo_ite (State.lastsTo.refl s) ?_
  dsimp only
  split
  · exact h.of_blur (by simp [notLasting])
  · refine State.lastsTo_ite ((h.of_blur ?_).trans State.activateNow_lastsTo) (h.of_blur ?_)
    · simp [notLasting]
    · simp [notLasting]

theorem State.activate_lastsTo : s.lastsTo s.activate := by
  unfold State.activate
  exact State.lastsTo_ite (State.lastsTo.refl s) (State.lastsTo_ite (State.lastsTo_of_blur (by simp [notLasting]))
    (State.lastsTo_ite (State.lastsTo_of_blur (by simp [notLasting])) State.activateNow_lastsTo))

theorem execSegmentClose_lastsTo (part : Fin 32) (h : execSegmentClose part s = .next t) : s.lastsTo t := by
  have hr : s.lastsTo (s.segmentClose part).1 := State.lastsTo_of_blur (by simp [notLasting])
  simp only [execSegmentClose, Host.Outcome.next.injEq] at h
  subst h
  exact State.lastsTo_ite ((hr.of_blur (by simp [notLasting])).trans State.swapLook_lastsTo) hr

/-! ### Firmware commands -/

theorem State.admin_lastsTo {op : Nat} {cid : BitVec 16} {ok : NCmd → Bool} {f : State → NCmd → State}
    (h : ∀ c, s.lastsTo (f s c)) : s.lastsTo (s.admin op cid ok f) := by
  unfold State.admin
  split
  · exact State.lastsTo_ite (h _) (State.lastsTo.refl s)
  · exact State.lastsTo.refl s

theorem State.download_lastsTo (c : NCmd) : s.lastsTo (s.download c) := by
  have h : s.lastsTo (if c.dw 11 * 4 = 0 then s.eraseSlot s.inactive else s) :=
    State.lastsTo_ite (State.eraseSlot_lastsTo _) (State.lastsTo.refl s)
  unfold State.download
  refine State.lastsTo_ite (State.lastsTo.refl s) (State.lastsTo_ite (State.lastsTo_of_blur (by simp [notLasting]))
    (State.lastsTo_ite (State.lastsTo_of_blur (by simp [notLasting])) ?_))
  exact (h.trans (State.putFlash_lastsTo _ _)).of_blur (by simp [notLasting]; rfl)

theorem State.commitFw_lastsTo (c : NCmd) : s.lastsTo (s.commitFw c) := by
  have keep : ∀ t : State, t.blur notLasting = s.blur notLasting → s.lastsTo t := fun _ => State.lastsTo_of_blur
  unfold State.commitFw
  refine State.lastsTo_ite (State.lastsTo.refl s) (State.lastsTo_ite (keep _ (by simp [notLasting])) (State.lastsTo_ite
    (keep _ (by simp [notLasting])) (State.lastsTo_ite ?_ (State.lastsTo_ite (keep _ (by simp [notLasting]))
    (keep _ (by simp [notLasting]))))))
  exact (State.selectSlot_lastsTo _).of_blur (by simp [notLasting]; rfl)

theorem State.verifyDone_lastsTo (readOk : Bool) : s.lastsTo (s.verifyDone readOk) := by
  have h : s.lastsTo (if readOk then s.verifySlot else (s, .error (errDev eFlash 0))).1 := by
    split
    · exact State.verifySlot_lastsTo
    · exact State.lastsTo.refl s
  unfold State.verifyDone
  refine State.lastsTo_ite (State.lastsTo.refl s) ?_
  dsimp only
  split
  · exact h.of_blur (by simp [notLasting])
  · split
    · refine State.lastsTo.of_blur (State.lastsTo.trans ?_ (State.selectSlot_lastsTo _)) (State.endVerify_blur _ _ _ _ rfl)
      exact h.of_blur (by simp [notLasting])
    · exact h.of_blur (by simp [notLasting])

/-! ### Officer services -/

theorem State.officer_lastsTo {op arg : Nat} {f : State → State} (h : s.lastsTo (f s)) : s.lastsTo (s.officer op arg f) := by
  unfold State.officer
  refine State.lastsTo_ite (State.lastsTo.refl s) (State.lastsTo.of_blur (State.lastsTo_ite h ?_) (State.renewNonce_blur _ _ rfl))
  exact State.lastsTo_of_blur (State.setRes_blur _ _ _ rfl)

theorem State.setOtp_lastsTo {o : Otp} (h : burned s.otp o) : s.lastsTo { s with otp := o } := ⟨rfl, h, fun h => h⟩

/-- R102: the floor rises to the running security version, to 255 at most. -/
theorem State.floorAdvance_lastsTo : s.lastsTo s.floorAdvance := by
  have advance : ∀ n, n ≤ 255 → s.lastsTo (if n ≤ s.otp.floor then s.setRes resFloor
      else ({ s with otp := { s.otp with floor := n } } : State).setRes resOk) := by
    intro n hn
    split
    · exact State.lastsTo_of_blur (State.setRes_blur _ _ _ rfl)
    · refine State.lastsTo.of_blur (State.setOtp_lastsTo ?_) (State.setRes_blur _ _ _ rfl)
      exact ⟨rfl, by dsimp only; omega, by dsimp only; omega, fun _ h => h, fun h => h⟩
  exact advance _ (min_le_left _ _)

/-- R96: a revocation sets its bit and keeps the others. -/
theorem State.revoke_lastsTo (slot : Nat) : s.lastsTo (s.revoke slot) := by
  unfold State.revoke
  split
  · exact State.lastsTo_of_blur (State.setRes_blur _ _ _ rfl)
  · refine State.lastsTo.of_blur (State.setOtp_lastsTo ?_) (State.setRes_blur _ _ _ rfl)
    exact ⟨rfl, le_refl _, le_max_left _ _, fun k hk => by simp [hk], fun h => h⟩

/-- R119: zeroization burns its fuse and nothing else. -/
theorem State.zeroize_lastsTo : s.lastsTo s.zeroize := by
  unfold State.zeroize
  split
  · exact State.lastsTo_of_blur (State.setRes_blur _ _ _ rfl)
  · refine State.lastsTo.of_blur (State.setOtp_lastsTo (o := { s.otp with zeroized := true }) ?_) (by simp [notLasting])
    exact ⟨rfl, le_refl _, le_max_left _ _, fun _ h => h, fun _ => rfl⟩

/-! ### Register writes -/

theorem State.vltCmd_lastsTo (v : Word) : s.lastsTo (s.vltCmd v) := by
  unfold State.vltCmd
  dsimp only
  split
  · exact State.lastsTo_of_blur (by simp [notLasting])
  · exact State.activate_lastsTo
  · exact State.lastsTo_of_blur (by simp [notLasting])
  · exact State.lastsTo_of_blur (by simp [notLasting])
  · exact State.officer_lastsTo State.floorAdvance_lastsTo
  · exact State.officer_lastsTo (State.revoke_lastsTo _)
  · exact State.officer_lastsTo State.zeroize_lastsTo
  · exact State.lastsTo.refl s

theorem State.wVault_lastsTo (a : Nat) (v : Word) : s.lastsTo (s.wVault a v) := by
  unfold State.wVault
  refine State.lastsTo_ite (State.vltCmd_lastsTo v) (State.lastsTo_of_blur ?_)
  simp [notLasting]

/-- Of the units only the Vault reaches the fuses and the flash. -/
theorem State.writeUnit_lastsTo (k : Kind) (n o a : Nat) (v : Word) : s.lastsTo (s.writeUnit k n o a v) := by
  by_cases hk : k = .vault
  · subst hk
    exact State.wVault_lastsTo a v
  · refine State.lastsTo_of_blur ?_
    cases k <;> first | exact absurd rfl hk | simp [State.writeUnit, notLasting]

theorem State.busWrite_lastsTo (a : Nat) (v : Word) : s.lastsTo (s.busWrite a v) := by
  unfold State.busWrite
  dsimp only
  refine State.lastsTo_ite (State.lastsTo.refl s) ?_
  split
  · exact State.lastsTo.refl s
  · exact State.lastsTo_ite (State.lastsTo_of_blur (by simp [notLasting]))
      (State.lastsTo_ite (State.lastsTo.refl s) (State.writeUnit_lastsTo ..))

theorem execRegisterWrite_lastsTo {addr : BitVec 26} {be : BitVec 8} {wide : Bool} {lo hi : Word}
    (h : execRegisterWrite addr be wide lo hi s = .next t) : s.lastsTo t := by
  have lower : s.lastsTo (if be.setWidth 4 = 0xF#4 then s.busWrite addr.toNat lo else s) :=
    State.lastsTo_ite (State.busWrite_lastsTo _ _) (State.lastsTo.refl s)
  by_cases ha : addr.toNat % (if wide then 8 else 4) ≠ 0
  · obtain rfl := Host.Outcome.next.inj ((if_pos ha).symm.trans h)
    exact State.lastsTo.refl s
  · obtain rfl := Host.Outcome.next.inj ((if_neg ha).symm.trans h)
    exact State.lastsTo_ite (lower.trans (State.busWrite_lastsTo _ _)) lower

/-! ### Every command -/

/-- Whatever command runs, what lasts stays. -/
theorem exec_lastsTo {c : Instr} (h : exec c s = .next t) : s.lastsTo t := by
  by_cases hc : Comp.flash ∉ footprint c ∧ Comp.otp ∉ footprint c
  · have frame := commandsKeepTheirFrame c s t h
    have hf : t.flash = s.flash := frame .flash hc.1
    have ho : t.otp = s.otp := frame .otp hc.2
    exact ⟨exec_variant h, ho ▸ burned.refl _, fun w => hf ▸ w⟩
  · cases c
    case registerWrite => exact execRegisterWrite_lastsTo h
    case escrowReady => cases h; exact State.escrowReady_lastsTo _
    case activate => cases h; exact State.activate_lastsTo
    case swapPoint => cases h; exact State.lastsTo_ite State.swapPoint_lastsTo (State.lastsTo.refl s)
    case segmentClose => exact execSegmentClose_lastsTo _ h
    case floorAdvance => cases h; exact State.officer_lastsTo State.floorAdvance_lastsTo
    case revoke => cases h; exact State.officer_lastsTo (State.revoke_lastsTo _)
    case zeroize => cases h; exact State.officer_lastsTo State.zeroize_lastsTo
    case firmwareImageDownload => cases h; exact State.admin_lastsTo State.download_lastsTo
    case commitVerify => cases h; exact State.admin_lastsTo State.commitFw_lastsTo
    case commitVerifySelect => cases h; exact State.admin_lastsTo State.commitFw_lastsTo
    case commitSelect => cases h; exact State.admin_lastsTo State.commitFw_lastsTo
    case commitActivate =>
      cases h
      exact State.admin_lastsTo fun c => State.lastsTo_ite ((State.commitFw_lastsTo c).of_blur (by simp [notLasting]))
        (State.commitFw_lastsTo c)
    case firmwareVerifyComplete => cases h; exact State.verifyDone_lastsTo _
    all_goals exact absurd (by simp [footprint]) hc

theorem State.tick_lastsTo : s.lastsTo s.tick := State.lastsTo_of_blur (by simp [notLasting])

/-- Settles O7: each step, of a command or of a nanosecond, keeps what lasts, and `burned` is transitive. -/
theorem lastingStateLasts : Obligations.LastingStateLasts := by
  intro v o s t hs ht
  have h : s.lastsTo t := by
    unfold step at ht
    split at ht
    · cases ht
      exact State.tick_lastsTo
    · exact (State.lastsTo_of_blur (by simp [notLasting])).trans (exec_lastsTo ht)
  obtain ⟨hv, ho, hf⟩ := hs
  obtain ⟨hv', ho', hf'⟩ := h
  exact ⟨hv'.trans hv, ho.trans ho', hf' hf⟩

/-- Settles O11: no command burns the policy word. -/
theorem policyBitsNeverClear : Obligations.PolicyBitsNeverClear := by
  intro c s t k h hk
  obtain ⟨-, ⟨hpol, -⟩, -⟩ := exec_lastsTo h
  rw [hpol, hk]

end Sys2Proof.Machine
end

section
/-! PROOF. Recording memory: a read finds what was written (R411, R414, R417), and the injection of a sub-channel reaches the
parity of the bursts it names and nothing else (R435). -/

namespace Sys2Proof.Machine

open Sys2Proof

variable {s t : State} {a b : Nat}

/-! ### Registers beside the one written -/

theorem State.rd_setFld_other (lo w n : Nat) (h : a ≠ b) : (s.setFld a lo w n).rd b = s.rd b := State.rd_wr_other s _ h

theorem State.rd_setBit_other (i : Nat) (v : Bool) (h : a ≠ b) : (s.setBit a i v).rd b = s.rd b := State.rd_wr_other s _ h

theorem State.rd_countN_other (n : Nat) (h : a ≠ b) : (s.countN a n).rd b = s.rd b := State.rd_wr_other s _ h

theorem State.rd_count_other (h : a ≠ b) : (s.count a).rd b = s.rd b := State.rd_wr_other s _ h

/-- What does not touch the registers reads them as before. -/
theorem State.rd_of_regs (h : t.regs = s.regs) (a : Nat) : t.rd a = s.rd a := by rw [State.rd, State.rd, h]

theorem State.fld_of_rd {lo w : Nat} (h : t.rd a = s.rd a) : t.fld a lo w = s.fld a lo w := by rw [State.fld, State.fld, h]

theorem State.bit_of_rd {i : Nat} (h : t.rd a = s.rd a) : t.bit a i = s.bit a i := by rw [State.bit, State.bit, h]

theorem State.fld_lt (a lo w : Nat) : s.fld a lo w < 2 ^ w := fget_lt _ lo w

/-- A state written out field by field reads the registers it is given. -/
@[simp] theorem State.rd_mk (variant now px mint regs shadow live flash otp plane escrow vlt pwr clk aud ch th lnk ing sch pix cor
    cmp vid mem hst net out tap rdata rbytes pending) (r : Nat) :
    (State.mk variant now px mint regs shadow live flash otp plane escrow vlt pwr clk aud ch th lnk ing sch pix cor cmp vid mem
      hst net out tap rdata rbytes pending).rd r = Map.get regDefault regs r := rfl

@[simp] theorem State.get_regs (r : Nat) : Map.get regDefault s.regs r = s.rd r := rfl

theorem State.fld_setMem (m : Mem) (r lo w : Nat) : ({ s with mem := m } : State).fld r lo w = s.fld r lo w := rfl

/-! ### Bytes of a sparse memory -/

/-- A store leaves every byte outside it alone. -/
theorem get_putBytes_other (m : List Host.Cell) (a k : Nat) (l : List Byte) (h : k < a ∨ a + l.length ≤ k) :
    Map.get byteDefault (putBytes m a l) k = Map.get byteDefault m k := by
  induction l generalizing m a with
  | nil => rfl
  | cons x l ih =>
    rw [List.length_cons] at h
    rw [putBytes, ih _ _ (by omega), Map.get_set_other _ _ _ _ _ (by omega)]

/-- A load of what has just been stored. -/
theorem bytesAt_putBytes (m : List Host.Cell) (a : Nat) (l : List Byte) : bytesAt (putBytes m a l) a l.length = l := by
  induction l generalizing m a with
  | nil => rfl
  | cons x l ih =>
    rw [List.length_cons, bytesAt, putBytes, ih, get_putBytes_other _ _ _ _ (by omega), Map.get_set_same]

theorem bytesAt_length (m : List Host.Cell) (a n : Nat) : (bytesAt m a n).length = n := by
  induction n generalizing a with
  | zero => rfl
  | succ n ih => rw [bytesAt, List.length_cons, ih]

theorem bytesAt_add (m : List Host.Cell) (a i n : Nat) : bytesAt m a (i + n) = bytesAt m a i ++ bytesAt m (a + i) n := by
  induction i generalizing a with
  | zero => simp [bytesAt]
  | succ i ih =>
    rw [Nat.succ_add, bytesAt, bytesAt, ih, List.cons_append, Nat.succ_add_eq_add_succ]

/-- A part of a load is the load of that part. -/
theorem slice_bytesAt (m : List Host.Cell) (a i k n : Nat) (h : i + k ≤ n) : slice (bytesAt m a n) i k = bytesAt m (a + i) k := by
  obtain ⟨r, rfl⟩ : ∃ r, n = i + (k + r) := ⟨n - (i + k), by omega⟩
  rw [bytesAt_add, bytesAt_add, slice, List.drop_left' (bytesAt_length ..), List.take_left' (bytesAt_length ..)]

/-! ### The injection count of a sub-channel -/

/-- The count reads back (R435). -/
theorem State.setInj_fld {sc n : Nat} (hn : n < 2 ^ 16) : (s.setInj sc n).fld (rMemScInj sc) 16 16 = n := by
  unfold State.setInj
  split
  · next h => rw [h.1, h.2]
  · exact (State.fld_setFld_same s _ 16 16 n (by decide)).trans (Nat.mod_eq_of_lt hn)

/-- The parity symbols that a burst's write inverts stand with the burst. -/
theorem State.putBurst_flipAt (sc loc : Nat) (l : List Byte) : (s.putBurst sc loc l).flipAt sc loc =
    if s.fld (rMemScInj sc) 16 16 = 0 then 0 else s.fld (rMemScInj sc) 0 16 := by
  rw [State.putBurst, State.flipAt, Map.get_set_same]

/-- A burst's write takes one from the count. -/
theorem State.putBurst_inj (sc loc : Nat) (l : List Byte) :
    (s.putBurst sc loc l).fld (rMemScInj sc) 16 16 = s.fld (rMemScInj sc) 16 16 - 1 := by
  have hlt := s.fld_lt (a := rMemScInj sc) 16 16
  unfold State.putBurst
  simp only [State.fld_setMem]
  by_cases h0 : s.fld (rMemScInj sc) 16 16 = 0
  · simp [h0]
  · have hset : (s.setInj sc (s.fld (rMemScInj sc) 16 16 - 1)).fld (rMemScInj sc) 16 16 = s.fld (rMemScInj sc) 16 16 - 1 :=
      State.setInj_fld (by omega)
    split <;> simp [hset]

/-! ### The inverted parity symbols -/

theorem range_80 : List.range 80 = List.range 64 ++ (List.range 16).map (64 + ·) := by decide

/-- Without symbol errors the error word is 0xFF at the inverted parity symbols and 0 elsewhere. -/
theorem errWord_nil (f : Nat) : errWord [] f =
    List.replicate 64 0 ++ (List.range 16).map (fun t => if f.testBit t then 0xFF else 0) := by
  have data : (List.range 64).map (fun i => if 64 ≤ i ∧ f.testBit (i - 64) = true then 0xFF else 0) = List.replicate 64 0 := by
    rw [List.eq_replicate_iff]
    refine ⟨by simp, fun x hx => ?_⟩
    obtain ⟨i, hi, rfl⟩ := List.mem_map.mp hx
    rw [List.mem_range] at hi
    exact if_neg fun h => absurd h.1 (by omega)
  rw [errWord, List.foldl_nil, range_80, List.map_append, data, List.map_map]
  congr 1
  exact List.map_congr_left fun t _ => by simp

theorem errWord_nil_parity (f t : Nat) (ht : t < 16) : (errWord [] f).getD (64 + t) 0 = if f.testBit t then 0xFF else 0 := by
  rw [errWord_nil, List.getD_eq_getElem?_getD, List.getElem?_append_right (by simp)]
  simp [ht]

theorem errWord_nil_weight (f : Nat) : (errWord [] f).countP (· ≠ 0) = (List.range 16).countP f.testBit := by
  rw [errWord_nil, List.countP_append, List.countP_replicate, List.countP_map]
  have hbit : ((fun x : Nat => decide (x ≠ 0)) ∘ fun t => if f.testBit t = true then 0xFF else 0) = f.testBit := by
    funext t
    cases h : f.testBit t <;> simp [h]
  rw [hbit]
  simp

/-! ### A scrub read keeps the injection (R432, R435) -/

theorem ne_rMemScInj_of_core {sc : Nat} (h : a < 0x500024) : a ≠ rMemScInj sc := by unfold rMemScInj; omega

theorem State.decodeBurst_inj (sc n loc : Nat) (data : List Byte) (e : List Nat) :
    (s.decodeBurst sc loc data e).1.rd (rMemScInj n) = s.rd (rMemScInj n) := by
  have hb : rMemScCeBursts sc ≠ rMemScInj n := by unfold rMemScCeBursts rMemScInj; omega
  have hs : rMemScCeSymbols sc ≠ rMemScInj n := by unfold rMemScCeSymbols rMemScInj; omega
  have hu : rMemScUe sc ≠ rMemScInj n := by unfold rMemScUe rMemScInj; omega
  have ht : rMemCeTotal ≠ rMemScInj n := ne_rMemScInj_of_core (by decide)
  have hi : rMemCeInfo ≠ rMemScInj n := ne_rMemScInj_of_core (by decide)
  unfold State.decodeBurst
  split
  · rfl
  · dsimp only
    split <;> simp [State.rd_setFld_other, State.rd_count_other, State.rd_countN_other, hb, hs, ht, hi]
  · dsimp only
    split <;> simp [State.rd_count_other, hu]

theorem State.ecsRead_inj (sc n : Nat) : (s.ecsRead sc).rd (rMemScInj n) = s.rd (rMemScInj n) := by
  have he : rMemScEcs sc ≠ rMemScInj n := by unfold rMemScEcs rMemScInj; omega
  have hr : rMemScEcsrow sc ≠ rMemScInj n := by unfold rMemScEcsrow rMemScInj; omega
  unfold State.ecsRead
  dsimp only
  split <;> simp [State.rd_setFld_other, he, hr]

theorem State.scrubEnd_inj (n : Nat) : s.scrubEnd.rd (rMemScInj n) = s.rd (rMemScInj n) := by
  have hl : rMemScrubLate ≠ rMemScInj n := ne_rMemScInj_of_core (by decide)
  have hs : rMemScrubStat ≠ rMemScInj n := ne_rMemScInj_of_core (by decide)
  have hecs : (s.forEach s.scrubScs (fun t n => t.ecsRead n)).rd (rMemScInj n) = s.rd (rMemScInj n) :=
    List.foldlRecOn (motive := fun t : State => t.rd (rMemScInj n) = s.rd (rMemScInj n)) _ _ rfl
      fun t ht m _ => (State.ecsRead_inj m n).trans ht
  unfold State.scrubEnd
  dsimp only
  split <;> simp [State.rd_setFld_other, State.rd_count_other, hl, hs, hecs]

theorem State.decodeBurst_flip (sc loc : Nat) (data : List Byte) (e : List Nat) :
    (s.decodeBurst sc loc data e).1.mem.flip = s.mem.flip := by
  unfold State.decodeBurst
  split
  · rfl
  · dsimp only
    split <;> simp
  · dsimp only
    split <;> simp

theorem State.ecsRead_flip (sc : Nat) : (s.ecsRead sc).mem.flip = s.mem.flip := by
  unfold State.ecsRead
  dsimp only
  split <;> simp

theorem State.scrubEnd_flip : s.scrubEnd.mem.flip = s.mem.flip := by
  have hecs : (s.forEach s.scrubScs (fun t n => t.ecsRead n)).mem.flip = s.mem.flip :=
    List.foldlRecOn (motive := fun t : State => t.mem.flip = s.mem.flip) _ _ rfl fun t ht m _ => (State.ecsRead_flip m).trans ht
  simp only [State.scrubEnd]
  split <;> simp [hecs]

/-- What a scrub read does after the burst is written back: the pass goes on or ends. -/
def State.scrubStep (s : State) (sc pos : Nat) : State :=
  let u : State := { s with mem := { s.mem with scrub := Map.set (fun _ => 0) s.mem.scrub sc (pos + 1) } }
  if u.scrubScs.all (fun n => u.scrubPos n == 2 ^ 28) then u.scrubEnd else u.setFld rMemScrubStat 0 28 u.scrubNext

theorem State.scrubStep_inj (sc pos n : Nat) : (s.scrubStep sc pos).rd (rMemScInj n) = s.rd (rMemScInj n) := by
  have hs : rMemScrubStat ≠ rMemScInj n := ne_rMemScInj_of_core (by decide)
  unfold State.scrubStep
  dsimp only
  split
  · exact State.scrubEnd_inj n
  · exact State.rd_setFld_other 0 28 _ hs

theorem State.scrubStep_flip (sc pos : Nat) : (s.scrubStep sc pos).mem.flip = s.mem.flip := by
  unfold State.scrubStep
  dsimp only
  split
  · exact State.scrubEnd_flip
  · simp

/-- The burst of a scrub read after decoding: written back where symbols were corrected and no write of it waits. -/
def State.scrubBurst (s : State) (sc pos : Nat) (errs : List (Nat × Nat)) : State :=
  let loc := pos * 64
  let d := s.decodeBurst sc loc (s.arrayBytes sc loc 64) (errWord errs (s.flipAt sc loc))
  if d.2.2.2 != 0 && !s.mem.q.any (fun b => b.write && sameBurst b sc loc) then
    let t := d.1.count (rMemScScrubFixed sc)
    { t with mem := { t.mem with
        dram := putBytes t.mem.dram (dramKey sc loc) d.2.2.1
        flip := Map.set (fun _ => 0) t.mem.flip (flipKey sc loc) 0 } }
  else d.1

theorem State.scrubBurst_inj (sc pos n : Nat) (errs : List (Nat × Nat)) :
    (s.scrubBurst sc pos errs).rd (rMemScInj n) = s.rd (rMemScInj n) := by
  have hf : rMemScScrubFixed sc ≠ rMemScInj n := by unfold rMemScScrubFixed rMemScInj; omega
  unfold State.scrubBurst
  dsimp only
  split
  · exact (State.rd_count_other hf).trans (State.decodeBurst_inj ..)
  · exact State.decodeBurst_inj ..

/-- A write-back takes the injected parity away. -/
theorem State.scrubBurst_flip (sc pos : Nat) (errs : List (Nat × Nat)) :
    (s.scrubBurst sc pos errs).flipAt sc (pos * 64) = s.flipAt sc (pos * 64) ∨ (s.scrubBurst sc pos errs).flipAt sc (pos * 64) = 0 := by
  unfold State.scrubBurst
  dsimp only
  split
  · exact .inr (by rw [State.flipAt, Map.get_set_same])
  · exact .inl (by rw [State.flipAt, State.flipAt, State.decodeBurst_flip])

/-- What a scrub read can do: nothing, the end of a pass, or the next burst and what follows it (R432). -/
theorem State.scrubRead_cases (sc : Nat) (errs : List (Nat × Nat)) : s.scrubRead sc errs = s ∨ s.scrubRead sc errs = s.scrubEnd ∨
    s.scrubRead sc errs = (s.scrubBurst sc (s.scrubPos sc) errs).scrubStep sc (s.scrubPos sc) := by
  unfold State.scrubRead
  dsimp only
  split
  · exact .inl rfl
  · split
    · split
      · exact .inr (.inl rfl)
      · exact .inl rfl
    · exact .inr (.inr rfl)

/-- Settles O13: `putBurst` takes the injection, `decodeBurst` and the scrub leave its register alone, and a checker of another
index than 0 is refused. -/
theorem parityInjection : Obligations.ParityInjection := by
  refine ⟨fun s sc loc b h => ⟨?_, State.putBurst_inj sc loc b⟩, fun s sc loc b h => ⟨?_, ?_⟩, fun f t _ => errWord_nil_parity f t,
    fun f _ => errWord_nil_weight f, fun s port sc loc hq => ?_, fun s sc errs => ?_, fun s v hr hc hlo hhi hi => ?_⟩
  · rw [State.putBurst_flipAt, if_neg h]
  · rw [State.putBurst_flipAt, if_pos h]
  · rw [State.putBurst_inj, h]
  · simp [State.mkBurst, hq]
  · refine ⟨_, rfl, ?_⟩
    rcases s.scrubRead_cases sc errs with h | h | h
    · rw [h]
      exact ⟨rfl, .inl rfl⟩
    · rw [h, State.flipAt, State.scrubEnd_flip]
      exact ⟨State.fld_of_rd (State.scrubEnd_inj _), .inl rfl⟩
    · rw [h, State.flipAt, State.scrubStep_flip]
      exact ⟨State.fld_of_rd ((State.scrubStep_inj ..).trans (State.scrubBurst_inj ..)), State.scrubBurst_flip ..⟩
  · have hsc : s.injSc v = none := if_neg fun h => hi h.2.2.2.1
    refine ⟨s.violation rSvcAudInjsel, ?_, rfl⟩
    simp [exec, execInjectionWrite, State.injWrite, hr, hsc]

/-! ### A write and the read after it (R411, R414, R417) -/

/-- A request inside one burst is one piece. -/
theorem pieces_one {n : Nat} (hn : n ≠ 0) (h : a % 64 + n ≤ 64) : pieces a n = [(a, n)] := by
  have hcount : (a + n - 1) / 64 + 1 - a / 64 = 1 := by omega
  have hlo : max a ((a / 64 + 0) * 64) = a := by omega
  have hhi : min (a + n) ((a / 64 + 0 + 1) * 64) - a = n := by omega
  simp only [pieces, hn, if_false, hcount, List.range_one, List.map_cons, List.map_nil, hlo, hhi]

theorem pieces_ne_nil {n : Nat} (hn : n ≠ 0) : pieces a n ≠ [] := by
  have hcount : (a + n - 1) / 64 + 1 - a / 64 ≠ 0 := by omega
  simp [pieces, hn, hcount]

theorem State.refuse_zero : s.refuse 0 = s := rfl

theorem slice_self {α : Type} (l : List α) : slice l 0 l.length = l := by simp [slice]

/-- Without a queued write of the burst there is nothing to settle. -/
theorem State.settle_of_none {sc loc : Nat} (h : ∀ x ∈ s.mem.q, ¬ (x.write = true ∧ x.sc = sc ∧ x.loc / 64 = loc / 64)) :
    s.settle sc loc = s := by
  have hno : ∀ x ∈ s.mem.q, (x.write && sameBurst x sc loc) = false := fun x hx => by
    have hx := h x hx
    simp only [sameBurst, Bool.eq_false_iff, ne_eq, Bool.and_eq_true, beq_iff_eq]
    exact hx
  have hws : s.mem.q.filter (fun x => x.write && sameBurst x sc loc) = [] :=
    List.filter_eq_nil_iff.mpr fun x hx => by simp [hno x hx]
  have hq : s.mem.q.filter (fun x => !(x.write && sameBurst x sc loc)) = s.mem.q :=
    List.filter_eq_self.mpr fun x hx => by simp [hno x hx]
  simp only [State.settle, hws, hq, List.foldl_nil]

/-- The array after a burst's write without injection; no register changes. -/
theorem State.putBurst_of_no_inj {sc loc : Nat} {l : List Byte} (h : s.fld (rMemScInj sc) 16 16 = 0) : s.putBurst sc loc l =
    { s with mem := { s.mem with
        dram := putBytes s.mem.dram (dramKey sc loc) l
        flip := Map.set (fun _ => 0) s.mem.flip (flipKey sc loc) 0 } } := by
  simp [State.putBurst, h]

/-- A write inside one burst that is served: the burst's write. -/
theorem State.memWrite_one {sc loc : Nat} {l : List Byte} (hst : s.burstStat false a = .ok) (hmap : s.mapAddr a = some (sc, loc))
    (hl : l ≠ []) (hone : a % 64 + l.length ≤ 64) : s.memWrite a l = ((s.settle sc loc).putBurst sc loc l, .ok) := by
  have hlen : l.length ≠ 0 := fun h => hl (List.eq_nil_of_length_eq_zero h)
  simp [State.memWrite, pieces_one hlen hone, hst, hmap, slice_self, State.refuse, worst]

/-- A read inside one burst that is served and whose parity nobody inverted. -/
theorem State.memRead_one {sc loc n : Nat} (hst : s.burstStat false a = .ok) (hmap : s.mapAddr a = some (sc, loc)) (hn : n ≠ 0)
    (hone : a % 64 + n ≤ 64) (hset : s.settle sc loc = s) (hflip : s.flipAt sc (loc / 64 * 64) = 0) :
    s.memRead a n = (s, .ok, slice (s.arrayBytes sc (loc / 64 * 64) 64) (loc - loc / 64 * 64) n) := by
  simp [State.memRead, State.memReadAs, pieces_one hn hone, hst, hmap, hset, hflip, State.refuse, worst]

/-- Outside READY no burst of another unit is served (R414). -/
theorem State.burstStat_notReady (h : s.memState ≠ 2) (a : Nat) : s.burstStat false a = .notReady := by
  simp [State.burstStat, h]

theorem worst_of_notReady {l : List MStat} (h : ∃ x ∈ l, x = .notReady) : worst l = .notReady := by
  obtain ⟨x, hx, rfl⟩ := h
  simp [worst, hx]

/-- A pass that answers every element alike collects as many answers as there are elements. -/
theorem foldl_collect {σ β ε : Type} {f : σ × List ε → β → σ × List ε} {s : σ} {x : ε} (h : ∀ r p, f (s, r) p = (s, r ++ [x]))
    (l : List β) (r : List ε) : l.foldl f (s, r) = (s, r ++ l.map fun _ => x) := by
  induction l generalizing r with
  | nil => simp
  | cons p l ih => simp [h, ih]

theorem foldl_collect_with {σ β ε δ : Type} {f : σ × List ε × δ → β → σ × List ε × δ} {s : σ} {x : ε}
    (h : ∀ r d p, ∃ d', f (s, r, d) p = (s, r ++ [x], d')) (l : List β) (r : List ε) (d : δ) :
    (l.foldl f (s, r, d)).2.1 = r ++ l.map fun _ => x := by
  induction l generalizing r d with
  | nil => simp
  | cons p l ih =>
    obtain ⟨d', hd⟩ := h r d p
    simp [hd, ih]

theorem worst_pieces_notReady {n : Nat} (hn : n ≠ 0) : worst ((pieces a n).map fun _ => MStat.notReady) = .notReady := by
  obtain ⟨p, hp⟩ := List.exists_mem_of_ne_nil _ (pieces_ne_nil (a := a) hn)
  exact worst_of_notReady ⟨_, List.mem_map.mpr ⟨p, hp, rfl⟩, rfl⟩

/-- Every piece of a request outside READY is refused, and nothing moves. -/
theorem State.memWrite_notReady {l : List Byte} (h : s.memState ≠ 2) (hl : l ≠ []) :
    (s.memWrite a l).2 = .notReady ∧ (s.memWrite a l).1.mem = s.mem := by
  have hlen : l.length ≠ 0 := fun h => hl (List.eq_nil_of_length_eq_zero h)
  rw [State.memWrite, foldl_collect (x := .notReady)]
  · exact ⟨worst_pieces_notReady hlen, State.refuse_dram ..⟩
  · exact fun r p => by simp [State.burstStat_notReady h]

theorem State.memRead_notReady {n : Nat} (h : s.memState ≠ 2) (hn : n ≠ 0) : (s.memRead a n).2.1 = .notReady := by
  rw [State.memRead, State.memReadAs, foldl_collect_with (x := .notReady)]
  · exact worst_pieces_notReady hn
  · exact fun r d p => ⟨d ++ List.replicate p.2 0#8, by simp [State.burstStat_notReady h]⟩

/-- Settles O19: a store and a load of the sparse memory, and a request inside one burst as one store or load of it. -/
theorem memoryReadAfterWrite : Obligations.MemoryReadAfterWrite := by
  refine ⟨bytesAt_putBytes, fun m a k b h => get_putBytes_other m a k b h, fun m a b h => Memory.wf_putBytes b m a h,
    fun s a sc loc b hst hmap hsc hb hone hloc hq hinj => ?_, fun s a n b h hb hn => ?_⟩
  · have hlen : b.length ≠ 0 := fun h => hb (List.eq_nil_of_length_eq_zero h)
    have hkey : dramKey sc (loc / 64 * 64) + (loc - loc / 64 * 64) = dramKey sc loc := by unfold dramKey; omega
    have hw := State.memWrite_one hst hmap hb hone
    rw [State.settle_of_none hq] at hw
    have hmem := congrArg State.mem (State.putBurst_of_no_inj (loc := loc) (l := b) hinj)
    have hst' : (s.putBurst sc loc b).burstStat false a = .ok := by rw [State.putBurst_of_no_inj hinj]; exact hst
    have hmap' : (s.putBurst sc loc b).mapAddr a = some (sc, loc) := by rw [State.putBurst_of_no_inj hinj]; exact hmap
    have hset' : (s.putBurst sc loc b).settle sc loc = s.putBurst sc loc b :=
      State.settle_of_none (by rw [hmem]; exact hq)
    have hflip' : (s.putBurst sc loc b).flipAt sc (loc / 64 * 64) = 0 := by
      have hsame : flipKey sc (loc / 64 * 64) = flipKey sc loc := by unfold flipKey; omega
      rw [State.flipAt, hmem, hsame, Map.get_set_same]
    rw [hw]
    refine ⟨rfl, ?_⟩
    rw [State.memRead_one hst' hmap' hlen hone hset' hflip', State.arrayBytes, slice_bytesAt _ _ _ _ _ (by omega), hkey, hmem,
      bytesAt_putBytes]
  · obtain ⟨hw, hm⟩ := State.memWrite_notReady (a := a) h hb
    exact ⟨hw, hm, State.memRead_notReady h hn⟩

end Sys2Proof.Machine
end

section
/-! PROOF. Which registers a command of memory, the Mint, Ethernet, NVMe, OUT, the Clearing House, the Auditor and the thermal
unit may write. -/

namespace Sys2Proof.Machine

open Sys2Proof

variable {s t u : State} {l : List Nat} {a : Nat}

/-! ### Rules: a chain of updates writes the registers of its links -/

theorem keepsRegs.refl (l : List Nat) (s : State) : keepsRegs l s s := fun _ _ => rfl

theorem keepsRegs.trans (h : keepsRegs l s t) (h' : keepsRegs l t u) : keepsRegs l s u :=
  fun a ha => (h' a ha).trans (h a ha)

theorem keepsRegs.mono {k : List Nat} (h : keepsRegs k s t) (hk : k ⊆ l) : keepsRegs l s t :=
  fun a ha => h a fun hm => ha (hk hm)

/-- An update that leaves the registers alone. -/
theorem keepsRegs.of_regs (h : keepsRegs l s t) (hr : u.regs = t.regs) : keepsRegs l s u :=
  fun a ha => (State.rd_of_regs hr a).trans (h a ha)

theorem keepsRegs.wr (h : keepsRegs l s t) (v : Word) (ha : a ∈ l) : keepsRegs l s (t.wr a v) :=
  fun b hb => (State.rd_wr_other t v (ne_of_mem_of_not_mem ha hb)).trans (h b hb)

theorem keepsRegs.setFld (h : keepsRegs l s t) (lo w n : Nat) (ha : a ∈ l) : keepsRegs l s (t.setFld a lo w n) := h.wr _ ha

theorem keepsRegs.setBit (h : keepsRegs l s t) (i : Nat) (b : Bool) (ha : a ∈ l) : keepsRegs l s (t.setBit a i b) := h.wr _ ha

theorem keepsRegs.count (h : keepsRegs l s t) (ha : a ∈ l) : keepsRegs l s (t.count a) := h.wr _ ha

theorem keepsRegs.countN (h : keepsRegs l s t) (n : Nat) (ha : a ∈ l) : keepsRegs l s (t.countN a n) := h.wr _ ha

theorem keepsRegs.raise (h : keepsRegs l s t) (x n : Nat) : keepsRegs l s (t.raise x n) := h.of_regs (State.raise_regs t x n)

theorem keepsRegs.ite {c : Prop} [Decidable c] (ht : keepsRegs l s t) (hu : keepsRegs l s u) :
    keepsRegs l s (if c then t else u) := by
  split
  · exact ht
  · exact hu

theorem keepsRegs.forEach {β : Type} {f : State → β → State} (ks : List β) (hf : ∀ t x, x ∈ ks → keepsRegs l t (f t x))
    (h : keepsRegs l s t) : keepsRegs l s (t.forEach ks f) :=
  List.foldlRecOn (motive := fun u => keepsRegs l s u) ks f h fun u hu x hx => hu.trans (hf u x hx)

theorem keepsRegs.violation (h : keepsRegs l s t) (a : Nat) (hlog : rDevSvLog ∈ l) (hcnt : rDevSvCnt ∈ l) :
    keepsRegs l s (t.violation a) :=
  fun _ hb => (State.rd_violation (ne_of_mem_of_not_mem hlog hb) (ne_of_mem_of_not_mem hcnt hb)).trans (h _ hb)

/-! ### Memory -/

theorem State.refreshBank_keepsRegs (sc b : Nat) : keepsRegs [rMemScStat sc, rMemScForcedRef sc] s (s.refreshBank sc b) := by
  have owed : keepsRegs [rMemScStat sc, rMemScForcedRef sc] s (if s.debtLimit ≤ s.debt sc b then
      (((s.setFld (rMemScStat sc) (3 * b) 3 (s.debtLimit - 1)).countN (rMemScForcedRef sc) (s.debt sc b - s.debtLimit + 1))).raise
        0x022 1 else s) :=
    .ite ((((keepsRegs.refl _ s).setFld _ _ _ (by simp)).countN _ (by simp)).raise _ _) (.refl _ s)
  exact .ite (owed.setFld _ _ _ (by simp)) owed

theorem State.setPurse_keepsRegs (p n : Nat) : keepsRegs [rMemCoinStat p] s (s.setPurse p n) :=
  ((keepsRegs.refl _ s).of_regs (u := { s with mem := { s.mem with purse := setAt s.mem.purse p n } }) rfl).setFld _ _ _ (by simp)

/-- The port that is served next is one of the four bulk ports. -/
theorem State.bulkNext_lt {p : Nat} (h : s.bulkNext = some p) : p < 4 := by
  have best : ∀ (ps : List Nat) (o : Option Nat), (∀ q ∈ ps, q < 4) → (∀ q ∈ o, q < 4) → ∀ q ∈ ps.foldl
      (fun (best : Option Nat) p => match best with
        | none => some p
        | some q => if s.purse q * s.purseMax p < s.purse p * s.purseMax q then some p else some q) o, q < 4 := by
    intro ps
    induction ps with
    | nil => exact fun o _ ho => ho
    | cons p ps ih =>
      intro o hps ho
      refine ih _ (fun q hq => hps q (List.mem_cons_of_mem _ hq)) fun q hq => ?_
      have hp := hps p (List.mem_cons_self ..)
      cases o with
      | none => simp_all
      | some r =>
        simp only at hq
        split at hq <;> simp_all
  unfold State.bulkNext at h
  split at h
  · cases h
  · refine best _ none (fun q hq => ?_) (by simp) p h
    exact List.mem_range.mp (List.mem_of_mem_filter hq)

theorem State.takeCoin_keepsRegs (p : Nat) : keepsRegs [rMemCoinStat p] s (s.takeCoin p) :=
  (State.setPurse_keepsRegs p _).of_regs rfl

theorem coinStat_sub {p : Nat} (hp : p < 4) : [rMemCoinStat p] ⊆ (List.range 4).map rMemCoinStat := by
  simp only [List.cons_subset, List.mem_map, List.mem_range, List.nil_subset, and_true]
  exact ⟨p, hp, rfl⟩

theorem State.serveBulk_keepsRegs (n : Nat) : keepsRegs ((List.range 4).map rMemCoinStat) s (s.serveBulk n) := by
  induction n generalizing s with
  | zero => exact .refl _ s
  | succ n ih =>
    unfold State.serveBulk
    split
    · exact .refl _ s
    · next p hp => exact ((State.takeCoin_keepsRegs p).mono (coinStat_sub (State.bulkNext_lt hp))).trans ih

theorem State.serve_keepsRegs : keepsRegs ((List.range 4).map rMemCoinStat) s s.serve := State.serveBulk_keepsRegs _

theorem State.memReady_keepsRegs : keepsRegs [rMemStat] s s.memReady := (keepsRegs.refl _ s).setFld _ _ _ (by simp)

/-- The registers of a present sub-channel's state are among those of the sixteen. -/
theorem scStat_mem {n : Nat} (h : n ∈ s.scs) : rMemScStat n ∈ rMemStat :: (List.range 16).map rMemScStat := by
  simp only [State.scs, idxs, List.mem_filter] at h
  exact List.mem_cons_of_mem _ (List.mem_map.mpr ⟨n, h.1, rfl⟩)

/-! ### HST -/

theorem State.syncTeller_keepsRegs : keepsRegs [rHstTeller] s s.syncTeller := (keepsRegs.refl _ s).setFld _ _ _ (by simp)

theorem State.msix_regs (v : Nat) : (s.msix v).regs = s.regs := State.blur_regs (State.msix_blur s v 33570816 rfl) rfl

theorem State.complete_keepsRegs {q : Nat} {cid : BitVec 16} {status : Nat} {dnr : Bool} {dw0 : Word} :
    keepsRegs [rHstTeller] s (s.complete q cid status dnr dw0) := by
  unfold State.complete
  split
  · have h1 : keepsRegs [rHstTeller] s
        (s.setHst { s.hst with cmds := s.hst.cmds.filter (fun c => !(c.q == q && c.cid == cid)) }).syncTeller :=
      ((keepsRegs.refl _ s).of_regs rfl).trans State.syncTeller_keepsRegs
    dsimp only
    split
    · exact h1
    · exact .ite ((h1.of_regs rfl).of_regs (State.msix_regs _)) (h1.of_regs rfl)
  · exact .refl _ s

theorem State.completeOk_keepsRegs {q : Nat} {cid : BitVec 16} : keepsRegs [rHstTeller] s (s.completeOk q cid) :=
  State.complete_keepsRegs

theorem State.modNcmd_keepsRegs {q : Nat} {cid : BitVec 16} {f : NCmd → NCmd} :
    keepsRegs [rHstTeller] s (s.modNcmd q cid f) :=
  ((keepsRegs.refl _ s).of_regs rfl).trans State.syncTeller_keepsRegs

theorem State.answer_keepsRegs {cid : BitVec 16} {d : List Byte} : keepsRegs [rHstTeller] s (s.answer cid d) :=
  ((keepsRegs.refl _ s).of_regs rfl).trans State.completeOk_keepsRegs

theorem State.setHst_completeOk_keepsRegs {h : Hst} {cid : BitVec 16} :
    keepsRegs [rHstTeller] s ((s.setHst h).completeOk 0 cid) :=
  ((keepsRegs.refl _ s).of_regs rfl).trans State.completeOk_keepsRegs

/-- The statuses whose completion counts in a register of their own. -/
def countedStatus (st : Nat) : Bool := st == stSequence || st == stUnrecovered || st == stNotReady || st == stNamespace

theorem State.finish_keepsRegs {q : Nat} {cid : BitVec 16} {st dw0 : Nat} (h : countedStatus st = false) :
    keepsRegs [rHstTeller] s (s.finish q cid st dw0) := by
  simp only [countedStatus, Bool.or_eq_false_iff, beq_eq_false_iff_ne] at h
  obtain ⟨⟨⟨h1, h2⟩, h3⟩, h4⟩ := h
  rw [State.finish, if_neg h1, if_neg h2, if_neg h3, if_neg h4]
  exact State.complete_keepsRegs

theorem State.finish_notReady_keepsRegs (q : Nat) (cid : BitVec 16) (hn : rHstNotReady ∈ l) (ht : rHstTeller ∈ l) :
    keepsRegs l s (s.finish q cid stNotReady 0) :=
  ((keepsRegs.refl l s).count hn).trans ((State.complete_keepsRegs).mono (by simpa using ht))

theorem State.finish_namespace_keepsRegs (q : Nat) (cid : BitVec 16) (hn : rHstInvalidNs ∈ l) (ht : rHstTeller ∈ l) :
    keepsRegs l s (s.finish q cid stNamespace 0) :=
  ((keepsRegs.refl l s).count hn).trans ((State.complete_keepsRegs).mono (by simpa using ht))

theorem State.admin_keepsRegs {op : Nat} {cid : BitVec 16} {ok : NCmd → Bool} {f : State → NCmd → State}
    (h : ∀ c, keepsRegs l s (f s c)) : keepsRegs l s (s.admin op cid ok f) := by
  unfold State.admin
  split
  · exact .ite (h _) (.refl l s)
  · exact .refl l s

theorem State.createCq_keepsRegs (c : NCmd) : keepsRegs [rHstTeller] s (s.createCq c) := by
  unfold State.createCq
  exact .ite (State.finish_keepsRegs rfl) (.ite (State.finish_keepsRegs rfl) (.ite (State.finish_keepsRegs rfl)
    (.ite (State.finish_keepsRegs rfl) (State.setHst_completeOk_keepsRegs))))

theorem State.createSq_keepsRegs (c : NCmd) : keepsRegs [rHstTeller] s (s.createSq c) := by
  have created : ∀ (q : Nat) (x : Option Sq), keepsRegs [rHstTeller] s ((s.setSq q x).syncIoq.completeOk 0 c.cid) := fun q x =>
    (((keepsRegs.refl _ s).of_regs (u := s.setSq q x) rfl).setFld _ _ _ (by simp)).trans (State.completeOk_keepsRegs)
  unfold State.createSq
  exact .ite (State.finish_keepsRegs rfl) (.ite (State.finish_keepsRegs rfl) (.ite (State.finish_keepsRegs rfl)
    (.ite (State.finish_keepsRegs rfl) (created _ _))))

theorem State.getLog_keepsRegs {c : NCmd} {page : List Byte} : keepsRegs [rHstTeller] s (s.getLog c page) :=
  .ite (State.finish_keepsRegs rfl) (State.answer_keepsRegs)

theorem State.aerRequest_keepsRegs (c : NCmd) : keepsRegs [rHstTeller] s (s.aerRequest c) := by
  unfold State.aerRequest
  refine .ite (State.finish_keepsRegs rfl) ?_
  split
  · exact State.modNcmd_keepsRegs
  · exact ((keepsRegs.refl _ s).of_regs rfl).trans (State.complete_keepsRegs)

/-- Every admin command of the list ends with a completion or stays outstanding. -/
theorem exec_admin_keepsRegs {cid : BitVec 16} {c : Instr} (hc : c ∈ [.officerAuth cid, .readKey cid, .readAkCert cid, .nsMap cid,
      .setArbitration cid, .setNumberOfQueues cid, .setApst cid, .setAsyncEventConfig cid, .createIoCompletionQueue cid,
      .createIoSubmissionQueue cid, .identifyController cid, .getLogFaultLedger cid, .getLogFirmwareSlot cid,
      .asynchronousEventRequest cid]) (h : exec c s = .next t) : keepsRegs [rHstTeller] s t := by
  simp only [List.mem_cons, List.not_mem_nil, or_false] at hc
  rcases hc with rfl | rfl | rfl | rfl | rfl | rfl | rfl | rfl | rfl | rfl | rfl | rfl | rfl | rfl <;> cases h <;>
    refine State.admin_keepsRegs fun c => ?_
  · exact ((keepsRegs.refl _ s).of_regs rfl).trans (State.completeOk_keepsRegs)
  · exact State.answer_keepsRegs
  · exact .ite (State.finish_keepsRegs rfl) (State.answer_keepsRegs)
  · exact State.answer_keepsRegs
  · exact State.setHst_completeOk_keepsRegs
  · exact State.finish_keepsRegs rfl
  · exact State.setHst_completeOk_keepsRegs
  · exact State.setHst_completeOk_keepsRegs
  · exact State.createCq_keepsRegs c
  · exact State.createSq_keepsRegs c
  · exact State.answer_keepsRegs
  · exact State.getLog_keepsRegs
  · exact State.getLog_keepsRegs
  · exact State.aerRequest_keepsRegs c

theorem State.transferStart_keepsRegs (q : Nat) (cid : BitVec 16) :
    keepsRegs [rHstTeller, rHstNotReady] s (s.transferStart q cid) := by
  unfold State.transferStart
  split
  · exact .refl _ s
  · exact .ite (.refl _ s) (.ite (State.finish_notReady_keepsRegs _ _ (by simp) (by simp)) (.ite (.refl _ s)
      ((State.modNcmd_keepsRegs).mono (by simp))))

theorem State.nvmFlush_keepsRegs (q : Nat) (cid : BitVec 16) :
    keepsRegs [rHstTeller, rHstNotReady, rHstInvalidNs] s (s.nvmFlush q cid) := by
  unfold State.nvmFlush
  split
  · exact .refl _ s
  · exact .ite (.refl _ s) (.ite (State.finish_notReady_keepsRegs _ _ (by simp) (by simp))
      (.ite (State.finish_namespace_keepsRegs _ _ (by simp) (by simp)) (.ite (.refl _ s)
        ((State.finish_keepsRegs rfl).mono (by simp)))))

theorem State.shutdown_keepsRegs (n : Nat) : keepsRegs [rHstTeller] s (s.shutdown n) := by
  unfold State.shutdown
  refine .ite (.refl _ s) (.ite ?_ ?_)
  · exact (keepsRegs.refl _ s).of_regs rfl
  · exact ((keepsRegs.refl _ s).of_regs (u := s.setHst _) rfl).setFld _ _ _ (by simp)

/-! ### Self-refresh -/

theorem State.srExit_keepsRegs : keepsRegs (rMemStat :: (List.range 16).map rMemScStat) s s.srExit := by
  unfold State.srExit
  refine .ite (.forEach _ (fun t n hn => ?_) ((keepsRegs.refl _ s).setFld _ _ _ (by simp))) (.refl _ s)
  have hm : rMemScStat n ∈ rMemStat :: (List.range 16).map rMemScStat := scStat_mem (s := s.setFld rMemStat 28 4 5) (List.mem_of_mem_filter hn)
  exact ((keepsRegs.refl _ t).setFld _ _ _ hm).setFld _ _ _ hm

theorem State.srExited_keepsRegs : keepsRegs (rMemStat :: (List.range 16).map rMemScStat) s s.srExited := by
  unfold State.srExited
  refine .ite (.raise ((keepsRegs.setFld (.forEach _ (fun t n hn => ?_) (.refl _ s)) _ _ _ (by simp)).trans
    (State.memReady_keepsRegs.mono (by simp))) _ _) (.refl _ s)
  have hm := scStat_mem (List.mem_of_mem_filter hn)
  exact ((keepsRegs.refl _ t).setFld _ _ _ hm).setFld _ _ _ hm

/-! ### The Mint and Ethernet -/

theorem State.setServo_keepsRegs (v : Nat) : keepsRegs [rMintStat] s (s.setServo v) := by
  have h : keepsRegs [rMintStat] s (s.setFld rMintStat 28 4 v) := (keepsRegs.refl _ s).setFld _ _ _ (by simp)
  exact .ite (h.raise _ _) h

theorem keepsRegs.commit (h : keepsRegs l s t) (ha : a ∈ l) : keepsRegs l s (t.commit a) := by
  unfold State.commit
  split
  · exact h
  · exact h.wr _ ha

/-- RATE alone commits its register and moves the servo (R472 to R474). -/
theorem State.mintCmd_rate : s.mintCmd 4#32 = (s.commit rMintRate).setServo 1 := rfl

theorem State.mintRate_keepsRegs : keepsRegs [rMintRate, rMintStat] s (s.mintCmd 4#32) := by
  rw [State.mintCmd_rate]
  exact ((keepsRegs.refl _ s).commit (by simp)).trans ((State.setServo_keepsRegs 1).mono (by simp))

theorem State.ppsEdge_keepsRegs (n : Nat) : keepsRegs [rMintPpsEarly, rMintPpsinNs] s (s.ppsEdge n) := by
  unfold State.ppsEdge
  refine .ite (.refl _ s) (.ite (((keepsRegs.refl _ s).count (by simp)).raise _ _) (.raise (.wr ?_ _ (by simp)) _ _))
  exact (keepsRegs.refl _ s).of_regs rfl

theorem State.syncUp_keepsRegs (m : Nat) : keepsRegs [rNetPortStat m] s (s.syncUp m) :=
  .ite (.refl _ s) (((keepsRegs.refl _ s).setBit _ _ (by simp)).raise _ _)

theorem execEthernetLinkChange_keepsRegs {m : Fin 2} {a b c d e : Bool} (h : execEthernetLinkChange m a b c d e s = .next t) :
    keepsRegs [rNetPortStat m] s t := by
  obtain rfl := Host.Outcome.next.inj h
  refine .trans (.setBit (.setBit (.setBit ?_ _ _ (by simp)) _ _ (by simp)) _ _ (by simp)) (State.syncUp_keepsRegs m)
  exact (keepsRegs.refl _ s).of_regs rfl

theorem execCageChange_keepsRegs {m : Fin 2} {a b c : Bool} (h : execCageChange m a b c s = .next t) :
    keepsRegs [rNetPortStat m] s t := by
  obtain rfl := Host.Outcome.next.inj h
  have pins : keepsRegs [rNetPortStat m] s
      (((s.setBit (rNetPortStat m) 2 a).setBit (rNetPortStat m) 1 b).setBit (rNetPortStat m) 0 c) :=
    (((keepsRegs.refl _ s).setBit _ _ (by simp)).setBit _ _ (by simp)).setBit _ _ (by simp)
  exact .trans (.ite (pins.raise _ _) pins) (State.syncUp_keepsRegs m)

theorem State.rxNoBuf_keepsRegs (m : Nat) : keepsRegs [rNetRxNobuf m] s (s.rxNoBuf m) := by
  have h : keepsRegs [rNetRxNobuf m] s (s.count (rNetRxNobuf m)) := (keepsRegs.refl _ s).count (by simp)
  refine .ite h (.raise ?_ _ _)
  exact h.of_regs rfl

theorem State.rxRaise_regs (m : Nat) (ptp : Bool) : (s.rxRaise m ptp).regs = s.regs :=
  State.blur_regs (State.rxRaise_blur s m ptp (2 ^ 32 - 1 - 16) rfl) rfl

theorem State.frameReceive_keepsRegs (m : Nat) (f d : List Byte) (n : Nat) : keepsRegs [rNetRxLength m, rNetRxFcs m, rNetRxCtrl m,
    rNetRxFrames m, rNetRxNobuf m, ringBase m 3 + 12, ringBase m 4 + 12] s (s.frameReceive m f n d) := by
  have counted : keepsRegs [rNetRxLength m, rNetRxFcs m, rNetRxCtrl m, rNetRxFrames m, rNetRxNobuf m, ringBase m 3 + 12,
      ringBase m 4 + 12] s (s.count (rNetRxFrames m)) := (keepsRegs.refl _ s).count (by simp)
  unfold State.frameReceive
  refine .ite (.refl _ s) (.ite ((keepsRegs.refl _ s).count (by simp)) (.ite ((keepsRegs.refl _ s).count (by simp))
    (.ite ((keepsRegs.refl _ s).count (by simp)) (.ite (.refl _ s) (.ite ?_ ?_)))))
  · exact counted.trans (State.rxNoBuf_keepsRegs m |>.mono (by simp))
  · refine .of_regs (.setFld (counted.of_regs rfl) _ _ _ ?_) (State.rxRaise_regs ..)
    cases isPtp f <;> simp

theorem State.ringTailWrite_keepsRegs (m r : Nat) (v : Word) :
    keepsRegs [ringBase m r + 16, rDevSvLog, rDevSvCnt] s (s.ringTailWrite m r v) :=
  .ite (.refl _ s) (.ite ((keepsRegs.refl _ s).violation _ (by simp) (by simp)) ((keepsRegs.refl _ s).wr _ (by simp)))

theorem State.modI2c_keepsRegs (m : Nat) (v : Word) : keepsRegs [rNetPortModi2c m, rDevSvLog, rDevSvCnt] s (s.modI2c m v) :=
  .ite (.refl _ s) (.ite ((keepsRegs.refl _ s).violation _ (by simp) (by simp)) ((keepsRegs.refl _ s).wr _ (by simp)))

theorem execModuleI2cDone_keepsRegs {m : Fin 2} {ack : Bool} {b : Byte} (h : execModuleI2cDone m ack b s = .next t) :
    keepsRegs [rNetPortModi2c m] s t := by
  obtain rfl := Host.Outcome.next.inj h
  have h1 : keepsRegs [rNetPortModi2c m] s (s.setFld (rNetPortModi2c m) 28 2 (if ack then 2 else 3)) :=
    (keepsRegs.refl _ s).setFld _ _ _ (by simp)
  exact .ite (.refl _ s) (.ite (h1.setFld _ _ _ (by simp)) h1)

/-! ### OUT, the Clearing House, the Auditor, the thermal unit -/

theorem State.dhError_keepsRegs (d err : Nat) : keepsRegs [rOutDhStat d] s (s.dhError d err) := by
  have h : keepsRegs [rOutDhStat d] s ((s.setDhState d 7).setFld (rOutDhStat d) 24 4 err) :=
    ((keepsRegs.refl _ s).setFld _ _ _ (by simp)).setFld _ _ _ (by simp)
  exact .raise (.ite (h.raise _ _) h) _ _

theorem State.aesTxStart_keepsRegs : keepsRegs [rOutAestxStat] s s.aesTxStart := by
  unfold State.aesTxStart
  refine .ite (.refl _ s) (.ite ?_ ?_)
  · exact ((keepsRegs.refl _ s).setFld _ _ _ (by simp)).setFld _ _ _ (by simp)
  · exact .of_regs (.setFld (.setFld (.refl _ s) _ _ _ (by simp)) _ _ _ (by simp)) (State.setOut_regs _ _)

theorem State.aesTxStop_keepsRegs : keepsRegs [rOutAestxStat] s s.aesTxStop := by
  refine .ite ?_ (.refl _ s)
  exact .of_regs (.setFld (.refl _ s) _ _ _ (by simp)) (State.setOut_regs _ _)

theorem State.aesTail_keepsRegs (v : Word) : keepsRegs [rOutAestxTail, rDevSvLog, rDevSvCnt] s (s.aesTail v) := by
  unfold State.aesTail
  refine .ite (.refl _ s) (.ite ?_ ?_)
  · exact (keepsRegs.refl _ s).violation _ (by simp) (by simp)
  · exact (keepsRegs.refl _ s).wr _ (by simp)

theorem State.takeTask_regs (x : Nat) : (s.takeTask x).1.regs = s.regs := by
  unfold State.takeTask
  split <;> rfl

theorem execSetLatch_keepsRegs {k : Fin 16} (h : execSetLatch k s = .next t) : keepsRegs [rSvcChLatch] s t := by
  obtain rfl := Host.Outcome.next.inj h
  have h1 : keepsRegs [rSvcChLatch] s ((s.takeTask (0x098 + k)).1.setBit rSvcChLatch k true) :=
    ((keepsRegs.refl _ s).of_regs (State.takeTask_regs _)).setBit _ _ (by simp)
  refine .ite (.refl _ s) ?_
  dsimp only
  split
  · exact h1
  · exact h1.of_regs rfl

theorem execClrLatch_keepsRegs {k : Fin 16} (h : execClrLatch k s = .next t) : keepsRegs [rSvcChLatch] s t := by
  obtain rfl := Host.Outcome.next.inj h
  have h1 : keepsRegs [rSvcChLatch] s (s.takeTask (0x0A8 + k)).1 := (keepsRegs.refl _ s).of_regs (State.takeTask_regs _)
  refine .ite (.refl _ s) ?_
  dsimp only
  split
  · exact h1.setBit _ _ (by simp)
  · exact .ite h1 (h1.setBit _ _ (by simp))

theorem State.srcWrite_keepsRegs (x : Nat) (w : Bool) (v : Word) :
    keepsRegs [rSvcAudSrcCfg x, rSvcAudSrcWin x, rDevSvLog, rDevSvCnt] s (s.srcWrite x w v) := by
  unfold State.srcWrite
  refine .ite ?_ (.ite ?_ ?_)
  · exact ((keepsRegs.refl _ s).wr _ (by simp)).of_regs rfl
  · exact (keepsRegs.refl _ s).violation _ (by simp) (by simp)
  · exact ((keepsRegs.refl _ s).wr _ (by simp)).of_regs rfl

/-- The sub-channel that a selection names is one of the sixteen. -/
theorem State.injSc_lt {w : Word} {sc : Nat} (h : s.injSc w = some sc) : sc < 16 := by
  unfold State.injSc at h
  dsimp only at h
  split at h
  · next hu => cases h; omega
  · cases h

theorem State.setInj_keepsRegs (sc n : Nat) : keepsRegs [rMemScInj sc] s (s.setInj sc n) :=
  .ite (.refl _ s) (((keepsRegs.refl _ s).setFld _ _ _ (by simp)).of_regs rfl)

theorem State.injWrite_keepsRegs (w : Bool) (v : Word) :
    keepsRegs ([rSvcAudInjsel, rDevSvLog, rDevSvCnt] ++ (List.range 16).map rMemScInj) s (s.injWrite w v) := by
  have refused : ∀ a, keepsRegs ([rSvcAudInjsel, rDevSvLog, rDevSvCnt] ++ (List.range 16).map rMemScInj) s (s.violation a) :=
    fun a => (keepsRegs.refl _ s).violation a (by simp) (by simp)
  unfold State.injWrite
  refine .ite (.ite (refused _) ((keepsRegs.refl _ s).wr _ (by simp))) ?_
  dsimp only
  split
  · exact .ite (.refl _ s) (refused _)
  · next sc hsc =>
    have hm : rMemScInj sc ∈ [rSvcAudInjsel, rDevSvLog, rDevSvCnt] ++ (List.range 16).map rMemScInj :=
      List.mem_append_right _ (List.mem_map.mpr ⟨sc, List.mem_range.mpr (State.injSc_lt hsc), rfl⟩)
    refine .ite (refused _) (((keepsRegs.refl _ s).setFld _ _ _ hm).trans ((State.setInj_keepsRegs sc _).mono ?_))
    simpa using hm

theorem State.syncZones_keepsRegs : keepsRegs [rSvcThZone, rSvcThStat, rSvcThCfg] s s.syncZones :=
  ((((keepsRegs.refl _ s).wr _ (by simp)).setBit _ _ (by simp)).setBit _ _ (by simp)).setBit _ _ (by simp)

/-- An outcome behind a test. -/
theorem keepsRegs_of_guard {c : Prop} [Decidable c] {u : State} (h : (if c then Host.Outcome.next s else .next u) =
    (.next t : Host.Outcome State Fault Refusal)) (hu : keepsRegs l s u) : keepsRegs l s t := by
  split at h
  · obtain rfl := Host.Outcome.next.inj h
    exact .refl l s
  · obtain rfl := Host.Outcome.next.inj h
    exact hu

/-- Settles O60, by the chain of updates of each command. -/
theorem registersLeftAlone : Obligations.RegistersLeftAlone := by
  refine ⟨fun s t sc c hc h => ?_, fun s t sc b h => ?_, fun s t h => ?_, fun s t h => ?_, fun s t c hc h => ?_,
    fun s t h => ?_, fun s t h => ?_, fun s t n h => ?_, fun s t h => ?_, fun s t m a b c d e h => ?_,
    fun s t m f d n h => ?_, fun s t m r v h => ?_, fun s t m v h => ?_, fun s t m a b h => ?_, fun s t q cid h => ?_,
    fun s t q cid h => ?_, fun s t cid c hc h => exec_admin_keepsRegs hc h, fun s t n h => ?_, fun s t h => ?_,
    fun s t c hc h => ?_, fun s t v h => ?_, fun s t k c hc h => ?_, fun s t x w v h => ?_, fun s t w v h => ?_,
    fun s t b h => ?_, fun s t z h => ?_⟩
  · rcases hc with rfl | rfl <;> obtain rfl := Host.Outcome.next.inj h
    · refine .raise (.setBit (.setFld ?_ _ _ _ (by simp)) _ _ (by simp)) _ _
      exact (keepsRegs.refl _ s).of_regs rfl
    · refine .setBit (.setFld ?_ _ _ _ (by simp)) _ _ (by simp)
      exact (keepsRegs.refl _ s).of_regs rfl
  · obtain rfl := Host.Outcome.next.inj h
    refine .ite (.trans (.setFld (.refl _ s) _ _ _ ?_) (State.refreshBank_keepsRegs _ _)) (.refl _ s)
    exact List.mem_cons_self
  · obtain rfl := Host.Outcome.next.inj h
    refine .trans (.forEach _ (fun t p hp => ?_) (.refl _ s)) State.serve_keepsRegs
    exact (State.setPurse_keepsRegs p _).mono (coinStat_sub (by simp at hp; omega))
  · obtain rfl := Host.Outcome.next.inj h
    refine .ite (.trans (.raise (.count (.setBit (.refl _ s) _ _ ?_) ?_) _ _) (State.serve_keepsRegs.mono ?_)) (.refl _ s)
    · exact List.mem_cons_self
    · exact List.mem_cons_of_mem _ List.mem_cons_self
    · exact List.subset_cons_of_subset _ (List.subset_cons_self ..)
  · rcases hc with rfl | rfl <;> obtain rfl := Host.Outcome.next.inj h
    · exact State.srExit_keepsRegs
    · exact State.srExited_keepsRegs
  · obtain rfl := Host.Outcome.next.inj h
    exact .ite (State.setServo_keepsRegs 2) (.refl _ s)
  · exact keepsRegs_of_guard h (.ite State.mintRate_keepsRegs (.refl _ s))
  · obtain rfl := Host.Outcome.next.inj h
    exact State.ppsEdge_keepsRegs n
  · obtain rfl := Host.Outcome.next.inj h
    refine .ite (.raise (.count ?_ (by simp)) _ _) (.refl _ s)
    exact (keepsRegs.refl _ s).of_regs rfl
  · rcases h with h | h
    · exact execEthernetLinkChange_keepsRegs h
    · exact execCageChange_keepsRegs h
  · obtain rfl := Host.Outcome.next.inj h
    exact State.frameReceive_keepsRegs m f d n
  · exact keepsRegs_of_guard h (State.ringTailWrite_keepsRegs m r v)
  · exact keepsRegs_of_guard h (State.modI2c_keepsRegs m v)
  · exact execModuleI2cDone_keepsRegs h
  · obtain rfl := Host.Outcome.next.inj h
    exact State.transferStart_keepsRegs q cid
  · obtain rfl := Host.Outcome.next.inj h
    exact State.nvmFlush_keepsRegs q cid
  · obtain rfl := Host.Outcome.next.inj h
    exact State.shutdown_keepsRegs n.toNat
  · obtain rfl := Host.Outcome.next.inj h
    exact .ite (.trans ((keepsRegs.refl _ s).of_regs rfl) (State.dhError_keepsRegs 0 2)) (.refl _ s)
  · rcases hc with rfl | rfl
    · exact keepsRegs_of_guard h State.aesTxStart_keepsRegs
    · exact keepsRegs_of_guard h (.ite State.aesTxStop_keepsRegs (.refl _ s))
  · exact keepsRegs_of_guard h (State.aesTail_keepsRegs v)
  · rcases hc with rfl | rfl
    · exact execSetLatch_keepsRegs h
    · exact execClrLatch_keepsRegs h
  · exact keepsRegs_of_guard h (State.srcWrite_keepsRegs x w v)
  · exact keepsRegs_of_guard h (State.injWrite_keepsRegs w v)
  · obtain rfl := Host.Outcome.next.inj h
    refine .ite (.refl _ s) (.ite ?_ ?_)
    · exact (keepsRegs.refl _ s).of_regs rfl
    · exact ((keepsRegs.refl _ s).setBit 0 false (by simp)).of_regs rfl
  · obtain rfl := Host.Outcome.next.inj h
    refine .ite (.refl _ s) (.trans ?_ State.syncZones_keepsRegs)
    exact (keepsRegs.refl _ s).of_regs rfl

end Sys2Proof.Machine
end

section
/-! PROOF. The state after reset (R121, R436, R469, R529, R541), what one nanosecond does (R28, R470, R530), the serial counter
(R267). -/

namespace Sys2Proof.Machine

open Sys2Proof

variable {s : State}

/-- Settles O6, by the literal state. -/
theorem resetState : Obligations.ResetState := by
  have hlatch : State.reset.rd rSvcChLatch = 0#32 := by decide
  have hhead : State.reset.rd rSvcAudFlHead = 0#32 := by decide
  have halive : State.reset.bit rSvcAudStat 0 = false := by decide
  exact ⟨rfl, rfl, rfl, rfl, rfl, rfl, hlatch, hhead, rfl, halive, rfl, burned.refl _, rfl⟩

/-- Settles O12: the counter is reduced modulo one below its range. -/
theorem serialCounterWraps : Obligations.SerialCounterWraps := by
  have hmod : serialMod = 0xFFFFFFFFFFFF := rfl
  refine ⟨fun n hn => ?_, by decide, fun n => ?_⟩
  · rw [serialNext, hmod, Nat.mod_eq_of_lt (by omega)]
  · have hlt : serialNext n < 0xFFFFFFFFFFFF := Nat.mod_lt _ (by decide)
    omega

/-! ### The Mint -/

theorem mintOfFine_ns_lt (n : Nat) : (mintOfFine n).ns < 1000000000 := Nat.mod_lt _ (by decide)

theorem mintOfFine_fr_lt (n : Nat) : (mintOfFine n).fr < 2 ^ 44 := Nat.mod_lt _ (by decide)

/-- Without RATE a cycle adds one nanosecond. -/
theorem Mint.advance_zero (m : Mint) (h : m.fr = 0) : m.advance 0 = mintOfFine ((m.total + 1) * 2 ^ 44) := by
  have hsum : ((m.total * 2 ^ 44 + 0 : Nat) : Int) + 2 ^ 44 + 0 = ((m.total + 1) * 2 ^ 44 : Nat) := by
    push_cast
    ring
  rw [Mint.advance, Mint.fine, h, hsum, Int.toNat_natCast]

theorem mintOfFine_whole (n : Nat) : mintOfFine (n * 2 ^ 44) = ⟨n / nsPerSec % 2 ^ 48, n % nsPerSec, 0⟩ := by
  rw [mintOfFine, Nat.mul_div_cancel n (by decide), Nat.mul_mod_left]

/-- A second is full after its last nanosecond. -/
theorem Mint.advance_second {m : Mint} (hns : m.ns = 999999999) (hfr : m.fr = 0) (hsec : m.sec < 2 ^ 48 - 1) :
    m.advance 0 = ⟨m.sec + 1, 0, 0⟩ := by
  have hdiv : (m.total + 1) / nsPerSec = m.sec + 1 := by unfold Mint.total nsPerSec; omega
  have hmod : (m.total + 1) % nsPerSec = 0 := by unfold Mint.total nsPerSec; omega
  rw [Mint.advance_zero m hfr, mintOfFine_whole, hdiv, hmod, Nat.mod_eq_of_lt (by omega)]

theorem Mint.advance_nanosecond {m : Mint} (hns : m.ns < 999999999) (hfr : m.fr = 0) (hsec : m.sec < 2 ^ 48) :
    m.advance 0 = ⟨m.sec, m.ns + 1, 0⟩ := by
  have hdiv : (m.total + 1) / nsPerSec = m.sec := by unfold Mint.total nsPerSec; omega
  have hmod : (m.total + 1) % nsPerSec = m.ns + 1 := by unfold Mint.total nsPerSec; omega
  rw [Mint.advance_zero m hfr, mintOfFine_whole, hdiv, hmod, Nat.mod_eq_of_lt hsec]

/-! ### One nanosecond -/

/-- A cycle of the latches changes registers and the Clearing House only. -/
theorem State.latchCycle_same : s.latchCycle.now = s.now ∧ s.latchCycle.mint = s.mint ∧ s.latchCycle.px = s.px ∧
    s.latchCycle.mem = s.mem ∧ s.latchCycle.pending = s.pending := by
  unfold State.latchCycle
  split <;> exact ⟨rfl, rfl, rfl, rfl, rfl⟩

/-- R529: the AUTOCLR clears act; R530: the gates see the latches after them. -/
theorem State.latchCycle_rd (a : Nat) : s.latchCycle.rd a =
    if rSvcChLatch = a then s.rd rSvcChLatch &&& ~~~ s.ch.clr else s.rd a := by
  unfold State.latchCycle
  split
  · next h =>
    split
    · next ha =>
      have hones : ~~~ 0#32 = BitVec.allOnes 32 := by decide
      rw [← ha, h, hones, BitVec.and_allOnes]
      rfl
    · rfl
  · exact State.rd_wr ..

theorem State.latchCycle_ch : s.latchCycle.ch.clr = 0#32 ∧ s.latchCycle.ch.gate = s.latchCycle.rd rSvcChLatch := ⟨rfl, rfl⟩

theorem State.tick_of_released (h : s.pwr.phase = .released) :
    s.tick = if s.clocksRun.pxCycle = s.pxCycle then s.clocksRun else s.clocksRun.latchCycle := by
  simp only [State.tick, h]

/-- Whether a cycle of CLK_PX begins is told by the clocks alone. -/
theorem State.tick_pxCycle (h : s.pwr.phase = .released) : s.tick.pxCycle = s.clocksRun.pxCycle := by
  obtain ⟨-, -, hpx, -, -⟩ := State.latchCycle_same (s := s.clocksRun)
  rw [State.tick_of_released h]
  split
  · rfl
  · rw [State.pxCycle, hpx, State.pxCycle]

/-- Settles O2: the clocks run, and a cycle of the latches follows them where CLK_PX begins one. -/
theorem nanosecondTick : Obligations.NanosecondTick := by
  refine ⟨fun s h => ?_, fun s h => ?_, fun m rate _ _ _ _ => ⟨mintOfFine_ns_lt _, mintOfFine_fr_lt _⟩,
    fun m hns hfr hsec => Mint.advance_second hns hfr hsec, fun m hns hfr hsec => Mint.advance_nanosecond hns hfr hsec,
    fun s h hc => ?_, fun s h hc => ?_⟩
  · rcases h with h | h <;> simp only [State.tick, h]
  · obtain ⟨hnow, hmint, hpx, hmem, hpend⟩ := State.latchCycle_same (s := s.clocksRun)
    rw [State.tick_of_released h]
    split
    · exact ⟨rfl, rfl, rfl, rfl, rfl⟩
    · exact ⟨hnow, hmint, hpx, hmem, hpend⟩
  · rw [State.tick_pxCycle h] at hc
    rw [State.tick_of_released h, if_pos hc]
    exact ⟨rfl, rfl⟩
  · rw [State.tick_pxCycle h] at hc
    rw [State.tick_of_released h, if_neg hc]
    obtain ⟨hclr, hgate⟩ := State.latchCycle_ch (s := s.clocksRun)
    refine ⟨?_, hclr, hgate, fun a ha => ?_⟩
    · rw [State.latchCycle_rd, if_pos rfl]
      rfl
    · rw [State.latchCycle_rd, if_neg (Ne.symm ha)]
      rfl

end Sys2Proof.Machine
end

section
/-! PROOF. What a field or a bit of a register reads after a write beside it, what the sources of a unit need to speak, and the
answers of commands whose effect has a guard: the rules that the proofs of the commands share. -/

namespace Sys2Proof.Machine

open Sys2Proof

variable {s t : State} {a b : Nat}

/-! ### Registers, their fields and bits -/

@[simp] theorem State.fld_setFld_ne (lo w n lo' w' : Nat) (h : a ≠ b) : (s.setFld a lo w n).fld b lo' w' = s.fld b lo' w' :=
  State.fld_of_rd (State.rd_setFld_other lo w n h)

@[simp] theorem State.fld_setFld_apart (lo w n lo' w' : Nat) (h : lo' + w' ≤ lo ∨ lo + w ≤ lo') :
    (s.setFld a lo w n).fld a lo' w' = s.fld a lo' w' := State.fld_setFld_beside s a lo w n lo' w' h

@[simp] theorem State.fld_setBit_ne (i : Nat) (v : Bool) (lo w : Nat) (h : a ≠ b) : (s.setBit a i v).fld b lo w = s.fld b lo w :=
  State.fld_setFld_ne _ _ _ _ _ h

@[simp] theorem State.fld_setBit_apart (i : Nat) (v : Bool) (lo w : Nat) (h : lo + w ≤ i ∨ i + 1 ≤ lo) :
    (s.setBit a i v).fld a lo w = s.fld a lo w := State.fld_setFld_apart _ _ _ _ _ h

@[simp] theorem State.bit_setFld_ne (lo w n i : Nat) (h : a ≠ b) : (s.setFld a lo w n).bit b i = s.bit b i :=
  State.bit_of_rd (State.rd_setFld_other lo w n h)

@[simp] theorem State.bit_setFld_apart (lo w n i : Nat) (hi : i < 32) (h : i < lo ∨ lo + w ≤ i) :
    (s.setFld a lo w n).bit a i = s.bit a i := by
  rw [State.bit_setFld _ _ _ _ _ _ _ hi, if_neg (by omega)]

@[simp] theorem State.bit_setBit_ne (i j : Nat) (v : Bool) (h : a ≠ b) : (s.setBit a i v).bit b j = s.bit b j :=
  State.bit_setFld_ne _ _ _ _ h

@[simp] theorem State.bit_setBit_apart (i j : Nat) (v : Bool) (hj : j < 32) (h : i ≠ j) : (s.setBit a i v).bit a j = s.bit a j := by
  rw [State.bit_setBit _ _ _ _ _ _ hj, if_neg (by simp [h])]

@[simp] theorem State.fld_wr_ne (v : Word) (lo w : Nat) (h : a ≠ b) : (s.wr a v).fld b lo w = s.fld b lo w :=
  State.fld_of_rd (State.rd_wr_other s v h)

@[simp] theorem State.fld_wr_same (v : Word) (lo w : Nat) : (s.wr a v).fld a lo w = fget v lo w := by
  rw [State.fld, State.rd_wr_same]

@[simp] theorem State.bit_wr_ne (v : Word) (i : Nat) (h : a ≠ b) : (s.wr a v).bit b i = s.bit b i :=
  State.bit_of_rd (State.rd_wr_other s v h)

@[simp] theorem State.bit_wr_same (v : Word) (i : Nat) : (s.wr a v).bit a i = v.getLsbD i := by rw [State.bit, State.rd_wr_same]

@[simp] theorem State.fld_count_ne (lo w : Nat) (h : a ≠ b) : (s.count a).fld b lo w = s.fld b lo w :=
  State.fld_of_rd (State.rd_count_other h)

@[simp] theorem State.bit_count_ne (i : Nat) (h : a ≠ b) : (s.count a).bit b i = s.bit b i :=
  State.bit_of_rd (State.rd_count_other h)

/-! ### Sources -/

/-- A unit's sources speak by the variant, the image and the unit's fence bit. -/
theorem State.speaks_congr (x u : Nat) (hv : t.variant = s.variant) (hp : t.plane = s.plane)
    (hr : t.rd (rDevFenceU (2 * srcCluster x + u / 32)) = s.rd (rDevFenceU (2 * srcCluster x + u / 32))) :
    t.speaks x u = s.speaks x u := by
  simp [State.speaks, State.unitLive, State.enabled, State.fenced, State.bit, hv, hp, hr]

/-- A source that its unit can assert is heard when it is raised behind other changes. -/
theorem State.raise_hears_of {x u : Nat} (h : s.speaks x u = true) (hv : t.variant = s.variant) (hp : t.plane = s.plane)
    (hr : t.rd (rDevFenceU (2 * srcCluster x + u / 32)) = s.rd (rDevFenceU (2 * srcCluster x + u / 32))) :
    (t.raise x u).hears x u = true :=
  State.raise_hears t ((State.speaks_congr x u hv hp hr).trans h)

/-! ### Answers -/

/-- A command answers the state that its operation comes to. -/
theorem Answers.of_eq {c : Instr} {u : State} {P : State → Prop} (hc : exec c s = .next u) (h : u = t) (hP : P t) :
    Answers c s P := ⟨t, hc.trans (congrArg _ h), hP⟩

theorem AnswersVia.of_eq {f : State → State} {c : Instr} {u : State} {P : State → Prop} (hc : exec c s = .next u) (h : u = f t)
    (hP : P t) : AnswersVia f c s P := ⟨t, hc.trans (congrArg _ h), hP⟩

end Sys2Proof.Machine
end

section
/-! PROOF. The pins of the supply (R45 to R47), the link of the host (R124, R468), the test access port (R62), the step of CLK_PX
(R27 to R30). -/

namespace Sys2Proof.Machine

open Sys2Proof

variable {s t : State}

/-! ### Power-fail warning -/

theorem State.phase_ne_of_powered (h : s.powered = true) : (s.pwr.phase == .off || s.pwr.phase == .starting) = false := by
  simpa [State.powered, Bool.and_eq_true, not_or] using h

/-- The pins and the source of an assertion of PFW, before anything stops. -/
def State.pfwPins (s : State) (byLine : Bool) : State :=
  let s1 := ((if byLine then s.setBit rSvcPwrStat 0 false else s).setBit rSvcPwrStat 1 true).raise 0x118 3
  s1.setPwr { s1.pwr with loss := 1, pwrfail := true }

theorem State.pfw_of_calm (byLine : Bool) (hp : s.powered = true) (hl : s.pwr.loss = 0) :
    s.pfw byLine = (s.pfwPins byLine).pfwStops := by
  simp [State.pfw, State.pfwPins, State.phase_ne_of_powered hp, hl]

theorem State.pfw_of_running (byLine : Bool) (hp : s.powered = true) (hl : s.pwr.loss ≠ 0) :
    s.pfw byLine = if byLine then s.setBit rSvcPwrStat 0 false else s := by
  simp [State.pfw, State.phase_ne_of_powered hp, hl]

theorem State.pfwPins_bits (byLine : Bool) : (s.pfwPins byLine).bit rSvcPwrStat 1 = true ∧
    (s.pfwPins byLine).bit rSvcPwrStat 0 = (s.bit rSvcPwrStat 0 && !byLine) := by
  cases byLine <;> simp (disch := decide) [State.pfwPins]

theorem State.pfwPins_pwr (byLine : Bool) : (s.pfwPins byLine).pwr = { s.pwr with loss := 1, pwrfail := true } := by
  cases byLine <;> simp [State.pfwPins]

theorem State.pfwPins_hears (byLine : Bool) (h : s.speaks 0x118 3 = true) : (s.pfwPins byLine).hears 0x118 3 = true := by
  refine (State.hears_of_aud rfl _ _).trans (State.raise_hears_of h ?_ ?_ ?_)
  all_goals cases byLine <;> simp (disch := decide) [State.rd_setBit_other]

/-! ### Loss of the rails, power-good -/

/-- A wipe keeps what stands outside the die. -/
theorem State.wipe_kept (s : State) (cold keep : Bool) : (s.wipe cold keep).flash = s.flash ∧ (s.wipe cold keep).otp = s.otp ∧
    (s.wipe cold keep).mem.dram = if keep then s.mem.dram else [] := ⟨rfl, rfl, rfl⟩

/-- The die without its rails, J2 holding the array where `keep` says so. -/
def State.fallen (s : State) (keep : Bool) : State :=
  ((s.wipe true keep).setPwr { (s.wipe true keep).pwr with phase := .off, seqDone := s.memState == 4 }).setBit rSvcPwrStat 3 keep

theorem State.railsFall_of_lost (h : s.pwr.loss = 4) : s.railsFall =
    { s.fallen (s.memState == 4 && s.hasContent && s.bit rSvcPwrStat 2) with tap := State.reset.tap } := if_neg (not_not.mpr h)

theorem State.bit_setTap (p : Tap) (a i : Nat) : ({ s with tap := p } : State).bit a i = s.bit a i := rfl

/-- The power-good row but for the memory's states. -/
def State.goodPins (s : State) : State :=
  let cause := s.pwr.kind + (if s.pwr.retained then 0x100 else 0) + (if s.pwr.retLost then 0x200 else 0) +
    (if s.pwr.seqDone then 0x400 else 0)
  let s1 := s.setPwr { s.pwr with phase := .good, retLost := false, seqDone := false }
  let s2 := (s1.wr rDevRstCause (BitVec.ofNat 32 cause)).setBit rSvcPwrStat 3 false
  let s3 := (s2.setBit rDevVltStat 3 s.otp.zeroized).setFld rDevVltStat 0 1 s.activeSlot
  if s.pwr.perst then s3 else s3.setFld rHstLink 28 4 1

/-- The state of a sub-channel as its training, or its exit from self-refresh, begins. -/
def State.scBegin (st : Nat) (t : State) (n : Nat) : State :=
  (t.setFld (rMemScStat n) 28 4 1).setFld (rMemScStat n) 24 4 (if st = 5 then 4 else 1)

theorem State.goodRow_eq : s.goodRow = (s.goodPins.forEach s.goodPins.scs (State.scBegin (if s.pwr.retained then 5 else 1))).setFld
    rMemStat 28 4 (if s.pwr.retained then 5 else 1) := rfl

theorem State.goodPins_pwr : s.goodPins.pwr = { s.pwr with phase := .good, retLost := false, seqDone := false } := by
  unfold State.goodPins
  dsimp only
  split <;> rfl

/-- What no step of a loop changes is as before behind the loop. -/
theorem State.forEach_keeps {α β : Type} (g : State → β) {f : State → α → State} (h : ∀ t x, g (f t x) = g t) (l : List α)
    (s : State) : g (s.forEach l f) = g s :=
  List.foldlRecOn (motive := fun t : State => g t = g s) l f rfl fun t ht x _ => (h t x).trans ht

theorem State.goodRow_pwr : s.goodRow.pwr = { s.pwr with phase := .good, retLost := false, seqDone := false } := by
  rw [State.goodRow_eq, State.setFld_pwr, State.forEach_keeps State.pwr (f := State.scBegin _) fun _ _ => rfl, State.goodPins_pwr]

theorem State.goodRow_memState : s.goodRow.memState = if s.pwr.retained then 5 else 1 := by
  rw [State.goodRow_eq, State.memState, State.fld_setFld_same _ _ _ _ _ (by decide)]
  split <;> rfl

/-! ### The link and the test access port -/

theorem State.tap_of_powered (sel : Nat) (cells : List Bool) (h : s.powered = true) :
    s.setTap sel cells = { s with tap := ⟨sel, cells⟩ } := if_pos h

/-- HST_LINK of a link that is up. -/
def linkWord (speed width : Nat) : Word :=
  BitVec.ofNat 32 (2 * 2 ^ 28 + speed * 2 ^ 16 + width * 2 ^ 8 + (if speed < 5 ∨ width < 8 then 1 else 0))

theorem fget_linkWord {speed width : Nat} (hs : speed ≤ 5) (hw : width ∈ [1, 2, 4, 8]) :
    fget (linkWord speed width) 28 4 = 2 ∧ fget (linkWord speed width) 16 4 = speed ∧
      fget (linkWord speed width) 8 8 = width := by
  simp only [List.mem_cons, List.not_mem_nil, or_false] at hw
  interval_cases speed <;> rcases hw with rfl | rfl | rfl | rfl <;> decide

theorem State.linkUp_of_wf {speed width : Nat} (hp : s.powered = true) (hperst : s.pwr.perst = false)
    (hl : s.fld rHstLink 28 4 ≠ 2) (hwf : Instr.wf (.pcieLinkUp speed width) = true) :
    speed ≤ 5 ∧ width ∈ [1, 2, 4, 8] ∧ s.linkUp speed width = (s.wr rHstLink (linkWord speed width)).raise 0x0E0 1 := by
  simp only [Instr.wf, Bool.and_eq_true, decide_eq_true_eq] at hwf
  obtain ⟨⟨h1, h5⟩, hw⟩ := hwf
  refine ⟨h5, by simpa using hw, ?_⟩
  have hguard : (!s.powered || s.pwr.perst || decide (s.fld rHstLink 28 4 = 2) || decide (speed < 1) || decide (5 < speed) ||
      !([1, 2, 4, 8].contains width)) = false := by
    simp [hp, hperst, hl, hw, -List.contains_eq_mem]
    omega
  exact if_neg (by simpa using hguard)

/-- Settles O20. -/
theorem supplyPinsAndTap : Obligations.SupplyPinsAndTap := by
  refine ⟨fun s byLine hp hl => ?_, fun s byLine hp hl => ?_, fun s hb => ?_, fun s hl => ?_, fun s hb => ?_,
    fun s inRange => ?_, fun s held hoff hcut => ?_, fun s hst => ?_, fun s testEn hst => ?_,
    fun s speed width hp hperst hl hwf => ?_, fun s hl => ?_, fun s ir hp => ?_, fun s hp => ?_, fun s pins hp => ?_,
    fun s cells hp => ?_⟩
  · obtain ⟨h1, h0⟩ := State.pfwPins_bits (s := s) byLine
    exact .of_eq rfl (State.pfw_of_calm byLine hp hl) ⟨State.pfwPins_pwr byLine, h1, h0, State.pfwPins_hears byLine⟩
  · exact .of_eq rfl (State.pfw_of_running byLine hp hl) rfl
  · refine .of_eq rfl (if_pos hb) ⟨rfl, ?_, ?_, fun r hr => ?_⟩
    · simp (disch := decide)
    · simp
    · rw [State.rd_setBit_other 0 true hr.symm, State.rd_setBit_other 1 false hr.symm, State.setPwr_rd]
  · obtain ⟨hflash, hotp, hdram⟩ := s.wipe_kept true (s.memState == 4 && s.hasContent && s.bit rSvcPwrStat 2)
    refine .of_eq rfl (State.railsFall_of_lost hl) ⟨rfl, rfl, hflash, hotp, ?_, hdram⟩
    rw [State.bit_setTap, State.fallen, State.bit_setBit_same _ _ _ _ (by decide)]
  · refine .of_eq rfl (if_neg (by simp [hb])) ⟨rfl, ?_, ?_, rfl⟩
    · simp (disch := decide)
    · simp
  · refine .of_eq rfl rfl ⟨State.bit_setBit_same _ _ _ _ (by decide), fun i hi h2 => ?_,
      fun r hr => State.rd_setBit_other 2 _ hr.symm⟩
    exact State.bit_setBit_apart _ _ _ hi h2.symm
  · refine .of_eq rfl (if_neg (by simp [hoff, hcut])) ⟨rfl, ?_, ?_⟩
    · simp (disch := decide)
    · simp
  · exact .of_eq rfl (if_pos (by simp [hst])) ⟨rfl, State.bit_setBit_same _ _ _ _ (by decide)⟩
  · exact .of_eq rfl (if_neg (by simp [hst])) ⟨State.goodRow_pwr, State.goodRow_memState⟩
  · obtain ⟨h5, hw, heq⟩ := State.linkUp_of_wf hp hperst hl hwf
    obtain ⟨hup, hspeed, hwidth⟩ := fget_linkWord h5 hw
    refine .of_eq rfl heq ⟨by simpa using hup, by simpa using hspeed, by simpa using hwidth, fun h => ?_, fun r hr => ?_⟩
    · exact State.raise_hears_of h rfl rfl (State.rd_wr_other _ _ (by decide))
    · rw [State.raise_rd, State.rd_wr_other _ _ hr.symm]
  · refine .of_eq rfl (if_neg (not_not.mpr hl)) ⟨?_, ?_, fun h => State.raise_hears_of h rfl rfl ?_⟩
    · rw [State.raise_rd, State.rd_count_other (by decide), State.rd_wr_same]
    · rw [State.raise_rd, State.rd_count, if_pos rfl, State.rd_wr_other _ _ (by decide)]
    · rw [State.rd_count_other (by decide), State.rd_wr_other _ _ (by decide)]
  · exact .of_eq rfl (State.tap_of_powered _ _ hp) rfl
  · exact .of_eq rfl ((if_pos hp).trans (by rw [State.tap_of_powered _ _ hp])) rfl
  · exact .of_eq rfl (State.tap_of_powered _ _ hp) rfl
  · refine .of_eq rfl rfl ?_
    simp only [State.tap_of_powered _ _ hp, beq_iff_eq]
    split <;> rfl

/-! ### The step of CLK_PX -/

theorem State.stepRule_of_ps (f : Nat → Nat) (h : s.fld rHstPwr 0 3 ≠ 1) :
    s.stepRule f = (s.setFld rDevClk 6 2 (f (s.fld rDevClk 6 2))).stepEval := if_neg h

/-- The supervisor's input power, and the step it demands in PS1. -/
def State.inputTaken (s : State) (mw : Nat) : State :=
  let s1 := s.setPwr { s.pwr with inputMw := mw }
  if s1.fld rHstPwr 0 3 = 1 then s1.setFld rDevClk 6 2 3 else s1

theorem execPowerSupervisorEvaluate_of_powered (mw : Nat) (h : s.powered = true) :
    execPowerSupervisorEvaluate mw s = .next (s.inputTaken mw).stepEval := by
  simp [execPowerSupervisorEvaluate, State.inputTaken, h]

/-- A field of two bits holds what the supervisor writes into it. -/
theorem State.fld_stepPwr {n : Nat} (h : n < 4) : (s.setFld rDevClk 6 2 n).fld rDevClk 6 2 = n :=
  (State.fld_setFld_same _ _ _ _ _ (by decide)).trans (Nat.mod_eq_of_lt h)

/-- Settles O23. -/
theorem stepOfClkPx : Obligations.StepOfClkPx := by
  refine ⟨fun s mw hp => ?_, fun s hp hw hps => ?_, fun s hp hw hps => ?_, fun s v hr => ?_, fun s hst hd => ?_,
    fun s hst => ?_⟩
  · refine ⟨_, execPowerSupervisorEvaluate_of_powered mw hp, ?_⟩
    by_cases hps : s.fld rHstPwr 0 3 = 1
    · simp [State.inputTaken, hps]
    · simp [State.inputTaken, hps]
  · exact .of_eq rfl ((if_pos ⟨hp, hw⟩).trans (State.stepRule_of_ps _ hps)) ⟨State.fld_stepPwr (by omega), rfl⟩
  · have hlt := s.fld_lt rDevClk 6 2
    exact .of_eq rfl ((if_pos ⟨hp, hw⟩).trans (State.stepRule_of_ps _ hps)) ⟨State.fld_stepPwr (by omega), rfl⟩
  · refine .of_eq rfl (if_pos hr) ⟨?_, ?_, rfl⟩
    · exact (State.fld_setFld_same _ _ _ _ _ (by decide)).trans (Nat.mod_eq_of_lt (fget_lt v 4 2))
    · exact State.fld_setFld_apart _ _ _ _ _ (by decide)
  · refine .of_eq rfl (if_pos (by simp [hst, hd])) ⟨?_, rfl, fun r hr => ?_⟩
    · exact State.fld_setFld_same _ _ _ _ _ (by decide)
    · rw [State.setClk_rd, State.rd_setFld_other _ _ _ hr.symm]
  · refine .of_eq rfl (if_pos (by simp [hst])) ⟨State.raise_clk _ _ _, ?_, fun h => ?_⟩
    · rw [State.raise_bit]
      exact State.bit_setBit_same _ _ _ _ (by decide)
    · exact State.raise_hears_of h rfl rfl (State.rd_setBit_other _ _ (by decide))

end Sys2Proof.Machine
end

section
/-! PROOF. The telemetry responder and the VPD (R54, R565). -/

namespace Sys2Proof.Machine

open Sys2Proof

variable {s t : State}

@[simp] theorem leBytes_length (k n : Nat) : (leBytes k n).length = k := by
  induction k generalizing n with
  | zero => rfl
  | succ k ih => rw [leBytes, List.length_cons, ih]

theorem leNat_leBytes (k n : Nat) : leNat (leBytes k n) = n % 256 ^ k := by
  induction k generalizing n with
  | zero => rw [leBytes, leNat, pow_zero, Nat.mod_one]
  | succ k ih => rw [leBytes, leNat, ih, BitVec.toNat_ofNat, pow_succ' 256 k, Nat.mod_mul, show 2 ^ 8 = 256 from rfl]

theorem slice_append_left {α : Type} {l : List α} (r : List α) {i n : Nat} (h : i + n ≤ l.length) :
    slice (l ++ r) i n = slice l i n := by
  rw [slice, slice, List.drop_append_of_le_length (by omega), List.take_append_of_le_length (by simp; omega)]

theorem slice_append_right {α : Type} (l r : List α) (i n : Nat) : slice (l ++ r) (l.length + i) n = slice r i n := by
  rw [slice, slice, List.drop_append, List.drop_of_length_le (by omega), List.nil_append, Nat.add_sub_cancel_left]

theorem slice_zero {α : Type} (l : List α) : slice l 0 l.length = l := by simp [slice]

theorem leAt_leBytes (w n : Nat) : leAt (leBytes w n) 0 w = n % 256 ^ w := by
  rw [← leNat_leBytes, leAt]
  exact congrArg leNat (by simpa using slice_zero (leBytes w n))

theorem leAt_leBytes_append (w n : Nat) (r : List Byte) : leAt (leBytes w n ++ r) 0 w = n % 256 ^ w := by
  rw [leAt, slice_append_left _ (by simp), ← leAt, leAt_leBytes]

theorem leAt_append_right (l r : List Byte) {i : Nat} (n : Nat) (h : l.length ≤ i) :
    leAt (l ++ r) i n = leAt r (i - l.length) n := by
  obtain ⟨j, rfl⟩ := Nat.exists_eq_add_of_le h
  rw [leAt, slice_append_right, Nat.add_sub_cancel_left, ← leAt]

theorem flatMap_leBytes_length (w m : Nat) (f : Nat → Nat) :
    ((List.range m).flatMap fun k => leBytes w (f k)).length = w * m := by
  simp [List.length_flatMap, mul_comm]

/-- The words of a block of words. -/
theorem leAt_flatMap {w m n : Nat} (f : Nat → Nat) (h : n < m) :
    leAt ((List.range m).flatMap fun k => leBytes w (f k)) (w * n) w = f n % 256 ^ w := by
  rw [← leNat_leBytes, leAt]
  congr 1
  induction m with
  | zero => omega
  | succ m ih =>
    have hlen := flatMap_leBytes_length w m f
    rw [List.range_succ, List.flatMap_append, List.flatMap_singleton]
    rcases Nat.lt_succ_iff_lt_or_eq.mp h with hn | rfl
    · rw [slice_append_left _ (by rw [hlen]; nlinarith), ih hn]
    · have h0 := slice_append_right ((List.range n).flatMap fun k => leBytes w (f k)) (leBytes w (f n)) 0 w
      rw [hlen, Nat.add_zero] at h0
      simpa [slice_zero] using h0.trans (by simpa using slice_zero (leBytes w (f n)))

theorem State.telemetry_of_released (l : List Byte) (h : s.pwr.phase = .released) : s.telemetry l = { s with rbytes := l } := by
  simp [State.telemetry, State.powered, h]

theorem State.telemetry_of_unpowered (l : List Byte) (h : s.pwr.phase = .off ∨ s.pwr.phase = .starting) :
    s.telemetry l = { s with rbytes := [] } := by
  rcases h with h | h <;> simp [State.telemetry, State.powered, h]

/-- The first 16 bytes of log page 0xC0. -/
theorem State.faultHead_take : ∃ valid, s.faultHead.take 16 = leBytes 4 (s.rd rSvcAudFlHead).toNat ++ (leBytes 4 s.aud.lost ++
    (leBytes 2 valid ++ (leBytes 1 (s.fld rSvcAudStat 28 4) ++ (leBytes 1 0 ++ leBytes 4 s.aud.severe)))) := by
  refine ⟨if s.aud.lost = 0 then min 1024 (s.rd rSvcAudFlHead).toNat else 1024, ?_⟩
  simp [State.faultHead, leBytes]

/-- Settles O59. -/
theorem telemetry : Obligations.Telemetry := by
  refine ⟨fun s off len => .of_eq rfl rfl rfl, fun s hp => ?_, fun s hp hu => ?_, fun s hp => ?_, fun s hp c hc => ?_⟩
  · have answer := fun b => State.telemetry_of_released b hp
    exact ⟨.of_eq rfl (answer _) rfl, .of_eq rfl (answer _) rfl, .of_eq rfl (answer _) rfl, .of_eq rfl (answer _) rfl,
      .of_eq rfl (answer _) rfl⟩
  · have answer := fun b => State.telemetry_of_released b hp
    have hshown : ∀ a, s.shown 15 4 a = s.rd a := fun a => if_pos hu
    refine ⟨.of_eq rfl (answer _) (by rw [hshown]), .of_eq rfl (answer _) (by rw [hshown]), .of_eq rfl (answer _) ⟨?_, rfl, ?_⟩⟩
    · exact flatMap_leBytes_length 2 16 _
    · intro n hn
      refine (leAt_flatMap (w := 2) (fun n => (s.shown 15 4 (rSvcThSens n)).toNat) hn).trans ?_
      rw [hshown]
      rfl
  · have answer := fun b => State.telemetry_of_released b hp
    obtain ⟨valid, hhead⟩ := s.faultHead_take
    have hstat := s.fld_lt rSvcAudStat 28 4
    refine ⟨.of_eq rfl (answer _) ?_, .of_eq rfl (answer _) ⟨rfl, flatMap_leBytes_length 4 8 _, fun k hk => ?_⟩⟩
    · rw [hhead]
      refine ⟨rfl, by simp, ?_, ?_, ?_⟩
      · exact (leAt_leBytes_append ..).trans (Nat.mod_eq_of_lt (BitVec.isLt _))
      · rw [leAt_append_right _ _ _ (by simp), leBytes_length]
        exact leAt_leBytes_append ..
      · rw [leAt_append_right _ _ _ (by simp), leAt_append_right _ _ _ (by simp), leAt_append_right _ _ _ (by simp)]
        simp only [leBytes_length]
        exact (leAt_leBytes_append ..).trans (Nat.mod_eq_of_lt (by omega))
    · exact (leAt_flatMap (w := 4) (fun k => (s.rd (rSvcAudFf 0 + 4 * k)).toNat) hk).trans (Nat.mod_eq_of_lt (BitVec.isLt _))
  · have silent := fun b => State.telemetry_of_unpowered b hp
    simp only [List.mem_cons, List.not_mem_nil, or_false] at hc
    rcases hc with rfl | rfl | rfl | rfl | rfl | rfl | rfl | rfl | rfl | rfl
    all_goals exact .of_eq rfl (silent _) rfl

end Sys2Proof.Machine
end

section
/-! PROOF. The V12 outputs of the heads (R50, R51, R52). -/

namespace Sys2Proof.Machine

open Sys2Proof

variable {s t : State}

/-! ### Measurements -/

theorem rSvcHpwrMeas_ne {m n : Nat} (h : m ≠ n) : rSvcHpwrMeas m ≠ rSvcHpwrMeas n := by unfold rSvcHpwrMeas; omega

theorem rSvcHpwrMeas_ne_stat (n : Nat) : rSvcHpwrMeas n ≠ rSvcHpwrStat := by unfold rSvcHpwrMeas rSvcHpwrStat; omega

theorem State.measureOne_rd (n : Nat) (m : Nat × Nat) (r : Nat) (h : rSvcHpwrMeas n ≠ r) : (s.measureOne n m).rd r = s.rd r :=
  State.rd_wr_other s _ h

theorem State.measureOne_hpwr (n k : Nat) (m : Nat × Nat) : (s.measureOne n m).hpwr k = s.hpwr k :=
  State.fld_of_rd (State.measureOne_rd _ _ _ (rSvcHpwrMeas_ne_stat n))

/-- What the register of an output's measurement takes (R52). -/
def State.measured (s : State) (n : Nat) (m : Nat × Nat) : Word :=
  if s.v12Runs n then BitVec.ofNat 32 (min m.1 0xFFFF * 2 ^ 16 + min m.2 0xFFFF) else 0#32

theorem State.measureOne_meas (n : Nat) (m : Nat × Nat) : (s.measureOne n m).rd (rSvcHpwrMeas n) = s.measured n m :=
  State.rd_wr_same ..

theorem State.measured_congr (n : Nat) (m : Nat × Nat) (h : t.hpwr n = s.hpwr n) : t.measured n m = s.measured n m := by
  simp [State.measured, State.v12Runs, h]

/-- The registers of the first outputs hold their measurements. -/
theorem State.measureAll (f : Nat → Nat × Nat) (k : Nat) : let t := s.forEach (List.range k) fun t n => t.measureOne n (f n)
    (∀ n, t.hpwr n = s.hpwr n) ∧ (∀ n < k, t.rd (rSvcHpwrMeas n) = s.measured n (f n)) ∧ t.pwr.startQ = s.pwr.startQ ∧
      ∀ r, (∀ n, rSvcHpwrMeas n ≠ r) → t.rd r = s.rd r := by
  induction k with
  | zero => exact ⟨fun _ => rfl, fun _ h => absurd h (Nat.not_lt_zero _), rfl, fun _ _ => rfl⟩
  | succ k ih =>
    obtain ⟨hpwr, hmeas, hq, hrd⟩ := ih
    simp only [State.forEach, List.range_succ, List.foldl_append, List.foldl_cons, List.foldl_nil] at hpwr hmeas hq hrd ⊢
    refine ⟨fun n => (State.measureOne_hpwr ..).trans (hpwr n), fun n hn => ?_, hq, fun r hr => ?_⟩
    · rcases Nat.lt_succ_iff_lt_or_eq.mp hn with hlt | rfl
      · rw [State.measureOne_rd _ _ _ (rSvcHpwrMeas_ne hlt.ne'), hmeas n hlt]
      · rw [State.measureOne_meas, State.measured_congr _ _ (hpwr n)]
    · rw [State.measureOne_rd _ _ _ (hr k), hrd r hr]

theorem State.measured_of_lt {n : Nat} {m : Nat × Nat} (h1 : m.1 < 65536) (h2 : m.2 < 65536) : s.measured n m =
    if s.hpwr n = 1 ∨ s.hpwr n = 2 then BitVec.ofNat 32 (m.1 * 2 ^ 16 + m.2) else 0#32 := by
  rw [State.measured, Nat.min_eq_left (by omega), Nat.min_eq_left (by omega)]
  simp [State.v12Runs]

theorem rSvcHpwrMeas_ne_pwrStat (n : Nat) : rSvcHpwrMeas n ≠ rSvcPwrStat := by unfold rSvcHpwrMeas rSvcPwrStat; omega

theorem wf_meas {meas : List (Nat × Nat)} {line : Option Bool} (h : Instr.wf (.headOutputMeasure (meas, line)) = true) (n : Nat) :
    (meas.getD n (0, 0)).1 < 65536 ∧ (meas.getD n (0, 0)).2 < 65536 := by
  simp only [Instr.wf, Bool.and_eq_true, List.all_eq_true, decide_eq_true_eq] at h
  rw [List.getD_eq_getElem?_getD]
  cases hm : meas[n]? with
  | none => exact ⟨by decide, by decide⟩
  | some m => exact h.2 m (List.mem_of_getElem? hm)

/-- MAINS_OK follows the line's condition. -/
def State.lineTaken (s : State) (line : Option Bool) (powered : Bool) : State :=
  match line with
  | some b => if powered then s.setBit rSvcPwrStat 0 b else s
  | none => s

theorem State.lineTaken_rd {r : Nat} (line : Option Bool) (p : Bool) (h : rSvcPwrStat ≠ r) : (s.lineTaken line p).rd r = s.rd r := by
  cases line <;> cases p <;> simp [State.lineTaken, State.rd_setBit_other _ _ h]

theorem State.lineTaken_pwr (line : Option Bool) (p : Bool) : (s.lineTaken line p).pwr = s.pwr := by
  cases line <;> cases p <;> simp [State.lineTaken]

theorem State.lineTaken_bit (line : Option Bool) {p : Bool} (h : p = true) :
    (s.lineTaken line p).bit rSvcPwrStat 0 = line.getD (s.bit rSvcPwrStat 0) := by
  cases line <;> simp [State.lineTaken, h]

/-- The window of the sum of all outputs (R51). -/
def State.sumTaken (s : State) : State := s.setPwr { s.pwr with tot := if s.v12Over then s.pwr.tot + 1 else 0 }

theorem State.measure_eq (meas : List (Nat × Nat)) (line : Option Bool) : s.measure meas line =
    ((s.forEach (List.range 4) fun t n => t.measureOne n (meas.getD n (0, 0))).sumTaken).lineTaken line s.powered := by
  cases line <;> rfl

/-! ### The state of an output -/

/-- An output's new state, but for its port. -/
def State.hpwrPut (s : State) (n st : Nat) : State :=
  let s2 := (s.setPwr { s.pwr with
    startQ := s.pwr.startQ.filter (· != n), oc := setAt s.pwr.oc n 0, uv := setAt s.pwr.uv n 0 }).setFld rSvcHpwrStat (4 * n) 4 st
  if st = 1 ∨ st = 2 then s2 else s2.wr (rSvcHpwrMeas n) 0#32

theorem State.setHpwr_of_on {n st : Nat} (h : s.hpwr n = 2) (hst : st ≠ 2) :
    s.setHpwr n st = (s.hpwrPut n st).portStop n := by
  simp [State.setHpwr, State.hpwrPut, State.setPwr, h, hst.symm]

theorem State.setHpwr_of_not_on {n st : Nat} (h : s.hpwr n ≠ 2) (hst : s.hpwr n ≠ st) : s.setHpwr n st = s.hpwrPut n st := by
  simp [State.setHpwr, State.hpwrPut, State.setPwr, h, hst]

theorem State.hpwrPut_hpwr {n st : Nat} (hn : n < 4) (hst : st < 16) : (s.hpwrPut n st).hpwr n = st := by
  have hput : ∀ t : State, (t.setFld rSvcHpwrStat (4 * n) 4 st).fld rSvcHpwrStat (4 * n) 4 = st := fun t =>
    (State.fld_setFld_same t _ _ _ _ (by omega)).trans (Nat.mod_eq_of_lt hst)
  unfold State.hpwrPut State.hpwr
  dsimp only
  split
  · exact hput _
  · rw [State.fld_wr_ne _ _ _ (rSvcHpwrMeas_ne_stat n), hput]

theorem State.hpwrPut_meas {n st : Nat} (h : 2 < st) : (s.hpwrPut n st).rd (rSvcHpwrMeas n) = 0#32 := by
  unfold State.hpwrPut
  rw [if_neg (by omega), State.rd_wr_same]

theorem State.hpwrPut_pwr {n st : Nat} : (s.hpwrPut n st).pwr = { s.pwr with
    startQ := s.pwr.startQ.filter (· != n), oc := setAt s.pwr.oc n 0, uv := setAt s.pwr.uv n 0 } := by
  unfold State.hpwrPut
  dsimp only
  split <;> rfl

theorem State.hpwrPut_hears {n st : Nat} (h : s.speaks 0x119 3 = true) : ((s.hpwrPut n st).raise 0x119 3).hears 0x119 3 = true := by
  have hmeas : rSvcHpwrMeas n ≠ rDevFenceU (2 * srcCluster 0x119 + 3 / 32) := Nat.ne_of_gt (Nat.lt_add_right _ (by decide))
  have hstat : rSvcHpwrStat ≠ rDevFenceU (2 * srcCluster 0x119 + 3 / 32) := by decide
  unfold State.hpwrPut
  refine State.raise_hears_of h ?_ ?_ ?_
  · split <;> rfl
  · split <;> rfl
  · split
    · rw [State.rd_setFld_other _ _ _ hstat, State.setPwr_rd]
    · simp only [State.rd_wr_other _ _ hmeas, State.rd_setFld_other _ _ _ hstat, State.setPwr_rd]

/-- An output that runs trips (R51). -/
theorem State.trip_of_on {n st : Nat} (h : s.hpwr n = 2) (hst : st ≠ 2) :
    s.trip n st = (((s.hpwrPut n st).portStop n).raise 0x119 3).follow := by
  rw [State.trip, State.setHpwr_of_on h hst]

/-! ### The sum, the presence pins, the enable bits -/

theorem State.tripTotal_of_highest {h : Fin 4} (hon : s.hpwr h = 2) (hhi : ∀ k : Fin 4, h < k → s.hpwr k ≠ 2)
    (htot : 10 ≤ s.pwr.tot) (hover : s.v12Over = true) : s.tripTotal = (s.setPwr { s.pwr with tot := 0 }).trip h 5 := by
  have hfind : [3, 2, 1, 0].find? (fun n => s.hpwr n == 2) = some h.val := by
    have h1 := hhi 1
    have h2 := hhi 2
    have h3 := hhi 3
    fin_cases h <;> simp_all
  unfold State.tripTotal
  rw [if_neg (by simp [hover]; omega), hfind]
  rfl

/-- The presence pins with one changed. -/
def presWith (p : BitVec 4) (h : Fin 4) (b : Bool) : BitVec 4 :=
  if b then p ||| BitVec.ofNat 4 (2 ^ h.val) else p &&& ~~~ BitVec.ofNat 4 (2 ^ h.val)

theorem getLsbD_presWith (p : BitVec 4) (h k : Fin 4) (b : Bool) :
    (presWith p h b).getLsbD k = if k = h then b else p.getLsbD k := by
  revert p h k b
  decide

/-- The enable bits of the outputs, as SVC_HPWR_CTL takes them. -/
theorem getLsbD_enableBits (p : Nat → Bool) (n : Fin 4) :
    (BitVec.ofNat 32 ((idxs 4 p).foldl (fun m k => m + 2 ^ k) 0)).getLsbD n = p n := by
  have hr : List.range 4 = [0, 1, 2, 3] := rfl
  rw [idxs, hr]
  cases h0 : p 0 <;> cases h1 : p 1 <;> cases h2 : p 2 <;> cases h3 : p 3 <;> fin_cases n <;> simp [h0, h1, h2, h3] 

/-- Settles O24. -/
theorem headOutputs : Obligations.HeadOutputs := by
  refine ⟨fun s meas line hwf => ?_, fun s h ma hst hma => ?_, fun s h ma hon hma => ?_, fun s h ma hma hoc => ?_,
    fun s h hon huv => ?_, fun s h hon hhi htot hover => ?_, fun s hno => ?_, fun s h hq hmay hen hpres h1 h2 => ?_,
    fun s h hst => ?_, fun s h present => ?_, fun s v hr => ?_⟩
  · obtain ⟨hpwr, hmeas, hq, hrd⟩ := s.measureAll (fun n => meas.getD n (0, 0)) 4
    refine .of_eq rfl (State.measure_eq ..) ⟨fun n => ⟨?_, ?_⟩, fun hp => ?_, (congrArg Pwr.startQ (State.lineTaken_pwr ..)).trans hq⟩
    · obtain ⟨hi, hv⟩ := wf_meas hwf n
      rw [State.lineTaken_rd _ _ (rSvcHpwrMeas_ne_pwrStat n).symm, ← State.measured_of_lt hi hv]
      exact hmeas n n.isLt
    · exact (State.fld_of_rd (State.lineTaken_rd _ _ (by decide))).trans (hpwr n)
    · rw [State.lineTaken_bit _ hp]
      exact congrArg line.getD (State.bit_of_rd (hrd _ rSvcHpwrMeas_ne_pwrStat))
  · have hguard : (s.v12Runs h && (decide (4000 < ma) || s.pwr.oc.getD h 0 != 0)) = true := by
      simpa [State.v12Runs, hst] using hma
    have hset : s.setHpwr h 4 = s.hpwrPut h 4 := State.setHpwr_of_not_on (by simp [hst]) (by simp [hst])
    refine .of_eq (t := (s.hpwrPut h 4).raise 0x119 3) rfl ((if_pos hguard).trans (by rw [State.trip, hset]))
      ⟨?_, State.hpwrPut_hears⟩
    exact (State.raise_fld ..).trans (State.hpwrPut_hpwr h.isLt (by decide))
  · have hguard : (s.v12Runs h && (decide (4000 < ma) || s.pwr.oc.getD h 0 != 0)) = true := by
      simpa [State.v12Runs, hon] using hma
    refine .of_eq rfl ((if_pos hguard).trans (State.trip_of_on hon (by decide)))
      ⟨State.hpwrPut_hpwr h.isLt (by decide), State.hpwrPut_meas (by decide), ?_⟩
    simp [State.hpwrPut_pwr]
  · have hcur : decide (4000 < ma) = false := decide_eq_false (by omega)
    exact .of_eq rfl (if_neg (by simp only [hcur, hoc]; simp)) rfl
  · have hguard : (s.hpwr h == 2 && s.pwr.uv.getD h 0 != 0) = true := by simpa [hon] using huv
    exact .of_eq rfl ((if_pos hguard).trans (State.trip_of_on hon (by decide)))
      ⟨State.hpwrPut_hpwr h.isLt (by decide), State.hpwrPut_meas (by decide)⟩
  · refine .of_eq rfl ((State.tripTotal_of_highest hon hhi htot hover).trans (State.trip_of_on hon (by decide)))
      ⟨State.hpwrPut_hpwr h.isLt (by decide), State.hpwrPut_meas (by decide), ?_⟩
    rw [State.hpwrPut_pwr]
    rfl
  · refine .of_eq rfl (if_pos ?_) rfl
    rcases hno with h | h <;> simp [h]
  · exact .of_eq rfl ((if_pos ⟨hq, hmay, hen, hpres⟩).trans (State.setHpwr_of_not_on h2 h1))
      ⟨State.hpwrPut_hpwr h.isLt (by decide), State.hpwrPut_pwr⟩
  · exact .of_eq rfl ((if_pos hst).trans (congrArg (State.portStart · h) (State.setHpwr_of_not_on (by omega) (by omega))))
      (State.hpwrPut_hpwr h.isLt (by decide))
  · refine .of_eq (t := s.setPwr { s.pwr with pres := presWith s.pwr.pres h present }) rfl rfl ⟨?_, fun k hk => ?_, rfl⟩
    · exact (getLsbD_presWith ..).trans (if_pos rfl)
    · exact (getLsbD_presWith ..).trans (if_neg hk)
  · refine ⟨_, if_neg (by simp [hr]), fun n => ?_, rfl⟩
    exact (State.bit_wr_same ..).trans (getLsbD_enableBits _ n)

end Sys2Proof.Machine
end

section
/-! PROOF. The Vault's loads, activations and self-tests (R98, R100, R108, R111 to R113). -/

namespace Sys2Proof.Machine

open Sys2Proof

variable {s t : State}

/-! ### Registers of the Vault -/

theorem State.setDigest_rd (a : Nat → Nat) (d : List Byte) {r : Nat} (h : ∀ k, a k ≠ r) : (s.setDigest a d).rd r = s.rd r :=
  State.forEach_keeps (State.rd · r) (fun t k => State.rd_wr_other t _ (h k)) _ _

theorem State.setEscrow_rd (p : Option Plane) {r : Nat} (hd : ∀ k, rDevVltEscDigest k ≠ r) (hs : rDevCfgStat ≠ r) :
    (s.setEscrow p).rd r = s.rd r :=
  (State.rd_setBit_other _ _ hs).trans (State.setDigest_rd _ _ hd)

theorem rDevVltEscDigest_ne_of_lt {k r : Nat} (h : r < 0x10040) : rDevVltEscDigest k ≠ r := by unfold rDevVltEscDigest; omega

@[simp] theorem State.setEscrow_vltStat (p : Option Plane) : (s.setEscrow p).rd rDevVltStat = s.rd rDevVltStat :=
  State.setEscrow_rd p (fun _ => rDevVltEscDigest_ne_of_lt (by decide)) (by decide)

@[simp] theorem State.setEscrow_vltStat_fld (p : Option Plane) (lo w : Nat) :
    (s.setEscrow p).fld rDevVltStat lo w = s.fld rDevVltStat lo w := State.fld_of_rd (State.setEscrow_vltStat p)

@[simp] theorem State.setEscrow_escrow (p : Option Plane) : (s.setEscrow p).escrow = p :=
  State.blur_escrow (t := s.setEscrow p) (s := { s with escrow := p })
    ((State.setFld_blur _ _ _ _ _ 16 rfl).trans (State.setDigest_blur _ _ _ 16 rfl)) rfl

@[simp] theorem State.setEscrow_vlt (p : Option Plane) : (s.setEscrow p).vlt = s.vlt :=
  State.blur_vlt (State.setEscrow_blur s p 1040 rfl) rfl

theorem State.setEscrow_valid (p : Option Plane) : (s.setEscrow p).bit rDevCfgStat 2 = p.isSome :=
  State.bit_setBit_same _ _ _ _ (by decide)

theorem State.vltRest_rd {r : Nat} (h : rDevVltStat ≠ r) : s.vltRest.rd r = s.rd r := by
  unfold State.vltRest
  split
  · rfl
  · exact State.rd_setFld_other _ _ _ h

@[simp] theorem State.vltRest_vlt : s.vltRest.vlt = s.vlt := State.blur_vlt (State.vltRest_blur s 16 rfl) rfl

@[simp] theorem State.vltRest_escrow : s.vltRest.escrow = s.escrow := State.blur_escrow (State.vltRest_blur s 16 rfl) rfl

@[simp] theorem State.vltRest_res : s.vltRest.fld rDevVltStat 16 8 = s.fld rDevVltStat 16 8 := by
  unfold State.vltRest
  split
  · rfl
  · exact State.fld_setFld_apart _ _ _ _ _ (by decide)

theorem State.setVltState_vltState {n : Nat} (h : n < 16) : (s.setVltState n).vltState = n :=
  (State.fld_setFld_same _ _ _ _ _ (by decide)).trans (Nat.mod_eq_of_lt h)

theorem State.vltRest_vltState : s.vltRest.vltState =
    if s.vltState = 6 then 6 else if s.vlt.testing then 0 else if s.escrow.isSome then 3 else 1 := by
  unfold State.vltRest
  split
  · assumption
  · refine State.setVltState_vltState ?_
    split
    · decide
    · split <;> decide

theorem State.setRes_res {n : Nat} (h : n < 256) : (s.setRes n).fld rDevVltStat 16 8 = n :=
  (State.fld_setFld_same _ _ _ _ _ (by decide)).trans (Nat.mod_eq_of_lt h)

@[simp] theorem State.setRes_vltState (n : Nat) : (s.setRes n).vltState = s.vltState := State.fld_setFld_apart _ _ _ _ _ (by decide)

@[simp] theorem State.setVlt_vltState (v : Vault) : (s.setVlt v).vltState = s.vltState := rfl

@[simp] theorem State.raise_vltState (x u : Nat) : (s.raise x u).vltState = s.vltState := State.raise_fld ..

/-- The completion of a Firmware Commit that waits leaves the Vault's registers. -/
theorem State.endCommit_rd {st dw0 r : Nat} (hst : countedStatus st = false) (hr : r ≠ rHstTeller) :
    (s.endCommit st dw0).rd r = s.rd r := by
  unfold State.endCommit
  split
  · exact State.finish_keepsRegs hst r (by simpa using hr)
  · rfl

theorem State.endCommit_vlt (st dw0 : Nat) : (s.endCommit st dw0).vlt = { s.vlt with commitCid := none } := by
  unfold State.endCommit
  split
  · exact State.blur_vlt (State.finish_blur _ _ _ _ _ 33603600 rfl) rfl
  · next h => rw [← h]

/-! ### The swap -/

/-- Every part of State but the planes. -/
def allButPlanes : Nat := 2 ^ 32 - 1 - 2 ^ 9 - 2 ^ 10

theorem State.swapPlanes_plane (p q : Plane) : (s.swapPlanes p q).plane = some q := by
  unfold State.swapPlanes
  extract_lets gone here s1 s2 s3 s4 s5 s6 s7
  have h5 : s5.blur allButPlanes = s4.blur allButPlanes :=
    foldl_blur _ _ (fun t x => by split <;> simp [allButPlanes]) _ _
  have h6 : s6.blur allButPlanes = s5.blur allButPlanes := by
    unfold s6
    split <;> simp [allButPlanes]
  have h7 : s7.blur allButPlanes = s6.blur allButPlanes := by simp [s7, allButPlanes]
  exact State.blur_plane (s := s4) ((by simp [allButPlanes] : _ = s7.blur allButPlanes).trans (h7.trans (h6.trans h5))) rfl

theorem State.swap_planes {p q : Plane} (hp : s.plane = some p) (hq : s.escrow = some q) :
    s.swap.plane = some q ∧ s.swap.escrow = none := by
  unfold State.swap
  simp -zeta only [hp, hq]
  extract_lets s1 s2 marks held slot s3 s4 s5 s6 s7
  have hblur : (((s7.noticeNs marks).resumeTeller).endCommit stOk 0).follow.blur allButPlanes = s3.blur allButPlanes := by
    simp [s7, s6, s5, s4, allButPlanes]
  have hplane : s3.plane = some q :=
    (State.blur_plane (State.setEscrow_blur _ _ 1040 rfl) rfl).trans (State.swapPlanes_plane p q)
  exact ⟨(State.blur_plane hblur rfl).trans hplane, (State.blur_escrow hblur rfl).trans (State.setEscrow_escrow none)⟩

/-! ### Loads -/

theorem State.beginLoad_bits (k : Nat) : (s.beginLoad k).vltState = 2 ∧ (s.beginLoad k).bit rDevCfgStat 1 = true ∧
    (s.beginLoad k).bit rDevCfgStat 2 = false := by
  simp (disch := decide) [State.beginLoad, State.setLoading, State.setVltState, State.vltState, State.setEscrow_valid]

theorem State.beginLoad_vault (k : Nat) : (s.beginLoad k).escrow = none ∧ (s.beginLoad k).vlt = { s.vlt with load := k } := by
  simp [State.beginLoad, State.setLoading, State.setVltState]

theorem State.beginLoad_flash (k : Nat) : (s.beginLoad k).flash = s.flash :=
  State.blur_flash (State.beginLoad_blur s k 3088 rfl) rfl

theorem State.beginLoad_plane (k : Nat) : (s.beginLoad k).plane = s.plane :=
  State.blur_plane (State.beginLoad_blur s k 3088 rfl) rfl

theorem State.escrowReady_of_flashError (hl : s.vlt.load = 1) (hst : s.vltState = 2) : s.escrowReady false =
    ((((s.setVlt { s.vlt with load := 0 }).setLoading false).vltRest).loadFailed (errDev eFlash 0)).endCommit stFwImage
      (errDev eFlash 0).toNat := by
  unfold State.escrowReady
  rw [if_neg (by simp [hl, hst])]
  rfl

/-- A load that has passed its checks waits in the Escrow plane. -/
def State.loaded (u : State) (p : Plane) : State :=
  let s1 := (u.setVlt { u.vlt with load := 0 }).setLoading false
  ((((s1.setFr s1.inactive (frString p)).setEscrow (some p)).vltRest).setRes resOk).raise 0x006 1

/-- A load that has failed its checks. -/
def State.loadRefused (u : State) (e : Word) : State :=
  ((((u.setVlt { u.vlt with load := 0 }).setLoading false).vltRest).loadFailed e).endCommit stFwImage e.toNat

theorem State.escrowReady_of_loaded {p : Plane} (hl : s.vlt.load = 1) (hst : s.vltState = 2) (h : s.loadPlane = (t, .ok p)) :
    s.escrowReady true = t.loaded p := by
  simp [State.escrowReady, State.loaded, hl, hst, h]

theorem State.escrowReady_of_loadError {e : Word} (hl : s.vlt.load = 1) (hst : s.vltState = 2)
    (h : s.loadPlane = (t, .error e)) : s.escrowReady true = t.loadRefused e := by
  simp [State.escrowReady, State.loadRefused, hl, hst, h]

theorem State.setFr_rd (n : Nat) (b : List Byte) (r : Nat) : (s.setFr n b).rd r = s.rd r :=
  State.rd_of_regs (State.blur_regs (State.setFr_blur s n b 33554432 rfl) rfl) r

theorem State.setFr_vlt (n : Nat) (b : List Byte) : (s.setFr n b).vlt = s.vlt :=
  State.blur_vlt (State.setFr_blur s n b 33554432 rfl) rfl

theorem State.loaded_holds (u : State) (p : Plane) : (u.loaded p).escrow = some p ∧ (u.loaded p).fld rDevVltStat 16 8 = 0 ∧
    (u.loaded p).vlt = { u.vlt with load := 0 } ∧ (u.speaks 0x006 1 = true → (u.loaded p).hears 0x006 1 = true) := by
  unfold State.loaded
  refine ⟨?_, ?_, ?_, fun h => State.raise_hears_of h ?_ ?_ ?_⟩
  · simp [State.setRes]
  · simp [State.setRes_res, resOk]
  · simp [State.setRes, State.setFr_vlt, State.setLoading]
  · exact State.blur_variant (m := 33557520) (by simp [State.setRes, State.setLoading]) rfl
  · exact State.blur_plane (m := 33557520) (by simp [State.setRes, State.setLoading]) rfl
  · rw [State.setRes, State.rd_setFld_other _ _ _ (by decide), State.vltRest_rd (by decide),
      State.setEscrow_rd _ (fun _ => rDevVltEscDigest_ne_of_lt (by decide)) (by decide), State.setFr_rd, State.setLoading,
      State.rd_setBit_other _ _ (by decide), State.setVlt_rd]

theorem State.loadRefused_holds (u : State) (e : Word) : (u.loadRefused e).fld rDevVltStat 16 8 = 3 ∧
    (u.loadRefused e).escrow = u.escrow ∧ (u.loadRefused e).vlt.load = 0 := by
  unfold State.loadRefused
  refine ⟨?_, ?_, ?_⟩
  · exact (State.fld_of_rd (State.endCommit_rd rfl (by decide))).trans (State.setRes_res (by decide))
  · refine State.blur_escrow (m := 33605648) ?_ rfl
    simp
  · rw [State.endCommit_vlt, State.blur_vlt (State.loadFailed_blur _ e 49168 rfl) rfl, State.vltRest_vlt]
    rfl

/-! ### Activations -/

theorem State.activate_of_idle (hup : s.vltUp = true) (hbusy : s.vltBusy = false) (hesc : s.escrow.isNone = false) :
    s.activate = s.activateNow := by
  simp [State.activate, hup, hbusy, hesc]

theorem State.activateNow_of_error {q : Plane} {e : Word} (hq : s.escrow = some q) (h : s.checkActivate q = .error e) :
    s.activateNow = (s.loadFailed e).endCommit stFwImage e.toNat := by
  simp [State.activateNow, hq, h]

theorem State.activateNow_of_ok {q : Plane} (hq : s.escrow = some q) (h : s.checkActivate q = .ok ()) : s.activateNow =
    if s.capture then (s.setVlt { s.vlt with search := false, held := 0, recheck := false, tries := 0 }).setVltState 4
    else (s.setVlt { s.vlt with search := false, held := 0, recheck := false, tries := 0 }).swap := by
  simp only [State.activateNow, hq, h]
  rfl

/-- CANCEL of an armed activation. -/
def State.cancelled (s : State) : State := ((s.setRes resCancelled).disarm.setEscrow none).vltRest

theorem State.cancel_of_armed (hup : s.vltUp = true) (hst : s.vltState = 4) (hv : s.vlt.verify = 0) :
    s.cancel = s.cancelled.prohibitCommit := by
  simp [State.cancel, State.cancelled, hup, hst, hv]

/-! ### Self-tests, the error state -/

/-- A repeated self-test has passed. -/
def State.tested (s : State) : State := (((s.setVlt { s.vlt with testing := false }).setRes resOk).vltRest).raise 0x003 1

theorem State.resumeTeller_rd {r : Nat} (h : r ≠ rHstTeller) : s.resumeTeller.rd r = s.rd r := by
  unfold State.resumeTeller
  split
  · exact State.rd_setFld_other _ _ _ h.symm
  · rfl

/-- The state that an error of the Vault leaves: what is left of an activation first. -/
def State.vaultErrorFrom (s : State) : State := if s.vltState = 5 then s.resumeTeller else s

theorem State.vaultErrorFrom_blur : s.vaultErrorFrom.blur 16 = s.blur 16 := by
  unfold State.vaultErrorFrom
  split <;> simp

theorem State.vaultErrorFrom_kept (s : State) : s.vaultErrorFrom.escrow = s.escrow ∧ s.vaultErrorFrom.variant = s.variant ∧
    s.vaultErrorFrom.plane = s.plane := by
  unfold State.vaultErrorFrom State.resumeTeller
  split
  · split <;> exact ⟨rfl, rfl, rfl⟩
  · exact ⟨rfl, rfl, rfl⟩

theorem State.vaultErrorFrom_rd {r : Nat} (h : r ≠ rHstTeller) : s.vaultErrorFrom.rd r = s.rd r := by
  unfold State.vaultErrorFrom
  split
  · exact State.resumeTeller_rd h
  · rfl

theorem State.vaultErrorFrom_teller (hst : s.vltState = 5) (ht : s.fld rHstTeller 28 4 = 2) :
    s.vaultErrorFrom.fld rHstTeller 28 4 = 1 := by
  rw [State.vaultErrorFrom, if_pos hst, State.resumeTeller, if_pos ht]
  exact State.fld_setFld_same _ _ _ _ _ (by decide)

theorem State.vaultError_eq : s.vaultError = ((((s.vaultErrorFrom.setVlt
    { s.vlt with testing := false, load := 0, verify := 0, search := false, held := 0, recheck := false }).setBit rDevCfgStat 1
      false).setFld rDevVltStat 28 4 6).setFld rDevVltStat 1 1 0).raise 0x00A 1 := by
  rw [← State.blur_vlt State.vaultErrorFrom_blur rfl]
  rfl

theorem State.vaultError_holds (s : State) : s.vaultError.vltState = 6 ∧ s.vaultError.bit rDevCfgStat 1 = false ∧
    s.vaultError.fld rDevVltStat 1 1 = 0 ∧ s.vaultError.escrow = s.escrow ∧
    s.vaultError.vlt = { s.vlt with testing := false, load := 0, verify := 0, search := false, held := 0, recheck := false } ∧
    (s.vltState = 5 → s.fld rHstTeller 28 4 = 2 → s.vaultError.fld rHstTeller 28 4 = 1) ∧
    (s.speaks 0x00A 1 = true → s.vaultError.hears 0x00A 1 = true) := by
  obtain ⟨hesc, hvar, hplane⟩ := s.vaultErrorFrom_kept
  rw [State.vaultError_eq]
  refine ⟨?_, ?_, ?_, ?_, ?_, fun hst ht => ?_, fun h => State.raise_hears_of h ?_ ?_ ?_⟩
  · simp (disch := decide) [State.vltState]
  · simp (disch := decide)
  · simp
  · rw [State.raise_escrow]
    exact hesc
  · simp
  · simpa (disch := decide) using State.vaultErrorFrom_teller hst ht
  · exact hvar
  · exact hplane
  · simp (disch := decide) only [State.rd_setFld_other, State.rd_setBit_other, State.setVlt_rd]
    exact State.vaultErrorFrom_rd (by decide)

/-- Settles O25. -/
theorem vaultCommands : Obligations.VaultCommands := by
  refine ⟨fun s => .of_eq rfl rfl rfl, fun s arg hup hb => ?_, fun s arg hup hb harg => ?_, fun s arg hup hb harg hact hbusy => ?_,
    fun s arg hup hb harg hact hbusy => ?_, fun s hl hst => ?_, fun s hl hst => ?_, fun s hup hbusy => ?_, fun s e => ?_,
    fun s hup hbusy hesc => ?_, fun s q hup hbusy hesc hcap => ?_, fun s q hup hbusy hesc hcap => ?_, fun s hup hv => ?_,
    fun s hup hst hv => ?_, fun s hup hbusy => ?_, fun s hup hbusy => ?_, fun s ht => ?_, fun s hp hst => ?_,
    fun s hst hre hesc => ?_, fun s hst hheld => ?_, fun s p q hp hq => State.swap_planes hp hq⟩
  · exact .of_eq rfl (if_pos (by simp [hb])) rfl
  · exact .of_eq rfl ((if_neg (by simp [hup, hb])).trans (if_pos harg)) rfl
  · exact .of_eq rfl ((if_neg (by simp [hup, hb])).trans ((if_neg (by omega)).trans (if_pos hbusy))) rfl
  · refine .of_eq rfl ((if_neg (by simp [hup, hb])).trans ((if_neg (by omega)).trans (if_neg (by simp [hbusy])))) ?_
    obtain ⟨hst, hload, hvalid⟩ := s.beginLoad_bits 1
    obtain ⟨hesc, hvlt⟩ := s.beginLoad_vault 1
    exact ⟨hesc, hst, hload, hvalid, hvlt, State.beginLoad_flash 1, State.beginLoad_plane 1⟩
  · exact .of_eq (t := (s.setVlt { s.vlt with load := 0 }).setLoading false) rfl (State.escrowReady_of_flashError hl hst)
      ⟨rfl, State.bit_setBit_same _ _ _ _ (by decide), rfl, rfl⟩
  · rcases h : s.loadPlane with ⟨u, e | p⟩
    · exact .of_eq rfl (State.escrowReady_of_loadError hl hst h) (State.loadRefused_holds u e)
    · exact .of_eq rfl (State.escrowReady_of_loaded hl hst h) (State.loaded_holds u p)
  · exact .of_eq rfl ((if_neg (by simp [hup])).trans (if_pos hbusy)) rfl
  · exact ⟨(State.raise_rd ..).trans (State.rd_wr_same ..), State.raise_escrow .., fun h => State.raise_hears_of h rfl rfl
      (State.rd_wr_other _ _ (by decide))⟩
  · exact .of_eq rfl ((if_neg (by simp [hup])).trans ((if_neg (by simp [hbusy])).trans (if_pos (by simp [hesc])))) rfl
  · have hact : s.activate = s.activateNow := State.activate_of_idle hup hbusy (by simp [hesc])
    rcases h : s.checkActivate q with e | _
    · exact .of_eq rfl (hact.trans (State.activateNow_of_error hesc h)) rfl
    · exact .of_eq rfl (hact.trans ((State.activateNow_of_ok hesc h).trans (if_pos hcap)))
        ⟨State.setVltState_vltState (by decide), hesc, rfl, rfl⟩
  · have hact : s.activate = s.activateNow := State.activate_of_idle hup hbusy (by simp [hesc])
    rcases h : s.checkActivate q with e | _
    · exact .of_eq rfl (hact.trans (State.activateNow_of_error hesc h)) rfl
    · exact .of_eq rfl (hact.trans ((State.activateNow_of_ok hesc h).trans (if_neg (by simp [hcap])))) rfl
  · exact .of_eq rfl ((if_neg (by simp [hup])).trans (if_pos hv)) rfl
  · refine .of_eq (t := s.cancelled) rfl (State.cancel_of_armed hup hst hv) ⟨?_, ?_, ?_, ?_⟩
    · simp [State.cancelled]
    · simp [State.cancelled, State.disarm, State.setRes_res, resCancelled]
    · simp [State.cancelled, State.disarm, State.setRes]
    · have h4 : ((s.setRes resCancelled).disarm.setEscrow none).vltState = 4 :=
        (State.setEscrow_vltStat_fld _ _ _).trans ((State.setRes_vltState _).trans hst)
      rw [State.cancelled, State.vltRest_vltState, h4, if_neg (by decide)]
      simp [State.disarm, State.setRes]
  · exact .of_eq rfl ((if_neg (by simp [hup])).trans (if_pos hbusy)) rfl
  · exact .of_eq rfl ((if_neg (by simp [hup])).trans (if_neg (by simp [hbusy])))
      ⟨State.setVltState_vltState (by decide), rfl, rfl⟩
  · refine .of_eq (t := s.tested) rfl (if_neg (by simp [ht])) ⟨?_, ?_, ?_, fun h => State.raise_hears_of h ?_ ?_ ?_⟩
    · simp [State.tested, State.setRes]
    · rw [State.tested, State.raise_vltState, State.vltRest_vltState, State.setRes_vltState, State.setVlt_vltState]
      simp only [State.setRes, State.setFld_vlt, State.setVlt_vlt, State.setFld_escrow, State.setVlt_escrow]
      rfl
    · simp [State.tested, State.setRes_res, resOk]
    · exact State.blur_variant (m := 2064) (by simp [State.setRes]) rfl
    · exact State.blur_plane (m := 2064) (by simp [State.setRes]) rfl
    · rw [State.vltRest_rd (by decide), State.setRes, State.rd_setFld_other _ _ _ (by decide), State.setVlt_rd]
  · exact .of_eq rfl (if_pos (by simp [hp, hst])) s.vaultError_holds
  · refine .of_eq rfl ((if_pos hst).trans ?_) rfl
    obtain ⟨q, hq⟩ := Option.isSome_iff_exists.mp hesc
    simp [State.swapPoint, hq, hre]
  · exact .of_eq rfl (if_pos ⟨hst, hheld⟩) rfl

end Sys2Proof.Machine
end

section
/-! PROOF. The officer services and signing (R96, R102, R116, R118, R119). -/

namespace Sys2Proof.Machine

open Sys2Proof

variable {s t : State}

theorem State.officer_of_up {op arg : Nat} {f : State → State} (h : s.vltUp = true) :
    s.officer op arg f = (if s.authOk op arg then f s else s.setRes resAuth).renewNonce := if_neg (by simp [h])

theorem State.renewNonce_fld (r lo w : Nat) : s.renewNonce.fld r lo w = s.fld r lo w := rfl

/-! ### ZEROIZE -/

theorem State.markPending_vlt : s.markPending.vlt = { s.vlt with sigq := [] } := by
  have hloop : (s.forEach s.vlt.sigq fun t r =>
      (t.memWrite (r.addr + 10) (leBytes 2 (leNat (t.peek (r.addr + 10) 2) ||| 2))).1).vlt = s.vlt :=
    State.forEach_keeps State.vlt (fun t r => State.blur_vlt (State.memWrite_blur t _ _ 16826384 rfl) rfl) _ _
  rw [← hloop]
  rfl

theorem State.disarmed_vlt {c : Prop} [Decidable c] : (if c then s.disarm.resumeTeller else s).vlt.nonce = s.vlt.nonce ∧
    (if c then s.disarm.resumeTeller else s).vlt.drbg = s.vlt.drbg := by
  have hrest : s.disarm.resumeTeller.vlt = s.disarm.vlt := State.blur_vlt (State.resumeTeller_blur _ 16 rfl) rfl
  split
  · rw [hrest]
    exact ⟨rfl, rfl⟩
  · exact ⟨rfl, rfl⟩

theorem State.zeroize_holds (h : s.otp.zeroized = false) : s.zeroize.otp = { s.otp with zeroized := true } ∧
    s.zeroize.escrow = none ∧ s.zeroize.vlt.nonce = s.vlt.nonce ∧ s.zeroize.vlt.drbg = s.vlt.drbg + 1 ∧
    s.zeroize.vlt.load = 0 := by
  unfold State.zeroize
  rw [if_neg (by simp [h])]
  extract_lets o s1 s2 v s3 s4 s5
  have h2 : s2.otp = s1.otp := State.blur_otp (m := 2064) (s := s1) (by unfold s2; split <;> simp) rfl
  obtain ⟨hn, hd⟩ := s1.disarmed_vlt (c := s1.vltState = 4 ∨ s1.vltState = 5)
  have h4 : s4.blur 16 = s3.blur 16 := by
    unfold s4 State.setLoading
    split <;> simp
  have h5 : s5.blur 16 = s3.blur 16 := by
    refine Eq.trans ?_ h4
    unfold s5
    split <;> simp
  have hvlt : ((s5.setRes resOk).markPending.prohibitCommit).vlt = { s5.vlt with commitCid := none, sigq := [] } := by
    rw [State.prohibitCommit, State.endCommit_vlt, State.markPending_vlt]
    rfl
  have hotp : ((s5.setRes resOk).markPending.prohibitCommit).blur 50382864 = s5.blur 50382864 := by
    simp [State.setRes]
  rw [hvlt, State.blur_vlt h5 rfl]
  refine ⟨?_, ?_, hn, congrArg (· + 1) hd, rfl⟩
  · rw [State.blur_otp hotp rfl, State.blur_otp h5 rfl]
    exact (State.blur_otp (State.setEscrow_blur _ _ 1040 rfl) rfl).trans h2
  · rw [State.blur_escrow hotp rfl, State.blur_escrow h5 rfl]
    exact State.setEscrow_escrow none

/-! ### FLOOR_ADVANCE -/

/-- What the running image would raise the floor to. -/
def State.newFloor (s : State) : Nat := min 255 (match s.plane with | some p => p.secVersion | none => 0)

theorem State.floorAdvance_eq : s.floorAdvance = if s.newFloor ≤ s.otp.floor then s.setRes resFloor
    else ({ s with otp := { s.otp with floor := s.newFloor } } : State).setRes resOk := rfl

theorem State.floorAdvance_holds (s : State) : s.floorAdvance.vlt = s.vlt ∧
    if s.otp.floor < s.newFloor then
      s.floorAdvance.otp = { s.otp with floor := s.newFloor } ∧ s.floorAdvance.fld rDevVltStat 16 8 = 0
    else s.floorAdvance.otp = s.otp ∧ s.floorAdvance.fld rDevVltStat 16 8 = 8 := by
  rw [State.floorAdvance_eq]
  by_cases h : s.newFloor ≤ s.otp.floor
  · rw [if_pos h, if_neg (by omega)]
    exact ⟨rfl, rfl, State.setRes_res (by decide)⟩
  · rw [if_neg h, if_pos (by omega)]
    exact ⟨rfl, rfl, State.setRes_res (by decide)⟩

/-! ### Signing -/

/-- The Vault verifies a signature under AK before it releases it. -/
theorem State.signNext_of_ready {r : SigReq} {l : List SigReq} (hq : s.vlt.sigq = r :: l) (ht : s.vlt.testing = false)
    (h6 : s.vltState ≠ 6) (h0 : s.vltState ≠ 0) (hz : s.otp.zeroized = false) :
    s.signNext = if pairwise r.digest (akSign r.digest s.vlt.drbg) then
      ((s.signRecord r s.vlt.drbg).setVlt { (s.signRecord r s.vlt.drbg).vlt with
        sigq := l, drbg := (s.signRecord r s.vlt.drbg).vlt.drbg + 1 }).syncSigq
    else s.vaultError := by
  by_cases hsig : pairwise r.digest (akSign r.digest s.vlt.drbg) = true <;> simp [State.signNext, hq, ht, h6, h0, hz, hsig]

/-- Settles O26. -/
theorem officerServicesAndSigning : Obligations.OfficerServicesAndSigning := by
  refine ⟨fun s arg hup => ?_, fun s arg hup harg => ?_, fun s arg hup harg => ?_, fun s arg hup hz => ?_,
    fun s arg hup hz => ?_, fun s r l hq ht h6 h0 hz => ?_, fun s hq => ?_⟩
  · refine .of_eq rfl (State.officer_of_up hup) ?_
    split
    · obtain ⟨hvlt, hotp⟩ := s.floorAdvance_holds
      exact ⟨by rw [State.renewNonce, hvlt]; rfl, hotp⟩
    · exact ⟨rfl, rfl, State.setRes_res (by decide)⟩
  · refine .of_eq rfl (State.officer_of_up hup) ?_
    by_cases hauth : s.authOk 0x11 arg.toNat = true
    · simp only [hauth, if_true, State.revoke, if_neg (show ¬ 3 < arg.toNat by omega)]
      exact ⟨rfl, rfl, State.setRes_res (by decide)⟩
    · simp only [hauth]
      exact ⟨rfl, rfl, State.setRes_res (by decide)⟩
  · refine .of_eq rfl (State.officer_of_up hup) ?_
    have hres : (if s.authOk 0x11 arg.toNat then s.revoke arg.toNat else s.setRes resAuth) = s.setRes resAuth := by
      rw [State.revoke, if_pos (show 3 < arg.toNat from harg), ite_self]
    rw [hres]
    exact ⟨rfl, State.setRes_res (by decide)⟩
  · refine .of_eq rfl (State.officer_of_up hup) ?_
    obtain ⟨hotp, hesc, hnonce, hdrbg, hload⟩ := State.zeroize_holds hz
    split
    · exact ⟨rfl, congrArg (· + 1) hnonce, hotp, hesc, hdrbg, hload⟩
    · exact ⟨rfl, rfl, rfl, State.setRes_res (by decide)⟩
  · refine .of_eq rfl (State.officer_of_up hup) ?_
    rw [State.zeroize, if_pos hz]
    split
    · exact ⟨rfl, State.setRes_res (by decide)⟩
    · exact ⟨rfl, State.setRes_res (by decide)⟩
  · refine .of_eq rfl rfl ?_
    have hvlt : (s.signRecord r s.vlt.drbg).vlt = s.vlt := State.blur_vlt (State.signRecord_blur s r _ 16826384 rfl) rfl
    rw [State.signNext_of_ready hq ht h6 h0 hz]
    by_cases hsig : pairwise r.digest (akSign r.digest s.vlt.drbg) = true
    · rw [if_pos hsig, if_pos hsig]
      exact ⟨s.signRecord r s.vlt.drbg, by rw [hvlt], rfl⟩
    · rw [if_neg hsig, if_neg hsig]
  · refine .of_eq rfl ?_ rfl
    rw [State.signNext, hq]

end Sys2Proof.Machine
end

section
/-! PROOF. The rows of the start sequence (R98, R105, R123, R425). -/

namespace Sys2Proof.Machine

open Sys2Proof

variable {s t : State}

/-! ### What the outputs of the heads change of the supervisor -/

/-- The supervisor but for the turns and the trip windows of the outputs. -/
def Pwr.sameRun (p q : Pwr) : Prop := q = { p with startQ := q.startQ, oc := q.oc, uv := q.uv }

theorem Pwr.sameRun.refl (p : Pwr) : p.sameRun p := rfl

theorem Pwr.sameRun.trans {p q r : Pwr} (h : p.sameRun q) (h' : q.sameRun r) : p.sameRun r := by
  unfold Pwr.sameRun at *
  rw [h', h]

theorem State.setHpwr_sameRun (n st : Nat) : s.pwr.sameRun (s.setHpwr n st).pwr := by
  by_cases hst : s.hpwr n = st
  · rw [State.setHpwr, if_pos hst]
    rfl
  · by_cases hon : s.hpwr n = 2
    · rw [State.setHpwr_of_on hon (by omega), State.blur_pwr (State.portStop_blur _ _ 51300368 rfl) rfl, State.hpwrPut_pwr]
      rfl
    · rw [State.setHpwr_of_not_on hon hst, State.hpwrPut_pwr]
      rfl

theorem State.syncV12_sameRun (n : Nat) : s.pwr.sameRun (s.syncV12 n).pwr := by
  have hset : ∀ st, s.pwr.sameRun (s.setHpwr n st).pwr := fun st => State.setHpwr_sameRun n st
  have hq : s.pwr.sameRun { (s.setHpwr n 0).pwr with startQ := (s.setHpwr n 0).pwr.startQ ++ [n] } := (hset 0).trans rfl
  unfold State.syncV12
  dsimp only
  repeat' split
  all_goals first | exact hset _ | exact hq | exact Pwr.sameRun.refl _

theorem State.syncV12All_sameRun : s.pwr.sameRun s.syncV12All.pwr :=
  List.foldlRecOn (motive := fun t : State => s.pwr.sameRun t.pwr) _ _ rfl fun _ ht n _ => ht.trans (State.syncV12_sameRun n)

/-! ### Slot check -/

/-- The checks of slot `k` (R105). -/
def State.slotPlane (s : State) (k : Nat) : Except Word Plane := do
  let p ← s.checkImage (s.slotBytes k)
  s.checkPlane p
  pure p

theorem need_true_bind {α : Type} (e : Word) (f : Unit → Except Word α) : (need true e >>= f) = f () := rfl

/-- A slot has failed its checks. -/
def State.slotRefused (s : State) (readOk : Bool) (e : Word) : State :=
  let s1 := if readOk then s else (s.wr rDevCfgErr e).raise 0x002 0
  let s2 := (s1.loadError e).setPwr { s1.pwr with tried := s.pwr.tried + 1 }
  if s2.pwr.tried = 2 then (s2.setLoading false).vltRest else s2

/-- A slot has passed its checks. -/
def State.slotPassed (s : State) (k : Nat) : State :=
  let s1 := (s.setFld rDevVltStat 0 1 k).setFld rDevVltStat 2 1 s.pwr.tried
  s1.setPwr { s1.pwr with slotOk := true }

section
variable (hph : s.pwr.phase = .checking) (hl : s.pwr.loss = 0) (hload : s.bit rDevCfgStat 1 = true) (hok : s.pwr.slotOk = false)
include hph hl hload hok

theorem State.slotCheck_guard : ¬ (s.pwr.phase != .checking || s.pwr.loss != 0 || !s.loading || s.pwr.slotOk) = true := by
  simp [hph, hl, hok, State.loading, hload]

theorem State.slotCheck_of_unread : s.slotCheck false = s.slotRefused false (errDev eFlash 0) :=
  if_neg (State.slotCheck_guard hph hl hload hok)

theorem State.slotCheck_of_passed {k : Nat} {p : Plane} (hk : k = if s.pwr.tried = 0 then s.activeSlot else s.inactive)
    (h : s.slotPlane k = .ok p) : s.slotCheck true = (s.slotPassed k).applyHst p := by
  subst hk
  refine (if_neg (State.slotCheck_guard hph hl hload hok)).trans ?_
  unfold State.slotPlane at h
  simp only [need_true_bind, h]
  rfl

theorem State.slotCheck_of_failed {k : Nat} {e : Word} (hk : k = if s.pwr.tried = 0 then s.activeSlot else s.inactive)
    (h : s.slotPlane k = .error e) : s.slotCheck true = s.slotRefused true e := by
  subst hk
  refine (if_neg (State.slotCheck_guard hph hl hload hok)).trans ?_
  unfold State.slotPlane at h
  simp only [need_true_bind, h]
  rfl

end

theorem State.slotRefused_holds (readOk : Bool) (e : Word) :
    (s.slotRefused readOk e).pwr = { s.pwr with tried := s.pwr.tried + 1 } ∧ (s.slotRefused readOk e).rd rDevCfgErr = e := by
  have h1 : (if readOk then s else (s.wr rDevCfgErr e).raise 0x002 0).pwr = s.pwr := by cases readOk <;> simp
  have herr : ∀ u : State, (u.loadError e).rd rDevCfgErr = e := fun u => (State.raise_rd ..).trans (State.rd_wr_same ..)
  unfold State.slotRefused
  generalize (if readOk then s else (s.wr rDevCfgErr e).raise 0x002 0) = u at h1 ⊢
  dsimp only
  rw [h1]
  split
  · refine ⟨State.blur_pwr (State.vltRest_blur _ 16 rfl) rfl, ?_⟩
    rw [State.vltRest_rd (by decide), State.setLoading, State.rd_setBit_other _ _ (by decide), State.setPwr_rd, herr]
  · exact ⟨rfl, herr _⟩

/-! ### Training -/

theorem State.scFail_mem (n step : Nat) : (s.scFail n step).mem = s.mem := State.raise_mem ..

/-- The sub-channels of a training at its end. -/
def State.scEnd (failed : BitVec 16) (failStep : Nat) (t : State) (n : Nat) : State :=
  if failed.getLsbD n then t.scFail n failStep
  else if t.fld (rMemScStat n) 28 4 = 4 then t
  else (t.setFld (rMemScStat n) 28 4 2).setFld (rMemScStat n) 24 4 6

theorem State.scEnd_mem (failed : BitVec 16) (failStep n : Nat) : (State.scEnd failed failStep s n).mem = s.mem := by
  unfold State.scEnd
  split
  · exact State.scFail_mem n failStep
  · split <;> rfl

theorem State.trainingDone_of_start {failed : BitVec 16} {step : Nat} (hm : s.memState = 1) (hps : s.fld rHstPwr 0 3 ≠ 4) :
    s.trainingDone failed step = ((((s.forEach (s.scs.filter s.scUp) (State.scEnd failed step)).setFld rMemStat 28 4 2).fenceUnits 1
      (((s.scs.filter s.scUp).filter (fun n => failed.getLsbD n && decide (2 ≤ n))).map scUnit)).memReady) := by
  unfold State.trainingDone
  rw [if_neg (by omega), if_neg (by omega)]
  exact if_neg hps

/-! ### Frames -/

/-- One pending record is signed at a start. -/
def State.signOne (t : State) (r : Nat × Nat × Nat) : State :=
  let t1 := t.signRecord ⟨r.1, r.2.1, r.2.2, sha384 (t.peek r.2.2 0xC0)⟩ t.vlt.drbg
  { t1 with vlt := { t1.vlt with drbg := t1.vlt.drbg + 1 } }

theorem State.signOne_pwr (t : State) (r : Nat × Nat × Nat) : (t.signOne r).pwr = t.pwr := by
  unfold State.signOne
  dsimp only
  exact State.blur_pwr (State.signRecord_blur _ _ _ 16826384 rfl) rfl

theorem State.signPending_eq : s.signPending = if s.otp.zeroized then s else
    (s.forEach s.pendingRecs State.signOne).setPwr
      { (s.forEach s.pendingRecs State.signOne).pwr with sigDone := !s.pendingRecs.isEmpty } := rfl

theorem State.signPending_pwr (s : State) : ∃ b, s.signPending.pwr = { s.pwr with sigDone := b } := by
  rw [State.signPending_eq, State.forEach_keeps State.pwr State.signOne_pwr]
  split
  · exact ⟨s.pwr.sigDone, rfl⟩
  · exact ⟨_, rfl⟩

section
variable (hph : s.pwr.phase = .checking) (hl : s.pwr.loss = 0) (hok : s.pwr.slotOk = true) (hm : s.memState = 2)
include hph hl hok hm

theorem State.framesDone_holds {p : Plane} (h : s.checkImage (s.slotBytes (s.fld rDevVltStat 0 1)) = .ok p) :
    s.framesDone.plane = some p ∧
    (∃ b, s.framesDone.pwr = { s.pwr with phase := .applied, sigDone := b }) ∧ s.framesDone.flash = s.flash := by
  unfold State.framesDone
  extract_lets k us q
  have hk : s.checkImage (s.slotBytes k) = .ok p := h
  rw [hk]
  dsimp -zeta only
  rw [if_neg (by simp [hph, hl, hok, hm])]
  extract_lets s1 s2 s3 s4 s5
  have h2 : s2.blur 49200 = s1.blur 49200 := by simp [s2]
  have h3 : (s2.settleImage us).recoverLedger.pwr = s.pwr :=
    (State.blur_pwr (m := 51693648) (t := (s2.settleImage us).recoverLedger) (s := s2) (by simp) rfl).trans (State.blur_pwr (s := s1) h2 rfl)
  obtain ⟨b, hsig⟩ := (s2.settleImage us).recoverLedger.signPending_pwr
  have h4 : s4.pwr = { s.pwr with sigDone := b } := by
    rw [← h3, ← hsig]
    refine State.blur_pwr (m := 33605648) ?_ rfl
    unfold s4 s3 State.setLoading
    split <;> simp
  have hplane : s5.blur 51697776 = s1.blur 51697776 := by
    have h5 : s5.blur 51697776 = s3.blur 51697776 := by
      unfold s5 s4 State.setLoading
      split <;> simp
    refine h5.trans ((by simp [s3] : s3.blur 51697776 = s2.blur 51697776).trans ?_)
    exact State.blur_mono h2 rfl
  refine ⟨State.blur_plane hplane rfl, ⟨b, ?_⟩, State.blur_flash (s := s1) hplane rfl⟩
  change { s4.pwr with phase := .applied } = _
  rw [h4]

end

/-! ### Release -/

theorem State.enterSafe_phase (x u : Nat) : (s.enterSafe x u).pwr.phase = s.pwr.phase := by
  unfold State.enterSafe
  split
  · rfl
  · extract_lets s1 m q s2
    have h2 : s2.pwr.phase = s.pwr.phase := by
      unfold s2
      split <;> rfl
    exact (congrArg Pwr.phase (State.blur_pwr (State.cutPulses_blur _ 524304 rfl) rfl)).trans h2

theorem State.goLive_holds : s.goLive.pwr.phase = .released ∧ s.goLive.plane = s.plane := by
  unfold State.goLive
  extract_lets p s1 hot a s2 s3
  have h1 : s1.pwr.phase = .released := congrArg Pwr.phase (State.blur_pwr (State.thermalRelease_blur _ 647184 rfl) rfl)
  have h2 : s2.pwr.phase = s1.pwr.phase := by
    unfold s2
    split
    · exact State.enterSafe_phase 0x11A 4
    · rfl
  have h3 : s3.pwr.phase = s2.pwr.phase := by
    have hv : s2.pwr.sameRun s2.syncV12All.pwr := State.syncV12All_sameRun
    have hs : s3.blur 581648 = s2.syncV12All.blur 581648 := by simp [s3]
    rw [State.blur_pwr hs rfl, hv]
  have hend : ((s3.syncRdy).raise 0x000 0).follow.pwr = s3.pwr := State.blur_pwr (m := 58509392) (by simp) rfl
  refine ⟨?_, ?_⟩
  · rw [hend, h3, h2, h1]
  · have hs2 : s2.blur allButPlanes = s1.blur allButPlanes := by
      unfold s2
      split <;> simp [allButPlanes]
    have hs : ((s3.syncRdy).raise 0x000 0).follow.blur allButPlanes = s2.blur allButPlanes := by simp [s3, allButPlanes]
    exact (State.blur_plane (hs.trans hs2) rfl).trans ((State.blur_plane (State.thermalRelease_blur _ 647184 rfl) rfl).trans rfl)

/-- Settles O21. -/
theorem startSequence : Obligations.StartSequence := by
  refine ⟨fun s hph hl hte => ?_, fun s hph hl hte => ?_, fun s hph hl => ?_, fun s hph hl hload hok => ?_,
    fun s k hph hl hload hok hk => ?_, fun s failed step hm hps => ?_, fun s hph hl hok hm => ?_, fun s hph hl hsafe hmss => ?_⟩
  · refine .of_eq (t := (((s.setPwr { s.pwr with phase := .checking }).setFld rDevVltStat 1 1 1).setVltState 2).setLoading true) rfl
      ?_ ⟨rfl, ?_, State.bit_setBit_same _ _ _ _ (by decide)⟩
    · simp [State.selftestDone, hph, hl, hte]
    · exact (State.fld_setBit_ne _ _ _ _ (by decide)).trans (State.setVltState_vltState (by decide))
  · refine .of_eq (t := ((s.setPwr { s.pwr with phase := .bscan }).setFld rDevVltStat 1 1 1).setVltState 1) rfl
      ?_ ⟨rfl, State.setVltState_vltState (by decide)⟩
    simp [State.selftestDone, hph, hl, hte]
  · refine .of_eq (t := s.setPwr { s.pwr with phase := if s.pwr.testEn then .bscan else .checking }) rfl ?_ rfl
    simp [State.selftestDone, hph, hl]
  · exact .of_eq rfl (State.slotCheck_of_unread hph hl hload hok) (State.slotRefused_holds false (errDev eFlash 0))
  · rcases h : s.slotPlane k with e | p
    all_goals
      have hdo := h
      unfold State.slotPlane at hdo
      rw [hdo]
    · exact .of_eq rfl (State.slotCheck_of_failed hph hl hload hok hk h) (State.slotRefused_holds true e)
    · refine .of_eq rfl (State.slotCheck_of_passed hph hl hload hok hk h) ⟨_, rfl, rfl, ?_, ?_⟩
      · simp (disch := decide) [State.slotPassed]
      · simp [State.slotPassed]
  · refine .of_eq rfl (State.trainingDone_of_start hm hps) ⟨?_, ?_⟩
    · exact State.fld_setFld_same _ _ _ _ _ (by decide)
    · exact State.forEach_keeps State.mem (fun t n => State.scEnd_mem _ _ _) _ _
  · rcases h : s.checkImage (s.slotBytes (s.fld rDevVltStat 0 1)) with e | p
    · refine .of_eq rfl ?_ rfl
      rw [State.framesDone, h]
    · obtain ⟨hplane, ⟨b, hpwr⟩, hflash⟩ := State.framesDone_holds hph hl hok hm h
      exact .of_eq rfl rfl ⟨hplane, by rw [hpwr], hflash⟩
  · exact .of_eq rfl ((if_neg (by simp [hph, hl, hsafe])).trans (if_pos hmss)) s.goLive_holds

end Sys2Proof.Machine
end

section
/-! PROOF. Resets and the loss-of-mains sequence (R121, R122, R128, R130, R132). -/

namespace Sys2Proof.Machine

open Sys2Proof

variable {s t : State}

/-! ### MODULE and BROWNOUT resets -/

theorem State.drained_blur {c : Prop} [Decidable c] : (if c then s.drainQueues else s).blur 16826448 = s.blur 16826448 := by
  split
  · exact State.drainQueues_blur s 16826448 rfl
  · rfl

theorem State.warmReset_holds (k : Nat) (q : Bool) : (s.warmReset k q).pwr.phase = .good ∧ (s.warmReset k q).pwr.kind = k ∧
    (s.warmReset k q).pwr.loss = 0 ∧ (s.warmReset k q).plane = none ∧ (s.warmReset k q).flash = s.flash ∧
    (s.warmReset k q).otp = s.otp ∧ (s.warmReset k q).variant = s.variant := by
  unfold State.warmReset
  extract_lets s1 keep s2 p
  have h1 : s1.blur 16826448 = s.blur 16826448 := State.drained_blur
  have hgood : ∀ u : State, u.goodRow.blur 4112 = u.blur 4112 := fun u => State.goodRow_blur u 4112 rfl
  refine ⟨by rw [State.goodRow_pwr], by rw [State.goodRow_pwr]; rfl, by rw [State.goodRow_pwr]; rfl,
    (State.blur_plane (hgood _) rfl).trans rfl, (State.blur_flash (hgood _) rfl).trans ?_,
    (State.blur_otp (hgood _) rfl).trans ?_, (State.blur_variant (hgood _) rfl).trans ?_⟩
  · exact (rfl : _ = s1.flash).trans (State.blur_flash h1 rfl)
  · exact (rfl : _ = s1.otp).trans (State.blur_otp h1 rfl)
  · exact (rfl : _ = s1.variant).trans (State.blur_variant h1 rfl)

theorem State.moduleRst_of_up (k : Nat) (hl : s.pwr.loss = 0) (hb : s.bit rSvcPwrStat 1 = false) (hph : s.pwr.phase ≠ .bscan)
    (hf : s.powerFailed = false) : s.moduleRst k = s.warmReset k false := by
  simp [State.moduleRst, hl, hb, hph, hf]

/-! ### Loss of mains -/

/-- The outputs of the heads off, before their pulls. -/
def State.headOff (t : State) (n : Nat) : State :=
  let t1 := if t.tripped n then t else t.setHpwr n 0
  t1.setSchHead n { t1.schHead n with pulse := none }

theorem State.headOff_sameRun (n : Nat) : s.pwr.sameRun (s.headOff n).pwr := by
  change s.pwr.sameRun (if s.tripped n then s else s.setHpwr n 0).pwr
  split
  · rfl
  · exact State.setHpwr_sameRun n 0

theorem State.headsOff_eq : s.headsOff = ((s.forEach (List.range 4) State.headOff).setPwr
    { (s.forEach (List.range 4) State.headOff).pwr with startQ := [] }).fenceSo := rfl

theorem State.headsOff_pwr : s.headsOff.pwr.startQ = [] ∧ s.headsOff.pwr.loss = s.pwr.loss := by
  have hrun : s.pwr.sameRun (s.forEach (List.range 4) State.headOff).pwr :=
    List.foldlRecOn (motive := fun t : State => s.pwr.sameRun t.pwr) _ _ rfl fun _ ht n _ => ht.trans (State.headOff_sameRun n)
  rw [State.headsOff_eq, State.blur_pwr (State.fenceSo_blur _ 524304 rfl) rfl, State.setPwr_pwr]
  exact ⟨rfl, by rw [hrun]⟩

/-- The segments and frames of a released module close. -/
def State.mainsClosed (s : State) : State :=
  let s2 := (s.setPwr { s.pwr with loss := 2 }).closeAll (flag 18)
  s2.forEach s2.captureStrs fun t i => (t.setSchStr i { t.schStr i with reopen := false }).beginClose i 0x20

theorem State.lossClose_of_released (hl : s.pwr.loss = 1) (hr : s.released = true) :
    s.lossClose = s.mainsClosed.headsOff.follow := by
  have hr2 : (s.setPwr { s.pwr with loss := 2 }).released = true := hr
  unfold State.lossClose
  rw [if_neg (not_not.mpr hl)]
  exact if_neg (by simp [hr2])

theorem State.mainsClosed_blur : s.mainsClosed.blur 51169296 = (s.setPwr { s.pwr with loss := 2 }).blur 51169296 := by
  simp [State.mainsClosed]

/-- What the row at 8 ms does before commands that have not begun end (R131). -/
def State.refreshing (s : State) : State :=
  let s1 := if s.released then s.markPending else s
  let s2 := (s1.setDh 0 { s1.dh 0 with vcc := false, hpd := false }).srBegin
  s2.setPwr { s2.pwr with loss := 3 }

theorem State.refreshing_pwr : s.refreshing.pwr = { s.pwr with loss := 3 } := by
  unfold State.refreshing
  extract_lets s1 d s2 p
  have h : s2.blur 151046160 = s.blur 151046160 := by
    unfold s2 s1
    split <;> simp
  change { s2.pwr with loss := 3 } = _
  rw [State.blur_pwr h rfl]

/-- The array in self-refresh, its queues empty (R433). -/
theorem State.srEntered_holds : s.srEntered.memState = 4 ∧ s.srEntered.mem.q = [] ∧ s.srEntered.pwr = s.pwr := by
  refine ⟨?_, ?_, State.blur_pwr (State.srEntered_blur s 16826448 rfl) rfl⟩
  · unfold State.srEntered State.memReady State.memState
    simp
  · unfold State.srEntered State.memReady
    simp only [State.raise_mem, State.setFld_mem]
    exact (congrArg Mem.q (State.forEach_keeps State.mem
      (f := fun t n => (t.setFld (rMemScStat n) 28 4 3).setFld (rMemScStat n) 0 12 0) (fun t n => rfl) _ _)).trans rfl

theorem State.refreshed_of_early (hm : s.memState = 3) (hc : s.hst.cmds.any (fun c => c.st == 1 && c.early) = true) :
    s.refreshed = s := by
  have hall : s.hst.cmds.all (fun c => !(c.st == 1 && c.early)) = false := by
    rw [List.all_eq_not_any_not]
    simpa using hc
  have hwait : (if s.memState = 3 ∧ s.hst.cmds.all (fun c => !(c.st == 1 && c.early)) = true then s.srEntered.finishWrites
      else s) = s := if_neg (by simp only [hall]; simp)
  unfold State.refreshed
  rw [hwait]
  exact if_neg fun h => h.2 hm

theorem State.refreshed_of_done (hm : s.memState = 3) (hl : s.pwr.loss ≠ 3)
    (hc : s.hst.cmds.all (fun c => !(c.st == 1 && c.early)) = true) : s.refreshed = s.srEntered.finishWrites := by
  have hpwr : s.srEntered.finishWrites.pwr = s.pwr :=
    (State.blur_pwr (State.finishWrites_blur _ 33603600 rfl) rfl).trans (State.srEntered_holds).2.2
  have hdone : (if s.memState = 3 ∧ s.hst.cmds.all (fun c => !(c.st == 1 && c.early)) = true then s.srEntered.finishWrites
      else s) = s.srEntered.finishWrites := if_pos ⟨hm, hc⟩
  unfold State.refreshed
  rw [hdone]
  exact if_neg (by rw [hpwr]; simp [hl])

theorem State.refreshed_of_lost (hm : s.memState ≠ 3) (hl : s.pwr.loss = 3) :
    s.refreshed = s.aliveOff.setPwr { s.aliveOff.pwr with loss := 4 } := by
  simp [State.refreshed, hm, hl]
  rfl

/-! ### CLUSTER resets -/

theorem State.clusterReset_guard {c : Nat} (hr : s.reaches c = true) (hp : clusterPresent s.variant c = true) (hc : c ≠ 0)
    (hf : s.fenced c 0 = false) : ¬ (!s.reaches c || !clusterPresent s.variant c || c == 0 || s.fenced c 0) = true := by
  simp [hr, hp, hc, hf]

theorem State.clusterResetDone_holds (c : Nat) : (s.clusterResetDone c).pwr.rst = s.pwr.rst.filter (fun x => x.1 != c) ∧
    (s.clusterResetDone c).plane = s.plane ∧ (s.clusterResetDone c).flash = s.flash := by
  refine ⟨?_, State.blur_plane (State.clusterResetDone_blur s c 268433528 rfl) rfl,
    State.blur_flash (State.clusterResetDone_blur s c 268433528 rfl) rfl⟩
  unfold State.clusterResetDone
  extract_lets us p s1 s2
  split
  · next hempty =>
    refine (List.filter_eq_self.mpr fun x hx => ?_).symm
    have hnil : us = [] := List.isEmpty_iff.mp hempty
    have := List.filter_eq_nil_iff.mp hnil x hx
    simpa using this
  · have h2 : s2.pwr = s1.pwr := State.blur_pwr (m := 268429432) (by simp [s2]) rfl
    have hset : (s2.settleImage us).pwr = s2.pwr := State.blur_pwr (State.settleImage_blur _ _ 51693584 rfl) rfl
    have hv : (s2.settleImage us).pwr.sameRun (s2.settleImage us).syncV12All.pwr := State.syncV12All_sameRun
    have hend : ((((s2.settleImage us).syncV12All).portsGo.syncSupAll).recheckNew s.liveAll).follow.pwr =
        (s2.settleImage us).syncV12All.pwr := State.blur_pwr (m := 58640464) (by simp) rfl
    rw [hend, hv, hset, h2]

/-! ### PERST# -/

/-- HST with the controller cleared, before the registers of its units are dropped. -/
theorem State.perstReset_cc (s : State) : s.perstReset.hst.cc = 0#32 := by
  unfold State.perstReset
  extract_lets s1 h s2 s3 s4
  have h3 : s3.hst = s2.hst := State.blur_hst (m := 112) (by simp [s3]) rfl
  have h4 : s4.hst = s3.hst := State.blur_hst (m := 49264) (by simp [s4]) rfl
  have hcc : s4.hst.cc = 0#32 := by rw [h4, h3]; rfl
  split
  · exact hcc
  · exact hcc

theorem State.perstReset_holds : s.perstReset.hst.cc = 0#32 ∧ s.perstReset.pwr = s.pwr ∧ s.perstReset.plane = s.plane ∧
    s.perstReset.mem = s.mem :=
  ⟨s.perstReset_cc, State.blur_pwr (State.perstReset_blur s 33605744 rfl) rfl,
    State.blur_plane (State.perstReset_blur s 33605744 rfl) rfl, State.blur_mem (State.perstReset_blur s 33605744 rfl) rfl⟩

/-- The reset of a failed HST ends the state of R37. -/
def State.hstEnds (s : State) : State :=
  ((((s.setHst { s.hst with csts := 0#32 }).setPwr { s.pwr with phase := .applied }).setAud { s.aud with safe := 0 }).setFld
    rSvcAudStat 28 4 0).setTeller 0

theorem State.hstEnds_kept : s.hstEnds.pwr.perst = s.pwr.perst ∧ s.hstEnds.hst.cc = s.hst.cc ∧ s.hstEnds.plane = s.plane ∧
    s.hstEnds.mem = s.mem := by
  simp [State.hstEnds, State.setTeller]

theorem State.perstLow_of_high (hp : s.powered = true) (hperst : s.pwr.perst = false) :
    let u := (s.setPwr { s.pwr with perst := true }).perstReset
    s.perstLow = if s.mssFailed 7 then u.hstEnds else u := if_neg (by simp [hp, hperst])

theorem State.perstLow_holds (hp : s.powered = true) (hperst : s.pwr.perst = false) : s.perstLow.pwr.perst = true ∧
    s.perstLow.hst.cc = 0#32 ∧ s.perstLow.plane = s.plane ∧ s.perstLow.mem = s.mem := by
  obtain ⟨hcc, hpwr, hplane, hmem⟩ := State.perstReset_holds (s := s.setPwr { s.pwr with perst := true })
  rw [State.perstLow_of_high hp hperst]
  split
  · obtain ⟨hp', hc', hpl', hm'⟩ := (s.setPwr { s.pwr with perst := true }).perstReset.hstEnds_kept
    exact ⟨hp'.trans (congrArg Pwr.perst hpwr), hc'.trans hcc, hpl'.trans hplane, hm'.trans hmem⟩
  · exact ⟨congrArg Pwr.perst hpwr, hcc, hplane, hmem⟩

/-- Settles O22. -/
theorem resetsAndLossOfMains : Obligations.ResetsAndLossOfMains := by
  refine ⟨fun s v hr hkey hv hl hb hph hf => ?_, fun s v hr hkey => ?_, fun s hup hl hb hph hf => ?_, fun s hl hb hph hf => ?_,
    fun s hl hrel => ?_, fun s hl hrel => ?_, fun s hl => ?_, fun s hm hl hc => ?_, fun s hm hc => ?_, fun s hm hl => ?_,
    fun s cl v hr hp hc hf href => ?_, fun s cl v hr hp hc hf href => ?_, fun s cl => .of_eq rfl rfl (s.clusterResetDone_holds cl),
    fun s hp hperst => .of_eq rfl rfl (State.perstLow_holds hp hperst), fun s hp hperst => ?_, fun s hp => ?_, fun s hcut => ?_⟩
  · obtain ⟨hgood, hkind, -, hplane, hflash, hotp, hvar⟩ := s.warmReset_holds 3 false
    refine .of_eq rfl ((if_neg (by simp [hr])).trans ((if_neg (not_not.mpr hkey)).trans ((if_pos hv).trans
      (State.moduleRst_of_up 3 hl hb hph hf)))) ⟨hgood, hkind, hplane, hflash, hotp, hvar⟩
  · exact .of_eq rfl ((if_neg (by simp [hr])).trans (if_pos hkey))
      ⟨State.violation_svCnt _, State.violation_pwr .., State.violation_mem ..⟩
  · obtain ⟨hgood, hkind, -, hplane, -⟩ := s.warmReset_holds 4 false
    exact .of_eq rfl ((if_pos ⟨hup, rfl⟩).trans (State.moduleRst_of_up 4 hl hb hph hf)) ⟨hgood, hkind, hplane⟩
  · obtain ⟨hgood, hkind, hloss, -, hflash, hotp, -⟩ := s.warmReset_holds 2 (s.memState == 4)
    exact .of_eq rfl ((if_neg (by simp [hl, hb])).trans (if_neg (by simp [hph, hf]))) ⟨hgood, hkind, hloss, hflash, hotp⟩
  · obtain ⟨hq, hloss⟩ := s.mainsClosed.headsOff_pwr
    refine .of_eq rfl (State.lossClose_of_released hl hrel) ⟨?_, hq, ?_⟩
    · rw [hloss, State.blur_pwr State.mainsClosed_blur rfl]
      rfl
    · exact (State.blur_flash (State.headsOff_blur _ 51304464 rfl) rfl).trans ((State.blur_flash State.mainsClosed_blur rfl).trans rfl)
  · exact .of_eq rfl ((if_neg (not_not.mpr hl)).trans (if_pos (show (!s.released) = true by simp [hrel]))) rfl
  · exact .of_eq (t := s.refreshing) rfl (if_neg (not_not.mpr hl)) State.refreshing_pwr
  · exact .of_eq rfl (State.refreshed_of_done hm hl hc) State.srEntered_holds
  · exact .of_eq rfl (State.refreshed_of_early hm hc) rfl
  · refine .of_eq rfl (State.refreshed_of_lost hm hl) ⟨rfl, ?_, rfl⟩
    simp [State.aliveOff]
  · exact .of_eq rfl ((if_neg (State.clusterReset_guard hr hp (by simpa using hc) hf)).trans (if_pos href)) rfl
  · refine .of_eq rfl ((if_neg (State.clusterReset_guard hr hp (by simpa using hc) hf)).trans (if_neg (by simp [href])))
      ⟨fun u hu hpu => ?_, fun x hx => ?_, rfl⟩
    · simp [List.mem_eraseDups, hu, hpu]
    · simp [List.mem_eraseDups, hx]
  · refine .of_eq rfl (if_pos (by simp [hp, hperst])) ⟨rfl, ?_⟩
    exact State.fld_setFld_same _ _ _ _ _ (by decide)
  · obtain ⟨hflash, hotp, hdram⟩ := s.wipe_kept true false
    exact .of_eq rfl (if_neg (by simp [hp])) ⟨rfl, rfl, hdram, hflash, hotp⟩
  · exact .of_eq rfl (if_pos hcut) ⟨rfl, State.bit_setBit_same _ _ _ _ (by decide)⟩

end Sys2Proof.Machine
end

section
/-! PROOF. The BAR2 window (R9, R11, R38, R71, R88, R249). -/

namespace Sys2Proof.Machine

open Sys2Proof

variable {s t : State}

/-! ### What a write leaves in an ordinary register -/

/-- The bits of a row that a write sets (R38): the static ones only outside of a capture. -/
def State.writeMask (s : State) (r : RegRow) : Word := r.mask .rw ||| (if s.capture then 0#32 else r.mask .st)

/-- The write of an ordinary register before its static fields are judged. -/
def State.stored (s : State) (a : Nat) (r : RegRow) (v : Word) : State :=
  let s1 := s.wr a (((s.rd a &&& ~~~ s.writeMask r) ||| (v &&& s.writeMask r)) &&& ~~~ (v &&& r.mask .w1c))
  if r.mask .rws = 0#32 then s1 else s1.setShd a ((s1.shd a &&& ~~~ r.mask .rws) ||| (v &&& r.mask .rws))

theorem State.stored_rd (a : Nat) (r : RegRow) (v : Word) (b : Nat) : (s.stored a r v).rd b =
    (s.wr a (((s.rd a &&& ~~~ s.writeMask r) ||| (v &&& s.writeMask r)) &&& ~~~ (v &&& r.mask .w1c))).rd b := by
  unfold State.stored
  dsimp only
  split <;> rfl

theorem State.stored_rd_same (a : Nat) (r : RegRow) (v : Word) : (s.stored a r v).rd a =
    ((s.rd a &&& ~~~ s.writeMask r) ||| (v &&& s.writeMask r)) &&& ~~~ (v &&& r.mask .w1c) :=
  (State.stored_rd ..).trans (State.rd_wr_same ..)

theorem State.stored_rd_other {a b : Nat} (r : RegRow) (v : Word) (h : b ≠ a) : (s.stored a r v).rd b = s.rd b :=
  (State.stored_rd ..).trans (State.rd_wr_other _ _ h.symm)

section
variable {a : Nat} {r : RegRow} {v : Word} (hrow : rowAt a = some r)
include hrow

theorem State.putReg_of_unchanged (h : (s.rd a ^^^ v) &&& r.mask .st = 0#32) : s.putReg a v = s.stored a r v := by
  simp [State.putReg, hrow, h, State.stored, State.writeMask]

theorem State.putReg_of_captured (h : (s.rd a ^^^ v) &&& r.mask .st ≠ 0#32) (hc : s.capture = true) :
    s.putReg a v = (s.stored a r v).violation a := by
  simp [State.putReg, hrow, h, hc, State.stored, State.writeMask]

theorem State.putReg_of_free (h : (s.rd a ^^^ v) &&& r.mask .st ≠ 0#32) (hc : s.capture = false) :
    s.putReg a v = (s.stored a r v).altered := by
  simp [State.putReg, hrow, h, hc, State.stored, State.writeMask]

end

/-- Bits that the write does not change may count as written or as held. -/
theorem merge_of_agree {x v m n : Word} (h : (x ^^^ v) &&& n = 0#32) :
    (x &&& ~~~ (m ||| n)) ||| (v &&& (m ||| n)) = (x &&& ~~~ m) ||| (v &&& m) := by
  ext i hi
  have hb : ((x ^^^ v) &&& n)[i] = (0#32)[i] := by rw [h]
  simp only [BitVec.getElem_and, BitVec.getElem_xor, BitVec.getElem_zero] at hb
  simp only [BitVec.getElem_and, BitVec.getElem_or, BitVec.getElem_not]
  revert hb
  cases x[i] <;> cases v[i] <;> cases n[i] <;> cases m[i] <;> decide

theorem State.stored_rd_of_unchanged {a : Nat} {r : RegRow} {v : Word} (h : (s.rd a ^^^ v) &&& r.mask .st = 0#32) :
    (s.stored a r v).rd a = ((s.rd a &&& ~~~ (r.mask .rw)) ||| (v &&& r.mask .rw)) &&& ~~~ (v &&& r.mask .w1c) := by
  rw [State.stored_rd_same, State.writeMask]
  split
  · rw [BitVec.or_zero]
  · rw [merge_of_agree h]

/-! ### A write reaches the unit -/

theorem kindOf_of_mirror {c u o : Nat} (h : mirror c u o = true) : kindOf c u = some (.hstNvme, 0) := by
  simp only [mirror, Bool.and_eq_true, beq_iff_eq] at h
  obtain ⟨⟨⟨rfl, rfl⟩, -⟩, -⟩ := h
  rfl

/-- The kinds whose registers have no write effect of their own. -/
def plainKinds : List Kind := [.cal, .attest, .schSo, .corCore, .vidCore, .cmpEng, .hstPcie, .therm]

theorem State.writeUnit_of_plain {k : Kind} (n o a : Nat) (v : Word) (h : k ∈ plainKinds) : s.writeUnit k n o a v = s.putReg a v := by
  simp only [plainKinds, List.mem_cons, List.not_mem_nil, or_false] at h
  obtain rfl | rfl | rfl | rfl | rfl | rfl | rfl | rfl := h <;> rfl

theorem State.busWrite_of_live {a : Nat} {k : Kind} {n : Nat} {r : RegRow} (v : Word) (hr : s.reaches (clusterOf a) = true)
    (hl : s.unitLive (clusterOf a) (unitOf a) = true) (hk : kindOf (clusterOf a) (unitOf a) = some (k, n)) (hrow : rowAt a = some r)
    (hm : k ≠ .hstNvme) (hi : k ≠ .ingStr) (hs : k ≠ .schStr) : s.busWrite a v = s.writeUnit k n (offOf a) a v := by
  have hmir : mirror (clusterOf a) (unitOf a) (offOf a) = false := by
    refine Bool.eq_false_iff.mpr fun h => hm ?_
    have := (kindOf_of_mirror h).symm.trans hk
    simp_all
  have hgone : blockGone s.variant k (offOf a) = false := by simp [blockGone, hi, hs]
  simp [State.busWrite, hr, hl, hk, hmir, hrow, hgone]

theorem State.busWrite_of_plain {a : Nat} {k : Kind} {n : Nat} {r : RegRow} (v : Word) (hr : s.reaches (clusterOf a) = true)
    (hl : s.unitLive (clusterOf a) (unitOf a) = true) (hk : kindOf (clusterOf a) (unitOf a) = some (k, n)) (hrow : rowAt a = some r)
    (h : k ∈ plainKinds) : s.busWrite a v = s.putReg a v := by
  have hne : ∀ x : Kind, x ∉ plainKinds → k ≠ x := fun x hx e => hx (e ▸ h)
  rw [State.busWrite_of_live v hr hl hk hrow (hne _ (by decide)) (hne _ (by decide)) (hne _ (by decide)),
    State.writeUnit_of_plain _ _ _ _ h]

theorem exec_registerWrite_whole {addr : BitVec 26} {be : BitVec 8} (lo hi : Word) (ha : addr.toNat % 4 = 0)
    (hbe : be.setWidth 4 = 0xF#4) : exec (.registerWrite addr be false lo hi) s = .next (s.busWrite addr.toNat lo) := by
  change execRegisterWrite addr be false lo hi s = _
  simp [execRegisterWrite, ha, hbe]

theorem State.busWrite_of_gone {a : Nat} (v : Word)
    (h : s.unitLive (clusterOf a) (unitOf a) = false ∨ rowAt a = none) (hm : mirror (clusterOf a) (unitOf a) (offOf a) = false) :
    s.busWrite a v = s := by
  unfold State.busWrite
  dsimp only
  obtain h | h := h
  · simp [h]
  · simp only [hm, h]
    split
    · rfl
    · split <;> rfl

theorem exec_registerWrite_ignored {addr : BitVec 26} {be : BitVec 8} (lo hi : Word)
    (h : s.unitLive (clusterOf addr.toNat) (unitOf addr.toNat) = false ∨ rowAt addr.toNat = none ∨ be.setWidth 4 ≠ 0xF#4)
    (hm : mirror (clusterOf addr.toNat) (unitOf addr.toNat) (offOf addr.toNat) = false) :
    exec (.registerWrite addr be false lo hi) s = .next s := by
  have hw : (if be.setWidth 4 = 0xF#4 then s.busWrite addr.toNat lo else s) = s := by
    split
    case isFalse => rfl
    case isTrue hbe =>
      refine State.busWrite_of_gone lo ?_ hm
      obtain h | h | h := h
      · exact .inl h
      · exact .inr h
      · exact absurd hbe h
  change execRegisterWrite addr be false lo hi s = _
  simp only [execRegisterWrite, hw]
  split <;> simp

/-! ### Reads -/

theorem State.busRead_of_ident {a : Nat} {k : Kind} {n : Nat} (hr : s.reaches (clusterOf a) = true)
    (hp : present s.variant (clusterOf a) (unitOf a) = true) (hk : kindOf (clusterOf a) (unitOf a) = some (k, n))
    (ho : offOf a = 0) : s.busRead a = (identWord k n, s) := by
  simp [State.busRead, hr, hp, hk, ho]

theorem State.present_of_live {c u : Nat} (h : s.unitLive c u = true) : present s.variant c u = true := by
  simp only [State.unitLive, Bool.and_eq_true] at h
  exact h.1.1

theorem State.busRead_of_live {a : Nat} {k : Kind} {n : Nat} (hr : s.reaches (clusterOf a) = true)
    (hl : s.unitLive (clusterOf a) (unitOf a) = true) (hk : kindOf (clusterOf a) (unitOf a) = some (k, n)) (ho : 8 ≤ offOf a)
    (hgone : blockGone s.variant k (offOf a) = false) (hm : k ≠ .hstNvme) (hd : k ≠ .dev) :
    s.busRead a = s.readReg k n (offOf a) a := by
  have hmir : mirror (clusterOf a) (unitOf a) (offOf a) = false := by
    refine Bool.eq_false_iff.mpr fun h => hm ?_
    have := (kindOf_of_mirror h).symm.trans hk
    simp_all
  have hcap : a ≠ rDevCap1 := by
    rintro rfl
    exact hd (by
      have : kindOf (clusterOf rDevCap1) (unitOf rDevCap1) = some (.dev, 0) := by decide
      simp_all)
  have ho0 : offOf a ≠ 0 := by omega
  have ho4 : offOf a ≠ 4 := by omega
  simp [State.busRead, hr, hl, hk, State.present_of_live hl, hmir, hgone, hcap, ho0, ho4]

theorem State.readBus_narrow_eq {a : Nat} (hr : s.reaches 0 = true) (ha : a % 4 = 0) :
    s.readBus a false = (s.busRead a).2.answerBus (s.busRead a).1 0#32 := by
  simp [State.readBus, hr, ha]

/-- What a read leaves of a register with RC fields. -/
def State.cleared (s : State) (a : Nat) (r : RegRow) : State :=
  if r.mask .rc = 0#32 then s else s.wr a (s.rd a &&& ~~~ r.mask .rc)

theorem State.cleared_rd_same (a : Nat) (r : RegRow) : (s.cleared a r).rd a = s.rd a &&& ~~~ r.mask .rc := by
  unfold State.cleared
  split
  case isTrue h => exact h ▸ BitVec.and_allOnes.symm
  case isFalse h => exact State.rd_wr_same ..

theorem State.cleared_rd_other {a b : Nat} (r : RegRow) (h : b ≠ a) : (s.cleared a r).rd b = s.rd b := by
  unfold State.cleared
  split
  · rfl
  · exact State.rd_wr_other _ _ h.symm

theorem State.readReg_of_plain {a : Nat} {k : Kind} {n o : Nat} {r : RegRow} (hc : captures k o = false) (hrow : rowAt a = some r)
    (hnow : a ≠ rMintNowNs) (hpps : a ≠ rMintPpsinNs) : s.readReg k n o a =
      (((s.view k n o a &&& ~~~ r.mask .rws) ||| (s.shd a &&& r.mask .rws)) &&& ~~~ r.mask .wo, s.cleared a r) := by
  simp [State.readReg, hrow, hc, hnow, hpps, State.cleared]

theorem State.readReg_of_captures {a : Nat} {k : Kind} {n o : Nat} {r r' : RegRow} (hc : captures k o = true) (hrow : rowAt a = some r)
    (hrow' : rowAt (a + 4) = some r') : s.readReg k n o a = ((s.quantity k n o a).setWidth 32,
      s.wr (a + 4) (((s.quantity k n o a) >>> 32).setWidth 32 &&& r'.mask .ro)) := by
  simp [State.readReg, hrow, hc, State.capHi, hrow']

/-- A capturing register stands behind the first two words of its unit, in a kind that no variant cuts. -/
theorem of_captures {k : Kind} {o : Nat} (h : captures k o = true) :
    8 ≤ o ∧ k ≠ .hstNvme ∧ k ≠ .dev ∧ ∀ v, blockGone v k o = false := by
  cases k <;> simp [captures, blockGone] at h ⊢ <;> omega

theorem ne_of_kindOf {a b : Nat} {k x : Kind} {n m : Nat} (hk : kindOf (clusterOf a) (unitOf a) = some (k, n))
    (hb : kindOf (clusterOf b) (unitOf b) = some (x, m)) (h : k ≠ x) : a ≠ b := by
  rintro rfl
  simp_all

/-- Settles O27. -/
theorem registerWindow : Obligations.RegisterWindow := by
  refine ⟨fun s addr be lo hi k n r ha hbe hr hl hk hmem hrow h => ?_, fun s addr be lo hi k n r ha hbe hr hl hk hmem hrow h hc => ?_,
    fun s addr be lo hi k n r ha hbe hr hl hk hmem hrow h hc => ?_, fun s addr be lo hi r ha hbe hr hl hc4 hk hrow h => ?_,
    fun s addr be lo hi h hm => ?_, fun s addr be lo hi ha hbe => ?_, fun s addr k n hr0 ha hr hp hk ho => ?_,
    fun s addr hr0 ha hp => ?_, fun s addr k n r hr0 ha hr hl hk ho hgone hm hd hmint hc hrow => ?_,
    fun s addr k n r r' hr0 ha hr hl hk hc hrow hrow' => ?_⟩
  · refine .of_eq (exec_registerWrite_whole lo hi ha hbe) ?_ (State.stored_rd_of_unchanged h)
    rw [State.busWrite_of_plain lo hr hl hk hrow hmem, State.putReg_of_unchanged hrow h]
  · refine .of_eq (exec_registerWrite_whole lo hi ha hbe)
      ((State.busWrite_of_plain lo hr hl hk hrow hmem).trans (State.putReg_of_captured hrow h hc))
      ⟨?_, fun a ha => State.stored_rd_other r lo ha⟩
    rw [State.stored_rd_same, State.writeMask, hc, if_pos rfl, BitVec.or_zero]
  · refine .of_eq (exec_registerWrite_whole lo hi ha hbe)
      ((State.busWrite_of_plain lo hr hl hk hrow hmem).trans (State.putReg_of_free hrow h hc)) ?_
    rw [State.stored_rd_same, State.writeMask, hc]
    rfl
  · rw [← hc4] at hr hl hk
    refine .of_eq (exec_registerWrite_whole lo hi ha hbe)
      ((State.busWrite_of_live lo hr hl hk hrow (by decide) (by decide) (by decide)).trans ?_)
      ⟨State.stored_rd_of_unchanged h, fun a ha => State.stored_rd_other r lo ha⟩
    exact congrArg State.syncA5 (State.putReg_of_unchanged hrow h)
  · exact .of_eq (exec_registerWrite_ignored lo hi h hm) rfl rfl
  · subst hbe
    refine .of_eq (u := (s.busWrite addr.toNat lo).busWrite (addr.toNat + 4) hi) ?_ rfl rfl
    change execRegisterWrite addr 0xFF#8 true lo hi s = _
    simp [execRegisterWrite, ha]
  · refine .of_eq rfl ?_ rfl
    rw [State.readBus_narrow_eq hr0 ha, State.busRead_of_ident hr hp hk ho]
    rfl
  · refine .of_eq rfl ?_ rfl
    exact State.readBus_of_absent hr0 ha hp
  · have hnow : addr.toNat ≠ rMintNowNs := ne_of_kindOf hk (b := rMintNowNs) (m := 0) (by decide) hmint
    have hpps : addr.toNat ≠ rMintPpsinNs := ne_of_kindOf hk (b := rMintPpsinNs) (m := 0) (by decide) hmint
    refine .of_eq rfl (State.readBus_narrow_eq hr0 ha) ?_
    rw [State.busRead_of_live hr hl hk ho hgone hm hd, State.readReg_of_plain hc hrow hnow hpps]
    exact ⟨rfl, State.cleared_rd_same .., fun a ha => State.cleared_rd_other r ha⟩
  · obtain ⟨ho, hm, hd, hgone⟩ := of_captures hc
    refine .of_eq rfl (State.readBus_narrow_eq hr0 ha) ?_
    rw [State.busRead_of_live hr hl hk ho (hgone _) hm hd, State.readReg_of_captures hc hrow hrow']
    exact ⟨rfl, State.rd_wr_same ..⟩

end Sys2Proof.Machine
end

section
/-! PROOF. Boundary points and the Tally (R31 to R33, R36, R309). -/

namespace Sys2Proof.Machine

open Sys2Proof

variable {s t : State}

/-! ### Commits -/

/-- What the RWS fields of a register commit to. -/
def State.committed (s : State) (a : Nat) (r : RegRow) : Word := (s.rd a &&& ~~~ r.mask .rws) ||| (s.shd a &&& r.mask .rws)

theorem State.commit_shd (a b : Nat) : (s.commit a).shd b = s.shd b := by
  unfold State.commit
  split <;> rfl

theorem State.commit_rd_same {a : Nat} {r : RegRow} (h : rowAt a = some r) : (s.commit a).rd a = s.committed a r := by
  simp only [State.commit, h]
  exact State.rd_wr_same ..

theorem State.commit_rd_other {a b : Nat} (h : a ≠ b) : (s.commit a).rd b = s.rd b := by
  unfold State.commit
  split
  · rfl
  · exact State.rd_wr_other _ _ h

/-- A second commit changes nothing. -/
theorem State.committed_commit {a : Nat} {r : RegRow} (b : Nat) (h : rowAt a = some r) :
    (s.commit b).committed a r = s.committed a r := by
  by_cases hb : b = a
  · subst hb
    simp only [State.committed, State.commit_shd, State.commit_rd_same h]
    generalize s.rd b = x, s.shd b = y, r.mask .rws = m
    ext i hi
    simp only [BitVec.getElem_and, BitVec.getElem_or, BitVec.getElem_not]
    cases x[i] <;> cases y[i] <;> cases m[i] <;> rfl
  · simp only [State.committed, State.commit_shd, State.commit_rd_other hb]

theorem State.commits_committed {a : Nat} {r : RegRow} (h : rowAt a = some r) (l : List Nat) :
    (s.forEach l State.commit).committed a r = s.committed a r :=
  State.forEach_keeps (fun t => t.committed a r) (fun t b => State.committed_commit (s := t) b h) l s

theorem State.commits_rd_other {a : Nat} (l : List Nat) (h : a ∉ l) : (s.forEach l State.commit).rd a = s.rd a := by
  induction l generalizing s with
  | nil => rfl
  | cons b l ih =>
    rw [List.mem_cons, not_or] at h
    exact (ih (s := s.commit b) h.2).trans (State.commit_rd_other (Ne.symm h.1))

theorem State.commits_rd {a : Nat} {r : RegRow} (h : rowAt a = some r) {l : List Nat} (ha : a ∈ l) :
    (s.forEach l State.commit).rd a = s.committed a r := by
  induction l generalizing s with
  | nil => cases ha
  | cons b l ih =>
    by_cases hal : a ∈ l
    · exact (ih (s := s.commit b) hal).trans (State.committed_commit b h)
    · obtain rfl | ha := List.mem_cons.mp ha
      · exact (State.commits_rd_other (s := s.commit a) l hal).trans (State.commit_rd_same h)
      · exact absurd ha hal

theorem le_of_mem_unitAddrs {c u a : Nat} {p : RegRow → Bool} (h : a ∈ unitAddrs c u p) : unitBase c u ≤ a := by
  unfold unitAddrs at h
  split at h
  · cases h
  · obtain ⟨o, -, rfl⟩ := List.mem_map.mp h
    exact Nat.le_add_right ..

theorem State.commitStream_vltState (i : Nat) : (s.commitStream i).vltState = s.vltState := by
  refine State.fld_of_rd (State.commits_rd_other _ fun h => ?_)
  have hlt : rDevVltStat < 0x400000 := by decide
  simp only [List.mem_append, List.mem_flatMap, List.mem_cons, List.not_mem_nil, or_false, rwsAddrs] at h
  obtain ⟨c, -, u, -, h⟩ | h | h := h
  · have := le_of_mem_unitAddrs h
    unfold unitBase at this
    omega
  · unfold rIngStrPad at h
    omega
  · unfold rIngStrTout at h
    omega

/-! ### The boundary point -/

theorem State.holdAt_of_not_seeking (i serial : Nat) (h : s.vltState ≠ 4) : s.holdAt i serial = s := by
  simp [State.holdAt, h]

theorem State.boundaryAt_of_not_held (i serial : Nat) (h : s.vltState ≠ 4) (hh : s.vlt.held.getLsbD i = false) :
    s.boundaryAt i serial =
      let u := (((s.commitStream i).lutSwap i).resplit i).capNow i
      if u.mintUp then u.setSchStr i { u.schStr i with noMint := false } else u := by
  have hv : (s.commitStream i).vlt = s.vlt := State.blur_vlt (State.commitStream_blur s i 16 rfl) rfl
  have hhold : (s.commitStream i).holdAt i serial = s.commitStream i :=
    State.holdAt_of_not_seeking i serial (by rw [State.commitStream_vltState]; exact h)
  simp only [State.boundaryAt, hhold, hv, hh, Bool.false_eq_true, if_false]

theorem State.not_mem_dropFrame (f : Frame) : f ∉ (s.dropFrame f).ing.frames := by
  simp [State.dropFrame, State.setFrames]

/-! ### Tally records -/

theorem State.setPixStr_tally (i : Nat) (v : PixStr) : ((s.setPixStr i v).pixStr i).tally = v.tally := by
  rw [State.pixStr, State.setPixStr, Map.get_set_same]

theorem State.pixStr_of_pix {i : Nat} (h : t.pix = s.pix) : t.pixStr i = s.pixStr i := by rw [State.pixStr, h, State.pixStr]

theorem State.imgTrig_tally (i c k : Nat) (p : PendTally) : ((s.imgTrig i c k p).1.pixStr i).tally = (s.pixStr i).tally := by
  unfold State.imgTrig
  dsimp only
  split
  · rw [State.pixStr_of_pix (State.raise_pix ..)]
    exact State.setPixStr_tally ..
  · exact State.setPixStr_tally ..

/-- The four image triggers of a Tally record in turn: the state and the flags. -/
def State.imgTrigs (s : State) (i c : Nat) (p : PendTally) : State × Nat :=
  (List.range 4).foldl (fun a k => ((a.1.imgTrig i c k p).1, a.2 + (a.1.imgTrig i c k p).2.toNat * 2 ^ (k + 2))) (s, 0)

theorem State.imgTrigs_keeps {β : Type} (g : State → β) {i c : Nat} {p : PendTally}
    (h : ∀ (t : State) k, g (t.imgTrig i c k p).1 = g t) : g (s.imgTrigs i c p).1 = g s :=
  List.foldlRecOn (motive := fun a : State × Nat => g a.1 = g s) _ _ rfl fun a ha k _ => (h a.1 k).trans ha

/-- The bytes of a Tally record with the flags of its triggers. -/
def PendTally.flagged (p : PendTally) (fl : Nat) : List Byte := p.bytes.take 14 ++ leBytes 2 (leAt p.bytes 14 2 ||| fl) ++ p.bytes.drop 16

theorem PendTally.flagged_take (p : PendTally) (fl : Nat) (h : 16 ≤ p.bytes.length) : (p.flagged fl).take 14 = p.bytes.take 14 := by
  rw [PendTally.flagged, List.append_assoc, List.take_left' (by simp; omega)]

theorem PendTally.flagged_drop (p : PendTally) (fl : Nat) (h : 16 ≤ p.bytes.length) : (p.flagged fl).drop 16 = p.bytes.drop 16 :=
  List.drop_left' (by simp [leBytes_length]; omega)

section
variable {i : Nat} {p : PendTally} {l : List PendTally} (h : (s.pixStr i).tally = p :: l)
include h

theorem State.tallyWrite_of_unled (hlead : s.lead i = none) : s.tallyWrite i =
    (s.setPixStr i { s.pixStr i with tally := l }).modEntry p.part p.serial (fun e => { e with owed := false }) := by
  have hlead' : (s.setPixStr i { s.pixStr i with tally := l }).lead i = none := hlead
  simp only [State.tallyWrite, h, hlead']

theorem State.tallyWrite_of_dead {c : Nat} (hlead : s.lead i = some c) (hl : s.unitLive (5 + c) 2 = false) : s.tallyWrite i =
    (s.setPixStr i { s.pixStr i with tally := l }).modEntry p.part p.serial
      (fun e => { e with owed := false, flags := e.flags ||| flag 3 }) := by
  have hlead' : (s.setPixStr i { s.pixStr i with tally := l }).lead i = some c := hlead
  have hl' : (s.setPixStr i { s.pixStr i with tally := l }).unitLive (5 + c) 2 = false := hl
  simp [State.tallyWrite, h, hlead', hl']

theorem State.tallyWrite_of_live {c : Nat} (hlead : s.lead i = some c) (hl : s.unitLive (5 + c) 2 = true) :
    let r := (s.setPixStr i { s.pixStr i with tally := l }).imgTrigs i c p
    let u := (r.1.memWrite (r.1.tallyAddr p.part p.idx) (p.flagged r.2)).1
    s.tallyWrite i = u.modEntry p.part p.serial
      (fun e => { e with owed := false, tallyRef := some (u.fld (rIngPartLbase p.part) 0 19 + p.idx) }) := by
  have hlead' : (s.setPixStr i { s.pixStr i with tally := l }).lead i = some c := hlead
  have hl' : (s.setPixStr i { s.pixStr i with tally := l }).unitLive (5 + c) 2 = true := hl
  simp [State.tallyWrite, h, hlead', hl', State.imgTrigs, PendTally.flagged]

end

/-- Settles O28. -/
theorem boundaryAndTally : Obligations.BoundaryAndTally := by
  refine ⟨fun s i h => ?_, fun s i f h => ?_, fun s i serial h hh => State.boundaryAt_of_not_held i serial h hh,
    fun s i a r ha hrow => ?_, fun s i h => ?_, fun s i p l h hlead => ?_, fun s i p l c h hlead hl => ?_,
    fun s i p l c h hlead hl hlen => ?_⟩
  · exact .of_eq rfl (by simp only [State.boundaryPoint, h]) rfl
  · exact .of_eq rfl (by simp only [State.boundaryPoint, h]) ⟨rfl, State.not_mem_dropFrame f⟩
  · exact State.commits_rd hrow (List.mem_append_right _ (by simpa using ha))
  · exact .of_eq rfl (by simp only [State.tallyWrite, h]) rfl
  · exact .of_eq rfl (State.tallyWrite_of_unled h hlead) rfl
  · exact .of_eq rfl (State.tallyWrite_of_dead h hlead hl) rfl
  · refine .of_eq rfl (State.tallyWrite_of_live h hlead hl) ⟨?_, _, _, rfl, ?_, ?_, PendTally.flagged_take p _ hlen,
      PendTally.flagged_drop p _ hlen⟩
    · rw [State.blur_ing (State.memWrite_blur _ _ _ 16826384 rfl) rfl]
      exact State.imgTrigs_keeps State.ing fun t k => State.blur_ing (State.imgTrig_blur t _ _ k _ 1097792 rfl) rfl
    · exact (State.imgTrigs_keeps (fun t => (t.pixStr i).tally) fun t k => State.imgTrig_tally ..).trans
        (State.setPixStr_tally ..)
    · exact State.imgTrigs_keeps State.mem fun t k => State.blur_mem (State.imgTrig_blur t _ _ k _ 1097792 rfl) rfl

end Sys2Proof.Machine
end

section
/-! PROOF. The training of a port and its control channel (R148 to R150, R158, R162). -/

namespace Sys2Proof.Machine

open Sys2Proof

variable {s t : State}

/-! ### Writes of one field in each register of a list -/

theorem State.forEach_rd_other {α : Type} {r : α → Nat} (lo w : Nat) (v : α → Nat) (l : List α) {a : Nat} (h : ∀ x ∈ l, r x ≠ a) :
    (s.forEach l fun t x => t.setFld (r x) lo w (v x)).rd a = s.rd a := by
  induction l generalizing s with
  | nil => rfl
  | cons x l ih =>
    exact (ih (s := s.setFld (r x) lo w (v x)) fun y hy => h y (List.mem_cons_of_mem _ hy)).trans
      (State.rd_setFld_other lo w _ (h x List.mem_cons_self))

/-- Where every entry of the list that writes register `a` writes `v`, the register's field holds `v`. -/
theorem State.forEach_fld_of_mem {α : Type} {r : α → Nat} {lo w : Nat} {v : α → Nat} {l : List α} {x : α} (hw : lo + w ≤ 32)
    (hx : x ∈ l) (h : ∀ y ∈ l, r y = r x → v y = v x) :
    (s.forEach l fun t x => t.setFld (r x) lo w (v x)).fld (r x) lo w = v x % 2 ^ w := by
  induction l generalizing s x with
  | nil => cases hx
  | cons y l ih =>
    have hl : ∀ z ∈ l, r z = r x → v z = v x := fun z hz => h z (List.mem_cons_of_mem _ hz)
    by_cases hin : ∃ z ∈ l, r z = r x
    · obtain ⟨z, hz, hzx⟩ := hin
      rw [← hzx, ← hl z hz hzx]
      exact ih (s := s.setFld (r y) lo w (v y)) hz fun u hu hru => (hl u hu (hru.trans hzx)).trans (hl z hz hzx).symm
    · have hne : ∀ z ∈ l, r z ≠ r x := fun z hz e => hin ⟨z, hz, e⟩
      obtain rfl | hx := List.mem_cons.mp hx
      · exact (State.fld_of_rd (State.forEach_rd_other (s := s.setFld (r x) lo w (v x)) lo w v l hne)).trans
          (State.fld_setFld_same _ _ _ _ _ hw)
      · exact absurd rfl (hne x hx)

/-! ### The lanes of a port -/

theorem rLnkLaneStat_inj {l m : Nat} (h : rLnkLaneStat l = rLnkLaneStat m) : l = m := by
  unfold rLnkLaneStat at h
  omega

theorem laneStat_ne_portStat (n : Fin 4) (l : Nat) : rLnkLaneStat l ≠ rLnkPortStat n := by
  unfold rLnkLaneStat rLnkPortStat
  omega

theorem laneStat_ne_portCfg (n l : Nat) : rLnkLaneStat l ≠ rLnkPortCfg n := by
  unfold rLnkLaneStat rLnkPortCfg
  omega

theorem portStat_ne_portCfg (n m : Nat) : rLnkPortStat n ≠ rLnkPortCfg m := by
  unfold rLnkPortStat rLnkPortCfg
  omega

theorem State.bonded_of_rd {n : Nat} (h : t.rd (rLnkPortCfg n) = s.rd (rLnkPortCfg n)) : t.bonded n = s.bonded n := by
  have hf : ∀ lo w, t.fld (rLnkPortCfg n) lo w = s.fld (rLnkPortCfg n) lo w := fun lo w => State.fld_of_rd h
  have hphys : t.physLane n = s.physLane n := funext fun k => by rw [State.physLane, hf, State.physLane]
  rw [State.bonded, State.lanes, hf, hphys, State.bonded, State.lanes]

theorem State.setLanes_rd_other {n st r : Nat} (h : ∀ l, rLnkLaneStat l ≠ r) : (s.setLanes n st).rd r = s.rd r :=
  State.forEach_rd_other 28 4 (fun _ => st) _ fun l _ => h l

theorem State.setLanes_bonded (n st m : Nat) : (s.setLanes n st).bonded m = s.bonded m :=
  State.bonded_of_rd (State.setLanes_rd_other (laneStat_ne_portCfg m))

theorem State.setLanes_laneState {n st l : Nat} (h : l ∈ s.bonded n) (hst : st < 16) : (s.setLanes n st).laneState l = st :=
  (State.forEach_fld_of_mem (v := fun _ => st) (by decide) h fun _ _ _ => rfl).trans (Nat.mod_eq_of_lt hst)

theorem State.setLanes_portState (n : Fin 4) (m st : Nat) : (s.setLanes m st).portState n = s.portState n :=
  State.fld_of_rd (State.setLanes_rd_other (laneStat_ne_portStat n))

theorem State.laneState_of_rd {l : Nat} (h : t.rd (rLnkLaneStat l) = s.rd (rLnkLaneStat l)) : t.laneState l = s.laneState l :=
  State.fld_of_rd h

theorem State.setPortStat_laneState (n : Fin 4) (lo w v l : Nat) :
    (s.setFld (rLnkPortStat n) lo w v).laneState l = s.laneState l :=
  State.laneState_of_rd (State.rd_setFld_other lo w v (laneStat_ne_portStat n l).symm)

theorem State.setPortStat_portState {n st : Nat} (h : st < 16) : (s.setFld (rLnkPortStat n) 28 4 st).portState n = st :=
  (State.fld_setFld_same _ _ _ _ _ (by decide)).trans (Nat.mod_eq_of_lt h)

theorem State.setLport_lport (n : Nat) (v : LnkPort) : (s.setLport n v).lport n = v := Map.get_set_same ..

theorem State.setSchHead_schHead (n : Nat) (v : SchHead) : (s.setSchHead n v).schHead n = v := Map.get_set_same ..

theorem State.lport_of_lnk {n : Nat} (h : t.lnk = s.lnk) : t.lport n = s.lport n := by rw [State.lport, h, State.lport]

theorem State.setPortState_of_not_up {n st : Nat} (h : s.portState n ≠ 3) :
    s.setPortState n st = s.setFld (rLnkPortStat n) 28 4 st := if_neg h

theorem State.setPortState_of_up {n st : Nat} (h : s.portState n = 3) :
    s.setPortState n st = s.leaveUp n st (s.fenced 2 (1 + n)) := if_pos h

/-! ### The CTLE sweep -/

/-- The greater of two settings by height, the first where they agree. -/
def higher (b p : Nat × Nat) : Nat × Nat := if b.1 < p.1 then p else b

theorem foldl_higher_max (l : List (Nat × Nat)) (b : Nat × Nat) :
    b.1 ≤ (l.foldl higher b).1 ∧ ∀ p ∈ l, p.1 ≤ (l.foldl higher b).1 := by
  induction l generalizing b with
  | nil => exact ⟨Nat.le_refl _, by simp⟩
  | cons p l ih =>
    obtain ⟨hb, hl⟩ := ih (higher b p)
    have hle : b.1 ≤ (higher b p).1 ∧ p.1 ≤ (higher b p).1 := by unfold higher; split <;> omega
    refine ⟨hle.1.trans hb, fun q hq => ?_⟩
    obtain rfl | hq := List.mem_cons.mp hq
    · exact hle.2.trans hb
    · exact hl q hq

theorem foldl_higher_mem (l : List (Nat × Nat)) (b : Nat × Nat) : l.foldl higher b = b ∨ l.foldl higher b ∈ l := by
  induction l generalizing b with
  | nil => exact .inl rfl
  | cons p l ih =>
    have hbp : higher b p = b ∨ higher b p = p := by unfold higher; split <;> simp
    rw [List.foldl_cons, List.mem_cons]
    obtain h | h := ih (higher b p)
    · exact hbp.imp (h.trans) fun e => .inl (h.trans e)
    · exact .inr (.inr h)

theorem argMax_eq (l : List Nat) : argMax l = (l.zipIdx.foldl higher (0, 0)).2 := rfl

/-- No setting is higher than the one chosen. -/
theorem le_getD_argMax (l : List Nat) (j : Nat) : l.getD j 0 ≤ l.getD (argMax l) 0 := by
  have hmax := foldl_higher_max l.zipIdx (0, 0)
  have hle : (l.zipIdx.foldl higher (0, 0)).1 ≤ l.getD (argMax l) 0 := by
    rw [argMax_eq]
    obtain h | h := foldl_higher_mem l.zipIdx (0, 0)
    · rw [h]
      exact Nat.zero_le _
    · rw [List.getD_eq_getElem?_getD, List.mk_mem_zipIdx_iff_getElem?.mp h]
      exact Nat.le_refl _
  refine Nat.le_trans ?_ hle
  rw [List.getD_eq_getElem?_getD]
  cases hj : l[j]? with
  | none => exact Nat.zero_le _
  | some v => exact hmax.2 (v, j) (List.mk_mem_zipIdx_iff_getElem?.mpr hj)

theorem argMax_lt {l : List Nat} (h : 0 < l.length) : argMax l < l.length := by
  rw [argMax_eq]
  obtain hm | hm := foldl_higher_mem l.zipIdx (0, 0)
  · rw [hm]
    exact h
  · obtain ⟨hlt, -⟩ := List.getElem?_eq_some_iff.mp (List.mk_mem_zipIdx_iff_getElem?.mp hm)
    exact hlt

theorem State.ctleSweep_of_locked {n : Nat} (heights : List (List Nat)) (h : s.training n = true) (ha : s.allLanes n 3 = true) :
    s.ctleSweep n heights =
      let t := s.forEach ((s.bonded n).zip heights) fun t p => t.setFld (rLnkLaneEq p.1) 0 4 (argMax (p.2.take 16))
      t.setLport n { t.lport n with ctle := true } := by
  simp only [State.ctleSweep, h, ha]
  rfl

theorem State.ctleSweep_fld {n k : Nat} {heights : List (List Nat)} {h : List Nat} (hlen : heights.length = s.lanes n)
    (hnd : (s.bonded n).Nodup) (hk : heights[k]? = some h) :
    (s.forEach ((s.bonded n).zip heights) fun t p => t.setFld (rLnkLaneEq p.1) 0 4 (argMax (p.2.take 16))).fld
      (rLnkLaneEq (s.physLane n k)) 0 4 = argMax (h.take 16) % 2 ^ 4 := by
  obtain ⟨hlt, -⟩ := List.getElem?_eq_some_iff.mp hk
  have hb : (s.bonded n)[k]? = some (s.physLane n k) := by
    rw [State.bonded, List.getElem?_map, List.getElem?_range (hlen ▸ hlt)]
    rfl
  have hmem : (s.physLane n k, h) ∈ (s.bonded n).zip heights :=
    List.mem_of_getElem? (List.getElem?_zip_eq_some.mpr ⟨hb, hk⟩)
  refine State.forEach_fld_of_mem (r := fun p : Nat × List Nat => rLnkLaneEq p.1) (v := fun p => argMax (p.2.take 16))
    (by decide) hmem fun p hp hpr => ?_
  obtain ⟨j, hj⟩ := List.getElem?_of_mem hp
  obtain ⟨hj1, hj2⟩ := List.getElem?_zip_eq_some.mp hj
  have hp1 : p.1 = s.physLane n k := by unfold rLnkLaneEq at hpr; omega
  have hjk : j = k := (List.getElem?_inj (List.getElem?_eq_some_iff.mp hj1).1 hnd).mp (by rw [hj1, hb, hp1])
  subst hjk
  rw [Option.some.inj (hj2.symm.trans hk)]

/-! ### Taps and precoding -/

/-- The taps that converged stand in their registers. -/
def State.dfeStored (s : State) (n : Nat) (taps : List (List Int)) : State :=
  ((s.bonded n).zip taps).foldl (fun t p =>
    (List.range 8).foldl (fun t k => t.wr (rLnkLaneDfe p.1 k) (tapWord (p.2.getD k 0))) t) s

theorem State.dfeStored_rd_other {n r : Nat} (taps : List (List Int)) (h : ∀ l k, k < 8 → rLnkLaneDfe l k ≠ r) :
    (s.dfeStored n taps).rd r = s.rd r :=
  List.foldlRecOn (motive := fun t : State => t.rd r = s.rd r) _ _ rfl fun _ ht p _ =>
    List.foldlRecOn (motive := fun t : State => t.rd r = s.rd r) _ _ ht fun t ht k hk =>
      (State.rd_wr_other t _ (h p.1 k (List.mem_range.mp hk))).trans ht

/-- Precoding is chosen. -/
def State.setPrecode (s : State) (n : Nat) (pre : Bool) : State :=
  let t := (s.setLport n { s.lport n with pre := pre }).setBit (rLnkPortStat n) 23 pre
  t.forEach (t.bonded n) (fun t l => t.setBit (rLnkLaneStat l) 8 pre)

theorem State.setPrecode_bonded (n : Fin 4) (pre : Bool) : (s.setPrecode n pre).bonded n = s.bonded n := by
  refine (State.bonded_of_rd (State.forEach_rd_other 8 1 (fun _ => pre.toNat) _ fun l _ => laneStat_ne_portCfg n l)).trans ?_
  exact State.bonded_of_rd (State.rd_setBit_other 23 pre (portStat_ne_portCfg n n))

theorem State.setPrecode_pre (n : Nat) (pre : Bool) : ((s.setPrecode n pre).lport n).pre = pre := by
  have hl : (s.setPrecode n pre).lnk = (s.setLport n { s.lport n with pre := pre }).lnk :=
    State.forEach_keeps State.lnk (f := fun t l => t.setBit (rLnkLaneStat l) 8 pre) (fun _ _ => rfl) _ _
  rw [State.lport_of_lnk hl, State.setLport_lport]

theorem State.dfeConverged_of_fixed {n : Nat} (taps : List (List Int)) (h : s.training n = true) (ha : s.allLanes n 3 = true)
    (hc : (s.lport n).ctle = true) (hm : s.fld (rLnkPortCfg n) 26 2 < 2) : s.dfeConverged n taps =
      (((s.dfeStored n taps).setPrecode n (s.fld (rLnkPortCfg n) 26 2 == 1)).setLanes n 4).reqTrain n 1
        (s.fld (rLnkPortCfg n) 26 2 == 1) := by
  obtain h0 | h0 : s.fld (rLnkPortCfg n) 26 2 = 0 ∨ s.fld (rLnkPortCfg n) 26 2 = 1 := by omega
  all_goals
    simp only [State.dfeConverged, h, ha, hc, h0]
    rfl

/-! ### The end of training -/

/-- The lanes deliver and the port is UP. -/
def State.lanesUp (s : State) (n skew : Nat) : State :=
  (((s.align n).setLanes n 6).setFld (rLnkPortStat n) 28 4 3).setFld (rLnkPortStat n) 8 8 skew

/-- Triggers and attempts count from 0. -/
def State.countsAnew (s : State) (n : Nat) : State :=
  (s.setSchHead n { s.schHead n with count := 0 }).setLport n { s.lport n with tries := 0 }

theorem State.countsAnew_fld (n r lo w : Nat) : (s.countsAnew n).fld r lo w = s.fld r lo w := rfl

theorem State.countsAnew_tries (n : Nat) : ((s.countsAnew n).lport n).tries = 0 := by
  rw [State.countsAnew, State.setLport_lport]

theorem State.countsAnew_count (n : Nat) : ((s.countsAnew n).schHead n).count = 0 := by
  have h : ((s.countsAnew n).schHead n) = (s.setSchHead n { s.schHead n with count := 0 }).schHead n := rfl
  rw [h, State.setSchHead_schHead]

theorem State.align_bonded (n : Nat) : (s.align n).bonded n = s.bonded n :=
  State.bonded_of_rd (State.rd_of_regs (State.blur_regs (State.align_blur s n 131072 rfl) rfl) _)

theorem State.lanesUp_laneState (n : Fin 4) (skew : Nat) {l : Nat} (h : l ∈ s.bonded n) : (s.lanesUp n skew).laneState l = 6 := by
  rw [State.lanesUp, State.setPortStat_laneState, State.setPortStat_laneState]
  exact State.setLanes_laneState (by rwa [State.align_bonded]) (by decide)

theorem State.lanesUp_portState (n skew : Nat) : (s.lanesUp n skew).portState n = 3 :=
  (State.fld_setFld_apart _ _ _ _ _ (by decide)).trans (State.setPortStat_portState (by decide))

theorem State.lanesUp_skew {n skew : Nat} (h : skew < 256) : (s.lanesUp n skew).fld (rLnkPortStat n) 8 8 = skew :=
  (State.fld_setFld_same _ _ _ _ _ (by decide)).trans (Nat.mod_eq_of_lt h)

section
variable {n : Nat} (h : s.training n = true) (ha : s.allLanes n 5 = true)
include h ha

theorem State.portUpEvent_of_near {skew : Nat} (hk : skew ≤ 150) :
    s.portUpEvent n skew = (((s.lanesUp n skew).countsAnew n).reqTrain n 2 false).raise (0x030 + 8 * n) (1 + n) := by
  have hk : ¬ 150 < skew := by omega
  simp only [State.portUpEvent, h, ha, hk]
  rfl

theorem State.portUpEvent_of_far {skew : Nat} (hk : 150 < skew) : s.portUpEvent n skew = s.attemptFailed n 0xFF#8 := by
  simp only [State.portUpEvent, h, ha, hk]
  rfl

end

/-- The port has given up. -/
def State.trainingLost (s : State) (n : Nat) (failed : BitVec 8) : State :=
  let bad := (s.bonded n).zipIdx.filter (fun p => failed.getLsbD p.2)
  let s1 := bad.foldl (fun t p => t.setFld (rLnkLaneStat p.1) 28 4 7) s
  let s2 := (s1.setLport n { s1.lport n with tries := 3 }).setFld (rLnkPortStat n) 0 8 (min 255 (s.fld (rLnkPortStat n) 0 8 + 1))
  (s2.raise (0x032 + 8 * n) (1 + n)).setFld (rLnkPortStat n) 28 4 0

theorem State.attemptFailed_of_third {n : Nat} (failed : BitVec 8) (h : (s.lport n).tries = 2) :
    s.attemptFailed n failed = (s.trainingLost n failed).reqTrain n 3 false := by
  simp [State.attemptFailed, State.trainingLost, h]

/-- The faulted lane stands, the others keep their alignment (R150). -/
def State.lanesFaulted (s : State) (n l : Nat) : State :=
  ((s.setLanes n 5).setFld (rLnkLaneStat l) 28 4 7).raise (0x032 + 8 * n) (1 + n)

theorem State.laneFault_of_up {n : Fin 4} {l : Nat} (hl : s.unitLive 2 (1 + n) = true) (hp : s.portState n = 3)
    (hb : (s.bonded n).contains l = true) (hc : s.bit (rLnkPortCtl n) 1 = false) :
    s.laneFault n l = ((s.lanesFaulted n l).leaveUp n 0 false).flushStream n := by
  have hne : ∀ m, rLnkLaneStat m ≠ rLnkPortCtl n := fun m => by unfold rLnkLaneStat rLnkPortCtl; omega
  have hbit : (s.lanesFaulted n l).bit (rLnkPortCtl n) 1 = false := by
    rw [← hc]
    refine State.bit_of_rd ?_
    rw [State.lanesFaulted, State.raise_rd, State.rd_setFld_other _ _ _ (hne l), State.setLanes_rd_other hne]
  simp only [State.laneFault, hl, hp, hb]
  exact if_neg (Bool.eq_false_iff.mp hbit)

theorem State.lanesFaulted_same (n l : Nat) : (s.lanesFaulted n l).laneState l = 7 :=
  (State.raise_fld ..).trans (State.fld_setFld_same _ _ _ _ _ (by decide))

theorem State.lanesFaulted_other {n l m : Nat} (hm : m ∈ s.bonded n) (h : m ≠ l) : (s.lanesFaulted n l).laneState m = 5 :=
  (State.raise_fld ..).trans ((State.fld_setFld_ne _ _ _ _ _ (fun e => h (rLnkLaneStat_inj e).symm)).trans
    (State.setLanes_laneState hm (by decide)))

theorem State.lanesFaulted_portState (n : Fin 4) (l : Nat) : (s.lanesFaulted n l).portState n = s.portState n :=
  (State.raise_fld ..).trans ((State.fld_setFld_ne _ _ _ _ _ (laneStat_ne_portStat n l)).trans (State.setLanes_portState n n 5))

/-! ### The clauses -/

theorem State.allLanes_iff (n st : Nat) : s.allLanes n st = true ↔ ∀ l ∈ s.bonded n, s.laneState l = st := by
  simp [State.allLanes]

/-- The control channel is in sync. -/
def State.synced (s : State) (n : Nat) : State :=
  (s.setLport n { s.lport n with sync := true, run := true }).setBit (rLnkPortStat n) 22 true

theorem State.synced_rd_other {n r : Nat} (h : r ≠ rLnkPortStat n) : (s.synced n).rd r = s.rd r :=
  State.rd_setBit_other (s := s.setLport n _) 22 true h.symm

theorem State.ctlSync_of_waiting {n : Fin 4} (hl : s.unitLive 2 (1 + n) = true) (hv : s.v12On n = true)
    (hs : (s.lport n).sync = false) (hp : s.portState n = 1 ∨ s.portState n = 4) (ha : s.allLanes n 1 = true) :
    s.ctlSync n = (s.synced n).reqTrain n 0 false := by
  have hp' : (s.synced n).portState n = s.portState n := State.fld_setBit_apart (s := s.setLport n _) _ _ _ _ (by decide)
  have hb : (s.synced n).bonded n = s.bonded n := State.bonded_of_rd (State.synced_rd_other (portStat_ne_portCfg n n).symm)
  have ha' : (s.synced n).allLanes n 1 = true := by
    rw [State.allLanes_iff] at ha ⊢
    rw [hb]
    exact fun l hm => (State.laneState_of_rd (State.synced_rd_other (laneStat_ne_portStat n l))).trans (ha l hm)
  unfold State.ctlSync
  rw [if_neg (by simp [hl, hv, hs])]
  refine if_pos (c := ((s.synced n).portState n == 1 || (s.synced n).portState n == 4) && (s.synced n).allLanes n 1) ?_
  simp [ha', hp', hp]

theorem State.ctlSyncTimeout_of_waiting {n : Nat} (hl : s.unitLive 2 (1 + n) = true) (hp : s.portState n = 1)
    (hs : (s.lport n).sync = false) :
    s.ctlSyncTimeout n = (s.setFld (rLnkPortStat n) 28 4 0).raise (0x036 + 8 * n) (1 + n) := by
  rw [← State.setPortState_of_not_up (st := 0) (by omega)]
  exact if_pos (by simp [hl, hp, hs])

theorem State.cdrLock_of_signal {n : Nat} (h : s.training n = true)
    (ha : (s.bonded n).all (fun l => s.laneState l == 1 || s.laneState l == 2) = true) : s.cdrLock n = s.setLanes n 3 :=
  if_pos (by rw [h, ha]; rfl)

theorem State.amLock_of_locked {n : Nat} (h : s.training n = true) (ha : s.allLanes n 4 = true) :
    s.amLock n = (s.setLanes n 5).setFld (rLnkPortStat n) 28 4 2 :=
  if_pos (by rw [h, ha]; rfl)

theorem State.trainingTimeout_of_running {n : Nat} (failed : BitVec 8) (h : s.inTraining n = true) (hr : (s.lport n).run = true) :
    s.trainingTimeout n failed = s.attemptFailed n failed :=
  if_pos (by rw [h, hr]; rfl)

theorem State.retrain_of_on {n : Nat} (hl : s.unitLive 2 (1 + n) = true) (hv : s.v12On n = true) : s.retrain n =
    ((s.setPortState n 1).setLport n { (s.setPortState n 1).lport n with tries := 0 }).startAttempt n :=
  if_pos (by rw [hl, hv]; rfl)

theorem exec_retrain_of_reached {n : Fin 4} (h : s.reaches 2 = true) : exec (.retrain n) s = .next (s.retrain n).follow :=
  if_neg (by simp [h])

theorem fenceU_ne_portStat (n : Fin 4) : rLnkPortStat n ≠ rDevFenceU (2 * srcCluster (0x036 + 8 * n) + (1 + n) / 32) := by
  revert n
  decide

/-- Settles O29. -/
theorem portTraining : Obligations.PortTraining := by
  refine ⟨fun s n hl hv hs hp ha => ?_, fun s n => ?_, fun s n hl hp hs => ?_, fun s n h ha => ?_,
    fun s n heights h ha hwf hlen hnd => ?_, fun s n taps h ha hc hm => ?_, fun s n h ha => ?_, fun s n skew h ha hk => ?_,
    fun s n skew h ha hk => ?_, fun s n failed h hr => ?_, fun s n failed h => ?_, fun s n k hl hp hb hc => ?_,
    fun s n hr hl hv hp => ?_, fun s n hr hl hv hp => ?_⟩
  · refine .of_eq rfl (congrArg State.follow (State.ctlSync_of_waiting hl hv hs hp ha)) ⟨State.setLport_lport .., ?_, fun r hr =>
      State.synced_rd_other hr⟩
    exact State.bit_setBit_same _ _ _ _ (by decide)
  · refine .of_eq (t := s.ctlSyncLoss n) rfl rfl ⟨State.setLport_lport .., ?_, fun r hr => ?_⟩
    · exact State.bit_setBit_same _ _ _ _ (by decide)
    · exact State.rd_setBit_other (s := s.setLport n _) 22 false hr.symm
  · refine .of_eq rfl (congrArg State.follow (State.ctlSyncTimeout_of_waiting hl hp hs)) ⟨?_, fun h => ?_⟩
    · exact (State.raise_fld ..).trans (State.setPortStat_portState (by decide))
    · exact State.raise_hears_of h rfl rfl (State.rd_setFld_other _ _ _ (fenceU_ne_portStat n))
  · exact .of_eq rfl (State.cdrLock_of_signal h ha) fun l hm => State.setLanes_laneState hm (by decide)
  · refine .of_eq rfl (State.ctleSweep_of_locked heights h ha) ⟨?_, fun k hs hk i hi j hj => ?_⟩
    · exact congrArg LnkPort.ctle (State.setLport_lport ..)
    · have hl16 : hs.length = 16 := by
        have hall := (Bool.and_eq_true_iff.mp hwf).2
        simpa using List.all_eq_true.mp hall hs (List.mem_of_getElem? hk)
      have htake : hs.take 16 = hs := List.take_of_length_le (by omega)
      have hlt : argMax hs < 16 := hl16 ▸ argMax_lt (by omega)
      have hidx : i = argMax hs := by
        rw [← hi]
        refine (State.ctleSweep_fld hlen hnd hk).trans ?_
        rw [htake]
        exact Nat.mod_eq_of_lt hlt
      rw [hidx]
      exact le_getD_argMax hs j
  · refine .of_eq rfl (State.dfeConverged_of_fixed taps h ha hc hm) ⟨?_, fun l hl => ?_⟩
    · rw [State.lport_of_lnk (State.blur_lnk (State.setLanes_blur _ _ _ 16 rfl) rfl)]
      exact State.setPrecode_pre ..
    · refine State.setLanes_laneState ?_ (by decide)
      rw [State.setPrecode_bonded, State.bonded_of_rd (State.dfeStored_rd_other taps fun l k hk => ?_)]
      · exact hl
      · unfold rLnkLaneDfe rLnkPortCfg
        omega
  · refine .of_eq rfl (congrArg State.follow (State.amLock_of_locked h ha)) ⟨State.setPortStat_portState (by decide), fun l hl => ?_⟩
    rw [State.setPortStat_laneState]
    exact State.setLanes_laneState hl (by decide)
  · refine .of_eq (t := (s.lanesUp n skew).countsAnew n) rfl (congrArg State.follow (State.portUpEvent_of_near h ha hk)) ⟨?_, ?_,
      State.countsAnew_tries n, State.countsAnew_count n, fun l hl => ?_⟩
    · exact (State.countsAnew_fld ..).trans (State.lanesUp_portState ..)
    · exact (State.countsAnew_fld ..).trans (State.lanesUp_skew (by omega))
    · exact (State.countsAnew_fld ..).trans (State.lanesUp_laneState n skew hl)
  · exact .of_eq rfl (congrArg State.follow (State.portUpEvent_of_far h ha hk)) rfl
  · exact .of_eq rfl (congrArg State.follow (State.trainingTimeout_of_running failed h hr)) rfl
  · exact ⟨_, State.attemptFailed_of_third failed h, State.setPortStat_portState (by decide)⟩
  · exact .of_eq rfl (congrArg State.follow (State.laneFault_of_up hl hp hb hc)) ⟨State.lanesFaulted_same .., fun l hm hne =>
      State.lanesFaulted_other hm hne, (State.lanesFaulted_portState n _).trans hp⟩
  · refine ⟨s.setPortState n 1, ?_, ?_⟩
    · rw [exec_retrain_of_reached hr, State.retrain_of_on hl hv]
    · rw [State.setPortState_of_not_up hp]
      exact ⟨State.setPortStat_portState (by decide), fun r hr => State.rd_setFld_other _ _ _ hr.symm⟩
  · refine ⟨s.setPortState n 1, ?_, State.setPortState_of_up hp⟩
    rw [exec_retrain_of_reached hr, State.retrain_of_on hl hv]

end Sys2Proof.Machine
end

section
/-! PROOF. Codewords and packets of the sensor link (R135 to R140, R146). -/

namespace Sys2Proof.Machine

open Sys2Proof

variable {s t : State}

/-! ### Codewords -/

theorem chunks_length {α : Type} (n : Nat) (l : List α) (k : Nat) : (chunks n l k).length = k := by
  rw [chunks, List.length_map, List.length_range]

/-- The 10-bit words of a codeword (R135, R136, R139). -/
def State.fecWords (s : State) (l : Nat) (symbols : List Nat) : List Nat :=
  (chunks 10 ((grayOf (s.bit (rLnkLaneStat l) 8) (s.lane l).prev symbols).flatMap grayBits) 544).map bitsNat

/-- What the decoder found counts (R139). -/
def State.fecCounted (s : State) (l : Nat) (dec : Option (List Nat × Nat)) : State :=
  match dec with
  | some (_, k) => s.countN (rLnkFecCor l) k
  | none => (s.count (rLnkFecUnc l)).raise (0x033 + 8 * (l / 8)) (1 + l / 8)

/-- A block descrambled behind those before it. -/
def descrambled (unc : Bool) (a : BitVec 58 × List Blk) (b : List Bool) : BitVec 58 × List Blk :=
  ((descramble a.1 (b.drop 1)).1, a.2 ++ [⟨b.headD false, blockBytes (descramble a.1 (b.drop 1)).2, unc⟩])

theorem foldl_descrambled_length (unc : Bool) (bs : List (List Bool)) (a : BitVec 58 × List Blk) :
    (bs.foldl (descrambled unc) a).2.length = a.2.length + bs.length := by
  induction bs generalizing a with
  | nil => rfl
  | cons b bs ih =>
    rw [List.foldl_cons, ih, List.length_cons, descrambled, List.length_append, List.length_singleton]
    omega

section
variable {l : Nat} {symbols : List Nat} (hl : s.unitLive 2 (16 + l) = true) (hlen : symbols.length = 2720)
include hl hlen

theorem State.codeword_of_training (hst : s.laneState l = 4) : ∃ v : Lane,
    s.codeword l symbols = (s.fecCounted l (gfLink.decode 30 15 (s.fecWords l symbols))).setLane l v ∧
      v.prev = symbols.getLast?.getD 0 % 4 ∧ v.fifo = [] := by
  unfold State.codeword
  rw [hst, if_neg (by simp [hl, hlen])]
  extract_lets ln bits w dec unc s1 msg blks am hit drop r cw miss first s2
  have hs1 : s1 = s.fecCounted l dec := by
    simp only [s1]
    clear_value dec
    cases dec <;> rfl
  have hw : w = s.fecWords l symbols := rfl
  have hdec : dec = gfLink.decode 30 15 w := rfl
  rw [← hw, ← hdec, ← hs1, if_neg (by simp)]
  exact ⟨_, rfl, rfl, rfl⟩

theorem State.codeword_of_ready {k : Nat} (hst : s.laneState l = 6) (hcw : (s.lane l).cw = some k) (hk : k ≠ 1023)
    (hm : (s.lane l).miss < 4) : ∃ (v : Lane) (b : List Blk),
    s.codeword l symbols = (s.fecCounted l (gfLink.decode 30 15 (s.fecWords l symbols))).setLane l v ∧
      v.cw = some (k + 1) ∧ v.miss = (s.lane l).miss ∧ v.fifo = (s.lane l).fifo ++ b ∧ b.length = 20 - (s.lane l).lag := by
  unfold State.codeword
  rw [hst, if_neg (by simp [hl, hlen])]
  extract_lets ln bits w dec unc s1 msg blks am hit drop r cw miss first s2
  have ham : am = false := by simp [am, ln, hcw, hk]
  have hhit : hit = false := by simp [hit, ham]
  have hdrop : drop = false := by simp [drop, hhit, ham]
  have hmiss : miss = (s.lane l).miss := by simp [miss, hhit, ham, ln]
  have hcw' : cw = some (k + 1) := by simp [cw, hhit, ln, hcw, hk]
  have hr : r.2.length = 20 := by
    have := foldl_descrambled_length unc (chunks 257 msg 20) (ln.scr, [])
    rw [chunks_length] at this
    simp only [r, hdrop]
    exact this.trans (Nat.zero_add 20)
  have hs1 : s1 = s.fecCounted l dec := by
    simp only [s1]
    clear_value dec
    cases dec <;> rfl
  have hw : w = s.fecWords l symbols := rfl
  have hdec : dec = gfLink.decode 30 15 w := rfl
  rw [← hw, ← hdec, ← hs1, if_neg (by simp [hmiss]; omega)]
  refine ⟨_, r.2.drop (s.lane l).lag, rfl, hcw', hmiss, rfl, ?_⟩
  rw [List.length_drop, hr]

end

theorem State.setLane_lane (l : Nat) (v : Lane) : (s.setLane l v).lane l = v := Map.get_set_same ..

theorem fecCor_ne_fecUnc (l : Nat) : rLnkFecCor l ≠ rLnkFecUnc l := by
  unfold rLnkFecCor rLnkFecUnc
  omega

theorem State.fecCounted_laneState (l m : Nat) (dec : Option (List Nat × Nat)) : (s.fecCounted l dec).laneState m = s.laneState m := by
  have hcor : rLnkFecCor l ≠ rLnkLaneStat m := by unfold rLnkFecCor rLnkLaneStat; omega
  have hunc : rLnkFecUnc l ≠ rLnkLaneStat m := by unfold rLnkFecUnc rLnkLaneStat; omega
  refine State.laneState_of_rd ?_
  cases dec with
  | none => exact (State.raise_rd ..).trans (State.rd_count_other hunc)
  | some c => exact State.rd_countN_other _ hcor

theorem State.fecCounted_some (l k : Nat) (c : List Nat) :
    (s.fecCounted l (some (c, k))).rd (rLnkFecCor l) = satAdd (s.rd (rLnkFecCor l)) k ∧
      (s.fecCounted l (some (c, k))).rd (rLnkFecUnc l) = s.rd (rLnkFecUnc l) :=
  ⟨State.rd_wr_same .., State.rd_countN_other _ (fecCor_ne_fecUnc l)⟩

theorem State.fecCounted_none (l : Nat) :
    (s.fecCounted l none).rd (rLnkFecUnc l) = satAdd (s.rd (rLnkFecUnc l)) 1 ∧
      (s.fecCounted l none).rd (rLnkFecCor l) = s.rd (rLnkFecCor l) :=
  ⟨(State.raise_rd ..).trans (State.rd_wr_same ..), (State.raise_rd ..).trans (State.rd_count_other (fecCor_ne_fecUnc l).symm)⟩

/-! ### Short packets -/

/-- A short packet leaves its slot. -/
def State.takeSlot (s : State) (n : Nat) (rest : List (List Byte × Bool)) : State := s.setLport n { s.lport n with slots := rest }

section
variable {n : Nat} {h : List Byte} {unc : Bool} {rest : List (List Byte × Bool)} (hup : s.portUp n = true)
  (hsl : (s.lport n).slots = (h, unc) :: rest) (hz : h.all (· == 0#8) = false)
include hup hsl hz

theorem State.packetRx_of_slot : s.packetRx n =
    if ((s.takeSlot n rest).checkHdr n h true unc).2 then
      ((s.takeSlot n rest).checkHdr n h true unc).1.deliver n h [] false unc
    else ((s.takeSlot n rest).checkHdr n h true unc).1 := by
  unfold State.packetRx
  rw [if_pos hup, State.rxWork, State.packetReceive]
  simp only [hsl]
  rw [if_neg (by simp [hz])]
  rfl

theorem State.packetRx_of_bad_header (hc : crc8 (h.take 7) ≠ leAt h 7 1) :
    s.packetRx n = (s.takeSlot n rest).hdrErr n (rLnkHdrErr n) := by
  rw [State.packetRx_of_slot hup hsl hz]
  simp [State.checkHdr, hc]

end

/-- A packet stands at the end of the inbox of its port. -/
def State.posted (s : State) (n : Nat) (q : Pkt) : State := s.setLport n { s.lport n with inbox := (s.lport n).inbox ++ [q] }

/-- The packet of a short header (R142). -/
def shortPkt (h : List Byte) : Pkt :=
  ⟨leAt h 1 1, leAt h 0 1 / 16, (h.getD 0 0#8).getLsbD 3, leAt h 2 2, leAt h 4 2, leAt h 6 1, [], false, false, false⟩

theorem State.packetRx_of_short {n : Nat} {h : List Byte} {rest : List (List Byte × Bool)} (hup : s.portUp n = true)
    (hsl : (s.lport n).slots = (h, false) :: rest) (hz : h.all (· == 0#8) = false) (hc : crc8 (h.take 7) = leAt h 7 1)
    (hlo : 0x08 ≤ leAt h 1 1) (hhi : leAt h 1 1 ≤ 0x0C) (hd : s.strDecl (n * 16 + leAt h 0 1 / 16) = true) :
    s.packetRx n = ((s.takeSlot n rest).posted n (shortPkt h)).nextPkt n := by
  have hd' : (s.takeSlot n rest).strDecl (n * 16 + leAt h 0 1 / 16) = true := hd
  have hok : (s.takeSlot n rest).checkHdr n h true false = (s.takeSlot n rest, true) := by
    simp [State.checkHdr, hc, hlo, hhi, hd']
  have hne : ¬ (leAt h 1 1 = 0x7F ∧ (!false) = true ∧ (!false) = true) := by omega
  rw [State.packetRx_of_slot hup hsl hz, hok, if_pos rfl, State.deliver, if_neg hne]
  rfl

theorem State.posted_takeSlot (n : Nat) (rest : List (List Byte × Bool)) (q : Pkt) :
    ((s.takeSlot n rest).posted n q).lport n = { s.lport n with slots := rest, inbox := (s.lport n).inbox ++ [q] } := by
  rw [State.posted, State.setLport_lport, State.takeSlot, State.setLport_lport]

theorem fenceU_ne_hdrErr (n : Fin 4) : rLnkHdrErr n ≠ rDevFenceU (2 * srcCluster (0x034 + 8 * n) + (1 + n) / 32) := by
  revert n
  decide

/-- Settles O30. -/
theorem codewordsAndPackets : Obligations.CodewordsAndPackets := by
  refine ⟨fun s l symbols hl hst hlen => ?_, fun s l symbols k hl hst hlen hcw hk hm => ?_,
    fun s n h unc rest hup hsl hz hc => ?_, fun s n h rest hup hsl hz hc hlo hhi hd => ?_, fun s n hup => ?_⟩
  · obtain ⟨v, hv, hprev, hfifo⟩ := State.codeword_of_training hl hlen hst
    rw [State.fecWords] at hv
    generalize gfLink.decode 30 15 _ = dec at hv ⊢
    refine .of_eq rfl (congrArg State.follow hv) ⟨?_, ?_, (State.fecCounted_laneState ..).trans hst, ?_⟩
    · rw [State.setLane_lane, hprev]
    · rw [State.setLane_lane, hfifo]
    · cases dec with
      | none => exact State.fecCounted_none l
      | some c => exact State.fecCounted_some l c.2 c.1
  · obtain ⟨v, b, hv, hvcw, hmiss, hfifo, hb⟩ := State.codeword_of_ready hl hlen hst hcw hk hm
    generalize gfLink.decode 30 15 _ = dec at hv
    refine .of_eq rfl (congrArg State.follow hv) ⟨?_, ?_, (State.fecCounted_laneState ..).trans hst, b, hb, ?_⟩
    · rw [State.setLane_lane, hvcw]
    · rw [State.setLane_lane, hmiss]
    · rw [State.setLane_lane, hfifo]
  · refine .of_eq rfl (congrArg State.follow (State.packetRx_of_bad_header hup hsl hz hc)) ⟨?_, ?_, fun h => ?_⟩
    · rw [State.hdrErr, State.lport_of_lnk (State.raise_lnk ..)]
      exact State.setLport_lport ..
    · exact (State.raise_rd ..).trans (State.rd_wr_same ..)
    · refine State.raise_hears_of h rfl rfl (State.rd_count_other ?_)
      exact fenceU_ne_hdrErr n
  · exact .of_eq rfl (congrArg State.follow (State.packetRx_of_short hup hsl hz hc hlo hhi hd))
      ⟨State.posted_takeSlot n rest (shortPkt h), rfl⟩
  · refine .of_eq rfl (congrArg State.follow (if_neg ?_)) rfl
    simp [hup]

end Sys2Proof.Machine
end

section
/-! PROOF. Adaptation and the eye scan (R151, R155 to R157). -/

namespace Sys2Proof.Machine

open Sys2Proof

variable {s t : State}

/-! ### Adaptation -/

/-- Writes of different registers: each holds its own value at the end. -/
theorem State.forEach_wr_of_mem {α : Type} {r : α → Nat} (v : α → Word) {l : List α} {x : α} (hx : x ∈ l)
    (hr : ∀ y ∈ l, r y = r x → y = x) : (s.forEach l fun t x => t.wr (r x) (v x)).rd (r x) = v x := by
  have hlast : ∀ (l : List α) (t : State), (∀ y ∈ l, r y = r x → y = x) → t.rd (r x) = v x →
      (t.forEach l fun t x => t.wr (r x) (v x)).rd (r x) = v x := by
    intro l t hr ht
    induction l generalizing t with
    | nil => exact ht
    | cons y l ih =>
      refine ih (t.wr (r y) (v y)) (fun z hz => hr z (List.mem_cons_of_mem _ hz)) ?_
      by_cases hy : r y = r x
      · rw [hr y List.mem_cons_self hy, State.rd_wr_same]
      · rw [State.rd_wr_other _ _ hy, ht]
  induction l generalizing s with
  | nil => cases hx
  | cons y l ih =>
    have htail : ∀ z ∈ l, r z = r x → z = x := fun z hz => hr z (List.mem_cons_of_mem _ hz)
    obtain rfl | hx := List.mem_cons.mp hx
    · exact hlast l _ htail (State.rd_wr_same ..)
    · exact ih hx htail

theorem State.dfeUpdate_rd {l k : Nat} (signE : Int) (signD : List Int) (hst : s.laneState l = 6) (hb : s.bit (rLnkLaneEq l) 8 = false)
    (hk : k < 8) : (s.dfeUpdate l signE signD).rd (rLnkLaneDfe l k) =
      tapWord ((s.rd (rLnkLaneDfe l k)).toInt + signE.sign * (signD.getD k 0).sign) := by
  have he : s.dfeUpdate l signE signD = s.forEach (List.range 8) fun t k =>
      t.wr (rLnkLaneDfe l k) (tapWord ((s.rd (rLnkLaneDfe l k)).toInt + signE.sign * (signD.getD k 0).sign)) :=
    if_pos ⟨hst, by rw [hb]; rfl⟩
  rw [he]
  exact State.forEach_wr_of_mem (r := rLnkLaneDfe l)
    (fun k => tapWord ((s.rd (rLnkLaneDfe l k)).toInt + signE.sign * (signD.getD k 0).sign)) (List.mem_range.mpr hk)
    fun y _ h => by unfold rLnkLaneDfe at h; omega

/-! ### The start of a scan -/

theorem Map.get_filter_out {α : Type} (d : Nat → α) (p : Nat → Bool) {k : Nat} (h : p k = false) (m : Map α) :
    Map.get d (m.filter fun q => p q.1) k = d k := by
  induction m with
  | nil => rfl
  | cons q m ih =>
    by_cases hq : p q.1 = true
    · have hne : q.1 ≠ k := fun e => by simp [e, h] at hq
      rw [List.filter_cons_of_pos (by simpa using hq), Map.get, if_neg hne, ih]
    · rw [List.filter_cons_of_neg (by simpa using hq), ih]

theorem Map.get_filter_in {α : Type} (d : Nat → α) (p : Nat → Bool) {k : Nat} (h : p k = true) (m : Map α) :
    Map.get d (m.filter fun q => p q.1) k = Map.get d m k := by
  induction m with
  | nil => rfl
  | cons q m ih =>
    by_cases hq : p q.1 = true
    · rw [List.filter_cons_of_pos (by simpa using hq), Map.get, Map.get, ih]
    · have hne : q.1 ≠ k := fun e => by simp [e, h] at hq
      rw [List.filter_cons_of_neg (by simpa using hq), ih, Map.get, if_neg hne]

/-- A register outside the result RAM of a lane. -/
def keptByScan (l a : Nat) : Bool := !(decide (rLnkLaneEsram l 0 ≤ a) && decide (a < rLnkLaneEsram l 8192))

/-- The result RAM of a lane is empty. -/
def State.ramCleared (s : State) (l : Nat) : State := { s with regs := s.regs.filter (fun p => keptByScan l p.1) }

theorem State.ramCleared_in {l k : Nat} (h : k < 8192) :
    (s.ramCleared l).rd (rLnkLaneEsram l k) = regDefault (rLnkLaneEsram l k) :=
  Map.get_filter_out regDefault (keptByScan l) (by unfold keptByScan rLnkLaneEsram; simp; omega) s.regs

theorem State.ramCleared_out {l a : Nat} (h : a < rLnkLaneEsram l 0) : (s.ramCleared l).rd a = s.rd a :=
  Map.get_filter_in regDefault (keptByScan l) (by unfold keptByScan; simp; omega) s.regs

theorem esctl_lt_esram (l : Nat) : rLnkLaneEsctl l < rLnkLaneEsram l 0 := by
  unfold rLnkLaneEsctl rLnkLaneEsram
  omega

theorem esstat_lt_esram (l k : Nat) : rLnkLaneEsstat l < rLnkLaneEsram l k := by
  unfold rLnkLaneEsstat rLnkLaneEsram
  omega

theorem esstat_ne_esctl (l : Nat) : rLnkLaneEsstat l ≠ rLnkLaneEsctl l := by
  unfold rLnkLaneEsstat rLnkLaneEsctl
  omega

/-- The half-width of the grid is held in its range (R155). -/
theorem State.scanConfig_span (l : Nat) (v : Word) : (s.scanConfig l v).fld (rLnkLaneEsctl l) 16 6 = clampNat 16 40 (fget v 16 6) := by
  have hlt : clampNat 16 40 (fget v 16 6) < 2 ^ 6 := by unfold clampNat; omega
  rw [State.scanConfig, State.fld_wr_same, fget_fset_same _ _ _ _ (by decide), Nat.mod_eq_of_lt hlt]

section
variable {l : Nat} (v : Word) (hl : s.unitLive 2 (16 + l) = true) (hidle : s.fld (rLnkLaneEsstat l) 28 4 ≠ 1)
include hl hidle

theorem State.scanStart_of_up (hst : s.laneState l = 6) :
    s.scanStart l v = ((s.scanConfig l v).ramCleared l).wr (rLnkLaneEsstat l) 0x10000000#32 := by
  unfold State.scanStart
  rw [if_neg (by simp [hl]), if_neg hidle]
  exact if_pos hst

theorem State.scanStart_of_not_up (hst : s.laneState l ≠ 6) :
    s.scanStart l v = (s.scanConfig l v).setFld (rLnkLaneEsstat l) 28 4 4 := by
  unfold State.scanStart
  rw [if_neg (by simp [hl]), if_neg hidle]
  exact if_neg hst

end

/-! ### A point of a scan -/

/-- The dwell of a point has ended: its word stands in the result RAM (R156). -/
def State.pointStored (s : State) (l errors : Nat) : State :=
  s.wr (rLnkLaneEsram l (s.fld (rLnkLaneEsstat l) 0 14))
    (BitVec.ofNat 32 (min 0xFFFFFF errors * 256 + s.fld (rLnkLaneEsctl l) 16 6))

section
variable {l : Nat} (errors : Nat) (hrun : s.fld (rLnkLaneEsstat l) 28 4 = 1)
include hrun

theorem State.scanPoint_in_row
    (hp : s.fld (rLnkLaneEsstat l) 0 14 % 128 + 2 ^ s.fld (rLnkLaneEsctl l) 0 2 < 128) : s.scanPoint l errors =
      (s.pointStored l errors).setFld (rLnkLaneEsstat l) 0 14
        (s.fld (rLnkLaneEsstat l) 0 14 + 2 ^ s.fld (rLnkLaneEsctl l) 0 2) := by
  have hpt : s.fld (rLnkLaneEsstat l) 0 14 + 2 ^ s.fld (rLnkLaneEsctl l) 0 2 =
      128 * (s.fld (rLnkLaneEsstat l) 0 14 / 128) + (s.fld (rLnkLaneEsstat l) 0 14 % 128 + 2 ^ s.fld (rLnkLaneEsctl l) 0 2) := by
    omega
  rw [hpt]
  unfold State.scanPoint
  rw [if_pos hrun]
  dsimp only
  rw [if_pos hp, if_pos hp]
  rfl

theorem State.scanPoint_at_end
    (hp : 128 ≤ s.fld (rLnkLaneEsstat l) 0 14 % 128 + 2 ^ s.fld (rLnkLaneEsctl l) 0 2)
    (hv : 64 ≤ s.fld (rLnkLaneEsstat l) 0 14 / 128 + 2 ^ s.fld (rLnkLaneEsctl l) 2 2) : s.scanPoint l errors =
      ((s.pointStored l errors).setFld (rLnkLaneEsstat l) 0 14 8192).setFld (rLnkLaneEsstat l) 28 4 2 := by
  unfold State.scanPoint
  simp only [if_pos hrun, if_neg (Nat.not_lt.mpr hp), if_neg (Nat.not_lt.mpr hv)]
  rfl

end

/-- Settles O31. -/
theorem adaptationAndEyeScan : Obligations.AdaptationAndEyeScan := by
  refine ⟨fun s l e d hl hst hb _ => ?_, fun s l e d h => ?_, fun s l v hr hl hst hidle => ?_, fun s l v hr hl hst hidle => ?_,
    fun s l hr hl hrun => ?_, fun s l errors hl hrun hp hpt => ?_, fun s l errors hl hrun hp hv => ?_⟩
  · exact .of_eq rfl (if_pos hl) fun k hk => State.dfeUpdate_rd e d hst hb hk
  · refine .of_eq rfl ?_ rfl
    have hkeep : s.dfeUpdate l e d = s := if_neg (by obtain h | h := h <;> simp [h])
    rw [hkeep, ite_self]
  · have hne : ∀ k, rLnkLaneEsstat l ≠ rLnkLaneEsram l k := fun k => (esstat_lt_esram l k).ne
    refine .of_eq (if_neg (by simp [hr])) ((if_pos hl).trans (State.scanStart_of_up v hl hidle hst)) ⟨State.rd_wr_same .., ?_, fun k hk => ?_⟩
    · rw [State.fld_wr_ne _ _ _ (esstat_ne_esctl l), State.fld_of_rd (State.ramCleared_out (esctl_lt_esram l))]
      exact State.scanConfig_span l v
    · rw [State.rd_wr_other _ _ (hne k)]
      exact State.ramCleared_in hk
  · exact .of_eq (if_neg (by simp [hr])) ((if_pos hl).trans (State.scanStart_of_not_up v hl hidle hst))
      (State.fld_setFld_same _ _ _ _ _ (by decide))
  · exact .of_eq (if_neg (by simp [hr])) ((if_pos hl).trans (if_pos hrun)) ⟨State.fld_setFld_same _ _ _ _ _ (by decide), fun r hr =>
      State.rd_setFld_other _ _ _ hr.symm⟩
  · have hne := (esstat_lt_esram l (s.fld (rLnkLaneEsstat l) 0 14)).ne
    refine .of_eq rfl ((if_pos hl).trans (State.scanPoint_in_row errors hrun hp)) ⟨?_, ?_, ?_⟩
    · rw [State.fld_setFld_same _ _ _ _ _ (by decide)]
      exact Nat.mod_eq_of_lt (by omega)
    · rw [State.fld_setFld_apart _ _ _ _ _ (by decide), State.pointStored, State.fld_wr_ne _ _ _ hne.symm, hrun]
    · rw [State.rd_setFld_other _ _ _ hne]
      exact State.rd_wr_same ..
  · refine .of_eq rfl ((if_pos hl).trans (State.scanPoint_at_end errors hrun hp hv)) ⟨?_, ?_⟩
    · rw [State.fld_setFld_apart _ _ _ _ _ (by decide)]
      exact State.fld_setFld_same _ _ _ _ _ (by decide)
    · exact State.fld_setFld_same _ _ _ _ _ (by decide)

end Sys2Proof.Machine
end

section
/-! PROOF. Requests to the head and its answers (R159, R160, R162). -/

namespace Sys2Proof.Machine

open Sys2Proof

variable {s t : State}

theorem leNat_lt (b : List Byte) : leNat b < 256 ^ b.length := by
  induction b with
  | nil => exact Nat.one_pos
  | cons x b ih =>
    have hx : x.toNat < 256 := x.isLt
    rw [leNat, List.length_cons, Nat.pow_succ]
    omega

theorem leAt_one_lt (b : List Byte) (o : Nat) : leAt b o 1 < 256 := by
  refine (leNat_lt _).trans_le ?_
  have h : (slice b o 1).length ≤ 1 := by simp [slice]
  exact (Nat.pow_le_pow_right (by decide) h).trans (Nat.le_of_eq (Nat.pow_one 256))

/-! ### The outstanding request -/

/-- No request is outstanding. -/
def State.reqGone (s : State) (n : Nat) : State := s.setLport n { s.lport n with cur := none }

/-- The host's request has ended with a state and a reason. -/
def State.reqClosed (s : State) (n st reason : Nat) : State :=
  ((s.reqGone n).setFld (rLnkHcStat n) 28 4 st).setFld (rLnkHcStat n) 8 8 reason

theorem State.reqGone_lport (n : Nat) : (s.reqGone n).lport n = { s.lport n with cur := none } := by
  rw [State.reqGone, State.setLport_lport]

theorem State.reqGone_schHead (n m : Nat) : (s.reqGone n).schHead m = s.schHead m := rfl

theorem State.reqClosed_lport (n st reason : Nat) : (s.reqClosed n st reason).lport n = { s.lport n with cur := none } :=
  (State.lport_of_lnk rfl).trans (State.reqGone_lport n)

theorem State.reqClosed_cur (n st reason : Nat) : ((s.reqClosed n st reason).lport n).cur = none := by
  rw [State.reqClosed_lport]

theorem State.reqClosed_state {n st : Nat} (reason : Nat) (h : st < 16) : (s.reqClosed n st reason).fld (rLnkHcStat n) 28 4 = st := by
  rw [State.reqClosed, State.fld_setFld_apart _ _ _ _ _ (by decide), State.fld_setFld_same _ _ _ _ _ (by decide)]
  exact Nat.mod_eq_of_lt h

theorem State.reqClosed_reason {n reason : Nat} (st : Nat) (h : reason < 256) :
    (s.reqClosed n st reason).fld (rLnkHcStat n) 8 8 = reason :=
  (State.fld_setFld_same _ _ _ _ _ (by decide)).trans (Nat.mod_eq_of_lt h)

theorem State.reqClosed_rd_other {n st reason r : Nat} (h : rLnkHcStat n ≠ r) : (s.reqClosed n st reason).rd r = s.rd r :=
  (State.rd_setFld_other _ _ _ h).trans (State.rd_setFld_other _ _ _ h)

section
variable {n k : Nat} {r : CtlReq} (hcur : (s.lport n).cur = some (r, k))
include hcur

theorem State.endReq_of_host (st reason : Nat) (h : r.cmd = 1 ∨ r.cmd = 2) :
    s.endReq n st reason = (s.reqClosed n st reason).sendNext n := by
  simp only [State.endReq, hcur, if_pos h]
  rfl

theorem State.endReq_of_own (st reason : Nat) (h : ¬ (r.cmd = 1 ∨ r.cmd = 2)) :
    s.endReq n st reason = (s.reqGone n).sendNext n := by
  simp only [State.endReq, hcur, if_neg h]
  rfl

end

/-! ### Packets from the head -/

section
variable {n k cmd : Nat} {b : List Byte} {r : CtlReq} {reqs : List Nat} (f : State → State)
  (hl : s.unitLive 2 (1 + n) = true) (hs : (s.lport n).sync = true) (hb : ctlBad b true = false)
include hl hs hb

theorem State.ctlReceive_of_answer (hc : leAt b 0 1 = cmd) (hcur : (s.lport n).cur = some (r, k)) (htag : r.tag = leAt b 1 1)
    (hreq : reqs.contains r.cmd = true) (hlen : ctlLenOk cmd (leAt b 2 2) (some r) = true) :
    s.ctlReceive n cmd b true reqs f = f (if cmd = 0xEE then s.raise (0x036 + 8 * n) (1 + n) else s) := by
  have ha : s.answered n (leAt b 1 1) reqs = some r := by
    simp only [State.answered, hcur]
    exact if_pos ⟨htag, hreq⟩
  simp [State.ctlReceive, hl, hs, hb, hc, ha, hlen]

theorem State.hevent_of_good (hc : leAt b 0 1 = 0xC0) (hlen : leAt b 2 2 ≤ 16) : s.hevent n b true =
    (s.wr (rLnkHcEvt n) (BitVec.ofNat 32 (leAt b 4 2))).raise (0x037 + 8 * n) (1 + n) := by
  have hlen' : ¬ 16 < leAt b 2 2 := by omega
  simp [State.hevent, hl, hs, hb, hc, hlen']

end

theorem State.hevent_of_bad {n : Nat} {b : List Byte} (hl : s.unitLive 2 (1 + n) = true) (hs : (s.lport n).sync = true)
    (hb : ctlBad b true = true) : s.hevent n b true = s.ctlErr n := by
  simp [State.hevent, hl, hs, hb]

/-- Lanes that waited for a signal have one (R148, R149). -/
def State.signalled (s : State) (n : Nat) : State :=
  s.forEach (s.bonded n) fun t l => if t.laneState l = 1 then t.setFld (rLnkLaneStat l) 28 4 2 else t

theorem State.signalled_laneState {n l : Nat} (hl : l ∈ s.bonded n) (h : s.laneState l = 1) : (s.signalled n).laneState l = 2 := by
  have hone : ∀ (t : State) m, (if t.laneState m = 1 then t.setFld (rLnkLaneStat m) 28 4 2 else t).laneState l =
      if m = l ∧ t.laneState l = 1 then 2 else t.laneState l := by
    intro t m
    by_cases hm : m = l
    · subst hm
      by_cases ht : t.laneState m = 1
      · simp only [ht, and_self, if_true]
        exact State.fld_setFld_same _ _ _ _ _ (by decide)
      · simp [ht]
    · simp only [hm, false_and, if_false]
      split
      · exact State.fld_setFld_ne _ _ _ _ _ fun e => hm (rLnkLaneStat_inj e)
      · rfl
  have hrest : ∀ (ls : List Nat) (t : State), t.laneState l = 2 ∨ (l ∈ ls ∧ t.laneState l = 1) →
      (t.forEach ls fun t l => if t.laneState l = 1 then t.setFld (rLnkLaneStat l) 28 4 2 else t).laneState l = 2 := by
    intro ls
    induction ls with
    | nil => exact fun t ht => ht.elim id fun h => absurd h.1 List.not_mem_nil
    | cons m ls ih =>
      intro t ht
      refine ih _ ?_
      rw [hone]
      obtain ht | ⟨hmem, ht⟩ := ht
      · simp [ht]
      · by_cases hm : m = l
        · simp [hm, ht]
        · rw [if_neg (fun e => hm e.1)]
          exact .inr ⟨(List.mem_cons.mp hmem).resolve_left (Ne.symm hm), ht⟩
  exact hrest _ _ (.inr ⟨hl, h⟩)

theorem State.signalled_lnk (n : Nat) : (s.signalled n).lnk = s.lnk :=
  State.forEach_keeps State.lnk (fun t l => by split <;> rfl) _ _

/-- An epoch is acknowledged (R227). -/
def State.epochAcked (s : State) (n e : Nat) : State :=
  (s.setFld (rSchHdEpstat n) 16 8 e).setSchHead n { s.schHead n with ack := e == s.fld (rSchHdEpstat n) 8 8 }

theorem State.epochAcked_ack (n e : Nat) : ((s.epochAcked n e).schHead n).ack = (e == s.fld (rSchHdEpstat n) 8 8) := by
  rw [State.epochAcked, State.setSchHead_schHead]

theorem State.epochAcked_lport (n e : Nat) : (s.epochAcked n e).lport n = s.lport n :=
  State.lport_of_lnk (by rw [State.epochAcked, State.setSchHead_lnk]; rfl)

theorem State.epochAcked_fld {n e : Nat} (h : e < 256) : (s.epochAcked n e).fld (rSchHdEpstat n) 16 8 = e := by
  rw [State.epochAcked, State.setSchHead_fld, State.fld_setFld_same _ _ _ _ _ (by decide)]
  exact Nat.mod_eq_of_lt h

theorem State.epochAck_eq (n : Nat) (b : List Byte) (k : Bool) : s.epochAck n b k =
    s.ctlReceive n 0x91 b k [0x11] fun t => (t.epochAcked n (leAt (ctlData b) 0 1)).endReq n 2 0 := by
  refine congrArg _ (funext fun t => ?_)
  have h : (t.setFld (rSchHdEpstat n) 16 8 (leAt (ctlData b) 0 1)).fld (rSchHdEpstat n) 8 8 = t.fld (rSchHdEpstat n) 8 8 :=
    State.fld_setFld_apart _ _ _ _ _ (by decide)
  simp only [h]
  rfl

/-! ### Requests -/

/-- A host's request is ready. -/
def State.hostReady (s : State) (n : Nat) (read : Bool) : State :=
  (s.setFld (rLnkHcStat n) 28 4 1).setLport n { s.lport n with rdyHost := some read }

section
variable {n : Nat} (read : Bool) (hl : s.unitLive 2 (1 + n) = true) (hb : s.fld (rLnkHcStat n) 28 4 ≠ 1)
include hl hb

theorem State.headGo_of_sync (hs : (s.lport n).sync = true) : s.headGo n read = (s.hostReady n read).sendNext n := by
  simp [State.headGo, hl, hb, hs, State.hostReady]

theorem State.headGo_of_no_sync (hs : (s.lport n).sync = false) : s.headGo n read = s.setFld (rLnkHcStat n) 28 4 5 := by
  simp [State.headGo, hl, hb, hs]

end

theorem State.hostReady_holds (n : Nat) (read : Bool) : (s.hostReady n read).fld (rLnkHcStat n) 28 4 = 1 ∧
    (s.hostReady n read).lport n = { s.lport n with rdyHost := some read } := by
  rw [State.hostReady, State.setLport_lport, State.setLport_fld]
  exact ⟨State.fld_setFld_same _ _ _ _ _ (by decide), rfl⟩

theorem State.setFld_lport (a lo w v n : Nat) : (s.setFld a lo w v).lport n = s.lport n := rfl

theorem State.sendReq_lport (n cmd addr : Nat) (data : List Byte) (len : Nat) :
    (s.sendReq n cmd addr data len).lport n =
      let r : CtlReq := ⟨cmd, ((s.lport n).tag + 1) % 256, addr, data, len⟩
      { s.lport n with tag := r.tag, cur := some (r, 0), tx := (s.lport n).tx ++ [r.bytes] } := by
  simp only [State.sendReq, State.setFld_lport, State.setLport_lport]

theorem State.sendReq_tag (n cmd addr : Nat) (data : List Byte) (len : Nat) :
    (s.sendReq n cmd addr data len).fld (rLnkHcStat n) 0 8 = ((s.lport n).tag + 1) % 256 := by
  simp only [State.sendReq]
  exact (State.fld_setFld_same _ _ _ _ _ (by decide)).trans (Nat.mod_mod ..)

theorem State.sendNext_of_write {n : Nat} (hs : (s.lport n).sync = true) (hc : (s.lport n).cur = none)
    (he : (s.lport n).rdyEpoch = none) (ht : (s.lport n).rdyTrain = []) (hh : (s.lport n).rdyHost = some false) :
    s.sendNext n = (s.setLport n { s.lport n with rdyHost := none }).sendReq n 0x01 (s.rd (rLnkHcAddr n)).toNat
      (leBytes 4 (s.rd (rLnkHcData n)).toNat) 4 := by
  unfold State.sendNext
  simp only [hs, hc, he, ht, hh]
  rfl

theorem fenceU_ne_hcEvt (n : Fin 4) : rLnkHcEvt n ≠ rDevFenceU (2 * srcCluster (0x037 + 8 * n) + (1 + n) / 32) := by
  revert n
  decide

theorem hcStat_ne_hcData (n : Nat) : rLnkHcStat n ≠ rLnkHcData n := by
  unfold rLnkHcStat rLnkHcData
  omega

theorem hcStat_ne_ctlErr (n : Nat) : rLnkHcStat n ≠ rLnkCtlErr n := by
  unfold rLnkHcStat rLnkCtlErr
  omega

theorem exec_of_reached_link {c : Instr} {u : State} (h : s.reaches 2 = true) (hc : exec c s = if !s.reaches 2 then .next s else .next u) :
    exec c s = .next u := hc.trans (if_neg (by simp [h]))

/-- Settles O32. -/
theorem headControl : Obligations.HeadControl := by
  refine ⟨fun s n hr hl hb hs => ?_, fun s n hr hl hb hs => ?_, fun s n hr hl hb hs => ?_, fun s n hs hc he ht hh => ?_,
    fun s n b r k hl hs hb hc hlen hcur htag hcmd => ?_, fun s n b r k hl hs hb hc hcur htag hcmd hlen => ?_,
    fun s n b r k hl hs hb hc hcur htag hcmd hop => ?_, fun s n b r k hl hs hb hc hcur htag hcmd hop => ?_,
    fun s n b r k hl hs hb hc hlen hcur htag hcmd => ?_, fun s n b r k hl hs hb hc hlen hcur htag hcmd => ?_,
    fun s n b hl hs hb hc hlen => ?_, fun s n b hl hs hb => ?_, fun s n r k hcur hk => ?_, fun s n r k hcur hk hcmd => ?_⟩
  · exact .of_eq (exec_of_reached_link hr rfl) (congrArg State.follow (State.headGo_of_sync false hl hb hs))
      (State.hostReady_holds n false)
  · exact .of_eq (exec_of_reached_link hr rfl) (congrArg State.follow (State.headGo_of_sync true hl hb hs))
      (State.hostReady_holds n true)
  · exact .of_eq (exec_of_reached_link hr rfl) (congrArg State.follow (State.headGo_of_no_sync true hl hb hs)) rfl
  · rw [State.sendNext_of_write hs hc he ht hh, State.sendReq_lport, State.sendReq_tag, State.setLport_lport]
    exact ⟨rfl, rfl⟩
  · refine .of_eq rfl (congrArg State.follow ((State.ctlReceive_of_answer _ hl hs hb hc hcur htag (by simp [hcmd])
      (by simp [ctlLenOk, hlen])).trans (State.endReq_of_host hcur 2 0 (.inl hcmd)))) ⟨State.reqClosed_lport ..,
        State.reqClosed_state 0 (by decide), State.reqClosed_reason 2 (by decide)⟩
  · refine .of_eq rfl (congrArg State.follow ((State.ctlReceive_of_answer _ hl hs hb hc hcur htag (by simp [hcmd])
      (by simp [ctlLenOk, hlen])).trans (State.endReq_of_host (s := s.wr _ _) hcur 2 0 (.inr hcmd)))) ⟨State.reqClosed_lport ..,
        State.reqClosed_state 0 (by decide), ?_⟩
    exact (State.reqClosed_rd_other (hcStat_ne_hcData n)).trans (State.rd_wr_same ..)
  · have hown : ¬ (r.cmd = 1 ∨ r.cmd = 2) := by omega
    refine .of_eq rfl (congrArg State.follow ((State.ctlReceive_of_answer _ hl hs hb hc hcur htag (by simp [hcmd])
      (by simp [ctlLenOk])).trans ?_)) ⟨State.reqGone_lport n, rfl⟩
    exact (congrArg (fun u : State => u.endReq n 2 0) (if_neg hop)).trans (State.endReq_of_own hcur 2 0 hown)
  · have hown : ¬ (r.cmd = 1 ∨ r.cmd = 2) := by omega
    have hlnk : (s.signalled n).lport n = s.lport n := State.lport_of_lnk (State.signalled_lnk n)
    refine .of_eq rfl (congrArg State.follow ((State.ctlReceive_of_answer _ hl hs hb hc hcur htag (by simp [hcmd])
      (by simp [ctlLenOk])).trans ?_)) ⟨(State.reqGone_lport (s := s.signalled n) n).trans ?_, fun l hl h => ?_⟩
    · exact (congrArg (fun u : State => u.endReq n 2 0) (if_pos hop)).trans
        (State.endReq_of_own (s := s.signalled n) (by rw [hlnk]; exact hcur) 2 0 hown)
    · rw [hlnk]
    · exact State.signalled_laneState hl h
  · have hown : ¬ (r.cmd = 1 ∨ r.cmd = 2) := by omega
    have hlnk : ∀ e, (s.epochAcked n e).lport n = s.lport n := fun e => State.epochAcked_lport n e
    have he : s.epochAck n b true = ((s.epochAcked n (leAt (ctlData b) 0 1)).reqGone n).sendNext n :=
      (State.epochAck_eq n b true).trans ((State.ctlReceive_of_answer _ hl hs hb hc hcur htag (by simp [hcmd])
        (by simp [ctlLenOk, hlen])).trans (State.endReq_of_own (s := s.epochAcked n _) (by rw [hlnk]; exact hcur) 2 0 hown))
    refine .of_eq (t := (s.epochAcked n (leAt (ctlData b) 0 1)).reqGone n) rfl (congrArg State.follow he) ⟨?_, ?_, ?_⟩
    · rw [State.reqGone_lport, hlnk]
    · rw [State.reqGone, State.setLport_fld]
      exact State.epochAcked_fld (leAt_one_lt ..)
    · rw [State.reqGone_schHead]
      exact State.epochAcked_ack ..
  · have hlnk : (s.raise (0x036 + 8 * n) (1 + n)).lport n = s.lport n := State.lport_of_lnk (State.raise_lnk ..)
    refine .of_eq rfl (congrArg State.follow ((State.ctlReceive_of_answer _ hl hs hb hc hcur htag
      (by rcases hcmd with h | h <;> simp [h]) (by simpa [ctlLenOk] using hlen)).trans
        (State.endReq_of_host (s := s.raise (0x036 + 8 * n) (1 + n)) (by rw [hlnk]; exact hcur) 3 _ hcmd)))
      ⟨State.reqClosed_cur .., State.reqClosed_state _ (by decide), State.reqClosed_reason 3 (leAt_one_lt ..), fun h => ?_⟩
    exact (State.hears_of_aud rfl _ _).trans (State.raise_hears s h)
  · exact .of_eq rfl (congrArg State.follow (State.hevent_of_good hl hs hb hc hlen)) ⟨(State.raise_rd ..).trans (State.rd_wr_same ..),
      fun h => State.raise_hears_of h rfl rfl (State.rd_wr_other _ _ (fenceU_ne_hcEvt n))⟩
  · exact .of_eq rfl (congrArg State.follow (State.hevent_of_bad hl hs hb)) rfl
  · have he : s.ctlTimeout n = s.setLport n { s.lport n with cur := some (r, k + 1), tx := (s.lport n).tx ++ [r.bytes] } := by
      simp only [State.ctlTimeout, hcur, if_pos hk]
    exact .of_eq rfl (congrArg State.follow he) ⟨State.setLport_lport .., rfl⟩
  · have hk' : ¬ k < 2 := by omega
    have hlnk : (s.ctlErr n).lport n = s.lport n := State.lport_of_lnk (State.raise_lnk ..)
    have he : s.ctlTimeout n = (s.ctlErr n).endReq n 4 0 := by simp [State.ctlTimeout, hcur, hk']
    refine .of_eq rfl (congrArg State.follow (he.trans (State.endReq_of_host (by rw [hlnk]; exact hcur) 4 0 hcmd)))
      ⟨State.reqClosed_cur .., State.reqClosed_state 0 (by decide), ?_⟩
    exact (State.reqClosed_rd_other (hcStat_ne_ctlErr n)).trans ((State.raise_rd ..).trans (State.rd_wr_same ..))

end Sys2Proof.Machine
end

section
/-! PROOF. The mains axis, the trigger inputs and A6 (R192 to R194, R230). -/

namespace Sys2Proof.Machine

open Sys2Proof

variable {s t : State}

/-! ### The mains axis -/

/-- A5 has lost its lock, and its entries no longer fire. -/
def State.a5Lost (s : State) : State :=
  (((s.setFld rSchA5Phase 0 16 (s.a5Phase s.nowTu)).setBit rSchA5Stat 31 false).setA5
    { s.sch.a5 with last := s.sch.a5.zc.head?, zc := [] }).withdrawAxis 5

theorem State.a5Unlock_eq : s.a5Unlock = (s.a5Lost.setFld rSchEvtInfo 28 4 3).raise 0x077 1 := rfl

theorem State.a5Lost_regs : s.a5Lost.regs =
    ((s.setFld rSchA5Phase 0 16 (s.a5Phase s.nowTu)).setBit rSchA5Stat 31 false).regs :=
  State.blur_regs (State.withdrawAxis_blur _ _ 524288 rfl) rfl

theorem State.withdrawAxis_a5 (ax : Nat) : (s.withdrawAxis ax).sch.a5 = s.sch.a5 :=
  State.forEach_keeps (fun t : State => t.sch.a5) (fun t k => by split <;> rfl) _ s

theorem State.a5Lost_a5 : s.a5Lost.sch.a5 = { s.sch.a5 with last := s.sch.a5.zc.head?, zc := [] } := State.withdrawAxis_a5 5

theorem State.a5Unlock_a5 : s.a5Unlock.sch.a5 = { s.sch.a5 with last := s.sch.a5.zc.head?, zc := [] } := by
  rw [State.a5Unlock_eq, State.raise_sch]
  exact State.a5Lost_a5

theorem State.a5Unlock_locked : s.a5Unlock.bit rSchA5Stat 31 = false := by
  rw [State.a5Unlock_eq, State.raise_bit, State.bit_setFld_ne _ _ _ _ (by decide), State.bit_of_rd (State.rd_of_regs State.a5Lost_regs _)]
  exact State.bit_setBit_same _ _ _ _ (by decide)

theorem State.a5Unlock_cause : s.a5Unlock.fld rSchEvtInfo 28 4 = 3 := by
  rw [State.a5Unlock_eq, State.raise_fld]
  exact State.fld_setFld_same _ _ _ _ _ (by decide)

theorem State.a5Unlock_hears (h : s.speaks 0x077 1 = true) : s.a5Unlock.hears 0x077 1 = true := by
  have hblur : s.a5Lost.blur 524304 = s.blur 524304 := State.withdrawAxis_blur _ 5 524304 rfl
  refine State.raise_hears_of (t := s.a5Lost.setFld rSchEvtInfo 28 4 3) h ?_ ?_ ?_
  · exact State.blur_variant (s := s) (t := s.a5Lost) hblur rfl
  · exact State.blur_plane (s := s) (t := s.a5Lost) hblur rfl
  · rw [State.rd_setFld_other _ _ _ (by decide), State.rd_of_regs State.a5Lost_regs, State.rd_setBit_other _ _ (by decide),
      State.rd_setFld_other _ _ _ (by decide)]

section
variable {stamp : Int} (hl : s.unitLive 4 14 = true)
include hl

theorem State.zeroCrossing_of_regular (hlock : s.bit rSchA5Stat 31 = true) (hp : periodOk (stamp - s.sch.a5.zc.getD 0 0) = true) :
    s.zeroCrossing stamp = ((s.setA5 { s.sch.a5 with
      cycle := (s.sch.a5.cycle + 1) % 2 ^ 48, zc := (stamp :: s.sch.a5.zc).take 65 }).syncA5).repredict 5 := by
  unfold State.zeroCrossing
  rw [if_neg (by simp [hl]), if_pos hlock, if_pos hp]

theorem State.zeroCrossing_of_irregular (hlock : s.bit rSchA5Stat 31 = true) (hp : periodOk (stamp - s.sch.a5.zc.getD 0 0) = false) :
    s.zeroCrossing stamp = s.a5Unlock.setA5 { s.a5Unlock.sch.a5 with zc := [stamp] } := by
  unfold State.zeroCrossing
  rw [if_neg (by simp [hl]), if_pos hlock, if_neg (Bool.eq_false_iff.mp hp)]

theorem State.zeroCrossing_of_first (hlock : s.bit rSchA5Stat 31 = false) (hz : s.sch.a5.zc = []) :
    s.zeroCrossing stamp = s.setA5 { s.sch.a5 with zc := [stamp] } := by
  have havg : 1 ≤ s.a5Avg := Nat.le_max_left ..
  have hsync : (s.setA5 { s.sch.a5 with zc := [stamp] }).syncA5 = s.setA5 { s.sch.a5 with zc := [stamp] } := by
    refine if_pos ?_
    simp [State.a5Tavg, State.setA5]
  have htake : List.take 65 [stamp] = [stamp] := rfl
  unfold State.zeroCrossing
  rw [if_neg (by simp [hl]), if_neg (by simp [hlock]), hz]
  dsimp only
  rw [htake, hsync]
  refine if_pos ?_
  have hlen : ¬ s.a5Avg < [stamp].length := Nat.not_lt.mpr havg
  rw [decide_eq_false hlen]
  rfl

end

/-! ### Trigger inputs -/

/-- The accepted level of an input has changed. -/
def State.toggled (s : State) (n : Nat) : State := { s with sch := { s.sch with ti := s.sch.ti ^^^ BitVec.ofNat 8 (2 ^ n) } }

/-- A6 has counted an edge. -/
def State.a6Counted (s : State) (stamp : Int) : State :=
  let u := s.setLive rSchA6CntLo (BitVec.ofNat 64 (((s.liveAt rSchA6CntLo).toNat + 1) % 2 ^ 48))
  { u with sch := { u.sch with a6t := stamp - 400 * tuPerNs } }

/-- An accepted edge before its event. -/
def State.edgeTaken (s : State) (n : Nat) (level : Bool) (stamp : Int) : State :=
  if s.fld rSchA6Cfg 8 3 = n ∧ a6Edge (s.fld rSchA6Cfg 4 2) level = true then (s.toggled n).a6Counted stamp else s.toggled n

theorem State.triggerInput_of_change {n : Nat} {level : Bool} (stamp : Int) (hl : s.unitLive 4 15 = true) (hserv : s.serving = true)
    (h : s.sch.ti.getLsbD n ≠ level) : s.triggerInput n level stamp =
      if edgeSel (s.fld (rSchTiCfg n) 0 2) level then (s.edgeTaken n level stamp).raise (0x078 + n) 15
      else s.edgeTaken n level stamp := by
  unfold State.triggerInput
  rw [if_neg (by simp [hl, hserv, h])]
  rfl

theorem State.liveAt_setLive (a : Nat) (v : BitVec 64) : (s.setLive a v).liveAt a = v := Map.get_set_same ..

theorem State.edgeTaken_holds (n : Nat) (level : Bool) (stamp : Int) :
    (s.edgeTaken n level stamp).sch.ti = s.sch.ti ^^^ BitVec.ofNat 8 (2 ^ n) ∧ (s.edgeTaken n level stamp).regs = s.regs ∧
    (s.edgeTaken n level stamp).liveAt rSchA6CntLo =
      (if s.fld rSchA6Cfg 8 3 = n ∧ a6Edge (s.fld rSchA6Cfg 4 2) level = true then
        BitVec.ofNat 64 (((s.liveAt rSchA6CntLo).toNat + 1) % 2 ^ 48) else s.liveAt rSchA6CntLo) ∧
    (s.edgeTaken n level stamp).sch.a6t =
      (if s.fld rSchA6Cfg 8 3 = n ∧ a6Edge (s.fld rSchA6Cfg 4 2) level = true then stamp - 400 * tuPerNs else s.sch.a6t) := by
  unfold State.edgeTaken
  by_cases h : s.fld rSchA6Cfg 8 3 = n ∧ a6Edge (s.fld rSchA6Cfg 4 2) level = true
  · simp only [if_pos h]
    exact ⟨rfl, rfl, State.liveAt_setLive (s := s.toggled n) .., rfl⟩
  · simp only [if_neg h]
    exact ⟨rfl, rfl, rfl, rfl⟩

theorem State.liveAt_of_live {a : Nat} (h : t.live = s.live) : t.liveAt a = s.liveAt a := by rw [State.liveAt, h, State.liveAt]

theorem State.edgeTaken_speaks (n : Nat) (level : Bool) (stamp : Int) (x u : Nat) :
    (s.edgeTaken n level stamp).speaks x u = s.speaks x u := by
  unfold State.edgeTaken
  split <;> rfl

theorem State.a6Clear_of_idle {v : Word} (hl : s.unitLive 4 15 = true) (hv : v.getLsbD 31 = true) (hc : s.capture = false) :
    s.a6Clear v = (s.setLive rSchA6CntLo 0#64).rearmAxis 6 := by
  simp [State.a6Clear, hl, hv, hc]

theorem State.a6Clear_of_capture {v : Word} (hl : s.unitLive 4 15 = true) (hv : v.getLsbD 31 = true) (hc : s.capture = true) :
    s.a6Clear v = s.violation rSchA6Cfg := by
  simp [State.a6Clear, hl, hv, hc]

/-- Settles O37. -/
theorem mainsAndTriggerInputs : Obligations.MainsAndTriggerInputs := by
  refine ⟨fun s stamp hl hlock hp => ?_, fun s stamp hl hlock hp => ?_, fun s stamp hl hlock hz => ?_, fun s hl hlock => ?_,
    fun s n level stamp hl hserv h => ?_, fun s n level stamp h => ?_, fun s v hr hl hv hc => ?_, fun s v hr hl hv hc => ?_⟩
  · exact .of_eq rfl (State.zeroCrossing_of_regular hl hlock hp) ⟨rfl, rfl⟩
  · exact .of_eq rfl (State.zeroCrossing_of_irregular hl hlock hp) ⟨State.a5Unlock_locked, rfl⟩
  · exact .of_eq rfl (State.zeroCrossing_of_first hl hlock hz) ⟨rfl, rfl⟩
  · exact .of_eq rfl (if_pos (by rw [hl, hlock]; rfl)) ⟨State.a5Unlock_locked, State.a5Unlock_a5, State.a5Unlock_cause,
      State.a5Unlock_hears⟩
  · obtain ⟨hti, hregs, hlive, ha6⟩ := State.edgeTaken_holds (s := s) n level stamp
    refine .of_eq rfl (State.triggerInput_of_change stamp hl hserv h) ?_
    split
    case isTrue hsel =>
      refine ⟨by rw [State.raise_sch, hti], by rw [State.raise_regs, hregs], ?_, by rw [State.raise_sch, ha6], fun _ hsp => ?_⟩
      · rw [State.liveAt_of_live (State.raise_live ..), hlive]
      · exact State.raise_hears _ ((State.edgeTaken_speaks ..).trans hsp)
    case isFalse hsel => exact ⟨hti, hregs, hlive, ha6, fun h => absurd h hsel⟩
  · refine .of_eq rfl (if_pos ?_) rfl
    obtain h | h := h <;> simp only [h, beq_self_eq_true, Bool.not_false, Bool.or_true, Bool.true_or]
  · refine .of_eq (if_neg (by simp [hr])) (State.a6Clear_of_idle hl hv hc) ⟨?_, ?_⟩
    · rw [State.liveAt_of_live (State.blur_live (State.rearmAxis_blur _ 6 524288 rfl) rfl)]
      exact State.liveAt_setLive ..
    · exact State.blur_regs (s := s.setLive rSchA6CntLo 0#64) (State.rearmAxis_blur _ 6 524288 rfl) rfl
  · exact .of_eq (if_neg (by simp [hr])) (State.a6Clear_of_capture hl hv hc) rfl

end Sys2Proof.Machine
end

section
/-! PROOF. The decoders (R397, R398, R400, R405), and the registers that a write of the recording memory leaves. -/

namespace Sys2Proof.Machine

open Sys2Proof

variable {s t : State}

/-! ### Registers behind a write of the recording memory -/

theorem State.setInj_rd_other {r sc : Nat} (h : rMemScInj sc ≠ r) (n : Nat) : (s.setInj sc n).rd r = s.rd r :=
  State.setInj_keepsRegs sc n r (by simpa using h.symm)

theorem State.putBurst_rd_other {r sc : Nat} (h : rMemScInj sc ≠ r) (loc : Nat) (b : List Byte) :
    (s.putBurst sc loc b).rd r = s.rd r := by
  unfold State.putBurst
  extract_lets inj f s0 s1
  have h0 : s0.rd r = s.rd r := by
    simp only [s0]
    split
    · rfl
    · exact State.setInj_rd_other h _
  have h1 : s1.rd r = s0.rd r := by
    simp only [s1]
    split
    · exact State.raise_rd ..
    · rfl
  exact h1.trans h0

theorem State.settle_rd_other {r sc : Nat} (h : rMemScInj sc ≠ r) (loc : Nat) : (s.settle sc loc).rd r = s.rd r := by
  unfold State.settle
  refine List.foldlRecOn (motive := fun t : State => t.rd r = s.rd r) _ _ (State.rd_of_regs rfl r) fun t ht b hb => ?_
  obtain ⟨-, hsel⟩ := List.mem_filter.mp hb
  have hsc : b.sc = sc := by
    obtain ⟨-, hsame⟩ := Bool.and_eq_true_iff.mp hsel
    obtain ⟨hsc, -⟩ := Bool.and_eq_true_iff.mp hsame
    exact beq_iff_eq.mp hsc
  exact (State.putBurst_rd_other (by rwa [hsc]) ..).trans ht

section
variable {r : Nat} (hinj : ∀ sc, rMemScInj sc ≠ r)
include hinj

theorem State.memWrite_rd_other (href : rMemRefused ≠ r) (a : Nat) (b : List Byte) : (s.memWrite a b).1.rd r = s.rd r := by
  have hrefuse : ∀ (t : State) n, (t.refuse n).rd r = t.rd r := by
    intro t n
    unfold State.refuse
    split
    · rfl
    · exact (State.raise_rd ..).trans (State.rd_countN_other _ href)
  refine (hrefuse _ _).trans (List.foldlRecOn (motive := fun t : State × List MStat => t.1.rd r = s.rd r) _ _ rfl fun t ht p _ => ?_)
  split
  · exact ((State.putBurst_rd_other (hinj _) ..).trans (State.settle_rd_other (hinj _) _)).trans ht
  · exact ht

theorem State.bulkWrite_rd_other (href : rMemRefused ≠ r) (hcoin : ∀ q, q < 4 → rMemCoinStat q ≠ r) (p a : Nat) (b : List Byte) :
    (s.bulkWrite p a b).rd r = s.rd r := by
  have hspend : ∀ (t : State) n, (t.spend p n).rd r = t.rd r := by
    intro t n
    unfold State.spend
    split
    · rfl
    · refine (State.serve_keepsRegs (s := { t with mem := _ }) r ?_).trans rfl
      simp only [List.mem_map, List.mem_range, not_exists, not_and]
      exact fun q hq => hcoin q hq
  exact (hspend _ _).trans (State.memWrite_rd_other hinj href a b)

end

/-! ### Decoders -/

theorem State.setDec_dec (d : Nat) (v : VDec) : (s.setDec d v).dec d = v := by rw [State.dec, State.setDec, State.setVid, Map.get_set_same]

theorem State.dec_of_vid {d : Nat} (h : t.vid = s.vid) : t.dec d = s.dec d := by rw [State.dec, h, State.dec]

theorem exec_of_reached_vid {c : Instr} {u : State} (h : s.reaches 10 = true) (hc : exec c s = if !s.reaches 10 then .next s else .next u) :
    exec c s = .next u := hc.trans (if_neg (by simp [h]))

/-- A decoder begins anew, with what the display layers hold. -/
def State.decBegun (s : State) (d : Nat) : State :=
  (s.setDec d { VDec.init with held := (s.dec d).held }).setFld (rVidDecStat d) 28 4 1

/-- A decoder is idle. -/
def State.decIdle (s : State) (d : Nat) : State :=
  (s.setDec d { VDec.init with held := (s.dec d).held, seqs := (s.dec d).seqs }).setFld (rVidDecStat d) 28 4 0

theorem State.decBegun_dec (d : Nat) : (s.decBegun d).dec d = { VDec.init with held := (s.dec d).held } := by
  have h : (s.decBegun d).vid = (s.setDec d { VDec.init with held := (s.dec d).held }).vid := rfl
  rw [State.dec_of_vid h, State.setDec_dec]

theorem State.decIdle_dec (d : Nat) :
    (s.decIdle d).dec d = { VDec.init with held := (s.dec d).held, seqs := (s.dec d).seqs } := by
  have h : (s.decIdle d).vid = (s.setDec d { VDec.init with held := (s.dec d).held, seqs := (s.dec d).seqs }).vid := rfl
  rw [State.dec_of_vid h, State.setDec_dec]

section
variable {d : Nat} (hl : s.unitLive 10 (10 + d) = true)
include hl

theorem State.decStart_of_busy (h : s.decState d ≠ 0) : s.decStart d = s.violation (rVidDecCmd d) := by
  simp [State.decStart, hl, h]

theorem State.decStart_of_idle (h : s.decState d = 0) (hn : 8 ≤ s.decNbuf d) : s.decStart d = (s.decBegun d).decAdvance d := by
  unfold State.decStart
  rw [if_neg (by simp [hl]), if_neg (by simp [h]), if_neg (by omega)]
  rfl

theorem State.decEos_of_running (h : s.decState d ≠ 0) : s.decEos d = (s.setFld (rVidDecStat d) 28 4 3).decAdvance d :=
  if_neg (by simp [h, hl])

theorem State.inwrWrite_of_fits {v : Word} (h : (v - s.rd (rVidDecInrd d)).toNat < s.inSize d) :
    s.inwrWrite d v = (s.wr (rVidDecInwr d) v).decAdvance d := by
  unfold State.inwrWrite
  rw [if_neg (by simp [hl]), if_neg (by omega)]

theorem State.inwrWrite_of_over {v : Word} (h : s.inSize d ≤ (v - s.rd (rVidDecInrd d)).toNat) :
    s.inwrWrite d v = s.violation (rVidDecInwr d) := by
  unfold State.inwrWrite
  rw [if_neg (by simp [hl]), if_pos h]

end

/-! ### Output of a picture -/

/-- The descriptor of a picture (R399). -/
def VOut.desc (p : VOut) (seq : Nat) : List Byte :=
  (proxyDesc p.sps.fmt p.epoch p.sps.w p.sps.h (roundUp (proxyGeom p.sps.fmt p.sps.w p.sps.h).1 64)
    (roundUp (proxyGeom p.sps.fmt p.sps.w p.sps.h).2.1 64) p.serial seq).take 28 ++ leBytes 4 p.flags ++ List.replicate 4064 0#8

theorem VOut.desc_length (p : VOut) (seq : Nat) : (p.desc seq).length = 4096 := by
  simp only [VOut.desc, proxyDesc, List.length_append, List.length_take, leBytes_length, List.length_replicate]
  omega

/-- A picture has left the decoder: the ring names it. -/
def State.ringOut (w u : State) (d : Nat) (p : VOut) (l : List VOut) : State :=
  w.setDec d { w.dec d with ready := l, seqs := Map.set (fun _ => 0) (u.dec d).seqs p.buf ((u.dec d).seq + 1), seq := (u.dec d).seq + 1 }

theorem State.ringOut_dec (w u : State) (d : Nat) (p : VOut) (l : List VOut) : (State.ringOut w u d p l).dec d = { w.dec d with
    ready := l, seqs := Map.set (fun _ => 0) (u.dec d).seqs p.buf ((u.dec d).seq + 1), seq := (u.dec d).seq + 1 } := by
  rw [State.ringOut, State.setDec_dec]

theorem State.count_dec (a d : Nat) : (s.count a).dec d = s.dec d := rfl

theorem State.ringOut_regs (w u : State) (d : Nat) (p : VOut) (l : List VOut) : (State.ringOut w u d p l).regs = w.regs := rfl

theorem State.ringOut_variant (w u : State) (d : Nat) (p : VOut) (l : List VOut) : (State.ringOut w u d p l).variant = w.variant := rfl

theorem State.ringOut_plane (w u : State) (d : Nat) (p : VOut) (l : List VOut) : (State.ringOut w u d p l).plane = w.plane := rfl

theorem pictures_ne_fenceU (d : Fin 2) : rVidDecPictures d ≠ rDevFenceU (2 * srcCluster 0x0CA + (10 + d) / 32) := by
  revert d
  decide

/-- The event of a picture output (R398). -/
theorem State.pictureOut_holds (w : State) (d : Fin 2) {v : State} (hv : v.regs = w.regs) (hvar : v.variant = w.variant)
    (hp : v.plane = w.plane) :
    ((v.count (rVidDecPictures d)).raise 0x0CA (10 + d)).rd (rVidDecPictures d) = satAdd (w.rd (rVidDecPictures d)) 1 ∧
    (w.speaks 0x0CA (10 + d) = true → ((v.count (rVidDecPictures d)).raise 0x0CA (10 + d)).hears 0x0CA (10 + d) = true) := by
  refine ⟨?_, fun h => State.raise_hears_of h hvar hp ?_⟩
  · rw [State.raise_rd, State.rd_count, if_pos rfl, State.rd_of_regs hv]
  · rw [State.rd_count_other (pictures_ne_fenceU d), State.rd_of_regs hv]

theorem State.decodedPicture_of_ready {d : Nat} {u : State} {p : VOut} {l : List VOut} (hu : u = s.decAdvance d)
    (hready : (u.dec d).ready = p :: l) (hl : u.unitLive 10 (10 + d) = true) (hw : u.bulkWaits 3 = false)
    (h3 : u.decState d ≠ 3) :
    s.decodedPicture d = (((State.ringOut (u.bulkWrite 3 (u.decBuf d p.buf) (p.desc ((u.dec d).seq + 1))) u d p l).count
      (rVidDecPictures d)).raise 0x0CA (10 + d)) := by
  have hst : ∀ (w : State), w.rd (rVidDecStat d) = u.rd (rVidDecStat d) →
      (((State.ringOut w u d p l).count (rVidDecPictures d)).raise 0x0CA (10 + d)).decState d ≠ 3 := by
    intro w hw
    rw [State.decState, State.raise_fld, State.fld_count_ne _ _ (by unfold rVidDecPictures rVidDecStat; omega)]
    exact fun e => h3 ((State.fld_of_rd (s := u) (t := w) hw).symm.trans e)
  have hkeep : (u.bulkWrite 3 (u.decBuf d p.buf) (p.desc ((u.dec d).seq + 1))).rd (rVidDecStat d) = u.rd (rVidDecStat d) := by
    refine State.bulkWrite_rd_other (fun sc => ?_) ?_ (fun q hq => ?_) _ _ _
    · unfold rMemScInj rVidDecStat; omega
    · unfold rMemRefused rVidDecStat; omega
    · unfold rMemCoinStat rVidDecStat; omega
  unfold State.decodedPicture
  simp only [← hu, hready, hl, hw, Bool.not_true, Bool.or_self, Bool.false_eq_true, if_false]
  exact if_neg (hst _ hkeep)

theorem State.decodedPicture_of_waiting {d : Nat} (h : ((s.decAdvance d).dec d).ready = [] ∨ (s.decAdvance d).bulkWaits 3 = true) :
    s.decodedPicture d = s.decAdvance d := by
  unfold State.decodedPicture
  dsimp only
  split
  · rfl
  · next p l hp =>
    obtain h | h := h
    · simp [h] at hp
    · exact if_pos (by simp [h])

/-- The picture in progress ends with the marks `bits` (R400). -/
def State.decMarked (s : State) (d reg : Nat) (p : VOut) (bits : Nat) : State :=
  (s.count reg).setDec d { s.dec d with cur := some { p with flags := p.flags ||| bits } }

theorem State.decErr_of_picture {d reg bits : Nat} {p : VOut} (h : (s.dec d).cur = some p) (hb : p.flags &&& bits ≠ bits) :
    s.decErr d reg bits = (s.decMarked d reg p bits).raise 0x0CB (10 + d) := by
  unfold State.decErr
  simp only [h]
  exact if_neg hb

theorem State.decMarked_cur (d reg : Nat) (p : VOut) (bits : Nat) :
    ((s.decMarked d reg p bits).dec d).cur = some { p with flags := p.flags ||| bits } := by
  rw [State.decMarked, State.setDec_dec]

theorem wdog_ne_fenceU (d : Fin 2) : rVidDecWdogCnt d ≠ rDevFenceU (2 * srcCluster 0x0CB + (10 + d) / 32) := by
  revert d
  decide

/-- Settles O43. -/
theorem videoDecoders : Obligations.VideoDecoders := by
  refine ⟨fun s d hr hl h => ?_, fun s d hr hl h hn => ?_, fun s d hr hl h => ?_, fun s d hr hl h => ?_, fun s d v hr hl h => ?_,
    fun s d v hr hl h => ?_, fun s u d p l hu hready hl hw h3 => ?_, fun s d h => ?_, fun s d p hc hb hl => ?_, fun s d h => ?_⟩
  · exact .of_eq (exec_of_reached_vid hr rfl) (State.decStart_of_busy hl h) rfl
  · exact .of_eq (exec_of_reached_vid hr rfl) (State.decStart_of_idle hl h hn) ⟨State.decBegun_dec d,
      State.fld_setFld_same _ _ _ _ _ (by decide), fun r hr => State.rd_setFld_other (s := s.setDec d _) _ _ _ hr.symm⟩
  · refine .of_eq (t := s.decIdle d) (exec_of_reached_vid hr rfl) ((if_pos hl).trans (if_neg h)) ⟨?_, ?_, ?_, ?_⟩
    · exact State.fld_setFld_same _ _ _ _ _ (by decide)
    all_goals rw [State.decIdle_dec]
    rfl
  · exact .of_eq (exec_of_reached_vid hr rfl) (State.decEos_of_running hl h) ⟨State.fld_setFld_same _ _ _ _ _ (by decide), rfl⟩
  · exact .of_eq (exec_of_reached_vid hr rfl) (State.inwrWrite_of_fits hl h) rfl
  · exact .of_eq (exec_of_reached_vid hr rfl) (State.inwrWrite_of_over hl h) rfl
  · refine .of_eq rfl (State.decodedPicture_of_ready hu hready hl hw h3) ⟨_, _, rfl, VOut.desc_length p ((u.dec d).seq + 1), ?_, ?_⟩
    · rw [State.dec_of_vid (State.raise_vid ..), State.count_dec, State.ringOut_dec]
    · exact State.pictureOut_holds _ d (State.ringOut_regs ..) (State.ringOut_variant ..) (State.ringOut_plane ..)
  · exact .of_eq rfl (State.decodedPicture_of_waiting h) rfl
  · have hbits : p.flags &&& 4 ≠ 4 := fun e => by
      have := congrArg (Nat.testBit · 2) e
      rw [Nat.testBit_and, hb, Bool.false_and] at this
      exact absurd this (by decide)
    refine .of_eq rfl (t := (s.decMarked d (rVidDecWdogCnt d) p 4).raise 0x0CB (10 + d)) ?_ ⟨?_, ?_, fun h => ?_⟩
    · simp only [hc]
      exact (if_neg (by simp [hb, hl])).trans (State.decErr_of_picture hc hbits)
    · rw [State.dec_of_vid (State.raise_vid ..), State.decMarked_cur]
    · exact (State.raise_rd ..).trans (State.rd_wr_same ..)
    · exact State.raise_hears_of (t := s.decMarked d (rVidDecWdogCnt d) p 4) h rfl rfl (State.rd_count_other (wdog_ne_fenceU d))
  · exact .of_eq rfl (by simp only [h]) rfl

end Sys2Proof.Machine
end

section
/-! PROOF. Scrub, training, self-refresh and temperature of the recording memory (R424, R427, R432 to R434). -/

namespace Sys2Proof.Machine

open Sys2Proof

variable {s t : State}

/-- What one entry of a list brings about and the others keep holds at the end. -/
theorem State.forEach_brings {α : Type} {P : State → Prop} {f : State → α → State} {l : List α} {x : α} (hx : x ∈ l)
    (hf : ∀ t, P (f t x)) (hk : ∀ t y, P t → P (f t y)) : P (s.forEach l f) := by
  have hkeep : ∀ (l : List α) (t : State), P t → P (t.forEach l f) := fun l t ht =>
    List.foldlRecOn (motive := P) l f ht fun t ht y _ => hk t y ht
  induction l generalizing s with
  | nil => cases hx
  | cons y l ih =>
    obtain rfl | hx := List.mem_cons.mp hx
    · exact hkeep l _ (hf s)
    · exact ih hx

/-! ### A word of zeros is a codeword -/

theorem Gf.mul_zero_left (f : Gf) (b : Nat) : f.mul 0 b = 0 := by
  have h : (List.range f.m).foldl (fun (r : Nat × Nat) i =>
      (if b.testBit i then r.1 ^^^ r.2 else r.1,
       if (r.2 * 2).testBit f.m then (r.2 * 2) ^^^ f.poly else r.2 * 2)) (0, 0) = (0, 0) :=
    List.foldlRecOn (motive := fun r : Nat × Nat => r = (0, 0)) _ _ rfl fun r hr i _ => by simp [hr]
  exact congrArg Prod.fst h

theorem Gf.syndrome_zeros (f : Gf) (n j : Nat) : f.syndrome (List.replicate n 0) j = 0 := by
  refine List.foldlRecOn (motive := fun r => r = 0) _ _ rfl fun r hr c hc => ?_
  rw [hr, Gf.mul_zero_left, (List.mem_replicate.mp hc).2]
  rfl

theorem Gf.decode_zeros (f : Gf) (nsyn t n : Nat) : f.decode nsyn t (List.replicate n 0) = some (List.replicate n 0, 0) := by
  have hsyn : ((List.range nsyn).map (f.syndrome (List.replicate n 0))).all (· == 0) = true := by
    rw [List.all_eq_true]
    intro x hx
    obtain ⟨j, -, rfl⟩ := List.mem_map.mp hx
    rw [Gf.syndrome_zeros]
    rfl
  exact if_pos hsyn

theorem errWord_nil_zero : errWord [] 0 = List.replicate 80 0 := by
  rw [errWord_nil]
  decide

theorem State.decodeBurst_of_clean (sc loc : Nat) (data : List Byte) :
    s.decodeBurst sc loc data (errWord [] 0) = (s, .ok, data, 0) := by
  rw [errWord_nil_zero]
  unfold State.decodeBurst
  rw [Gf.decode_zeros]
  rfl

/-! ### Scrub -/

theorem State.scrubRead_waits {sc : Nat} (errs : List (Nat × Nat)) (h : s.bit rMemScrub 31 = false ∨ s.scUp sc = false ∨
    s.memState ≠ 2 ∨ s.overdraft = true ∨ s.now < s.mem.scrubT) : s.scrubRead sc errs = s := by
  refine if_pos ?_
  obtain h | h | h | h | h := h
  · simp [h]
  · have : s.scrubScs.contains sc = false := by simp [State.scrubScs, h]
    simp only [this, Bool.not_false, Bool.or_true, Bool.true_or]
  · simp [h]
  · simp [h]
  · simp [h]

/-- One sub-channel stands at `pos` of its pass. -/
def State.scrubbed (s : State) (sc pos : Nat) : State :=
  { s with mem := { s.mem with scrub := Map.set (fun _ => 0) s.mem.scrub sc pos } }

theorem State.scrubbed_pos (sc pos : Nat) : (s.scrubbed sc pos).scrubPos sc = pos := Map.get_set_same ..

section
variable {sc : Nat} (hen : s.bit rMemScrub 31 = true) (hscs : s.scrubScs = [sc]) (hst : s.memState = 2) (hod : s.overdraft = false)
  (ht : s.mem.scrubT ≤ s.now) (hpos : s.scrubPos sc + 1 < 2 ^ 28) (hf : s.flipAt sc (s.scrubPos sc * 64) = 0)
include hen hscs hst hod ht hpos hf

theorem State.scrubRead_of_clean : s.scrubRead sc [] =
    (s.scrubbed sc (s.scrubPos sc + 1)).setFld rMemScrubStat 0 28 (s.scrubPos sc + 1) := by
  have hburst : s.scrubBurst sc (s.scrubPos sc) [] = s := by
    simp only [State.scrubBurst, hf, State.decodeBurst_of_clean]
    rfl
  have hread : s.scrubRead sc [] = (s.scrubBurst sc (s.scrubPos sc) []).scrubStep sc (s.scrubPos sc) := by
    have h1 : ¬ (!s.bit rMemScrub 31 || !s.scrubScs.contains sc || s.memState != 2 || s.overdraft ||
        decide (s.now < s.mem.scrubT)) = true := by
      simp [hen, hscs, hst, hod, ht]
    exact (if_neg h1).trans (if_neg (by omega))
  have hscs' : (s.scrubbed sc (s.scrubPos sc + 1)).scrubScs = [sc] := hscs
  have hnext : (s.scrubbed sc (s.scrubPos sc + 1)).scrubNext = s.scrubPos sc + 1 := by
    unfold State.scrubNext
    rw [hscs']
    simp only [List.map_cons, List.map_nil, List.foldl_nil, State.scrubbed_pos]
  rw [hread, hburst]
  refine (if_neg (c := (s.scrubbed sc (s.scrubPos sc + 1)).scrubScs.all
    (fun n => (s.scrubbed sc (s.scrubPos sc + 1)).scrubPos n == 2 ^ 28) = true) ?_).trans (congrArg _ hnext)
  rw [hscs', List.all_cons, List.all_nil, Bool.and_true, State.scrubbed_pos, beq_iff_eq]
  omega

end

/-! ### Self-refresh -/

theorem memStat_ne_scStat (n : Nat) : rMemScStat n ≠ rMemStat := by
  unfold rMemScStat rMemStat
  omega

theorem rMemScStat_inj {m n : Nat} (h : rMemScStat m = rMemScStat n) : m = n := by
  unfold rMemScStat at h
  omega

/-- A sub-channel that is up is one of the present ones. -/
theorem State.mem_scs {sc : Nat} (h : sc < 16) (hup : s.scUp sc = true) : sc ∈ s.scs := by
  simp only [State.scUp, Bool.and_eq_true] at hup
  exact List.mem_filter.mpr ⟨List.mem_range.mpr h, hup.1⟩

/-- A sub-channel takes a state and, in another field, a number. -/
def State.scPut (st lo w v : Nat) (t : State) (n : Nat) : State := (t.setFld (rMemScStat n) 28 4 st).setFld (rMemScStat n) lo w v

section
variable {st lo w v : Nat} (hst : st < 16) (hlo : lo + w ≤ 28) (hv : v < 2 ^ w)
include hst hlo hv

theorem State.scPut_same (sc : Nat) : (State.scPut st lo w v t sc).fld (rMemScStat sc) 28 4 = st ∧
    (State.scPut st lo w v t sc).fld (rMemScStat sc) lo w = v := by
  refine ⟨?_, (State.fld_setFld_same _ _ _ _ _ (by omega)).trans (Nat.mod_eq_of_lt hv)⟩
  rw [State.scPut, State.fld_setFld_apart _ _ _ _ _ (by omega), State.fld_setFld_same _ _ _ _ _ (by decide), Nat.mod_eq_of_lt (by simpa using hst)]

/-- Every listed sub-channel ends in the state given. -/
theorem State.scPut_all {l : List Nat} {sc : Nat} (h : sc ∈ l) : (s.forEach l (State.scPut st lo w v)).fld (rMemScStat sc) 28 4 = st ∧
    (s.forEach l (State.scPut st lo w v)).fld (rMemScStat sc) lo w = v := by
  refine State.forEach_brings (P := fun t => t.fld (rMemScStat sc) 28 4 = st ∧ t.fld (rMemScStat sc) lo w = v) h
    (fun t => State.scPut_same hst hlo hv sc) fun t n ht => ?_
  by_cases hn : n = sc
  · rw [hn]
    exact State.scPut_same hst hlo hv sc
  · have hne : rMemScStat n ≠ rMemScStat sc := fun e => hn (rMemScStat_inj e)
    simpa only [State.scPut, State.fld_setFld_ne _ _ _ _ _ hne] using ht

end

theorem State.scPut_memStat (st lo w v : Nat) (l : List Nat) :
    (s.forEach l (State.scPut st lo w v)).rd rMemStat = s.rd rMemStat :=
  State.forEach_keeps (State.rd · rMemStat) (fun t n => by
    rw [State.scPut, State.rd_setFld_other _ _ _ (memStat_ne_scStat n), State.rd_setFld_other _ _ _ (memStat_ne_scStat n)]) l s

theorem State.scPut_mem (st lo w v : Nat) (l : List Nat) : (s.forEach l (State.scPut st lo w v)).mem = s.mem :=
  State.forEach_keeps State.mem (f := State.scPut st lo w v) (fun _ _ => rfl) l s

theorem State.setMemStat_sc (v n : Nat) : (s.setFld rMemStat 28 4 v).fld (rMemScStat n) 28 4 = s.fld (rMemScStat n) 28 4 :=
  State.fld_setFld_ne _ _ _ _ _ (memStat_ne_scStat n).symm

/-- The sub-channels that leave self-refresh. -/
def State.exiting (s : State) (st : Nat) : List Nat := s.scs.filter (fun n => s.fld (rMemScStat n) 28 4 == st)

theorem State.mem_exiting {sc st : Nat} (h : sc < 16) (hup : s.scUp sc = true) (hst : s.fld (rMemScStat sc) 28 4 = st) :
    sc ∈ s.exiting st := List.mem_filter.mpr ⟨State.mem_scs h hup, by simp [hst]⟩

theorem State.srExit_of_idle (hm : s.memState = 4) (hl : s.pwr.loss = 0) (hp : s.fld rHstPwr 4 3 < 3) :
    s.srExit = (s.setFld rMemStat 28 4 5).forEach (s.exiting 3) (State.scPut 1 24 4 4) := by
  refine (if_pos ⟨hm, hl, hp⟩).trans ?_
  simp only [State.setMemStat_sc]
  rfl

/-- The array is served again. -/
def State.resumed (s : State) : State :=
  ((s.forEach (s.exiting 1) (State.scPut 2 0 12 0)).setFld rMemStat 28 4 2).memReady

theorem State.srExited_of_exiting (h : s.memState = 5) : s.srExited = s.resumed.raise 0x026 1 := if_pos h

theorem State.resumed_memState : s.resumed.memState = 2 :=
  (State.fld_setFld_apart _ _ _ _ _ (by decide)).trans (State.fld_setFld_same _ _ _ _ _ (by decide))

theorem State.resumed_mem : s.resumed.mem = s.mem := State.scPut_mem ..

theorem State.resumed_rd_other {r : Nat} (h : ∀ n, rMemScStat n ≠ r) (hm : rMemStat ≠ r) : s.resumed.rd r = s.rd r := by
  rw [State.resumed, State.memReady, State.rd_setFld_other _ _ _ hm, State.rd_setFld_other _ _ _ hm]
  exact State.forEach_keeps (State.rd · r) (fun t n => by
    rw [State.scPut, State.rd_setFld_other _ _ _ (h n), State.rd_setFld_other _ _ _ (h n)]) _ _

theorem State.resumed_sc {n lo w : Nat} : s.resumed.fld (rMemScStat n) lo w =
    (s.forEach (s.exiting 1) (State.scPut 2 0 12 0)).fld (rMemScStat n) lo w := by
  rw [State.resumed, State.memReady, State.fld_setFld_ne _ _ _ _ _ (memStat_ne_scStat n).symm,
    State.fld_setFld_ne _ _ _ _ _ (memStat_ne_scStat n).symm]

theorem State.resumed_hears (h : s.speaks 0x026 1 = true) : (s.resumed.raise 0x026 1).hears 0x026 1 = true := by
  have hblur : s.resumed.blur 16 = s.blur 16 := by simp [State.resumed, State.scPut]
  refine State.raise_hears_of h (State.blur_variant hblur rfl) (State.blur_plane hblur rfl) (State.resumed_rd_other (fun n => ?_) ?_)
  · unfold rMemScStat rDevFenceU srcCluster
    simp
    omega
  · decide

/-! ### Temperature -/

theorem own_bit (sc : Fin 16) : (BitVec.ofNat 16 (2 ^ sc.val)).getLsbD sc = true := by
  revert sc
  decide

/-- A component reports a temperature range. -/
def State.tempRead (s : State) (sc : Nat) (hot : BitVec 16) : State :=
  ({ s with mem := { s.mem with hot := hot, free := s.mem.free + 1 } } : State).setFld (rMemScStat sc) 16 3
    (Config.dramTemp s.mem.free).toNat

theorem State.tempRead_fld (sc : Nat) (hot : BitVec 16) :
    (s.tempRead sc hot).fld (rMemScStat sc) 16 3 = (Config.dramTemp s.mem.free).toNat :=
  (State.fld_setFld_same _ _ _ _ _ (by decide)).trans (Nat.mod_eq_of_lt (BitVec.isLt _))

/-- Settles O45. -/
theorem memoryUpkeep : Obligations.MemoryUpkeep := by
  refine ⟨fun s sc errs h => ?_, fun s sc hen hscs hst hod ht hpos hf => ?_, fun s sc drift hst hd => ?_, fun s sc drift hd => ?_,
    fun s hm hl hp => ?_, fun s h => ?_, fun s h => ?_, fun s sc => ?_, fun s sc => ?_⟩
  · exact .of_eq rfl (State.scrubRead_waits errs h) rfl
  · refine .of_eq rfl (State.scrubRead_of_clean hen hscs hst hod ht hpos hf) ⟨?_, ?_, rfl, ?_⟩
    · exact State.scrubbed_pos ..
    · exact (State.fld_setFld_same _ _ _ _ _ (by decide)).trans (Nat.mod_eq_of_lt hpos)
    · exact State.rd_setFld_other (s := s.scrubbed sc _) _ _ _ (by unfold rMemScrubStat rMemScScrubFixed; omega)
  · exact .of_eq rfl (if_pos ⟨hst, hd⟩) ⟨Map.get_set_same .., rfl⟩
  · exact .of_eq rfl (if_neg (by omega)) rfl
  · refine .of_eq rfl (State.srExit_of_idle hm hl hp) ⟨?_, State.scPut_mem .., fun sc hsc hup hst => ?_⟩
    · rw [State.memState, State.fld_of_rd (State.scPut_memStat ..)]
      exact State.fld_setFld_same _ _ _ _ _ (by decide)
    · exact State.scPut_all (by decide) (by decide) (by decide) (State.mem_exiting hsc hup hst)
  · exact .of_eq rfl (if_neg (by omega)) rfl
  · refine .of_eq rfl (State.srExited_of_exiting h) ⟨(State.raise_fld ..).trans State.resumed_memState,
      (State.raise_mem ..).trans State.resumed_mem, State.resumed_hears, fun sc hsc hup hst => ?_⟩
    rw [State.raise_fld, State.raise_fld, State.resumed_sc, State.resumed_sc]
    exact State.scPut_all (by decide) (by decide) (by decide) (State.mem_exiting hsc hup hst)
  · refine .of_eq (t := ((s.tempRead sc (s.mem.hot ||| BitVec.ofNat 16 (2 ^ sc.val))).setBit rMemStat 25 true).raise 0x023 1) rfl rfl
      ⟨?_, ?_, ?_, ?_, fun h => ?_⟩
    · exact (State.raise_bit ..).trans (State.bit_setBit_same _ _ _ _ (by decide))
    · rw [State.raise_mem]
      change (s.mem.hot ||| BitVec.ofNat 16 (2 ^ sc.val)).getLsbD sc = true
      rw [BitVec.getLsbD_or, own_bit, Bool.or_true]
    · rw [State.raise_fld, State.fld_setBit_ne _ _ _ _ (memStat_ne_scStat sc).symm]
      exact State.tempRead_fld ..
    · rw [State.raise_mem]
      rfl
    · refine State.raise_hears_of h rfl rfl ?_
      rw [State.rd_setBit_other _ _ (by decide)]
      exact State.rd_setFld_other (s := { s with mem := _ }) _ _ _ (by unfold rMemScStat rDevFenceU srcCluster; simp; omega)
  · refine .of_eq (t := (s.tempRead sc (s.mem.hot &&& ~~~ BitVec.ofNat 16 (2 ^ sc.val))).setBit rMemStat 25
      (s.mem.hot &&& ~~~ BitVec.ofNat 16 (2 ^ sc.val) != 0)) rfl rfl ⟨?_, ?_, rfl⟩
    · change (s.mem.hot &&& ~~~ BitVec.ofNat 16 (2 ^ sc.val)).getLsbD sc = false
      rw [BitVec.getLsbD_and, BitVec.getLsbD_not, own_bit, Bool.not_true, Bool.and_false, Bool.and_false]
    · exact State.bit_setBit_same _ _ _ _ (by decide)

end Sys2Proof.Machine
end

section
/-! PROOF. Requests, queues, coins and refresh of the recording memory (R412, R414, R417 to R420, R423, R424). -/

namespace Sys2Proof.Machine

open Sys2Proof

variable {s t : State}

/-! ### A request of one burst -/

/-- A burst waits at the end of the queue. -/
def State.queued (s : State) (b : Burst) : State := { s with mem := { s.mem with q := s.mem.q ++ [b] } }

/-- A request is answered without data. -/
def State.respond (s : State) (port : Nat) (st : MStat) (write : Bool) : State :=
  { s with mem := { s.mem with resp := s.mem.resp ++ [⟨port, st, if write then [] else List.replicate 64 0#8⟩] } }

section
variable {port a sc loc : Nat} {write early : Bool} {d : List Byte}

theorem State.request_of_ok (hb : s.burstStat early (a / 64 * 64) = .ok) (hm : s.mapAddr (a / 64 * 64) = some (sc, loc)) :
    s.request port write a 64 d false early =
      (s.queued (s.mkBurst port write sc loc (slice (d ++ List.replicate 128 0#8) 0 64) 0)).serve := by
  unfold State.request
  extract_lets lock m s0 n r
  have hlock : lock = 0 := by simp [lock]
  have hs0 : s0 = s := by simp [s0, m, hlock]
  have hn : List.range n = [0] := rfl
  have hr : r = (s.queued (s.mkBurst port write sc loc (slice (d ++ List.replicate 128 0#8) 0 64) 0), 0) := by
    simp only [r, hn, hs0, hlock, List.foldl_cons, List.foldl_nil, Nat.mul_zero, Nat.add_zero, hb, hm]
    rfl
  rw [hr]
  rfl

theorem State.request_of_refused {st : MStat} (hb : s.burstStat early (a / 64 * 64) = st) (hne : st ≠ .ok) :
    s.request port write a 64 d false early =
      ((s.respond port st write).refuse (if st == .range || st == .notReady then 1 else 0)).serve := by
  unfold State.request
  extract_lets lock m s0 n r
  have hlock : lock = 0 := by simp [lock]
  have hs0 : s0 = s := by simp [s0, m, hlock]
  have hn : List.range n = [0] := rfl
  have hr : r = (s.respond port st write, if st == .range || st == .notReady then 1 else 0) := by
    simp only [r, hn, hs0, List.foldl_cons, List.foldl_nil, Nat.mul_zero, Nat.add_zero, hb]
    cases st with
    | ok => exact absurd rfl hne
    | _ => rfl
  rw [hr]

end

theorem State.burstStat_of_mapped {early : Bool} {a sc loc : Nat} (hst : s.memState = 2) (hm : s.mapAddr a = some (sc, loc)) :
    s.burstStat early a = if s.scUp sc then .ok else .fenced := by
  simp [State.burstStat, hst, hm]

theorem State.burstStat_of_unmapped {early : Bool} {a : Nat} (hst : s.memState = 2) (hm : s.mapAddr a = none) :
    s.burstStat early a = .range := by
  simp [State.burstStat, hst, hm]

theorem State.burstStat_of_idle {a : Nat} (hst : s.memState ≠ 2) : s.burstStat false a = .notReady := by
  simp [State.burstStat, hst]

theorem slice_whole {d : List Byte} (h : d.length = 64) (e : List Byte) : slice (d ++ e) 0 64 = d := by
  rw [slice, List.drop_zero, List.take_left' h]

theorem State.mkBurst_of_forward {port sc loc : Nat} {d : List Byte} {l : List Burst} {w : Burst} (lock : Nat)
    (h : s.mem.q.filter (fun b => b.write && sameBurst b sc loc) = l ++ [w]) :
    s.mkBurst port false sc loc d lock = ⟨port, false, sc, loc, w.data, 0, !bulkPort port, w.lock, s.now⟩ := by
  simp [State.mkBurst, h]

theorem State.mkBurst_of_array {port sc loc : Nat} {d : List Byte} (lock : Nat)
    (h : s.mem.q.any (fun b => b.write && sameBurst b sc loc) = false) :
    s.mkBurst port false sc loc d lock =
      ⟨port, false, sc, loc, s.arrayBytes sc loc 64, s.flipAt sc loc, !bulkPort port, 0, s.now⟩ := by
  have hnil : s.mem.q.filter (fun b => b.write && sameBurst b sc loc) = [] := by
    rw [List.filter_eq_nil_iff]
    intro b hb
    rw [List.any_eq_false] at h
    exact h b hb
  simp [State.mkBurst, hnil]

/-- A refused request counts (R414). -/
theorem State.refuse_one_holds (t : State) : (t.refuse 1).mem = t.mem ∧ (t.refuse 1).rd rMemRefused = satAdd (t.rd rMemRefused) 1 :=
  ⟨(State.raise_mem ..).trans rfl, (State.raise_rd ..).trans (State.rd_wr_same ..)⟩

/-! ### Retiring and decoding -/

/-- A write has retired from its bank (R417). -/
def State.retired (s : State) (sc bank i : Nat) (b : Burst) : State :=
  ({ s with mem := { s.mem with
      q := s.mem.q.eraseIdx i
      open_ := Map.set (fun _ => 0) s.mem.open_ (sc * 32 + bank) ((s.bankRow b.loc).2 + 1)
      odLast := if s.inOd b then Map.set (fun _ => 15) s.mem.odLast sc b.port else s.mem.odLast
      resp := s.mem.resp ++ [⟨b.port, .ok, []⟩] } } : State).putBurst b.sc b.loc b.data

theorem State.retire_of_pick {sc bank i : Nat} {b : Burst} (hi : s.pickWrite sc bank = some i) (hb : s.mem.q[i]? = some b) :
    s.retire sc bank = (s.retired sc bank i b).refreshBank sc (bank / 8) := by
  simp only [State.retire, hi, hb]
  rfl

theorem State.putBurst_mem (sc loc : Nat) (b : List Byte) : (s.putBurst sc loc b).mem.q = s.mem.q ∧
    (s.putBurst sc loc b).mem.resp = s.mem.resp ∧
    (s.putBurst sc loc b).mem.dram = putBytes s.mem.dram (dramKey sc loc) b := by
  unfold State.putBurst
  extract_lets inj f s0 s1
  have h0 : s0.mem = s.mem := by
    simp only [s0]
    split
    · rfl
    · exact State.blur_mem (State.setInj_blur _ _ _ 16400 rfl) rfl
  have h1 : s1.mem = s.mem := by
    simp only [s1]
    split
    · exact (State.raise_mem ..).trans h0
    · exact h0
  change s1.mem.q = _ ∧ s1.mem.resp = _ ∧ putBytes s1.mem.dram _ _ = _
  rw [h1]
  exact ⟨rfl, rfl, rfl⟩

/-- A read has come back from the array (R430). -/
def State.readBack (s u : State) (sc i : Nat) (b : Burst) (st : MStat) (d : List Byte) : State :=
  { u with mem := { u.mem with
      q := u.mem.q.eraseIdx i
      open_ := Map.set (fun _ => 0) u.mem.open_ (sc * 32 + (s.bankRow b.loc).1) ((s.bankRow b.loc).2 + 1)
      resp := u.mem.resp ++ [⟨b.port, st, d⟩] } }

theorem State.readDecode_of_pick {sc loc i n : Nat} {errs : List (Nat × Nat)} {b : Burst} {u : State} {st : MStat} {d : List Byte}
    (hi : s.pickRead sc loc = some i) (hb : s.mem.q[i]? = some b)
    (hd : s.decodeBurst sc b.loc b.data (errWord errs b.flip) = (u, st, d, n)) :
    s.readDecode sc loc errs = (State.readBack s u sc i b st d).refreshBank sc ((s.bankRow b.loc).1 / 8) := by
  simp only [State.readDecode, hi, hb, hd]
  rfl

/-- A burst that cannot be corrected (R430). -/
def State.uncorrected (s : State) (sc loc : Nat) : State :=
  if s.rd (rMemScUe sc) = 0#32 then s.setLive (rMemScUeaddrLo sc) (BitVec.ofNat 64 loc) else s

theorem State.decodeBurst_of_uncorrectable {sc loc : Nat} {d : List Byte} {e : List Nat} (h : gfMem.decode 16 s.eccT e = none) :
    s.decodeBurst sc loc d e =
      (((s.uncorrected sc loc).count (rMemScUe sc)).raise (0x010 + sc) (scUnit sc), .poison, applyErr d e, 0) := by
  unfold State.decodeBurst
  rw [h]
  rfl

theorem State.uncorrected_regs (sc loc : Nat) : (s.uncorrected sc loc).regs = s.regs := by
  unfold State.uncorrected
  split <;> rfl

/-! ### Refresh -/

theorem forcedRef_ne_memStat (sc : Nat) : rMemScForcedRef sc ≠ rMemStat := by
  unfold rMemScForcedRef rMemStat
  omega

/-- Registers that a refresh leaves: all but those of its sub-channel's state and count. -/
theorem State.refreshed_first (sc b lim d : Nat) {r : Nat} (hs : rMemScStat sc ≠ r) (hf : rMemScForcedRef sc ≠ r) :
    (((s.setFld (rMemScStat sc) (3 * b) 3 (lim - 1)).countN (rMemScForcedRef sc) (d - lim + 1)).raise 0x022 1).rd r = s.rd r :=
  (State.raise_rd ..).trans ((State.rd_countN_other _ hf).trans (State.rd_setFld_other _ _ _ hs))

theorem State.bankIdle_congr {sc b : Nat} (hm : t.mem = s.mem) (hc : t.rd rMemCfg = s.rd rMemCfg) : t.bankIdle sc b = s.bankIdle sc b := by
  have hrow : t.bankRow = s.bankRow := by
    funext loc
    simp only [State.bankRow, State.bit_of_rd hc]
  rw [State.bankIdle, State.bankIdle, hm, hrow]

/-- Without Overdraft an idle bank pays the whole of its debt (R423). -/
theorem State.refreshBank_of_idle {sc b : Nat} (ho : s.overdraft = false) (hi : s.bankIdle sc b = true) (hb : b < 4) :
    (s.refreshBank sc b).debt sc b = 0 := by
  unfold State.refreshBank
  extract_lets d lim s1
  have hstat : s1.rd rMemStat = s.rd rMemStat := by
    simp only [s1]
    split
    · exact State.refreshed_first sc b lim d (memStat_ne_scStat sc) (forcedRef_ne_memStat sc)
    · rfl
  have hcfg : s1.rd rMemCfg = s.rd rMemCfg := by
    have hs : rMemScStat sc ≠ rMemCfg := by unfold rMemScStat rMemCfg; omega
    have hf : rMemScForcedRef sc ≠ rMemCfg := by unfold rMemScForcedRef rMemCfg; omega
    simp only [s1]
    split
    · exact State.refreshed_first sc b lim d hs hf
    · rfl
  have hmem : s1.mem = s.mem := by
    simp only [s1]
    split
    · exact State.raise_mem ..
    · rfl
  have hod : s1.overdraft = false := (State.bit_of_rd hstat).trans ho
  rw [if_pos (by rw [hod, State.bankIdle_congr hmem hcfg, hi]; rfl)]
  exact State.fld_setFld_same _ _ _ _ _ (by omega)

/-! ### Coins -/

/-- A purse gains its refill (R419). -/
def State.refill (t : State) (p : Nat) : State :=
  t.setPurse p (min (t.purseMax p * 16) (t.purse p + t.fld (rMemCoinCfg p) 16 16))

theorem setAt_getD {α : Type} (l : List α) (i j : Nat) (v d : α) :
    (setAt l i v).getD j d = if i = j ∧ j < l.length then v else l.getD j d := by
  induction l generalizing i j with
  | nil => simp [setAt]
  | cons a l ih =>
    cases i with
    | zero => cases j <;> simp [setAt]
    | succ i =>
      cases j with
      | zero => simp [setAt]
      | succ j => simpa [setAt] using ih i j

theorem setAt_length {α : Type} (l : List α) (i : Nat) (v : α) : (setAt l i v).length = l.length := by
  induction l generalizing i with
  | nil => rfl
  | cons a l ih => cases i <;> simp [setAt, ih]

theorem State.setPurse_purse (p n q : Nat) :
    (s.setPurse p n).purse q = if p = q ∧ q < s.mem.purse.length then n else s.purse q := setAt_getD ..

theorem State.refill_cfg (p q lo w : Nat) : (s.refill p).fld (rMemCoinCfg q) lo w = s.fld (rMemCoinCfg q) lo w :=
  State.fld_of_rd (State.rd_setFld_other (s := { s with mem := _ }) _ _ _ (by unfold rMemCoinStat rMemCoinCfg; omega))

theorem State.refill_length (p : Nat) : (s.refill p).mem.purse.length = s.mem.purse.length := setAt_length ..

theorem State.refill_other {p q : Nat} (h : p ≠ q) : (s.refill p).purse q = s.purse q := by
  rw [State.refill, State.setPurse_purse, if_neg (fun e => h e.1)]

theorem State.refill_same {p : Nat} (h : p < s.mem.purse.length) :
    (s.refill p).purse p = min (s.purseMax p * 16) (s.purse p + s.fld (rMemCoinCfg p) 16 16) := by
  rw [State.refill, State.setPurse_purse, if_pos ⟨rfl, h⟩]

/-- Refills of different ports: each purse gains its own. -/
theorem State.refills_purse {l : List Nat} (hnd : l.Nodup) {p : Nat} (hp : p ∈ l) (hlen : p < s.mem.purse.length) :
    (s.forEach l State.refill).purse p = min (s.purseMax p * 16) (s.purse p + s.fld (rMemCoinCfg p) 16 16) := by
  have hother : ∀ (l : List Nat) (t : State), p ∉ l → (t.forEach l State.refill).purse p = t.purse p := by
    intro l
    induction l with
    | nil => exact fun _ _ => rfl
    | cons q l ih =>
      intro t ht
      rw [List.mem_cons, not_or] at ht
      exact (ih (t.refill q) ht.2).trans (State.refill_other (Ne.symm ht.1))
  induction l generalizing s with
  | nil => cases hp
  | cons q l ih =>
    rw [List.nodup_cons] at hnd
    obtain rfl | hp := List.mem_cons.mp hp
    · exact (hother l _ hnd.1).trans (State.refill_same hlen)
    · have hne : q ≠ p := fun e => hnd.1 (e ▸ hp)
      refine (ih (s := s.refill q) hnd.2 hp (by rwa [State.refill_length])).trans ?_
      rw [State.refill_other hne, State.refill_cfg, State.purseMax, State.refill_cfg, State.purseMax]

theorem execCoinRefill_eq : execCoinRefill s = .next (s.forEach [0, 1, 2, 3] State.refill).serve := rfl

/-- The floor is in force (R422). -/
def State.floored (s : State) : State := ((s.setBit rMemStat 26 true).count rMemOdFloors).raise 0x021 1

theorem ueFence_ne (sc : Nat) (h : sc < 16) : rMemScUe sc ≠ rDevFenceU (2 * srcCluster (0x010 + sc) + scUnit sc / 32) := by
  interval_cases sc <;> decide

/-- Settles O44. -/
theorem memoryQueues : Obligations.MemoryQueues := by
  refine ⟨fun s port a sc loc d hst hm hup hd => ?_, fun s port a sc loc l w hst hm hup hq => ?_, fun s port a sc loc hst hm hup hq => ?_,
    fun s port wr a d hst hm => ?_, fun s port wr a d hst hc => ?_, fun s port wr a sc loc d hst hm hup => ?_,
    fun s sc bank i b hi hb => ?_, fun s sc bank hi => ?_, fun s sc loc i errs b u st d n hi hb hd => ?_,
    fun s sc loc d e hsc h => ?_, fun s sc b hst => ?_, fun s sc b hst => ?_, fun s sc b ho hi hb => State.refreshBank_of_idle ho hi hb,
    fun s hlen => ?_, fun s ho hf hcfg => ?_, fun s h => ?_, fun s ho hf => ?_⟩
  · refine .of_eq rfl (State.request_of_ok ((State.burstStat_of_mapped hst hm).trans (if_pos hup)) hm) ⟨?_, rfl⟩
    rw [slice_whole hd]
    rfl
  · refine .of_eq rfl (State.request_of_ok ((State.burstStat_of_mapped hst hm).trans (if_pos hup)) hm) ?_
    rw [State.mkBurst_of_forward 0 hq]
    rfl
  · refine .of_eq rfl (State.request_of_ok ((State.burstStat_of_mapped hst hm).trans (if_pos hup)) hm) ?_
    rw [State.mkBurst_of_array 0 hq]
    rfl
  · obtain ⟨hmem, hrd⟩ := State.refuse_one_holds (s.respond port .range wr)
    refine .of_eq rfl (State.request_of_refused (State.burstStat_of_unmapped hst hm) (by decide)) ⟨?_, ?_, hrd, fun h => ?_⟩
    · exact congrArg Mem.resp hmem
    · exact (congrArg Mem.q hmem).trans rfl
    · exact State.raise_hears_of (t := (s.respond port .range wr).countN rMemRefused 1) h rfl rfl (State.rd_countN_other _ (by decide))
  · have hearly : (port.val == 2 && s.hostTransfer) = false := by simp [State.hostTransfer, hc]
    obtain ⟨hmem, hrd⟩ := State.refuse_one_holds (s.respond port .notReady wr)
    refine .of_eq rfl (State.request_of_refused (by rw [hearly]; exact State.burstStat_of_idle hst) (by decide)) ⟨?_, ?_, hrd⟩
    · exact congrArg Mem.resp hmem
    · exact (congrArg Mem.q hmem).trans rfl
  · have hf : s.burstStat (port.val == 2 && s.hostTransfer) (a / 64 * 64) = .fenced :=
      (State.burstStat_of_mapped hst hm).trans (if_neg (by simp [hup]))
    exact .of_eq rfl (State.request_of_refused hf (by decide)) ⟨rfl, rfl, rfl⟩
  · obtain ⟨hq, hresp, hdram⟩ := State.putBurst_mem (s := { s with mem := { s.mem with
      q := s.mem.q.eraseIdx i
      open_ := Map.set (fun _ => 0) s.mem.open_ (sc * 32 + bank) ((s.bankRow b.loc).2 + 1)
      odLast := if s.inOd b then Map.set (fun _ => 15) s.mem.odLast sc b.port else s.mem.odLast
      resp := s.mem.resp ++ [⟨b.port, .ok, []⟩] } }) b.sc b.loc b.data
    refine ⟨s.retired sc bank i b, hq, hresp, hdram, .of_eq (t := (s.retired sc bank i b).refreshBank sc (bank / 8)) rfl ?_ rfl⟩
    rw [State.retire_of_pick hi hb]
  · refine .of_eq (t := s) rfl ?_ rfl
    have h : s.retire sc bank = s := by simp only [State.retire, hi]
    rw [h]
  · have hdram : u.mem.dram = s.mem.dram := by
      have := State.decodeBurst_dram s sc b.loc b.data (errWord errs b.flip)
      rwa [hd] at this
    exact .of_eq rfl (State.readDecode_of_pick hi hb hd) ⟨rfl, rfl, rfl, hdram⟩
  · rw [State.decodeBurst_of_uncorrectable h]
    have hregs := State.uncorrected_regs (s := s) sc loc
    refine ⟨rfl, ?_, fun hsp => State.raise_hears_of hsp ?_ ?_ ?_⟩
    · dsimp only
      rw [State.raise_rd, State.rd_count, if_pos rfl, State.rd_of_regs hregs]
    · change (s.uncorrected sc loc).variant = _
      unfold State.uncorrected
      split <;> rfl
    · change (s.uncorrected sc loc).plane = _
      unfold State.uncorrected
      split <;> rfl
    · rw [State.rd_count_other (ueFence_ne sc hsc), State.rd_of_regs hregs]
  · refine .of_eq rfl (if_pos hst) ⟨?_, rfl⟩
    exact (State.fld_setFld_same _ _ _ _ _ (by omega)).trans (Nat.mod_eq_of_lt (by omega))
  · exact .of_eq rfl (if_neg hst) rfl
  · refine .of_eq execCoinRefill_eq rfl ⟨fun p hp => ?_, ?_⟩
    · exact State.refills_purse (by decide) (by simp; omega) (by omega)
    · exact State.forEach_keeps (fun t : State => t.mem.q) (f := State.refill) (fun _ _ => rfl) _ _
  · refine .of_eq (t := s.floored) rfl (if_pos (by simp [ho, hf, hcfg])) ⟨?_, ?_, ?_, ?_, fun h => ?_⟩
    · exact (State.raise_bit ..).trans ((State.bit_count_ne _ (by decide)).trans (State.bit_setBit_same _ _ _ _ (by decide)))
    · exact (State.raise_bit ..).trans ((State.bit_count_ne _ (by decide)).trans
        ((State.bit_setBit_apart _ _ _ (by decide) (by decide)).trans ho))
    · rw [State.floored, State.raise_rd, State.rd_count, if_pos rfl, State.rd_setBit_other _ _ (by decide)]
    · exact State.raise_mem ..
    · refine State.raise_hears_of (t := (s.setBit rMemStat 26 true).count rMemOdFloors) h rfl rfl ?_
      rw [State.rd_count_other (by decide), State.rd_setBit_other _ _ (by decide)]
  · refine .of_eq rfl (if_neg ?_) rfl
    obtain h | h | h := h <;> simp [h]
  · exact if_pos (by rw [ho, hf]; rfl)

end Sys2Proof.Machine
end

section
/-! PROOF. The end of an NVMe command (R443, R458). -/

namespace Sys2Proof.Machine

open Sys2Proof

variable {s t : State}

/-! ### Messages -/

/-- A message changes, of the host interface, at most the pending vectors. -/
theorem State.msix_hst (v : Nat) : ∃ l, (s.msix v).hst = { s.hst with mxPend := l } := by
  unfold State.msix
  split
  · split
    · exact ⟨_, rfl⟩
    · exact ⟨_, rfl⟩
  · exact ⟨_, rfl⟩

/-- A message leaves the events of the Auditor. -/
theorem State.msix_q (v : Nat) : (s.msix v).aud.q = s.aud.q := by
  unfold State.msix
  split
  · split <;> rfl
  · rfl

theorem State.hears_of_q {x u : Nat} (h : t.aud.q = s.aud.q) : t.hears x u = s.hears x u := by rw [State.hears, h, State.hears]

/-! ### Completions -/

/-- A completion queue behind one more entry (R443). -/
def Cq.advanced (c : Cq) : Cq :=
  { c with tail := if c.size ≤ c.tail + 1 then 0 else c.tail + 1, phase := if c.size ≤ c.tail + 1 then !c.phase else c.phase }

/-- The host interface behind the completion `e` of a command, posted in queue `k`. -/
def Hst.completed (h : Hst) (e : Cpl) (k : Nat) (c : Cq) : Hst :=
  { h with
    cmds := h.cmds.filter (fun d => !(d.q == e.q && d.cid == e.cid))
    cpl := h.cpl ++ [e]
    cqs := Map.set (fun _ => none) h.cqs k (some c.advanced) }

/-- The completion stands in its queue, its message not yet sent. -/
def State.cplPosted (s : State) (e : Cpl) (k : Nat) (c : Cq) : State :=
  ((s.setHst { s.hst with cmds := s.hst.cmds.filter (fun d => !(d.q == e.q && d.cid == e.cid)) }).syncTeller).setHst
    (s.hst.completed e k c)

section
variable {q : Nat} {cid : BitVec 16} {n : NCmd} {v : Sq} {c : Cq} (hn : s.ncmd q cid = some n) (hv : s.sq q = some v)
  (hc : s.cq v.cq = some c)
include hn hv hc

theorem State.complete_of_known (status : Nat) (dnr : Bool) (dw0 : Word) : s.complete q cid status dnr dw0 =
    if c.ien then (s.cplPosted ⟨q, cid, v.head, status, dnr, dw0, c.phase⟩ v.cq c).msix c.vec
    else s.cplPosted ⟨q, cid, v.head, status, dnr, dw0, c.phase⟩ v.cq c := by
  have hc' : ((s.setHst { s.hst with cmds := s.hst.cmds.filter (fun c => !(c.q == q && c.cid == cid)) }).syncTeller).cq v.cq = some c := hc
  unfold State.complete
  simp only [hn, hv, hc']
  simp only [decide_eq_true_eq]
  rfl

theorem State.complete_hst (status : Nat) (dnr : Bool) (dw0 : Word) : ∃ l, (s.complete q cid status dnr dw0).hst =
    { s.hst.completed ⟨q, cid, v.head, status, dnr, dw0, c.phase⟩ v.cq c with mxPend := l } := by
  rw [State.complete_of_known hn hv hc]
  split
  · exact State.msix_hst ..
  · exact ⟨_, rfl⟩

theorem State.complete_q (status : Nat) (dnr : Bool) (dw0 : Word) : (s.complete q cid status dnr dw0).aud.q = s.aud.q := by
  rw [State.complete_of_known hn hv hc]
  split
  · exact State.msix_q ..
  · rfl

theorem State.complete_cpl (status : Nat) (dnr : Bool) (dw0 : Word) : (s.complete q cid status dnr dw0).hst.cpl =
    s.hst.cpl ++ [⟨q, cid, v.head, status, dnr, dw0, c.phase⟩] := by
  obtain ⟨l, hl⟩ := State.complete_hst hn hv hc status dnr dw0
  rw [hl]
  rfl

end

/-- What a completion does not change of a register but the Teller's count. -/
theorem State.complete_rd {r : Nat} (h : r ≠ rHstTeller) (q : Nat) (cid : BitVec 16) (status : Nat) (dnr : Bool) (dw0 : Word) :
    (s.complete q cid status dnr dw0).rd r = s.rd r := State.complete_keepsRegs r (by simpa using h)

/-- The record of a sequence error (R458). -/
def State.seqRecorded (s : State) (q detail : Nat) : State :=
  ((s.wr rHstCseLast (BitVec.ofNat 32 (detail * 2 ^ 16 + q))).count rHstCse).raise 0x0E7 2

theorem fget_pair {a b : Nat} (ha : a < 2 ^ 16) (hb : b < 2 ^ 16) : fget (BitVec.ofNat 32 (b * 2 ^ 16 + a)) 0 16 = a ∧
    fget (BitVec.ofNat 32 (b * 2 ^ 16 + a)) 16 16 = b := by
  unfold fget
  rw [BitVec.toNat_ofNat, Nat.shiftRight_zero, Nat.shiftRight_eq_div_pow]
  omega

theorem State.ncmd_of_hst {q : Nat} {cid : BitVec 16} (h : t.hst = s.hst) : t.ncmd q cid = s.ncmd q cid := by
  rw [State.ncmd, h, State.ncmd]

theorem State.sq_of_hst {q : Nat} (h : t.hst = s.hst) : t.sq q = s.sq q := by rw [State.sq, h, State.sq]

theorem State.cq_of_hst {q : Nat} (h : t.hst = s.hst) : t.cq q = s.cq q := by rw [State.cq, h, State.cq]

theorem State.finish_of_sequence (q : Nat) (cid : BitVec 16) (detail : Nat) : s.finish q cid stSequence detail =
    (s.seqRecorded q detail).complete q cid stSequence true (BitVec.ofNat 32 detail) := if_pos rfl

/-- Settles O46. -/
theorem nvmeCompletion : Obligations.NvmeCompletion := by
  refine ⟨fun s q cid status dnr dw0 n v c hn hv hc => ?_, fun s q cid status dnr dw0 n v c hn hv hc hien hm => ?_,
    fun s q cid detail n v c hn hv hc hd hq => ?_, fun s q cid n v c hn hv hc => ?_, fun s q cid n v c hn hv hc => ?_⟩
  · obtain ⟨l, hl⟩ := State.complete_hst hn hv hc status dnr dw0
    rw [State.cq, State.sq, hl]
    exact ⟨rfl, rfl, Map.get_set_same (fun _ => none) s.hst.cqs v.cq (some c.advanced), hv⟩
  · have hm' : (s.cplPosted ⟨q, cid, v.head, status, dnr, dw0, c.phase⟩ v.cq c).mxMasked c.vec = false := hm
    rw [State.complete_of_known hn hv hc, if_pos hien, State.msix_of_unmasked hm']
    rfl
  · have hhst : (s.seqRecorded q detail).hst = s.hst := State.raise_hst ..
    have hn' := (State.ncmd_of_hst (q := q) (cid := cid) hhst).trans hn
    have hv' := (State.sq_of_hst (q := q) hhst).trans hv
    have hc' := (State.cq_of_hst (q := v.cq) hhst).trans hc
    have hlast : (s.seqRecorded q detail).rd rHstCseLast = BitVec.ofNat 32 (detail * 2 ^ 16 + q) := by
      rw [State.seqRecorded, State.raise_rd, State.rd_count_other (by decide), State.rd_wr_same]
    intro t
    have ht : t = (s.seqRecorded q detail).complete q cid stSequence true (BitVec.ofNat 32 detail) := State.finish_of_sequence ..
    rw [ht]
    refine ⟨?_, ?_, ?_, ?_, fun h => ?_⟩
    · rw [State.complete_cpl hn' hv' hc', hhst]
    · rw [State.fld, State.complete_rd (by decide), hlast]
      exact (fget_pair hq hd).1
    · rw [State.fld, State.complete_rd (by decide), hlast]
      exact (fget_pair hq hd).2
    · rw [State.complete_rd (by decide), State.seqRecorded, State.raise_rd, State.rd_count, if_pos rfl,
        State.rd_wr_other _ _ (by decide)]
    · refine (State.hears_of_q (State.complete_q hn' hv' hc' ..)).trans (State.raise_hears_of h rfl rfl ?_)
      rw [State.rd_count_other (by decide), State.rd_wr_other _ _ (by decide)]
  · have hhst : ((s.count rHstUre).raise 0x0E8 2).hst = s.hst := State.raise_hst ..
    have hn' := (State.ncmd_of_hst (q := q) (cid := cid) hhst).trans hn
    have hv' := (State.sq_of_hst (q := q) hhst).trans hv
    have hc' := (State.cq_of_hst (q := v.cq) hhst).trans hc
    have ht : s.finish q cid stUnrecovered 0 = ((s.count rHstUre).raise 0x0E8 2).complete q cid stUnrecovered true 0#32 :=
      (if_neg (by decide)).trans (if_pos rfl)
    rw [ht]
    refine ⟨?_, ?_, fun h => ?_⟩
    · rw [State.complete_cpl hn' hv' hc', hhst]
    · rw [State.complete_rd (by decide), State.raise_rd, State.rd_count, if_pos rfl]
    · exact (State.hears_of_q (State.complete_q hn' hv' hc' ..)).trans
        (State.raise_hears_of h rfl rfl (State.rd_count_other (by decide)))
  · have ht : s.finish q cid stNotReady 0 = (s.count rHstNotReady).complete q cid stNotReady false 0#32 :=
      (if_neg (by decide)).trans ((if_neg (by decide)).trans (if_pos rfl))
    rw [ht]
    refine ⟨State.complete_cpl (s := s.count rHstNotReady) hn hv hc .., ?_⟩
    rw [State.complete_rd (by decide), State.rd_count, if_pos rfl]

end Sys2Proof.Machine
end

section
/-! PROOF. What follows a command is settled: `State.follow` run a second time changes nothing. The closed frames have left the
tap, no fresh entry waits, the frame under correlation is not gone, and the lists of freed entries are pruned. -/

namespace Sys2Proof.Machine

open Sys2Proof

variable {s t : State}

/-! ### Boundaries and fresh entries -/

/-- A closed frame that waits for its boundary (the frames that `State.runBoundaries` takes). -/
def Frame.due (f : Frame) : Bool := f.tap == 2 && !f.open_

/-- The same frame by its serial and its partition (the frames that `State.dropFrame` drops). -/
def Frame.same (f g : Frame) : Bool := g.serial == f.serial && g.part == f.part

theorem State.boundaryAt_ing (i n : Nat) : (s.boundaryAt i n).ing = s.ing := State.blur_ing (State.boundaryAt_blur s i n 1624080 rfl) rfl

theorem State.runBoundaries_ing :
    s.runBoundaries.ing = { s.ing with frames := s.ing.frames.filter fun g => (s.ing.frames.filter Frame.due).all fun f => !f.same g } := by
  have hgo (l : List Frame) (t : State) : (t.forEach l fun t f =>
      (if (t.servers f.stream).isEmpty then t.boundaryAt f.stream f.serial else t).dropFrame f).ing =
      { t.ing with frames := t.ing.frames.filter fun g => l.all fun f => !f.same g } := by
    induction l generalizing t with
    | nil => simp [State.forEach]
    | cons f fs ih =>
      have hf : ((if (t.servers f.stream).isEmpty then t.boundaryAt f.stream f.serial else t).dropFrame f).ing =
          { t.ing with frames := t.ing.frames.filter fun g => !f.same g } := by
        split
        · exact congrArg (fun i : Ing => { i with frames := i.frames.filter fun g => !f.same g }) (State.boundaryAt_ing ..)
        · rfl
      refine (ih _).trans ?_
      rw [hf]
      simp only [List.filter_filter, List.all_cons]
      simp only [Bool.and_comm]
  exact hgo _ s

theorem State.runBoundaries_due : s.runBoundaries.ing.frames.filter Frame.due = [] := by
  rw [State.runBoundaries_ing, List.filter_eq_nil_iff]
  intro f hf hd
  obtain ⟨hm, hall⟩ := List.mem_filter.mp hf
  have := List.all_eq_true.mp hall f (List.mem_filter.mpr ⟨hm, hd⟩)
  simp [Frame.same] at this

theorem State.runBoundaries_of_none (h : s.ing.frames.filter Frame.due = []) : s.runBoundaries = s :=
  congrArg (fun l => s.forEach l _) h

theorem State.cmpIntake_ing : s.cmpIntake.ing = s.ing := State.blur_ing (State.cmpIntake_blur s 4194304 rfl) rfl

theorem State.cmpIntake_of_none (h : s.ing.fresh = []) : s.cmpIntake = s := by
  simp [State.cmpIntake, h]

theorem State.corIntake_of_none (h : s.ing.fresh = []) : s.corIntake = s := if_pos (by simp [h])

/-! ### What a walk and the next frame of the correlator leave of ingest -/

/-- The frames and the fresh entries are those of `t`. -/
def State.sameIntake (s t : State) : Prop := t.ing.frames = s.ing.frames ∧ t.ing.fresh = s.ing.fresh

theorem State.sameIntake.of_ing (h : t.ing = s.ing) : s.sameIntake t := ⟨congrArg Ing.frames h, congrArg Ing.fresh h⟩

theorem State.sameIntake.trans {u : State} (h : s.sameIntake t) (h' : t.sameIntake u) : s.sameIntake u :=
  ⟨h'.1.trans h.1, h'.2.trans h.2⟩

/-- The frames, the fresh entries and the frame under correlation are those of `t`. -/
def State.sameWalk (s t : State) : Prop := s.sameIntake t ∧ t.cor.cur = s.cor.cur

theorem State.sameWalk.trans {u : State} (h : s.sameWalk t) (h' : t.sameWalk u) : s.sameWalk u :=
  ⟨h.1.trans h'.1, h'.2.trans h.2⟩

theorem State.sameWalk.ite {β : Type} {c : Prop} [Decidable c] {a b : State × β} (ha : s.sameWalk a.1) (hb : s.sameWalk b.1) :
    s.sameWalk (if c then a else b).1 := by
  split
  · exact ha
  · exact hb

theorem State.corLost_cor (j : Nat) : (s.corLost j).cor = s.cor := State.blur_cor (State.corLost_blur s j 49168 rfl) rfl

theorem State.corLost_ing (j : Nat) : (s.corLost j).ing = s.ing := State.blur_ing (State.corLost_blur s j 49168 rfl) rfl

theorem State.walk_sameWalk (j n : Nat) : s.sameWalk (s.walk j n).1 := by
  induction n generalizing s with
  | zero => exact ⟨⟨rfl, rfl⟩, rfl⟩
  | succ n ih =>
    rw [State.walk]
    extract_lets
    split
    · exact ⟨⟨rfl, rfl⟩, rfl⟩
    next e he =>
    extract_lets first s1 s2 r s3 s4
    have hl := State.forEach_keeps (fun t : State => (t.ing, t.cor)) (f := fun t (_ : Nat) => t.corLost j)
      (fun _ _ => Prod.ext (State.corLost_ing j) (State.corLost_cor j)) first s1
    have h4 : s.sameWalk s4 := by
      unfold s4
      split
      · exact ⟨⟨rfl, rfl⟩, rfl⟩
      · exact ⟨⟨rfl, rfl⟩, rfl⟩
    refine .ite ⟨⟨rfl, rfl⟩, rfl⟩ (.ite (.trans (t := s1) ⟨⟨rfl, rfl⟩, rfl⟩ (.trans ⟨.of_ing (congrArg Prod.fst hl), congrArg (fun p => p.2.cur) hl⟩ ih)) (.ite ⟨⟨rfl, rfl⟩, rfl⟩ (.ite ?_
      (.ite (.trans (t := s2) ⟨⟨rfl, rfl⟩, rfl⟩ ih) (.ite (.trans (t := s2.count (rCorJSkipped j)) ⟨⟨rfl, rfl⟩, rfl⟩ ih)
        (.ite (.trans (t := s2) ⟨⟨rfl, rfl⟩, rfl⟩ ih) ⟨⟨rfl, rfl⟩, rfl⟩))))))
    split
    · exact .ite (h4.trans ih) h4
    · exact h4.trans ih

theorem State.beginFrame_ing (j n r : Nat) (b : Bool) : (s.beginFrame j n r b).ing = s.ing :=
  State.blur_ing (State.beginFrame_blur s j n r b 18874384 rfl) rfl

theorem walkFound_sameIntake {a : State × Option (Nat × Nat × Nat)} (h : s.sameIntake a.1) : s.sameIntake (walkFound a) := by
  unfold walkFound
  split
  · exact h.trans (.of_ing (State.beginFrame_ing ..))
  · exact h

theorem walkJob_sameWalk {a : State × Option (Nat × Nat × Nat)} (h : s.sameWalk a.1) (j : Nat) : s.sameWalk (walkJob a j).1 := by
  unfold walkJob
  split
  · exact h
  · exact h.trans (State.walk_sameWalk ..)

theorem walkJobs_sameWalk (l : List Nat) : s.sameWalk (l.foldl walkJob (s, none)).1 :=
  List.foldlRecOn (motive := fun a => s.sameWalk a.1) l walkJob ⟨⟨rfl, rfl⟩, rfl⟩ fun _ h j _ => walkJob_sameWalk h j

theorem State.corNext_sameIntake (n : Nat) : s.sameIntake (s.corNext n) := by
  induction n generalizing s with
  | zero => exact ⟨rfl, rfl⟩
  | succ n ih =>
    rw [State.corNext]
    extract_lets held
    split
    · exact ⟨rfl, rfl⟩
    split
    · exact ⟨rfl, rfl⟩
    split
    · exact ⟨rfl, rfl⟩
    split
    · extract_lets q s1
      split
      · exact .trans (t := s1.corLost _) (.of_ing (State.corLost_ing _)) ih
      · exact .of_ing (State.beginFrame_ing ..)
    · exact walkFound_sameIntake (walkJobs_sameWalk _).1

theorem State.corSettle_ing : s.corSettle.ing = s.ing := State.blur_ing (State.corSettle_blur s 2146320 rfl) rfl

theorem State.syncCor_ing : s.syncCor.ing = s.ing := State.blur_ing (State.syncCor_blur s 80 rfl) rfl

theorem State.corRun_sameIntake : s.sameIntake s.corRun :=
  .trans (.of_ing State.corSettle_ing) (.trans (State.corNext_sameIntake 8) (.of_ing (State.syncCor_ing.trans State.corSettle_ing)))

theorem State.ite_keeps {β : Type} {c : Prop} [Decidable c] {a b : State} {g : State → β} {x : β} (ha : g a = x) (hb : g b = x) :
    g (if c then a else b) = x := by
  split
  · exact ha
  · exact hb

/-! ### A live frame under correlation is not gone -/

/-- The correlator holds a live frame whose entry is gone: `State.corAbandon` gives it up. -/
def State.liveGone (s : State) : Bool :=
  match s.cor.cur with
  | some f => f.live && s.corUp && s.frameGone f.job f.serial
  | none => false

/-- The registers that the correlator and the coins of memory write once a frame is taken. -/
def corMarks : List Nat := rCorStat :: ((List.range 4).map rMemCoinStat ++ (List.range 4).map rCorJStat)

theorem corMarks_avoid_part (p : Nat) (h : p < 32) : rIngPartCfg p ∉ corMarks := by
  revert p
  decide

theorem corMarks_avoid_job (j : Nat) (h : j < 4) : rCorJCfg j ∉ corMarks := by
  revert j
  decide

theorem State.partOf_of_keepsRegs (h : keepsRegs corMarks s t) (i : Nat) : t.partOf i = s.partOf i := by
  refine List.find?_congr fun p hp => ?_
  have hr := h _ (corMarks_avoid_part p (List.mem_range.mp hp))
  rw [State.bit_of_rd hr, State.fld_of_rd hr]

theorem State.frameGone_of_keepsRegs (h : keepsRegs corMarks s t) (hing : t.ing = s.ing) {j : Nat} (hj : j < 4) (n : Nat) :
    t.frameGone j n = s.frameGone j n := by
  have hp : t.corPart j = s.corPart j := by
    rw [State.corPart, State.corStream, State.fld_of_rd (h _ (corMarks_avoid_job j hj)), State.partOf_of_keepsRegs h]
    rfl
  unfold State.frameGone State.entry State.part
  rw [hp, hing]

/-- The frame under correlation, if a live one, belongs to a job and is not gone. -/
def State.liveKept (s : State) : Prop := ∀ f, s.cor.cur = some f → f.live = true → f.job < 4 ∧ s.frameGone f.job f.serial = false

theorem State.liveKept.of_none (h : s.cor.cur = none) : s.liveKept := fun f hf => by simp [h] at hf

theorem State.liveKept.step (hs : s.liveKept) (hk : keepsRegs corMarks s t) (hing : t.ing = s.ing) (hcur : t.cor.cur = s.cor.cur) :
    t.liveKept := fun f hf hl => by
  obtain ⟨hj, hg⟩ := hs f (hcur ▸ hf) hl
  exact ⟨hj, (State.frameGone_of_keepsRegs hk hing hj _).trans hg⟩

theorem State.liveKept.liveGone (h : s.liveKept) : s.liveGone = false := by
  unfold State.liveGone
  split
  next f hf =>
    cases hl : f.live with
    | false => rfl
    | true =>
      obtain ⟨_, hg⟩ := h f hf hl
      simp [hg]
  · rfl

theorem State.corIdle_keepsRegs {j : Nat} (hj : j < 4) : keepsRegs corMarks s (s.corIdle j) := by
  have hm : rCorJStat j ∈ corMarks := by
    revert j
    decide
  unfold State.corIdle
  exact .ite (.raise (.setFld (.setFld (.refl _ _) _ _ _ hm) _ _ _ hm) _ _) (.setFld (.setFld (.refl _ _) _ _ _ hm) _ _ _ hm)

theorem State.corIdle_cur (j : Nat) : (s.corIdle j).cor.cur = s.cor.cur := by
  unfold State.corIdle
  exact State.ite_keeps (g := fun t : State => t.cor.cur) ((congrArg Cor.cur (State.raise_cor _ 0x0B8 2)).trans rfl) rfl

theorem State.corSettle_keepsRegs : keepsRegs corMarks s s.corSettle := by
  refine .forEach _ (fun t j hj => ?_) (.refl _ _)
  have hj : j < 4 := List.mem_range.mp hj
  have hm : rCorJStat j ∈ corMarks := by
    revert j
    decide
  have hi := State.corIdle_keepsRegs (s := t) hj
  have ht := keepsRegs.refl corMarks t
  exact .ite ht (.ite (.ite (.ite hi ht) (.ite (.ite (.setFld (.setFld ht _ _ _ hm) _ _ _ hm) hi) ht)) (.ite (.ite hi ht) ht))

theorem State.corSettle_cur : s.corSettle.cor.cur = s.cor.cur := by
  refine State.forEach_keeps (fun t : State => t.cor.cur) (fun t j => ?_) _ s
  have hi := State.corIdle_cur (s := t) j
  have hk {c : Prop} [Decidable c] {a b : State} (ha : a.cor.cur = t.cor.cur) (hb : b.cor.cur = t.cor.cur) :
      (if c then a else b).cor.cur = t.cor.cur := State.ite_keeps (g := fun t : State => t.cor.cur) ha hb
  exact hk rfl (hk (hk (hk hi rfl) (hk (hk rfl hi) rfl)) (hk (hk hi rfl) rfl))

theorem State.syncCor_keepsRegs : keepsRegs corMarks s s.syncCor := by
  unfold State.syncCor
  extract_lets prep held st j s1
  have h1 : keepsRegs corMarks s s1 := .setFld (.setFld (.refl _ _) _ _ _ (by simp [corMarks])) _ _ _ (by simp [corMarks])
  clear_value s1
  split
  · exact h1.of_regs rfl
  · exact h1

theorem State.syncCor_cor : s.syncCor.cor = s.cor := State.blur_cor (State.syncCor_blur s 80 rfl) rfl

theorem State.serve_keepsRegs_corMarks : keepsRegs corMarks s s.serve := State.serve_keepsRegs.mono (by decide)

theorem State.spend_keepsRegs (p n : Nat) : keepsRegs corMarks s (s.spend p n) :=
  .ite (.refl _ _) (.trans (.of_regs (.refl _ s) rfl) State.serve_keepsRegs_corMarks)

theorem State.nextLive_job {j n r : Nat} (h : s.nextLive = some (j, n, r)) : j < 4 := by
  have hall : ∀ x, s.nextLive = some x → x.1 < 4 := by
    refine List.foldlRecOn (motive := fun b : Option (Nat × Nat × Nat) => ∀ x, b = some x → x.1 < 4) _ _ (by simp) ?_
    intro b hb k hk
    have hk : k < 4 := List.mem_range.mp hk
    split
    · exact hb
    · split
      · simp [hk]
      · split
        · simp [hk]
        · exact hb
  exact hall _ h

theorem State.beginFrame_cur (j n r : Nat) (b : Bool) :
    ∃ f, (s.beginFrame j n r b).cor.cur = some f ∧ f.job = j ∧ f.serial = n ∧ f.live = b := ⟨_, rfl, rfl, rfl, rfl⟩

theorem State.beginFrame_keepsRegs (j n r : Nat) (b : Bool) : keepsRegs corMarks s (s.beginFrame j n r b) :=
  (State.spend_keepsRegs 0 (s.corBursts j b)).of_regs rfl

theorem State.beginFrame_liveKept {j n : Nat} {b : Bool} (hj : b = true → j < 4 ∧ s.frameGone j n = false) (r : Nat) :
    (s.beginFrame j n r b).liveKept := by
  intro f hf hl
  obtain ⟨f', hf', rfl, rfl, rfl⟩ := State.beginFrame_cur (s := s) j n r b
  obtain rfl : f' = f := Option.some.inj (hf'.symm.trans hf)
  obtain ⟨hj, hg⟩ := hj hl
  exact ⟨hj, (State.frameGone_of_keepsRegs (State.beginFrame_keepsRegs _ _ r _) (State.beginFrame_ing ..) hj _).trans hg⟩

theorem walkFound_liveKept {a : State × Option (Nat × Nat × Nat)} (h : a.1.cor.cur = none) : (walkFound a).liveKept := by
  unfold walkFound
  split
  · exact State.beginFrame_liveKept (by simp) _
  · exact .of_none h

theorem State.corNext_liveKept (n : Nat) (h : s.cor.cur = none) : (s.corNext n).liveKept := by
  induction n generalizing s with
  | zero => exact .of_none h
  | succ n ih =>
    rw [State.corNext]
    extract_lets held
    split
    · exact .of_none h
    split
    · exact .of_none h
    split
    · exact .of_none h
    split
    next j m r hn =>
      extract_lets q s1
      split
      · exact ih ((congrArg Cor.cur (State.corLost_cor j)).trans h)
      next hg => exact State.beginFrame_liveKept (fun _ => ⟨State.nextLive_job hn, Bool.eq_false_iff.mpr hg⟩) r
    · exact walkFound_liveKept ((walkJobs_sameWalk _).2.trans h)

theorem State.corRun_liveKept (h : s.cor.cur = none) : s.corRun.liveKept :=
  ((State.corNext_liveKept 8 (State.corSettle_cur.trans h)).step State.corSettle_keepsRegs State.corSettle_ing State.corSettle_cur).step
    State.syncCor_keepsRegs State.syncCor_ing (congrArg Cor.cur State.syncCor_cor)

/-! ### What an abandoned frame and the pruned lists leave -/

theorem State.corAbandon_of_kept (h : s.liveGone = false) : s.corAbandon = s := by
  unfold State.liveGone at h
  unfold State.corAbandon
  split
  next f hf =>
    rw [hf] at h
    exact if_neg (Bool.eq_false_iff.mp h)
  · rfl

theorem State.corAbandon_of_gone {f : CorFrame} (hf : s.cor.cur = some f)
    (h : (f.live && s.corUp && s.frameGone f.job f.serial) = true) :
    s.corAbandon = ((s.setCor { s.cor with cur := none }).corLost f.job).corRun := by
  rw [State.corAbandon, hf]
  exact if_pos h

/-- A frame that is not given up stays; one that is leaves the correlator, which takes the next. -/
theorem State.corAbandon_cases : s.liveGone = false ∧ s.corAbandon = s ∨
    ∃ j, s.corAbandon = ((s.setCor { s.cor with cur := none }).corLost j).corRun := by
  cases h : s.liveGone with
  | false => exact .inl ⟨rfl, State.corAbandon_of_kept h⟩
  | true =>
    unfold State.liveGone at h
    split at h
    next f hf => exact .inr ⟨f.job, State.corAbandon_of_gone hf h⟩
    · simp at h

theorem State.corAbandon_liveGone : s.corAbandon.liveGone = false := by
  obtain ⟨h, hs⟩ | ⟨j, hs⟩ := s.corAbandon_cases
  · rw [hs, h]
  · rw [hs]
    exact (State.corRun_liveKept (congrArg Cor.cur (State.corLost_cor j))).liveGone

theorem State.corAbandon_sameIntake : s.sameIntake s.corAbandon := by
  obtain ⟨_, hs⟩ | ⟨j, hs⟩ := s.corAbandon_cases
  · rw [hs]
    exact ⟨rfl, rfl⟩
  · rw [hs]
    exact .trans (t := (s.setCor { s.cor with cur := none }).corLost j) (.of_ing (State.corLost_ing j)) State.corRun_sameIntake

theorem Map.get_map {α : Type} (d : Nat → α) (f : α → α) (hf : ∀ k, f (d k) = d k) (m : Map α) (k : Nat) :
    Map.get d (m.map fun p => (p.1, f p.2)) k = f (Map.get d m k) := by
  induction m with
  | nil => exact (hf k).symm
  | cons p m ih =>
    rw [List.map_cons, Map.get, Map.get, ih]
    split
    · rfl
    · rfl

theorem State.pruneGone_entry (p n : Nat) : s.pruneGone.entry p n = s.entry p n := by
  unfold State.pruneGone
  split
  · have hp := Map.get_map (fun _ => Part.init) (fun q : Part => { q with gone := [] }) (fun _ => rfl) s.ing.parts p
    exact congrArg (fun q : Part => q.entries.find? fun e => e.serial == n) hp
  · rfl

theorem State.pruneGone_liveGone : s.pruneGone.liveGone = s.liveGone := by
  have hcor : s.pruneGone.cor = s.cor := by
    unfold State.pruneGone
    exact State.ite_keeps (g := fun t : State => t.cor) rfl rfl
  have hup : s.pruneGone.corUp = s.corUp := by
    unfold State.pruneGone
    exact State.ite_keeps (g := fun t : State => t.corUp) rfl rfl
  have hpart (j : Nat) : s.pruneGone.corPart j = s.corPart j := by
    unfold State.pruneGone
    exact State.ite_keeps (g := fun t : State => t.corPart j) rfl rfl
  unfold State.liveGone State.frameGone
  simp only [hcor, hup, hpart, State.pruneGone_entry]

theorem State.pruneGone_pruneGone : s.pruneGone.pruneGone = s.pruneGone := by
  by_cases h : (s.cmpQueue.isEmpty && (List.range 4).all (fun j => s.corState j == 0 || s.corState j == 4) &&
      s.ing.parts.any (fun p => !p.2.gone.isEmpty)) = true
  · have hs : s.pruneGone =
        { s with ing := { s.ing with parts := s.ing.parts.map (fun p => (p.1, { p.2 with gone := [] })) } } := if_pos h
    rw [hs]
    exact if_neg (by simp [List.any_map, Function.comp_def])
  · have hs : s.pruneGone = s := if_neg h
    rw [hs, hs]

/-! ### A second run of what follows -/

theorem State.pruneGone_sameIntake : s.sameIntake s.pruneGone := by
  unfold State.pruneGone
  split
  · exact ⟨rfl, rfl⟩
  · exact ⟨rfl, rfl⟩

theorem State.liveFrame_ing (j p n : Nat) : (s.liveFrame j p n).ing = s.ing :=
  State.blur_ing (State.liveFrame_blur s j p n 2146320 rfl) rfl

theorem State.corIntake_frames : s.corIntake.ing.frames = s.ing.frames ∧ s.corIntake.ing.fresh = [] := by
  unfold State.corIntake
  split
  next h => exact ⟨rfl, List.isEmpty_iff.mp h⟩
  extract_lets l i s0
  split
  · exact ⟨rfl, rfl⟩
  · have hl : (s0.forEach l fun t p => t.forEach (List.range 4) fun u j => u.liveFrame j p.1 p.2).ing = s0.ing :=
      State.forEach_keeps (fun t : State => t.ing)
        (fun _ _ => State.forEach_keeps (fun t : State => t.ing) (fun _ j => State.liveFrame_ing j _ _) _ _) l s0
    obtain ⟨hf, hr⟩ := State.sameIntake.trans (.of_ing hl) State.corRun_sameIntake
    exact ⟨hf, hr⟩

theorem State.follow_of_settled (hd : s.ing.frames.filter Frame.due = []) (hr : s.ing.fresh = []) (hg : s.liveGone = false) :
    s.follow = s.pruneGone := by
  rw [State.follow, State.runBoundaries_of_none hd, State.cmpIntake_of_none hr, State.corIntake_of_none hr,
    State.corAbandon_of_kept hg]

theorem State.follow_follow : s.follow.follow = s.follow := by
  obtain ⟨hf, hr⟩ := State.corIntake_frames (s := s.runBoundaries.cmpIntake)
  obtain ⟨hf', hr'⟩ := State.corAbandon_sameIntake.trans (State.pruneGone_sameIntake (s := s.runBoundaries.cmpIntake.corIntake.corAbandon))
  have hd : s.follow.ing.frames.filter Frame.due = [] := by
    rw [State.follow, hf', hf, State.cmpIntake_ing, State.runBoundaries_due]
  have hg : s.follow.liveGone = false := State.pruneGone_liveGone.trans State.corAbandon_liveGone
  rw [State.follow_of_settled hd (hr'.trans hr) hg]
  exact State.pruneGone_pruneGone

end Sys2Proof.Machine
end

section
/-! PROOF. Fences of the host, the safe state, ALIVE and fault injection (R38, R100, R544, R548, R549, R554, R555). -/

namespace Sys2Proof.Machine

open Sys2Proof

variable {s t : State}

/-! ### What events and messages leave of the Auditor -/

/-- An event changes, of the Auditor, the events that wait. -/
theorem State.raise_aud (x u : Nat) : ∃ l, (s.raise x u).aud = { s.aud with q := l } := by
  unfold State.raise State.raiseLin
  split
  · exact ⟨_, rfl⟩
  · extract_lets e a s1
    have h : ((s.chansOf x).foldl (fun t n => t.toChannel n 0#64) s1).aud = s1.aud :=
      State.forEach_keeps State.aud (f := fun t n => t.toChannel n 0#64)
        (fun t n => State.blur_aud (State.toChannel_blur t n 0#64 32768 rfl) rfl) _ _
    exact ⟨_, h⟩

theorem State.raise_severe (x u : Nat) : (s.raise x u).aud.severe = s.aud.severe := by
  obtain ⟨l, h⟩ := State.raise_aud (s := s) x u
  rw [h]

theorem State.raise_safe (x u : Nat) : (s.raise x u).aud.safe = s.aud.safe := by
  obtain ⟨l, h⟩ := State.raise_aud (s := s) x u
  rw [h]

theorem State.msix_aud (v : Nat) : ∃ l, (s.msix v).aud = { s.aud with msix := l } := by
  unfold State.msix
  split
  · split <;> exact ⟨_, rfl⟩
  · exact ⟨_, rfl⟩

theorem State.complete_aud (q : Nat) (cid : BitVec 16) (status : Nat) (dnr : Bool) (dw0 : Word) :
    ∃ l, (s.complete q cid status dnr dw0).aud = { s.aud with msix := l } := by
  unfold State.complete
  split
  · dsimp only
    split
    · exact ⟨_, rfl⟩
    · split
      · exact State.msix_aud ..
      · exact ⟨_, rfl⟩
  · exact ⟨_, rfl⟩

/-- An interrupt changes, of the Auditor, the messages sent. -/
theorem State.postAer_aud (n : Nat) : ∃ l, (s.postAer n).aud = { s.aud with msix := l } := by
  unfold State.postAer
  split
  · exact State.complete_aud ..
  · exact ⟨_, rfl⟩

theorem State.postAer_rd {r : Nat} (h : r ≠ rHstTeller) (n : Nat) : (s.postAer n).rd r = s.rd r := by
  unfold State.postAer
  split
  · exact State.complete_rd h ..
  · rfl

/-- The pending bit of a source is set once its interrupt has been asked for. -/
theorem State.irq_pending (x : Nat) (hx : rSvcAudPend (x / 32) ≠ rHstTeller) :
    (s.irq x true).bit (rSvcAudPend (x / 32)) (x % 32) = true := by
  unfold State.irq
  extract_lets a s1
  have h1 : s1.bit a (x % 32) = true := by
    simp only [s1]
    split
    case isTrue h => exact h
    case isFalse h =>
      rw [State.msix_bit]
      exact State.bit_setBit_same _ _ _ _ (Nat.mod_lt _ (by decide))
  rw [if_pos rfl]
  exact (State.bit_of_rd (State.postAer_rd hx _)).trans h1

theorem State.irq_severe (x : Nat) (b : Bool) : (s.irq x b).aud.severe = s.aud.severe := by
  unfold State.irq
  extract_lets a s1
  have h1 : s1.aud.severe = s.aud.severe := by
    simp only [s1]
    split
    · rfl
    · obtain ⟨l, hl⟩ := State.msix_aud (s := s.setBit a (x % 32) true) (65 + min 14 (s.fld (rSvcAudSrcCfg x) 24 4))
      rw [hl]
      rfl
  split
  · obtain ⟨l, hl⟩ := State.postAer_aud (s := s1) 0xC00007
    rw [State.aerFault, hl, ← h1]
  · exact h1

theorem State.putWords_aud (a : Nat) (b : List Byte) : (s.putWords a b).aud = s.aud :=
  State.forEach_keeps State.aud (f := fun t k => t.wr (a + 4 * k) (BitVec.ofNat 32 (leAt b (4 * k) 4))) (fun _ _ => rfl) _ _

/-- A record that the full ring of the Fault Ledger loses is counted (R550). -/
def State.faultLost (s : State) (wrapped : Bool) : State :=
  let t := (s.count rSvcAudFlLost).setAud { s.aud with lost := min (s.aud.lost + 1) 0xFFFFFFFF }
  if wrapped then t.raise 0x113 2 else t

theorem State.faultLost_severe (b : Bool) : (s.faultLost b).aud.severe = s.aud.severe := by
  cases b with
  | false => rfl
  | true => exact (State.raise_severe ..).trans rfl

theorem State.logFault_severe (x cls react m : Nat) (detail : Word) (inj blocked : Bool) :
    (s.logFault x cls react m detail inj blocked).aud.severe = s.aud.severe := by
  unfold State.logFault
  extract_lets seq full e s1 a t1 s2
  have h1 : s1.aud.severe = s.aud.severe := by
    simp only [s1, State.wr_aud, State.putWords_aud]
  have h2 : s2.aud.severe = s.aud.severe := by
    have hs : s2 = if full then s1.faultLost (decide (seq % 1024 = 0)) else s1 := by
      simp only [s2, State.faultLost, decide_eq_true_eq]
      rfl
    rw [hs]
    exact State.ite_keeps (g := fun t : State => t.aud.severe) ((State.faultLost_severe _).trans h1) h1
  exact State.ite_keeps (g := fun t : State => t.aud.severe) h2 h2

theorem State.toChannels_keeps {β : Type} (g : State → β) (h : ∀ t c, g { t with ch := c } = g t) (l : List Nat) (lin : BitVec 64) :
    g (l.foldl (fun t n => t.toChannel n lin) s) = g s :=
  State.forEach_keeps g (f := fun t n => t.toChannel n lin) (fun t n => by
    unfold State.toChannel
    split
    · exact h t _
    · rfl) l s

/-! ### Fences of the host -/

theorem State.hostFence_of_no_key {v : Word} (h : fget v 16 16 ≠ 0xA5C3) : s.hostFence v = s.violation rSvcAudFence := if_pos (.inl h)

theorem State.hostFence_of_mss {v : Word} (h7 : v.getLsbD 7 = false) (h : inMss (fget v 10 4) (fget v 0 6) = true) :
    s.hostFence v = s.violation rSvcAudFence := by
  unfold State.hostFence
  simp only [h7, Bool.false_eq_true, if_false, h, Bool.true_or, or_true, if_true]

/-- A unit fenced by the host, before the ledger. -/
def State.fenceCounted (s : State) (c u : Nat) : State :=
  ((s.fenceUnit c u).countN (rSvcAudCnt 0x112) 1).setAud
    { (s.fenceUnit c u).aud with severe := min ((s.fenceUnit c u).aud.severe + 1) 0xFFFFFFFF }

/-- A unit fenced by the host, with its entry and its interrupt. -/
def State.fenceTold (s : State) (c u : Nat) : State :=
  ((s.fenceCounted c u).logFault 0x112 2 7 1 ((s.fenceUnit c u).detailOf 0x112 2) false false).irq 0x112 true

theorem State.hostFence_of_unit {v : Word} (hkey : fget v 16 16 = 0xA5C3) (h7 : v.getLsbD 7 = false)
    (hp : present s.variant (fget v 10 4) (fget v 0 6) = true) (hm : inMss (fget v 10 4) (fget v 0 6) = false) :
    s.hostFence v = ((s.fenceTold (fget v 10 4) (fget v 0 6)).chansOf 0x112).foldl (fun t n => t.toChannel n 0#64)
      (s.fenceTold (fget v 10 4) (fget v 0 6)) := by
  unfold State.hostFence
  simp only [h7, Bool.false_eq_true, if_false]
  refine (if_neg ?_).trans rfl
  simp [hkey, hm, hp]

theorem State.fenceTold_severe (c u : Nat) :
    (s.fenceTold c u).aud.severe = min ((s.fenceUnit c u).aud.severe + 1) 0xFFFFFFFF := by
  rw [State.fenceTold, State.irq_severe, State.logFault_severe]
  rfl

theorem State.hostFence_plane (v : Word) : (s.hostFence v).plane = s.plane := State.blur_plane (State.hostFence_blur s v 201254992 rfl) rfl

theorem State.setFence_fenced (c u : Nat) : (s.setFence c u true).fenced c u = true := by
  have hne : rDevFenceCl ≠ rDevFenceU (2 * c + u / 32) := by unfold rDevFenceCl rDevFenceU; omega
  rw [State.setFence, State.syncFence, State.fenced, State.bit_setBit_ne _ _ _ hne]
  exact State.bit_setBit_same _ _ _ _ (Nat.mod_lt _ (by decide))

/-! ### The safe state -/

theorem State.setStrobe_rd (n : Nat) (v : Strobe) {r : Nat} (h : rSchSoStat ≠ r) : (s.setStrobe n v).rd r = s.rd r :=
  (State.rd_setBit_other (s := { s with sch := _ }) _ _ h).trans rfl

theorem State.cutPulses_rd {r : Nat} (h : rSchSoStat ≠ r) : s.cutPulses.rd r = s.rd r := by
  have hheads : (s.forEach (List.range 4) (fun t n => t.setSchHead n { t.schHead n with pulse := none })).rd r = s.rd r :=
    State.forEach_keeps (State.rd · r) (f := fun t n => t.setSchHead n { t.schHead n with pulse := none }) (fun _ _ => rfl) _ _
  refine Eq.trans ?_ hheads
  exact State.forEach_keeps (State.rd · r) (f := fun t n => t.setStrobe n ⟨none, none⟩) (fun _ _ => State.setStrobe_rd _ _ h) _ _

theorem State.cutPulses_aud : s.cutPulses.aud = s.aud := State.blur_aud (State.cutPulses_blur _ 524304 rfl) rfl

theorem State.cutPulses_pwr : s.cutPulses.pwr = s.pwr := State.blur_pwr (State.cutPulses_blur _ 524304 rfl) rfl

/-- The units of the memory subsystem that serve on behind a fatal fault. -/
def State.safeRun (s : State) (x u : Nat) : Nat :=
  if s.released && s.fld (rSvcAudSrcCfg x) 30 2 == 3 then mssCode (srcCluster x) u else 0

/-- The safe state is shown, ALIVE stands. -/
def State.safeShown (s : State) (x u : Nat) : State :=
  let s1 := (s.setFld rSvcAudStat 28 4 1).setFld rSvcAudStat 16 9 x
  let s2 : State := if s.safeRun x u = 0 then s1 else { s1 with pwr := { s1.pwr with mssRun := s.safeRun x u } }
  (s2.setAud { s2.aud with safe := 1 }).aliveOff

theorem State.enterSafe_of_released {x u : Nat} (hs : s.aud.safe = 0) (hp : s.pwr.phase = .released) :
    s.enterSafe x u = (s.safeShown x u).cutPulses := by
  have hr : s.released = true := by rw [State.released, hp]; rfl
  exact if_neg (by simp [hs, hp, hr])

theorem State.safeShown_rd (x u : Nat) : (s.safeShown x u).rd rSvcAudStat =
    (((s.setFld rSvcAudStat 28 4 1).setFld rSvcAudStat 16 9 x).setBit rSvcAudStat 0 false).rd rSvcAudStat := by
  unfold State.safeShown
  split <;> rfl

theorem State.safeShown_aud (x u : Nat) : (s.safeShown x u).aud = { s.aud with safe := 1, level := false } := by
  unfold State.safeShown
  split <;> rfl

theorem State.safeShown_mssRun (x u : Nat) (h : s.safeRun x u ≠ 0) : (s.safeShown x u).pwr.mssRun = s.safeRun x u := by
  simp only [State.safeShown, if_neg h]
  rfl

theorem State.enterSafe_holds {x u : Nat} (hx : x < 288) (hs : s.aud.safe = 0) (hp : s.pwr.phase = .released) :
    (s.enterSafe x u).aud.safe = 1 ∧ (s.enterSafe x u).fld rSvcAudStat 28 4 = 1 ∧
    (s.enterSafe x u).fld rSvcAudStat 16 9 = x ∧ (s.enterSafe x u).bit rSvcAudStat 0 = false ∧
    (s.enterSafe x u).aud.level = false := by
  have hrd : (s.safeShown x u).cutPulses.rd rSvcAudStat = _ := (State.cutPulses_rd (by decide)).trans (State.safeShown_rd x u)
  rw [State.enterSafe_of_released hs hp, State.fld_of_rd hrd, State.fld_of_rd hrd, State.bit_of_rd hrd, State.cutPulses_aud,
    State.safeShown_aud]
  refine ⟨rfl, ?_, ?_, State.bit_setBit_same _ _ _ _ (by decide), rfl⟩
  · rw [State.fld_setBit_apart _ _ _ _ (by decide), State.fld_setFld_apart _ _ _ _ _ (by decide)]
    exact State.fld_setFld_same _ _ _ _ _ (by decide)
  · rw [State.fld_setBit_apart _ _ _ _ (by decide), State.fld_setFld_same _ _ _ _ _ (by decide)]
    exact Nat.mod_eq_of_lt (by omega)

theorem State.enterSafe_mssRun {x u : Nat} (hs : s.aud.safe = 0) (hp : s.pwr.phase = .released)
    (hc : s.fld (rSvcAudSrcCfg x) 30 2 = 3) (hm : mssCode (srcCluster x) u ≠ 0) :
    (s.enterSafe x u).pwr.mssRun = mssCode (srcCluster x) u := by
  have hr : s.released = true := by rw [State.released, hp]; rfl
  have hrun : s.safeRun x u = mssCode (srcCluster x) u := if_pos (by rw [hr, hc]; rfl)
  rw [State.enterSafe_of_released hs hp, State.cutPulses_pwr, State.safeShown_mssRun x u (by rwa [hrun]), hrun]

theorem State.enterSafe_of_unreleased {x u : Nat} (hr : s.released = false) (hm : inMss (srcCluster x) u = true) :
    s.enterSafe x u = s := if_pos (by simp [hr, hm])

theorem State.safeClose_of_released {u : State} (hs : s.aud.safe = 1) (hr : s.released = true)
    (hu : u = (s.setAud { s.aud with safe := 2 }).closeAll 0#32) :
    s.safeClose = ((u.forEach u.armedStrs (fun v i =>
      (v.setSchStr i { v.schStr i with reopen := false }).beginClose i 0x100)).outputsOff).follow := by
  subst hu
  have hr' : (s.setAud { s.aud with safe := 2 }).released = true := hr
  unfold State.safeClose
  rw [if_neg (by simp [hs])]
  exact if_neg (by simp [hr'])

theorem State.safeClose_of_unreleased (hs : s.aud.safe = 1) (hr : s.released = false) :
    s.safeClose = s.setAud { s.aud with safe := 2 } := by
  have hr' : (s.setAud { s.aud with safe := 2 }).released = false := hr
  unfold State.safeClose
  rw [if_neg (by simp [hs])]
  exact if_pos (by simp [hr'])

/-! ### The clocks of the safe state -/

theorem State.fatalStatus_holds (h : s.hst.csts.getLsbD 1 = false) : s.fatalStatus.aud.safe = s.aud.safe ∧
    s.fatalStatus.ctlCfs = true ∧ s.fatalStatus.fld rHstTeller 28 4 = 4 := by
  have he : s.fatalStatus = ((s.setHst { s.hst with csts := s.hst.csts ||| 2#32 }).setTeller 4).raise 0x0E6 2 :=
    if_neg (Bool.eq_false_iff.mp h)
  rw [he]
  refine ⟨State.raise_safe .., ?_, (State.raise_fld ..).trans (State.fld_setFld_same _ _ _ _ _ (by decide))⟩
  rw [State.ctlCfs, State.raise_hst]
  change (s.hst.csts ||| 2#32).getLsbD 1 = true
  rw [BitVec.getLsbD_or, show (2#32).getLsbD 1 = true from rfl, Bool.or_true]

theorem State.pxStop_safe : s.pxStop.aud.safe = s.aud.safe := by
  unfold State.pxStop
  split
  · rfl
  · exact State.raise_safe ..

theorem State.capNows_aud (l : List Nat) : (s.forEach l fun t i => t.capNow i).aud = s.aud :=
  State.forEach_keeps State.aud (f := fun t i => t.capNow i) (fun t i => State.blur_aud (State.capNow_blur t i 524304 rfl) rfl) l s

theorem State.tmins_aud (l : List Nat) (d : Nat) : (s.forEach l fun t i =>
    let m := t.tminNow i d
    (t.setSchStr i { t.schStr i with tmin := m }).wr (rSchStrTmin i) (tminWord m)).aud = s.aud :=
  State.forEach_keeps State.aud (f := fun t i =>
    let m := t.tminNow i d
    (t.setSchStr i { t.schStr i with tmin := m }).wr (rSchStrTmin i) (tminWord m)) (fun _ _ => State.wr_aud ..) l s

theorem State.stepEval_safe : s.stepEval.aud.safe = s.aud.safe := by
  unfold State.stepEval
  extract_lets d s1 s2
  split
  · rfl
  split
  · rw [State.raise_safe, State.capNows_aud]
    rfl
  split
  · rw [State.tmins_aud]
    rfl
  · rfl

/-- The clocks stop, an array that has to be signed marked (R549). -/
def State.clocksStopped (s : State) : State :=
  let s1 := if s.released then s.markPending else s
  ((s1.setAud { s1.aud with safe := 3 }).pxStop).stepEval

theorem State.clocksStopped_safe : s.clocksStopped.aud.safe = 3 := State.stepEval_safe.trans State.pxStop_safe

theorem State.clocksStopped_hst : s.clocksStopped.hst = s.hst := by
  rw [State.clocksStopped, State.blur_hst (State.stepEval_blur _ 581648 rfl) rfl,
    State.blur_hst (State.pxStop_blur _ 57360 rfl) rfl, State.setAud_hst]
  split
  · exact State.blur_hst (State.markPending_blur s 16828432 rfl) rfl
  · rfl

/-! ### Injection -/

theorem State.injWrite_select {v : Word} (h : (s.injSc v).isSome = true) (hb : fget s.injWord 16 16 = 0) :
    s.injWrite true v = s.wr rSvcAudInjsel (v &&& 0x3FF3#32) := by
  have hn : (s.injSc v).isNone = false := by simpa using h
  simp [State.injWrite, hb, hn]

theorem State.injWrite_select_none {v : Word} (h : s.injSc v = none) : s.injWrite true v = s.violation rSvcAudInjsel := by
  simp [State.injWrite, h]

section
variable {v : Word} {sc : Nat} (h : s.injSc (s.rd rSvcAudInjsel) = some sc)
include h

theorem State.injWrite_of_idle (hb : fget s.injWord 16 16 = 0) (hsc : 2 ≤ sc) :
    s.injWrite false v = (s.setFld (rMemScInj sc) 0 16 (fget v 0 16)).setInj sc (fget v 16 16) := by
  have hsc' : ¬ sc ≤ 1 := by omega
  simp [State.injWrite, h, hb, hsc']

theorem State.injWrite_of_busy (hb : fget s.injWord 16 16 ≠ 0) (hn : fget v 16 16 ≠ 0) :
    s.injWrite false v = s.violation rSvcAudInj := by
  simp [State.injWrite, h, hb, hn]

end

theorem State.setInj_of_some {sc n : Nat} (hn : n ≠ 0) : ∃ a, s.setInj sc n = (s.setFld (rMemScInj sc) 16 16 n).setAud a := by
  unfold State.setInj
  rw [if_neg (fun e => hn e.1)]
  exact ⟨_, rfl⟩

theorem State.injected_holds {v : Word} {sc : Nat} (h : s.injSc (s.rd rSvcAudInjsel) = some sc) (hn : fget v 16 16 ≠ 0) :
    let t := (s.setFld (rMemScInj sc) 0 16 (fget v 0 16)).setInj sc (fget v 16 16)
    t.fld (rMemScInj sc) 0 16 = fget v 0 16 ∧ t.fld (rMemScInj sc) 16 16 = fget v 16 16 ∧ t.injWord = t.rd (rMemScInj sc) := by
  intro t
  obtain ⟨a, ha⟩ := State.setInj_of_some (s := s.setFld (rMemScInj sc) 0 16 (fget v 0 16)) (sc := sc) hn
  have ht : t = (((s.setFld (rMemScInj sc) 0 16 (fget v 0 16)).setFld (rMemScInj sc) 16 16 (fget v 16 16)).setAud a) := ha
  have hne : rMemScInj sc ≠ rSvcAudInjsel := by
    have hlt : sc < 64 := by
      unfold State.injSc at h
      dsimp only at h
      split at h
      · next hc => cases h; omega
      · cases h
    unfold rMemScInj rSvcAudInjsel
    omega
  have hsel : t.injSc (t.rd rSvcAudInjsel) = some sc := by
    rw [ht, State.setAud_rd, State.rd_setFld_other _ _ _ hne, State.rd_setFld_other _ _ _ hne]
    exact h
  refine ⟨?_, ?_, ?_⟩
  · rw [ht, State.setAud_fld, State.fld_setFld_apart _ _ _ _ _ (by decide), State.fld_setFld_same _ _ _ _ _ (by decide)]
    exact Nat.mod_eq_of_lt (fget_lt v 0 16)
  · rw [ht, State.setAud_fld, State.fld_setFld_same _ _ _ _ _ (by decide)]
    exact Nat.mod_eq_of_lt (fget_lt v 16 16)
  · rw [State.injWord, hsel]

theorem exec_of_reached_svc {c : Instr} {u : State} (h : s.reaches 15 = true) (hc : exec c s = if !s.reaches 15 then .next s else .next u) :
    exec c s = .next u := hc.trans (if_neg (by simp [h]))

/-- Settles O57. -/
theorem auditorControl : Obligations.AuditorControl := by
  refine ⟨fun s v hr h => ?_, fun s v hr h7 h => ?_, fun s v hr hkey h7 hp hm => ?_, fun s c u => State.setFence_fenced c u,
    fun s h => ?_, fun s hs hr => ?_, fun s u hs hr hu => ?_, fun s h => ?_, fun s hs hc => ?_,
    fun s x u hx hs hp => State.enterSafe_holds hx hs hp, fun s x u hs hp hc hm => State.enterSafe_mssRun hs hp hc hm,
    fun s x u hr hm => State.enterSafe_of_unreleased hr hm, fun s ha hl => ?_, fun s ha => ?_, fun s b ha => ?_, fun s hp => ?_,
    fun s hp => ?_, fun s hp => ?_, fun s v hr h hb => ?_, fun s v hr h => ?_, fun s v sc hr h hb hsc hn => ?_,
    fun s v sc hr h hb hn => ?_⟩
  · exact .of_eq (exec_of_reached_svc hr rfl) (State.hostFence_of_no_key h) rfl
  · exact .of_eq (exec_of_reached_svc hr rfl) (State.hostFence_of_mss h7 h) rfl
  · refine .of_eq (exec_of_reached_svc hr rfl) rfl ⟨?_, ?_, State.hostFence_plane v⟩
    · rw [State.hostFence_of_unit hkey h7 hp hm, State.toChannels_keeps (fun t : State => t.aud.severe) (fun _ _ => rfl)]
      exact State.fenceTold_severe ..
    · rw [State.hostFence_of_unit hkey h7 hp hm,
        State.toChannels_keeps (fun t : State => t.bit (rSvcAudPend 8) 18) (fun _ _ => rfl)]
      exact State.irq_pending 0x112 (by decide)
  · exact .of_eq rfl (if_pos (by simp [h])) rfl
  · exact .of_eq rfl (State.safeClose_of_unreleased hs hr) rfl
  · exact .of_eq rfl ((State.safeClose_of_released hs hr hu).trans State.follow_follow.symm) rfl
  · exact .of_eq rfl (if_pos (by simp [h])) rfl
  · have hst := State.fatalStatus_holds (s := s.clocksStopped) (by rw [State.clocksStopped_hst]; exact hc)
    exact .of_eq (t := s.clocksStopped.fatalStatus) rfl (if_neg (by simp [hs])) ⟨hst.1.trans State.clocksStopped_safe, hst.2⟩
  · exact .of_eq rfl ((if_neg (by simp [ha])).trans (if_pos (by simp [hl]))) rfl
  · refine .of_eq (t := s.aliveOff) rfl ((if_neg (by simp [ha])).trans (if_neg (by simp))) ⟨?_, rfl⟩
    exact State.bit_setBit_same s rSvcAudStat 0 false (by decide)
  · exact .of_eq rfl (if_pos (by simp [ha])) rfl
  · have hr : s.released = true := by rw [State.released, hp]; rfl
    exact .of_eq rfl ((if_neg (by simp [hp])).trans (if_pos hr)) rfl
  · have hr : s.released = false := by rw [State.released, hp]; rfl
    exact .of_eq rfl ((if_neg (by simp [hp])).trans (if_neg (by simp [hr]))) rfl
  · refine .of_eq rfl (if_pos ?_) rfl
    obtain h | h | h := hp <;> simp [h]
  · exact .of_eq (exec_of_reached_svc hr rfl) (State.injWrite_select h hb) rfl
  · exact .of_eq (exec_of_reached_svc hr rfl) (State.injWrite_select_none h) rfl
  · exact .of_eq (exec_of_reached_svc hr rfl) (State.injWrite_of_idle h hb hsc) (State.injected_holds h hn)
  · exact .of_eq (exec_of_reached_svc hr rfl) (State.injWrite_of_busy h hb hn) rfl

end Sys2Proof.Machine
end

section
/-! PROOF. The thermal unit: zones, demands and sensors. -/

namespace Sys2Proof.Machine

open Sys2Proof

variable {s t : State} {z : Nat}

/-! ### The state of a zone -/

theorem State.setZone_zoneState (hz : z < 2) {n : Nat} (hn : n < 16) : (s.setZone z n).zoneState z = n :=
  (State.fld_setFld_same s _ _ _ _ (by omega)).trans (Nat.mod_eq_of_lt hn)

/-- A zone not in SHUTDOWN: a valid reading of the shutdown limit or more takes it there (R559). -/
theorem State.zoneStep_of_shutdown (hst : s.zoneState z < 4) (hv : (s.zoneValue z).2 = false)
    (h : zoneShutdown z ≤ (s.zoneValue z).1) : s.zoneStep z = some ((s.setZone z 4).raise 0x11A 4) := by
  unfold State.zoneStep
  split
  next h4 => omega
  · simp [hv, h]

/-- No shutdown, so the row of the zone's own state says what comes. -/
theorem State.zoneStep_of_normal (hst : s.zoneState z = 0) (h : (s.zoneValue z).1 < zoneShutdown z) :
    s.zoneStep z = if zoneWarn z ≤ (s.zoneValue z).1 then some ((s.setZone z 1).raise 0x114 4) else none := by
  simp [State.zoneStep, hst, not_le.mpr h]

/-- A zone enters REQUEST: it is marked, its grace not spent, the request counted and told (R560). -/
def State.requested (s : State) (z : Nat) : State :=
  (((s.setZone z 2).setSpent z false).count rSvcThRequests).raise 0x115 4

theorem State.zoneStep_of_held (hst : s.zoneState z = 1) (hv : (s.zoneValue z).2 = true)
    (h : zoneThrottle z ≤ (s.zoneValue z).1) : s.zoneStep z = some (s.requested z).aerTemp := by
  simp [State.zoneStep, State.requested, hst, hv, h]

theorem State.requested_holds (hz : z < 2) : (s.requested z).zoneState z = 2 ∧
    (s.requested z).th = { s.th with spent := setAt s.th.spent z false } ∧
    (s.requested z).rd rSvcThRequests = satAdd (s.rd rSvcThRequests) 1 ∧
    (s.speaks 0x115 4 = true → (s.requested z).hears 0x115 4 = true) := by
  refine ⟨?_, (State.raise_th ..).trans rfl, ?_, fun h => State.raise_hears_of h rfl rfl ?_⟩
  · refine (State.raise_fld ..).trans ((State.fld_of_rd (State.rd_count_other ?_)).trans (State.setZone_zoneState hz (by decide)))
    decide
  · refine (State.raise_rd ..).trans ((State.rd_count ..).trans ((if_pos rfl).trans ?_))
    exact congrArg (satAdd · 1) (State.rd_setFld_other _ _ _ (by decide))
  · exact (State.rd_count_other (by decide)).trans (State.rd_setFld_other _ _ _ (by decide))

/-! ### Enforcement and the demands -/

/-- A zone enters ENFORCED (R561), before its demand is set. -/
def State.enforced (s : State) (z : Nat) : State := ((s.setZone z 3).count rSvcThEnforcements).raise 0x116 4

theorem State.enforced_holds (hz : z < 2) : (s.enforced z).zoneState z = 3 ∧
    (s.enforced z).rd rSvcThEnforcements = satAdd (s.rd rSvcThEnforcements) 1 ∧ (s.enforced z).th = s.th ∧
    (s.speaks 0x116 4 = true → (s.enforced z).hears 0x116 4 = true) := by
  refine ⟨?_, ?_, (State.raise_th ..).trans rfl, fun h => State.raise_hears_of h rfl rfl ?_⟩
  · refine (State.raise_fld ..).trans ((State.fld_of_rd (State.rd_count_other ?_)).trans (State.setZone_zoneState hz (by decide)))
    decide
  · refine (State.raise_rd ..).trans ((State.rd_count ..).trans ((if_pos rfl).trans ?_))
    exact congrArg (satAdd · 1) (State.rd_setFld_other _ _ _ (by decide))
  · exact (State.rd_count_other (by decide)).trans (State.rd_setFld_other _ _ _ (by decide))

/-- An escalation is counted and told (R561). -/
def State.escalated (s : State) : State := (s.count rSvcThEscalations).raise 0x116 4

theorem State.escalated_holds : s.escalated.rd rSvcThEscalations = satAdd (s.rd rSvcThEscalations) 1 ∧ s.escalated.th = s.th ∧
    (s.speaks 0x116 4 = true → s.escalated.hears 0x116 4 = true) :=
  ⟨(State.raise_rd ..).trans ((State.rd_count ..).trans (if_pos rfl)), (State.raise_th ..).trans rfl,
    fun h => State.raise_hears_of h rfl rfl (State.rd_count_other (by decide))⟩

theorem exec_thermalEscalation (z : Fin 2) : exec (.thermalEscalation z) s =
    .next (if !s.unitLive 15 4 || s.zoneState z != 3 || (s.zoneValue z).2 || decide ((s.zoneValue z).1 < zoneThrottle z) ||
        (z.val == 1 && decide ((s.zoneValue z).1 < 520)) || decide (3 ≤ s.th.dem.getD z 0) then s
      else s.escalated.demand z (s.th.dem.getD z 0 + 1)) := rfl

theorem exec_thermalRelease (z : Fin 2) : exec (.thermalRelease z) s =
    .next (if !s.unitLive 15 4 || s.zoneState z != 3 || decide (zoneThrottle z - 40 ≤ (s.zoneValue z).1) then s
      else if s.th.dem.getD z 0 ≤ 1 then
        (s.demand z (s.th.dem.getD z 0 - 1)).setZone z (if (s.zoneValue z).1 < zoneWarn z - 16 then 0 else 1)
      else s.demand z (s.th.dem.getD z 0 - 1)) := rfl

/-! ### Sensors -/

theorem breakCause_of_range {h : List ThSample} {valid : Nat → Bool} {l : List Int} {n : Nat}
    (hr : l.getD n 0 < -320 ∨ 1200 < l.getD n 0) : breakCause h valid l n = 1 := if_pos hr

/-- One sensor takes its reading, and is marked broken where a cause says so (R558). -/
def State.sense (c : Nat → Nat) (l : List Int) (s : State) (n : Nat) : State :=
  let t := s.setFld (rSvcThSens n) 0 16 (toBits 16 (l.getD n 0))
  if c n = 0 then t
  else (((t.setBit (rSvcThSens n) 31 true).setFld (rSvcThSens n) 28 3 (c n)).setBit rSvcThStat n true).raise 0x117 4

theorem State.sense_th (c : Nat → Nat) (l : List Int) (n : Nat) : (s.sense c l n).th = s.th := by
  unfold State.sense
  exact State.ite_keeps (g := State.th) rfl ((State.raise_th ..).trans rfl)

theorem thSens_ne_thStat (n : Nat) : rSvcThSens n ≠ rSvcThStat := by
  unfold rSvcThSens rSvcThStat
  omega

theorem State.sense_broken (c : Nat → Nat) (l : List Int) {n k : Nat} (hn : n < 32) (hk : k < 32) :
    (s.sense c l n).broken k = (decide (c n ≠ 0 ∧ n = k) || s.broken k) := by
  have hset (t : State) (lo w v : Nat) : (t.setFld (rSvcThSens n) lo w v).rd rSvcThStat = t.rd rSvcThStat :=
    State.rd_setFld_other _ _ _ (thSens_ne_thStat n)
  unfold State.sense State.broken
  by_cases h : c n = 0
  · simpa [h] using State.bit_of_rd (i := k) (hset s 0 16 _)
  · rw [if_neg h, State.raise_bit]
    by_cases hnk : n = k
    · subst hnk
      simpa [h] using State.bit_setBit_same _ rSvcThStat n true hn
    · rw [State.bit_setBit_apart n k true hk hnk]
      simpa [hnk] using State.bit_of_rd (i := k) ((hset _ 28 3 _).trans ((State.rd_setBit_other 31 true (thSens_ne_thStat n)).trans (hset s 0 16 _)))

/-- The zones' fast rise is held once seen (R558). -/
def State.riseHeld (s : State) : State :=
  s.setTh { s.th with rise := [0, 1].map (fun z => s.th.rise.getD z false || s.fastRise z 200) }

/-- The states of a measurement, up to the zones. -/
def State.thMeasured (s : State) (l : List Int) : State :=
  let h := (sampleOf (fun n => !s.broken n) l :: s.th.hist).take 10001
  State.riseHeld ((s.setTh { s.th with hist := h }).forEach (List.range 16)
    (State.sense (fun n => if !s.broken n then breakCause h (fun n => !s.broken n) l n else 0) l))

theorem State.thermal_of_length {l : List Int} (hu : s.unitLive 15 4 = true) (hl : l.length = 16) :
    s.thermal l = (((s.thMeasured l).syncZones).zoneEval 0 5).zoneEval 1 5 := if_neg (by simp [hu, hl])

theorem State.thMeasured_th (l : List Int) :
    (s.thMeasured l).th.hist = (sampleOf (fun n => !s.broken n) l :: s.th.hist).take 10001 ∧ (s.thMeasured l).th.dem = s.th.dem := by
  unfold State.thMeasured
  extract_lets h
  have hth := fun c => State.forEach_keeps State.th (f := State.sense c l) (fun _ n => State.sense_th c l n) (List.range 16)
    (s.setTh { s.th with hist := h })
  exact ⟨congrArg Therm.hist (hth _), (congrArg Therm.dem (hth _)).trans rfl⟩

theorem State.forEach_sense_broken (c : Nat → Nat) (l : List Int) {n : Nat} (hn : n < 16)
    (h : s.broken n = true ∨ c n ≠ 0) : (s.forEach (List.range 16) (State.sense c l)).broken n = true := by
  have hr : ∀ (ks : List Nat) (t : State), (∀ k ∈ ks, k < 16) → t.broken n = true ∨ (c n ≠ 0 ∧ n ∈ ks) →
      (t.forEach ks (State.sense c l)).broken n = true := by
    intro ks
    induction ks with
    | nil => exact fun t _ ht => ht.resolve_right (by simp)
    | cons k ks ih =>
      intro t hks ht
      refine ih (t.sense c l k) (fun j hj => hks j (List.mem_cons_of_mem _ hj)) ?_
      have hk : k < 16 := hks k List.mem_cons_self
      rw [State.sense_broken c l (by omega) (by omega)]
      obtain ht | ⟨hc, hm⟩ := ht
      · simp [ht]
      · obtain rfl | hm := List.mem_cons.mp hm
        · simp [hc]
        · exact .inr ⟨hc, hm⟩
  exact hr _ s (by simp) (h.imp id fun hc => ⟨hc, List.mem_range.mpr hn⟩)

theorem State.thMeasured_broken {l : List Int} {n : Nat} (hn : n < 16)
    (h : s.broken n = true ∨ l.getD n 0 < -320 ∨ 1200 < l.getD n 0) : (s.thMeasured l).broken n = true := by
  unfold State.thMeasured
  extract_lets hs
  refine State.forEach_sense_broken _ l hn ?_
  cases hb : s.broken n with
  | true => exact .inl hb
  | false => exact .inr (by simp [breakCause_of_range (h.resolve_left (by simp [hb]))])

/-- A zone none of whose sensors is valid reads as its throttle limit, held (R558). -/
theorem State.zoneValue_of_broken (h : ∀ n ∈ zoneSensors z, s.broken n = true) : s.zoneValue z = (zoneThrottle z, true) := by
  have hr : s.zoneRead z = none := by
    have hf : (zoneSensors z).filter (fun n => !s.broken n) = [] := List.filter_eq_nil_iff.mpr fun n hn => by simp [h n hn]
    rw [State.zoneRead, hf]
    rfl
  rw [State.zoneValue, hr]

/-- Settles O58. -/
theorem thermalThrottling : Obligations.ThermalThrottling := by
  refine ⟨fun s l h => ?_, fun s l hu hl => ?_, fun h v l n hr => breakCause_of_range hr, fun s z _ hst hlt hw => ?_,
    fun s z hz hst hlt => ?_, fun s z _ hst hv h => State.zoneStep_of_shutdown hst hv h, fun s z _ hst => ?_,
    fun s z hz hst hv h => ⟨_, State.zoneStep_of_held hst hv h, State.requested_holds hz⟩, fun s z hu hst h => ?_,
    fun s z hu hst h => ?_, fun s z hst => ?_, fun s z n => rfl, fun s d hu hst hv h hd hlt => ?_,
    fun s d hu hst hv h hd hlt => ?_, fun s h => ?_, fun s z d hu hst h hd hle => ?_, fun s z d hu hst h hd hle => ?_,
    fun s z h => ?_, fun s z hu hf => ?_, fun s z hf => ?_, fun s z _ h => State.zoneValue_of_broken h⟩
  · exact .of_eq rfl (if_pos (by obtain h | h := h <;> simp [h])) rfl
  · obtain ⟨hh, hd⟩ := s.thMeasured_th l
    exact .of_eq rfl (State.thermal_of_length hu hl) ⟨hh, hd, fun n hn h => State.thMeasured_broken hn h⟩
  · rw [State.zoneStep_of_normal hst hlt, if_pos hw]
  · have hs : (s.zoneValue z).1 < zoneShutdown z := by
      unfold zoneWarn zoneShutdown at *
      split at * <;> omega
    rw [State.zoneStep_of_normal hst hs, if_neg (by omega)]
  · simp [State.zoneStep, hst]
  · exact .of_eq (t := s.enforced z) rfl ((if_neg (by simp [hu, hst])).trans (if_pos h)) (State.enforced_holds z.isLt)
  · exact .of_eq rfl ((if_neg (by simp [hu, hst])).trans (if_neg (by omega))) rfl
  · exact .of_eq rfl (if_pos (by simp [hst])) rfl
  · subst hd
    exact .of_eq (t := s.escalated) (exec_thermalEscalation 0) (if_neg (by simp_all)) State.escalated_holds
  · obtain ⟨h1, h2, -⟩ := s.escalated_holds
    subst hd
    exact .of_eq (t := s.escalated) (exec_thermalEscalation 1) (if_neg (by simp_all [zoneThrottle]; omega)) ⟨h1, h2⟩
  · exact .of_eq (exec_thermalEscalation 1) (if_pos (by obtain h | h := h <;> simp [h])) rfl
  · subst hd
    exact .of_eq (exec_thermalRelease z) ((if_neg (by simp_all; omega)).trans (if_neg (by omega))) rfl
  · subst hd
    have h0 : s.th.dem.getD z 0 - 1 = 0 := by omega
    refine .of_eq (exec_thermalRelease z) ((if_neg (by simp_all; omega)).trans (if_pos hle)) ⟨by rw [h0], ?_⟩
    exact State.setZone_zoneState z.isLt (by split <;> decide)
  · exact .of_eq (exec_thermalRelease z) (if_pos (by obtain h | h := h <;> simp [h])) rfl
  · exact .of_eq rfl (if_neg (by simp [hu, hf])) rfl
  · exact .of_eq rfl (if_pos (by simp [hf])) rfl

end Sys2Proof.Machine
end

section
/-! PROOF. The Mint, its servo and PPS. -/

namespace Sys2Proof.Machine

open Sys2Proof

variable {s t u : State}

/-! ### The servo -/

theorem State.setServo_servo {v : Nat} (hv : v < 16) : (s.setServo v).servo = v := by
  have hf := (State.fld_setFld_same s rMintStat 28 4 v (by decide)).trans (Nat.mod_eq_of_lt hv)
  exact State.ite_keeps (g := State.servo) ((State.raise_fld ..).trans hf) hf

theorem State.setServo_mint (v : Nat) : (s.setServo v).mint = s.mint := State.blur_mint (State.setServo_blur s v 49168 rfl) rfl

theorem State.setServo_clocks (v : Nat) : (s.setServo v).px = s.px ∧ (s.setServo v).now = s.now :=
  ⟨State.blur_px (State.setServo_blur s v 49168 rfl) rfl, State.blur_now (State.setServo_blur s v 49168 rfl) rfl⟩

/-- The servo enters HOLDOVER, and tells it (R474). -/
theorem State.setServo_of_holdover (h : s.servo = 1) : s.setServo 2 = (s.setFld rMintStat 28 4 2).raise 0x0F1 1 := by
  simp [State.setServo, h]

/-! ### A jump of the Mint -/

/-- The Mint at its new time, the entries that it passes over fired (R473). -/
def State.mintPassed (s : State) (m : Mint) : State :=
  let old := s.axisAt 0 s.nowTu
  let s1 : State := { s with mint := m, net := { s.net with inc := false } }
  let new := s1.axisAt 0 s1.nowTu
  if m.fine ≤ s.mint.fine then s1
  else s1.forEach (List.range 8) fun u t =>
    if u.tblAxis t != 0 then u
    else u.forEach (u.tblEntries t) fun w e => if w.stepPasses t e old new then w.fireEntry t e true (s1.nowTu) true else w

/-- The jump counted and told (R473). -/
def State.mintJumped (s : State) (m : Mint) : State := (((s.mintPassed m).rearmAxis 0).count rMintSteps).raise 0x0F0 1

theorem State.mintJump_eq (m : Mint) : s.mintJump m = (s.mintJumped m).expectIdle := rfl

theorem State.mintPassed_mint (m : Mint) : (s.mintPassed m).mint = m := by
  unfold State.mintPassed
  extract_lets old net s1 new
  refine State.ite_keeps (g := State.mint) rfl ((State.forEach_keeps State.mint (fun t k => ?_) _ s1).trans rfl)
  refine State.ite_keeps (g := State.mint) rfl (State.forEach_keeps State.mint (fun w e => ?_) _ t)
  exact State.ite_keeps (g := State.mint) (State.blur_mint (State.fireEntry_blur w k e true _ true 573456 rfl) rfl) rfl

theorem State.mintJumped_mint (m : Mint) : (s.mintJumped m).mint = m :=
  (State.raise_mint ..).trans ((State.count_mint ..).trans
    ((State.blur_mint (State.rearmAxis_blur (s.mintPassed m) 0 524288 rfl) rfl).trans (State.mintPassed_mint m)))

theorem State.mintJump_mint (m : Mint) : (s.mintJump m).mint = m :=
  (State.blur_mint (State.expectIdle_blur _ 655376 rfl) rfl).trans (State.mintJumped_mint m)

theorem State.mintJump_clocks (m : Mint) : (s.mintJump m).px = s.px ∧ (s.mintJump m).now = s.now :=
  ⟨State.blur_px (State.mintJump_blur s m 67813400 rfl) rfl, State.blur_now (State.mintJump_blur s m 67813400 rfl) rfl⟩

/-- A jump back, or to the same time, passes over no entry. -/
theorem State.mintJumped_back {m : Mint} (h : m.fine ≤ s.mint.fine) :
    (s.mintJumped m).rd rMintSteps = satAdd (s.rd rMintSteps) 1 ∧
    (s.speaks 0x0F0 1 = true → (s.mintJumped m).hears 0x0F0 1 = true) := by
  have hp : s.mintPassed m = { s with mint := m, net := { s.net with inc := false } } := if_pos h
  have hblur := State.rearmAxis_blur (s.mintPassed m) 0 524288 rfl
  have hregs : ((s.mintPassed m).rearmAxis 0).regs = s.regs := (State.blur_regs hblur rfl).trans ((congrArg State.regs hp).trans rfl)
  refine ⟨(State.raise_rd ..).trans ((State.rd_count ..).trans ((if_pos rfl).trans ?_)), fun hs => State.raise_hears_of hs ?_ ?_ ?_⟩
  · exact congrArg (satAdd · 1) (State.rd_of_regs hregs _)
  · exact (State.count_variant ..).trans ((State.blur_variant hblur rfl).trans ((congrArg State.variant hp).trans rfl))
  · exact (State.count_plane ..).trans ((State.blur_plane hblur rfl).trans ((congrArg State.plane hp).trans rfl))
  · exact (State.rd_count_other (by decide)).trans (State.rd_of_regs hregs _)

/-! ### The commands of the Mint -/

/-- The registers of a SET, committed. -/
def State.setTaken (s : State) : State := ((s.commit rMintSetSecLo).commit rMintSetSecHi).commit rMintSetNs

/-- The registers of a STEP, committed. -/
def State.stepTaken (s : State) : State := (s.commit rMintStepNs).commit rMintStepFrac

theorem State.mintCmd_set : s.mintCmd 1#32 = if s.mintSet.2 then s.mintSet.1.setServo 1 else s.mintSet.1 := by
  have h0 : (1#32).getLsbD 0 = true := rfl
  have h1 : (1#32).getLsbD 1 = false := rfl
  have h2 : (1#32).getLsbD 2 = false := rfl
  simp only [State.mintCmd, h0, h1, h2, Bool.false_eq_true, if_false, if_true, Bool.or_false]

theorem State.mintCmd_set_of_valid (h : s.setTaken.fld rMintSetNs 0 30 < 1000000000) : s.mintCmd 1#32 =
    (s.setTaken.mintJump ⟨(s.setTaken.rd rMintSetSecLo).toNat + s.setTaken.fld rMintSetSecHi 0 16 * 2 ^ 32,
      s.setTaken.fld rMintSetNs 0 30, 0⟩).setServo 1 := by
  have hm : s.mintSet = (s.setTaken.mintJump ⟨(s.setTaken.rd rMintSetSecLo).toNat + s.setTaken.fld rMintSetSecHi 0 16 * 2 ^ 32,
      s.setTaken.fld rMintSetNs 0 30, 0⟩, true) := by
    unfold State.setTaken at h ⊢
    simp only [State.mintSet, nsPerSec, not_le.mpr h, if_false]
  rw [State.mintCmd_set, hm, if_pos rfl]

theorem State.mintCmd_set_of_invalid (h : 1000000000 ≤ s.setTaken.fld rMintSetNs 0 30) :
    s.mintCmd 1#32 = s.setTaken.violation rMintCmd := by
  have hm : s.mintSet = (s.setTaken.violation rMintCmd, false) := if_pos h
  rw [State.mintCmd_set, hm]
  rfl

/-- By how much a STEP moves the Mint, in 2^-44 ns. -/
def State.stepBy (s : State) : Int := (s.rd rMintStepNs).toInt * 2 ^ 44 + s.fld rMintStepFrac 0 16 * 2 ^ 28

theorem State.mintStep_eq : s.mintStep =
    if (s.mint.fine : Int) + s.stepTaken.stepBy < 0 then (s.stepTaken.violation rMintCmd, false)
    else (s.stepTaken.mintJump (mintOfFine ((s.mint.fine : Int) + s.stepTaken.stepBy).toNat), true) := by
  have hm : s.stepTaken.mint = s.mint := State.blur_mint
    ((State.commit_blur _ _ 16 rfl).trans (State.commit_blur s _ 16 rfl)) rfl
  have hd : s.stepTaken.stepBy =
      (s.stepTaken.rd rMintStepNs).toInt * (2 ^ 44 : Nat) + (s.stepTaken.fld rMintStepFrac 0 16 * 2 ^ 28 : Nat) := by
    unfold State.stepBy
    push_cast
    rfl
  rw [hd, ← hm]
  rfl

theorem State.mintCmd_step : s.mintCmd 2#32 = if s.mintStep.2 then s.mintStep.1.setServo 1 else s.mintStep.1 := by
  have h0 : (2#32).getLsbD 0 = false := rfl
  have h1 : (2#32).getLsbD 1 = true := rfl
  have h2 : (2#32).getLsbD 2 = false := rfl
  simp only [State.mintCmd, h0, h1, h2, Bool.false_eq_true, if_false, if_true, Bool.or_false, Bool.false_or]

theorem State.mintCmd_step_of_valid (h : 0 ≤ (s.mint.fine : Int) + s.stepTaken.stepBy) : s.mintCmd 2#32 =
    (s.stepTaken.mintJump (mintOfFine ((s.mint.fine : Int) + s.stepTaken.stepBy).toNat)).setServo 1 := by
  rw [State.mintCmd_step, State.mintStep_eq, if_neg (not_lt.mpr h), if_pos rfl]

theorem State.mintCmd_step_of_invalid (h : (s.mint.fine : Int) + s.stepTaken.stepBy < 0) :
    s.mintCmd 2#32 = s.stepTaken.violation rMintCmd := by
  rw [State.mintCmd_step, State.mintStep_eq, if_pos h, if_neg (by simp)]

theorem State.commit_clocks (a : Nat) : (s.commit a).px = s.px ∧ (s.commit a).now = s.now :=
  ⟨State.blur_px (State.commit_blur s a 16 rfl) rfl, State.blur_now (State.commit_blur s a 16 rfl) rfl⟩

/-- What a jump holds once the servo runs again. -/
theorem State.jumpServed_holds (m : Mint) : ((s.mintJump m).setServo 1).mint = m ∧ ((s.mintJump m).setServo 1).servo = 1 ∧
    ((s.mintJump m).setServo 1).px = s.px ∧ ((s.mintJump m).setServo 1).now = s.now := by
  obtain ⟨hp, hn⟩ := State.setServo_clocks (s := s.mintJump m) 1
  obtain ⟨hp', hn'⟩ := State.mintJump_clocks (s := s) m
  exact ⟨(State.setServo_mint 1).trans (State.mintJump_mint m), State.setServo_servo (by decide), hp.trans hp', hn.trans hn'⟩

theorem State.mintCmd_rate_holds : (s.mintCmd 4#32).rd rMintRate = (s.commit rMintRate).rd rMintRate ∧
    (s.mintCmd 4#32).servo = 1 ∧ (s.mintCmd 4#32).mint = s.mint ∧ (s.mintCmd 4#32).sch = s.sch := by
  rw [State.mintCmd_rate]
  refine ⟨State.setServo_keepsRegs 1 _ (by decide), State.setServo_servo (by decide),
    (State.setServo_mint 1).trans (State.blur_mint (State.commit_blur s _ 16 rfl) rfl), ?_⟩
  exact (State.blur_sch (State.setServo_blur _ 1 49168 rfl) rfl).trans (State.blur_sch (State.commit_blur s _ 16 rfl) rfl)

/-! ### A nanosecond of the Mint -/

theorem mintOfFine_fine {n : Nat} (h : n / 2 ^ 44 / nsPerSec < 2 ^ 48) : (mintOfFine n).fine = n := by
  rw [Mint.fine, Mint.total, mintOfFine, Nat.mod_eq_of_lt h, Nat.div_add_mod', Nat.div_add_mod']

/-- The Mint takes its increment, a second not the last of the 48-bit count (R470). -/
theorem Mint.advance_fine {m : Mint} {rate : Int} (hsec : m.sec < 2 ^ 48 - 1) (hns : m.ns < 1000000000) (hfr : m.fr < 2 ^ 44)
    (hlo : 0 ≤ rate) (hhi : rate < 2 ^ 44) : ((m.advance rate).fine : Int) = m.fine + 2 ^ 44 + rate := by
  obtain ⟨r, rfl⟩ := Int.eq_ofNat_of_zero_le hlo
  have hr : r < 2 ^ 44 := by exact_mod_cast hhi
  have hn : ((m.fine : Int) + 2 ^ 44 + r).toNat = m.fine + 2 ^ 44 + r := by
    have : (m.fine : Int) + 2 ^ 44 + r = ((m.fine + 2 ^ 44 + r : Nat) : Int) := by push_cast; rfl
    rw [this, Int.toNat_natCast]
  have hlt : m.fine + 2 ^ 44 + r < (m.total + 3) * 2 ^ 44 := by
    unfold Mint.fine
    omega
  have hdiv : (m.fine + 2 ^ 44 + r) / 2 ^ 44 < m.total + 3 := Nat.div_lt_of_lt_mul (by rwa [Nat.mul_comm])
  have hsecs : (m.fine + 2 ^ 44 + r) / 2 ^ 44 / nsPerSec < 2 ^ 48 := by
    refine Nat.div_lt_of_lt_mul ?_
    unfold Mint.total at hdiv
    unfold nsPerSec at *
    omega
  rw [Mint.advance, hn, mintOfFine_fine hsecs]
  push_cast
  rfl

theorem State.tick_mint (h : s.pwr.phase = .released) (hup : s.mintUp = true) : s.tick.mint = s.mint.advance s.mintRate := by
  obtain ⟨-, hmint, -⟩ := State.latchCycle_same (s := s.clocksRun)
  have hc : s.clocksRun.mint = s.mint.advance s.mintRate := if_pos hup
  rw [State.tick_of_released h]
  exact State.ite_keeps (g := State.mint) hc (hmint.trans hc)

/-! ### PPS -/

/-- An edge taken (R476). -/
def State.ppsTaken (s : State) (n : Nat) : State :=
  ((s.setNet { s.net with ppsIn := some (mintOfTu n), ppsGone := false }).wr rMintPpsinNs
    (BitVec.ofNat 32 (mintOfTu n).ns)).raise 0x0F2 1

/-- An edge too early, counted (R476). -/
def State.ppsEarly (s : State) : State := (s.count rMintPpsEarly).raise 0x0F3 1

/-- The pulse stays away, counted once (R476). -/
def State.ppsLost (s : State) : State :=
  ((s.setNet { s.net with ppsGone := true }).count rMintPpsMissing).raise 0x0F3 1

theorem State.ppsEdge_of_first {n : Nat} (hu : s.unitLive 13 1 = true) (hs : s.serving = true) (hp : s.net.ppsIn = none) :
    s.ppsEdge n = s.ppsTaken n := by
  simp [State.ppsEdge, State.ppsTaken, hu, hs, hp]

theorem State.ppsEdge_of_early {n : Nat} {m : Mint} (hu : s.unitLive 13 1 = true) (hs : s.serving = true)
    (hp : s.net.ppsIn = some m) (hle : m.tu ≤ n) (hlt : n < m.tu + 900000000 * tuPerNs) : s.ppsEdge n = s.ppsEarly := by
  simp [State.ppsEdge, State.ppsEarly, hu, hs, hp, hle, hlt]

theorem State.ppsTaken_holds (n : Nat) : (s.ppsTaken n).net.ppsIn = some (mintOfTu n) ∧
    (s.ppsTaken n).rd rMintPpsinNs = BitVec.ofNat 32 (mintOfTu n).ns ∧ (s.ppsTaken n).rd rMintPpsEarly = s.rd rMintPpsEarly ∧
    (s.speaks 0x0F2 1 = true → (s.ppsTaken n).hears 0x0F2 1 = true) :=
  ⟨congrArg Net.ppsIn (State.raise_net ..), (State.raise_rd ..).trans (State.rd_wr_same ..),
    (State.raise_rd ..).trans (State.rd_wr_other _ _ (by decide)),
    fun h => State.raise_hears_of h rfl rfl (State.rd_wr_other _ _ (by decide))⟩

theorem State.ppsEarly_holds : s.ppsEarly.net = s.net ∧ s.ppsEarly.rd rMintPpsEarly = satAdd (s.rd rMintPpsEarly) 1 ∧
    (s.speaks 0x0F3 1 = true → s.ppsEarly.hears 0x0F3 1 = true) :=
  ⟨(State.raise_net ..).trans rfl, (State.raise_rd ..).trans ((State.rd_count ..).trans (if_pos rfl)),
    fun h => State.raise_hears_of h rfl rfl (State.rd_count_other (by decide))⟩

theorem State.ppsLost_holds : s.ppsLost.net.ppsGone = true ∧ s.ppsLost.rd rMintPpsMissing = satAdd (s.rd rMintPpsMissing) 1 ∧
    (s.speaks 0x0F3 1 = true → s.ppsLost.hears 0x0F3 1 = true) :=
  ⟨congrArg Net.ppsGone (State.raise_net ..), (State.raise_rd ..).trans ((State.rd_count ..).trans (if_pos rfl)),
    fun h => State.raise_hears_of h rfl rfl (State.rd_count_other (by decide))⟩

theorem State.setServo_holdover_holds (h : s.servo = 1) : (s.setServo 2).servo = 2 ∧ (s.setServo 2).mint = s.mint ∧
    (s.speaks 0x0F1 1 = true → (s.setServo 2).hears 0x0F1 1 = true) := by
  refine ⟨State.setServo_servo (by decide), State.setServo_mint 2, fun hs => ?_⟩
  rw [State.setServo_of_holdover h]
  exact State.raise_hears_of hs rfl rfl (State.rd_setFld_other _ _ _ (by decide))

/-- A command of the Mint that its unit takes. -/
theorem exec_of_mint {c : Instr} {u v : State} (hr : s.reaches 13 = true) (hu : s.unitLive 13 1 = true)
    (hc : exec c s = if !s.reaches 13 then .next s else .next (if s.unitLive 13 1 then u else s)) (h : u = v) : exec c s = .next v := by
  rw [hc, if_neg (by simp [hr]), if_pos hu, h]

/-- A command of the Mint that finds no bus or no unit. -/
theorem answers_of_no_mint {c : Instr} {u : State} (h : s.reaches 13 = false ∨ s.unitLive 13 1 = false)
    (hc : exec c s = if !s.reaches 13 then .next s else .next (if s.unitLive 13 1 then u else s)) : Answers c s fun t => t = s := by
  refine ⟨s, hc.trans ?_, rfl⟩
  split
  · rfl
  next hr => rw [if_neg (by simpa using h.resolve_left (by simpa using hr))]

/-- Settles O51. -/
theorem mintAndPps : Obligations.MintAndPps := by
  refine ⟨fun s u hr hu hut hns => ?_, fun s u hr hu hut hns => ?_, fun s u d hr hu hut hd hpos => ?_,
    fun s u d hr hu hut hd hneg => ?_, fun s hr hu => ⟨_, exec_of_mint hr hu rfl rfl, State.mintCmd_rate_holds⟩,
    fun s h => ⟨answers_of_no_mint h rfl, answers_of_no_mint h rfl, answers_of_no_mint h rfl⟩,
    fun s m h => ⟨_, State.mintJump_eq m, State.mintJumped_mint m, State.mintJumped_back h⟩,
    fun s m rate hsec hns hfr hlo hhi hrate hm hp hup => ?_, fun s h hu => ?_, fun s h => ?_, fun s n hu hs hp => ?_,
    fun s n m hu hs hp hle hlt => ?_, fun s n h => ?_, fun s hi hg hu => ?_, fun s h => ?_, fun s n hd ho hb => ?_,
    fun s h => ?_, fun s => ⟨_, rfl, rfl⟩⟩
  · obtain rfl : u = s.setTaken := hut
    obtain ⟨hm, hv, hp, hn⟩ := State.jumpServed_holds (s := s.setTaken)
      ⟨(s.setTaken.rd rMintSetSecLo).toNat + s.setTaken.fld rMintSetSecHi 0 16 * 2 ^ 32, s.setTaken.fld rMintSetNs 0 30, 0⟩
    have hb : s.setTaken.blur 16 = s.blur 16 := by simp [State.setTaken]
    exact ⟨_, exec_of_mint hr hu rfl (State.mintCmd_set_of_valid hns), hm, hv, hp.trans (State.blur_px hb rfl),
      hn.trans (State.blur_now hb rfl)⟩
  · obtain rfl : u = s.setTaken := hut
    exact ⟨_, exec_of_mint hr hu rfl (State.mintCmd_set_of_invalid hns), rfl⟩
  · obtain rfl : u = s.stepTaken := hut
    obtain rfl : d = s.stepTaken.stepBy := hd
    obtain ⟨hm, hv, hp, hn⟩ := State.jumpServed_holds (s := s.stepTaken) (mintOfFine (s.mint.fine + s.stepTaken.stepBy).toNat)
    have hb : s.stepTaken.blur 16 = s.blur 16 := by simp [State.stepTaken]
    exact ⟨_, exec_of_mint hr hu rfl (State.mintCmd_step_of_valid hpos), hm, hv, hp.trans (State.blur_px hb rfl),
      hn.trans (State.blur_now hb rfl)⟩
  · obtain rfl : u = s.stepTaken := hut
    obtain rfl : d = s.stepTaken.stepBy := hd
    exact ⟨_, exec_of_mint hr hu rfl (State.mintCmd_step_of_invalid hneg), rfl⟩
  · subst hm
    rw [State.tick_mint hp hup, State.mintRate, hrate]
    exact Mint.advance_fine hsec hns hfr hlo hhi
  · exact .of_eq rfl (if_pos (by simp [h, hu])) (State.setServo_holdover_holds h)
  · exact .of_eq rfl (if_neg (by simp [h])) rfl
  · exact .of_eq rfl (State.ppsEdge_of_first hu hs hp) (State.ppsTaken_holds n)
  · exact .of_eq rfl (State.ppsEdge_of_early hu hs hp hle hlt) State.ppsEarly_holds
  · exact .of_eq rfl (if_pos (by obtain h | h := h <;> simp [h])) rfl
  · exact .of_eq (t := s.ppsLost) rfl (if_pos (by simp [hi, hg, hu])) State.ppsLost_holds
  · exact .of_eq rfl (if_neg (by obtain h | h := h <;> simp [h])) rfl
  · refine .of_eq rfl (t := s.setNet { s.net with ppsOut := true, ppsSec := n + 1 }) ?_ rfl
    rw [hd]
    exact if_pos (by simp [ho, hb])
  · refine .of_eq (t := s) rfl ?_ rfl
    split
    next n hd => exact if_neg (by obtain h | h | h := h <;> simp_all)
    · rfl

end Sys2Proof.Machine
end

section
/-! PROOF. The NVMe controller: enabling, reset, shutdown and power states. -/

namespace Sys2Proof.Machine

open Sys2Proof

variable {s t : State}

/-! ### Enabling and readiness -/

theorem State.syncRdy_of_enabled (hcc : s.hst.cc.getLsbD 0 = true) (hrdy : s.ctlRdy = false) (hcfs : s.ctlCfs = false)
    (hr : s.released = true) : s.syncRdy = (s.setHst { s.hst with csts := s.hst.csts ||| 1#32 }).setTeller 1 := by
  have hc : (s.setHst { s.hst with csts := s.hst.csts ||| 1#32 }).ctlCfs = false := by
    refine (BitVec.getLsbD_or ..).trans ?_
    rw [show s.hst.csts.getLsbD 1 = false from hcfs]
    rfl
  have hg : (s.hst.cc.getLsbD 0 && !s.ctlRdy && (s.released || s.pwr.phase == .noService)) = true := by
    rw [hcc, hrdy, hr]
    rfl
  exact (if_pos hg).trans (if_neg (Bool.eq_false_iff.mp hc))

theorem State.syncRdy_holds (hcc : s.hst.cc.getLsbD 0 = true) (hrdy : s.ctlRdy = false) (hcfs : s.ctlCfs = false)
    (hr : s.released = true) : s.syncRdy.ctlRdy = true ∧ s.syncRdy.fld rHstTeller 28 4 = 1 := by
  rw [State.syncRdy_of_enabled hcc hrdy hcfs hr]
  refine ⟨?_, State.fld_setFld_same _ _ _ _ _ (by decide)⟩
  refine (BitVec.getLsbD_or ..).trans ?_
  rw [show (1#32).getLsbD 0 = true from rfl, Bool.or_true]

/-! ### Reset -/

/-- The status of a controller reset: not ready, no shutdown (R462). -/
theorem resetStatus_holds (v : Word) : (v &&& ~~~ 0xD#32).getLsbD 0 = false ∧ fget (v &&& ~~~ 0xD#32) 2 2 = 0 := by
  have hbit (i : Nat) (h : (~~~ 0xD#32).getLsbD i = false) : (v &&& ~~~ 0xD#32).getLsbD i = false := by
    rw [BitVec.getLsbD_and, h, Bool.and_false]
  refine ⟨hbit 0 rfl, Nat.zero_of_testBit_eq_false fun i => ?_⟩
  rw [fget_testBit]
  match i with
  | 0 => rw [hbit (2 + 0) rfl, Bool.and_false]
  | 1 => rw [hbit (2 + 1) rfl, Bool.and_false]
  | i + 2 => simp

/-- The commands in progress counted, and all of the controller's state cleared (R462). -/
def State.resetClear (s : State) : State := (s.countN rHstAborted s.hst.cmds.length).ctlClear

theorem State.ctlReset_of_enabled (hup : s.ctlUp = true) (hcc : s.hst.cc.getLsbD 0 = true) :
    s.ctlReset = s.resetClear.raise 0x0E5 2 := by
  have hg : (!s.ctlUp || !s.hst.cc.getLsbD 0) = false := by
    rw [hup, hcc]
    rfl
  exact if_neg (Bool.eq_false_iff.mp hg)

theorem State.ctlClear_rd {r : Nat} (h : r ≠ rHstTeller) : s.ctlClear.rd r = s.rd r := by
  refine (State.rd_setFld_other _ _ _ h.symm).trans ((State.rd_setFld_other _ _ _ h.symm).trans ?_)
  exact State.rd_setFld_other _ _ _ h.symm

theorem State.resetClear_hst : s.resetClear.hst = { s.hst with
    cc := s.hst.cc &&& ~~~ 1#32, csts := s.hst.csts &&& ~~~ 0xD#32, intm := 0#32
    sqs := [], cqs := [], cmds := [], aer := [], arb := 0#32, aec := 0#32, apstEn := false, apst := []
    auto := false, rr := [0, 0, 0, 0, 0], credit := [0, 0, 0] } := rfl

theorem State.ctlReset_holds (hup : s.ctlUp = true) (hcc : s.hst.cc.getLsbD 0 = true) :
    s.ctlReset.hst.cc.getLsbD 0 = false ∧ s.ctlReset.ctlRdy = false ∧ s.ctlReset.shst = 0 ∧ s.ctlReset.hst.cmds = [] ∧
    s.ctlReset.hst.sqs = [] ∧ s.ctlReset.hst.cqs = [] ∧ s.ctlReset.rd rHstAborted = satAdd (s.rd rHstAborted) s.hst.cmds.length ∧
    (s.speaks 0x0E5 2 = true → s.ctlReset.hears 0x0E5 2 = true) := by
  rw [State.ctlReset_of_enabled hup hcc, State.ctlRdy, State.shst, State.raise_hst, State.resetClear_hst, State.raise_rd]
  obtain ⟨hrdy, hshst⟩ := resetStatus_holds s.hst.csts
  refine ⟨?_, hrdy, hshst, rfl, rfl, rfl, ?_, fun h => State.raise_hears_of h ?_ ?_ ?_⟩
  · exact (BitVec.getLsbD_and ..).trans (Bool.and_false _)
  · exact (State.ctlClear_rd (by decide)).trans (State.rd_wr_same ..)
  · exact (State.blur_variant (State.ctlClear_blur _ 33556496 rfl) rfl).trans (State.countN_variant ..)
  · exact (State.blur_plane (State.ctlClear_blur _ 33556496 rfl) rfl).trans (State.countN_plane ..)
  · exact (State.ctlClear_rd (by decide)).trans (State.rd_countN_other _ (by decide))

/-! ### Shutdown -/

/-- A shutdown begins (R463). -/
def State.shutting (s : State) (n : Nat) : State :=
  (s.setHst { s.hst with cc := fset s.hst.cc 14 2 n, csts := fset s.hst.csts 2 2 1 }).setTeller 3

theorem State.shutdown_of_ready {n : Nat} (hup : s.ctlUp = true) (hrdy : s.ctlRdy = true) (hcfs : s.ctlCfs = false)
    (hn : n = 1 ∨ n = 2) (hs : s.shst = 0) : s.shutdown n = s.shutting n := by
  have hc : (fset s.hst.csts 2 2 1).getLsbD 1 = false := by
    rw [fset_getLsbD _ _ _ _ _ (by decide), if_neg (by decide)]
    exact hcfs
  refine (if_neg ?_).trans (if_neg (Bool.eq_false_iff.mp hc))
  obtain rfl | rfl := hn <;> simp [hup, hrdy, hs]

theorem State.shutting_holds (n : Nat) : (s.shutting n).shst = 1 ∧ (s.shutting n).fetches = false ∧
    (s.shutting n).fld rHstTeller 28 4 = 3 ∧ (s.shutting n).hst.cmds = s.hst.cmds := by
  have h : (s.shutting n).shst = 1 := fget_fset_same s.hst.csts 2 2 1 (by decide)
  exact ⟨h, by simp [State.fetches, h], State.fld_setFld_same _ _ _ _ _ (by decide), rfl⟩

/-! ### Power states -/

theorem State.toPs_three (h : s.fld rHstPwr 0 3 ≤ 2) : s.toPs 3 = (s.setFld rHstPwr 4 3 3).srBegin := by
  exact (if_neg (by omega)).trans (if_pos rfl)

theorem State.srBegin_memState (h : s.memState = 2) : s.srBegin.memState = 3 := by
  rw [State.srBegin, if_pos h]
  exact State.fld_setFld_same _ _ _ _ _ (by decide)

theorem State.toPs_three_holds (h : s.fld rHstPwr 0 3 ≤ 2) :
    (s.toPs 3).fld rHstPwr 4 3 = 3 ∧ (s.memState = 2 → (s.toPs 3).memState = 3) := by
  rw [State.toPs_three h]
  constructor
  · have hf := State.fld_setFld_same s rHstPwr 4 3 3 (by decide)
    exact State.ite_keeps (g := fun t : State => t.fld rHstPwr 4 3)
      ((State.fld_of_rd (State.rd_setFld_other _ _ _ (by decide))).trans hf) hf
  · exact fun hm => State.srBegin_memState ((State.fld_of_rd (State.rd_setFld_other _ _ _ (by decide))).trans hm)

theorem State.toPs_hst (n : Nat) : (s.toPs n).hst = s.hst := State.blur_hst (State.toPs_blur s n 16 rfl) rfl

/-- A power state that the host asks for, not set by APST. -/
def State.psAsked (s : State) (cid : BitVec 16) : State :=
  (s.completeOk 0 cid).setHst { (s.completeOk 0 cid).hst with auto := false }

theorem State.psAsked_toPs_holds (cid : BitVec 16) (hm : s.memState = 2) (hp : s.fld rHstPwr 0 3 ≤ 2) :
    ((s.psAsked cid).toPs 3).fld rHstPwr 4 3 = 3 ∧ ((s.psAsked cid).toPs 3).memState = 3 ∧
    ((s.psAsked cid).toPs 3).hst.auto = false ∧ ((s.psAsked cid).toPs 3).hst.cmds = (s.completeOk 0 cid).hst.cmds := by
  have hrd {r : Nat} (h : r ≠ rHstTeller) : (s.psAsked cid).rd r = s.rd r := State.complete_rd h ..
  obtain ⟨hf, hm'⟩ := State.toPs_three_holds (s := s.psAsked cid) (by rwa [State.fld_of_rd (hrd (by decide))])
  refine ⟨hf, hm' ?_, congrArg Hst.auto (State.toPs_hst 3), (congrArg Hst.cmds (State.toPs_hst 3)).trans rfl⟩
  exact (State.fld_of_rd (hrd (by decide))).trans hm

section
variable {c : NCmd}

theorem State.setPower_of_bad (h : 4 < c.dw 11 % 32) : s.setPower c = s.finish 0 c.cid stField 0 := if_pos h

theorem State.setPower_of_capture (h2 : 2 ≤ c.dw 11 % 32) (h4 : c.dw 11 % 32 ≤ 4) (hc : s.capture = true) :
    s.setPower c = s.seqError 0 c.cid 6 := (if_neg (by omega)).trans (if_pos ⟨h2, hc⟩)

theorem State.setPower_of_segment (h : c.dw 11 % 32 = 4) (hc : s.capture = false) (hs : s.segHeld = true) :
    s.setPower c = s.seqError 0 c.cid 7 := (if_neg (by omega)).trans ((if_neg (by simp [hc])).trans (if_pos ⟨h, hs⟩))

theorem State.setPower_of_three (h : c.dw 11 % 32 = 3) (hc : s.capture = false) : s.setPower c = (s.psAsked c.cid).toPs 3 := by
  have hs : s.setPower c = (s.psAsked c.cid).toPs (c.dw 11 % 32) :=
    (if_neg (by omega)).trans ((if_neg (by simp [hc])).trans (if_neg (by omega)))
  rw [hs, h]

theorem execSetPowerState_of_adminIs {cid : BitVec 16} (h : s.adminIs cid 0x09 c) (hf : c.dw 10 % 256 = 2) :
    exec (.setPowerState cid) s = .next (s.setPower c) :=
  congrArg Host.Outcome.next (State.admin_of_adminIs _ h (by simp [NCmd.fid, hf]))

end

theorem State.apstMove_of_due (ha : s.hst.apstEn = true) (hi : s.inProgress = []) (hc : s.capture = false)
    (hq : s.fld rHstPwr 4 3 = s.fld rHstPwr 0 3) (hp : s.fld rHstPwr 0 3 < 3) (he : s.apstEntry (s.fld rHstPwr 0 3) = (3, 100)) :
    s.apstMove = (s.setHst { s.hst with auto := true }).toPs 3 := by
  have hp' : ¬ 3 ≤ s.fld rHstPwr 0 3 := by omega
  simp only [State.apstMove, he]
  exact if_neg (by simp [ha, hi, hc, hq, hp'])

/-- The step of PS0 is kept aside, and the slowest taken (R464). -/
def State.psStep (s : State) : State :=
  State.setFld { s with pwr := { s.pwr with stepOwn := s.fld rDevClk 6 2 } } rDevClk 6 2 3

/-- PS1 is entered from PS0 (R464). -/
def State.psOne (s : State) : State :=
  ((s.psStep.setFld rHstPwr 0 3 1).setBit rHstPwr 8 false).setHst { s.hst with opPs := 1 }

theorem State.psStep_holds : s.psStep.fld rDevClk 6 2 = 3 ∧ s.psStep.pwr.stepOwn = s.fld rDevClk 6 2 :=
  ⟨State.fld_setFld_same _ rDevClk 6 2 3 (by decide), rfl⟩

theorem State.psOne_holds : s.psOne.fld rHstPwr 0 3 = 1 ∧ s.psOne.bit rHstPwr 8 = false ∧ s.psOne.hst.opPs = 1 ∧
    s.psOne.fld rDevClk 6 2 = 3 ∧ s.psOne.pwr.stepOwn = s.fld rDevClk 6 2 := by
  obtain ⟨hstep, hown⟩ := s.psStep_holds
  unfold State.psOne
  generalize s.psStep = u at hstep hown
  rw [State.setHst_fld, State.setHst_fld, State.setHst_bit]
  refine ⟨?_, State.bit_setBit_same _ rHstPwr 8 false (by decide), rfl, ?_, hown⟩
  · exact (State.fld_setBit_apart 8 false 0 3 (by decide)).trans (State.fld_setFld_same u rHstPwr 0 3 1 (by decide))
  · have hrd : ((u.setFld rHstPwr 0 3 1).setBit rHstPwr 8 false).rd rDevClk = u.rd rDevClk :=
      (State.rd_setBit_other _ _ (by decide)).trans (State.rd_setFld_other _ _ _ (by decide))
    exact (State.fld_of_rd hrd).trans hstep

/-- What follows a change of the power state (R464). -/
def State.psFollow (s : State) : State :=
  let u := (((s.syncV12All).stepEval).raise 0x0E9 2).follow
  if (idxs 65 u.waiting).any (· != 0) || u.hst.cmds.any (·.q != 0) then u.wake else u

theorem State.psChange_of_one (hn : s.fld rHstPwr 4 3 = 1) (hp : s.fld rHstPwr 0 3 = 0) : s.psChange = s.psOne.psFollow := by
  have hg : ¬((1 : Nat) = 0 ∨ ((1 : Nat) = 3 ∧ s.memState ≠ 4) ∨ ((1 : Nat) ≤ 2 ∧ 3 ≤ 0 ∧ s.memState ≠ 2)) := by omega
  have h1 : s.stepPs 0 1 = s.psStep := if_pos rfl
  unfold State.psChange
  rw [hn, hp]
  extract_lets p n s1 s2 s3 s4 h s5 s6
  have h5 : s5 = s.psOne := by
    simp only [s5, h, s4, s3, s2, s1, n, p, h1]
    rfl
  rw [if_neg hg]
  simp only [s6, h5]
  rfl

/-- Settles O50. -/
theorem nvmeController : Obligations.NvmeController := by
  refine ⟨fun s cc hup hoff hon => ?_, fun s cc h => ?_, fun s hcc hrdy hcfs hr => State.syncRdy_holds hcc hrdy hcfs hr,
    fun s hup hcc => ⟨_, rfl, State.ctlReset_holds hup hcc⟩, fun s h => ?_, fun s n hup hrdy hcfs hn hs => ?_, fun s n hn => ?_,
    fun s hs hi => ?_, fun s h => ?_, fun s cid c h hf hn => ?_, fun s cid c h hf h2 h4 hc => ?_, fun s cid c h hf hn hc hs => ?_,
    fun s cid c h hf hn hc hm hp => ?_, fun s ha hi hc hq hp he => ?_, fun s h => ?_, fun s h => ?_, fun s hn hm => ?_,
    fun s hn hp => ?_⟩
  · exact .of_eq rfl (State.ctlEnable_of_disabled hup hoff hon)
      ⟨rfl, (State.sq_setCq ..).trans (State.sq_setSq_same ..), State.cq_setCq_same .., rfl⟩
  · refine .of_eq rfl (if_pos ?_) rfl
    simp only [Bool.or_eq_true, Bool.not_eq_true']
    obtain h | h | h := h
    · exact .inl (.inr h)
    · exact .inr h
    · exact .inl (.inl h)
  · exact .of_eq rfl (if_pos (by simp only [h, Bool.not_false, Bool.or_true])) rfl
  · exact .of_eq rfl (State.shutdown_of_ready hup hrdy hcfs (by obtain rfl | rfl := hn <;> simp) hs) (State.shutting_holds _)
  · exact .of_eq rfl (if_pos (by obtain rfl | rfl := hn <;> simp)) rfl
  · exact .of_eq (t := s.setHst { s.hst with csts := fset s.hst.csts 2 2 2 }) rfl (if_pos ⟨hs, hi⟩)
      ⟨fget_fset_same s.hst.csts 2 2 2 (by decide), rfl, rfl⟩
  · exact .of_eq rfl (if_neg (by obtain h | h := h <;> simp [h])) rfl
  · exact .of_eq (execSetPowerState_of_adminIs h hf) (State.setPower_of_bad hn) rfl
  · exact .of_eq (execSetPowerState_of_adminIs h hf) (State.setPower_of_capture h2 h4 hc) rfl
  · exact .of_eq (execSetPowerState_of_adminIs h hf) (State.setPower_of_segment hn hc hs) rfl
  · exact .of_eq (execSetPowerState_of_adminIs h hf) (State.setPower_of_three hn hc) (State.psAsked_toPs_holds c.cid hm hp)
  · obtain ⟨hps, hmem⟩ := State.toPs_three_holds (s := s.setHst { s.hst with auto := true }) (Nat.le_of_lt_succ hp)
    exact .of_eq rfl (State.apstMove_of_due ha hi hc hq hp he) ⟨hps, State.toPs_hst 3, hmem⟩
  · exact .of_eq rfl (if_pos (by obtain h | h | h := h <;> simp [h])) rfl
  · exact .of_eq rfl (if_pos (.inl h)) rfl
  · exact .of_eq rfl (if_pos (.inr (.inl ⟨hn, hm⟩))) rfl
  · exact .of_eq rfl (State.psChange_of_one hn hp) State.psOne_holds

end Sys2Proof.Machine
end

section
/-! PROOF. The Auditor: events by class, reactions, the Fault Ledger and the configuration of a source. -/

namespace Sys2Proof.Machine

open Sys2Proof

variable {s t : State} {e f : EvRec}

/-! ### A cycle of the Auditor -/

theorem State.auditCycle_of_empty (h : s.aud.q = []) : s.auditCycle = s := by
  have hx : idxs 288 (fun _ => false) = [] := List.filter_eq_nil_iff.mpr fun _ _ => by simp
  simp only [State.auditCycle, h, List.filter_nil, List.any_nil, hx]
  rw [← h]
  rfl

/-- Two events of one source in one cycle are one, the last, counted twice (R542). -/
theorem State.auditCycle_of_same (hq : s.aud.q = [e, f]) (hx : e.src < 288) (hsrc : f.src = e.src) (hc : f.cyc = e.cyc) :
    s.auditCycle = (s.setAud { s.aud with q := [] }).audit { f with injected := e.injected || f.injected } 2 := by
  simp [State.auditCycle, hq, hsrc, hc, idxs_beq hx, State.forEach]

/-- An event of a later cycle waits. -/
theorem State.auditCycle_of_later (hq : s.aud.q = [e, f]) (hx : e.src < 288) (hc : f.cyc ≠ e.cyc) :
    s.auditCycle = (s.setAud { s.aud with q := [f] }).audit e 1 := by
  have hc' : (f.cyc == e.cyc) = false := by simp [hc]
  simp [State.auditCycle, hq, hc, idxs_beq hx, State.forEach]

theorem idxs_pair {n a b : Nat} (h : a < b) (hb : b < n) : idxs n (fun x => b == x || a == x) = [a, b] := by
  have hn (n : Nat) : idxs n (fun x => b == x || a == x) = (if a < n then [a] else []) ++ if b < n then [b] else [] := by
    induction n with
    | zero => rfl
    | succ n ih =>
      rw [idxs, List.range_succ, List.filter_append, ← idxs, ih]
      obtain hlt | rfl | hgt := lt_trichotomy n b
      · obtain rfl | hne := eq_or_ne n a
        · simp [hlt.not_gt, h.not_ge]
        · have ha : a < n + 1 ↔ a < n := by omega
          have hb' : ¬ b < n + 1 := by omega
          simp [ha, hb', hlt.not_gt, hlt.ne', hne.symm]
      · simp [h, Nat.lt_succ_of_lt h]
      · have ha : a < n := by omega
        simp [ha, hgt, ha.le, hgt.le, hgt.ne, ha.ne]
  rw [hn, if_pos (h.trans hb), if_pos hb]
  rfl

/-- Two sources of one cycle are taken by their number. -/
theorem State.auditCycle_of_two (hq : s.aud.q = [e, f]) (hx : e.src < 288) (hlt : f.src < e.src) (hc : f.cyc = e.cyc) :
    s.auditCycle = ((s.setAud { s.aud with q := [] }).audit f 1).audit e 1 := by
  obtain ⟨a, u, d, i, c⟩ := e
  obtain ⟨b, v, d', j, c'⟩ := f
  obtain rfl : c' = c := hc
  have hf : (b == a) = false := beq_false_of_ne hlt.ne
  have he : (a == b) = false := beq_false_of_ne hlt.ne'
  simp [State.auditCycle, hq, idxs_pair hlt hx, State.forEach, hf, he]

/-! ### An event by its class -/

section
variable {m : Nat} (hx : e.src ≠ 0x112) (hmask : s.bit (rSvcAudSrcCfg e.src) 29 = false)
include hx hmask

theorem State.audit_of_class : s.audit e m =
    if s.fld (rSvcAudSrcCfg e.src) 30 2 = 3 then
      ((s.countN (rSvcAudCnt e.src) m).setAud { s.aud with fatal := min (s.aud.fatal + 1) 0xFFFFFFFF }).reactTo e m 3 0x23
    else
      let n := Map.get (fun _ => 0) s.aud.win e.src + m
      let esc := decide (s.fld (rSvcAudSrcCfg e.src) 30 2 < 2) && decide (max 1 (s.fld (rSvcAudSrcCfg e.src) 0 16) ≤ n)
      if s.fld (rSvcAudSrcCfg e.src) 30 2 = 2 ∨ esc then
        ((s.countN (rSvcAudCnt e.src) m).setAud { s.aud with
          severe := min (s.aud.severe + 1) 0xFFFFFFFF
          win := Map.set (fun _ => 0) s.aud.win e.src 0 }).reactTo e m (if esc then 0x82 else 2) (s.fld (rSvcAudSrcCfg e.src) 16 6)
      else
        ((s.countN (rSvcAudCnt e.src) m).setAud { s.aud with win := Map.set (fun _ => 0) s.aud.win e.src n }).reactTo e m
          (s.fld (rSvcAudSrcCfg e.src) 30 2)
          (if s.fld (rSvcAudSrcCfg e.src) 30 2 = 0 then s.fld rSvcAudClassreact 0 6 else s.fld rSvcAudClassreact 8 6) :=
  (if_neg (Bool.eq_false_iff.mp hmask)).trans (if_neg hx)

theorem State.audit_of_fatal (hc : s.fld (rSvcAudSrcCfg e.src) 30 2 = 3) : s.audit e m =
    ((s.countN (rSvcAudCnt e.src) m).setAud { s.aud with fatal := min (s.aud.fatal + 1) 0xFFFFFFFF }).reactTo e m 3 0x23 :=
  (State.audit_of_class hx hmask).trans (if_pos hc)

/-- An INFO event below its threshold opens or feeds its window (R543). -/
theorem State.audit_of_info (hc : s.fld (rSvcAudSrcCfg e.src) 30 2 = 0)
    (hlt : Map.get (fun _ => 0) s.aud.win e.src + m < s.fld (rSvcAudSrcCfg e.src) 0 16) : s.audit e m =
    ((s.countN (rSvcAudCnt e.src) m).setAud { s.aud with
      win := Map.set (fun _ => 0) s.aud.win e.src (Map.get (fun _ => 0) s.aud.win e.src + m) }).reactTo e m 0
      (s.fld rSvcAudClassreact 0 6) := by
  have hesc : ¬ max 1 (s.fld (rSvcAudSrcCfg e.src) 0 16) ≤ Map.get (fun _ => 0) s.aud.win e.src + m := by omega
  rw [State.audit_of_class hx hmask, hc, if_neg (by decide), if_neg (by simp [hesc]), if_pos rfl]

/-- An event that fills its window escalates, and the window closes (R544). -/
theorem State.audit_of_escalation (hc : s.fld (rSvcAudSrcCfg e.src) 30 2 < 2)
    (hle : max 1 (s.fld (rSvcAudSrcCfg e.src) 0 16) ≤ Map.get (fun _ => 0) s.aud.win e.src + m) : s.audit e m =
    ((s.countN (rSvcAudCnt e.src) m).setAud { s.aud with
      severe := min (s.aud.severe + 1) 0xFFFFFFFF
      win := Map.set (fun _ => 0) s.aud.win e.src 0 }).reactTo e m 0x82 (s.fld (rSvcAudSrcCfg e.src) 16 6) := by
  have hesc : (decide (s.fld (rSvcAudSrcCfg e.src) 30 2 < 2) &&
      decide (max 1 (s.fld (rSvcAudSrcCfg e.src) 0 16) ≤ Map.get (fun _ => 0) s.aud.win e.src + m)) = true := by
    rw [decide_eq_true hc, decide_eq_true hle]
    rfl
  rw [State.audit_of_class hx hmask, if_neg (by omega)]
  exact (if_pos (.inr hesc)).trans (by rw [if_pos hesc])

end

/-! ### Reactions -/

theorem State.fenceUnits_nil (c : Nat) : s.fenceUnits c [] = s.follow := by
  simp [State.fenceUnits, State.forEach]

theorem State.reactTo_zero (m cls : Nat) : s.reactTo e m cls 0 = s.fenceUnits (srcCluster e.src) [] := by
  simp [State.reactTo, State.forEach]

theorem State.irq_holds {x : Nat} (hm : s.mxMasked (65 + min 14 (s.fld (rSvcAudSrcCfg x) 24 4)) = false)
    (hp : s.bit (rSvcAudPend (x / 32)) (x % 32) = false) :
    (s.irq x false).bit (rSvcAudPend (x / 32)) (x % 32) = true ∧
    (s.irq x false).aud.msix = s.aud.msix ++ [65 + min 14 (s.fld (rSvcAudSrcCfg x) 24 4)] := by
  have hm' : (s.setBit (rSvcAudPend (x / 32)) (x % 32) true).mxMasked (65 + min 14 (s.fld (rSvcAudSrcCfg x) 24 4)) = false := hm
  rw [State.irq_of_not_pending hp, State.msix_of_unmasked hm']
  exact ⟨State.bit_setBit_same s _ _ true (Nat.mod_lt _ (by decide)), rfl⟩

/-! ### The configuration of a source -/

theorem State.sourceWritten_holds (a : Nat) (v : Word) (x : Nat) :
    let t := (s.wr a v).setAud { s.aud with win := Map.set (fun _ => 0) s.aud.win x 0 }
    t.rd a = v ∧ Map.get (fun _ => 0) t.aud.win x = 0 ∧ ∀ b, b ≠ a → t.rd b = s.rd b :=
  ⟨State.rd_wr_same .., Map.get_set_same (fun _ => 0) s.aud.win x 0, fun _ hb => State.rd_wr_other s _ (Ne.symm hb)⟩

theorem answers_of_source {x : Fin 288} {w : Bool} {v : Word} {P : State → Prop} (hr : s.reaches 15 = true)
    (h : s.srcWrite x w v = t) (hP : P t) : Answers (.sourceConfigWrite x w v) s P :=
  .of_eq (execSourceConfigWrite_of_reaches w v hr) h hP

/-! ### The Fault Ledger -/

theorem leNat_append (l r : List Byte) : leNat (l ++ r) = leNat l + 256 ^ l.length * leNat r := by
  induction l with
  | nil => simp [leNat]
  | cons b l ih => rw [List.cons_append, leNat, leNat, ih, List.length_cons, Nat.pow_succ]; ring

/-- The second word of an entry: its source, class and reaction (R550). -/
theorem faultEntry_source (seq x cls react m : Nat) (time : List Byte × Bool) (d : Word) (i b : Bool) :
    leAt (faultEntry seq x cls react m time d i b) 4 4 = x % 65536 + 65536 * (cls % 256) + 16777216 * (react % 256) := by
  have hsplit : faultEntry seq x cls react m time d i b = leBytes 4 seq ++ ((leBytes 2 x ++ leBytes 1 cls ++ leBytes 1 react) ++
      (leBytes 1 m ++ leBytes 3 0 ++ time.1 ++ leBytes 4 d.toNat ++
        leBytes 2 (time.2.toNat + 2 * i.toNat + 4 * b.toNat) ++ leBytes 2 0)) := by
    simp only [faultEntry, List.append_assoc]
  have hw : slice ((leBytes 2 x ++ leBytes 1 cls ++ leBytes 1 react)) 0 4 = leBytes 2 x ++ leBytes 1 cls ++ leBytes 1 react :=
    slice_zero _
  rw [hsplit, leAt_append_right _ _ _ (by simp), leBytes_length, leAt, slice_append_left _ (by simp), hw, leNat_append,
    leNat_append, leNat_leBytes, leNat_leBytes, leNat_leBytes]
  simp only [List.length_append, leBytes_length]
  omega

theorem faultEntry_seq (seq x cls react m : Nat) (time : List Byte × Bool) (d : Word) (i b : Bool) :
    leAt (faultEntry seq x cls react m time d i b) 0 4 = seq % 256 ^ 4 := by
  simp only [faultEntry, List.append_assoc, leAt_leBytes_append]

theorem State.putWords_rd (a : Nat) (b : List Byte) {k : Nat} (h : k < 8) :
    (s.putWords a b).rd (a + 4 * k) = BitVec.ofNat 32 (leAt b (4 * k) 4) :=
  State.forEach_wr_of_mem (r := fun k => a + 4 * k) (fun k => BitVec.ofNat 32 (leAt b (4 * k) 4)) (List.mem_range.mpr h)
    fun y _ hy => by omega

/-- An entry stands as entry number `k`, the head behind it. -/
def State.entryPut (s : State) (k : Nat) (l : List Byte) : State :=
  (s.putWords (rSvcAudFl (8 * k)) l).wr rSvcAudFlHead (BitVec.ofNat 32 (k + 1))

theorem State.entryPut_head (k : Nat) (l : List Byte) : (s.entryPut k l).rd rSvcAudFlHead = BitVec.ofNat 32 (k + 1) :=
  State.rd_wr_same ..

theorem State.entryPut_aud (k : Nat) (l : List Byte) : (s.entryPut k l).aud = s.aud :=
  (State.wr_aud ..).trans (State.putWords_aud ..)

theorem State.entryPut_word (k : Nat) (l : List Byte) {w : Nat} (h : w < 8) :
    (s.entryPut k l).rd (rSvcAudFl (8 * k + w)) = BitVec.ofNat 32 (leAt l (4 * w) 4) := by
  have hw : rSvcAudFl (8 * k + w) = rSvcAudFl (8 * k) + 4 * w := by
    unfold rSvcAudFl
    omega
  have hhead : rSvcAudFlHead ≠ rSvcAudFl (8 * k + w) := by
    unfold rSvcAudFlHead rSvcAudFl
    omega
  rw [State.entryPut, State.rd_wr_other _ _ hhead, hw, State.putWords_rd _ _ h]

/-- An entry that finds room, of a source not FATAL. -/
theorem State.logFault_of_room {x cls : Nat} (react m : Nat) (d : Word) (i b : Bool) (hseq : (s.rd rSvcAudFlHead).toNat < 1024)
    (hlost : s.aud.lost = 0) (hcls : cls % 4 ≠ 3) : s.logFault x cls react m d i b =
    s.entryPut (s.rd rSvcAudFlHead).toNat (faultEntry (s.rd rSvcAudFlHead).toNat x cls react m s.audTime d i b) := by
  simp [State.logFault, State.entryPut, hlost, hcls, Nat.mod_eq_of_lt hseq, not_le.mpr hseq]

theorem fget_source {x c : Nat} (hx : x < 2 ^ 16) (hc : c < 2 ^ 8) (r : Nat) :
    fget (BitVec.ofNat 32 (x + 65536 * c + 16777216 * r)) 0 16 = x ∧
    fget (BitVec.ofNat 32 (x + 65536 * c + 16777216 * r)) 16 8 = c := by
  unfold fget
  rw [BitVec.toNat_ofNat, Nat.shiftRight_zero, Nat.shiftRight_eq_div_pow]
  omega

theorem State.logFault_holds {x cls : Nat} (react m : Nat) (d : Word) (i b : Bool) (hseq : (s.rd rSvcAudFlHead).toNat < 1024)
    (hlost : s.aud.lost = 0) (hcls : cls ≠ 3) (hlt : cls < 4) :
    (s.logFault x cls react m d i b).rd rSvcAudFlHead = s.rd rSvcAudFlHead + 1#32 ∧ (s.logFault x cls react m d i b).aud = s.aud ∧
    (s.logFault x cls react m d i b).rd (rSvcAudFl (8 * (s.rd rSvcAudFlHead).toNat)) = s.rd rSvcAudFlHead ∧
    fget ((s.logFault x cls react m d i b).rd (rSvcAudFl (8 * (s.rd rSvcAudFlHead).toNat + 1))) 0 16 = x % 65536 ∧
    fget ((s.logFault x cls react m d i b).rd (rSvcAudFl (8 * (s.rd rSvcAudFlHead).toNat + 1))) 16 8 = cls := by
  have h0 := State.entryPut_word (s := s) (s.rd rSvcAudFlHead).toNat
    (faultEntry (s.rd rSvcAudFlHead).toNat x cls react m s.audTime d i b) (w := 0) (by decide)
  rw [State.logFault_of_room react m d i b hseq hlost (by omega), State.entryPut_head, State.entryPut_aud,
    State.entryPut_word _ _ (by decide), faultEntry_source]
  refine ⟨BitVec.eq_of_toNat_eq (by simp), rfl, h0.trans ?_, ?_⟩
  · rw [Nat.mul_zero, faultEntry_seq]
    have hlt := (s.rd rSvcAudFlHead).isLt
    exact BitVec.eq_of_toNat_eq (by rw [BitVec.toNat_ofNat]; omega)
  · rw [Nat.mod_eq_of_lt (a := cls) (by omega)]
    exact fget_source (Nat.mod_lt _ (by decide)) (by omega) _

/-- Settles O56. -/
theorem auditorEvents : Obligations.AuditorEvents := by
  refine ⟨fun s h => ⟨_, rfl, State.auditCycle_of_empty h⟩,
    fun s x u d i c h => .of_eq rfl (State.auditCycle_of_single h x.isLt) rfl,
    fun s x u v d e i j c h => .of_eq rfl (State.auditCycle_of_same h x.isLt rfl rfl) rfl,
    fun s x y u v d e i j b c h hc => .of_eq rfl (State.auditCycle_of_later h x.isLt (Ne.symm hc)) rfl,
    fun s x y u v d e i j c h hlt => .of_eq rfl (State.auditCycle_of_two h x.isLt hlt rfl) rfl,
    fun s e m h => State.audit_of_masked m h,
    fun s e m _ hx hm hc hlt => ⟨_, State.audit_of_info hx hm hc hlt, Map.get_set_same (fun _ => 0) s.aud.win e.src _,
      State.rd_wr_same .., rfl⟩,
    fun s e m _ hx hm hc hle => ⟨_, State.audit_of_escalation hx hm hc hle, Map.get_set_same (fun _ => 0) s.aud.win e.src 0, rfl⟩,
    fun s e m _ hx hm hc => ⟨_, State.audit_of_fatal hx hm hc, rfl, rfl⟩, fun s e m cls => State.reactTo_zero m cls,
    fun s c => State.fenceUnits_nil c, fun s x _ hm hp => State.irq_holds hm hp, fun s x h => State.irq_of_pending h,
    fun s x => ⟨_, rfl, Map.get_set_same (fun _ => 0) s.aud.win x 0, rfl, fun y hy => Map.get_set_other (fun _ => 0) s.aud.win x y 0 (Ne.symm hy)⟩,
    fun s x v hr => answers_of_source hr (if_pos rfl) (State.sourceWritten_holds ..),
    fun s x v hr hx hv => answers_of_source hr ((if_neg (by simp)).trans (if_pos ⟨hx, hv⟩)) rfl,
    fun s x v hr hx => answers_of_source hr (State.srcWrite_cfg_of_not_fatal v hx) (State.sourceWritten_holds ..),
    fun s x cls react m d i b hseq hlost hcls hlt => State.logFault_holds react m d i b hseq hlost hcls hlt⟩

end Sys2Proof.Machine
end

section
/-! PROOF. The compression queue: a write of QTAIL also urges the running engines, so that the state after it is not in every case
the one that the statement gives. -/

namespace Sys2Proof.Machine

open Sys2Proof

/-- Engine 0 runs while the mains are lost; the queue is empty. -/
def State.urgedEngine : State :=
  { State.reset with
    plane := some ⟨[], 1, 0, 0, [], [⟨11, 6, []⟩]⟩
    pwr := { State.reset.pwr with phase := .released, loss := 1 }
    cmp := { State.reset.cmp with eng := [(0, { CmpEng.init with busy := true })] } }

/-- QTAIL as written, and the snoop that follows. -/
def State.urgedSnoop : State := (State.urgedEngine.setFld rCmpQtail 0 12 (fget 0#32 0 12 % State.urgedEngine.cmpSize)).syncSnoop

theorem State.urgedEngine_premises : State.urgedEngine.reaches 11 = true ∧ State.urgedEngine.unitLive 11 1 = true ∧
    State.urgedEngine.cmpQueue.length + (fget 0#32 0 12 % State.urgedEngine.cmpSize + State.urgedEngine.cmpSize -
      State.urgedEngine.fld rCmpQtail 0 12 % State.urgedEngine.cmpSize) % State.urgedEngine.cmpSize < State.urgedEngine.cmpSize := by
  decide +kernel

/-- The engine is told to stop at its next block. -/
theorem State.urgedEngine_urged : State.urgedSnoop.fld (rCmpEStat 0) 28 4 = 0 ∧
    State.urgedSnoop.cmpUrge.fld (rCmpEStat 0) 28 4 = 3 := by
  decide +kernel

theorem State.urgedEngine_qtailWrite : exec (.qtailWrite 0#32) State.urgedEngine = .next State.urgedSnoop.cmpUrge := by
  obtain ⟨hr, hu, hq⟩ := State.urgedEngine_premises
  have hw : State.urgedEngine.qtailWrite 0#32 = State.urgedSnoop.cmpUrge :=
    (if_neg (by rw [hu]; decide)).trans (if_neg (not_le.mpr hq))
  have hx : exec (.qtailWrite 0#32) State.urgedEngine = if !State.urgedEngine.reaches 11 then .next State.urgedEngine
      else .next (State.urgedEngine.qtailWrite 0#32) := rfl
  rw [hx, if_neg (by simp [hr]), hw]

/-- Refutes O41: in its first clause the write of QTAIL ends with the snoop, but the model then also urges the engines that run, and
an engine that runs at a loss of mains is marked as stopping. -/
theorem not_compressionQueue : ¬ Obligations.CompressionQueue := by
  intro h
  obtain ⟨hqtail, -⟩ := h
  obtain ⟨hr, hu, hq⟩ := State.urgedEngine_premises
  obtain ⟨t, ht, rfl⟩ := hqtail State.urgedEngine 0#32 hr hu hq
  have heq : State.urgedSnoop.cmpUrge = State.urgedSnoop := Host.Outcome.next.inj (State.urgedEngine_qtailWrite.symm.trans ht)
  obtain ⟨h0, h3⟩ := State.urgedEngine_urged
  rw [heq, h0] at h3
  exact absurd h3 (by decide)

end Sys2Proof.Machine
end

section
/-! PROOF. The Clearing House: the events of a channel, the tasks that they are delivered to, and the latches. -/

namespace Sys2Proof.Machine

open Sys2Proof

variable {s t : State} {n : Nat}

/-! ### An event on a source wire leaves the Clearing House but its queue -/

/-- The Clearing House is that of `s`, but for its queue. -/
def State.sameHouse (s t : State) : Prop := t.ch = { s.ch with q := t.ch.q }

theorem State.raiseLin_sameHouse (x u : Nat) (lin : BitVec 64) : s.sameHouse (s.raiseLin x u lin) := by
  have hc (t : State) (k : Nat) : t.sameHouse (t.toChannel k lin) := by
    unfold State.toChannel
    split
    · rfl
    · rfl
  have hl (l : List Nat) (t : State) (h : s.sameHouse t) : s.sameHouse (l.foldl (fun t k => t.toChannel k lin) t) :=
    List.foldlRecOn (motive := s.sameHouse) l _ h fun t ht k _ => by
      have := hc t k
      unfold State.sameHouse at *
      rw [this, ht]
  unfold State.raiseLin
  split
  · rfl
  · exact hl _ _ rfl

/-! ### The events of a channel -/

/-- The cycle of the channel's first event that waits. -/
def State.chCyc (s : State) (n : Nat) : Nat := ((s.ch.q.find? (fun e => e.ch == n)).map (·.cyc)).getD 0

/-- The lineages of the events that one CHANNEL_EVENT takes: those of the first one's cycle (R532). -/
def State.chLins (s : State) (n : Nat) : List (BitVec 64) :=
  (s.ch.q.filter (fun e => e.ch == n && e.cyc == s.chCyc n)).map (·.lin)

/-- The events that it leaves. -/
def State.chLeft (s : State) (n : Nat) : List ChEv := s.ch.q.filter (fun e => !(e.ch == n && e.cyc == s.chCyc n))

/-- The events taken from the queue. -/
def State.chTaken (s : State) (n : Nat) : State := s.setCh { s.ch with q := s.chLeft n }

/-- The events beyond the first are merged into it (R532). -/
def State.chMerged (s : State) (n : Nat) : State := (s.chTaken n).countN (rSvcChMerged n) ((s.chLins n).length - 1)

/-- A channel that delivers. -/
def State.chDelivered (s : State) (n : Nat) : State :=
  let lin := (s.chLins n).foldl (· ||| ·) (linBit n)
  (((s.chMerged n).count (rSvcChDelivered n)).setLive (rSvcChLastLinLo n) lin).setCh
    { (s.chMerged n).ch with last := Map.set (fun _ => 0) (s.chMerged n).ch.last n ((s.chMerged n).pxCycle + 1) }

theorem State.channelEvent_of_off (h : s.chLins n = [] ∨ s.unitLive 15 1 = false ∨ s.bit (rSvcChCfg n) 31 = false) :
    s.channelEvent n = s.chTaken n := by
  refine if_pos ?_
  obtain h | h | h := h
  · exact Bool.or_eq_true_iff.mpr (.inl (Bool.or_eq_true_iff.mpr (.inl (List.isEmpty_iff.mpr h))))
  · simp [h]
  · simp [h]

section
variable (hu : s.unitLive 15 1 = true) (hon : s.bit (rSvcChCfg n) 31 = true)
include hu hon

/-- An event that has been through its own channel is dropped (R531). -/
theorem State.channelEvent_of_loop {l : BitVec 64} (hl : s.chLins n = [l]) (hn : l.getLsbD n = true) :
    s.channelEvent n = (s.chTaken n).chLoop n 1 := by
  unfold State.channelEvent
  extract_lets c evs ch s0 rest s1
  have he : evs = [l] := hl
  have hr : rest = [] := by simp only [rest, he, List.filter_cons, hn, Bool.not_true, Bool.false_eq_true, if_false, List.filter_nil]
  rw [if_neg (by simp [he, hu, hon]), if_pos (by rw [hr]; rfl)]
  simp only [s1, he, hr]
  rfl

/-- The merged lineage that is delivered. -/
def State.chLineage (s : State) (n : Nat) : BitVec 64 := (s.chLins n).foldl (· ||| ·) (linBit n)

/-- The latches that an AUTOCLR channel has named are cleared with the next cycle (R530). -/
def State.autoclear (s : State) (m : Word) : State := s.setCh { s.ch with clr := s.ch.clr ||| m }

/-- Events none of which has been through the channel meet the gate, the refractory time and the delivery (R532). -/
theorem State.channelEvent_of_clean (hne : s.chLins n ≠ []) (hall : ∀ l ∈ s.chLins n, l.getLsbD n = false) :
    s.channelEvent n =
    if !(s.chMerged n).gateOpen n then (s.chMerged n).count (rSvcChGated n)
    else if (s.chMerged n).refractory n then (s.chMerged n).count (rSvcChRefractDrop n)
    else if s.bit (rSvcChCfg n) 30 then
      ((s.chDelivered n).chDeliver n (s.chLineage n)).autoclear (s.rd (rSvcChGate n) &&& 0xFFFF#32)
    else (s.chDelivered n).chDeliver n (s.chLineage n) := by
  unfold State.channelEvent
  extract_lets c evs ch s0 rest s1 s2 lin chs s3 s4 chd
  have he : evs = s.chLins n := rfl
  have hr : rest = s.chLins n := List.filter_eq_self.mpr fun l hl => by rw [hall l hl]; rfl
  have h1 : s1 = s.chTaken n := by
    simp only [s1, he, hr, Nat.sub_self]
    rfl
  have h2 : s2 = s.chMerged n := by simp only [s2, h1, hr, State.chMerged]
  have h3 : s3 = s.chDelivered n := by simp only [s3, chs, lin, h2, hr, State.chDelivered]
  have h4 : s4 = (s.chDelivered n).chDeliver n (s.chLineage n) := by simp only [s4, h3, lin, hr, State.chLineage]
  rw [if_neg (by simp [he, hu, hon, hne]), if_neg (by simp [hr, hne]), h2]
  clear_value s4
  subst h4
  rfl

end

/-! ### What merging and delivery leave -/

theorem chCount_ne {a b n : Nat} (ha : a = rSvcChMerged n ∨ a = rSvcChDelivered n ∨ a = rSvcChGated n ∨ a = rSvcChRefractDrop n)
    (hb : b = rSvcChGate n ∨ b = rSvcChRefract n ∨ b = rSvcChCfg n ∨ b = rSvcChLatch) : a ≠ b := by
  unfold rSvcChMerged rSvcChDelivered rSvcChGated rSvcChRefractDrop at ha
  unfold rSvcChGate rSvcChRefract rSvcChCfg rSvcChLatch at hb
  omega

theorem State.chMerged_gateOpen : (s.chMerged n).gateOpen n = s.gateOpen n := by
  have h : (s.chMerged n).rd (rSvcChGate n) = s.rd (rSvcChGate n) := State.rd_countN_other _ (chCount_ne (.inl rfl) (.inl rfl))
  unfold State.gateOpen
  rw [h]
  rfl

theorem State.chMerged_refractory : (s.chMerged n).refractory n = s.refractory n := by
  have h : (s.chMerged n).refract n = s.refract n := by
    have hr : (s.chMerged n).rd (rSvcChRefract n) = s.rd (rSvcChRefract n) :=
      State.rd_countN_other _ (chCount_ne (.inl rfl) (.inr (.inl rfl)))
    rw [State.refract, State.fld_of_rd hr, State.refract]
  unfold State.refractory
  rw [h]
  rfl

theorem State.chMerged_ch : (s.chMerged n).ch = { s.ch with q := s.chLeft n } := rfl

/-- A count of the channel but that of its merged events. -/
theorem State.chMerged_rd {a : Nat} (h : rSvcChMerged n ≠ a) : (s.chMerged n).rd a = s.rd a := State.rd_countN_other _ h

/-! ### Which events a command takes -/

section
variable {a b : List ChEv} {c : Nat} {l : BitVec 64} (hq : s.ch.q = a ++ ⟨n, c, l⟩ :: b) (hab : ∀ e ∈ a ++ b, e.ch ≠ n)
include hq hab

theorem State.chCyc_of_alone : s.chCyc n = c := by
  have ha : a.find? (fun e => e.ch == n) = none :=
    List.find?_eq_none.mpr fun e he => by simp [hab e (List.mem_append_left _ he)]
  rw [State.chCyc, hq, List.find?_append, ha]
  simp

theorem State.chLins_of_alone : s.chLins n = [l] := by
  have hf (k : List ChEv) (hk : ∀ e ∈ k, e.ch ≠ n) : k.filter (fun e => e.ch == n && e.cyc == c) = [] :=
    List.filter_eq_nil_iff.mpr fun e he => by simp [hk e he]
  rw [State.chLins, State.chCyc_of_alone hq hab, hq, List.filter_append, List.filter_cons,
    hf a fun e he => hab e (List.mem_append_left _ he), hf b fun e he => hab e (List.mem_append_right _ he)]
  simp

theorem State.chLeft_of_alone : s.chLeft n = a ++ b := by
  have hf (k : List ChEv) (hk : ∀ e ∈ k, e.ch ≠ n) : k.filter (fun e => !(e.ch == n && e.cyc == c)) = k :=
    List.filter_eq_self.mpr fun e he => by simp [hk e he]
  rw [State.chLeft, State.chCyc_of_alone hq hab, hq, List.filter_append, List.filter_cons,
    hf a fun e he => hab e (List.mem_append_left _ he), hf b fun e he => hab e (List.mem_append_right _ he)]
  simp

end

theorem State.chTaken_of_none (h : ∀ e ∈ s.ch.q, e.ch ≠ n) : s.chLins n = [] ∧ s.chTaken n = s := by
  constructor
  · rw [State.chLins, List.filter_eq_nil_iff.mpr fun e he => by simp [h e he]]
    rfl
  · have hl : s.chLeft n = s.ch.q := List.filter_eq_self.mpr fun e he => by simp [h e he]
    rw [State.chTaken, hl]
    rfl

/-! ### Tasks -/

theorem State.toTask_of_new {x w c : Nat} {l : BitVec 64} (hc : c = if 0x098 ≤ x then s.pxCycle else s.now)
    (h : ∀ k ∈ s.ch.tasks, k.input = x → k.cyc ≠ c) :
    s.toTask n x l w = s.setCh { s.ch with tasks := s.ch.tasks ++ [⟨x, l, w, c, [n]⟩] } := by
  subst hc
  refine if_neg ?_
  rw [Bool.not_eq_true, List.any_eq_false]
  intro k hk
  simpa using h k hk

/-- A task that an earlier event of the same cycle has made takes the event too (R534). -/
theorem State.toTask_of_held {x w c : Nat} {l : BitVec 64} (hc : c = if 0x098 ≤ x then s.pxCycle else s.now)
    (h : ∃ k ∈ s.ch.tasks, k.input = x ∧ k.cyc = c) :
    (s.toTask n x l w).rd (rSvcTinMerge x) = satAdd (s.rd (rSvcTinMerge x)) 1 ∧
    (s.toTask n x l w).ch.tasks.length = s.ch.tasks.length := by
  subst hc
  have hany : s.ch.tasks.any (fun k => k.input == x && k.cyc == if 0x098 ≤ x then s.pxCycle else s.now) = true := by
    obtain ⟨k, hk, hx, hcyc⟩ := h
    exact List.any_eq_true.mpr ⟨k, hk, by simp [hx, hcyc]⟩
  rw [State.toTask]
  extract_lets c
  rw [if_pos hany]
  exact ⟨(State.rd_count ..).trans (if_pos rfl), List.length_map ..⟩

/-- What a delivery leaves of the registers. -/
theorem State.toTask_rd {x a : Nat} (h : rSvcTinMerge x ≠ a) (l : BitVec 64) (w : Nat) : (s.toTask n x l w).rd a = s.rd a := by
  unfold State.toTask
  extract_lets c
  exact State.ite_keeps (g := fun t : State => t.rd a) ((State.rd_count_other h).trans rfl) rfl

theorem State.toTask_house (x : Nat) (l : BitVec 64) (w : Nat) :
    (s.toTask n x l w).ch.clr = s.ch.clr := by
  unfold State.toTask
  extract_lets c
  exact State.ite_keeps (g := fun t : State => t.ch.clr) rfl rfl

/-- An event for the host goes pending and is told (R536). -/
theorem State.chDeliver_of_host {l : BitVec 64} (hn : n < 32) (h : s.fld (rSvcChCfg n) 28 2 = 3) :
    s.chDeliver n l = (s.setBit rSvcChHostpendLo n true).raiseLin 0x111 1 l := by
  rw [State.chDeliver, h, Nat.mod_eq_of_lt hn, if_pos hn]
  rfl

theorem State.chDeliver_of_task {l : BitVec 64} (h : s.fld (rSvcChCfg n) 28 2 = 0) :
    s.chDeliver n l = s.toTask n (s.fld (rSvcChCfg n) 0 12) l 0 := by
  rw [State.chDeliver, h]
  rfl

theorem State.chDeliver_rd {a : Nat} (ht : ∀ x, rSvcTinMerge x ≠ a) (hlo : rSvcChHostpendLo ≠ a) (hhi : rSvcChHostpendHi ≠ a)
    (l : BitVec 64) : (s.chDeliver n l).rd a = s.rd a := by
  unfold State.chDeliver
  extract_lets task r
  split
  · exact State.toTask_rd (ht _) _ _
  · exact State.toTask_rd (ht _) _ _
  · exact State.toTask_rd (ht _) _ _
  · refine (State.raiseLin_rd ..).trans (State.rd_setBit_other _ _ ?_)
    simp only [r]
    split
    · exact hlo
    · exact hhi

theorem State.chDeliver_clr (l : BitVec 64) : (s.chDeliver n l).ch.clr = s.ch.clr := by
  unfold State.chDeliver
  extract_lets task r
  split
  · exact State.toTask_house ..
  · exact State.toTask_house ..
  · exact State.toTask_house ..
  · exact congrArg ChSt.clr (State.raiseLin_sameHouse (s := s.setBit r (n % 32) true) 0x111 1 l) |>.trans rfl

/-! ### Latches -/

/-- A bit set is an OR with its mask, a bit cleared an AND. -/
theorem State.setBit_rd_true (a : Nat) {k : Nat} (hk : k < 32) :
    (s.setBit a k true).rd a = s.rd a ||| BitVec.ofNat 32 (2 ^ k) := by
  refine BitVec.eq_of_getLsbD_eq fun i hi => ?_
  have hb : ((s.setBit a k true).rd a).getLsbD i = if k = i then true else (s.rd a).getLsbD i := by
    split
    next h => exact h ▸ State.bit_setBit_same s a k true hk
    next h => exact State.bit_setBit_apart k i true hi h
  rw [hb, BitVec.getLsbD_or, BitVec.getLsbD_ofNat, Nat.testBit_two_pow]
  split
  next h => simp [h, hi]
  next h => simp [h]

theorem State.setBit_rd_false (a : Nat) {k : Nat} (hk : k < 32) :
    (s.setBit a k false).rd a = s.rd a &&& ~~~ BitVec.ofNat 32 (2 ^ k) := by
  refine BitVec.eq_of_getLsbD_eq fun i hi => ?_
  have hb : ((s.setBit a k false).rd a).getLsbD i = if k = i then false else (s.rd a).getLsbD i := by
    split
    next h => exact h ▸ State.bit_setBit_same s a k false hk
    next h => exact State.bit_setBit_apart k i false hi h
  rw [hb, BitVec.getLsbD_and, BitVec.getLsbD_not, BitVec.getLsbD_ofNat, Nat.testBit_two_pow]
  split
  next h => simp [h, hi]
  next h => simp [h, hi]

theorem State.takeTask_of_none {x : Nat} (h : s.ch.tasks.find? (fun k => k.input == x) = none) : s.takeTask x = (s, none) := by
  rw [State.takeTask, h]

theorem State.takeTask_of_some {x : Nat} {k : Task} (h : s.ch.tasks.find? (fun k => k.input == x) = some k) :
    s.takeTask x = (s.setCh { s.ch with tasks := s.ch.tasks.eraseP (fun j => j.input == x) }, some k) := by
  rw [State.takeTask, h]
  rfl

/-- Whether or not a task waits, taking it leaves the others. -/
theorem State.takeTask_ch (x : Nat) :
    (s.takeTask x).1.ch = { s.ch with tasks := s.ch.tasks.eraseP (fun j => j.input == x) } := by
  cases h : s.ch.tasks.find? (fun k => k.input == x) with
  | none =>
    have he : s.ch.tasks.eraseP (fun j => j.input == x) = s.ch.tasks :=
      List.eraseP_of_forall_not fun k hk => by simpa using List.find?_eq_none.mp h k hk
    rw [State.takeTask_of_none h, he]
  | some k => rw [State.takeTask_of_some h]; rfl

theorem State.takeTask_snd (x : Nat) : (s.takeTask x).2 = s.ch.tasks.find? (fun k => k.input == x) := by
  cases h : s.ch.tasks.find? (fun k => k.input == x) with
  | none => rw [State.takeTask_of_none h]
  | some k => rw [State.takeTask_of_some h]

/-- The latch set, as SET_LATCH leaves it. -/
def State.latchHeld (s : State) (k : Fin 16) : State := (s.takeTask (0x098 + k)).1.setBit rSvcChLatch k true

theorem exec_setLatch_of_live {k : Fin 16} (hu : s.unitLive 15 1 = true) : exec (.setLatch k) s =
    .next (match s.ch.tasks.find? (fun j => j.input == 0x098 + k.val) with
      | none => s.latchHeld k
      | some t => (s.latchHeld k).setCh { (s.latchHeld k).ch with set := Map.set (fun _ => 0) (s.latchHeld k).ch.set k (t.cyc + 1) }) := by
  have hx : exec (.setLatch k) s = .next (if !s.unitLive 15 1 then s
      else match (s.takeTask (0x098 + k)).2 with
        | none => s.latchHeld k
        | some t => (s.latchHeld k).setCh { (s.latchHeld k).ch with set := Map.set (fun _ => 0) (s.latchHeld k).ch.set k (t.cyc + 1) }) := rfl
  rw [hx, State.takeTask_snd, if_neg (by simp [hu])]

theorem exec_clrLatch_of_live {k : Fin 16} (hu : s.unitLive 15 1 = true) : exec (.clrLatch k) s =
    .next (match s.ch.tasks.find? (fun j => j.input == 0x0A8 + k.val) with
      | none => (s.takeTask (0x0A8 + k)).1.setBit rSvcChLatch k false
      | some t => if Map.get (fun _ => 0) s.ch.set k = t.cyc + 1 then (s.takeTask (0x0A8 + k)).1
        else (s.takeTask (0x0A8 + k)).1.setBit rSvcChLatch k false) := by
  have hx : exec (.clrLatch k) s = .next (if !s.unitLive 15 1 then s
      else match (s.takeTask (0x0A8 + k)).2 with
        | none => (s.takeTask (0x0A8 + k)).1.setBit rSvcChLatch k false
        | some t => if Map.get (fun _ => 0) s.ch.set k = t.cyc + 1 then (s.takeTask (0x0A8 + k)).1
          else (s.takeTask (0x0A8 + k)).1.setBit rSvcChLatch k false) := rfl
  rw [hx, State.takeTask_snd, if_neg (by simp [hu])]

/-! ### Firing by software and the strobes -/

theorem State.forEach_toChannel (hu : s.unitLive 15 1 = true) (g : Nat → Nat) (l : List Nat) :
    s.forEach l (fun t n => t.toChannel (g n) 0#64) =
      { s with ch := { s.ch with q := s.ch.q ++ l.map fun n => ⟨g n, s.pxCycle, 0#64⟩ } } := by
  induction l generalizing s with
  | nil => simp [State.forEach]
  | cons k l ih =>
    have hk : s.toChannel (g k) 0#64 = { s with ch := { s.ch with q := s.ch.q ++ [⟨g k, s.pxCycle, 0#64⟩] } } := if_pos hu
    refine (ih (s := s.toChannel (g k) 0#64) (by rw [hk]; exact hu)).trans ?_
    rw [hk]
    simp only [List.append_assoc, List.map_cons, List.cons_append, List.nil_append]
    rfl

theorem answers_softFire {v : Word} {b : Bool} {g : Nat → Nat} (hr : s.reaches 15 = true) (hu : s.unitLive 15 1 = true)
    (hg : ∀ n, (if b = true then 32 + n else n) = g n) : Answers (.softwareFire b v) s fun t => t = { s with ch := { s.ch with
      q := s.ch.q ++ (idxs 32 v.getLsbD).map (fun n => ⟨g n, s.pxCycle, 0#64⟩) } } := by
  refine .of_eq (exec_of_reached_svc hr rfl) ?_ rfl
  simp only [State.softFire, hg]
  exact State.forEach_toChannel hu g _

/-! ### One event -/

section
variable (hu : s.unitLive 15 1 = true) (hon : s.bit (rSvcChCfg n) 31 = true) (hne : s.chLins n ≠ [])
  (hall : ∀ l ∈ s.chLins n, l.getLsbD n = false)
include hu hon hne hall

theorem State.channelEvent_of_gated (hg : s.gateOpen n = false) : s.channelEvent n = (s.chMerged n).count (rSvcChGated n) := by
  rw [State.channelEvent_of_clean hu hon hne hall, if_pos (by rw [State.chMerged_gateOpen, hg]; rfl)]

theorem State.channelEvent_of_refractory (hg : s.gateOpen n = true) (hr : s.refractory n = true) :
    s.channelEvent n = (s.chMerged n).count (rSvcChRefractDrop n) := by
  rw [State.channelEvent_of_clean hu hon hne hall, if_neg (by rw [State.chMerged_gateOpen, hg]; decide),
    if_pos (by rw [State.chMerged_refractory, hr])]

theorem State.channelEvent_of_open (hg : s.gateOpen n = true) (hr : s.refractory n = false) : s.channelEvent n =
    if s.bit (rSvcChCfg n) 30 then
      ((s.chDelivered n).chDeliver n (s.chLineage n)).autoclear (s.rd (rSvcChGate n) &&& 0xFFFF#32)
    else (s.chDelivered n).chDeliver n (s.chLineage n) := by
  rw [State.channelEvent_of_clean hu hon hne hall, if_neg (by rw [State.chMerged_gateOpen, hg]; decide),
    if_neg (by rw [State.chMerged_refractory, hr]; decide)]

end

theorem State.chMerged_count_rd {a : Nat} (h : rSvcChMerged n ≠ a) :
    ((s.chMerged n).count a).rd a = satAdd (s.rd a) 1 := by
  rw [State.rd_count, if_pos rfl, State.chMerged_rd h]

theorem chMerged_ne (n : Nat) : rSvcChMerged n ≠ rSvcChGated n ∧ rSvcChMerged n ≠ rSvcChRefractDrop n ∧
    rSvcChMerged n ≠ rSvcChDelivered n ∧ rSvcChMerged n ≠ rSvcChLatch ∧ rSvcChDelivered n ≠ rSvcChLatch := by
  unfold rSvcChMerged rSvcChGated rSvcChRefractDrop rSvcChDelivered rSvcChLatch
  omega

theorem State.chDelivered_rd : (s.chDelivered n).rd (rSvcChDelivered n) = satAdd (s.rd (rSvcChDelivered n)) 1 := by
  rw [State.chDelivered, State.setCh_rd, State.setLive_rd]
  exact State.chMerged_count_rd (chMerged_ne n).2.2.1

theorem State.chDelivered_latch : (s.chDelivered n).rd rSvcChLatch = s.rd rSvcChLatch := by
  obtain ⟨-, -, -, hm, hd⟩ := chMerged_ne n
  rw [State.chDelivered, State.setCh_rd, State.setLive_rd]
  exact (State.rd_count_other hd).trans (State.chMerged_rd hm)

/-- The registers of a delivery lie apart from the task inputs and the host's pending bits. -/
theorem chDeliver_apart (hn : n < 64) : (∀ x, rSvcTinMerge x ≠ rSvcChLatch) ∧ rSvcChHostpendLo ≠ rSvcChLatch ∧
    rSvcChHostpendHi ≠ rSvcChLatch ∧ (∀ x, rSvcTinMerge x ≠ rSvcChDelivered n) ∧ rSvcChHostpendLo ≠ rSvcChDelivered n ∧
    rSvcChHostpendHi ≠ rSvcChDelivered n := by
  unfold rSvcTinMerge rSvcChLatch rSvcChHostpendLo rSvcChHostpendHi rSvcChDelivered
  refine ⟨fun x => ?_, ?_, ?_, fun x => ?_, ?_, ?_⟩ <;> omega

theorem State.autoclear_holds (hn : n < 64) (l : BitVec 64) (m : Word) :
    (((s.chDelivered n).chDeliver n l).autoclear m).ch.clr = s.ch.clr ||| m ∧
    (((s.chDelivered n).chDeliver n l).autoclear m).rd rSvcChLatch = s.rd rSvcChLatch ∧
    (((s.chDelivered n).chDeliver n l).autoclear m).rd (rSvcChDelivered n) = satAdd (s.rd (rSvcChDelivered n)) 1 := by
  obtain ⟨ht, hlo, hhi, ht', hlo', hhi'⟩ := chDeliver_apart hn
  refine ⟨congrArg (· ||| m) (State.chDeliver_clr l), ?_, ?_⟩
  · exact (State.chDeliver_rd ht hlo hhi l).trans State.chDelivered_latch
  · exact (State.chDeliver_rd ht' hlo' hhi' l).trans State.chDelivered_rd

theorem State.chLoop_one : s.chLoop n 1 = ((s.countN (rSvcChLoopDrop n) 1).setBit (if n < 32 then rSvcChLoopLo else rSvcChLoopHi)
    (n % 32) true).raise 0x110 1 := if_neg (by decide)

theorem chLoop_apart (n : Nat) : (if n < 32 then rSvcChLoopLo else rSvcChLoopHi) ≠ rSvcChLoopDrop n ∧
    (if n < 32 then rSvcChLoopLo else rSvcChLoopHi) ≠ rDevFenceU (2 * srcCluster 0x110 + 1 / 32) ∧
    rSvcChLoopDrop n ≠ rDevFenceU (2 * srcCluster 0x110 + 1 / 32) := by
  have hf : rDevFenceU (2 * srcCluster 0x110 + 1 / 32) < 0x3c10020 := by decide
  have hd : rSvcChLoopDrop n = 0x3c11050 + 0x80 * n := rfl
  split
  · rw [show rSvcChLoopLo = 0x3c10020 from rfl]
    omega
  · rw [show rSvcChLoopHi = 0x3c10024 from rfl]
    omega

theorem State.chLoop_one_holds : (s.chLoop n 1).rd (rSvcChLoopDrop n) = satAdd (s.rd (rSvcChLoopDrop n)) 1 ∧
    (s.chLoop n 1).bit (if n < 32 then rSvcChLoopLo else rSvcChLoopHi) (n % 32) = true ∧ (s.chLoop n 1).ch.tasks = s.ch.tasks ∧
    (s.speaks 0x110 1 = true → (s.chLoop n 1).hears 0x110 1 = true) := by
  obtain ⟨hd, hf, hf'⟩ := chLoop_apart n
  rw [State.chLoop_one]
  refine ⟨?_, ?_, ?_, fun h => State.raise_hears_of h rfl rfl ?_⟩
  · exact (State.raise_rd ..).trans ((State.rd_setBit_other _ _ hd).trans (State.rd_wr_same ..))
  · exact (State.raise_bit ..).trans (State.bit_setBit_same _ _ _ true (Nat.mod_lt _ (by decide)))
  · exact (congrArg ChSt.tasks (State.raiseLin_sameHouse 0x110 1 0#64)).trans rfl
  · exact (State.rd_setBit_other _ _ hf).trans (State.rd_countN_other _ hf')

theorem State.hostPend_holds {l : BitVec 64} (hn : n < 32) (h : s.fld (rSvcChCfg n) 28 2 = 3) :
    (s.chDeliver n l).bit rSvcChHostpendLo n = true ∧
    (s.speaks 0x111 1 = true → (s.chDeliver n l).hears 0x111 1 = true) := by
  rw [State.chDeliver_of_host hn h]
  refine ⟨(State.raiseLin_bit ..).trans (State.bit_setBit_same _ _ _ true hn), fun hs => State.raiseLin_hears _ l ?_⟩
  exact (State.speaks_congr (s := s) (t := s.setBit rSvcChHostpendLo n true) 0x111 1 rfl rfl (State.rd_setBit_other _ _ (by decide))).trans hs

/-- Settles O55. -/
theorem clearingHouse : Obligations.ClearingHouse := by
  refine ⟨fun s n h => ?_, fun s n a b c l hq hab hu hoff => ?_, fun s n a b c l hq hab hu hon hn => ?_,
    fun s n a b c l hq hab hu hon hn hg => ?_, fun s n a b c l hq hab hu hon hn hg hr => ?_,
    fun s n a b c l hq hab hu hon hn hg hr ha => ?_, fun s n a b c l hq hab hu hon hn hg hr ha => ?_,
    fun s n l h => State.chDeliver_of_task h, fun s n l hn h => State.hostPend_holds hn h,
    fun s n c l m hq hu hon hl hm hg => ?_, fun s n c d l m hq hcd hu hoff => ?_,
    fun s n x w c l hc h => State.toTask_of_new hc h, fun s n x w c l hc h => State.toTask_of_held hc h,
    fun s v hr hu => ⟨answers_softFire hr hu fun _ => rfl, answers_softFire hr hu fun _ => rfl⟩, fun s k hu => ?_,
    fun s k j hu hj => ?_, fun s k j hu hj hset => ?_, fun s k hu hj => ?_, fun s k hu => ⟨?_, ?_⟩, fun s v hr hu => ?_,
    fun s so k hk => ?_, fun s so h => ?_⟩
  · obtain ⟨hl, ht⟩ := State.chTaken_of_none h
    exact .of_eq rfl ((State.channelEvent_of_off (.inl hl)).trans ht) rfl
  · refine .of_eq rfl (State.channelEvent_of_off (.inr (.inr hoff))) ?_
    rw [State.chTaken, State.chLeft_of_alone hq hab]
  · refine .of_eq rfl (State.channelEvent_of_loop hu hon (State.chLins_of_alone hq hab) hn) ?_
    exact State.chLoop_one_holds (s := s.chTaken n)
  · have hl := State.chLins_of_alone hq hab
    obtain ⟨hm, -⟩ := chMerged_ne n
    refine .of_eq rfl (State.channelEvent_of_gated hu hon (by simp [hl]) (by simpa [hl] using hn) hg)
      ⟨State.chMerged_count_rd hm, ?_, rfl⟩
    rw [State.count_ch, State.chMerged_ch, State.chLeft_of_alone hq hab]
  · have hl := State.chLins_of_alone hq hab
    obtain ⟨-, hm, -⟩ := chMerged_ne n
    refine .of_eq rfl (State.channelEvent_of_refractory hu hon (by simp [hl]) (by simpa [hl] using hn) hg hr)
      ⟨State.chMerged_count_rd hm, ?_, rfl⟩
    rw [State.count_ch, State.chMerged_ch, State.chLeft_of_alone hq hab]
  · have hl := State.chLins_of_alone hq hab
    have hlin : s.chLineage n = linBit n ||| l := by rw [State.chLineage, hl]; rfl
    refine .of_eq (t := s.chDelivered n) rfl ?_ ⟨State.chDelivered_rd, State.chLeft_of_alone hq hab, rfl,
      Map.get_set_same (fun _ => 0) s.ch.last n (s.pxCycle + 1)⟩
    rw [State.channelEvent_of_open hu hon (by simp [hl]) (by simpa [hl] using hn) hg hr, if_neg (by rw [ha]; decide), hlin]
  · have hl := State.chLins_of_alone hq hab
    refine .of_eq rfl ?_ (State.autoclear_holds n.isLt (s.chLineage n) (s.rd (rSvcChGate n) &&& 0xFFFF#32))
    rw [State.channelEvent_of_open hu hon (by simp [hl]) (by simpa [hl] using hn) hg hr, if_pos ha]
  · have hcyc : s.chCyc n = c := by simp [State.chCyc, hq]
    have hlins : s.chLins n = [l, m] := by simp [State.chLins, hcyc, hq]
    have hleft : s.chLeft n = [] := by simp [State.chLeft, hcyc, hq]
    obtain ⟨hne, -⟩ := chMerged_ne n
    refine .of_eq rfl (State.channelEvent_of_gated hu hon (by simp [hlins]) (by simpa [hlins] using ⟨hl, hm⟩) hg)
      ⟨?_, State.chMerged_count_rd hne, hleft⟩
    rw [State.rd_count_other hne.symm, State.chMerged, State.rd_countN, if_pos rfl, hlins]
    rfl
  · have hcyc : s.chCyc n = c := by simp [State.chCyc, hq]
    have hleft : s.chLeft n = [⟨n, d, m⟩] := by simp [State.chLeft, hcyc, hq, hcd.symm]
    refine .of_eq rfl (State.channelEvent_of_off (.inr (.inr hoff))) ?_
    rw [State.chTaken, hleft]
  · have hk : k.val < 32 := by omega
    have hrd : (s.latchHeld k).rd rSvcChLatch = s.rd rSvcChLatch ||| BitVec.ofNat 32 (2 ^ k.val) := by
      rw [State.latchHeld, State.setBit_rd_true _ hk, State.rd_of_regs (State.takeTask_regs _)]
    have hch := State.takeTask_ch (s := s) (0x098 + k)
    refine .of_eq (exec_setLatch_of_live hu) rfl ?_
    split
    · exact ⟨hrd, (congrArg ChSt.q hch).trans rfl, (congrArg ChSt.tasks hch).trans rfl⟩
    · exact ⟨hrd, (congrArg ChSt.q hch).trans rfl, (congrArg ChSt.tasks hch).trans rfl⟩
  · refine .of_eq (exec_setLatch_of_live hu) rfl ?_
    rw [hj]
    exact Map.get_set_same (fun _ => 0) (s.latchHeld k).ch.set k (j.cyc + 1)
  · refine .of_eq (exec_clrLatch_of_live hu) (t := (s.takeTask (0x0A8 + k)).1) ?_
      ⟨State.takeTask_regs _, congrArg ChSt.tasks (State.takeTask_ch _)⟩
    rw [hj]
    exact if_pos hset
  · have hk : k.val < 32 := by omega
    have hch := State.takeTask_ch (s := s) (0x0A8 + k)
    refine .of_eq (exec_clrLatch_of_live hu) (t := (s.takeTask (0x0A8 + k)).1.setBit rSvcChLatch k false) ?_
      ⟨?_, (congrArg ChSt.q hch).trans rfl, (congrArg ChSt.tasks hch).trans rfl⟩
    · cases h : s.ch.tasks.find? (fun j => j.input == 0x0A8 + k.val) with
      | none => rfl
      | some j => exact if_neg (hj j h)
    · rw [State.setBit_rd_false _ hk, State.rd_of_regs (State.takeTask_regs _)]
  · exact .of_eq rfl (if_pos (by simp [hu])) rfl
  · exact .of_eq rfl (if_pos (by simp [hu])) rfl
  · refine .of_eq (exec_of_reached_svc hr rfl) (if_pos hu) ⟨State.rd_wr_same .., rfl, fun a ha => ?_⟩
    exact State.rd_wr_other s _ (Ne.symm ha)
  · refine .of_eq (t := (s.takeTask (0x090 + so)).1) rfl ?_ ⟨congrArg ChSt.tasks (State.takeTask_ch _), State.takeTask_regs _, ?_⟩
    · rw [State.takeTask_snd, hk]
    · rw [State.takeTask_of_some hk]
      rfl
  · have hn : s.ch.tasks.find? (fun j => j.input == 0x090 + so.val) = none :=
      List.find?_eq_none.mpr fun j hj => by simpa using h j hj
    refine .of_eq rfl ?_ rfl
    rw [State.takeTask_snd, hn]

end Sys2Proof.Machine
end

section
/-! PROOF. What a read of the recording memory answers depends on its queue, its array and the registers of the clusters 0 and 1
alone. -/

namespace Sys2Proof.Machine

open Sys2Proof

variable {s t u : State}

/-- The same memory to a reader: queue, array, parity flips, variant, and the registers of DEV and MEM. -/
structure State.sameMem (s t : State) : Prop where
  variant : t.variant = s.variant
  q : t.mem.q = s.mem.q
  dram : t.mem.dram = s.mem.dram
  flip : t.mem.flip = s.mem.flip
  rd : ∀ a, a < 0x800000 → t.rd a = s.rd a

theorem State.sameMem.refl (s : State) : s.sameMem s := ⟨rfl, rfl, rfl, rfl, fun _ _ => rfl⟩

theorem State.sameMem.symm (h : s.sameMem t) : t.sameMem s :=
  ⟨h.variant.symm, h.q.symm, h.dram.symm, h.flip.symm, fun a ha => (h.rd a ha).symm⟩

theorem State.sameMem.trans (h : s.sameMem t) (h' : t.sameMem u) : s.sameMem u :=
  ⟨h'.variant.trans h.variant, h'.q.trans h.q, h'.dram.trans h.dram, h'.flip.trans h.flip,
    fun a ha => (h'.rd a ha).trans (h.rd a ha)⟩

/-- A change of other parts of State. -/
theorem State.sameMem.of_parts (hv : t.variant = s.variant) (hm : t.mem = s.mem) (hr : t.regs = s.regs) : s.sameMem t :=
  ⟨hv, by rw [hm], by rw [hm], by rw [hm], fun a _ => State.rd_of_regs hr a⟩

theorem State.sameMem_raise (x n : Nat) : s.sameMem (s.raise x n) :=
  .of_parts (State.raise_variant ..) (State.raise_mem ..) (State.raise_regs ..)

theorem State.sameMem.raise (h : s.sameMem t) (x n : Nat) : (s.raise x n).sameMem (t.raise x n) :=
  (State.sameMem_raise x n).symm.trans (h.trans (State.sameMem_raise x n))

/-- A write of a register of another cluster. -/
theorem State.sameMem_wr {a : Nat} (ha : 0x800000 ≤ a) (v : Word) : s.sameMem (s.wr a v) :=
  ⟨rfl, rfl, rfl, rfl, fun _ hb => State.rd_wr_other _ _ (by omega)⟩

theorem State.sameMem.wr (h : s.sameMem t) (a : Nat) (f : Word → Word) : (s.wr a (f (s.rd a))).sameMem (t.wr a (f (t.rd a))) := by
  refine ⟨h.variant, h.q, h.dram, h.flip, fun b hb => ?_⟩
  rw [State.rd_wr, State.rd_wr]
  split
  next hab => rw [h.rd a (hab ▸ hb)]
  · exact h.rd b hb

theorem State.sameMem.setFld (h : s.sameMem t) (a lo w n : Nat) : (s.setFld a lo w n).sameMem (t.setFld a lo w n) :=
  h.wr a fun v => fset v lo w n

theorem State.sameMem.countN (h : s.sameMem t) (a n : Nat) : (s.countN a n).sameMem (t.countN a n) := h.wr a fun v => satAdd v n

theorem State.sameMem.fld (h : s.sameMem t) {a : Nat} (ha : a < 0x800000) (lo w : Nat) : t.fld a lo w = s.fld a lo w :=
  State.fld_of_rd (h.rd a ha)

theorem State.sameMem.bit (h : s.sameMem t) {a : Nat} (ha : a < 0x800000) (i : Nat) : t.bit a i = s.bit a i :=
  State.bit_of_rd (h.rd a ha)

/-! ### Addresses -/

theorem maskBits_getD_lt (m k : Nat) : (maskBits m).getD k 0 < 16 := by
  rw [List.getD_eq_getElem?_getD]
  cases h : (maskBits m)[k]? with
  | none => exact Nat.zero_lt_succ _
  | some x =>
    obtain ⟨hx, -⟩ := List.mem_filter.mp (List.mem_of_getElem? h)
    exact List.mem_range.mp hx

theorem State.mapAddr_lt {a sc loc : Nat} (h : s.mapAddr a = some (sc, loc)) : sc < 16 := by
  obtain ⟨r, -, hr⟩ := Option.map_eq_some_iff.mp h
  have hsc : (s.mapIn r a).1 = sc := congrArg Prod.fst hr
  rw [← hsc]
  exact maskBits_getD_lt _ _

theorem State.sameMem.regionOf (h : s.sameMem t) (a : Nat) : t.regionOf a = s.regionOf a := by
  refine List.find?_congr fun r hr => ?_
  have hr : r < 16 := List.mem_range.mp hr
  rw [State.rgnEn, h.bit (by unfold rMemRgnMap; omega), h.fld (by unfold rMemRgnBase; omega), h.fld (by unfold rMemRgnSize; omega)]
  rfl

theorem State.regionOf_lt {a r : Nat} (h : s.regionOf a = some r) : r < 16 := List.mem_range.mp (List.mem_of_find?_eq_some h)

theorem State.sameMem.mapIn (h : s.sameMem t) {r : Nat} (hr : r < 16) (a : Nat) : t.mapIn r a = s.mapIn r a := by
  have hm : rMemRgnMap r < 0x800000 := by unfold rMemRgnMap; omega
  have hb : rMemRgnBase r < 0x800000 := by unfold rMemRgnBase; omega
  have hl : rMemRgnLbase r < 0x800000 := by unfold rMemRgnLbase; omega
  simp only [State.mapIn, h.fld hm, h.fld hb, h.fld hl]

theorem State.sameMem.mapAddr (h : s.sameMem t) (a : Nat) : t.mapAddr a = s.mapAddr a := by
  unfold State.mapAddr
  rw [h.regionOf]
  exact Option.map_congr fun r hr => h.mapIn (State.regionOf_lt hr) a

theorem State.sameMem.burstStat (h : s.sameMem t) (e : Bool) (a : Nat) : t.burstStat e a = s.burstStat e a := by
  have hs : t.memState = s.memState := h.fld (by decide) ..
  unfold State.burstStat
  rw [hs, h.mapAddr]
  cases hm : s.mapAddr a with
  | none => rfl
  | some p =>
    have hlt := State.mapAddr_lt hm
    have hup : t.scUp p.1 = s.scUp p.1 := by
      unfold State.scUp State.fenced
      rw [h.variant, h.bit (by unfold rDevFenceU scUnit; omega)]
    simp only [hup]

/-! ### Bursts -/

/-- A change of the memory that is the same on both sides, but for the array. -/
theorem State.sameMem.ite {c : Prop} [Decidable c] {s' t' : State} (h : s.sameMem t) (h' : s'.sameMem t') :
    (if c then s else s').sameMem (if c then t else t') := by
  split
  · exact h
  · exact h'

theorem State.sameMem.setAud (h : s.sameMem t) (a b : Aud) : (s.setAud a).sameMem (t.setAud b) :=
  ⟨h.variant, h.q, h.dram, h.flip, h.rd⟩

theorem State.sameMem.setInj (h : s.sameMem t) {sc : Nat} (hsc : sc < 16) (n : Nat) : (s.setInj sc n).sameMem (t.setInj sc n) := by
  unfold State.setInj
  rw [h.fld (by unfold rMemScInj; omega)]
  exact .ite h ((h.setFld _ 16 16 n).setAud _ _)

/-- A burst and its parity flips in the array. -/
def State.arrayPut (s : State) (sc loc : Nat) (b : List Byte) (f : Nat) : State :=
  { s with mem := { s.mem with
      dram := putBytes s.mem.dram (dramKey sc loc) b
      flip := Map.set (fun _ => 0) s.mem.flip (flipKey sc loc) f } }

theorem State.sameMem.arrayPut (h : s.sameMem t) (sc loc : Nat) (b : List Byte) (f : Nat) :
    (s.arrayPut sc loc b f).sameMem (t.arrayPut sc loc b f) :=
  ⟨h.variant, h.q, congrArg (putBytes · (dramKey sc loc) b) h.dram,
    congrArg (Map.set (fun _ => 0) · (flipKey sc loc) f) h.flip, h.rd⟩

theorem State.sameMem_raise_if {c : Prop} [Decidable c] (x n : Nat) : s.sameMem (if c then s.raise x n else s) := by
  split
  · exact State.sameMem_raise x n
  · exact .refl s

theorem State.sameMem.putBurst (h : s.sameMem t) {sc : Nat} (hsc : sc < 16) (loc : Nat) (b : List Byte) :
    (s.putBurst sc loc b).sameMem (t.putBurst sc loc b) := by
  unfold State.putBurst
  rw [h.fld (by unfold rMemScInj; omega), h.fld (by unfold rMemScInj; omega)]
  extract_lets inj f s0 s1 m t0 t1 m'
  have h0 : s0.sameMem t0 := .ite h (h.setInj hsc _)
  have h1 : s1.sameMem t1 := (State.sameMem_raise_if 0x11B 2).symm.trans (h0.trans (State.sameMem_raise_if 0x11B 2))
  exact h1.arrayPut sc loc b f

/-- The queue without the writes of a burst. -/
def State.unqueued (s : State) (sc loc : Nat) : State :=
  { s with mem := { s.mem with q := s.mem.q.filter (fun b => !(b.write && sameBurst b sc loc)) } }

theorem State.sameMem.settle (h : s.sameMem t) {sc : Nat} (hsc : sc < 16) (loc : Nat) : (s.settle sc loc).sameMem (t.settle sc loc) := by
  have hu : (s.unqueued sc loc).sameMem (t.unqueued sc loc) :=
    ⟨h.variant, congrArg (List.filter _) h.q, h.dram, h.flip, h.rd⟩
  have hgo (l : List Burst) (hl : ∀ b ∈ l, b.sc < 16) : ∀ {s t : State}, s.sameMem t →
      (l.foldl (fun t b => t.putBurst b.sc b.loc b.data) s).sameMem (l.foldl (fun t b => t.putBurst b.sc b.loc b.data) t) := by
    induction l with
    | nil => exact fun h => h
    | cons b l ih =>
      exact fun h => ih (fun c hc => hl c (List.mem_cons_of_mem _ hc)) (h.putBurst (hl b List.mem_cons_self) b.loc b.data)
  have hs (s : State) : s.settle sc loc = (s.mem.q.filter fun b => b.write && sameBurst b sc loc).foldl
    (fun t b => t.putBurst b.sc b.loc b.data) (s.unqueued sc loc) := rfl
  rw [hs, hs, h.q]
  refine hgo _ (fun b hb => ?_) hu
  have hb' := (List.mem_filter.mp hb).2
  simp only [sameBurst, Bool.and_eq_true, beq_iff_eq] at hb'
  rw [hb'.2.1]
  exact hsc

/-! ### A read -/

/-- What a read of one burst makes of the state, of the status and of the bytes. -/
def sameAnswer {β : Type} (a b : State × β) : Prop := a.1.sameMem b.1 ∧ b.2 = a.2

/-- A corrected burst is counted and described (R424). -/
def State.ceCounted (s : State) (sc n : Nat) : State :=
  (((((s.count (rMemScCeBursts sc)).countN (rMemScCeSymbols sc) n).count rMemCeTotal).setFld rMemCeInfo 16 4 sc).setFld
    rMemCeInfo 0 5 n)

theorem State.sameMem.ceCounted (h : s.sameMem t) (sc n : Nat) : (s.ceCounted sc n).sameMem (t.ceCounted sc n) :=
  ((((h.countN (rMemScCeBursts sc) 1).countN (rMemScCeSymbols sc) n).countN rMemCeTotal 1).setFld rMemCeInfo 16 4 sc).setFld
    rMemCeInfo 0 5 n

/-- A corrected burst is told once in a millisecond. -/
def State.ceTold (s : State) (ms : Nat) : State := ({ s with mem := { s.mem with ceMs := ms } } : State).raise 0x020 1

theorem State.sameMem_ceTold (ms : Nat) : s.sameMem (s.ceTold ms) :=
  .trans (t := { s with mem := { s.mem with ceMs := ms } }) ⟨rfl, rfl, rfl, rfl, fun _ _ => rfl⟩ (State.sameMem_raise 0x020 1)

/-- The address of the first burst that could not be corrected is kept. -/
def State.ueMarked (s : State) (sc loc : Nat) : State :=
  if s.rd (rMemScUe sc) = 0#32 then s.setLive (rMemScUeaddrLo sc) (BitVec.ofNat 64 loc) else s

theorem State.sameMem_ueMarked (sc loc : Nat) : s.sameMem (s.ueMarked sc loc) := by
  unfold State.ueMarked
  split
  · exact .of_parts rfl rfl rfl
  · exact .refl s

section
variable {sc loc : Nat} {d : List Byte} {e : List Nat}

theorem State.decodeBurst_of_zero {w : List Nat} (h : gfMem.decode 16 s.eccT e = some (w, 0)) :
    s.decodeBurst sc loc d e = (s, .ok, d, 0) := by
  simp only [State.decodeBurst, h]

theorem State.decodeBurst_of_some {w : List Nat} {n : Nat} (h : gfMem.decode 16 s.eccT e = some (w, n + 1)) :
    s.decodeBurst sc loc d e = (if s.mem.ceMs = s.now / 1000000 + 1 then s.ceCounted sc (n + 1)
      else (s.ceCounted sc (n + 1)).ceTold (s.now / 1000000 + 1), .ok, applyErr d w, n + 1) := by
  simp only [State.decodeBurst, h, State.ceCounted, State.ceTold]

theorem State.decodeBurst_of_none (h : gfMem.decode 16 s.eccT e = none) : s.decodeBurst sc loc d e =
    (((s.ueMarked sc loc).count (rMemScUe sc)).raise (0x010 + sc) (scUnit sc), .poison, applyErr d e, 0) := by
  simp only [State.decodeBurst, h, State.ueMarked]

end

theorem State.sameMem.decodeBurst (h : s.sameMem t) (sc loc : Nat) (d : List Byte) (e : List Nat) :
    sameAnswer (s.decodeBurst sc loc d e) (t.decodeBurst sc loc d e) := by
  have he : t.eccT = s.eccT := by rw [State.eccT, h.fld (by decide), State.eccT]
  have htold {x : State} {c : Prop} [Decidable c] (ms : Nat) : x.sameMem (if c then x else x.ceTold ms) := by
    split
    · exact .refl x
    · exact State.sameMem_ceTold ms
  match hr : gfMem.decode 16 s.eccT e with
  | some (w, 0) =>
    rw [State.decodeBurst_of_zero hr, State.decodeBurst_of_zero (he ▸ hr)]
    exact ⟨h, rfl⟩
  | some (w, n + 1) =>
    rw [State.decodeBurst_of_some hr, State.decodeBurst_of_some (he ▸ hr)]
    exact ⟨(htold _).symm.trans ((h.ceCounted sc (n + 1)).trans (htold _)), rfl⟩
  | none =>
    have hm := (State.sameMem_ueMarked sc loc).symm.trans (h.trans (State.sameMem_ueMarked sc loc))
    rw [State.decodeBurst_of_none hr, State.decodeBurst_of_none (he ▸ hr)]
    exact ⟨(hm.countN (rMemScUe sc) 1).raise _ _, rfl⟩

theorem State.sameMem.refuse (h : s.sameMem t) (n : Nat) : (s.refuse n).sameMem (t.refuse n) :=
  .ite h ((h.countN _ _).raise _ _)

/-- The answer of one burst (R420). -/
def State.readBurst (s : State) (sc loc : Nat) : State × MStat × List Byte × Nat :=
  let base := loc / 64 * 64
  let s1 := s.settle sc loc
  if s1.flipAt sc base = 0 then (s1, .ok, s1.arrayBytes sc base 64, 0)
  else s1.decodeBurst sc base (s1.arrayBytes sc base 64) (errWord [] (s1.flipAt sc base))

theorem State.sameMem.readBurst (h : s.sameMem t) {sc : Nat} (hsc : sc < 16) (loc : Nat) :
    sameAnswer (s.readBurst sc loc) (t.readBurst sc loc) := by
  have h1 := h.settle hsc loc
  have hf : (t.settle sc loc).flipAt sc (loc / 64 * 64) = (s.settle sc loc).flipAt sc (loc / 64 * 64) := by
    rw [State.flipAt, h1.flip, State.flipAt]
  have hb : (t.settle sc loc).arrayBytes sc (loc / 64 * 64) 64 = (s.settle sc loc).arrayBytes sc (loc / 64 * 64) 64 := by
    rw [State.arrayBytes, h1.dram, State.arrayBytes]
  unfold State.readBurst
  simp only [hf, hb]
  split
  · exact ⟨h1, rfl⟩
  · exact h1.decodeBurst ..

/-- One piece of a read, as `State.memReadAs` folds it. -/
def State.readPiece (e : Bool) (t : State × List MStat × List Byte) (p : Nat × Nat) : State × List MStat × List Byte :=
  match t.1.burstStat e p.1, t.1.mapAddr p.1 with
  | .ok, some (sc, loc) =>
    let d := t.1.readBurst sc loc
    (d.1, t.2.1 ++ [d.2.1], t.2.2 ++ slice d.2.2.1 (loc - loc / 64 * 64) p.2)
  | st, _ => (t.1, t.2.1 ++ [st], t.2.2 ++ List.replicate p.2 0#8)

theorem State.memReadAs_fold (e : Bool) (a n : Nat) : s.memReadAs e a n =
    let r := (pieces a n).foldl (State.readPiece e) (s, [], [])
    (r.1.refuse (r.2.1.countP (fun x => x == .range || x == .notReady)), worst r.2.1, r.2.2) := rfl

theorem State.sameMem.readPiece {x y : State × List MStat × List Byte} (e : Bool) (h : sameAnswer x y) (p : Nat × Nat) :
    sameAnswer (State.readPiece e x p) (State.readPiece e y p) := by
  obtain ⟨s, a⟩ := x
  obtain ⟨t, b⟩ := y
  obtain ⟨h, rfl⟩ : s.sameMem t ∧ b = a := h
  unfold State.readPiece
  simp only [h.burstStat, h.mapAddr]
  split
  next sc loc _ hm =>
    obtain ⟨h1, h2⟩ := h.readBurst (State.mapAddr_lt hm) loc
    simp only [h2]
    exact ⟨h1, rfl⟩
  · exact ⟨h, rfl⟩

theorem State.sameMem.memReadAs (h : s.sameMem t) (e : Bool) (a n : Nat) : sameAnswer (s.memReadAs e a n) (t.memReadAs e a n) := by
  have hfold (l : List (Nat × Nat)) : ∀ x y : State × List MStat × List Byte, sameAnswer x y →
      sameAnswer (l.foldl (State.readPiece e) x) (l.foldl (State.readPiece e) y) := by
    induction l with
    | nil => exact fun _ _ h => h
    | cons p l ih => exact fun _ _ h => ih _ _ (State.sameMem.readPiece e h p)
  obtain ⟨h1, h2⟩ := hfold (pieces a n) (s, [], []) (t, [], []) ⟨h, rfl⟩
  rw [State.memReadAs_fold, State.memReadAs_fold]
  simp only [h2]
  exact ⟨h1.refuse _, rfl⟩

theorem State.sameMem.memRead (h : s.sameMem t) (a n : Nat) : sameAnswer (s.memRead a n) (t.memRead a n) := h.memReadAs false a n

theorem State.sameMem.peek (h : s.sameMem t) (a n : Nat) : t.peek a n = s.peek a n :=
  congrArg Prod.snd (h.memReadAs false a n).2

end Sys2Proof.Machine
end

section
/-! PROOF. The AES3 audio ports: blocks received, lock, and the transmitter. -/

namespace Sys2Proof.Machine

open Sys2Proof

variable {s t : State} {n : Nat}

/-! ### Registers behind a read of the recording memory -/

/-- A register that is none of those in which a read counts errors. -/
structure apartOfErrors (r : Nat) : Prop where
  inj : ∀ sc < 16, rMemScInj sc ≠ r
  bursts : ∀ sc < 16, rMemScCeBursts sc ≠ r
  symbols : ∀ sc < 16, rMemScCeSymbols sc ≠ r
  ue : ∀ sc < 16, rMemScUe sc ≠ r
  core : 0x500000 ≤ r

section
variable {r : Nat} (h : apartOfErrors r) {sc : Nat} (hsc : sc < 16)
include h hsc

theorem State.ceCounted_rd (k : Nat) : (s.ceCounted sc k).rd r = s.rd r := by
  have ht : rMemCeTotal ≠ r := Nat.ne_of_lt (Nat.lt_of_lt_of_le (by decide) h.core)
  have hi : rMemCeInfo ≠ r := Nat.ne_of_lt (Nat.lt_of_lt_of_le (by decide) h.core)
  rw [State.ceCounted, State.rd_setFld_other _ _ _ hi, State.rd_setFld_other _ _ _ hi, State.rd_count_other ht,
    State.rd_countN_other _ (h.symbols sc hsc), State.rd_count_other (h.bursts sc hsc)]

theorem State.decodeBurst_rd (loc : Nat) (d : List Byte) (e : List Nat) : (s.decodeBurst sc loc d e).1.rd r = s.rd r := by
  match hr : gfMem.decode 16 s.eccT e with
  | some (w, 0) => rw [State.decodeBurst_of_zero hr]
  | some (w, k + 1) =>
    have hc := State.ceCounted_rd (s := s) h hsc (k + 1)
    rw [State.decodeBurst_of_some hr]
    exact State.ite_keeps (g := fun t : State => t.rd r) hc (((State.raise_rd ..).trans rfl).trans hc)
  | none =>
    rw [State.decodeBurst_of_none hr]
    refine (State.raise_rd ..).trans ((State.rd_count_other (h.ue sc hsc)).trans ?_)
    exact State.ite_keeps (g := fun t : State => t.rd r) rfl rfl

theorem State.readBurst_rd (loc : Nat) : (s.readBurst sc loc).1.rd r = s.rd r := by
  have hs : (s.settle sc loc).rd r = s.rd r := State.settle_rd_other (h.inj sc hsc) _
  unfold State.readBurst
  extract_lets base s1
  split
  · exact hs
  · exact (State.decodeBurst_rd h hsc ..).trans hs

end

theorem State.readPiece_rd {r : Nat} (h : apartOfErrors r) (e : Bool) (x : State × List MStat × List Byte) (p : Nat × Nat) :
    (State.readPiece e x p).1.rd r = x.1.rd r := by
  unfold State.readPiece
  split
  next hm => exact State.readBurst_rd h (State.mapAddr_lt hm) _
  · rfl

theorem State.refuse_rd {r : Nat} (h : rMemRefused ≠ r) (k : Nat) : (s.refuse k).rd r = s.rd r :=
  State.ite_keeps (g := fun t : State => t.rd r) rfl ((State.raise_rd ..).trans (State.rd_countN_other _ h))

theorem State.memRead_rd {r : Nat} (h : apartOfErrors r) (a k : Nat) : (s.memRead a k).1.rd r = s.rd r := by
  have hm : rMemRefused ≠ r := Nat.ne_of_lt (Nat.lt_of_lt_of_le (by decide) h.core)
  rw [State.memRead, State.memReadAs_fold]
  refine (State.refuse_rd hm _).trans ?_
  exact List.foldlRecOn (motive := fun x : State × List MStat × List Byte => x.1.rd r = s.rd r) _ _ rfl
    fun x hx p _ => (State.readPiece_rd h false x p).trans hx

/-! ### Updates of a receiver -/

@[simp] theorem State.setAesRx_aesRx (v : AesRx) : (s.setAesRx n v).aesRx n = v := Map.get_set_same ..

@[simp] theorem State.setAesRx_mem (v : AesRx) : (s.setAesRx n v).mem = s.mem := rfl

theorem State.aesRx_of_out (h : t.out = s.out) (k : Nat) : t.aesRx k = s.aesRx k := by rw [State.aesRx, h, State.aesRx]

/-! ### The opening of a block -/

/-- A block that finds the ring full is opened to be discarded (R516). -/
theorem State.aesOpen_of_full {st : Nat} (h : s.aesFull n = true) :
    s.aesOpen n st = (s.setAesRx n { s.aesRx n with cur := some (mintOfTu st, true) }).raise 0x10C (4 + n) := by
  rw [State.aesOpen, h]
  rfl

theorem State.aesOpen_full_holds {st : Nat} (h : s.aesFull n = true) :
    ((s.aesOpen n st).aesRx n).cur = some (mintOfTu st, true) ∧
    (s.speaks 0x10C (4 + n) = true → (s.aesOpen n st).hears 0x10C (4 + n) = true) := by
  rw [State.aesOpen_of_full h, State.aesRx_of_out (State.raise_out ..), State.setAesRx_aesRx]
  exact ⟨rfl, fun hs => State.raise_hears_of hs rfl rfl rfl⟩

/-! ### The end of a block -/

/-- The words of a block, as its frames give them (R514). -/
def aesWords (l : List Nat) : List Nat := (l.take 384).map fun w => w % 2 ^ 32 / 256 * 256 + w % 4

/-- Frames all of whose words are even have no parity failure. -/
theorem aesWords_parity {l : List Nat} (h : ∀ w ∈ l, w % 2 = 0) : (aesWords l).countP (fun w => w % 2 == 1) = 0 := by
  rw [List.countP_eq_zero]
  intro w hw
  obtain ⟨x, hx, rfl⟩ := List.mem_map.mp hw
  have := h x (List.mem_of_mem_take hx)
  have : (x % 2 ^ 32 / 256 * 256 + x % 4) % 2 = 0 := by omega
  rw [this]
  decide

theorem aesWords_length (l : List Nat) : (aesWords l).length = (l.take 384).length := List.length_map ..

section
variable {m : Mint} {l : List Nat} {fs : Word} {b : Bool} (heven : ∀ w ∈ l, w % 2 = 0)
include heven

theorem State.aesEnd_of_discard (hc : (s.aesRx n).cur = some (m, true)) :
    s.aesEnd n l fs b = s.aesLose n ((aesWords l).length / 2) := by
  have hp := aesWords_parity heven
  unfold aesWords at hp ⊢
  simp only [State.aesEnd, hc, hp, if_true]

/-- The state of an ended block, before its Overdraft and its event (R516, R517). -/
def State.aesStored (s : State) (n : Nat) (m : Mint) (l : List Nat) (fs : Word) (b : Bool) : State :=
  let k := (aesWords l).length / 2
  let v := s.aesRx n
  let w := s.fld (rOutAesrxWrptr n) 0 12
  let a := s.aesAddr (rOutAesrxCfg n) w
  let bytes := aesBlockBytes (s.fld (rOutAesrxStat n) 16 4) k (v.seq + 1) v.lost m fs
    (b.toNat + (decide (0 < v.lost)).toNat * 4) ((aesWords l).take (2 * k))
  let s1 := (s.request 8 true a 2048 bytes false false).setFld (rOutAesrxWrptr n) 0 12 ((w + 1) % s.aesBlocks (rOutAesrxRing n))
  (s1.countN (rOutAesOverrun n) (k - k)).setAesRx n { v with
    cur := none, lost := k - k, seq := v.seq + 1, fifo := v.fifo ++ (List.range 32).map (fun i => a + 64 * i) }

theorem State.aesEnd_of_room (hc : (s.aesRx n).cur = some (m, false)) (hl : s.aesLevel n ≤ 2048) :
    s.aesEnd n l fs b = ((s.aesStored n m l fs b).syncAesOd n).raise 0x10B (4 + n) := by
  have hp := aesWords_parity heven
  have hroom (k : Nat) : s.aesRoom n k = k := if_pos (by omega)
  unfold aesWords at hp
  have hk (k : Nat) : ¬(k = 0 ∧ 0 < k) := by omega
  simp only [State.aesEnd, hc, hp, if_true, hroom, hk, if_false, Nat.lt_irrefl, or_false, decide_false, Bool.toNat_false, Nat.zero_mul,
    Nat.add_zero]
  rfl

theorem State.aesEnd_of_overflow (hc : (s.aesRx n).cur = some (m, false)) (hlen : 2 ≤ l.length) (hl : 4024 < s.aesLevel n) :
    s.aesEnd n l fs b = (s.aesLose n ((aesWords l).length / 2)).raise 0x10C (4 + n) := by
  have hp := aesWords_parity heven
  have hk : 0 < (aesWords l).length / 2 := by
    rw [aesWords_length, List.length_take]
    omega
  have hroom : s.aesRoom n ((aesWords l).length / 2) = 0 := by
    rw [State.aesRoom, if_neg (by omega)]
    omega
  unfold aesWords at hp hk hroom ⊢
  simp only [State.aesEnd, hc, hp, if_true, hroom, hk, and_self]

end

theorem State.aesLose_holds (k : Nat) : ((s.aesLose n k).aesRx n).cur = none ∧ ((s.aesLose n k).aesRx n).lost = (s.aesRx n).lost + k ∧
    (s.aesLose n k).rd (rOutAesOverrun n) = satAdd (s.rd (rOutAesOverrun n)) k ∧ (s.aesLose n k).mem = s.mem := by
  rw [State.aesLose, State.setAesRx_aesRx]
  exact ⟨rfl, rfl, State.rd_wr_same .., rfl⟩

/-! ### Overdraft -/

theorem State.setOd_on (p : Nat) (hp : p < 16) : (s.setOd p true).mem.od.getLsbD p = true := by
  have hbit : (s.mem.od ||| BitVec.ofNat 16 (2 ^ p)).getLsbD p = true := by
    rw [BitVec.getLsbD_or, BitVec.getLsbD_ofNat, Nat.testBit_two_pow_self]
    simp [hp]
  have hne : s.mem.od ||| BitVec.ofNat 16 (2 ^ p) ≠ 0 := fun h => by
    rw [h] at hbit
    simp at hbit
  unfold State.setOd
  extract_lets od
  have hod : od = s.mem.od ||| BitVec.ofNat 16 (2 ^ p) := if_pos rfl
  rw [if_neg fun hc => hne (hod.symm.trans hc.1)]
  exact (congrArg (BitVec.getLsbD · p) hod).trans hbit

theorem State.portOd_out : s.portOd.out = s.out := State.blur_out (State.portOd_blur s 16826384 rfl) rfl

theorem State.portOd_on (n : Fin 2) (h : (s.aesRx n).od = true) : s.portOd.mem.od.getLsbD 8 = true := by
  have hon : (s.bit (rOutDh0Ovd 0) 31 || (s.aesRx 0).od || (s.aesRx 1).od) = true := by
    match n with
    | 0 => rw [show (s.aesRx 0).od = true from h, Bool.or_true, Bool.true_or]
    | 1 => rw [show (s.aesRx 1).od = true from h, Bool.or_true]
  rw [State.portOd, hon]
  split
  next h8 => exact beq_iff_eq.mp h8
  · exact State.setOd_on 8 (by decide)

theorem State.syncAesOd_od : ((s.syncAesOd n).aesRx n).od = (decide (2048 ≤ s.aesLevel n) || ((s.aesRx n).od && decide (1024 ≤ s.aesLevel n))) := by
  rw [State.syncAesOd, State.aesRx_of_out State.portOd_out, State.setAesRx_aesRx]

/-! ### Lock -/

/-- A receiver that finds its lock (R515). -/
def State.aesLocked (s : State) (n : Nat) (r : Nat) : State :=
  ((s.setBit (rOutAesrxStat n) 31 true).setFld (rOutAesrxStat n) 16 4 r).raise 0x10A (4 + n)

theorem aes_fence (n : Fin 2) : rOutAesrxStat n ≠ rDevFenceU (2 * srcCluster 0x10A + (4 + n) / 32) ∧
    rOutAesUnlocks n ≠ rDevFenceU (2 * srcCluster 0x10A + (4 + n) / 32) := by
  revert n
  decide

theorem State.aesLocked_holds (n : Fin 2) {r : Nat} (hr : r < 16) : (s.aesLocked n r).bit (rOutAesrxStat n) 31 = true ∧
    (s.aesLocked n r).fld (rOutAesrxStat n) 16 4 = r ∧ (s.aesLocked n r).out = s.out ∧
    (s.speaks 0x10A (4 + n) = true → (s.aesLocked n r).hears 0x10A (4 + n) = true) := by
  obtain ⟨hf, -⟩ := aes_fence n
  refine ⟨?_, ?_, (State.raise_out ..).trans rfl, fun h => State.raise_hears_of h rfl rfl ?_⟩
  · refine (State.raise_bit ..).trans ((State.bit_setFld_apart 16 4 r 31 (by decide) (by decide)).trans ?_)
    exact State.bit_setBit_same _ _ _ true (by decide)
  · refine (State.raise_fld ..).trans ((State.fld_setFld_same _ _ _ _ _ (by decide)).trans (Nat.mod_eq_of_lt hr))
  · exact (State.rd_setFld_other _ _ _ hf).trans (State.rd_setBit_other _ _ hf)

/-- A receiver that loses its lock between blocks. -/
def State.aesLost (s : State) (n : Nat) : State :=
  (((s.setOut { s.out with free := s.out.free + 1 }).setBit (rOutAesrxStat n) 31 false).count (rOutAesUnlocks n)).raise 0x10A (4 + n)

theorem State.aesEnd_of_none {l : List Nat} {fs : Word} {b : Bool} (h : (s.aesRx n).cur = none) : s.aesEnd n l fs b = s := by
  simp only [State.aesEnd, h]

theorem State.aesUnlock_of_none {l : List Nat} (h : (s.aesRx n).cur = none) :
    s.aesUnlock n l = (s.setOut { s.out with free := s.out.free + 1 }).setBit (rOutAesrxStat n) 31 false :=
  congrArg (fun t : State => t.setBit (rOutAesrxStat n) 31 false)
    (State.aesEnd_of_none (s := s.setOut { s.out with free := s.out.free + 1 }) h)

theorem State.aesLost_holds (n : Fin 2) : (s.aesLost n).bit (rOutAesrxStat n) 31 = false ∧
    (s.aesLost n).rd (rOutAesUnlocks n) = satAdd (s.rd (rOutAesUnlocks n)) 1 ∧
    (s.speaks 0x10A (4 + n) = true → (s.aesLost n).hears 0x10A (4 + n) = true) := by
  obtain ⟨hf, hf'⟩ := aes_fence n
  have hne : rOutAesUnlocks n ≠ rOutAesrxStat n := by
    unfold rOutAesUnlocks rOutAesrxStat
    omega
  refine ⟨?_, ?_, fun h => State.raise_hears_of h rfl rfl ?_⟩
  · exact (State.raise_bit ..).trans ((State.bit_count_ne 31 hne).trans (State.bit_setBit_same _ _ _ false (by decide)))
  · refine (State.raise_rd ..).trans ((State.rd_count ..).trans ((if_pos rfl).trans ?_))
    exact congrArg (satAdd · 1) (State.rd_setBit_other _ _ hne.symm)
  · exact (State.rd_count_other hf').trans (State.rd_setBit_other _ _ hf)

/-! ### The transmitter -/

/-- The transmitter waits for its place (R518). -/
def State.txStarted (s : State) : State :=
  ((s.setFld rOutAestxStat 28 4 1).setFld rOutAestxStat 24 4 0).setOut
    { s.out with tx := ⟨s.dhPlace (s.fld rOutAestxOffset 0 30), 0, [], 0#32, 0#32⟩ }

theorem State.aesTxStart_of_stopped (hu : s.unitLive 14 6 = true) (hst : s.txState = 0 ∨ s.txState = 3) : s.aesTxStart =
    if 7 ≤ s.fld rOutAestxRate 0 4 then (s.setFld rOutAestxStat 28 4 3).setFld rOutAestxStat 24 4 1 else s.txStarted :=
  if_neg (by obtain h | h := hst <;> simp [hu, h])

theorem State.txStat_holds {a b : Nat} (ha : a < 16) (hb : b < 16) :
    ((s.setFld rOutAestxStat 28 4 a).setFld rOutAestxStat 24 4 b).txState = a ∧
    ((s.setFld rOutAestxStat 28 4 a).setFld rOutAestxStat 24 4 b).fld rOutAestxStat 24 4 = b :=
  ⟨(State.fld_setFld_apart 24 4 b 28 4 (by decide)).trans ((State.fld_setFld_same _ _ _ _ _ (by decide)).trans (Nat.mod_eq_of_lt ha)),
    (State.fld_setFld_same _ _ _ _ _ (by decide)).trans (Nat.mod_eq_of_lt hb)⟩

/-- A block of silence: the last samples again, 192 frames, with an underrun told (R519). -/
def aesSilence (x : AesTx) : List Word := (List.range 192).flatMap fun _ => [x.last.1, x.last.2]

/-- The transmitter repeats its last samples from state `s0` of the memory. -/
def State.txSilent (s s0 : State) : State :=
  ((s0.setOut { s0.out with tx := { s.out.tx with sent := aesSilence s.out.tx } }).countN rOutAestxUnderrun 192).raise 0x10F 6

/-- A block taken from the ring is sent and marked with its number and time (R519). -/
def State.txTaken (s s0 : State) (stamp : Nat) (b : List Byte) : State :=
  let a := s.aesAddr rOutAestxCfg (s.fld rOutAestxHead 0 12 % s.aesBlocks rOutAestxRing)
  let words := (List.range 384).map (fun i => aesSlot (leAt b (0x40 + 4 * i) 4))
  let s2 := ((s0.memWrite (a + 0x10) (mintOfTu stamp).bytes).1.memWrite (a + 8) (leBytes 4 (s.out.tx.seq + 1))).1
  let s3 := s2.setOut { s2.out with tx :=
    { s.out.tx with seq := s.out.tx.seq + 1, sent := words, last := (words.getD 382 0#32, words.getD 383 0#32) } }
  (s3.setFld rOutAestxHead 0 12 ((s.fld rOutAestxHead 0 12 + 1) % s.aesBlocks rOutAestxRing)).raise 0x10E 6

/-- A transmitter that runs. -/
def State.txRuns (s : State) : State := s.setFld rOutAestxStat 28 4 2

theorem State.aesPreamble_of_idle {st : Nat} (h : s.txState = 0 ∨ s.txState = 3) : s.aesPreamble st = s :=
  if_pos (by obtain h | h := h <;> simp [h])

section
variable (hu : s.unitLive 14 6 = true) (hst : s.txState = 2)
include hu hst

theorem State.aesPreamble_of_empty (st : Nat) (h : s.fld rOutAestxHead 0 12 = s.fld rOutAestxTail 0 12) :
    s.aesPreamble st = s.txSilent s.txRuns := by
  have hf : (s.fld rOutAestxHead 0 12 != s.fld rOutAestxTail 0 12) = false := by rw [h]; exact bne_self_eq_false _
  simp [State.aesPreamble, hu, hst, hf, State.txSilent, State.txRuns, aesSilence]

/-- The block at HEAD of a ring that is not empty is read, and sent if it is one (R519). -/
theorem State.aesPreamble_of_block (st : Nat) (h : s.fld rOutAestxHead 0 12 ≠ s.fld rOutAestxTail 0 12) :
    s.aesPreamble st =
      let r := s.txRuns.memRead (s.aesAddr rOutAestxCfg (s.fld rOutAestxHead 0 12 % s.aesBlocks rOutAestxRing)) 2048
      if leAt r.2.2 0 4 = 0x4F494441 ∧ leAt r.2.2 4 1 = 1 ∧ leAt r.2.2 6 2 = 192 then s.txTaken r.1 st r.2.2 else s.txSilent r.1 := by
  have hf : (s.fld rOutAestxHead 0 12 != s.fld rOutAestxTail 0 12) = true := bne_iff_ne.mpr h
  have hg : ¬((!s.unitLive 14 6 || !(s.txState == 2 || (s.txState == 1 && decide (s.out.tx.at_ * tuPerNs ≤ st)))) = true) := by
    simp [hu, hst]
  simp only [State.aesPreamble, hf, if_neg hg, if_true, Bool.true_and, Bool.and_eq_true, beq_iff_eq, and_assoc]
  rfl

end

theorem State.txRuns_sameMem : s.sameMem s.txRuns := State.sameMem_wr (by decide) _

/-- The registers of the transmitter lie apart from those in which a read counts errors. -/
theorem head_apartOfErrors : apartOfErrors rOutAestxHead where
  inj sc h := by unfold rMemScInj rOutAestxHead; omega
  bursts sc h := by unfold rMemScCeBursts rOutAestxHead; omega
  symbols sc h := by unfold rMemScCeSymbols rOutAestxHead; omega
  ue sc h := by unfold rMemScUe rOutAestxHead; omega
  core := by unfold rOutAestxHead; omega

theorem State.txTaken_holds (s0 : State) (st : Nat) (b : List Byte) : (s.txTaken s0 st b).out.tx.seq = s.out.tx.seq + 1 ∧
    (s.txTaken s0 st b).out.tx.sent = (List.range 384).map (fun i => aesSlot (leAt b (0x40 + 4 * i) 4)) ∧
    (s.txTaken s0 st b).fld rOutAestxHead 0 12 = (s.fld rOutAestxHead 0 12 + 1) % s.aesBlocks rOutAestxRing % 4096 := by
  unfold State.txTaken
  extract_lets a words s2 o s3
  rw [State.raise_out, State.raise_fld, State.setFld_out, State.fld_setFld_same _ _ _ _ _ (by decide)]
  exact ⟨rfl, rfl, rfl⟩

theorem State.txSilent_holds (s0 : State) : (s.txSilent s0).out.tx.sent = aesSilence s.out.tx ∧
    (s.txSilent s0).out.tx.seq = s.out.tx.seq ∧ (s.txSilent s0).mem = s0.mem ∧
    (s.txSilent s0).fld rOutAestxHead 0 12 = s0.fld rOutAestxHead 0 12 ∧
    (s.txSilent s0).rd rOutAestxUnderrun = satAdd (s0.rd rOutAestxUnderrun) 192 := by
  have hh : (s.txSilent s0).rd rOutAestxHead = s0.rd rOutAestxHead :=
    (State.raise_rd ..).trans ((State.rd_countN_other _ (by decide)).trans rfl)
  have ho : (s.txSilent s0).out = { s0.out with tx := { s.out.tx with sent := aesSilence s.out.tx } } :=
    (State.raise_out ..).trans rfl
  exact ⟨by rw [ho], by rw [ho], (State.raise_mem ..).trans rfl, State.fld_of_rd hh,
    (State.raise_rd ..).trans ((State.rd_wr_same ..).trans rfl)⟩

theorem State.txSilent_runs_holds : (s.txSilent s.txRuns).out.tx.sent = aesSilence s.out.tx ∧
    (s.txSilent s.txRuns).mem = s.mem ∧ (s.txSilent s.txRuns).rd rOutAestxUnderrun = satAdd (s.rd rOutAestxUnderrun) 192 ∧
    (s.speaks 0x10F 6 = true → (s.txSilent s.txRuns).hears 0x10F 6 = true) := by
  obtain ⟨hsent, -, hmem, -, hcnt⟩ := State.txSilent_holds (s := s) s.txRuns
  refine ⟨hsent, hmem, hcnt.trans (congrArg (satAdd · 192) (State.rd_setFld_other _ _ _ (by decide))),
    fun h => State.raise_hears_of h rfl rfl ?_⟩
  exact (State.rd_countN_other _ (by decide)).trans (State.rd_setFld_other _ _ _ (by decide))

/-- Reading a block leaves HEAD where it is. -/
theorem State.txRuns_memRead_head (a k : Nat) : (s.txRuns.memRead a k).1.fld rOutAestxHead 0 12 = s.fld rOutAestxHead 0 12 :=
  State.fld_of_rd ((State.memRead_rd head_apartOfErrors a k).trans (State.rd_setFld_other _ _ _ (by decide)))

/-- What becomes of the block `b` that the transmitter read in state `s0`, by what it holds (R519). -/
def State.txBlock (s s0 : State) (st : Nat) (b : List Byte) : State :=
  if leAt b 0 4 = 0x4F494441 ∧ leAt b 4 1 = 1 ∧ leAt b 6 2 = 192 then s.txTaken s0 st b else s.txSilent s0

theorem State.txBlock_of_block {s0 : State} {st : Nat} {b : List Byte} (h : leAt b 0 4 = 0x4F494441 ∧ leAt b 4 1 = 1 ∧ leAt b 6 2 = 192) :
    s.txBlock s0 st b = s.txTaken s0 st b := if_pos h

theorem State.txBlock_of_other {s0 : State} {st : Nat} {b : List Byte} (h : ¬(leAt b 0 4 = 0x4F494441 ∧ leAt b 4 1 = 1 ∧ leAt b 6 2 = 192)) :
    s.txBlock s0 st b = s.txSilent s0 := if_neg h

theorem State.aesPreamble_of_peek (hu : s.unitLive 14 6 = true) (hst : s.txState = 2) (st : Nat)
    (h : s.fld rOutAestxHead 0 12 ≠ s.fld rOutAestxTail 0 12) : s.aesPreamble st =
      s.txBlock (s.txRuns.memRead (s.aesAddr rOutAestxCfg (s.fld rOutAestxHead 0 12 % s.aesBlocks rOutAestxRing)) 2048).1 st
        (s.peek (s.aesAddr rOutAestxCfg (s.fld rOutAestxHead 0 12 % s.aesBlocks rOutAestxRing)) 2048) := by
  refine (State.aesPreamble_of_block hu hst st h).trans ?_
  rw [← (State.txRuns_sameMem (s := s)).peek, State.peek]
  generalize s.txRuns.memRead _ 2048 = r
  by_cases hb : leAt r.2.2 0 4 = 0x4F494441 ∧ leAt r.2.2 4 1 = 1 ∧ leAt r.2.2 6 2 = 192
  · rw [State.txBlock_of_block hb, if_pos hb]
  · rw [State.txBlock_of_other hb, if_neg hb]

theorem State.txBlock_holds {s0 : State} (hs0 : s0.fld rOutAestxHead 0 12 = s.fld rOutAestxHead 0 12) (st : Nat) (b : List Byte) :
    if leAt b 0 4 = 0x4F494441 ∧ leAt b 4 1 = 1 ∧ leAt b 6 2 = 192 then
      (s.txBlock s0 st b).out.tx.seq = s.out.tx.seq + 1 ∧
      (s.txBlock s0 st b).out.tx.sent = (List.range 384).map (fun i => aesSlot (leAt b (0x40 + 4 * i) 4)) ∧
      (s.txBlock s0 st b).fld rOutAestxHead 0 12 = (s.fld rOutAestxHead 0 12 + 1) % s.aesBlocks rOutAestxRing % 4096
    else (s.txBlock s0 st b).out.tx.sent = aesSilence s.out.tx ∧ (s.txBlock s0 st b).out.tx.seq = s.out.tx.seq ∧
      (s.txBlock s0 st b).fld rOutAestxHead 0 12 = s.fld rOutAestxHead 0 12 := by
  by_cases h : leAt b 0 4 = 0x4F494441 ∧ leAt b 4 1 = 1 ∧ leAt b 6 2 = 192
  · rw [if_pos h, State.txBlock_of_block h]
    exact State.txTaken_holds ..
  · rw [if_neg h, State.txBlock_of_other h]
    obtain ⟨hsent, hseq, -, hhead, -⟩ := State.txSilent_holds (s := s) s0
    exact ⟨hsent, hseq, hhead.trans hs0⟩

/-! ### A write of TAIL -/

theorem State.aesTail_of_free {v : Word} (hu : s.unitLive 14 6 = true) (hlt : fget v 0 12 < s.aesBlocks rOutAestxRing)
    (h : (s.fld rOutAestxTail 0 12 + s.aesBlocks rOutAestxRing - s.fld rOutAestxHead 0 12 % s.aesBlocks rOutAestxRing) %
        s.aesBlocks rOutAestxRing + (fget v 0 12 + s.aesBlocks rOutAestxRing - s.fld rOutAestxTail 0 12 %
          s.aesBlocks rOutAestxRing) % s.aesBlocks rOutAestxRing < s.aesBlocks rOutAestxRing) :
    s.aesTail v = s.wr rOutAestxTail (BitVec.ofNat 32 (fget v 0 12)) :=
  (if_neg (by simp [hu])).trans (if_neg (not_or.mpr ⟨not_le.mpr hlt, not_le.mpr h⟩))

theorem State.aesTail_of_outside {v : Word} (hu : s.unitLive 14 6 = true) (h : s.aesBlocks rOutAestxRing ≤ fget v 0 12) :
    s.aesTail v = s.violation rOutAestxTail := (if_neg (by simp [hu])).trans (if_pos (.inl h))

theorem exec_of_reached_out {c : Instr} {u : State} (h : s.reaches 14 = true)
    (hc : exec c s = if !s.reaches 14 then .next s else .next u) : exec c s = .next u := hc.trans (if_neg (by simp [h]))

/-- What is stored of a block, and what waits behind it (R516, R517). -/
theorem State.aesStored_holds (n : Nat) (m : Mint) (l : List Nat) (fs : Word) (b : Bool) :
    let w := s.fld (rOutAesrxWrptr n) 0 12
    let a := s.aesAddr (rOutAesrxCfg n) w
    (s.aesStored n m l fs b).mem = (s.request 8 true a 2048
      (aesBlockBytes (s.fld (rOutAesrxStat n) 16 4) ((aesWords l).length / 2) ((s.aesRx n).seq + 1) (s.aesRx n).lost m fs
        (b.toNat + (decide (0 < (s.aesRx n).lost)).toNat * 4) ((aesWords l).take (2 * ((aesWords l).length / 2)))) false false).mem ∧
    (s.aesStored n m l fs b).aesRx n = ⟨none, 0, (s.aesRx n).seq + 1, (s.aesRx n).fifo ++ (List.range 32).map (fun i => a + 64 * i),
      (s.aesRx n).od⟩ := by
  intro w a
  unfold State.aesStored
  extract_lets k v bytes s1
  have hs1 : s1.mem = (s.request 8 true a 2048 bytes false false).mem := State.setFld_mem ..
  rw [State.setAesRx_aesRx, Nat.sub_self]
  exact ⟨(State.setAesRx_mem _).trans ((State.countN_mem ..).trans hs1), rfl⟩

/-- Settles O54. -/
theorem audioPorts : Obligations.AudioPorts := by
  refine ⟨fun s n st fs l hon hlock => .of_eq rfl (if_pos (by simp [hon, hlock])) rfl, fun s n st fs l h => ?_,
    fun s n st h => State.aesOpen_full_holds h, fun s n m l fs b hc he hlen => ?_, fun s n m l fs b hc he hl => ?_,
    fun s n m l fs b hc he hlen hl => ?_, fun s n h => ?_, fun s n h => ?_, fun s n r l hon hlock => ?_,
    fun s n r l hon hlock hc => ?_, fun s n b r l h => ?_, fun s hr hu hst hrate => ?_, fun s hr hu hst hrate => ?_,
    fun s hr hst hu => ?_, fun s st hu hst h => ?_, fun s st h hu hst hh hne => ?_, fun s st h => ?_,
    fun s v n h t hr hu hn hh ht hlt hfill => ?_, fun s v hr hu h => ?_⟩
  · exact .of_eq rfl (if_neg (by obtain h | h := h <;> simp [h])) rfl
  · have hk : (aesWords l).length / 2 = 192 := by
      rw [aesWords_length, List.length_take, hlen]
      decide
    rw [State.aesEnd_of_discard he hc, hk]
    exact State.aesLose_holds 192
  · have h := State.aesStored_holds (s := s) n m l fs b
    rw [aesWords_length] at h
    exact ⟨_, State.aesEnd_of_room he hc hl, h⟩
  · rw [State.aesEnd_of_overflow he hc hlen hl, aesWords_length]
  · have hod : ((s.syncAesOd n).aesRx n).od = true := by
      rw [State.syncAesOd_od, decide_eq_true h, Bool.true_or]
    have hod' : ((s.setAesRx n { s.aesRx n with fifo := s.aesWaits n, od := decide (2048 ≤ s.aesLevel n) ||
        ((s.aesRx n).od && decide (1024 ≤ s.aesLevel n)) }).aesRx n).od = true := by
      rw [State.setAesRx_aesRx, decide_eq_true h, Bool.true_or]
    exact ⟨hod, State.portOd_on n hod'⟩
  · have h1 : ¬ 2048 ≤ s.aesLevel n := by omega
    have h2 : ¬ 1024 ≤ s.aesLevel n := by omega
    rw [State.syncAesOd_od]
    simp [h1, h2]
  · exact .of_eq rfl ((if_neg (by simp [hon, hlock])).trans (if_pos rfl)) (State.aesLocked_holds n r.isLt)
  · refine .of_eq (t := s.aesLost n) rfl ((if_neg (by simp [hon, hlock])).trans ((if_neg (by simp)).trans ?_)) (State.aesLost_holds n)
    rw [State.aesUnlock_of_none hc]
    rfl
  · exact .of_eq rfl (if_pos (by simp [h])) rfl
  · obtain ⟨h1, h2⟩ := State.txStat_holds (s := s) (a := 1) (b := 0) (by decide) (by decide)
    exact .of_eq (t := s.txStarted) (exec_of_reached_out hr rfl)
      ((State.aesTxStart_of_stopped hu hst).trans (if_neg (by omega))) ⟨h1, h2, rfl, rfl, rfl⟩
  · obtain ⟨h1, h2⟩ := State.txStat_holds (s := s) (a := 3) (b := 1) (by decide) (by decide)
    exact .of_eq (exec_of_reached_out hr rfl) ((State.aesTxStart_of_stopped hu hst).trans (if_pos hrate)) ⟨h1, h2, rfl⟩
  · refine .of_eq (t := (s.setFld rOutAestxStat 28 4 0).setOut { s.out with tx := { s.out.tx with sent := [] } })
      (exec_of_reached_out hr rfl) ((if_pos hu).trans (if_pos hst)) ⟨?_, rfl⟩
    exact State.fld_setFld_same s _ _ _ _ (by decide)
  · exact .of_eq rfl (State.aesPreamble_of_empty hu hst st h) State.txSilent_runs_holds
  · subst hh
    exact .of_eq rfl (State.aesPreamble_of_peek hu hst st hne) (State.txBlock_holds (State.txRuns_memRead_head ..) st _)
  · exact .of_eq rfl (State.aesPreamble_of_idle h) rfl
  · subst hn hh ht
    exact .of_eq (exec_of_reached_out hr rfl) (State.aesTail_of_free hu hlt hfill) rfl
  · exact .of_eq (exec_of_reached_out hr rfl) (State.aesTail_of_outside hu h) rfl

end Sys2Proof.Machine
end

section
/-! PROOF. The Ethernet ports: link, frames received and sent, rings, and the cage's two-wire bus. -/

namespace Sys2Proof.Machine

open Sys2Proof

variable {s t : State} {m : Nat}

/-! ### Ports -/

@[simp] theorem State.setNport_nport (v : NetPort) : (s.setNport m v).nport m = v := Map.get_set_same ..

theorem State.nport_of_net (h : t.net = s.net) (k : Nat) : t.nport k = s.nport k := by rw [State.nport, h, State.nport]

/-- Three pins of one register, each set. -/
theorem State.bit_setBit_three {a i j k : Nat} (x y z : Bool) (hi : i < 32) (hj : j < 32) (hk : k < 32) (hij : i ≠ j) (hik : i ≠ k)
    (hjk : j ≠ k) : (((s.setBit a i x).setBit a j y).setBit a k z).bit a i = x ∧
      (((s.setBit a i x).setBit a j y).setBit a k z).bit a j = y ∧ (((s.setBit a i x).setBit a j y).setBit a k z).bit a k = z := by
  refine ⟨?_, ?_, State.bit_setBit_same _ _ _ _ hk⟩
  · rw [State.bit_setBit_apart _ _ _ hi hik.symm, State.bit_setBit_apart _ _ _ hi hij.symm, State.bit_setBit_same _ _ _ _ hi]
  · rw [State.bit_setBit_apart _ _ _ hj hjk.symm, State.bit_setBit_same _ _ _ _ hj]

/-- A unit is live by the variant, the image and its fence bit. -/
theorem State.unitLive_congr (c u : Nat) (hv : t.variant = s.variant) (hp : t.plane = s.plane)
    (hr : t.rd (rDevFenceU (2 * c + u / 32)) = s.rd (rDevFenceU (2 * c + u / 32))) : t.unitLive c u = s.unitLive c u := by
  simp [State.unitLive, State.enabled, State.fenced, State.bit, hv, hp, hr]

theorem net_fence (c u : Nat) (hc : c < 16) (hu : u < 64) : rNetPortStat m ≠ rDevFenceU (2 * c + u / 32) := by
  unfold rNetPortStat rDevFenceU
  omega

/-- Every condition of UP holds at port `m` (R479). -/
def State.upHolds (s : State) (m : Nat) : Bool :=
  s.bit (rNetPortCfg m) 31 && s.unitLive 13 (2 + m) && s.fld (rNetPortStat m) 0 5 == 0 && (s.nport m).blk &&
    (s.fld (rNetPortCfg m) 28 2 == 0 || (s.nport m).fecLock)

theorem State.syncUp_eq (m : Nat) : s.syncUp m = if s.upHolds m == s.bit (rNetPortStat m) 31 then s else
    (s.setBit (rNetPortStat m) 31 (s.upHolds m)).raise (0x0F4 + 6 * m) (2 + m) := rfl

theorem State.syncUp_bit (m : Nat) : (s.syncUp m).bit (rNetPortStat m) 31 = s.upHolds m := by
  rw [State.syncUp_eq]
  split
  next h => exact (beq_iff_eq.mp h).symm
  · exact (State.raise_bit ..).trans (State.bit_setBit_same _ _ _ _ (by decide))

/-- The link of a port as it now is: its locks in `v`, its faults and RX_LOS in STAT. -/
def State.linkPins (s : State) (m : Nat) (v : NetPort) (c d e : Bool) : State :=
  (((s.setNport m v).setBit (rNetPortStat m) 3 c).setBit (rNetPortStat m) 4 d).setBit (rNetPortStat m) 0 e

theorem State.linkPins_holds (m : Nat) (v : NetPort) (c d e : Bool) : (s.linkPins m v c d e).nport m = v ∧
    (s.linkPins m v c d e).bit (rNetPortStat m) 3 = c ∧ (s.linkPins m v c d e).bit (rNetPortStat m) 4 = d ∧
    (s.linkPins m v c d e).bit (rNetPortStat m) 0 = e :=
  ⟨(State.nport_of_net (s := s.setNport m v) rfl m).trans (State.setNport_nport v),
    State.bit_setBit_three c d e (by decide) (by decide) (by decide) (by decide) (by decide) (by decide)⟩

/-- The pins of a cage as they now are, a change of MOD_ABS or TX_FAULT told (R479). -/
def State.cagePins (s : State) (m : Nat) (a b c : Bool) : State :=
  let t := ((s.setBit (rNetPortStat m) 2 a).setBit (rNetPortStat m) 1 b).setBit (rNetPortStat m) 0 c
  if s.bit (rNetPortStat m) 2 != a || s.bit (rNetPortStat m) 1 != b then t.raise (0x0F9 + 6 * m) (2 + m) else t

theorem srcCluster_cage (m : Fin 2) : srcCluster (0x0F4 + 6 * m) < 16 ∧ srcCluster (0x0F9 + 6 * m) < 16 := by
  revert m
  decide

theorem State.cagePins_holds (m : Fin 2) (a b c : Bool) : (s.cagePins m a b c).bit (rNetPortStat m) 2 = a ∧
    (s.cagePins m a b c).bit (rNetPortStat m) 1 = b ∧ (s.cagePins m a b c).bit (rNetPortStat m) 0 = c ∧
    (s.bit (rNetPortStat m) 2 ≠ a → s.speaks (0x0F9 + 6 * m) (2 + m) = true →
      (s.cagePins m a b c).hears (0x0F9 + 6 * m) (2 + m) = true) := by
  obtain ⟨ha, hb, hc⟩ := State.bit_setBit_three (s := s) (a := rNetPortStat m) (i := 2) (j := 1) (k := 0) a b c (by decide)
    (by decide) (by decide) (by decide) (by decide) (by decide)
  have hbit (i : Nat) : (s.cagePins m a b c).bit (rNetPortStat m) i =
      (((s.setBit (rNetPortStat m) 2 a).setBit (rNetPortStat m) 1 b).setBit (rNetPortStat m) 0 c).bit (rNetPortStat m) i :=
    State.ite_keeps (g := fun t : State => t.bit (rNetPortStat m) i) (State.raise_bit ..) rfl
  refine ⟨(hbit 2).trans ha, (hbit 1).trans hb, (hbit 0).trans hc, fun hne hsp => ?_⟩
  obtain ⟨-, hlt⟩ := srcCluster_cage m
  have hf := net_fence (m := m) (srcCluster (0x0F9 + 6 * m)) (2 + m) hlt (by omega)
  rw [State.cagePins, if_pos (by simp [hne])]
  exact State.raise_hears_of hsp rfl rfl ((State.rd_setBit_other _ _ hf).trans ((State.rd_setBit_other _ _ hf).trans
    (State.rd_setBit_other _ _ hf)))

theorem State.netUp_of_bit (h : s.bit (rNetPortStat m) 31 = false) : s.netUp m = false := by
  rw [State.netUp, h, Bool.false_and]

theorem State.syncUp_of_up (m : Fin 2) (h : s.upHolds m = true) (h31 : s.bit (rNetPortStat m) 31 = false)
    (hu : s.unitLive 13 (2 + m) = true) : (s.syncUp m).netUp m = true ∧
      (s.speaks (0x0F4 + 6 * m) (2 + m) = true → (s.syncUp m).hears (0x0F4 + 6 * m) (2 + m) = true) := by
  have hfence (c : Nat) (hc : c < 16) : (s.setBit (rNetPortStat m) 31 true).rd (rDevFenceU (2 * c + (2 + m) / 32)) =
      s.rd (rDevFenceU (2 * c + (2 + m) / 32)) := State.rd_setBit_other _ _ (net_fence c _ hc (by omega))
  have hs : s.syncUp m = (s.setBit (rNetPortStat m) 31 true).raise (0x0F4 + 6 * m) (2 + m) := by
    rw [State.syncUp_eq, h, h31]
    rfl
  refine ⟨?_, fun hsp => ?_⟩
  · rw [State.netUp, State.syncUp_bit, h, Bool.true_and, hs]
    have hlive : ((s.setBit (rNetPortStat m) 31 true).raise (0x0F4 + 6 * m) (2 + m)).unitLive 13 (2 + m) = s.unitLive 13 (2 + m) :=
      State.unitLive_congr 13 _ (State.raise_variant ..) (State.raise_plane ..) ((State.raise_rd ..).trans (hfence 13 (by decide)))
    exact hlive.trans hu
  · rw [hs]
    obtain ⟨hlt, -⟩ := srcCluster_cage m
    exact State.raise_hears_of hsp rfl rfl (hfence _ hlt)

/-! ### Frames received -/

theorem State.ringNext_head (r : Nat) : (s.ringNext m r).ringHead m r = (s.ringHead m r + 1) % 4096 :=
  State.fld_setFld_same _ _ _ _ _ (by decide)

section
variable {f desc : List Byte} {st : Nat}

theorem State.frameReceive_of_deaf (h : s.netUp m = false ∨ s.serving = false) : s.frameReceive m f st desc = s :=
  if_pos (by obtain h | h := h <;> simp [h])

variable (hup : s.netUp m = true) (hserv : s.serving = true)
include hup hserv

theorem State.frameReceive_of_length (h : f.length < 64 ∨ 9600 < f.length) :
    s.frameReceive m f st desc = s.count (rNetRxLength m) := (if_neg (by simp [hup, hserv])).trans (if_pos h)

variable (h64 : 64 ≤ f.length) (h9600 : f.length ≤ 9600)
include h64 h9600

theorem State.frameReceive_of_fcs (h : crc32 (f.take (f.length - 4)) ≠ leNat (f.drop (f.length - 4))) :
    s.frameReceive m f st desc = s.count (rNetRxFcs m) :=
  (if_neg (by simp [hup, hserv])).trans ((if_neg (by omega)).trans (if_pos (bne_iff_ne.mpr h)))

variable (hfcs : crc32 (f.take (f.length - 4)) = leNat (f.drop (f.length - 4)))
include hfcs

theorem State.frameReceive_of_control (h : beNat (slice f 12 2) = 0x8808) :
    s.frameReceive m f st desc = s.count (rNetRxCtrl m) :=
  (if_neg (by simp [hup, hserv])).trans ((if_neg (by omega)).trans ((if_neg (by simp [hfcs])).trans (if_pos h)))

variable (hctl : beNat (slice f 12 2) ≠ 0x8808) (hmac : s.macPass m f = true)
include hctl hmac

theorem State.frameReceive_of_no_buffer (h : s.ringReady m (if isPtp f then 3 else 4) = false) :
    s.frameReceive m f st desc = (s.count (rNetRxFrames m)).rxNoBuf m :=
  (if_neg (by simp [hup, hserv])).trans ((if_neg (by omega)).trans ((if_neg (by simp [hfcs])).trans ((if_neg hctl).trans
    ((if_neg (by simp [hmac])).trans (if_pos (by rw [h]; rfl))))))

/-- What a frame of `n` bytes brings to host memory and to its ring `r` (R481, R484). -/
def State.frameStored (s : State) (m r n : Nat) (f desc : List Byte) (at_ : Mint) : State :=
  (((((s.count (rNetRxFrames m)).netDma (leAt desc 0 8) (f.take (leAt desc 8 2))).netDma (s.ringDesc m r + 0x10)
    (leBytes 2 n ++ leBytes 1 (decide (leAt desc 8 2 < n)).toNat)).netDma (s.ringDesc m r + 0x18) at_.short).netDma
    (s.ringDesc m r + 0x1F) [1#8]).ringNext m r

theorem State.frameReceive_of_ptp (hp : isPtp f = true) (hr : s.ringReady m 3 = true) (hh : s.hostUp = true) :
    s.frameReceive m f st desc =
      (s.frameStored m 3 f.length f desc (adjusted st (sext 16 (s.fld (rNetPortTsadj m) 0 16)))).rxRaise m true := by
  refine (if_neg (by simp [hup, hserv])).trans ((if_neg (by omega)).trans ((if_neg (by simp [hfcs])).trans ((if_neg hctl).trans
    ((if_neg (by simp [hmac])).trans ?_))))
  rw [hp]
  exact if_neg (by simp [hr, hh])

end

theorem State.frameStored_holds {r n : Nat} (hr : rNetRxFrames m ≠ ringBase m r + 12) (f desc : List Byte) (at_ : Mint) :
    (s.frameStored m r n f desc at_).net.host = s.net.host ++ [(leAt desc 0 8, f.take (leAt desc 8 2)),
      (s.ringDesc m r + 0x10, leBytes 2 n ++ leBytes 1 (decide (leAt desc 8 2 < n)).toNat),
      (s.ringDesc m r + 0x18, at_.short), (s.ringDesc m r + 0x1F, [1#8])] ∧
    (s.frameStored m r n f desc at_).ringHead m r = (s.ringHead m r + 1) % 4096 ∧
    (s.frameStored m r n f desc at_).rd (rNetRxFrames m) = satAdd (s.rd (rNetRxFrames m)) 1 := by
  refine ⟨?_, (State.ringNext_head r).trans ?_, (State.rd_setFld_other _ _ _ hr.symm).trans ?_⟩
  · simp only [State.frameStored, State.ringNext, State.netDma, State.setFld_net, State.setNet_net, State.count_net,
      List.append_assoc, List.cons_append, List.nil_append]
  · simp only [State.ringHead, State.netDma, State.setNet_fld, State.fld_count_ne 0 12 hr]
  · simp only [State.netDma, State.setNet_rd]
    exact State.rd_wr_same ..

/-! ### Rings -/

theorem fget_low12 (v : Word) : fget (v &&& 0xFFF#32) 0 12 = fget v 0 12 := by
  refine Nat.eq_of_testBit_eq fun i => ?_
  rw [fget_testBit, fget_testBit, BitVec.getLsbD_and]
  by_cases hi : i < 12
  · have : ∀ i < 12, (0xFFF#32).getLsbD (0 + i) = true := by decide
    rw [this i hi, Bool.and_true]
  · rw [decide_eq_false hi, Bool.false_and, Bool.false_and]

theorem State.ringTailWrite_of_free {r : Nat} {v : Word} (hu : s.unitLive 13 (2 + m) = true)
    (h : (fget v 0 12 + 4096 - s.ringHead m r) % 4096 < s.ringSize m r) :
    s.ringTailWrite m r v = s.wr (ringBase m r + 16) (v &&& 0xFFF#32) := (if_neg (by simp [hu])).trans (if_neg (not_le.mpr h))

theorem State.ringTailWrite_of_full {r : Nat} {v : Word} (hu : s.unitLive 13 (2 + m) = true)
    (h : s.ringSize m r ≤ (fget v 0 12 + 4096 - s.ringHead m r) % 4096) :
    s.ringTailWrite m r v = s.violation (ringBase m r + 16) := (if_neg (by simp [hu])).trans (if_pos h)

/-! ### Frames sent -/

theorem State.netSend_holds (q : Nat) (f : List Byte) : ((s.netSend m q f).nport m).sent = (s.nport m).sent ++ [(q, withFcs f)] ∧
    (s.netSend m q f).rd (rNetTxFrames m) = satAdd (s.rd (rNetTxFrames m)) 1 := by
  refine ⟨?_, State.rd_wr_same ..⟩
  rw [State.netSend, State.nport_of_net (State.count_net ..), State.setNport_nport]

/-- A descriptor that has completed, before TX_DONE (R482, R483). -/
def State.descDone (s : State) (m q : Nat) (stamp : List Byte) (status : Nat) : State :=
  ((s.netDma (s.ringDesc m q + 0x18) stamp).netDma (s.ringDesc m q + 0x1E) (leBytes 1 status ++ [1#8])).ringNext m q

theorem State.txDone_eq (q : Nat) (desc stamp : List Byte) (status : Nat) : s.txDone m q desc stamp status =
    if (leAt desc 0x0A 2).testBit 2 then (s.descDone m q stamp status).raise (0x0F5 + 6 * m) (2 + m)
    else s.descDone m q stamp status := rfl

theorem State.descDone_holds (q : Nat) (stamp : List Byte) (status : Nat) :
    (s.descDone m q stamp status).net.host = s.net.host ++ [(s.ringDesc m q + 0x18, stamp),
      (s.ringDesc m q + 0x1E, leBytes 1 status ++ [1#8])] ∧
    (s.descDone m q stamp status).ringHead m q = (s.ringHead m q + 1) % 4096 := by
  refine ⟨?_, State.ringNext_head q⟩
  simp only [State.descDone, State.ringNext, State.netDma, State.setFld_net, State.setNet_net, List.append_assoc,
    List.cons_append, List.nil_append]

theorem State.txDone_holds (q : Nat) (desc stamp : List Byte) (status : Nat) :
    (s.txDone m q desc stamp status).net.host = s.net.host ++ [(s.ringDesc m q + 0x18, stamp),
      (s.ringDesc m q + 0x1E, leBytes 1 status ++ [1#8])] ∧
    (s.txDone m q desc stamp status).ringHead m q = (s.ringHead m q + 1) % 4096 := by
  obtain ⟨hhost, hhead⟩ := State.descDone_holds (s := s) (m := m) q stamp status
  rw [State.txDone_eq]
  split
  · exact ⟨(congrArg Net.host (State.raise_net ..)).trans hhost, (State.raise_fld ..).trans hhead⟩
  · exact ⟨hhost, hhead⟩

section
variable {q : Nat} {desc f : List Byte} {st : Nat} {rtp : Bool} (hu : s.unitLive 13 (2 + m) = true) (hr : s.ringReady m q = true)
  (hh : s.hostUp = true) (hserv : s.serving = true)
include hu hr hh hserv

theorem State.frameTransmit_of_length (h : leAt desc 8 2 < 14 ∨ 9596 < leAt desc 8 2) :
    s.frameTransmit m q desc f st rtp = s.txDone m q desc (List.replicate 6 0#8) 1 :=
  (if_neg (by simp [hu, hr, hh, hserv])).trans (if_pos h)

variable (h14 : 14 ≤ leAt desc 8 2) (h9596 : leAt desc 8 2 ≤ 9596)
include h14 h9596

theorem State.frameTransmit_of_down (h : s.netUp m = false) :
    s.frameTransmit m q desc f st rtp = (s.count (rNetTxLinkdown m)).txDone m q desc (List.replicate 6 0#8) 2 :=
  (if_neg (by simp [hu, hr, hh, hserv])).trans ((if_neg (by omega)).trans (if_pos (by simp [h])))

theorem State.frameTransmit_of_plain (h : s.netUp m = true) (hbusy : s.txBusy m q rtp = false) (hlen : f.length = leAt desc 8 2)
    (hfl : leAt desc 0x0A 2 = 0) :
    s.frameTransmit m q desc f st rtp = (s.netSend m q f).txDone m q desc (List.replicate 6 0#8) 0 := by
  refine (if_neg (by simp [hu, hr, hh, hserv])).trans ((if_neg (by omega)).trans ((if_neg (by simp [h])).trans
    ((if_neg (by simp [hbusy])).trans ((if_neg (by omega)).trans ?_))))
  rw [hfl, ← hlen, List.take_length]
  simp only [Nat.zero_testBit]
  rfl

end

/-! ### The two-wire bus -/

theorem State.modI2c_of_free {v : Word} (hu : s.unitLive 13 (2 + m) = true) (h : s.fld (rNetPortModi2c m) 28 2 ≠ 1)
    (h31 : v.getLsbD 31 = true) : s.modI2c m v = s.wr (rNetPortModi2c m) (fset (v &&& 0x407FFFFF#32) 28 2 1) := by
  refine (if_neg (by simp [hu])).trans ((if_neg h).trans ?_)
  rw [h31]
  rfl

theorem State.modI2c_of_busy {v : Word} (hu : s.unitLive 13 (2 + m) = true) (h : s.fld (rNetPortModi2c m) 28 2 = 1) :
    s.modI2c m v = s.violation (rNetPortModi2c m) := (if_neg (by simp [hu])).trans (if_pos h)

theorem i2cRequest_holds (v : Word) : fget (fset (v &&& 0x407FFFFF#32) 28 2 1) 28 2 = 1 ∧
    fget (fset (v &&& 0x407FFFFF#32) 28 2 1) 0 23 = fget v 0 23 ∧
    (fset (v &&& 0x407FFFFF#32) 28 2 1).getLsbD 30 = v.getLsbD 30 := by
  refine ⟨fget_fset_same _ _ _ _ (by decide), (fget_fset_disjoint _ _ _ _ _ _ (by decide)).trans ?_, ?_⟩
  · refine Nat.eq_of_testBit_eq fun i => ?_
    rw [fget_testBit, fget_testBit, BitVec.getLsbD_and]
    by_cases hi : i < 23
    · have : ∀ i < 23, (0x407FFFFF#32).getLsbD (0 + i) = true := by decide
      rw [this i hi, Bool.and_true]
    · rw [decide_eq_false hi, Bool.false_and, Bool.false_and]
  · rw [fset_getLsbD _ _ _ _ _ (by decide), if_neg (by decide), BitVec.getLsbD_and]
    exact Bool.and_true _

/-- A byte that the module acknowledged or not, and what a read brought (R487). -/
def State.i2cDone (s : State) (m : Nat) (ack : Bool) (b : Byte) : State :=
  let t := s.setFld (rNetPortModi2c m) 28 2 (if ack then 2 else 3)
  if ack && s.bit (rNetPortModi2c m) 30 then t.setFld (rNetPortModi2c m) 0 8 b.toNat else t

theorem State.i2cDone_holds (m : Nat) (ack : Bool) (b : Byte) :
    (s.i2cDone m ack b).fld (rNetPortModi2c m) 28 2 = (if ack then 2 else 3) ∧
    (s.i2cDone m ack b).fld (rNetPortModi2c m) 0 8 =
      if ack && s.bit (rNetPortModi2c m) 30 then b.toNat else s.fld (rNetPortModi2c m) 0 8 := by
  have hst : (s.setFld (rNetPortModi2c m) 28 2 (if ack then 2 else 3)).fld (rNetPortModi2c m) 28 2 = if ack then 2 else 3 := by
    rw [State.fld_setFld_same _ _ _ _ _ (by decide)]
    cases ack <;> rfl
  unfold State.i2cDone
  extract_lets t
  split
  · refine ⟨(State.fld_setFld_apart _ _ _ _ _ (by decide)).trans hst, ?_⟩
    exact (State.fld_setFld_same _ _ _ _ _ (by decide)).trans (Nat.mod_eq_of_lt b.isLt)
  · exact ⟨hst, State.fld_setFld_apart _ _ _ _ _ (by decide)⟩

theorem exec_of_reached_net {c : Instr} {u : State} (h : s.reaches 13 = true)
    (hc : exec c s = if !s.reaches 13 then .next s else .next u) : exec c s = .next u := hc.trans (if_neg (by simp [h]))

/-- Settles O52. -/
theorem ethernet : Obligations.Ethernet := by
  refine ⟨fun s m a b c d e => ?_, fun s m a b c => ?_, fun s m hen hu hpins hblk hfec h31 => ?_, fun s m h => ?_,
    fun s m f desc st h => ?_, fun s m f desc st hup hs h => ?_, fun s m f desc st hup hs h64 h96 h => ?_,
    fun s m f desc st hup hs h64 h96 hfcs h => ?_, fun s m f desc st hup hs h64 h96 hfcs hctl hmac h => ?_,
    fun s m f desc st hup hs h64 h96 hfcs hctl hmac hp hr hh => ?_, fun s m r v hr hu h => ?_, fun s m r v hr hu h => ?_,
    fun s m q desc f st hu hr hh hs h => ?_, fun s m q desc f st hu hr hh hs h14 h96 h => ?_,
    fun s m desc f st hr hh hs h14 h96 h hlen hfl => ?_, fun s m q f => State.netSend_holds q f,
    fun s m q desc stamp st => State.txDone_holds .., fun s m v hr hu h h31 => ?_, fun s m v hr hu h => ?_,
    fun s m ack b h => ?_, fun s m ack b h => ?_⟩
  · obtain ⟨hn, hc, hd, he⟩ := State.linkPins_holds (s := s) m { s.nport m with blk := a, fecLock := b } c d e
    exact .of_eq (t := s.linkPins m { s.nport m with blk := a, fecLock := b } c d e) rfl rfl
      ⟨congrArg NetPort.blk hn, congrArg NetPort.fecLock hn, hc, hd, he⟩
  · exact .of_eq (t := s.cagePins m a b c) rfl rfl (State.cagePins_holds m a b c)
  · refine State.syncUp_of_up m ?_ h31 hu
    simp [State.upHolds, hen, hu, hpins, hblk, hfec]
  · refine State.netUp_of_bit ((State.syncUp_bit m).trans ?_)
    obtain h | h := h <;> simp [State.upHolds, h]
  · exact .of_eq rfl (State.frameReceive_of_deaf h) rfl
  · exact .of_eq rfl (State.frameReceive_of_length hup hs h) rfl
  · exact .of_eq rfl (State.frameReceive_of_fcs hup hs h64 h96 h) rfl
  · exact .of_eq rfl (State.frameReceive_of_control hup hs h64 h96 hfcs h) rfl
  · exact .of_eq rfl (State.frameReceive_of_no_buffer hup hs h64 h96 hfcs hctl hmac h) rfl
  · refine .of_eq rfl (State.frameReceive_of_ptp hup hs h64 h96 hfcs hctl hmac hp hr hh) (State.frameStored_holds ?_ ..)
    change rNetRxFrames m ≠ rNetPortRxBaseLo m 0 + 12
    unfold rNetRxFrames rNetPortRxBaseLo
    omega
  · refine .of_eq (exec_of_reached_net hr rfl) (State.ringTailWrite_of_free hu h) ⟨?_, rfl, fun a ha => State.rd_wr_other _ _ ha.symm⟩
    exact (State.fld_wr_same ..).trans (fget_low12 v)
  · exact .of_eq (exec_of_reached_net hr rfl) (State.ringTailWrite_of_full hu h) rfl
  · exact .of_eq rfl (State.frameTransmit_of_length hu hr hh hs h) rfl
  · exact .of_eq rfl (State.frameTransmit_of_down hu hr hh hs h14 h96 h) rfl
  · obtain ⟨-, hu⟩ := Bool.and_eq_true_iff.mp h
    exact .of_eq rfl (State.frameTransmit_of_plain hu hr hh hs h14 h96 h rfl hlen hfl) rfl
  · obtain ⟨hst, hlo, h30⟩ := i2cRequest_holds v
    exact .of_eq (exec_of_reached_net hr rfl) (State.modI2c_of_free hu h h31)
      ⟨(State.fld_wr_same ..).trans hst, (State.fld_wr_same ..).trans hlo, (State.bit_wr_same ..).trans h30⟩
  · exact .of_eq (exec_of_reached_net hr rfl) (State.modI2c_of_busy hu h) rfl
  · exact .of_eq rfl (if_neg (by simp [h])) (State.i2cDone_holds m ack b)
  · exact .of_eq rfl (if_pos (by simp [h])) rfl

end Sys2Proof.Machine
end

section
/-! PROOF. The display heads: start and stop, the eDP sequences, frame starts, underrun and Overdraft. -/

namespace Sys2Proof.Machine

open Sys2Proof

variable {s t : State} {d : Nat}

/-! ### Heads -/

@[simp] theorem State.setDh_dh (v : DHead) : (s.setDh d v).dh d = v := Map.get_set_same ..

theorem State.dh_of_out (h : t.out = s.out) (k : Nat) : t.dh k = s.dh k := by rw [State.dh, h, State.dh]

theorem State.dhState_of_rd (h : t.rd (rOutDhStat d) = s.rd (rOutDhStat d)) : t.dhState d = s.dhState d := State.fld_of_rd h

theorem State.setDhState_dhState {n : Nat} (hn : n < 8) : (s.setDhState d n).dhState d = n :=
  (State.fld_setFld_same _ _ _ _ _ (by decide)).trans (Nat.mod_eq_of_lt (by omega))

/-- A source that has been heard is heard behind a further one. -/
theorem State.raise_heard {x u y v : Nat} (h : s.hears x u = true) : (s.raise y v).hears x u = true := by
  unfold State.raise State.raiseLin
  split
  · exact h
  · extract_lets e m s1
    have h1 : ((s.chansOf y).foldl (fun t n => t.toChannel n 0#64) s1).aud = s1.aud :=
      State.forEach_keeps State.aud (f := fun t n => t.toChannel n 0#64)
        (fun t n => State.blur_aud (State.toChannel_blur t n 0#64 32768 rfl) rfl) _ _
    have hq : s1.hears x u = true := by
      refine (List.any_append ..).trans ?_
      rw [show s.aud.q.any _ = true from h, Bool.true_or]
    rw [State.hears, h1]
    exact hq

theorem dh_fence (d : Fin 3) (x : Nat) (hx : 0x100 ≤ x) (hx' : x < 0x110) :
    rOutDhStat d ≠ rDevFenceU (2 * srcCluster x + (1 + d) / 32) := by
  have hc : srcCluster x = 14 := by
    unfold srcCluster
    rw [if_neg (by omega), if_neg (by omega), if_neg (by omega), if_neg (by omega), if_neg (by omega), if_neg (by omega),
      if_neg (by omega), if_neg (by omega), if_neg (by omega), if_neg (by omega), if_neg (by omega), if_pos (by omega)]
  rw [hc]
  unfold rOutDhStat rDevFenceU
  omega

/-! ### Errors -/

/-- STATE and ERR of a head in error, before its events (R507). -/
def State.dhFailed (s : State) (d err : Nat) : State := (s.setDhState d 7).setFld (rOutDhStat d) 24 4 err

theorem State.dhFailed_holds (err : Nat) : (s.dhFailed d err).dhState d = 7 ∧
    (s.dhFailed d err).fld (rOutDhStat d) 24 4 = err % 16 ∧ (s.dhFailed d err).out = s.out :=
  ⟨(State.fld_setFld_apart _ _ _ _ _ (by decide)).trans (State.setDhState_dhState (by decide)),
    State.fld_setFld_same _ _ _ _ _ (by decide), rfl⟩

theorem State.dhError_eq (err : Nat) : s.dhError d err =
    (if err = 2 ∨ err = 3 ∨ err = 4 then (s.dhFailed d err).raise 0x107 (1 + d) else s.dhFailed d err).raise 0x109 (1 + d) := rfl

theorem State.dhError_holds (err : Nat) : (s.dhError d err).dhState d = 7 ∧
    (s.dhError d err).fld (rOutDhStat d) 24 4 = err % 16 ∧ (s.dhError d err).out = s.out := by
  obtain ⟨hst, herr, hout⟩ := State.dhFailed_holds (s := s) (d := d) err
  have hrd : (s.dhError d err).rd (rOutDhStat d) = (s.dhFailed d err).rd (rOutDhStat d) := by
    rw [State.dhError_eq, State.raise_rd]
    exact State.ite_keeps (g := fun t : State => t.rd (rOutDhStat d)) (State.raise_rd ..) rfl
  refine ⟨(State.dhState_of_rd hrd).trans hst, (State.fld_of_rd hrd).trans herr, ?_⟩
  rw [State.dhError_eq, State.raise_out]
  exact State.ite_keeps (g := State.out) ((State.raise_out ..).trans hout) hout

/-- An error of the eDP link is heard as its own event and as the head's (R507). -/
theorem State.dhError_hears (d : Fin 3) {err : Nat} (he : err = 2 ∨ err = 3 ∨ err = 4) :
    (s.speaks 0x107 (1 + d) = true → (s.dhError d err).hears 0x107 (1 + d) = true) ∧
    (s.speaks 0x109 (1 + d) = true → (s.dhError d err).hears 0x109 (1 + d) = true) := by
  have hrd (x : Nat) (hx : 0x100 ≤ x) (hx' : x < 0x110) : (s.dhFailed d err).rd (rDevFenceU (2 * srcCluster x + (1 + d) / 32)) =
      s.rd (rDevFenceU (2 * srcCluster x + (1 + d) / 32)) :=
    (State.rd_setFld_other _ _ _ (dh_fence d x hx hx')).trans (State.rd_setFld_other _ _ _ (dh_fence d x hx hx'))
  rw [State.dhError_eq, if_pos he]
  refine ⟨fun h => State.raise_heard (State.raise_hears_of h rfl rfl (hrd _ (by decide) (by decide))), fun h => ?_⟩
  refine State.raise_hears_of h (State.raise_variant ..) (State.raise_plane ..) ((State.raise_rd ..).trans ?_)
  exact hrd _ (by decide) (by decide)

/-! ### Layers let go -/

theorem State.setDh_pics (p : List (Option LayerPic)) (h : t.dh d = s.dh d) :
    (t.setDh d { t.dh d with pics := p }).dh d = { s.dh d with pics := p } := by rw [State.setDh_dh, h]

theorem State.layerDrop_dh (l : Nat) : ∃ p, (s.layerDrop d l).dh d = { s.dh d with pics := p } := by
  unfold State.layerDrop
  extract_lets r s1 s2
  have h1 : s1.out = s.out := List.foldlRecOn (motive := fun t : State => t.out = s.out) _ _ rfl fun t ht p _ => by
    refine Eq.trans ?_ ht
    split <;> rfl
  have h2 : s2.out = s1.out := State.forEach_keeps State.out (fun t k => by split <;> rfl) _ _
  exact ⟨_, State.setDh_pics (t := s2.wr (rOutDhLHeld d l) 0#32) _ (State.dh_of_out (h2.trans h1) d)⟩

theorem State.layerDrop_rd (l : Nat) {r : Nat} (h : rOutDhLHeld d l ≠ r) : (s.layerDrop d l).rd r = s.rd r := by
  unfold State.layerDrop
  extract_lets k s1 s2
  have h1 : s1.regs = s.regs := List.foldlRecOn (motive := fun t : State => t.regs = s.regs) _ _ rfl fun t ht p _ => by
    refine Eq.trans ?_ ht
    split <;> rfl
  have h2 : s2.regs = s1.regs := State.forEach_keeps State.regs (fun t k => by split <;> rfl) _ _
  rw [State.setDh_rd, State.rd_wr_other _ _ h, State.rd_of_regs (h2.trans h1)]

theorem State.dhDrop_dh (d : Nat) : ∃ p, (s.dhDrop d).dh d = { s.dh d with pics := p } := by
  have h : ∃ p, (s.forEach (List.range 4) fun t l => t.layerDrop d l).dh d = { s.dh d with pics := p } := by
    refine List.foldlRecOn (motive := fun t : State => ∃ p, t.dh d = { s.dh d with pics := p }) _ _ ⟨_, rfl⟩ fun t ht l _ => ?_
    obtain ⟨p, hp⟩ := ht
    obtain ⟨q, hq⟩ := State.layerDrop_dh (s := t) (d := d) l
    exact ⟨q, by rw [hq, hp]⟩
  unfold State.dhDrop
  generalize (s.forEach (List.range 4) fun t l => t.layerDrop d l) = s1 at h
  exact h

theorem State.dhDrop_rd {r : Nat} (h : ∀ l < 4, rOutDhLHeld d l ≠ r) : (s.dhDrop d).rd r = s.rd r := by
  have h1 : (s.forEach (List.range 4) fun t l => t.layerDrop d l).rd r = s.rd r :=
    List.foldlRecOn (motive := fun t : State => t.rd r = s.rd r) _ _ rfl fun t ht l hl =>
      (State.layerDrop_rd l (h l (List.mem_range.mp hl))).trans ht
  unfold State.dhDrop
  generalize (s.forEach (List.range 4) fun t l => t.layerDrop d l) = s1 at h1
  exact h1

theorem dhStat_ne_held (d l : Nat) : rOutDhLHeld d l ≠ rOutDhStat d := by
  unfold rOutDhLHeld rOutDhStat
  omega

/-! ### The port's Overdraft -/

/-! Registers below the memory's units or above them. -/

theorem State.refreshAll_rd {r : Nat} (h : r < 0x400000 ∨ 0x800000 ≤ r) : s.refreshAll.rd r = s.rd r := by
  refine List.foldlRecOn (motive := fun t : State => t.rd r = s.rd r) _ _ rfl fun t ht n hn => ?_
  have hlt : n < 16 := by
    obtain ⟨hn, -⟩ := List.mem_filter.mp hn
    simp only [State.scs, idxs, List.mem_filter, List.mem_range] at hn
    exact hn.1
  refine (State.forEach_keeps (fun t : State => t.rd r) (f := fun t b => t.refreshBank n b) (fun t b => ?_) _ t).trans ht
  refine State.refreshBank_keepsRegs n b r ?_
  simp only [List.mem_cons, List.not_mem_nil, or_false, not_or]
  unfold rMemScStat rMemScForcedRef
  omega

theorem State.serve_rd {r : Nat} (h : r < 0x400000 ∨ 0x800000 ≤ r) : s.serve.rd r = s.rd r := by
  refine State.serve_keepsRegs r fun hm => ?_
  obtain ⟨q, hq, rfl⟩ := List.mem_map.mp hm
  have := List.mem_range.mp hq
  unfold rMemCoinStat at h
  omega

theorem State.setOd_rd {r : Nat} (h : r < 0x400000 ∨ 0x800000 ≤ r) (p : Nat) (on : Bool) : (s.setOd p on).rd r = s.rd r := by
  have hm : rMemStat ≠ r := by
    unfold rMemStat
    omega
  unfold State.setOd
  extract_lets od starve m s1 s2
  have h2 : s2.rd r = s.rd r := (State.rd_setBit_other _ _ hm).trans rfl
  refine State.ite_keeps (g := fun t : State => t.rd r) ?_ h2
  exact (State.refreshAll_rd h).trans ((State.serve_rd h).trans ((State.rd_setBit_other _ _ hm).trans h2))

theorem State.portOd_rd {r : Nat} (h : r < 0x400000 ∨ 0x800000 ≤ r) : s.portOd.rd r = s.rd r :=
  State.ite_keeps (g := fun t : State => t.rd r) rfl (State.setOd_rd h ..)

theorem State.syncDisplayOd_rd {r : Nat} (h : r < 0x400000 ∨ 0x800000 ≤ r) (hr : rOutDh0Ovd 0 ≠ r) : s.syncDisplayOd.rd r = s.rd r := by
  refine State.ite_keeps (g := fun t : State => t.rd r) ?_ (State.ite_keeps (g := fun t : State => t.rd r) ?_ rfl)
  · exact (State.raise_rd ..).trans ((State.portOd_rd h).trans (State.rd_setBit_other _ _ hr))
  · exact (State.portOd_rd h).trans (State.rd_setBit_other _ _ hr)

theorem State.syncDisplayOd_out : s.syncDisplayOd.out = s.out := State.blur_out (State.syncDisplayOd_blur s 16826384 rfl) rfl

theorem State.setOd_overdraft (p : Nat) (hp : p < 16) : (s.setOd p true).overdraft = true := by
  have hbit : (s.mem.od ||| BitVec.ofNat 16 (2 ^ p)).getLsbD p = true := by
    rw [BitVec.getLsbD_or, BitVec.getLsbD_ofNat, Nat.testBit_two_pow_self]
    simp [hp]
  have hne : s.mem.od ||| BitVec.ofNat 16 (2 ^ p) ≠ 0 := fun h => by
    rw [h] at hbit
    simp at hbit
  unfold State.setOd
  extract_lets od starve m s1 s2
  have hod : od ≠ 0 := fun h => hne ((if_pos rfl).symm.trans h)
  rw [if_neg fun hc => hod hc.1]
  exact (State.bit_setBit_same s1 _ _ _ (by decide)).trans (bne_iff_ne.mpr hod)

/-- A head's Overdraft is the port's. -/
theorem State.portOd_of_head (h : s.bit (rOutDh0Ovd 0) 31 = true) :
    s.portOd = if s.mem.od.getLsbD 8 == true then s else s.setOd 8 true := by
  rw [State.portOd, h, Bool.true_or, Bool.true_or]

/-- A FIFO below OD_LOW brings the port's Overdraft (R499). -/
theorem State.syncDisplayOd_of_low (h : s.bit (rOutDh0Ovd 0) 31 = false)
    (hlow : ∃ f ∈ s.out.fifo, f.2 < s.fld (rOutDhOd (f.1 / 4)) 16 16) :
    s.syncDisplayOd = ((s.setBit (rOutDh0Ovd 0) 31 true).portOd).raise 0x108 1 := by
  have hany : (s.out.fifo.any fun f => decide (f.2 < s.fld (rOutDhOd (f.1 / 4)) 16 16)) = true := by
    simpa using hlow
  exact if_pos (by rw [h, hany]; rfl)

/-- What an Overdraft that the display port raises brings (R421, R499). -/
theorem State.raisedOd_holds : ((s.setBit (rOutDh0Ovd 0) 31 true).portOd).bit (rOutDh0Ovd 0) 31 = true ∧
    ((s.setBit (rOutDh0Ovd 0) 31 true).portOd).mem.od.getLsbD 8 = true ∧
    (s.mem.od.getLsbD 8 = false → ((s.setBit (rOutDh0Ovd 0) 31 true).portOd).overdraft = true) := by
  have hb : (s.setBit (rOutDh0Ovd 0) 31 true).bit (rOutDh0Ovd 0) 31 = true := State.bit_setBit_same _ _ _ _ (by decide)
  refine ⟨(State.bit_of_rd (State.portOd_rd (.inr (by decide)))).trans hb, ?_, fun h8 => ?_⟩
  · rw [State.portOd_of_head hb]
    split
    next h8 => exact beq_iff_eq.mp h8
    · exact State.setOd_on 8 (by decide)
  · rw [State.portOd_of_head hb, if_neg (by rw [State.setBit_mem, h8]; decide)]
    exact State.setOd_overdraft 8 (by decide)

/-! ### Start -/

section
variable (hl : s.unitLive 14 (1 + d) = true)
include hl

theorem State.dhStart_of_running (hen : s.bit (rOutDhCfg d) 31 = true) (h0 : s.dhState d ≠ 0) (h7 : s.dhState d ≠ 7) :
    s.dhStart d = s.violation (rOutDhCmd d) := (if_neg (by simp [hl, hen])).trans (if_pos (by simp [h0, h7]))

variable (hen : s.bit (rOutDhCfg d) 31 = true) (hst : s.dhState d = 0 ∨ s.dhState d = 7)
include hen hst

theorem State.dhStart_of_error (hc : s.dhCheck d ≠ 0) : s.dhStart d = s.dhError d (s.dhCheck d) := by
  refine (if_neg (by simp [hl, hen])).trans ((if_neg (by obtain h | h := hst <;> simp [h])).trans ?_)
  generalize s.dhCheck d = e at hc
  cases e with
  | zero => exact absurd rfl hc
  | succ e => rfl

/-- A head that starts (R501, R504). -/
def State.dhStarted (s : State) (d : Nat) (v : DHead) : State :=
  (((s.setDhState d 1).setFld (rOutDhStat d) 24 4 0).setFld (rOutDhStat d) 0 4 0).setDh d v

theorem State.dhStart_of_checked (hc : s.dhCheck d = 0) : s.dhStart d =
    if d = 0 then s.dhStarted d { DHead.init with vcc := decide (d = 0) }
    else ((s.dhStarted d { DHead.init with vcc := decide (d = 0) }).wr (rOutDhPid d) (s.sdiPid d)).dhReady d := by
  refine (if_neg (by simp [hl, hen])).trans ((if_neg (by obtain h | h := hst <;> simp [h])).trans ?_)
  rw [hc]
  rfl

end

theorem State.dhStarted_holds (v : DHead) : (s.dhStarted d v).dhState d = 1 ∧ (s.dhStarted d v).fld (rOutDhStat d) 24 4 = 0 ∧
    (s.dhStarted d v).dh d = v ∧ (s.dhStarted d v).mem = s.mem := by
  refine ⟨?_, ?_, State.setDh_dh v, rfl⟩
  · rw [State.dhState, State.dhStarted, State.setDh_fld, State.fld_setFld_apart 0 4 0 28 4 (by decide),
      State.fld_setFld_apart 24 4 0 28 4 (by decide)]
    exact State.setDhState_dhState (by decide)
  · rw [State.dhStarted, State.setDh_fld, State.fld_setFld_apart 0 4 0 24 4 (by decide),
      State.fld_setFld_same _ _ _ _ _ (by decide), Nat.zero_mod]

theorem State.dhReady_of_alone (h : s.dhMember d = false) :
    s.dhReady d = s.setDh d { s.dh d with ready := true, at_ := some (s.dhPlace (s.fld (rOutDhOffset d) 0 30)) } := by
  rw [State.dhReady, State.groupRuns, h]
  rfl

/-! ### Stop -/

/-- A head that the STOP sequence takes, before its video ends (R501). -/
def State.dhStopping (s : State) (d err : Nat) : State :=
  let s1 := ((s.setDh d { s.dh d with bl := false, err := err, left := 2, fails := 0 }).setDhState d 6).setBit (rOutDhStat d) 17 false
  if d = 0 ∧ 3 ≤ s.dhState d ∧ s.dhState d ≤ 5 then s1.raise 0x106 1 else s1

theorem State.dhStopSeq_eq (err : Nat) : s.dhStopSeq d err =
    if s.dhState d = 1 ∨ s.dhState d = 4 ∨ s.dhState d = 5 then (s.dhStopping d err).dhVideoOff d else s.dhStopping d err := rfl

theorem State.dhStopping_holds (err : Nat) : (s.dhStopping d err).dhState d = 6 ∧
    (s.dhStopping d err).dh d = { s.dh d with bl := false, err := err, left := 2, fails := 0 } ∧ (s.dhStopping d err).mem = s.mem := by
  have hst (t : State) : ((t.setDhState d 6).setBit (rOutDhStat d) 17 false).dhState d = 6 :=
    (State.fld_setBit_apart _ _ _ _ (by decide)).trans (State.setDhState_dhState (by decide))
  refine ⟨?_, ?_, ?_⟩
  · exact State.ite_keeps (g := fun t : State => t.dhState d) ((State.raise_fld ..).trans (hst _)) (hst _)
  · exact State.ite_keeps (g := fun t : State => t.dh d) ((State.dh_of_out (State.raise_out ..) d).trans (State.setDh_dh _))
      (State.setDh_dh _)
  · exact State.ite_keeps (g := State.mem) ((State.raise_mem ..).trans rfl) rfl

/-- A head without a link. -/
def State.dhDark (s : State) (d : Nat) : State := s.setDh d { s.dh d with link := false, ready := false, at_ := none }

theorem State.dhDark_dh (s : State) (d : Nat) : (s.dhDark d).dh d = { s.dh d with link := false, ready := false, at_ := none } :=
  State.setDh_dh _

theorem State.dhVideoOff_eq (d : Nat) : s.dhVideoOff d =
    if d = 0 then ((s.dhDrop d).syncDisplayOd).dhDark d else (((s.dhDrop d).syncDisplayOd).dhDark d).setDhState d 0 := rfl

/-- The end of video of the eDP head: its link is off, all else of the head stays (R501). -/
theorem State.dhVideoOff_zero : (s.dhVideoOff 0).dhState 0 = s.dhState 0 ∧
    ∃ p, (s.dhVideoOff 0).dh 0 = { s.dh 0 with pics := p, link := false, ready := false, at_ := none } := by
  obtain ⟨p, hp⟩ := State.dhDrop_dh (s := s) 0
  have hdh : ((s.dhDrop 0).syncDisplayOd).dh 0 = { s.dh 0 with pics := p } := (State.dh_of_out State.syncDisplayOd_out 0).trans hp
  rw [State.dhVideoOff_eq, if_pos rfl]
  refine ⟨State.dhState_of_rd ?_, p, by rw [State.dhDark_dh, hdh]⟩
  exact (State.syncDisplayOd_rd (.inr (by decide)) (by decide)).trans (State.dhDrop_rd fun l _ => dhStat_ne_held 0 l)

/-! ### Commit -/

/-- A commit that waits for the next frame start (R498). -/
def State.dhUpdated (s : State) (d : Nat) : State :=
  (s.setBit (rOutDhStat d) 16 true).setDh d { s.dh d with update := true }

theorem State.dhCommit_of_idle (hl : s.unitLive 14 (1 + d) = true) (hp : s.dhPending d = false) (h : s.dhState d = 0) :
    s.dhCommit d = s.dhApply d := (if_neg (by simp [hl, hp])).trans (if_pos h)

theorem State.dhCommit_of_running (hl : s.unitLive 14 (1 + d) = true) (hp : s.dhPending d = false) (h : s.dhState d = 2) :
    s.dhCommit d = s.dhUpdated d := by
  refine (if_neg (by simp [hl, hp])).trans ((if_neg (by omega)).trans (if_neg ?_))
  rintro ⟨rfl, h4⟩
  omega

/-! ### Frame starts -/

section
variable (hl : s.unitLive 14 (1 + d) = true)
include hl

theorem State.dhFrame_of_stopped {ack : Bool} (hst : s.dhState d = 6) (hr : (s.dh d).ready = true) (hleft : (s.dh d).left = 0) :
    s.dhFrame d ack = s.dhVideoOff d :=
  (if_neg (by simp [hl])).trans ((if_neg (by omega)).trans ((if_pos hst).trans ((if_neg (by simp [hr])).trans (if_pos hleft))))

/-- A head whose first frame begins (R493). -/
def State.dhFirst (s : State) (d : Nat) : State := (s.setDhState d 2).setDh d { s.dh d with link := true, at_ := none }

theorem State.dhFrame_of_first {ack : Bool} (hst : s.dhState d = 1) (hr : (s.dh d).ready = true) (hat : (s.dh d).at_ = none) :
    s.dhFrame d ack = (((s.dhFirst d).dhVideo d).count (rOutFrames d)).raise (0x100 + d) (1 + d) := by
  refine (if_neg (by simp [hl])).trans ((if_pos hst).trans (if_pos ?_))
  rw [hr, hat]
  rfl

theorem State.dhFrame_of_running {ack : Bool} (hd : d ≠ 0) (hst : s.dhState d = 2) :
    s.dhFrame d ack = ((s.dhVideo d).count (rOutFrames d)).raise (0x100 + d) (1 + d) := by
  refine (if_neg (by simp [hl])).trans ((if_neg (by omega)).trans ((if_neg (by omega)).trans ((if_pos (.inl hst)).trans
    ((if_neg fun h => hd h.1).trans ?_))))
  rw [if_neg hd]

end

theorem State.dhFrame_of_idle {ack : Bool} (h : s.dhState d = 0 ∨ s.dhState d = 7 ∨ s.unitLive 14 (1 + d) = false) :
    s.dhFrame d ack = s := by
  by_cases hl : s.unitLive 14 (1 + d) = true
  · have hst : s.dhState d = 0 ∨ s.dhState d = 7 := by
      obtain h | h | h := h
      · exact .inl h
      · exact .inr h
      · exact absurd (hl.symm.trans h) (by decide)
    exact (if_neg (by simp [hl])).trans ((if_neg (by omega)).trans ((if_neg (by omega)).trans ((if_neg (by omega)).trans
      ((if_neg (by omega)).trans (if_neg (by omega))))))
  · exact if_pos (by simp [hl])

/-! ### Underrun and the level of a FIFO -/

/-- A layer that is blanked for the rest of its frame (R499). -/
def State.dhBlanked (s : State) (d l : Nat) : State :=
  let t := (s.setBit (rOutDhStat d) l true).count (rOutDhLUnderrun d l)
  t.setOut { t.out with fifo := t.out.fifo.filter (fun f => f.1 != 4 * d + l) }

/-- The first underrun of a frame is told. -/
def State.dhUnderTold (s : State) (d : Nat) : State := (s.setDh d { s.dh d with under := true }).raise 0x105 (1 + d)

theorem State.dhUnderrun_of_first {l : Nat} (hf : s.fetching d l = true) (hu : (s.dh d).under = false) :
    s.dhUnderrun d l = ((s.dhBlanked d l).dhUnderTold d).syncDisplayOd := by
  have hu' : ((s.dhBlanked d l).dh d).under = false := hu
  refine (if_neg (by simp [hf])).trans (congrArg State.syncDisplayOd ?_)
  exact if_neg (Bool.eq_false_iff.mp hu')

/-- The FIFOs of the fetching layers. -/
def State.setFifo (s : State) (m : Map Nat) : State := s.setOut { s.out with fifo := m }

theorem State.dhFifo_of_level {l n : Nat} (hf : s.fetching d l = true) : s.dhFifo d l n false =
    (s.setFifo (Map.put (s.out.fifo.filter fun f => f.1 != 4 * d + l) (4 * d + l) n)).syncDisplayOd := if_pos hf

theorem State.dhFifo_of_whole {l n : Nat} (hf : s.fetching d l = true) : s.dhFifo d l n true =
    (s.setFifo (s.out.fifo.filter fun f => f.1 != 4 * d + l)).syncDisplayOd := if_pos hf

theorem Map.get_put_filtered (m : Map Nat) (k n : Nat) : Map.get (fun _ => 0) (Map.put (m.filter fun f => f.1 != k) k n) k = n := by
  rw [Map.get_put _ _ _ _ _ fun p hp => ?_, if_pos rfl]
  obtain ⟨-, hp⟩ := List.mem_filter.mp hp
  exact bne_iff_ne.mp hp

/-! ### What the eDP sequences bring -/

theorem State.linkTrained_of_start (hst : s.dhState 0 = 1) (hh : (s.dh 0).hpd = true) (hr : (s.dh 0).ready = false) (ok : Bool) :
    s.linkTrained ok = if ok then s.dhReady 0 else (s.setDh 0 { s.dh 0 with link := false }).dhError 0 3 := if_pos ⟨hst, hh, hr⟩

/-- The eDP head IDLE, or in the error that stopped it (R501). -/
def State.dhEnd (s : State) (e : Nat) : State :=
  match e with
  | 0 => (s.setDh 0 DHead.init).setDhState 0 0
  | e => (s.setDh 0 DHead.init).dhError 0 e

theorem State.dhEnd_holds (e : Nat) : ((s.dhEnd e).dh 0).vcc = false ∧ (s.dhEnd e).dhState 0 = (if e = 0 then 0 else 7) ∧
    (e = 4 → (s.dhEnd e).fld (rOutDhStat 0) 24 4 = 4) := by
  have hdh (t : State) (h : t.out = (s.setDh 0 DHead.init).out) : (t.dh 0).vcc = false := by
    rw [State.dh_of_out h, State.setDh_dh]
    rfl
  cases e with
  | zero => exact ⟨hdh _ rfl, State.setDhState_dhState (by decide), fun h => absurd h (by decide)⟩
  | succ e =>
    obtain ⟨hst, herr, hout⟩ := State.dhError_holds (s := s.setDh 0 DHead.init) (d := 0) (e + 1)
    exact ⟨hdh _ hout, hst, fun h => herr.trans (by rw [h])⟩

/-- HPD_TIMEOUT while the head starts (R501). -/
theorem State.hpdTimeout_holds : let t := (s.setDh 0 { s.dh 0 with vcc := false }).dhError 0 2
    t.dhState 0 = 7 ∧ t.fld (rOutDhStat 0) 24 4 = 2 ∧ (t.dh 0).vcc = false ∧
    (s.speaks 0x107 1 = true → t.hears 0x107 1 = true) ∧ (s.speaks 0x109 1 = true → t.hears 0x109 1 = true) := by
  obtain ⟨hst, herr, hout⟩ := State.dhError_holds (s := s.setDh 0 { s.dh 0 with vcc := false }) (d := 0) 2
  obtain ⟨h7, h9⟩ := State.dhError_hears (s := s.setDh 0 { s.dh 0 with vcc := false }) 0 (.inl rfl)
  refine ⟨hst, herr, ?_, h7, h9⟩
  rw [State.dh_of_out hout, State.setDh_dh]

/-- A link that does not train (R502). -/
theorem State.untrained_holds : let t := (s.setDh 0 { s.dh 0 with link := false }).dhError 0 3
    t.dhState 0 = 7 ∧ t.fld (rOutDhStat 0) 24 4 = 3 ∧ (t.dh 0).link = false := by
  obtain ⟨hst, herr, hout⟩ := State.dhError_holds (s := s.setDh 0 { s.dh 0 with link := false }) (d := 0) 3
  refine ⟨hst, herr, ?_⟩
  rw [State.dh_of_out hout, State.setDh_dh]

/-- What the STOP sequence leaves of the eDP head, its video off or not yet (R501). -/
theorem State.dhStopSeq_zero (err : Nat) : (s.dhStopSeq 0 err).dhState 0 = 6 ∧ ((s.dhStopSeq 0 err).dh 0).bl = false ∧
    ((s.dhStopSeq 0 err).dh 0).err = err ∧ ((s.dhStopSeq 0 err).dh 0).left = 2 ∧ ((s.dhStopSeq 0 err).dh 0).hpd = (s.dh 0).hpd := by
  obtain ⟨hst, hdh, -⟩ := State.dhStopping_holds (s := s) (d := 0) err
  obtain ⟨hst', p, hp⟩ := State.dhVideoOff_zero (s := s.dhStopping 0 err)
  rw [State.dhStopSeq_eq]
  split
  · rw [hp, hdh]
    exact ⟨hst'.trans hst, rfl, rfl, rfl, rfl⟩
  · rw [hdh]
    exact ⟨hst, rfl, rfl, rfl, rfl⟩

/-- With no video sent the link of the eDP head goes off at once (R501). -/
theorem State.dhStopSeq_dark (err : Nat) (h : s.dhState 0 = 4 ∨ s.dhState 0 = 5) :
    ((s.dhStopSeq 0 err).dh 0).link = false ∧ ((s.dhStopSeq 0 err).dh 0).ready = false := by
  obtain ⟨-, p, hp⟩ := State.dhVideoOff_zero (s := s.dhStopping 0 err)
  rw [State.dhStopSeq_eq, if_pos (.inr h), hp]
  exact ⟨rfl, rfl⟩

theorem State.dhStop_of_running (hl : s.unitLive 14 (1 + d) = true) (h : 1 ≤ s.dhState d) (h' : s.dhState d ≤ 5) :
    s.dhStop d = s.dhStopSeq d 0 := if_neg (by simp [hl]; omega)

theorem State.dhStop_of_idle (h : s.dhState d = 0 ∨ 6 ≤ s.dhState d) : s.dhStop d = s :=
  if_pos (by obtain h | h := h <;> simp [h])

theorem State.dhFirst_holds : (s.dhFirst d).dhState d = 2 ∧ (s.dhFirst d).dh d = { s.dh d with link := true, at_ := none } ∧
    (s.dhFirst d).mem = s.mem := by
  refine ⟨?_, State.setDh_dh _, rfl⟩
  rw [State.dhFirst, State.dhState, State.setDh_fld]
  exact State.setDhState_dhState (by decide)

theorem State.dhUpdated_holds (h : s.dhState d = 2) : (s.dhUpdated d).dhPending d = true ∧
    (s.dhUpdated d).dh d = { s.dh d with update := true } ∧ (s.dhUpdated d).dhState d = 2 ∧ (s.dhUpdated d).shadow = s.shadow ∧
    ∀ a, a ≠ rOutDhStat d → (s.dhUpdated d).rd a = s.rd a := by
  refine ⟨?_, State.setDh_dh _, ?_, rfl, fun a ha => ?_⟩
  · exact State.bit_setBit_same s _ _ true (by decide)
  · rw [State.dhUpdated, State.dhState, State.setDh_fld]
    exact (State.fld_setBit_apart _ _ _ _ (by decide)).trans h
  · rw [State.dhUpdated, State.setDh_rd]
    exact State.rd_setBit_other _ _ ha.symm

/-- A layer's underrun, blanked and told (R499). -/
theorem State.blanked_holds (d : Fin 3) (l : Fin 4) : let t := (s.dhBlanked d l).dhUnderTold d
    t.bit (rOutDhStat d) l = true ∧ t.rd (rOutDhLUnderrun d l) = satAdd (s.rd (rOutDhLUnderrun d l)) 1 ∧
    (t.dh d).under = true ∧ (s.speaks 0x105 (1 + d) = true → t.hears 0x105 (1 + d) = true) := by
  have hne : rOutDhLUnderrun d l ≠ rOutDhStat d := by
    unfold rOutDhLUnderrun rOutDhStat
    omega
  have hf := dh_fence d 0x105 (by decide) (by decide)
  have hf' : rOutDhLUnderrun d l ≠ rDevFenceU (2 * srcCluster 0x105 + (1 + d) / 32) := by
    unfold rOutDhLUnderrun rDevFenceU srcCluster
    simp only [Nat.reduceLT, if_false, if_true]
    omega
  have hrd (r : Nat) : ((s.dhBlanked d l).setDh d { (s.dhBlanked d l).dh d with under := true }).rd r =
      ((s.setBit (rOutDhStat d) l true).count (rOutDhLUnderrun d l)).rd r := rfl
  refine ⟨?_, ?_, ?_, fun h => State.raise_hears_of h rfl rfl ((hrd _).trans ?_)⟩
  · refine (State.raise_bit ..).trans ((State.bit_of_rd (hrd _)).trans ((State.bit_count_ne _ hne).trans ?_))
    exact State.bit_setBit_same _ _ _ _ (by omega)
  · refine (State.raise_rd ..).trans ((hrd _).trans ((State.rd_wr_same ..).trans ?_))
    exact congrArg (satAdd · 1) (State.rd_setBit_other _ _ hne.symm)
  · rw [State.dhUnderTold, State.dh_of_out (State.raise_out ..), State.setDh_dh]
  · exact (State.rd_count_other hf').trans (State.rd_setBit_other _ _ hf)

/-- Settles O53. -/
theorem displayHeads : Obligations.DisplayHeads := by
  refine ⟨fun s d hr hl hen h0 h7 => ?_, fun s d e hr hl hen hst hc he => ?_, fun s hr hl hen hst hc => ?_,
    fun s d hr hl hen hst hc hd => ?_, fun s d h => by rw [State.dhReady_of_alone h, State.setDh_dh], fun s d hr hl hst => ?_,
    fun s hr hl hst => ?_, fun s d hst => ?_, fun s d hr hl hp hst => ?_, fun s d hr hl hp hst => ?_,
    fun s d hl hst hr h0 => ?_, fun s d ack h => ?_, fun s d hl hst hr hat => ?_, fun s d hd hl hst => ?_,
    fun s hst hv hh => ?_, fun s hst hh => ?_, fun s hst hh hr => ⟨?_, ?_⟩, fun s h2 h5 => ?_, fun s h2 h5 => ⟨?_, ?_⟩,
    fun s hst hk hr => ?_, fun s hst hv => ?_, fun s d l hf hu => ?_, fun s d l n hf => ?_, fun s d l n hf => ?_,
    fun s d l n hf => ⟨?_, ?_⟩, fun s h hlow => ?_⟩
  · exact .of_eq (exec_of_reached_out hr rfl) (State.dhStart_of_running hl hen h0 h7) rfl
  · subst hc
    exact .of_eq (exec_of_reached_out hr rfl) (State.dhStart_of_error hl hen hst he) rfl
  · exact .of_eq (exec_of_reached_out hr rfl) ((State.dhStart_of_checked hl hen (.inl hst) hc).trans (if_pos rfl))
      (State.dhStarted_holds _)
  · have hst' := State.dhStart_of_checked hl hen (.inl hst) hc
    rw [if_neg hd, decide_eq_false hd] at hst'
    obtain ⟨h1, -, hdh, -⟩ := State.dhStarted_holds (s := s) (d := d) { DHead.init with vcc := false }
    have hne : rOutDhPid d ≠ rOutDhStat d := by
      unfold rOutDhPid rOutDhStat
      omega
    refine .of_eq (exec_of_reached_out hr rfl) hst' ⟨(State.fld_wr_ne _ _ _ hne).trans h1, State.rd_wr_same .., ?_⟩
    exact (State.dh_of_out (State.wr_out ..) d).trans hdh
  · obtain ⟨h6, hdh, hmem⟩ := State.dhStopping_holds (s := s) (d := d) 0
    refine .of_eq (exec_of_reached_out hr rfl) ((State.dhStop_of_running hl (by omega) (by omega)).trans (if_neg (by omega)))
      ⟨h6, ?_, ?_, ?_, hmem⟩
    · exact congrArg DHead.bl hdh
    · exact congrArg DHead.left hdh
    · exact congrArg DHead.err hdh
  · obtain ⟨h6, hbl, herr, -⟩ := State.dhStopSeq_zero (s := s) 0
    obtain ⟨hlink, hready⟩ := State.dhStopSeq_dark (s := s) 0 hst
    exact .of_eq (exec_of_reached_out hr rfl) (State.dhStop_of_running (d := 0) hl (by omega) (by omega))
      ⟨h6, hbl, hlink, hready, herr⟩
  · have hx : exec (.displayStop d) s = if !s.reaches 14 then .next s else .next (s.dhStop d) := rfl
    rw [State.dhStop_of_idle hst, ite_self] at hx
    exact .of_eq hx rfl rfl
  · exact .of_eq (exec_of_reached_out hr rfl) (State.dhCommit_of_idle hl hp hst) rfl
  · exact .of_eq (exec_of_reached_out hr rfl) (State.dhCommit_of_running hl hp hst) (State.dhUpdated_holds hst)
  · exact .of_eq rfl (State.dhFrame_of_stopped hl hst hr h0) rfl
  · exact .of_eq rfl (State.dhFrame_of_idle h) rfl
  · exact .of_eq (t := s.dhFirst d) rfl (State.dhFrame_of_first hl hst hr hat) State.dhFirst_holds
  · exact .of_eq rfl (State.dhFrame_of_running hl hd hst) rfl
  · exact .of_eq rfl (if_pos (by simp [hst, hv, hh])) rfl
  · exact .of_eq rfl (if_pos (by simp [hst, hh])) State.hpdTimeout_holds
  · exact .of_eq rfl ((State.linkTrained_of_start hst hh hr true).trans (if_pos rfl)) rfl
  · exact .of_eq rfl ((State.linkTrained_of_start hst hh hr false).trans (if_neg (by decide))) State.untrained_holds
  · obtain ⟨h6, -, herr, hleft, hhpd⟩ := State.dhStopSeq_zero (s := s.setDh 0 { s.dh 0 with hpd := false }) 4
    rw [State.setDh_dh] at hhpd
    exact .of_eq rfl (if_pos ⟨h2, h5⟩) ⟨h6, herr, hhpd, hleft⟩
  · exact .of_eq rfl (if_pos ⟨h2, h5, rfl⟩) rfl
  · exact .of_eq rfl (if_neg (by simp)) rfl
  · exact .of_eq rfl (if_pos (by simp [hst, hk, hr])) rfl
  · exact .of_eq (t := s.dhEnd (s.dh 0).err) rfl (if_pos (by simp [hst, hv])) (State.dhEnd_holds _)
  · exact .of_eq rfl (State.dhUnderrun_of_first hf hu) (State.blanked_holds d l)
  · exact .of_eq (t := s.setFifo _) rfl (State.dhFifo_of_level hf) ⟨Map.get_put_filtered .., rfl, rfl⟩
  · exact .of_eq (t := s.setFifo _) rfl (State.dhFifo_of_whole hf) ⟨rfl, rfl, rfl⟩
  · exact .of_eq rfl (if_pos (by simp [hf])) rfl
  · exact .of_eq rfl (if_neg (by simp [hf])) rfl
  · obtain ⟨hb, h8, hod⟩ := State.raisedOd_holds (s := s)
    rw [State.syncDisplayOd_of_low h hlow]
    refine ⟨(State.raise_bit ..).trans hb, (congrArg (fun m : Mem => m.od.getLsbD 8) (State.raise_mem ..)).trans h8,
      fun h => (State.raise_bit ..).trans (hod h), fun h => State.raise_hears_of h ?_ ?_ ?_⟩
    · exact (State.blur_variant (State.portOd_blur (s.setBit (rOutDh0Ovd 0) 31 true) 16826384 rfl) rfl).trans rfl
    · exact (State.blur_plane (State.portOd_blur (s.setBit (rOutDh0Ovd 0) 31 true) 16826384 rfl) rfl).trans rfl
    · exact (State.portOd_rd (.inl (by decide))).trans (State.rd_setBit_other _ _ (by decide))

end Sys2Proof.Machine
end

section
/-! PROOF. Firmware: download, the Firmware Commits and the end of a verification. -/

namespace Sys2Proof.Machine

open Sys2Proof

variable {s t : State} {c : NCmd} {cid : BitVec 16}

/-! ### Outstanding commands -/

/-- A mark on a command is found where the command was. -/
theorem State.modNcmd_ncmd {q : Nat} {f : NCmd → NCmd} (hf : ∀ c, (f c).q = c.q ∧ (f c).cid = c.cid) (h : s.ncmd q cid = some c) :
    (s.modNcmd q cid f).ncmd q cid = some (f c) := by
  have hhst : (s.modNcmd q cid f).hst.cmds = s.hst.cmds.map fun c => if c.q = q ∧ c.cid = cid then f c else c := rfl
  have hkey (d : NCmd) : ((if d.q = q ∧ d.cid = cid then f d else d).q == q && (if d.q = q ∧ d.cid = cid then f d else d).cid == cid) =
      (d.q == q && d.cid == cid) := by
    obtain ⟨hq, hc⟩ := hf d
    split
    · rw [hq, hc]
    · rfl
  have hc : c.q = q ∧ c.cid = cid := by simpa using List.find?_some h
  have hsel : ((fun d : NCmd => d.q == q && d.cid == cid) ∘ fun c => if c.q = q ∧ c.cid = cid then f c else c) =
      fun d => d.q == q && d.cid == cid := funext hkey
  rw [State.ncmd, hhst, List.find?_map, hsel, show s.hst.cmds.find? (fun d => d.q == q && d.cid == cid) = some c from h,
    Option.map_some, if_pos hc]

theorem State.completeOk_cid (h : s.ncmd 0 cid = some c) (t : State) : t.completeOk 0 c.cid = t.completeOk 0 cid := by
  rw [State.cid_of_ncmd h]

/-! ### Download (R459) -/

/-- The command is the first download that waits. -/
def State.firstDownload (s : State) (c : NCmd) : Prop :=
  ∀ d, s.hst.cmds.find? (fun d => d.q == 0 && d.op == 0x11 && d.st == 0) = some d → d.cid = c.cid

theorem State.firstDownload_any (h : s.firstDownload c) :
    ((s.hst.cmds.find? fun d => d.q == 0 && d.op == 0x11 && d.st == 0).any fun d => d.cid != c.cid) = false := by
  unfold State.firstDownload at h
  cases hd : s.hst.cmds.find? (fun d => d.q == 0 && d.op == 0x11 && d.st == 0) with
  | none => rfl
  | some d => simp [h d hd]

/-- A piece of an image in the inactive slot, with the pieces that the slot then holds (R459). -/
def State.pieceStored (s : State) (n ofs : Nat) (b : List Byte) (dl : List (Nat × Nat)) : State :=
  let t : State := { s with flash := putBytes s.flash (slotBase n + ofs) b }
  (t.setHst { t.hst with dl := dl }).setFr n []

theorem State.download_eq : s.download c =
    if s.flashUsed || (s.hst.cmds.find? fun d => d.q == 0 && d.op == 0x11 && d.st == 0).any fun d => d.cid != c.cid then s
    else if slotSize < c.dw 11 * 4 + (c.dw 10 + 1) * 4 ∨ 2 ^ 20 < (c.dw 10 + 1) * 4 then s.finish 0 c.cid stField 0
    else if c.dw 11 * 4 ≠ 0 ∧ s.hst.dl.any (fun p => decide (p.1 < c.dw 11 * 4 + (c.dw 10 + 1) * 4) &&
        decide (c.dw 11 * 4 < p.1 + p.2)) = true then s.finish 0 c.cid stOverlap 0
    else ((if c.dw 11 * 4 = 0 then s.eraseSlot s.inactive else s).pieceStored s.inactive (c.dw 11 * 4) (c.bring ((c.dw 10 + 1) * 4))
      (if c.dw 11 * 4 = 0 then [(0, (c.dw 10 + 1) * 4)] else s.hst.dl ++ [(c.dw 11 * 4, (c.dw 10 + 1) * 4)])).completeOk 0 c.cid :=
  rfl

theorem State.download_of_waiting (h : s.flashUsed = true ∨ ∃ d, d.cid ≠ c.cid ∧
    s.hst.cmds.find? (fun d => d.q == 0 && d.op == 0x11 && d.st == 0) = some d) : s.download c = s := by
  refine if_pos ?_
  obtain h | ⟨d, hd, hf⟩ := h
  · rw [h, Bool.true_or]
  · simp [hf, hd]

section
variable (hu : s.flashUsed = false) (hfirst : s.firstDownload c)
include hu hfirst

theorem State.download_of_large (h : slotSize < c.dw 11 * 4 + (c.dw 10 + 1) * 4) : s.download c = s.finish 0 c.cid stField 0 := by
  rw [State.download_eq, State.firstDownload_any hfirst, hu, if_neg (by decide), if_pos (.inl h)]

theorem State.download_of_next (h0 : c.dw 11 ≠ 0) (hfit : c.dw 11 * 4 + (c.dw 10 + 1) * 4 ≤ slotSize)
    (hmax : (c.dw 10 + 1) * 4 ≤ 2 ^ 20)
    (hdl : ∀ p ∈ s.hst.dl, p.1 + p.2 ≤ c.dw 11 * 4 ∨ c.dw 11 * 4 + (c.dw 10 + 1) * 4 ≤ p.1) :
    s.download c = (s.pieceStored s.inactive (c.dw 11 * 4) (c.bring ((c.dw 10 + 1) * 4))
      (s.hst.dl ++ [(c.dw 11 * 4, (c.dw 10 + 1) * 4)])).completeOk 0 c.cid := by
  have hne : c.dw 11 * 4 ≠ 0 := by omega
  have hfree : ¬(s.hst.dl.any (fun p => decide (p.1 < c.dw 11 * 4 + (c.dw 10 + 1) * 4) && decide (c.dw 11 * 4 < p.1 + p.2)) = true) := by
    rw [List.any_eq_true]
    rintro ⟨p, hp, hover⟩
    obtain ⟨h1, h2⟩ := Bool.and_eq_true_iff.mp hover
    have h1 := of_decide_eq_true h1
    have h2 := of_decide_eq_true h2
    have := hdl p hp
    omega
  rw [State.download_eq, State.firstDownload_any hfirst, hu, if_neg (by decide),
    if_neg (not_or.mpr ⟨not_lt.mpr hfit, not_lt.mpr hmax⟩), if_neg fun h => hfree h.2, if_neg hne, if_neg hne]

theorem State.download_of_first (h0 : c.dw 11 = 0) (hfit : (c.dw 10 + 1) * 4 ≤ slotSize) (hmax : (c.dw 10 + 1) * 4 ≤ 2 ^ 20) :
    s.download c = ((s.eraseSlot s.inactive).pieceStored s.inactive 0 (c.bring ((c.dw 10 + 1) * 4))
      [(0, (c.dw 10 + 1) * 4)]).completeOk 0 c.cid := by
  rw [State.download_eq, State.firstDownload_any hfirst, hu, if_neg (by decide), h0, Nat.zero_mul, Nat.zero_add,
    if_neg (not_or.mpr ⟨not_lt.mpr hfit, not_lt.mpr hmax⟩), if_neg fun h => h.1 rfl, if_pos rfl, if_pos rfl]

end

theorem State.setFr_holds (n : Nat) (b : List Byte) : (s.setFr n b).hst.dl = s.hst.dl ∧ (s.setFr n b).flash = s.flash ∧
    (if n = 0 then (s.setFr n b).hst.fr0 = b else (s.setFr n b).hst.fr1 = b) ∧ (s.setFr n b).regs = s.regs ∧
    (s.setFr n b).vlt = s.vlt := by
  unfold State.setFr
  split
  · exact ⟨rfl, rfl, rfl, rfl, rfl⟩
  · exact ⟨rfl, rfl, rfl, rfl, rfl⟩

theorem State.pieceStored_holds (n ofs : Nat) (b : List Byte) (dl : List (Nat × Nat)) :
    (s.pieceStored n ofs b dl).flash = putBytes s.flash (slotBase n + ofs) b ∧ (s.pieceStored n ofs b dl).hst.dl = dl ∧
    (if n = 0 then (s.pieceStored n ofs b dl).hst.fr0 = [] else (s.pieceStored n ofs b dl).hst.fr1 = []) ∧
    (s.pieceStored n ofs b dl).regs = s.regs := by
  unfold State.pieceStored
  extract_lets t
  obtain ⟨hdl, hflash, hfr, hregs, -⟩ := State.setFr_holds (s := t.setHst { t.hst with dl := dl }) n []
  exact ⟨hflash, hdl, hfr, hregs⟩

/-- The first piece of an image stands at the start of its slot. -/
theorem State.firstPiece_holds (b : List Byte) (len : Nat) :
    let t := (s.eraseSlot s.inactive).pieceStored s.inactive 0 b [(0, len)]
    t.flash = putBytes (s.eraseSlot s.inactive).flash (slotBase s.inactive) b ∧ t.hst.dl = [(0, len)] := by
  obtain ⟨hflash, hdl, -, -⟩ := State.pieceStored_holds (s := s.eraseSlot s.inactive) s.inactive 0 b [(0, len)]
  rw [Nat.add_zero] at hflash
  exact ⟨hflash, hdl⟩

/-- A slot holds what a command can bring. -/
theorem slot_holds_command : 2 ^ 20 ≤ slotSize := by norm_num [slotSize]

/-! ### Commits (R104, R459) -/

/-- The slot that a Commit names is one that its action allows. -/
def State.slotOk (s : State) (c : NCmd) : Bool :=
  if c.ca = 2 then (c.fs == 1 || c.fs == 2) && c.fs != s.activeSlot + 1 else c.fs == 0 || c.fs == s.inactive + 1

/-- A verification begins (R104). -/
def State.verifyBegun (s : State) (c : NCmd) : State :=
  ((s.setVlt { s.vlt with verify := c.ca + 1, verifyCid := some c.cid }).setVltState 2).setLoading true

/-- An activation begins (R104). -/
def State.activateBegun (s : State) (cid : BitVec 16) : State := (s.setVlt { s.vlt with commitCid := some cid }).beginLoad 2

theorem State.commitFw_eq (h6 : s.vltState ≠ 6) : s.commitFw c =
    if !s.slotOk c then s.finish 0 c.cid stFwSlot 0
    else if s.vltBusy then (if c.ca = 3 then s.busyLoad else s).seqError 0 c.cid 5
    else if c.ca = 2 then (s.selectSlot (c.fs - 1)).completeOk 0 c.cid
    else if c.ca = 3 then s.activateBegun c.cid
    else (s.verifyBegun c).modNcmd 0 c.cid (fun d => { d with st := 3 }) := if_neg h6

section
variable (h6 : s.vltState ≠ 6)
include h6

theorem State.commitFw_of_slot (h : s.slotOk c = false) : s.commitFw c = s.finish 0 c.cid stFwSlot 0 := by
  rw [State.commitFw_eq h6, h]
  rfl

variable (hslot : s.slotOk c = true)
include hslot

theorem State.commitFw_of_busy (hb : s.vltBusy = true) :
    s.commitFw c = (if c.ca = 3 then s.busyLoad else s).seqError 0 c.cid 5 := by
  rw [State.commitFw_eq h6, hslot, hb]
  rfl

variable (hb : s.vltBusy = false)
include hb

theorem State.commitFw_of_select (hca : c.ca = 2) : s.commitFw c = (s.selectSlot (c.fs - 1)).completeOk 0 c.cid := by
  rw [State.commitFw_eq h6, hslot, hb]
  exact if_pos hca

theorem State.commitFw_of_activate (hca : c.ca = 3) : s.commitFw c = s.activateBegun c.cid := by
  rw [State.commitFw_eq h6, hslot, hb]
  exact (if_neg (by decide)).trans ((if_neg (by decide)).trans ((if_neg (by omega)).trans (if_pos hca)))

theorem State.commitFw_of_verify (hca : c.ca < 2) :
    s.commitFw c = (s.verifyBegun c).modNcmd 0 c.cid (fun d => { d with st := 3 }) := by
  rw [State.commitFw_eq h6, hslot, hb]
  exact (if_neg (by decide)).trans ((if_neg (by decide)).trans ((if_neg (by omega)).trans (if_neg (by omega))))

end

theorem State.slotOk_of_own (hca : c.ca ≠ 2) (hfs : c.fs = 0) : s.slotOk c = true := by
  rw [State.slotOk, if_neg hca, hfs]
  rfl

/-- A Commit that is held leaves the Vault as it is. -/
theorem State.commitHeld_holds (h : s.ncmd 0 cid = some c) :
    let t := s.modNcmd 0 cid (fun d => { d with st := 3 })
    t.vltState = s.vltState ∧ t.loading = s.loading ∧ t.escrow = s.escrow ∧ t.vlt = s.vlt ∧
    t.ncmd 0 cid = some { c with st := 3 } ∧ t.flash = s.flash := by
  intro t
  have hrd (r : Nat) (hr : rHstTeller ≠ r) : t.rd r = s.rd r := State.modNcmd_keepsRegs r (by simpa using hr.symm)
  exact ⟨State.fld_of_rd (hrd rDevVltStat (by decide)), State.bit_of_rd (hrd rDevCfgStat (by decide)), rfl, rfl,
    State.modNcmd_ncmd (fun c => ⟨rfl, rfl⟩) h, rfl⟩

theorem State.verifyBegun_holds : (s.verifyBegun c).vltState = 2 ∧ (s.verifyBegun c).loading = true ∧
    (s.verifyBegun c).vlt = { s.vlt with verify := c.ca + 1, verifyCid := some c.cid } ∧ (s.verifyBegun c).flash = s.flash :=
  ⟨(State.fld_setBit_ne _ _ _ _ (by decide)).trans (State.setVltState_vltState (by decide)),
    State.bit_setBit_same _ _ _ _ (by decide), rfl, rfl⟩

/-- A verification leaves the Commit held and the Vault at work (R104). -/
theorem State.verifying_holds (h : s.ncmd 0 cid = some c) :
    let t := (s.verifyBegun c).modNcmd 0 cid (fun d => { d with st := 3 })
    t.vltState = 2 ∧ t.loading = true ∧ t.vlt = { s.vlt with verify := c.ca + 1, verifyCid := some c.cid } ∧
    t.ncmd 0 cid = some { c with st := 3 } ∧ t.flash = s.flash := by
  obtain ⟨hst, hload, hvlt, hflash⟩ := State.verifyBegun_holds (s := s) (c := c)
  obtain ⟨hst', hload', -, hvlt', hcmd, hflash'⟩ := State.commitHeld_holds (s := s.verifyBegun c) (c := c) ((State.ncmd_of_hst rfl).trans h)
  exact ⟨hst'.trans hst, hload'.trans hload, hvlt'.trans hvlt, hcmd, hflash'.trans hflash⟩

theorem State.setVlt_beginLoad_holds (v : Vault) (k : Nat) : ((s.setVlt v).beginLoad k).vltState = 2 ∧
    ((s.setVlt v).beginLoad k).loading = true ∧ ((s.setVlt v).beginLoad k).escrow = none ∧
    ((s.setVlt v).beginLoad k).vlt = { v with load := k } ∧ ((s.setVlt v).beginLoad k).hst = s.hst ∧
    ((s.setVlt v).beginLoad k).flash = s.flash := by
  obtain ⟨hst, hload, -⟩ := State.beginLoad_bits (s := s.setVlt v) k
  obtain ⟨hesc, hvlt⟩ := State.beginLoad_vault (s := s.setVlt v) k
  exact ⟨hst, hload, hesc, hvlt, State.blur_hst (State.beginLoad_blur (s.setVlt v) k 3088 rfl) rfl, State.beginLoad_flash k⟩

theorem State.activateBegun_holds : (s.activateBegun cid).vltState = 2 ∧ (s.activateBegun cid).loading = true ∧
    (s.activateBegun cid).escrow = none ∧ (s.activateBegun cid).vlt = { s.vlt with load := 2, commitCid := some cid } ∧
    (s.activateBegun cid).hst = s.hst ∧ (s.activateBegun cid).flash = s.flash := State.setVlt_beginLoad_holds _ 2

/-- A Commit that activates holds until the activation ends (R104). -/
theorem State.activating_holds (h : s.ncmd 0 cid = some c) :
    let t := (s.activateBegun cid).modNcmd 0 cid (fun d => { d with st := 3 })
    t.vltState = 2 ∧ t.loading = true ∧ t.escrow = none ∧ t.vlt = { s.vlt with load := 2, commitCid := some cid } ∧
    t.ncmd 0 cid = some { c with st := 3 } ∧ t.flash = s.flash := by
  obtain ⟨hst, hload, hesc, hvlt, hhst, hflash⟩ := State.activateBegun_holds (s := s) (cid := cid)
  obtain ⟨hst', hload', hesc', hvlt', hcmd, hflash'⟩ := State.commitHeld_holds (s := s.activateBegun cid) (c := c) ((State.ncmd_of_hst hhst).trans h)
  exact ⟨hst'.trans hst, hload'.trans hload, hesc'.trans hesc, hvlt'.trans hvlt, hcmd, hflash'.trans hflash⟩

theorem State.inactive_lt (s : State) : s.inactive < 2 := by
  unfold State.inactive
  omega

theorem State.inactive_ne (s : State) : s.inactive ≠ s.activeSlot := by
  unfold State.inactive
  omega

/-! ### The end of a verification -/

/-- A verification that ended without a Commit to answer (R104). -/
theorem State.verifyEnded_holds (h : s.vlt.verifyCid = none) :
    let t := ((s.setVlt { s.vlt with verify := 0, verifyCid := none }).setLoading false).vltRest
    t.vlt = { s.vlt with verify := 0 } ∧ t.loading = false ∧
    t.vltState = if s.vltState = 6 then 6 else if s.vlt.testing then 0 else if s.escrow.isSome then 3 else 1 := by
  have hv : ({ s.vlt with verify := 0, verifyCid := none } : Vault) = { s.vlt with verify := 0 } := by rw [← h]
  rw [hv]
  refine ⟨State.vltRest_vlt, ?_, State.vltRest_vltState.trans ?_⟩
  · exact (State.bit_of_rd (State.vltRest_rd (by decide))).trans (State.bit_setBit_same _ _ _ false (by decide))
  · rw [show ((s.setVlt { s.vlt with verify := 0 }).setLoading false).vltState = s.vltState from State.fld_setBit_ne _ _ _ _ (by decide)]
    rfl


theorem State.loadFailed_holds (err : Word) : (s.loadFailed err).fld rDevVltStat 16 8 = 3 ∧ (s.loadFailed err).vlt = s.vlt ∧
    (s.loadFailed err).flash = s.flash :=
  ⟨State.setRes_res (by decide), State.blur_vlt (State.loadFailed_blur s err 49168 rfl) rfl,
    State.blur_flash (State.loadFailed_blur s err 49168 rfl) rfl⟩

/-- The answer to what a verification of the inactive slot found (R104). -/
def State.verified (s : State) (r : State × Except Word Plane) : State :=
  match r.2 with
  | .error e => ((r.1.loadFailed e).setFr s.inactive []).endVerify stFwImage e.toNat
  | .ok p => (if s.vlt.verify = 2 then ((r.1.setFr s.inactive (frString p)).setRes resOk).selectSlot s.inactive
      else (r.1.setFr s.inactive (frString p)).setRes resOk).endVerify stOk 0

theorem State.verifyDone_of_idle (h : s.vlt.verify = 0) (b : Bool) : s.verifyDone b = s := if_pos h

theorem State.verifyDone_of_pending (h : s.vlt.verify ≠ 0) (b : Bool) :
    s.verifyDone b = s.verified (if b then s.verifySlot else (s, .error (errDev eFlash 0))) := if_neg h

theorem State.endVerify_of_silent (h : s.vlt.verifyCid = none) (st d : Nat) : s.endVerify st d =
    ((s.setVlt { s.vlt with verify := 0, verifyCid := none }).setLoading false).vltRest := by
  simp only [State.endVerify, h]

theorem State.commitFw_of_adminIs {k : Nat} (h : s.adminIs cid 0x10 c) (hca : c.ca = k) :
    s.admin 0x10 cid (fun c => c.ca == k) State.commitFw = s.commitFw c := State.admin_of_adminIs _ h (beq_iff_eq.mpr hca)

theorem execCommitActivate_of_adminIs (h : s.adminIs cid 0x10 c) (hca : c.ca = 3) : execCommitActivate cid s =
    .next (if (s.commitFw c).vlt.commitCid = some cid then (s.commitFw c).modNcmd 0 cid (fun d => { d with st := 3 })
      else s.commitFw c) := congrArg Host.Outcome.next (State.admin_of_adminIs _ h (beq_iff_eq.mpr hca))

/-- Settles O48. -/
theorem nvmeFirmware : Obligations.NvmeFirmware := by
  refine ⟨fun s cid c h hu h0 hfirst hfit hmax hdl => ?_, fun s cid c h hu h0 hfirst hmax => ?_, fun s cid c h hu => ?_,
    fun s cid c h hu hbig hfirst => ?_, fun s cid c d h hd hf => ?_, fun s cid c h hca hfs h6 hb => ?_,
    fun s cid c h hca hfs h6 hb => ?_, fun s cid c h hca hfs h6 hb => ?_, fun s cid c h hca hfs h6 => ?_,
    fun s cid c h hca hfs h6 hb => ?_, fun s cid c h hca hfs h6 hb => ?_, fun s cid c h hca hfs h6 hb hl hc => ?_,
    fun s h b => .of_eq rfl (State.verifyDone_of_idle h b) rfl, fun s h => ?_, fun s h => ?_, fun s st d h => ?_⟩
  · obtain ⟨hflash, hdl', hfr, hregs⟩ := State.pieceStored_holds (s := s) s.inactive (c.dw 11 * 4) (c.bring ((c.dw 10 + 1) * 4))
      (s.hst.dl ++ [(c.dw 11 * 4, (c.dw 10 + 1) * 4)])
    exact .of_eq (congrArg Host.Outcome.next (State.admin_of_adminIs State.download h rfl))
      ((State.download_of_next hu hfirst h0 hfit hmax hdl).trans (State.completeOk_cid h.1 _)) ⟨hflash, hdl', hfr, hregs⟩
  · exact .of_eq (congrArg Host.Outcome.next (State.admin_of_adminIs State.download h rfl))
      ((State.download_of_first hu hfirst h0 (Nat.le_trans hmax slot_holds_command) hmax).trans (State.completeOk_cid h.1 _))
      (State.firstPiece_holds _ _)
  · exact .of_eq (congrArg Host.Outcome.next (State.admin_of_adminIs State.download h rfl)) (State.download_of_waiting (.inl hu)) rfl
  · exact .of_eq (congrArg Host.Outcome.next (State.admin_of_adminIs State.download h rfl)) (State.download_of_large hu hfirst hbig) rfl
  · exact .of_eq (congrArg Host.Outcome.next (State.admin_of_adminIs State.download h rfl))
      (State.download_of_waiting (.inr ⟨d, hd, hf⟩)) rfl
  · have hrun := State.commitFw_of_verify h6 (State.slotOk_of_own (by omega) hfs) hb (by omega : c.ca < 2)
    have hholds := State.verifying_holds (s := s) h.1
    rw [State.cid_of_ncmd h.1] at hrun
    rw [hca] at hholds
    exact .of_eq (congrArg Host.Outcome.next (State.commitFw_of_adminIs h hca)) hrun hholds
  · have hrun := State.commitFw_of_verify h6 (State.slotOk_of_own (by omega) hfs) hb (by omega : c.ca < 2)
    have hholds := State.verifying_holds (s := s) h.1
    rw [State.cid_of_ncmd h.1] at hrun
    rw [hca] at hholds
    exact .of_eq (congrArg Host.Outcome.next (State.commitFw_of_adminIs h hca)) hrun hholds
  · have hslot : s.slotOk c = true := by
      rw [State.slotOk, if_pos hca, hfs]
      have := s.inactive_ne
      have := s.inactive_lt
      simp; omega
    refine .of_eq (congrArg Host.Outcome.next (State.commitFw_of_adminIs h hca)) (State.commitFw_of_select h6 hslot hb hca) ?_
    rw [hfs, Nat.add_sub_cancel]
  · have hslot : s.slotOk c = false := by
      rw [State.slotOk, if_pos hca, hfs, bne_self_eq_false, Bool.and_false]
    exact .of_eq (congrArg Host.Outcome.next (State.commitFw_of_adminIs h hca)) (State.commitFw_of_slot h6 hslot) rfl
  · have hrun := State.commitFw_of_activate h6 (State.slotOk_of_own (by omega) hfs) hb hca
    obtain ⟨-, -, -, hvlt, -, -⟩ := State.activateBegun_holds (s := s) (cid := cid)
    rw [State.cid_of_ncmd h.1] at hrun
    have hx := execCommitActivate_of_adminIs h hca
    rw [hrun, if_pos (congrArg Vault.commitCid hvlt)] at hx
    exact .of_eq hx rfl (State.activating_holds h.1)
  · exact .of_eq (congrArg Host.Outcome.next (State.commitFw_of_adminIs h hca))
      ((State.commitFw_of_busy h6 (State.slotOk_of_own (by omega) hfs) hb).trans (by rw [if_neg (by omega)])) rfl
  · have hrun := State.commitFw_of_busy h6 (State.slotOk_of_own (by omega) hfs) hb
    rw [if_pos hca, State.busyLoad, if_pos hl] at hrun
    have hvlt : (s.commitFw c).vlt = s.vlt := by
      rw [hrun]
      exact (State.blur_vlt (State.seqError_blur (s.loadError (errDev eBusy 0)) 0 c.cid 5 33603600 rfl) rfl).trans (State.raise_vlt ..)
    have hx := execCommitActivate_of_adminIs h hca
    rw [hvlt, hc, if_neg (by simp)] at hx
    exact .of_eq hx hrun rfl
  · obtain ⟨hres, hvlt, hflash⟩ := State.loadFailed_holds (s := s) (errDev eFlash 0)
    obtain ⟨-, hflash', -, hregs, hvlt'⟩ := State.setFr_holds (s := s.loadFailed (errDev eFlash 0)) s.inactive []
    exact .of_eq (t := (s.loadFailed (errDev eFlash 0)).setFr s.inactive []) rfl
      ((State.verifyDone_of_pending h false).trans (congrArg s.verified (if_neg (by decide))))
      ⟨(State.fld_of_rd (State.rd_of_regs hregs _)).trans hres, hvlt'.trans hvlt, hflash'.trans hflash⟩
  · refine .of_eq rfl ((State.verifyDone_of_pending h true).trans (congrArg s.verified (if_pos rfl))) ?_
    obtain ⟨u, r⟩ := s.verifySlot
    cases r with
    | ok p => rfl
    | error e => rfl
  · rw [State.endVerify_of_silent h]
    exact State.verifyEnded_holds h

end Sys2Proof.Machine
end

section
/-! PROOF. The admin commands: keys, features, queues, Identify, log pages and Asynchronous Event Requests. -/

namespace Sys2Proof.Machine

open Sys2Proof

variable {s t : State} {c : NCmd} {cid : BitVec 16}

/-! ### Bytes of a block of entries, and of a block of fields -/

theorem flatMap_length_of_const {α : Type} {w : Nat} {g : Nat → List α} (hg : ∀ k, (g k).length = w) (m : Nat) :
    ((List.range m).flatMap g).length = w * m := by
  simp [List.length_flatMap, hg, mul_comm]

/-- What an entry of a block of entries of one length holds. -/
theorem slice_flatMap {α : Type} {w m n i k : Nat} {g : Nat → List α} (hg : ∀ k, (g k).length = w) (h : n < m) (hi : i + k ≤ w) :
    slice ((List.range m).flatMap g) (w * n + i) k = slice (g n) i k := by
  induction m with
  | zero => omega
  | succ m ih =>
    have hlen := flatMap_length_of_const hg m
    rw [List.range_succ, List.flatMap_append, List.flatMap_singleton]
    rcases Nat.lt_succ_iff_lt_or_eq.mp h with hn | rfl
    · rw [slice_append_left _ (by rw [hlen]; nlinarith), ih hn]
    · rw [← hlen, slice_append_right]

/-- A part of a table that a function gives. -/
theorem slice_map_range {α : Type} {N i n : Nat} (f : Nat → α) (h : i + n ≤ N) :
    slice ((List.range N).map f) i n = (List.range n).map fun k => f (i + k) := by
  refine List.ext_getElem ?_ fun k h1 h2 => ?_
  · simp only [slice, List.length_take, List.length_drop, List.length_map, List.length_range]
    omega
  · simp [slice]

theorem map_getD_range {α : Type} (l : List α) (d : α) : (List.range l.length).map (fun k => l.getD k d) = l := by
  refine List.ext_getElem (by simp) fun k h1 h2 => ?_
  rw [List.getElem_map, List.getElem_range, List.getD_eq_getElem _ _ h2]

/-- A field stands in its block where no field before it does. -/
theorem slice_fieldByte {l : List (Nat × List Byte)} {d : Nat → Byte} {N a : Nat} {b : List Byte} (hN : a + b.length ≤ N)
    (h : ∀ k < b.length, l.find? (fun p => decide (p.1 ≤ a + k) && decide (a + k < p.1 + p.2.length)) = some (a, b)) :
    slice ((List.range N).map (fieldByte l d)) a b.length = b := by
  rw [slice_map_range _ hN]
  refine Eq.trans (List.map_congr_left fun k hk => ?_) (map_getD_range b 0#8)
  rw [fieldByte, h k (List.mem_range.mp hk)]
  exact congrArg (fun k => b.getD k 0#8) (Nat.add_sub_cancel_left a k)

/-- The byte of a field of one byte. -/
theorem getD_fieldByte {l : List (Nat × List Byte)} {d : Nat → Byte} {N a : Nat} {x : Byte} (hN : a < N)
    (h : l.find? (fun p => decide (p.1 ≤ a) && decide (a < p.1 + p.2.length)) = some (a, [x])) :
    ((List.range N).map (fieldByte l d)).getD a 0 = x := by
  rw [List.getD_eq_getElem _ _ (by simpa using hN), List.getElem_map, List.getElem_range, fieldByte, h]
  exact congrArg (fun k => [x].getD k 0#8) (Nat.sub_self a)

/-- A field that a list of fields has behind others that end before it. -/
theorem find_field_of_past {l : List (Nat × List Byte)} {p : Nat × List Byte} {i : Nat} (h : p.1 + p.2.length ≤ i) :
    (p :: l).find? (fun p => decide (p.1 ≤ i) && decide (i < p.1 + p.2.length)) =
      l.find? (fun p => decide (p.1 ≤ i) && decide (i < p.1 + p.2.length)) :=
  List.find?_cons_of_neg (by simp; omega)

theorem find_field_of_in {l : List (Nat × List Byte)} {a i : Nat} {b : List Byte} (h : a ≤ i) (h' : i < a + b.length) :
    ((a, b) :: l).find? (fun p => decide (p.1 ≤ i) && decide (i < p.1 + p.2.length)) = some (a, b) :=
  List.find?_cons_of_pos (by simp [h, h'])

/-! ### Identify -/

theorem modelName_length (v : Variant) : (modelName v).length = 40 := by cases v <;> rfl

theorem State.runFr_length : s.runFr.length = 8 := by
  unfold State.runFr
  split <;> rfl

theorem State.identCtl_holds : let d := (List.range 4096).map (fieldByte s.identCtl Config.identByte)
    d.length = 4096 ∧ slice d 24 40 = modelName s.variant ∧ d.getD 77 0 = 8#8 ∧ d.getD 111 0 = 1#8 := by
  have hm := modelName_length s.variant
  have hr := s.runFr_length
  refine ⟨by simp, ?_, getD_fieldByte (by decide) ?_, getD_fieldByte (by decide) ?_⟩
  · have h := slice_fieldByte (l := s.identCtl) (d := Config.identByte) (N := 4096) (a := 24) (b := modelName s.variant)
      (by omega) fun k hk => find_field_of_in (by omega) (by omega)
    rwa [hm] at h
  · rw [State.identCtl, find_field_of_past (by simp [hm]), find_field_of_past (by simp [hr]), find_field_of_in (by simp) (by simp)]
  · rw [State.identCtl, find_field_of_past (by simp [hm]), find_field_of_past (by simp [hr]), find_field_of_past (by simp),
      find_field_of_past (by simp), find_field_of_in (by simp) (by simp)]

theorem State.identNs_holds (n : Nat) : let d := (List.range 4096).map (fieldByte (s.identNs n) (Config.identNs n))
    d.length = 4096 ∧ leAt d 0 8 = s.nsze n % 2 ^ 64 ∧ leAt d 8 8 = s.nsze n % 2 ^ 64 ∧ leAt d 16 8 = s.nuse n % 2 ^ 64 ∧
    d.getD 130 0 = 12#8 := by
  intro d
  have h0 : slice d 0 8 = leBytes 8 (s.nsze n) := by
    have h := slice_fieldByte (l := s.identNs n) (d := Config.identNs n) (N := 4096) (a := 0) (b := leBytes 8 (s.nsze n))
      (by simp) fun k hk => find_field_of_in (by omega) (by omega)
    rwa [leBytes_length] at h
  have h8 : slice d 8 8 = leBytes 8 (s.nsze n) := by
    have h := slice_fieldByte (l := s.identNs n) (d := Config.identNs n) (N := 4096) (a := 8) (b := leBytes 8 (s.nsze n))
      (by simp) fun k hk => (find_field_of_past (by simp)).trans (find_field_of_in (by omega) (by omega))
    rwa [leBytes_length] at h
  have h16 : slice d 16 8 = leBytes 8 (s.nuse n) := by
    have h := slice_fieldByte (l := s.identNs n) (d := Config.identNs n) (N := 4096) (a := 16) (b := leBytes 8 (s.nuse n))
      (by simp) fun k hk => (find_field_of_past (by simp; omega)).trans ((find_field_of_past (by simp)).trans
        (find_field_of_in (by omega) (by omega)))
    rwa [leBytes_length] at h
  refine ⟨by simp [d], ?_, ?_, ?_, getD_fieldByte (by decide) ?_⟩
  · rw [leAt, h0, leNat_leBytes, show 256 ^ 8 = 2 ^ 64 from rfl]
  · rw [leAt, h8, leNat_leBytes, show 256 ^ 8 = 2 ^ 64 from rfl]
  · rw [leAt, h16, leNat_leBytes, show 256 ^ 8 = 2 ^ 64 from rfl]
  · unfold State.identNs
    iterate 11 rw [find_field_of_past (by simp)]
    exact find_field_of_in (by simp) (by simp)

/-! ### The namespace map -/

/-- The entry of a region in the map (R460). -/
def State.nsMapEntry (s : State) (r : Nat) : List Byte :=
  let cls := if r = s.ledgerRgn then 4 else if r = s.fld rIngAnnex 0 4 then 5 else s.rgnClass r
  leBytes 1 cls ++ leBytes 1 (s.rgnEn r).toNat ++ leBytes 2 0 ++ leBytes 4 (s.rgnAddr r / 2 ^ 20) ++ leBytes 4 (s.rgnSize r) ++
    leBytes 4 0

theorem State.nsMapEntry_length (r : Nat) : (s.nsMapEntry r).length = 16 := by simp [State.nsMapEntry]

theorem State.nsMapEntry_holds (r : Nat) : leAt (s.nsMapEntry r) 1 1 = (s.rgnEn r).toNat ∧
    leAt (s.nsMapEntry r) 4 4 = s.rgnAddr r / 2 ^ 20 % 2 ^ 32 ∧ leAt (s.nsMapEntry r) 8 4 = s.rgnSize r % 2 ^ 32 := by
  have hen : (s.rgnEn r).toNat % 256 = (s.rgnEn r).toNat := Nat.mod_eq_of_lt (Nat.lt_of_le_of_lt (Bool.toNat_le _) (by decide))
  unfold State.nsMapEntry
  extract_lets cls
  simp only [List.append_assoc]
  refine ⟨?_, ?_, ?_⟩
  · rw [leAt_append_right _ _ _ (by simp), leBytes_length, leAt_leBytes_append, pow_one, hen]
  · rw [leAt_append_right _ _ _ (by simp), leBytes_length, leAt_append_right _ _ _ (by simp), leBytes_length,
      leAt_append_right _ _ _ (by simp), leBytes_length, leAt_leBytes_append, show 256 ^ 4 = 2 ^ 32 from rfl]
  · rw [leAt_append_right _ _ _ (by simp), leBytes_length, leAt_append_right _ _ _ (by simp), leBytes_length,
      leAt_append_right _ _ _ (by simp), leBytes_length, leAt_append_right _ _ _ (by simp), leBytes_length, leAt_leBytes_append,
      show 256 ^ 4 = 2 ^ 32 from rfl]

theorem State.nsMapBytes_holds : s.nsMapBytes.length = 256 ∧ ∀ r, r < 16 → leAt s.nsMapBytes (16 * r + 1) 1 = (s.rgnEn r).toNat ∧
    leAt s.nsMapBytes (16 * r + 4) 4 = s.rgnAddr r / 2 ^ 20 % 2 ^ 32 ∧ leAt s.nsMapBytes (16 * r + 8) 4 = s.rgnSize r % 2 ^ 32 := by
  have hg (r : Nat) : (s.nsMapEntry r).length = 16 := State.nsMapEntry_length r
  have hd : s.nsMapBytes = (List.range 16).flatMap s.nsMapEntry := rfl
  refine ⟨hd ▸ flatMap_length_of_const hg 16, fun r hr => ?_⟩
  obtain ⟨h1, h4, h8⟩ := State.nsMapEntry_holds (s := s) r
  rw [hd, leAt, leAt, leAt, slice_flatMap hg hr (by decide), slice_flatMap hg hr (by decide), slice_flatMap hg hr (by decide)]
  exact ⟨h1, h4, h8⟩

/-! ### Log pages -/

/-- A log page read from its start, as long as the host asks for (R552). -/
theorem State.getLog_of_whole {page : List Byte} (h10 : c.dw 10 / 65536 = 7) (h11 : c.dw 11 = 0) (h12 : c.dw 12 = 0)
    (h13 : c.dw 13 = 0) (hlen : 32 ≤ page.length) : s.getLog c page = s.answer c.cid (page.take 32) := by
  have ht : (page.take 32).length = 32 := by simpa using hlen
  rw [State.getLog, h10, h11, h12, h13]
  refine (if_neg (by simp)).trans (congrArg (s.answer c.cid) ?_)
  rw [show List.drop (0 + 0 * 2 ^ 32) page = page from rfl, show (7 + 0 % 65536 * 65536 + 1) * 4 = 32 from rfl, ht]
  simp

theorem State.slotPage_length : s.slotPage.length = 512 := by
  simp only [State.slotPage, List.length_append, leBytes_length, List.length_take, List.length_replicate]
  omega

/-! ### Asynchronous Event Requests (R461) -/

theorem State.aerRequest_of_many (h : 8 ≤ s.hst.cmds.countP (fun d => d.q == 0 && d.st == 3 && d.op == 0x0C)) :
    s.aerRequest c = s.finish 0 c.cid stAerLimit 0 := if_pos h

section
variable (h : s.hst.cmds.countP (fun d => d.q == 0 && d.st == 3 && d.op == 0x0C) < 8)
include h

theorem State.aerRequest_of_quiet (ha : s.hst.aer = []) : s.aerRequest c = s.modNcmd 0 c.cid (fun d => { d with st := 3 }) := by
  rw [State.aerRequest, if_neg (not_le.mpr h), ha]

theorem State.aerRequest_of_event {e : Nat} {l : List Nat} (ha : s.hst.aer = e :: l) : s.aerRequest c =
    (s.setHst { s.hst with aer := l }).complete 0 c.cid stOk false (BitVec.ofNat 32 e) := by
  rw [State.aerRequest, if_neg (not_le.mpr h), ha]

end

/-! ### Other commands -/

/-- HST_TELLER.IOQ holds the number of I/O submission queues. -/
theorem State.syncIoq_count (s : State) :
    s.syncIoq.fld rHstTeller 16 7 = (idxs 65 (fun k => (s.syncIoq.sq k).isSome && k != 0)).length := by
  have hlen : (idxs 65 (fun k => (s.sq k).isSome && k != 0)).length ≤ 65 := by
    simpa [idxs] using List.length_filter_le (fun k => (s.sq k).isSome && k != 0) (List.range 65)
  have hsame : idxs 65 (fun k => (s.syncIoq.sq k).isSome && k != 0) = idxs 65 (fun k => (s.sq k).isSome && k != 0) := rfl
  rw [hsame]
  exact (State.fld_setFld_same _ _ _ _ _ (by decide)).trans (Nat.mod_eq_of_lt (by omega))


theorem NCmd.bring_of_length {n : Nat} (h : c.data.length = n) : c.bring n = c.data := by
  subst h
  rw [NCmd.bring, List.take_left]

theorem NCmd.fid_of_eq {n : Nat} (h : c.dw 10 % 256 = n) : c.fid n = true := beq_iff_eq.mpr h

theorem State.vkOk_of_revoked {n : Nat} (h : s.otp.revoked.getLsbD n = true) : s.vkOk n = false := by
  simp only [State.vkOk, h, Bool.not_true, Bool.and_false, Bool.false_and]

theorem execReadKey_of_adminIs (h : s.adminIs cid 0xC2 c) : execReadKey cid s =
    .next (s.answer cid (if s.vkOk (c.dw 10 % 4) then s.vkBytes (c.dw 10 % 4) else List.replicate 96 0#8)) :=
  congrArg Host.Outcome.next (State.admin_of_adminIs _ h rfl)

theorem State.finish_of_ok (cid : BitVec 16) (dw0 : Nat) : s.finish 0 cid stOk dw0 = s.complete 0 cid stOk false (BitVec.ofNat 32 dw0) :=
  rfl

theorem execReadAkCert_of_adminIs (h : s.adminIs cid 0xC6 c) : execReadAkCert cid s = .next (if 4096 < c.dw 10
    then s.finish 0 cid stField 0
    else s.answer cid ((List.range (c.dw 10)).map (fun i => if i < Config.akCertLen then Config.akCert i else 0#8))) :=
  congrArg Host.Outcome.next (State.admin_of_adminIs _ h rfl)

theorem execIdentifyNamespace_of_adminIs (h : s.adminIs cid 0x06 c) (hc : c.dw 10 % 256 = 0) : execIdentifyNamespace cid s =
    .next (if c.ns = 0 ∨ 5 < c.ns then s.finish 0 cid stNamespace 0
      else s.answer cid ((List.range 4096).map (fun i => if s.nsActive c.ns then fieldByte (s.identNs c.ns) (Config.identNs c.ns) i
        else 0#8))) := congrArg Host.Outcome.next (State.admin_of_adminIs _ h (beq_iff_eq.mpr hc))

theorem execGetLogFaultLedger_of_adminIs (h : s.adminIs cid 0x02 c) (hf : c.fid 0xC0 = true) :
    execGetLogFaultLedger cid s = .next (s.getLog c s.faultPage) := congrArg Host.Outcome.next (State.admin_of_adminIs _ h hf)

theorem execGetLogFirmwareSlot_of_adminIs (h : s.adminIs cid 0x02 c) (hf : c.fid 3 = true) :
    execGetLogFirmwareSlot cid s = .next (s.getLog c s.slotPage) := congrArg Host.Outcome.next (State.admin_of_adminIs _ h hf)

/-- Settles O49. -/
theorem nvmeAdmin : Obligations.NvmeAdmin := by
  refine ⟨fun s cid c h hlen => ?_, fun s cid c h hrev => ?_, fun s cid c h => ?_, fun s cid c h hlen => ?_, fun s cid c h hlen => ?_,
    fun s cid c h => ?_, fun s cid c h hf => ?_, fun s cid c h hf => ?_, fun s cid c h hf hlen => ?_, fun s cid c h hf => ?_,
    fun s cid c q h hid hq hfree hn0 hn hpc hv => ?_, fun s cid c h hid => ?_,
    fun s cid c q h hid hq hfree hp0 hp hsome hn0 hn hpc => ?_, fun s cid c h hid => ?_, fun s cid c h hc => ?_,
    fun s cid c h hc h1 h5 hact => ?_, fun s cid c h hc hns => ?_, fun s cid c h h10 h11 h12 h13 hlen => ?_,
    fun s cid c h h10 h11 h12 h13 => ?_, fun s cid c h hn ha => ?_, fun s cid c e l h hn ha => ?_, fun s cid c h hn => ?_⟩
  · refine .of_eq (t := s.setVlt { s.vlt with auth := some (c.bring 128) })
      (congrArg Host.Outcome.next (State.admin_of_adminIs _ h rfl)) rfl ?_
    rw [NCmd.bring_of_length hlen]
  · refine .of_eq (execReadKey_of_adminIs h) ?_ rfl
    rw [State.vkOk_of_revoked hrev]
    rfl
  · exact .of_eq (execReadKey_of_adminIs h) rfl rfl
  · exact .of_eq (execReadAkCert_of_adminIs h) (if_neg (not_lt.mpr hlen)) ⟨_, rfl, by simp⟩
  · exact .of_eq (execReadAkCert_of_adminIs h) (if_pos hlen) rfl
  · obtain ⟨hlen, hbytes⟩ := State.nsMapBytes_holds (s := s)
    exact .of_eq (congrArg Host.Outcome.next (State.admin_of_adminIs _ h rfl)) rfl ⟨_, rfl, hlen, hbytes⟩
  · exact .of_eq (congrArg Host.Outcome.next (State.admin_of_adminIs _ h (NCmd.fid_of_eq hf))) rfl rfl
  · exact .of_eq (execSetNumberOfQueues_of_adminIs h (NCmd.fid_of_eq hf)) (State.finish_of_ok ..) rfl
  · refine .of_eq (t := s.setHst { s.hst with apstEn := (c.dw 11).testBit 0, apst := c.bring 256 })
      (congrArg Host.Outcome.next (State.admin_of_adminIs _ h (NCmd.fid_of_eq hf))) rfl ?_
    rw [NCmd.bring_of_length hlen]
  · exact .of_eq (congrArg Host.Outcome.next (State.admin_of_adminIs _ h (NCmd.fid_of_eq hf))) rfl rfl
  · exact answersVia_createCq hid hq hfree hn0 hn hpc h (by omega) ⟨State.cq_setCq_same .., rfl⟩
  · exact .of_eq (execCreateIoCompletionQueue_of_adminIs h) (State.createCq_of_badId hid) rfl
  · have hcq : c.dw 11 / 65536 = (⟨c.dw 11 / 65536, by omega⟩ : Fin 65) := rfl
    refine answersVia_createSq hid hq hfree hcq hp0 hsome hn0 hn hpc h ⟨(State.sq_syncIoq _).trans (State.sq_setSq_same ..), ?_⟩
    exact State.syncIoq_count _
  · exact .of_eq (execCreateIoSubmissionQueue_of_adminIs h) (State.createSq_of_badId hid) rfl
  · exact .of_eq (congrArg Host.Outcome.next (State.admin_of_adminIs _ h (beq_iff_eq.mpr hc))) rfl ⟨_, rfl, State.identCtl_holds⟩
  · have hns : ¬(c.ns = 0 ∨ 5 < c.ns) := by omega
    refine .of_eq (execIdentifyNamespace_of_adminIs h hc) (if_neg hns) ⟨_, rfl, ?_⟩
    simp only [hact, if_true]
    exact State.identNs_holds c.ns
  · exact .of_eq (execIdentifyNamespace_of_adminIs h hc) (if_pos hns) rfl
  · have hf : c.fid 0xC0 = true := NCmd.fid_of_eq (by omega)
    exact .of_eq (execGetLogFaultLedger_of_adminIs h hf) (State.getLog_of_whole (by omega) h11 h12 h13 hlen) rfl
  · have hf : c.fid 3 = true := NCmd.fid_of_eq (by omega)
    exact .of_eq (execGetLogFirmwareSlot_of_adminIs h hf)
      (State.getLog_of_whole (by omega) h11 h12 h13 (by rw [State.slotPage_length]; decide)) rfl
  · have hrun := State.aerRequest_of_quiet hn ha (c := c)
    rw [State.cid_of_ncmd h.1] at hrun
    obtain ⟨-, -, -, -, hcmd, -⟩ := State.commitHeld_holds (s := s) h.1
    exact .of_eq (congrArg Host.Outcome.next (State.admin_of_adminIs _ h rfl)) hrun ⟨hcmd, rfl⟩
  · exact .of_eq (congrArg Host.Outcome.next (State.admin_of_adminIs _ h rfl)) (State.aerRequest_of_event hn ha) rfl
  · exact .of_eq (congrArg Host.Outcome.next (State.admin_of_adminIs _ h rfl)) (State.aerRequest_of_many hn) rfl

end Sys2Proof.Machine
end

section
/-! PROOF. Doorbells, the Teller and the NVM commands. -/

namespace Sys2Proof.Machine

open Sys2Proof

variable {s t : State} {c : NCmd} {cid : BitVec 16}

/-! ### Doorbells (R444) -/

theorem State.doorbell_of_outside {off : Nat} {v : Word} (h : off < 0x1000 ∨ off % 4 ≠ 0 ∨ 0x1208 ≤ off) : s.doorbell off v = s :=
  if_pos (by omega)

theorem State.doorbell_tail (q : Fin 65) (v : Word) : s.doorbell (0x1000 + 8 * q) v =
    match s.sq q with
    | some x => if v.toNat % 65536 < x.size then
        if q.val = 0 then s.setSq q (some { x with tail := v.toNat % 65536 })
        else (s.setSq q (some { x with tail := v.toNat % 65536 })).wake
      else s
    | none => s := by
  have hk : (0x1000 + 8 * q.val - 0x1000) / 4 = 2 * q.val := by omega
  have hq : 2 * q.val / 2 = q.val := by omega
  have h0 : (2 * q.val = 0) = (q.val = 0) := by simp
  rw [State.doorbell, hk, if_neg (by omega), if_pos (by omega), hq]
  cases s.sq q with
  | none => rfl
  | some x => simp only [h0]

theorem State.doorbell_head (q : Fin 65) (v : Word) : s.doorbell (0x1004 + 8 * q) v =
    match s.cq q with
    | some x => if v.toNat % 65536 < x.size then s.setCq q (some { x with head := v.toNat % 65536 }) else s
    | none => s := by
  have hk : (0x1004 + 8 * q.val - 0x1000) / 4 = 2 * q.val + 1 := by omega
  have hq : (2 * q.val + 1) / 2 = q.val := by omega
  rw [State.doorbell, hk, if_neg (by omega), if_neg (by omega)]
  cases h : s.cq q with
  | none => simp only [hq, h]
  | some x => simp only [hq, h]

/-! ### Fetching (R447) -/

theorem slice_padded {sqe : List Byte} (h : sqe.length = 64) : slice (sqe ++ List.replicate 64 0#8) 0 64 = sqe := by
  rw [slice_append_left _ (by omega), ← h, slice_zero]

/-- A command as it is fetched, before its opcode is looked at. -/
def State.fetched (s : State) (q : Nat) (sqe data : List Byte) : State :=
  (s.setHst { s.hst with cmds := s.hst.cmds ++ [⟨q, BitVec.ofNat 16 (leAt sqe 2 2), sqe, data, 0, false, [], none⟩] }).count rHstCommands

theorem State.takeCmd_eq {q : Nat} {sqe data : List Byte} (h : sqe.length = 64) : s.takeCmd q sqe data =
    if badOpcode q (leAt sqe 0 1) && (q == 0 || s.pwr.loss < 3) then
      (s.fetched q sqe data).finish q (BitVec.ofNat 16 (leAt sqe 2 2)) stOpcode 0
    else if q = 0 ∧ leAt sqe 0 1 = 0x10 ∧ 4 ≤ leAt sqe 40 4 / 8 % 8 then
      (s.fetched q sqe data).finish q (BitVec.ofNat 16 (leAt sqe 2 2)) stField 0
    else s.fetched q sqe data := by
  rw [State.takeCmd, slice_padded h]
  rfl

theorem State.takeCmd_of_bad {q : Nat} {sqe data : List Byte} (h : sqe.length = 64) (hbad : badOpcode q (leAt sqe 0 1) = true)
    (hq : q = 0 ∨ s.pwr.loss < 3) : s.takeCmd q sqe data =
      (s.fetched q sqe data).finish q (BitVec.ofNat 16 (leAt sqe 2 2)) stOpcode 0 :=
  (State.takeCmd_eq h).trans (if_pos (by simp [hbad, hq]))

theorem State.takeCmd_of_io {q : Nat} {sqe data : List Byte} (h : sqe.length = 64) (hbad : badOpcode q (leAt sqe 0 1) = false)
    (hq : q ≠ 0) : s.takeCmd q sqe data = s.fetched q sqe data :=
  (State.takeCmd_eq h).trans ((if_neg (by simp [hbad])).trans (if_neg fun h => hq h.1))

/-- The state in which the first command of a turn is taken (R447). -/
def State.turned (s : State) (q k : Nat) (cr : List Nat) (x : Sq) : State :=
  (s.setHst { s.hst with rr := setAt s.hst.rr k q, credit := cr }).setSq q (some { x with head := (x.head + 1) % max 1 x.size })

theorem State.burst_pos : 0 < s.burst := by
  unfold State.burst
  split
  · decide
  · exact Nat.two_pow_pos _

theorem State.commandFetch_of_turn {q k : Nat} {cr : List Nat} {x : Sq} {sqe data : List Byte} (ht : s.turn = some (q, k, cr))
    (hx : s.sq q = some x) (hf : s.fetches = true) (hn : 0 < (x.tail + x.size - x.head) % max 1 x.size) :
    s.commandFetch q [(sqe, data)] = ((s.turned q k cr x).takeCmd q sqe data).refuseIo := by
  have htake : [(sqe, data)].take (min ((x.tail + x.size - x.head) % max 1 x.size) s.burst) = [(sqe, data)] :=
    List.take_of_length_le (Nat.le_min.mpr ⟨hn, State.burst_pos⟩)
  simp only [State.commandFetch, ht, hx, hf, htake]
  exact if_neg (by simp)

theorem State.commandFetch_of_other {q k u : Nat} {cr : List Nat} {l : List (List Byte × List Byte)} (ht : s.turn = some (u, k, cr))
    (hu : u ≠ q) : s.commandFetch q l = s := by
  unfold State.commandFetch
  rw [ht]
  cases s.sq q with
  | none => rfl
  | some x => exact if_pos (.inl hu)

/-! ### The start of a transfer (R447) -/

theorem State.transferStart_of_ncmd {q : Nat} (hc : s.ncmd q cid = some c) : s.transferStart q cid =
    if c.st ≠ 0 ∨ q = 0 ∨ ¬(c.op = 1 ∨ c.op = 2) then s
    else if 3 ≤ s.pwr.loss then s.finish q cid stNotReady 0
    else if s.starts = false ∨ 8 ≤ s.hst.cmds.countP (fun d => d.st == 1) ∨ s.overlapped c = true ∨
        3 ≤ s.fld rHstPwr 0 3 ∨ s.hostUp = false then s
    else s.modNcmd q cid (fun d => { d with st := 1, early := true }) := by
  rw [State.transferStart, hc]

theorem State.starts_iff : s.starts = true ↔ s.fld rHstTeller 28 4 = 1 ∨ s.fld rHstTeller 28 4 = 3 := by simp [State.starts]

/-! ### The end of a data phase -/

theorem State.finish_of_done (q : Nat) (cid : BitVec 16) : s.finish q cid stOk 0 = s.completeOk q cid := rfl

/-- A data phase that gives a status and no data. -/
theorem State.endPhase_of_error (st dw0 : Nat) : s.endPhase c (.err st dw0) = s.finish c.q c.cid st dw0 := rfl

theorem State.endPhase_of_data {d : List Byte} (hd : d ≠ []) (st : Nat) :
    s.endPhase c ⟨st, 0, d, []⟩ = (s.toHost c.q c.cid d).finish c.q c.cid st 0 := by
  cases d with
  | nil => exact absurd rfl hd
  | cons b d => rfl

theorem State.runPhase_of_fresh (h : c.res = none) (f : State → NCmd → State × DataRes) :
    s.runPhase c f = (f s c).1.endPhase c (f s c).2 := by
  simp only [State.runPhase, h]

theorem State.nvmRead_of_ncmd {q : Nat} (hc : s.ncmd q cid = some c) (hst : c.st = 1) (hop : c.op = 2) (hres : c.res = none)
    (hw : s.memState ≠ 2 ∨ s.bulkWaits 2 = false) :
    s.nvmRead q cid = (s.readPhase c).1.endPhase c (s.readPhase c).2 := by
  simp only [State.nvmRead, hc]
  exact (if_pos ⟨hst, hop, hw⟩).trans (State.runPhase_of_fresh hres _)

theorem State.nvmWrite_of_ncmd {q : Nat} (hc : s.ncmd q cid = some c) (hst : c.st = 1) (hop : c.op = 1) (hres : c.res = none) :
    s.nvmWrite q cid = (s.writePhase c).1.endPhase c (s.writePhase c).2 := by
  simp only [State.nvmWrite, hc]
  exact (if_pos ⟨hst, hop⟩).trans (State.runPhase_of_fresh hres _)

theorem State.nvmRead_of_waiting {q : Nat} (hm : s.memState = 2) (hw : s.bulkWaits 2 = true) : s.nvmRead q cid = s := by
  unfold State.nvmRead
  cases s.ncmd q cid with
  | none => rfl
  | some c => exact if_neg (by simp [hm, hw])

/-! ### Reads (R452) -/

theorem State.readPhase_of_range (h : s.rangeErr c ≠ stOk) : s.readPhase c = (s, .err (s.rangeErr c) 0) := if_pos h

theorem State.readPhase_of_block (h : s.rangeErr c = stOk) (hn : c.nlb = 1) :
    s.readPhase c = s.readBlock c c.slba ⟨stOk, 0, [], []⟩ := by
  refine (if_neg (not_not.mpr h)).trans ?_
  rw [hn, List.range_one, List.foldl_cons, List.foldl_nil, Nat.add_zero]

theorem State.readBlock_of_unmapped {b : Nat} (hns : c.ns ≠ 4) (ha : s.nsAddr c.ns b = none) (r : DataRes) :
    s.readBlock c b r = (s, { r with data := r.data ++ List.replicate 4096 0#8 }) := by
  rw [State.readBlock, if_neg hns, ha]

/-- What a read of the recording memory leads to, for a Read of one block (R452, R458). -/
def readOutcome (u : State) (st : MStat) (d : List Byte) : State × DataRes :=
  match st with
  | .ok => (u, ⟨stOk, 0, d, []⟩)
  | .range => (u, ⟨stOk, 0, d, []⟩)
  | .notReady => (u, ⟨stNotReady, 0, [], []⟩)
  | _ => (u, ⟨stUnrecovered, 0, List.replicate 4096 0#8, []⟩)

theorem State.readBlock_of_mapped {a : Nat} (hns : c.ns ≠ 4) (ha : s.nsAddr c.ns c.slba = some a) :
    s.readBlock c c.slba ⟨stOk, 0, [], []⟩ = readOutcome ((s.memReadAs c.early a 4096).1.spend 2 (s.moved a 4096))
      (s.memReadAs c.early a 4096).2.1 (s.memReadAs c.early a 4096).2.2 := by
  simp only [State.readBlock, if_neg hns, ha]
  cases (s.memReadAs c.early a 4096).2.1 <;> rfl

/-- What the host gets, by the status of the read (R452, R458). -/
theorem endPhase_readOutcome (u : State) (st : MStat) (d : List Byte) :
    (readOutcome u st d).1.endPhase c (readOutcome u st d).2 = match st with
      | .ok => u.endPhase c ⟨stOk, 0, d, []⟩
      | .range => u.endPhase c ⟨stOk, 0, d, []⟩
      | .notReady => u.finish c.q c.cid stNotReady 0
      | _ => (u.toHost c.q c.cid (List.replicate 4096 0#8)).finish c.q c.cid stUnrecovered 0 := by
  cases st <;> rfl

/-! ### Writes (R449, R451, R452) -/

theorem State.writePhase_of_refused (h : s.rangeErr c = stOk) (hw : (s.writeErr c).1 ≠ stOk) :
    s.writePhase c = (s, .err (s.writeErr c).1 (s.writeErr c).2) := (if_neg (not_not.mpr h)).trans (if_pos hw)

theorem State.writePhase_of_block (h : s.rangeErr c = stOk) (hw : s.writeErr c = (stOk, 0)) (hn : c.nlb = 1) :
    s.writePhase c = s.writeBlock c 0 ⟨stOk, 0, [], []⟩ := by
  refine (if_neg (not_not.mpr h)).trans ((if_neg (by rw [hw]; exact not_not.mpr rfl)).trans ?_)
  rw [hn, List.range_one, List.foldl_cons, List.foldl_nil]

theorem State.writeErr_of_readOnly (h : c.ns = 2 ∨ c.ns = 3) : s.writeErr c = (stReadOnly, 0) := if_pos h

theorem State.writeErr_of_table (hns : c.ns = 4) (hn : c.nlb = 1) : s.writeErr c =
    if s.tabErr (tabWin c.slba) ≠ 0 then (stSequence, s.tabErr (tabWin c.slba))
    else if s.tabUp (tabWin c.slba) = true then (stOk, 0) else (stReadOnly, 0) := by
  have hbs : (List.range c.nlb).map (c.slba + ·) = [c.slba] := by
    rw [hn, List.range_one, List.map_singleton, Nat.add_zero]
  rw [State.writeErr, if_neg (by omega), if_pos hns, hbs]
  by_cases h : s.tabErr (tabWin c.slba) = 0
  · simp [h]
  · simp [h]

theorem State.writeErr_of_memory {a : Nat} (hns : c.ns = 1 ∨ c.ns = 5) (hn : c.nlb = 1) (hp : s.partAt (c.slba * 4096) = none)
    (ha : s.nsAddr c.ns c.slba = some a) : s.writeErr c = (stOk, 0) := by
  have hbs : (List.range c.nlb).map (c.slba + ·) = [c.slba] := by
    rw [hn, List.range_one, List.map_singleton, Nat.add_zero]
  rw [State.writeErr, if_neg (by omega), if_neg (by omega), hbs]
  simp [hp, ha]

theorem slice_data {d : List Byte} (h : d.length = 4096) :
    slice (d ++ List.replicate (4096 * (0 + 1)) 0#8) (4096 * 0) 4096 = d := by
  rw [slice_append_left _ (by omega), Nat.mul_zero, ← h, slice_zero]

theorem State.writeBlock_of_table (hns : c.ns = 4) (hlen : c.data.length = 4096) (r : DataRes) :
    s.writeBlock c 0 r = (s.writeTab (tabWin c.slba) c.data, r) := by
  rw [State.writeBlock, slice_data hlen, Nat.add_zero]
  exact if_pos hns

theorem State.writeBlock_of_memory (hns : c.ns ≠ 4) (hlen : c.data.length = 4096)
    (hst : s.burstStat c.early (c.slba * 4096) = .ok) : s.writeBlock c 0 ⟨stOk, 0, [], []⟩ =
      (s.request 2 true (c.slba * 4096) 4096 c.data true c.early,
        ⟨stOk, 0, [], [(s.request 2 true (c.slba * 4096) 4096 c.data true c.early).mem.lockN]⟩) := by
  rw [State.writeBlock, slice_data hlen, if_neg hns, Nat.add_zero, hst]
  rfl

theorem State.endPhase_of_lock (n : Nat) : s.endPhase c ⟨stOk, 0, [], [n]⟩ =
    (s.modNcmd c.q c.cid (fun d => { d with st := 2, early := false, locks := [n] })).finishWrites := rfl

/-! ### Flush (R455) -/

/-- A write of queue `q` that came before the command is outstanding. -/
def State.writesBefore (s : State) (q : Nat) (cid : BitVec 16) : Bool :=
  (s.hst.cmds.takeWhile fun d => !(d.q == q && d.cid == cid)).any fun d => d.q == q && d.op == 1

theorem State.nvmFlush_of_ncmd {q : Nat} (hc : s.ncmd q cid = some c) : s.nvmFlush q cid =
    if c.op ≠ 0 ∨ q = 0 ∨ c.st ≠ 0 ∨ s.starts = false then s
    else if 3 ≤ s.pwr.loss then s.finish q cid stNotReady 0
    else if c.ns ≠ 0xFFFFFFFF ∧ s.nsActive c.ns = false then s.finish q cid stNamespace 0
    else if s.writesBefore q cid then s
    else s.finish q cid stOk 0 := by
  rw [State.nvmFlush, hc]
  rfl

theorem State.writesBefore_of_none {q : Nat} (h : ∀ d ∈ s.hst.cmds, d.q = q → d.op ≠ 1) : s.writesBefore q cid = false := by
  refine Bool.eq_false_iff.mpr fun hb => ?_
  obtain ⟨d, hd, hsel⟩ := List.any_eq_true.mp hb
  obtain ⟨hq, hop⟩ := Bool.and_eq_true_iff.mp hsel
  exact h d ((List.takeWhile_prefix _).subset hd) (beq_iff_eq.mp hq) (beq_iff_eq.mp hop)

theorem State.writesBefore_of_first {q : Nat} {d : NCmd} {l : List NCmd} (h : s.hst.cmds = d :: l) (hq : d.q = q) (hop : d.op = 1)
    (hd : d.cid ≠ cid) : s.writesBefore q cid = true := by
  have hkeep : (!(d.q == q && d.cid == cid)) = true := by simp [hd]
  rw [State.writesBefore, h, List.takeWhile_cons_of_pos (p := fun d : NCmd => !(d.q == q && d.cid == cid)) hkeep, List.any_cons]
  simp [hq, hop]

/-! ### The obligation -/

theorem State.sq_of_sqs {q : Nat} (h : t.hst.sqs = s.hst.sqs) : t.sq q = s.sq q := by rw [State.sq, h, State.sq]

theorem State.finish_of_opcode (q : Nat) (cid : BitVec 16) : s.finish q cid stOpcode 0 = s.complete q cid stOpcode true 0#32 := rfl

/-- A command fetched in its turn (R447). -/
theorem State.fetched_holds {q k : Nat} {cr : List Nat} {x : Sq} (sqe data : List Byte) :
    let t := (s.turned q k cr x).fetched q sqe data
    t.hst.cmds = s.hst.cmds ++ [⟨q, BitVec.ofNat 16 (leAt sqe 2 2), sqe, data, 0, false, [], none⟩] ∧
    t.sq q = some { x with head := (x.head + 1) % max 1 x.size } ∧ t.hst.credit = cr ∧
    t.rd rHstCommands = satAdd (s.rd rHstCommands) 1 := by
  refine ⟨rfl, ?_, rfl, (State.rd_wr_same ..).trans rfl⟩
  have h : ((s.turned q k cr x).fetched q sqe data).hst.sqs = (s.turned q k cr x).hst.sqs := rfl
  exact (State.sq_of_sqs h).trans (State.sq_setSq_same ..)

theorem zeroBlock_ne_nil : List.replicate 4096 0#8 ≠ [] := by
  rw [Ne, List.replicate_eq_nil_iff]
  decide

theorem stSequence_ne_stOk : stSequence ≠ stOk := by decide

theorem stReadOnly_ne_stOk : stReadOnly ≠ stOk := by decide

/-- Settles O47. -/
theorem nvmeTeller : Obligations.NvmeTeller := by
  refine ⟨fun s q v x hx hv hq => ?_, fun s v x hx hv => ?_, fun s q v x hx hv => ?_, fun s off v h => ?_, fun s q v hx => ?_,
    fun s q k cr x sqe data ht hx hf hn hlen hbad hq => ?_, fun s q l u k cr ht hu => ?_, fun s q sqe data hlen hbad hq => ?_,
    fun s q cid c hc hst hq hop hl htel hcnt hov hpwr hup => ?_, fun s q cid c hc hst hq hop hl => ?_,
    fun s q cid c hc hl h => ?_, fun s q cid c hc hst hop hres hr hw => ?_, fun s q cid c a hc hst hop hres hr hn hns ha hw => ?_,
    fun s q cid c hc hst hop hres hr hn hns ha hw => ?_, fun s q cid hm hw => ?_, fun s q cid c hc hst hop hres hr hns => ?_,
    fun s q cid c hc hst hop hres hr hn hns hte => ?_, fun s q cid c hc hst hop hres hr hn hns hte hup hlen => ?_,
    fun s u q cid c a hc hst hop hres hr hn hns hp ha hlen hb hu => ?_, fun s q cid c hc hop hq hst htel hl hns hnone => ?_,
    fun s q cid c d l hcs hdq hdop hd hc hl hns => ?_⟩
  · have hrun := State.doorbell_tail (s := s) q v
    simp only [hx, hv, if_true, if_neg hq] at hrun
    exact .of_eq rfl hrun ⟨State.sq_setSq_same .., rfl⟩
  · have hrun := State.doorbell_tail (s := s) 0 v
    rw [show s.sq (0 : Fin 65) = some x from hx] at hrun
    simp only [hv, if_true] at hrun
    exact .of_eq rfl hrun ⟨State.sq_setSq_same .., rfl⟩
  · have hrun := State.doorbell_head (s := s) q v
    simp only [hx, hv, if_true] at hrun
    exact .of_eq rfl hrun ⟨State.cq_setCq_same .., rfl, rfl⟩
  · exact .of_eq rfl (State.doorbell_of_outside h) rfl
  · have hrun := State.doorbell_tail (s := s) q v
    rw [hx] at hrun
    exact .of_eq rfl hrun rfl
  · exact .of_eq rfl ((State.commandFetch_of_turn ht hx hf hn).trans (congrArg State.refuseIo (State.takeCmd_of_io hlen hbad hq)))
      (State.fetched_holds sqe data)
  · exact .of_eq rfl (State.commandFetch_of_other ht hu) rfl
  · exact ⟨s.fetched q sqe data, rfl, (State.takeCmd_of_bad hlen hbad hq).trans (State.finish_of_opcode ..)⟩
  · have hwait : ¬(s.starts = false ∨ 8 ≤ s.hst.cmds.countP (fun d => d.st == 1) ∨ s.overlapped c = true ∨
        3 ≤ s.fld rHstPwr 0 3 ∨ s.hostUp = false) := by
      rw [State.starts_iff.mpr htel, hov, hup]
      simp only [Bool.true_eq_false, Bool.false_eq_true, false_or, or_false]
      omega
    refine .of_eq rfl ((State.transferStart_of_ncmd hc).trans ((if_neg ?_).trans ((if_neg (not_le.mpr hl)).trans (if_neg hwait))))
      ⟨State.modNcmd_ncmd (f := fun d => { d with st := 1, early := true }) (fun c => ⟨rfl, rfl⟩) hc, rfl⟩
    exact not_or.mpr ⟨not_not.mpr hst, not_or.mpr ⟨hq, not_not.mpr hop⟩⟩
  · refine .of_eq rfl ((State.transferStart_of_ncmd hc).trans ((if_neg ?_).trans (if_pos hl))) rfl
    exact not_or.mpr ⟨not_not.mpr hst, not_or.mpr ⟨hq, not_not.mpr hop⟩⟩
  · have hwait : s.starts = false ∨ 8 ≤ s.hst.cmds.countP (fun d => d.st == 1) ∨ s.overlapped c = true ∨
        3 ≤ s.fld rHstPwr 0 3 ∨ s.hostUp = false := by
      obtain h | h | h := h
      · exact .inl (Bool.eq_false_iff.mpr fun hs => h (State.starts_iff.mp hs))
      · exact .inr (.inl h)
      · exact .inr (.inr (.inl h))
    have hrun := State.transferStart_of_ncmd hc
    rw [if_neg (not_le.mpr hl), if_pos hwait, ite_self] at hrun
    exact .of_eq rfl hrun rfl
  · have hrun := State.nvmRead_of_ncmd hc hst hop hres hw
    rw [State.readPhase_of_range hr] at hrun
    exact .of_eq rfl (hrun.trans (State.endPhase_of_error ..)) rfl
  · have hrun := State.nvmRead_of_ncmd hc hst hop hres hw
    rw [State.readPhase_of_block hr hn, State.readBlock_of_mapped hns ha] at hrun
    refine ⟨_, rfl, ?_⟩
    generalize s.nvmRead q cid = t at hrun ⊢
    generalize s.moved a 4096 = k at hrun ⊢
    generalize s.memReadAs c.early a 4096 = r at hrun ⊢
    obtain ⟨u, st, d⟩ := r
    rw [endPhase_readOutcome] at hrun
    cases st with
    | ok => exact fun hd => hrun.trans (State.endPhase_of_data hd stOk)
    | range => exact fun hd => hrun.trans (State.endPhase_of_data hd stOk)
    | notReady => exact hrun
    | poison => exact hrun
    | fenced => exact hrun
  · have hrun := State.nvmRead_of_ncmd hc hst hop hres hw
    rw [State.readPhase_of_block hr hn, State.readBlock_of_unmapped hns ha] at hrun
    refine .of_eq rfl (hrun.trans ?_) rfl
    rw [List.nil_append]
    exact State.endPhase_of_data zeroBlock_ne_nil stOk
  · exact .of_eq rfl (State.nvmRead_of_waiting hm hw) rfl
  · have hrun := State.nvmWrite_of_ncmd hc hst hop hres
    have hw := State.writeErr_of_readOnly (s := s) hns
    rw [State.writePhase_of_refused hr (ne_of_eq_of_ne (congrArg Prod.fst hw) stReadOnly_ne_stOk), hw] at hrun
    exact .of_eq rfl (hrun.trans (State.endPhase_of_error ..)) rfl
  · have hrun := State.nvmWrite_of_ncmd hc hst hop hres
    have hw := (State.writeErr_of_table (s := s) hns hn).trans (if_pos hte)
    rw [State.writePhase_of_refused hr (ne_of_eq_of_ne (congrArg Prod.fst hw) stSequence_ne_stOk), hw] at hrun
    exact .of_eq rfl (hrun.trans (State.endPhase_of_error ..)) rfl
  · have hrun := State.nvmWrite_of_ncmd hc hst hop hres
    have hw := (State.writeErr_of_table (s := s) hns hn).trans ((if_neg (not_not.mpr hte)).trans (if_pos hup))
    rw [State.writePhase_of_block hr hw hn, State.writeBlock_of_table hns hlen] at hrun
    exact .of_eq rfl (hrun.trans (State.endPhase_of_error stOk 0)) (State.finish_of_done ..)
  · have hrun := State.nvmWrite_of_ncmd hc hst hop hres
    rw [State.writePhase_of_block hr (State.writeErr_of_memory hns hn hp ha) hn,
      State.writeBlock_of_memory (by omega) hlen hb, ← hu] at hrun
    exact .of_eq rfl (hrun.trans (State.endPhase_of_lock _)) rfl
  · have hbusy : ¬(c.op ≠ 0 ∨ q.val = 0 ∨ c.st ≠ 0 ∨ s.starts = false) := by
      rw [State.starts_iff.mpr htel]
      simp [hop, hq, hst]
    have hact : ¬(c.ns ≠ 0xFFFFFFFF ∧ s.nsActive c.ns = false) := by
      rintro ⟨h1, h2⟩
      obtain h | h := hns
      · exact h1 h
      · exact Bool.false_ne_true (h2.symm.trans h)
    refine .of_eq rfl ((State.nvmFlush_of_ncmd hc).trans ((if_neg hbusy).trans ((if_neg (not_le.mpr hl)).trans
      ((if_neg hact).trans (if_neg ?_))))) (State.finish_of_done ..)
    rw [State.writesBefore_of_none hnone]
    decide
  · have hact : ¬(c.ns ≠ 0xFFFFFFFF ∧ s.nsActive c.ns = false) := fun h => Bool.false_ne_true (h.2.symm.trans hns)
    have hrun := State.nvmFlush_of_ncmd hc
    rw [if_neg (not_le.mpr hl), if_neg hact, State.writesBefore_of_first hcs hdq hdop hd, if_pos rfl, ite_self] at hrun
    exact .of_eq rfl hrun rfl

end Sys2Proof.Machine
end

section
/-! PROOF. The Frame Ledger, segments, and the exchange of the LUT banks. -/

namespace Sys2Proof.Machine

open Sys2Proof

variable {s t : State} {p : Nat}

/-! ### Partitions -/

@[simp] theorem State.setPart_part (v : Part) : (s.setPart p v).part p = v := Map.get_set_same ..

theorem State.part_of_parts (h : t.ing.parts = s.ing.parts) (k : Nat) : t.part k = s.part k := by rw [State.part, h, State.part]

theorem State.part_of_ing (h : t.ing = s.ing) (k : Nat) : t.part k = s.part k := State.part_of_parts (congrArg Ing.parts h) k

/-! ### Entries of the ledger (R266, R269) -/

/-- An entry with the flags of its partition's layout (R268). -/
def State.flagged (s : State) (p : Nat) (e : Entry) : Entry := { e with flags := e.flags ||| s.layoutFlags p }

/-- A partition after the entry `w` of its open segment has left or has been written (R269). -/
def State.ledgerPut (s : State) (p : Nat) (g : Seg) (w : Entry) : State :=
  let c := s.chainOf p g w
  let es := if w.freed then (s.part p).entries.filter (fun x => x.serial != w.serial)
    else updEntry (s.part p).entries w.serial (fun _ => { w with written := true, chain := c })
  (s.setPart p { s.part p with entries := es, seg := some (g.advance w c) }).portDrop w.serial

theorem State.ledgerPut_holds (g : Seg) (w : Entry) : (s.ledgerPut p g w).mem = s.mem ∧ (s.ledgerPut p g w).regs = s.regs ∧
    (s.ledgerPut p g w).part p = { s.part p with
      entries := if w.freed then (s.part p).entries.filter (fun x => x.serial != w.serial)
        else updEntry (s.part p).entries w.serial (fun _ => { w with written := true, chain := s.chainOf p g w })
      seg := some (g.advance w (s.chainOf p g w)) } :=
  ⟨rfl, rfl, (State.part_of_parts rfl p).trans (State.setPart_part _)⟩

/-- No strip headers come before the entry. -/
def State.headless (s : State) (p : Nat) (e : Entry) : Prop :=
  (s.strLayout (s.fld (rIngPartCfg p) 16 6) == 2 && e.kind == 1 && !e.freed) = false

section
variable {e : Entry} {g : Seg} (hg : (s.part p).seg = some g) (hh : s.headless p e)
include hg hh

theorem State.writeEntry_eq : s.writeEntry p e =
    if e.freed then s.ledgerPut p g (s.flagged p e)
    else
      let s3 := ((s.ledgerPut p g (s.flagged p e)).memWrite (s.ledgerAddr p e.idx)
        ((s.flagged p e).bytes (s.chainOf p g (s.flagged p e)))).1
      if s.strLayout (s.fld (rIngPartCfg p) 16 6) == 2 && (e.kind == 1 || e.kind == 2) then
        (s3.memWrite (s.annexAddr + s.fld (rIngPartIbase p) 0 24 * 4096 + 32 * e.idx) (legacyEntry (s.flagged p e)
          (s.strW (s.fld (rIngPartCfg p) 16 6)) (s.strH (s.fld (rIngPartCfg p) 16 6)))).1
      else s3 := by
  unfold State.writeEntry
  simp only [hg, show (s.strLayout (s.fld (rIngPartCfg p) 16 6) == 2 && e.kind == 1 && !e.freed) = false from hh, Bool.false_eq_true,
    if_false]
  rfl

theorem State.writeEntry_of_freed (hf : e.freed = true) : s.writeEntry p e = s.ledgerPut p g (s.flagged p e) :=
  (State.writeEntry_eq hg hh).trans (if_pos hf)

variable (hf : e.freed = false)
include hf

theorem State.writeEntry_of_plain (hl : s.strLayout (s.fld (rIngPartCfg p) 16 6) ≠ 2) : s.writeEntry p e =
    ((s.ledgerPut p g (s.flagged p e)).memWrite (s.ledgerAddr p e.idx)
      ((s.flagged p e).bytes (s.chainOf p g (s.flagged p e)))).1 :=
  (State.writeEntry_eq hg hh).trans ((if_neg (by simp [hf])).trans (if_neg (by simp [hl])))

theorem State.writeEntry_of_strip (hl : s.strLayout (s.fld (rIngPartCfg p) 16 6) = 2) (hk : e.kind = 2) : s.writeEntry p e =
    (((s.ledgerPut p g (s.flagged p e)).memWrite (s.ledgerAddr p e.idx)
      ((s.flagged p e).bytes (s.chainOf p g (s.flagged p e)))).1.memWrite
      (s.annexAddr + s.fld (rIngPartIbase p) 0 24 * 4096 + 32 * e.idx) (legacyEntry (s.flagged p e)
        (s.strW (s.fld (rIngPartCfg p) 16 6)) (s.strH (s.fld (rIngPartCfg p) 16 6)))).1 :=
  (State.writeEntry_eq hg hh).trans ((if_neg (by simp [hf])).trans (if_pos (by simp [hl, hk])))

end

theorem execLedgerEntryWrite_of_idle {part : Fin 32} (h : (s.part part).ready = none ∨ s.unitLive 3 9 = false) :
    execLedgerEntryWrite part s = .next s := by
  unfold execLedgerEntryWrite
  obtain h | h := h
  · rw [h]
    cases s.unitLive 3 9 <;> rfl
  · rw [h]

theorem execLedgerEntryWrite_of_ready {part : Fin 32} {e : Entry} (hl : s.unitLive 3 9 = true) (h : (s.part part).ready = some e) :
    execLedgerEntryWrite part s = .next (s.writeEntry part e) := by
  unfold execLedgerEntryWrite
  rw [hl, h]

/-! ### The end of a segment (R262) -/

/-- The state behind the close of a segment, before the stream goes IDLE (R262). -/
def State.segClosed (s : State) (p : Nat) : State :=
  let i := s.fld (rIngPartCfg p) 16 6
  (((s.closeSeg p).wr (rSchStrSeg i) (satAdd (s.rd (rSchStrSeg i)) 1)).raiseLin 0x076 1 (s.schStr i).lin).setSchStr i
    { s.schStr i with lin := 0#64, reopen := false, trig := none }

theorem State.segmentClose_of_unwritten {g : Seg} (hg : (s.part p).seg = some g)
    (h : (s.part p).entries.any (fun e => e.seg == g.num && !e.written) = true) : s.segmentClose p = (s, false) := by
  simp only [State.segmentClose, hg]
  exact if_pos (by simp [h])

theorem State.segmentClose_of_written {g : Seg} (hg : (s.part p).seg = some g) (hw : s.winState (s.fld (rIngPartCfg p) 16 6) = 3)
    (hp : s.partOf (s.fld (rIngPartCfg p) 16 6) = some p) (hl : s.unitLive 3 9 = true)
    (h : (s.part p).entries.any (fun e => e.seg == g.num && !e.written) = false) (hatt : s.attested p = false)
    (hre : (s.schStr (s.fld (rIngPartCfg p) 16 6)).reopen = false) :
    s.segmentClose p = ((s.segClosed p).setWin (s.fld (rIngPartCfg p) 16 6) 0, true) := by
  have hguard : ¬((s.winState (s.fld (rIngPartCfg p) 16 6) != 3 || s.partOf (s.fld (rIngPartCfg p) 16 6) != some p ||
      !s.unitLive 3 9 || (s.part p).entries.any (fun e => e.seg == g.num && !e.written)) = true) := by
    rw [hw, hp, hl, h]
    simp
  simp only [State.segmentClose, hg]
  refine (if_neg hguard).trans ((if_neg (by simp [hatt])).trans (if_neg ?_))
  rw [hre]
  decide

theorem State.winState_setWin {i st : Nat} (hst : st < 16) : (s.setWin i st).winState i = st := by
  have hne : rDevCfgStat ≠ rSchStrStat i := by
    unfold rDevCfgStat rSchStrStat
    omega
  exact (State.fld_setBit_ne _ _ _ _ hne).trans ((State.fld_setFld_same _ _ _ _ _ (by decide)).trans (Nat.mod_eq_of_lt hst))

theorem execSegmentClose_of_segmentClose {part : Fin 32} {u : State} (h : s.segmentClose part = (u, false)) :
    execSegmentClose part s = .next u := by
  unfold execSegmentClose
  rw [h]
  rfl

theorem execSegmentClose_of_closed {part : Fin 32} {u : State}
    (h : s.segmentClose part = (u.setWin (s.fld (rIngPartCfg part) 16 6) 0, true)) : execSegmentClose part s =
      .next (((u.setWin (s.fld (rIngPartCfg part) 16 6) 0).commitStream (s.fld (rIngPartCfg part) 16 6)).lutSwap
        (s.fld (rIngPartCfg part) 16 6)).swapLook := by
  unfold execSegmentClose
  simp only [h, if_true]
  rw [if_pos (State.winState_setWin (by decide))]

/-! ### Release and erase (R264, R281) -/

section
variable {v : Word} (hl : s.unitLive 3 9 = true)
include hl

theorem State.partCmd_of_open {g : Seg} (h1 : v.getLsbD 1 = false) (h0 : v.getLsbD 0 = true) (hg : (s.part p).seg = some g)
    (hn : g.num = fget v 16 16) : s.partCmd p v = s.violation (rIngPartCmd p) :=
  (if_neg (by simp [hl])).trans ((if_neg (Bool.eq_false_iff.mp h1)).trans ((if_pos h0).trans (if_pos (by simp [hg, hn]))))

theorem State.partCmd_of_closed (h1 : v.getLsbD 1 = false) (h0 : v.getLsbD 0 = true) (hg : (s.part p).seg = none)
    (hc : fget v 16 16 ∈ (s.part p).closed) : s.partCmd p v = s.releaseSeg p (fget v 16 16) :=
  (if_neg (by simp [hl])).trans ((if_neg (Bool.eq_false_iff.mp h1)).trans ((if_pos h0).trans ((if_neg (by simp [hg])).trans
    (if_pos (by simpa using hc)))))

theorem State.partCmd_of_armed (ha : s.armed (s.fld (rIngPartCfg p) 16 6) = true) :
    s.partCmd p 2#32 = s.violation (rIngPartCmd p) :=
  (if_neg (by simp [hl])).trans ((if_pos (by decide)).trans (if_pos ha))

/-- A partition that has been erased: what its open segment holds stays (R264). -/
def State.erased (s : State) (p : Nat) : State :=
  let q := s.part p
  let out := q.entries.filter (fun e => !q.seg.any (fun g => g.num == e.seg))
  let s1 := (s.memWrite (s.ledgerAddr p 0) (List.replicate (128 * s.lcount p) 0#8)).1
  let s2 := s1.setPart p { q with
    entries := q.entries.filter (fun e => q.seg.any (fun g => g.num == e.seg)), closed := []
    next := if q.seg.isSome then q.next else 0, gone := q.gone ++ ((out.filter (·.kind == 1)).map (·.serial)) }
  (s2.setFld (rIngPartStat p) 16 9 0).setFld (rIngPartWptr p) 0 28 (s.fld (rIngPartBase p) 0 28)

theorem State.partCmd_of_erase (ha : s.armed (s.fld (rIngPartCfg p) 16 6) = false) : s.partCmd p 2#32 = s.erased p :=
  (if_neg (by simp [hl])).trans ((if_pos (by decide)).trans (if_neg (Bool.eq_false_iff.mp ha)))

end

/-- A partition put anew, with no closed segment and the write pointer at `n`. -/
theorem State.partCleared_holds (v : Part) (n : Nat) :
    let t := ((s.setPart p v).setFld (rIngPartStat p) 16 9 0).setFld (rIngPartWptr p) 0 28 n
    t.part p = v ∧ t.fld (rIngPartStat p) 16 9 = 0 ∧ t.fld (rIngPartWptr p) 0 28 = n % 2 ^ 28 := by
  have hne : rIngPartWptr p ≠ rIngPartStat p := by
    unfold rIngPartWptr rIngPartStat
    omega
  refine ⟨(State.part_of_ing (s := s.setPart p v) rfl p).trans (State.setPart_part v), ?_, ?_⟩
  · rw [State.fld_setFld_ne _ _ _ _ _ hne, State.fld_setFld_same _ _ _ _ _ (by decide), Nat.zero_mod]
  · exact State.fld_setFld_same _ _ _ _ _ (by decide)

theorem State.erased_holds : ((s.erased p).part p).entries =
      (s.part p).entries.filter (fun e => (s.part p).seg.any (fun g => g.num == e.seg)) ∧
    ((s.erased p).part p).closed = [] ∧ ((s.erased p).part p).next = (if (s.part p).seg.isSome then (s.part p).next else 0) ∧
    (s.erased p).fld (rIngPartStat p) 16 9 = 0 ∧ (s.erased p).fld (rIngPartWptr p) 0 28 = s.fld (rIngPartBase p) 0 28 := by
  unfold State.erased
  extract_lets q out s1 s2
  obtain ⟨hpart, hstat, hwptr⟩ := State.partCleared_holds (s := s1) (p := p) { q with
    entries := q.entries.filter (fun e => q.seg.any (fun g => g.num == e.seg)), closed := []
    next := if q.seg.isSome then q.next else 0, gone := q.gone ++ ((out.filter (·.kind == 1)).map (·.serial)) }
    (s.fld (rIngPartBase p) 0 28)
  exact ⟨congrArg Part.entries hpart, congrArg Part.closed hpart, congrArg Part.next hpart, hstat,
    hwptr.trans (Nat.mod_eq_of_lt (State.fld_lt _ 0 28))⟩

theorem State.releaseSeg_holds {k : Nat} (hg : (s.part p).seg = none) :
    ((s.releaseSeg p k).part p).entries = (s.part p).entries.filter (fun e => e.seg != k) ∧
    ((s.releaseSeg p k).part p).closed = (s.part p).closed.filter (· != k) ∧ (s.releaseSeg p k).mem = s.mem ∧
    ∀ r, r ≠ rIngPartStat p → (s.releaseSeg p k).rd r = s.rd r := by
  have hout (e : Entry) : (!(e.seg == k && !(s.part p).seg.any (fun g => g.num == k))) = (e.seg != k) := by
    rw [hg, Option.any_none, Bool.not_false, Bool.and_true]
    rfl
  unfold State.releaseSeg
  extract_lets q out s1
  have hpart : (s1.setFld (rIngPartStat p) 16 9 (q.closed.filter (· != k)).length).part p = s1.part p := State.part_of_ing rfl p
  rw [hpart, State.setPart_part]
  exact ⟨congrArg (fun f => List.filter f (s.part p).entries) (funext hout), rfl, rfl,
    fun r hr => (State.rd_setFld_other _ _ _ hr.symm).trans rfl⟩

/-! ### LUT banks (R304) -/

theorem pixStat_inj {c d : Nat} (h : rPixStat c = rPixStat d) : c = d := by
  unfold rPixStat at h
  omega

theorem ne_pixStat_of_mem {l : List Nat} {c d : Nat} (hc : c ∉ l) (hd : d ∈ l) : rPixStat d ≠ rPixStat c := by
  intro h
  rw [pixStat_inj h] at hd
  exact hc hd

theorem srcCluster_swapped (c : Fin 4) : srcCluster (0x094 + 8 * c) < 16 := by
  revert c
  decide

theorem pixStat_fence {d x u : Nat} (hx : srcCluster x < 16) (hu : u < 64) : rPixStat d ≠ rDevFenceU (2 * srcCluster x + u / 32) := by
  unfold rPixStat rDevFenceU
  omega

theorem State.mem_servers_of_lead {i c : Nat} (h : s.lead i = some c) : c ∈ s.servers i := List.mem_of_mem_head? h

/-- The banks of one cluster exchange (R304). -/
def State.bankTurned (s : State) (c : Nat) : State :=
  (((s.setBit (rPixStat c) 4 (!s.bit (rPixStat c) 4)).setBit (rPixStat c) 0 false).raise (0x094 + 8 * c) 1)

theorem State.bankTurned_same (c : Nat) : (s.bankTurned c).bit (rPixStat c) 0 = false ∧
    (s.bankTurned c).bit (rPixStat c) 4 = !s.bit (rPixStat c) 4 := by
  refine ⟨(State.raise_bit ..).trans (State.bit_setBit_same _ _ _ _ (by decide)), (State.raise_bit ..).trans ?_⟩
  rw [State.bit_setBit_apart _ _ _ (by decide) (by decide), State.bit_setBit_same _ _ _ _ (by decide)]

theorem State.bankTurned_rd_other {c r : Nat} (h : rPixStat c ≠ r) : (s.bankTurned c).rd r = s.rd r :=
  (State.raise_rd ..).trans ((State.rd_setBit_other _ _ h).trans (State.rd_setBit_other _ _ h))

/-- Every cluster of a list without repetition turns its banks once. -/
theorem State.exchange_holds {l : List Nat} (hl : l.Nodup) {d : Nat} (hd : d ∈ l) :
    (s.forEach l State.bankTurned).bit (rPixStat d) 0 = false ∧
    (s.forEach l State.bankTurned).bit (rPixStat d) 4 = !s.bit (rPixStat d) 4 := by
  induction l generalizing s with
  | nil => cases hd
  | cons c l ih =>
    obtain ⟨hc, hl⟩ := List.nodup_cons.mp hl
    obtain rfl | hd := List.mem_cons.mp hd
    · have hkeep : ((s.bankTurned d).forEach l State.bankTurned).rd (rPixStat d) = (s.bankTurned d).rd (rPixStat d) :=
        List.foldlRecOn (motive := fun t : State => t.rd (rPixStat d) = (s.bankTurned d).rd (rPixStat d)) _ _ rfl
          fun t ht e he => (State.bankTurned_rd_other (ne_pixStat_of_mem hc he)).trans ht
      obtain ⟨h0, h4⟩ := State.bankTurned_same (s := s) d
      exact ⟨(State.bit_of_rd hkeep).trans h0, (State.bit_of_rd hkeep).trans h4⟩
    · have hne : rPixStat c ≠ rPixStat d := fun h => hc (by rwa [pixStat_inj h])
      obtain ⟨h0, h4⟩ := ih (s := s.bankTurned c) hl hd
      exact ⟨h0, h4.trans (congrArg not (State.bit_of_rd (State.bankTurned_rd_other hne)))⟩

section
variable {x u : Nat} (hx : srcCluster x < 16) (hu : u < 64)
include hx hu

theorem State.bankTurned_speaks (d : Nat) (h : s.speaks x u = true) : (s.bankTurned d).speaks x u = true :=
  (State.speaks_congr (s := s) (t := s.bankTurned d) x u ((State.raise_variant ..).trans rfl) ((State.raise_plane ..).trans rfl)
    (State.bankTurned_rd_other (pixStat_fence hx hu))).trans h

omit hx hu in
theorem State.bankTurned_heard (d : Nat) (h : s.hears x u = true) : (s.bankTurned d).hears x u = true := by
  have h1 := (State.hears_of_aud (State.setBit_aud s (rPixStat d) 4 (!s.bit (rPixStat d) 4)) x u).trans h
  exact State.raise_heard ((State.hears_of_aud (State.setBit_aud _ (rPixStat d) 0 false) x u).trans h1)

end

theorem State.bankTurned_hears {d : Nat} (hx : srcCluster (0x094 + 8 * d) < 16) (h : s.speaks (0x094 + 8 * d) 1 = true) :
    (s.bankTurned d).hears (0x094 + 8 * d) 1 = true :=
  State.raise_hears_of h rfl rfl ((State.rd_setBit_other _ _ (pixStat_fence hx (by decide))).trans
    (State.rd_setBit_other _ _ (pixStat_fence hx (by decide))))

/-- The exchange is heard at each cluster that can tell it. -/
theorem State.exchange_hears {l : List Nat} (c : Fin 4) (hc : c.val ∈ l) (h : s.speaks (0x094 + 8 * c) 1 = true) :
    (s.forEach l State.bankTurned).hears (0x094 + 8 * c) 1 = true := by
  have hx := srcCluster_swapped c
  induction l generalizing s with
  | nil => cases hc
  | cons d l ih =>
    obtain rfl | hc := List.mem_cons.mp hc
    · exact List.foldlRecOn (motive := fun t : State => t.hears (0x094 + 8 * c) 1 = true) l State.bankTurned (State.bankTurned_hears hx h)
        fun t ht e _ => State.bankTurned_heard e ht
    · exact ih hc (State.bankTurned_speaks hx (by decide) d h)

section
variable {c : Nat} {v : Word} (hl : s.unitLive (5 + c) 1 = true) (h0 : v.getLsbD 0 = true) (hen : s.bit (rPixCfg c) 31 = true)
include hl h0 hen

theorem State.pixSwap_of_other (h : s.lead (s.fld (rPixCfg c) 24 6) ≠ some c) : s.pixSwap c v = s.violation (rPixSwap c) :=
  (if_neg (by simp only [hl, h0]; decide)).trans ((if_neg (by simp [hen])).trans (if_pos (bne_iff_ne.mpr h)))

variable (hlead : s.lead (s.fld (rPixCfg c) 24 6) = some c)
include hlead

theorem State.pixSwap_of_armed (ha : s.armed (s.fld (rPixCfg c) 24 6) = true) :
    s.pixSwap c v = s.forEach (s.servers (s.fld (rPixCfg c) 24 6)) (fun t d => t.setBit (rPixStat d) 0 true) :=
  (if_neg (by simp only [hl, h0]; decide)).trans ((if_neg (by simp [hen])).trans ((if_neg (by simp [hlead])).trans (if_pos ha)))

theorem State.pixSwap_of_idle (ha : s.armed (s.fld (rPixCfg c) 24 6) = false) :
    s.pixSwap c v = s.forEach (s.servers (s.fld (rPixCfg c) 24 6)) State.bankTurned :=
  (if_neg (by simp only [hl, h0]; decide)).trans ((if_neg (by simp [hen])).trans ((if_neg (by simp [hlead])).trans
    (if_neg (Bool.eq_false_iff.mp ha))))

end

/-- The exchange waits at each cluster of an armed stream (R304). -/
theorem State.swapWaits_holds {l : List Nat} {d : Nat} (hd : d ∈ l) :
    (s.forEach l fun t d => t.setBit (rPixStat d) 0 true).bit (rPixStat d) 0 = true ∧
    (s.forEach l fun t d => t.setBit (rPixStat d) 0 true).bit (rPixStat d) 4 = s.bit (rPixStat d) 4 := by
  refine ⟨State.forEach_brings (P := fun t : State => t.bit (rPixStat d) 0 = true) hd
    (fun t => State.bit_setBit_same _ _ _ _ (by decide)) fun t e ht => ?_, ?_⟩
  · by_cases h : rPixStat e = rPixStat d
    · rw [h]
      exact State.bit_setBit_same _ _ _ _ (by decide)
    · exact (State.bit_setBit_ne _ _ _ h).trans ht
  · refine List.foldlRecOn (motive := fun t : State => t.bit (rPixStat d) 4 = s.bit (rPixStat d) 4) _ _ rfl fun t ht e _ => ?_
    by_cases h : rPixStat e = rPixStat d
    · rw [h, State.bit_setBit_apart _ _ _ (by decide) (by decide)]
      exact ht
    · exact (State.bit_setBit_ne _ _ _ h).trans ht

theorem exec_of_reached_ing {c : Instr} {u : State} (h : s.reaches 3 = true)
    (hc : exec c s = if !s.reaches 3 then .next s else .next u) : exec c s = .next u := hc.trans (if_neg (by simp [h]))

theorem exec_of_reached_pix {c : Instr} {u : State} (h : s.reaches 5 = true)
    (hc : exec c s = if !s.reaches 5 then .next s else .next u) : exec c s = .next u := hc.trans (if_neg (by simp [h]))

/-- Settles O39. -/
theorem ledgerAndSegments : Obligations.LedgerAndSegments := by
  refine ⟨fun s p h => .of_eq (execLedgerEntryWrite_of_idle h) rfl rfl, fun s p e g hl hr hg hlay hf => ?_,
    fun s p e g hl hr hg hf => ?_, fun s p e g hl hr hg hlay hf hk => ?_, fun s p i g hi hg hw hp hl hall hatt hre => ?_,
    fun s p e g hg he hseg hw => ?_, fun s p v hr hl h1 h0 hg hc => ?_, fun s p v g hr hl h1 h0 hg hn => ?_,
    fun s p hr hl ha => ?_, fun s p hr hl ha => ?_, fun s c v i hr hl h0 hen hi hlead ha => ?_,
    fun s c v i hr hl h0 hen hi hlead ha hnd => ?_, fun s c v hr hl h0 hen hlead => ?_⟩
  · obtain ⟨hmem, hregs, hpart⟩ := State.ledgerPut_holds (s := s) (p := p) g (s.flagged p e)
    rw [if_neg (show ¬(s.flagged p e).freed = true from Bool.eq_false_iff.mp hf)] at hpart
    have hh : s.headless p e := by simp [State.headless, hlay]
    exact .of_eq (execLedgerEntryWrite_of_ready hl hr) (State.writeEntry_of_plain hg hh hf hlay)
      ⟨s.ledgerPut p g (s.flagged p e), s.flagged p e, rfl, rfl, hmem, hregs, hpart⟩
  · obtain ⟨hmem, hregs, hpart⟩ := State.ledgerPut_holds (s := s) (p := p) g (s.flagged p e)
    rw [if_pos (show (s.flagged p e).freed = true from hf)] at hpart
    have hh : s.headless p e := by simp [State.headless, hf]
    exact .of_eq (execLedgerEntryWrite_of_ready hl hr) (State.writeEntry_of_freed hg hh hf)
      ⟨hmem, hregs, congrArg Part.entries hpart⟩
  · obtain ⟨hmem, -, -⟩ := State.ledgerPut_holds (s := s) (p := p) g (s.flagged p e)
    have hh : s.headless p e := by simp [State.headless, hk]
    exact .of_eq (execLedgerEntryWrite_of_ready hl hr) (State.writeEntry_of_strip hg hh hf hlay hk)
      ⟨s.ledgerPut p g (s.flagged p e), s.flagged p e, rfl, hmem, rfl⟩
  · subst hi
    exact .of_eq (t := s.segClosed p) (execSegmentClose_of_closed (State.segmentClose_of_written hg hw hp hl hall hatt hre)) rfl
      ⟨_, rfl, rfl⟩
  · have hany : (s.part p).entries.any (fun e => e.seg == g.num && !e.written) = true :=
      List.any_eq_true.mpr ⟨e, he, by simp [hseg, hw]⟩
    exact .of_eq (execSegmentClose_of_segmentClose (State.segmentClose_of_unwritten hg hany)) rfl rfl
  · exact .of_eq (exec_of_reached_ing hr rfl) (State.partCmd_of_closed hl h1 h0 hg hc) (State.releaseSeg_holds hg)
  · exact .of_eq (exec_of_reached_ing hr rfl) (State.partCmd_of_open hl h1 h0 hg hn) rfl
  · exact .of_eq (exec_of_reached_ing hr rfl) (State.partCmd_of_erase hl ha) State.erased_holds
  · exact .of_eq (exec_of_reached_ing hr rfl) (State.partCmd_of_armed hl ha) rfl
  · subst hi
    refine .of_eq (exec_of_reached_pix hr rfl) (State.pixSwap_of_armed hl h0 hen hlead ha)
      ⟨fun d hd => State.swapWaits_holds hd, State.forEach_keeps State.pix (f := fun t d => t.setBit (rPixStat d) 0 true) (fun t d => rfl) _ _⟩
  · subst hi
    exact .of_eq (exec_of_reached_pix hr rfl) (State.pixSwap_of_idle hl h0 hen hlead ha)
      ⟨fun d hd => State.exchange_holds hnd hd, fun h => State.exchange_hears c (State.mem_servers_of_lead hlead) h⟩
  · exact .of_eq (exec_of_reached_pix hr rfl) (State.pixSwap_of_other hl h0 hen hlead) rfl

end Sys2Proof.Machine
end

section
/-! PROOF. Correlation jobs, tracked frames and gauges. -/

namespace Sys2Proof.Machine

open Sys2Proof

variable {s t : State} {j : Nat}

/-! ### Jobs -/

theorem State.corJob_of_cor (h : t.cor = s.cor) (j : Nat) : t.corJob j = s.corJob j := by rw [State.corJob, h, State.corJob]

theorem State.setCorJob_corJob (j : Nat) (v : CorJob) : (s.setCorJob j v).corJob j = v := Map.get_set_same ..

theorem State.setCorJob_cur (j : Nat) (v : CorJob) : (s.setCorJob j v).cor.cur = s.cor.cur := rfl

/-- No register of COR is one of the fences. -/
theorem corReg_ne_fence {r x u : Nat} (hr : 0x2420000 ≤ r) (hx : srcCluster x < 16) (hu : u < 64) :
    r ≠ rDevFenceU (2 * srcCluster x + u / 32) := by
  unfold rDevFenceU
  omega

theorem corJStat_le (j : Nat) : 0x2420000 ≤ rCorJStat j := by
  unfold rCorJStat
  omega

/-- The job `j` becomes `q`, and its status tells the state and the error. -/
def State.jobMarked (s : State) (j : Nat) (q : CorJob) (st err : Nat) : State :=
  ((s.setCorJob j q).setFld (rCorJStat j) 28 4 st).setFld (rCorJStat j) 24 4 err

theorem State.setFld_top (a st err : Nat) : ((s.setFld a 28 4 st).setFld a 24 4 err).fld a 28 4 = st % 16 :=
  (State.fld_setFld_apart 24 4 err 28 4 (by decide)).trans (State.fld_setFld_same _ _ _ _ _ (by decide))

theorem State.jobMarked_holds (j : Nat) (q : CorJob) (st err : Nat) : (s.jobMarked j q st err).corState j = st % 16 ∧
    (s.jobMarked j q st err).fld (rCorJStat j) 24 4 = err % 16 ∧ (s.jobMarked j q st err).corJob j = q :=
  ⟨State.setFld_top .., State.fld_setFld_same _ _ _ _ _ (by decide),
    (State.corJob_of_cor (s := s.setCorJob j q) rfl j).trans (State.setCorJob_corJob ..)⟩

theorem State.jobMarked_rd_other {r : Nat} (h : rCorJStat j ≠ r) (q : CorJob) (st err : Nat) :
    (s.jobMarked j q st err).rd r = s.rd r :=
  (State.rd_setFld_other _ _ _ h).trans ((State.rd_setFld_other _ _ _ h).trans (State.rd_setFld_other _ _ _ h))

theorem corJStat_ne_fence (j : Nat) : rCorJStat j ≠ rDevFenceU (2 * srcCluster 0x0B9 + 2 / 32) :=
  corReg_ne_fence (corJStat_le j) (by decide) (by decide)

theorem State.corError_of_free (hcur : s.cor.cur = none) (j e : Nat) :
    s.corError j e = (s.jobMarked j { CorJob.init with seq := (s.corJob j).seq } 4 e).raise 0x0B9 2 := by
  unfold State.corError
  rw [hcur]
  rfl

/-- A job in ERROR says so, names the error and keeps its sequence count alone. -/
theorem State.corError_holds (hcur : s.cor.cur = none) (j e : Nat) :
    (s.corError j e).corState j = 4 ∧ (s.corError j e).fld (rCorJStat j) 24 4 = e % 16 ∧
    (s.corError j e).corJob j = { CorJob.init with seq := (s.corJob j).seq } ∧
    (s.speaks 0x0B9 2 = true → (s.corError j e).hears 0x0B9 2 = true) := by
  obtain ⟨hst, herr, hjob⟩ := State.jobMarked_holds (s := s) j { CorJob.init with seq := (s.corJob j).seq } 4 e
  rw [State.corError_of_free hcur]
  refine ⟨(State.raise_fld ..).trans hst, (State.raise_fld ..).trans herr,
    (State.corJob_of_cor (State.raise_cor ..) j).trans hjob, fun h => ?_⟩
  exact State.raise_hears_of h rfl rfl (State.jobMarked_rd_other (corJStat_ne_fence j) _ _ _)

/-- What a job begins with (R326): a copy of the reference frame's head and layout, where it has one. -/
theorem State.corBegin_holds (j : Nat) : (s.corBegin j).corState j = 1 ∧ (s.corBegin j).fld (rCorJStat j) 24 4 = 0 ∧
    (∀ e, s.corPiv j = false → s.refEntry j = some e → (s.corBegin j).corJob j =
      { CorJob.init with refHead := e.head, refLay := s.slotLay (s.corStream j) e.flags }) ∧
    (s.corPiv j = true ∨ s.refEntry j = none → (s.corBegin j).corJob j = CorJob.init) := by
  unfold State.corBegin
  extract_lets w s1 s2 s3 ini q
  clear_value s3
  obtain ⟨hst, herr, hjob⟩ := State.jobMarked_holds (s := s3) j q 1 0
  refine ⟨hst, herr, fun e hp he => hjob.trans ?_, fun h => hjob.trans ?_⟩
  · simp only [q, hp, he]
  · obtain hp | he := h
    · simp only [q, hp]
    · cases hp : s.corPiv j <;> simp only [q, hp, he]

theorem State.corIdle_of_error (h : s.corState j = 4) : (s.corIdle j).corState j = 0 ∧
    (s.corIdle j).corJob j = { CorJob.init with seq := (s.corJob j).seq } := by
  unfold State.corIdle
  extract_lets st s1
  rw [if_neg (show ¬(st = 2 ∨ st = 3) by simp [st, h])]
  exact ⟨State.fld_setFld_same _ _ _ _ _ (by decide),
    (State.corJob_of_cor (s := s.setCorJob j { CorJob.init with seq := (s.corJob j).seq }) rfl j).trans (State.setCorJob_corJob ..)⟩

section
variable (hup : s.corUp = true)
include hup

theorem State.jobStart_of_busy (h : s.corState j = 1 ∨ s.corState j = 2 ∨ s.corState j = 3) :
    s.jobStart j = s.violation (rCorJCmd j) := by
  refine (if_neg (by simp [hup])).trans (if_pos ?_)
  obtain h | h | h := h <;> simp [h]

theorem State.jobStart_of_error (h : s.corState j = 0) (he : (s.setFld (rCorJStat j) 28 4 0).startErr j ≠ 0) :
    s.jobStart j = ((s.setFld (rCorJStat j) 28 4 0).corError j ((s.setFld (rCorJStat j) 28 4 0).startErr j)).syncCor :=
  (if_neg (by simp [hup])).trans ((if_neg (by simp [h])).trans (congrArg State.syncCor (if_pos (bne_iff_ne.mpr he))))

theorem State.jobStart_of_good (h : s.corState j = 0) (he : (s.setFld (rCorJStat j) 28 4 0).startErr j = 0) :
    s.jobStart j = ((s.setFld (rCorJStat j) 28 4 0).corBegin j).syncCor :=
  (if_neg (by simp [hup])).trans ((if_neg (by simp [h])).trans (congrArg State.syncCor (if_neg (by simp [he]))))

theorem State.jobStop_of_error (h : s.corState j = 4) : s.jobStop j = (s.corIdle j).syncCor :=
  (if_neg (by simp [hup])).trans (if_pos h)

theorem State.jobStop_of_idle (h : s.corState j = 0) : s.jobStop j = s :=
  (if_neg (by simp [hup])).trans ((if_neg (by simp [h])).trans (if_pos h))

theorem State.jobStop_of_busy (h : s.corState j = 1 ∨ s.corState j = 2 ∨ s.corState j = 3) :
    s.jobStop j = (s.setCorJob j { s.corJob j with stop := true }).corRun := by
  have h4 : s.corState j ≠ 4 := by omega
  have h0 : s.corState j ≠ 0 := by omega
  exact (if_neg (by simp [hup])).trans ((if_neg h4).trans (if_neg h0))

section
variable (hst : s.corState j = 1) (hw : s.bulkWaits 0 = false) (hpost : s.corPost j = false)
include hst hw hpost

theorem State.prepDone_of_piv (hp : s.corPiv j = true) : s.prepDone j = (s.setFld (rCorJStat j) 28 4 2).corRun := by
  rw [State.prepDone, if_neg (by simp [hup, hst, hw])]
  exact congrArg State.corRun ((if_neg (Bool.eq_false_iff.mp hpost)).trans
    (congrArg (State.setFld · (rCorJStat j) 28 4 2) (if_pos hp)))

theorem State.prepDone_of_reference (hp : s.corPiv j = false) : s.prepDone j =
    ((s.forEach (s.corCtxs j) fun t k => t.prepCtx j k (s.refSurf j 0)).setFld (rCorJStat j) 28 4 2).corRun := by
  rw [State.prepDone, if_neg (by simp [hup, hst, hw])]
  exact congrArg State.corRun ((if_neg (Bool.eq_false_iff.mp hpost)).trans
    (congrArg (State.setFld · (rCorJStat j) 28 4 2) (if_neg (Bool.eq_false_iff.mp hp))))

end
end

theorem State.prepDone_waits (h : s.corState j ≠ 1 ∨ s.bulkWaits 0 = true) : s.prepDone j = s := by
  refine if_pos ?_
  obtain h | h := h <;> simp [h]

theorem exec_of_reached_cor {c : Instr} {u : State} (h : s.reaches 9 = true)
    (hc : exec c s = if !s.reaches 9 then .next s else .next u) : exec c s = .next u := hc.trans (if_neg (by simp [h]))

/-! ### The end of a tracked frame (R345 to R347) -/

section
variable {f : CorFrame} (hf : s.cor.cur = some f)

theorem State.frameEnd_waits (h : s.cor.cur = none ∨ s.corUp = true ∧ s.bulkWaits 0 = true) : s.frameEnd = s := by
  unfold State.frameEnd
  obtain h | ⟨hup, hw⟩ := h
  · rw [h]
  · split
    · rfl
    · exact if_pos (by simp [hup, hw])

include hf

theorem State.frameEnd_of_down (hup : s.corUp = false) : s.frameEnd = s.setCor { s.cor with cur := none } := by
  rw [State.frameEnd, hf]
  exact (if_neg (by simp [hup])).trans (if_pos (by simp [hup]))

variable (hup : s.corUp = true) (hw : s.bulkWaits 0 = false)
include hup hw

theorem State.frameEnd_of_gone (hl : f.live = true) (hg : s.frameGone f.job f.serial = true) :
    s.frameEnd = ((s.setCor { s.cor with cur := none }).corLost f.job).corRun := by
  rw [State.frameEnd, hf]
  exact (if_neg (by simp [hw])).trans ((if_neg (by simp [hup])).trans (if_pos (by simp [hl, hg])))

variable (hg : (f.live && s.frameGone f.job f.serial) = false)
include hg

theorem State.frameEnd_of_full (hr : s.ringFull f.job = true) (hk : s.bit (rCorJResn f.job) 31 = false) :
    s.frameEnd = (((s.setCor { s.cor with cur := none }).count (rCorJResFull f.job)).raise 0x0BD 2).corRun := by
  rw [State.frameEnd, hf]
  exact (if_neg (by simp [hw])).trans ((if_neg (by simp [hup])).trans ((if_neg (Bool.eq_false_iff.mp hg)).trans
    (if_pos (by simp [hr, hk]))))

/-- The contexts as the frame in progress leaves them. -/
def State.tracked (s : State) (f : CorFrame) : State :=
  s.setCor (f.recs.foldl (fun c r => (s.setCor { s.cor with cur := none }).updCtx f.job f.live c r) { s.cor with cur := none })

/-- Too many facets of the frame have failed (R347). -/
def State.lossOf (s : State) (f : CorFrame) : Bool :=
  (f.live || s.corPiv f.job) && decide (f.recs.countP (fun r => r.status == 0) < f.recs.length) &&
    decide (s.fld (rCorJQual f.job) 24 8 * (f.recs.length - f.recs.countP (fun r => r.status == 0)) ≤
      f.recs.countP (fun r => r.status != 0 && r.status != 1) * 256)

theorem State.frameEnd_of_room (hr : s.ringFull f.job = false) : s.frameEnd =
    (let u := ((s.tracked f).writeSet f).count (if f.live then rCorJLive f.job else rCorJPosted f.job)
     if s.lossOf f then u.raise 0x0BB 2 else u).corRun := by
  rw [State.frameEnd, hf]
  exact (if_neg (by simp [hw])).trans ((if_neg (by simp [hup])).trans ((if_neg (Bool.eq_false_iff.mp hg)).trans
    (if_neg (by simp [hr]))))

end

theorem State.lossOf_post {f : CorFrame} (hl : f.live = false) (hp : s.corPiv f.job = false) : s.lossOf f = false := by
  simp [State.lossOf, hl, hp]

theorem State.lossOf_live {f : CorFrame} (hl : f.live = true) : s.lossOf f = true ↔
    0 < f.recs.length - f.recs.countP (fun r => r.status == 0) ∧
    s.fld (rCorJQual f.job) 24 8 * (f.recs.length - f.recs.countP (fun r => r.status == 0)) ≤
      f.recs.countP (fun r => r.status != 0 && r.status != 1) * 256 := by
  simp [State.lossOf, hl]

/-! ### Gauges (R348, R349) -/

/-- The gauge `g` has had its turn on the frame `f`. -/
def State.gauged (s : State) (f : CorFrame) (g : Nat) : State :=
  s.setCor { s.cor with cur := some { f with gauges := f.gauges.filter (· != g) } }

/-- The gauge `g` is past its threshold for the value `v`. -/
def State.gaugePast (s : State) (g : Nat) (v : Word) : Bool :=
  if s.bit (rCorGCfg g) 27 then flt v (s.rd (rCorGThr g)) else flt (s.rd (rCorGThr g)) v

/-- The gauge `g` arms again at the value `v`. -/
def State.gaugeBack (s : State) (g : Nat) (v : Word) : Bool :=
  if s.bit (rCorGCfg g) 27 then fle (fadd (s.rd (rCorGThr g)) (s.rd (rCorGHyst g))) v
  else fle v (fsub (s.rd (rCorGThr g)) (s.rd (rCorGHyst g)))

/-- The gauge `g` trips at the frame `f` (R349). -/
def State.gaugeTrip (s : State) (f : CorFrame) (g : Nat) : State :=
  (((s.setBit (rCorGStat g) 31 false).setBit (rCorGStat g) 30 true).setLive (rCorGSerLo g) (BitVec.ofNat 64 f.serial))

section
variable {f : CorFrame} {g : Nat} (hf : s.cor.cur = some f) (hm : g ∈ f.gauges) (hup : s.corUp = true)
  (hl : s.unitLive 9 3 = true)
include hf hm hup hl

theorem State.gaugeEval_of_invalid (hv : s.gaugeValue g f.recs = none) : s.gaugeEval g =
    (s.gauged f g).setFld (rCorGStat g) 0 16 (min 0xFFFF (s.fld (rCorGStat g) 0 16 + 1)) := by
  simp only [State.gaugeEval, hf, hv]
  exact if_neg (by simp [hm, hup, hl])

theorem State.gaugeEval_of_value {v : Word} (hv : s.gaugeValue g f.recs = some v) : s.gaugeEval g =
    if s.bit (rCorGStat g) 31 then
      if s.gaugePast g v then (((s.gauged f g).wr (rCorGValue g) v).gaugeTrip f g).raise (0x0B0 + s.fld (rCorGCfg g) 20 3) 3
      else (s.gauged f g).wr (rCorGValue g) v
    else ((s.gauged f g).wr (rCorGValue g) v).setBit (rCorGStat g) 31 (s.gaugeBack g v) := by
  simp only [State.gaugeEval, hf, hv]
  exact if_neg (by simp [hm, hup, hl])

end

theorem gaugeValue_ne_stat (g : Nat) : rCorGStat g ≠ rCorGValue g := by
  unfold rCorGStat rCorGValue
  omega

theorem State.gaugeTrip_holds (f : CorFrame) (g : Nat) : (s.gaugeTrip f g).bit (rCorGStat g) 31 = false ∧
    (s.gaugeTrip f g).bit (rCorGStat g) 30 = true ∧ (s.gaugeTrip f g).liveAt (rCorGSerLo g) = BitVec.ofNat 64 f.serial ∧
    (s.gaugeTrip f g).rd (rCorGValue g) = s.rd (rCorGValue g) := by
  have hne := gaugeValue_ne_stat g
  refine ⟨(State.setLive_bit ..).trans ?_, (State.setLive_bit ..).trans (State.bit_setBit_same _ _ _ _ (by decide)), Map.get_set_same ..,
    (State.setLive_rd ..).trans ?_⟩
  · exact (State.bit_setBit_apart 30 31 true (by decide) (by decide)).trans
      (State.bit_setBit_same _ _ _ _ (by decide))
  · exact (State.rd_setBit_other (s := s.setBit (rCorGStat g) 31 false) _ _ hne).trans (State.rd_setBit_other _ _ hne)

/-- Settles O40. -/
theorem correlationJobs : Obligations.CorrelationJobs := by
  refine ⟨fun s j hr hup h => .of_eq (exec_of_reached_cor hr rfl) (State.jobStart_of_busy hup h) rfl,
    fun s j e hr hup h he hne hcur => ?_, fun s j hr hup h he => ?_, fun s j hr hup h => ?_, fun s j hr hup h => ?_,
    fun s j hr hup h => .of_eq (exec_of_reached_cor hr rfl) (State.jobStop_of_idle hup h) rfl,
    fun s j hup hst hw hp hpost => .of_eq rfl (State.prepDone_of_piv hup hst hw hpost hp) rfl,
    fun s j hup hst hw hp hpost => .of_eq rfl (State.prepDone_of_reference hup hst hw hpost hp) rfl,
    fun s j h => .of_eq rfl (State.prepDone_waits h) rfl, fun s h => .of_eq rfl (State.frameEnd_waits h) rfl,
    fun s f hf hup => .of_eq rfl (State.frameEnd_of_down hf hup) rfl,
    fun s f hf hup hw hl hg => .of_eq rfl (State.frameEnd_of_gone hf hup hw hl hg) rfl, fun s f hf hup hw hl hr hk => ?_,
    fun s f hf hup hw hl hr hp => ?_, fun s f failed on hf hup hw hl hg hr hfail hon => ?_, fun s g f hf hm hup hl => ?_⟩
  · subst he
    exact .of_eq (exec_of_reached_cor hr rfl) (State.jobStart_of_error hup h hne) (by
      obtain ⟨hst, herr, hjob, hears⟩ := State.corError_holds (s := s.setFld (rCorJStat j) 28 4 0) hcur j
        ((s.setFld (rCorJStat j) 28 4 0).startErr j)
      exact ⟨hst, herr, hjob, fun hs => hears ((State.speaks_congr (s := s) (t := s.setFld (rCorJStat j) 28 4 0) 0x0B9 2 rfl rfl
        (State.rd_setFld_other _ _ _ (corJStat_ne_fence j))).trans hs)⟩)
  · obtain ⟨hst, herr, hsome, hnone⟩ := State.corBegin_holds (s := s.setFld (rCorJStat j) 28 4 0) j
    have hcfg : (s.setFld (rCorJStat j) 28 4 0).rd (rCorJCfg j) = s.rd (rCorJCfg j) :=
      State.rd_setFld_other _ _ _ (by unfold rCorJStat rCorJCfg; omega)
    have hpiv : (s.setFld (rCorJStat j) 28 4 0).corPiv j = s.corPiv j := State.bit_of_rd hcfg
    have hstr : (s.setFld (rCorJStat j) 28 4 0).corStream j = s.corStream j := State.fld_of_rd hcfg
    refine .of_eq (exec_of_reached_cor hr rfl) (State.jobStart_of_good hup h he) ⟨hst, herr, ?_⟩
    cases hp : s.corPiv j with
    | true => exact hnone (.inl (hpiv.trans hp))
    | false =>
      cases hre : (s.setFld (rCorJStat j) 28 4 0).refEntry j with
      | none => exact hnone (.inr hre)
      | some e =>
        rw [hsome e (hpiv.trans hp) hre, hstr]
  · exact .of_eq (exec_of_reached_cor hr rfl) (State.jobStop_of_error hup h) (State.corIdle_of_error h)
  · exact .of_eq (exec_of_reached_cor hr rfl) (State.jobStop_of_busy hup h) ⟨State.setCorJob_corJob .., State.setCorJob_cur ..⟩
  · have hne : rCorJResFull f.job ≠ rDevFenceU (2 * srcCluster 0x0BD + 2 / 32) :=
      corReg_ne_fence (by unfold rCorJResFull; omega) (by decide) (by decide)
    exact .of_eq rfl (State.frameEnd_of_full hf hup hw (by simp [hl]) hr hk)
      ⟨(State.raise_cor ..).trans rfl, (State.raise_rd ..).trans (State.rd_wr_same ..),
        fun h => State.raise_hears_of h rfl rfl (State.rd_count_other hne)⟩
  · refine .of_eq rfl (State.frameEnd_of_room hf hup hw (by simp [hl]) hr) ⟨_, ?_, rfl⟩
    simp only [State.tracked, State.lossOf_post hl hp, hl, Bool.false_eq_true, if_false]
  · subst hfail hon
    refine .of_eq rfl (State.frameEnd_of_room hf hup hw (by simp [hl, hg]) hr) ⟨_, rfl, ?_⟩
    simp only [State.tracked, State.lossOf_live hl, hl, if_true]
  · have hne := gaugeValue_ne_stat g
    cases hv : s.gaugeValue g f.recs with
    | none =>
      refine .of_eq rfl (State.gaugeEval_of_invalid hf hm hup hl hv) ⟨rfl, ?_, State.rd_setFld_other _ _ _ hne⟩
      exact (State.fld_setFld_same _ _ _ _ _ (by decide)).trans (Nat.mod_eq_of_lt (by omega))
    | some v =>
      have hwr (r : Nat) (h : rCorGValue g ≠ r) : ((s.gauged f g).wr (rCorGValue g) v).rd r = s.rd r := State.rd_wr_other _ _ h
      have hsame : ((s.gauged f g).wr (rCorGValue g) v).rd (rCorGValue g) = v := State.rd_wr_same ..
      have hu := State.gaugeEval_of_value hf hm hup hl hv
      cases h31 : s.bit (rCorGStat g) 31 with
      | false =>
        exact .of_eq rfl (hu.trans (if_neg (Bool.eq_false_iff.mp h31)))
          ⟨rfl, (State.rd_setBit_other _ _ hne).trans hsame, State.bit_setBit_same _ _ _ _ (by decide)⟩
      | true =>
        have hu := hu.trans (if_pos h31)
        cases hpast : s.gaugePast g v with
        | true =>
          obtain ⟨h31', h30, hlive, hval⟩ := State.gaugeTrip_holds (s := (s.gauged f g).wr (rCorGValue g) v) f g
          refine .of_eq rfl (hu.trans (if_pos hpast)) ⟨(State.raise_cor ..).trans rfl, (State.raise_rd ..).trans (hval.trans hsame), ?_⟩
          rw [if_pos rfl]
          exact (if_pos hpast).mpr ⟨(State.raise_bit ..).trans h31', (State.raise_bit ..).trans h30,
            (State.liveAt_of_live (State.raise_live ..)).trans hlive⟩
        | false =>
          refine .of_eq rfl (hu.trans (if_neg (Bool.eq_false_iff.mp hpast))) ⟨rfl, hsame, ?_⟩
          rw [if_pos rfl]
          exact (if_neg (Bool.eq_false_iff.mp hpast)).mpr ⟨(State.bit_of_rd (hwr _ hne.symm)).trans h31, State.bit_of_rd (hwr _ hne.symm)⟩

end Sys2Proof.Machine
end

section
/-! PROOF. Compare entries: the count of firings of an entry is a number without a bound of its own, and the status word of an
entry adds it to the flags, so that a large count reaches the bit of LIVE. -/

namespace Sys2Proof.Machine

open Sys2Proof

/-- Entry 0 of table 0 is not enabled, and its count of firings is 2^31. -/
def State.overcounted : State :=
  { State.reset with
    plane := some ⟨[], 1, 0, 0, [], [⟨4, 6, []⟩]⟩
    pwr := { State.reset.pwr with phase := .released }
    sch := { State.reset.sch with tbl := [(0, { CmpEnt.init with fired := 2 ^ 31 })] } }

theorem State.overcounted_premises : State.overcounted.reaches 4 = true ∧ State.overcounted.unitLive 4 2 = true := by
  decide +kernel

theorem State.overcounted_dead : State.overcounted.entLive 0 (State.overcounted.fld (rSchTblEidx 0) 0 12) = false := by
  decide +kernel

theorem State.overcounted_entryRead : exec (.entryRead 0) State.overcounted = .next (State.overcounted.entryRead 0) := by
  obtain ⟨hr, -⟩ := State.overcounted_premises
  have hx : exec (.entryRead 0) State.overcounted = if !State.overcounted.reaches 4 then .next State.overcounted
      else .next (State.overcounted.entryRead 0) := rfl
  rw [hx, if_neg (by simp [hr])]

theorem State.overcounted_status : (State.overcounted.entryRead 0).bit (rSchTblEstat 0) 31 = true := by
  decide +kernel

/-- Refutes O34: in its third clause bit 31 of ESTAT tells whether the entry is live, but the model adds the entry's count of firings
to the word, and a state may hold a count of 2^31 at an entry that is not live. -/
theorem not_compareEntries : ¬ Obligations.CompareEntries := by
  intro h
  obtain ⟨-, -, hread, -⟩ := h
  obtain ⟨hr, hu⟩ := State.overcounted_premises
  obtain ⟨t, ht, -, -, hlive⟩ := hread State.overcounted 0 hr hu
  obtain rfl : State.overcounted.entryRead 0 = t := Host.Outcome.next.inj (State.overcounted_entryRead.symm.trans ht)
  have hboth := State.overcounted_status.symm.trans (hlive.trans State.overcounted_dead)
  exact absurd hboth (by decide)

end Sys2Proof.Machine
end

section
/-! PROOF. What the actions of compare entries do. -/

namespace Sys2Proof.Machine

open Sys2Proof

variable {s u : State}

theorem State.forEach_one {α : Type} (f : State → α → State) (x : α) : s.forEach [x] f = f s x := rfl

/-! ### Taking an action (R205) -/

theorem State.takeAct_of_none {t e k : Nat} (h : s.sch.acts.find? (fun a => a.t == t && a.e == e && a.kind == k) = none) :
    s.takeAct t e k = none := by
  have hall : s.sch.acts.find? (fun a => a.t == t && a.e == e && a.kind == k && !a.wait) = none := by
    rw [List.find?_eq_none] at h ⊢
    intro a ha hp
    exact h a ha (Bool.and_eq_true_iff.mp hp).1
  simp only [State.takeAct, hall]
  exact ite_self none

theorem State.takeAct_of_down {t e k : Nat} (h : s.unitLive 4 1 = false ∨ s.unitLive 4 (2 + t) = false) : s.takeAct t e k = none := by
  refine if_neg ?_
  obtain h | h := h <;> simp [h]

theorem State.takeAct_of_first {t e k : Nat} {a : Act} (h1 : s.unitLive 4 1 = true) (ht : s.unitLive 4 (2 + t) = true)
    (hf : s.sch.acts.find? (fun a => a.t == t && a.e == e && a.kind == k && !a.wait) = some a)
    (hb : ∀ b ∈ s.sch.acts, b.cycle = a.cycle → b.before a = false) :
    s.takeAct t e k = some (a, { s with sch := { s.sch with
      acts := updAct (fun a => a.t == t && a.e == e && a.kind == k && !a.wait) (fun _ => none) s.sch.acts } }) := by
  have hany : s.sch.acts.any (fun b => b.cycle == a.cycle && !b.wait && b.before a && s.unitLive 4 (2 + b.t)) = false := by
    rw [List.any_eq_false]
    intro b hm hp
    simp only [Bool.and_eq_true, beq_iff_eq] at hp
    obtain ⟨⟨⟨hc, -⟩, hbefore⟩, -⟩ := hp
    rw [hb b hm hc] at hbefore
    cases hbefore
  simp only [State.takeAct, hf]
  exact (if_pos (by simp [h1, ht])).trans (if_neg (Bool.eq_false_iff.mp hany))

section
variable {t : Fin 8} {e : Fin 4096} {a : Act}

theorem State.expose_of_none (h : s.takeAct t e 1 = none) : s.expose t e = s := by rw [State.expose, h]

theorem State.expose_of_one {i n : Nat} (h : s.takeAct t e 1 = some (a, u)) (hn : u.namedStrs a.heads = [(i, n)]) :
    s.expose t e = u.exposeOne i n a.eps a.ta a.late := by
  simp only [State.expose, h, hn]
  exact State.forEach_one ..

theorem execStrobe_of_taken (h : s.takeAct t e 2 = some (a, u)) :
    exec (.strobe t e) s = .next (u.schPulse (a.ch % 8) (a.ta + (max 1000 (fget a.param 0 24) : Nat) * tuPerNs)) :=
  (show exec (.strobe t e) s = execStrobe t e s from rfl).trans (by rw [execStrobe, h])

theorem execFire_of_taken (h : s.takeAct t e 4 = some (a, u)) : exec (.fire t e) s = .next (u.toChannel a.ch (u.tblLin t)) :=
  (show exec (.fire t e) s = execFire t e s from rfl).trans (by rw [execFire, h])

theorem execMark_of_one {i n : Nat} (h : s.takeAct t e 3 = some (a, u)) (hn : u.markStrs a.heads = [(i, n)]) :
    exec (.mark t e) s = .next (u.markOne a i n) := by
  have hx : exec (.mark t e) s = execMark t e s := rfl
  simp only [hx, execMark, h, hn]
  exact congrArg Host.Outcome.next (State.forEach_one ..)

theorem State.markOne_of_marker {i n : Nat} (h : fget a.param 0 8 = 0) : s.markOne a i n = s.marker i n a.ta (fget a.param 8 24) := by
  rw [State.markOne, h]
  rfl

theorem State.markOne_of_trigger {i n : Nat} (h : fget a.param 0 8 = 1) : s.markOne a i n = s.trigger i a.ta (s.tblLin a.t) := by
  rw [State.markOne, h]
  rfl

theorem State.markOne_of_stop {i n : Nat} (h : fget a.param 0 8 = 2) : s.markOne a i n = s.stop i (s.tblLin a.t) := by
  rw [State.markOne, h]
  rfl

end

/-! ### Admission of an exposure (R210) -/

theorem State.useSlot_of_alone {i : Nat} (h : s.grpOfStr i = none) : s.useSlot i = s := by rw [State.useSlot, h]

/-- The tests of R210 that throttle an exposure. -/
def State.exposeThrottled (s : State) (i n : Nat) (ts : Int) : Bool :=
  (s.bit (rSchHdTrg n) 31 && (match (s.schHead n).fall with
    | some f => decide ((s.trgEdges n 0 ts).1 < f + 10 * tuPerNs) | none => false)) ||
  decide (64 ≤ (s.outstanding n).length) ||
  (match (s.schStr i).last with | some l => decide (ts - l < 500 * tuPerNs) | none => false) ||
  ((s.schStr i).tmin != 0 && match (s.schStr i).v with
    | some v => decide (9 * (ts + (s.rd (rSchStrSlack i)).toNat * tuPerNs) < v)
    | none => false)

section
variable {i n eps : Nat} {ts : Int} {late : Bool} (hu : s.unitLive 4 20 = true)
include hu

theorem State.exposeOne_of_idle (ha : s.armed i = false) : s.exposeOne i n eps ts late = s.count (rSchStrNotArmed i) :=
  (if_neg (by simp [hu])).trans (if_pos (by simp [ha]))

variable (ha : s.armed i = true) (hp : s.fld rHstPwr 0 3 ≠ 1) (hl : s.pwr.loss = 0) (hs : s.aud.safe = 0)
  (hr : s.released = true) (hg : s.grpOfStr i = none) (hn : s.unitLive 4 (16 + n) = true)
  (h2 : s.fenced 2 (1 + n) = false) (h3 : s.fenced 3 (1 + n) = false)
include ha hp hl hs hr hg hn h2 h3

theorem State.exposeOne_of_served : s.exposeOne i n eps ts late =
    if !s.portUp n then s.gapEntry i n eps ts late (flag 2)
    else if (s.schHead n).rises.any (fun r => decide ((r - (s.trgEdges n 0 ts).1).natAbs < 200 * tuPerNs)) then
      s.count (rSchHdCoalesced n)
    else if s.exposeThrottled i n ts then s.gapEntry i n eps ts late (flag 1)
    else s.placeExpose i n eps ts late := by
  unfold State.exposeOne
  rw [if_neg (by simp [hu]), if_neg (by simp [ha, hp]), if_neg (by simp [hl, hs, hr])]
  extract_lets m s0 rise h c
  have hm : m = n := if_neg (by simp [hg])
  have hs0 : s0 = s := State.useSlot_of_alone hg
  clear_value m s0
  subst hm hs0
  rw [if_neg (by simp [hn]), if_neg (by simp [h2, h3])]
  rfl

variable (hup : s.portUp n = true)
include hup

theorem State.exposeOne_of_close (h : ∃ r ∈ (s.schHead n).rises, (r - (s.trgEdges n 0 ts).1).natAbs < 200 * tuPerNs) :
    s.exposeOne i n eps ts late = s.count (rSchHdCoalesced n) := by
  obtain ⟨r, hm, hr'⟩ := h
  exact (State.exposeOne_of_served hu ha hp hl hs hr hg hn h2 h3).trans ((if_neg (by simp [hup])).trans
    (if_pos (List.any_eq_true.mpr ⟨r, hm, decide_eq_true hr'⟩)))

theorem State.exposeOne_of_admitted (h : ∀ r ∈ (s.schHead n).rises, 200 * tuPerNs ≤ (r - (s.trgEdges n 0 ts).1).natAbs)
    (ht : s.exposeThrottled i n ts = false) : s.exposeOne i n eps ts late = s.placeExpose i n eps ts late := by
  have hany : (s.schHead n).rises.any (fun r => decide ((r - (s.trgEdges n 0 ts).1).natAbs < 200 * tuPerNs)) = false :=
    List.any_eq_false.mpr fun r hm => by simpa using h r hm
  exact (State.exposeOne_of_served hu ha hp hl hs hr hg hn h2 h3).trans ((if_neg (by simp [hup])).trans
    ((if_neg (Bool.eq_false_iff.mp hany)).trans (if_neg (Bool.eq_false_iff.mp ht))))

end

theorem State.exposeThrottled_of_free {i n : Nat} {ts : Int} (hl : (s.schStr i).last = none) (hm : (s.schStr i).tmin = 0)
    (ht : s.bit (rSchHdTrg n) 31 = false) (ho : (s.outstanding n).length < 64) : s.exposeThrottled i n ts = false := by
  simp [State.exposeThrottled, hl, hm, ht, ho]

/-! ### Strobe outputs (R218) -/

theorem State.setStrobe_strobe (n : Nat) (v : Strobe) : (s.setStrobe n v).strobe n = v := Map.get_set_same ..

theorem State.setStrobe_stat {n : Nat} (hn : n < 32) (v : Strobe) : (s.setStrobe n v).bit rSchSoStat n = (v.sch.isSome || v.chan.isSome) :=
  State.bit_setBit_same _ _ _ _ hn

theorem State.schPulse_of_off {n : Nat} (x : Int) (hon : s.strobesOn = true) (h : s.strobe n = ⟨none, none⟩) :
    s.schPulse n x = s.setStrobe n ⟨some x, none⟩ := by
  refine (if_neg (by simp [hon])).trans ?_
  rw [h]

theorem State.schPulse_of_on {n : Nat} {y : Int} (x : Int) (hon : s.strobesOn = true) (h : s.strobe n = ⟨some y, none⟩) :
    s.schPulse n x = (s.setStrobe n ⟨some (max y x), none⟩).count (rSchSoExt n) := by
  refine (if_neg (by simp [hon])).trans ?_
  rw [h]

/-! ### EPCOMMIT (R215) -/

/-- Head `n` holds the pending set `k` with the time `te`. -/
def State.epSet (s : State) (n k te : Nat) : State :=
  (((s.setBit (rSchHdEpstat n) 31 true).setFld (rSchHdEpstat n) 28 2 k).setSchHead n { s.schHead n with te := te }).wr (rSchHdTe n)
    (BitVec.ofNat 32 te)

/-- The time at which a pending set of head `n` may become current. -/
def State.epTime (s : State) (n : Nat) : Nat := s.mint.total + max 1 (s.fld (rSchHdMargin n) 16 16) * 1000

/-- The settings of head `n` become its pending set. -/
def State.epPending (s : State) (n : Nat) : State := s.epSet n (s.fld (rSchHdEpsel n) 0 2) (s.epTime n)

section
variable {v : Word} (hl : s.unitLive 4 1 = true)
include hl

theorem State.epCommit_of_free (h : ∀ n : Fin 4, v.getLsbD n = true → s.unitLive 4 (16 + n) = true ∧ s.bit (rSchHdEpstat n) 31 = false) :
    s.epCommit v = s.forEach (idxs 4 fun n => v.getLsbD n && s.unitLive 4 (16 + n)) State.epPending := by
  have hany : (idxs 4 fun n => v.getLsbD n && s.unitLive 4 (16 + n)).any (fun n => s.bit (rSchHdEpstat n) 31) = false := by
    rw [List.any_eq_false]
    intro n hn
    obtain ⟨hlt, hp⟩ := List.mem_filter.mp hn
    obtain ⟨-, hbit⟩ := h ⟨n, List.mem_range.mp hlt⟩ (Bool.and_eq_true_iff.mp hp).1
    exact Bool.eq_false_iff.mp hbit
  exact (if_neg (by simp [hl])).trans (if_neg (Bool.eq_false_iff.mp hany))

theorem State.epCommit_of_pending {n : Fin 4} (hv : v.getLsbD n = true) (hu : s.unitLive 4 (16 + n) = true)
    (hp : s.bit (rSchHdEpstat n) 31 = true) : s.epCommit v = s.violation rSchEpcommit := by
  have hmem : n.val ∈ idxs 4 (fun n => v.getLsbD n && s.unitLive 4 (16 + n)) :=
    List.mem_filter.mpr ⟨List.mem_range.mpr n.isLt, Bool.and_eq_true_iff.mpr ⟨hv, hu⟩⟩
  exact (if_neg (by simp [hl])).trans (if_pos (List.any_eq_true.mpr ⟨n.val, hmem, hp⟩))

end

/-- What the pending set of head `n` is made of is as in `s`. -/
def State.epSource (s : State) (n : Nat) (t : State) : Prop :=
  t.mint = s.mint ∧ t.rd (rSchHdEpsel n) = s.rd (rSchHdEpsel n) ∧ t.rd (rSchHdMargin n) = s.rd (rSchHdMargin n)

/-- Head `n` has its pending set. -/
def State.epHeld (s : State) (n : Nat) (t : State) : Prop :=
  t.bit (rSchHdEpstat n) 31 = true ∧ t.fld (rSchHdEpstat n) 28 2 = s.fld (rSchHdEpsel n) 0 2 ∧
  (t.schHead n).te = s.epTime n ∧
  t.rd (rSchHdTe n) = BitVec.ofNat 32 (t.schHead n).te

theorem State.epSet_rd_other {m r : Nat} (h1 : rSchHdEpstat m ≠ r) (h2 : rSchHdTe m ≠ r) (k te : Nat) :
    (s.epSet m k te).rd r = s.rd r :=
  (State.rd_wr_other _ _ h2).trans ((State.setSchHead_rd ..).trans
    ((State.rd_setFld_other _ _ _ h1).trans (State.rd_setBit_other _ _ h1)))

theorem State.epSet_mint (m k te : Nat) : (s.epSet m k te).mint = s.mint := rfl

theorem State.epSet_holds (n k te : Nat) (hk : k < 4) : (s.epSet n k te).bit (rSchHdEpstat n) 31 = true ∧
    (s.epSet n k te).fld (rSchHdEpstat n) 28 2 = k ∧ ((s.epSet n k te).schHead n).te = te ∧
    (s.epSet n k te).rd (rSchHdTe n) = BitVec.ofNat 32 te := by
  have h5 : rSchHdTe n ≠ rSchHdEpstat n := by unfold rSchHdTe rSchHdEpstat; omega
  have hsch : (s.epSet n k te).schHead n = { s.schHead n with te := te } := State.setSchHead_schHead ..
  refine ⟨(State.bit_wr_ne _ _ h5).trans ?_, (State.fld_wr_ne _ _ _ h5).trans ?_, by rw [hsch], State.rd_wr_same ..⟩
  · exact (State.setSchHead_bit ..).trans ((State.bit_setFld_apart 28 2 _ 31 (by decide) (by decide)).trans
      (State.bit_setBit_same _ _ _ _ (by decide)))
  · exact (State.setSchHead_fld ..).trans ((State.fld_setFld_same _ _ _ _ _ (by decide)).trans (Nat.mod_eq_of_lt hk))

theorem epRegs_ne {m n : Nat} : rSchHdEpstat m ≠ rSchHdEpsel n ∧ rSchHdEpstat m ≠ rSchHdMargin n ∧ rSchHdTe m ≠ rSchHdEpsel n ∧
    rSchHdTe m ≠ rSchHdMargin n := by
  unfold rSchHdEpstat rSchHdEpsel rSchHdTe rSchHdMargin
  omega

theorem State.epPending_source (n m : Nat) : (s.epPending m).mint = s.mint ∧
    (s.epPending m).rd (rSchHdEpsel n) = s.rd (rSchHdEpsel n) ∧ (s.epPending m).rd (rSchHdMargin n) = s.rd (rSchHdMargin n) := by
  obtain ⟨h1, h2, h3, h4⟩ := epRegs_ne (m := m) (n := n)
  exact ⟨State.epSet_mint .., State.epSet_rd_other h1 h3 _ _, State.epSet_rd_other h2 h4 _ _⟩

theorem State.epPending_held (n : Nat) : s.epHeld n (s.epPending n) := by
  obtain ⟨h31, h28, hte, hrd⟩ := State.epSet_holds (s := s) n (s.fld (rSchHdEpsel n) 0 2) (s.epTime n) (s.fld_lt _ 0 2)
  exact ⟨h31, h28, hte, hrd.trans (congrArg (BitVec.ofNat 32) hte.symm)⟩

theorem State.epHeld_of_source {n : Nat} {t : State} (h : s.epSource n t) (ht : t.epHeld n u) : s.epHeld n u := by
  obtain ⟨hm, hsel, hmar⟩ := h
  obtain ⟨h31, h28, hte, hrd⟩ := ht
  exact ⟨h31, h28.trans (State.fld_of_rd hsel), by rw [hte, State.epTime, hm, State.fld_of_rd hmar, State.epTime], hrd⟩

/-- The pending set of one head leaves that of another as it is. -/
theorem State.epHeld_epPending {n m : Nat} {t : State} (hm : m ≠ n) (h : s.epHeld n t) : s.epHeld n (t.epPending m) := by
  obtain ⟨h31, h28, hte, hrd⟩ := h
  have hst : (t.epPending m).rd (rSchHdEpstat n) = t.rd (rSchHdEpstat n) :=
    State.epSet_rd_other (by unfold rSchHdEpstat; omega) (by unfold rSchHdEpstat rSchHdTe; omega) _ _
  have hr : (t.epPending m).rd (rSchHdTe n) = t.rd (rSchHdTe n) :=
    State.epSet_rd_other (by unfold rSchHdEpstat rSchHdTe; omega) (by unfold rSchHdTe; omega) _ _
  have hsch : (t.epPending m).schHead n = t.schHead n := Map.get_set_other _ _ _ _ _ hm
  refine ⟨(State.bit_of_rd hst).trans h31, (State.fld_of_rd hst).trans h28, ?_, ?_⟩
  · rw [hsch, hte]
  · rw [hr, hsch, hrd]

theorem State.epCommitted_held {l : List Nat} {n : Nat} (hn : n ∈ l) : s.epHeld n (s.forEach l State.epPending) := by
  have hsrc : s.epSource n s := ⟨rfl, rfl, rfl⟩
  suffices h : s.epSource n (s.forEach l State.epPending) ∧ s.epHeld n (s.forEach l State.epPending) from h.2
  have hstep (t : State) (m : Nat) (h : s.epSource n t) : s.epSource n (t.epPending m) := by
    obtain ⟨h1, h2, h3⟩ := h
    obtain ⟨e1, e2, e3⟩ := State.epPending_source (s := t) n m
    exact ⟨e1.trans h1, e2.trans h2, e3.trans h3⟩
  have hkeep : ∀ (l : List Nat) (t : State), s.epSource n t ∧ s.epHeld n t →
      s.epSource n (t.forEach l State.epPending) ∧ s.epHeld n (t.forEach l State.epPending) := fun l t ht =>
    List.foldlRecOn (motive := fun t => s.epSource n t ∧ s.epHeld n t) l State.epPending ht fun t ⟨hs, hh⟩ m _ => by
      refine ⟨hstep t m hs, ?_⟩
      by_cases h : m = n
      · subst h
        exact State.epHeld_of_source hs (State.epPending_held m)
      · exact State.epHeld_epPending h hh
  have hall : ∀ (l : List Nat) (t : State), n ∈ l → s.epSource n t →
      s.epSource n (t.forEach l State.epPending) ∧ s.epHeld n (t.forEach l State.epPending) := by
    intro l
    induction l with
    | nil => exact fun t h => nomatch h
    | cons m l ih =>
      intro t h hs
      obtain rfl | h := List.mem_cons.mp h
      · exact hkeep l _ ⟨hstep t n hs, State.epHeld_of_source hs (State.epPending_held n)⟩
      · exact ih _ h (hstep t m hs)
  exact hall l s hn hsrc

theorem exec_of_reached_sch {c : Instr} {u : State} (h : s.reaches 4 = true)
    (hc : exec c s = if !s.reaches 4 then .next s else .next u) : exec c s = .next u := hc.trans (if_neg (by simp [h]))

/-- Settles O35. -/
theorem actions : Obligations.Actions := by
  refine ⟨fun s t e h => .of_eq rfl (State.expose_of_none (State.takeAct_of_none h)) rfl,
    fun s t e k a h1 ht hf hb => State.takeAct_of_first h1 ht hf hb, fun s t e k h => State.takeAct_of_down h,
    fun s t e a u i n h hn => .of_eq rfl (State.expose_of_one h hn) rfl, fun s i n eps ts late hu ha => State.exposeOne_of_idle hu ha,
    fun s i n eps ts late hu ha hp hl hs hr hg hn h2 h3 hup => ?_,
    fun s i n eps ts late hu ha hp hl hs hr hg hn h2 h3 hup h => State.exposeOne_of_close hu ha hp hl hs hr hg hn h2 h3 hup h,
    fun s i n eps ts late hu ha hp hl hs hr hg hn h2 h3 hup h hlast hmin ht ho =>
      State.exposeOne_of_admitted hu ha hp hl hs hr hg hn h2 h3 hup h (State.exposeThrottled_of_free hlast hmin ht ho),
    fun s n dur ts h => ?_, fun s n => .of_eq rfl rfl ⟨State.setSchHead_schHead .., rfl, rfl⟩,
    fun s t e a u h hon hso => ?_, fun s t e a u x h hon hso => ?_, fun s n => ?_,
    fun s t e a u i n h hn hc => ⟨_, (execMark_of_one h hn).trans (congrArg _ (State.markOne_of_trigger hc)), rfl⟩,
    fun s t e a u i n h hn hc => ⟨_, (execMark_of_one h hn).trans (congrArg _ (State.markOne_of_stop hc)), rfl⟩,
    fun s t e a u i n h hn hc => ⟨_, (execMark_of_one h hn).trans (congrArg _ (State.markOne_of_marker hc)), rfl⟩,
    fun s t e a u h => ⟨_, execFire_of_taken h, rfl⟩, fun s v hr hl h => ?_,
    fun s v n hr hl hv hu hp => .of_eq (exec_of_reached_sch hr rfl) (State.epCommit_of_pending hl hv hu hp) rfl⟩
  · exact (State.exposeOne_of_served hu ha hp hl hs hr hg hn h2 h3).trans (if_pos (by simp [hup]))
  · exact congrArg (Prod.mk _) (if_neg (Bool.eq_false_iff.mp h))
  · have hlt : a.ch % 8 < 32 := lt_of_lt_of_le (Nat.mod_lt _ (by decide)) (by decide)
    exact .of_eq (execStrobe_of_taken h) (State.schPulse_of_off _ hon hso)
      ⟨State.setStrobe_strobe .., (State.setStrobe_stat hlt _).trans rfl⟩
  · have hne : rSchSoStat ≠ rSchSoExt (a.ch % 8) := by unfold rSchSoStat rSchSoExt; omega
    exact .of_eq (execStrobe_of_taken h) (State.schPulse_of_on _ hon hso)
      ⟨State.setStrobe_strobe .., (State.rd_wr_same ..).trans (congrArg (satAdd · 1) (State.setStrobe_rd _ _ hne))⟩
  · exact .of_eq rfl rfl ⟨State.setStrobe_strobe .., State.setStrobe_stat (lt_of_lt_of_le n.isLt (by decide)) _,
      fun r hr => State.setStrobe_rd _ _ hr.symm⟩
  · refine .of_eq (exec_of_reached_sch hr rfl) (State.epCommit_of_free hl h) fun n hv => ?_
    obtain ⟨hu, -⟩ := h n hv
    have hmem : n.val ∈ idxs 4 (fun n => v.getLsbD n && s.unitLive 4 (16 + n)) :=
      List.mem_filter.mpr ⟨List.mem_range.mpr n.isLt, Bool.and_eq_true_iff.mpr ⟨hv, hu⟩⟩
    obtain ⟨h31, h28, hte, hrd⟩ := State.epCommitted_held (s := s) hmem
    exact ⟨h31, h28, hte, hrd⟩

end Sys2Proof.Machine
end

section
/-! PROOF. Encoders on the axes A1 to A4. -/

namespace Sys2Proof.Machine

open Sys2Proof

variable {s t : State} {n : Nat}

/-! ### The state of an axis -/

@[simp] theorem State.setAxis_axis (v : Axis) : (s.setAxis n v).axis n = v := Map.get_set_same ..

theorem State.axis_of_sch (h : t.sch = s.sch) (n : Nat) : t.axis n = s.axis n := by rw [State.axis, h, State.axis]

theorem srcCluster_lt (x : Nat) : srcCluster x < 16 := by
  unfold srcCluster
  repeat' split
  all_goals omega

/-- No register of SCH is one of the fences. -/
theorem schReg_ne_fence {r x u : Nat} (hr : 0x1000000 ≤ r) (hu : u < 64) : r ≠ rDevFenceU (2 * srcCluster x + u / 32) := by
  have := srcCluster_lt x
  unfold rDevFenceU
  omega

theorem axUnit_lt (n : Fin 4) : axUnit n < 64 := by
  unfold axUnit
  omega

/-- Of the axis, `keepWas` changes the kept value alone. -/
theorem State.keepWas_cases (n : Nat) : s.keepWas n = s ∨ ∃ w, s.keepWas n = s.setAxis n { s.axis n with was := w } := by
  unfold State.keepWas
  split
  · split
    · exact .inl rfl
    · exact .inr ⟨_, rfl⟩
  · exact .inr ⟨_, rfl⟩

theorem State.keepWas_axis (n : Nat) : ∃ w, (s.keepWas n).axis n = { s.axis n with was := w } := by
  obtain h | ⟨w, h⟩ := s.keepWas_cases n
  · exact ⟨(s.axis n).was, by rw [h]⟩
  · exact ⟨w, by rw [h, State.setAxis_axis]⟩

theorem State.keepWas_regs (n : Nat) : (s.keepWas n).regs = s.regs ∧ (s.keepWas n).variant = s.variant ∧ (s.keepWas n).plane = s.plane := by
  obtain h | ⟨w, h⟩ := s.keepWas_cases n <;> rw [h]
  · exact ⟨rfl, rfl, rfl⟩
  · exact ⟨rfl, rfl, rfl⟩

/-! ### Errors of an axis -/

theorem State.axErr_axis (n c m : Nat) : (s.axErr n c).axis m = s.axis m := State.axis_of_sch ((State.raise_sch ..).trans rfl) m

theorem State.axErr_rd_other {r : Nat} (h : rSchAxErrinfo n ≠ r) (c : Nat) : (s.axErr n c).rd r = s.rd r :=
  (State.raise_rd ..).trans (State.rd_setFld_other _ _ _ h)

theorem State.axErr_cause (n c : Nat) : (s.axErr n c).fld (rSchAxErrinfo n) 28 4 = c % 16 :=
  (State.raise_fld ..).trans (State.fld_setFld_same _ _ _ _ _ (by decide))

theorem State.axErr_hears (n : Fin 4) (c : Nat) (h : s.speaks (0x080 + 4 * n) (axUnit n) = true) :
    (s.axErr n c).hears (0x080 + 4 * n) (axUnit n) = true :=
  State.raise_hears_of h rfl rfl (State.rd_setFld_other _ _ _ (schReg_ne_fence (by unfold rSchAxErrinfo; omega) (axUnit_lt n)))

/-- An illegal change of the lines: the history ends, the error is counted and told with its cause. -/
def State.axJump (s : State) (n r c : Nat) : State := (((s.keepWas n).clearHist n).count r).axErr n c

theorem State.axJump_axis (n r c : Nat) : ((s.axJump n r c).axis n).count = (s.axis n).count ∧ ((s.axJump n r c).axis n).hist = [] ∧
    ((s.axJump n r c).axis n).pair = (s.axis n).pair ∧ ((s.axJump n r c).axis n).sector = (s.axis n).sector := by
  obtain ⟨w, hw⟩ := s.keepWas_axis n
  have h : (s.axJump n r c).axis n = { (s.keepWas n).axis n with hist := [] } :=
    (State.axErr_axis ..).trans ((State.axis_of_sch (State.count_sch ..) n).trans (State.setAxis_axis _))
  rw [h, hw]
  exact ⟨rfl, rfl, rfl, rfl⟩

theorem State.axJump_regs {r : Nat} (h : rSchAxErrinfo n ≠ r) (c : Nat) : (s.axJump n r c).rd r = satAdd (s.rd r) 1 ∧
    (s.axJump n r c).fld (rSchAxErrinfo n) 28 4 = c % 16 := by
  obtain ⟨hr, -⟩ := s.keepWas_regs n
  have hrd : ((s.keepWas n).clearHist n).rd r = s.rd r := State.rd_of_regs hr r
  exact ⟨(State.axErr_rd_other h _).trans ((State.rd_wr_same ..).trans (congrArg (satAdd · 1) hrd)), State.axErr_cause ..⟩

theorem State.axJump_hears (n : Fin 4) {r : Nat} (hr : 0x1000000 ≤ r) (c : Nat) (h : s.speaks (0x080 + 4 * n) (axUnit n) = true) :
    (s.axJump n r c).hears (0x080 + 4 * n) (axUnit n) = true := by
  obtain ⟨hregs, hvar, hpl⟩ := s.keepWas_regs n
  refine State.axErr_hears n c ((State.speaks_congr (s := s) (t := ((s.keepWas n).clearHist n).count r) _ _ hvar hpl ?_).trans h)
  exact (State.rd_count_other (schReg_ne_fence hr (axUnit_lt n))).trans (State.rd_of_regs hregs _)

/-! ### VALID (R237, R239) -/

/-- An axis whose position is no longer valid. -/
def Axis.lost (a : Axis) : Axis := { a with hist := [], v := 0, latch := none, turned := false }

/-- An axis whose next index is compared with nothing. -/
def Axis.fresh (a : Axis) : Axis := { a with latch := none, turned := false }

theorem State.setValid_of_false (n : Nat) : s.setValid n false =
    ((s.setBit (rSchAxStat n) 31 false).setAxis n (s.axis n).lost).setBit (rSchAxStat n) 30 false := rfl

theorem State.setValid_of_true (n : Nat) : s.setValid n true =
    if s.bit (rSchAxStat n) 31 then s.setBit (rSchAxStat n) 31 true
    else (s.setBit (rSchAxStat n) 31 true).setAxis n (s.axis n).fresh := rfl

theorem State.setValid_false (n : Nat) : (s.setValid n false).bit (rSchAxStat n) 31 = false ∧
    (s.setValid n false).axis n = (s.axis n).lost ∧ ∀ r, r ≠ rSchAxStat n → (s.setValid n false).rd r = s.rd r := by
  rw [State.setValid_of_false]
  generalize (s.axis n).lost = v
  refine ⟨?_, (State.axis_of_sch (State.setBit_sch ..) n).trans (State.setAxis_axis _), fun r hr => ?_⟩
  · exact (State.bit_setBit_apart 30 31 false (by decide) (by decide)).trans
      ((State.setAxis_bit ..).trans (State.bit_setBit_same _ _ _ _ (by decide)))
  · exact (State.rd_setBit_other _ _ hr.symm).trans ((State.setAxis_rd ..).trans (State.rd_setBit_other _ _ hr.symm))

theorem State.setValid_false_fld {lo w : Nat} (h : lo + w ≤ 30) :
    (s.setValid n false).fld (rSchAxStat n) lo w = s.fld (rSchAxStat n) lo w := by
  rw [State.setValid_of_false]
  generalize (s.axis n).lost = v
  exact (State.fld_setBit_apart _ _ _ _ (by omega)).trans ((State.setAxis_fld ..).trans (State.fld_setBit_apart _ _ _ _ (by omega)))

theorem State.setValid_true (n : Nat) : (s.setValid n true).bit (rSchAxStat n) 31 = true ∧
    (s.setValid n true).axis n = (if s.bit (rSchAxStat n) 31 then s.axis n else (s.axis n).fresh) ∧
    ∀ r, r ≠ rSchAxStat n → (s.setValid n true).rd r = s.rd r := by
  rw [State.setValid_of_true]
  generalize (s.axis n).fresh = v
  have h31 : (s.setBit (rSchAxStat n) 31 true).bit (rSchAxStat n) 31 = true := State.bit_setBit_same _ _ _ _ (by decide)
  have hrd (r : Nat) (h : r ≠ rSchAxStat n) : (s.setBit (rSchAxStat n) 31 true).rd r = s.rd r := State.rd_setBit_other _ _ h.symm
  split
  · exact ⟨h31, State.axis_of_sch (State.setBit_sch ..) n, hrd⟩
  · exact ⟨h31, State.setAxis_axis _, hrd⟩

theorem State.setValid_true_fld {lo w : Nat} (h : lo + w ≤ 31) :
    (s.setValid n true).fld (rSchAxStat n) lo w = s.fld (rSchAxStat n) lo w := by
  have h1 : (s.setBit (rSchAxStat n) 31 true).fld (rSchAxStat n) lo w = s.fld (rSchAxStat n) lo w :=
    State.fld_setBit_apart _ _ _ _ (by omega)
  rw [State.setValid_of_true]
  split
  · exact h1
  · exact h1

/-! ### Quadrature (R235, R236) -/

section
variable {p q : Bool × Bool} {stamp : Int} (hl : s.axLive n = true) (hm : s.axMode n = 1)
include hl hm

theorem State.quadEdge_of_jump (hp : (s.axis n).pair = some (!q.1, !q.2)) :
    s.quadEdge n q stamp = (s.setAxis n { s.axis n with pair := some q }).axJump n (rSchAxErrQuad n) 1 := by
  have hne : ((s.axis n).pair == some q) = false := by
    obtain ⟨a, b⟩ := q
    rw [hp]
    cases a <;> cases b <;> rfl
  unfold State.quadEdge
  extract_lets a s1
  rw [if_neg (by simp only [hl, hm, a, hne]; decide)]
  simp only [a, hp]
  refine if_pos ?_
  cases q.1 <;> cases q.2 <;> rfl

variable (hp : (s.axis n).pair = some p) (h1 : (p.1 != q.1) ≠ (p.2 != q.2))
include hp h1

theorem State.quadEdge_of_step : s.quadEdge n q stamp =
    if !s.bit (rSchAxStat n) 31 then s.setAxis n { s.axis n with pair := some q }
    else (s.setAxis n { s.axis n with pair := some q }).countChange n (s.axSign n (quadStep p q)) stamp := by
  have hne : ((s.axis n).pair == some q) = false := by
    rw [hp]
    refine beq_eq_false_iff_ne.mpr fun h => ?_
    obtain rfl := Option.some.inj h
    simp at h1
  unfold State.quadEdge
  extract_lets a s1
  rw [if_neg (by simp only [hl, hm, a, hne]; decide)]
  simp only [a, hp]
  refine if_neg ?_
  rw [Bool.and_eq_true_iff]
  exact fun ⟨ha, hb⟩ => h1 (ha.trans hb.symm)

end

/-! ### A change of the count (R244, R245) -/

/-- An axis without a direction counts its first change. -/
theorem State.countChange_of_first {d stamp : Int} (hdir : (s.axis n).dir = none) (hd : d ≠ 0) :
    ∃ u : State, s.countChange n d stamp = ((u.rearmAxis (n + 1)).repredict (n + 1)).expectIdle ∧
      (u.axis n).count = (s.axis n).count + BitVec.ofInt 48 d ∧ (u.axis n).tk = stamp ∧ (u.axis n).tc = stamp ∧
      (u.axis n).dir = some (decide (d < 0)) ∧ u.bit (rSchAxStat n) 29 = decide (d < 0) := by
  obtain ⟨w, hw⟩ := s.keepWas_axis n
  unfold State.countChange
  extract_lets s0 a down turn c at_ h v a1 s1 s2
  have ha : a.dir = none := by simp only [a, s0, hw, hdir]
  have hcount : a.count = (s.axis n).count := by simp only [a, s0, hw]
  have hturn : turn = false := by simp only [turn, ha, Bool.and_false]
  have hs2 : s2 = s1 := if_neg (Bool.eq_false_iff.mp hturn)
  have hax : s1.axis n = a1 :=
    (State.axis_of_sch (State.setBit_sch ..) n).trans ((State.axis_of_sch (State.setBit_sch ..) n).trans (State.setAxis_axis _))
  have hdir : a1.dir = some down := if_neg hd
  refine ⟨s2, rfl, ?_⟩
  rw [hs2, hax, hdir]
  refine ⟨congrArg (· + BitVec.ofInt 48 d) hcount, rfl, if_neg hd, rfl, ?_⟩
  exact (State.bit_setBit_same _ _ _ _ (by decide)).trans (by rw [hdir, Option.getD_some])

/-! ### Index (R238, R239) -/

/-- The index has latched the count `c`; the axis is then `v`. -/
def State.indexed (s : State) (n : Nat) (v : Axis) (c : BitVec 48) : State :=
  ((((s.setAxis n v).setLive (rSchAxIdxlatLo n) (BitVec.ofNat 64 c.toNat)).setBit (rSchAxStat n) 26 true).count
    (rSchAxIndex n)).raise (0x082 + 4 * n) (axUnit n)

theorem State.indexed_rd {r : Nat} (h1 : rSchAxStat n ≠ r) (h2 : rSchAxIndex n ≠ r) (v : Axis) (c : BitVec 48) :
    (((((s.setAxis n v).setLive (rSchAxIdxlatLo n) (BitVec.ofNat 64 c.toNat)).setBit (rSchAxStat n) 26 true).count
      (rSchAxIndex n))).rd r = s.rd r :=
  (State.rd_count_other h2).trans ((State.rd_setBit_other _ _ h1).trans ((State.setLive_rd ..).trans (State.setAxis_rd ..)))

theorem State.indexed_holds (n : Nat) (v : Axis) (c : BitVec 48) : (s.indexed n v c).axis n = v ∧
    (s.indexed n v c).liveAt (rSchAxIdxlatLo n) = BitVec.ofNat 64 c.toNat ∧ (s.indexed n v c).bit (rSchAxStat n) 26 = true ∧
    (s.indexed n v c).rd (rSchAxIndex n) = satAdd (s.rd (rSchAxIndex n)) 1 := by
  have hne : rSchAxIndex n ≠ rSchAxStat n := by unfold rSchAxIndex rSchAxStat; omega
  refine ⟨(State.axis_of_sch ((State.raise_sch ..).trans ((State.count_sch ..).trans (State.setBit_sch ..))) n).trans
    (State.setAxis_axis (s := s) v), (State.liveAt_of_live (State.raise_live ..)).trans (Map.get_set_same ..),
    (State.raise_bit ..).trans ((State.bit_of_rd (State.rd_count_other hne)).trans (State.bit_setBit_same _ _ _ _ (by decide))),
    (State.raise_rd ..).trans ((State.rd_wr_same ..).trans (congrArg (satAdd · 1) ?_))⟩
  exact (State.rd_setBit_other _ _ hne.symm).trans ((State.setLive_rd ..).trans (State.setAxis_rd ..))

theorem State.indexed_hears (n : Fin 4) (v : Axis) (c : BitVec 48) (h : s.speaks (0x082 + 4 * n) (axUnit n) = true) :
    (s.indexed n v c).hears (0x082 + 4 * n) (axUnit n) = true :=
  State.raise_hears_of h rfl rfl (State.indexed_rd (schReg_ne_fence (by unfold rSchAxStat; omega) (axUnit_lt n))
    (schReg_ne_fence (by unfold rSchAxIndex; omega) (axUnit_lt n)) v c)

theorem State.indexLatch_of_first (hl : s.axLive n = true) (hz : s.zOn n = true) (hm : s.axMode n = 1)
    (hen : s.bit (rSchAxIdx n) 31 = true) (hg : gateOk (s.fld (rSchAxIdx n) 16 2) (s.axis n).pair = true)
    (hn : (s.axis n).latch = none) : ∃ v : Axis, v.latch = some (s.axis n).count ∧ v.count = (s.axis n).count ∧
    s.indexLatch n = s.indexed n v (s.axis n).count := by
  unfold State.indexLatch
  extract_lets a fresh down turned s1 s2 s3
  have hcond : ¬(!s.axLive n || !s.zOn n || s.axMode n != 1 || !s.bit (rSchAxIdx n) 31 ||
      !gateOk (s.fld (rSchAxIdx n) 16 2) a.pair) = true := by
    simp only [hl, hz, hm, hen, a, hg]
    decide
  refine ⟨{ a with latch := some a.count, latchDir := down, turned := fresh, turned0 := false }, rfl, rfl, (if_neg hcond).trans ?_⟩
  simp only [s3, a, hn]
  rfl

/-! ### Hall sectors (R240) -/

/-- The three lines as they are shown. -/
def State.hallShown (s : State) (n : Nat) (u v w : Bool) : State :=
  s.setFld (rSchAxStat n) 20 3 (u.toNat * 4 + v.toNat * 2 + w.toNat)

/-- A legal sector has been seen. -/
def State.hallSeen (s : State) (n : Nat) (u v w : Bool) (k : Nat) : State :=
  (s.hallShown n u v w).setAxis n { s.axis n with illegal := false, sector := some k }

theorem State.hallShown_fld (n : Nat) (u v w : Bool) :
    (s.hallShown n u v w).fld (rSchAxStat n) 20 3 = u.toNat * 4 + v.toNat * 2 + w.toNat :=
  (State.fld_setFld_same _ _ _ _ _ (by decide)).trans (by cases u <;> cases v <;> cases w <;> rfl)

theorem State.hallShown_rd {r : Nat} (h : rSchAxStat n ≠ r) (u v w : Bool) : (s.hallShown n u v w).rd r = s.rd r :=
  State.rd_setFld_other _ _ _ h

section
variable {u v w : Bool} {j k : Nat} {stamp : Int} (hl : s.axLive n = true) (hm : s.axMode n = 2)
include hl hm

theorem State.hallChange_of_illegal (hk : hallSector (u, v, w) = none) (hi : (s.axis n).illegal = false) :
    s.hallChange n u v w stamp =
      (((s.hallShown n u v w).setAxis n { s.axis n with illegal := true, sector := none }).count (rSchAxErrHall n)).axErr n 2 := by
  unfold State.hallChange
  rw [if_neg (by simp [hl, hm])]
  simp only [hk, hi]
  rfl

variable (hk : hallSector (u, v, w) = some k) (hj : (s.axis n).sector = some j)
include hk hj

theorem State.hallChange_of_up (hv : s.bit (rSchAxStat n) 31 = true) (hup : (j + 1) % 6 = k) :
    s.hallChange n u v w stamp = (s.hallSeen n u v w k).countChange n (s.axSign n 1) stamp := by
  have hne : j ≠ k := by omega
  unfold State.hallChange
  rw [if_neg (by simp [hl, hm])]
  simp only [hk, hj, hv]
  rw [if_neg hne, if_pos (by simp [hup]), if_pos trivial, if_pos (by simp [hup])]
  rfl

theorem State.hallChange_of_jump (hne : j ≠ k) (hup : (j + 1) % 6 ≠ k) (hdown : (k + 1) % 6 ≠ j) :
    s.hallChange n u v w stamp = (s.hallSeen n u v w k).axJump n (rSchAxErrHall n) 3 := by
  unfold State.hallChange
  rw [if_neg (by simp [hl, hm])]
  simp only [hk, hj]
  rw [if_neg hne, if_neg (by simp [hup, hdown])]
  rfl

end

/-! ### Wires (R237) -/

/-- The axis `v` shows a wire fault. -/
def State.wireCut (s : State) (n : Nat) (v : Axis) : State :=
  ((((s.setAxis n v).setValid n false).setBit (rSchAxStat n) 27 true).count (rSchAxWire n)).axErr n 4

theorem State.wireFault_of_good (hl : s.axLive n = true) (hm : s.axMode n ≠ 0) (hw : (s.axis n).wire = false) :
    s.wireFault n = s.wireCut n { s.axis n with wire := true, raw := none, reading := none, waiting := false } :=
  if_neg (by simp [hl, hm, hw])

theorem State.wireRecovery_of_bad (hu : s.unitLive 4 (axUnit n) = true) (hm : s.axMode n ≠ 0) (hw : (s.axis n).wire = true)
    (hf : (s.axis n).fold = false) : s.wireRecovery n = (s.setAxis n { s.axis n with wire := false }).setValid n true :=
  (if_neg (by simp [hu, hm, hw])).trans (if_neg (Bool.eq_false_iff.mp hf))

/-- The axis shows a wire fault: no longer valid, the fault counted and told with its cause. -/
theorem State.wireCut_holds (v : Axis) : (s.wireCut n v).bit (rSchAxStat n) 31 = false ∧
    (s.wireCut n v).bit (rSchAxStat n) 27 = true ∧ (s.wireCut n v).axis n = v.lost ∧
    (s.wireCut n v).rd (rSchAxWire n) = satAdd (s.rd (rSchAxWire n)) 1 ∧ (s.wireCut n v).fld (rSchAxErrinfo n) 28 4 = 4 := by
  obtain ⟨h31, hax, hrd⟩ := State.setValid_false (s := s.setAxis n v) n
  have hst : (s.wireCut n v).rd (rSchAxStat n) = (((s.setAxis n v).setValid n false).setBit (rSchAxStat n) 27 true).rd (rSchAxStat n) :=
    (State.axErr_rd_other (by unfold rSchAxErrinfo rSchAxStat; omega) _).trans
      (State.rd_count_other (by unfold rSchAxWire rSchAxStat; omega))
  refine ⟨(State.bit_of_rd hst).trans ?_, (State.bit_of_rd hst).trans (State.bit_setBit_same _ _ _ _ (by decide)), ?_, ?_,
    State.axErr_cause ..⟩
  · exact (State.bit_setBit_apart 27 31 true (by decide) (by decide)).trans h31
  · exact (State.axErr_axis ..).trans ((State.axis_of_sch (State.count_sch ..) n).trans
      ((State.axis_of_sch (State.setBit_sch ..) n).trans (hax.trans (congrArg Axis.lost (State.setAxis_axis v)))))
  · refine (State.axErr_rd_other (by unfold rSchAxErrinfo rSchAxWire; omega) _).trans ((State.rd_wr_same ..).trans
      (congrArg (satAdd · 1) ?_))
    exact (State.rd_setBit_other _ _ (by unfold rSchAxStat rSchAxWire; omega)).trans
      (hrd _ (by unfold rSchAxStat rSchAxWire; omega))

/-! ### Serial encoders (R241 to R243) -/

theorem State.serialStart_of_due {stamp : Int} {high : Bool} (hl : s.axLive n = true) (hm : s.axMode n = 3 ∨ s.axMode n = 4)
    (hw : (s.axis n).wire = false) (hr : (s.axis n).reading = none) :
    s.serialStart n stamp high = s.setAxis n { s.axis n with reading := some stamp, waiting := !high } := by
  refine if_neg ?_
  obtain h | h := hm <;> simp [hl, h, hw, hr]

/-- A rejected read is counted and told with its cause; the position stays. -/
theorem State.rejectRead_holds (n c : Nat) : (s.rejectRead n c).rd (rSchAxErrSer n) = satAdd (s.rd (rSchAxErrSer n)) 1 ∧
    ((s.rejectRead n c).axis n).reading = none ∧ ((s.rejectRead n c).axis n).count = (s.axis n).count ∧
    ((s.rejectRead n c).axis n).bad = min 3 ((s.axis n).bad + 1) ∧ (s.rejectRead n c).fld (rSchAxErrinfo n) 28 4 = c % 16 := by
  unfold State.rejectRead
  extract_lets a s1 s2
  have hrd1 : s1.rd (rSchAxErrSer n) = satAdd (s.rd (rSchAxErrSer n)) 1 := State.rd_wr_same ..
  have hax1 : s1.axis n = { s.axis n with reading := none, waiting := false, bad := min 3 (a.bad + 1), good := 0 } :=
    (State.axis_of_sch (State.count_sch ..) n).trans (State.setAxis_axis _)
  clear_value s1
  have h2 : s2.rd (rSchAxErrSer n) = s1.rd (rSchAxErrSer n) ∧ (s2.axis n = s1.axis n ∨ s2.axis n = (s1.axis n).lost) := by
    obtain ⟨-, hax, hrd⟩ := State.setValid_false (s := s1) n
    have hne : rSchAxErrSer n ≠ rSchAxStat n := by unfold rSchAxErrSer rSchAxStat; omega
    by_cases h : 2 ≤ a.bad
    · rw [show s2 = (s1.setValid n false).setBit (rSchAxStat n) 27 true from if_pos h]
      exact ⟨(State.rd_setBit_other _ _ hne.symm).trans (hrd _ hne), .inr ((State.axis_of_sch (State.setBit_sch ..) n).trans hax)⟩
    · rw [show s2 = s1 from if_neg h]
      exact ⟨rfl, .inl rfl⟩
  obtain ⟨hrd2, hax2⟩ := h2
  refine ⟨(State.axErr_rd_other (by unfold rSchAxErrinfo rSchAxErrSer; omega) _).trans (hrd2.trans hrd1), ?_, ?_, ?_,
    State.axErr_cause ..⟩
  all_goals
    rw [State.axErr_axis]
    obtain h | h := hax2
    · rw [h, hax1]
    · rw [h, hax1]
      rfl

section
variable {bits : List Bool} {t0 : Int} (hr : (s.axis n).reading = some t0) (hu : s.unitLive 4 (axUnit n) = true)
  (hm : s.axMode n = 3 ∨ s.axMode n = 4) (hw : (s.axis n).waiting = false)
include hr hu hm hw

theorem State.serialDone_of_bad (hf : (s.serialFrame n bits).1 = none) :
    s.serialDone n bits = s.rejectRead n (s.serialFrame n bits).2.1 := by
  have hcond : ¬(!s.unitLive 4 (axUnit n) || !(s.axMode n == 3 || s.axMode n == 4) || (s.axis n).waiting) = true := by
    obtain h | h := hm <;> simp [hu, h, hw]
  unfold State.serialDone
  simp only [hr, hf]
  exact if_neg hcond

theorem State.serialDone_of_good {raw p : Nat} (hf : s.serialFrame n bits = (some raw, 0, false)) (hp : (s.axis n).raw = some p)
    (hv : s.bit (rSchAxStat n) 31 = true) (hj : s.fld (rSchAxSerl n) 0 16 = 0) :
    s.serialDone n bits = (s.setAxis n { s.axis n with
        reading := none, raw := some raw, bad := 0, good := min 3 ((s.axis n).good + 1) }).countChange n
      (s.axSign n (sext (s.serBits n) ((raw + 2 ^ s.serBits n - p) % 2 ^ s.serBits n)))
      (t0 + (s.fld (rSchAxSerl n) 16 16 * tuPerNs : Nat)) := by
  have hcond : ¬(!s.unitLive 4 (axUnit n) || !(s.axMode n == 3 || s.axMode n == 4) || (s.axis n).waiting) = true := by
    obtain h | h := hm <;> simp [hu, h, hw]
  unfold State.serialDone
  simp only [hr, hf, hp, hv, hj, bne_self_eq_false, Bool.and_false, Bool.not_true, Bool.false_and, Bool.false_eq_true, if_false]
  exact if_neg hcond

end

/-! ### Supply and SET (R247, R248) -/

theorem State.foldEnd_holds (n : Nat) :
    (s.foldEnd n).bit (rSchAxStat n) 31 = (s.bit (rSchAxStat n) 31 ||
      ((s.axis n).fold && (s.axMode n == 1 || s.axMode n == 2) && !(s.axis n).wire)) ∧ ((s.foldEnd n).axis n).fold = false ∧
    ∀ lo w, lo + w ≤ 31 → (s.foldEnd n).fld (rSchAxStat n) lo w = s.fld (rSchAxStat n) lo w := by
  unfold State.foldEnd
  extract_lets src s1
  have hax : s1.axis n = { s.axis n with fold := false } := State.setAxis_axis _
  have hbit : s1.bit (rSchAxStat n) 31 = s.bit (rSchAxStat n) 31 := rfl
  have hfld (lo w : Nat) : s1.fld (rSchAxStat n) lo w = s.fld (rSchAxStat n) lo w := rfl
  clear_value s1
  split
  next h =>
    obtain ⟨h31, hax', -⟩ := State.setValid_true (s := s1) n
    refine ⟨by rw [h31, h, Bool.or_true], ?_, fun lo w hlo => (State.setValid_true_fld hlo).trans (hfld ..)⟩
    rw [hax', hax]
    split <;> rfl
  next h => exact ⟨by rw [hbit, Bool.eq_false_iff.mpr h, Bool.or_false], by rw [hax], fun lo w _ => hfld lo w⟩

/-- The axis stands as `v`, without speed (R244). -/
def State.stilled (s : State) (n : Nat) (v : Axis) : State := (s.setAxis n v).setBit (rSchAxStat n) 30 false

theorem State.repredict_rd (k r : Nat) : (s.repredict k).rd r = s.rd r := rfl

theorem State.repredict_axis (k n : Nat) : (s.repredict k).axis n = s.axis n := rfl

theorem State.stilled_holds (v : Axis) : ((s.stilled n v).repredict (n + 1)).axis n = v ∧
    ((s.stilled n v).repredict (n + 1)).bit (rSchAxStat n) 30 = false ∧
    ∀ r, r ≠ rSchAxStat n → ((s.stilled n v).repredict (n + 1)).rd r = s.rd r := by
  refine ⟨(State.repredict_axis ..).trans ((State.axis_of_sch (State.setBit_sch ..) n).trans (State.setAxis_axis v)),
    (State.bit_of_rd (State.repredict_rd ..)).trans (State.bit_setBit_same _ _ _ _ (by decide)), fun r hr => ?_⟩
  exact (State.repredict_rd ..).trans ((State.rd_setBit_other _ _ hr.symm).trans (State.setAxis_rd ..))

/-- The supply of the axis `v` folds back at `mA`. -/
def State.folded (s : State) (n mA : Nat) (v : Axis) : State :=
  ((((s.setAxis n v).setFld (rSchAxStat n) 24 2 2).setFld (rSchAxStat n) 0 16 (min 0xFFFF mA)).setValid n false).axErr n 10

theorem State.foldback_of_on {mA : Nat} (hu : s.unitLive 4 (axUnit n) = true) (h : s.fld (rSchAxStat n) 24 2 = 1) :
    s.foldback n mA = s.folded n mA { s.axis n with fold := true, good := 0 } := if_neg (by simp [hu, h])

/-- The two fields of the supply as written, the higher first. -/
theorem State.setSupply_fld (a x y : Nat) (hx : x < 4) (hy : y < 2 ^ 16) :
    ((s.setFld a 24 2 x).setFld a 0 16 y).fld a 24 2 = x ∧ ((s.setFld a 24 2 x).setFld a 0 16 y).fld a 0 16 = y := by
  refine ⟨(State.fld_setFld_apart 0 16 y 24 2 (by decide)).trans ?_, ?_⟩
  · exact (State.fld_setFld_same _ _ _ _ _ (by decide)).trans (Nat.mod_eq_of_lt hx)
  · exact (State.fld_setFld_same _ _ _ _ _ (by decide)).trans (Nat.mod_eq_of_lt hy)

theorem min_lt_word (m : Nat) : min 0xFFFF m < 2 ^ 16 := by omega

theorem State.folded_holds (mA : Nat) (v : Axis) : (s.folded n mA v).fld (rSchAxStat n) 24 2 = 2 ∧
    (s.folded n mA v).fld (rSchAxStat n) 0 16 = min 0xFFFF mA ∧ (s.folded n mA v).bit (rSchAxStat n) 31 = false ∧
    (s.folded n mA v).axis n = v.lost ∧ (s.folded n mA v).fld (rSchAxErrinfo n) 28 4 = 10 := by
  unfold State.folded
  obtain ⟨h2, h0⟩ := State.setSupply_fld (s := s.setAxis n v) (rSchAxStat n) 2 (min 0xFFFF mA) (by decide) (min_lt_word mA)
  have hax : (((s.setAxis n v).setFld (rSchAxStat n) 24 2 2).setFld (rSchAxStat n) 0 16 (min 0xFFFF mA)).axis n = v :=
    (State.axis_of_sch (s := s.setAxis n v) rfl n).trans (State.setAxis_axis v)
  generalize ((s.setAxis n v).setFld (rSchAxStat n) 24 2 2).setFld (rSchAxStat n) 0 16 (min 0xFFFF mA) = t at h2 h0 hax ⊢
  obtain ⟨h31, hlost, -⟩ := State.setValid_false (s := t) n
  have hst : ((t.setValid n false).axErr n 10).rd (rSchAxStat n) = (t.setValid n false).rd (rSchAxStat n) :=
    State.axErr_rd_other (by unfold rSchAxErrinfo rSchAxStat; omega) _
  refine ⟨(State.fld_of_rd hst).trans ((State.setValid_false_fld (by decide)).trans h2),
    (State.fld_of_rd hst).trans ((State.setValid_false_fld (by decide)).trans h0), (State.bit_of_rd hst).trans h31, ?_,
    State.axErr_cause ..⟩
  rw [State.axErr_axis, hlost, hax]

/-- The supply is on again at `mA`. -/
def State.resupplied (s : State) (n mA : Nat) : State := (s.setFld (rSchAxStat n) 24 2 1).setFld (rSchAxStat n) 0 16 (min 0xFFFF mA)

theorem State.supRecovery_of_folded {mA : Nat} (hu : s.unitLive 4 (axUnit n) = true) (h : s.fld (rSchAxStat n) 24 2 = 2) :
    s.supRecovery n mA = (s.resupplied n mA).foldEnd n := if_neg (by simp [hu, h])

theorem State.resupplied_holds (mA : Nat) : ((s.resupplied n mA).foldEnd n).fld (rSchAxStat n) 24 2 = 1 ∧
    ((s.resupplied n mA).foldEnd n).fld (rSchAxStat n) 0 16 = min 0xFFFF mA ∧ (((s.resupplied n mA).foldEnd n).axis n).fold = false ∧
    ((s.resupplied n mA).foldEnd n).bit (rSchAxStat n) 31 = (s.bit (rSchAxStat n) 31 ||
      ((s.axis n).fold && (s.axMode n == 1 || s.axMode n == 2) && !(s.axis n).wire)) := by
  have hne : rSchAxStat n ≠ rSchAxCfg n := by unfold rSchAxStat rSchAxCfg; omega
  obtain ⟨h1, h0⟩ := State.setSupply_fld (s := s) (rSchAxStat n) 1 (min 0xFFFF mA) (by decide) (min_lt_word mA)
  have hbit : (s.resupplied n mA).bit (rSchAxStat n) 31 = s.bit (rSchAxStat n) 31 :=
    (State.bit_setFld_apart 0 16 _ 31 (by decide) (by decide)).trans (State.bit_setFld_apart 24 2 1 31 (by decide) (by decide))
  have hmode : (s.resupplied n mA).axMode n = s.axMode n :=
    (State.fld_setFld_ne _ _ _ _ _ hne).trans (State.fld_setFld_ne _ _ _ _ _ hne)
  have hax : (s.resupplied n mA).axis n = s.axis n := State.axis_of_sch rfl n
  obtain ⟨h31, hfold, hfld⟩ := State.foldEnd_holds (s := s.resupplied n mA) n
  rw [hbit, hmode, hax] at h31
  exact ⟨(hfld 24 2 (by decide)).trans h1, (hfld 0 16 (by decide)).trans h0, hfold, h31⟩

theorem State.axisSet_of_free {v : Word} (hu : s.unitLive 4 (axUnit n) = true) (hc : s.capture = false) :
    s.axisSet n v = (((((s.keepWas n).setAxis n { (s.keepWas n).axis n with
      count := BitVec.ofNat 48 (fget v 0 16 * 2 ^ 32 + (s.rd (rSchAxSetLo n)).toNat), hist := [], v := 0 }).setBit
        (rSchAxStat n) 30 false).rearmAxis (n + 1)).repredict (n + 1)) :=
  (if_neg (by simp [hu])).trans (if_neg (Bool.eq_false_iff.mp hc))

/-- Settles O38. -/
theorem encoderAxes : Obligations.EncoderAxes := by
  refine ⟨fun s n a b p stamp hl hm hp hv h1 => ?_, fun s n a b stamp hl hm hp => ?_, fun s n a b p stamp hl hm hp hv h1 => ?_,
    fun s n d stamp hdir hd => State.countChange_of_first hdir hd, fun s n hl hz hm hen hg hn => ?_,
    fun s n u v w j k stamp hl hm hk hj hv hup => ?_, fun s n stamp b hl hm hi => ?_,
    fun s n u v w j k stamp hl hm hk hj hne hup hdown => ?_, fun s n hl hm hw => ?_, fun s n hu hm hw hf => ?_,
    fun s n stamp high hl hm hw hr => .of_eq rfl (State.serialStart_of_due hl hm hw hr) ⟨State.setAxis_axis _, rfl⟩,
    fun s n bits t0 hr hu hm hw hf => ?_, fun s n bits t0 raw p hr hu hm hw hf hp hv hj =>
      .of_eq rfl (State.serialDone_of_good hr hu hm hw hf hp hv hj) rfl, fun s n hu hr => ?_, fun s n hu => ?_,
    fun s n mA hu h => ?_, fun s n mA hu h => ?_, fun s n v hr hu hc => ?_,
    fun s n v hr hu hc => .of_eq (exec_of_reached_sch hr rfl) ((if_neg (by simp [hu])).trans (if_pos hc)) rfl⟩
  · exact .of_eq rfl ((State.quadEdge_of_step hl hm hp h1).trans (if_neg (by simp [hv]))) rfl
  · obtain ⟨hcount, hhist, hpair, -⟩ := State.axJump_axis (s := s.setAxis n { s.axis n with pair := some (a, b) }) n (rSchAxErrQuad n) 1
    obtain ⟨hrd, hinfo⟩ := State.axJump_regs (s := s.setAxis n { s.axis n with pair := some (a, b) }) (n := n) (r := rSchAxErrQuad n)
      (by unfold rSchAxErrinfo rSchAxErrQuad; omega) 1
    rw [State.setAxis_axis] at hcount hpair
    exact .of_eq rfl (State.quadEdge_of_jump hl hm hp) ⟨hcount, hhist, hpair, hrd, hinfo,
      fun h => State.axJump_hears n (by unfold rSchAxErrQuad; omega) 1 h⟩
  · exact .of_eq rfl ((State.quadEdge_of_step hl hm hp h1).trans (if_pos (by simp [hv]))) rfl
  · obtain ⟨v, hlatch, hcount, hu⟩ := State.indexLatch_of_first hl hz hm hen hg hn
    obtain ⟨hax, hlive, h26, hrd⟩ := State.indexed_holds (s := s) n v (s.axis n).count
    exact .of_eq rfl hu ⟨by rw [hax, hlatch], by rw [hax, hcount], hlive, h26, hrd, State.indexed_hears n v _⟩
  · exact .of_eq rfl (State.hallChange_of_up hl hm hk hj hv hup) ⟨State.setAxis_axis _, (State.setAxis_fld ..).trans (State.hallShown_fld ..)⟩
  · have hk : hallSector (b, b, b) = none := by cases b <;> rfl
    refine .of_eq rfl (State.hallChange_of_illegal hl hm hk hi) ⟨?_, ?_, State.axErr_cause ..⟩
    · exact (State.axErr_axis ..).trans ((State.axis_of_sch (State.count_sch ..) n).trans (State.setAxis_axis _))
    · refine (State.axErr_rd_other (by unfold rSchAxErrinfo rSchAxErrHall; omega) _).trans ((State.rd_wr_same ..).trans
        (congrArg (satAdd · 1) ?_))
      exact (State.setAxis_rd ..).trans (State.hallShown_rd (by unfold rSchAxStat rSchAxErrHall; omega) _ _ _)
  · obtain ⟨hcount, hhist, -, hsec⟩ := State.axJump_axis (s := s.hallSeen n u v w k) n (rSchAxErrHall n) 3
    obtain ⟨hrd, hinfo⟩ := State.axJump_regs (s := s.hallSeen n u v w k) (n := n) (r := rSchAxErrHall n)
      (by unfold rSchAxErrinfo rSchAxErrHall; omega) 3
    have hax : (s.hallSeen n u v w k).axis n = { s.axis n with illegal := false, sector := some k } := State.setAxis_axis _
    have hseen : (s.hallSeen n u v w k).rd (rSchAxErrHall n) = s.rd (rSchAxErrHall n) :=
      (State.setAxis_rd ..).trans (State.hallShown_rd (by unfold rSchAxStat rSchAxErrHall; omega) _ _ _)
    rw [hax] at hcount hsec
    exact .of_eq rfl (State.hallChange_of_jump hl hm hk hj hne hup hdown)
      ⟨hcount, hhist, hsec, hrd.trans (congrArg (satAdd · 1) hseen), hinfo⟩
  · obtain ⟨h31, h27, hax, hrd, hinfo⟩ := State.wireCut_holds (s := s) (n := n)
      { s.axis n with wire := true, raw := none, reading := none, waiting := false }
    exact .of_eq rfl (State.wireFault_of_good hl hm hw) ⟨h31, h27, by rw [hax]; rfl, by rw [hax]; rfl, hrd, hinfo⟩
  · obtain ⟨h31, hax, hrd⟩ := State.setValid_true (s := s.setAxis n { s.axis n with wire := false }) n
    rw [State.setAxis_axis] at hax
    exact .of_eq rfl (State.wireRecovery_of_bad hu hm hw hf) ⟨h31, hax, hrd⟩
  · obtain ⟨hrd, hread, hcount, hbad, hinfo⟩ := State.rejectRead_holds (s := s) n (s.serialFrame n bits).2.1
    exact .of_eq rfl (State.serialDone_of_bad hr hu hm hw hf) ⟨hrd, hread, hcount, hbad, hinfo⟩
  · obtain ⟨hrd, hread, hcount, -, hinfo⟩ := State.rejectRead_holds (s := s) n 7
    have hsome : (s.axis n).reading.isSome = true := Option.isSome_iff_ne_none.mpr hr
    exact .of_eq rfl (if_pos (by simp [hu, hsome])) ⟨hrd, hread, hcount, hinfo⟩
  · obtain ⟨hax, h30, hrd⟩ := State.stilled_holds (s := s) (n := n) { s.axis n with v := 0 }
    exact .of_eq rfl (if_pos hu) ⟨hax, h30, hrd⟩
  · obtain ⟨h2, h0, h31, hax, hinfo⟩ := State.folded_holds (s := s) (n := n) mA { s.axis n with fold := true, good := 0 }
    exact .of_eq rfl (State.foldback_of_on hu h) ⟨h2, h0, h31, by rw [hax]; rfl, by rw [hax]; rfl, hinfo⟩
  · obtain ⟨h1, h0, hfold, h31⟩ := State.resupplied_holds (s := s) (n := n) mA
    exact .of_eq rfl (State.supRecovery_of_folded hu h) ⟨h1, h0, hfold, h31⟩
  · refine .of_eq (exec_of_reached_sch hr rfl) (State.axisSet_of_free hu hc) ⟨?_, State.bit_setBit_same _ _ _ _ (by decide)⟩
    exact (State.axis_of_sch (State.setBit_sch ..) n).trans (State.setAxis_axis _)

end Sys2Proof.Machine
end

section
/-! PROOF. The encoder channels and RTP packets. -/

namespace Sys2Proof.Machine

open Sys2Proof

variable {s t : State} {c : Nat}

/-! ### Encoder channels -/

@[simp] theorem State.setEnc_enc (v : VEnc) : (s.setEnc c v).enc c = v := Map.get_set_same ..

theorem State.enc_of_vid (h : t.vid = s.vid) (c : Nat) : t.enc c = s.enc c := by rw [State.enc, h, State.enc]

/-- A channel as it starts: running, without an error and without references. -/
def State.encBegun (s : State) (c : Nat) (v : VEnc) (vbv : Nat) : State :=
  ((((s.setEnc c v).setEncState c 1).setFld (rVidEncStat c) 24 4 0).setFld (rVidEncStat c) 0 4 0).wr (rVidEncVbvlvl c)
    (BitVec.ofNat 32 vbv)

theorem State.encBegun_holds (v : VEnc) (vbv : Nat) : (s.encBegun c v vbv).encState c = 1 ∧
    (s.encBegun c v vbv).fld (rVidEncStat c) 24 4 = 0 ∧ (s.encBegun c v vbv).rd (rVidEncVbvlvl c) = BitVec.ofNat 32 vbv ∧
    (s.encBegun c v vbv).enc c = v := by
  have hne : rVidEncVbvlvl c ≠ rVidEncStat c := by unfold rVidEncVbvlvl rVidEncStat; omega
  refine ⟨(State.fld_wr_ne _ _ _ hne).trans ?_, (State.fld_wr_ne _ _ _ hne).trans ?_, State.rd_wr_same ..,
    (State.enc_of_vid (s := s.setEnc c v) rfl c).trans (State.setEnc_enc v)⟩
  · exact (State.fld_setFld_apart 0 4 0 28 4 (by decide)).trans ((State.fld_setFld_apart 24 4 0 28 4 (by decide)).trans
      (State.fld_setFld_same _ _ _ _ _ (by decide)))
  · exact (State.fld_setFld_apart 0 4 0 24 4 (by decide)).trans (State.fld_setFld_same _ _ _ _ _ (by decide))

section
variable (hu : s.unitLive 10 (2 + c) = true)
include hu

theorem State.encStart_of_stopping (h : s.encState c = 2) : s.encStart c = s.violation (rVidEncCmd c) :=
  (if_neg (by simp [hu])).trans ((if_pos (.inr h)).trans (if_neg (by simp [h])))

section
variable (h1 : s.encState c ≠ 1) (h2 : s.encState c ≠ 2)
include h1 h2

theorem State.encStart_of_good (he : s.encCheck c (s.bit (rVidEncCfg c) 31) (s.fld (rVidEncCfg c) 24 6) = 0) :
    ∃ (u : State) (v : VEnc), s.encStart c = u.encBegun c v (s.vbvBits c / 2) ∧ v.host = s.bit (rVidEncCfg c) 31 ∧
      v.stream = s.fld (rVidEncCfg c) 24 6 ∧ v.req = (s.enc c).req ∧ v.pic = none ∧ v.pkts = (s.enc c).pkts := by
  unfold State.encStart
  rw [if_neg (by simp [hu]), if_neg (by simp [h1, h2])]
  simp only [he]
  exact ⟨_, _, rfl, rfl, rfl, rfl, rfl, rfl⟩

theorem State.encStart_of_bad (he : s.encCheck c (s.bit (rVidEncCfg c) 31) (s.fld (rVidEncCfg c) 24 6) ≠ 0) :
    s.encStart c = s.encError c (s.encCheck c (s.bit (rVidEncCfg c) 31) (s.fld (rVidEncCfg c) 24 6)) := by
  unfold State.encStart
  rw [if_neg (by simp [hu]), if_neg (by simp [h1, h2])]
  extract_lets stream
  split
  next h => exact absurd h he
  · rfl

end

theorem State.encStop_of_idle (h : s.encState c = 1) (hp : (s.enc c).pic = none) : s.encStop c = s.encIdle c :=
  (if_neg (by simp [hu, h])).trans (if_neg (by simp [hp]))

theorem State.encStop_of_busy {p : VPic} (h : s.encState c = 1) (hp : (s.enc c).pic = some p) : s.encStop c = s.setEncState c 2 :=
  (if_neg (by simp [hu, h])).trans (if_pos (by simp [hp]))

end

theorem State.encIdle_holds : (s.encIdle c).encState c = 0 ∧ (s.encIdle c).fld (rVidEncStat c) 0 4 = 0 := by
  unfold State.encIdle
  extract_lets v s1
  generalize s1.setEnc c { VEnc.init with req := v.req, pkts := v.pkts, ident := v.ident } = u
  refine ⟨?_, State.fld_setFld_same _ _ _ _ _ (by decide)⟩
  exact (State.fld_setFld_apart 0 4 0 28 4 (by decide)).trans (State.fld_setFld_same _ _ _ _ _ (by decide))

/-! ### Requests (R389) -/

/-- A request word after the write of `v`. -/
def reqOr (r v : Word) : Word := ((r ||| v) &&& 0xF0F00000#32) ||| (v &&& 0x030F0000#32)

/-- The bits of a request that stay beside those written, and the bits of which the last write counts. -/
theorem reqOr_getLsbD (r v : Word) (i : Nat) : (reqOr r v).getLsbD i =
    ((r.getLsbD i || v.getLsbD i) && (0xF0F00000#32).getLsbD i || v.getLsbD i && (0x030F0000#32).getLsbD i) := by
  simp only [reqOr, BitVec.getLsbD_or, BitVec.getLsbD_and]

theorem reqOr_of_kept {i : Nat} (h : (0xF0F00000#32).getLsbD i = true) (h' : (0x030F0000#32).getLsbD i = false) (r v : Word) :
    (reqOr r v).getLsbD i = (r.getLsbD i || v.getLsbD i) := by
  rw [reqOr_getLsbD, h, h', Bool.and_true, Bool.and_false, Bool.or_false]

theorem reqOr_of_last {i : Nat} (h : (0xF0F00000#32).getLsbD i = false) (h' : (0x030F0000#32).getLsbD i = true) (r v : Word) :
    (reqOr r v).getLsbD i = v.getLsbD i := by
  rw [reqOr_getLsbD, h, h', Bool.and_true, Bool.and_false, Bool.false_or]

theorem reqOr_slot (r v : Word) : fget (reqOr r v) 24 2 = fget v 24 2 := by
  refine Nat.eq_of_testBit_eq fun i => ?_
  rw [fget_testBit, fget_testBit]
  have h : ∀ i, i < 2 → (0xF0F00000#32).getLsbD (24 + i) = false ∧ (0x030F0000#32).getLsbD (24 + i) = true := by decide
  by_cases hi : i < 2
  · obtain ⟨hk, hl⟩ := h i hi
    rw [reqOr_of_last hk hl]
  · rw [decide_eq_false hi, Bool.false_and, Bool.false_and]

theorem reqOr_use (r v : Word) : fget (reqOr r v) 16 4 = fget v 16 4 := by
  refine Nat.eq_of_testBit_eq fun i => ?_
  rw [fget_testBit, fget_testBit]
  have h : ∀ i, i < 4 → (0xF0F00000#32).getLsbD (16 + i) = false ∧ (0x030F0000#32).getLsbD (16 + i) = true := by decide
  by_cases hi : i < 4
  · obtain ⟨hk, hl⟩ := h i hi
    rw [reqOr_of_last hk hl]
  · rw [decide_eq_false hi, Bool.false_and, Bool.false_and]

theorem reqOr_clear (r v : Word) : fget (reqOr r v) 20 4 = fget r 20 4 ||| fget v 20 4 := by
  refine Nat.eq_of_testBit_eq fun i => ?_
  rw [Nat.testBit_or, fget_testBit, fget_testBit, fget_testBit]
  have h : ∀ i, i < 4 → (0xF0F00000#32).getLsbD (20 + i) = true ∧ (0x030F0000#32).getLsbD (20 + i) = false := by decide
  by_cases hi : i < 4
  · obtain ⟨hk, hl⟩ := h i hi
    rw [reqOr_of_kept hk hl, ← Bool.and_or_distrib_left]
  · simp only [decide_eq_false hi, Bool.false_and, Bool.or_false]

theorem State.encReq_of_live (hu : s.unitLive 10 (2 + c) = true) (v : Word) :
    s.encReq c v = s.setEnc c { s.enc c with req := reqOr (s.enc c).req v } := if_neg (by simp [hu])

theorem State.encReq_req (hu : s.unitLive 10 (2 + c) = true) (v : Word) : ((s.encReq c v).enc c).req = reqOr (s.enc c).req v := by
  rw [State.encReq_of_live hu, State.setEnc_enc]

/-- A request changes nothing else of the channel. -/
theorem State.encReq_enc (c : Nat) (v : Word) : (s.encReq c v).enc c = { s.enc c with req := ((s.encReq c v).enc c).req } ∧
    (s.encReq c v).regs = s.regs := by
  cases hu : s.unitLive 10 (2 + c) with
  | false => rw [show s.encReq c v = s from if_pos (by simp [hu])]; exact ⟨rfl, rfl⟩
  | true =>
    rw [State.encReq_of_live hu]
    exact ⟨by rw [State.setEnc_enc], rfl⟩

/-! ### Pictures (R378, R385, R393) -/

theorem State.pictureStart_of_stopped (core : Nat) (h : s.pxStopped = true) : s.pictureStart core = s := if_pos (by simp [h])

theorem State.pictureStart_of_free (core : Nat) (hu : s.unitLive 10 1 = true) (h : s.pxStopped = false)
    (hp : ∀ c : Fin 8, (s.enc c).pic = none) :
    s.pictureStart core = s.encTry core ([6, 7] ++ (List.range 6).map (fun i => (s.vid.rr + 1 + i) % 6)) := by
  unfold State.pictureStart
  extract_lets busy
  have hb : busy = false := by
    refine List.any_eq_false.mpr fun c hc => ?_
    rw [hp ⟨c, List.mem_range.mp hc⟩]
    exact Bool.false_ne_true
  rw [if_neg (by simp [hu, h, hb])]

theorem State.encTry_of_room {core : Nat} {l : List Nat} {x : Nat × Nat × Nat} {p q r : Nat} (h : s.encState c = 1)
    (hp : (s.enc c).pic = none) (hu : s.unitLive 10 (2 + c) = true)
    (hg : s.encGeom c (s.enc c).host (s.enc c).stream = (p, q, r)) (hx : s.encNext c = some x)
    (hroom : s.outNeed c (s.sliceCount c (ctuGrid q r).2) ≤ s.outFree c) :
    s.encTry core (c :: l) = s.encTake core c x.1 x.2.1 x.2.2 := by
  obtain ⟨k, seq, passed⟩ := x
  rw [State.encTry, if_neg (by simp [h, hp, hu]), hx]
  simp only [hg]
  exact if_pos hroom

theorem State.sliceOutput_waits (h : (s.enc c).pic = none ∨ s.bulkWaits 3 = true) : s.sliceOutput c = s := by
  unfold State.sliceOutput
  split
  · rfl
  next p hp =>
    obtain h | h := h
    · rw [h] at hp
      cases hp
    · exact if_pos h

/-- A slice adds to the bytes of its picture, which then ends with its last slice or goes on with the next. -/
theorem State.sliceOutput_of_served {p : VPic} (hp : (s.enc c).pic = some p) (hw : s.bulkWaits 3 = false) :
    ∃ (u : State) (g : VPic), g.seq = p.seq ∧ g.slice = p.slice ∧ g.slices = p.slices ∧ g.poc = p.poc ∧ p.bytes < g.bytes ∧
      s.sliceOutput c = if p.slices - p.slice - 1 = 0 then u.encEnd c g
        else u.setEnc c { u.enc c with pic := some { g with slice := g.slice + 1 } } := by
  obtain ⟨t, ht⟩ : ∃ t, t = s.sliceOutput c := ⟨_, rfl⟩
  rw [← ht]
  unfold State.sliceOutput at ht
  split at ht
  next h =>
    rw [h] at hp
    cases hp
  next q hq =>
    obtain rfl : p = q := Option.some.inj (hp.symm.trans hq)
    rw [if_neg (Bool.eq_false_iff.mp hw)] at ht
    extract_lets pre after ctusAfter cap st fo starved forced len n lo q qp id nal data p1 vs s1 s2 s3 s4 at ht
    have hdata : 0 < data.length := by
      simp only [data, nal, List.length_append, startCode, List.length_cons]
      omega
    exact ⟨s4, p1, rfl, rfl, rfl, rfl, Nat.lt_add_of_pos_right hdata, ht⟩

/-! ### The end of a picture (R391, R394) -/

/-- A register of VID lies beyond the fences. -/
theorem vidReg_ne_fence {r x u : Nat} (hr : 0x2800000 ≤ r) (hu : u ≤ r) : r ≠ rDevFenceU (2 * srcCluster x + u / 32) := by
  have := srcCluster_lt x
  unfold rDevFenceU
  omega

theorem State.pxRelease_regs (i k : Nat) : (s.pxRelease i k).regs = s.regs ∧ (s.pxRelease i k).vid = s.vid := ⟨rfl, rfl⟩

theorem State.vbvAfter_holds (c n b : Nat) : (s.vbvAfter c n b).vid = s.vid ∧
    ∀ r, rVidEncVbvlvl c ≠ r → (s.vbvAfter c n b).rd r = s.rd r := by
  unfold State.vbvAfter
  extract_lets v
  split
  · exact ⟨rfl, fun _ _ => rfl⟩
  · exact ⟨rfl, fun r hr => State.rd_wr_other _ _ hr⟩
  · exact ⟨rfl, fun r hr => State.rd_wr_other _ _ hr⟩

/-- The registers that the end of a picture may write. -/
def encEndRegs (c : Nat) : List Nat := [rVidEncVbvlvl c, rVidEncStat c, rVidEncHostdone c, rVidEncPictures c]

theorem encEndRegs_avoid_fence {r : Nat} (hr : r ∈ encEndRegs c) (x : Nat) : r ≠ rDevFenceU (2 * srcCluster x + (2 + c) / 32) := by
  simp only [encEndRegs, List.mem_cons, List.not_mem_nil, or_false] at hr
  obtain rfl | rfl | rfl | rfl := hr
  · exact vidReg_ne_fence (by unfold rVidEncVbvlvl; omega) (by unfold rVidEncVbvlvl; omega)
  · exact vidReg_ne_fence (by unfold rVidEncStat; omega) (by unfold rVidEncStat; omega)
  · exact vidReg_ne_fence (by unfold rVidEncHostdone; omega) (by unfold rVidEncHostdone; omega)
  · exact vidReg_ne_fence (by unfold rVidEncPictures; omega) (by unfold rVidEncPictures; omega)

/-- The end of a picture of a running channel: it holds no picture, and its source event is heard. -/
theorem State.encEnd_holds (p : VPic) (h : s.encState c = 1) : ((s.encEnd c p).enc c).pic = none ∧
    (s.speaks (0x0C0 + c) (2 + c) = true → (s.encEnd c p).hears (0x0C0 + c) (2 + c) = true) := by
  unfold State.encEnd
  extract_lets v intra bits v1 s1 s2 s3
  have hv1 : v1.pic = none := rfl
  clear_value v1
  obtain ⟨hvid, hvbv⟩ := (s.setEnc c v1).vbvAfter_holds c p.rate bits
  have hvar : s1.variant = s.variant ∧ s1.plane = s.plane := by
    have hb := State.vbvAfter_blur (s.setEnc c v1) c p.rate bits 16 rfl
    have hpl : ((s.setEnc c v1).vbvAfter c p.rate bits).plane = (s.setEnc c v1).plane := State.blur_plane hb rfl
    have hva : ((s.setEnc c v1).vbvAfter c p.rate bits).variant = (s.setEnc c v1).variant := State.blur_variant hb rfl
    exact ⟨(State.setFld_variant ..).trans hva, (State.setFld_plane ..).trans hpl⟩
  have henc1 : s1.enc c = v1 := (State.enc_of_vid hvid c).trans (State.setEnc_enc v1)
  have hst1 : s1.encState c = 1 := (State.fld_setFld_apart 16 6 _ 28 4 (by decide)).trans
    ((State.fld_of_rd (hvbv _ (by unfold rVidEncVbvlvl rVidEncStat; omega))).trans h)
  have hrd1 (r : Nat) (hr : ∀ a ∈ encEndRegs c, a ≠ r) : s1.rd r = s.rd r :=
    (State.rd_setFld_other _ _ _ (hr _ (by simp [encEndRegs]))).trans (hvbv r (hr _ (by simp [encEndRegs])))
  clear_value s1
  have h2 : s2.enc c = v1 ∧ s2.encState c = 1 ∧ (s2.variant = s.variant ∧ s2.plane = s.plane) ∧
      ∀ r, (∀ a ∈ encEndRegs c, a ≠ r) → s2.rd r = s.rd r := by
    by_cases hh : p.host = true
    · rw [show s2 = s1.wr (rVidEncHostdone c) (BitVec.ofNat 32 p.seq) from if_pos hh]
      refine ⟨henc1, (State.fld_wr_ne _ _ _ (by unfold rVidEncHostdone rVidEncStat; omega)).trans hst1, hvar, fun r hr => ?_⟩
      exact (State.rd_wr_other _ _ (hr _ (by simp [encEndRegs]))).trans (hrd1 r hr)
    · rw [show s2 = s1.pxRelease v.stream (encReader c) from if_neg hh]
      exact ⟨henc1, hst1, hvar, hrd1⟩
  obtain ⟨henc2, hst2, ⟨hva, hpl⟩, hrd2⟩ := h2
  clear_value s2
  have hst3 : s3.encState c = 1 := (State.raise_fld ..).trans
    ((State.fld_count_ne _ _ (by unfold rVidEncPictures rVidEncStat; omega)).trans hst2)
  rw [if_neg (by rw [hst3]; decide)]
  refine ⟨?_, fun hs => State.raise_hears_of hs hva hpl ?_⟩
  · rw [State.enc_of_vid (t := s3) (s := s2) ((State.raise_vid ..).trans rfl), henc2, hv1]
  · refine (State.rd_count_other (encEndRegs_avoid_fence (by simp [encEndRegs]) _)).trans (hrd2 _ fun a ha => ?_)
    exact encEndRegs_avoid_fence ha _

/-! ### The output ring (R392) -/

section
variable {v : Word} (hu : s.unitLive 10 (2 + c) = true)
include hu

theorem State.encRdptr_of_beyond (h : s.outSize c / 64 ≤ fget v 0 26) : s.encRdptr c v = s.violation (rVidEncRdptr c) :=
  (if_neg (by simp [hu])).trans (if_pos (.inl h))

theorem State.encRdptr_of_used (h : fget v 0 26 < s.outSize c / 64)
    (hd : (fget v 0 26 + s.outSize c / 64 - s.fld (rVidEncRdptr c) 0 26 % max 1 (s.outSize c / 64)) % max 1 (s.outSize c / 64) ≤
      s.outUsed c / 64) : s.encRdptr c v = s.wr (rVidEncRdptr c) (BitVec.ofNat 32 (fget v 0 26)) :=
  (if_neg (by simp [hu])).trans (if_neg (not_or.mpr ⟨not_le.mpr h, not_lt.mpr hd⟩))

end

/-! ### RTP (R401, R481) -/

/-- The channel has taken the first packet from its queue. -/
def State.rtpTaken (s : State) (c : Nat) (l : List (List Byte × Bool × Nat)) : State :=
  (s.setEnc c { s.enc c with pkts := l, ident := ((s.enc c).ident + 1) % 65536 }).setFld (rVidRtpSeq c) 0 16
    (s.fld (rVidRtpSeq c) 0 16 + 1)

theorem State.rtpTaken_enc (l : List (List Byte × Bool × Nat)) :
    (s.rtpTaken c l).enc c = { s.enc c with pkts := l, ident := ((s.enc c).ident + 1) % 65536 } :=
  (State.enc_of_vid (s := s.setEnc c _) rfl c).trans (State.setEnc_enc _)

theorem State.rtpTaken_rd {r : Nat} (h : rVidRtpSeq c ≠ r) (l : List (List Byte × Bool × Nat)) : (s.rtpTaken c l).rd r = s.rd r :=
  (State.rd_setFld_other _ _ _ h).trans rfl

theorem State.rtpSend_waits (h : (s.enc c).pkts = [] ∨ s.pxStopped = true ∨ s.serving = false) : s.rtpSend c = s := by
  unfold State.rtpSend
  extract_lets v m
  split
  · rfl
  next hp =>
    refine if_pos ?_
    obtain h | h | h := h
    · exact absurd (h.symm.trans hp) (by simp)
    · simp [h]
    · simp [h]

section
variable {x : List Byte × Bool × Nat} {l : List (List Byte × Bool × Nat)} (hp : (s.enc c).pkts = x :: l)
  (hu : s.unitLive 10 12 = true) (hx : s.pxStopped = false) (hs : s.serving = true)
include hp hu hx hs

theorem State.rtpSend_of_served : s.rtpSend c =
    if !s.netUp (s.fld (rVidRtpCfg c) 28 1) then ((s.rtpTaken c l).count (rVidRtpDropped c)).raise 0x0CC 12
    else if s.txBusy (s.fld (rVidRtpCfg c) 28 1) 3 false then s
    else ((s.rtpTaken c l).netSend (s.fld (rVidRtpCfg c) 28 1) 3 (s.rtpPacket c (s.enc c) x.1 x.2.1 x.2.2)).count (rVidRtpSent c) := by
  unfold State.rtpSend
  simp only [hp]
  exact if_neg (by simp [hu, hx, hs])

end

theorem State.rtpDropped_holds (l : List (List Byte × Bool × Nat)) :
    let t := ((s.rtpTaken c l).count (rVidRtpDropped c)).raise 0x0CC 12
    (t.enc c).pkts = l ∧ t.rd (rVidRtpDropped c) = satAdd (s.rd (rVidRtpDropped c)) 1 ∧ t.net = s.net ∧
    (s.speaks 0x0CC 12 = true → t.hears 0x0CC 12 = true) := by
  have hf {r : Nat} (h : 0x2800000 ≤ r) : r ≠ rDevFenceU (2 * srcCluster 0x0CC + 12 / 32) :=
    vidReg_ne_fence h (le_trans (by decide) h)
  refine ⟨?_, (State.raise_rd ..).trans ((State.rd_wr_same ..).trans (congrArg (satAdd · 1)
    (State.rtpTaken_rd (by unfold rVidRtpSeq rVidRtpDropped; omega) l))), (State.raise_net ..).trans rfl, fun h => ?_⟩
  · rw [State.enc_of_vid (s := s.rtpTaken c l) (t := ((s.rtpTaken c l).count (rVidRtpDropped c)).raise 0x0CC 12) ((State.raise_vid ..).trans rfl), State.rtpTaken_enc]
  · exact State.raise_hears_of h rfl rfl ((State.rd_count_other (hf (by unfold rVidRtpDropped; omega))).trans
      (State.rtpTaken_rd (hf (by unfold rVidRtpSeq; omega)) l))

/-- The request word that marks a long-term slot, clears slots or names those used. -/
theorem ltWord_mark (k : Fin 4) : fget (BitVec.ofNat 32 (0x10000000 + k.val * 2 ^ 24)) 24 2 = k ∧
    (BitVec.ofNat 32 (0x10000000 + k.val * 2 ^ 24)).getLsbD 28 = true := by
  revert k
  decide

theorem ltWord_clear (m : BitVec 4) : fget (BitVec.ofNat 32 (m.toNat * 2 ^ 20)) 20 4 = m.toNat := by
  revert m
  decide

theorem ltWord_use (m : BitVec 4) : fget (BitVec.ofNat 32 (m.toNat * 2 ^ 16)) 16 4 = m.toNat := by
  revert m
  decide

/-- Settles O42. -/
theorem videoEncodersAndRtp : Obligations.VideoEncodersAndRtp := by
  refine ⟨fun s c hr hu h1 h2 he => ?_, fun s c e hr hu h1 h2 he hne => ?_,
    fun s c hr hu h => .of_eq (exec_of_reached_vid hr rfl) (State.encStart_of_stopping hu h) rfl,
    fun s c hr hu h hp => .of_eq (exec_of_reached_vid hr rfl) (State.encStop_of_idle hu h hp) ⟨rfl, State.encIdle_holds⟩,
    fun s c p hr hu h hp => .of_eq (exec_of_reached_vid hr rfl) (State.encStop_of_busy hu h hp)
      ⟨State.fld_setFld_same _ _ _ _ _ (by decide), rfl⟩,
    fun s c hr hu => .of_eq (exec_of_reached_vid hr rfl) rfl rfl, fun s c hr hu => .of_eq (exec_of_reached_vid hr rfl) rfl rfl,
    fun s c hr hu => .of_eq (exec_of_reached_vid hr rfl) rfl rfl, fun s c k hr hu => ?_, fun s c m hr hu => ?_,
    fun s c m hr hu => ?_, fun s c => ?_, fun s core h => .of_eq rfl (State.pictureStart_of_stopped core h) rfl,
    fun s core hu h hp => .of_eq rfl (State.pictureStart_of_free core hu h hp) rfl,
    fun s core c l x p q r h hp hu hg hx hroom => State.encTry_of_room h hp hu hg hx hroom, fun s c h => ?_,
    fun s c p hu h1 hw hp hmore => ?_, fun s c p hu h1 hw hp hlast => ?_, fun s c p h => State.encEnd_holds p h,
    fun s c v hr hu h hd => .of_eq (exec_of_reached_vid hr rfl) (State.encRdptr_of_used hu h hd) rfl,
    fun s c v hr hu h => .of_eq (exec_of_reached_vid hr rfl) (State.encRdptr_of_beyond hu h) rfl,
    fun s c x l hp hu hx hs hup hb => ?_, fun s c x l hp hu hx hs hup => ?_,
    fun s c h => .of_eq rfl (State.rtpSend_waits h) rfl⟩
  · obtain ⟨u, v, heq, hhost, hstr, hreq, hpic, hpk⟩ := State.encStart_of_good hu h1 h2 he
    obtain ⟨hst, herr, hvbv, henc⟩ := State.encBegun_holds (s := u) (c := c) v (s.vbvBits c / 2)
    refine .of_eq (exec_of_reached_vid hr rfl) heq ⟨hst, herr, hvbv, ?_⟩
    rw [henc]
    exact ⟨hhost, hstr, hreq, hpic, hpk⟩
  · subst he
    exact .of_eq (exec_of_reached_vid hr rfl) (State.encStart_of_bad hu h1 h2 hne) rfl
  · obtain ⟨hslot, h28⟩ := ltWord_mark k
    obtain ⟨henc, hregs⟩ := s.encReq_enc c (BitVec.ofNat 32 (0x10000000 + k.val * 2 ^ 24))
    have hreq := State.encReq_req hu (BitVec.ofNat 32 (0x10000000 + k.val * 2 ^ 24))
    refine .of_eq (exec_of_reached_vid hr rfl) rfl ⟨?_, ?_, henc, hregs⟩
    · rw [hreq, reqOr_slot, hslot]
    · rw [hreq, reqOr_of_kept (by decide) (by decide), h28, Bool.or_true]
  · obtain ⟨henc, hregs⟩ := s.encReq_enc c (BitVec.ofNat 32 (m.toNat * 2 ^ 20))
    refine .of_eq (exec_of_reached_vid hr rfl) rfl ⟨?_, henc, hregs⟩
    rw [State.encReq_req hu, reqOr_clear, ltWord_clear]
  · obtain ⟨henc, hregs⟩ := s.encReq_enc c (BitVec.ofNat 32 (m.toNat * 2 ^ 16))
    refine .of_eq (exec_of_reached_vid hr rfl) rfl ⟨?_, henc, hregs⟩
    rw [State.encReq_req hu, reqOr_use, ltWord_use]
  · obtain ⟨henc, -⟩ := s.encReq_enc c 0x80000000#32
    refine ⟨henc, fun hu => ?_, fun hu => ?_, fun hu => ?_⟩
    all_goals
      rw [State.encReq_req hu, reqOr_of_kept (by decide) (by decide)]
      exact Bool.or_eq_true_iff.mpr (.inr (by decide))
  · have hwait := State.sliceOutput_waits h
    refine .of_eq rfl ?_ rfl
    split
    · exact hwait
    · rfl
  · obtain ⟨u, g, hseq, hsl, hsls, hpoc, hbytes, heq⟩ := State.sliceOutput_of_served hp hw
    refine .of_eq rfl ((if_pos (by simp [hu, h1])).trans (heq.trans (if_neg (by omega))))
      ⟨_, congrArg VEnc.pic (State.setEnc_enc _), ?_, hsls, hpoc, hseq, hbytes⟩
    exact congrArg (· + 1) hsl
  · obtain ⟨u, g, hseq, -, -, -, hbytes, heq⟩ := State.sliceOutput_of_served hp hw
    exact .of_eq rfl ((if_pos (by simp [hu, h1])).trans (heq.trans (if_pos (by omega)))) ⟨u, g, rfl, hseq, hbytes⟩
  · exact .of_eq rfl ((State.rtpSend_of_served hp hu hx hs).trans ((if_neg (by simp [hup])).trans (if_neg (by simp [hb]))))
      ⟨_, rfl, State.rtpTaken_enc l, State.fld_setFld_same _ _ _ _ _ (by decide)⟩
  · exact .of_eq rfl ((State.rtpSend_of_served hp hu hx hs).trans (if_pos (by simp [hup]))) (State.rtpDropped_holds l)

end Sys2Proof.Machine
end

section
/-! PROOF. What the packets of the sensor link do to the open frames; timeouts, the tap and the group mask. -/

namespace Sys2Proof.Machine

open Sys2Proof

variable {s t : State} {n : Nat} {p : Pkt} {rest : List Pkt} {f : Frame}

/-! ### Taking a packet -/

/-- Port `n` with the packets `rest` in its inbox. -/
def State.popped (s : State) (n : Nat) (rest : List Pkt) : State := s.setLport n { s.lport n with inbox := rest }

theorem State.popped_lport (n : Nat) (rest : List Pkt) : (s.popped n rest).lport n = { s.lport n with inbox := rest } :=
  State.setLport_lport ..

theorem State.nextPkt_of_empty (h : (s.lport n).inbox = []) : s.nextPkt n = s := by
  rw [State.nextPkt, h]
  rfl

section
variable (h1 : s.unitLive 3 (1 + n) = true) (h8 : s.unitLive 3 8 = true) (hi : (s.lport n).inbox = p :: rest)
include h1 h8 hi

theorem State.takePkt_of_first {ok : Nat → Bool} (hok : ok p.dt = true) : s.takePkt n ok = some (p, s.popped n rest) := by
  rw [State.takePkt, hi, if_pos (by simp [h1, h8])]
  exact if_pos hok

theorem State.packet_of_first {ok : Nat → Bool} (hok : ok p.dt = true) (hun : s.ing.unsol.getLsbD (n * 16 + p.vc) = false)
    (g : State → Pkt → Nat → State) : s.packet n ok g = (g (s.popped n rest) p (n * 16 + p.vc)).nextPkt n := by
  rw [State.packet, State.takePkt_of_first h1 h8 hi hok]
  exact congrArg (State.nextPkt · n) (if_neg (Bool.eq_false_iff.mp hun))

end

/-! ### Frames -/

theorem State.putFrame_frames (f : Frame) : (s.putFrame f).ing.frames =
    s.ing.frames.map fun g => if g.serial = f.serial ∧ g.part = f.part then f else g := rfl

/-- Of two writes of one frame the second counts. -/
theorem State.putFrame_twice {g : Frame} (hs : g.serial = f.serial) (hp : g.part = f.part) (h : t.ing.frames = (s.putFrame f).ing.frames) :
    (t.putFrame g).ing.frames = s.ing.frames.map fun x => if x.serial = f.serial ∧ x.part = f.part then g else x := by
  rw [State.putFrame_frames, h, State.putFrame_frames, List.map_map]
  refine List.map_congr_left fun x _ => ?_
  rw [Function.comp_apply, hs, hp]
  by_cases hx : x.serial = f.serial ∧ x.part = f.part
  · rw [if_pos hx, if_pos hx, if_pos ⟨rfl, rfl⟩]
  · rw [if_neg hx, if_neg hx]

theorem Frame.noExp_same (f : Frame) : f.noExp.serial = f.serial ∧ f.noExp.part = f.part ∧ f.noExp.stream = f.stream ∧ f.noExp.e = f.e := by
  unfold Frame.noExp
  split <;> exact ⟨rfl, rfl, rfl, rfl⟩

theorem Frame.noExp_of_some (h : f.epoch ≠ none) : f.noExp = f := by
  unfold Frame.noExp
  split
  · rfl
  next hn => exact absurd hn h

theorem Frame.mark_zero (f : Frame) : f.mark 0#32 = f := by rw [Frame.mark, BitVec.or_zero]

theorem Frame.keep_same (f : Frame) (y : Nat) (line : List Byte) : (f.keep y line).serial = f.serial ∧ (f.keep y line).part = f.part := by
  unfold Frame.keep
  split <;> exact ⟨rfl, rfl⟩

theorem State.padTo_self {y : Nat} (h : f.e = y) : s.padTo f y = (s, f) := by
  rw [State.padTo, h, Nat.sub_self]
  rfl

/-! ### FS (R166, R170) -/

/-- The streams at which the packets up to the next FS are discarded, once `src` joins them. -/
def State.unsolAt (s : State) (src : Nat) : State :=
  { s with ing := { s.ing with unsol := (s.ing.unsol &&& ~~~ BitVec.ofNat 64 (2 ^ src)) ||| BitVec.ofNat 64 (2 ^ src) } }

theorem countLower_self (c : Nat) : countLower (c % 2 ^ 24) (c % 2 ^ 24) = false := by
  have hd : (c % 2 ^ 24 + 2 ^ 24 - c % 2 ^ 24 % 2 ^ 24) % 2 ^ 24 = 0 := by omega
  simp only [countLower, hd]
  rfl

/-- Stream `src` no longer discards its packets. -/
def State.unsolOff (s : State) (src : Nat) : State :=
  { s with ing := { s.ing with unsol := s.ing.unsol &&& ~~~ BitVec.ofNat 64 (2 ^ src) } }

/-- The frame with which the exposure `e` opens. -/
def State.newFrame (s : State) (src : Nat) (e : Entry) (test : Bool) : Frame :=
  ⟨src, e.stream, e.serial, e.part, e.count, 0, none, if test then flag 21 else 0#32, [], false, 0, [], true,
    if !(s.servers e.stream).isEmpty then 0 else 2, false, [], [], s.fld (rIngStrPad e.stream) 0 16⟩

/-- The frame of the exposure `e` is open, and its entry says so. -/
def State.frameOpened (s : State) (src : Nat) (e : Entry) (test : Bool) : State :=
  let u := s.modEntry e.part e.serial (fun x => { x with kind := 1, owed := !(s.servers e.stream).isEmpty })
  u.setFrames (u.ing.frames ++ [s.newFrame src e test])

theorem State.startFrame_eq (src : Nat) (e : Entry) (test : Bool) :
    s.startFrame src e test = ((s.frameOpened src e test).syncStr e.stream).syncPort (src / 16) := rfl

section
variable (h1 : s.unitLive 3 (1 + n) = true) (h8 : s.unitLive 3 8 = true) (hi : (s.lport n).inbox = p :: rest) (hdt : p.dt = 0x08)
include h1 h8 hi hdt

theorem State.fsReceive_of_unknown (ho : s.openFrame (n * 16 + p.vc) = none)
    (hc : (s.outstanding n).find? (fun e => e.count == (p.wc * 256 + p.fcnt) % 2 ^ 24) = none) :
    s.fsReceive n = (((s.popped n rest).unsolAt (n * 16 + p.vc)).unsolicited (n * 16 + p.vc)).nextPkt n := by
  have ho' : (s.popped n rest).openFrame (n * 16 + p.vc) = none := ho
  unfold State.fsReceive
  rw [State.takePkt_of_first h1 h8 hi (by rw [hdt]; rfl)]
  simp only [ho']
  split
  next e he => exact absurd (he.symm.trans hc) (by simp)
  · rfl

theorem State.fsReceive_of_open_unknown {u : State} (ho : s.openFrame (n * 16 + p.vc) = some f)
    (hu : u = (s.popped n rest).closeFrame f (flag 12))
    (hc : (u.outstanding n).find? (fun e => e.count == (p.wc * 256 + p.fcnt) % 2 ^ 24) = none) :
    s.fsReceive n = ((u.unsolAt (n * 16 + p.vc)).unsolicited (n * 16 + p.vc)).nextPkt n := by
  have ho' : (s.popped n rest).openFrame (n * 16 + p.vc) = some f := ho
  unfold State.fsReceive
  rw [State.takePkt_of_first h1 h8 hi (by rw [hdt]; rfl)]
  simp only [ho', ← hu]
  split
  next e he => exact absurd (he.symm.trans hc) (by simp)
  · rfl

theorem State.fsReceive_of_exposure {e : Entry} (ho : s.openFrame (n * 16 + p.vc) = none) (hout : s.outstanding n = [e])
    (hc : e.count = (p.wc * 256 + p.fcnt) % 2 ^ 24) : s.fsReceive n =
      (((((s.popped n rest).unsolOff (n * 16 + p.vc)).frameOpened (n * 16 + p.vc) e p.test).syncStr e.stream).syncPort
        ((n * 16 + p.vc) / 16)).nextPkt n := by
  have ho' : (s.popped n rest).openFrame (n * 16 + p.vc) = none := ho
  have htake := State.takePkt_of_first (ok := (· == 0x08)) h1 h8 hi (by rw [hdt]; rfl)
  unfold State.fsReceive
  split
  next h => exact absurd (htake.symm.trans h) (by simp)
  next q s0 h =>
    obtain ⟨rfl, rfl⟩ := Prod.mk.inj (Option.some.inj (htake.symm.trans h))
    extract_lets src s1 c ing s2 low
    have hs1 : s1 = s.popped n rest := by simp only [s1, src, ho']
    have hs2 : s2 = (s.popped n rest).unsolOff src := by rw [← hs1]; rfl
    have hout2 : s2.outstanding n = [e] := by rw [hs2]; exact hout
    have hfind : [e].find? (fun x => x.count == c) = some e := List.find?_cons_of_pos (by simp [c, hc])
    have hlow : low = [] := by
      simp only [low, hout2]
      exact List.filter_cons_of_neg (by rw [hc, countLower_self]; exact Bool.false_ne_true)
    clear_value low s2 c
    rw [hout2, hfind, hs2, hlow]
    rfl

end

/-! ### EXP, metadata, status and FE (R168, R170, R174) -/

section
variable (h1 : s.unitLive 3 (1 + n) = true) (h8 : s.unitLive 3 8 = true) (hi : (s.lport n).inbox = p :: rest)
include h1 h8 hi

theorem State.sensorStatusReceive_of_first (hdt : p.dt = 0x51) : s.sensorStatusReceive n =
    ((s.popped n rest).forEach (List.range 64) fun t k =>
      t.wr (rIngPortSstat n k) (BitVec.ofNat 32 (leAt p.payload (4 * k) 4))).nextPkt n := by
  rw [State.sensorStatusReceive, State.takePkt_of_first h1 h8 hi (by rw [hdt]; rfl)]

variable (hun : s.ing.unsol.getLsbD (n * 16 + p.vc) = false)
include hun

section
variable (hdt : p.dt = 0x0C) (ho : s.openFrame (n * 16 + p.vc) = some f)
include hdt ho

/-- The epoch that the head tells, and whether it is the one that was asked for. -/
def State.epochTold (s : State) (f : Frame) (app : Nat) : Frame :=
  { f with
    epoch := some app
    flags := if app = (match s.entry f.part f.serial with | some e => e.epochReq | none => 0) then f.flags
      else f.flags ||| flag 16 }

theorem State.expReceive_of_first (he : f.epoch = none) :
    s.expReceive n = ((s.popped n rest).putFrame (s.epochTold f (p.wc % 256))).nextPkt n := by
  have ho' : (s.popped n rest).openFrame (n * 16 + p.vc) = some f := ho
  refine (State.packet_of_first h1 h8 hi (by rw [hdt]; rfl) hun _).trans (congrArg (State.nextPkt · n) ?_)
  rw [ho']
  exact if_pos (by rw [he]; rfl)

theorem State.expReceive_of_later (he : f.epoch ≠ none) :
    s.expReceive n = ((s.popped n rest).count (rIngStrLateExp (s.logical (n * 16 + p.vc)))).nextPkt n := by
  have ho' : (s.popped n rest).openFrame (n * 16 + p.vc) = some f := ho
  refine (State.packet_of_first h1 h8 hi (by rw [hdt]; rfl) hun _).trans (congrArg (State.nextPkt · n) ?_)
  rw [ho']
  exact if_neg (by simpa using he)

end

theorem State.feReceive_of_open (hdt : p.dt = 0x09) (ho : s.openFrame (n * 16 + p.vc) = some f) :
    s.feReceive n = ((s.popped n rest).closeFrame { f with fe := p.wc % 2 ^ 16 } 0#32).nextPkt n := by
  have ho' : (s.popped n rest).openFrame (n * 16 + p.vc) = some f := ho
  refine (State.packet_of_first h1 h8 hi (by rw [hdt]; rfl) hun _).trans (congrArg (State.nextPkt · n) ?_)
  rw [ho']

theorem State.metadataReceive_of_room (hdt : p.dt = 0x50) (ho : s.openFrame (n * 16 + p.vc) = some f) (hm : f.mdFull = false)
    (h4 : p.payload.length % 4 = 0) (hroom : f.md.length + 4 + p.payload.length ≤ s.strMeta f.stream) :
    s.metadataReceive n = ((s.popped n rest).putFrame
      { f with md := f.md ++ (leBytes 4 (0x50 + p.payload.length % 2 ^ 16 * 2 ^ 16) ++ p.payload) }).nextPkt n := by
  have ho' : (s.popped n rest).openFrame (n * 16 + p.vc) = some f := ho
  have hpad : roundUp p.payload.length 4 - p.payload.length = 0 := by
    unfold roundUp
    omega
  refine (State.packet_of_first h1 h8 hi (by rw [hdt]; rfl) hun _).trans (congrArg (State.nextPkt · n) ?_)
  have hlen : (leBytes 4 (0x50 + p.payload.length % 2 ^ 16 * 2 ^ 16) ++ p.payload).length = 4 + p.payload.length := by
    rw [List.length_append, leBytes_length]
  have hmeta : (s.popped n rest).strMeta f.stream = s.strMeta f.stream := rfl
  simp only [ho', hpad, hdt, List.replicate_zero, List.append_nil]
  exact if_neg (by rw [hm, hmeta, List.length_append, leBytes_length]; simp; omega)

end

/-! ### Lines (R168, R171) -/

section
variable (h1 : s.unitLive 3 (1 + n) = true) (h8 : s.unitLive 3 8 = true) (hi : (s.lport n).inbox = p :: rest)
  (hlo : 0x40 ≤ p.dt) (hhi : p.dt ≤ 0x43) (hun : s.ing.unsol.getLsbD (n * 16 + p.vc) = false)
include h1 h8 hi hlo hhi hun

theorem State.lineReceive_of_alone (ho : s.openFrame (n * 16 + p.vc) = none) :
    s.lineReceive n = ((s.popped n rest).count (rIngStrOrphan (s.logical (n * 16 + p.vc)))).nextPkt n := by
  have ho' : (s.popped n rest).openFrame (n * 16 + p.vc) = none := ho
  refine (State.packet_of_first h1 h8 hi (by simp [hlo, hhi]) hun _).trans (congrArg (State.nextPkt · n) ?_)
  rw [ho']
  rfl

variable (ho : s.openFrame (n * 16 + p.vc) = some f)
include ho

theorem State.lineReceive_of_stray (hc : p.fcnt ≠ f.count % 256) :
    s.lineReceive n = ((s.popped n rest).count (rIngStrOrphan (s.logical (n * 16 + p.vc)))).nextPkt n := by
  have ho' : (s.popped n rest).openFrame (n * 16 + p.vc) = some f := ho
  refine (State.packet_of_first h1 h8 hi (by simp [hlo, hhi]) hun _).trans (congrArg (State.nextPkt · n) ?_)
  rw [ho']
  exact if_pos (by simpa using hc)

variable (hc : p.fcnt = f.count % 256)
include hc

theorem State.lineReceive_of_wrong (hd : p.dt ≠ 0x40 + s.fld (rIngStrFmt f.stream) 0 2) :
    s.lineReceive n = (((s.popped n rest).putFrame f.noExp).count (rIngStrWrongDt f.stream)).nextPkt n := by
  have ho' : (s.popped n rest).openFrame (n * 16 + p.vc) = some f := ho
  obtain ⟨-, -, hstr, -⟩ := f.noExp_same
  refine (State.packet_of_first h1 h8 hi (by simp [hlo, hhi]) hun _).trans (congrArg (State.nextPkt · n) ?_)
  rw [ho']
  refine (if_neg (by simp [hc])).trans ((if_pos ?_).trans (by rw [hstr]))
  rw [hstr]
  exact bne_iff_ne.mpr hd

variable (hd : p.dt = 0x40 + s.fld (rIngStrFmt f.stream) 0 2)
include hd

theorem State.lineReceive_of_outside (hy : s.strH f.stream ≤ p.line ∨ p.line < f.e) :
    s.lineReceive n = (((s.popped n rest).putFrame f.noExp).putFrame
      (f.noExp.mark (if s.strH f.stream ≤ p.line then flag 11 else flag 9))).nextPkt n := by
  have ho' : (s.popped n rest).openFrame (n * 16 + p.vc) = some f := ho
  obtain ⟨-, -, hstr, he⟩ := f.noExp_same
  have hh : (s.popped n rest).strH f.noExp.stream = s.strH f.stream := by rw [hstr]; rfl
  have hfmt : ¬(p.dt != 0x40 + (s.popped n rest).fld (rIngStrFmt f.noExp.stream) 0 2) = true := by
    rw [hstr]
    exact fun h => bne_iff_ne.mp h hd
  refine (State.packet_of_first h1 h8 hi (by simp [hlo, hhi]) hun _).trans (congrArg (State.nextPkt · n) ?_)
  rw [ho']
  refine (if_neg (by simp [hc])).trans ((if_neg hfmt).trans ?_)
  by_cases hbeyond : s.strH f.stream ≤ p.line
  · rw [if_pos hbeyond]
    exact if_pos (by rw [hh]; exact hbeyond)
  · rw [if_neg hbeyond]
    exact (if_neg (by rw [hh]; exact hbeyond)).trans (if_pos (by rw [he]; exact hy.resolve_left hbeyond))

/-- What a line shows of itself: a gap before it, a wrong length, an error on the link. -/
def State.lineFlags (s : State) (f : Frame) (p : Pkt) : BitVec 32 :=
  (if f.e < p.line then flag 8 else 0#32) |||
  (if p.payload.length < s.lineBytes f.stream ∨ p.trunc then flag 6
    else if s.lineBytes f.stream < p.payload.length then flag 7 else 0#32) |||
  (if p.crcErr || p.fec || p.trunc then flag 14 else 0#32)

theorem State.lineReceive_of_inside (hy : p.line < s.strH f.stream) (he : f.e ≤ p.line) (r : State × Frame)
    (hr : r = ((s.popped n rest).putFrame f.noExp).padTo (f.noExp.mark (s.lineFlags f p)) p.line) :
    s.lineReceive n = (((r.1.storeLine r.2 p.line p.payload).syncStr f.stream).syncPort n).nextPkt n := by
  have ho' : (s.popped n rest).openFrame (n * 16 + p.vc) = some f := ho
  obtain ⟨-, -, hstr, hse⟩ := f.noExp_same
  have hh : (s.popped n rest).strH f.noExp.stream = s.strH f.stream := by rw [hstr]; rfl
  have hfmt : ¬(p.dt != 0x40 + (s.popped n rest).fld (rIngStrFmt f.noExp.stream) 0 2) = true := by
    rw [hstr]
    exact fun h => bne_iff_ne.mp h hd
  have hfl : (s.popped n rest).lineFlags f.noExp p = s.lineFlags f p := by
    simp only [State.lineFlags, hstr, hse]
    rfl
  subst hr
  refine (State.packet_of_first h1 h8 hi (by simp [hlo, hhi]) hun _).trans (congrArg (State.nextPkt · n) ?_)
  rw [ho']
  refine (if_neg (by simp [hc])).trans ((if_neg hfmt).trans ((if_neg (by rw [hh]; omega)).trans ((if_neg (by rw [hse]; omega)).trans ?_)))
  rw [← hfl, ← hstr]
  rfl

end

theorem State.portPut_frames (k off : Nat) (b : List Byte) : (s.portPut k off b).ing.frames = s.ing.frames := rfl

theorem State.portPut_buf (k off : Nat) (b : List Byte) : (s.portPut k off b).ing.buf = s.ing.buf := rfl

/-- A line for which the buffer has room enters the buffer and the frame. -/
theorem State.storeLine_of_room {y : Nat} {b : List Byte}
    (hroom : s.occupancy (s.pool (f.src / 16)) + s.lineBytes f.stream ≤ capacity (s.pool (f.src / 16)))
    (hlay : s.wrLayout f < 2) : ∃ u : State, u.ing.frames = s.ing.frames ∧ u.lnk = s.lnk ∧
      u.ing.buf = s.ing.buf ++ [⟨f.src / 16, f.serial, y, (s.linePlace f (s.slotOf f) y).1, (s.linePlace f (s.slotOf f) y).2,
        s.lineBytes f.stream, f.tap != 0⟩] ∧
      s.storeLine f y b = u.putFrame { f.keep y (packLine b (s.strW f.stream) (s.strBits f.stream)
        (min (s.strW f.stream) (b.length * 8 / s.strBits f.stream)) f.pad) with e := y + 1 } := by
  obtain ⟨t, ht⟩ : ∃ t, t = s.storeLine f y b := ⟨_, rfl⟩
  rw [← ht]
  unfold State.storeLine at ht
  extract_lets m w bits ps bytes f1 u1 u2 line pl lay s1 e ing s2 kept at ht
  have hne3 : lay ≠ 3 := by
    have : lay < 2 := hlay
    omega
  have hne2 : lay ≠ 2 := by
    have : lay < 2 := hlay
    omega
  have hs1 : s1 = (s.request (4 + m) true pl.1 pl.2 (s.lineOut f line) false false).portPut f.serial (pl.1 - s.slotOf f)
      (s.lineOut f line) := (if_neg hne3).trans (if_neg hne2)
  have hreq : (s.request (4 + m) true pl.1 pl.2 (s.lineOut f line) false false).ing = s.ing :=
    State.blur_ing (State.request_blur _ _ _ _ _ _ _ _ 16826384 rfl) rfl
  have hlnk : (s.request (4 + m) true pl.1 pl.2 (s.lineOut f line) false false).lnk = s.lnk :=
    State.blur_lnk (State.request_blur _ _ _ _ _ _ _ _ 16826384 rfl) rfl
  have hlen : (if lay = 3 then 0 else pl.2) = pl.2 := if_neg hne3
  have hcap : ¬decide (capacity ps < s.occupancy ps + bytes) = true := by
    rw [decide_eq_true_eq]
    exact not_lt.mpr hroom
  rw [if_neg hcap] at ht
  refine ⟨s2, ?_, ?_, ?_, ht⟩
  · refine (show s2.ing.frames = s1.ing.frames from rfl).trans ?_
    rw [hs1]
    exact (State.portPut_frames ..).trans (congrArg Ing.frames hreq)
  · exact (show s2.lnk = s1.lnk from rfl).trans (by rw [hs1]; exact hlnk)
  · refine (show s2.ing.buf = s1.ing.buf ++ [e] from rfl).trans ?_
    have hbuf : s1.ing.buf = s.ing.buf := by
      rw [hs1]
      exact (State.portPut_buf ..).trans (congrArg Ing.buf hreq)
    rw [hbuf]
    exact congrArg (fun k => s.ing.buf ++ [⟨m, f.serial, y, pl.1, k, bytes, f.tap != 0⟩]) hlen

/-- A good line that the frame expects: the frame keeps it and the buffer holds it until it is written and taken. -/
theorem State.lineReceive_of_expected (h1 : s.unitLive 3 (1 + n) = true) (h8 : s.unitLive 3 8 = true)
    (hi : (s.lport n).inbox = p :: rest) (hlo : 0x40 ≤ p.dt) (hhi : p.dt ≤ 0x43)
    (hun : s.ing.unsol.getLsbD (n * 16 + p.vc) = false) (ho : s.openFrame (n * 16 + p.vc) = some f) (hvc : p.vc < 16)
    (hc : p.fcnt = f.count % 256) (hd : p.dt = 0x40 + s.fld (rIngStrFmt f.stream) 0 2) (hy : p.line < s.strH f.stream)
    (he : f.e = p.line) (hep : f.epoch ≠ none) (hlay : s.wrLayout f < 2) (hlen : p.payload.length = s.lineBytes f.stream)
    (herr : (p.crcErr || p.fec || p.trunc) = false) (hroom : s.occupancy (s.pool n) + s.lineBytes f.stream ≤ capacity (s.pool n)) :
    ∃ u : State, s.lineReceive n = ((u.syncStr f.stream).syncPort n).nextPkt n ∧
      u.ing.frames = s.ing.frames.map (fun g => if g.serial = f.serial ∧ g.part = f.part then
        { f.keep p.line (packLine p.payload (s.strW f.stream) (s.strBits f.stream)
          (min (s.strW f.stream) (p.payload.length * 8 / s.strBits f.stream)) f.pad) with e := p.line + 1 } else g) ∧
      u.ing.buf = s.ing.buf ++ [⟨n, f.serial, p.line, (s.linePlace f (s.slotOf f) p.line).1,
        (s.linePlace f (s.slotOf f) p.line).2, s.lineBytes f.stream, f.tap != 0⟩] ∧
      u.lport n = { s.lport n with inbox := rest } := by
  have hsrc : f.src = n * 16 + p.vc := by
    have h := List.find?_some ho
    simp only [Bool.and_eq_true, beq_iff_eq] at h
    exact h.2
  have hport : f.src / 16 = n := by omega
  have htrunc : p.trunc = false := by
    rw [Bool.or_eq_false_iff] at herr
    exact herr.2
  have hfl : s.lineFlags f p = 0#32 := by
    rw [State.lineFlags, herr, htrunc, he, hlen]
    simp only [lt_self_iff_false, Bool.false_eq_true, or_self, if_false, BitVec.or_zero]
  have hno : f.noExp = f := Frame.noExp_of_some hep
  have hpad : ((s.popped n rest).putFrame f).padTo f p.line = ((s.popped n rest).putFrame f, f) := State.padTo_self he
  have heq := State.lineReceive_of_inside h1 h8 hi hlo hhi hun ho hc hd hy he.le _ rfl
  rw [hno, hfl, Frame.mark_zero, hpad] at heq
  obtain ⟨u, hframes, hlnk, hbuf, hst⟩ := State.storeLine_of_room (s := (s.popped n rest).putFrame f) (f := f) (y := p.line)
    (b := p.payload) (by rw [hport]; exact hroom) hlay
  rw [hport] at hbuf
  rw [hst] at heq
  obtain ⟨hks, hkp⟩ := f.keep_same p.line (packLine p.payload (s.strW f.stream) (s.strBits f.stream)
    (min (s.strW f.stream) (p.payload.length * 8 / s.strBits f.stream)) f.pad)
  exact ⟨_, heq, State.putFrame_twice (s := s.popped n rest) (f := f) hks hkp hframes, hbuf,
    (State.lport_of_lnk hlnk).trans (State.popped_lport n rest)⟩

/-! ### An exposure without a frame (R166, R167) -/

/-- The gap of an exposure without a frame, counted and told. -/
def State.frameMissed (s : State) (e : Entry) : State :=
  ((s.toGap e.part e.serial (flag 2)).count (rIngStrNoFrame e.stream)).raise (0x053 + 4 * e.head) (1 + e.head)

/-- A head that can tell of the missing frame has its fences below the registers of ING. -/
theorem noFrame_ne_fence {h i : Nat} (hx : srcReserved (0x053 + 4 * h) = false) :
    rIngStrNoFrame i ≠ rDevFenceU (2 * srcCluster (0x053 + 4 * h) + (1 + h) / 32) := by
  have hlt : 0x053 + 4 * h < 0x11C := by
    simp only [srcReserved, Bool.or_eq_false_iff, decide_eq_false_iff_not] at hx
    obtain ⟨-, hx⟩ := hx
    omega
  have hc := srcCluster_lt (0x053 + 4 * h)
  unfold rIngStrNoFrame rDevFenceU
  omega

theorem State.frameMissed_holds (e : Entry) :
    (s.frameMissed e).rd (rIngStrNoFrame e.stream) = satAdd ((s.toGap e.part e.serial (flag 2)).rd (rIngStrNoFrame e.stream)) 1 ∧
    ((s.toGap e.part e.serial (flag 2)).speaks (0x053 + 4 * e.head) (1 + e.head) = true →
      (s.frameMissed e).hears (0x053 + 4 * e.head) (1 + e.head) = true) := by
  refine ⟨(State.raise_rd ..).trans (State.rd_wr_same ..), fun h => ?_⟩
  have hx : srcReserved (0x053 + 4 * e.head) = false := by
    obtain ⟨hr, -⟩ := Bool.and_eq_true_iff.mp h
    simpa using hr
  exact State.raise_hears_of h rfl rfl (State.rd_count_other (noFrame_ne_fence hx))

/-! ### The tap (R36, R179) -/

theorem State.tapStart_of_none {i : Nat} (h : s.tapNext i = none) : s.tapStart i = s := by rw [State.tapStart, h]

section
variable {i : Nat} (h : s.tapNext i = some f)
include h

theorem State.tapStart_of_skipped (hd : (s.decimates i && (s.schStr i).dec % max 1 (s.schStr i).m != 0) = true) :
    s.tapStart i = ((s.setSchStr i { s.schStr i with dec := ((s.schStr i).dec + 1) % max 1 (s.schStr i).m }).untap f).syncPort
      (f.src / 16) := by
  obtain ⟨hdec, -⟩ := Bool.and_eq_true_iff.mp hd
  rw [State.tapStart, h]
  exact (if_pos hd).trans (congrArg (fun u => (State.untap u f).syncPort (f.src / 16)) (if_pos hdec))

/-- A frame starts at the tap: its lines are taken, and the clusters that serve its stream run. -/
theorem State.tapStart_of_started (hd : ¬(s.decimates i && (s.schStr i).dec % max 1 (s.schStr i).m != 0) = true) :
    ∃ u : State, s.tapStart i = (u.putFrame { f with tap := 1, srv := s.servers i, cut := [] }).syncPort (f.src / 16) ∧
      u.ing.frames = s.ing.frames ∧
      u.ing.buf = s.ing.buf.map (fun b => if b.serial = f.serial then { b with taken := true } else b) ∧
      ∀ c ∈ s.servers i, u.fld (rPixStat c) 28 4 = 1 := by
  obtain ⟨t, ht⟩ : ∃ t, t = s.tapStart i := ⟨_, rfl⟩
  rw [← ht]
  unfold State.tapStart at ht
  split at ht
  next hn => exact absurd (hn.symm.trans h) (by simp)
  next g hg =>
    obtain rfl : f = g := Option.some.inj (h.symm.trans hg)
    extract_lets sc skip s1 ing s2 s3 at ht
    have hs1 : s1.ing = s.ing := by
      by_cases hdec : s.decimates i = true
      · rw [show s1 = _ from if_pos hdec]
        rfl
      · rw [show s1 = s from if_neg hdec]
    have hs3 : s3.ing = s2.ing := State.forEach_keeps (fun u : State => u.ing) (f := fun t c => t.setFld (rPixStat c) 28 4 1)
      (fun _ _ => rfl) (s.servers i) s2
    rw [if_neg hd] at ht
    refine ⟨s3, ht, ?_, ?_, fun c hc => ?_⟩
    · rw [hs3]
      exact (show s2.ing.frames = s1.ing.frames from rfl).trans (congrArg Ing.frames hs1)
    · rw [hs3]
      exact congrArg (fun k : Ing => k.buf.map (fun b => if b.serial = f.serial then { b with taken := true } else b)) hs1
    · exact State.forEach_fld_of_mem (r := rPixStat) (v := fun _ => 1) (by decide) hc fun _ _ _ => rfl

end

/-! ### The group mask (R177) -/

section
variable {g : Nat} {v : Word} (h8 : s.unitLive 3 8 = true)
include h8

theorem State.groupMask_of_good (h0 : fget v 0 4 ≠ 0) (hm : fget v 0 4 &&& s.fld (rIngGrpCfg g) 0 4 = fget v 0 4)
    (hs : (s.grpStr g).all (fun i => s.strLayout i != 2) = true) : s.groupMask g v = s.setFld (rIngGrpMask g) 0 4 (fget v 0 4) := by
  unfold State.groupMask
  extract_lets m mem strip
  have hstrip : strip = false := by
    simp only [strip]
    split
    next i hi =>
      rw [hi, Option.all_some] at hs
      exact beq_eq_false_iff_ne.mpr (bne_iff_ne.mp hs)
    · rfl
  have hm0 : (m == 0) = false := beq_eq_false_iff_ne.mpr h0
  have hmm : ((m &&& mem) != m) = false := bne_eq_false_iff_eq.mpr hm
  rw [if_neg (by rw [h8]; decide), if_neg (by rw [hm0, hmm, hstrip]; exact Bool.false_ne_true)]

theorem State.groupMask_of_bad (h : fget v 0 4 = 0 ∨ fget v 0 4 &&& s.fld (rIngGrpCfg g) 0 4 ≠ fget v 0 4) :
    s.groupMask g v = s.violation (rIngGrpMask g) := by
  refine (if_neg (by rw [h8]; decide)).trans (if_pos ?_)
  obtain h | h := h
  · simp [h]
  · simp [h]

end

/-- Settles O33. -/
theorem frameIngest : Obligations.FrameIngest := by
  refine ⟨fun s n p rest h1 h8 hi hdt ho hc => ?_, fun s n p rest e h1 h8 hi hdt ho hout hc => ?_,
    fun s u n p rest f h1 h8 hi hdt ho hu hc => ?_, fun s n p rest f h1 h8 hi hdt hun ho he => ?_,
    fun s n p rest f h1 h8 hi hdt hun ho he => ?_, fun s n p rest h1 h8 hi hlo hhi hun ho => ?_,
    fun s n p rest f h1 h8 hi hlo hhi hun ho hc => ?_, fun s n p rest f h1 h8 hi hlo hhi hun ho hc hd => ?_,
    fun s n p rest f h1 h8 hi hlo hhi hun ho hc hd hy => ?_, fun s n p rest f h1 h8 hi hlo hhi hun ho hc hd hy he => ?_,
    fun s n p rest f h1 h8 hi hlo hhi hun ho hvc hc hd hy he hep hlay hlen herr hroom => ?_,
    fun s n p rest f h1 h8 hi hdt hun ho hm h4 hroom => ?_, fun s n p rest h1 h8 hi hdt => ?_,
    fun s n p rest f h1 h8 hi hdt hun ho => .of_eq rfl (congrArg State.follow (State.feReceive_of_open h1 h8 hi hun hdt ho)) rfl,
    fun s n h => State.nextPkt_of_empty h, fun s n e l h1 hout => ?_,
    fun s e => ⟨s.frameMissed e, rfl, State.frameMissed_holds e⟩, fun s i f h8 hf => ?_,
    fun s i h => .of_eq rfl (congrArg State.follow (State.tapStart_of_none h)) rfl, fun s i f h => ?_,
    fun s g v hr h8 h0 hm hs => ?_, fun s g v hr h8 h => .of_eq (exec_of_reached_ing hr rfl) (State.groupMask_of_bad h8 h) rfl⟩
  · exact .of_eq rfl (congrArg State.follow (State.fsReceive_of_unknown h1 h8 hi hdt ho hc)) ⟨State.popped_lport .., rfl, rfl⟩
  · exact .of_eq rfl (congrArg State.follow (State.fsReceive_of_exposure h1 h8 hi hdt ho hout hc))
      ⟨State.popped_lport .., _, rfl, rfl, rfl, rfl, rfl, rfl, rfl, rfl⟩
  · exact .of_eq rfl (congrArg State.follow (State.fsReceive_of_open_unknown h1 h8 hi hdt ho hu hc)) rfl
  · exact .of_eq rfl (congrArg State.follow (State.expReceive_of_first h1 h8 hi hun hdt ho he)) ⟨State.popped_lport .., rfl⟩
  · exact .of_eq rfl (congrArg State.follow (State.expReceive_of_later h1 h8 hi hun hdt ho he)) ⟨State.rd_wr_same .., rfl⟩
  · exact .of_eq rfl (congrArg State.follow (State.lineReceive_of_alone h1 h8 hi hlo hhi hun ho))
      ⟨State.rd_wr_same .., rfl, State.popped_lport ..⟩
  · exact .of_eq rfl (congrArg State.follow (State.lineReceive_of_stray h1 h8 hi hlo hhi hun ho hc)) ⟨State.rd_wr_same .., rfl⟩
  · obtain ⟨hs, hp, -, -⟩ := f.noExp_same
    refine .of_eq rfl (congrArg State.follow (State.lineReceive_of_wrong h1 h8 hi hlo hhi hun ho hc hd)) ⟨State.rd_wr_same .., ?_, rfl⟩
    exact (State.putFrame_frames (s := s.popped n rest) f.noExp).trans (by rw [hs, hp]; rfl)
  · obtain ⟨hs, hp, -, -⟩ := f.noExp_same
    refine .of_eq rfl (congrArg State.follow (State.lineReceive_of_outside h1 h8 hi hlo hhi hun ho hc hd hy)) ⟨?_, rfl, rfl⟩
    refine (State.putFrame_twice (s := s.popped n rest) (f := f.noExp)
      (g := f.noExp.mark (if s.strH f.stream ≤ p.line then flag 11 else flag 9)) rfl rfl rfl).trans ?_
    rw [hs, hp]
    rfl
  · exact .of_eq rfl (congrArg State.follow (State.lineReceive_of_inside h1 h8 hi hlo hhi hun ho hc hd hy he _ rfl)) ⟨_, rfl, rfl⟩
  · obtain ⟨u, hu, hframes, hbuf, hport⟩ := State.lineReceive_of_expected h1 h8 hi hlo hhi hun ho hvc hc hd hy he hep hlay hlen herr hroom
    exact .of_eq rfl (congrArg State.follow hu) ⟨hframes, hbuf, hport⟩
  · exact .of_eq rfl (congrArg State.follow (State.metadataReceive_of_room h1 h8 hi hun hdt ho hm h4 hroom)) ⟨rfl, rfl⟩
  · refine .of_eq rfl (congrArg State.follow (State.sensorStatusReceive_of_first h1 h8 hi hdt)) ⟨fun k hk => ?_, ?_⟩
    · refine State.forEach_wr_of_mem (r := rIngPortSstat n) (fun k => BitVec.ofNat 32 (leAt p.payload (4 * k) 4))
        (List.mem_range.mpr hk) fun y _ hy => ?_
      unfold rIngPortSstat at hy
      omega
    · exact State.forEach_keeps (fun u : State => u.ing)
        (f := fun t k => t.wr (rIngPortSstat n k) (BitVec.ofNat 32 (leAt p.payload (4 * k) 4))) (fun _ _ => rfl) (List.range 64) _
  · refine .of_eq rfl (congrArg State.follow ((if_pos h1).trans ?_)) rfl
    rw [State.nofsTimeout, hout]
  · refine .of_eq rfl (congrArg State.follow ((if_pos h8).trans ?_)) rfl
    rw [State.frameTimeout, hf]
  · by_cases hd : (s.decimates i && (s.schStr i).dec % max 1 (s.schStr i).m != 0) = true
    · exact .of_eq rfl (congrArg State.follow (State.tapStart_of_skipped h hd)) ((if_pos hd).mpr rfl)
    · obtain ⟨u, hu, hframes, hbuf, hst⟩ := State.tapStart_of_started h hd
      refine .of_eq rfl (congrArg State.follow hu) ((if_neg hd).mpr ⟨?_, hbuf, hst⟩)
      rw [State.putFrame_frames, hframes]
  · have hne : rIngGrpMask g ≠ rIngGrpStat g := by
      unfold rIngGrpMask rIngGrpStat
      omega
    exact .of_eq (exec_of_reached_ing hr rfl) (State.groupMask_of_good h8 h0 hm hs)
      ⟨(State.fld_setFld_same _ _ _ _ _ (by decide)).trans (Nat.mod_eq_of_lt (fget_lt v 0 4)), State.fld_setFld_ne _ _ _ _ _ hne,
        fun r hr => State.rd_setFld_other _ _ _ hr.symm⟩

end Sys2Proof.Machine
end
